-- ==== Sys2Proof/Word.lean ====
section
/-! DEFINITION. The word and byte types of the LH9600: a BAR0 register is 32 bits (R32), a byte of DRAM, of a packet
or of a descriptor is 8. -/

namespace Sys2Proof

/-- A 32-bit register or core word. -/
abbrev Word := BitVec 32

/-- A byte. -/
abbrev Byte := BitVec 8

end Sys2Proof
end

