-- ==== Sys2Proof/Facts.lean ====
section
/-! DEFINITION. What commands carry: received packets and frames, pictures, programs, Mill operations, and the facts that engines and external parts report. -/

namespace Sys2Proof

/-- Who reads a register: the host or Epanis, each with its own capture of a pair (R36, R51). -/
inductive Reader where
  | host | epanis
  deriving DecidableEq, Repr

/-- Kinds of PTP message (R56). -/
inductive PtpKind where
  | announce | sync | followUp | delayReq | delayResp | pdelayReq | pdelayResp | pdelayRespFollowUp | management | other
  deriving DecidableEq, Repr

/-- A received PTP message with what the plane's best-master logic makes of it (R56 to R58): its domain number, its transport in the encoding of
BELFRY_PTPn_CFG and the logarithm of the interval it states; whether it is from the selected master, the states the logic gives the plane's two
PTP ports, the mean path delay in ns, and the UTC fields an Announce carries. -/
structure PtpMsg where
  plane : Nat
  lanB : Bool
  kind : PtpKind
  domain : Nat
  transport : Nat
  interval : Int
  fromMaster : Bool
  lanA' : Nat
  lanB' : Nat
  delay : Nat
  utcOffset : Nat
  utcValid : Bool
  leap61 : Bool
  leap59 : Bool
  deriving DecidableEq, Repr

/-- What the servo takes a sample from (R53): a Sync received on one LAN of a plane, with the time its master sent it at and the path delay, both in
2⁻⁴ ns; a PPS_IN edge; or a Binath time message with the offset its exchange measured, in 2⁻⁴ ns (R327). -/
inductive ServoMeas where
  | ptp (plane : Nat) (lanB : Bool) (origin delay : Int)
  | pps
  | binath (offset : Int)
  deriving DecidableEq, Repr

/-- What a producer places in a Granary queue (R157): a packet or other record of a length in bytes, or an event-queue
entry's class, code, object and argument. -/
inductive GranaryItem where
  | record (len : Nat)
  | entry (cls code obj arg : Nat)
  deriving DecidableEq, Repr

/-- An RTCP item the parser acts on (R96): the headers of an SR, with its sender and the middle 32 bits of its NTP timestamp, and of an RR; a
report block with the SSRC it is about, fraction lost, cumulative loss, jitter, LSR and DLSR; a TMMBR with its sender, rate in b/s and
measured overhead; RFC 8888 feedback as the packets it reports on, (SSRC, sequence number,
arrival offset at the remote party in ns, none for a packet not received) (R122, R123). -/
inductive RtcpItem where
  | sr (ssrc lsr : Nat)
  | rr
  | block (ssrc fraction lost jitter lsr dlsr : Nat)
  | bye (ssrc : Nat)
  | nack (ssrc : Nat) (seqs : List Nat)
  | pli (ssrc : Nat)
  | fir (ssrc : Nat)
  | tmmbr (ssrc bitrate overhead : Nat)
  | ccfb (reports : List (Nat × Nat × Option Int))
  deriving DecidableEq, Repr

/-- What the packets of a picture show of it (R136, R247 to R251): a key picture (IDR, IRAP, AV1 key frame), an AV1 switch
frame, the first or last picture of a refresh sweep, the pictures its decode refers to, as (RTP timestamp, spatial layer) pairs
of which a decode at layer n needs those of layers 0 to n, an invalid header or parameter set, an error inside a slice or tile, a feature outside R242, its size and depth, the MATRIX and RANGE of R256 it signals (0:
absent), whether later pictures may refer to it, and the size of its highest spatial layer present where that is below the target layer (R248). -/
structure PicFacts where
  key : Bool
  switchFrame : Bool
  sweepFirst : Bool
  sweepLast : Bool
  refs : List (Nat × Nat)
  invalid : Bool
  damaged : Bool
  unsupported : Bool
  width : Nat
  height : Nat
  depth10 : Bool
  matrix : Nat
  range : Nat
  reference : Bool
  lowW : Nat := 0
  lowH : Nat := 0
  deriving DecidableEq, Repr

/-- A frame-marking extension a packet carries (R94, R129): its spatial and temporal layer, and the element's data. -/
structure FrameMark where
  lid : Nat
  tid : Nat
  bytes : List Byte
  deriving DecidableEq, Repr

/-- An AV1 dependency descriptor a packet carries (R94, R129, R136): its spatial and temporal layer; the decode targets its template
structure defines as (spatial layer, highest temporal layer, whether it gives the indication "switch"); and the element's data. -/
structure Descriptor where
  s : Nat
  t : Nat
  targets : List (Nat × Nat × Bool)
  bytes : List Byte
  deriving DecidableEq, Repr

/-- An RTP or RTCP packet as the packet engine sees it: header fields, its length from the RTP or RTCP header without the
tag, the payload's length, its IP length (R84), the SRTCP index, whether its tag verifies under the leg's RX_CTX and under
RX_OLD (R100), the two header extensions of R94, the layer identifier and TemporalId of an H.265 NAL unit header (R129), the
original sequence number of an RTX packet, what its headers show of its picture, the RTCP items, H64 of R347, the packet's bytes after decryption, and
whether the leg's PATH 0 copy verifies in the same cycle as this PATH 1 copy (R79). -/
structure RxPkt where
  rtcp : Bool
  version2 : Bool
  ssrc : Nat
  pt : Nat
  seq : Nat
  ts : Nat
  marker : Bool
  len : Nat
  payLen : Nat
  ipLen : Nat
  rtcpIndex : Nat
  okNew : Bool
  okOld : Bool
  fm : Option FrameMark
  dd : Option Descriptor
  nal : Nat × Nat
  osn : Nat
  facts : PicFacts
  items : List RtcpItem
  h64 : Nat
  clear : List Byte
  together : Bool
  deriving DecidableEq, Repr

/-- What a received frame carries (R70, R81, R82); addresses in the form of LEG.ADDR0 (R87). -/
inductive RxBody where
  | ptp (event : Bool) | supervision | arp | icmp4 | icmp6 | dhcp | fragment | otherEther | otherIp
  | udp (dstAddr srcAddr srcPort dstPort : Nat) (p : RxPkt)
  deriving DecidableEq, Repr

/-- A received Ethernet frame (R70, R76): the port, FCS and FEC outcome, FEC codewords corrected, length from the
destination address to the FCS, addresses, the VLAN ID if tagged, the redundancy control trailer as (sequence number, LAN B), its bytes without the
FCS, what it carries, and whether the LAN A copy completes in the same NET cycle as this LAN B copy (R77). -/
structure RxFrame where
  port : Nat
  fcsBad : Bool
  fecBad : Bool
  fecCorrected : Nat
  len : Nat
  src : Nat
  dst : Nat
  vlan : Option Nat
  rct : Option (Nat × Bool)
  bytes : List Byte
  body : RxBody
  together : Bool
  deriving DecidableEq, Repr

/-- A terminal of the audio graph (R174): the kind in the encoding of AUDIO_PATH_SRC and the index. -/
structure Terminal where
  kind : Nat
  index : Nat
  deriving DecidableEq, Repr

/-- An effect profile (R206) as its fields stand; each EQ stage as (B0, B1, B2, A1, A2). -/
structure Profile where
  inGain : Int
  gateEn : Bool
  limEn : Bool
  eq : List (Int × Int × Int × Int × Int)
  gateHold : Nat
  gateOpen : Nat
  gateClose : Nat
  gateFloor : Nat
  limThresh : Nat
  limRel : Nat
  deriving DecidableEq, Repr

/-- A tone record (R211). -/
structure Tone where
  f1 : Nat
  f2 : Nat
  l1 : Nat
  l2 : Nat
  seg : List Nat
  repeats : Nat
  restart : Nat
  deriving DecidableEq, Repr

/-- The node types of R176. -/
inductive NodeKind where
  | source (t : Terminal)
  | sink (t : Terminal)
  | gain (g : Int)
  | mix (gs : List Int)
  | mixMinus
  | eq (p : Profile)
  | gate (p : Profile)
  | limiter (p : Profile)
  | delay (l : Nat)
  | bridge
  | meter (w h decay : Nat)
  | custom (cluster slot budget outs : Nat) (params : List Byte)
  deriving DecidableEq, Repr

/-- A node of a host program: its number, its domain (0 D48, 1 D16, 2 D8), its kind, and for each input the edges it takes as node and output
port; one edge each in a program that LOAD accepts (R177). -/
structure GNode where
  num : Nat
  dom : Nat
  kind : NodeKind
  ins : List (List (Nat × Nat))
  deriving DecidableEq, Repr

/-- A segment (R178): its cluster, its stage, the bytes it takes of the shadow bank, and its nodes in the order they run. A CUSTOM node is a segment of its own. -/
structure Segment where
  cluster : Nat
  stage : Nat
  bytes : Nat
  nodes : List Nat
  deriving DecidableEq, Repr

/-- What the segment area of a program image holds (R178, R205, R211): nodes, the 192-byte profile records and the 32-byte tone records by number, little-endian, the
segments, and the core of its cluster each CUSTOM node is placed on (R216). -/
structure ProgBody where
  nodes : List GNode := []
  profiles : List (Nat × Nat) := []
  tones : List (Nat × Nat) := []
  segs : List Segment := []
  cores : List (Nat × Nat) := []
  deriving DecidableEq, Repr, Inhabited

/-- An entry of a Ledger block (R345): what it holds of its input. An ADMIT names the packet by leg, SSRC, sequence number
and H64 and gives the senior's stamp in ns, tick, port, LAN and path, with the metadata of R116; an IMAGE comes with the bytes copied to the junior over LINK3. -/
inductive LedgerEntry where
  | admitted (leg ssrc seq h64 stamp tick port : Nat) (lanB path1 : Bool) (packetMeta : List (BitVec 8))
  | gate (op table index data boundary : Nat) (last : Bool)
  | write (addr value tick : Nat)
  | image (kernel : Bool) (place addr len id : Nat) (bytes : List (BitVec 8))
  | cascade (link tick len h64 : Nat)
  | tdm (port : Nat) (block : List (List Word))
  | resync (legs : List Nat) (f : Nat)
  | key (index op data : Nat)
  | tick (swap : Bool) (senior junior tick : Nat) (digests : List (Nat × Nat))
  deriving DecidableEq, Repr

/-- What a DRAM read was for, where poisoned data changes more than the reader's own work (R371): a frame of leg l's jitter buffer, a received packet of a VSTR waiting
for its picture, a packet at the release stage, the entry a recall player reads next, and the message at the head of a link's virtual channel. -/
inductive DramUse where
  | other
  | frame (leg seq : Nat)
  | received (vstr seq : Nat)
  | waiting (id : Nat)
  | player (n : Nat)
  | message (link vc : Nat)
  deriving DecidableEq, Repr

/-- What a written command finds where the spec leaves the finding to Epanis: the targets a live repair moves work to. -/
structure WriteFacts where
  targets : List Nat
  deriving DecidableEq, Repr

/-- What an IDENT flit carries (R315, R342): FABRIC_ID, POS, ROLE, the master flag and the straps; and the firmware image version and
DRAM capacity a twin compares. -/
structure Ident where
  fabric : Nat
  pos : Nat
  role : Nat
  master : Bool
  senior : Bool
  firmware : Nat
  dram : Nat
  deriving DecidableEq, Repr

/-- What a TOPO flit carries (R323, R324, R326): ROOTED, DEPTH, HEIGHT, PATH; CLAIM and REVERT with their switch tick, ACCEPT and
REFUSE. -/
structure Topo where
  rooted : Bool := false
  depth : Nat := 0
  height : Nat := 0
  path : List Nat := []
  claim : Option Nat := none
  revert : Option Nat := none
  accept : Bool := false
  refuse : Bool := false
  deriving DecidableEq, Repr

/-- An entry of a cascade section (R334). -/
structure CEntry where
  fleg : Nat
  active : Bool := false
  gholder : Bool := false
  edge : Nat := 0
  seat : Nat := 0
  ms : Nat := 0
  peak : Nat := 0
  block : List Int := []
  deriving DecidableEq, Repr

/-- A conference section of a cascade frame (R334). -/
structure CSection where
  conf : Nat
  k : Nat
  entries : List CEntry
  deriving DecidableEq, Repr

/-- A cascade frame (R334). -/
structure CFrame where
  tick : Nat
  down : Bool
  pos : Nat
  sections : List CSection
  deriving DecidableEq, Repr

/-- The content of a heartbeat on LINK3 or a LAN (R355). -/
structure Heartbeat where
  state : Nat
  strap : Bool
  ports : Nat
  exec : Nat
  lag : Nat
  deriving DecidableEq, Repr

/-- A video packet on a link (R335): its SSRC, sequence number, timestamp, length and marker, the plane of its source, the tick and the
short time of its release, and at the receiver what its headers show. -/
structure LinkPkt where
  ssrc : Nat
  seq : Nat
  ts : Nat
  len : Nat
  marker : Bool
  plane : Option Nat
  release : Nat
  stamp : Nat
  shown : Option RxPkt
  deriving DecidableEq, Repr

/-- A decoded picture on a link (R336): its stream's SSRC, the fields of its record (R256), the tick D it is due at the sender, and the
size of its buffer. -/
structure LinkPic where
  ssrc : Nat
  ts : Nat
  picnum : Nat
  due : Nat
  width : Nat
  height : Nat
  depth10 : Bool
  matrix : Nat
  range : Nat
  s : Nat
  t : Nat
  concealed : Bool
  upscaled : Bool
  subst : Bool
  bytes : Nat
  deriving DecidableEq, Repr

/-- What a message of a link carries (R316). A cascade frame: its relay stage under R362 (0 none, 1 to the partner, 2 across, 3 from
the partner) and link; a Ledger block's entries for a tick; a packet and a cascade frame fetched under R347; twin control: a
heartbeat, the legs a junior found diverged at a tick, and the legs it sends again; bulk copy by length; a Crier record. -/
inductive LinkMsg where
  | ident (i : Ident)
  | timeReq
  | timeResp (t2 t3 : Int)
  | topo (t : Topo)
  | cascade (relay link : Nat) (f : CFrame)
  | ledger (tick : Nat) (entries : List LedgerEntry)
  | heartbeat (h : Heartbeat)
  | diverged (tick : Nat) (legs : List Nat)
  | resynced (legs : List Nat)
  | video (p : LinkPkt)
  | picture (p : LinkPic)
  | bulk (len : Nat)
  | crier (rec_ : Nat)
  deriving DecidableEq, Repr

/-- A flit as the link receives it (R313, R316): blocks corrected, whether a block was beyond correction, its 256 bytes, and what its
message carries, read at its last flit (the spec lays out the payload of a cascade frame, R334, and no other). -/
structure FlitRx where
  corrected : Nat
  blockBad : Bool
  bytes : List Byte
  msg : Option LinkMsg
  deriving DecidableEq, Repr

/-- Operations of a MAC slot (R223); `reserved` stands for every opcode not listed. -/
inductive MacKind where
  | nop | add | sub | adds | subs | and | or | xor | shl | shr | sra | shli | shri | srai | min | max | abss
  | negs | cmplt | cmpeq | addi | movi | movh | mpy | mac | msu | mpysu | macsu | mpy2 | mac2 | msu2 | aclr
  | aadd | ashr | ashl | amov | sat | ardl | ardh | ardg | awrl | awrh | awrg | reserved
  deriving DecidableEq, Repr

/-- A MAC slot (R223): the operation and its fields as they stand in the bundle: DD, DX, DY, AA, and the immediate of the
operation (IMM, or the 20 bits of MOVI or the 16 of MOVH). -/
structure MacOp where
  op : MacKind := .nop
  dd : Nat := 0
  dx : Nat := 0
  dy : Nat := 0
  aa : Nat := 0
  imm : Nat := 0
  deriving DecidableEq, Repr

/-- Operations of an address unit (R226). -/
inductive AuKind where
  | nop | ld | st | sts | ldh | sth | ldp | reserved
  deriving DecidableEq, Repr

/-- An address unit (R226): REG, PN, MODE and the four bits of OFF or MS. -/
structure AuOp where
  op : AuKind := .nop
  reg : Nat := 0
  pn : Nat := 0
  mode : Nat := 0
  off : Nat := 0
  deriving DecidableEq, Repr

/-- Operations of the control slot (R229). -/
inductive CtlKind where
  | nop | br | call | ret | reti | bz | bnz | bltz | bgez | loop0 | loop1 | loopi0 | loopi1 | movs | movd
  | ei | di | halt | reserved
  deriving DecidableEq, Repr

/-- The control slot (R229): a D register, a displacement or special number or immediate count, and a loop length. -/
structure CtlOp where
  op : CtlKind := .nop
  d : Nat := 0
  imm : Nat := 0
  len : Nat := 0
  deriving DecidableEq, Repr

/-- A bundle (R220). -/
structure Bundle where
  mac0 : MacOp := {}
  mac1 : MacOp := {}
  au0 : AuOp := {}
  au1 : AuOp := {}
  ctl : CtlOp := {}
  deriving DecidableEq, Repr

/-- Where a Mill operation issues: the core, the second MAC slot or address unit rather than the first, and the bundle's other
slots. -/
structure Site where
  core : Nat
  second : Bool
  rest : Bundle
  deriving DecidableEq, Repr

/-- What an engine reports of a task that no rule computes: poisoned reads as (kind, object) — of a decode (0, timestamp of the
reference), (1, 0) bitstream, (2, 0) context (R252); of a composition (0, layer) with graphic layers from 16 (R275); of an encode (0, 0)
reference, (1, 0) composition, (2, 0) context (R293) — and, of an encoded picture, for each spatial layer the rows as (bits produced,
RTP payload lengths of the row's packets) (R281, R287). -/
structure TaskFacts where
  poison : List (Nat × Nat) := []
  rows : List (List (Nat × List Nat)) := []
  deriving DecidableEq, Repr

/-- What an uncorrectable error of an on-chip SRAM was met in (R451): an engine's memory, cluster SRAM, the cell of an item of a Granary queue by its place, a
queue's pointers, the free list, or a slot, lease or gate table or Epanis memory. -/
inductive SramUe where
  | engine (e : Nat)
  | cluster (c : Nat)
  | cell (q place : Nat)
  | pointers (q : Nat)
  | freeList
  | table
  deriving DecidableEq, Repr

/-- The straps at the balls as RESET_N rises (R470). -/
structure Straps where
  bootSel : Nat
  twinEn : Bool
  twinSenior : Bool
  fabricMaster : Bool
  deriving DecidableEq, Repr

/-- What a boot step finds (R473): whether its own work succeeds (PLL lock; the start-up tests; the second hash), channels that fail training with the step of
DDRCn_TRAIN, domains that do not wake (R443), and engines whose known-answer set fails, with the chunk (R507). -/
structure BootFacts where
  ok : Bool
  training : List (Nat × Nat) := []
  asleep : List Nat := []
  kat : List (Nat × Nat) := []
  deriving DecidableEq, Repr

/-- What a packet on its way out carries (R144, R148). -/
inductive PktKind where
  | audio | rtcp | video | rtx
  deriving DecidableEq, Repr

end Sys2Proof
end

