-- ==== Sys2Proof/Machine/Sparse.lean ====
section
/-! DEFINITION. Sparse tables: memory, the register file and every large table of the part is a list of (index, value)
pairs in ONE canonical form: indexes strictly rising, and no entry equal to what an unlisted index reads as. Equal
tables are then equal data. `d` is what an unlisted index reads as. -/

namespace Sys2Proof.Machine

/-- A table as (index, value) pairs. -/
abbrev Sparse (α : Type) := List (Nat × α)

/-- The value at index k. -/
def Sparse.get {α : Type} (d : Nat → α) : Sparse α → Nat → α
  | [], k => d k
  | (i, v) :: t, k => if k = i then v else Sparse.get d t k

/-- Remove index k. -/
def Sparse.erase {α : Type} : Sparse α → Nat → Sparse α
  | [], _ => []
  | (i, v) :: t, k => if k = i then Sparse.erase t k else (i, v) :: Sparse.erase t k

/-- Put v at index k, whatever v is. -/
def Sparse.insert {α : Type} : Sparse α → Nat → α → Sparse α
  | [], k, v => [(k, v)]
  | (i, u) :: t, k, v =>
    if k = i then (i, v) :: t else if k < i then (k, v) :: (i, u) :: t else (i, u) :: Sparse.insert t k v

/-- Write v at index k; writing what an unlisted index reads as removes the entry. -/
def Sparse.set {α : Type} [DecidableEq α] (d : Nat → α) (m : Sparse α) (k : Nat) (v : α) : Sparse α :=
  if v = d k then m.erase k else m.insert k v

/-- Every index of the table is above b, rising, and no entry reads as an unlisted one. -/
def Sparse.wfFrom {α : Type} [DecidableEq α] (d : Nat → α) : Nat → Sparse α → Bool
  | _, [] => true
  | b, (i, v) :: t => decide (b ≤ i) && !decide (v = d i) && Sparse.wfFrom d (i + 1) t

/-- The canonical form. -/
def Sparse.wf {α : Type} [DecidableEq α] (d : Nat → α) (m : Sparse α) : Bool := m.wfFrom d 0

/-- The listed indexes. -/
def Sparse.keys {α : Type} (m : Sparse α) : List Nat := m.map (·.1)

/-- Apply f at index k. -/
def Sparse.modify {α : Type} [DecidableEq α] (d : Nat → α) (m : Sparse α) (k : Nat) (f : α → α) : Sparse α :=
  m.set d k (f (m.get d k))

/-- Apply f to every listed entry, keeping the canonical form. -/
def Sparse.mapAll {α : Type} [DecidableEq α] (d : Nat → α) (f : Nat → α → α) : Sparse α → Sparse α
  | [] => []
  | (i, v) :: t =>
    let w := f i v
    if w = d i then Sparse.mapAll d f t else (i, w) :: Sparse.mapAll d f t

end Sys2Proof.Machine
end

