-- ==== Sys2Proof/Machine/TypesCore.lean ====
section
/-! DEFINITION. Plain-data types of the clock, of Belfry's servo, trigger generators and capture units
(spec/03_belfry_timebase.md), of Granary and the event queues (spec/08_granary_queues.md), of the MSI-X table
(spec/20_host_and_dma.md) and of the island crossings (spec/21_islands_and_crossings.md). -/

namespace Sys2Proof.Machine

/-- The Belfry clock (R49, R50): seconds, nanoseconds and a fraction in units of 2⁻³⁸ ns (16 visible and 22 hidden
bits) at its latest base cycle, the base cycles elapsed since reset, which a step does not move (R55), and how far the present instant
lies past that cycle, in units of 2⁻³⁸ ns (log entry 5). `ticked` is the model's own: the tick whose boundary fell last. -/
structure Clock where
  sec : Nat := 0
  ns : Nat := 0
  frac : Nat := 0
  cycles : Nat := 0
  past : Nat := 0
  ticked : Nat := 0
  deriving DecidableEq, Repr

/-- A trigger generator beyond its registers (R63, R64): the number of the next edge, whether a pulse is in progress, the
base cycle at which the pulse ends, and the level of its pin. -/
structure Trg where
  nextK : Nat := 0
  high : Bool := false
  endCycle : Nat := 0
  level : Bool := false
  deriving DecidableEq, Repr

/-- One capture (R65): falling edge or rising, and the clock. -/
structure CapEntry where
  falling : Bool
  sec : Nat
  ns : Nat
  frac : Nat
  deriving DecidableEq, Repr

/-- A capture unit beyond its registers (R65): the FIFO, oldest first, and whether captures were discarded. -/
structure CapUnit where
  fifo : List CapEntry := []
  ovf : Bool := false
  deriving DecidableEq, Repr

/-- A PTP message a plane's clock sends on a port (R56, R59, R60): its kind, clock identity, domain and transport; what an Announce says of the clock; whether the
two TLVs of C37.238 go with it; the time stamp written into it in 2⁻⁴ ns, and whether a UDP checksum was corrected for that stamp. -/
structure PtpOut where
  kind : PtpKind
  identity : Nat
  domain : Nat
  transport : Nat
  prio1 : Nat
  prio2 : Nat
  clockClass : Nat
  clockAccuracy : Nat
  variance : Nat
  tlvs : Bool
  stamp : Option Nat := none
  udpFixed : Bool := false
  deriving DecidableEq, Repr

/-- Belfry beyond its registers: OSC_REF good again and waiting for the tick boundary (R52); which sources are present
(R53); the runs of in-tolerance and out-of-tolerance samples; the servo output of the present lock with the cycle of
each sample; the stamp of the last
PTP event message each port sent and received (R60, in 2⁻⁴ ns); the latest PTP message each port sent; the generators and the capture
units. -/
structure Belfry where
  oscReturning : Bool := false
  ptp0 : Bool := false
  ptp1 : Bool := false
  pps : Bool := false
  binath : Bool := false
  inTol : Nat := 0
  outTol : Nat := 0
  lockLog : List (Nat × Int) := []
  ptpTxStamp : Sparse Nat := []
  ptpRxStamp : Sparse Nat := []
  ptpSent : Sparse (Option PtpOut) := []
  trg : Sparse Trg := []
  cap : Sparse CapUnit := []
  deriving DecidableEq, Repr

/-- The entry of an event queue (R117): TIME, CLASS, CODE, OBJECT and ARG. -/
structure EvEntry where
  time : Nat
  cls : Nat
  code : Nat
  obj : Nat
  arg : Nat
  deriving DecidableEq, Repr

/-- An event queue (R157, R162, R167, R168): entries oldest first, how many entries of the first cell are gone, whether
entries were lost since the last pop, whether its two copies of the pointers disagree, which the next access finds, and cells of a reset not
yet swept. -/
structure EvQueue where
  entries : List EvEntry := []
  headGone : Nat := 0
  lostFlag : Bool := false
  bad : Bool := false
  sweeping : Nat := 0
  deriving DecidableEq, Repr

/-- An item of a linked-list queue (R157, R161): its length in bytes, the packet or record number the producer gave it,
and whether its consumer has begun to read it. -/
structure GItem where
  len : Nat
  tag : Nat
  claimed : Bool := false
  deriving DecidableEq, Repr

/-- A linked-list queue other than an event queue (R159 to R162): whether it is configured, its limits, its items
oldest first, its LOST count, cells of a reset not yet swept, and whether its two copies of the pointers disagree. -/
structure GQueue where
  configured : Bool := false
  minCells : Nat := 0
  maxCells : Nat := 0
  items : List GItem := []
  lost : Nat := 0
  sweeping : Nat := 0
  bad : Bool := false
  deriving DecidableEq, Repr

/-- A record of a bank queue (R165): the producer's tick and the record's length in bytes. -/
structure BankRec where
  tick : Nat
  len : Nat
  deriving DecidableEq, Repr

/-- A bank queue (R165): the filling bank, the draining bank's unread records. -/
structure BankQ where
  filling : List BankRec := []
  draining : List BankRec := []
  deriving DecidableEq, Repr

/-- MSI-X (R405, R408): enable, function mask, unmasked vectors, pending vectors, and messages sent per vector. -/
structure Msix where
  enable : Bool := false
  funcMask : Bool := false
  unmasked : Sparse Bool := []
  pendingBit : Sparse Bool := []
  sent : Sparse Nat := []
  deriving DecidableEq, Repr

/-- The register-fabric crossing and the pulse crossing of an island (R422, R423, R430): a request outstanding with its
count, pulses counted meanwhile, pulses delivered, and whether the island is held in reset. -/
structure Crossing where
  outstanding : Nat := 0
  counter : Nat := 0
  delivered : Nat := 0
  held : Bool := false
  deriving DecidableEq, Repr

/-- A hardware log (R372, R463): entries as little-endian numbers, oldest first, whether entries were overwritten since the
last pop, and the number of the next entry. -/
structure HwLog where
  entries : List Nat := []
  lostFlag : Bool := false
  seq : Nat := 0
  deriving DecidableEq, Repr

/-- Device DRAM and host memory as cells in canonical form (Host.Cell), unlisted addresses reading 0 (log entry 6). -/
abbrev Memory := Sparse Byte

/-- A context of the SRTP key store (spec/19, R384 to R389): 0 EMPTY, 1 COLD, 2 HOT, and what it was loaded with. -/
structure KeyCtx where
  state : Nat := 0
  dir : Nat := 0
  profile : Nat := 0
  keys : BitVec 1024 := 0
  deriving DecidableEq, Repr

/-- The error codes of R38. -/
inductive Err where
  | range | align | state | locked | reserved | busy | noslot | conflict | nokey | exhausted | fenced | twin | priv
  | tagfail | poison
  deriving DecidableEq, Repr

/-- The code's number in R38. -/
def Err.code : Err → Nat
  | .range => 1 | .align => 2 | .state => 3 | .locked => 4 | .reserved => 5 | .busy => 6 | .noslot => 7
  | .conflict => 8 | .nokey => 9 | .exhausted => 10 | .fenced => 11 | .twin => 12 | .priv => 13 | .tagfail => 14
  | .poison => 15

end Sys2Proof.Machine
end

