-- ==== Sys2Proof/Machine/TypesNet.lean ====
section
/-! DEFINITION. Plain-data types of the table gate (spec/02), the planes (spec/04), legs, conferences, taps and TDM
ports (spec/05), adaptation (spec/06) and egress (spec/07). -/

namespace Sys2Proof.Machine

/-- The record operations of R46 that change a table. -/
inductive GateOp where
  | create | modify | delete
  deriving DecidableEq, Repr

/-- An accepted record not yet in effect (R43, R45): what it does, the record's number, and the boundary at which it
takes effect: a tick for the tick class, a frame tick of the layout for the frame class. -/
structure GateRec where
  op : GateOp
  table : Nat
  index : Nat
  data : Nat
  boundary : Nat
  deriving DecidableEq, Repr

/-- The command the gate is validating (R43, R45): GATE_CMD and the copy of the staging window. -/
structure GateCmd where
  op : Nat
  table : Nat
  index : Nat
  data : Nat
  deriving DecidableEq, Repr

/-- The gate: the command in progress, accepted records in issue order, the open transaction, and the effective tables
of R42 as records by table × 65,536 + index. -/
structure Gate where
  cmd : Option GateCmd := none
  pending : List GateRec := []
  txnOpen : Bool := false
  txn : List GateRec := []
  effective : Sparse Nat := []
  deriving DecidableEq, Repr

/-- Leg states of R89. -/
inductive LegState where
  | none | pending | active | txStopped | halted
  deriving DecidableEq, Repr

/-- A replay window of 128 indices (R100). -/
structure ReplayWin where
  started : Bool := false
  top : Nat := 0
  seen : List Nat := []
  deriving DecidableEq, Repr

/-- The replay windows of SRTP and of SRTCP for one SSRC under a receive context (R100; log entry 13). -/
structure RxCtx where
  srtp : ReplayWin := {}
  srtcp : ReplayWin := {}
  deriving DecidableEq, Repr

/-- What a leg keeps for an SSRC it sends (R99, R102, R5): next RTP sequence number and rollover counter, next SRTCP
index, whether the two warnings were posted in the present context, the first index of each kind that may not be used
(R102, R358), in a twin the releases of late as (logical tick, next SRTP index, next SRTCP index) before and after (R358), and what
a sender report tells of the stream (R94): packets and payload octets sent, and the timestamp and release instant of the latest. -/
structure TxSsrc where
  seq : Nat := 0
  roc : Nat := 0
  rtcpIndex : Nat := 0
  warned : Bool := false
  warnedRtcp : Bool := false
  limit : Nat := 281474976710656
  limitRtcp : Nat := 2147483648
  log : List (Nat × Nat × Nat) := []
  pkts : Nat := 0
  octets : Nat := 0
  last : Option (Nat × Nat) := none
  deriving DecidableEq, Repr

/-- What a receiver report tells of an SSRC (R94, R97): the first and the highest extended sequence number, packets received, the numbers
expected and received at the previous report, the interarrival jitter of RFC 3550 in 1/16 of a timestamp unit with the transit time of the
latest packet, the packets received since the last RFC 8888 feedback as (sequence number, receive stamp in ns), the next number that
feedback covers, and the last SR as (LSR, arrival stamp in ns) (R96). -/
structure RxStat where
  base : Nat := 0
  high : Nat := 0
  count : Nat := 0
  expectedPrior : Nat := 0
  receivedPrior : Nat := 0
  jitter : Nat := 0
  transit : Option Int := none
  heard : List (Nat × Nat) := []
  nextFb : Option Nat := none
  sr : Option (Nat × Nat) := none
  deriving DecidableEq, Repr

/-- A frame waiting in a jitter buffer (R104): its sequence number, extended timestamp, playout tick, admission tick and
duration in ms; whether it is an Opus DTX frame (R105), damaged (R201), carries LBRR (R202); and its payload. -/
structure JFrame where
  seq : Nat
  ts : Nat
  playout : Nat
  admitted : Nat
  dur : Nat
  dtx : Bool
  damaged : Bool
  lbrr : Bool
  pay : List Byte
  deriving DecidableEq, Repr

/-- A jitter buffer (R103 to R106): the base (P₀, ts₀, SSRC), how far playout has moved since it in ms, depth and target in
ms, J95 and the delay variations d in thirds of a ns with their admission times in ns, the run of qualifying
recomputations, the moves due, the newest extended timestamp, the sequence numbers LOST counts by (RFC 3550), the frames,
the tick at which the next frame is due, the last decoded sequence number and that frame's duration, whether the last frame was below −45 dBFS, and
the ticks of consecutive substitution. -/
structure Jb where
  based : Bool := false
  p0 : Nat := 0
  ts0 : Nat := 0
  ssrc : Nat := 0
  shift : Int := 0
  depth : Nat := 0
  target : Nat := 0
  j95 : Nat := 0
  window : List (Nat × Int) := []
  shrinkRun : Nat := 0
  growDue : Bool := false
  dropDue : Bool := false
  lastTs : Nat := 0
  rxBase : Nat := 0
  rxHigh : Nat := 0
  rxCount : Nat := 0
  frames : List JFrame := []
  nextAt : Nat := 0
  lastSeq : Nat := 0
  lastDur : Nat := 0
  decoded : Bool := false
  prevQuiet : Bool := false
  substituted : Nat := 0
  deriving DecidableEq, Repr

/-- A packet a leg sent, as RFC 8888 feedback knows it (R122, R123): its release instant in ns, the tick of it, and its status: 0 not
reported, 1 reported lost, 2 reported received, 3 counted in an evaluation. -/
structure SentPkt where
  at_ : Nat
  tick : Nat
  status : Nat
  deriving DecidableEq, Repr

/-- A congestion controller (R121 to R125): the target rate and the law's state, the sent packets by SSRC × 65,536 + sequence number, the
last 20 packet groups with reports as (tick, transmit stamp, group delay) in ns, the cumulative loss and jitter of the latest report block
(R96), and the terms of the last update. -/
structure Cc where
  rate : Nat := 0
  rRef : Nat := 0
  lastDec : Option Nat := none
  lastCut : Option Nat := none
  lastFb : Nat := 0
  fbLost : Bool := false
  lastCcfb : Option Nat := none
  rtt : Option Nat := none
  rttLog : List (Nat × Nat) := []
  tmmbr : Option Nat := none
  sent : Sparse (Option SentPkt) := []
  rrFraction : Option Nat := none
  rrLost : Nat := 0
  rrJitter : Nat := 0
  groups : List (Nat × Nat × Int) := []
  sentLog : List (Nat × Nat) := []
  audioLog : List (Nat × Nat) := []
  lastUpdate : Option Nat := none
  mode : Nat := 0
  held : Bool := false
  delayTerm : Bool := false
  lossPm : Nat := 0
  grad : Int := 0
  deriving DecidableEq, Repr

/-- A leg's shaper as it runs (R147, R149): present, running rate kb/s, burst bytes, tokens in 10⁻⁶ bit, and the ns at
which the tokens were last brought up to date. -/
structure Shaper where
  present : Bool := false
  rate : Nat := 0
  burst : Nat := 0
  tokens : Nat := 0
  at_ : Nat := 0
  quantum : Nat := 24
  deriving DecidableEq, Repr

/-- A leg's policer as it runs (R83, R84): tokens in 10⁻⁹ byte and the receive stamp of the last refill. -/
structure Policer where
  tokens : Nat := 0
  at_ : Nat := 0
  deriving DecidableEq, Repr

/-- A leg beyond its record: state and stop code (R89), classifier entries installed, its effect tick, whether the first
packet under a new RX_CTX is still to come (R101), transmit streams, jitter buffer, controller, shaper, policer, RTCP schedule
(R97), what is reported of each SSRC received, the ticks of the last two reports,
silenced by a twin (R353), and the counters of R119 and the PKTIN page. -/
structure Leg where
  state : LegState := .none
  stopCode : Nat := 0
  installed : Bool := false
  effectTick : Nat := 0
  ctxSwitchDue : Bool := false
  tx : Sparse TxSsrc := []
  jb : Jb := {}
  cc : Cc := {}
  shaper : Shaper := {}
  policer : Policer := {}
  idle : Bool := false
  lastRxAt : Option Nat := none
  nextReport : Nat := 0
  lfsr : Nat := 1
  rx : Sparse RxStat := []
  reports : List Nat := []
  silenced : Bool := false
  rxPkts : Nat := 0
  lost : Nat := 0
  late : Nat := 0
  dup : Nat := 0
  police : Nat := 0
  authFail : Nat := 0
  replay : Nat := 0
  txPkts : Nat := 0
  txStopDrop : Nat := 0
  nackIgnored : Nat := 0
  rtxTx : Nat := 0
  concealed : Nat := 0
  resync : Nat := 0
  jbDrop : Nat := 0
  deriving DecidableEq, Repr

/-- An entry of a recall buffer (R111): its receive time in ns, leg, place and bytes, and whether it existed at the freeze (R112). -/
structure RecallEntry where
  time : Nat
  leg : Nat
  offset : Nat
  size : Nat
  frozen : Bool
  deriving DecidableEq, Repr

/-- A conference beyond its record (R92, R111, R112): whether the record is effective, the entries of its recall buffer and where the next one goes, the freeze tick, whether
RECALL_FULL was posted, and RECALL_OVERWRITE. -/
structure Conf where
  effective : Bool := false
  entries : List RecallEntry := []
  next : Nat := 64
  freezeTick : Option Nat := none
  fullPosted : Bool := false
  overwritten : Nat := 0
  deriving DecidableEq, Repr

/-- A record a tap will write after the tick (R110): its length and its body in clear. -/
structure TapRec where
  len : Nat
  body : List Byte
  deriving DecidableEq, Repr

/-- A recording tap (R109, R110): write offset, the cached read offset, records counted, stop code, records that
wait to be written at the end of the tick, and the history its bridge reads (R175). -/
structure Tap where
  offset : Nat := 0
  cachedHead : Nat := 0
  count : Nat := 0
  stopped : Option Nat := none
  waiting : List TapRec := []
  hist : List Int := []
  deriving DecidableEq, Repr

/-- A TDM port (R114, R115): the received samples of the frames whose sync fell in the present tick, frame by frame and slot
by slot; consecutive ticks of 48 frames; the receive block of the tick before; the transmit block of the tick by slot; what the
port drives in each slot of the latest frame (none: high impedance); and, bit clock by bit clock of that frame, the level of the frame sync and of the data output. -/
structure Tdm where
  frames : List (List Word) := []
  goodTicks : Nat := 0
  block : List (List Word) := []
  tx : Sparse (List Int) := []
  driven : List (Option Int) := []
  wire : List (Bool × Option Bool) := []
  deriving DecidableEq, Repr

/-- An event limited to one per second per object (R512): the end of its window, and occurrences held, the
value of the latest, its queue, and the scale of the count in its ARG. -/
structure EvWindow where
  openUntil : Nat := 0
  held : Nat := 0
  lastArg : Nat := 0
  evq : Nat := 0
  scale : Nat := 0
  deriving DecidableEq, Repr

/-- An entry of a plane's PRP duplicate-discard table (R76). -/
structure PrpEntry where
  src : Nat
  top : Nat
  seen : List Nat
  lastAt : Nat
  deriving DecidableEq, Repr

/-- A plane beyond its registers: the PRP table and the transmit sequence counter (R75, R76), the punt bucket (R85) in
10⁻⁶ frame, the logical instant of its last supervision frame, and the inject slots read that HEAD has not passed, in
ring order (R86). -/
structure Plane where
  prp : List PrpEntry := []
  txSeq : Nat := 0
  puntTokens : Nat := 64000000
  puntAt : Nat := 0
  lastSup : Option Nat := none
  injOut : List Nat := []
  deriving DecidableEq, Repr

/-- What is forwarded of a video packet (R129, R139): its layers, the data of its frame-marking extension and of its dependency
descriptor (empty: it carries none the device knows), its payload, and the plane it was received on (R73; none: composed here). -/
structure Media where
  s : Nat
  t : Nat
  fm : List Byte
  dd : List Byte
  pay : List Byte
  plane : Option Nat := none
  deriving DecidableEq, Repr

/-- A packet in the layer log of R130: its tick, layers, and the lengths of what Media holds. -/
structure LayerPkt where
  tick : Nat
  s : Nat
  t : Nat
  fm : Nat
  dd : Nat
  pay : Nat
  deriving DecidableEq, Repr

/-- A packet of a picture (R107, R129, R136): sequence number, what is forwarded of it, its dependency descriptor's decode targets if it
carries one, and whether it came as RTX. -/
structure VPkt where
  seq : Nat
  media : Media
  targets : Option (List (Nat × Nat × Bool))
  rtx : Bool
  deriving DecidableEq, Repr

/-- A picture being received (R107): timestamp, packets, its lowest sequence number and that packet's admission tick, its
marker packet, the tick in which it became complete, and what its headers show (R136, spec/12). -/
structure Pic where
  ts : Nat
  pkts : List VPkt
  low : Nat
  first : Nat
  marker : Option Nat
  done : Option Nat
  facts : PicFacts
  deriving DecidableEq, Repr

/-- A missing video sequence number (R98): the tick it was noticed in, the timestamp of the packet that showed it, how many
NACKs were sent and the tick of the first. -/
structure Missing where
  seq : Nat
  tick : Nat
  sent : Nat
  sentAt : Nat
  deriving DecidableEq, Repr

/-- A received video stream beyond its record: when it took effect, pictures, missing packets, highest sequence number,
recent picture timestamps with their marker packets (R107) and which were released, the layer log of R130, PLI pacing (R140, R250): the last PLI, one waiting with its FIR flag, and whether only the decoder asked; the command number of its last FIR; and of a stream over a link
the plane its latest packet carried (R335). -/
structure Vstr where
  effective : Bool := false
  born : Nat := 0
  pics : List Pic := []
  missing : List Missing := []
  highest : Option Nat := none
  marks : List (Nat × Nat) := []
  released : List Nat := []
  layerLog : List LayerPkt := []
  lastPli : Option Nat := none
  pliWaiting : Bool := false
  firWaiting : Bool := false
  pliDecoder : Bool := false
  firSeq : Nat := 0
  plane : Option Nat := none
  deriving DecidableEq, Repr

/-- A packet of an OSTR's RTX history (R98): sequence number, release tick, IP length, timestamp, marker, header extension and payload,
and the ns of its last retransmission. -/
structure RtxPkt where
  seq : Nat
  tick : Nat
  len : Nat
  ts : Nat
  marker : Bool
  ext : List Byte
  pay : List Byte
  lastSent : Option Nat
  deriving DecidableEq, Repr

/-- An OSTR beyond its record (R133 to R142): when it took effect, current and desired set (none: suspended), the desired
sets at the updates since the last restart, that restart's tick, the first update with a candidate, the last downward move,
downward moves waiting as (update tick, set), the upward move waiting, the source switch pending, the timestamp offset and
the last picture sent, the frame tick of an encoded picture being sent with its set, the RTX history (R98), and whether its RTX stream is numbered
yet (R139). -/
structure Ostr where
  effective : Bool := false
  born : Nat := 0
  cur : Option (Nat × Nat) := none
  desired : Option (Nat × Nat) := none
  wantLog : List (Nat × Option (Nat × Nat)) := []
  firstWant : Option Nat := none
  lastDown : Option Nat := none
  down : List (Nat × Option (Nat × Nat)) := []
  up : Option (Nat × Nat) := none
  srcKind : Nat := 0
  src : Nat := 0
  switchTo : Option (Nat × Nat × Nat) := none
  restarted : Option Nat := none
  tsOff : Option Nat := none
  lastTs : Nat := 0
  lastPicTick : Nat := 0
  picSet : Option (Nat × Nat × Nat) := none
  history : List RtxPkt := []
  rtxStarted : Bool := false
  deriving DecidableEq, Repr

/-- A packet at the release stage (R148 to R151): its number, leg, kind, OSTR, IP length, ready instant in ns, RTP timestamp, marker,
header extension and payload (of RTCP the whole packet), and over a link the plane of its source (R335). -/
structure TxPkt where
  id : Nat
  leg : Nat
  kind : PktKind
  ostr : Nat
  len : Nat
  ready : Nat
  ts : Nat
  marker : Bool
  ext : List Byte
  pay : List Byte
  plane : Option Nat := none
  deriving DecidableEq, Repr

/-- The redundancy control trailer of a copy (R75): its sequence number, LAN identifier and LSDU size. -/
structure Trailer where
  seq : Nat
  lan : Nat
  size : Nat
  deriving DecidableEq, Repr

/-- A frame waiting to depart (R74, R75, R80, R144, R152, R153): its length on the wire, its release instant and its leg; its item in the
port's host queue; the DSCP it is marked with, and its VLAN tag as (VID, PCP); its redundancy control trailer; the remote address and UDP
port it goes to; the PTP message it carries; the inject slot it was read from; and its content: an RTP or RTCP packet as the SRTP engine put it out, or an
injected frame. -/
structure Frame where
  len : Nat
  released : Nat
  leg : Nat := 0
  item : Option Nat := none
  dscp : Nat := 0
  tag : Option (Nat × Nat) := none
  rct : Option Trailer := none
  dst : Option (Nat × Nat) := none
  ptp : Option PtpOut := none
  slot : Option Nat := none
  bytes : List Byte := []
  deriving DecidableEq, Repr

/-- A port's departure queues (R144, R152, R153) by number: 0 to 3 are S0 to S3, 4 + l the leg queue of leg l, 16,388 the
host queue; the DRR deficits, the least quantum set since a queue's last turn (R147, R156), and the queue whose turn it is and whether its quantum was added. -/
structure Port where
  q : Sparse (List Frame) := []
  deficit : Sparse Nat := []
  clip : Sparse (Option Nat) := []
  turn : Nat := 0
  credited : Bool := false
  deriving DecidableEq, Repr

end Sys2Proof.Machine
end

