-- ==== Sys2Proof/Machine/TypesAudio.lean ====
section
/-! DEFINITION. Plain-data types of the audio graph (spec/09_audio_graph.md) and of codecs and effects
(spec/10_audio_codecs_effects.md). A sample is an integer in the Q1.31 range. -/

namespace Sys2Proof.Machine

/-- A block of samples of one tick. -/
abbrev Block := List Int

/-- A meter (R181): the sum of squares and number of samples of each block it retains, newest first; the held peak and the
hold counter. -/
structure Meter where
  blocks : List (Nat × Nat) := []
  peak : Nat := 0
  hold : Nat := 0
  deriving DecidableEq, Repr

/-- A gate (R207): open after its latest block and after the one before, and its hold counter. -/
structure GateState where
  open_ : Bool := false
  was : Bool := false
  hold : Nat := 0
  deriving DecidableEq, Repr

/-- The history of an equaliser stage (R208): x[n−1], x[n−2], y[n−1], y[n−2]. -/
structure EqHist where
  x1 : Int := 0
  x2 : Int := 0
  y1 : Int := 0
  y2 : Int := 0
  deriving DecidableEq, Repr

/-- A node's state (R176): equaliser histories, gate, limiter gain, meter, delay line or bridge input newest first, the
parameter its ramp starts from, the domain a sink's leg-end bridge leads to, and a custom kernel's overruns and persistent data. -/
structure NodeState where
  eq : List EqHist := []
  gate : GateState := {}
  lim : Nat := 1073741824
  meter : Meter := {}
  line : List Int := []
  lastGain : List Int := []
  lastDelay : Option Nat := none
  outDom : Option Nat := none
  overruns : Nat := 0
  mem : Memory := []
  deriving DecidableEq, Repr

/-- What a decode is to produce, decided at its playout tick (R201, R202): the payload's samples, zeros, the codec's own concealment or output for a missing packet,
or a frame from the LBRR of a payload. -/
inductive DecKind where
  | payload (pay : List Byte)
  | zeros
  | codec
  | lbrr (pay : List Byte)
  deriving DecidableEq, Repr

/-- A decode: for how many ticks, its kind, and whether its first tick is cross-faded from a substitution (R201). -/
structure Dec where
  dur : Nat
  kind : DecKind
  fade : Bool
  deriving DecidableEq, Repr

/-- A decoder or encoder: its state, which no rule lays out, as a number that the codec's own functions of Config advance. -/
structure Codec where
  ctx : Nat := 0
  deriving DecidableEq, Repr

/-- An encoded frame that waits for its task to complete (R21, R185): its payload, RTP timestamp, tick, and the encoder's state before it. -/
structure EncFrame where
  tick : Nat
  pay : List Byte
  ts : Nat
  before : Codec
  deriving DecidableEq, Repr

/-- What a leg leaves behind when it leaves a conference or changes its codec rate in this tick (R188, R189, R191): the conference, the chain it had there, the domain of its
codec rate, the history of its leg-end bridge, and its block of this tick. -/
structure OldEnd where
  conf : Nat
  chain : NodeState
  dom : Nat
  hist : List Int
  block : Block := []
  deriving DecidableEq, Repr

/-- An audio leg in the graph: decodes begun and not complete, by their tick with the decoder's state before; decoded blocks by the tick they are for, with the tick their
decode began in; the decoder; the block of the present tick at the codec rate, the history its input bridge reads with the two domains the bridge joins, its chain (R173)
with the selection meter, the member's signal of this tick; its output limiter's gain, the history of its output bridge with the two domains it joins, its outputs at the
codec rate by tick; the last tick it held a seat in; its encoder, the tick since which it has this codec and PTIME, the loss of R197 for the present frame and the next,
the key of the group whose payload its previous frame used (none: []), the key of R185 it belongs to and since which tick; ms of Opus silence since the last frame sent
(R197), and a frame encoded; its timestamp base; its LEG record of the latest tick; what it left in this tick; that conference's last contribution; and whether it is
deleted and ramps out. -/
structure LegAudio where
  decoding : List (Nat × Codec) := []
  future : Sparse (Nat × Block) := []
  dec : Codec := {}
  block : Block := []
  inHist : List Int := []
  inEnd : Option (Nat × Nat) := none
  chain : NodeState := {}
  x : Block := []
  outLim : Nat := 1073741824
  outHist : List Int := []
  outEnd : Option (Nat × Nat) := none
  outs : Sparse Block := []
  lastSeated : Option Nat := none
  enc : Codec := {}
  encSince : Nat := 0
  loss : Nat := 0
  lossNext : Nat := 0
  usedGroup : List Nat := []
  key : List Nat := []
  keySince : Nat := 0
  dtxAge : Nat := 0
  encoded : Option EncFrame := none
  tsBase : Nat := 0
  lastRec : Nat := 0
  old : Option OldEnd := none
  tail : Option (Nat × Block) := none
  gone : Bool := false
  deriving DecidableEq, Repr

/-- A conference in the graph (R182 to R184): its seats, their OUTRANKED counts, the members with a bus edge and all members in
the tick before, the members new in this tick, the domain then, the exact sum, its bus, and each member's weighted signal, of the present tick. -/
structure ConfAudio where
  seats : List (Option Nat) := []
  outranked : List Nat := []
  edges : List Nat := []
  members : List Nat := []
  joined : List Nat := []
  dom : Option Nat := none
  sum : List Int := []
  bus : Block := []
  terms : List (Nat × Block) := []
  deriving DecidableEq, Repr

/-- A conference-table entry (R179). -/
structure ConfEntry where
  dom : Nat := 0
  groupEn : Bool := true
  rmsWin : Nat := 100
  peakHold : Nat := 500
  decayMul : Nat := 65385
  deriving DecidableEq, Repr

/-- A validated program (R178), with the activation tick each of its tone generators started at (R213). -/
structure Prog where
  id : Nat := 0
  nodes : List GNode := []
  segs : List Segment := []
  profiles : List (Nat × Profile) := []
  tones : List (Nat × Tone) := []
  toneStart : Sparse Nat := []
  hasTable : Bool := false
  confs : Sparse ConfEntry := []
  paths : List (Nat × Nat × Nat) := []
  deriving DecidableEq, Repr

/-- A recall player (R193, R199): the tick its playback begins or began; the latest entry of the buffer it has read as (receive stamp, offset); its frames, placed as a
jitter buffer with a depth of 0 places them; its decoder; decodes begun and not complete, by their tick with the decoder's state before; its decoded blocks by tick with the
tick their decode began in; and the block of the present tick. -/
structure Player where
  playing : Bool := false
  startAt : Nat := 0
  cursor : Option (Nat × Nat) := none
  jb : Jb := {}
  dec : Codec := {}
  decoding : List (Nat × Codec) := []
  future : Sparse (Nat × Block) := []
  block : Block := []
  deriving DecidableEq, Repr

/-- A mix group's encoder (R185): its key, the tick of its latest frame, its state before and after that frame, the payload, and ms of Opus silence since the last frame sent. -/
structure GroupEnc where
  key : List Nat
  tick : Nat
  before : Codec
  after : Codec
  pay : List Byte
  dtxAge : Nat
  deriving DecidableEq, Repr

/-- What a segment that ran after its hard limit changed (R192, R305): its tick and place, and node states and leg chains with output gains as they were. -/
structure Undo where
  tick : Nat
  place : Nat
  nodes : List (Nat × NodeState)
  chains : List (Nat × NodeState × Nat)
  deriving DecidableEq, Repr

/-- A LOAD whose result is not posted yet (R186): its OP, the code and DETAIL it is rejected with, and the program. -/
structure Loading where
  op : Nat
  err : Option (Err × Nat)
  prog : Prog
  deriving DecidableEq, Repr

/-- The audio graph beyond its registers: a LOAD in progress, the
shadow bank, the tick an activation waits for, the tick of the last activation, the active program and the one it replaced for
one tick, node states, node outputs of this tick by node × 64 + port, what sinks give their terminals by node as (KIND × 65,536 + INDEX, block), players, the
settings in effect, the legs that took a group payload in this tick, the mix groups, what late segments changed, and the inputs of late kernel activations
by tick × 65,536 + node. -/
structure Audio where
  loading : Option Loading := none
  shadow : Option Prog := none
  activateAt : Option Nat := none
  lastActivation : Option Nat := none
  active : Prog := {}
  previous : Option Prog := none
  nodes : Sparse NodeState := []
  ports : Sparse Block := []
  terms : Sparse (Nat × Block) := []
  players : Sparse Player := []
  cfg : Word := 0
  sel : Word := 131072300
  thresh : Nat := 6790940
  groupMembers : Nat := 0
  groups : List GroupEnc := []
  undo : List Undo := []
  lateIns : Sparse (List Block) := []
  deriving DecidableEq, Repr

end Sys2Proof.Machine
end

