-- ==== Sys2Proof/Machine/TypesMill.lean ====
section
/-! DEFINITION. Plain-data types of the Mill cores and custom kernels (spec/11_mill_core.md, R214 to R216). -/

namespace Sys2Proof.Machine

/-- A 72-bit accumulator. -/
abbrev Acc := BitVec 72

/-- Where a result lands: a D or P register, an accumulator as chain operations see it or as SAT, STS, ARDx and AMOV do (R221,
R224), a part of both views of an accumulator, or a special register by its number of R230. -/
inductive MDest where
  | d (n : Nat)
  | p (n : Nat)
  | chain (n : Nat)
  | view (n : Nat)
  | part (n lo width : Nat)
  | both (n : Nat)
  | special (n : Nat)
  deriving DecidableEq, Repr

/-- A result in flight: the number of the first bundle it is visible to, where it lands, and its value. -/
structure MPend where
  at_ : Nat
  dst : MDest
  val : Nat
  deriving DecidableEq, Repr

/-- A control transfer in its delay slots: slots left, the target, whether RETI restores ST after them, and whether it is a
RET. -/
structure MTransfer where
  left : Nat
  target : Nat
  reti : Bool
  ret : Bool
  deriving DecidableEq, Repr

/-- What a core does: nothing of the model's concern, an activation of a custom kernel, or bench code. -/
inductive MMode where
  | idle | service | bench
  deriving DecidableEq, Repr

/-- An activation of a kernel (R236): its node, cluster slot, budget and cycles spent, the return address, the regions granted as
(address, length, writable), the output blocks' addresses, block length, the persistent area, and the tick. -/
structure Activation where
  node : Nat := 0
  slot : Nat := 0
  budget : Nat := 0
  spent : Nat := 0
  ret : Nat := 0
  grants : List (Nat × Nat × Bool) := []
  outs : List Nat := []
  len : Nat := 0
  persist : Nat := 0
  persistLen : Nat := 0
  tick : Nat := 0
  deriving DecidableEq, Repr

/-- A Mill core (R219, R234): D, A (both views) and P registers, the special registers by number, data and program memory, the
PC, bundles issued, results in flight, transfers in their delay slots, delay slots left of a transfer or LOOP, and what it
runs. -/
structure MillCore where
  d : Sparse Word := []
  chain : Sparse Acc := []
  view : Sparse Acc := []
  p : Sparse Word := []
  special : Sparse Word := []
  data : Memory := []
  prog : Memory := []
  pc : Nat := 0
  n : Nat := 0
  flight : List MPend := []
  transfers : List MTransfer := []
  delay : Nat := 0
  mode : MMode := .idle
  act : Activation := {}
  deriving DecidableEq, Repr

/-- A loaded custom kernel (R214): its header, its bundle address in the kernel area, and its code. -/
structure Kernel where
  id : Nat := 0
  codeLen : Nat := 0
  dataLen : Nat := 0
  latency : Nat := 0
  inputs : Nat := 0
  outputs : Nat := 0
  domains : Nat := 0
  budget : Nat := 0
  entry : Nat := 0
  place : Nat := 0
  code : List Byte := []
  deriving DecidableEq, Repr

/-- A kernel command whose result is not posted yet (R239): OP, slot, status, and the kernel it loads. -/
structure KernelCmd where
  op : Nat
  slot : Nat
  status : Nat
  kernel : Kernel
  deriving DecidableEq, Repr

end Sys2Proof.Machine
end

