-- ==== Sys2Proof/Machine/TypesReeve.lean ====
section
/-! DEFINITION. Plain-data types of Reeve (spec/15_reeve_dispatch.md, R297 to R311). -/

namespace Sys2Proof.Machine

/-- Task types in the encoding order of R311. -/
inductive TaskType where
  | decodePic | encodePic | compose | audioTick | audioCodec | customKernel | scale
  deriving DecidableEq, Repr

/-- What a task computes: nothing of its own; a conference's seats and bus, a segment of the host program, a conference's outputs; a kernel
activation; leg decodes, leg encodes, a recall player; a picture of a stream by timestamp, its upscale; a layout's frame; an
encoded composition's picture. -/
inductive Work where
  | none
  | confBus (tick conf : Nat)
  | program (tick seg : Nat)
  | confOut (tick conf : Nat)
  | kernel (tick node : Nat)
  | decode (tick : Nat) (legs : List Nat)
  | encode (tick : Nat) (legs : List Nat)
  | player (tick n : Nat)
  | picture (vstr ts : Nat)
  | scale (vstr ts : Nat)
  | compose (lay frame : Nat)
  | encodePic (ecomp frame : Nat)
  deriving DecidableEq, Repr

/-- States of a slot (R311). -/
inductive SlotState where
  | waiting | ready | running | held | cancelled | failed
  deriving DecidableEq, Repr

/-- A task in its slot (R311): with its start boundary and hard limit in ns of logical time, leases as (resource, WRITE),
the engines it faulted on, its place in submission order and in the order of its level, the tick (or frame) and
stage (or due instant) of a task, the layout an encode depends on, whether its work has been computed, whether its hard limit has passed, the next quarter of an encoded picture to release (R290), and what its engine reported. A cancelled task that still runs keeps its
engine. -/
structure Task where
  typ : TaskType
  level : Nat
  port : Nat
  flow : Nat
  key : Nat
  start : Nat
  hard : Nat
  leases : List (Nat × Bool)
  work : Work
  tick : Nat := 0
  stage : Nat := 0
  dep : Nat := 0
  fseq : Nat := 0
  state : SlotState := .waiting
  attempt : Nat := 0
  engine : Nat := 0x7FF
  submit : Nat := 0
  dispatch : Nat := 0
  dispatchAt : Nat := 0
  excl : List Nat := []
  order : Nat := 0
  rank : Int := 0
  ran : Bool := false
  late : Bool := false
  cancelledRun : Bool := false
  quarter : Nat := 0
  facts : TaskFacts := {}
  deriving DecidableEq, Repr

/-- An engine (R302, R306): the slot it runs, the flow it ran last, whether it is being reset, the slot whose leases wait for its
fence with the cause of the fault that is counted then (none: a page reset), the Belfry times of its counted faults in ns, when its known-answer
set last completed with whether that is overdue, whether Reeve retired it, and ns it was busy in the present window of 100 ms, up to the
start of the stretch that began at `since`. -/
structure Engine where
  slot : Option Nat := none
  lastFlow : Option Nat := none
  resetting : Bool := false
  fenced : Option Nat := none
  cause : Option Nat := none
  faults : List Nat := []
  katAt : Nat := 0
  overdue : Bool := false
  retired : Bool := false
  busy : Nat := 0
  since : Nat := 0
  deriving DecidableEq, Repr

/-- An engine stops working for its slot; an idle one was not busy. -/
def Engine.freed (x : Engine) (now : Nat) : Engine := { x with slot := none, busy := if x.slot.isSome then x.busy + (now - x.since) else x.busy }

/-- Reeve beyond its registers: slots, next FSEQ per flow, engines by the code of R311, submissions that stalled per port, and the
next numbers of submission and of READY order. -/
structure Reeve where
  slots : Sparse (Option Task) := []
  nextSeq : Sparse Nat := []
  engines : Sparse Engine := []
  stalled : Sparse (List Task) := []
  nextOrder : Nat := 0
  nextRank : Nat := 0
  headRank : Nat := 0
  deriving DecidableEq, Repr

end Sys2Proof.Machine
end

