-- ==== Sys2Proof/Machine/TypesVideo.lean ====
section
/-! DEFINITION. Plain-data types of the video decoders (spec/12), the compositors and layouts (spec/13) and the encoders
(spec/14). -/

namespace Sys2Proof.Machine

/-- A picture released to decode (R246, R248): its timestamp, number, release tick R, due tick D, output spatial layer and
temporal layer, whether it must be upscaled, whether slices are absent, and what its headers show. -/
structure DecJob where
  ts : Nat
  picnum : Nat
  release : Nat
  due : Nat
  s : Nat
  t : Nat
  upscaled : Bool
  absent : Bool
  facts : PicFacts
  deriving DecidableEq, Repr

/-- A decoded picture: the record of R256, whether it was correctly decoded, may serve as a reference, lies in a buffer marked BAD
(R252), may no longer be composed because a compositor read poison from it (R275), the PICNUM of the picture its missing parts were taken
from (none: mid-grey), and the size it was decoded in before an upscale (R248). -/
structure DecPic where
  vstr : Nat
  s : Nat
  t : Nat
  concealed : Bool
  upscaled : Bool
  subst : Bool
  late : Bool
  matrix : Nat
  range : Nat
  depth10 : Bool
  ts : Nat
  release : Nat
  due : Nat
  width : Nat
  height : Nat
  picnum : Nat
  correct : Bool
  reference : Bool
  bad : Bool
  spoiled : Bool
  sub : Option Nat
  low : Nat × Nat
  deriving DecidableEq, Repr

/-- A decoding stream (R253): the tick it began in, its state (0 not decoding, 1 STARTING, 2 CLEAN, 3 CONCEALED), the next PICNUM, pictures with Reeve,
decoded pictures oldest first, the picture size in force, whether a refresh sweep is running and has raised no fault, the targets
in force (R245), and the counts of VDE0_STR_STATE and VDE0_STR_LATE. -/
structure DecStream where
  born : Nat := 0
  state : Nat := 0
  picnum : Nat := 0
  queue : List DecJob := []
  pics : List DecPic := []
  size : Option (Nat × Nat) := none
  sweepClean : Option Bool := none
  targetS : Nat := 0
  targetT : Nat := 0
  concealed : Nat := 0
  late : Nat := 0
  lastUpscaled : Bool := false
  deriving DecidableEq, Repr

/-- What a video layer shows at a boundary (R264, R266, R275): its fill and border in PLACEHOLDER, the same in SHOWING after a poisoned read, a decoded
picture, or the composition of a layout by frame tick. -/
inductive Shown where
  | fill
  | blank
  | pic (p : DecPic)
  | lay (l frame : Nat)
  deriving DecidableEq, Repr

/-- A video layer as it runs (R266): its state (0 disabled, 1 PLACEHOLDER, 2 SHOWING), its source with the tick that source took
effect, the last picture it showed with its timestamp or frame tick, and its STALE count. -/
structure LayerState where
  state : Nat := 0
  kind : Nat := 0
  src : Nat := 0
  born : Nat := 0
  shown : Shown := .fill
  last : Nat := 0
  stale : Nat := 0
  deriving DecidableEq, Repr

/-- A composition (R262): frame tick, the tick that owns its boundary, its due boundary in ns, the LAYOUT record it is composed under,
what each enabled video layer shows, graphic layers left out and layers a poisoned read replaced by the fill (R275), and whether it
is complete, LATE, or spoiled for layers that would show it. -/
structure Composition where
  frame : Nat
  tick : Nat
  due : Nat
  data : Nat
  layers : List (Nat × Shown)
  omitted : List Nat := []
  done : Bool := false
  late : Bool := false
  spoiled : Bool := false
  deriving DecidableEq, Repr

/-- A layout beyond its record: effective, the next frame boundary as (frame tick, ns), its video layers by number, its compositions
oldest first, and the last one completed. -/
structure Layout where
  effective : Bool := false
  born : Nat := 0
  next : Nat × Nat := (0, 0)
  layers : Sparse LayerState := []
  comps : List Composition := []
  last : Option (Nat × Bool) := none
  deriving DecidableEq, Repr

/-- Rate control of one layer of an ECOMP (R287, R288): debt, the rate it last used, and the QP0, used and avail of its last
picture. -/
structure RateCtl where
  debt : Nat := 0
  rate : Nat := 0
  coded : Bool := false
  qp0 : Nat := 0
  used : Nat := 0
  avail : Int := 0
  floor : Bool := false
  deriving DecidableEq, Repr

/-- How a picture of an ECOMP is to be coded, fixed at its frame boundary (R279, R282 to R285): frame tick, owning tick, RTP timestamp,
the ECOMP and LAYOUT records in force, temporal layer, key picture, and its place j of m in a sweep of a kind (0 none, 1 regular, 2
accelerated) and number. -/
structure PicPlan where
  frame : Nat
  tick : Nat
  ts : Nat
  data : Nat
  lay : Nat
  t : Nat
  key : Bool
  kind : Nat
  j : Nat
  m : Nat
  no : Nat
  deriving DecidableEq, Repr

/-- An encoded composition beyond its record (spec/14): when it took effect, the layer log of R130, the tick of the earliest
accelerated-sweep request waiting (R285), the number p of its latest picture, the KEY_SEQ its last key picture answered, the sweep in
progress, the tick of the last accelerated start, whether the next picture is forced intra (R293, R305), pictures planned, and the
rate control of each layer at 3s + t. -/
structure Ecomp where
  effective : Bool := false
  born : Nat := 0
  layerLog : List LayerPkt := []
  accelWait : Option Nat := none
  started : Bool := false
  p : Nat := 0
  keySeq : Nat := 0
  kind : Nat := 0
  j : Nat := 0
  m : Nat := 0
  sweepNo : Nat := 0
  lastAccel : Option Nat := none
  forced : Bool := false
  plans : List PicPlan := []
  rc : Sparse RateCtl := []
  deriving DecidableEq, Repr

end Sys2Proof.Machine
end

