-- ==== Sys2Proof/Machine/TypesTwin.lean ====
section
/-! DEFINITION. Plain-data types of a twin pair (spec/17_twin_redundancy.md). -/

namespace Sys2Proof.Machine

/-- A packet in the match store (R347): its leg, the packet, and the instant in ns until which it is held. -/
structure StoredPkt where
  leg : Nat
  pkt : RxPkt
  until_ : Nat
  deriving DecidableEq, Repr

/-- A heartbeat path (R355): up, heartbeats of the present interval, intervals in a row missed, and in a row with a heartbeat. -/
structure HbPath where
  up : Bool := false
  seen : Nat := 0
  missed : Nat := 0
  good : Nat := 0
  deriving DecidableEq, Repr

/-- A leg being resynchronised on the junior (R353): its freeze tick, ticks in a row that matched, and whether its copy was taken. -/
structure LegSync where
  leg : Nat
  f : Nat
  matched : Nat
  copied : Bool
  deriving DecidableEq, Repr

/-- A leg's context as the senior copies it (R353 step 4): the leg with its jitter buffer, controller, shaper, SRTP, RTCP and
sequence states, its codec and chain states, and the OSTRs and VSTRs of the leg. -/
structure LegCopy where
  leg : Nat
  data : Leg
  audio : LegAudio
  ostrs : List (Nat × Ostr)
  vstrs : List (Nat × Vstr)
  deriving DecidableEq, Repr

/-- The snapshot of the acting senior's media state as of the start of freeze tick F (R359): tables and pending commands, keys,
contexts and buffers, kernels, the trailer counters of the two planes (R350), the packets at the release stage and the tasks not released, and the
registers that are inputs of R24 with the three the senior copies. -/
structure Snapshot where
  f : Nat
  gate : Gate
  keys : Sparse KeyCtx
  legs : Sparse Leg
  confs : Sparse Conf
  taps : Sparse Tap
  vstrs : Sparse Vstr
  ostrs : Sparse Ostr
  rxWin : Sparse RxCtx
  ecomps : Sparse Ecomp
  decs : Sparse DecStream
  layouts : Sparse Layout
  audio : Audio
  legAudio : Sparse LegAudio
  confAudio : Sparse ConfAudio
  kernels : Sparse Kernel
  planeSeq : List Nat
  pkts : List TxPkt
  tasks : List Task
  writes : List (Nat × Nat)
  deriving DecidableEq, Repr

/-- A digest being formed or kept (R352): its logical tick; of leg l (4,096 + l) or of a digest group, 0 to 2,048; and the H64 so far. -/
structure DigestSum where
  tick : Nat
  key : Nat
  sum : BitVec 64
  deriving DecidableEq, Repr

/-- A twin beyond its registers: the Ledger block being recorded (R343 to R346); at the junior, blocks by tick, the match store, packets and cascade frames fetched (R347),
the digests of executed ticks' marks (R352), and legs being resynchronised (R353); the heartbeat paths, the last heartbeat received,
the instants the present state began and a heartbeat last came, in ns; leg resynchronisations due as
(F, legs) and legs the senior sends on both LANs; legs found diverged by tick (R354); port-up bits in the last tick mark; the swap
tick; the freeze tick and the target of catch-up; since when the partner has been JUNIOR; whether R357's jump is due; the level of
TWIN_HB_OUT and heartbeats sent; whether a resynchronisation failed; the last logical tick both devices are known to have executed; whether a
stall waits for the end of its heartbeat interval (R363); and the group and per-leg digests of its own releases of the last 16 ticks, with the next tick to compare (R352). -/
structure Twin where
  ledger : List LedgerEntry := []
  blocks : Sparse (List LedgerEntry) := []
  store : List StoredPkt := []
  digests : Sparse (List (Nat × Nat)) := []
  syncs : List LegSync := []
  link : HbPath := {}
  pins : HbPath := {}
  lan : HbPath := {}
  partner : Option Heartbeat := none
  since : Nat := 0
  heardAt : Nat := 0
  freezes : List (Nat × List Nat) := []
  bothLans : List Nat := []
  diverged : List (Nat × Nat) := []
  seniorPorts : Nat := 15
  juniorPorts : Nat := 15
  swapAt : Option Nat := none
  freezeAt : Option Nat := none
  copied : Bool := false
  partnerJunior : Option Nat := none
  jumpDue : Bool := false
  pinOut : Bool := false
  sentHb : Nat := 0
  failedSync : Bool := false
  common : Nat := 0
  stallDue : Bool := false
  sums : List DigestSum := []
  compared : Nat := 0
  deriving DecidableEq, Repr

end Sys2Proof.Machine
end

