-- ==== Sys2Proof/Syntax.lean ====
section
/-! DEFINITION. The commands of the LH9600, one constructor per row of spec/opcode_table.json. -/

namespace Sys2Proof

/-- A command of the part: an operation on its registers or an event on its pins, links, engines and clocks. -/
inductive Instr where
  /-- BELFRY_CAPTURE_READ (R51). A read of BELFRY_SEC_LO captures the whole clock at one base cycle. -/
  | belfryCaptureRead (r : Reader)
  /-- OSC_LOST (R52). No OSC_REF edge for 200 ns; Belfry switches to its internal oscillator. -/
  | oscLost
  /-- OSC_BACK (R52). OSC_REF good for 100 ms; Belfry returns to it at the next tick boundary. -/
  | oscBack
  /-- SERVO_SAMPLE (R53). The servo takes a sample from a Sync or PPS_IN edge and moves between its states. -/
  | servoSample (m : ServoMeas)
  /-- PTP_SOURCE_LOST (R53). Announce or Sync timeout declares a PTP source lost. -/
  | ptpSourceLost (plane : Nat) (passiveReceives : Bool)
  /-- PPS_SOURCE_LOST (R53). 1,500 ms without a qualifying PPS_IN edge declares the PPS source lost. -/
  | ppsSourceLost
  /-- BINATH_SOURCE_LOST (R328). Uplink, TIME_RESP or parent-time conditions declare the Binath source lost. -/
  | binathSourceLost
  /-- SERVO_ENABLE_WRITE (R53). A write of SERVO_EN starts or stops clock discipline. -/
  | servoEnableWrite (en : Bool)
  /-- STEP_EN_WRITE (R54). A write of STEP_EN permits or forbids steps, refused while legs or layouts exist. -/
  | stepEnWrite (en : Bool)
  /-- BELFRY_SRC_WRITE (R53). A write of BELFRY_SRC reselects the servo's sources. -/
  | belfrySrcWrite (w : Word)
  /-- STEP_ABS (R55). BELFRY_STEP_CMD ABS sets the clock to the given time. -/
  | stepAbs
  /-- STEP_REL (R55). BELFRY_STEP_CMD REL adds a signed offset to the clock. -/
  | stepRel
  /-- PTP_MESSAGE_RX (R56). A received PTP message is processed by the plane's ordinary clock and best-master logic. -/
  | ptpMessageRx (m : PtpMsg)
  /-- PTP_MESSAGE_TX (R56). A PTP message interval expires and the clock sends its message, stamped on transmission. -/
  | ptpMessageTx (plane : Nat) (lanB : Bool) (kind : PtpKind)
  /-- TRIGGER_ENABLE (R63). A write of BELFRY_TRGn_CTRL.ENABLE starts a trigger generator. -/
  | triggerEnable (n : Nat) (oneshot invert : Bool)
  /-- TRIGGER_EDGE (R63). A trigger generator reaches its next edge time and drives its pin or consumer. -/
  | triggerEdge (n : Nat) (samples : List Word)
  /-- TRIGGER_PULSE_END (R63). An output pulse ends WIDTH ns after its edge. -/
  | triggerPulseEnd (n : Nat)
  /-- CAPTURE_EDGE (R65). A qualifying edge on a capture source is time-stamped into the FIFO. -/
  | captureEdge (src : Nat) (falling : Bool) (hold : Nat)
  /-- CAPTURE_POP (R65). A read of BELFRY_CAPn_POP removes the oldest capture. -/
  | capturePop (n : Nat)
  /-- GRANARY_ENQUEUE (R160). A producer places an item in a Granary queue, overwriting or dropping as needed. -/
  | granaryEnqueue (q : Nat) (item : GranaryItem) (mismatch : Bool)
  /-- GRANARY_CLAIM (R161). A consumer begins to read an item, which is then claimed. -/
  | granaryClaim (q : Nat) (mismatch : Bool)
  /-- GRANARY_READ_COMPLETE (R161). A claimed item's read completes and its cells return to the pool. -/
  | granaryReadComplete (q : Nat)
  /-- QUEUE_SWEEP_COMPLETE (R162). A reset queue's cells are swept back to the free list. -/
  | queueSweepComplete (q : Nat)
  /-- BANKQ_WRITE (R165). A producer writes a record into a bank queue's filling bank. -/
  | bankqWrite (k tick len : Nat)
  /-- EVQ_POP (R167). A read of EVQn_POP removes the oldest event entry. -/
  | evqPop (n : Nat) (mismatch : Bool)
  /-- GRANARY_Q_SEL (R159). A write of GRANARY_Q_SEL starts a fetch of a queue's counts. -/
  | granaryQSel (q : Nat) (mismatch : Bool)
  /-- PACKET_ENQUEUE (R148). A produced packet reaches the release stage and is queued, or discarded if past its ready instant. -/
  | packetEnqueue (leg : Nat) (kind : PktKind) (ostr : Nat) (len : Nat) (releaseTick ts : Nat) (marker : Bool) (pay : List Byte) (mismatch : Bool)
  /-- PACKET_RELEASE (R151). At its release instant a packet is discarded or numbered and committed to its ports. -/
  | packetRelease (id : Nat)
  /-- FRAME_DEPART (R152). A port able to start a frame takes one from its strict queues or DRR group. -/
  | frameDepart (port : Nat)
  /-- PKTOUT_LEG_SEL (R149). A write of PKTOUT_LEG_SEL starts a fetch of a leg's shaper. -/
  | pktoutLegSel (leg : Nat)
  /-- ETH_LINK_UP (R68). FEC lock, alignment and no local fault hold for 10 ms; the port link comes up. -/
  | ethLinkUp (n : Nat) (remoteFault : Bool)
  /-- ETH_LINK_DOWN (R68). Loss of FEC lock, alignment or a local fault takes the port link down. -/
  | ethLinkDown (n : Nat) (fecLock aligned localFault : Bool) (signal : Nat) (remoteFault : Bool)
  /-- FRAME_RECEIVE (R70). A received Ethernet frame passes the checks, stamping, PRP, layer 2, classification, policing and SRTP steps. -/
  | frameReceive (f : RxFrame)
  /-- PRP_ENTRY_FORGET (R76). A PRP source entry idle for FORGET is freed. -/
  | prpEntryForget (plane src : Nat)
  /-- PRP_SUPERVISION_TX (R78). At each SUP_INT instant a plane sends supervision frames on both LANs. -/
  | prpSupervisionTx (plane : Nat)
  /-- PUNT_HEAD_WRITE (R85). A write of PUNT_PTR.HEAD returns consumed punt slots. -/
  | puntHeadWrite (plane head : Nat)
  /-- INJECT_TAIL_WRITE (R86). A write of INJ_PTR.TAIL makes filled inject slots available. -/
  | injectTailWrite (plane tail : Nat)
  /-- INJECT_SLOT_SEND (R86). The device reads the next inject slot and sends or skips it, then advances HEAD. -/
  | injectSlotSend (plane : Nat)
  /-- PKTIN_LEG_SEL (R84). A write of PKTIN_LEG_SEL starts a fetch of a leg's policer and duplicate counts. -/
  | pktinLegSel (leg : Nat)
  /-- RTCP_REPORT (R97). A leg's report instant arrives and Epanis composes its compound RTCP packet. -/
  | rtcpReport (leg : Nat)
  /-- NACK_RETRY (R98). A packet still missing after max(1.5 RTT, 20 ms) gets one more NACK. -/
  | nackRetry (vstr seq : Nat)
  /-- JB_RECOMPUTE (R103). Every 500 ms the jitter buffer target is recomputed and the depth moved one frame. -/
  | jbRecompute (leg : Nat)
  /-- RX_IDLE (R118). No packet admitted for RX_TIMEOUT; RX_IDLE is posted. -/
  | rxIdle (leg : Nat)
  /-- VIDEO_WAIT_EXPIRE (R107). VIDEO_WAIT ticks pass and an incomplete picture is released. -/
  | videoWaitExpire (vstr ts : Nat) (absent : Bool)
  /-- TDM_FRAME_SYNC (R114). A TDM frame sync arrives or is generated and one frame of slots is shifted. -/
  | tdmFrameSync (n : Nat) (samples : List Word)
  /-- LEG_STATS_WRITE (R119). Every PERIOD × 10 ms the device writes every leg's statistics line. -/
  | legStatsWrite (leg : Nat)
  /-- EVENT_WINDOW_EXPIRE (R512). A 1,000 ms rate-limit window ends and held occurrences are posted as one event. -/
  | eventWindowExpire (cls code obj sub : Nat)
  /-- CC_UPDATE (R124). At a leg's update tick the congestion controller updates its target rate. -/
  | ccUpdate (leg : Nat)
  /-- PLI_SEND (R140). A merged PLI or FIR request falls due and is sent to the VSTR's leg. -/
  | pliSend (vstr : Nat)
  /-- ADAPT_LEG_SEL (R124). A write of ADAPT_LEG_SEL starts a fetch of a leg's controller state. -/
  | adaptLegSel (leg : Nat)
  /-- ADAPT_OSTR_SEL (R133). A write of ADAPT_OSTR_SEL starts a fetch of an OSTR's sets. -/
  | adaptOstrSel (ostr : Nat)
  /-- NOP (R220). A slot of all zeros does nothing. -/
  | nop (core : Nat)
  /-- ADD (R223). DD = DX + DY, wrapping. -/
  | add (x : Site) (dd dx dy : Nat)
  /-- SUB (R223). DD = DX − DY, wrapping. -/
  | sub (x : Site) (dd dx dy : Nat)
  /-- ADDS (R223). DD = sat(DX + DY). -/
  | adds (x : Site) (dd dx dy : Nat)
  /-- SUBS (R223). DD = sat(DX − DY). -/
  | subs (x : Site) (dd dx dy : Nat)
  /-- AND (R223). Bitwise AND. -/
  | and (x : Site) (dd dx dy : Nat)
  /-- OR (R223). Bitwise OR. -/
  | or (x : Site) (dd dx dy : Nat)
  /-- XOR (R223). Bitwise XOR. -/
  | xor (x : Site) (dd dx dy : Nat)
  /-- SHL (R223). Shift left by DY[4:0]. -/
  | shl (x : Site) (dd dx dy : Nat)
  /-- SHR (R223). Logical shift right by DY[4:0]. -/
  | shr (x : Site) (dd dx dy : Nat)
  /-- SRA (R223). Arithmetic shift right by DY[4:0]. -/
  | sra (x : Site) (dd dx dy : Nat)
  /-- MIN (R223). Signed minimum. -/
  | min (x : Site) (dd dx dy : Nat)
  /-- MAX (R223). Signed maximum. -/
  | max (x : Site) (dd dx dy : Nat)
  /-- CMPLT (R223). Signed less-than compare. -/
  | cmplt (x : Site) (dd dx dy : Nat)
  /-- CMPEQ (R223). Equality compare. -/
  | cmpeq (x : Site) (dd dx dy : Nat)
  /-- SHLI (R223). Shift left by an immediate. -/
  | shli (x : Site) (dd dx imm : Nat)
  /-- SHRI (R223). Logical shift right by an immediate. -/
  | shri (x : Site) (dd dx imm : Nat)
  /-- SRAI (R223). Arithmetic shift right by an immediate. -/
  | srai (x : Site) (dd dx imm : Nat)
  /-- ADDI (R223). Add a sign-extended immediate, wrapping. -/
  | addi (x : Site) (dd dx imm : Nat)
  /-- ABSS (R223). Saturating absolute value. -/
  | abss (x : Site) (dd dx : Nat)
  /-- NEGS (R223). Saturating negation. -/
  | negs (x : Site) (dd dx : Nat)
  /-- MOVI (R223). Load a sign-extended 20-bit immediate. -/
  | movi (x : Site) (dd imm : Nat)
  /-- MOVH (R223). Load the upper half of a D register. -/
  | movh (x : Site) (dd imm : Nat)
  /-- MPY (R224). Accumulator = signed product. -/
  | mpy (x : Site) (aa dx dy : Nat)
  /-- MAC (R224). Accumulator += signed product. -/
  | mac (x : Site) (aa dx dy : Nat)
  /-- MSU (R224). Accumulator −= signed product. -/
  | msu (x : Site) (aa dx dy : Nat)
  /-- MPYSU (R224). Accumulator = signed × unsigned product. -/
  | mpysu (x : Site) (aa dx dy : Nat)
  /-- MACSU (R224). Accumulator += signed × unsigned product. -/
  | macsu (x : Site) (aa dx dy : Nat)
  /-- MPY2 (R224). Accumulator = dual 16-bit products summed and shifted 32. -/
  | mpy2 (x : Site) (aa dx dy : Nat)
  /-- MAC2 (R224). Accumulator += dual 16-bit products. -/
  | mac2 (x : Site) (aa dx dy : Nat)
  /-- MSU2 (R224). Accumulator −= dual 16-bit products. -/
  | msu2 (x : Site) (aa dx dy : Nat)
  /-- ACLR (R224). Clear an accumulator. -/
  | aclr (x : Site) (aa : Nat)
  /-- AADD (R224). Accumulator += DX shifted by an immediate. -/
  | aadd (x : Site) (aa dx imm : Nat)
  /-- ASHR (R224). Arithmetic right shift of an accumulator. -/
  | ashr (x : Site) (aa imm : Nat)
  /-- ASHL (R224). Saturating left shift of an accumulator. -/
  | ashl (x : Site) (aa imm : Nat)
  /-- AMOV (R223). Copy one accumulator to another. -/
  | amov (x : Site) (aa src : Nat)
  /-- SAT (R225). D register = store value of an accumulator. -/
  | sat (x : Site) (dd aa : Nat)
  /-- ARDL (R223). Read accumulator bits 31:0. -/
  | ardl (x : Site) (dd aa : Nat)
  /-- ARDH (R223). Read accumulator bits 63:32. -/
  | ardh (x : Site) (dd aa : Nat)
  /-- ARDG (R223). Read accumulator guard bits, sign-extended. -/
  | ardg (x : Site) (dd aa : Nat)
  /-- AWRL (R223). Write accumulator bits 31:0. -/
  | awrl (x : Site) (aa dx : Nat)
  /-- AWRH (R223). Write accumulator bits 63:32. -/
  | awrh (x : Site) (aa dx : Nat)
  /-- AWRG (R223). Write accumulator guard bits. -/
  | awrg (x : Site) (aa dx : Nat)
  /-- LD (R226). Load a word into a D register. -/
  | ld (x : Site) (reg pn mode off : Nat)
  /-- ST (R226). Store a D register word. -/
  | st (x : Site) (reg pn mode off : Nat)
  /-- STS (R226). Store an accumulator's store value. -/
  | sts (x : Site) (reg pn mode off : Nat)
  /-- LDH (R226). Load a signed halfword into the upper half. -/
  | ldh (x : Site) (reg pn mode off : Nat)
  /-- STH (R226). Store the upper halfword. -/
  | sth (x : Site) (reg pn mode off : Nat)
  /-- LDP (R226). Load a word into a pointer register. -/
  | ldp (x : Site) (reg pn mode off : Nat)
  /-- BR (R229). PC-relative branch with two delay slots. -/
  | br (x : Site) (disp : Nat)
  /-- CALL (R229). Branch saving the return address in RA. -/
  | call (x : Site) (disp : Nat)
  /-- RET (R229). Return to RA. -/
  | ret (x : Site)
  /-- RETI (R233). Return from interrupt restoring ST. -/
  | reti (x : Site)
  /-- EI (R229). Enable interrupts. -/
  | ei (x : Site)
  /-- DI (R229). Disable interrupts. -/
  | di (x : Site)
  /-- HALT (R229). Stop the core, bench mode only. -/
  | halt (x : Site)
  /-- BZ (R229). Branch if D is zero. -/
  | bz (x : Site) (d disp : Nat)
  /-- BNZ (R229). Branch if D is nonzero. -/
  | bnz (x : Site) (d disp : Nat)
  /-- BLTZ (R229). Branch if D is negative. -/
  | bltz (x : Site) (d disp : Nat)
  /-- BGEZ (R229). Branch if D is not negative. -/
  | bgez (x : Site) (d disp : Nat)
  /-- LOOP0 (R231). Start hardware loop 0 with a count from D. -/
  | loop0 (x : Site) (d len : Nat)
  /-- LOOP1 (R231). Start hardware loop 1 with a count from D. -/
  | loop1 (x : Site) (d len : Nat)
  /-- LOOPI0 (R231). Start hardware loop 0 with an immediate count. -/
  | loopi0 (x : Site) (count len : Nat)
  /-- LOOPI1 (R231). Start hardware loop 1 with an immediate count. -/
  | loopi1 (x : Site) (count len : Nat)
  /-- MOVS (R230). Write a special register from D. -/
  | movs (x : Site) (d special : Nat)
  /-- MOVD (R230). Read a special register into D. -/
  | movd (x : Site) (d special : Nat)
  /-- INTERRUPT_ENTRY (R232). A bench core takes an enabled interrupt at a bundle boundary. -/
  | interruptEntry (core : Nat)
  /-- KERNEL_BUDGET_END (R238). A kernel reaches BUDGET budget cycles without completing and is ended. -/
  | kernelBudgetEnd (core : Nat)
  /-- KERNEL_LOAD (R239). MILLC_KCMD LOAD checks and places a kernel image in a slot. -/
  | kernelLoad (cluster slot : Nat)
  /-- KERNEL_UNLOAD (R239). MILLC_KCMD UNLOAD frees a kernel slot. -/
  | kernelUnload (cluster slot : Nat)
  /-- KERNEL_LOAD_DONE (R239). A kernel command completes and MILLC_KRESULT is posted. -/
  | kernelLoadDone (cluster : Nat)
  /-- BENCH_ENABLE (R240). A write of MILLC_BENCH_SEL.ENABLE puts a core in or out of bench mode. -/
  | benchEnable (cluster core : Nat) (enable : Bool)
  /-- BENCH_START (R240). MILLC_BENCH_CMD START runs the bench core from MILLC_BENCH_PC. -/
  | benchStart (cluster : Nat)
  /-- BENCH_HALT (R240). MILLC_BENCH_CMD HALT stops the bench core. -/
  | benchHalt (cluster : Nat)
  /-- BENCH_MBX (R240). MILLC_BENCH_CMD MBX sets ICAUSE.MBX. -/
  | benchMbx (cluster : Nat)
  /-- MILL_SLOT_WRITE (R241). A BAR0 write into a core's memory slot reaches data or program memory. -/
  | millSlotWrite (core off : Nat) (w : Word)
  /-- REEVE_FLOW_SEL (R298). A write of REEVE_FLOW_SEL starts a fetch of a flow's state. -/
  | reeveFlowSel (flow : Nat)
  /-- PROG_LOAD (R186). AUDIO_PROG_CMD LOAD validates an image and copies it to the shadow bank. -/
  | progLoad
  /-- PROG_LOAD_DONE (R186). A LOAD finishes and AUDIO_PROG_RESULT is posted. -/
  | progLoadDone
  /-- PROG_ACTIVATE (R186). AUDIO_PROG_CMD ACTIVATE schedules the shadow program for the next tick. -/
  | progActivate
  /-- PROG_DISCARD (R186). AUDIO_PROG_CMD DISCARD empties the shadow bank. -/
  | progDiscard
  /-- AUDIO_PATH_SNK (R180). A write of AUDIO_PATH_SNK starts a fetch of a path latency. -/
  | audioPathSnk (kind index : Nat)
  /-- AUDIO_METER_SEL (R181). A write of AUDIO_METER_SEL starts a fetch of a meter. -/
  | audioMeterSel (kind index : Nat)
  /-- AUDIO_SEAT_SEL (R182). A write of AUDIO_SEAT_SEL starts a fetch of a conference's seats. -/
  | audioSeatSel (conf : Nat)
  /-- RECALL_PLAY (R193). AUDIO_RPn_CMD PLAY starts a recall player at the next tick. -/
  | recallPlay (player : Nat)
  /-- RECALL_STOP (R193). AUDIO_RPn_CMD STOP stops a recall player. -/
  | recallStop (player : Nat)
  /-- VDE0_STR_SEL (R253). A write of VDE0_STR_SEL starts a fetch of a stream's decode state. -/
  | vde0StrSel (vstr : Nat)
  /-- CMP0_LAY_SEL (R266). A write of CMP0_LAY_SEL starts a fetch of a layout and layer state. -/
  | cmp0LaySel (lay layer : Nat)
  /-- VEE0_EC_SEL (R287). A write of VEE0_EC_SEL starts a fetch of an ECOMP layer's state. -/
  | vee0EcSel (ecomp s t : Nat)
  /-- TASK_SUBMIT (R309). A producer port submits a task to a free Reeve slot or stalls. -/
  | taskSubmit (typ port key : Nat) (second : Bool) (cluster : Nat)
  /-- TASK_DISPATCH (R301). In a cycle with idle engines and ready tasks Reeve pairs tasks with engines and grants leases. -/
  | taskDispatch
  /-- TASK_COMPLETE (R304). An engine completes a task; its result is held or released in flow order. -/
  | taskComplete (engine : Nat) (facts : TaskFacts)
  /-- ENGINE_FAULT (R306). An engine reports a fault; it is reset and fenced and its task is re-queued. -/
  | engineFault (engine cause : Nat)
  /-- WATCHDOG_EXPIRE (R306). A task runs longer than REEVE_CFG.WDOG and its engine faults. -/
  | watchdogExpire (engine : Nat)
  /-- ENGINE_RESET_DONE (R306). A faulted engine's reset completes and it becomes idle. -/
  | engineResetDone (engine : Nat)
  /-- TASK_CANCEL_STOP (R308). A cancelled running engine stops at its next internal boundary. -/
  | taskCancelStop (engine : Nat)
  /-- KAT_CHUNK (R452). An idle engine runs a known-answer test chunk. -/
  | katChunk (engine chunk : Nat) (done pass : Bool)
  /-- TEST_OVERDUE (R452). An engine has not completed its test set for 10 s. -/
  | testOverdue (engine : Nat)
  /-- FRAME_BOUNDARY (R19). A layout's frame tick falls; commits due there take effect and a COMPOSE task is submitted. -/
  | frameBoundary (lay : Nat)
  /-- HARD_LIMIT_EXPIRE (R23). A stage's hard limit passes and the substitute of R22 is used for any missing input. -/
  | hardLimitExpire (slot : Nat) (quarter : Option TaskFacts)
  /-- BINATH_LANE_LOCK (R314). All four lanes lock and deskew; the link enters CHECK. -/
  | binathLaneLock (link : Nat)
  /-- BINATH_TRAIN_TIMEOUT (R314). 20 ms without lock restarts training. -/
  | binathTrainTimeout (link : Nat)
  /-- BINATH_IDENT_RX (R315). IDENT flits are exchanged and the link goes UP, REFUSED or MISMATCH. -/
  | binathIdentRx (link : Nat) (ident : Ident)
  /-- BINATH_LOCK_LOST (R314). Block lock is lost on a lane and the link retrains. -/
  | binathLockLost (link lane : Nat)
  /-- BINATH_FLIT_TIMEOUT (R314). 1 µs with no flit received sends the link back to TRAINING. -/
  | binathFlitTimeout (link : Nat)
  /-- BINATH_FLIT_RX (R320). A flit is received, checked and delivered in order or discarded. -/
  | binathFlitRx (link : Nat) (flit : FlitRx)
  /-- BINATH_NAK_RX (R320). A NAK starts a replay from the named SEQ. -/
  | binathNakRx (link seq : Nat)
  /-- BINATH_REPLAY_TIMEOUT (R320). The oldest unacknowledged flit waits 4 µs and is replayed. -/
  | binathReplayTimeout (link : Nat)
  /-- BINATH_FLIT_TX (R319). The sender serves replay, VC0, VC1, then VC2 and VC3 for the next flit. -/
  | binathFlitTx (link : Nat)
  /-- TOPO_SEND (R323). Every 100 µs a TOPO flit is sent on each UP, STANDBY and REFUSED link. -/
  | topoSend (link : Nat)
  /-- TOPO_RX (R323). A received TOPO flit updates depth and acceptance, claims and reverts. -/
  | topoRx (link : Nat) (topo : Topo)
  /-- CLAIM_RETRY (R324). An unrooted device retries its standby claim after 100 ms. -/
  | claimRetry
  /-- FABRIC_REVERT_HOLD_EXPIRE (R326). LINK0 up with a rooted peer for HOLD seconds; the device schedules a revert. -/
  | fabricRevertHoldExpire
  /-- TIME_EXCHANGE_START (R327). 200,000 ns after each tick boundary the initiator sends TIME_REQ. -/
  | timeExchangeStart (link : Nat)
  /-- TIME_REQ_RX (R327). The responder stamps TIME_REQ and sends TIME_RESP. -/
  | timeReqRx (link : Nat)
  /-- TIME_RESP_RX (R327). The initiator computes delay and offset from the exchange. -/
  | timeRespRx (link : Nat) (t2 t3 : Int) (parentValid : Bool)
  /-- HEARTBEAT_SEND (R355). Every 100 µs a twin sends a heartbeat on LINK3, pins and LAN. -/
  | heartbeatSend
  /-- HEARTBEAT_RX (R355). A heartbeat arrives on one path from the partner. -/
  | heartbeatRx (path : Nat) (content : Option Heartbeat)
  /-- HB_INTERVAL_END (R355). A heartbeat interval ends; misses are counted and paths go up or down. -/
  | hbIntervalEnd
  /-- PAIR_WAIT_EXPIRE (R341). PAIR_WAIT elapses in PAIRING and the device becomes SOLE. -/
  | pairWaitExpire
  /-- JUNIOR_TICK_EXECUTE (R348). The junior executes a logical tick once its mark and inputs are present. -/
  | juniorTickExecute (packets : List RxPkt) (frames : List (Nat × CFrame)) (copies : List Machine.LegCopy)
  /-- STALL (R348). LAG_LIMIT passes without the tick's inputs; the junior enters SILENT. -/
  | stall
  /-- MATCH_STORE_EXPIRE (R347). A packet held 50 ms in the match store is discarded. -/
  | matchStoreExpire
  /-- DIGEST_COMPARE (R352). The junior compares its group digests with the senior's once its releases of T complete. -/
  | digestCompare (tick : Nat) (fetched : List (Nat × Nat))
  /-- RESYNC_COPY_DONE (R359). The full state copy arrives and catch-up begins. -/
  | resyncCopyDone (snap : Machine.Snapshot)
  /-- CATCHUP_DONE (R359). Catch-up reaches the target lag and the device becomes JUNIOR. -/
  | catchupDone
  /-- RESYNC_COPY_TIMEOUT (R341). A copy not complete in 10 s sends the device to SILENT. -/
  | resyncCopyTimeout
  /-- RESYNC_RETRY (R359). 10 s after a failure the resynchronisation retries. -/
  | resyncRetry
  /-- TWIN_REVERT_HOLD_EXPIRE (R361). The partner has been JUNIOR for REVERT_HOLD and an automatic revert starts. -/
  | twinRevertHoldExpire
  /-- TWIN_CMD_REVERT (R361). TWIN_CMD REVERT starts a revert. -/
  | twinCmdRevert
  /-- TWIN_CMD_RESYNC (R346). TWIN_CMD RESYNC forces a JUNIOR to SILENT then RESYNC. -/
  | twinCmdResync
  /-- DRAM_READ (R368). A read of a line is decoded, corrected or returned poisoned. -/
  | dramRead (addr port ident : Nat) (errs : List (Nat × Nat × Byte)) (use : DramUse)
  /-- DRAM_WRITE (R373). A write is accepted into the channel's write queue and acknowledged. -/
  | dramWrite (addr port ident : Nat) (data : List Byte) (errs : List (Nat × Nat × Byte))
  /-- SCRUB_READ (R369). Patrol scrub reads and corrects the next line. -/
  | scrubRead (ch : Nat) (errs : List (Nat × Nat × Byte))
  /-- REFRESH_DUE (R374). A refresh falls due every tREFI and is issued or postponed. -/
  | refreshDue (ch rank : Nat) (queued : Bool)
  /-- REFRESH_RATE_POLL (R374). Every 16 ms the controller reads MR4, sets the refresh rate and checks DQS drift. -/
  | refreshRatePoll (ch : Nat) (mr4 : List Nat) (drift : Bool)
  /-- ZQ_CAL_START (R381). Every 128 ms a rank receives ZQCal Start. -/
  | zqCalStart (ch rank : Nat)
  /-- ZQ_CAL_LATCH (R381). 1 µs later the rank receives ZQCal Latch. -/
  | zqCalLatch (ch rank : Nat)
  /-- SELF_REFRESH_ENTER (R376). The entry command puts every channel in self-refresh. -/
  | selfRefreshEnter
  /-- SELF_REFRESH_EXIT (R376). A channel leaves self-refresh and restarts its refresh schedule. -/
  | selfRefreshExit (ch : Nat)
  /-- WEIR_WINDOW (R378). A 1 µs Weir window begins and port counts restart. -/
  | weirWindow
  /-- WEIR_FENCE (R379). Reeve or Epanis fences a requester identity or port. -/
  | weirFence (port : Nat) (ident : Option Nat)
  /-- FENCE_EMPTY (R379). No transaction of a fenced identity remains; the fence reports EMPTY. -/
  | fenceEmpty (port : Nat) (ident : Option Nat) (aborted : Nat)
  /-- FENCE_TIMEOUT (R379). A fence not empty within 10 µs is DEVICE_FATAL. -/
  | fenceTimeout (port : Nat) (ident : Option Nat)
  /-- DRAM_LOG_POP (R372). A read of DDRCn_LOG_POP removes the oldest log entry. -/
  | dramLogPop (ch : Nat)
  /-- DDRC_DEV_SEL (R368). A write of DDRCn_DEV_SEL starts a fetch of a device position's count. -/
  | ddrcDevSel (ch rank sub dev : Nat)
  /-- WEIR_FENCE_SEL (R379). A write of WEIR_FENCE_SEL starts a fetch of a fence state. -/
  | weirFenceSel (port ident : Nat)
  /-- KEYSTORE_LOAD (R386). KEYSTORE_CMD LOAD derives session keys into an EMPTY context. -/
  | keystoreLoad (index : Nat)
  /-- KEYSTORE_LOAD_WRAPPED (R386). KEYSTORE_CMD LOAD_WRAPPED unwraps a record and loads it. -/
  | keystoreLoadWrapped (index wslot : Nat)
  /-- KEYSTORE_ERASE (R386). KEYSTORE_CMD ERASE empties a COLD context. -/
  | keystoreErase (index : Nat)
  /-- KEYSTORE_CMD_DONE (R386). A key-store command completes and KEYSTORE_RESULT is posted. -/
  | keystoreCmdDone
  /-- KEYSTORE_SEL (R384). A write of KEYSTORE_SEL starts a fetch of a context state. -/
  | keystoreSel (index : Nat)
  /-- CIPHER_LOCK_REQUEST (R391). A user requests the cipher lock, URGENT or NORMAL. -/
  | cipherLockRequest (user : Nat) (urgent : Bool)
  /-- CIPHER_LOCK_RELEASE (R391). The lock owner releases the cipher lock. -/
  | cipherLockRelease (user : Nat)
  /-- CIPHER_LOCK_GRANT (R391). A free lock is granted to the next waiting request or a suspended job resumes. -/
  | cipherLockGrant
  /-- CIPHER_GCM_ENCRYPT (R392). A host job performs AES-GCM encryption. -/
  | cipherGcmEncrypt (slot : Nat)
  /-- CIPHER_GCM_DECRYPT (R392). A host job performs AES-GCM decryption. -/
  | cipherGcmDecrypt (slot : Nat)
  /-- CIPHER_CTR_ENCRYPT (R392). A host job performs AES-CTR encryption. -/
  | cipherCtrEncrypt (slot : Nat)
  /-- CIPHER_CTR_DECRYPT (R392). A host job performs AES-CTR decryption. -/
  | cipherCtrDecrypt (slot : Nat)
  /-- CIPHER_CBC_ENCRYPT (R392). A host job performs AES-CBC encryption. -/
  | cipherCbcEncrypt (slot : Nat)
  /-- CIPHER_CBC_DECRYPT (R392). A host job performs AES-CBC decryption. -/
  | cipherCbcDecrypt (slot : Nat)
  /-- CIPHER_KEY_WRAP (R392). A host job wraps a key under RFC 3394. -/
  | cipherKeyWrap (slot : Nat)
  /-- CIPHER_KEY_UNWRAP (R392). A host job unwraps a key under RFC 3394. -/
  | cipherKeyUnwrap (slot : Nat)
  /-- CIPHER_KEY_WRAP_PAD (R392). A host job wraps a key under RFC 5649. -/
  | cipherKeyWrapPad (slot : Nat)
  /-- CIPHER_KEY_UNWRAP_PAD (R392). A host job unwraps a key under RFC 5649. -/
  | cipherKeyUnwrapPad (slot : Nat)
  /-- CIPHER_SHA256 (R392). A host job computes SHA-256. -/
  | cipherSha256 (slot : Nat)
  /-- CIPHER_SHA384 (R392). A host job computes SHA-384. -/
  | cipherSha384 (slot : Nat)
  /-- CIPHER_HMAC (R392). A host job computes an HMAC. -/
  | cipherHmac (slot : Nat)
  /-- CIPHER_JOB_DONE (R392). A cipher job finishes its last block and posts its result. -/
  | cipherJobDone
  /-- CIPHER_JOB_SUSPEND (R393). A NORMAL job is suspended at a block boundary for an URGENT request. -/
  | cipherJobSuspend
  /-- CIPHER_JOB_RESUME (R393). A suspended job's state is restored and it continues. -/
  | cipherJobResume
  /-- CIPHER_TAG_ZEROISED (R395). After a tag failure the zeroed DST is acknowledged and E_TAGFAIL posted. -/
  | cipherTagZeroised
  /-- CIPHER_SLOT_LOAD (R390). CIPHER_SLOT_CMD LOAD loads a slot from CIPHER_KEYIN. -/
  | cipherSlotLoad (slot user kind : Nat) (kek : Bool)
  /-- CIPHER_SLOT_LOAD_WRAPPED (R390). CIPHER_SLOT_CMD loads a slot by unwrapping under WSLOT. -/
  | cipherSlotLoadWrapped (slot wslot user kind : Nat) (kek : Bool)
  /-- CIPHER_SLOT_ERASE (R390). CIPHER_SLOT_CMD ERASE empties a slot. -/
  | cipherSlotErase (slot : Nat)
  /-- CIPHER_SLOT_SEL (R390). A write of CIPHER_SLOT_SEL starts a fetch of a slot's attributes. -/
  | cipherSlotSel (slot : Nat)
  /-- ALARM_TRIP (R399). An alarm source trips; keys are zeroised, jobs stopped, legs halted. -/
  | alarmTrip (source : Nat)
  /-- ALARM_ZEROISE (R398). ALARM_CMD.ZEROISE trips the HOST alarm source. -/
  | alarmZeroise
  /-- SVN_ADVANCE (R402). ALARM_SVN_CMD raises the anti-rollback counter to the running SVN. -/
  | svnAdvance
  /-- DRBG_RESEED (R397). The DRBG reseeds after its request count. -/
  | drbgReseed
  /-- BAR2_READ (R407). A host read through the BAR2 window returns device DRAM data. -/
  | bar2Read (offset len : Nat)
  /-- BAR2_WRITE (R407). A host write through the BAR2 window writes device DRAM or is discarded. -/
  | bar2Write (offset : Nat) (data : List Byte)
  /-- MSIX_VECTOR_UNMASK (R408). Unmasking a vector with its pending bit set sends one message. -/
  | msixVectorUnmask (vector : Nat) (enable funcMask : Bool)
  /-- PCIE_LINK_DOWN (R409). The PCIe link leaves L0; DMA halts and taps stop. -/
  | pcieLinkDown
  /-- PCIE_LINK_UP (R405). The PCIe link returns to L0. -/
  | pcieLinkUp (width speed : Nat)
  /-- FUNCTION_LEVEL_RESET (R409). A Function Level Reset disables every DMA channel and resets host-side state. -/
  | functionLevelReset
  /-- DMA_ENABLE (R415). DMA_CHc_CTRL.ENABLE written 1 takes a channel to IDLE. -/
  | dmaEnable (ch : Nat)
  /-- DMA_DISABLE (R415). DMA_CHc_CTRL.ENABLE written 0 takes a channel to DISABLED. -/
  | dmaDisable (ch : Nat)
  /-- DMA_TAIL_WRITE (R415). A write of DMA_CHc_TAIL makes descriptors ready. -/
  | dmaTailWrite (ch tail : Nat)
  /-- DMA_RUN (R415). DMA_CHc_CMD RUN restarts a stopped channel. -/
  | dmaRun (ch : Nat)
  /-- DMA_ABORT (R416). DMA_CHc_CMD ABORT stops an active channel after its bursts in flight. -/
  | dmaAbort (ch : Nat)
  /-- DMA_RESUME (R417). DMA_CHc_CMD RESUME retries failed bursts of a halted channel. -/
  | dmaResume (ch : Nat)
  /-- DMA_ABANDON (R417). DMA_CHc_CMD ABANDON completes the halted descriptor BUS_ERR. -/
  | dmaAbandon (ch : Nat)
  /-- DMA_DESCRIPTOR_FETCH (R412). A channel fetches and checks the next descriptor. -/
  | dmaDescriptorFetch (ch : Nat)
  /-- DMA_BURST_START (R413). The rate limiter allows the channel's next burst to start. -/
  | dmaBurstStart (ch : Nat)
  /-- DMA_BURST_COMPLETE (R413). A burst's data has all arrived and is written. -/
  | dmaBurstComplete (ch burst : Nat)
  /-- DMA_BUS_ERROR (R417). A burst fails with a bus error and the channel halts. -/
  | dmaBusError (ch burst cause : Nat)
  /-- DMA_ERR_AT_END (R418). The last beat of a descriptor's final burst fails. -/
  | dmaErrAtEnd (ch cause : Nat)
  /-- DMA_DESCRIPTOR_COMPLETE (R414). A descriptor completes and is written back in ring order. -/
  | dmaDescriptorComplete (ch : Nat)
  /-- PULSE_CROSSING_ISSUE (R422). A pulse enters a crossing as a request or is counted. -/
  | pulseCrossingIssue (island : Nat)
  /-- PULSE_CROSSING_ACK (R423). A crossing's acknowledge arrives and any counted pulses become a new request. -/
  | pulseCrossingAck (island : Nat) (pulse : Bool)
  /-- ISLAND_RESET (R430). One side of a crossing is reset or stops its clock and the crossing is flushed. -/
  | islandReset (island writes : Nat)
  /-- ISLAND_RESYNC (R430). Both sides run again, resynchronise and LINKED rises. -/
  | islandResync (island : Nat)
  /-- GOVERNOR_DECIDE (R437). Once per tick the governor chooses each cluster's operating point and gating. -/
  | governorDecide (targets : List Nat) (power : Nat)
  /-- AVS_VOLTAGE_WRITE (R435). The controller writes a rail voltage over AVSBus. -/
  | avsVoltageWrite (rail : Nat)
  /-- AVS_STATUS_POLL (R435). Every 2 µs the controller reads VDone of the rail. -/
  | avsStatusPoll (rail : Nat) (vdone : Bool)
  /-- AVS_SETTLE_TIMEOUT (R436). A rail without VDone in 2 ms has failed to settle. -/
  | avsSettleTimeout (rail : Nat)
  /-- PLL_LOCK (R434). The cluster PLL locks and the clock switches to it. -/
  | pllLock (domain : Nat)
  /-- PLL_LOCK_TIMEOUT (R436). A PLL not locked in 200 µs fails its attempt. -/
  | pllLockTimeout (domain : Nat)
  /-- CLUSTER_WAKE_ON_TASK (R437). A READY task needing a gated cluster wakes it within 1 µs. -/
  | clusterWakeOnTask (cluster : Nat)
  /-- STATE_QUIET (R439). PWR_STATE_CMD QUIET requests the QUIET state. -/
  | stateQuiet
  /-- STATE_DEEP (R439). PWR_STATE_CMD DEEP requests the DEEP state. -/
  | stateDeep
  /-- STATE_WAKE (R439). PWR_STATE_CMD WAKE requests a return to ACTIVE. -/
  | stateWake
  /-- ENTRY_COMPLETE (R440). Entry to QUIET or DEEP completes, or a held wake begins. -/
  | entryComplete
  /-- WAKE_COMPLETE (R442). Every target domain is up and the device becomes ACTIVE at the next boundary. -/
  | wakeComplete
  /-- DOMAIN_OFF (R444). PWR_DOM_CMD OFF powers down one out-of-service domain. -/
  | domainOff (domain : Nat)
  /-- DOMAIN_WAKE (R444). PWR_DOM_CMD WAKE powers up one domain. -/
  | domainWake (domain : Nat)
  /-- MEM_IDLE_EXPIRE (R441). MEM_IDLE µs without a request returns channels to self-refresh. -/
  | memIdleExpire
  /-- PAGE_RESET (R30). A write of PG_CTRL.RESET starts a reset of the page's block. -/
  | pageReset (page : Nat) (enable quiesce : Bool)
  /-- PAGE_RESET_COMPLETE (R30). A page reset completes within 100 µs and RESET reads 0 again. -/
  | pageResetComplete (page : Nat)
  /-- QUIESCE_SET (R30). A write of PG_CTRL.QUIESCE makes the block accept no new work. -/
  | quiesceSet (page : Nat) (enable : Bool)
  /-- QUIESCE_DONE (R30). The last accepted work of a quiescing block completes and QUIESCED rises. -/
  | quiesceDone (page : Nat)
  /-- SRAM_SCRUB (R451). Epanis scrubs an on-chip SRAM and rewrites corrected errors. -/
  | sramScrub (corrected : Nat) (ue : Option SramUe)
  /-- CRIER_RECORD (R454). Every 100 ms Crier composes and writes a health record. -/
  | crierRecord (temps : List Int)
  /-- CRIER_RELAY (R456). At t + 50 ms the master writes relayed records to the fabric ring. -/
  | crierRelay
  /-- SERVICE_OUT (R457). FAULT_SVC_CMD OUT takes a target out of service. -/
  | serviceOut (typ index : Nat) (targets : List Nat)
  /-- SERVICE_IN (R457). FAULT_SVC_CMD IN tests and returns a target to service. -/
  | serviceIn (typ index : Nat)
  /-- SERVICE_HOLD (R457). FAULT_SVC_CMD HOLD takes a target out of service and keeps it powered. -/
  | serviceHold (typ index : Nat) (targets : List Nat)
  /-- SERVICE_DONE (R457). A service operation completes and FAULT_SVC_RESULT is posted. -/
  | serviceDone (failed : Option (Nat × Nat))
  /-- MILL_CONTEXT_COPY_DONE (R458). A moved key's context copy completes and its first task may become READY. -/
  | millContextCopyDone (flow : Nat)
  /-- FW_STAGE (R459). FAULT_FW_CMD STAGE verifies an image and writes it to the spare flash slot. -/
  | fwStage
  /-- FW_STAGED (R459). A staging completes and FAULT_FW_RESULT is posted. -/
  | fwStaged
  /-- FW_ACTIVATE (R460). FAULT_FW_CMD ACTIVATE schedules the staged image for boundary T. -/
  | fwActivate
  /-- DEVICE_FATAL (R461). A fatal cause is detected; release stops, heartbeats stop and the dump begins. -/
  | deviceFatal (cause obj : Nat)
  /-- EPANIS_WATCHDOG (R461). An Epanis core fails its 10 ms AON watchdog. -/
  | epanisWatchdog
  /-- DUMP_COMPLETE (R462). The dump is written and FAULT_N asserts. -/
  | dumpComplete (hostOk : Bool)
  /-- FATAL_DEADLINE (R461). 100 ms after detection FAULT_N asserts whatever the dump. -/
  | fatalDeadline
  /-- FAULT_LOG_POP (R463). A read of FAULT_LOG_POP removes the oldest fault log entry. -/
  | faultLogPop
  /-- LIFE_ACCUMULATE (R464). Each second Epanis adds equivalent life to FAULT_LIFE. -/
  | lifeAccumulate (temp : Int)
  /-- LIFE_SAVE (R464). Every hour the life total is saved to flash. -/
  | lifeSave
  /-- POWER_ON_RESET (R467). VDD_AON below its valid level resets the whole device. -/
  | powerOnReset
  /-- RESET_N_ASSERT (R468). RESET_N held low resets the device and idles its outputs. -/
  | resetNAssert (low : Nat)
  /-- RESET_N_RELEASE (R468). RESET_N rises; straps are sampled and the boot begins. -/
  | resetNRelease (straps : Straps)
  /-- WARM_RESET (R471). GLOBAL_RESET WARM resets every domain except AON and reruns boot from step 3. -/
  | warmReset (key : Nat)
  /-- PERST_N_ASSERT (R469). PERST_N resets the endpoint and retrains the link. -/
  | perstNAssert
  /-- BOOT_STAGE_COMPLETE (R473). A boot step finishes and the next begins, or the boot fails. -/
  | bootStageComplete (found : BootFacts)
  /-- RECOVERY_GO (R476). GLOBAL_BOOT_CMD.GO checks a recovery image and continues the boot. -/
  | recoveryGo
  /-- SMBUS_TEMPERATURE (R494). SMBus command 0x01 returns the highest junction temperature. -/
  | smbusTemperature
  /-- SMBUS_BOOT_STAGE (R494). SMBus command 0x02 returns the boot stage. -/
  | smbusBootStage
  /-- SMBUS_FATAL_CAUSE (R494). SMBus command 0x03 returns the fatal cause. -/
  | smbusFatalCause
  /-- SMBUS_ALARM_STATUS (R494). SMBus command 0x04 returns the alarm status. -/
  | smbusAlarmStatus
  /-- SMBUS_POWER (R494). SMBus command 0x05 returns the power estimate. -/
  | smbusPower
  /-- SMBUS_PART (R494). SMBus command 0x06 returns the part number. -/
  | smbusPart
  /-- SMBUS_ALERT_RESPONSE (R494). The device answers the SMBus Alert Response Address while alerting. -/
  | smbusAlertResponse
  /-- JTAG_BYPASS (R496). JTAG BYPASS instruction. -/
  | jtagBypass
  /-- JTAG_SAMPLE_PRELOAD (R496). JTAG SAMPLE/PRELOAD instruction. -/
  | jtagSamplePreload (balls : Nat)
  /-- JTAG_EXTEST (R496). JTAG EXTEST drives the balls and stops media. -/
  | jtagExtest (drive : Nat)
  /-- JTAG_IDCODE (R496). JTAG IDCODE returns the identification code. -/
  | jtagIdcode
  /-- PERST_N_RELEASE (R474). PERST_N rises; the endpoint leaves reset, the link retrains and Configuration Requests are answered within 100 ms. -/
  | perstNRelease
  /-- HIGHEST_JUNCTION_SENSOR_CROSSING (R497). The highest junction sensor crosses 100 °C, so GPIO0 and I2C_ALERT_N change level. -/
  | highestJunctionSensorCrossing (temp : Int)
  /-- AUDIO_TICK_BOUNDARY (R20). At each 1 ms Belfry tick boundary the device applies due commands, swaps bank queues, activates a waiting program, commits coinciding layouts and hands the tick's tasks to Reeve. -/
  | audioTickBoundary (fwReady : Bool)
  /-- REGISTER_WRITE (R33). A host write to a register with no behaviour of its own is validated and applied or rejected. -/
  | registerWrite (addr : Nat) (w : Word) (facts : WriteFacts)
  /-- MISALIGNED_ACCESS (R32). A BAR0 access of the wrong size or alignment is discarded with E_ALIGN or returns 0. -/
  | misalignedAccess (addr : Nat) (write : Bool)
  /-- UNMAPPED_WRITE (R41). A write to an unmapped BAR0 address is discarded and recorded in GLOBAL_BADADDR. -/
  | unmappedWrite (addr : Nat)
  /-- PAIR_LO_READ (R36). A read of a _LO register captures the whole 64-bit pair for the reader. -/
  | pairLoRead (r : Reader) (addr : Nat)
  /-- PAIR_HI_WRITE (R36). A write of _HI applies the held _LO and _HI as one 64-bit value. -/
  | pairHiWrite (addr : Nat) (w : Word)
  /-- GLOBAL_FENCE_READ (R37). A read of GLOBAL_FENCE waits for all earlier host writes to take effect. -/
  | globalFenceRead
  /-- FENCE_READ_COMPLETE (R429). Every earlier write has taken effect and the fence read returns the short time. -/
  | fenceReadComplete
  /-- RESULT_FETCH_COMPLETE (R35). A fetch started by a selector write completes and its result registers post a new GEN. -/
  | resultFetchComplete (sel : Nat)
  /-- GATE_CREATE (R46). GATE_CMD CREATE copies the staged record and submits it for validation. -/
  | gateCreate (table index : Nat)
  /-- GATE_MODIFY (R46). GATE_CMD MODIFY submits a change of an index in use. -/
  | gateModify (table index : Nat)
  /-- GATE_DELETE (R46). GATE_CMD DELETE submits removal of an index not referenced by a live object. -/
  | gateDelete (table index : Nat)
  /-- GATE_READ (R46). GATE_CMD READ copies the effective record to the readback window. -/
  | gateRead (table index : Nat)
  /-- GATE_TXN_OPEN (R47). GATE_CMD TXN_OPEN opens a transaction. -/
  | gateTxnOpen
  /-- GATE_TXN_COMMIT (R47). GATE_CMD TXN_COMMIT commits the open transaction's records to one boundary. -/
  | gateTxnCommit
  /-- GATE_TXN_ABORT (R47). GATE_CMD TXN_ABORT discards the open transaction's records. -/
  | gateTxnAbort
  /-- GATE_ACCEPTANCE (R43). The gate finishes validation and posts GATE_RESULT and GATE_EFFECT within 50 µs. -/
  | gateAcceptance
  deriving DecidableEq, Repr

end Sys2Proof
end

