-- ==== Sys2Proof/Config.lean ====
section
/-! DEFINITION. What an implementation or a board fixes, and the free values. A plain definition is a value this model
names where the spec gives none (each with its log entry); an `opaque` constant is a free value: nothing in Lean can
evaluate it, so a statement about it holds for every value. -/

namespace Sys2Proof.Config

/-! Values the model names for registers whose reset value the spec gives as "per part", "strap", "per board",
"per flash", "per boot" or "per OTP" (log entry 3). -/

/-- GLOBAL_REV.REV of State.reset: 0x0, silicon A0. -/
def siliconRev : Nat := 0
/-- The straps of State.reset (RESET_N_RELEASE latches the board's). -/
def strapFabricMaster : Bool := false
def strapTwinSenior : Bool := false
def strapTwinEn : Bool := false
def strapBootSel : Nat := 0
/-- GLOBAL_MEDIA of State.reset: no media region before boot step 5 places it. -/
def mediaBaseReset : Nat := 0
def mediaSizeReset : Nat := 0
def mediaFreeReset : Nat := 0

/-! Free values (each has its log entry). -/

/-- The servo's ADDEND after a sample (R53 gives no control law; R54 clamps it), by the free-value counter. -/
opaque servoAddend : Nat → Int
/-- clockClass of an Announce that reports HOLDOVER (R53 gives no value). -/
opaque holdoverClass : BitVec 8
/-- How far the switch to or from the internal oscillator moves the clock, in ns; R52 bounds it to ±2. -/
opaque oscSwitch : Nat → Int

/-- What Epanis gives the device-managed queues (R158, R159): a number per queue from which the least cells of it and of those before it follow, and MAX_CELLS. -/
opaque deviceCells : Nat → BitVec 16
opaque deviceQueueCap : Nat → Nat

/-- The domain number IEC/IEEE 61850-9-3 (PROFILE 2) and IEEE C37.238 (PROFILE 3) fix (R56), which the spec does not restate. -/
opaque ptpDomain : Nat → BitVec 8

/-- The calibrated latencies Epanis loads for a port's mode (R59, R67), by port and mode, in 2⁻⁴ ns. -/
opaque calTx : Nat → Nat → Nat
opaque calRx : Nat → Nat → Nat

/-- Bytes a PTP frame is longer than 64, by kind of message and transport (IEEE 1588 lays the messages out). -/
opaque ptpExtra : Nat → Nat → BitVec 7

/-! Codecs that the spec leaves to a named standard (R195 to R201): functions of what a codec is given and of its state, which is a number here. A decoder is given
a payload (kind 0), a missing frame (kind 1), or the payload that carries LBRR for it (kind 2). -/

/-- The 16-bit linear sample i of a channel that a decoder puts out, by codec, state, kind and payload; and the decoder's state after it. -/
opaque decoderSample : Nat → Nat → Nat → List (BitVec 8) → Nat → Nat → BitVec 16
opaque decoderNext : Nat → Nat → Nat → List (BitVec 8) → Nat → Nat

/-- Whether an Opus payload carries LBRR data, and whether it fails to decode. -/
opaque opusLbrr : List (BitVec 8) → Bool
opaque opusFails : List (BitVec 8) → Bool

/-- The 16-bit linear value of a G.711 code word, by law, and the code word of a value (R196 names ITU-T G.711 and does not restate it). -/
opaque pcmExpand : Nat → Nat → BitVec 16
opaque pcmCompress : Nat → Nat → BitVec 8

/-- Byte i of a G.722 frame, or of an Opus frame after its first byte, by the encoder's settings, its state and the 16-bit samples; the bytes of an Opus frame of
variable bitrate less 1; whether the encoder classes the frame as silence; and its state after it. -/
opaque encoderByte : List Nat → Nat → List Nat → Nat → BitVec 8
opaque encoderLen : List Nat → Nat → List Nat → BitVec 10
opaque encoderSilent : List Nat → Nat → List Nat → Bool
opaque encoderNext : List Nat → Nat → List Nat → Nat

/-- The marker bit of an audio packet (R94 names RFC 3551, R139 speaks of video), by leg and RTP timestamp. -/
opaque audioMarker : Nat → Nat → Bool

/-- What the segment area of a program image decodes to: Slapel's output, whose layout the spec does not give (R178). -/
opaque segmentArea : List (BitVec 8) → ProgBody

/-- A tap of the filter of a bridge of R170, Q2.30, by the two domains and its distance from the filter's centre: the spec gives the group delay and no coefficients
(log entry 175). -/
opaque bridgeTap : Nat → Nat → Nat → BitVec 32

/-- SHA-256, which R178 and R214 name by its standard. -/
opaque sha256 : List (BitVec 8) → BitVec 256

/-- A byte of a packet an encoder produces, of its payload or of what marks its layers (R281), and the length of a dependency descriptor
less 1, by the free-value counter and the packet's place. -/
opaque encodedByte : Nat → Nat → Nat → BitVec 8
opaque descriptorLen : Nat → Nat → BitVec 7

/-- Where the runtime places a kernel activation's blocks in core data memory, in units of 64 bytes (kernelSram: in cluster SRAM), the return address it gives
in RA (R236), and the issue cycles a cluster-SRAM access stalls (R235), by the free-value counter. -/
opaque kernelBase : Nat → BitVec 9
opaque kernelSram : Nat → BitVec 15
opaque kernelReturn : Nat → BitVec 11
opaque millStall : Nat → Nat

/-- The Mill cluster and the batch Epanis names for a leg's codec work (R297). -/
opaque legCluster : Nat → Nat
opaque legBatch : Nat → Nat

/-- The cluster Slapel names for a segment (R297), by program and segment number; conference mixers by 0 and conference. -/
opaque segCluster : Nat → Nat → Nat

/-- Which of the clusters that take moved Mill work (R458) a key goes to, by move, kind of key (0 batch, 1 segment, 2 node, 3 player) and key. -/
opaque moveTarget : Nat → Nat → Nat → Nat

/-- Entropy samples of a window of 100 ms, in thousands (ALARM_HEALTH), by the free-value counter. -/
opaque entropySamples : Nat → BitVec 16

/-- 2^((T − 95) ÷ 10) s of equivalent life in 2⁻³² s (R464), for a temperature T in 0.1 °C whose exponent is no whole number. -/
opaque lifeStep : Int → Nat

/-- The RTP timestamp offset of a leg's audio (R5 fixes no start), and its first sequence number, by the free-value counter. -/
opaque audioTs : Nat → Nat
opaque audioSeq : Nat → Nat

/-- A sample of a picture decoded from its own bitstream, by stream, PICNUM, plane and place (R242 leaves decoding to the named
standards); an 8-bit sample is its low 8 bits. -/
opaque decodedSample : Nat → Nat → Nat → Nat → Nat → BitVec 10

/-- The luma a 4:2:0 chroma sample is paired with when the matrix of R269 step 3 is applied to it, by stream, PICNUM and place. -/
opaque chromaLuma : Nat → Nat → Nat → Nat → BitVec 12

/-- LEN of a control flit, less 1 and modulo 240 (R316 does not lay out the payloads of IDENT, TIME and TOPO), by the free-value counter. -/
opaque flitLen : Nat → BitVec 8

/-- ARG of LINK_DOWN when a link leaves UP for a cause R338 gives no code (refused, disabled), by the free-value counter. -/
opaque linkDownArg : Nat → BitVec 32

/-- K, less 1, of a fabric conference at a root that holds no CONF record for it (R329 names none). -/
opaque fabricK : Nat → BitVec 4

/-- The calibrated SerDes latency Epanis loads for a link (R327), in 2⁻⁴ ns. -/
opaque calLink : Nat → Nat

/-- MiB of a full state copy (R359), by the free-value counter, and the bytes of a leg's copied context (R353), at most 4 MiB. -/
opaque copyMiB : Nat → BitVec 24
opaque legCopyBytes : Nat → BitVec 22

/-- Byte i of what the SRTP engine makes of the encrypted part of a packet in clear and its tag (R99): a function of the profile, the context's keys, the index and
the packet (the ciphers are those of RFC 7714 and RFC 3711, which the spec names and does not restate; log entry 186). -/
opaque srtpByte : Nat → BitVec 1024 → Nat → Bool → List (BitVec 8) → Nat → BitVec 8

/-- What the ciphers of R392 compute, which the spec names by their standards: byte n of the output of ALG under a key, IV, AAD and input; whether a GCM tag
or an unwrap verifies; pad bytes a key unwrap with padding removes; a 64-byte record or a key unwrapped under RFC 5649, if it verifies; the SRTP keys derived from a record (R385); an ECDSA signature
over an image's header (R401); and SHA-384. -/
opaque cipherByte : Nat → List (BitVec 8) → List (BitVec 8) → List (BitVec 8) → List (BitVec 8) → Nat → BitVec 8
opaque cipherVerifies : Nat → List (BitVec 8) → List (BitVec 8) → List (BitVec 8) → List (BitVec 8) → Bool
opaque padBytes : List (BitVec 8) → List (BitVec 8) → BitVec 3
opaque unwrapPad : List (BitVec 8) → List (BitVec 8) → Option (BitVec 576)
opaque sessionKeys : Nat → BitVec 1024
opaque imageSigned : List (BitVec 8) → Bool
opaque sha384 : List (BitVec 8) → BitVec 384

/-- Whether a low pulse of RESET_N of 1 µs to 10 µs resets the device (R500), by the free-value counter. -/
opaque shortReset : Nat → Bool

/-- GATE_EFFECT of a TXN_COMMIT of no records (R47 gives it no boundary), by the free-value counter. -/
opaque emptyCommit : Nat → BitVec 64

/-- Byte n of the metadata and packet in a tap record of a packet sent (R110), and of the padding of a tap record, by the free-value counter; the code REC_STOPPED
carries after a host bus error (R109 names none). -/
opaque sentByte : Nat → Nat → BitVec 8
opaque tapPad : Nat → Nat → BitVec 8
opaque busErrorCode : BitVec 8

/-- The text of a line on UART_TXD by kind, number and instant (R495 gives no words). -/
opaque uartText : Nat → Nat → Nat → List (BitVec 8)

end Sys2Proof.Config
end

