-- ==== Sys2Proof/Machine/RegKinds.lean ====
section
/-! DEFINITION. How the register tables of spec/ are written down: access types (R31), fields, registers, pages (R40).
The operations that read these descriptions are in RegSpecs.lean. -/

namespace Sys2Proof.Machine

/-- The access types of R31; `w1all` is a W1C field that holds a count, a peak or a maximum, which writing all ones
clears (R33), and `rsv` a row whose field is written "—" (reserved). -/
inductive Access where
  | ro | rw | w1c | w1all | w1s | wo | pop | rsv
  deriving DecidableEq, Repr

/-- A named field of a register: the register's BAR0 address, the field's lowest bit and its width. -/
structure FieldRef where
  addr : Nat
  lo : Nat
  width : Nat
  deriving DecidableEq, Repr

/-- One row of a register's table: bits hi down to lo, access, reset value, least and greatest value allowed (R15),
and the ranges of encodings marked reserved (R33). -/
structure FieldRow where
  hi : Nat
  lo : Nat
  acc : Access
  reset : Nat
  min : Nat
  max : Nat
  reserved : List (Nat × Nat)
  deriving DecidableEq, Repr

/-- Which half of a 64-bit pair a register is (R36). -/
inductive PairRole where
  | none | lo | hi
  deriving DecidableEq, Repr

/-- A register: page offset, number of elements and their spacing, whether only instance 0 of the page has it, its role
in a 64-bit pair, how many low bits must be zero (else E_ALIGN), and its rows. -/
structure RegSpec where
  off : Nat
  count : Nat
  stride : Nat
  onlyInst0 : Bool
  role : PairRole
  lowZero : Nat
  rows : List FieldRow
  deriving DecidableEq, Repr

/-- A row of the page map of R40 with the registers of the page. -/
structure PageSpec where
  base : Nat
  count : Nat
  type : Nat
  regs : List RegSpec
  deriving DecidableEq, Repr

/-- A row with no limit of its own. -/
def fr (hi lo : Nat) (acc : Access) (reset : Nat) : FieldRow := ⟨hi, lo, acc, reset, 0, 2 ^ (hi - lo + 1) - 1, []⟩

/-- A row with limits or reserved encodings. -/
def fl (hi lo : Nat) (acc : Access) (reset min max : Nat) (rsv : List (Nat × Nat)) : FieldRow :=
  ⟨hi, lo, acc, reset, min, max, rsv⟩

/-- A reserved row. -/
def frv (hi lo : Nat) : FieldRow := ⟨hi, lo, .rsv, 0, 0, 0, []⟩

end Sys2Proof.Machine
end

