-- ==== Sys2Proof/Machine/RegTable.lean ====
section
/-! DEFINITION. Every register of every page as its table in spec/ gives it: offset, number of elements and their
spacing, and for each field its bits, its access (R31), its reset value, its limits (R15) and its reserved encodings
(R33). A row's reset value is 0 where the spec's table says per part, per board, per boot, per flash or by index:
`resetWord` (RegSpecs.lean) gives those. -/

namespace Sys2Proof.Machine

def specsPG : List RegSpec := [
  -- PG_ID
  ⟨0x0, 1, 0x4, false, .none, 0,
    [fr 31 16 .ro 0x0, fr 15 8 .ro 0x0, fr 7 0 .ro 0x1]⟩,
  -- PG_CTRL
  ⟨0x4, 1, 0x4, false, .none, 0,
    [frv 31 3, fr 2 2 .w1s 0x0, fr 1 1 .rw 0x0, fr 0 0 .rw 0x0]⟩,
  -- PG_STATUS
  ⟨0x8, 1, 0x4, false, .none, 0,
    [fr 31 16 .ro 0x0, frv 15 4, fr 3 2 .ro 0x1, fr 1 1 .ro 0x0, fr 0 0 .ro 0x0]⟩,
  -- PG_LAST_ERR
  ⟨0xC, 1, 0x4, false, .none, 0,
    [fr 31 24 .ro 0x0, frv 23 20, fr 19 8 .ro 0x0, fr 7 0 .ro 0x0]⟩,
  -- PG_ERR_COUNT
  ⟨0x10, 1, 0x4, false, .none, 0,
    [fr 31 0 .ro 0x0]⟩,
  -- PG_EVENT
  ⟨0x14, 1, 0x4, false, .none, 0,
    [fr 31 1 .w1c 0x0, fr 0 0 .w1c 0x0]⟩,
  -- PG_EVENT_EN
  ⟨0x18, 1, 0x4, false, .none, 0,
    [fr 31 0 .rw 0x0]⟩,
  -- PG_MSIX
  ⟨0x1C, 1, 0x4, false, .none, 0,
    [frv 31 11, fr 10 0 .rw 0x0]⟩]

def specsGLOBAL : List RegSpec := [
  -- GLOBAL_REV
  ⟨0x40, 1, 0x4, false, .none, 0,
    [fr 31 16 .ro 0x9600, frv 15 4, fr 3 0 .ro 0x0]⟩,
  -- GLOBAL_STRAPS
  ⟨0x44, 1, 0x4, false, .none, 0,
    [frv 31 5, fr 4 4 .ro 0x0, fr 3 3 .ro 0x0, fr 2 2 .ro 0x0, fr 1 0 .ro 0x0]⟩,
  -- GLOBAL_FENCE
  ⟨0x48, 1, 0x4, false, .none, 0,
    [fr 31 0 .ro 0x0]⟩,
  -- GLOBAL_BADADDR
  ⟨0x4C, 1, 0x4, false, .none, 0,
    [fr 31 26 .w1all 0x0, fr 25 0 .ro 0x0]⟩,
  -- GLOBAL_SCRATCH
  ⟨0x50, 1, 0x4, false, .none, 0,
    [fr 31 0 .rw 0x0]⟩,
  -- GLOBAL_BOOT
  ⟨0x54, 1, 0x4, false, .none, 0,
    [fr 31 28 .ro 0x0, fr 27 24 .ro 0x0, fr 23 23 .ro 0x0, frv 22 16, fr 15 0 .ro 0x0]⟩,
  -- GLOBAL_BOOT_CMD
  ⟨0x58, 1, 0x4, false, .none, 0,
    [frv 31 1, fr 0 0 .wo 0x0]⟩,
  -- GLOBAL_RESET
  ⟨0x5C, 1, 0x4, false, .none, 0,
    [frv 31 16, fr 15 8 .wo 0x0, frv 7 1, fr 0 0 .wo 0x0]⟩,
  -- GLOBAL_MEDIA
  ⟨0x60, 1, 0x4, false, .none, 0,
    [frv 31 16, fr 15 8 .ro 0x0, fr 7 0 .ro 0x0]⟩,
  -- GLOBAL_MEDIA_FREE
  ⟨0x64, 1, 0x4, false, .none, 0,
    [fr 31 0 .ro 0x0]⟩]

def specsBELFRY_0 : List RegSpec := [
  -- BELFRY_CTRL
  ⟨0x40, 1, 0x4, false, .none, 0,
    [frv 31 2, fr 1 1 .rw 0x1, fr 0 0 .rw 0x0]⟩,
  -- BELFRY_STATUS
  ⟨0x44, 1, 0x4, false, .none, 0,
    [frv 31 9, fr 8 8 .ro 0x0, frv 7 7, fr 6 4 .ro 0x0, frv 3 2, fr 1 0 .ro 0x0]⟩,
  -- BELFRY_SEC_LO
  ⟨0x48, 1, 0x4, false, .none, 0,
    [fr 31 0 .ro 0x0]⟩,
  -- BELFRY_SEC_HI
  ⟨0x4C, 1, 0x4, false, .none, 0,
    [frv 31 16, fr 15 0 .ro 0x0]⟩,
  -- BELFRY_NS
  ⟨0x50, 1, 0x4, false, .none, 0,
    [frv 31 30, fr 29 0 .ro 0x0]⟩,
  -- BELFRY_FRAC
  ⟨0x54, 1, 0x4, false, .none, 0,
    [frv 31 16, fr 15 0 .ro 0x0]⟩,
  -- BELFRY_SHORT
  ⟨0x58, 1, 0x4, false, .none, 0,
    [fr 31 0 .ro 0x0]⟩,
  -- BELFRY_ADDEND
  ⟨0x5C, 1, 0x4, false, .none, 0,
    [fr 31 0 .rw 0x0]⟩,
  -- BELFRY_STEP_SEC_LO
  ⟨0x60, 1, 0x4, false, .lo, 0,
    [fr 31 0 .rw 0x0]⟩,
  -- BELFRY_STEP_SEC_HI
  ⟨0x64, 1, 0x4, false, .hi, 0,
    [frv 31 16, fr 15 0 .rw 0x0]⟩,
  -- BELFRY_STEP_NS
  ⟨0x68, 1, 0x4, false, .none, 0,
    [frv 31 30, fl 29 0 .rw 0x0 0 999999999 []]⟩,
  -- BELFRY_STEP_CMD
  ⟨0x6C, 1, 0x4, false, .none, 0,
    [frv 31 2, fl 1 0 .wo 0x0 0 3 [(0, 0), (3, 3)]]⟩,
  -- BELFRY_UTC
  ⟨0x70, 1, 0x4, false, .none, 0,
    [frv 31 19, fr 18 18 .rw 0x0, fr 17 17 .rw 0x0, fr 16 16 .rw 0x0, fr 15 0 .rw 0x0]⟩,
  -- BELFRY_SRC
  ⟨0x74, 1, 0x4, false, .none, 0,
    [fr 31 16 .rw 0x0, frv 15 8, fr 7 7 .rw 0x1, fl 6 4 .rw 0x0 0 7 [(5, 7)], frv 3 3, fl 2 0 .rw 0x0 0 7 [(5, 7)]]⟩,
  -- BELFRY_SERVO
  ⟨0x78, 1, 0x4, false, .none, 0,
    [fr 31 31 .ro 0x0, fr 30 24 .ro 0x0, fr 23 0 .ro 0x0]⟩,
  -- BELFRY_OSC
  ⟨0x7C, 1, 0x4, false, .none, 0,
    [frv 31 8, fr 7 0 .w1all 0x0]⟩,
  -- BELFRY_PTPn_CFG
  ⟨0x80, 2, 0x4, false, .none, 0,
    [fr 31 24 .rw 0x80, fr 23 16 .rw 0x80, fr 15 8 .rw 0x0, fr 7 7 .rw 0x0, fr 6 6 .rw 0x1, fr 5 5 .rw 0x0, fl 4 3 .rw 0x0 0 3 [(3, 3)], fl 2 0 .rw 0x0 0 7 [(4, 7)]]⟩,
  -- BELFRY_PTPn_STATE
  ⟨0x88, 2, 0x4, false, .none, 0,
    [fr 31 16 .ro 0x0, frv 15 8, fr 7 4 .ro 0x1, fr 3 0 .ro 0x1]⟩,
  -- BELFRY_PnCAL
  ⟨0x90, 4, 0x4, false, .none, 0,
    [fr 31 16 .ro 0x0, fr 15 0 .ro 0x0]⟩,
  -- BELFRY_PnEXT
  ⟨0xA0, 4, 0x4, false, .none, 0,
    [fr 31 16 .rw 0x0, fr 15 0 .rw 0x0]⟩]

def specsBELFRY_1 : List RegSpec := [
  -- BELFRY_TRGn_CTRL
  ⟨0x100, 16, 0x20, false, .none, 0,
    [frv 31 3, fr 2 2 .rw 0x0, fr 1 1 .rw 0x0, fr 0 0 .rw 0x0]⟩,
  -- BELFRY_TRGn_START_SEC_LO
  ⟨0x104, 16, 0x20, false, .lo, 0,
    [fr 31 0 .rw 0x0]⟩,
  -- BELFRY_TRGn_START_SEC_HI
  ⟨0x108, 16, 0x20, false, .hi, 0,
    [frv 31 16, fr 15 0 .rw 0x0]⟩,
  -- BELFRY_TRGn_START_NS
  ⟨0x10C, 16, 0x20, false, .none, 0,
    [frv 31 30, fl 29 0 .rw 0x0 0 999999999 []]⟩,
  -- BELFRY_TRGn_PERIOD_NUM
  ⟨0x110, 16, 0x20, false, .none, 0,
    [fr 31 0 .rw 0x3B9ACA00]⟩,
  -- BELFRY_TRGn_PERIOD_DEN
  ⟨0x114, 16, 0x20, false, .none, 0,
    [frv 31 16, fl 15 0 .rw 0x1 1 65535 []]⟩,
  -- BELFRY_TRGn_WIDTH
  ⟨0x118, 16, 0x20, false, .none, 0,
    [fr 31 0 .rw 0x5F5E100]⟩,
  -- BELFRY_TRGn_STATUS
  ⟨0x11C, 16, 0x20, false, .none, 0,
    [fr 31 31 .w1c 0x0, fr 30 30 .ro 0x0, frv 29 24, fr 23 0 .ro 0x0]⟩,
  -- BELFRY_CAPn_CTRL
  ⟨0x300, 8, 0x20, false, .none, 0,
    [frv 31 20, fr 19 12 .rw 0x0, fr 11 8 .rw 0x0, fl 7 4 .rw 0x0 0 15 [(7, 15)], frv 3 3, fl 2 1 .rw 0x0 0 3 [(3, 3)], fr 0 0 .rw 0x0]⟩,
  -- BELFRY_CAPn_POP
  ⟨0x304, 8, 0x20, false, .none, 0,
    [fr 31 31 .pop 0x0, fr 30 30 .pop 0x0, fr 29 29 .pop 0x0, frv 28 5, fr 4 0 .pop 0x0]⟩,
  -- BELFRY_CAPn_SEC_LO
  ⟨0x308, 8, 0x20, false, .lo, 0,
    [fr 31 0 .ro 0x0]⟩,
  -- BELFRY_CAPn_SEC_HI
  ⟨0x30C, 8, 0x20, false, .hi, 0,
    [frv 31 16, fr 15 0 .ro 0x0]⟩,
  -- BELFRY_CAPn_NS
  ⟨0x310, 8, 0x20, false, .none, 0,
    [frv 31 30, fr 29 0 .ro 0x0]⟩,
  -- BELFRY_CAPn_FRAC
  ⟨0x314, 8, 0x20, false, .none, 0,
    [frv 31 16, fr 15 0 .ro 0x0]⟩]

def specsBELFRY : List RegSpec := specsBELFRY_0 ++ specsBELFRY_1

def specsPWR : List RegSpec := [
  -- PWR_STATE
  ⟨0x40, 1, 0x4, false, .none, 0,
    [frv 31 19, fr 18 16 .ro 0x0, frv 15 3, fr 2 0 .ro 0x0]⟩,
  -- PWR_STATE_CMD
  ⟨0x44, 1, 0x4, false, .none, 0,
    [frv 31 2, fl 1 0 .wo 0x0 0 3 [(0, 0)]]⟩,
  -- PWR_CFG
  ⟨0x48, 1, 0x4, false, .none, 0,
    [fl 31 16 .rw 0x3E8 10 65535 [], frv 15 13, fl 12 9 .rw 0xB 11 15 [], fr 8 8 .rw 0x0, frv 7 6, fr 5 0 .rw 0x0]⟩,
  -- PWR_GOV
  ⟨0x4C, 1, 0x4, false, .none, 0,
    [fr 31 31 .rw 0x1, fr 30 30 .rw 0x1, frv 29 12, fr 11 4 .rw 0x0, fl 3 0 .rw 0x1 0 8 []]⟩,
  -- PWR_EST
  ⟨0x50, 1, 0x4, false, .none, 0,
    [frv 31 12, fr 11 0 .ro 0x0]⟩,
  -- PWR_DOM_CMD
  ⟨0x54, 1, 0x4, false, .none, 0,
    [frv 31 8, fl 7 4 .wo 0x0 0 13 [], frv 3 2, fl 1 0 .wo 0x0 0 3 [(0, 0), (3, 3)]]⟩,
  -- PWR_AVS
  ⟨0x58, 1, 0x4, false, .none, 0,
    [fr 31 16 .ro 0x0, frv 15 11, fr 10 8 .ro 0x0, frv 7 0]⟩,
  -- PWR_MEDIA_DROP
  ⟨0x5C, 1, 0x4, false, .none, 0,
    [fr 31 0 .ro 0x0]⟩,
  -- PWR_MEM_EXC
  ⟨0x60, 1, 0x4, false, .none, 0,
    [fr 31 0 .ro 0x0]⟩,
  -- PWR_CLc_CTRL
  ⟨0x80, 8, 0x8, false, .none, 0,
    [frv 31 7, fl 6 4 .rw 0x5 0 5 [], frv 3 3, fl 2 0 .rw 0x0 0 5 []]⟩,
  -- PWR_CLc_STATUS
  ⟨0x84, 8, 0x8, false, .none, 0,
    [frv 31 27, fr 26 24 .ro 0x0, frv 23 19, fr 18 16 .ro 0x5, frv 15 8, fr 7 6 .ro 0x0, fr 5 3 .ro 0x0, fr 2 0 .ro 0x2]⟩,
  -- PWR_DOMd_STATUS
  ⟨0x100, 14, 0x20, false, .none, 0,
    [fr 31 16 .ro 0x0, frv 15 8, fr 7 6 .ro 0x0, frv 5 3, fr 2 0 .ro 0x0]⟩,
  -- PWR_DOMd_SLEEP_LO
  ⟨0x104, 14, 0x20, false, .lo, 0,
    [fr 31 0 .ro 0x0]⟩,
  -- PWR_DOMd_SLEEP_HI
  ⟨0x108, 14, 0x20, false, .hi, 0,
    [fr 31 0 .ro 0x0]⟩,
  -- PWR_DOMd_WAKE_LO
  ⟨0x10C, 14, 0x20, false, .lo, 0,
    [fr 31 0 .ro 0x0]⟩,
  -- PWR_DOMd_WAKE_HI
  ⟨0x110, 14, 0x20, false, .hi, 0,
    [fr 31 0 .ro 0x0]⟩]

def specsCLK : List RegSpec := [
  -- CLK_RUN
  ⟨0x40, 1, 0x4, false, .none, 0,
    [frv 31 28, fr 27 0 .ro 0x0]⟩,
  -- CLK_LINKED
  ⟨0x44, 1, 0x4, false, .none, 0,
    [frv 31 28, fr 27 0 .ro 0x0]⟩,
  -- CLK_XOVF
  ⟨0x48, 1, 0x4, false, .none, 0,
    [frv 31 28, fr 27 0 .w1c 0x0]⟩,
  -- CLK_FLUSHED
  ⟨0x4C, 1, 0x4, false, .none, 0,
    [fr 31 0 .ro 0x0]⟩,
  -- CLK_FREQk
  ⟨0x80, 28, 0x4, false, .none, 0,
    [frv 31 16, fr 15 0 .ro 0x0]⟩]

def specsCRIER : List RegSpec := [
  -- CRIER_CFG
  ⟨0x40, 1, 0x4, false, .none, 0,
    [frv 31 16, fl 15 12 .rw 0x8 4 15 [], fl 11 8 .rw 0x8 4 15 [], frv 7 3, fr 2 2 .rw 0x0, fr 1 1 .rw 0x0, fr 0 0 .rw 0x0]⟩,
  -- CRIER_RING_LO
  ⟨0x44, 1, 0x4, false, .lo, 12,
    [fr 31 0 .rw 0x0]⟩,
  -- CRIER_RING_HI
  ⟨0x48, 1, 0x4, false, .hi, 0,
    [fr 31 0 .rw 0x0]⟩,
  -- CRIER_FRING_LO
  ⟨0x4C, 1, 0x4, false, .lo, 12,
    [fr 31 0 .rw 0x0]⟩,
  -- CRIER_FRING_HI
  ⟨0x50, 1, 0x4, false, .hi, 0,
    [fr 31 0 .rw 0x0]⟩,
  -- CRIER_SEQ
  ⟨0x54, 1, 0x4, false, .none, 0,
    [fr 31 0 .ro 0x0]⟩,
  -- CRIER_LOST
  ⟨0x58, 1, 0x4, false, .none, 0,
    [fr 31 16 .ro 0x0, fr 15 0 .ro 0x0]⟩]

def specsFAULT : List RegSpec := [
  -- FAULT_CFG
  ⟨0x40, 1, 0x4, false, .none, 0,
    [frv 31 6, fr 5 0 .rw 0x0]⟩,
  -- FAULT_CORRECTED
  ⟨0x44, 1, 0x4, false, .none, 0,
    [fr 31 0 .ro 0x0]⟩,
  -- FAULT_CONTAINED
  ⟨0x48, 1, 0x4, false, .none, 0,
    [fr 31 0 .ro 0x0]⟩,
  -- FAULT_BLOCK
  ⟨0x4C, 1, 0x4, false, .none, 0,
    [frv 31 16, fr 15 0 .ro 0x0]⟩,
  -- FAULT_FATAL
  ⟨0x50, 1, 0x4, false, .none, 0,
    [fr 31 31 .ro 0x0, frv 30 8, fr 7 0 .ro 0x0]⟩,
  -- FAULT_LOG_POP
  ⟨0x54, 1, 0x4, false, .none, 0,
    [fr 31 31 .pop 0x0, fr 30 30 .pop 0x0, frv 29 7, fr 6 0 .pop 0x0]⟩,
  -- FAULT_SVC_CMD
  ⟨0x58, 1, 0x4, false, .none, 0,
    [frv 31 11, fl 10 8 .wo 0x0 0 7 [(5, 7)], fr 7 4 .wo 0x0, frv 3 2, fl 1 0 .wo 0x0 0 3 [(0, 0)]]⟩,
  -- FAULT_SVC_RESULT
  ⟨0x5C, 1, 0x4, false, .none, 0,
    [fr 31 31 .ro 0x1, fr 30 24 .ro 0x0, frv 23 19, fr 18 16 .ro 0x0, fr 15 12 .ro 0x0, fr 11 8 .ro 0x0, fr 7 0 .ro 0x0]⟩,
  -- FAULT_TEST
  ⟨0x60, 1, 0x4, false, .none, 0,
    [fr 31 16 .ro 0x0, fr 15 0 .ro 0x0]⟩,
  -- FAULT_TEST_OVERDUE
  ⟨0x64, 1, 0x4, false, .none, 0,
    [frv 31 6, fr 5 0 .ro 0x0]⟩,
  -- FAULT_FW_ADDR_LO
  ⟨0x68, 1, 0x4, false, .lo, 12,
    [fr 31 0 .rw 0x0]⟩,
  -- FAULT_FW_ADDR_HI
  ⟨0x6C, 1, 0x4, false, .hi, 0,
    [frv 31 6, fr 5 0 .rw 0x0]⟩,
  -- FAULT_FW_CMD
  ⟨0x70, 1, 0x4, false, .none, 0,
    [frv 31 2, fl 1 0 .wo 0x0 0 3 [(0, 0), (3, 3)]]⟩,
  -- FAULT_FW_RESULT
  ⟨0x74, 1, 0x4, false, .none, 0,
    [fr 31 31 .ro 0x1, fr 30 24 .ro 0x0, frv 23 10, fr 9 8 .ro 0x0, fr 7 0 .ro 0x0]⟩,
  -- FAULT_FW_EFFECT_LO
  ⟨0x78, 1, 0x4, false, .lo, 0,
    [fr 31 0 .ro 0x0]⟩,
  -- FAULT_FW_EFFECT_HI
  ⟨0x7C, 1, 0x4, false, .hi, 0,
    [fr 31 0 .ro 0x0]⟩,
  -- FAULT_LOGWw
  ⟨0x80, 8, 0x4, false, .none, 0,
    [fr 31 0 .ro 0x0]⟩,
  -- FAULT_LIFE
  ⟨0xA0, 1, 0x4, false, .none, 0,
    [fr 31 0 .ro 0x0]⟩]

def specsDUMP : List RegSpec := [
  -- DUMP_ADDR_LO
  ⟨0x40, 1, 0x4, false, .lo, 12,
    [fr 31 0 .rw 0x0]⟩,
  -- DUMP_ADDR_HI
  ⟨0x44, 1, 0x4, false, .hi, 0,
    [fr 31 0 .rw 0x0]⟩,
  -- DUMP_SIZE
  ⟨0x48, 1, 0x4, false, .none, 0,
    [frv 31 20, fl 19 0 .rw 0x0 194 1048575 []]⟩,
  -- DUMP_CFG
  ⟨0x4C, 1, 0x4, false, .none, 0,
    [frv 31 1, fr 0 0 .rw 0x0]⟩,
  -- DUMP_STATUS
  ⟨0x50, 1, 0x4, false, .none, 0,
    [frv 31 3, fr 2 0 .ro 0x0]⟩,
  -- DUMP_LOCAL_LO
  ⟨0x54, 1, 0x4, false, .lo, 0,
    [fr 31 0 .ro 0x0]⟩,
  -- DUMP_LOCAL_HI
  ⟨0x58, 1, 0x4, false, .hi, 0,
    [frv 31 6, fr 5 0 .ro 0x0]⟩]

def specsHOSTIF : List RegSpec := [
  -- HOSTIF_LINK
  ⟨0x40, 1, 0x4, false, .none, 0,
    [fr 31 16 .ro 0x0, frv 15 8, fr 7 4 .ro 0x0, fr 3 1 .ro 0x0, fr 0 0 .ro 0x0]⟩,
  -- HOSTIF_WIN
  ⟨0x44, 1, 0x4, false, .none, 0,
    [frv 31 8, fl 7 0 .rw 0x0 0 240 []]⟩,
  -- HOSTIF_BAR2_ERR
  ⟨0x48, 1, 0x4, false, .none, 0,
    [fr 31 22 .ro 0x0, fr 21 11 .ro 0x0, fr 10 0 .ro 0x0]⟩,
  -- HOSTIF_TAGS
  ⟨0x4C, 1, 0x4, false, .none, 0,
    [frv 31 25, fr 24 16 .w1all 0x0, frv 15 9, fr 8 0 .ro 0x0]⟩]

def specsDMA : List RegSpec := [
  -- DMA_CHc_RING_LO
  ⟨0x40, 4, 0x40, false, .lo, 12,
    [fr 31 0 .rw 0x0]⟩,
  -- DMA_CHc_RING_HI
  ⟨0x44, 4, 0x40, false, .hi, 0,
    [fr 31 0 .rw 0x0]⟩,
  -- DMA_CHc_CTRL
  ⟨0x48, 4, 0x40, false, .none, 0,
    [frv 31 25, fl 24 16 .rw 0x100 1 256 [], frv 15 5, fl 4 1 .rw 0x8 4 16 [], fr 0 0 .rw 0x0]⟩,
  -- DMA_CHc_TAIL
  ⟨0x4C, 4, 0x40, false, .none, 0,
    [frv 31 16, fr 15 0 .rw 0x0]⟩,
  -- DMA_CHc_HEAD
  ⟨0x50, 4, 0x40, false, .none, 0,
    [frv 31 16, fr 15 0 .ro 0x0]⟩,
  -- DMA_CHc_CMD
  ⟨0x54, 4, 0x40, false, .none, 0,
    [frv 31 2, fr 1 0 .wo 0x0]⟩,
  -- DMA_CHc_STATUS
  ⟨0x58, 4, 0x40, false, .none, 0,
    [frv 31 16, fr 15 12 .ro 0x0, fr 11 8 .ro 0x0, frv 7 3, fr 2 0 .ro 0x0]⟩,
  -- DMA_CHc_FAIL_ADDR_LO
  ⟨0x5C, 4, 0x40, false, .lo, 0,
    [fr 31 0 .ro 0x0]⟩,
  -- DMA_CHc_FAIL_ADDR_HI
  ⟨0x60, 4, 0x40, false, .hi, 0,
    [fr 31 0 .ro 0x0]⟩,
  -- DMA_CHc_FAIL
  ⟨0x64, 4, 0x40, false, .none, 0,
    [frv 31 20, fr 19 4 .ro 0x0, fr 3 1 .ro 0x0, fr 0 0 .ro 0x0]⟩,
  -- DMA_CHc_BYTES_LO
  ⟨0x68, 4, 0x40, false, .lo, 0,
    [fr 31 0 .ro 0x0]⟩,
  -- DMA_CHc_BYTES_HI
  ⟨0x6C, 4, 0x40, false, .hi, 0,
    [fr 31 0 .ro 0x0]⟩]

def specsETH : List RegSpec := [
  -- ETHn_CFG
  ⟨0x40, 1, 0x4, false, .none, 0,
    [frv 31 30, fl 29 16 .rw 0x600 64 9216 [], fr 15 12 .rw 0x0, fr 11 8 .rw 0x0, frv 7 2, fl 1 0 .rw 0x0 0 3 [(2, 3)]]⟩,
  -- ETHn_LINK
  ⟨0x44, 1, 0x4, false, .none, 0,
    [fr 31 16 .ro 0x0, frv 15 9, fr 8 8 .ro 0x0, fr 7 7 .ro 0x0, fr 6 6 .ro 0x0, fr 5 5 .ro 0x0, fr 4 1 .ro 0x0, fr 0 0 .ro 0x0]⟩,
  -- ETHn_RX_FRAMES_LO
  ⟨0x48, 1, 0x4, false, .lo, 0,
    [fr 31 0 .ro 0x0]⟩,
  -- ETHn_RX_FRAMES_HI
  ⟨0x4C, 1, 0x4, false, .hi, 0,
    [fr 31 0 .ro 0x0]⟩,
  -- ETHn_RX_OCTETS_LO
  ⟨0x50, 1, 0x4, false, .lo, 0,
    [fr 31 0 .ro 0x0]⟩,
  -- ETHn_RX_OCTETS_HI
  ⟨0x54, 1, 0x4, false, .hi, 0,
    [fr 31 0 .ro 0x0]⟩,
  -- ETHn_TX_FRAMES_LO
  ⟨0x58, 1, 0x4, false, .lo, 0,
    [fr 31 0 .ro 0x0]⟩,
  -- ETHn_TX_FRAMES_HI
  ⟨0x5C, 1, 0x4, false, .hi, 0,
    [fr 31 0 .ro 0x0]⟩,
  -- ETHn_RX_ERR
  ⟨0x60, 1, 0x4, false, .none, 0,
    [fr 31 16 .ro 0x0, fr 15 0 .ro 0x0]⟩,
  -- ETHn_FEC_CORR
  ⟨0x64, 1, 0x4, false, .none, 0,
    [fr 31 0 .ro 0x0]⟩,
  -- ETHn_FEC_UNCORR
  ⟨0x68, 1, 0x4, false, .none, 0,
    [fr 31 0 .ro 0x0]⟩,
  -- ETHn_TX_DROP
  ⟨0x6C, 1, 0x4, false, .none, 0,
    [fr 31 0 .ro 0x0]⟩]

def specsPLANE_0 : List RegSpec := [
  -- PLANEn_CFG
  ⟨0x40, 1, 0x4, false, .none, 0,
    [frv 31 3, fr 2 2 .rw 0x1, fr 1 1 .rw 0x1, fr 0 0 .rw 0x1]⟩,
  -- PLANEn_MAC_LO
  ⟨0x44, 1, 0x4, false, .lo, 0,
    [fr 31 0 .rw 0x0]⟩,
  -- PLANEn_MAC_HI
  ⟨0x48, 1, 0x4, false, .hi, 0,
    [frv 31 16, fr 15 0 .rw 0x0]⟩,
  -- PLANEn_IPV4
  ⟨0x4C, 1, 0x4, false, .none, 0,
    [fr 31 0 .rw 0x0]⟩,
  -- PLANEn_IPV6_k
  ⟨0x50, 4, 0x4, false, .none, 0,
    [fr 31 0 .rw 0x0]⟩,
  -- PLANEn_VLANk
  ⟨0x60, 8, 0x4, false, .none, 0,
    [frv 31 13, fr 12 12 .rw 0x0, fl 11 0 .rw 0x0 0 4094 []]⟩,
  -- PLANEn_QOS_DSCP
  ⟨0x80, 1, 0x4, false, .none, 0,
    [frv 31 30, frv 23 22, frv 15 14, frv 7 6, fr 29 24 .rw 0x0, fr 21 16 .rw 0x22, fr 13 8 .rw 0x2E, fr 5 0 .rw 0x38]⟩,
  -- PLANEn_QOS_PCP
  ⟨0x84, 1, 0x4, false, .none, 0,
    [frv 31 15, fr 14 12 .rw 0x0, fr 10 8 .rw 0x5, fr 6 4 .rw 0x6, fr 2 0 .rw 0x7, frv 11 11, frv 7 7, frv 3 3]⟩,
  -- PLANEn_PRP_CFG
  ⟨0x88, 1, 0x4, false, .none, 0,
    [frv 31 25, fr 24 24 .rw 0x1, fl 23 16 .rw 0x28 1 255 [], fl 15 0 .rw 0x7D0 100 10000 []]⟩,
  -- PLANEn_PRP_DROP
  ⟨0x8C, 1, 0x4, false, .none, 0,
    [fr 31 0 .ro 0x0]⟩,
  -- PLANEn_PRP_ERR
  ⟨0x90, 1, 0x4, false, .none, 0,
    [fr 31 22 .ro 0x0, fr 21 11 .ro 0x0, fr 10 0 .ro 0x0]⟩,
  -- PLANEn_PRP_TABLE
  ⟨0x94, 1, 0x4, false, .none, 0,
    [frv 31 29, fr 28 16 .w1all 0x0, frv 15 13, fr 12 0 .ro 0x0]⟩,
  -- PLANEn_PUNT_BASE_LO
  ⟨0xA0, 1, 0x4, false, .lo, 11,
    [fr 31 0 .rw 0x0]⟩,
  -- PLANEn_PUNT_BASE_HI
  ⟨0xA4, 1, 0x4, false, .hi, 0,
    [frv 31 6, fr 5 0 .rw 0x0]⟩,
  -- PLANEn_PUNT_CFG
  ⟨0xA8, 1, 0x4, false, .none, 0,
    [fr 31 31 .rw 0x0, frv 30 29, fr 28 23 .rw 0x0, fl 22 15 .rw 0x10 1 255 [], fl 14 0 .rw 0x400 16 32767 []]⟩,
  -- PLANEn_PUNT_PTR
  ⟨0xAC, 1, 0x4, false, .none, 0,
    [frv 31 31, fr 30 16 .rw 0x0, frv 15 15, fr 14 0 .ro 0x0]⟩,
  -- PLANEn_PUNT_DROP
  ⟨0xB0, 1, 0x4, false, .none, 0,
    [fr 31 22 .ro 0x0, fr 21 11 .ro 0x0, fr 10 0 .ro 0x0]⟩,
  -- PLANEn_INJ_BASE_LO
  ⟨0xB4, 1, 0x4, false, .lo, 11,
    [fr 31 0 .rw 0x0]⟩,
  -- PLANEn_INJ_BASE_HI
  ⟨0xB8, 1, 0x4, false, .hi, 0,
    [frv 31 6, fr 5 0 .rw 0x0]⟩,
  -- PLANEn_INJ_CFG
  ⟨0xBC, 1, 0x4, false, .none, 0,
    [fr 31 31 .rw 0x0, frv 30 15, fl 14 0 .rw 0x400 16 32767 []]⟩]

def specsPLANE_1 : List RegSpec := [
  -- PLANEn_INJ_PTR
  ⟨0xC0, 1, 0x4, false, .none, 0,
    [frv 31 31, fr 30 16 .ro 0x0, frv 15 15, fr 14 0 .rw 0x0]⟩,
  -- PLANEn_INJ
  ⟨0xC4, 1, 0x4, false, .none, 0,
    [frv 31 16, fr 15 0 .ro 0x0]⟩]

def specsPLANE : List RegSpec := specsPLANE_0 ++ specsPLANE_1

def specsPKTIN : List RegSpec := [
  -- PKTIN_DROP_L2
  ⟨0x40, 1, 0x4, false, .none, 0,
    [fr 31 16 .ro 0x0, fr 15 0 .ro 0x0]⟩,
  -- PKTIN_DROP_POLICE
  ⟨0x44, 1, 0x4, false, .none, 0,
    [fr 31 0 .ro 0x0]⟩,
  -- PKTIN_RTP_DUP
  ⟨0x48, 1, 0x4, false, .none, 0,
    [fr 31 0 .ro 0x0]⟩,
  -- PKTIN_CLASS
  ⟨0x4C, 1, 0x4, false, .none, 0,
    [frv 31 16, fr 15 0 .ro 0x0]⟩,
  -- PKTIN_LEG_SEL
  ⟨0x50, 1, 0x4, false, .none, 0,
    [frv 31 14, fr 13 0 .rw 0x0]⟩,
  -- PKTIN_LEG_POLICE
  ⟨0x54, 1, 0x4, false, .none, 0,
    [fr 31 31 .ro 0x0, fr 30 24 .ro 0x0, fr 23 0 .ro 0x0]⟩,
  -- PKTIN_LEG_DUP
  ⟨0x58, 1, 0x4, false, .none, 0,
    [fr 31 31 .ro 0x0, fr 30 24 .ro 0x0, fr 23 0 .ro 0x0]⟩]

def specsPKTOUT : List RegSpec := [
  -- PKTOUT_LEGQ_CELLS
  ⟨0x40, 1, 0x4, false, .none, 0,
    [fl 31 16 .rw 0x200 8 65535 [], fl 15 0 .rw 0x4 0 1024 []]⟩,
  -- PKTOUT_RELEASED_LO
  ⟨0x44, 1, 0x4, false, .lo, 0,
    [fr 31 0 .ro 0x0]⟩,
  -- PKTOUT_RELEASED_HI
  ⟨0x48, 1, 0x4, false, .hi, 0,
    [fr 31 0 .ro 0x0]⟩,
  -- PKTOUT_DROP_WAIT
  ⟨0x4C, 1, 0x4, false, .none, 0,
    [fr 31 0 .ro 0x0]⟩,
  -- PKTOUT_OVERSIZE
  ⟨0x50, 1, 0x4, false, .none, 0,
    [fr 31 0 .ro 0x0]⟩,
  -- PKTOUT_LEG_SEL
  ⟨0x54, 1, 0x4, false, .none, 0,
    [frv 31 14, fr 13 0 .rw 0x0]⟩,
  -- PKTOUT_LEG_TOKENS
  ⟨0x58, 1, 0x4, false, .none, 0,
    [fr 31 31 .ro 0x0, fr 30 24 .ro 0x0, frv 23 21, fr 20 0 .ro 0x0]⟩,
  -- PKTOUT_LEG_RATE
  ⟨0x5C, 1, 0x4, false, .none, 0,
    [fr 31 31 .ro 0x0, fr 30 24 .ro 0x0, fr 23 0 .ro 0x0]⟩,
  -- PKTOUT_LATE
  ⟨0x60, 1, 0x4, false, .none, 0,
    [fr 31 0 .ro 0x0]⟩]

def specsSCHED : List RegSpec := [
  -- SCHEDn_CFG
  ⟨0x40, 1, 0x4, false, .none, 0,
    [frv 31 21, fl 20 11 .rw 0x18 1 1023 [], fl 10 1 .rw 0x18 1 1023 [], fr 0 0 .rw 0x1]⟩,
  -- SCHEDn_LEGQ
  ⟨0x44, 1, 0x4, false, .none, 0,
    [frv 31 15, fr 14 0 .ro 0x0]⟩,
  -- SCHEDn_LAG
  ⟨0x48, 1, 0x4, false, .none, 0,
    [fr 31 0 .w1all 0x0]⟩,
  -- SCHEDn_SQk_FRAMES
  ⟨0x4C, 4, 0x4, false, .none, 0,
    [fr 31 0 .ro 0x0]⟩,
  -- SCHEDn_DRR_FRAMES
  ⟨0x5C, 1, 0x4, false, .none, 0,
    [fr 31 0 .ro 0x0]⟩]

def specsSRTP : List RegSpec := [
  -- SRTP_STATS_BASE_LO
  ⟨0x40, 1, 0x4, false, .lo, 20,
    [fr 31 0 .rw 0x0]⟩,
  -- SRTP_STATS_BASE_HI
  ⟨0x44, 1, 0x4, false, .hi, 0,
    [frv 31 6, fr 5 0 .rw 0x0]⟩,
  -- SRTP_STATS_CFG
  ⟨0x48, 1, 0x4, false, .none, 0,
    [frv 31 16, fl 15 8 .rw 0xA 1 255 [], frv 7 1, fr 0 0 .rw 0x0]⟩,
  -- SRTP_AUTH_FAIL
  ⟨0x4C, 1, 0x4, false, .none, 0,
    [fr 31 0 .ro 0x0]⟩,
  -- SRTP_REPLAY
  ⟨0x50, 1, 0x4, false, .none, 0,
    [fr 31 0 .ro 0x0]⟩,
  -- SRTP_NOKEY
  ⟨0x54, 1, 0x4, false, .none, 0,
    [fr 31 0 .ro 0x0]⟩,
  -- SRTP_UNKNOWN_PT
  ⟨0x58, 1, 0x4, false, .none, 0,
    [fr 31 0 .ro 0x0]⟩,
  -- SRTP_LEGS
  ⟨0x5C, 1, 0x4, false, .none, 0,
    [fr 31 16 .ro 0x0, fr 15 0 .ro 0x0]⟩,
  -- SRTP_REKEY
  ⟨0x60, 1, 0x4, false, .none, 0,
    [fr 31 0 .ro 0x0]⟩]

def specsADAPT : List RegSpec := [
  -- ADAPT_CFG
  ⟨0x40, 1, 0x4, false, .none, 0,
    [fl 31 8 .rw 0x3E8 8 10000000 [], frv 7 1, fr 0 0 .rw 0x1]⟩,
  -- ADAPT_TRIP
  ⟨0x44, 1, 0x4, false, .none, 0,
    [fl 31 24 .rw 0xF 5 255 [], fl 23 8 .rw 0x32 10 1000 [], fl 7 0 .rw 0xA 1 255 []]⟩,
  -- ADAPT_LEG_SEL
  ⟨0x48, 1, 0x4, false, .none, 0,
    [frv 31 14, fr 13 0 .rw 0x0]⟩,
  -- ADAPT_LEG_RATE
  ⟨0x4C, 1, 0x4, false, .none, 0,
    [fr 31 31 .ro 0x0, fr 30 24 .ro 0x0, fr 23 0 .ro 0x0]⟩,
  -- ADAPT_LEG_STATE
  ⟨0x50, 1, 0x4, false, .none, 0,
    [fr 31 31 .ro 0x0, fr 30 24 .ro 0x0, fr 23 22 .ro 0x0, fr 21 21 .ro 0x0, fr 20 20 .ro 0x0, fr 19 10 .ro 0x0, fr 9 0 .ro 0x0]⟩,
  -- ADAPT_OSTR_SEL
  ⟨0x54, 1, 0x4, false, .none, 0,
    [frv 31 14, fr 13 0 .rw 0x0]⟩,
  -- ADAPT_OSTR_LAYER
  ⟨0x58, 1, 0x4, false, .none, 0,
    [fr 31 31 .ro 0x0, fr 30 24 .ro 0x0, frv 23 18, fr 17 16 .ro 0x0, frv 15 13, fr 12 12 .ro 0x0, fr 11 8 .ro 0x0, frv 7 4, fr 3 0 .ro 0x0]⟩,
  -- ADAPT_DECREASES
  ⟨0x5C, 1, 0x4, false, .none, 0,
    [fr 31 0 .ro 0x0]⟩,
  -- ADAPT_SWITCH_UP
  ⟨0x60, 1, 0x4, false, .none, 0,
    [fr 31 0 .ro 0x0]⟩,
  -- ADAPT_SWITCH_DOWN
  ⟨0x64, 1, 0x4, false, .none, 0,
    [fr 31 0 .ro 0x0]⟩,
  -- ADAPT_KEYREQ
  ⟨0x68, 1, 0x4, false, .none, 0,
    [fr 31 16 .ro 0x0, fr 15 0 .ro 0x0]⟩]

def specsTDM : List RegSpec := [
  -- TDMn_CFG
  ⟨0x40, 1, 0x4, false, .none, 0,
    [frv 31 22, fr 21 16 .rw 0x0, frv 15 15, fr 14 14 .rw 0x0, fl 13 12 .rw 0x0 0 3 [(3, 3)], frv 11 9, fr 8 8 .rw 0x0, fr 7 7 .rw 0x0, fr 6 6 .rw 0x0, fr 5 1 .rw 0x7, fr 0 0 .rw 0x0]⟩,
  -- TDMn_STATUS
  ⟨0x44, 1, 0x4, false, .none, 0,
    [frv 31 14, fr 13 8 .ro 0x0, frv 7 1, fr 0 0 .ro 0x0]⟩,
  -- TDMn_SLIP
  ⟨0x48, 1, 0x4, false, .none, 0,
    [fr 31 0 .ro 0x0]⟩,
  -- TDMn_BIND_RX
  ⟨0x4C, 1, 0x4, false, .none, 0,
    [fr 31 0 .ro 0x0]⟩,
  -- TDMn_BIND_TX
  ⟨0x50, 1, 0x4, false, .none, 0,
    [fr 31 0 .ro 0x0]⟩]

def specsGATE : List RegSpec := [
  -- GATE_CMD
  ⟨0x40, 1, 0x4, false, .none, 0,
    [frv 31 28, fr 27 12 .wo 0x0, fr 11 4 .wo 0x0, fr 3 0 .wo 0x0]⟩,
  -- GATE_RESULT
  ⟨0x44, 1, 0x4, false, .none, 0,
    [fr 31 31 .ro 0x1, fr 30 24 .ro 0x0, fr 23 8 .ro 0x0, fr 7 0 .ro 0x0]⟩,
  -- GATE_EFFECT_LO
  ⟨0x48, 1, 0x4, false, .lo, 0,
    [fr 31 0 .ro 0x0]⟩,
  -- GATE_EFFECT_HI
  ⟨0x4C, 1, 0x4, false, .hi, 0,
    [fr 31 0 .ro 0x0]⟩,
  -- GATE_TXN
  ⟨0x50, 1, 0x4, false, .none, 0,
    [frv 31 22, fr 21 12 .ro 0x0, fr 11 10 .ro 0x0, fr 9 1 .ro 0x0, fr 0 0 .ro 0x0]⟩,
  -- GATE_PENDING
  ⟨0x54, 1, 0x4, false, .none, 0,
    [frv 31 13, fr 12 0 .ro 0x0]⟩,
  -- GATE_STAGE_w
  ⟨0x400, 128, 0x4, false, .none, 0,
    [fr 31 0 .rw 0x0]⟩,
  -- GATE_READBACK_w
  ⟨0x600, 128, 0x4, false, .none, 0,
    [fr 31 0 .ro 0x0]⟩]

def specsGRANARY : List RegSpec := [
  -- GRANARY_CFG
  ⟨0x40, 1, 0x4, false, .none, 0,
    [frv 31 6, fr 5 0 .rw 0x0]⟩,
  -- GRANARY_POOL
  ⟨0x44, 1, 0x4, false, .none, 0,
    [frv 31 18, fr 17 0 .ro 0x20000]⟩,
  -- GRANARY_RESERVED
  ⟨0x48, 1, 0x4, false, .none, 0,
    [frv 31 17, fr 16 0 .ro 0x0]⟩,
  -- GRANARY_Q_SEL
  ⟨0x4C, 1, 0x4, false, .none, 0,
    [frv 31 16, fr 15 0 .rw 0x0]⟩,
  -- GRANARY_Q_COUNT
  ⟨0x50, 1, 0x4, false, .none, 0,
    [fr 31 31 .ro 0x0, fr 30 24 .ro 0x0, frv 23 17, fr 16 0 .ro 0x0]⟩,
  -- GRANARY_Q_CELLS
  ⟨0x54, 1, 0x4, false, .none, 0,
    [fr 31 31 .ro 0x0, fr 30 24 .ro 0x0, frv 23 16, fr 15 0 .ro 0x0]⟩,
  -- GRANARY_Q_LOST
  ⟨0x58, 1, 0x4, false, .none, 0,
    [fr 31 31 .ro 0x0, fr 30 24 .ro 0x0, fr 23 0 .ro 0x0]⟩,
  -- GRANARY_RESETS
  ⟨0x5C, 1, 0x4, false, .none, 0,
    [fr 31 0 .ro 0x0]⟩,
  -- GRANARY_BANKQk_FILL
  ⟨0x100, 32, 0x8, false, .none, 0,
    [fr 31 17 .ro 0x0, fr 16 0 .ro 0x0]⟩,
  -- GRANARY_BANKQk_LOST
  ⟨0x104, 32, 0x8, false, .none, 0,
    [fr 31 22 .ro 0x0, fr 21 11 .ro 0x0, fr 10 0 .ro 0x0]⟩]

def specsEVQ : List RegSpec := [
  -- EVQn_CFG
  ⟨0x100, 64, 0x20, false, .none, 0,
    [fr 31 31 .rw 0x0, frv 30 28, fl 27 16 .rw 0x40 1 4095 [], frv 15 12, fr 11 0 .rw 0x4]⟩,
  -- EVQn_POP
  ⟨0x104, 64, 0x20, false, .none, 0,
    [fr 31 31 .pop 0x0, fr 30 30 .pop 0x0, frv 29 17, fr 16 0 .pop 0x0]⟩,
  -- EVQn_W0
  ⟨0x108, 64, 0x20, false, .none, 0,
    [fr 31 0 .ro 0x0]⟩,
  -- EVQn_W1
  ⟨0x10C, 64, 0x20, false, .none, 0,
    [fr 31 0 .ro 0x0]⟩,
  -- EVQn_W2
  ⟨0x110, 64, 0x20, false, .none, 0,
    [fr 31 0 .ro 0x0]⟩,
  -- EVQn_W3
  ⟨0x114, 64, 0x20, false, .none, 0,
    [fr 31 0 .ro 0x0]⟩,
  -- EVQn_COUNT
  ⟨0x118, 64, 0x20, false, .none, 0,
    [frv 31 17, fr 16 0 .ro 0x0]⟩,
  -- EVQn_LOST
  ⟨0x11C, 64, 0x20, false, .none, 0,
    [fr 31 0 .ro 0x0]⟩]

def specsMILLC : List RegSpec := [
  -- MILLC_WIN
  ⟨0x40, 1, 0x4, false, .none, 0,
    [frv 31 16, fr 15 0 .rw 0x0]⟩,
  -- MILLC_KBASE_LO
  ⟨0x44, 1, 0x4, false, .lo, 6,
    [fr 31 0 .rw 0x0]⟩,
  -- MILLC_KBASE_HI
  ⟨0x48, 1, 0x4, false, .hi, 0,
    [frv 31 6, fr 5 0 .rw 0x0]⟩,
  -- MILLC_KCMD
  ⟨0x4C, 1, 0x4, false, .none, 0,
    [frv 31 7, fl 6 4 .wo 0x0 0 7 [], fl 3 0 .wo 0x0 0 15 [(0, 0), (3, 15)]]⟩,
  -- MILLC_KRESULT
  ⟨0x50, 1, 0x4, false, .none, 0,
    [fr 31 31 .ro 0x1, fr 30 24 .ro 0x0, frv 23 12, fr 11 8 .ro 0x0, fr 7 0 .ro 0x0]⟩,
  -- MILLC_KCODE
  ⟨0x54, 1, 0x4, false, .none, 0,
    [frv 31 16, fr 15 0 .ro 0x0]⟩,
  -- MILLC_KIDk
  ⟨0x60, 8, 0x4, false, .none, 0,
    [fr 31 0 .ro 0x0]⟩,
  -- MILLC_OVERRUN
  ⟨0x80, 1, 0x4, false, .none, 0,
    [fr 31 0 .ro 0x0]⟩,
  -- MILLC_KFAULT
  ⟨0x84, 1, 0x4, false, .none, 0,
    [fr 31 0 .ro 0x0]⟩,
  -- MILLC_BENCH_SEL
  ⟨0x90, 1, 0x4, false, .none, 0,
    [fr 31 31 .rw 0x0, frv 30 4, fr 3 0 .rw 0x0]⟩,
  -- MILLC_BENCH_PC
  ⟨0x94, 1, 0x4, false, .none, 0,
    [frv 31 12, fr 11 0 .rw 0x0]⟩,
  -- MILLC_BENCH_CMD
  ⟨0x98, 1, 0x4, false, .none, 0,
    [frv 31 2, fl 1 0 .wo 0x0 0 3 [(0, 0)]]⟩,
  -- MILLC_BENCH_STATUS
  ⟨0x9C, 1, 0x4, false, .none, 0,
    [fr 31 30 .ro 0x0, frv 29 20, fr 19 16 .ro 0x0, frv 15 12, fr 11 0 .ro 0x0]⟩,
  -- MILLC_BENCH_BUDGET
  ⟨0xA0, 1, 0x4, false, .none, 0,
    [fr 31 0 .rw 0xFFFFFFFF]⟩]

def specsAUDIO_0 : List RegSpec := [
  -- AUDIO_CFG
  ⟨0x40, 1, 0x4, false, .none, 0,
    [fr 31 31 .rw 0x0, frv 30 6, fr 5 0 .rw 0x0]⟩,
  -- AUDIO_SEL
  ⟨0x44, 1, 0x4, false, .none, 0,
    [fl 31 16 .rw 0x7D0 0 60000 [], fl 15 0 .rw 0x12C 0 2000 []]⟩,
  -- AUDIO_ACT_THRESH
  ⟨0x48, 1, 0x4, false, .none, 0,
    [frv 31 31, fr 30 0 .rw 0x679F1C]⟩,
  -- AUDIO_PROG_BASE_LO
  ⟨0x4C, 1, 0x4, false, .lo, 0,
    [fr 31 0 .rw 0x0]⟩,
  -- AUDIO_PROG_BASE_HI
  ⟨0x50, 1, 0x4, false, .hi, 0,
    [frv 31 6, fr 5 0 .rw 0x0]⟩,
  -- AUDIO_PROG_LEN
  ⟨0x54, 1, 0x4, false, .none, 0,
    [fr 31 0 .rw 0x0]⟩,
  -- AUDIO_PROG_CMD
  ⟨0x58, 1, 0x4, false, .none, 0,
    [frv 31 4, fl 3 0 .wo 0x0 0 15 [(0, 0), (4, 15)]]⟩,
  -- AUDIO_PROG_RESULT
  ⟨0x5C, 1, 0x4, false, .none, 0,
    [fr 31 31 .ro 0x1, fr 30 24 .ro 0x0, fr 23 20 .ro 0x0, fr 19 8 .ro 0x0, fr 7 0 .ro 0x0]⟩,
  -- AUDIO_PROG_EFFECT_LO
  ⟨0x60, 1, 0x4, false, .lo, 0,
    [fr 31 0 .ro 0x0]⟩,
  -- AUDIO_PROG_EFFECT_HI
  ⟨0x64, 1, 0x4, false, .hi, 0,
    [fr 31 0 .ro 0x0]⟩,
  -- AUDIO_PROG_ACTIVE_ID
  ⟨0x68, 1, 0x4, false, .none, 0,
    [fr 31 0 .ro 0x0]⟩,
  -- AUDIO_PROG_SHADOW_ID
  ⟨0x6C, 1, 0x4, false, .none, 0,
    [fr 31 0 .ro 0x0]⟩,
  -- AUDIO_PATH_SRC
  ⟨0x70, 1, 0x4, false, .none, 0,
    [fl 31 28 .rw 0x0 0 15 [(0, 0), (8, 15)], frv 27 16, fr 15 0 .rw 0x0]⟩,
  -- AUDIO_PATH_SNK
  ⟨0x74, 1, 0x4, false, .none, 0,
    [fr 31 28 .rw 0x0, frv 27 16, fr 15 0 .rw 0x0]⟩,
  -- AUDIO_PATH_LAT
  ⟨0x78, 1, 0x4, false, .none, 0,
    [fr 31 31 .ro 0x0, fr 30 24 .ro 0x0, fr 23 23 .ro 0x0, fr 22 22 .ro 0x0, frv 21 17, fr 16 0 .ro 0x0]⟩,
  -- AUDIO_METER_SEL
  ⟨0x7C, 1, 0x4, false, .none, 0,
    [fr 31 28 .rw 0x1, frv 27 16, fr 15 0 .rw 0x0]⟩,
  -- AUDIO_METER_RMS
  ⟨0x80, 1, 0x4, false, .none, 0,
    [fr 31 31 .ro 0x0, fr 30 24 .ro 0x0, fr 23 0 .ro 0x0]⟩,
  -- AUDIO_METER_PEAK
  ⟨0x84, 1, 0x4, false, .none, 0,
    [fr 31 31 .ro 0x0, fr 30 24 .ro 0x0, fr 23 0 .ro 0x0]⟩,
  -- AUDIO_SEAT_SEL
  ⟨0x88, 1, 0x4, false, .none, 0,
    [frv 31 11, fr 10 0 .rw 0x0]⟩,
  -- AUDIO_MISS
  ⟨0x8C, 1, 0x4, false, .none, 0,
    [fr 31 0 .ro 0x0]⟩]

def specsAUDIO_1 : List RegSpec := [
  -- AUDIO_GROUPS
  ⟨0x90, 1, 0x4, false, .none, 0,
    [fr 31 16 .ro 0x0, fr 15 0 .ro 0x0]⟩,
  -- AUDIO_SEATk
  ⟨0x100, 16, 0x4, false, .none, 0,
    [fr 31 31 .ro 0x0, fr 30 24 .ro 0x0, fr 23 23 .ro 0x0, fr 22 22 .ro 0x0, frv 21 14, fr 13 0 .ro 0x0]⟩,
  -- AUDIO_RPn_SRC
  ⟨0x200, 16, 0x20, false, .none, 0,
    [frv 31 27, fr 26 16 .rw 0x0, frv 15 14, fr 13 0 .rw 0x0]⟩,
  -- AUDIO_RPn_START_LO
  ⟨0x204, 16, 0x20, false, .lo, 0,
    [fr 31 0 .rw 0x0]⟩,
  -- AUDIO_RPn_START_HI
  ⟨0x208, 16, 0x20, false, .hi, 0,
    [fr 31 0 .rw 0x0]⟩,
  -- AUDIO_RPn_CODEC
  ⟨0x20C, 16, 0x20, false, .none, 0,
    [frv 31 15, fr 14 8 .rw 0x0, fr 7 0 .rw 0x1]⟩,
  -- AUDIO_RPn_CMD
  ⟨0x210, 16, 0x20, false, .none, 0,
    [frv 31 2, fl 1 0 .wo 0x0 0 3 [(0, 0), (3, 3)]]⟩,
  -- AUDIO_RPn_STATUS
  ⟨0x214, 16, 0x20, false, .none, 0,
    [fr 31 30 .ro 0x0, frv 29 24, fr 23 0 .ro 0x0]⟩]

def specsAUDIO : List RegSpec := specsAUDIO_0 ++ specsAUDIO_1

def specsVDE : List RegSpec := [
  -- VDEn_PIXELS_LO
  ⟨0x40, 1, 0x4, false, .lo, 0,
    [fr 31 0 .ro 0x0]⟩,
  -- VDEn_PIXELS_HI
  ⟨0x44, 1, 0x4, false, .hi, 0,
    [fr 31 0 .ro 0x0]⟩,
  -- VDEn_PICS
  ⟨0x48, 1, 0x4, false, .none, 0,
    [fr 31 0 .ro 0x0]⟩,
  -- VDEn_LOAD
  ⟨0x4C, 1, 0x4, false, .none, 0,
    [frv 31 10, fr 9 0 .ro 0x0]⟩,
  -- VDEn_FAULTS
  ⟨0x50, 1, 0x4, false, .none, 0,
    [fr 31 16 .ro 0x0, frv 15 2, fr 1 0 .ro 0x0]⟩,
  -- VDE0_STR_SEL
  ⟨0x80, 1, 0x4, true, .none, 0,
    [frv 31 12, fr 11 0 .rw 0x0]⟩,
  -- VDE0_STR_STATE
  ⟨0x84, 1, 0x4, true, .none, 0,
    [fr 31 31 .ro 0x0, fr 30 24 .ro 0x0, fr 23 22 .ro 0x0, fr 21 21 .ro 0x0, fr 20 20 .ro 0x0, fr 19 16 .ro 0x0, fr 15 0 .ro 0x0]⟩,
  -- VDE0_STR_LATE
  ⟨0x88, 1, 0x4, true, .none, 0,
    [fr 31 31 .ro 0x0, fr 30 24 .ro 0x0, fr 23 0 .ro 0x0]⟩,
  -- VDE0_MISSREF
  ⟨0x8C, 1, 0x4, true, .none, 0,
    [fr 31 0 .ro 0x0]⟩,
  -- VDE0_CORRUPT
  ⟨0x90, 1, 0x4, true, .none, 0,
    [fr 31 16 .ro 0x0, fr 15 0 .ro 0x0]⟩,
  -- VDE0_POISON
  ⟨0x94, 1, 0x4, true, .none, 0,
    [fr 31 0 .ro 0x0]⟩,
  -- VDE0_COST
  ⟨0x98, 1, 0x4, true, .none, 0,
    [fr 31 0 .ro 0x0]⟩]

def specsVEE : List RegSpec := [
  -- VEEn_PIXELS_LO
  ⟨0x40, 1, 0x4, false, .lo, 0,
    [fr 31 0 .ro 0x0]⟩,
  -- VEEn_PIXELS_HI
  ⟨0x44, 1, 0x4, false, .hi, 0,
    [fr 31 0 .ro 0x0]⟩,
  -- VEEn_PICS
  ⟨0x48, 1, 0x4, false, .none, 0,
    [fr 31 0 .ro 0x0]⟩,
  -- VEEn_LOAD
  ⟨0x4C, 1, 0x4, false, .none, 0,
    [frv 31 10, fr 9 0 .ro 0x0]⟩,
  -- VEEn_FAULTS
  ⟨0x50, 1, 0x4, false, .none, 0,
    [fr 31 16 .ro 0x0, frv 15 2, fr 1 0 .ro 0x0]⟩,
  -- VEE0_EC_SEL
  ⟨0x80, 1, 0x4, true, .none, 0,
    [frv 31 20, fl 19 18 .rw 0x0 0 2 [], fl 17 16 .rw 0x0 0 2 [], frv 15 10, fr 9 0 .rw 0x0]⟩,
  -- VEE0_EC_STATE
  ⟨0x84, 1, 0x4, true, .none, 0,
    [fr 31 31 .ro 0x0, fr 30 24 .ro 0x0, fr 23 22 .ro 0x0, fr 21 21 .ro 0x0, fr 20 20 .ro 0x0, fr 19 12 .ro 0x0, frv 11 10, fr 9 0 .ro 0x0]⟩,
  -- VEE0_EC_DEBT
  ⟨0x88, 1, 0x4, true, .none, 0,
    [fr 31 31 .ro 0x0, fr 30 24 .ro 0x0, fr 23 0 .ro 0x0]⟩,
  -- VEE0_FLOOR
  ⟨0x8C, 1, 0x4, true, .none, 0,
    [fr 31 0 .ro 0x0]⟩,
  -- VEE0_LATE
  ⟨0x90, 1, 0x4, true, .none, 0,
    [fr 31 16 .ro 0x0, fr 15 0 .ro 0x0]⟩,
  -- VEE0_SWEEPS
  ⟨0x94, 1, 0x4, true, .none, 0,
    [fr 31 16 .ro 0x0, fr 15 0 .ro 0x0]⟩,
  -- VEE0_POISON
  ⟨0x98, 1, 0x4, true, .none, 0,
    [fr 31 0 .ro 0x0]⟩,
  -- VEE0_COST
  ⟨0x9C, 1, 0x4, true, .none, 0,
    [fr 31 0 .ro 0x0]⟩,
  -- VEE0_DEBT_CAP
  ⟨0xA0, 1, 0x4, true, .none, 0,
    [fr 31 0 .ro 0x0]⟩]

def specsCMP : List RegSpec := [
  -- CMPn_PIXELS_LO
  ⟨0x40, 1, 0x4, false, .lo, 0,
    [fr 31 0 .ro 0x0]⟩,
  -- CMPn_PIXELS_HI
  ⟨0x44, 1, 0x4, false, .hi, 0,
    [fr 31 0 .ro 0x0]⟩,
  -- CMPn_FRAMES
  ⟨0x48, 1, 0x4, false, .none, 0,
    [fr 31 0 .ro 0x0]⟩,
  -- CMPn_LOAD
  ⟨0x4C, 1, 0x4, false, .none, 0,
    [frv 31 10, fr 9 0 .ro 0x0]⟩,
  -- CMPn_FAULTS
  ⟨0x50, 1, 0x4, false, .none, 0,
    [fr 31 16 .ro 0x0, frv 15 2, fr 1 0 .ro 0x0]⟩,
  -- CMP0_LAY_SEL
  ⟨0x80, 1, 0x4, true, .none, 0,
    [frv 31 20, fr 19 16 .rw 0x0, frv 15 10, fr 9 0 .rw 0x0]⟩,
  -- CMP0_LAY_STATE
  ⟨0x84, 1, 0x4, true, .none, 0,
    [fr 31 31 .ro 0x0, fr 30 24 .ro 0x0, fr 23 23 .ro 0x0, fr 22 22 .ro 0x0, fr 21 0 .ro 0x0]⟩,
  -- CMP0_LAYER_STATE
  ⟨0x88, 1, 0x4, true, .none, 0,
    [fr 31 31 .ro 0x0, fr 30 24 .ro 0x0, fr 23 22 .ro 0x0, frv 21 16, fr 15 0 .ro 0x0]⟩,
  -- CMP0_STALE
  ⟨0x8C, 1, 0x4, true, .none, 0,
    [fr 31 0 .ro 0x0]⟩,
  -- CMP0_LATE
  ⟨0x90, 1, 0x4, true, .none, 0,
    [fr 31 0 .ro 0x0]⟩,
  -- CMP0_POISON
  ⟨0x94, 1, 0x4, true, .none, 0,
    [fr 31 0 .ro 0x0]⟩,
  -- CMP0_COST
  ⟨0x98, 1, 0x4, true, .none, 0,
    [fr 31 0 .ro 0x0]⟩]

def specsREEVE : List RegSpec := [
  -- REEVE_CFG
  ⟨0x40, 1, 0x4, false, .none, 0,
    [fl 31 16 .rw 0x32 1 1000 [], frv 15 6, fr 5 0 .rw 0x0]⟩,
  -- REEVE_SLOTS
  ⟨0x44, 1, 0x4, false, .none, 0,
    [frv 31 29, fr 28 16 .w1all 0x0, frv 15 13, fr 12 0 .ro 0x0]⟩,
  -- REEVE_LEASES
  ⟨0x48, 1, 0x4, false, .none, 0,
    [fr 31 16 .ro 0x0, frv 15 15, fr 14 0 .ro 0x0]⟩,
  -- REEVE_OUTCOMES
  ⟨0x4C, 1, 0x4, false, .none, 0,
    [fr 31 16 .ro 0x0, fr 15 0 .ro 0x0]⟩,
  -- REEVE_RETRIES
  ⟨0x50, 1, 0x4, false, .none, 0,
    [fr 31 0 .ro 0x0]⟩,
  -- REEVE_PORTn_CFG
  ⟨0x60, 5, 0x8, false, .none, 0,
    [frv 31 29, fl 28 16 .rw 0x1000 1 4096 [], frv 15 13, fl 12 0 .rw 0x0 0 4096 []]⟩,
  -- REEVE_PORTn_STATUS
  ⟨0x64, 5, 0x8, false, .none, 0,
    [fr 31 16 .ro 0x0, frv 15 13, fr 12 0 .ro 0x0]⟩,
  -- REEVE_LEVELk
  ⟨0xA0, 8, 0x4, false, .none, 0,
    [frv 31 29, fr 28 16 .ro 0x0, frv 15 13, fr 12 0 .ro 0x0]⟩,
  -- REEVE_FLOW_SEL
  ⟨0xC0, 1, 0x4, false, .none, 0,
    [frv 31 13, fr 12 0 .rw 0x0]⟩,
  -- REEVE_FLOW_STATE
  ⟨0xC4, 1, 0x4, false, .none, 0,
    [fr 31 31 .ro 0x0, fr 30 24 .ro 0x0, fr 23 16 .ro 0x0, fr 15 0 .ro 0x0]⟩]

def specsBINATH : List RegSpec := [
  -- BINATHn_CFG
  ⟨0x40, 1, 0x4, false, .none, 0,
    [frv 31 20, fl 19 16 .rw 0x1 1 15 [], fl 15 12 .rw 0x3 1 15 [], fr 11 8 .rw 0x0, fr 7 4 .rw 0x0, frv 3 3, fl 2 0 .rw 0x0 0 7 [(5, 7)]]⟩,
  -- BINATHn_STATE
  ⟨0x44, 1, 0x4, false, .none, 0,
    [fr 31 24 .ro 0x0, fr 23 20 .ro 0x0, fr 19 16 .ro 0x0, fr 15 8 .ro 0x0, fr 7 4 .ro 0x0, fr 3 3 .ro 0x0, fr 2 0 .ro 0x0]⟩,
  -- BINATHn_ASYM
  ⟨0x48, 1, 0x4, false, .none, 0,
    [frv 31 16, fr 15 0 .rw 0x0]⟩,
  -- BINATHn_DELAY
  ⟨0x4C, 1, 0x4, false, .none, 0,
    [frv 31 24, fr 23 0 .ro 0x0]⟩,
  -- BINATHn_ERR
  ⟨0x50, 1, 0x4, false, .none, 0,
    [fr 31 16 .ro 0x0, fr 15 8 .ro 0x0, fr 7 0 .ro 0x0]⟩,
  -- BINATHn_REPLAY
  ⟨0x54, 1, 0x4, false, .none, 0,
    [fr 31 16 .ro 0x0, fr 15 0 .ro 0x0]⟩,
  -- BINATHn_FLITS_LO
  ⟨0x58, 1, 0x4, false, .lo, 0,
    [fr 31 0 .ro 0x0]⟩,
  -- BINATHn_FLITS_HI
  ⟨0x5C, 1, 0x4, false, .hi, 0,
    [fr 31 0 .ro 0x0]⟩,
  -- BINATHn_LATE
  ⟨0x60, 1, 0x4, false, .none, 0,
    [fr 31 16 .ro 0x0, fr 15 0 .ro 0x0]⟩,
  -- BINATH0_FABRIC
  ⟨0x100, 1, 0x4, true, .none, 0,
    [fr 31 31 .rw 0x0, fr 30 30 .ro 0x0, frv 29 28, fl 27 24 .rw 0x4 1 15 [], fr 23 16 .rw 0x0, fr 15 0 .rw 0x0]⟩,
  -- BINATH0_TOPO
  ⟨0x104, 1, 0x4, true, .none, 0,
    [frv 31 13, fr 12 12 .ro 0x0, fr 11 10 .ro 0x0, fr 9 9 .ro 0x0, fr 8 8 .ro 0x0, fr 7 4 .ro 0x0, fr 3 0 .ro 0x0]⟩,
  -- BINATH0_REVERT
  ⟨0x108, 1, 0x4, true, .none, 0,
    [frv 31 16, fl 15 0 .rw 0xA 1 3600 []]⟩,
  -- BINATH0_EVQ
  ⟨0x10C, 1, 0x4, true, .none, 0,
    [frv 31 6, fr 5 0 .rw 0x0]⟩,
  -- BINATH0_FSTRAY
  ⟨0x110, 1, 0x4, true, .none, 0,
    [fr 31 0 .ro 0x0]⟩,
  -- BINATH0_FCONFk
  ⟨0x200, 64, 0x4, true, .none, 0,
    [fr 31 0 .rw 0x0]⟩]

def specsTWIN : List RegSpec := [
  -- TWIN_CFG
  ⟨0x40, 1, 0x4, false, .none, 0,
    [fl 31 24 .rw 0x40 1 255 [], fl 23 16 .rw 0x14 2 40 [], fr 15 10 .rw 0x0, frv 9 2, fr 1 1 .rw 0x1, fr 0 0 .rw 0x0]⟩,
  -- TWIN_WAIT
  ⟨0x44, 1, 0x4, false, .none, 0,
    [fl 31 16 .rw 0x3E8 256 32768 [], fl 15 0 .rw 0x3C 1 3600 []]⟩,
  -- TWIN_WAIT2
  ⟨0x48, 1, 0x4, false, .none, 0,
    [fl 31 24 .rw 0x32 10 255 [], frv 23 16, fl 15 0 .rw 0xBB8 100 60000 []]⟩,
  -- TWIN_STATUS
  ⟨0x4C, 1, 0x4, false, .none, 0,
    [frv 31 20, fr 19 19 .ro 0x0, fr 18 18 .ro 0x0, fr 17 17 .ro 0x0, fr 16 16 .ro 0x0, frv 15 15, fr 14 12 .ro 0x0, frv 11 11, fr 10 8 .ro 0x0, frv 7 4, fr 3 3 .ro 0x0, fr 2 0 .ro 0x0]⟩,
  -- TWIN_CMD
  ⟨0x50, 1, 0x4, false, .none, 0,
    [frv 31 2, fl 1 0 .wo 0x0 0 3 [(0, 0), (3, 3)]]⟩,
  -- TWIN_LAG
  ⟨0x54, 1, 0x4, false, .none, 0,
    [fr 31 0 .ro 0x0]⟩,
  -- TWIN_LAG_MAX
  ⟨0x58, 1, 0x4, false, .none, 0,
    [fr 31 0 .w1all 0x0]⟩,
  -- TWIN_EXEC_LO
  ⟨0x5C, 1, 0x4, false, .lo, 0,
    [fr 31 0 .ro 0x0]⟩,
  -- TWIN_EXEC_HI
  ⟨0x60, 1, 0x4, false, .hi, 0,
    [fr 31 0 .ro 0x0]⟩,
  -- TWIN_OFFSET
  ⟨0x64, 1, 0x4, false, .none, 0,
    [fr 31 0 .ro 0x0]⟩,
  -- TWIN_FETCH
  ⟨0x68, 1, 0x4, false, .none, 0,
    [fr 31 16 .ro 0x0, fr 15 0 .ro 0x0]⟩,
  -- TWIN_MISMATCH
  ⟨0x6C, 1, 0x4, false, .none, 0,
    [fr 31 16 .ro 0x0, fr 15 0 .ro 0x0]⟩,
  -- TWIN_RESYNCS
  ⟨0x70, 1, 0x4, false, .none, 0,
    [fr 31 16 .ro 0x0, fr 15 0 .ro 0x0]⟩,
  -- TWIN_HB_MISS
  ⟨0x74, 1, 0x4, false, .none, 0,
    [frv 31 30, fr 29 20 .ro 0x0, fr 19 10 .ro 0x0, fr 9 0 .ro 0x0]⟩,
  -- TWIN_DIVERGED
  ⟨0x78, 1, 0x4, false, .none, 0,
    [frv 31 15, fr 14 0 .ro 0x0]⟩,
  -- TWIN_CATCHUP_BASE_LO
  ⟨0x7C, 1, 0x4, false, .lo, 30,
    [fr 31 0 .rw 0x0]⟩,
  -- TWIN_CATCHUP_BASE_HI
  ⟨0x80, 1, 0x4, false, .hi, 0,
    [frv 31 6, fr 5 0 .rw 0x0]⟩,
  -- TWIN_CATCHUP_SIZE
  ⟨0x84, 1, 0x4, false, .none, 0,
    [frv 31 7, fl 6 0 .rw 0x10 1 64 []]⟩,
  -- TWIN_COPY
  ⟨0x88, 1, 0x4, false, .none, 0,
    [fr 31 30 .ro 0x0, frv 29 24, fr 23 0 .ro 0x0]⟩]

def specsDDRC : List RegSpec := [
  -- DDRCn_CFG
  ⟨0x40, 1, 0x4, false, .none, 0,
    [frv 31 8, fr 7 0 .ro 0x10]⟩,
  -- DDRCn_STATUS
  ⟨0x44, 1, 0x4, false, .none, 0,
    [frv 31 18, fr 17 16 .ro 0x0, frv 15 12, fr 11 10 .ro 0x0, fr 9 8 .ro 0x0, frv 7 3, fr 2 0 .ro 0x0]⟩,
  -- DDRCn_CE
  ⟨0x48, 1, 0x4, false, .none, 0,
    [fr 31 0 .ro 0x0]⟩,
  -- DDRCn_UE
  ⟨0x4C, 1, 0x4, false, .none, 0,
    [fr 31 16 .ro 0x0, fr 15 0 .ro 0x0]⟩,
  -- DDRCn_MARK
  ⟨0x50, 1, 0x4, false, .none, 0,
    [frv 31 29, fr 28 28 .ro 0x0, fr 27 24 .ro 0x0, frv 23 21, fr 20 20 .ro 0x0, fr 19 16 .ro 0x0, frv 15 13, fr 12 12 .ro 0x0, fr 11 8 .ro 0x0, frv 7 5, fr 4 4 .ro 0x0, fr 3 0 .ro 0x0]⟩,
  -- DDRCn_MARK_CFG
  ⟨0x54, 1, 0x4, false, .none, 0,
    [frv 31 8, fl 7 0 .rw 0x8 1 255 []]⟩,
  -- DDRCn_DEV_SEL
  ⟨0x58, 1, 0x4, false, .none, 0,
    [frv 31 6, fr 5 5 .rw 0x0, fr 4 4 .rw 0x0, fl 3 0 .rw 0x0 0 9 []]⟩,
  -- DDRCn_DEV_CE
  ⟨0x5C, 1, 0x4, false, .none, 0,
    [fr 31 31 .ro 0x0, fr 30 24 .ro 0x0, fr 23 0 .ro 0x0]⟩,
  -- DDRCn_SCRUB
  ⟨0x60, 1, 0x4, false, .none, 0,
    [fr 31 20 .ro 0x0, fr 19 0 .ro 0x0]⟩,
  -- DDRCn_REFRESH
  ⟨0x64, 1, 0x4, false, .none, 0,
    [fr 31 16 .ro 0x0, frv 15 8, fr 7 4 .ro 0x0, fr 3 0 .ro 0x0]⟩,
  -- DDRCn_TRAIN
  ⟨0x68, 1, 0x4, false, .none, 0,
    [fr 31 16 .ro 0x0, frv 15 3, fr 2 0 .ro 0x0]⟩,
  -- DDRCn_LOG_POP
  ⟨0x6C, 1, 0x4, false, .none, 0,
    [fr 31 31 .pop 0x0, fr 30 30 .pop 0x0, frv 29 6, fr 5 0 .pop 0x0]⟩,
  -- DDRCn_LOG_CFG
  ⟨0x70, 1, 0x4, false, .none, 0,
    [frv 31 6, fr 5 0 .rw 0x0]⟩,
  -- DDRCn_LOGWw
  ⟨0x100, 16, 0x4, false, .none, 0,
    [fr 31 0 .ro 0x0]⟩]

def specsWEIR : List RegSpec := [
  -- WEIR_SUM
  ⟨0x40, 1, 0x4, false, .none, 0,
    [frv 31 11, fr 10 0 .ro 0x300]⟩,
  -- WEIR_FENCE_SEL
  ⟨0x44, 1, 0x4, false, .none, 0,
    [frv 31 21, fl 20 16 .rw 0x0 0 16 [], frv 15 8, fr 7 0 .rw 0x0]⟩,
  -- WEIR_FENCE_STATUS
  ⟨0x48, 1, 0x4, false, .none, 0,
    [fr 31 31 .ro 0x0, fr 30 24 .ro 0x0, frv 23 18, fr 17 16 .ro 0x0, fr 15 0 .ro 0x0]⟩,
  -- WEIR_FENCES
  ⟨0x4C, 1, 0x4, false, .none, 0,
    [fr 31 0 .ro 0x0]⟩,
  -- WEIR_PORTp_CFG
  ⟨0x100, 17, 0x8, false, .none, 0,
    [frv 31 27, fl 26 16 .rw 0x0 1 1024 [], frv 15 11, fl 10 0 .rw 0x0 0 768 []]⟩,
  -- WEIR_PORTp_STAT
  ⟨0x104, 17, 0x8, false, .none, 0,
    [fr 31 16 .ro 0x0, fr 15 0 .ro 0x0]⟩]

def specsCIPHER : List RegSpec := [
  -- CIPHER_LOCK
  ⟨0x40, 1, 0x4, false, .none, 0,
    [frv 31 20, fr 19 16 .ro 0x0, frv 15 11, fr 10 8 .ro 0x7, frv 7 7, fr 6 4 .ro 0x7, frv 3 1, fr 0 0 .rw 0x0]⟩,
  -- CIPHER_JOB_SRC_LO
  ⟨0x44, 1, 0x4, false, .lo, 6,
    [fr 31 0 .rw 0x0]⟩,
  -- CIPHER_JOB_SRC_HI
  ⟨0x48, 1, 0x4, false, .hi, 0,
    [frv 31 6, fr 5 0 .rw 0x0]⟩,
  -- CIPHER_JOB_DST_LO
  ⟨0x4C, 1, 0x4, false, .lo, 6,
    [fr 31 0 .rw 0x0]⟩,
  -- CIPHER_JOB_DST_HI
  ⟨0x50, 1, 0x4, false, .hi, 0,
    [frv 31 6, fr 5 0 .rw 0x0]⟩,
  -- CIPHER_JOB_LEN
  ⟨0x54, 1, 0x4, false, .none, 0,
    [fr 31 0 .rw 0x0]⟩,
  -- CIPHER_JOB_AAD
  ⟨0x58, 1, 0x4, false, .none, 0,
    [frv 31 16, fr 15 0 .rw 0x0]⟩,
  -- CIPHER_JOB_IVk
  ⟨0x5C, 4, 0x4, false, .none, 0,
    [fr 31 0 .rw 0x0]⟩,
  -- CIPHER_JOB_CMD
  ⟨0x6C, 1, 0x4, false, .none, 0,
    [frv 31 16, fr 15 8 .wo 0x0, fl 7 4 .wo 0x0 0 15 [(0, 0), (14, 15)], frv 3 1, fr 0 0 .wo 0x0]⟩,
  -- CIPHER_RESULT
  ⟨0x70, 1, 0x4, false, .none, 0,
    [fr 31 31 .ro 0x1, fr 30 24 .ro 0x0, fr 23 16 .ro 0x0, frv 15 8, fr 7 0 .ro 0x0]⟩,
  -- CIPHER_SLOT_CMD
  ⟨0x74, 1, 0x4, false, .none, 0,
    [fr 31 24 .wo 0x0, fr 23 16 .wo 0x0, frv 15 14, fr 13 12 .wo 0x0, fr 11 11 .wo 0x0, fr 10 8 .wo 0x0, frv 7 2, fl 1 0 .wo 0x0 0 3 [(0, 0)]]⟩,
  -- CIPHER_SLOT_SEL
  ⟨0x78, 1, 0x4, false, .none, 0,
    [frv 31 8, fr 7 0 .rw 0x0]⟩,
  -- CIPHER_SLOT_STATE
  ⟨0x7C, 1, 0x4, false, .none, 0,
    [fr 31 31 .ro 0x0, fr 30 24 .ro 0x0, frv 23 9, fr 8 8 .ro 0x0, fr 7 6 .ro 0x0, fr 5 5 .ro 0x0, fr 4 2 .ro 0x0, frv 1 0]⟩,
  -- CIPHER_SLOT_COUNT
  ⟨0x80, 1, 0x4, false, .none, 0,
    [fr 31 0 .ro 0x0]⟩,
  -- CIPHER_TAGFAIL
  ⟨0x84, 1, 0x4, false, .none, 0,
    [fr 31 0 .ro 0x0]⟩,
  -- CIPHER_PREEMPT
  ⟨0x88, 1, 0x4, false, .none, 0,
    [fr 31 0 .ro 0x0]⟩,
  -- CIPHER_KEYIN_w
  ⟨0x100, 16, 0x4, false, .none, 0,
    [fr 31 0 .wo 0x0]⟩]

def specsKEYSTORE : List RegSpec := [
  -- KEYSTORE_CMD
  ⟨0x40, 1, 0x4, false, .none, 0,
    [fr 31 24 .wo 0x0, frv 23 20, fl 19 4 .wo 0x0 0 32767 [], fl 3 0 .wo 0x0 0 15 [(0, 0), (4, 15)]]⟩,
  -- KEYSTORE_RESULT
  ⟨0x44, 1, 0x4, false, .none, 0,
    [fr 31 31 .ro 0x1, fr 30 24 .ro 0x0, fr 23 8 .ro 0x0, fr 7 0 .ro 0x0]⟩,
  -- KEYSTORE_SEL
  ⟨0x48, 1, 0x4, false, .none, 0,
    [frv 31 15, fr 14 0 .rw 0x0]⟩,
  -- KEYSTORE_STATE
  ⟨0x4C, 1, 0x4, false, .none, 0,
    [fr 31 31 .ro 0x0, fr 30 24 .ro 0x0, fr 23 22 .ro 0x0, fr 21 21 .ro 0x0, fr 20 18 .ro 0x0, frv 17 15, fr 14 0 .ro 0x0]⟩,
  -- KEYSTORE_COUNT
  ⟨0x50, 1, 0x4, false, .none, 0,
    [fr 31 16 .ro 0x0, fr 15 0 .ro 0x0]⟩,
  -- KEYSTORE_PAIR_SLOT
  ⟨0x54, 1, 0x4, false, .none, 0,
    [frv 31 9, fr 8 8 .rw 0x0, fr 7 0 .rw 0x0]⟩,
  -- KEYSTORE_STAGE_w
  ⟨0x400, 20, 0x4, false, .none, 0,
    [fr 31 0 .wo 0x0]⟩]

def specsALARM : List RegSpec := [
  -- ALARM_STATUS
  ⟨0x40, 1, 0x4, false, .none, 0,
    [fr 31 31 .ro 0x0, frv 30 7, fr 6 0 .ro 0x0]⟩,
  -- ALARM_TIME_LO
  ⟨0x44, 1, 0x4, false, .lo, 0,
    [fr 31 0 .ro 0x0]⟩,
  -- ALARM_TIME_HI
  ⟨0x48, 1, 0x4, false, .hi, 0,
    [fr 31 0 .ro 0x0]⟩,
  -- ALARM_CMD
  ⟨0x4C, 1, 0x4, false, .none, 0,
    [frv 31 1, fr 0 0 .wo 0x0]⟩,
  -- ALARM_CFG
  ⟨0x50, 1, 0x4, false, .none, 0,
    [frv 31 6, fr 5 0 .rw 0x0]⟩,
  -- ALARM_BOOT
  ⟨0x54, 1, 0x4, false, .none, 0,
    [fr 31 31 .rw 0x0, fr 30 30 .ro 0x0, fr 29 24 .ro 0x0, frv 23 17, fr 16 16 .ro 0x0, frv 15 7, fr 6 0 .ro 0x0]⟩,
  -- ALARM_SVN_CMD
  ⟨0x58, 1, 0x4, false, .none, 0,
    [frv 31 1, fr 0 0 .wo 0x0]⟩,
  -- ALARM_HEALTH
  ⟨0x5C, 1, 0x4, false, .none, 0,
    [fr 31 16 .ro 0x0, fr 15 0 .ro 0x0]⟩]

/-- The page map of R40: base, number of instances (4 KiB apart), PG_ID.TYPE, and the registers of the page. -/
def pageMap : List PageSpec := [
  ⟨0x0, 1, 0x1, specsGLOBAL⟩,
  ⟨0x1000, 1, 0x2, specsBELFRY⟩,
  ⟨0x2000, 1, 0x3, specsPWR⟩,
  ⟨0x3000, 1, 0x4, specsCLK⟩,
  ⟨0x4000, 1, 0x5, specsCRIER⟩,
  ⟨0x5000, 1, 0x6, specsFAULT⟩,
  ⟨0x6000, 1, 0x7, specsDUMP⟩,
  ⟨0x8000, 1, 0x8, specsHOSTIF⟩,
  ⟨0x10000, 8, 0x9, specsDMA⟩,
  ⟨0x20000, 4, 0x10, specsETH⟩,
  ⟨0x24000, 2, 0x11, specsPLANE⟩,
  ⟨0x26000, 1, 0x12, specsPKTIN⟩,
  ⟨0x27000, 1, 0x13, specsPKTOUT⟩,
  ⟨0x28000, 4, 0x14, specsSCHED⟩,
  ⟨0x2C000, 1, 0x15, specsSRTP⟩,
  ⟨0x2D000, 1, 0x16, specsADAPT⟩,
  ⟨0x30000, 4, 0x17, specsTDM⟩,
  ⟨0x40000, 1, 0x20, specsGATE⟩,
  ⟨0x41000, 1, 0x21, specsGRANARY⟩,
  ⟨0x42000, 1, 0x22, specsEVQ⟩,
  ⟨0x50000, 8, 0x30, specsMILLC⟩,
  ⟨0x60000, 1, 0x31, specsAUDIO⟩,
  ⟨0x70000, 16, 0x40, specsVDE⟩,
  ⟨0x80000, 8, 0x41, specsVEE⟩,
  ⟨0x88000, 4, 0x42, specsCMP⟩,
  ⟨0x90000, 1, 0x50, specsREEVE⟩,
  ⟨0xA0000, 4, 0x60, specsBINATH⟩,
  ⟨0xA8000, 1, 0x61, specsTWIN⟩,
  ⟨0xB0000, 8, 0x70, specsDDRC⟩,
  ⟨0xB8000, 1, 0x71, specsWEIR⟩,
  ⟨0xC0000, 1, 0x80, specsCIPHER⟩,
  ⟨0xC1000, 1, 0x81, specsKEYSTORE⟩,
  ⟨0xC2000, 1, 0x82, specsALARM⟩]

end Sys2Proof.Machine
end

