-- ==== Sys2Proof/Machine/Regs.lean ====
section
/-! DEFINITION. The names of the registers and of their fields, as the chapters of spec/ name them:
`Reg.X` is the BAR0 byte address of register X (R29, R40 and the register's own heading), `Fld.X_F` is its field F.
Index arguments are the manual's: n the page's instance, k, c, d, p or w the element. -/

namespace Sys2Proof.Machine

/-! PG (spec/02_register_conventions.md) -/

def Reg.PG_ID (page : Nat) : Nat := page + 0x0
def Fld.PG_ID_TYPE (page : Nat) : FieldRef := ⟨Reg.PG_ID page, 16, 16⟩
def Fld.PG_ID_INST (page : Nat) : FieldRef := ⟨Reg.PG_ID page, 8, 8⟩
def Fld.PG_ID_VER (page : Nat) : FieldRef := ⟨Reg.PG_ID page, 0, 8⟩
def Reg.PG_CTRL (page : Nat) : Nat := page + 0x4
def Fld.PG_CTRL_RESET (page : Nat) : FieldRef := ⟨Reg.PG_CTRL page, 2, 1⟩
def Fld.PG_CTRL_QUIESCE (page : Nat) : FieldRef := ⟨Reg.PG_CTRL page, 1, 1⟩
def Fld.PG_CTRL_ENABLE (page : Nat) : FieldRef := ⟨Reg.PG_CTRL page, 0, 1⟩
def Reg.PG_STATUS (page : Nat) : Nat := page + 0x8
def Fld.PG_STATUS_BLK (page : Nat) : FieldRef := ⟨Reg.PG_STATUS page, 16, 16⟩
def Fld.PG_STATUS_SERVICE (page : Nat) : FieldRef := ⟨Reg.PG_STATUS page, 2, 2⟩
def Fld.PG_STATUS_QUIESCED (page : Nat) : FieldRef := ⟨Reg.PG_STATUS page, 1, 1⟩
def Fld.PG_STATUS_LINKED (page : Nat) : FieldRef := ⟨Reg.PG_STATUS page, 0, 1⟩
def Reg.PG_LAST_ERR (page : Nat) : Nat := page + 0xC
def Fld.PG_LAST_ERR_SEQ (page : Nat) : FieldRef := ⟨Reg.PG_LAST_ERR page, 24, 8⟩
def Fld.PG_LAST_ERR_OFFSET (page : Nat) : FieldRef := ⟨Reg.PG_LAST_ERR page, 8, 12⟩
def Fld.PG_LAST_ERR_CODE (page : Nat) : FieldRef := ⟨Reg.PG_LAST_ERR page, 0, 8⟩
def Reg.PG_ERR_COUNT (page : Nat) : Nat := page + 0x10
def Fld.PG_ERR_COUNT_COUNT (page : Nat) : FieldRef := ⟨Reg.PG_ERR_COUNT page, 0, 32⟩
def Reg.PG_EVENT (page : Nat) : Nat := page + 0x14
def Fld.PG_EVENT_BLK (page : Nat) : FieldRef := ⟨Reg.PG_EVENT page, 1, 31⟩
def Fld.PG_EVENT_ERR (page : Nat) : FieldRef := ⟨Reg.PG_EVENT page, 0, 1⟩
def Reg.PG_EVENT_EN (page : Nat) : Nat := page + 0x18
def Fld.PG_EVENT_EN_EN (page : Nat) : FieldRef := ⟨Reg.PG_EVENT_EN page, 0, 32⟩
def Reg.PG_MSIX (page : Nat) : Nat := page + 0x1C
def Fld.PG_MSIX_VECTOR (page : Nat) : FieldRef := ⟨Reg.PG_MSIX page, 0, 11⟩

/-! GLOBAL (spec/02_register_conventions.md, spec/24_reset_and_boot.md) -/

def Reg.GLOBAL_REV : Nat := 0x40
def Fld.GLOBAL_REV_PART : FieldRef := ⟨Reg.GLOBAL_REV, 16, 16⟩
def Fld.GLOBAL_REV_REV : FieldRef := ⟨Reg.GLOBAL_REV, 0, 4⟩
def Reg.GLOBAL_STRAPS : Nat := 0x44
def Fld.GLOBAL_STRAPS_FABRIC_MASTER : FieldRef := ⟨Reg.GLOBAL_STRAPS, 4, 1⟩
def Fld.GLOBAL_STRAPS_TWIN_SENIOR : FieldRef := ⟨Reg.GLOBAL_STRAPS, 3, 1⟩
def Fld.GLOBAL_STRAPS_TWIN_EN : FieldRef := ⟨Reg.GLOBAL_STRAPS, 2, 1⟩
def Fld.GLOBAL_STRAPS_BOOT_SEL : FieldRef := ⟨Reg.GLOBAL_STRAPS, 0, 2⟩
def Reg.GLOBAL_FENCE : Nat := 0x48
def Fld.GLOBAL_FENCE_SHORT_TIME : FieldRef := ⟨Reg.GLOBAL_FENCE, 0, 32⟩
def Reg.GLOBAL_BADADDR : Nat := 0x4C
def Fld.GLOBAL_BADADDR_COUNT : FieldRef := ⟨Reg.GLOBAL_BADADDR, 26, 6⟩
def Fld.GLOBAL_BADADDR_ADDR : FieldRef := ⟨Reg.GLOBAL_BADADDR, 0, 26⟩
def Reg.GLOBAL_SCRATCH : Nat := 0x50
def Fld.GLOBAL_SCRATCH_VALUE : FieldRef := ⟨Reg.GLOBAL_SCRATCH, 0, 32⟩
def Reg.GLOBAL_BOOT : Nat := 0x54
def Fld.GLOBAL_BOOT_STAGE : FieldRef := ⟨Reg.GLOBAL_BOOT, 28, 4⟩
def Fld.GLOBAL_BOOT_FAIL_STAGE : FieldRef := ⟨Reg.GLOBAL_BOOT, 24, 4⟩
def Fld.GLOBAL_BOOT_IMAGE_B : FieldRef := ⟨Reg.GLOBAL_BOOT, 23, 1⟩
def Fld.GLOBAL_BOOT_MS : FieldRef := ⟨Reg.GLOBAL_BOOT, 0, 16⟩
def Reg.GLOBAL_BOOT_CMD : Nat := 0x58
def Fld.GLOBAL_BOOT_CMD_GO : FieldRef := ⟨Reg.GLOBAL_BOOT_CMD, 0, 1⟩
def Reg.GLOBAL_RESET : Nat := 0x5C
def Fld.GLOBAL_RESET_KEY : FieldRef := ⟨Reg.GLOBAL_RESET, 8, 8⟩
def Fld.GLOBAL_RESET_WARM : FieldRef := ⟨Reg.GLOBAL_RESET, 0, 1⟩
def Reg.GLOBAL_MEDIA : Nat := 0x60
def Fld.GLOBAL_MEDIA_BASE : FieldRef := ⟨Reg.GLOBAL_MEDIA, 8, 8⟩
def Fld.GLOBAL_MEDIA_SIZE : FieldRef := ⟨Reg.GLOBAL_MEDIA, 0, 8⟩
def Reg.GLOBAL_MEDIA_FREE : Nat := 0x64
def Fld.GLOBAL_MEDIA_FREE_FREE : FieldRef := ⟨Reg.GLOBAL_MEDIA_FREE, 0, 32⟩

/-! BELFRY (spec/03_belfry_timebase.md) -/

def Reg.BELFRY_CTRL : Nat := 0x1040
def Fld.BELFRY_CTRL_STEP_EN : FieldRef := ⟨Reg.BELFRY_CTRL, 1, 1⟩
def Fld.BELFRY_CTRL_SERVO_EN : FieldRef := ⟨Reg.BELFRY_CTRL, 0, 1⟩
def Reg.BELFRY_STATUS : Nat := 0x1044
def Fld.BELFRY_STATUS_OSC_INT : FieldRef := ⟨Reg.BELFRY_STATUS, 8, 1⟩
def Fld.BELFRY_STATUS_ACTIVE_SRC : FieldRef := ⟨Reg.BELFRY_STATUS, 4, 3⟩
def Fld.BELFRY_STATUS_SERVO_STATE : FieldRef := ⟨Reg.BELFRY_STATUS, 0, 2⟩
def Reg.BELFRY_SEC_LO : Nat := 0x1048
def Fld.BELFRY_SEC_LO_SEC : FieldRef := ⟨Reg.BELFRY_SEC_LO, 0, 32⟩
def Reg.BELFRY_SEC_HI : Nat := 0x104C
def Fld.BELFRY_SEC_HI_SEC : FieldRef := ⟨Reg.BELFRY_SEC_HI, 0, 16⟩
def Reg.BELFRY_NS : Nat := 0x1050
def Fld.BELFRY_NS_NS : FieldRef := ⟨Reg.BELFRY_NS, 0, 30⟩
def Reg.BELFRY_FRAC : Nat := 0x1054
def Fld.BELFRY_FRAC_FRAC : FieldRef := ⟨Reg.BELFRY_FRAC, 0, 16⟩
def Reg.BELFRY_SHORT : Nat := 0x1058
def Fld.BELFRY_SHORT_SHORT : FieldRef := ⟨Reg.BELFRY_SHORT, 0, 32⟩
def Reg.BELFRY_ADDEND : Nat := 0x105C
def Fld.BELFRY_ADDEND_ADDEND : FieldRef := ⟨Reg.BELFRY_ADDEND, 0, 32⟩
def Reg.BELFRY_STEP_SEC_LO : Nat := 0x1060
def Fld.BELFRY_STEP_SEC_LO_SEC : FieldRef := ⟨Reg.BELFRY_STEP_SEC_LO, 0, 32⟩
def Reg.BELFRY_STEP_SEC_HI : Nat := 0x1064
def Fld.BELFRY_STEP_SEC_HI_SEC : FieldRef := ⟨Reg.BELFRY_STEP_SEC_HI, 0, 16⟩
def Reg.BELFRY_STEP_NS : Nat := 0x1068
def Fld.BELFRY_STEP_NS_NS : FieldRef := ⟨Reg.BELFRY_STEP_NS, 0, 30⟩
def Reg.BELFRY_STEP_CMD : Nat := 0x106C
def Fld.BELFRY_STEP_CMD_OP : FieldRef := ⟨Reg.BELFRY_STEP_CMD, 0, 2⟩
def Reg.BELFRY_UTC : Nat := 0x1070
def Fld.BELFRY_UTC_LEAP59 : FieldRef := ⟨Reg.BELFRY_UTC, 18, 1⟩
def Fld.BELFRY_UTC_LEAP61 : FieldRef := ⟨Reg.BELFRY_UTC, 17, 1⟩
def Fld.BELFRY_UTC_VALID : FieldRef := ⟨Reg.BELFRY_UTC, 16, 1⟩
def Fld.BELFRY_UTC_OFFSET : FieldRef := ⟨Reg.BELFRY_UTC, 0, 16⟩
def Reg.BELFRY_SRC : Nat := 0x1074
def Fld.BELFRY_SRC_PPS_COMP : FieldRef := ⟨Reg.BELFRY_SRC, 16, 16⟩
def Fld.BELFRY_SRC_REVERT : FieldRef := ⟨Reg.BELFRY_SRC, 7, 1⟩
def Fld.BELFRY_SRC_SEC : FieldRef := ⟨Reg.BELFRY_SRC, 4, 3⟩
def Fld.BELFRY_SRC_PRI : FieldRef := ⟨Reg.BELFRY_SRC, 0, 3⟩
def Reg.BELFRY_SERVO : Nat := 0x1078
def Fld.BELFRY_SERVO_VALID : FieldRef := ⟨Reg.BELFRY_SERVO, 31, 1⟩
def Fld.BELFRY_SERVO_GEN : FieldRef := ⟨Reg.BELFRY_SERVO, 24, 7⟩
def Fld.BELFRY_SERVO_OFFSET : FieldRef := ⟨Reg.BELFRY_SERVO, 0, 24⟩
def Reg.BELFRY_OSC : Nat := 0x107C
def Fld.BELFRY_OSC_LOST_COUNT : FieldRef := ⟨Reg.BELFRY_OSC, 0, 8⟩
def Reg.BELFRY_PTPn_CFG (n : Nat) : Nat := 0x1080 + n * 0x4
def Fld.BELFRY_PTPn_CFG_PRIO2 (n : Nat) : FieldRef := ⟨Reg.BELFRY_PTPn_CFG n, 24, 8⟩
def Fld.BELFRY_PTPn_CFG_PRIO1 (n : Nat) : FieldRef := ⟨Reg.BELFRY_PTPn_CFG n, 16, 8⟩
def Fld.BELFRY_PTPn_CFG_DOMAIN (n : Nat) : FieldRef := ⟨Reg.BELFRY_PTPn_CFG n, 8, 8⟩
def Fld.BELFRY_PTPn_CFG_ENABLE (n : Nat) : FieldRef := ⟨Reg.BELFRY_PTPn_CFG n, 7, 1⟩
def Fld.BELFRY_PTPn_CFG_SLAVE_ONLY (n : Nat) : FieldRef := ⟨Reg.BELFRY_PTPn_CFG n, 6, 1⟩
def Fld.BELFRY_PTPn_CFG_ONE_STEP (n : Nat) : FieldRef := ⟨Reg.BELFRY_PTPn_CFG n, 5, 1⟩
def Fld.BELFRY_PTPn_CFG_TRANSPORT (n : Nat) : FieldRef := ⟨Reg.BELFRY_PTPn_CFG n, 3, 2⟩
def Fld.BELFRY_PTPn_CFG_PROFILE (n : Nat) : FieldRef := ⟨Reg.BELFRY_PTPn_CFG n, 0, 3⟩
def Reg.BELFRY_PTPn_STATE (n : Nat) : Nat := 0x1088 + n * 0x4
def Fld.BELFRY_PTPn_STATE_DELAY (n : Nat) : FieldRef := ⟨Reg.BELFRY_PTPn_STATE n, 16, 16⟩
def Fld.BELFRY_PTPn_STATE_LANB (n : Nat) : FieldRef := ⟨Reg.BELFRY_PTPn_STATE n, 4, 4⟩
def Fld.BELFRY_PTPn_STATE_LANA (n : Nat) : FieldRef := ⟨Reg.BELFRY_PTPn_STATE n, 0, 4⟩
def Reg.BELFRY_PnCAL (n : Nat) : Nat := 0x1090 + n * 0x4
def Fld.BELFRY_PnCAL_CAL_TX (n : Nat) : FieldRef := ⟨Reg.BELFRY_PnCAL n, 16, 16⟩
def Fld.BELFRY_PnCAL_CAL_RX (n : Nat) : FieldRef := ⟨Reg.BELFRY_PnCAL n, 0, 16⟩
def Reg.BELFRY_PnEXT (n : Nat) : Nat := 0x10A0 + n * 0x4
def Fld.BELFRY_PnEXT_EXT_TX (n : Nat) : FieldRef := ⟨Reg.BELFRY_PnEXT n, 16, 16⟩
def Fld.BELFRY_PnEXT_EXT_RX (n : Nat) : FieldRef := ⟨Reg.BELFRY_PnEXT n, 0, 16⟩
def Reg.BELFRY_TRGn_CTRL (n : Nat) : Nat := 0x1100 + n * 0x20
def Fld.BELFRY_TRGn_CTRL_INVERT (n : Nat) : FieldRef := ⟨Reg.BELFRY_TRGn_CTRL n, 2, 1⟩
def Fld.BELFRY_TRGn_CTRL_ONESHOT (n : Nat) : FieldRef := ⟨Reg.BELFRY_TRGn_CTRL n, 1, 1⟩
def Fld.BELFRY_TRGn_CTRL_ENABLE (n : Nat) : FieldRef := ⟨Reg.BELFRY_TRGn_CTRL n, 0, 1⟩
def Reg.BELFRY_TRGn_START_SEC_LO (n : Nat) : Nat := 0x1104 + n * 0x20
def Fld.BELFRY_TRGn_START_SEC_LO_SEC (n : Nat) : FieldRef := ⟨Reg.BELFRY_TRGn_START_SEC_LO n, 0, 32⟩
def Reg.BELFRY_TRGn_START_SEC_HI (n : Nat) : Nat := 0x1108 + n * 0x20
def Fld.BELFRY_TRGn_START_SEC_HI_SEC (n : Nat) : FieldRef := ⟨Reg.BELFRY_TRGn_START_SEC_HI n, 0, 16⟩
def Reg.BELFRY_TRGn_START_NS (n : Nat) : Nat := 0x110C + n * 0x20
def Fld.BELFRY_TRGn_START_NS_NS (n : Nat) : FieldRef := ⟨Reg.BELFRY_TRGn_START_NS n, 0, 30⟩
def Reg.BELFRY_TRGn_PERIOD_NUM (n : Nat) : Nat := 0x1110 + n * 0x20
def Fld.BELFRY_TRGn_PERIOD_NUM_NUM (n : Nat) : FieldRef := ⟨Reg.BELFRY_TRGn_PERIOD_NUM n, 0, 32⟩
def Reg.BELFRY_TRGn_PERIOD_DEN (n : Nat) : Nat := 0x1114 + n * 0x20
def Fld.BELFRY_TRGn_PERIOD_DEN_DEN (n : Nat) : FieldRef := ⟨Reg.BELFRY_TRGn_PERIOD_DEN n, 0, 16⟩
def Reg.BELFRY_TRGn_WIDTH (n : Nat) : Nat := 0x1118 + n * 0x20
def Fld.BELFRY_TRGn_WIDTH_WIDTH (n : Nat) : FieldRef := ⟨Reg.BELFRY_TRGn_WIDTH n, 0, 32⟩
def Reg.BELFRY_TRGn_STATUS (n : Nat) : Nat := 0x111C + n * 0x20
def Fld.BELFRY_TRGn_STATUS_LATE (n : Nat) : FieldRef := ⟨Reg.BELFRY_TRGn_STATUS n, 31, 1⟩
def Fld.BELFRY_TRGn_STATUS_RUN (n : Nat) : FieldRef := ⟨Reg.BELFRY_TRGn_STATUS n, 30, 1⟩
def Fld.BELFRY_TRGn_STATUS_EDGES (n : Nat) : FieldRef := ⟨Reg.BELFRY_TRGn_STATUS n, 0, 24⟩
def Reg.BELFRY_CAPn_CTRL (n : Nat) : Nat := 0x1300 + n * 0x20
def Fld.BELFRY_CAPn_CTRL_MINW (n : Nat) : FieldRef := ⟨Reg.BELFRY_CAPn_CTRL n, 12, 8⟩
def Fld.BELFRY_CAPn_CTRL_GEN (n : Nat) : FieldRef := ⟨Reg.BELFRY_CAPn_CTRL n, 8, 4⟩
def Fld.BELFRY_CAPn_CTRL_SRC (n : Nat) : FieldRef := ⟨Reg.BELFRY_CAPn_CTRL n, 4, 4⟩
def Fld.BELFRY_CAPn_CTRL_EDGE (n : Nat) : FieldRef := ⟨Reg.BELFRY_CAPn_CTRL n, 1, 2⟩
def Fld.BELFRY_CAPn_CTRL_ENABLE (n : Nat) : FieldRef := ⟨Reg.BELFRY_CAPn_CTRL n, 0, 1⟩
def Reg.BELFRY_CAPn_POP (n : Nat) : Nat := 0x1304 + n * 0x20
def Fld.BELFRY_CAPn_POP_VALID (n : Nat) : FieldRef := ⟨Reg.BELFRY_CAPn_POP n, 31, 1⟩
def Fld.BELFRY_CAPn_POP_OVF (n : Nat) : FieldRef := ⟨Reg.BELFRY_CAPn_POP n, 30, 1⟩
def Fld.BELFRY_CAPn_POP_EDGE (n : Nat) : FieldRef := ⟨Reg.BELFRY_CAPn_POP n, 29, 1⟩
def Fld.BELFRY_CAPn_POP_LEFT (n : Nat) : FieldRef := ⟨Reg.BELFRY_CAPn_POP n, 0, 5⟩
def Reg.BELFRY_CAPn_SEC_LO (n : Nat) : Nat := 0x1308 + n * 0x20
def Fld.BELFRY_CAPn_SEC_LO_SEC (n : Nat) : FieldRef := ⟨Reg.BELFRY_CAPn_SEC_LO n, 0, 32⟩
def Reg.BELFRY_CAPn_SEC_HI (n : Nat) : Nat := 0x130C + n * 0x20
def Fld.BELFRY_CAPn_SEC_HI_SEC (n : Nat) : FieldRef := ⟨Reg.BELFRY_CAPn_SEC_HI n, 0, 16⟩
def Reg.BELFRY_CAPn_NS (n : Nat) : Nat := 0x1310 + n * 0x20
def Fld.BELFRY_CAPn_NS_NS (n : Nat) : FieldRef := ⟨Reg.BELFRY_CAPn_NS n, 0, 30⟩
def Reg.BELFRY_CAPn_FRAC (n : Nat) : Nat := 0x1314 + n * 0x20
def Fld.BELFRY_CAPn_FRAC_FRAC (n : Nat) : FieldRef := ⟨Reg.BELFRY_CAPn_FRAC n, 0, 16⟩

/-! PWR (spec/22_power.md) -/

def Reg.PWR_STATE : Nat := 0x2040
def Fld.PWR_STATE_TARGET : FieldRef := ⟨Reg.PWR_STATE, 16, 3⟩
def Fld.PWR_STATE_STATE : FieldRef := ⟨Reg.PWR_STATE, 0, 3⟩
def Reg.PWR_STATE_CMD : Nat := 0x2044
def Fld.PWR_STATE_CMD_OP : FieldRef := ⟨Reg.PWR_STATE_CMD, 0, 2⟩
def Reg.PWR_CFG : Nat := 0x2048
def Fld.PWR_CFG_MEM_IDLE : FieldRef := ⟨Reg.PWR_CFG, 16, 16⟩
def Fld.PWR_CFG_WAKE_GEN : FieldRef := ⟨Reg.PWR_CFG, 9, 4⟩
def Fld.PWR_CFG_WAKE_GEN_EN : FieldRef := ⟨Reg.PWR_CFG, 8, 1⟩
def Fld.PWR_CFG_EVQ : FieldRef := ⟨Reg.PWR_CFG, 0, 6⟩
def Reg.PWR_GOV : Nat := 0x204C
def Fld.PWR_GOV_ENABLE : FieldRef := ⟨Reg.PWR_GOV, 31, 1⟩
def Fld.PWR_GOV_GATE_EN : FieldRef := ⟨Reg.PWR_GOV, 30, 1⟩
def Fld.PWR_GOV_CAP : FieldRef := ⟨Reg.PWR_GOV, 4, 8⟩
def Fld.PWR_GOV_MIN_RUN : FieldRef := ⟨Reg.PWR_GOV, 0, 4⟩
def Reg.PWR_EST : Nat := 0x2050
def Fld.PWR_EST_POWER : FieldRef := ⟨Reg.PWR_EST, 0, 12⟩
def Reg.PWR_DOM_CMD : Nat := 0x2054
def Fld.PWR_DOM_CMD_DOMAIN : FieldRef := ⟨Reg.PWR_DOM_CMD, 4, 4⟩
def Fld.PWR_DOM_CMD_OP : FieldRef := ⟨Reg.PWR_DOM_CMD, 0, 2⟩
def Reg.PWR_AVS : Nat := 0x2058
def Fld.PWR_AVS_ERRORS : FieldRef := ⟨Reg.PWR_AVS, 16, 16⟩
def Fld.PWR_AVS_LAST_RAIL : FieldRef := ⟨Reg.PWR_AVS, 8, 3⟩
def Reg.PWR_MEDIA_DROP : Nat := 0x205C
def Fld.PWR_MEDIA_DROP_COUNT : FieldRef := ⟨Reg.PWR_MEDIA_DROP, 0, 32⟩
def Reg.PWR_MEM_EXC : Nat := 0x2060
def Fld.PWR_MEM_EXC_COUNT : FieldRef := ⟨Reg.PWR_MEM_EXC, 0, 32⟩
def Reg.PWR_CLc_CTRL (c : Nat) : Nat := 0x2080 + c * 0x8
def Fld.PWR_CLc_CTRL_CEIL (c : Nat) : FieldRef := ⟨Reg.PWR_CLc_CTRL c, 4, 3⟩
def Fld.PWR_CLc_CTRL_FLOOR (c : Nat) : FieldRef := ⟨Reg.PWR_CLc_CTRL c, 0, 3⟩
def Reg.PWR_CLc_STATUS (c : Nat) : Nat := 0x2084 + c * 0x8
def Fld.PWR_CLc_STATUS_TARGET_OP (c : Nat) : FieldRef := ⟨Reg.PWR_CLc_STATUS c, 24, 3⟩
def Fld.PWR_CLc_STATUS_CEIL_EFF (c : Nat) : FieldRef := ⟨Reg.PWR_CLc_STATUS c, 16, 3⟩
def Fld.PWR_CLc_STATUS_RETRIES (c : Nat) : FieldRef := ⟨Reg.PWR_CLc_STATUS c, 6, 2⟩
def Fld.PWR_CLc_STATUS_OP (c : Nat) : FieldRef := ⟨Reg.PWR_CLc_STATUS c, 3, 3⟩
def Fld.PWR_CLc_STATUS_STATE (c : Nat) : FieldRef := ⟨Reg.PWR_CLc_STATUS c, 0, 3⟩
def Reg.PWR_DOMd_STATUS (d : Nat) : Nat := 0x2100 + d * 0x20
def Fld.PWR_DOMd_STATUS_SLEEPS (d : Nat) : FieldRef := ⟨Reg.PWR_DOMd_STATUS d, 16, 16⟩
def Fld.PWR_DOMd_STATUS_RETRIES (d : Nat) : FieldRef := ⟨Reg.PWR_DOMd_STATUS d, 6, 2⟩
def Fld.PWR_DOMd_STATUS_STATE (d : Nat) : FieldRef := ⟨Reg.PWR_DOMd_STATUS d, 0, 3⟩
def Reg.PWR_DOMd_SLEEP_LO (d : Nat) : Nat := 0x2104 + d * 0x20
def Fld.PWR_DOMd_SLEEP_LO_TIME (d : Nat) : FieldRef := ⟨Reg.PWR_DOMd_SLEEP_LO d, 0, 32⟩
def Reg.PWR_DOMd_SLEEP_HI (d : Nat) : Nat := 0x2108 + d * 0x20
def Fld.PWR_DOMd_SLEEP_HI_TIME (d : Nat) : FieldRef := ⟨Reg.PWR_DOMd_SLEEP_HI d, 0, 32⟩
def Reg.PWR_DOMd_WAKE_LO (d : Nat) : Nat := 0x210C + d * 0x20
def Fld.PWR_DOMd_WAKE_LO_TIME (d : Nat) : FieldRef := ⟨Reg.PWR_DOMd_WAKE_LO d, 0, 32⟩
def Reg.PWR_DOMd_WAKE_HI (d : Nat) : Nat := 0x2110 + d * 0x20
def Fld.PWR_DOMd_WAKE_HI_TIME (d : Nat) : FieldRef := ⟨Reg.PWR_DOMd_WAKE_HI d, 0, 32⟩

/-! CLK (spec/21_islands_and_crossings.md) -/

def Reg.CLK_RUN : Nat := 0x3040
def Fld.CLK_RUN_RUN : FieldRef := ⟨Reg.CLK_RUN, 0, 28⟩
def Reg.CLK_LINKED : Nat := 0x3044
def Fld.CLK_LINKED_LINKED : FieldRef := ⟨Reg.CLK_LINKED, 0, 28⟩
def Reg.CLK_XOVF : Nat := 0x3048
def Fld.CLK_XOVF_OVF : FieldRef := ⟨Reg.CLK_XOVF, 0, 28⟩
def Reg.CLK_FLUSHED : Nat := 0x304C
def Fld.CLK_FLUSHED_COUNT : FieldRef := ⟨Reg.CLK_FLUSHED, 0, 32⟩
def Reg.CLK_FREQk (k : Nat) : Nat := 0x3080 + k * 0x4
def Fld.CLK_FREQk_FREQ (k : Nat) : FieldRef := ⟨Reg.CLK_FREQk k, 0, 16⟩

/-! CRIER (spec/23_reliability_and_service.md) -/

def Reg.CRIER_CFG : Nat := 0x4040
def Fld.CRIER_CFG_FSIZE : FieldRef := ⟨Reg.CRIER_CFG, 12, 4⟩
def Fld.CRIER_CFG_SIZE : FieldRef := ⟨Reg.CRIER_CFG, 8, 4⟩
def Fld.CRIER_CFG_RELAY : FieldRef := ⟨Reg.CRIER_CFG, 2, 1⟩
def Fld.CRIER_CFG_UP : FieldRef := ⟨Reg.CRIER_CFG, 1, 1⟩
def Fld.CRIER_CFG_ENABLE : FieldRef := ⟨Reg.CRIER_CFG, 0, 1⟩
def Reg.CRIER_RING_LO : Nat := 0x4044
def Fld.CRIER_RING_LO_ADDR : FieldRef := ⟨Reg.CRIER_RING_LO, 0, 32⟩
def Reg.CRIER_RING_HI : Nat := 0x4048
def Fld.CRIER_RING_HI_ADDR : FieldRef := ⟨Reg.CRIER_RING_HI, 0, 32⟩
def Reg.CRIER_FRING_LO : Nat := 0x404C
def Fld.CRIER_FRING_LO_ADDR : FieldRef := ⟨Reg.CRIER_FRING_LO, 0, 32⟩
def Reg.CRIER_FRING_HI : Nat := 0x4050
def Fld.CRIER_FRING_HI_ADDR : FieldRef := ⟨Reg.CRIER_FRING_HI, 0, 32⟩
def Reg.CRIER_SEQ : Nat := 0x4054
def Fld.CRIER_SEQ_SEQ : FieldRef := ⟨Reg.CRIER_SEQ, 0, 32⟩
def Reg.CRIER_LOST : Nat := 0x4058
def Fld.CRIER_LOST_LATE : FieldRef := ⟨Reg.CRIER_LOST, 16, 16⟩
def Fld.CRIER_LOST_HOST : FieldRef := ⟨Reg.CRIER_LOST, 0, 16⟩

/-! FAULT (spec/23_reliability_and_service.md) -/

def Reg.FAULT_CFG : Nat := 0x5040
def Fld.FAULT_CFG_EVQ : FieldRef := ⟨Reg.FAULT_CFG, 0, 6⟩
def Reg.FAULT_CORRECTED : Nat := 0x5044
def Fld.FAULT_CORRECTED_COUNT : FieldRef := ⟨Reg.FAULT_CORRECTED, 0, 32⟩
def Reg.FAULT_CONTAINED : Nat := 0x5048
def Fld.FAULT_CONTAINED_COUNT : FieldRef := ⟨Reg.FAULT_CONTAINED, 0, 32⟩
def Reg.FAULT_BLOCK : Nat := 0x504C
def Fld.FAULT_BLOCK_COUNT : FieldRef := ⟨Reg.FAULT_BLOCK, 0, 16⟩
def Reg.FAULT_FATAL : Nat := 0x5050
def Fld.FAULT_FATAL_FAULT_N : FieldRef := ⟨Reg.FAULT_FATAL, 31, 1⟩
def Fld.FAULT_FATAL_CAUSE : FieldRef := ⟨Reg.FAULT_FATAL, 0, 8⟩
def Reg.FAULT_LOG_POP : Nat := 0x5054
def Fld.FAULT_LOG_POP_VALID : FieldRef := ⟨Reg.FAULT_LOG_POP, 31, 1⟩
def Fld.FAULT_LOG_POP_LOSTF : FieldRef := ⟨Reg.FAULT_LOG_POP, 30, 1⟩
def Fld.FAULT_LOG_POP_LEFT : FieldRef := ⟨Reg.FAULT_LOG_POP, 0, 7⟩
def Reg.FAULT_SVC_CMD : Nat := 0x5058
def Fld.FAULT_SVC_CMD_TYPE : FieldRef := ⟨Reg.FAULT_SVC_CMD, 8, 3⟩
def Fld.FAULT_SVC_CMD_INDEX : FieldRef := ⟨Reg.FAULT_SVC_CMD, 4, 4⟩
def Fld.FAULT_SVC_CMD_OP : FieldRef := ⟨Reg.FAULT_SVC_CMD, 0, 2⟩
def Reg.FAULT_SVC_RESULT : Nat := 0x505C
def Fld.FAULT_SVC_RESULT_VALID : FieldRef := ⟨Reg.FAULT_SVC_RESULT, 31, 1⟩
def Fld.FAULT_SVC_RESULT_GEN : FieldRef := ⟨Reg.FAULT_SVC_RESULT, 24, 7⟩
def Fld.FAULT_SVC_RESULT_TYPE : FieldRef := ⟨Reg.FAULT_SVC_RESULT, 16, 3⟩
def Fld.FAULT_SVC_RESULT_INDEX : FieldRef := ⟨Reg.FAULT_SVC_RESULT, 12, 4⟩
def Fld.FAULT_SVC_RESULT_OP : FieldRef := ⟨Reg.FAULT_SVC_RESULT, 8, 4⟩
def Fld.FAULT_SVC_RESULT_STATUS : FieldRef := ⟨Reg.FAULT_SVC_RESULT, 0, 8⟩
def Reg.FAULT_TEST : Nat := 0x5060
def Fld.FAULT_TEST_RUNS : FieldRef := ⟨Reg.FAULT_TEST, 16, 16⟩
def Fld.FAULT_TEST_FAIL : FieldRef := ⟨Reg.FAULT_TEST, 0, 16⟩
def Reg.FAULT_TEST_OVERDUE : Nat := 0x5064
def Fld.FAULT_TEST_OVERDUE_TYPE : FieldRef := ⟨Reg.FAULT_TEST_OVERDUE, 0, 6⟩
def Reg.FAULT_FW_ADDR_LO : Nat := 0x5068
def Fld.FAULT_FW_ADDR_LO_ADDR : FieldRef := ⟨Reg.FAULT_FW_ADDR_LO, 0, 32⟩
def Reg.FAULT_FW_ADDR_HI : Nat := 0x506C
def Fld.FAULT_FW_ADDR_HI_ADDR : FieldRef := ⟨Reg.FAULT_FW_ADDR_HI, 0, 6⟩
def Reg.FAULT_FW_CMD : Nat := 0x5070
def Fld.FAULT_FW_CMD_OP : FieldRef := ⟨Reg.FAULT_FW_CMD, 0, 2⟩
def Reg.FAULT_FW_RESULT : Nat := 0x5074
def Fld.FAULT_FW_RESULT_VALID : FieldRef := ⟨Reg.FAULT_FW_RESULT, 31, 1⟩
def Fld.FAULT_FW_RESULT_GEN : FieldRef := ⟨Reg.FAULT_FW_RESULT, 24, 7⟩
def Fld.FAULT_FW_RESULT_OP : FieldRef := ⟨Reg.FAULT_FW_RESULT, 8, 2⟩
def Fld.FAULT_FW_RESULT_STATUS : FieldRef := ⟨Reg.FAULT_FW_RESULT, 0, 8⟩
def Reg.FAULT_FW_EFFECT_LO : Nat := 0x5078
def Fld.FAULT_FW_EFFECT_LO_TICK : FieldRef := ⟨Reg.FAULT_FW_EFFECT_LO, 0, 32⟩
def Reg.FAULT_FW_EFFECT_HI : Nat := 0x507C
def Fld.FAULT_FW_EFFECT_HI_TICK : FieldRef := ⟨Reg.FAULT_FW_EFFECT_HI, 0, 32⟩
def Reg.FAULT_LOGWw (w : Nat) : Nat := 0x5080 + w * 0x4
def Fld.FAULT_LOGWw_WORD (w : Nat) : FieldRef := ⟨Reg.FAULT_LOGWw w, 0, 32⟩
def Reg.FAULT_LIFE : Nat := 0x50A0
def Fld.FAULT_LIFE_HOURS : FieldRef := ⟨Reg.FAULT_LIFE, 0, 32⟩

/-! DUMP (spec/23_reliability_and_service.md) -/

def Reg.DUMP_ADDR_LO : Nat := 0x6040
def Fld.DUMP_ADDR_LO_ADDR : FieldRef := ⟨Reg.DUMP_ADDR_LO, 0, 32⟩
def Reg.DUMP_ADDR_HI : Nat := 0x6044
def Fld.DUMP_ADDR_HI_ADDR : FieldRef := ⟨Reg.DUMP_ADDR_HI, 0, 32⟩
def Reg.DUMP_SIZE : Nat := 0x6048
def Fld.DUMP_SIZE_PAGES : FieldRef := ⟨Reg.DUMP_SIZE, 0, 20⟩
def Reg.DUMP_CFG : Nat := 0x604C
def Fld.DUMP_CFG_ENABLE : FieldRef := ⟨Reg.DUMP_CFG, 0, 1⟩
def Reg.DUMP_STATUS : Nat := 0x6050
def Fld.DUMP_STATUS_STATE : FieldRef := ⟨Reg.DUMP_STATUS, 0, 3⟩
def Reg.DUMP_LOCAL_LO : Nat := 0x6054
def Fld.DUMP_LOCAL_LO_ADDR : FieldRef := ⟨Reg.DUMP_LOCAL_LO, 0, 32⟩
def Reg.DUMP_LOCAL_HI : Nat := 0x6058
def Fld.DUMP_LOCAL_HI_ADDR : FieldRef := ⟨Reg.DUMP_LOCAL_HI, 0, 6⟩

/-! HOSTIF (spec/20_host_and_dma.md) -/

def Reg.HOSTIF_LINK : Nat := 0x8040
def Fld.HOSTIF_LINK_DOWN_COUNT : FieldRef := ⟨Reg.HOSTIF_LINK, 16, 16⟩
def Fld.HOSTIF_LINK_WIDTH : FieldRef := ⟨Reg.HOSTIF_LINK, 4, 4⟩
def Fld.HOSTIF_LINK_SPEED : FieldRef := ⟨Reg.HOSTIF_LINK, 1, 3⟩
def Fld.HOSTIF_LINK_UP : FieldRef := ⟨Reg.HOSTIF_LINK, 0, 1⟩
def Reg.HOSTIF_WIN : Nat := 0x8044
def Fld.HOSTIF_WIN_BASE : FieldRef := ⟨Reg.HOSTIF_WIN, 0, 8⟩
def Reg.HOSTIF_BAR2_ERR : Nat := 0x8048
def Fld.HOSTIF_BAR2_ERR_POISON : FieldRef := ⟨Reg.HOSTIF_BAR2_ERR, 22, 10⟩
def Fld.HOSTIF_BAR2_ERR_MEDIA : FieldRef := ⟨Reg.HOSTIF_BAR2_ERR, 11, 11⟩
def Fld.HOSTIF_BAR2_ERR_RANGE : FieldRef := ⟨Reg.HOSTIF_BAR2_ERR, 0, 11⟩
def Reg.HOSTIF_TAGS : Nat := 0x804C
def Fld.HOSTIF_TAGS_PEAK : FieldRef := ⟨Reg.HOSTIF_TAGS, 16, 9⟩
def Fld.HOSTIF_TAGS_USED : FieldRef := ⟨Reg.HOSTIF_TAGS, 0, 9⟩

/-! DMA (spec/20_host_and_dma.md) -/

def Reg.DMA_CHc_RING_LO (c : Nat) : Nat := 0x10040 + (c / 4) * 0x1000 + (c % 4) * 0x40
def Fld.DMA_CHc_RING_LO_ADDR (c : Nat) : FieldRef := ⟨Reg.DMA_CHc_RING_LO c, 0, 32⟩
def Reg.DMA_CHc_RING_HI (c : Nat) : Nat := 0x10044 + (c / 4) * 0x1000 + (c % 4) * 0x40
def Fld.DMA_CHc_RING_HI_ADDR (c : Nat) : FieldRef := ⟨Reg.DMA_CHc_RING_HI c, 0, 32⟩
def Reg.DMA_CHc_CTRL (c : Nat) : Nat := 0x10048 + (c / 4) * 0x1000 + (c % 4) * 0x40
def Fld.DMA_CHc_CTRL_SHARE (c : Nat) : FieldRef := ⟨Reg.DMA_CHc_CTRL c, 16, 9⟩
def Fld.DMA_CHc_CTRL_SIZE (c : Nat) : FieldRef := ⟨Reg.DMA_CHc_CTRL c, 1, 4⟩
def Fld.DMA_CHc_CTRL_ENABLE (c : Nat) : FieldRef := ⟨Reg.DMA_CHc_CTRL c, 0, 1⟩
def Reg.DMA_CHc_TAIL (c : Nat) : Nat := 0x1004C + (c / 4) * 0x1000 + (c % 4) * 0x40
def Fld.DMA_CHc_TAIL_TAIL (c : Nat) : FieldRef := ⟨Reg.DMA_CHc_TAIL c, 0, 16⟩
def Reg.DMA_CHc_HEAD (c : Nat) : Nat := 0x10050 + (c / 4) * 0x1000 + (c % 4) * 0x40
def Fld.DMA_CHc_HEAD_HEAD (c : Nat) : FieldRef := ⟨Reg.DMA_CHc_HEAD c, 0, 16⟩
def Reg.DMA_CHc_CMD (c : Nat) : Nat := 0x10054 + (c / 4) * 0x1000 + (c % 4) * 0x40
def Fld.DMA_CHc_CMD_OP (c : Nat) : FieldRef := ⟨Reg.DMA_CHc_CMD c, 0, 2⟩
def Reg.DMA_CHc_STATUS (c : Nat) : Nat := 0x10058 + (c / 4) * 0x1000 + (c % 4) * 0x40
def Fld.DMA_CHc_STATUS_OUTCOME (c : Nat) : FieldRef := ⟨Reg.DMA_CHc_STATUS c, 12, 4⟩
def Fld.DMA_CHc_STATUS_INFLIGHT (c : Nat) : FieldRef := ⟨Reg.DMA_CHc_STATUS c, 8, 4⟩
def Fld.DMA_CHc_STATUS_STATE (c : Nat) : FieldRef := ⟨Reg.DMA_CHc_STATUS c, 0, 3⟩
def Reg.DMA_CHc_FAIL_ADDR_LO (c : Nat) : Nat := 0x1005C + (c / 4) * 0x1000 + (c % 4) * 0x40
def Fld.DMA_CHc_FAIL_ADDR_LO_ADDR (c : Nat) : FieldRef := ⟨Reg.DMA_CHc_FAIL_ADDR_LO c, 0, 32⟩
def Reg.DMA_CHc_FAIL_ADDR_HI (c : Nat) : Nat := 0x10060 + (c / 4) * 0x1000 + (c % 4) * 0x40
def Fld.DMA_CHc_FAIL_ADDR_HI_ADDR (c : Nat) : FieldRef := ⟨Reg.DMA_CHc_FAIL_ADDR_HI c, 0, 32⟩
def Reg.DMA_CHc_FAIL (c : Nat) : Nat := 0x10064 + (c / 4) * 0x1000 + (c % 4) * 0x40
def Fld.DMA_CHc_FAIL_INDEX (c : Nat) : FieldRef := ⟨Reg.DMA_CHc_FAIL c, 4, 16⟩
def Fld.DMA_CHc_FAIL_CAUSE (c : Nat) : FieldRef := ⟨Reg.DMA_CHc_FAIL c, 1, 3⟩
def Fld.DMA_CHc_FAIL_DIR (c : Nat) : FieldRef := ⟨Reg.DMA_CHc_FAIL c, 0, 1⟩
def Reg.DMA_CHc_BYTES_LO (c : Nat) : Nat := 0x10068 + (c / 4) * 0x1000 + (c % 4) * 0x40
def Fld.DMA_CHc_BYTES_LO_COUNT (c : Nat) : FieldRef := ⟨Reg.DMA_CHc_BYTES_LO c, 0, 32⟩
def Reg.DMA_CHc_BYTES_HI (c : Nat) : Nat := 0x1006C + (c / 4) * 0x1000 + (c % 4) * 0x40
def Fld.DMA_CHc_BYTES_HI_COUNT (c : Nat) : FieldRef := ⟨Reg.DMA_CHc_BYTES_HI c, 0, 32⟩

/-! ETH (spec/04_ports_and_planes.md) -/

def Reg.ETHn_CFG (n : Nat) : Nat := 0x20040 + n * 0x1000
def Fld.ETHn_CFG_MAX_FRAME (n : Nat) : FieldRef := ⟨Reg.ETHn_CFG n, 16, 14⟩
def Fld.ETHn_CFG_TX_INV (n : Nat) : FieldRef := ⟨Reg.ETHn_CFG n, 12, 4⟩
def Fld.ETHn_CFG_RX_INV (n : Nat) : FieldRef := ⟨Reg.ETHn_CFG n, 8, 4⟩
def Fld.ETHn_CFG_MODE (n : Nat) : FieldRef := ⟨Reg.ETHn_CFG n, 0, 2⟩
def Reg.ETHn_LINK (n : Nat) : Nat := 0x20044 + n * 0x1000
def Fld.ETHn_LINK_DOWN_COUNT (n : Nat) : FieldRef := ⟨Reg.ETHn_LINK n, 16, 16⟩
def Fld.ETHn_LINK_REMOTE_FAULT (n : Nat) : FieldRef := ⟨Reg.ETHn_LINK n, 8, 1⟩
def Fld.ETHn_LINK_LOCAL_FAULT (n : Nat) : FieldRef := ⟨Reg.ETHn_LINK n, 7, 1⟩
def Fld.ETHn_LINK_FEC_LOCK (n : Nat) : FieldRef := ⟨Reg.ETHn_LINK n, 6, 1⟩
def Fld.ETHn_LINK_ALIGNED (n : Nat) : FieldRef := ⟨Reg.ETHn_LINK n, 5, 1⟩
def Fld.ETHn_LINK_SIGNAL (n : Nat) : FieldRef := ⟨Reg.ETHn_LINK n, 1, 4⟩
def Fld.ETHn_LINK_UP (n : Nat) : FieldRef := ⟨Reg.ETHn_LINK n, 0, 1⟩
def Reg.ETHn_RX_FRAMES_LO (n : Nat) : Nat := 0x20048 + n * 0x1000
def Fld.ETHn_RX_FRAMES_LO_COUNT (n : Nat) : FieldRef := ⟨Reg.ETHn_RX_FRAMES_LO n, 0, 32⟩
def Reg.ETHn_RX_FRAMES_HI (n : Nat) : Nat := 0x2004C + n * 0x1000
def Fld.ETHn_RX_FRAMES_HI_COUNT (n : Nat) : FieldRef := ⟨Reg.ETHn_RX_FRAMES_HI n, 0, 32⟩
def Reg.ETHn_RX_OCTETS_LO (n : Nat) : Nat := 0x20050 + n * 0x1000
def Fld.ETHn_RX_OCTETS_LO_COUNT (n : Nat) : FieldRef := ⟨Reg.ETHn_RX_OCTETS_LO n, 0, 32⟩
def Reg.ETHn_RX_OCTETS_HI (n : Nat) : Nat := 0x20054 + n * 0x1000
def Fld.ETHn_RX_OCTETS_HI_COUNT (n : Nat) : FieldRef := ⟨Reg.ETHn_RX_OCTETS_HI n, 0, 32⟩
def Reg.ETHn_TX_FRAMES_LO (n : Nat) : Nat := 0x20058 + n * 0x1000
def Fld.ETHn_TX_FRAMES_LO_COUNT (n : Nat) : FieldRef := ⟨Reg.ETHn_TX_FRAMES_LO n, 0, 32⟩
def Reg.ETHn_TX_FRAMES_HI (n : Nat) : Nat := 0x2005C + n * 0x1000
def Fld.ETHn_TX_FRAMES_HI_COUNT (n : Nat) : FieldRef := ⟨Reg.ETHn_TX_FRAMES_HI n, 0, 32⟩
def Reg.ETHn_RX_ERR (n : Nat) : Nat := 0x20060 + n * 0x1000
def Fld.ETHn_RX_ERR_SIZE (n : Nat) : FieldRef := ⟨Reg.ETHn_RX_ERR n, 16, 16⟩
def Fld.ETHn_RX_ERR_FCS (n : Nat) : FieldRef := ⟨Reg.ETHn_RX_ERR n, 0, 16⟩
def Reg.ETHn_FEC_CORR (n : Nat) : Nat := 0x20064 + n * 0x1000
def Fld.ETHn_FEC_CORR_COUNT (n : Nat) : FieldRef := ⟨Reg.ETHn_FEC_CORR n, 0, 32⟩
def Reg.ETHn_FEC_UNCORR (n : Nat) : Nat := 0x20068 + n * 0x1000
def Fld.ETHn_FEC_UNCORR_COUNT (n : Nat) : FieldRef := ⟨Reg.ETHn_FEC_UNCORR n, 0, 32⟩
def Reg.ETHn_TX_DROP (n : Nat) : Nat := 0x2006C + n * 0x1000
def Fld.ETHn_TX_DROP_COUNT (n : Nat) : FieldRef := ⟨Reg.ETHn_TX_DROP n, 0, 32⟩

/-! PLANE (spec/04_ports_and_planes.md) -/

def Reg.PLANEn_CFG (n : Nat) : Nat := 0x24040 + n * 0x1000
def Fld.PLANEn_CFG_ISOLATE (n : Nat) : FieldRef := ⟨Reg.PLANEn_CFG n, 2, 1⟩
def Fld.PLANEn_CFG_UNTAGGED (n : Nat) : FieldRef := ⟨Reg.PLANEn_CFG n, 1, 1⟩
def Fld.PLANEn_CFG_PRP (n : Nat) : FieldRef := ⟨Reg.PLANEn_CFG n, 0, 1⟩
def Reg.PLANEn_MAC_LO (n : Nat) : Nat := 0x24044 + n * 0x1000
def Fld.PLANEn_MAC_LO_MAC (n : Nat) : FieldRef := ⟨Reg.PLANEn_MAC_LO n, 0, 32⟩
def Reg.PLANEn_MAC_HI (n : Nat) : Nat := 0x24048 + n * 0x1000
def Fld.PLANEn_MAC_HI_MAC (n : Nat) : FieldRef := ⟨Reg.PLANEn_MAC_HI n, 0, 16⟩
def Reg.PLANEn_IPV4 (n : Nat) : Nat := 0x2404C + n * 0x1000
def Fld.PLANEn_IPV4_ADDR (n : Nat) : FieldRef := ⟨Reg.PLANEn_IPV4 n, 0, 32⟩
def Reg.PLANEn_IPV6_k (n : Nat) (k : Nat) : Nat := 0x24050 + n * 0x1000 + k * 0x4
def Fld.PLANEn_IPV6_k_ADDR (n : Nat) (k : Nat) : FieldRef := ⟨Reg.PLANEn_IPV6_k n k, 0, 32⟩
def Reg.PLANEn_VLANk (n : Nat) (k : Nat) : Nat := 0x24060 + n * 0x1000 + k * 0x4
def Fld.PLANEn_VLANk_VALID (n : Nat) (k : Nat) : FieldRef := ⟨Reg.PLANEn_VLANk n k, 12, 1⟩
def Fld.PLANEn_VLANk_VID (n : Nat) (k : Nat) : FieldRef := ⟨Reg.PLANEn_VLANk n k, 0, 12⟩
def Reg.PLANEn_QOS_DSCP (n : Nat) : Nat := 0x24080 + n * 0x1000
def Fld.PLANEn_QOS_DSCP_OTHER (n : Nat) : FieldRef := ⟨Reg.PLANEn_QOS_DSCP n, 24, 6⟩
def Fld.PLANEn_QOS_DSCP_VIDEO (n : Nat) : FieldRef := ⟨Reg.PLANEn_QOS_DSCP n, 16, 6⟩
def Fld.PLANEn_QOS_DSCP_VOICE (n : Nat) : FieldRef := ⟨Reg.PLANEn_QOS_DSCP n, 8, 6⟩
def Fld.PLANEn_QOS_DSCP_CTRL (n : Nat) : FieldRef := ⟨Reg.PLANEn_QOS_DSCP n, 0, 6⟩
def Reg.PLANEn_QOS_PCP (n : Nat) : Nat := 0x24084 + n * 0x1000
def Fld.PLANEn_QOS_PCP_OTHER (n : Nat) : FieldRef := ⟨Reg.PLANEn_QOS_PCP n, 12, 3⟩
def Fld.PLANEn_QOS_PCP_VIDEO (n : Nat) : FieldRef := ⟨Reg.PLANEn_QOS_PCP n, 8, 3⟩
def Fld.PLANEn_QOS_PCP_VOICE (n : Nat) : FieldRef := ⟨Reg.PLANEn_QOS_PCP n, 4, 3⟩
def Fld.PLANEn_QOS_PCP_CTRL (n : Nat) : FieldRef := ⟨Reg.PLANEn_QOS_PCP n, 0, 3⟩
def Reg.PLANEn_PRP_CFG (n : Nat) : Nat := 0x24088 + n * 0x1000
def Fld.PLANEn_PRP_CFG_SUP_EN (n : Nat) : FieldRef := ⟨Reg.PLANEn_PRP_CFG n, 24, 1⟩
def Fld.PLANEn_PRP_CFG_FORGET (n : Nat) : FieldRef := ⟨Reg.PLANEn_PRP_CFG n, 16, 8⟩
def Fld.PLANEn_PRP_CFG_SUP_INT (n : Nat) : FieldRef := ⟨Reg.PLANEn_PRP_CFG n, 0, 16⟩
def Reg.PLANEn_PRP_DROP (n : Nat) : Nat := 0x2408C + n * 0x1000
def Fld.PLANEn_PRP_DROP_COUNT (n : Nat) : FieldRef := ⟨Reg.PLANEn_PRP_DROP n, 0, 32⟩
def Reg.PLANEn_PRP_ERR (n : Nat) : Nat := 0x24090 + n * 0x1000
def Fld.PLANEn_PRP_ERR_SUP_RX (n : Nat) : FieldRef := ⟨Reg.PLANEn_PRP_ERR n, 22, 10⟩
def Fld.PLANEn_PRP_ERR_NOENTRY (n : Nat) : FieldRef := ⟨Reg.PLANEn_PRP_ERR n, 11, 11⟩
def Fld.PLANEn_PRP_ERR_WRONG_LAN (n : Nat) : FieldRef := ⟨Reg.PLANEn_PRP_ERR n, 0, 11⟩
def Reg.PLANEn_PRP_TABLE (n : Nat) : Nat := 0x24094 + n * 0x1000
def Fld.PLANEn_PRP_TABLE_PEAK (n : Nat) : FieldRef := ⟨Reg.PLANEn_PRP_TABLE n, 16, 13⟩
def Fld.PLANEn_PRP_TABLE_ENTRIES (n : Nat) : FieldRef := ⟨Reg.PLANEn_PRP_TABLE n, 0, 13⟩
def Reg.PLANEn_PUNT_BASE_LO (n : Nat) : Nat := 0x240A0 + n * 0x1000
def Fld.PLANEn_PUNT_BASE_LO_ADDR (n : Nat) : FieldRef := ⟨Reg.PLANEn_PUNT_BASE_LO n, 0, 32⟩
def Reg.PLANEn_PUNT_BASE_HI (n : Nat) : Nat := 0x240A4 + n * 0x1000
def Fld.PLANEn_PUNT_BASE_HI_ADDR (n : Nat) : FieldRef := ⟨Reg.PLANEn_PUNT_BASE_HI n, 0, 6⟩
def Reg.PLANEn_PUNT_CFG (n : Nat) : Nat := 0x240A8 + n * 0x1000
def Fld.PLANEn_PUNT_CFG_ENABLE (n : Nat) : FieldRef := ⟨Reg.PLANEn_PUNT_CFG n, 31, 1⟩
def Fld.PLANEn_PUNT_CFG_EVQ (n : Nat) : FieldRef := ⟨Reg.PLANEn_PUNT_CFG n, 23, 6⟩
def Fld.PLANEn_PUNT_CFG_RATE (n : Nat) : FieldRef := ⟨Reg.PLANEn_PUNT_CFG n, 15, 8⟩
def Fld.PLANEn_PUNT_CFG_SLOTS (n : Nat) : FieldRef := ⟨Reg.PLANEn_PUNT_CFG n, 0, 15⟩
def Reg.PLANEn_PUNT_PTR (n : Nat) : Nat := 0x240AC + n * 0x1000
def Fld.PLANEn_PUNT_PTR_HEAD (n : Nat) : FieldRef := ⟨Reg.PLANEn_PUNT_PTR n, 16, 15⟩
def Fld.PLANEn_PUNT_PTR_TAIL (n : Nat) : FieldRef := ⟨Reg.PLANEn_PUNT_PTR n, 0, 15⟩
def Reg.PLANEn_PUNT_DROP (n : Nat) : Nat := 0x240B0 + n * 0x1000
def Fld.PLANEn_PUNT_DROP_LONG (n : Nat) : FieldRef := ⟨Reg.PLANEn_PUNT_DROP n, 22, 10⟩
def Fld.PLANEn_PUNT_DROP_RATE (n : Nat) : FieldRef := ⟨Reg.PLANEn_PUNT_DROP n, 11, 11⟩
def Fld.PLANEn_PUNT_DROP_FULL (n : Nat) : FieldRef := ⟨Reg.PLANEn_PUNT_DROP n, 0, 11⟩
def Reg.PLANEn_INJ_BASE_LO (n : Nat) : Nat := 0x240B4 + n * 0x1000
def Fld.PLANEn_INJ_BASE_LO_ADDR (n : Nat) : FieldRef := ⟨Reg.PLANEn_INJ_BASE_LO n, 0, 32⟩
def Reg.PLANEn_INJ_BASE_HI (n : Nat) : Nat := 0x240B8 + n * 0x1000
def Fld.PLANEn_INJ_BASE_HI_ADDR (n : Nat) : FieldRef := ⟨Reg.PLANEn_INJ_BASE_HI n, 0, 6⟩
def Reg.PLANEn_INJ_CFG (n : Nat) : Nat := 0x240BC + n * 0x1000
def Fld.PLANEn_INJ_CFG_ENABLE (n : Nat) : FieldRef := ⟨Reg.PLANEn_INJ_CFG n, 31, 1⟩
def Fld.PLANEn_INJ_CFG_SLOTS (n : Nat) : FieldRef := ⟨Reg.PLANEn_INJ_CFG n, 0, 15⟩
def Reg.PLANEn_INJ_PTR (n : Nat) : Nat := 0x240C0 + n * 0x1000
def Fld.PLANEn_INJ_PTR_HEAD (n : Nat) : FieldRef := ⟨Reg.PLANEn_INJ_PTR n, 16, 15⟩
def Fld.PLANEn_INJ_PTR_TAIL (n : Nat) : FieldRef := ⟨Reg.PLANEn_INJ_PTR n, 0, 15⟩
def Reg.PLANEn_INJ (n : Nat) : Nat := 0x240C4 + n * 0x1000
def Fld.PLANEn_INJ_BAD (n : Nat) : FieldRef := ⟨Reg.PLANEn_INJ n, 0, 16⟩

/-! PKTIN (spec/04_ports_and_planes.md) -/

def Reg.PKTIN_DROP_L2 : Nat := 0x26040
def Fld.PKTIN_DROP_L2_VLAN : FieldRef := ⟨Reg.PKTIN_DROP_L2, 16, 16⟩
def Fld.PKTIN_DROP_L2_MAC : FieldRef := ⟨Reg.PKTIN_DROP_L2, 0, 16⟩
def Reg.PKTIN_DROP_POLICE : Nat := 0x26044
def Fld.PKTIN_DROP_POLICE_COUNT : FieldRef := ⟨Reg.PKTIN_DROP_POLICE, 0, 32⟩
def Reg.PKTIN_RTP_DUP : Nat := 0x26048
def Fld.PKTIN_RTP_DUP_COUNT : FieldRef := ⟨Reg.PKTIN_RTP_DUP, 0, 32⟩
def Reg.PKTIN_CLASS : Nat := 0x2604C
def Fld.PKTIN_CLASS_ENTRIES : FieldRef := ⟨Reg.PKTIN_CLASS, 0, 16⟩
def Reg.PKTIN_LEG_SEL : Nat := 0x26050
def Fld.PKTIN_LEG_SEL_LEG : FieldRef := ⟨Reg.PKTIN_LEG_SEL, 0, 14⟩
def Reg.PKTIN_LEG_POLICE : Nat := 0x26054
def Fld.PKTIN_LEG_POLICE_VALID : FieldRef := ⟨Reg.PKTIN_LEG_POLICE, 31, 1⟩
def Fld.PKTIN_LEG_POLICE_GEN : FieldRef := ⟨Reg.PKTIN_LEG_POLICE, 24, 7⟩
def Fld.PKTIN_LEG_POLICE_COUNT : FieldRef := ⟨Reg.PKTIN_LEG_POLICE, 0, 24⟩
def Reg.PKTIN_LEG_DUP : Nat := 0x26058
def Fld.PKTIN_LEG_DUP_VALID : FieldRef := ⟨Reg.PKTIN_LEG_DUP, 31, 1⟩
def Fld.PKTIN_LEG_DUP_GEN : FieldRef := ⟨Reg.PKTIN_LEG_DUP, 24, 7⟩
def Fld.PKTIN_LEG_DUP_COUNT : FieldRef := ⟨Reg.PKTIN_LEG_DUP, 0, 24⟩

/-! PKTOUT (spec/07_egress_scheduling.md) -/

def Reg.PKTOUT_LEGQ_CELLS : Nat := 0x27040
def Fld.PKTOUT_LEGQ_CELLS_MAX : FieldRef := ⟨Reg.PKTOUT_LEGQ_CELLS, 16, 16⟩
def Fld.PKTOUT_LEGQ_CELLS_MIN : FieldRef := ⟨Reg.PKTOUT_LEGQ_CELLS, 0, 16⟩
def Reg.PKTOUT_RELEASED_LO : Nat := 0x27044
def Fld.PKTOUT_RELEASED_LO_COUNT : FieldRef := ⟨Reg.PKTOUT_RELEASED_LO, 0, 32⟩
def Reg.PKTOUT_RELEASED_HI : Nat := 0x27048
def Fld.PKTOUT_RELEASED_HI_COUNT : FieldRef := ⟨Reg.PKTOUT_RELEASED_HI, 0, 32⟩
def Reg.PKTOUT_DROP_WAIT : Nat := 0x2704C
def Fld.PKTOUT_DROP_WAIT_COUNT : FieldRef := ⟨Reg.PKTOUT_DROP_WAIT, 0, 32⟩
def Reg.PKTOUT_OVERSIZE : Nat := 0x27050
def Fld.PKTOUT_OVERSIZE_COUNT : FieldRef := ⟨Reg.PKTOUT_OVERSIZE, 0, 32⟩
def Reg.PKTOUT_LEG_SEL : Nat := 0x27054
def Fld.PKTOUT_LEG_SEL_LEG : FieldRef := ⟨Reg.PKTOUT_LEG_SEL, 0, 14⟩
def Reg.PKTOUT_LEG_TOKENS : Nat := 0x27058
def Fld.PKTOUT_LEG_TOKENS_VALID : FieldRef := ⟨Reg.PKTOUT_LEG_TOKENS, 31, 1⟩
def Fld.PKTOUT_LEG_TOKENS_GEN : FieldRef := ⟨Reg.PKTOUT_LEG_TOKENS, 24, 7⟩
def Fld.PKTOUT_LEG_TOKENS_BYTES : FieldRef := ⟨Reg.PKTOUT_LEG_TOKENS, 0, 21⟩
def Reg.PKTOUT_LEG_RATE : Nat := 0x2705C
def Fld.PKTOUT_LEG_RATE_VALID : FieldRef := ⟨Reg.PKTOUT_LEG_RATE, 31, 1⟩
def Fld.PKTOUT_LEG_RATE_GEN : FieldRef := ⟨Reg.PKTOUT_LEG_RATE, 24, 7⟩
def Fld.PKTOUT_LEG_RATE_RATE : FieldRef := ⟨Reg.PKTOUT_LEG_RATE, 0, 24⟩
def Reg.PKTOUT_LATE : Nat := 0x27060
def Fld.PKTOUT_LATE_COUNT : FieldRef := ⟨Reg.PKTOUT_LATE, 0, 32⟩

/-! SCHED (spec/07_egress_scheduling.md) -/

def Reg.SCHEDn_CFG (n : Nat) : Nat := 0x28040 + n * 0x1000
def Fld.SCHEDn_CFG_HOST_Q (n : Nat) : FieldRef := ⟨Reg.SCHEDn_CFG n, 11, 10⟩
def Fld.SCHEDn_CFG_STRICT_Q (n : Nat) : FieldRef := ⟨Reg.SCHEDn_CFG n, 1, 10⟩
def Fld.SCHEDn_CFG_STRICT_EN (n : Nat) : FieldRef := ⟨Reg.SCHEDn_CFG n, 0, 1⟩
def Reg.SCHEDn_LEGQ (n : Nat) : Nat := 0x28044 + n * 0x1000
def Fld.SCHEDn_LEGQ_COUNT (n : Nat) : FieldRef := ⟨Reg.SCHEDn_LEGQ n, 0, 15⟩
def Reg.SCHEDn_LAG (n : Nat) : Nat := 0x28048 + n * 0x1000
def Fld.SCHEDn_LAG_MAX (n : Nat) : FieldRef := ⟨Reg.SCHEDn_LAG n, 0, 32⟩
def Reg.SCHEDn_SQk_FRAMES (n : Nat) (k : Nat) : Nat := 0x2804C + n * 0x1000 + k * 0x4
def Fld.SCHEDn_SQk_FRAMES_COUNT (n : Nat) (k : Nat) : FieldRef := ⟨Reg.SCHEDn_SQk_FRAMES n k, 0, 32⟩
def Reg.SCHEDn_DRR_FRAMES (n : Nat) : Nat := 0x2805C + n * 0x1000
def Fld.SCHEDn_DRR_FRAMES_COUNT (n : Nat) : FieldRef := ⟨Reg.SCHEDn_DRR_FRAMES n, 0, 32⟩

/-! SRTP (spec/05_legs_and_transport.md) -/

def Reg.SRTP_STATS_BASE_LO : Nat := 0x2C040
def Fld.SRTP_STATS_BASE_LO_ADDR : FieldRef := ⟨Reg.SRTP_STATS_BASE_LO, 0, 32⟩
def Reg.SRTP_STATS_BASE_HI : Nat := 0x2C044
def Fld.SRTP_STATS_BASE_HI_ADDR : FieldRef := ⟨Reg.SRTP_STATS_BASE_HI, 0, 6⟩
def Reg.SRTP_STATS_CFG : Nat := 0x2C048
def Fld.SRTP_STATS_CFG_PERIOD : FieldRef := ⟨Reg.SRTP_STATS_CFG, 8, 8⟩
def Fld.SRTP_STATS_CFG_ENABLE : FieldRef := ⟨Reg.SRTP_STATS_CFG, 0, 1⟩
def Reg.SRTP_AUTH_FAIL : Nat := 0x2C04C
def Fld.SRTP_AUTH_FAIL_COUNT : FieldRef := ⟨Reg.SRTP_AUTH_FAIL, 0, 32⟩
def Reg.SRTP_REPLAY : Nat := 0x2C050
def Fld.SRTP_REPLAY_COUNT : FieldRef := ⟨Reg.SRTP_REPLAY, 0, 32⟩
def Reg.SRTP_NOKEY : Nat := 0x2C054
def Fld.SRTP_NOKEY_COUNT : FieldRef := ⟨Reg.SRTP_NOKEY, 0, 32⟩
def Reg.SRTP_UNKNOWN_PT : Nat := 0x2C058
def Fld.SRTP_UNKNOWN_PT_COUNT : FieldRef := ⟨Reg.SRTP_UNKNOWN_PT, 0, 32⟩
def Reg.SRTP_LEGS : Nat := 0x2C05C
def Fld.SRTP_LEGS_HALTED : FieldRef := ⟨Reg.SRTP_LEGS, 16, 16⟩
def Fld.SRTP_LEGS_STOPPED : FieldRef := ⟨Reg.SRTP_LEGS, 0, 16⟩
def Reg.SRTP_REKEY : Nat := 0x2C060
def Fld.SRTP_REKEY_COUNT : FieldRef := ⟨Reg.SRTP_REKEY, 0, 32⟩

/-! ADAPT (spec/06_adaptation_and_forwarding.md) -/

def Reg.ADAPT_CFG : Nat := 0x2D040
def Fld.ADAPT_CFG_START : FieldRef := ⟨Reg.ADAPT_CFG, 8, 24⟩
def Fld.ADAPT_CFG_ENABLE : FieldRef := ⟨Reg.ADAPT_CFG, 0, 1⟩
def Reg.ADAPT_TRIP : Nat := 0x2D044
def Fld.ADAPT_TRIP_FB_TIMEOUT : FieldRef := ⟨Reg.ADAPT_TRIP, 24, 8⟩
def Fld.ADAPT_TRIP_RTT_RISE : FieldRef := ⟨Reg.ADAPT_TRIP, 8, 16⟩
def Fld.ADAPT_TRIP_GRAD : FieldRef := ⟨Reg.ADAPT_TRIP, 0, 8⟩
def Reg.ADAPT_LEG_SEL : Nat := 0x2D048
def Fld.ADAPT_LEG_SEL_LEG : FieldRef := ⟨Reg.ADAPT_LEG_SEL, 0, 14⟩
def Reg.ADAPT_LEG_RATE : Nat := 0x2D04C
def Fld.ADAPT_LEG_RATE_VALID : FieldRef := ⟨Reg.ADAPT_LEG_RATE, 31, 1⟩
def Fld.ADAPT_LEG_RATE_GEN : FieldRef := ⟨Reg.ADAPT_LEG_RATE, 24, 7⟩
def Fld.ADAPT_LEG_RATE_RATE : FieldRef := ⟨Reg.ADAPT_LEG_RATE, 0, 24⟩
def Reg.ADAPT_LEG_STATE : Nat := 0x2D050
def Fld.ADAPT_LEG_STATE_VALID : FieldRef := ⟨Reg.ADAPT_LEG_STATE, 31, 1⟩
def Fld.ADAPT_LEG_STATE_GEN : FieldRef := ⟨Reg.ADAPT_LEG_STATE, 24, 7⟩
def Fld.ADAPT_LEG_STATE_MODE : FieldRef := ⟨Reg.ADAPT_LEG_STATE, 22, 2⟩
def Fld.ADAPT_LEG_STATE_HOLD : FieldRef := ⟨Reg.ADAPT_LEG_STATE, 21, 1⟩
def Fld.ADAPT_LEG_STATE_DELAY : FieldRef := ⟨Reg.ADAPT_LEG_STATE, 20, 1⟩
def Fld.ADAPT_LEG_STATE_LOSS : FieldRef := ⟨Reg.ADAPT_LEG_STATE, 10, 10⟩
def Fld.ADAPT_LEG_STATE_GRAD : FieldRef := ⟨Reg.ADAPT_LEG_STATE, 0, 10⟩
def Reg.ADAPT_OSTR_SEL : Nat := 0x2D054
def Fld.ADAPT_OSTR_SEL_OSTR : FieldRef := ⟨Reg.ADAPT_OSTR_SEL, 0, 14⟩
def Reg.ADAPT_OSTR_LAYER : Nat := 0x2D058
def Fld.ADAPT_OSTR_LAYER_VALID : FieldRef := ⟨Reg.ADAPT_OSTR_LAYER, 31, 1⟩
def Fld.ADAPT_OSTR_LAYER_GEN : FieldRef := ⟨Reg.ADAPT_OSTR_LAYER, 24, 7⟩
def Fld.ADAPT_OSTR_LAYER_STATE : FieldRef := ⟨Reg.ADAPT_OSTR_LAYER, 16, 2⟩
def Fld.ADAPT_OSTR_LAYER_UP_WAIT : FieldRef := ⟨Reg.ADAPT_OSTR_LAYER, 12, 1⟩
def Fld.ADAPT_OSTR_LAYER_DESIRED : FieldRef := ⟨Reg.ADAPT_OSTR_LAYER, 8, 4⟩
def Fld.ADAPT_OSTR_LAYER_CURRENT : FieldRef := ⟨Reg.ADAPT_OSTR_LAYER, 0, 4⟩
def Reg.ADAPT_DECREASES : Nat := 0x2D05C
def Fld.ADAPT_DECREASES_COUNT : FieldRef := ⟨Reg.ADAPT_DECREASES, 0, 32⟩
def Reg.ADAPT_SWITCH_UP : Nat := 0x2D060
def Fld.ADAPT_SWITCH_UP_COUNT : FieldRef := ⟨Reg.ADAPT_SWITCH_UP, 0, 32⟩
def Reg.ADAPT_SWITCH_DOWN : Nat := 0x2D064
def Fld.ADAPT_SWITCH_DOWN_COUNT : FieldRef := ⟨Reg.ADAPT_SWITCH_DOWN, 0, 32⟩
def Reg.ADAPT_KEYREQ : Nat := 0x2D068
def Fld.ADAPT_KEYREQ_SWEEP : FieldRef := ⟨Reg.ADAPT_KEYREQ, 16, 16⟩
def Fld.ADAPT_KEYREQ_PLI : FieldRef := ⟨Reg.ADAPT_KEYREQ, 0, 16⟩

/-! TDM (spec/05_legs_and_transport.md) -/

def Reg.TDMn_CFG (n : Nat) : Nat := 0x30040 + n * 0x1000
def Fld.TDMn_CFG_EVQ (n : Nat) : FieldRef := ⟨Reg.TDMn_CFG n, 16, 6⟩
def Fld.TDMn_CFG_TX_TRI (n : Nat) : FieldRef := ⟨Reg.TDMn_CFG n, 14, 1⟩
def Fld.TDMn_CFG_RX_BITS (n : Nat) : FieldRef := ⟨Reg.TDMn_CFG n, 12, 2⟩
def Fld.TDMn_CFG_BCLK_EDGE (n : Nat) : FieldRef := ⟨Reg.TDMn_CFG n, 8, 1⟩
def Fld.TDMn_CFG_FS_DELAY (n : Nat) : FieldRef := ⟨Reg.TDMn_CFG n, 7, 1⟩
def Fld.TDMn_CFG_FS_LONG (n : Nat) : FieldRef := ⟨Reg.TDMn_CFG n, 6, 1⟩
def Fld.TDMn_CFG_SLOTS (n : Nat) : FieldRef := ⟨Reg.TDMn_CFG n, 1, 5⟩
def Fld.TDMn_CFG_SYNC_EXT (n : Nat) : FieldRef := ⟨Reg.TDMn_CFG n, 0, 1⟩
def Reg.TDMn_STATUS (n : Nat) : Nat := 0x30044 + n * 0x1000
def Fld.TDMn_STATUS_FRAMES (n : Nat) : FieldRef := ⟨Reg.TDMn_STATUS n, 8, 6⟩
def Fld.TDMn_STATUS_LOCKED (n : Nat) : FieldRef := ⟨Reg.TDMn_STATUS n, 0, 1⟩
def Reg.TDMn_SLIP (n : Nat) : Nat := 0x30048 + n * 0x1000
def Fld.TDMn_SLIP_COUNT (n : Nat) : FieldRef := ⟨Reg.TDMn_SLIP n, 0, 32⟩
def Reg.TDMn_BIND_RX (n : Nat) : Nat := 0x3004C + n * 0x1000
def Fld.TDMn_BIND_RX_SLOT (n : Nat) : FieldRef := ⟨Reg.TDMn_BIND_RX n, 0, 32⟩
def Reg.TDMn_BIND_TX (n : Nat) : Nat := 0x30050 + n * 0x1000
def Fld.TDMn_BIND_TX_SLOT (n : Nat) : FieldRef := ⟨Reg.TDMn_BIND_TX n, 0, 32⟩

/-! GATE (spec/02_register_conventions.md) -/

def Reg.GATE_CMD : Nat := 0x40040
def Fld.GATE_CMD_INDEX : FieldRef := ⟨Reg.GATE_CMD, 12, 16⟩
def Fld.GATE_CMD_TABLE : FieldRef := ⟨Reg.GATE_CMD, 4, 8⟩
def Fld.GATE_CMD_OP : FieldRef := ⟨Reg.GATE_CMD, 0, 4⟩
def Reg.GATE_RESULT : Nat := 0x40044
def Fld.GATE_RESULT_VALID : FieldRef := ⟨Reg.GATE_RESULT, 31, 1⟩
def Fld.GATE_RESULT_GEN : FieldRef := ⟨Reg.GATE_RESULT, 24, 7⟩
def Fld.GATE_RESULT_INDEX : FieldRef := ⟨Reg.GATE_RESULT, 8, 16⟩
def Fld.GATE_RESULT_STATUS : FieldRef := ⟨Reg.GATE_RESULT, 0, 8⟩
def Reg.GATE_EFFECT_LO : Nat := 0x40048
def Fld.GATE_EFFECT_LO_EFFECT : FieldRef := ⟨Reg.GATE_EFFECT_LO, 0, 32⟩
def Reg.GATE_EFFECT_HI : Nat := 0x4004C
def Fld.GATE_EFFECT_HI_EFFECT : FieldRef := ⟨Reg.GATE_EFFECT_HI, 0, 32⟩
def Reg.GATE_TXN : Nat := 0x40050
def Fld.GATE_TXN_LAY : FieldRef := ⟨Reg.GATE_TXN, 12, 10⟩
def Fld.GATE_TXN_CLASS : FieldRef := ⟨Reg.GATE_TXN, 10, 2⟩
def Fld.GATE_TXN_COUNT : FieldRef := ⟨Reg.GATE_TXN, 1, 9⟩
def Fld.GATE_TXN_OPEN : FieldRef := ⟨Reg.GATE_TXN, 0, 1⟩
def Reg.GATE_PENDING : Nat := 0x40054
def Fld.GATE_PENDING_COUNT : FieldRef := ⟨Reg.GATE_PENDING, 0, 13⟩
def Reg.GATE_STAGE_w (w : Nat) : Nat := 0x40400 + w * 0x4
def Fld.GATE_STAGE_w_WORD (w : Nat) : FieldRef := ⟨Reg.GATE_STAGE_w w, 0, 32⟩
def Reg.GATE_READBACK_w (w : Nat) : Nat := 0x40600 + w * 0x4
def Fld.GATE_READBACK_w_WORD (w : Nat) : FieldRef := ⟨Reg.GATE_READBACK_w w, 0, 32⟩

/-! GRANARY (spec/08_granary_queues.md) -/

def Reg.GRANARY_CFG : Nat := 0x41040
def Fld.GRANARY_CFG_EVQ : FieldRef := ⟨Reg.GRANARY_CFG, 0, 6⟩
def Reg.GRANARY_POOL : Nat := 0x41044
def Fld.GRANARY_POOL_SHARED : FieldRef := ⟨Reg.GRANARY_POOL, 0, 18⟩
def Reg.GRANARY_RESERVED : Nat := 0x41048
def Fld.GRANARY_RESERVED_SUM : FieldRef := ⟨Reg.GRANARY_RESERVED, 0, 17⟩
def Reg.GRANARY_Q_SEL : Nat := 0x4104C
def Fld.GRANARY_Q_SEL_QUEUE : FieldRef := ⟨Reg.GRANARY_Q_SEL, 0, 16⟩
def Reg.GRANARY_Q_COUNT : Nat := 0x41050
def Fld.GRANARY_Q_COUNT_VALID : FieldRef := ⟨Reg.GRANARY_Q_COUNT, 31, 1⟩
def Fld.GRANARY_Q_COUNT_GEN : FieldRef := ⟨Reg.GRANARY_Q_COUNT, 24, 7⟩
def Fld.GRANARY_Q_COUNT_COUNT : FieldRef := ⟨Reg.GRANARY_Q_COUNT, 0, 17⟩
def Reg.GRANARY_Q_CELLS : Nat := 0x41054
def Fld.GRANARY_Q_CELLS_VALID : FieldRef := ⟨Reg.GRANARY_Q_CELLS, 31, 1⟩
def Fld.GRANARY_Q_CELLS_GEN : FieldRef := ⟨Reg.GRANARY_Q_CELLS, 24, 7⟩
def Fld.GRANARY_Q_CELLS_CELLS : FieldRef := ⟨Reg.GRANARY_Q_CELLS, 0, 16⟩
def Reg.GRANARY_Q_LOST : Nat := 0x41058
def Fld.GRANARY_Q_LOST_VALID : FieldRef := ⟨Reg.GRANARY_Q_LOST, 31, 1⟩
def Fld.GRANARY_Q_LOST_GEN : FieldRef := ⟨Reg.GRANARY_Q_LOST, 24, 7⟩
def Fld.GRANARY_Q_LOST_LOST : FieldRef := ⟨Reg.GRANARY_Q_LOST, 0, 24⟩
def Reg.GRANARY_RESETS : Nat := 0x4105C
def Fld.GRANARY_RESETS_COUNT : FieldRef := ⟨Reg.GRANARY_RESETS, 0, 32⟩
def Reg.GRANARY_BANKQk_FILL (k : Nat) : Nat := 0x41100 + k * 0x8
def Fld.GRANARY_BANKQk_FILL_DRAIN (k : Nat) : FieldRef := ⟨Reg.GRANARY_BANKQk_FILL k, 17, 15⟩
def Fld.GRANARY_BANKQk_FILL_FILL (k : Nat) : FieldRef := ⟨Reg.GRANARY_BANKQk_FILL k, 0, 17⟩
def Reg.GRANARY_BANKQk_LOST (k : Nat) : Nat := 0x41104 + k * 0x8
def Fld.GRANARY_BANKQk_LOST_DISCARD (k : Nat) : FieldRef := ⟨Reg.GRANARY_BANKQk_LOST k, 22, 10⟩
def Fld.GRANARY_BANKQk_LOST_LATE (k : Nat) : FieldRef := ⟨Reg.GRANARY_BANKQk_LOST k, 11, 11⟩
def Fld.GRANARY_BANKQk_LOST_FULL (k : Nat) : FieldRef := ⟨Reg.GRANARY_BANKQk_LOST k, 0, 11⟩

/-! EVQ (spec/08_granary_queues.md) -/

def Reg.EVQn_CFG (n : Nat) : Nat := 0x42100 + n * 0x20
def Fld.EVQn_CFG_ENABLE (n : Nat) : FieldRef := ⟨Reg.EVQn_CFG n, 31, 1⟩
def Fld.EVQn_CFG_MAX_CELLS (n : Nat) : FieldRef := ⟨Reg.EVQn_CFG n, 16, 12⟩
def Fld.EVQn_CFG_MIN_CELLS (n : Nat) : FieldRef := ⟨Reg.EVQn_CFG n, 0, 12⟩
def Reg.EVQn_POP (n : Nat) : Nat := 0x42104 + n * 0x20
def Fld.EVQn_POP_VALID (n : Nat) : FieldRef := ⟨Reg.EVQn_POP n, 31, 1⟩
def Fld.EVQn_POP_LOSTF (n : Nat) : FieldRef := ⟨Reg.EVQn_POP n, 30, 1⟩
def Fld.EVQn_POP_LEFT (n : Nat) : FieldRef := ⟨Reg.EVQn_POP n, 0, 17⟩
def Reg.EVQn_W0 (n : Nat) : Nat := 0x42108 + n * 0x20
def Fld.EVQn_W0_WORD (n : Nat) : FieldRef := ⟨Reg.EVQn_W0 n, 0, 32⟩
def Reg.EVQn_W1 (n : Nat) : Nat := 0x4210C + n * 0x20
def Fld.EVQn_W1_WORD (n : Nat) : FieldRef := ⟨Reg.EVQn_W1 n, 0, 32⟩
def Reg.EVQn_W2 (n : Nat) : Nat := 0x42110 + n * 0x20
def Fld.EVQn_W2_WORD (n : Nat) : FieldRef := ⟨Reg.EVQn_W2 n, 0, 32⟩
def Reg.EVQn_W3 (n : Nat) : Nat := 0x42114 + n * 0x20
def Fld.EVQn_W3_WORD (n : Nat) : FieldRef := ⟨Reg.EVQn_W3 n, 0, 32⟩
def Reg.EVQn_COUNT (n : Nat) : Nat := 0x42118 + n * 0x20
def Fld.EVQn_COUNT_COUNT (n : Nat) : FieldRef := ⟨Reg.EVQn_COUNT n, 0, 17⟩
def Reg.EVQn_LOST (n : Nat) : Nat := 0x4211C + n * 0x20
def Fld.EVQn_LOST_COUNT (n : Nat) : FieldRef := ⟨Reg.EVQn_LOST n, 0, 32⟩

/-! MILLC (spec/11_mill_core.md) -/

def Reg.MILLC_WIN (c : Nat) : Nat := 0x50040 + c * 0x1000
def Fld.MILLC_WIN_PROG (c : Nat) : FieldRef := ⟨Reg.MILLC_WIN c, 0, 16⟩
def Reg.MILLC_KBASE_LO (c : Nat) : Nat := 0x50044 + c * 0x1000
def Fld.MILLC_KBASE_LO_ADDR (c : Nat) : FieldRef := ⟨Reg.MILLC_KBASE_LO c, 0, 32⟩
def Reg.MILLC_KBASE_HI (c : Nat) : Nat := 0x50048 + c * 0x1000
def Fld.MILLC_KBASE_HI_ADDR (c : Nat) : FieldRef := ⟨Reg.MILLC_KBASE_HI c, 0, 6⟩
def Reg.MILLC_KCMD (c : Nat) : Nat := 0x5004C + c * 0x1000
def Fld.MILLC_KCMD_SLOT (c : Nat) : FieldRef := ⟨Reg.MILLC_KCMD c, 4, 3⟩
def Fld.MILLC_KCMD_OP (c : Nat) : FieldRef := ⟨Reg.MILLC_KCMD c, 0, 4⟩
def Reg.MILLC_KRESULT (c : Nat) : Nat := 0x50050 + c * 0x1000
def Fld.MILLC_KRESULT_VALID (c : Nat) : FieldRef := ⟨Reg.MILLC_KRESULT c, 31, 1⟩
def Fld.MILLC_KRESULT_GEN (c : Nat) : FieldRef := ⟨Reg.MILLC_KRESULT c, 24, 7⟩
def Fld.MILLC_KRESULT_OP (c : Nat) : FieldRef := ⟨Reg.MILLC_KRESULT c, 8, 4⟩
def Fld.MILLC_KRESULT_STATUS (c : Nat) : FieldRef := ⟨Reg.MILLC_KRESULT c, 0, 8⟩
def Reg.MILLC_KCODE (c : Nat) : Nat := 0x50054 + c * 0x1000
def Fld.MILLC_KCODE_BYTES (c : Nat) : FieldRef := ⟨Reg.MILLC_KCODE c, 0, 16⟩
def Reg.MILLC_KIDk (c : Nat) (k : Nat) : Nat := 0x50060 + c * 0x1000 + k * 0x4
def Fld.MILLC_KIDk_ID (c : Nat) (k : Nat) : FieldRef := ⟨Reg.MILLC_KIDk c k, 0, 32⟩
def Reg.MILLC_OVERRUN (c : Nat) : Nat := 0x50080 + c * 0x1000
def Fld.MILLC_OVERRUN_COUNT (c : Nat) : FieldRef := ⟨Reg.MILLC_OVERRUN c, 0, 32⟩
def Reg.MILLC_KFAULT (c : Nat) : Nat := 0x50084 + c * 0x1000
def Fld.MILLC_KFAULT_COUNT (c : Nat) : FieldRef := ⟨Reg.MILLC_KFAULT c, 0, 32⟩
def Reg.MILLC_BENCH_SEL (c : Nat) : Nat := 0x50090 + c * 0x1000
def Fld.MILLC_BENCH_SEL_ENABLE (c : Nat) : FieldRef := ⟨Reg.MILLC_BENCH_SEL c, 31, 1⟩
def Fld.MILLC_BENCH_SEL_CORE (c : Nat) : FieldRef := ⟨Reg.MILLC_BENCH_SEL c, 0, 4⟩
def Reg.MILLC_BENCH_PC (c : Nat) : Nat := 0x50094 + c * 0x1000
def Fld.MILLC_BENCH_PC_PC (c : Nat) : FieldRef := ⟨Reg.MILLC_BENCH_PC c, 0, 12⟩
def Reg.MILLC_BENCH_CMD (c : Nat) : Nat := 0x50098 + c * 0x1000
def Fld.MILLC_BENCH_CMD_OP (c : Nat) : FieldRef := ⟨Reg.MILLC_BENCH_CMD c, 0, 2⟩
def Reg.MILLC_BENCH_STATUS (c : Nat) : Nat := 0x5009C + c * 0x1000
def Fld.MILLC_BENCH_STATUS_STATE (c : Nat) : FieldRef := ⟨Reg.MILLC_BENCH_STATUS c, 30, 2⟩
def Fld.MILLC_BENCH_STATUS_CAUSE (c : Nat) : FieldRef := ⟨Reg.MILLC_BENCH_STATUS c, 16, 4⟩
def Fld.MILLC_BENCH_STATUS_PC (c : Nat) : FieldRef := ⟨Reg.MILLC_BENCH_STATUS c, 0, 12⟩
def Reg.MILLC_BENCH_BUDGET (c : Nat) : Nat := 0x500A0 + c * 0x1000
def Fld.MILLC_BENCH_BUDGET_BUDGET (c : Nat) : FieldRef := ⟨Reg.MILLC_BENCH_BUDGET c, 0, 32⟩

/-! AUDIO (spec/09_audio_graph.md) -/

def Reg.AUDIO_CFG : Nat := 0x60040
def Fld.AUDIO_CFG_SEAT_EV : FieldRef := ⟨Reg.AUDIO_CFG, 31, 1⟩
def Fld.AUDIO_CFG_EVQ : FieldRef := ⟨Reg.AUDIO_CFG, 0, 6⟩
def Reg.AUDIO_SEL : Nat := 0x60044
def Fld.AUDIO_SEL_REJOIN : FieldRef := ⟨Reg.AUDIO_SEL, 16, 16⟩
def Fld.AUDIO_SEL_HOLD : FieldRef := ⟨Reg.AUDIO_SEL, 0, 16⟩
def Reg.AUDIO_ACT_THRESH : Nat := 0x60048
def Fld.AUDIO_ACT_THRESH_THRESH : FieldRef := ⟨Reg.AUDIO_ACT_THRESH, 0, 31⟩
def Reg.AUDIO_PROG_BASE_LO : Nat := 0x6004C
def Fld.AUDIO_PROG_BASE_LO_ADDR : FieldRef := ⟨Reg.AUDIO_PROG_BASE_LO, 0, 32⟩
def Reg.AUDIO_PROG_BASE_HI : Nat := 0x60050
def Fld.AUDIO_PROG_BASE_HI_ADDR : FieldRef := ⟨Reg.AUDIO_PROG_BASE_HI, 0, 6⟩
def Reg.AUDIO_PROG_LEN : Nat := 0x60054
def Fld.AUDIO_PROG_LEN_LEN : FieldRef := ⟨Reg.AUDIO_PROG_LEN, 0, 32⟩
def Reg.AUDIO_PROG_CMD : Nat := 0x60058
def Fld.AUDIO_PROG_CMD_OP : FieldRef := ⟨Reg.AUDIO_PROG_CMD, 0, 4⟩
def Reg.AUDIO_PROG_RESULT : Nat := 0x6005C
def Fld.AUDIO_PROG_RESULT_VALID : FieldRef := ⟨Reg.AUDIO_PROG_RESULT, 31, 1⟩
def Fld.AUDIO_PROG_RESULT_GEN : FieldRef := ⟨Reg.AUDIO_PROG_RESULT, 24, 7⟩
def Fld.AUDIO_PROG_RESULT_OP : FieldRef := ⟨Reg.AUDIO_PROG_RESULT, 20, 4⟩
def Fld.AUDIO_PROG_RESULT_DETAIL : FieldRef := ⟨Reg.AUDIO_PROG_RESULT, 8, 12⟩
def Fld.AUDIO_PROG_RESULT_STATUS : FieldRef := ⟨Reg.AUDIO_PROG_RESULT, 0, 8⟩
def Reg.AUDIO_PROG_EFFECT_LO : Nat := 0x60060
def Fld.AUDIO_PROG_EFFECT_LO_TICK : FieldRef := ⟨Reg.AUDIO_PROG_EFFECT_LO, 0, 32⟩
def Reg.AUDIO_PROG_EFFECT_HI : Nat := 0x60064
def Fld.AUDIO_PROG_EFFECT_HI_TICK : FieldRef := ⟨Reg.AUDIO_PROG_EFFECT_HI, 0, 32⟩
def Reg.AUDIO_PROG_ACTIVE_ID : Nat := 0x60068
def Fld.AUDIO_PROG_ACTIVE_ID_ID : FieldRef := ⟨Reg.AUDIO_PROG_ACTIVE_ID, 0, 32⟩
def Reg.AUDIO_PROG_SHADOW_ID : Nat := 0x6006C
def Fld.AUDIO_PROG_SHADOW_ID_ID : FieldRef := ⟨Reg.AUDIO_PROG_SHADOW_ID, 0, 32⟩
def Reg.AUDIO_PATH_SRC : Nat := 0x60070
def Fld.AUDIO_PATH_SRC_KIND : FieldRef := ⟨Reg.AUDIO_PATH_SRC, 28, 4⟩
def Fld.AUDIO_PATH_SRC_INDEX : FieldRef := ⟨Reg.AUDIO_PATH_SRC, 0, 16⟩
def Reg.AUDIO_PATH_SNK : Nat := 0x60074
def Fld.AUDIO_PATH_SNK_KIND : FieldRef := ⟨Reg.AUDIO_PATH_SNK, 28, 4⟩
def Fld.AUDIO_PATH_SNK_INDEX : FieldRef := ⟨Reg.AUDIO_PATH_SNK, 0, 16⟩
def Reg.AUDIO_PATH_LAT : Nat := 0x60078
def Fld.AUDIO_PATH_LAT_VALID : FieldRef := ⟨Reg.AUDIO_PATH_LAT, 31, 1⟩
def Fld.AUDIO_PATH_LAT_GEN : FieldRef := ⟨Reg.AUDIO_PATH_LAT, 24, 7⟩
def Fld.AUDIO_PATH_LAT_NOPATH : FieldRef := ⟨Reg.AUDIO_PATH_LAT, 23, 1⟩
def Fld.AUDIO_PATH_LAT_MULTI : FieldRef := ⟨Reg.AUDIO_PATH_LAT, 22, 1⟩
def Fld.AUDIO_PATH_LAT_LAT : FieldRef := ⟨Reg.AUDIO_PATH_LAT, 0, 17⟩
def Reg.AUDIO_METER_SEL : Nat := 0x6007C
def Fld.AUDIO_METER_SEL_KIND : FieldRef := ⟨Reg.AUDIO_METER_SEL, 28, 4⟩
def Fld.AUDIO_METER_SEL_INDEX : FieldRef := ⟨Reg.AUDIO_METER_SEL, 0, 16⟩
def Reg.AUDIO_METER_RMS : Nat := 0x60080
def Fld.AUDIO_METER_RMS_VALID : FieldRef := ⟨Reg.AUDIO_METER_RMS, 31, 1⟩
def Fld.AUDIO_METER_RMS_GEN : FieldRef := ⟨Reg.AUDIO_METER_RMS, 24, 7⟩
def Fld.AUDIO_METER_RMS_RMS : FieldRef := ⟨Reg.AUDIO_METER_RMS, 0, 24⟩
def Reg.AUDIO_METER_PEAK : Nat := 0x60084
def Fld.AUDIO_METER_PEAK_VALID : FieldRef := ⟨Reg.AUDIO_METER_PEAK, 31, 1⟩
def Fld.AUDIO_METER_PEAK_GEN : FieldRef := ⟨Reg.AUDIO_METER_PEAK, 24, 7⟩
def Fld.AUDIO_METER_PEAK_PEAK : FieldRef := ⟨Reg.AUDIO_METER_PEAK, 0, 24⟩
def Reg.AUDIO_SEAT_SEL : Nat := 0x60088
def Fld.AUDIO_SEAT_SEL_CONF : FieldRef := ⟨Reg.AUDIO_SEAT_SEL, 0, 11⟩
def Reg.AUDIO_MISS : Nat := 0x6008C
def Fld.AUDIO_MISS_COUNT : FieldRef := ⟨Reg.AUDIO_MISS, 0, 32⟩
def Reg.AUDIO_GROUPS : Nat := 0x60090
def Fld.AUDIO_GROUPS_MEMBERS : FieldRef := ⟨Reg.AUDIO_GROUPS, 16, 16⟩
def Fld.AUDIO_GROUPS_ENCODES : FieldRef := ⟨Reg.AUDIO_GROUPS, 0, 16⟩
def Reg.AUDIO_SEATk (k : Nat) : Nat := 0x60100 + k * 0x4
def Fld.AUDIO_SEATk_VALID (k : Nat) : FieldRef := ⟨Reg.AUDIO_SEATk k, 31, 1⟩
def Fld.AUDIO_SEATk_GEN (k : Nat) : FieldRef := ⟨Reg.AUDIO_SEATk k, 24, 7⟩
def Fld.AUDIO_SEATk_QUIET (k : Nat) : FieldRef := ⟨Reg.AUDIO_SEATk k, 23, 1⟩
def Fld.AUDIO_SEATk_HELD (k : Nat) : FieldRef := ⟨Reg.AUDIO_SEATk k, 22, 1⟩
def Fld.AUDIO_SEATk_LEG (k : Nat) : FieldRef := ⟨Reg.AUDIO_SEATk k, 0, 14⟩
def Reg.AUDIO_RPn_SRC (n : Nat) : Nat := 0x60200 + n * 0x20
def Fld.AUDIO_RPn_SRC_CONF (n : Nat) : FieldRef := ⟨Reg.AUDIO_RPn_SRC n, 16, 11⟩
def Fld.AUDIO_RPn_SRC_LEG (n : Nat) : FieldRef := ⟨Reg.AUDIO_RPn_SRC n, 0, 14⟩
def Reg.AUDIO_RPn_START_LO (n : Nat) : Nat := 0x60204 + n * 0x20
def Fld.AUDIO_RPn_START_LO_TICK (n : Nat) : FieldRef := ⟨Reg.AUDIO_RPn_START_LO n, 0, 32⟩
def Reg.AUDIO_RPn_START_HI (n : Nat) : Nat := 0x60208 + n * 0x20
def Fld.AUDIO_RPn_START_HI_TICK (n : Nat) : FieldRef := ⟨Reg.AUDIO_RPn_START_HI n, 0, 32⟩
def Reg.AUDIO_RPn_CODEC (n : Nat) : Nat := 0x6020C + n * 0x20
def Fld.AUDIO_RPn_CODEC_PT (n : Nat) : FieldRef := ⟨Reg.AUDIO_RPn_CODEC n, 8, 7⟩
def Fld.AUDIO_RPn_CODEC_CODEC (n : Nat) : FieldRef := ⟨Reg.AUDIO_RPn_CODEC n, 0, 8⟩
def Reg.AUDIO_RPn_CMD (n : Nat) : Nat := 0x60210 + n * 0x20
def Fld.AUDIO_RPn_CMD_OP (n : Nat) : FieldRef := ⟨Reg.AUDIO_RPn_CMD n, 0, 2⟩
def Reg.AUDIO_RPn_STATUS (n : Nat) : Nat := 0x60214 + n * 0x20
def Fld.AUDIO_RPn_STATUS_STATE (n : Nat) : FieldRef := ⟨Reg.AUDIO_RPn_STATUS n, 30, 2⟩
def Fld.AUDIO_RPn_STATUS_PLAYED (n : Nat) : FieldRef := ⟨Reg.AUDIO_RPn_STATUS n, 0, 24⟩

/-! VDE (spec/12_video_decode.md) -/

def Reg.VDEn_PIXELS_LO (n : Nat) : Nat := 0x70040 + n * 0x1000
def Fld.VDEn_PIXELS_LO_COUNT (n : Nat) : FieldRef := ⟨Reg.VDEn_PIXELS_LO n, 0, 32⟩
def Reg.VDEn_PIXELS_HI (n : Nat) : Nat := 0x70044 + n * 0x1000
def Fld.VDEn_PIXELS_HI_COUNT (n : Nat) : FieldRef := ⟨Reg.VDEn_PIXELS_HI n, 0, 32⟩
def Reg.VDEn_PICS (n : Nat) : Nat := 0x70048 + n * 0x1000
def Fld.VDEn_PICS_COUNT (n : Nat) : FieldRef := ⟨Reg.VDEn_PICS n, 0, 32⟩
def Reg.VDEn_LOAD (n : Nat) : Nat := 0x7004C + n * 0x1000
def Fld.VDEn_LOAD_LOAD (n : Nat) : FieldRef := ⟨Reg.VDEn_LOAD n, 0, 10⟩
def Reg.VDEn_FAULTS (n : Nat) : Nat := 0x70050 + n * 0x1000
def Fld.VDEn_FAULTS_TOTAL (n : Nat) : FieldRef := ⟨Reg.VDEn_FAULTS n, 16, 16⟩
def Fld.VDEn_FAULTS_HOUR (n : Nat) : FieldRef := ⟨Reg.VDEn_FAULTS n, 0, 2⟩
def Reg.VDE0_STR_SEL : Nat := 0x70080
def Fld.VDE0_STR_SEL_VSTR : FieldRef := ⟨Reg.VDE0_STR_SEL, 0, 12⟩
def Reg.VDE0_STR_STATE : Nat := 0x70084
def Fld.VDE0_STR_STATE_VALID : FieldRef := ⟨Reg.VDE0_STR_STATE, 31, 1⟩
def Fld.VDE0_STR_STATE_GEN : FieldRef := ⟨Reg.VDE0_STR_STATE, 24, 7⟩
def Fld.VDE0_STR_STATE_STATE : FieldRef := ⟨Reg.VDE0_STR_STATE, 22, 2⟩
def Fld.VDE0_STR_STATE_PLI_PEND : FieldRef := ⟨Reg.VDE0_STR_STATE, 21, 1⟩
def Fld.VDE0_STR_STATE_UPSCALED : FieldRef := ⟨Reg.VDE0_STR_STATE, 20, 1⟩
def Fld.VDE0_STR_STATE_BAD : FieldRef := ⟨Reg.VDE0_STR_STATE, 16, 4⟩
def Fld.VDE0_STR_STATE_CONCEALED : FieldRef := ⟨Reg.VDE0_STR_STATE, 0, 16⟩
def Reg.VDE0_STR_LATE : Nat := 0x70088
def Fld.VDE0_STR_LATE_VALID : FieldRef := ⟨Reg.VDE0_STR_LATE, 31, 1⟩
def Fld.VDE0_STR_LATE_GEN : FieldRef := ⟨Reg.VDE0_STR_LATE, 24, 7⟩
def Fld.VDE0_STR_LATE_LATE : FieldRef := ⟨Reg.VDE0_STR_LATE, 0, 24⟩
def Reg.VDE0_MISSREF : Nat := 0x7008C
def Fld.VDE0_MISSREF_COUNT : FieldRef := ⟨Reg.VDE0_MISSREF, 0, 32⟩
def Reg.VDE0_CORRUPT : Nat := 0x70090
def Fld.VDE0_CORRUPT_UNSUPP : FieldRef := ⟨Reg.VDE0_CORRUPT, 16, 16⟩
def Fld.VDE0_CORRUPT_FAULTY : FieldRef := ⟨Reg.VDE0_CORRUPT, 0, 16⟩
def Reg.VDE0_POISON : Nat := 0x70094
def Fld.VDE0_POISON_COUNT : FieldRef := ⟨Reg.VDE0_POISON, 0, 32⟩
def Reg.VDE0_COST : Nat := 0x70098
def Fld.VDE0_COST_COST : FieldRef := ⟨Reg.VDE0_COST, 0, 32⟩

/-! VEE (spec/14_video_encode.md) -/

def Reg.VEEn_PIXELS_LO (n : Nat) : Nat := 0x80040 + n * 0x1000
def Fld.VEEn_PIXELS_LO_COUNT (n : Nat) : FieldRef := ⟨Reg.VEEn_PIXELS_LO n, 0, 32⟩
def Reg.VEEn_PIXELS_HI (n : Nat) : Nat := 0x80044 + n * 0x1000
def Fld.VEEn_PIXELS_HI_COUNT (n : Nat) : FieldRef := ⟨Reg.VEEn_PIXELS_HI n, 0, 32⟩
def Reg.VEEn_PICS (n : Nat) : Nat := 0x80048 + n * 0x1000
def Fld.VEEn_PICS_COUNT (n : Nat) : FieldRef := ⟨Reg.VEEn_PICS n, 0, 32⟩
def Reg.VEEn_LOAD (n : Nat) : Nat := 0x8004C + n * 0x1000
def Fld.VEEn_LOAD_LOAD (n : Nat) : FieldRef := ⟨Reg.VEEn_LOAD n, 0, 10⟩
def Reg.VEEn_FAULTS (n : Nat) : Nat := 0x80050 + n * 0x1000
def Fld.VEEn_FAULTS_TOTAL (n : Nat) : FieldRef := ⟨Reg.VEEn_FAULTS n, 16, 16⟩
def Fld.VEEn_FAULTS_HOUR (n : Nat) : FieldRef := ⟨Reg.VEEn_FAULTS n, 0, 2⟩
def Reg.VEE0_EC_SEL : Nat := 0x80080
def Fld.VEE0_EC_SEL_T : FieldRef := ⟨Reg.VEE0_EC_SEL, 18, 2⟩
def Fld.VEE0_EC_SEL_S : FieldRef := ⟨Reg.VEE0_EC_SEL, 16, 2⟩
def Fld.VEE0_EC_SEL_ECOMP : FieldRef := ⟨Reg.VEE0_EC_SEL, 0, 10⟩
def Reg.VEE0_EC_STATE : Nat := 0x80084
def Fld.VEE0_EC_STATE_VALID : FieldRef := ⟨Reg.VEE0_EC_STATE, 31, 1⟩
def Fld.VEE0_EC_STATE_GEN : FieldRef := ⟨Reg.VEE0_EC_STATE, 24, 7⟩
def Fld.VEE0_EC_STATE_SWEEP : FieldRef := ⟨Reg.VEE0_EC_STATE, 22, 2⟩
def Fld.VEE0_EC_STATE_ACCEL_PEND : FieldRef := ⟨Reg.VEE0_EC_STATE, 21, 1⟩
def Fld.VEE0_EC_STATE_FLOOR : FieldRef := ⟨Reg.VEE0_EC_STATE, 20, 1⟩
def Fld.VEE0_EC_STATE_QP0 : FieldRef := ⟨Reg.VEE0_EC_STATE, 12, 8⟩
def Fld.VEE0_EC_STATE_J : FieldRef := ⟨Reg.VEE0_EC_STATE, 0, 10⟩
def Reg.VEE0_EC_DEBT : Nat := 0x80088
def Fld.VEE0_EC_DEBT_VALID : FieldRef := ⟨Reg.VEE0_EC_DEBT, 31, 1⟩
def Fld.VEE0_EC_DEBT_GEN : FieldRef := ⟨Reg.VEE0_EC_DEBT, 24, 7⟩
def Fld.VEE0_EC_DEBT_DEBT : FieldRef := ⟨Reg.VEE0_EC_DEBT, 0, 24⟩
def Reg.VEE0_FLOOR : Nat := 0x8008C
def Fld.VEE0_FLOOR_COUNT : FieldRef := ⟨Reg.VEE0_FLOOR, 0, 32⟩
def Reg.VEE0_LATE : Nat := 0x80090
def Fld.VEE0_LATE_REPEAT : FieldRef := ⟨Reg.VEE0_LATE, 16, 16⟩
def Fld.VEE0_LATE_MISS : FieldRef := ⟨Reg.VEE0_LATE, 0, 16⟩
def Reg.VEE0_SWEEPS : Nat := 0x80094
def Fld.VEE0_SWEEPS_ACCEL : FieldRef := ⟨Reg.VEE0_SWEEPS, 16, 16⟩
def Fld.VEE0_SWEEPS_KEYS : FieldRef := ⟨Reg.VEE0_SWEEPS, 0, 16⟩
def Reg.VEE0_POISON : Nat := 0x80098
def Fld.VEE0_POISON_COUNT : FieldRef := ⟨Reg.VEE0_POISON, 0, 32⟩
def Reg.VEE0_COST : Nat := 0x8009C
def Fld.VEE0_COST_COST : FieldRef := ⟨Reg.VEE0_COST, 0, 32⟩
def Reg.VEE0_DEBT_CAP : Nat := 0x800A0
def Fld.VEE0_DEBT_CAP_COUNT : FieldRef := ⟨Reg.VEE0_DEBT_CAP, 0, 32⟩

/-! CMP (spec/13_video_composition.md) -/

def Reg.CMPn_PIXELS_LO (n : Nat) : Nat := 0x88040 + n * 0x1000
def Fld.CMPn_PIXELS_LO_COUNT (n : Nat) : FieldRef := ⟨Reg.CMPn_PIXELS_LO n, 0, 32⟩
def Reg.CMPn_PIXELS_HI (n : Nat) : Nat := 0x88044 + n * 0x1000
def Fld.CMPn_PIXELS_HI_COUNT (n : Nat) : FieldRef := ⟨Reg.CMPn_PIXELS_HI n, 0, 32⟩
def Reg.CMPn_FRAMES (n : Nat) : Nat := 0x88048 + n * 0x1000
def Fld.CMPn_FRAMES_COUNT (n : Nat) : FieldRef := ⟨Reg.CMPn_FRAMES n, 0, 32⟩
def Reg.CMPn_LOAD (n : Nat) : Nat := 0x8804C + n * 0x1000
def Fld.CMPn_LOAD_LOAD (n : Nat) : FieldRef := ⟨Reg.CMPn_LOAD n, 0, 10⟩
def Reg.CMPn_FAULTS (n : Nat) : Nat := 0x88050 + n * 0x1000
def Fld.CMPn_FAULTS_TOTAL (n : Nat) : FieldRef := ⟨Reg.CMPn_FAULTS n, 16, 16⟩
def Fld.CMPn_FAULTS_HOUR (n : Nat) : FieldRef := ⟨Reg.CMPn_FAULTS n, 0, 2⟩
def Reg.CMP0_LAY_SEL : Nat := 0x88080
def Fld.CMP0_LAY_SEL_LAYER : FieldRef := ⟨Reg.CMP0_LAY_SEL, 16, 4⟩
def Fld.CMP0_LAY_SEL_LAY : FieldRef := ⟨Reg.CMP0_LAY_SEL, 0, 10⟩
def Reg.CMP0_LAY_STATE : Nat := 0x88084
def Fld.CMP0_LAY_STATE_VALID : FieldRef := ⟨Reg.CMP0_LAY_STATE, 31, 1⟩
def Fld.CMP0_LAY_STATE_GEN : FieldRef := ⟨Reg.CMP0_LAY_STATE, 24, 7⟩
def Fld.CMP0_LAY_STATE_ACTIVE : FieldRef := ⟨Reg.CMP0_LAY_STATE, 23, 1⟩
def Fld.CMP0_LAY_STATE_LATE : FieldRef := ⟨Reg.CMP0_LAY_STATE, 22, 1⟩
def Fld.CMP0_LAY_STATE_FRAME : FieldRef := ⟨Reg.CMP0_LAY_STATE, 0, 22⟩
def Reg.CMP0_LAYER_STATE : Nat := 0x88088
def Fld.CMP0_LAYER_STATE_VALID : FieldRef := ⟨Reg.CMP0_LAYER_STATE, 31, 1⟩
def Fld.CMP0_LAYER_STATE_GEN : FieldRef := ⟨Reg.CMP0_LAYER_STATE, 24, 7⟩
def Fld.CMP0_LAYER_STATE_STATE : FieldRef := ⟨Reg.CMP0_LAYER_STATE, 22, 2⟩
def Fld.CMP0_LAYER_STATE_STALE : FieldRef := ⟨Reg.CMP0_LAYER_STATE, 0, 16⟩
def Reg.CMP0_STALE : Nat := 0x8808C
def Fld.CMP0_STALE_COUNT : FieldRef := ⟨Reg.CMP0_STALE, 0, 32⟩
def Reg.CMP0_LATE : Nat := 0x88090
def Fld.CMP0_LATE_COUNT : FieldRef := ⟨Reg.CMP0_LATE, 0, 32⟩
def Reg.CMP0_POISON : Nat := 0x88094
def Fld.CMP0_POISON_COUNT : FieldRef := ⟨Reg.CMP0_POISON, 0, 32⟩
def Reg.CMP0_COST : Nat := 0x88098
def Fld.CMP0_COST_COST : FieldRef := ⟨Reg.CMP0_COST, 0, 32⟩

/-! REEVE (spec/15_reeve_dispatch.md) -/

def Reg.REEVE_CFG : Nat := 0x90040
def Fld.REEVE_CFG_WDOG : FieldRef := ⟨Reg.REEVE_CFG, 16, 16⟩
def Fld.REEVE_CFG_EVQ : FieldRef := ⟨Reg.REEVE_CFG, 0, 6⟩
def Reg.REEVE_SLOTS : Nat := 0x90044
def Fld.REEVE_SLOTS_PEAK : FieldRef := ⟨Reg.REEVE_SLOTS, 16, 13⟩
def Fld.REEVE_SLOTS_USED : FieldRef := ⟨Reg.REEVE_SLOTS, 0, 13⟩
def Reg.REEVE_LEASES : Nat := 0x90048
def Fld.REEVE_LEASES_REVOKED : FieldRef := ⟨Reg.REEVE_LEASES, 16, 16⟩
def Fld.REEVE_LEASES_HELD : FieldRef := ⟨Reg.REEVE_LEASES, 0, 15⟩
def Reg.REEVE_OUTCOMES : Nat := 0x9004C
def Fld.REEVE_OUTCOMES_CANCELLED : FieldRef := ⟨Reg.REEVE_OUTCOMES, 16, 16⟩
def Fld.REEVE_OUTCOMES_FAILED : FieldRef := ⟨Reg.REEVE_OUTCOMES, 0, 16⟩
def Reg.REEVE_RETRIES : Nat := 0x90050
def Fld.REEVE_RETRIES_COUNT : FieldRef := ⟨Reg.REEVE_RETRIES, 0, 32⟩
def Reg.REEVE_PORTn_CFG (n : Nat) : Nat := 0x90060 + n * 0x8
def Fld.REEVE_PORTn_CFG_CAP (n : Nat) : FieldRef := ⟨Reg.REEVE_PORTn_CFG n, 16, 13⟩
def Fld.REEVE_PORTn_CFG_RES (n : Nat) : FieldRef := ⟨Reg.REEVE_PORTn_CFG n, 0, 13⟩
def Reg.REEVE_PORTn_STATUS (n : Nat) : Nat := 0x90064 + n * 0x8
def Fld.REEVE_PORTn_STATUS_STALLS (n : Nat) : FieldRef := ⟨Reg.REEVE_PORTn_STATUS n, 16, 16⟩
def Fld.REEVE_PORTn_STATUS_USED (n : Nat) : FieldRef := ⟨Reg.REEVE_PORTn_STATUS n, 0, 13⟩
def Reg.REEVE_LEVELk (k : Nat) : Nat := 0x900A0 + k * 0x4
def Fld.REEVE_LEVELk_RUNNING (k : Nat) : FieldRef := ⟨Reg.REEVE_LEVELk k, 16, 13⟩
def Fld.REEVE_LEVELk_READY (k : Nat) : FieldRef := ⟨Reg.REEVE_LEVELk k, 0, 13⟩
def Reg.REEVE_FLOW_SEL : Nat := 0x900C0
def Fld.REEVE_FLOW_SEL_FLOW : FieldRef := ⟨Reg.REEVE_FLOW_SEL, 0, 13⟩
def Reg.REEVE_FLOW_STATE : Nat := 0x900C4
def Fld.REEVE_FLOW_STATE_VALID : FieldRef := ⟨Reg.REEVE_FLOW_STATE, 31, 1⟩
def Fld.REEVE_FLOW_STATE_GEN : FieldRef := ⟨Reg.REEVE_FLOW_STATE, 24, 7⟩
def Fld.REEVE_FLOW_STATE_HELD : FieldRef := ⟨Reg.REEVE_FLOW_STATE, 16, 8⟩
def Fld.REEVE_FLOW_STATE_HEAD : FieldRef := ⟨Reg.REEVE_FLOW_STATE, 0, 16⟩

/-! BINATH (spec/16_binath_cascade.md) -/

def Reg.BINATHn_CFG (n : Nat) : Nat := 0xA0040 + n * 0x1000
def Fld.BINATHn_CFG_VC3_W (n : Nat) : FieldRef := ⟨Reg.BINATHn_CFG n, 16, 4⟩
def Fld.BINATHn_CFG_VC2_W (n : Nat) : FieldRef := ⟨Reg.BINATHn_CFG n, 12, 4⟩
def Fld.BINATHn_CFG_RX_INV (n : Nat) : FieldRef := ⟨Reg.BINATHn_CFG n, 8, 4⟩
def Fld.BINATHn_CFG_TX_INV (n : Nat) : FieldRef := ⟨Reg.BINATHn_CFG n, 4, 4⟩
def Fld.BINATHn_CFG_ROLE (n : Nat) : FieldRef := ⟨Reg.BINATHn_CFG n, 0, 3⟩
def Reg.BINATHn_STATE (n : Nat) : Nat := 0xA0044 + n * 0x1000
def Fld.BINATHn_STATE_DOWN_COUNT (n : Nat) : FieldRef := ⟨Reg.BINATHn_STATE n, 24, 8⟩
def Fld.BINATHn_STATE_PEER_HEIGHT (n : Nat) : FieldRef := ⟨Reg.BINATHn_STATE n, 20, 4⟩
def Fld.BINATHn_STATE_PEER_DEPTH (n : Nat) : FieldRef := ⟨Reg.BINATHn_STATE n, 16, 4⟩
def Fld.BINATHn_STATE_PEER_POS (n : Nat) : FieldRef := ⟨Reg.BINATHn_STATE n, 8, 8⟩
def Fld.BINATHn_STATE_LOCK (n : Nat) : FieldRef := ⟨Reg.BINATHn_STATE n, 4, 4⟩
def Fld.BINATHn_STATE_UPLINK (n : Nat) : FieldRef := ⟨Reg.BINATHn_STATE n, 3, 1⟩
def Fld.BINATHn_STATE_STATE (n : Nat) : FieldRef := ⟨Reg.BINATHn_STATE n, 0, 3⟩
def Reg.BINATHn_ASYM (n : Nat) : Nat := 0xA0048 + n * 0x1000
def Fld.BINATHn_ASYM_ASYM (n : Nat) : FieldRef := ⟨Reg.BINATHn_ASYM n, 0, 16⟩
def Reg.BINATHn_DELAY (n : Nat) : Nat := 0xA004C + n * 0x1000
def Fld.BINATHn_DELAY_DELAY (n : Nat) : FieldRef := ⟨Reg.BINATHn_DELAY n, 0, 24⟩
def Reg.BINATHn_ERR (n : Nat) : Nat := 0xA0050 + n * 0x1000
def Fld.BINATHn_ERR_CORR (n : Nat) : FieldRef := ⟨Reg.BINATHn_ERR n, 16, 16⟩
def Fld.BINATHn_ERR_TRAIN_FAIL (n : Nat) : FieldRef := ⟨Reg.BINATHn_ERR n, 8, 8⟩
def Fld.BINATHn_ERR_BAD (n : Nat) : FieldRef := ⟨Reg.BINATHn_ERR n, 0, 8⟩
def Reg.BINATHn_REPLAY (n : Nat) : Nat := 0xA0054 + n * 0x1000
def Fld.BINATHn_REPLAY_TIMEOUT (n : Nat) : FieldRef := ⟨Reg.BINATHn_REPLAY n, 16, 16⟩
def Fld.BINATHn_REPLAY_NAK (n : Nat) : FieldRef := ⟨Reg.BINATHn_REPLAY n, 0, 16⟩
def Reg.BINATHn_FLITS_LO (n : Nat) : Nat := 0xA0058 + n * 0x1000
def Fld.BINATHn_FLITS_LO_COUNT (n : Nat) : FieldRef := ⟨Reg.BINATHn_FLITS_LO n, 0, 32⟩
def Reg.BINATHn_FLITS_HI (n : Nat) : Nat := 0xA005C + n * 0x1000
def Fld.BINATHn_FLITS_HI_COUNT (n : Nat) : FieldRef := ⟨Reg.BINATHn_FLITS_HI n, 0, 32⟩
def Reg.BINATHn_LATE (n : Nat) : Nat := 0xA0060 + n * 0x1000
def Fld.BINATHn_LATE_PICS (n : Nat) : FieldRef := ⟨Reg.BINATHn_LATE n, 16, 16⟩
def Fld.BINATHn_LATE_PKTS (n : Nat) : FieldRef := ⟨Reg.BINATHn_LATE n, 0, 16⟩
def Reg.BINATH0_FABRIC : Nat := 0xA0100
def Fld.BINATH0_FABRIC_ENABLE : FieldRef := ⟨Reg.BINATH0_FABRIC, 31, 1⟩
def Fld.BINATH0_FABRIC_MASTER : FieldRef := ⟨Reg.BINATH0_FABRIC, 30, 1⟩
def Fld.BINATH0_FABRIC_BUDGET : FieldRef := ⟨Reg.BINATH0_FABRIC, 24, 4⟩
def Fld.BINATH0_FABRIC_POS : FieldRef := ⟨Reg.BINATH0_FABRIC, 16, 8⟩
def Fld.BINATH0_FABRIC_FABRIC_ID : FieldRef := ⟨Reg.BINATH0_FABRIC, 0, 16⟩
def Reg.BINATH0_TOPO : Nat := 0xA0104
def Fld.BINATH0_TOPO_ON_STANDBY : FieldRef := ⟨Reg.BINATH0_TOPO, 12, 1⟩
def Fld.BINATH0_TOPO_UPLINK : FieldRef := ⟨Reg.BINATH0_TOPO, 10, 2⟩
def Fld.BINATH0_TOPO_LOCAL_ROOT : FieldRef := ⟨Reg.BINATH0_TOPO, 9, 1⟩
def Fld.BINATH0_TOPO_ROOTED : FieldRef := ⟨Reg.BINATH0_TOPO, 8, 1⟩
def Fld.BINATH0_TOPO_HEIGHT : FieldRef := ⟨Reg.BINATH0_TOPO, 4, 4⟩
def Fld.BINATH0_TOPO_DEPTH : FieldRef := ⟨Reg.BINATH0_TOPO, 0, 4⟩
def Reg.BINATH0_REVERT : Nat := 0xA0108
def Fld.BINATH0_REVERT_HOLD : FieldRef := ⟨Reg.BINATH0_REVERT, 0, 16⟩
def Reg.BINATH0_EVQ : Nat := 0xA010C
def Fld.BINATH0_EVQ_EVQ : FieldRef := ⟨Reg.BINATH0_EVQ, 0, 6⟩
def Reg.BINATH0_FSTRAY : Nat := 0xA0110
def Fld.BINATH0_FSTRAY_COUNT : FieldRef := ⟨Reg.BINATH0_FSTRAY, 0, 32⟩
def Reg.BINATH0_FCONFk (k : Nat) : Nat := 0xA0200 + k * 0x4
def Fld.BINATH0_FCONFk_FABRIC (k : Nat) : FieldRef := ⟨Reg.BINATH0_FCONFk k, 0, 32⟩

/-! TWIN (spec/17_twin_redundancy.md) -/

def Reg.TWIN_CFG : Nat := 0xA8040
def Fld.TWIN_CFG_WIDE : FieldRef := ⟨Reg.TWIN_CFG, 24, 8⟩
def Fld.TWIN_CFG_LAG_LIMIT : FieldRef := ⟨Reg.TWIN_CFG, 16, 8⟩
def Fld.TWIN_CFG_EVQ : FieldRef := ⟨Reg.TWIN_CFG, 10, 6⟩
def Fld.TWIN_CFG_REVERT_AUTO : FieldRef := ⟨Reg.TWIN_CFG, 1, 1⟩
def Fld.TWIN_CFG_POLICY : FieldRef := ⟨Reg.TWIN_CFG, 0, 1⟩
def Reg.TWIN_WAIT : Nat := 0xA8044
def Fld.TWIN_WAIT_SEQ_JUMP : FieldRef := ⟨Reg.TWIN_WAIT, 16, 16⟩
def Fld.TWIN_WAIT_REVERT_HOLD : FieldRef := ⟨Reg.TWIN_WAIT, 0, 16⟩
def Reg.TWIN_WAIT2 : Nat := 0xA8048
def Fld.TWIN_WAIT2_PAIR_WAIT : FieldRef := ⟨Reg.TWIN_WAIT2, 24, 8⟩
def Fld.TWIN_WAIT2_RECHECK : FieldRef := ⟨Reg.TWIN_WAIT2, 0, 16⟩
def Reg.TWIN_STATUS : Nat := 0xA804C
def Fld.TWIN_STATUS_LIMITS : FieldRef := ⟨Reg.TWIN_STATUS, 19, 1⟩
def Fld.TWIN_STATUS_JUMPED : FieldRef := ⟨Reg.TWIN_STATUS, 18, 1⟩
def Fld.TWIN_STATUS_TX_LANB : FieldRef := ⟨Reg.TWIN_STATUS, 17, 1⟩
def Fld.TWIN_STATUS_TX_LANA : FieldRef := ⟨Reg.TWIN_STATUS, 16, 1⟩
def Fld.TWIN_STATUS_PATHS : FieldRef := ⟨Reg.TWIN_STATUS, 12, 3⟩
def Fld.TWIN_STATUS_PARTNER : FieldRef := ⟨Reg.TWIN_STATUS, 8, 3⟩
def Fld.TWIN_STATUS_STRAP : FieldRef := ⟨Reg.TWIN_STATUS, 3, 1⟩
def Fld.TWIN_STATUS_STATE : FieldRef := ⟨Reg.TWIN_STATUS, 0, 3⟩
def Reg.TWIN_CMD : Nat := 0xA8050
def Fld.TWIN_CMD_OP : FieldRef := ⟨Reg.TWIN_CMD, 0, 2⟩
def Reg.TWIN_LAG : Nat := 0xA8054
def Fld.TWIN_LAG_LAG : FieldRef := ⟨Reg.TWIN_LAG, 0, 32⟩
def Reg.TWIN_LAG_MAX : Nat := 0xA8058
def Fld.TWIN_LAG_MAX_MAX_MARK : FieldRef := ⟨Reg.TWIN_LAG_MAX, 0, 32⟩
def Reg.TWIN_EXEC_LO : Nat := 0xA805C
def Fld.TWIN_EXEC_LO_TICK : FieldRef := ⟨Reg.TWIN_EXEC_LO, 0, 32⟩
def Reg.TWIN_EXEC_HI : Nat := 0xA8060
def Fld.TWIN_EXEC_HI_TICK : FieldRef := ⟨Reg.TWIN_EXEC_HI, 0, 32⟩
def Reg.TWIN_OFFSET : Nat := 0xA8064
def Fld.TWIN_OFFSET_OFFSET : FieldRef := ⟨Reg.TWIN_OFFSET, 0, 32⟩
def Reg.TWIN_FETCH : Nat := 0xA8068
def Fld.TWIN_FETCH_FRAMES : FieldRef := ⟨Reg.TWIN_FETCH, 16, 16⟩
def Fld.TWIN_FETCH_PKTS : FieldRef := ⟨Reg.TWIN_FETCH, 0, 16⟩
def Reg.TWIN_MISMATCH : Nat := 0xA806C
def Fld.TWIN_MISMATCH_LEGS : FieldRef := ⟨Reg.TWIN_MISMATCH, 16, 16⟩
def Fld.TWIN_MISMATCH_GROUPS : FieldRef := ⟨Reg.TWIN_MISMATCH, 0, 16⟩
def Reg.TWIN_RESYNCS : Nat := 0xA8070
def Fld.TWIN_RESYNCS_LEG : FieldRef := ⟨Reg.TWIN_RESYNCS, 16, 16⟩
def Fld.TWIN_RESYNCS_FULL : FieldRef := ⟨Reg.TWIN_RESYNCS, 0, 16⟩
def Reg.TWIN_HB_MISS : Nat := 0xA8074
def Fld.TWIN_HB_MISS_LAN : FieldRef := ⟨Reg.TWIN_HB_MISS, 20, 10⟩
def Fld.TWIN_HB_MISS_PINS : FieldRef := ⟨Reg.TWIN_HB_MISS, 10, 10⟩
def Fld.TWIN_HB_MISS_LINK3 : FieldRef := ⟨Reg.TWIN_HB_MISS, 0, 10⟩
def Reg.TWIN_DIVERGED : Nat := 0xA8078
def Fld.TWIN_DIVERGED_LEGS : FieldRef := ⟨Reg.TWIN_DIVERGED, 0, 15⟩
def Reg.TWIN_CATCHUP_BASE_LO : Nat := 0xA807C
def Fld.TWIN_CATCHUP_BASE_LO_ADDR : FieldRef := ⟨Reg.TWIN_CATCHUP_BASE_LO, 0, 32⟩
def Reg.TWIN_CATCHUP_BASE_HI : Nat := 0xA8080
def Fld.TWIN_CATCHUP_BASE_HI_ADDR : FieldRef := ⟨Reg.TWIN_CATCHUP_BASE_HI, 0, 6⟩
def Reg.TWIN_CATCHUP_SIZE : Nat := 0xA8084
def Fld.TWIN_CATCHUP_SIZE_GIB : FieldRef := ⟨Reg.TWIN_CATCHUP_SIZE, 0, 7⟩
def Reg.TWIN_COPY : Nat := 0xA8088
def Fld.TWIN_COPY_PHASE : FieldRef := ⟨Reg.TWIN_COPY, 30, 2⟩
def Fld.TWIN_COPY_BEHIND : FieldRef := ⟨Reg.TWIN_COPY, 0, 24⟩

/-! DDRC (spec/18_dram_controller.md) -/

def Reg.DDRCn_CFG (n : Nat) : Nat := 0xB0040 + n * 0x1000
def Fld.DDRCn_CFG_GIB (n : Nat) : FieldRef := ⟨Reg.DDRCn_CFG n, 0, 8⟩
def Reg.DDRCn_STATUS (n : Nat) : Nat := 0xB0044 + n * 0x1000
def Fld.DDRCn_STATUS_GEOM (n : Nat) : FieldRef := ⟨Reg.DDRCn_STATUS n, 16, 2⟩
def Fld.DDRCn_STATUS_HOT (n : Nat) : FieldRef := ⟨Reg.DDRCn_STATUS n, 10, 2⟩
def Fld.DDRCn_STATUS_RATE2X (n : Nat) : FieldRef := ⟨Reg.DDRCn_STATUS n, 8, 2⟩
def Fld.DDRCn_STATUS_STATE (n : Nat) : FieldRef := ⟨Reg.DDRCn_STATUS n, 0, 3⟩
def Reg.DDRCn_CE (n : Nat) : Nat := 0xB0048 + n * 0x1000
def Fld.DDRCn_CE_COUNT (n : Nat) : FieldRef := ⟨Reg.DDRCn_CE n, 0, 32⟩
def Reg.DDRCn_UE (n : Nat) : Nat := 0xB004C + n * 0x1000
def Fld.DDRCn_UE_STORED (n : Nat) : FieldRef := ⟨Reg.DDRCn_UE n, 16, 16⟩
def Fld.DDRCn_UE_UE (n : Nat) : FieldRef := ⟨Reg.DDRCn_UE n, 0, 16⟩
def Reg.DDRCn_MARK (n : Nat) : Nat := 0xB0050 + n * 0x1000
def Fld.DDRCn_MARK_VALID3 (n : Nat) : FieldRef := ⟨Reg.DDRCn_MARK n, 28, 1⟩
def Fld.DDRCn_MARK_DEV3 (n : Nat) : FieldRef := ⟨Reg.DDRCn_MARK n, 24, 4⟩
def Fld.DDRCn_MARK_VALID2 (n : Nat) : FieldRef := ⟨Reg.DDRCn_MARK n, 20, 1⟩
def Fld.DDRCn_MARK_DEV2 (n : Nat) : FieldRef := ⟨Reg.DDRCn_MARK n, 16, 4⟩
def Fld.DDRCn_MARK_VALID1 (n : Nat) : FieldRef := ⟨Reg.DDRCn_MARK n, 12, 1⟩
def Fld.DDRCn_MARK_DEV1 (n : Nat) : FieldRef := ⟨Reg.DDRCn_MARK n, 8, 4⟩
def Fld.DDRCn_MARK_VALID0 (n : Nat) : FieldRef := ⟨Reg.DDRCn_MARK n, 4, 1⟩
def Fld.DDRCn_MARK_DEV0 (n : Nat) : FieldRef := ⟨Reg.DDRCn_MARK n, 0, 4⟩
def Reg.DDRCn_MARK_CFG (n : Nat) : Nat := 0xB0054 + n * 0x1000
def Fld.DDRCn_MARK_CFG_THRESH (n : Nat) : FieldRef := ⟨Reg.DDRCn_MARK_CFG n, 0, 8⟩
def Reg.DDRCn_DEV_SEL (n : Nat) : Nat := 0xB0058 + n * 0x1000
def Fld.DDRCn_DEV_SEL_RANK (n : Nat) : FieldRef := ⟨Reg.DDRCn_DEV_SEL n, 5, 1⟩
def Fld.DDRCn_DEV_SEL_SUB (n : Nat) : FieldRef := ⟨Reg.DDRCn_DEV_SEL n, 4, 1⟩
def Fld.DDRCn_DEV_SEL_DEV (n : Nat) : FieldRef := ⟨Reg.DDRCn_DEV_SEL n, 0, 4⟩
def Reg.DDRCn_DEV_CE (n : Nat) : Nat := 0xB005C + n * 0x1000
def Fld.DDRCn_DEV_CE_VALID (n : Nat) : FieldRef := ⟨Reg.DDRCn_DEV_CE n, 31, 1⟩
def Fld.DDRCn_DEV_CE_GEN (n : Nat) : FieldRef := ⟨Reg.DDRCn_DEV_CE n, 24, 7⟩
def Fld.DDRCn_DEV_CE_LINES (n : Nat) : FieldRef := ⟨Reg.DDRCn_DEV_CE n, 0, 24⟩
def Reg.DDRCn_SCRUB (n : Nat) : Nat := 0xB0060 + n * 0x1000
def Fld.DDRCn_SCRUB_PASSES (n : Nat) : FieldRef := ⟨Reg.DDRCn_SCRUB n, 20, 12⟩
def Fld.DDRCn_SCRUB_POS (n : Nat) : FieldRef := ⟨Reg.DDRCn_SCRUB n, 0, 20⟩
def Reg.DDRCn_REFRESH (n : Nat) : Nat := 0xB0064 + n * 0x1000
def Fld.DDRCn_REFRESH_CROSS (n : Nat) : FieldRef := ⟨Reg.DDRCn_REFRESH n, 16, 16⟩
def Fld.DDRCn_REFRESH_OWED1 (n : Nat) : FieldRef := ⟨Reg.DDRCn_REFRESH n, 4, 4⟩
def Fld.DDRCn_REFRESH_OWED0 (n : Nat) : FieldRef := ⟨Reg.DDRCn_REFRESH n, 0, 4⟩
def Reg.DDRCn_TRAIN (n : Nat) : Nat := 0xB0068 + n * 0x1000
def Fld.DDRCn_TRAIN_ADJ (n : Nat) : FieldRef := ⟨Reg.DDRCn_TRAIN n, 16, 16⟩
def Fld.DDRCn_TRAIN_FAIL_STEP (n : Nat) : FieldRef := ⟨Reg.DDRCn_TRAIN n, 0, 3⟩
def Reg.DDRCn_LOG_POP (n : Nat) : Nat := 0xB006C + n * 0x1000
def Fld.DDRCn_LOG_POP_VALID (n : Nat) : FieldRef := ⟨Reg.DDRCn_LOG_POP n, 31, 1⟩
def Fld.DDRCn_LOG_POP_LOSTF (n : Nat) : FieldRef := ⟨Reg.DDRCn_LOG_POP n, 30, 1⟩
def Fld.DDRCn_LOG_POP_LEFT (n : Nat) : FieldRef := ⟨Reg.DDRCn_LOG_POP n, 0, 6⟩
def Reg.DDRCn_LOG_CFG (n : Nat) : Nat := 0xB0070 + n * 0x1000
def Fld.DDRCn_LOG_CFG_EVQ (n : Nat) : FieldRef := ⟨Reg.DDRCn_LOG_CFG n, 0, 6⟩
def Reg.DDRCn_LOGWw (n : Nat) (w : Nat) : Nat := 0xB0100 + n * 0x1000 + w * 0x4
def Fld.DDRCn_LOGWw_WORD (n : Nat) (w : Nat) : FieldRef := ⟨Reg.DDRCn_LOGWw n w, 0, 32⟩

/-! WEIR (spec/18_dram_controller.md) -/

def Reg.WEIR_SUM : Nat := 0xB8040
def Fld.WEIR_SUM_GUAR : FieldRef := ⟨Reg.WEIR_SUM, 0, 11⟩
def Reg.WEIR_FENCE_SEL : Nat := 0xB8044
def Fld.WEIR_FENCE_SEL_PORT : FieldRef := ⟨Reg.WEIR_FENCE_SEL, 16, 5⟩
def Fld.WEIR_FENCE_SEL_IDENT : FieldRef := ⟨Reg.WEIR_FENCE_SEL, 0, 8⟩
def Reg.WEIR_FENCE_STATUS : Nat := 0xB8048
def Fld.WEIR_FENCE_STATUS_VALID : FieldRef := ⟨Reg.WEIR_FENCE_STATUS, 31, 1⟩
def Fld.WEIR_FENCE_STATUS_GEN : FieldRef := ⟨Reg.WEIR_FENCE_STATUS, 24, 7⟩
def Fld.WEIR_FENCE_STATUS_STATE : FieldRef := ⟨Reg.WEIR_FENCE_STATUS, 16, 2⟩
def Fld.WEIR_FENCE_STATUS_ABORTED : FieldRef := ⟨Reg.WEIR_FENCE_STATUS, 0, 16⟩
def Reg.WEIR_FENCES : Nat := 0xB804C
def Fld.WEIR_FENCES_COUNT : FieldRef := ⟨Reg.WEIR_FENCES, 0, 32⟩
def Reg.WEIR_PORTp_CFG (p : Nat) : Nat := 0xB8100 + p * 0x8
def Fld.WEIR_PORTp_CFG_CAP (p : Nat) : FieldRef := ⟨Reg.WEIR_PORTp_CFG p, 16, 11⟩
def Fld.WEIR_PORTp_CFG_GUAR (p : Nat) : FieldRef := ⟨Reg.WEIR_PORTp_CFG p, 0, 11⟩
def Reg.WEIR_PORTp_STAT (p : Nat) : Nat := 0xB8104 + p * 0x8
def Fld.WEIR_PORTp_STAT_CAPPED (p : Nat) : FieldRef := ⟨Reg.WEIR_PORTp_STAT p, 16, 16⟩
def Fld.WEIR_PORTp_STAT_LINES (p : Nat) : FieldRef := ⟨Reg.WEIR_PORTp_STAT p, 0, 16⟩

/-! CIPHER (spec/19_security.md) -/

def Reg.CIPHER_LOCK : Nat := 0xC0040
def Fld.CIPHER_LOCK_WAITING : FieldRef := ⟨Reg.CIPHER_LOCK, 16, 4⟩
def Fld.CIPHER_LOCK_SUSPENDED : FieldRef := ⟨Reg.CIPHER_LOCK, 8, 3⟩
def Fld.CIPHER_LOCK_OWNER : FieldRef := ⟨Reg.CIPHER_LOCK, 4, 3⟩
def Fld.CIPHER_LOCK_REQ : FieldRef := ⟨Reg.CIPHER_LOCK, 0, 1⟩
def Reg.CIPHER_JOB_SRC_LO : Nat := 0xC0044
def Fld.CIPHER_JOB_SRC_LO_ADDR : FieldRef := ⟨Reg.CIPHER_JOB_SRC_LO, 0, 32⟩
def Reg.CIPHER_JOB_SRC_HI : Nat := 0xC0048
def Fld.CIPHER_JOB_SRC_HI_ADDR : FieldRef := ⟨Reg.CIPHER_JOB_SRC_HI, 0, 6⟩
def Reg.CIPHER_JOB_DST_LO : Nat := 0xC004C
def Fld.CIPHER_JOB_DST_LO_ADDR : FieldRef := ⟨Reg.CIPHER_JOB_DST_LO, 0, 32⟩
def Reg.CIPHER_JOB_DST_HI : Nat := 0xC0050
def Fld.CIPHER_JOB_DST_HI_ADDR : FieldRef := ⟨Reg.CIPHER_JOB_DST_HI, 0, 6⟩
def Reg.CIPHER_JOB_LEN : Nat := 0xC0054
def Fld.CIPHER_JOB_LEN_LEN : FieldRef := ⟨Reg.CIPHER_JOB_LEN, 0, 32⟩
def Reg.CIPHER_JOB_AAD : Nat := 0xC0058
def Fld.CIPHER_JOB_AAD_LEN : FieldRef := ⟨Reg.CIPHER_JOB_AAD, 0, 16⟩
def Reg.CIPHER_JOB_IVk (k : Nat) : Nat := 0xC005C + k * 0x4
def Fld.CIPHER_JOB_IVk_IV (k : Nat) : FieldRef := ⟨Reg.CIPHER_JOB_IVk k, 0, 32⟩
def Reg.CIPHER_JOB_CMD : Nat := 0xC006C
def Fld.CIPHER_JOB_CMD_SLOT : FieldRef := ⟨Reg.CIPHER_JOB_CMD, 8, 8⟩
def Fld.CIPHER_JOB_CMD_ALG : FieldRef := ⟨Reg.CIPHER_JOB_CMD, 4, 4⟩
def Fld.CIPHER_JOB_CMD_START : FieldRef := ⟨Reg.CIPHER_JOB_CMD, 0, 1⟩
def Reg.CIPHER_RESULT : Nat := 0xC0070
def Fld.CIPHER_RESULT_VALID : FieldRef := ⟨Reg.CIPHER_RESULT, 31, 1⟩
def Fld.CIPHER_RESULT_GEN : FieldRef := ⟨Reg.CIPHER_RESULT, 24, 7⟩
def Fld.CIPHER_RESULT_SLOT : FieldRef := ⟨Reg.CIPHER_RESULT, 16, 8⟩
def Fld.CIPHER_RESULT_STATUS : FieldRef := ⟨Reg.CIPHER_RESULT, 0, 8⟩
def Reg.CIPHER_SLOT_CMD : Nat := 0xC0074
def Fld.CIPHER_SLOT_CMD_WSLOT : FieldRef := ⟨Reg.CIPHER_SLOT_CMD, 24, 8⟩
def Fld.CIPHER_SLOT_CMD_SLOT : FieldRef := ⟨Reg.CIPHER_SLOT_CMD, 16, 8⟩
def Fld.CIPHER_SLOT_CMD_USER : FieldRef := ⟨Reg.CIPHER_SLOT_CMD, 12, 2⟩
def Fld.CIPHER_SLOT_CMD_KEK : FieldRef := ⟨Reg.CIPHER_SLOT_CMD, 11, 1⟩
def Fld.CIPHER_SLOT_CMD_KIND : FieldRef := ⟨Reg.CIPHER_SLOT_CMD, 8, 3⟩
def Fld.CIPHER_SLOT_CMD_OP : FieldRef := ⟨Reg.CIPHER_SLOT_CMD, 0, 2⟩
def Reg.CIPHER_SLOT_SEL : Nat := 0xC0078
def Fld.CIPHER_SLOT_SEL_SLOT : FieldRef := ⟨Reg.CIPHER_SLOT_SEL, 0, 8⟩
def Reg.CIPHER_SLOT_STATE : Nat := 0xC007C
def Fld.CIPHER_SLOT_STATE_VALID : FieldRef := ⟨Reg.CIPHER_SLOT_STATE, 31, 1⟩
def Fld.CIPHER_SLOT_STATE_GEN : FieldRef := ⟨Reg.CIPHER_SLOT_STATE, 24, 7⟩
def Fld.CIPHER_SLOT_STATE_LOADED : FieldRef := ⟨Reg.CIPHER_SLOT_STATE, 8, 1⟩
def Fld.CIPHER_SLOT_STATE_USER : FieldRef := ⟨Reg.CIPHER_SLOT_STATE, 6, 2⟩
def Fld.CIPHER_SLOT_STATE_KEK : FieldRef := ⟨Reg.CIPHER_SLOT_STATE, 5, 1⟩
def Fld.CIPHER_SLOT_STATE_KIND : FieldRef := ⟨Reg.CIPHER_SLOT_STATE, 2, 3⟩
def Reg.CIPHER_SLOT_COUNT : Nat := 0xC0080
def Fld.CIPHER_SLOT_COUNT_COUNT : FieldRef := ⟨Reg.CIPHER_SLOT_COUNT, 0, 32⟩
def Reg.CIPHER_TAGFAIL : Nat := 0xC0084
def Fld.CIPHER_TAGFAIL_COUNT : FieldRef := ⟨Reg.CIPHER_TAGFAIL, 0, 32⟩
def Reg.CIPHER_PREEMPT : Nat := 0xC0088
def Fld.CIPHER_PREEMPT_COUNT : FieldRef := ⟨Reg.CIPHER_PREEMPT, 0, 32⟩
def Reg.CIPHER_KEYIN_w (w : Nat) : Nat := 0xC0100 + w * 0x4
def Fld.CIPHER_KEYIN_w_WORD (w : Nat) : FieldRef := ⟨Reg.CIPHER_KEYIN_w w, 0, 32⟩

/-! KEYSTORE (spec/19_security.md) -/

def Reg.KEYSTORE_CMD : Nat := 0xC1040
def Fld.KEYSTORE_CMD_WSLOT : FieldRef := ⟨Reg.KEYSTORE_CMD, 24, 8⟩
def Fld.KEYSTORE_CMD_INDEX : FieldRef := ⟨Reg.KEYSTORE_CMD, 4, 16⟩
def Fld.KEYSTORE_CMD_OP : FieldRef := ⟨Reg.KEYSTORE_CMD, 0, 4⟩
def Reg.KEYSTORE_RESULT : Nat := 0xC1044
def Fld.KEYSTORE_RESULT_VALID : FieldRef := ⟨Reg.KEYSTORE_RESULT, 31, 1⟩
def Fld.KEYSTORE_RESULT_GEN : FieldRef := ⟨Reg.KEYSTORE_RESULT, 24, 7⟩
def Fld.KEYSTORE_RESULT_INDEX : FieldRef := ⟨Reg.KEYSTORE_RESULT, 8, 16⟩
def Fld.KEYSTORE_RESULT_STATUS : FieldRef := ⟨Reg.KEYSTORE_RESULT, 0, 8⟩
def Reg.KEYSTORE_SEL : Nat := 0xC1048
def Fld.KEYSTORE_SEL_INDEX : FieldRef := ⟨Reg.KEYSTORE_SEL, 0, 15⟩
def Reg.KEYSTORE_STATE : Nat := 0xC104C
def Fld.KEYSTORE_STATE_VALID : FieldRef := ⟨Reg.KEYSTORE_STATE, 31, 1⟩
def Fld.KEYSTORE_STATE_GEN : FieldRef := ⟨Reg.KEYSTORE_STATE, 24, 7⟩
def Fld.KEYSTORE_STATE_STATE : FieldRef := ⟨Reg.KEYSTORE_STATE, 22, 2⟩
def Fld.KEYSTORE_STATE_DIR : FieldRef := ⟨Reg.KEYSTORE_STATE, 21, 1⟩
def Fld.KEYSTORE_STATE_PROFILE : FieldRef := ⟨Reg.KEYSTORE_STATE, 18, 3⟩
def Fld.KEYSTORE_STATE_LEGS : FieldRef := ⟨Reg.KEYSTORE_STATE, 0, 15⟩
def Reg.KEYSTORE_COUNT : Nat := 0xC1050
def Fld.KEYSTORE_COUNT_HOT : FieldRef := ⟨Reg.KEYSTORE_COUNT, 16, 16⟩
def Fld.KEYSTORE_COUNT_COLD : FieldRef := ⟨Reg.KEYSTORE_COUNT, 0, 16⟩
def Reg.KEYSTORE_PAIR_SLOT : Nat := 0xC1054
def Fld.KEYSTORE_PAIR_SLOT_VALID : FieldRef := ⟨Reg.KEYSTORE_PAIR_SLOT, 8, 1⟩
def Fld.KEYSTORE_PAIR_SLOT_SLOT : FieldRef := ⟨Reg.KEYSTORE_PAIR_SLOT, 0, 8⟩
def Reg.KEYSTORE_STAGE_w (w : Nat) : Nat := 0xC1400 + w * 0x4
def Fld.KEYSTORE_STAGE_w_WORD (w : Nat) : FieldRef := ⟨Reg.KEYSTORE_STAGE_w w, 0, 32⟩

/-! ALARM (spec/19_security.md) -/

def Reg.ALARM_STATUS : Nat := 0xC2040
def Fld.ALARM_STATUS_LATCHED : FieldRef := ⟨Reg.ALARM_STATUS, 31, 1⟩
def Fld.ALARM_STATUS_SOURCE : FieldRef := ⟨Reg.ALARM_STATUS, 0, 7⟩
def Reg.ALARM_TIME_LO : Nat := 0xC2044
def Fld.ALARM_TIME_LO_TIME : FieldRef := ⟨Reg.ALARM_TIME_LO, 0, 32⟩
def Reg.ALARM_TIME_HI : Nat := 0xC2048
def Fld.ALARM_TIME_HI_TIME : FieldRef := ⟨Reg.ALARM_TIME_HI, 0, 32⟩
def Reg.ALARM_CMD : Nat := 0xC204C
def Fld.ALARM_CMD_ZEROISE : FieldRef := ⟨Reg.ALARM_CMD, 0, 1⟩
def Reg.ALARM_CFG : Nat := 0xC2050
def Fld.ALARM_CFG_EVQ : FieldRef := ⟨Reg.ALARM_CFG, 0, 6⟩
def Reg.ALARM_BOOT : Nat := 0xC2054
def Fld.ALARM_BOOT_PREFER_B : FieldRef := ⟨Reg.ALARM_BOOT, 31, 1⟩
def Fld.ALARM_BOOT_RUNNING_B : FieldRef := ⟨Reg.ALARM_BOOT, 30, 1⟩
def Fld.ALARM_BOOT_SVN : FieldRef := ⟨Reg.ALARM_BOOT, 24, 6⟩
def Fld.ALARM_BOOT_OTHER_VALID : FieldRef := ⟨Reg.ALARM_BOOT, 16, 1⟩
def Fld.ALARM_BOOT_COUNTER : FieldRef := ⟨Reg.ALARM_BOOT, 0, 7⟩
def Reg.ALARM_SVN_CMD : Nat := 0xC2058
def Fld.ALARM_SVN_CMD_ADVANCE : FieldRef := ⟨Reg.ALARM_SVN_CMD, 0, 1⟩
def Reg.ALARM_HEALTH : Nat := 0xC205C
def Fld.ALARM_HEALTH_RESEEDS : FieldRef := ⟨Reg.ALARM_HEALTH, 16, 16⟩
def Fld.ALARM_HEALTH_SAMPLES : FieldRef := ⟨Reg.ALARM_HEALTH, 0, 16⟩

end Sys2Proof.Machine
end

