-- ==== Sys2Proof/Machine/RegSpecs.lean ====
section
/-! DEFINITION. What the register tables say of an address: the page it lies in (R40), its register, its reset value,
the reserved bits and limits of a write (R33, R15), and the island the page sits in (R16). Bit-field helpers stand here
too. -/

namespace Sys2Proof.Machine

/-- Bits lo to lo + width − 1 of w. -/
def bits (w : Word) (lo width : Nat) : Nat := (w.toNat / 2 ^ lo) % 2 ^ width

/-- w with bits lo to lo + width − 1 replaced by v. -/
def putBits (w : Word) (lo width v : Nat) : Word :=
  BitVec.ofNat 32 (w.toNat - (bits w lo width) * 2 ^ lo + (v % 2 ^ width) * 2 ^ lo)

/-- Bit i of w. -/
def bit (w : Word) (i : Nat) : Bool := w.getLsbD i

/-- 1 for true. -/
def b2n (b : Bool) : Nat := if b then 1 else 0

/-- The integer a `width`-bit two's complement number stands for. -/
def signed (width v : Nat) : Int := if v % 2 ^ width < 2 ^ (width - 1) then (v % 2 ^ width : Nat) else (v % 2 ^ width : Nat) - (2 : Int) ^ width

/-- The `width`-bit two's complement number of an integer. -/
def unsigned (width : Nat) (i : Int) : Nat := (i % (2 : Int) ^ width).toNat

/-- The representative of i modulo m that is nearest to 0. -/
def signedMod (m : Nat) (i : Int) : Int :=
  let r := i % (m : Int)
  if (m : Int) < 2 * r then r - (m : Int) else r

/-- Clamp an integer to [lo, hi]. -/
def clampI (lo hi i : Int) : Int := if i < lo then lo else if hi < i then hi else i

/-- The 4 KiB page base of a BAR0 address (R29). -/
def pageOf (addr : Nat) : Nat := addr / 4096 * 4096

/-- The page's row of the page map and its instance. -/
def findPage (addr : Nat) : List PageSpec → Option (PageSpec × Nat)
  | [] => none
  | p :: t =>
    if p.base ≤ addr ∧ addr < p.base + p.count * 4096 then some (p, (addr - p.base) / 4096) else findPage addr t

/-- The page at an address. -/
def pageAt (addr : Nat) : Option (PageSpec × Nat) := findPage addr pageMap

/-- Whether a register spec covers page offset `off` on instance `inst`. -/
def RegSpec.covers (r : RegSpec) (inst off : Nat) : Bool :=
  decide (r.off ≤ off) && decide ((off - r.off) % r.stride = 0) && decide ((off - r.off) / r.stride < r.count) &&
    (!r.onlyInst0 || decide (inst = 0))

/-- The register at an address: its spec, or none at a reserved offset. -/
def specAt (addr : Nat) : Option RegSpec :=
  match pageAt addr with
  | none => none
  | some (p, n) =>
    match specsPG.find? (fun r => r.covers n (addr % 4096)) with
    | some r => some r
    | none => p.regs.find? (fun r => r.covers n (addr % 4096))

/-- The word a row's reset value stands for. -/
def rowsReset : List FieldRow → Nat
  | [] => 0
  | r :: t => r.reset * 2 ^ r.lo + rowsReset t

/-- Registers whose reset value depends on the element (R62, R377, REEVE_PORTn_CFG), the part, the straps, the board or
the flash: the value, or none where the table gives it. -/
def resetOverride (addr : Nat) : Option Nat :=
  let off := addr % 4096
  if off = 0 then
    (pageAt addr).map (fun pn => pn.1.type * 65536 + pn.2 * 256 + 1)
  else if off < 0x40 then none
  else if addr = Reg.GLOBAL_REV then some (0x96000000 + Config.siliconRev % 16)
  else if addr = Reg.GLOBAL_STRAPS then
    some (b2n Config.strapFabricMaster * 16 + b2n Config.strapTwinSenior * 8 + b2n Config.strapTwinEn * 4 + Config.strapBootSel % 4)
  else if addr = Reg.GLOBAL_MEDIA then some (Config.mediaBaseReset * 256 + Config.mediaSizeReset)
  else if addr = Reg.GLOBAL_MEDIA_FREE then some Config.mediaFreeReset
  else if addr = Reg.CLK_LINKED then some 2
  else if addr = Reg.CLK_RUN then some 3
  else if Reg.PWR_DOMd_STATUS 3 ≤ addr ∧ addr ≤ Reg.PWR_DOMd_STATUS 13 ∧ addr % 32 = 0 then some 2
  else if addr = Reg.BELFRY_TRGn_CTRL 0 then some 1
  else if addr = Reg.BELFRY_TRGn_PERIOD_NUM 0 then some 1000000
  else if Reg.BELFRY_TRGn_CTRL 1 ≤ addr ∧ addr < Reg.BELFRY_TRGn_STATUS 1 then some 0
  else if addr = Reg.BELFRY_TRGn_PERIOD_DEN 7 ∨ addr = Reg.BELFRY_TRGn_PERIOD_DEN 8 ∨
      addr = Reg.BELFRY_TRGn_PERIOD_DEN 9 ∨ addr = Reg.BELFRY_TRGn_PERIOD_DEN 10 then some 48000
  else if addr = Reg.REEVE_PORTn_CFG 0 then some (256 * 65536 + 256)
  else if addr = Reg.REEVE_PORTn_CFG 1 then some (4096 * 65536 + 768)
  else if addr = Reg.REEVE_PORTn_CFG 2 then some (4096 * 65536 + 1024)
  else if addr = Reg.REEVE_PORTn_CFG 3 then some (4096 * 65536 + 256)
  else if addr = Reg.REEVE_PORTn_CFG 4 then some (4096 * 65536 + 64)
  else if Reg.WEIR_PORTp_CFG 0 ≤ addr ∧ addr ≤ Reg.WEIR_PORTp_CFG 16 ∧ addr % 8 = 0 then
    let p := (addr - Reg.WEIR_PORTp_CFG 0) / 8
    let guar := if p < 2 then 120 else if p < 10 then 48 else if p = 10 then 120 else if p = 11 then 8 else if p = 12 then 4 else 3
    some ((if p = 11 then 256 else 1024) * 65536 + guar)
  else none

/-- The reset value of the register at an address; 0 at a reserved or unmapped one. -/
def resetWord (addr : Nat) : Word :=
  match resetOverride addr with
  | some v => BitVec.ofNat 32 v
  | none =>
    match specAt addr with
    | none => 0
    | some r => BitVec.ofNat 32 (rowsReset r.rows)

/-- Whether some field of the register can be written (R33); a register whose fields are all RO or POP is not (DEDUCED for POP, log entry 161). -/
def RegSpec.writable (r : RegSpec) : Bool :=
  r.rows.any (fun x => match x.acc with | .rw | .w1c | .w1all | .w1s | .wo => true | .ro | .pop | .rsv => false)

/-- Whether a written word sets a reserved bit or selects a reserved encoding (R33). -/
def rowReserved (w : Word) (x : FieldRow) : Bool :=
  let v := bits w x.lo (x.hi - x.lo + 1)
  match x.acc with
  | .rsv => decide (v ≠ 0)
  | .rw | .wo => x.reserved.any (fun p => decide (p.1 ≤ v ∧ v ≤ p.2))
  | .ro | .w1c | .w1all | .w1s | .pop => false

/-- Whether a written field is outside its limits (R15). -/
def rowRange (w : Word) (x : FieldRow) : Bool :=
  let v := bits w x.lo (x.hi - x.lo + 1)
  match x.acc with
  | .rw | .wo => !decide (x.min ≤ v ∧ v ≤ x.max)
  | .ro | .w1c | .w1all | .w1s | .pop | .rsv => false

/-- What a plain write leaves in one field: RW takes the value, W1C and W1S act on ones, a count field is cleared whole
by all ones (R31, R33), and RO, WO and reserved fields keep what they read. -/
def rowWrite (old w : Word) (x : FieldRow) : Nat :=
  let n := x.hi - x.lo + 1
  let o := bits old x.lo n
  let v := bits w x.lo n
  match x.acc with
  | .rw => v
  | .w1c => Nat.land o (2 ^ n - 1 - v)
  | .w1all => if v = 2 ^ n - 1 then 0 else o
  | .w1s => Nat.lor o v
  | .ro | .pop => o
  | .wo | .rsv => 0

/-- What a plain write of w leaves in a register that held old. -/
def rowsWrite (old w : Word) : List FieldRow → Nat
  | [] => 0
  | x :: t => rowWrite old w x * 2 ^ x.lo + rowsWrite old w t

/-- The island of R421 that a page sits in (R16). -/
def islandOf (addr : Nat) : Nat :=
  let p := pageOf addr
  if p = 0x1000 ∨ p = 0x2000 ∨ p = 0xC2000 then 0                    -- BELFRY, PWR, ALARM: AON
  else if 0x20000 ≤ p ∧ p < 0x34000 then 2                            -- ETH, PLANE, PKT, SCHED, SRTP, ADAPT, TDM
  else if p = 0x41000 ∨ p = 0x42000 ∨ p = 0x90000 then 2              -- GRANARY, EVQ, REEVE
  else if 0x50000 ≤ p ∧ p < 0x58000 then 3 + (p - 0x50000) / 4096     -- MILLCc
  else if 0x70000 ≤ p ∧ p < 0x80000 then 3 + (p - 0x70000) / 8192     -- VDEn
  else if 0x80000 ≤ p ∧ p < 0x88000 then 3 + (p - 0x80000) / 4096     -- VEEn
  else if 0x88000 ≤ p ∧ p < 0x8C000 then 11                           -- CMPn
  else if 0xA0000 ≤ p ∧ p < 0xA4000 then 20 + (p - 0xA0000) / 4096    -- BINATHn
  else if 0xB0000 ≤ p ∧ p < 0xB8000 then 12 + (p - 0xB0000) / 4096    -- DDRCn
  else if p = 0xB8000 then 12                                         -- WEIR
  else 1                                                              -- SOC

end Sys2Proof.Machine
end

