-- ==== Sys2Proof/Machine/Operands.lean ====
section
/-! DEFINITION. Operand forms: how a field is read from a record or a descriptor, rounding helpers, and list helpers. -/

namespace Sys2Proof.Machine

/-- The field at byte `byte`, bit `lo`, of `width` bits of a record given as its little-endian number. -/
def recField (r byte lo width : Nat) : Nat := (r / 2 ^ (8 * byte + lo)) % 2 ^ width

/-- The record that differs from r only in one field. -/
def setRecField (r byte lo width v : Nat) : Nat :=
  r - recField r byte lo width * 2 ^ (8 * byte + lo) + (v % 2 ^ width) * 2 ^ (8 * byte + lo)

/-- A field of a gate record: place, limits (E_RANGE) and reserved encodings (E_RESERVED). -/
structure RecField where
  byte : Nat
  lo : Nat
  width : Nat
  min : Nat
  max : Nat
  reserved : List (Nat × Nat)
  deriving DecidableEq, Repr

/-- The sum of the bits a field list covers, as a mask. -/
def fieldsMask : List RecField → Nat
  | [] => 0
  | f :: t => (2 ^ f.width - 1) * 2 ^ (8 * f.byte + f.lo) + fieldsMask t

/-- Some field holds a reserved encoding. -/
def recEncodingReserved (r : Nat) (fs : List RecField) : Bool :=
  fs.any (fun f => f.reserved.any (fun p => decide (p.1 ≤ recField r f.byte f.lo f.width ∧ recField r f.byte f.lo f.width ≤ p.2)))

/-- Some bit outside the listed fields is set (`len` bytes). -/
def recBitReserved (r len : Nat) (fs : List RecField) : Bool :=
  decide (Nat.land (r % 2 ^ (8 * len)) (2 ^ (8 * len) - 1 - fieldsMask fs) ≠ 0)

/-- Some field is outside its limits. -/
def recOutOfRange (r : Nat) (fs : List RecField) : Bool :=
  fs.any (fun f => !decide (f.min ≤ recField r f.byte f.lo f.width ∧ recField r f.byte f.lo f.width ≤ f.max))

/-- The little-endian number of a list of words. -/
def wordsNat : List Word → Nat
  | [] => 0
  | w :: t => w.toNat + 2 ^ 32 * wordsNat t

/-- The little-endian number of a list of bytes. -/
def bytesNat : List Byte → Nat
  | [] => 0
  | b :: t => b.toNat + 256 * bytesNat t

/-- The n low bytes of a number, least significant first. -/
def natBytes : Nat → Nat → List Byte
  | 0, _ => []
  | n + 1, v => BitVec.ofNat 8 v :: natBytes n (v / 256)

/-- A number in network byte order. -/
def beBytes (n v : Nat) : List Byte := (natBytes n v).reverse

/-- a ÷ b rounded up. -/
def ceilDiv (a b : Nat) : Nat := (a + b - 1) / b

/-- a rounded up to a multiple of b. -/
def roundUp (a b : Nat) : Nat := ceilDiv a b * b

/-- The sum of f over a list. -/
def sumBy {α : Type} (f : α → Nat) : List α → Nat
  | [] => 0
  | x :: t => f x + sumBy f t

/-- The sum of an integer f over a list. -/
def sumByI {α : Type} (f : α → Int) : List α → Int
  | [] => 0
  | x :: t => f x + sumByI f t

/-- Insert by a key, after every element whose key is not greater. -/
def insertBy {α : Type} (key : α → Nat) (x : α) : List α → List α
  | [] => [x]
  | y :: t => if key x < key y then x :: y :: t else y :: insertBy key x t

/-- Sort by a key, keeping the order of equal keys. -/
def sortBy {α : Type} (key : α → Nat) (l : List α) : List α := l.foldl (fun sorted x => insertBy key x sorted) []

/-- Ascending order of integers. -/
def insertInt (x : Int) : List Int → List Int
  | [] => [x]
  | y :: t => if x ≤ y then x :: y :: t else y :: insertInt x t

def sortInts : List Int → List Int
  | [] => []
  | x :: t => insertInt x (sortInts t)

/-- The last n elements. -/
def lastN {α : Type} (n : Nat) (l : List α) : List α := l.drop (l.length - n)

/-- Apply f to the element at position i. -/
def modifyAt {α : Type} (f : α → α) : Nat → List α → List α
  | _, [] => []
  | 0, x :: t => f x :: t
  | n + 1, x :: t => x :: modifyAt f n t

/-- Fold a state over the numbers 0 to n − 1. -/
def forUpTo {σ : Type} (n : Nat) (f : Nat → σ → σ) (s : σ) : σ := (List.range n).foldl (fun a i => f i a) s

/-- Fold a state over a list. -/
def forEach {α σ : Type} (l : List α) (f : α → σ → σ) (s : σ) : σ := l.foldl (fun a x => f x a) s

/-- Saturating addition. -/
def satAdd (max a b : Nat) : Nat := Nat.min max (a + b)

end Sys2Proof.Machine
end

