-- ==== Sys2Proof/Machine/Recs.lean ====
section
/-! DEFINITION. The records of the table gate (R42) as their layout tables in spec/ give them: a record is its number
in little-endian byte order, `<TABLE>.<FIELD>` is a field, and `<TABLE>.fields` lists every field with its place, its
limits (E_RANGE) and its reserved encodings (E_RESERVED). -/

namespace Sys2Proof.Machine

/-! LEG record (R87, spec/05_legs_and_transport.md), 144 bytes -/

def LEG.PLANE (r : Nat) : Nat := recField r 0 0 1
def LEG.TRANSPORT (r : Nat) : Nat := recField r 0 1 2
def LEG.PROT (r : Nat) : Nat := recField r 0 3 1
def LEG.NACK_EN (r : Nat) : Nat := recField r 0 4 1
def LEG.CCFB_EN (r : Nat) : Nat := recField r 0 5 1
def LEG.VLAN (r : Nat) : Nat := recField r 1 0 3
def LEG.EVQ (r : Nat) : Nat := recField r 2 0 6
def LEG.CONF (r : Nat) : Nat := recField r 4 0 16
def LEG.LOCAL_PORT (r : Nat) : Nat := recField r 6 0 16
def LEG.ADDR0 (r : Nat) : Nat := recField r 8 0 128
def LEG.PORT0 (r : Nat) : Nat := recField r 24 0 16
def LEG.PORT1 (r : Nat) : Nat := recField r 26 0 16
def LEG.ADDR1 (r : Nat) : Nat := recField r 28 0 128
def LEG.REMOTE_SSRC (r : Nat) : Nat := recField r 44 0 32
def LEG.MATCH (r : Nat) : Nat := recField r 48 0 2
def LEG.LOCAL_SSRC (r : Nat) : Nat := recField r 52 0 32
def LEG.A_CODEC (r : Nat) : Nat := recField r 56 0 8
def LEG.PTIME (r : Nat) : Nat := recField r 57 0 8
def LEG.A_PT_TX (r : Nat) : Nat := recField r 58 0 7
def LEG.A_PT_RX (r : Nat) : Nat := recField r 59 0 7
def LEG.A_BITRATE (r : Nat) : Nat := recField r 60 0 32
def LEG.A_FLAGS (r : Nat) : Nat := recField r 64 0 8
def LEG.EXT_FM (r : Nat) : Nat := recField r 65 0 4
def LEG.EXT_DD (r : Nat) : Nat := recField r 66 0 8
def LEG.PROFILE (r : Nat) : Nat := recField r 67 0 8
def LEG.TX_CTX (r : Nat) : Nat := recField r 68 0 16
def LEG.RX_CTX (r : Nat) : Nat := recField r 70 0 16
def LEG.RX_OLD (r : Nat) : Nat := recField r 72 0 16
def LEG.JB_MIN (r : Nat) : Nat := recField r 74 0 16
def LEG.JB_MAX (r : Nat) : Nat := recField r 76 0 16
def LEG.VIDEO_WAIT (r : Nat) : Nat := recField r 78 0 16
def LEG.RTCP_INT (r : Nat) : Nat := recField r 80 0 16
def LEG.RX_TIMEOUT (r : Nat) : Nat := recField r 82 0 16
def LEG.TDM_PORT (r : Nat) : Nat := recField r 84 0 2
def LEG.TDM_SLOT (r : Nat) : Nat := recField r 85 0 5
def LEG.TDM_RX (r : Nat) : Nat := recField r 86 0 1
def LEG.TDM_TX (r : Nat) : Nat := recField r 86 1 1
def LEG.RATE_FLOOR (r : Nat) : Nat := recField r 88 0 32
def LEG.RATE_CEIL (r : Nat) : Nat := recField r 92 0 32
def LEG.CNAME (r : Nat) : Nat := recField r 96 0 256

def LEG.fields : List RecField := [
  ⟨0, 0, 1, 0, 1, []⟩, ⟨0, 1, 2, 0, 3, [(2, 3)]⟩, ⟨0, 3, 1, 0, 1, []⟩, ⟨0, 4, 1, 0, 1, []⟩,
  ⟨0, 5, 1, 0, 1, []⟩, ⟨1, 0, 3, 0, 7, []⟩, ⟨2, 0, 6, 0, 63, []⟩, ⟨4, 0, 16, 0, 65535, []⟩,
  ⟨6, 0, 16, 1, 65535, []⟩, ⟨8, 0, 128, 0, 2 ^ 128 - 1, []⟩, ⟨24, 0, 16, 0, 65535, []⟩, ⟨26, 0, 16, 0, 65535, []⟩,
  ⟨28, 0, 128, 0, 2 ^ 128 - 1, []⟩, ⟨44, 0, 32, 0, 4294967295, []⟩, ⟨48, 0, 2, 0, 3, [(3, 3)]⟩, ⟨52, 0, 32, 0, 4294967295, []⟩,
  ⟨56, 0, 8, 0, 255, [(8, 255)]⟩, ⟨57, 0, 8, 0, 255, []⟩, ⟨58, 0, 7, 0, 127, []⟩, ⟨59, 0, 7, 0, 127, []⟩,
  ⟨60, 0, 32, 0, 4294967295, []⟩, ⟨64, 0, 8, 0, 255, []⟩, ⟨65, 0, 4, 0, 14, []⟩, ⟨66, 0, 8, 0, 255, []⟩,
  ⟨67, 0, 8, 0, 255, [(4, 255)]⟩, ⟨68, 0, 16, 0, 32767, []⟩, ⟨70, 0, 16, 0, 32767, []⟩, ⟨72, 0, 16, 0, 65535, []⟩,
  ⟨74, 0, 16, 0, 500, []⟩, ⟨76, 0, 16, 0, 500, []⟩, ⟨78, 0, 16, 5, 500, []⟩, ⟨80, 0, 16, 100, 5000, []⟩,
  ⟨82, 0, 16, 0, 65535, []⟩, ⟨84, 0, 2, 0, 3, []⟩, ⟨85, 0, 5, 0, 31, []⟩, ⟨86, 0, 1, 0, 1, []⟩,
  ⟨86, 1, 1, 0, 1, []⟩, ⟨88, 0, 32, 0, 4294967295, []⟩, ⟨92, 0, 32, 0, 4294967295, []⟩, ⟨96, 0, 256, 0, 2 ^ 256 - 1, []⟩]

/-! CONF record (R92, spec/05_legs_and_transport.md), 32 bytes -/

def CONF.K (r : Nat) : Nat := recField r 0 0 5
def CONF.RECALL_EN (r : Nat) : Nat := recField r 1 0 1
def CONF.FREEZE (r : Nat) : Nat := recField r 1 1 1
def CONF.EVQ (r : Nat) : Nat := recField r 2 0 6
def CONF.RECALL_MIN (r : Nat) : Nat := recField r 3 0 8
def CONF.RECALL_BASE (r : Nat) : Nat := recField r 8 0 38
def CONF.RECALL_SIZE (r : Nat) : Nat := recField r 16 0 32

def CONF.fields : List RecField := [
  ⟨0, 0, 5, 1, 16, []⟩, ⟨1, 0, 1, 0, 1, []⟩, ⟨1, 1, 1, 0, 1, []⟩, ⟨2, 0, 6, 0, 63, []⟩,
  ⟨3, 0, 8, 1, 60, []⟩, ⟨8, 0, 38, 0, 274877906943, []⟩, ⟨16, 0, 32, 1, 65536, []⟩]

/-! REC record (R108, spec/05_legs_and_transport.md), 48 bytes -/

def REC.KIND (r : Nat) : Nat := recField r 0 0 3
def REC.DOMAIN (r : Nat) : Nat := recField r 0 3 2
def REC.ENC (r : Nat) : Nat := recField r 1 0 1
def REC.SRC (r : Nat) : Nat := recField r 2 0 16
def REC.EVQ (r : Nat) : Nat := recField r 4 0 6
def REC.KEY_SLOT (r : Nat) : Nat := recField r 6 0 16
def REC.RING_BASE (r : Nat) : Nat := recField r 8 0 64
def REC.RING_SIZE (r : Nat) : Nat := recField r 16 0 32
def REC.HEAD_ADDR (r : Nat) : Nat := recField r 20 0 64
def REC.TAIL_ADDR (r : Nat) : Nat := recField r 28 0 64

def REC.fields : List RecField := [
  ⟨0, 0, 3, 0, 7, [(0, 0), (4, 7)]⟩, ⟨0, 3, 2, 0, 3, [(3, 3)]⟩, ⟨1, 0, 1, 0, 1, []⟩, ⟨2, 0, 16, 0, 65535, []⟩,
  ⟨4, 0, 6, 0, 63, []⟩, ⟨6, 0, 16, 0, 65535, []⟩, ⟨8, 0, 64, 0, 2 ^ 64 - 1, []⟩, ⟨16, 0, 32, 65536, 1073741824, []⟩,
  ⟨20, 0, 64, 0, 2 ^ 64 - 1, []⟩, ⟨28, 0, 64, 0, 2 ^ 64 - 1, []⟩]

/-! POLICER record (R83, spec/04_ports_and_planes.md), 16 bytes -/

def POLICER.RATE (r : Nat) : Nat := recField r 0 0 32
def POLICER.BURST (r : Nat) : Nat := recField r 4 0 32
def POLICER.ENABLE (r : Nat) : Nat := recField r 8 0 1

def POLICER.fields : List RecField := [
  ⟨0, 0, 32, 8, 100000000, []⟩, ⟨4, 0, 32, 1536, 1048576, []⟩, ⟨8, 0, 1, 0, 1, []⟩]

/-! SHAPER record (R145, spec/07_egress_scheduling.md), 16 bytes -/

def SHAPER.RATE (r : Nat) : Nat := recField r 0 0 32
def SHAPER.BURST (r : Nat) : Nat := recField r 4 0 32
def SHAPER.TOKEN_INIT (r : Nat) : Nat := recField r 8 0 2
def SHAPER.AUDIO_Q (r : Nat) : Nat := recField r 8 2 1
def SHAPER.QUANTUM (r : Nat) : Nat := recField r 10 0 16
def SHAPER.MAX_WAIT (r : Nat) : Nat := recField r 12 0 16

def SHAPER.fields : List RecField := [
  ⟨0, 0, 32, 8, 10000000, []⟩, ⟨4, 0, 32, 1536, 1048576, []⟩, ⟨8, 0, 2, 0, 3, [(3, 3)]⟩, ⟨8, 2, 1, 0, 1, []⟩,
  ⟨10, 0, 16, 1, 1024, []⟩, ⟨12, 0, 16, 10, 2000, []⟩]

/-! VSTR record (R127, spec/06_adaptation_and_forwarding.md), 64 bytes -/

def VSTR.LEG (r : Nat) : Nat := recField r 0 0 16
def VSTR.CODEC (r : Nat) : Nat := recField r 2 0 8
def VSTR.PT (r : Nat) : Nat := recField r 3 0 7
def VSTR.RTX_PT (r : Nat) : Nat := recField r 4 0 7
def VSTR.DECODE (r : Nat) : Nat := recField r 5 0 1
def VSTR.FORWARD (r : Nat) : Nat := recField r 5 1 1
def VSTR.EVQ (r : Nat) : Nat := recField r 6 0 6
def VSTR.SSRC (r : Nat) : Nat := recField r 8 0 32
def VSTR.RTX_SSRC (r : Nat) : Nat := recField r 12 0 32
def VSTR.DEC (r : Nat) : Nat := recField r 32 0 256

def VSTR.fields : List RecField := [
  ⟨0, 0, 16, 0, 65535, []⟩, ⟨2, 0, 8, 0, 255, [(0, 0), (4, 255)]⟩, ⟨3, 0, 7, 0, 127, []⟩, ⟨4, 0, 7, 0, 127, []⟩,
  ⟨5, 0, 1, 0, 1, []⟩, ⟨5, 1, 1, 0, 1, []⟩, ⟨6, 0, 6, 0, 63, []⟩, ⟨8, 0, 32, 0, 4294967295, []⟩,
  ⟨12, 0, 32, 0, 4294967295, []⟩, ⟨32, 0, 256, 0, 2 ^ 256 - 1, []⟩]

/-! DEC record (R244, spec/12_video_decode.md), 64 bytes -/

def DEC.MAX_W (r : Nat) : Nat := recField r 32 0 16
def DEC.MAX_H (r : Nat) : Nat := recField r 34 0 16
def DEC.MAX_FPS (r : Nat) : Nat := recField r 36 0 8
def DEC.DPB (r : Nat) : Nat := recField r 37 0 5
def DEC.DEPTH10 (r : Nat) : Nat := recField r 37 5 1
def DEC.TARGET_S (r : Nat) : Nat := recField r 38 0 2
def DEC.TARGET_T (r : Nat) : Nat := recField r 38 2 2
def DEC.PLI_EN (r : Nat) : Nat := recField r 38 4 1
def DEC.DUE (r : Nat) : Nat := recField r 39 0 8
def DEC.MATRIX (r : Nat) : Nat := recField r 40 0 2
def DEC.RANGE (r : Nat) : Nat := recField r 40 2 2

def DEC.fields : List RecField := [
  ⟨32, 0, 16, 128, 3840, []⟩, ⟨34, 0, 16, 96, 3840, []⟩, ⟨36, 0, 8, 1, 120, []⟩, ⟨37, 0, 5, 1, 16, []⟩,
  ⟨37, 5, 1, 0, 1, []⟩, ⟨38, 0, 2, 0, 2, []⟩, ⟨38, 2, 2, 0, 2, []⟩, ⟨38, 4, 1, 0, 1, []⟩,
  ⟨39, 0, 8, 0, 100, []⟩, ⟨40, 0, 2, 0, 3, []⟩, ⟨40, 2, 2, 0, 3, [(3, 3)]⟩]

/-! OSTR record (R131, spec/06_adaptation_and_forwarding.md), 32 bytes -/

def OSTR.LEG (r : Nat) : Nat := recField r 0 0 16
def OSTR.SRC (r : Nat) : Nat := recField r 2 0 16
def OSTR.SRC_KIND (r : Nat) : Nat := recField r 4 0 1
def OSTR.PREF (r : Nat) : Nat := recField r 4 1 1
def OSTR.MIN_BASE (r : Nat) : Nat := recField r 4 2 1
def OSTR.KEYREQ (r : Nat) : Nat := recField r 4 3 1
def OSTR.MAX_S (r : Nat) : Nat := recField r 5 0 2
def OSTR.MAX_T (r : Nat) : Nat := recField r 5 2 2
def OSTR.PT (r : Nat) : Nat := recField r 6 0 7
def OSTR.RTX_PT (r : Nat) : Nat := recField r 7 0 7
def OSTR.SSRC (r : Nat) : Nat := recField r 8 0 32
def OSTR.RTX_SSRC (r : Nat) : Nat := recField r 12 0 32
def OSTR.TS_INIT (r : Nat) : Nat := recField r 16 0 32
def OSTR.SEQ_INIT (r : Nat) : Nat := recField r 20 0 16
def OSTR.RTX_SEQ_INIT (r : Nat) : Nat := recField r 22 0 16
def OSTR.PRIO (r : Nat) : Nat := recField r 24 0 3

def OSTR.fields : List RecField := [
  ⟨0, 0, 16, 0, 65535, []⟩, ⟨2, 0, 16, 0, 65535, []⟩, ⟨4, 0, 1, 0, 1, []⟩, ⟨4, 1, 1, 0, 1, []⟩,
  ⟨4, 2, 1, 0, 1, []⟩, ⟨4, 3, 1, 0, 1, []⟩, ⟨5, 0, 2, 0, 2, []⟩, ⟨5, 2, 2, 0, 2, []⟩,
  ⟨6, 0, 7, 0, 127, []⟩, ⟨7, 0, 7, 0, 127, []⟩, ⟨8, 0, 32, 0, 4294967295, []⟩, ⟨12, 0, 32, 0, 4294967295, []⟩,
  ⟨16, 0, 32, 0, 4294967295, []⟩, ⟨20, 0, 16, 0, 65535, []⟩, ⟨22, 0, 16, 0, 65535, []⟩, ⟨24, 0, 3, 0, 7, []⟩]

/-! LAYOUT record (R258, spec/13_video_composition.md), 32 bytes -/

def LAYOUT.WIDTH (r : Nat) : Nat := recField r 0 0 16
def LAYOUT.HEIGHT (r : Nat) : Nat := recField r 2 0 16
def LAYOUT.RATE_N (r : Nat) : Nat := recField r 4 0 16
def LAYOUT.RATE_D (r : Nat) : Nat := recField r 6 0 16
def LAYOUT.ANCHOR (r : Nat) : Nat := recField r 8 0 48
def LAYOUT.MATRIX (r : Nat) : Nat := recField r 14 0 2
def LAYOUT.FULL (r : Nat) : Nat := recField r 14 2 1
def LAYOUT.DEPTH10 (r : Nat) : Nat := recField r 14 3 1
def LAYOUT.DITHER (r : Nat) : Nat := recField r 14 4 2
def LAYOUT.EVQ (r : Nat) : Nat := recField r 15 0 6
def LAYOUT.COLOUR0 (r : Nat) : Nat := recField r 16 0 30
def LAYOUT.COLOUR1 (r : Nat) : Nat := recField r 20 0 30
def LAYOUT.COLOUR2 (r : Nat) : Nat := recField r 24 0 30
def LAYOUT.COLOUR3 (r : Nat) : Nat := recField r 28 0 30

def LAYOUT.fields : List RecField := [
  ⟨0, 0, 16, 128, 3840, []⟩, ⟨2, 0, 16, 96, 2160, []⟩, ⟨4, 0, 16, 1, 65535, []⟩, ⟨6, 0, 16, 1, 65535, []⟩,
  ⟨8, 0, 48, 0, 281474976710655, []⟩, ⟨14, 0, 2, 0, 3, [(0, 0)]⟩, ⟨14, 2, 1, 0, 1, []⟩, ⟨14, 3, 1, 0, 1, []⟩,
  ⟨14, 4, 2, 0, 3, []⟩, ⟨15, 0, 6, 0, 63, []⟩, ⟨16, 0, 30, 0, 1073741823, []⟩, ⟨20, 0, 30, 0, 1073741823, []⟩,
  ⟨24, 0, 30, 0, 1073741823, []⟩, ⟨28, 0, 30, 0, 1073741823, []⟩]

/-! VLAYER record (R259, spec/13_video_composition.md), 16 bytes -/

def VLAYER.SRC_KIND (r : Nat) : Nat := recField r 0 0 2
def VLAYER.FIT (r : Nat) : Nat := recField r 0 2 2
def VLAYER.BORDER (r : Nat) : Nat := recField r 0 4 4
def VLAYER.Z (r : Nat) : Nat := recField r 1 0 5
def VLAYER.SRC (r : Nat) : Nat := recField r 2 0 16
def VLAYER.X (r : Nat) : Nat := recField r 4 0 16
def VLAYER.Y (r : Nat) : Nat := recField r 6 0 16
def VLAYER.W (r : Nat) : Nat := recField r 8 0 16
def VLAYER.H (r : Nat) : Nat := recField r 10 0 16
def VLAYER.ALPHA (r : Nat) : Nat := recField r 12 0 8
def VLAYER.BORDER_C (r : Nat) : Nat := recField r 13 0 2
def VLAYER.FILL_C (r : Nat) : Nat := recField r 13 2 2

def VLAYER.fields : List RecField := [
  ⟨0, 0, 2, 0, 3, [(3, 3)]⟩, ⟨0, 2, 2, 0, 3, [(3, 3)]⟩, ⟨0, 4, 4, 0, 15, []⟩, ⟨1, 0, 5, 0, 23, []⟩,
  ⟨2, 0, 16, 0, 65535, []⟩, ⟨4, 0, 16, 0, 65535, []⟩, ⟨6, 0, 16, 0, 65535, []⟩, ⟨8, 0, 16, 0, 65535, []⟩,
  ⟨10, 0, 16, 0, 65535, []⟩, ⟨12, 0, 8, 0, 255, []⟩, ⟨13, 0, 2, 0, 3, []⟩, ⟨13, 2, 2, 0, 3, []⟩]

/-! GLAYER record (R260, spec/13_video_composition.md), 24 bytes -/

def GLAYER.ENABLE (r : Nat) : Nat := recField r 0 0 1
def GLAYER.FORMAT (r : Nat) : Nat := recField r 0 1 1
def GLAYER.Z (r : Nat) : Nat := recField r 1 0 5
def GLAYER.BIND (r : Nat) : Nat := recField r 2 0 5
def GLAYER.ALPHA (r : Nat) : Nat := recField r 3 0 8
def GLAYER.X (r : Nat) : Nat := recField r 4 0 16
def GLAYER.Y (r : Nat) : Nat := recField r 6 0 16
def GLAYER.W (r : Nat) : Nat := recField r 8 0 16
def GLAYER.H (r : Nat) : Nat := recField r 10 0 16
def GLAYER.STRIDE (r : Nat) : Nat := recField r 12 0 16
def GLAYER.ADDR (r : Nat) : Nat := recField r 16 0 38

def GLAYER.fields : List RecField := [
  ⟨0, 0, 1, 0, 1, []⟩, ⟨0, 1, 1, 0, 1, []⟩, ⟨1, 0, 5, 0, 23, []⟩, ⟨2, 0, 5, 0, 31, [(16, 30)]⟩,
  ⟨3, 0, 8, 0, 255, []⟩, ⟨4, 0, 16, 0, 65535, []⟩, ⟨6, 0, 16, 0, 65535, []⟩, ⟨8, 0, 16, 0, 65535, []⟩,
  ⟨10, 0, 16, 0, 65535, []⟩, ⟨12, 0, 16, 0, 65535, []⟩, ⟨16, 0, 38, 0, 274877906943, []⟩]

/-! ECOMP record (R278, spec/14_video_encode.md), 160 bytes -/

def ECOMP.CODEC (r : Nat) : Nat := recField r 0 0 8
def ECOMP.SPATIAL (r : Nat) : Nat := recField r 1 0 2
def ECOMP.TEMPORAL (r : Nat) : Nat := recField r 1 2 2
def ECOMP.LIVE (r : Nat) : Nat := recField r 1 4 1
def ECOMP.PROFILE (r : Nat) : Nat := recField r 2 0 8
def ECOMP.EVQ (r : Nat) : Nat := recField r 3 0 6
def ECOMP.TOP_W (r : Nat) : Nat := recField r 4 0 16
def ECOMP.TOP_H (r : Nat) : Nat := recField r 6 0 16
def ECOMP.REFRESH_PERIOD (r : Nat) : Nat := recField r 8 0 16
def ECOMP.ACCEL_PERIOD (r : Nat) : Nat := recField r 10 0 16
def ECOMP.QP_MIN (r : Nat) : Nat := recField r 12 0 8
def ECOMP.QP_MAX (r : Nat) : Nat := recField r 13 0 8
def ECOMP.QP_START (r : Nat) : Nat := recField r 14 0 8
def ECOMP.KEY_MULT (r : Nat) : Nat := recField r 15 0 8
def ECOMP.MAX_PAYLOAD (r : Nat) : Nat := recField r 16 0 16
def ECOMP.KEY_SEQ (r : Nat) : Nat := recField r 18 0 8
def ECOMP.LAG (r : Nat) : Nat := recField r 20 0 16
def ECOMP.RATE_0_0 (r : Nat) : Nat := recField r 24 0 32
def ECOMP.RATE_0_1 (r : Nat) : Nat := recField r 28 0 32
def ECOMP.RATE_0_2 (r : Nat) : Nat := recField r 32 0 32
def ECOMP.RATE_1_0 (r : Nat) : Nat := recField r 36 0 32
def ECOMP.RATE_1_1 (r : Nat) : Nat := recField r 40 0 32
def ECOMP.RATE_1_2 (r : Nat) : Nat := recField r 44 0 32
def ECOMP.RATE_2_0 (r : Nat) : Nat := recField r 48 0 32
def ECOMP.RATE_2_1 (r : Nat) : Nat := recField r 52 0 32
def ECOMP.RATE_2_2 (r : Nat) : Nat := recField r 56 0 32
def ECOMP.ROI0_X (r : Nat) : Nat := recField r 64 0 16
def ECOMP.ROI0_Y (r : Nat) : Nat := recField r 66 0 16
def ECOMP.ROI0_W (r : Nat) : Nat := recField r 68 0 16
def ECOMP.ROI0_H (r : Nat) : Nat := recField r 70 0 16
def ECOMP.ROI0_OFFSET (r : Nat) : Nat := recField r 72 0 8
def ECOMP.ROI0_ENABLE (r : Nat) : Nat := recField r 73 0 1
def ECOMP.ROI1_X (r : Nat) : Nat := recField r 76 0 16
def ECOMP.ROI1_Y (r : Nat) : Nat := recField r 78 0 16
def ECOMP.ROI1_W (r : Nat) : Nat := recField r 80 0 16
def ECOMP.ROI1_H (r : Nat) : Nat := recField r 82 0 16
def ECOMP.ROI1_OFFSET (r : Nat) : Nat := recField r 84 0 8
def ECOMP.ROI1_ENABLE (r : Nat) : Nat := recField r 85 0 1
def ECOMP.ROI2_X (r : Nat) : Nat := recField r 88 0 16
def ECOMP.ROI2_Y (r : Nat) : Nat := recField r 90 0 16
def ECOMP.ROI2_W (r : Nat) : Nat := recField r 92 0 16
def ECOMP.ROI2_H (r : Nat) : Nat := recField r 94 0 16
def ECOMP.ROI2_OFFSET (r : Nat) : Nat := recField r 96 0 8
def ECOMP.ROI2_ENABLE (r : Nat) : Nat := recField r 97 0 1
def ECOMP.ROI3_X (r : Nat) : Nat := recField r 100 0 16
def ECOMP.ROI3_Y (r : Nat) : Nat := recField r 102 0 16
def ECOMP.ROI3_W (r : Nat) : Nat := recField r 104 0 16
def ECOMP.ROI3_H (r : Nat) : Nat := recField r 106 0 16
def ECOMP.ROI3_OFFSET (r : Nat) : Nat := recField r 108 0 8
def ECOMP.ROI3_ENABLE (r : Nat) : Nat := recField r 109 0 1
def ECOMP.ROI4_X (r : Nat) : Nat := recField r 112 0 16
def ECOMP.ROI4_Y (r : Nat) : Nat := recField r 114 0 16
def ECOMP.ROI4_W (r : Nat) : Nat := recField r 116 0 16
def ECOMP.ROI4_H (r : Nat) : Nat := recField r 118 0 16
def ECOMP.ROI4_OFFSET (r : Nat) : Nat := recField r 120 0 8
def ECOMP.ROI4_ENABLE (r : Nat) : Nat := recField r 121 0 1
def ECOMP.ROI5_X (r : Nat) : Nat := recField r 124 0 16
def ECOMP.ROI5_Y (r : Nat) : Nat := recField r 126 0 16
def ECOMP.ROI5_W (r : Nat) : Nat := recField r 128 0 16
def ECOMP.ROI5_H (r : Nat) : Nat := recField r 130 0 16
def ECOMP.ROI5_OFFSET (r : Nat) : Nat := recField r 132 0 8
def ECOMP.ROI5_ENABLE (r : Nat) : Nat := recField r 133 0 1
def ECOMP.ROI6_X (r : Nat) : Nat := recField r 136 0 16
def ECOMP.ROI6_Y (r : Nat) : Nat := recField r 138 0 16
def ECOMP.ROI6_W (r : Nat) : Nat := recField r 140 0 16
def ECOMP.ROI6_H (r : Nat) : Nat := recField r 142 0 16
def ECOMP.ROI6_OFFSET (r : Nat) : Nat := recField r 144 0 8
def ECOMP.ROI6_ENABLE (r : Nat) : Nat := recField r 145 0 1
def ECOMP.ROI7_X (r : Nat) : Nat := recField r 148 0 16
def ECOMP.ROI7_Y (r : Nat) : Nat := recField r 150 0 16
def ECOMP.ROI7_W (r : Nat) : Nat := recField r 152 0 16
def ECOMP.ROI7_H (r : Nat) : Nat := recField r 154 0 16
def ECOMP.ROI7_OFFSET (r : Nat) : Nat := recField r 156 0 8
def ECOMP.ROI7_ENABLE (r : Nat) : Nat := recField r 157 0 1

def ECOMP.fields0 : List RecField := [
  ⟨0, 0, 8, 0, 255, [(0, 0), (4, 255)]⟩, ⟨1, 0, 2, 1, 3, []⟩, ⟨1, 2, 2, 1, 3, []⟩, ⟨1, 4, 1, 0, 1, []⟩,
  ⟨2, 0, 8, 0, 255, []⟩, ⟨3, 0, 6, 0, 63, []⟩, ⟨4, 0, 16, 0, 65535, []⟩, ⟨6, 0, 16, 0, 65535, []⟩,
  ⟨8, 0, 16, 0, 65535, []⟩, ⟨10, 0, 16, 0, 65535, []⟩, ⟨12, 0, 8, 0, 255, []⟩, ⟨13, 0, 8, 0, 255, []⟩,
  ⟨14, 0, 8, 0, 255, []⟩, ⟨15, 0, 8, 0, 255, []⟩, ⟨16, 0, 16, 0, 65535, []⟩, ⟨18, 0, 8, 0, 255, []⟩,
  ⟨20, 0, 16, 0, 65535, []⟩, ⟨24, 0, 32, 0, 4294967295, []⟩, ⟨28, 0, 32, 0, 4294967295, []⟩, ⟨32, 0, 32, 0, 4294967295, []⟩,
  ⟨36, 0, 32, 0, 4294967295, []⟩, ⟨40, 0, 32, 0, 4294967295, []⟩, ⟨44, 0, 32, 0, 4294967295, []⟩, ⟨48, 0, 32, 0, 4294967295, []⟩,
  ⟨52, 0, 32, 0, 4294967295, []⟩, ⟨56, 0, 32, 0, 4294967295, []⟩, ⟨64, 0, 16, 0, 65535, []⟩, ⟨66, 0, 16, 0, 65535, []⟩,
  ⟨68, 0, 16, 0, 65535, []⟩, ⟨70, 0, 16, 0, 65535, []⟩, ⟨72, 0, 8, 0, 255, []⟩, ⟨73, 0, 1, 0, 1, []⟩,
  ⟨76, 0, 16, 0, 65535, []⟩, ⟨78, 0, 16, 0, 65535, []⟩, ⟨80, 0, 16, 0, 65535, []⟩, ⟨82, 0, 16, 0, 65535, []⟩,
  ⟨84, 0, 8, 0, 255, []⟩, ⟨85, 0, 1, 0, 1, []⟩, ⟨88, 0, 16, 0, 65535, []⟩, ⟨90, 0, 16, 0, 65535, []⟩]

def ECOMP.fields1 : List RecField := [
  ⟨92, 0, 16, 0, 65535, []⟩, ⟨94, 0, 16, 0, 65535, []⟩, ⟨96, 0, 8, 0, 255, []⟩, ⟨97, 0, 1, 0, 1, []⟩,
  ⟨100, 0, 16, 0, 65535, []⟩, ⟨102, 0, 16, 0, 65535, []⟩, ⟨104, 0, 16, 0, 65535, []⟩, ⟨106, 0, 16, 0, 65535, []⟩,
  ⟨108, 0, 8, 0, 255, []⟩, ⟨109, 0, 1, 0, 1, []⟩, ⟨112, 0, 16, 0, 65535, []⟩, ⟨114, 0, 16, 0, 65535, []⟩,
  ⟨116, 0, 16, 0, 65535, []⟩, ⟨118, 0, 16, 0, 65535, []⟩, ⟨120, 0, 8, 0, 255, []⟩, ⟨121, 0, 1, 0, 1, []⟩,
  ⟨124, 0, 16, 0, 65535, []⟩, ⟨126, 0, 16, 0, 65535, []⟩, ⟨128, 0, 16, 0, 65535, []⟩, ⟨130, 0, 16, 0, 65535, []⟩,
  ⟨132, 0, 8, 0, 255, []⟩, ⟨133, 0, 1, 0, 1, []⟩, ⟨136, 0, 16, 0, 65535, []⟩, ⟨138, 0, 16, 0, 65535, []⟩,
  ⟨140, 0, 16, 0, 65535, []⟩, ⟨142, 0, 16, 0, 65535, []⟩, ⟨144, 0, 8, 0, 255, []⟩, ⟨145, 0, 1, 0, 1, []⟩,
  ⟨148, 0, 16, 0, 65535, []⟩, ⟨150, 0, 16, 0, 65535, []⟩, ⟨152, 0, 16, 0, 65535, []⟩, ⟨154, 0, 16, 0, 65535, []⟩,
  ⟨156, 0, 8, 0, 255, []⟩, ⟨157, 0, 1, 0, 1, []⟩]

def ECOMP.fields : List RecField := ECOMP.fields0 ++ ECOMP.fields1

/-- Bytes of a record of table t (R42). -/
def recLen (t : Nat) : Nat :=
  if t = 1 then 144 else if t = 2 then 32 else if t = 3 then 48 else if t = 4 ∨ t = 5 then 16 else if t = 6 then 64
  else if t = 7 then 32 else if t = 8 then 480 else 160

end Sys2Proof.Machine
end

