-- ==== Sys2Proof/Machine/TypesBinath.lean ====
section
/-! DEFINITION. Plain-data types of the Binath links and the cascade (spec/16_binath_cascade.md). -/

namespace Sys2Proof.Machine

/-- A message waiting to be sent: the KIND and CHAN of its flits, payload bytes still to send, whether its first flit has gone, and
what it carries. -/
structure TxMsg where
  kind : Nat
  chan : Nat
  left : Nat
  started : Bool
  msg : LinkMsg
  deriving DecidableEq, Repr

/-- A flit as its sender keeps it for replay (R316, R320); what the message carries stands in its last flit. -/
structure TxFlit where
  kind : Nat
  vc : Nat
  som : Bool
  eom : Bool
  seq : Nat
  len : Nat
  chan : Nat
  msg : Option LinkMsg
  deriving DecidableEq, Repr

/-- A flit as sent, with its ACK and the credits it returns. -/
structure SentFlit where
  flit : TxFlit
  ack : Nat
  crVc : Nat
  crCnt : Nat
  deriving DecidableEq, Repr

/-- A link beyond its registers (R314 to R320, R323, R327). Of the sender: next SEQ, unacknowledged flits oldest first, the index of the next one to
replay, replays in a row without progress, when the oldest was last sent in ns, credits held and messages waiting per VC, a NAK to
send, and flits of VC2 and VC3 sent while both waited. Of the receiver: expected SEQ, whether a NAK was sent and flits are being
discarded, and credits to return per VC. The last flit sent; the peer's IDENT and TOPO and whether TOPO was heard; when training began
and a flit last came, in ns; and of the time exchange t1 in 2⁻⁴ ns, exchanges in a row unanswered and with invalid parent time. -/
structure Link where
  txSeq : Nat := 0
  replay : List TxFlit := []
  resend : Option Nat := none
  stalls : Nat := 0
  oldestAt : Nat := 0
  credits : List Nat := [64, 256, 1024, 256]
  queues : List (List TxMsg) := [[], [], [], []]
  nak : Option Nat := none
  share2 : Nat := 0
  share3 : Nat := 0
  rxSeq : Nat := 0
  discarding : Bool := false
  owed : List Nat := [0, 0, 0, 0]
  last : Option SentFlit := none
  ident : Option Ident := none
  topo : Topo := {}
  heard : Bool := false
  trainAt : Nat := 0
  lastRx : Nat := 0
  t1 : Option Int := none
  missed : Nat := 0
  badParent : Nat := 0
  deriving DecidableEq, Repr

/-- The global seats of a fabric conference at its root (R331): holders by FLEG, OUTRANKED counts, and ticks in a row without an
entry. -/
structure GSeats where
  seats : List (Option Nat) := []
  outranked : List Nat := []
  absent : List Nat := []
  deriving DecidableEq, Repr

/-- A device in its fabric (R322 to R333): the FCONF words in effect; its active uplink; PATH at the last boundary; whether it is local root; when the uplink was last in UP, in ns; a claim as
link, switch tick and acceptance, when the last claim was made or failed, and whether one failed since the device became unrooted; claims it granted and standby links it serves as downlinks; a revert
and standby links whose child reverts, with switch ticks; since when LINK0 has been UP with a ROOTED peer (both in ns); the topology it last
announced; what the inbound links delivered in this tick and what is consumed in this one; K by conference as carried; the sections
of this tick produced up and down by conference; conferences still to run; global seats; holders the last down entries named; the FLEGs of
the down entries before; whether the root changed at this boundary; and the tick of the sections. -/
structure Fabric where
  fconf : Sparse Word := []
  uplink : Option Nat := none
  path : List Nat := []
  localRoot : Bool := false
  uplinkAt : Nat := 0
  claim : Option (Nat × Nat × Bool) := none
  claimAt : Nat := 0
  retrying : Bool := false
  grants : List (Nat × Nat) := []
  serving : List Nat := []
  revert : Option Nat := none
  returning : List (Nat × Nat) := []
  backSince : Option Nat := none
  announced : Topo := {}
  arrived : List (Nat × CFrame) := []
  frames : List (Nat × CFrame) := []
  carriedK : Sparse Nat := []
  up : Sparse (List CEntry) := []
  down : Sparse (List CEntry) := []
  todo : List Nat := []
  gseats : Sparse GSeats := []
  holders : Sparse (List Nat) := []
  before : Sparse (List Nat) := []
  rootChanged : Bool := false
  tick : Nat := 0
  deriving DecidableEq, Repr

end Sys2Proof.Machine
end

