-- ==== Sys2Proof/Machine/TypesDram.lean ====
section
/-! DEFINITION. Plain-data types of the DRAM channels and Weir (spec/18_dram_controller.md). -/

namespace Sys2Proof.Machine

/-- A channel beyond its registers (R368, R369, R372, R374, R381): lines with a corrected symbol by device position (32 × rank + 16 × sub
+ position) with the instant in ns, positions whose SECOND_DEVICE was posted, the next line of the patrol scrub, when each rank's next refresh falls due,
ranks between ZQCal Start and Latch and the instant of each rank's last Start, all in ns, and the log. -/
structure Ddr where
  ce : Sparse (List (Nat × Nat)) := []
  second : List Nat := []
  scrub : Nat := 0
  due : List Nat := [0, 0]
  zq : List Bool := [false, false]
  zqAt : List Nat := [0, 0]
  log : HwLog := {}
  deriving DecidableEq, Repr

/-- A fence (R379): the port, one identity or the whole port, whether it is EMPTY, transactions aborted, and the instant it was taken in ns. -/
structure Fence where
  port : Nat
  ident : Option Nat
  empty : Bool
  aborted : Nat
  at_ : Nat
  deriving DecidableEq, Repr

/-- Weir (R378, R379): fences, lines moved in the present window by channel × 32 + port, the configuration of the window by port, and
transactions aborted by the latest fence of an identity by port × 256 + identity. -/
structure Weir where
  fences : List Fence := []
  lines : Sparse Nat := []
  cfg : Sparse Word := []
  aborted : Sparse Nat := []
  deriving DecidableEq, Repr

end Sys2Proof.Machine
end

