-- ==== Sys2Proof/Machine/TypesSys.lean ====
section
/-! DEFINITION. Plain-data types of the cipher unit and key store (spec/19_security.md), the flash and the boot (spec/19, spec/24_reset_and_boot.md), the DMA
channels (spec/20_host_and_dma.md), the power controller (spec/22_power.md), Crier, live repair and firmware update
(spec/23_reliability_and_service.md), and the pins (spec/25_electrical_and_package.md). -/

namespace Sys2Proof.Machine

/-! ### Keys and ciphers -/

/-- A key slot of the cipher unit (R390): KIND, KEK, USER, COUNT and the key. -/
structure KeySlot where
  kind : Nat
  kek : Bool
  user : Nat
  count : Nat
  key : List Byte
  deriving DecidableEq, Repr

/-- A job (R392, R393): its user, ALG (0: a job inside the device), slot, destination, payload length, AAD length, IV, the bytes read from SRC, its blocks and the SOC cycles
each takes, blocks ended before the present stretch, the instant in ns at which that stretch began, the first block with poisoned input, whether an
alarm stopped it, and the STATUS its zeroing ends with (R395). -/
structure CipherJob where
  user : Nat
  alg : Nat := 0
  slot : Nat := 0
  dst : Nat := 0
  len : Nat := 0
  aad : Nat := 0
  iv : List Byte := []
  input : List Byte := []
  key : List Byte := []
  blocks : Nat := 0
  cycles : Nat := 0
  ended : Nat := 0
  at_ : Nat := 0
  poison : Option Nat := none
  stopped : Bool := false
  zeroing : Option Nat := none
  deriving DecidableEq, Repr

/-- A waiting request for the lock (R391): user, class, and the instant it was made in ns. -/
structure LockReq where
  user : Nat
  urgent : Bool
  at_ : Nat
  deriving DecidableEq, Repr

/-- The cipher unit and the key store beyond their registers: key slots; waiting requests in the order made; whether the owner's request was URGENT and whether it
released while a job ran; the running and the suspended job; the staging windows; the key-store command in progress, as its word and the window it
copied; whether the session KEK and the DRBG state exist; and re-randomisations of the key shares (R396). -/
structure Sec where
  slots : Sparse (Option KeySlot) := []
  requests : List LockReq := []
  ownerUrgent : Bool := false
  releaseDue : Bool := false
  running : Option CipherJob := none
  suspended : Option CipherJob := none
  stage : Sparse Word := []
  keyin : Sparse Word := []
  keyCmd : Option (Nat × List Byte) := none
  kek : Bool := false
  drbg : Bool := false
  shares : Nat := 0
  deriving DecidableEq, Repr

/-! ### Flash, OTP and boot -/

/-- A board configuration copy (R472): GEN, GEOM, PREFER_B, MEDIA_GIB, and whether its MAGIC and CRC are correct. -/
structure BoardCfg where
  gen : Nat
  geom : Nat
  preferB : Bool
  mediaGib : Nat
  crcOk : Bool
  deriving DecidableEq, Repr

/-- A firmware image as its header gives it and as the checks of R401 find it. -/
structure FwImage where
  magicOk : Bool
  version : Nat
  svn : Nat
  bodyLen : Nat
  root : Nat
  bodyHash : Nat
  signed : Bool
  hashOk : Bool
  deriving DecidableEq, Repr

/-- The QSPI flash (R472), the OTP (R401, R402: roots revoked; the counter stands in ALARM_BOOT), and the straps at the balls (R470): BOOT_SEL in
bits 1:0, TWIN_EN, TWIN_SENIOR and FABRIC_MASTER in bits 2, 3 and 4. -/
structure Flash where
  cfg0 : Option BoardCfg := some ⟨0, 0, false, 16, true⟩
  cfg1 : Option BoardCfg := none
  imageA : Option FwImage := some ⟨true, 0, 0, 4096, 0, 0, true, true⟩
  imageB : Option FwImage := none
  revoked : Nat := 0
  life : Nat := 0
  deriving DecidableEq, Repr

/-- The boot (R473): whether RESET_N is low and whether PERST_N is, the image chosen, whether the ROM checks a recovery image, and whether step 5 has ended. -/
structure Boot where
  held : Bool := false
  perst : Bool := false
  image : Option FwImage := none
  imageB : Bool := false
  checking : Bool := false
  trained : Bool := false
  deriving DecidableEq, Repr

/-! ### DMA -/

/-- A descriptor as fetched (R411, R412): its ring index, its fields, and the check it fails. -/
structure DmaDesc where
  index : Nat
  src : Nat
  dst : Nat
  len : Nat
  dir : Nat
  ioc : Bool
  chain : Bool
  last : Bool
  bad : Nat
  deriving DecidableEq, Repr

/-- States of a burst. -/
inductive BurstState where
  | flight | done | failed | poisoned
  deriving DecidableEq, Repr

/-- A burst (R413): its number in the descriptor, offset and bytes, state, and for DIR 1 the bytes read from DRAM. -/
structure DmaBurst where
  j : Nat
  off : Nat
  len : Nat
  st : BurstState
  data : List Byte
  deriving DecidableEq, Repr

/-- A channel beyond its registers (R415 to R419): descriptors fetched, oldest first; bursts of the one at HEAD; the offset its next burst starts at;
the instant in ns before which no burst may start; whether ABORT stops it; and whether the transfer of a descriptor that ended ERR_AT_END goes on. -/
structure DmaChan where
  fetched : List DmaDesc := []
  bursts : List DmaBurst := []
  next : Nat := 0
  readyAt : Nat := 0
  abort : Bool := false
  errEnd : Bool := false
  openChain : Bool := false
  deriving DecidableEq, Repr

/-! ### Power -/

/-- Where a cluster's or domain's change stands (R434, R443): nothing; the voltage write due; the rail settling; the PLL relocking; and the same for the voltage
write that ends a downward change. -/
inductive PwrPhase where
  | none | write | settle | lock | lateWrite | lateSettle
  deriving DecidableEq, Repr

/-- A domain (by number d of R432) under change: phase, the OP it changes from and to, whether it is a wake, failures so far, the instant in ns the phase
began, the OP set meanwhile, and the SERVICE values its pages return to (R507) by page. -/
structure PwrDom where
  phase : PwrPhase := .none
  from_ : Nat := 0
  to_ : Nat := 0
  wake : Bool := false
  fails : Nat := 0
  since : Nat := 0
  next : Option Nat := none
  byCommand : Bool := false
  services : Sparse Nat := []
  deriving DecidableEq, Repr

/-- The power controller beyond its registers: domains under change; the entry boundary and the state aimed at; whether a wake is held (R439); the instant of
the last request to DRAM while asleep, if channels are out on an excursion (R441); whether the device becomes ACTIVE at the next boundary; and voltages in mV. -/
structure Pwr where
  doms : Sparse PwrDom := []
  enterAt : Option Nat := none
  wakeHeld : Bool := false
  excursion : Option Nat := none
  activeDue : Bool := false
  volts : Sparse Nat := []
  deriving DecidableEq, Repr

/-! ### Reliability and service -/

/-- Mill work moved off a cluster (R458): the cluster, the number of the move, the clusters that take its keys, kernels copied as (slot, target cluster, target
slot), the tick from which the move holds, and the one from which it is undone. -/
structure MillMove where
  from_ : Nat
  num : Nat
  targets : List Nat
  slots : List (Nat × Nat × Nat)
  start : Nat
  stop : Option Nat
  deriving DecidableEq, Repr

/-- An image being staged (R459): the image, the status the staging ends with. An activation (R460): its tick and its image. A live-repair operation (R457): the
command word, and whether the target was powered off when it came. Moves of Mill work; flows whose keys still wait for a context, as (new flow, old flow, T). -/
structure Svc where
  cmd : Option (Nat × Bool) := none
  moves : List MillMove := []
  copying : List (Nat × Nat × Nat) := []
  fwStage : Option (FwImage × Nat) := none
  fwActive : Option (Nat × FwImage) := none
  deriving DecidableEq, Repr

/-- Crier (R454, R456): the last records kept, newest last; the number of the next record and the instant of the newest; the counters at that instant by place in
the record; records of other devices waiting for their relay as (POS, STRAP, instant in ns, record), the next slot of the fabric ring, and the latest instant
relayed; engine faults counted; and equivalent life beyond whole hours, in 2⁻³² s (R464). -/
structure Crier where
  kept : List (List Byte) := []
  seq : Nat := 0
  at_ : Option Nat := none
  prev : Sparse Nat := []
  relay : List (Nat × Nat × Nat × List Byte) := []
  relayNext : Nat := 0
  relayed : Option Nat := none
  faults : Nat := 0
  lifeFrac : Nat := 0
  deriving DecidableEq, Repr

/-! ### Pins and side ports -/

/-- A line of the text log on UART_TXD (R495): of a boot step (kind 0), a fault (1) or an alarm (2), with its number, and the instant in ns. -/
structure UartLine where
  kind : Nat
  code : Nat
  at_ : Nat
  deriving DecidableEq, Repr

/-- The balls of spec/25 that no register shows: the highest junction sensor in 0.1 °C; the sensors of clusters 0 to 7, SOC, NET and CMPX; whether the highest
stands above 100 °C, which GPIO0 shows; the last answer of the SMBus target (none: not acknowledged); the instruction in the JTAG register; and whether EXTEST drives the balls. -/
structure Pins where
  tempMax : Int := 250
  temps : List Int := [250, 250, 250, 250, 250, 250, 250, 250, 250, 250, 250]
  hot : Bool := false
  smbus : Option (List Byte) := none
  jtagIr : Nat := 2
  jtagDr : Nat := 0
  extest : Bool := false
  deriving DecidableEq, Repr

end Sys2Proof.Machine
end

