-- ==== Sys2Proof/Machine/State.lean ====
section
/-! DEFINITION. The state of the LH9600 as plain data, the reasons a step can stop, and the state after reset. -/

namespace Sys2Proof.Machine

/-- Why a step stops with a fault. It has no constructor: the spec gives every command an effect, and no command's meaning faults. -/
inductive Fault where
  deriving DecidableEq, Repr

/-- Why a command is refused. -/
inductive Refusal where
  /-- Raised by Dispatch for a command whose meaning is not written. Safe. -/
  | notModelled (mnemonic : String)
  deriving DecidableEq, Repr

/-- The machine. -/
structure State where
  /-- The registers of every page by BAR0 address (R29, R40); an address not listed holds its reset value. -/
  regs : Sparse Word := []
  /-- What a read of the low word of a pair captured for its high word, by reader and address (R36, R51). -/
  capture : Sparse Word := []
  /-- The low word written to a writable pair, held until its high word is written, by address (R36; log entry 40). -/
  heldLo : Sparse Word := []
  /-- The data the last register, FIFO or window read returned (R29, R32). -/
  readData : Word := 0
  /-- The Belfry clock (R49, R50). -/
  clk : Clock := {}
  /-- Belfry beyond its registers. -/
  bel : Belfry := {}
  /-- The table gate: staging, pending records, transaction and effective tables (R42 to R48). -/
  gate : Gate := {}
  /-- The model's own: how many free values were taken. No statement rests on its value (log entry 2). -/
  free : Nat := 0
  /-- The MSI-X table and its pending bits (R405, R408). -/
  msix : Msix := {}
  /-- The 64 event queues (R167, R168). -/
  evq : Sparse EvQueue := []
  /-- The linked-list queues of Granary by queue number (R157 to R162). -/
  queues : Sparse GQueue := []
  /-- The 32 bank queues (R165, R166). -/
  bankq : Sparse BankQ := []
  /-- Cells on Granary's free list (R157). -/
  freeCells : Nat := 131072
  /-- The sum of MIN_CELLS of the device-managed queues once Epanis configured them (R158, R159). -/
  deviceReserved : Nat := 0
  /-- The pulse crossings by island (R422, R423). -/
  cross : Sparse Crossing := []
  /-- Device DRAM by device address (R365, R366; log entry 6). -/
  dram : Memory := []
  /-- Host memory the device reads and writes by PCIe (R37, R410; log entry 6). -/
  hostMem : Memory := []
  /-- The 32,768 contexts of the SRTP key store (R384). -/
  keys : Sparse KeyCtx := []
  /-- The containment log behind FAULT_LOG (R463). -/
  faultLog : HwLog := {}
  /-- Packets enqueued at the release stage by their number (R148). -/
  pkts : Sparse (Option TxPkt) := []
  /-- The model's own: the number the next enqueued packet gets (log entry 7). -/
  nextPkt : Nat := 0
  /-- The instants in ns at which reads of GLOBAL_FENCE were issued that have not completed, oldest first (R37). -/
  fences : List Nat := []
  /-- Select registers whose result fetch is not complete, by address (R34). -/
  fetches : List Nat := []
  /-- The legs beyond their records (chapter 05 to 07). -/
  legs : Sparse Leg := []
  /-- The conferences beyond their records (R92, R111). -/
  confs : Sparse Conf := []
  /-- The recording taps (R108 to R110). -/
  taps : Sparse Tap := []
  /-- The TDM ports (R113 to R115). -/
  tdm : Sparse Tdm := []
  /-- The one-second event windows by event and object (R512). -/
  windows : Sparse EvWindow := []
  /-- The planes beyond their registers (R75, R76, R85). -/
  planes : Sparse Plane := []
  /-- The received video streams beyond their records (R127 to R130). -/
  vstrs : Sparse Vstr := []
  /-- The sent video streams beyond their records (R131 to R142). -/
  ostrs : Sparse Ostr := []
  /-- The departure queues of the four ports (R144, R152). -/
  ports : Sparse Port := []
  /-- The replay windows by context and SSRC (R100; log entry 13). -/
  rxWin : Sparse RxCtx := []
  /-- The encoded compositions beyond their records (chapter 14). -/
  ecomps : Sparse Ecomp := []
  /-- The decoding streams by VSTR (R253). -/
  decs : Sparse DecStream := []
  /-- The layouts beyond their records (R262). -/
  layouts : Sparse Layout := []
  /-- The twin beyond its registers (chapter 17). -/
  twin : Twin := {}
  /-- The Binath links beyond their registers (R314 to R320). -/
  links : Sparse Link := []
  /-- The device's place in its fabric (R322 to R333). -/
  fab : Fabric := {}
  /-- The DRAM channels beyond their registers (R368 to R374). -/
  ddr : Sparse Ddr := []
  /-- Weir's windows and fences (R378, R379). -/
  weir : Weir := {}
  /-- DRAM lines stored with poison, by address ÷ 64 (R370). -/
  poisoned : List Nat := []
  /-- What the last DRAM access returned: whether it delivered data, and its bytes (R370, R371). -/
  dramRead : Option (Bool × List Byte) := none
  /-- The instant in ns at which the device became fatal, until a reset (R461). -/
  fatalAt : Option Nat := none
  /-- The cipher unit and the key store beyond their registers (chapter 19). -/
  sec : Sec := {}
  /-- Flash and OTP (R472, R401, R402; log entry 3). -/
  flash : Flash := {}
  /-- The boot and the two reset pins (R473, R500). -/
  boot : Boot := {}
  /-- The 32 DMA channels beyond their registers (R411 to R419). -/
  dma : Sparse DmaChan := []
  /-- What the last BAR2 read returned: its bytes, and whether its completion carries EP (R407). -/
  bar2 : Option (List Byte × Bool) := none
  /-- The power controller beyond its registers (chapter 22). -/
  pwr : Pwr := {}
  /-- Live repair and firmware update (R457 to R460). -/
  svc : Svc := {}
  /-- Crier beyond its registers (R454, R456). -/
  crier : Crier := {}
  /-- Pins, sensors, SMBus and JTAG (chapter 25). -/
  pins : Pins := {}
  /-- The lines of the text log sent on UART_TXD since reset, oldest first (R495). -/
  uart : List UartLine := []
  /-- The audio graph beyond its registers (R178 to R193). -/
  audio : Audio := {}
  /-- The legs in the audio graph (R173, R195 to R209). -/
  legAudio : Sparse LegAudio := []
  /-- The conferences in the audio graph (R182 to R184). -/
  confAudio : Sparse ConfAudio := []
  /-- The 128 Mill cores (R219, R234). -/
  mill : Sparse MillCore := []
  /-- The SRAM of the 8 clusters (R234). -/
  csram : Sparse Memory := []
  /-- The custom kernels by 8 × cluster + slot (R214). -/
  kernels : Sparse Kernel := []
  /-- Kernel commands whose result is not posted yet, by cluster (R239). -/
  kernelCmd : Sparse (Option KernelCmd) := []
  /-- Reeve beyond its registers (R297 to R311). -/
  reeve : Reeve := {}
  /-- The model's own: the commands waiting, first in, first out. -/
  pending : List Instr := []
  deriving DecidableEq, Repr

/-- The machine right after reset: every register at its reset value, no record, no packet, nothing pending. -/
def State.reset : State := {}

end Sys2Proof.Machine
end

