-- ==== Sys2Proof/Machine/Ops.lean ====
section
/-! DEFINITION. The named operations every meaning is made of: registers and their fields, errors (R38, R39), page
events and MSI-X (R29, R408), event queues (R117, R160, R167), results (R35), time (R18, R49 to R55, R61), free values,
the gate's tables (R42, R46), and the sparse tables of the state. -/

namespace Sys2Proof.Machine

/-- An outcome of a command. -/
abbrev Out := Host.Outcome State Fault Refusal

/-! ### Registers -/

/-- The stored word of a register. -/
def State.rd (s : State) (addr : Nat) : Word := s.regs.get resetWord addr

/-- Store a word in a register. -/
def State.wr (s : State) (addr : Nat) (w : Word) : State := { s with regs := s.regs.set resetWord addr w }

/-- A field's value. -/
def State.get (s : State) (f : FieldRef) : Nat := bits (s.rd f.addr) f.lo f.width

/-- A one-bit field. -/
def State.on (s : State) (f : FieldRef) : Bool := decide (s.get f ≠ 0)

/-- Set a field. -/
def State.put (s : State) (f : FieldRef) (v : Nat) : State := s.wr f.addr (putBits (s.rd f.addr) f.lo f.width v)

/-- Set a one-bit field. -/
def State.putB (s : State) (f : FieldRef) (b : Bool) : State := s.put f (b2n b)

/-- Add to a field that wraps. -/
def State.bump (s : State) (f : FieldRef) (n : Nat := 1) : State := s.put f ((s.get f + n) % 2 ^ f.width)

/-- Add to a field that saturates. -/
def State.bumpSat (s : State) (f : FieldRef) (n : Nat := 1) : State := s.put f (satAdd (2 ^ f.width - 1) (s.get f) n)

/-- A 64-bit pair by its _LO address (R36). -/
def State.rd64 (s : State) (lo : Nat) : Nat := (s.rd lo).toNat + 2 ^ 32 * (s.rd (lo + 4)).toNat

/-- Set a 64-bit pair. -/
def State.wr64 (s : State) (lo : Nat) (v : Nat) : State :=
  (s.wr lo (BitVec.ofNat 32 v)).wr (lo + 4) (BitVec.ofNat 32 (v / 2 ^ 32))

/-- Add to a 64-bit counter, wrapping at 2⁶⁴. -/
def State.bump64 (s : State) (lo : Nat) (n : Nat := 1) : State := s.wr64 lo (s.rd64 lo + n)

/-- Registers a reset does not keep take their reset values. -/
def State.keepRegs (s : State) (keep : Nat → Bool) : State := { s with regs := s.regs.filter (fun x => keep x.1) }

/-! ### Time -/

/-- The time span of the clock: 2⁴⁸ s in units of 2⁻³⁸ ns (R49). -/
def Clock.span : Nat := 2 ^ 48 * 1000000000 * 2 ^ 38

/-- The clock at its latest base cycle, in 2⁻³⁸ ns since the epoch. -/
def Clock.units (c : Clock) : Nat := (c.sec * 1000000000 + c.ns) * 2 ^ 38 + c.frac

/-- The clock with its counts at v × 2⁻³⁸ ns, the seconds wrapping at 2⁴⁸ (R49). -/
def Clock.putUnits (c : Clock) (v : Nat) : Clock :=
  { c with sec := v / 2 ^ 38 / 1000000000 % 2 ^ 48, ns := v / 2 ^ 38 % 1000000000, frac := v % 2 ^ 38 }

/-- What a cycle of the base clock adds, in 2⁻³⁸ ns: 2 ns + ADDEND × 2⁻³⁸ ns (R50). -/
def cycleUnits (addend : Word) : Nat := ((2 ^ 39 : Nat) + addend.toInt).toNat

/-- The clock after n more cycles of the base clock: the addition loses nothing (R50). -/
def Clock.advance (c : Clock) (addend : Word) (n : Nat) : Clock :=
  { c.putUnits (c.units + n * cycleUnits addend) with cycles := c.cycles + n, past := 0 }

/-- The clock in whole ns since the epoch at the present instant. -/
def Clock.toNs (c : Clock) : Nat := (c.units + c.past) / 2 ^ 38

/-- The clock in 2⁻⁴ ns since the epoch at the present instant, the unit of the stamps of R59. -/
def Clock.sixteenths (c : Clock) : Nat := (c.units + c.past) / 2 ^ 34

/-- The clock moved by one cycle of the base clock (R49, R50): 2 ns + ADDEND × 2⁻³⁸ ns, the seconds wrapping at 2⁴⁸. -/
def Clock.cycle (c : Clock) (addend : Word) : Clock :=
  let t : Nat := ((c.ns * 2 ^ 38 + c.frac + 2 * 2 ^ 38 : Nat) + addend.toInt).toNat
  let ns := t / 2 ^ 38
  if 1000000000 ≤ ns then
    { c with sec := (c.sec + 1) % 2 ^ 48, ns := ns - 1000000000, frac := t % 2 ^ 38, cycles := c.cycles + 1, past := 0 }
  else { c with ns := ns, frac := t % 2 ^ 38, cycles := c.cycles + 1, past := 0 }

/-- The clock moved by d × 2⁻³⁸ ns, elapsed cycles unchanged (a step or a switch of oscillators, R52, R55); not below 0. -/
def Clock.shift (c : Clock) (d : Int) : Clock :=
  let v := ((c.units + c.past : Nat) + d).toNat % Clock.span
  { c.putUnits (v - Nat.min c.past v) with past := Nat.min c.past v }

/-- The clock set to t ns, elapsed cycles unchanged (R55). -/
def Clock.setNs (c : Clock) (t : Nat) : Clock := { c.putUnits (t * 2 ^ 38) with past := 0 }

/-- The Belfry time in whole ns since the epoch. -/
def State.now (s : State) : Nat := s.clk.toNs

/-- The tick number of R18: seconds × 1,000 + floor(ns / 1,000,000). -/
def State.tick (s : State) : Nat := s.now / 1000000

/-- The short time of R61. -/
def State.shortTime (s : State) : Nat := s.now % 2 ^ 32

/-- The lag L of a twin in ns (R340); 0 on any other device. -/
def State.lag (s : State) : Nat := (s.rd Reg.TWIN_LAG).toNat

/-- The logical time of R340, from which outputs derive. -/
def State.lnow (s : State) : Nat := s.now - s.lag

/-- The logical tick of R340. -/
def State.ltick (s : State) : Nat := s.lnow / 1000000

/-- The tick whose boundary falls next, for a tick number at an instant in ns: the present one while the clock stands at its boundary and that has not fallen. -/
def tickAfter (ticked now : Nat) : Nat := if now % 1000000 = 0 ∧ ticked ≠ now / 1000000 then now / 1000000 else now / 1000000 + 1

/-- The logical tick whose boundary falls next. -/
def State.nextTick (s : State) : Nat := tickAfter s.clk.ticked s.lnow

/-- Let the clock run to instant t, if it has not reached it: the event that falls at t arrives (log entry 5). Whole base cycles pass with what R50
adds in each; the rest is kept as the part of a cycle that has passed. -/
def State.runTo (s : State) (t : Nat) : State :=
  if s.now < t then
    let addend := s.rd Reg.BELFRY_ADDEND
    let d := t * 2 ^ 38 - s.clk.units
    { s with clk := { s.clk.advance addend (d / cycleUnits addend) with past := d % cycleUnits addend } }
  else s

/-- Let the clock run until c base cycles have elapsed since reset, if they have not (R55). -/
def State.runToCycle (s : State) (c : Nat) : State :=
  if s.clk.cycles < c then { s with clk := s.clk.advance (s.rd Reg.BELFRY_ADDEND) (c - s.clk.cycles) } else s

/-! ### Free values -/

/-- A fresh number for a free value: the counter, and the state with it advanced. -/
def State.fresh (s : State) : Nat × State := (s.free, { s with free := s.free + 1 })

/-! ### MSI-X and page events -/

/-- Send vector v, or set its pending bit while it is masked or MSI-X is off (R408). -/
def State.sendMsix (s : State) (v : Nat) : State :=
  if s.msix.enable && !s.msix.funcMask && s.msix.unmasked.get (fun _ => false) v then
    { s with msix := { s.msix with sent := s.msix.sent.modify (fun _ => 0) v (· + 1) } }
  else { s with msix := { s.msix with pendingBit := s.msix.pendingBit.set (fun _ => false) v true } }

/-- Whether the page's enabled events are nonzero. -/
def State.pageRaised (s : State) (page : Nat) : Bool :=
  decide (Nat.land (s.rd (Reg.PG_EVENT page)).toNat (s.rd (Reg.PG_EVENT_EN page)).toNat ≠ 0)

/-- Do f, and send the page's vector if (PG_EVENT & PG_EVENT_EN) changed from zero to nonzero (R29). -/
def State.withIrq (s : State) (page : Nat) (f : State → State) : State :=
  let t := f s
  if !s.pageRaised page && t.pageRaised page then t.sendMsix (t.get (Fld.PG_MSIX_VECTOR page)) else t

/-- Set bit i of the page's PG_EVENT. -/
def State.event (s : State) (page i : Nat) : State :=
  s.withIrq page (fun s => s.put ⟨Reg.PG_EVENT page, i, 1⟩ 1)

/-! ### Errors -/

/-- Post an error to a page (R39): CODE and OFFSET, SEQ and the count advance, PG_EVENT.ERR is set. -/
def State.postErr (s : State) (page off code : Nat) : State :=
  let s := s.put (Fld.PG_LAST_ERR_CODE page) code
  let s := s.put (Fld.PG_LAST_ERR_OFFSET page) off
  let s := s.bump (Fld.PG_LAST_ERR_SEQ page)
  let s := s.bumpSat (Fld.PG_ERR_COUNT_COUNT page)
  s.event page 0

/-- Reject a write of the register at addr: nothing but the error reporting changes (R39). -/
def State.reject (s : State) (addr : Nat) (e : Err) : State := s.postErr (pageOf addr) (addr % 4096) e.code

/-- What BAR0 serves before the boot has reached SERVICE (R474): four registers of GLOBAL, and the DDRCn pages after a failure of DRAM. -/
def State.bootServes (s : State) (addr : Nat) : Bool :=
  if addr < 0x1000 then decide (addr < 0x40) || [Reg.GLOBAL_REV, Reg.GLOBAL_STRAPS, Reg.GLOBAL_BOOT, Reg.GLOBAL_BOOT_CMD].contains addr
  else decide (0xB0000 ≤ addr) && decide (addr < 0xB8000) && decide (s.get Fld.GLOBAL_BOOT_STAGE = 15) && decide (s.get Fld.GLOBAL_BOOT_FAIL_STAGE = 4)

/-- PG_STATUS.LINKED of the page an address lies in: its island's bit of CLK_LINKED (R430), the SOC island's bit being always 1; before SERVICE only what
R474 names is served. -/
def State.linked (s : State) (addr : Nat) : Bool :=
  if s.get Fld.GLOBAL_BOOT_STAGE = 8 then (s.rd Reg.CLK_LINKED).getLsbD (islandOf addr) else s.bootServes addr

/-- PG_CTRL.RESET of the page an address lies in. -/
def State.inReset (s : State) (addr : Nat) : Bool := s.on (Fld.PG_CTRL_RESET (pageOf addr))

/-- The block behind page p is quiescing: it finishes its work and takes no new work (R29; what counts as work is DEDUCED, log entry 20). -/
def State.quiescing (s : State) (p : Nat) : Bool := s.on (Fld.PG_CTRL_QUIESCE p)

/-- The registers by which a block is given work that PG_STATUS.QUIESCED waits for (R29): a quiescing page takes none (log entry 20). GATE_CMD, whose errors
the gate finds itself, makes the same check. -/
def takesWork (addr : Nat) : Bool :=
  [Reg.KEYSTORE_CMD, Reg.CIPHER_JOB_CMD, Reg.AUDIO_PROG_CMD, Reg.FAULT_SVC_CMD, Reg.FAULT_FW_CMD, Reg.TWIN_CMD].contains addr ||
    (List.range 8).any (fun c => decide (addr = Reg.MILLC_KCMD c)) || (List.range 32).any (fun c => decide (addr = Reg.DMA_CHc_TAIL c))

/-- A register of a trigger generator that the host does not program: 0, 1 and 7 to 10 (R62). -/
def trgFixed (addr : Nat) : Bool :=
  let n := (addr - Reg.BELFRY_TRGn_CTRL 0) / 0x20
  decide (Reg.BELFRY_TRGn_CTRL 0 ≤ addr) && decide (addr < Reg.BELFRY_TRGn_CTRL 16) && (decide (n < 2) || (decide (7 ≤ n) && decide (n ≤ 10)))

/-- The first check a write of w to addr fails that does not depend on the owning block (R30, R32, R33, R15, R62). -/
def State.writeErr (s : State) (addr : Nat) (w : Word) : Option Err :=
  match specAt addr with
  | none => some .reserved
  | some r =>
    let head := decide (addr % 4096 < 0x40)
    if !head && !s.linked addr then some .state
    else if !head && s.inReset addr then some .busy
    else if takesWork addr && s.on (Fld.PG_CTRL_QUIESCE (pageOf addr)) then some .state
    else if !r.writable || trgFixed addr then some .priv
    else if r.rows.any (rowReserved w) then some .reserved
    else if r.rows.any (rowRange w) then some .range
    else if decide (w.toNat % 2 ^ r.lowZero ≠ 0) then some .align
    else none

/-- What a plain write leaves in the register (R31, R33). -/
def State.applyWrite (s : State) (addr : Nat) (w : Word) : State :=
  match specAt addr with
  | none => s
  | some r => s.wr addr (BitVec.ofNat 32 (rowsWrite (s.rd addr) w r.rows))

/-- A write as a page handles it (R39): the general checks, then the block's own check, then its effect; a failed check
rejects the write. -/
def State.checked (s : State) (addr : Nat) (w : Word) (check : State → Option Err) (effect : State → State) : State :=
  match s.writeErr addr w with
  | some e => s.reject addr e
  | none =>
    match check s with
    | some e => s.reject addr e
    | none => effect s

/-! ### Result registers (R35) -/

/-- Post a result: the payload in bits 23:0, GEN advanced modulo 128, VALID 1. -/
def State.postResult (s : State) (addr payload : Nat) : State :=
  let g := (bits (s.rd addr) 24 7 + 1) % 128
  s.wr addr (BitVec.ofNat 32 (2 ^ 31 + g * 2 ^ 24 + payload % 2 ^ 24))

/-- Post a result under a given GEN, for registers posted with one GEN. -/
def State.postResultGen (s : State) (addr gen payload : Nat) : State :=
  s.wr addr (BitVec.ofNat 32 (2 ^ 31 + gen % 128 * 2 ^ 24 + payload % 2 ^ 24))

/-- The GEN the next result of a register will carry. -/
def State.nextGen (s : State) (addr : Nat) : Nat := (bits (s.rd addr) 24 7 + 1) % 128

/-- A result is pending: VALID reads 0, the rest keeps the previous data (R35). -/
def State.unvalid (s : State) (addr : Nat) : State := s.wr addr (putBits (s.rd addr) 31 1 0)

/-- A fetch named by a selector is in progress. -/
def State.fetchStart (s : State) (sel : Nat) : State := { s with fetches := s.fetches.filter (fun a => decide (a ≠ sel)) ++ [sel] }

/-! ### Granary cells -/

/-- Cells an event queue holds: entries are packed 16 to a cell in queue order (R157). -/
def EvQueue.cells (q : EvQueue) : Nat := if q.entries = [] then 0 else (q.headGone + q.entries.length + 15) / 16

/-- Cells an item occupies (R157). -/
def GItem.cells (i : GItem) : Nat := ceilDiv i.len 256

/-- Cells a linked-list queue holds, not counting a reset's unswept cells. -/
def GQueue.cells (q : GQueue) : Nat := sumBy GItem.cells q.items

/-- The reserved cells of event queue n (R159). -/
def State.evqReserved (s : State) (n : Nat) : Nat :=
  if s.on (Fld.EVQn_CFG_ENABLE n) then s.get (Fld.EVQn_CFG_MIN_CELLS n) - (s.evq.get (fun _ => {}) n).cells else 0

/-- Whether a linked-list queue is one of the host or device-managed queues of R158. -/
def deviceQueue (q : Nat) : Bool := decide (0x4000 ≤ q)

/-- MIN_CELLS of the first n device-managed queues together. -/
def deviceUpTo : Nat → Nat
  | 0 => 0
  | n + 1 => Nat.max (deviceUpTo n) (Config.deviceCells n).toNat

/-- MIN_CELLS of device-managed queue q (R158). -/
def deviceQueueMin (q : Nat) : Nat := deviceUpTo (q - 0x4140 + 1) - deviceUpTo (q - 0x4140)

/-- The sum of MIN_CELLS over the device-managed queues 0x4140 to 0xFFFF (R159): at most 65,535 cells (log entry 184). -/
def deviceReserve : Nat := deviceUpTo 0xBEC0

/-- MIN_CELLS of the host queues and the device-managed queues together, which count as configured from the end of boot step 8 (R159). -/
def State.deviceMin (s : State) : Nat :=
  s.deviceReserved + (if s.get Fld.GLOBAL_BOOT_STAGE = 8 then 4 * s.get Fld.PKTOUT_LEGQ_CELLS_MIN else 0)

/-- The reserved cells of all queues (R159): event queues, leg queues, and the host and device-managed queues as one sum. -/
def State.reservedCells (s : State) : Nat :=
  sumBy s.evqReserved (List.range 64) +
  sumBy (fun p => if p.2.configured && !deviceQueue p.1 then p.2.minCells - p.2.cells else 0) s.queues +
  (s.deviceMin - sumBy (fun p => if deviceQueue p.1 then Nat.min p.2.minCells p.2.cells else 0) s.queues)

/-- The shared count of R159. -/
def State.sharedCells (s : State) : Nat := s.freeCells - s.reservedCells

/-- The sum of MIN_CELLS over configured queues (R159). -/
def State.minSum (s : State) : Nat :=
  sumBy (fun n => if s.on (Fld.EVQn_CFG_ENABLE n) then s.get (Fld.EVQn_CFG_MIN_CELLS n) else 0) (List.range 64) +
  sumBy (fun p => if p.2.configured && !deviceQueue p.1 then p.2.minCells else 0) s.queues + s.deviceMin

/-- Remove the oldest entry of an event queue. -/
def EvQueue.dropOldest (q : EvQueue) : EvQueue :=
  match q.entries with
  | [] => q
  | _ :: t => { q with entries := t, headGone := if t = [] then 0 else (q.headGone + 1) % 16 }

/-- Cells a new entry needs. -/
def EvQueue.need (q : EvQueue) : Nat := if q.entries = [] ∨ (q.headGone + q.entries.length) % 16 = 0 then 1 else 0

/-- The admission loop of R160 for an event queue of limits min and max, with `avail` the cells free or held by this
queue less what other queues reserve: entries overwritten until the new one fits; the queue and how many were
overwritten. -/
def evqMakeRoom (min max avail : Nat) : Nat → EvQueue → Nat → EvQueue × Nat
  | 0, q, n => (q, n)
  | fuel + 1, q, n =>
    let c := q.cells
    let k := q.need
    if q.entries = [] then (q, n)
    else if c + k > max ∨ k - Nat.min k (min - c) > avail - c - (min - c) then
      evqMakeRoom min max avail fuel q.dropOldest (n + 1)
    else (q, n)

/-- Whether the new entry fits once overwriting is done (R160). -/
def evqFits (min max avail : Nat) (q : EvQueue) : Bool :=
  decide (q.cells + q.need ≤ max) && decide (q.need - Nat.min q.need (min - q.cells) ≤ avail - q.cells - (min - q.cells))

/-- Count an error of class CONTAINED. -/
def State.contained (s : State) (n : Nat := 1) : State := s.bump Fld.FAULT_CONTAINED_COUNT n

/-- Count an error of class CORRECTED. -/
def State.corrected (s : State) (n : Nat := 1) : State := s.bump Fld.FAULT_CORRECTED_COUNT n

/-- Place an entry in event queue n, whose pointers agree (R160, R168). Overwrites and drops of an enabled queue count in LOST and are errors of
class CONTAINED (R26). Event queues that quiesce take no entry. -/
def State.evqPlace (s : State) (n : Nat) (e : EvEntry) : State :=
  let q := s.evq.get (fun _ => {}) n
  if !s.on (Fld.EVQn_CFG_ENABLE n) || s.quiescing 0x42000 then
    State.bump { s with evq := s.evq.set (fun _ => {}) n { q with lostFlag := true } } (Fld.EVQn_LOST_COUNT n)
  else
    let min := s.get (Fld.EVQn_CFG_MIN_CELLS n)
    let max := s.get (Fld.EVQn_CFG_MAX_CELLS n)
    let avail := s.freeCells + q.cells - (s.reservedCells - s.evqReserved n)
    let (q1, lost) := evqMakeRoom min max avail q.entries.length q 0
    let fits := evqFits min max avail q1
    let q2 := if fits then { q1 with entries := q1.entries ++ [e] } else q1
    let lost := if fits then lost else lost + 1
    let q2 := if lost = 0 then q2 else { q2 with lostFlag := true }
    let s := { s with evq := s.evq.set (fun _ => {}) n q2, freeCells := s.freeCells + q.cells - q2.cells }
    if lost = 0 then s else (s.bump (Fld.EVQn_LOST_COUNT n) lost).contained lost

/-- Base of the ETHn page. -/
def ethPage (n : Nat) : Nat := 0x20000 + n * 0x1000

/-- Base of the PLANEn page. -/
def planePage (n : Nat) : Nat := 0x24000 + n * 0x1000

/-- Base of the GRANARY page. -/
def granaryPage : Nat := 0x41000

/-- What every queue reset does beside emptying the queue (R162): RESETS counts it, PG_EVENT bit 1 is set, and it is an error of class CONTAINED. -/
def State.resetNoted (s : State) : State := ((s.bump Fld.GRANARY_RESETS_COUNT).event granaryPage 1).contained

/-- The entries of event queue n are lost to a queue reset (R162): how many, and the state. Its cells wait to be swept. -/
def State.evqReset (s : State) (n : Nat) : Nat × State :=
  let e := s.evq.get (fun _ => {}) n
  let lost := e.entries.length
  let s := { s with evq := s.evq.set (fun _ => {}) n { lostFlag := e.lostFlag || decide (lost ≠ 0), sweeping := e.sweeping + e.cells } }
  (lost, (s.bump (Fld.EVQn_LOST_COUNT n) lost).resetNoted)

/-- The entry of a queue reset (R164). -/
def State.resetEntry (s : State) (q lost : Nat) : EvEntry := ⟨s.shortTime, 0x07, 0x60, q, lost⟩

/-- QUEUE_RESET is posted to GRANARY_CFG.EVQ (R162, R164). A mismatch of that queue's own pointers, found now, resets it first, and its own
entry comes first. -/
def State.postReset (s : State) (q lost : Nat) : State :=
  let g := s.get Fld.GRANARY_CFG_EVQ
  if (s.evq.get (fun _ => {}) g).bad then
    let (n, s) := s.evqReset g
    (s.evqPlace g (s.resetEntry (0x4100 + g) n)).evqPlace g (s.resetEntry q lost)
  else s.evqPlace g (s.resetEntry q lost)

/-- The comparison of event queue n's two copies of its pointers, made on every enqueue, dequeue and count read (R162): a mismatch resets it. -/
def State.evqCheck (s : State) (n : Nat) : State :=
  if (s.evq.get (fun _ => {}) n).bad then
    let (lost, s) := s.evqReset n
    s.postReset (0x4100 + n) lost
  else s

/-- Place an entry in event queue n (R160, R162, R168). -/
def State.evqAppend (s : State) (n : Nat) (e : EvEntry) : State := (s.evqCheck n).evqPlace n e

/-- Post an event-queue entry (R117), at the present short time. -/
def State.post (s : State) (evq cls code obj arg : Nat) : State :=
  s.evqAppend (evq % 64) ⟨s.shortTime, cls, code, obj, arg % 2 ^ 32⟩

/-- The key of an event limited to one per second (R512): class, code, object, and a part of the object that has a window of its
own. -/
def windowKey (cls code obj sub : Nat) : Nat := sub * 2 ^ 48 + cls * 2 ^ 40 + code * 2 ^ 32 + obj

/-- The ARG of a limited event: the value, or the count at a place of its own beside it. -/
def EvWindow.argument (w : EvWindow) : Nat := if w.scale = 0 then w.lastArg else w.lastArg + w.held * w.scale

/-- Post an event limited to one per second per object (R512): `n` occurrences; with scale 0 the ARG is `arg`, otherwise
`arg` plus their count times the scale. -/
def State.postWindow (s : State) (evq cls code obj sub scale n arg : Nat) : State :=
  let k := windowKey cls code obj sub
  let w := s.windows.get (fun _ => {}) k
  let w : EvWindow := { w with held := w.held + n, lastArg := arg, evq := evq, scale := scale }
  if s.now < w.openUntil then { s with windows := s.windows.set (fun _ => {}) k w }
  else
    let s := s.post evq cls code obj w.argument
    { s with windows := s.windows.set (fun _ => {}) k { w with openUntil := s.now + 1000000000, held := 0 } }

/-- Post an event limited to one per second per object: the ARG their count when `counts`, otherwise the value `arg`. -/
def State.postLimited (s : State) (evq cls code obj : Nat) (counts : Bool) (n arg : Nat) : State :=
  s.postWindow evq cls code obj 0 (if counts then 1 else 0) n (if counts then 0 else arg)

/-! ### Error classes and hardware logs (R450, R372, R463) -/

/-- Add an entry to a log of `cap` entries, overwriting the oldest when it is full. -/
def HwLog.add (l : HwLog) (cap entry : Nat) : HwLog :=
  if l.entries.length < cap then { l with entries := l.entries ++ [entry], seq := (l.seq + 1) % 2 ^ 32 }
  else { entries := l.entries.drop 1 ++ [entry], lostFlag := true, seq := (l.seq + 1) % 2 ^ 32 }

/-- A pop of a log (R372, R463): the word read (VALID, LOSTF, LEFT), the entry removed, and the log after. -/
def HwLog.pop (l : HwLog) : Word × Option Nat × HwLog :=
  match l.entries with
  | [] => (0, none, l)
  | e :: t => (BitVec.ofNat 32 (2 ^ 31 + b2n l.lostFlag * 2 ^ 30 + t.length), some e, { l with entries := t, lostFlag := false })

/-- Put the words of a popped entry in registers at `addr` upwards. -/
def State.putWords (s : State) (addr n v : Nat) : State :=
  (List.range n).foldl (fun (s : State) w => s.wr (addr + 4 * w) (BitVec.ofNat 32 (v / 2 ^ (32 * w)))) s

/-- Epanis sends a line of its text log on UART_TXD (R495). -/
def State.uartLog (s : State) (kind code : Nat) : State := { s with uart := s.uart ++ [⟨kind, code, s.now⟩] }

/-- Add an entry to the FAULT log (R463); the text log tells it. -/
def State.faultEntry (s : State) (cls code type inst obj arg : Nat) : State :=
  let e := cls % 4 + code % 256 * 2 ^ 8 + type % 65536 * 2 ^ 16 + inst % 256 * 2 ^ 32 + s.now % 2 ^ 64 * 2 ^ 64 +
    obj % 2 ^ 32 * 2 ^ 128 + arg % 2 ^ 32 * 2 ^ 160 + s.faultLog.seq * 2 ^ 192
  (({ s with faultLog := s.faultLog.add 64 e }).uartLog 1 code).event 0x5000 1

/-- An error of class BLOCK_FATAL: counted and logged. -/
def State.blockFatal (s : State) (code type inst obj arg : Nat) : State :=
  (s.bumpSat Fld.FAULT_BLOCK_COUNT).faultEntry 2 code type inst obj arg

/-- An error of class DEVICE_FATAL of a cause of R461, found by a page: from now the device releases no packet, its ports and links send
nothing and its heartbeats stop; the dump begins, but for causes 0x01 and 0x05, for which FAULT_N asserts at once. The first cause stands. -/
def State.deviceFatal (s : State) (page cause obj : Nat) : State :=
  if s.fatalAt.isSome then s
  else
    let s := { s with fatalAt := some s.now }
    let s := s.put Fld.DUMP_STATUS_STATE (if cause = 1 ∨ cause = 5 ∨ s.on Fld.DUMP_CFG_ENABLE = false then 4 else 1)
    let s := (s.put Fld.FAULT_FATAL_CAUSE cause).faultEntry 3 cause (s.get (Fld.PG_ID_TYPE page)) (s.get (Fld.PG_ID_INST page)) obj 0
    if cause = 1 ∨ cause = 5 then s.put Fld.FAULT_FATAL_FAULT_N 1 else s

/-- The device sends no media and no heartbeat: DEVICE_FATAL (R461), an alarm on a twin (R399 step 5), or EXTEST (R496). -/
def State.muted (s : State) : Bool :=
  s.fatalAt.isSome || (s.on Fld.ALARM_STATUS_LATCHED && decide (s.get Fld.TWIN_STATUS_STATE ≠ 0)) || s.pins.extest

/-! ### The gate's tables -/

/-- The key of record `index` of table `table` in the effective tables. -/
def recKey (table index : Nat) : Nat := table * 65536 + index

/-- The effective record, as its number (R42). -/
def State.effRec (s : State) (table index : Nat) : Option Nat :=
  match s.gate.effective.get (fun _ => 0) (recKey table index) with
  | 0 => none
  | n + 1 => some n

/-- One accepted record applied to a table of records. -/
def applyRec (m : Sparse Nat) (r : GateRec) : Sparse Nat :=
  match r.op with
  | .delete => m.set (fun _ => 0) (recKey r.table r.index) 0
  | .create | .modify => m.set (fun _ => 0) (recKey r.table r.index) (r.data + 1)

/-- The tables with every accepted command applied: "effective or pending creation" of R46. -/
def State.accepted (s : State) : Sparse Nat := (s.gate.pending ++ s.gate.txn).foldl applyRec s.gate.effective

/-- The record of the accepted tables. -/
def accRec (m : Sparse Nat) (table index : Nat) : Option Nat :=
  match m.get (fun _ => 0) (recKey table index) with
  | 0 => none
  | n + 1 => some n

/-- The records of one table, as (index, record). -/
def tableRecs (m : Sparse Nat) (table : Nat) : List (Nat × Nat) :=
  m.filterMap (fun p => if p.1 / 65536 = table ∧ p.2 ≠ 0 then some (p.1 % 65536, p.2 - 1) else none)

/-- An accepted DELETE of a record is not yet in effect. -/
def State.deleting (s : State) (t i : Nat) : Bool :=
  (s.gate.pending ++ s.gate.txn).any (fun g => decide (g.table = t) && decide (g.index = i) && decide (g.op = .delete))

/-- Effective records whose DELETE is accepted: until it takes effect they count among the effective and pending ones wherever R46 speaks of no reference check. -/
def State.leaving (s : State) (t : Nat) : List (Nat × Nat) := (tableRecs s.gate.effective t).filter (fun p => s.deleting t p.1)

/-- The effective and pending records of a table: those of the tables as accepted, and those leaving. -/
def State.standing (s : State) (t : Nat) : List (Nat × Nat) := tableRecs s.accepted t ++ s.leaving t

/-- The LEG or LAYOUT table holds an effective or pending record (R54, R508). -/
def State.anyLegOrLayout (s : State) : Bool :=
  s.gate.effective.any (fun p => decide (p.1 / 65536 = 1 ∨ p.1 / 65536 = 8)) ||
  (s.gate.pending ++ s.gate.txn).any (fun r => decide (r.table = 1 ∨ r.table = 8))

/-- Any LEG record is effective or pending. -/
def State.anyLeg (s : State) : Bool :=
  s.gate.effective.any (fun p => decide (p.1 / 65536 = 1)) || (s.gate.pending ++ s.gate.txn).any (fun r => decide (r.table = 1))

/-- A LEG record bound to plane n is effective or pending (R71, R72). -/
def State.planeBound (s : State) (n : Nat) : Bool :=
  s.gate.effective.any (fun p => decide (p.1 / 65536 = 1) && decide (p.2 ≠ 0) && decide (LEG.PLANE (p.2 - 1) = n)) ||
    (s.gate.pending ++ s.gate.txn).any (fun r => decide (r.table = 1) && decide (r.op ≠ .delete) && decide (LEG.PLANE r.data = n))

/-- The effective LEG record, or 0. -/
def State.legRec (s : State) (l : Nat) : Nat := (s.effRec 1 l).getD 0

/-! ### Memory -/

/-- The byte at an address. -/
def Memory.read (m : Memory) (a : Nat) : Byte := m.get (fun _ => 0) a

/-- Write one byte. -/
def Memory.write (m : Memory) (a : Nat) (b : Byte) : Memory := m.set (fun _ => 0) a b

/-- The canonical form: addresses strictly rising, and no entry equal to what an unlisted address reads as. -/
def Memory.wf (m : Memory) : Bool := Sparse.wf (fun _ => (0 : Byte)) m

/-- Write bytes from an address upwards. -/
def Memory.writeList : Memory → Nat → List Byte → Memory
  | m, _, [] => m
  | m, a, b :: t => Memory.writeList (m.write a b) (a + 1) t

/-- Read n bytes. -/
def Memory.readList (m : Memory) (a : Nat) : Nat → List Byte
  | 0 => []
  | n + 1 => m.read a :: m.readList (a + 1) n

/-- Write device DRAM: every line written whole loses its stored poison (R370). -/
def State.dramPut (s : State) (a : Nat) (l : List Byte) : State :=
  { s with dram := s.dram.writeList a l, poisoned := s.poisoned.filter (fun x => !(decide (a ≤ 64 * x) && decide (64 * x + 64 ≤ a + l.length))) }

/-- A line of the n bytes of device DRAM at a holds stored poison (R370). -/
def State.anyPoison (s : State) (a n : Nat) : Bool := s.poisoned.any (fun x => decide (64 * x < a + n) && decide (a < 64 * x + 64))

/-- Write host memory. -/
def State.hostPut (s : State) (a : Nat) (l : List Byte) : State := { s with hostMem := s.hostMem.writeList a l }

/-! ### Sparse tables of the state -/

def State.leg (s : State) (l : Nat) : Leg := s.legs.get (fun _ => {}) l
def State.setLeg (s : State) (l : Nat) (x : Leg) : State := { s with legs := s.legs.set (fun _ => {}) l x }
def State.modLeg (s : State) (l : Nat) (f : Leg → Leg) : State := s.setLeg l (f (s.leg l))
def State.conf (s : State) (c : Nat) : Conf := s.confs.get (fun _ => {}) c
def State.setConf (s : State) (c : Nat) (x : Conf) : State := { s with confs := s.confs.set (fun _ => {}) c x }
def State.tap (s : State) (r : Nat) : Tap := s.taps.get (fun _ => {}) r
def State.setTap (s : State) (r : Nat) (x : Tap) : State := { s with taps := s.taps.set (fun _ => {}) r x }
def State.tdmPort (s : State) (n : Nat) : Tdm := s.tdm.get (fun _ => {}) n
def State.setTdm (s : State) (n : Nat) (x : Tdm) : State := { s with tdm := s.tdm.set (fun _ => {}) n x }
def State.plane (s : State) (n : Nat) : Plane := s.planes.get (fun _ => {}) n
def State.setPlane (s : State) (n : Nat) (x : Plane) : State := { s with planes := s.planes.set (fun _ => {}) n x }
def State.vstr (s : State) (v : Nat) : Vstr := s.vstrs.get (fun _ => {}) v
def State.setVstr (s : State) (v : Nat) (x : Vstr) : State := { s with vstrs := s.vstrs.set (fun _ => {}) v x }
def State.ostr (s : State) (o : Nat) : Ostr := s.ostrs.get (fun _ => {}) o
def State.setOstr (s : State) (o : Nat) (x : Ostr) : State := { s with ostrs := s.ostrs.set (fun _ => {}) o x }
def State.port (s : State) (p : Nat) : Port := s.ports.get (fun _ => {}) p
def State.setPort (s : State) (p : Nat) (x : Port) : State := { s with ports := s.ports.set (fun _ => {}) p x }
def State.queue (s : State) (q : Nat) : GQueue := s.queues.get (fun _ => {}) q
def State.setQueue (s : State) (q : Nat) (x : GQueue) : State := { s with queues := s.queues.set (fun _ => {}) q x }
def State.trg (s : State) (n : Nat) : Trg := s.bel.trg.get (fun _ => {}) n
def State.setTrg (s : State) (n : Nat) (x : Trg) : State :=
  { s with bel := { s.bel with trg := s.bel.trg.set (fun _ => {}) n x } }
def State.cap (s : State) (n : Nat) : CapUnit := s.bel.cap.get (fun _ => {}) n
def State.setCap (s : State) (n : Nat) (x : CapUnit) : State :=
  { s with bel := { s.bel with cap := s.bel.cap.set (fun _ => {}) n x } }
def State.crossing (s : State) (i : Nat) : Crossing := s.cross.get (fun _ => {}) i
def State.setCrossing (s : State) (i : Nat) (x : Crossing) : State := { s with cross := s.cross.set (fun _ => {}) i x }

def State.ecomp (s : State) (e : Nat) : Ecomp := s.ecomps.get (fun _ => {}) e
def State.setEcomp (s : State) (e : Nat) (x : Ecomp) : State := { s with ecomps := s.ecomps.set (fun _ => {}) e x }

def State.dec (s : State) (v : Nat) : DecStream := s.decs.get (fun _ => {}) v
def State.setDec (s : State) (v : Nat) (x : DecStream) : State := { s with decs := s.decs.set (fun _ => {}) v x }
def State.layout (s : State) (l : Nat) : Layout := s.layouts.get (fun _ => {}) l
def State.setLayout (s : State) (l : Nat) (x : Layout) : State := { s with layouts := s.layouts.set (fun _ => {}) l x }

def State.legA (s : State) (l : Nat) : LegAudio := s.legAudio.get (fun _ => {}) l
def State.setLegA (s : State) (l : Nat) (x : LegAudio) : State := { s with legAudio := s.legAudio.set (fun _ => {}) l x }
def State.confA (s : State) (c : Nat) : ConfAudio := s.confAudio.get (fun _ => {}) c
def State.setConfA (s : State) (c : Nat) (x : ConfAudio) : State := { s with confAudio := s.confAudio.set (fun _ => {}) c x }
def State.core (s : State) (k : Nat) : MillCore := s.mill.get (fun _ => {}) k
def State.setCore (s : State) (k : Nat) (x : MillCore) : State := { s with mill := s.mill.set (fun _ => {}) k x }
def State.kernel (s : State) (c slot : Nat) : Kernel := s.kernels.get (fun _ => {}) (c * 8 + slot)
def State.node (s : State) (n : Nat) : NodeState := s.audio.nodes.get (fun _ => {}) n
def State.setNode (s : State) (n : Nat) (x : NodeState) : State :=
  { s with audio := { s.audio with nodes := s.audio.nodes.set (fun _ => {}) n x } }

/-- The device is an acting junior of a twin pair, on which inputs are rejected (R341, R346). -/
def State.twinJunior (s : State) : Bool := decide (s.get Fld.TWIN_STATUS_STATE = 3) || decide (s.get Fld.TWIN_STATUS_STATE = 4) || decide (s.get Fld.TWIN_STATUS_STATE = 5)

/-! ### Islands (R430) -/

def clkPage : Nat := 0x3000

/-- One side of an island's crossings is reset or stops: they are flushed and held, writes queued for it are discarded, and LINKED falls (R430). -/
def State.islandDown (s : State) (i writes : Nat) : State :=
  if i = 1 ∨ 28 ≤ i then s
  else
    let x := s.crossing i
    let s := s.setCrossing i { x with outstanding := 0, counter := 0, held := true }
    let s := if writes = 0 then s else s.bump Fld.CLK_FLUSHED_COUNT writes
    let s := s.put ⟨Reg.CLK_RUN, i, 1⟩ 0
    if (s.rd Reg.CLK_LINKED).getLsbD i then (s.put ⟨Reg.CLK_LINKED, i, 1⟩ 0).event clkPage 2 else s

/-- Both sides run and have resynchronised: LINKED rises (R430). A channel in self-refresh keeps its island down. -/
def State.islandUp (s : State) (i : Nat) : State :=
  if 28 ≤ i ∨ (12 ≤ i ∧ i < 20 ∧ s.get (Fld.DDRCn_STATUS_STATE (i - 12)) = 3) then s
  else ((s.setCrossing i { s.crossing i with held := false }).put ⟨Reg.CLK_RUN, i, 1⟩ 1).put ⟨Reg.CLK_LINKED, i, 1⟩ 1

/-! ### Power and the DRAM channels (R376, R438, R441, R446) -/

def State.dom (s : State) (d : Nat) : PwrDom := s.pwr.doms.get (fun _ => {}) d
def State.setDom (s : State) (d : Nat) (x : PwrDom) : State := { s with pwr := { s.pwr with doms := s.pwr.doms.set (fun _ => {}) d x } }
def State.modPwr (s : State) (f : Pwr → Pwr) : State := { s with pwr := f s.pwr }

/-- The device is not ACTIVE: its media ended at the entry boundary, and media packets are dropped (R438, R441). -/
def State.mediaOff (s : State) : Bool := decide (s.get Fld.PWR_STATE_STATE ≠ 0)

/-- A clock runs again. -/
def State.domWakeTime (s : State) (d : Nat) : State :=
  (s.wr (Reg.PWR_DOMd_WAKE_LO d) (BitVec.ofNat 32 (s.now % 1000000000))).wr (Reg.PWR_DOMd_WAKE_HI d) (BitVec.ofNat 32 (s.now / 1000000000))

def State.chan (s : State) (n : Nat) : Ddr := s.ddr.get (fun _ => {}) n
def State.setChan (s : State) (n : Nat) (x : Ddr) : State := { s with ddr := s.ddr.set (fun _ => {}) n x }

/-- A channel leaves self-refresh: owed 0 and the due timers start (R376). -/
def State.srExit (s : State) (n : Nat) : State :=
  if s.get (Fld.DDRCn_STATUS_STATE n) = 3 then
    let s := ((s.put (Fld.DDRCn_STATUS_STATE n) 2).put (Fld.DDRCn_REFRESH_OWED0 n) 0).put (Fld.DDRCn_REFRESH_OWED1 n) 0
    let x := s.chan n
    let due (r : Nat) : Nat := s.now + (if s.get ⟨Reg.DDRCn_STATUS n, 8 + r, 1⟩ = 1 then 1950 else 3900)
    (s.setChan n { x with due := [due 0, due 1], zqAt := [s.now, s.now], zq := [false, false] }).islandUp (12 + n)
  else s

/-- The MEM domain is up again for an excursion, its pages as they were (R441, R443; log entry 187). -/
def State.memUp (s : State) : State :=
  if s.get (Fld.PWR_DOMd_STATUS_STATE 3) = 0 then s
  else
    let x := s.dom 3
    let s := ((s.setDom 3 { x with services := [] }).put (Fld.PWR_DOMd_STATUS_STATE 3) 0).domWakeTime 3
    forEach x.services (fun p (s : State) => s.put (Fld.PG_STATUS_SERVICE p.1) p.2) s

/-- A request to DRAM in QUIET or DEEP brings the channels out of self-refresh, the MEM domain first woken in DEEP; each excursion is counted
(R441). -/
def State.excursion (s : State) : State :=
  let st := s.get Fld.PWR_STATE_STATE
  if st = 2 ∨ st = 3 then
    let s := if s.pwr.excursion.isSome then s else s.bump Fld.PWR_MEM_EXC_COUNT
    let s := { s with pwr := { s.pwr with excursion := some s.now } }
    let s := if st = 3 then s.memUp else s
    forUpTo 8 (fun n (s : State) => s.srExit n) s
  else s

/-- Whether [a, a + n) overlaps [b, b + m). -/
def overlaps (a n b m : Nat) : Bool := decide (a < b + m) && decide (b < a + n)

/-- Whether [a, a + n) of device DRAM overlaps the device-managed media region (R477). -/
def State.inMedia (s : State) (a n : Nat) : Bool :=
  overlaps a n (s.get Fld.GLOBAL_MEDIA_BASE * 2 ^ 30) (s.get Fld.GLOBAL_MEDIA_SIZE * 2 ^ 30)

end Sys2Proof.Machine
end

