-- ==== Sys2Proof/Machine/Belfry.lean ====
section
/-! DEFINITION. Belfry (spec/03_belfry_timebase.md, R49 to R66): captures of the clock, loss and return of OSC_REF, the
servo, PTP, steps, the trigger generators and the capture units. -/

namespace Sys2Proof.Machine

/-- Base of the BELFRY page. -/
def belfryPage : Nat := 0x1000

/-! ### Reading the clock (R51) -/

/-- The key of a reader's capture register. -/
def captureKey (addr : Nat) : Reader → Nat
  | .host => addr * 2
  | .epanis => addr * 2 + 1

/-- Put a word in a reader's capture register. -/
def State.setCapture (s : State) (r : Reader) (addr : Nat) (w : Word) : State :=
  { s with capture := s.capture.set (fun _ => 0) (captureKey addr r) w }

/-- A reader's capture register; 0 when no _LO read has been made since reset (R36, R51). -/
def State.captured (s : State) (r : Reader) (addr : Nat) : Word := s.capture.get (fun _ => 0) (captureKey addr r)

/-- BELFRY_CAPTURE_READ: a read of BELFRY_SEC_LO captures the whole clock for its reader and returns seconds 31:0. -/
def execBelfryCaptureRead (r : Reader) (s : State) : Out :=
  if !s.linked Reg.BELFRY_SEC_LO || s.inReset Reg.BELFRY_SEC_LO then .next { s with readData := 0 }
  else
    let s1 := s.setCapture r Reg.BELFRY_SEC_HI (BitVec.ofNat 32 (s.clk.sec / 2 ^ 32))
    let s2 := s1.setCapture r Reg.BELFRY_NS (BitVec.ofNat 32 s.clk.ns)
    let s3 := s2.setCapture r Reg.BELFRY_FRAC (BitVec.ofNat 32 (s.clk.frac / 2 ^ 22))
    .next { s3 with readData := BitVec.ofNat 32 s.clk.sec }

/-! ### Capture units (R65) -/

/-- A selected edge reaches capture unit n at the present instant: pushed into the FIFO, or discarded when 16 wait. -/
def State.capturePush (s : State) (n : Nat) (falling : Bool) : State :=
  let u := s.cap n
  let s :=
    if u.fifo.length < 16 then
      s.setCap n { u with fifo := u.fifo ++ [⟨falling, s.clk.sec, s.clk.ns, s.clk.frac / 2 ^ 22⟩] }
    else s.setCap n { u with ovf := true }
  s.event belfryPage (8 + n)

/-- Unit n is enabled and selects edges of this polarity. -/
def State.captures (s : State) (n : Nat) (falling : Bool) : Bool :=
  let e := s.get (Fld.BELFRY_CAPn_CTRL_EDGE n)
  s.on (Fld.BELFRY_CAPn_CTRL_ENABLE n) && (decide (e = 2) || (decide (e = 0) && !falling) || (decide (e = 1) && falling))

/-- An edge of an internal source reaches every unit that selects it: generator `gen` for SRC 0x5, OSC_REF for 0x6. -/
def State.captureInternal (s : State) (src gen : Nat) (falling : Bool) : State :=
  forUpTo 8 (fun n s =>
    if s.captures n falling && decide (s.get (Fld.BELFRY_CAPn_CTRL_SRC n) = src) &&
        (decide (src ≠ 5) || decide (s.get (Fld.BELFRY_CAPn_CTRL_GEN n) = gen)) then s.capturePush n falling
    else s) s

/-- CAPTURE_EDGE: an edge of PPS_IN (source 0) or EVT_IN0 to EVT_IN3 (1 to 4) arrives and the input holds its new level for `hold` ns. Every unit that selects the
source and the edge captures it, if the level holds for MINW × 2 ns (R65). -/
def execCaptureEdge (src : Nat) (falling : Bool) (hold : Nat) (s : State) : Out :=
  if ¬ src < 5 then .next s
  else .next (forUpTo 8 (fun n s =>
    if s.captures n falling && decide (s.get (Fld.BELFRY_CAPn_CTRL_SRC n) = src) && decide (2 * s.get (Fld.BELFRY_CAPn_CTRL_MINW n) ≤ hold) then s.capturePush n falling
    else s) s)

/-- The word BELFRY_CAPn_POP returns when it removes an entry. -/
def capPopWord (u : CapUnit) (e : CapEntry) : Word :=
  BitVec.ofNat 32 (2 ^ 31 + b2n u.ovf * 2 ^ 30 + b2n e.falling * 2 ^ 29 + (u.fifo.length - 1))

/-- CAPTURE_POP: a read of BELFRY_CAPn_POP removes the oldest capture and loads its time; an empty FIFO returns
VALID = 0 and removes nothing (R34, R65). -/
def execCapturePop (n : Nat) (s : State) : Out :=
  if ¬ n < 8 ∨ s.linked Reg.BELFRY_CTRL = false ∨ s.inReset Reg.BELFRY_CTRL = true then .next { s with readData := 0 }
  else
    match (s.cap n).fifo with
    | [] => .next { s with readData := 0 }
    | e :: t =>
      let w := capPopWord (s.cap n) e
      let s := s.setCap n ⟨t, false⟩
      let s := s.wr (Reg.BELFRY_CAPn_SEC_LO n) (BitVec.ofNat 32 e.sec)
      let s := s.wr (Reg.BELFRY_CAPn_SEC_HI n) (BitVec.ofNat 32 (e.sec / 2 ^ 32))
      let s := s.wr (Reg.BELFRY_CAPn_NS n) (BitVec.ofNat 32 e.ns)
      let s := s.wr (Reg.BELFRY_CAPn_FRAC n) (BitVec.ofNat 32 e.frac)
      .next { s with readData := w }

/-! ### OSC_REF (R52) -/

/-- Move the clock by an integer of ns, keeping the fraction. -/
def State.nudge (s : State) (d : Int) : State := { s with clk := s.clk.shift (d * 2 ^ 38) }

/-- The switch between OSC_REF and the internal oscillator moves the clock by a free value of at most 2 ns. -/
def State.oscMove (s : State) : State :=
  let (k, s) := s.fresh
  s.nudge (clampI (-2) 2 (Config.oscSwitch k))

/-- OSC_LOST: no OSC_REF edge for 200 ns; Belfry runs on its internal oscillator. -/
def execOscLost (s : State) : Out :=
  if s.on Fld.BELFRY_STATUS_OSC_INT then .next { s with bel := { s.bel with oscReturning := false } }
  else
    let s := s.oscMove
    let s := s.putB Fld.BELFRY_STATUS_OSC_INT true
    let s := s.bumpSat Fld.BELFRY_OSC_LOST_COUNT
    let s := s.event belfryPage 1
    .next (s.captureInternal 6 0 false)

/-- The switch back to OSC_REF, at an audio tick boundary. -/
def State.oscReturn (s : State) : State :=
  let s := s.oscMove
  let s := s.putB Fld.BELFRY_STATUS_OSC_INT false
  let s := { s with bel := { s.bel with oscReturning := false } }
  let s := s.event belfryPage 2
  s.captureInternal 6 0 true

/-- OSC_BACK: OSC_REF has run 100 ms within ±1,000 ppm; the switch back is made at the next audio tick boundary, at
once when one is now. -/
def execOscBack (s : State) : Out :=
  if s.on Fld.BELFRY_STATUS_OSC_INT then
    if s.now % 1000000 = 0 then .next s.oscReturn
    else .next { s with bel := { s.bel with oscReturning := true } }
  else .next s

/-! ### The servo (R53, R54) -/

/-- Whether the source of an ACTIVE_SRC encoding is present. -/
def State.srcPresent (s : State) (c : Nat) : Bool :=
  if c = 1 then s.bel.ptp0 else if c = 2 then s.bel.ptp1 else if c = 3 then s.bel.pps else if c = 4 then s.bel.binath else false

/-- Mark a source present or lost. -/
def State.setSrc (s : State) (c : Nat) (v : Bool) : State :=
  if c = 1 then { s with bel := { s.bel with ptp0 := v } }
  else if c = 2 then { s with bel := { s.bel with ptp1 := v } }
  else if c = 3 then { s with bel := { s.bel with pps := v } }
  else if c = 4 then { s with bel := { s.bel with binath := v } }
  else s

/-- Enter a servo state on a source; SERVO is posted when the state or the source changes (R53). -/
def State.servoGo (s : State) (st src : Nat) : State :=
  let changed := decide (s.get Fld.BELFRY_STATUS_SERVO_STATE ≠ st) || decide (s.get Fld.BELFRY_STATUS_ACTIVE_SRC ≠ src)
  let s := s.put Fld.BELFRY_STATUS_SERVO_STATE st
  let s := s.put Fld.BELFRY_STATUS_ACTIVE_SRC src
  let s := { s with bel := { s.bel with inTol := 0, outTol := 0, lockLog := if st = 2 then [] else s.bel.lockLog } }
  if changed then s.event belfryPage 3 else s

/-- ACQUIRING on the primary if present, otherwise on the secondary if present, otherwise `otherwise`. -/
def State.servoAcquire (s : State) (otherwise : State → State) : State :=
  let p := s.get Fld.BELFRY_SRC_PRI
  let q := s.get Fld.BELFRY_SRC_SEC
  if s.srcPresent p then s.servoGo 1 p else if s.srcPresent q then s.servoGo 1 q else otherwise s

/-- The clamp of ADDEND under R54. -/
def State.addendLimit (s : State) : Int := if s.on Fld.BELFRY_CTRL_STEP_EN then 274877906 else 54975581

/-- Put an integer in BELFRY_ADDEND. -/
def State.setAddend (s : State) (a : Int) : State := s.wr Reg.BELFRY_ADDEND (BitVec.ofInt 32 a)

/-- The mean of the servo output of the last 64 s of the lock (R53), rounded towards minus infinity. -/
def State.holdoverAddend (s : State) : Int :=
  let l := s.bel.lockLog.filter (fun p => decide (s.clk.cycles ≤ p.1 + 32000000000))
  if l = [] then (s.rd Reg.BELFRY_ADDEND).toInt else sumByI (·.2) l / (l.length : Int)

/-- The active source is lost (the three rows of R53). The mean that HOLDOVER takes is clamped as R54 clamps ADDEND; ACTIVE_SRC reads 0 in HOLDOVER (DEDUCED, log
entry 153). -/
def State.servoLost (s : State) (c : Nat) : State :=
  let st := s.get Fld.BELFRY_STATUS_SERVO_STATE
  let s := s.setSrc c false
  if s.on Fld.BELFRY_CTRL_SERVO_EN && decide (s.get Fld.BELFRY_STATUS_ACTIVE_SRC = c) && decide (c ≠ 0) &&
      (decide (st = 1) || decide (st = 2)) then
    let p := s.get Fld.BELFRY_SRC_PRI
    let q := s.get Fld.BELFRY_SRC_SEC
    let other := if p = c then q else p
    if s.srcPresent other then s.servoGo 1 other
    else if st = 1 then s.servoGo 0 0
    else
      let a := clampI (-s.addendLimit) s.addendLimit s.holdoverAddend
      (s.setAddend a).servoGo 3 0
  else s

/-- A source becomes present: FREERUN and HOLDOVER acquire; ACQUIRING on the secondary returns to the primary when
BELFRY_SRC.REVERT = 1 (R53). -/
def State.servoFound (s : State) (c : Nat) : State :=
  let s := s.setSrc c true
  let p := s.get Fld.BELFRY_SRC_PRI
  let q := s.get Fld.BELFRY_SRC_SEC
  let st := s.get Fld.BELFRY_STATUS_SERVO_STATE
  if !s.on Fld.BELFRY_CTRL_SERVO_EN then s
  else if (st = 0 ∨ st = 3) ∧ (c = p ∨ c = q) then s.servoAcquire id
  else if st = 1 ∧ c = p ∧ s.get Fld.BELFRY_STATUS_ACTIVE_SRC ≠ p ∧ s.get Fld.BELFRY_SRC_REVERT = 1 then s.servoGo 1 p
  else s

/-! ### Trigger generators (R62 to R64) -/

/-- START of generator n in ns. -/
def State.trgStart (s : State) (n : Nat) : Nat :=
  s.rd64 (Reg.BELFRY_TRGn_START_SEC_LO n) * 1000000000 + s.get (Fld.BELFRY_TRGn_START_NS_NS n)

/-- The Belfry time of edge k of generator n: START + floor(k × PERIOD_NUM / PERIOD_DEN) ns (R63). -/
def State.trgEdgeTime (s : State) (n k : Nat) : Nat :=
  s.trgStart n + k * s.get (Fld.BELFRY_TRGn_PERIOD_NUM_NUM n) / s.get (Fld.BELFRY_TRGn_PERIOD_DEN_DEN n)

/-- The number of the first edge of generator n strictly after instant t. -/
def State.trgFirstAfter (s : State) (n t : Nat) : Nat :=
  if t < s.trgStart n then 0
  else ceilDiv ((t + 1 - s.trgStart n) * s.get (Fld.BELFRY_TRGn_PERIOD_DEN_DEN n)) (s.get (Fld.BELFRY_TRGn_PERIOD_NUM_NUM n))

/-- Generator n drives a pin (R62). -/
def trgPin (n : Nat) : Bool := decide (2 ≤ n) && decide (n ≤ 6)

/-- The conditions of R63 under which a write of ENABLE = 1 is rejected with E_RANGE. -/
def State.trgBadPeriod (s : State) (n : Nat) : Bool :=
  let num := s.get (Fld.BELFRY_TRGn_PERIOD_NUM_NUM n)
  let den := s.get (Fld.BELFRY_TRGn_PERIOD_DEN_DEN n)
  let w := s.get (Fld.BELFRY_TRGn_WIDTH_WIDTH n)
  decide (num = 0) || decide (num / den < 100) || (trgPin n && (decide (w < 8) || decide (num / den ≤ w)))

/-- The pin of generator n shows its pulse, reversed by INVERT (R63). -/
def State.trgShow (s : State) (n : Nat) : State :=
  if trgPin n then s.setTrg n { s.trg n with level := xor (s.trg n).high (s.on (Fld.BELFRY_TRGn_CTRL_INVERT n)) } else s

/-- Enable generator n (R64). -/
def State.trgStartRun (s : State) (n : Nat) : State :=
  if s.now < s.trgStart n then
    (s.setTrg n { s.trg n with nextK := 0 }).putB (Fld.BELFRY_TRGn_STATUS_RUN n) true
  else if s.on (Fld.BELFRY_TRGn_CTRL_ONESHOT n) then
    let s := s.putB (Fld.BELFRY_TRGn_STATUS_LATE n) true
    (s.putB (Fld.BELFRY_TRGn_CTRL_ENABLE n) false).putB (Fld.BELFRY_TRGn_STATUS_RUN n) false
  else
    let s := s.setTrg n { s.trg n with nextK := s.trgFirstAfter n s.now }
    (s.putB (Fld.BELFRY_TRGn_STATUS_LATE n) true).putB (Fld.BELFRY_TRGn_STATUS_RUN n) true

/-- A write of BELFRY_TRGn_CTRL. A pulse in progress when ENABLE is cleared runs on to its WIDTH (DESIGN CHOICE, log entry 154). -/
def State.trgCtrlWrite (s : State) (n : Nat) (w : Word) : State :=
  s.checked (Reg.BELFRY_TRGn_CTRL n) w
    (fun s => if bit w 0 && s.trgBadPeriod n then some .range else none)
    (fun s =>
      let was := s.on (Fld.BELFRY_TRGn_CTRL_ENABLE n)
      let s := (s.applyWrite (Reg.BELFRY_TRGn_CTRL n) w).trgShow n
      if bit w 0 && !was then s.trgStartRun n
      else if !bit w 0 then s.putB (Fld.BELFRY_TRGn_STATUS_RUN n) false
      else s)

/-- TRIGGER_ENABLE: a write of ENABLE = 1 to generator n. -/
def execTriggerEnable (n : Nat) (oneshot invert : Bool) (s : State) : Out :=
  if n < 16 then .next (s.trgCtrlWrite n (BitVec.ofNat 32 (b2n invert * 4 + b2n oneshot * 2 + 1))) else .next s

/-- Generator n has an edge scheduled: 1 and 7 to 10 as their blocks set them (R62), the programmable ones while enabled and their next edge is scheduled. -/
def State.trgRunning (s : State) (n : Nat) : Bool :=
  if n = 0 ∨ n = 1 then false
  else if 7 ≤ n ∧ n ≤ 10 then
    s.on (Fld.PG_CTRL_ENABLE (0x30000 + (n - 7) * 0x1000)) && !s.on (Fld.TDMn_CFG_SYNC_EXT (n - 7))
  else s.on (Fld.BELFRY_TRGn_CTRL_ENABLE n) && s.on (Fld.BELFRY_TRGn_STATUS_RUN n)

/-- Edge `nextK` of generator n falls (R63, R64): counted, posted, driven on the pin, captured, and scheduled on. -/
def State.trgEdge (s : State) (n : Nat) : State :=
  let s := s.runTo (s.trgEdgeTime n (s.trg n).nextK)
  let s := s.bump (Fld.BELFRY_TRGn_STATUS_EDGES n)
  let t := s.trg n
  let t := { t with nextK := t.nextK + 1 }
  let t := if trgPin n then
      { t with high := true, endCycle := s.clk.cycles + ceilDiv (s.get (Fld.BELFRY_TRGn_WIDTH_WIDTH n)) 2 } else t
  let s := (s.setTrg n t).trgShow n
  let s := if s.on (Fld.BELFRY_TRGn_CTRL_ONESHOT n) then
      let s := s.putB (Fld.BELFRY_TRGn_STATUS_RUN n) false
      if trgPin n then s else s.putB (Fld.BELFRY_TRGn_CTRL_ENABLE n) false
    else s
  let s := s.event belfryPage (16 + n)
  s.captureInternal 5 n false

/-- TRIGGER_PULSE_END: WIDTH ns after its edge, counted in base cycles (R55), the pin falls; a one-shot generator whose edge has come then clears ENABLE (R63,
R64). The falling edge a capture unit of SRC 0x5 takes is this end of the pulse (DEDUCED, log entry 156). -/
def execTriggerPulseEnd (n : Nat) (s : State) : Out :=
  if trgPin n && (s.trg n).high then
    let s := s.runToCycle (s.trg n).endCycle
    let s := (s.setTrg n { s.trg n with high := false }).trgShow n
    let s := if s.on (Fld.BELFRY_TRGn_CTRL_ONESHOT n) && !s.on (Fld.BELFRY_TRGn_STATUS_RUN n) then s.putB (Fld.BELFRY_TRGn_CTRL_ENABLE n) false else s
    .next (s.captureInternal 5 n true)
  else .next s

/-! ### Steps (R54, R55) -/

/-- The clock steps to c: STEPPED is posted, and every enabled generator resumes at its first edge strictly after the new time (R55). A one-shot generator whose
START the step passes over makes its edge at the next of START + k × PERIOD (DESIGN CHOICE, log entry 155). -/
def State.stepClock (s : State) (c : Clock) : State :=
  let s := { s with clk := c }
  let s := s.event belfryPage 4
  forUpTo 16 (fun n s =>
    if s.trgRunning n then s.setTrg n { s.trg n with nextK := s.trgFirstAfter n s.now } else s) s

/-- The servo's sample from the active source (R53, R54, R55); `offset` is the clock's lead over the source in 2⁻⁴ ns. -/
def State.servoTake (s : State) (offset : Int) : State :=
  let s := s.postResult Reg.BELFRY_SERVO (unsigned 24 (clampI (-8388608) 8388607 offset))
  let mag := offset.natAbs
  let st := s.get Fld.BELFRY_STATUS_SERVO_STATE
  let (k, s) := s.fresh
  let lim := s.addendLimit
  if st = 1 ∧ s.on Fld.BELFRY_CTRL_STEP_EN = true ∧ mag > 160000 then
    let s := { s with bel := { s.bel with inTol := 0 } }
    if (s.clk.sixteenths : Int) < offset then s.setAddend (if offset > 0 then -lim else lim) else s.stepClock (s.clk.shift (-offset * 2 ^ 34))
  else
    let a := clampI (-lim) lim (Config.servoAddend k)
    let s := s.setAddend a
    let inTol := if mag ≤ 1600 then s.bel.inTol + 1 else 0
    let outTol := if mag > 16000 then s.bel.outTol + 1 else 0
    let s := { s with bel := { s.bel with inTol := inTol, outTol := outTol,
                                          lockLog := if st = 2 then s.bel.lockLog ++ [(s.clk.cycles, a)] else s.bel.lockLog } }
    if st = 1 ∧ 16 ≤ inTol then s.servoGo 2 (s.get Fld.BELFRY_STATUS_ACTIVE_SRC)
    else if st = 2 ∧ 16 ≤ outTol then s.servoGo 1 (s.get Fld.BELFRY_STATUS_ACTIVE_SRC)
    else s

/-- A sample of source `src` with a measured offset in 2⁻⁴ ns reaches the servo (R53). -/
def State.servoSample (s : State) (src : Nat) (offset : Int) : State :=
  let s := if s.srcPresent src then s else s.servoFound src
  let st := s.get Fld.BELFRY_STATUS_SERVO_STATE
  if s.on Fld.BELFRY_CTRL_SERVO_EN && decide (s.get Fld.BELFRY_STATUS_ACTIVE_SRC = src) && decide (src ≠ 0) &&
      (decide (st = 1) || decide (st = 2)) then s.servoTake offset
  else s

/-- The offset a PPS_IN edge arriving now shows, in 2⁻⁴ ns: the edge stands for the nearest second boundary + PPS_COMP ns (BELFRY_SRC). -/
def State.ppsOffset (s : State) : Int := signedMod 16000000000 ((s.clk.sixteenths : Int) - 16 * s.get Fld.BELFRY_SRC_PPS_COMP)

/-- The PTP port of plane n on a LAN is in state SLAVE (R57; log entry 8). -/
def State.ptpSlave (s : State) (n : Nat) (lanB : Bool) : Bool :=
  decide (s.get (if lanB then Fld.BELFRY_PTPn_STATE_LANB n else Fld.BELFRY_PTPn_STATE_LANA n) = 9)

/-- The source a measurement is of, and the offset it shows. A Sync counts only at the plane's SLAVE port, against the full stamp of its reception (R57, R60). -/
def State.servoMeas (s : State) : ServoMeas → Option (Nat × Int)
  | .ptp n lanB origin delay =>
    if decide (n < 2) && s.ptpSlave n lanB then some (n + 1, ((s.bel.ptpRxStamp.get (fun _ => 0) (2 * n + b2n lanB) : Nat) : Int) - origin - delay) else none
  | .pps => some (3, s.ppsOffset)
  | .binath offset => some (4, offset)

/-- SERVO_SAMPLE: a Sync, PPS_IN edge or Binath time message gives the servo a sample. -/
def execServoSample (m : ServoMeas) (s : State) : Out :=
  match s.servoMeas m with
  | some (src, offset) => .next (s.servoSample src offset)
  | none => .next s

/-- PPS_SOURCE_LOST: 1,500 ms with no qualifying PPS_IN edge. -/
def execPpsSourceLost (s : State) : Out := .next (s.servoLost 3)

/-- BINATH_SOURCE_LOST: the Binath uplink's time is lost (R328). -/
def execBinathSourceLost (s : State) : Out := .next (s.servoLost 4)

/-- PTP_SOURCE_LOST: Announce or Sync timeout on plane n. On a PRP plane whose PASSIVE port still receives the master,
that port becomes SLAVE, the old one reads PASSIVE (DESIGN CHOICE, log entry 157), and the servo stays in its state (R57); otherwise the source is lost. The port
states are those of IEEE 1588-2019: 9 is SLAVE, 7 PASSIVE, 4 LISTENING (PRESUMED, log entry 8). -/
def execPtpSourceLost (n : Nat) (passiveReceives : Bool) (s : State) : Out :=
  if n < 2 then
    let a := s.get (Fld.BELFRY_PTPn_STATE_LANA n)
    let b := s.get (Fld.BELFRY_PTPn_STATE_LANB n)
    if s.on (Fld.PLANEn_CFG_PRP n) && passiveReceives && ((decide (a = 9) && decide (b = 7)) || (decide (a = 7) && decide (b = 9))) then
      .next ((s.put (Fld.BELFRY_PTPn_STATE_LANA n) b).put (Fld.BELFRY_PTPn_STATE_LANB n) a)
    else
      let s := if a = 9 then s.put (Fld.BELFRY_PTPn_STATE_LANA n) 4 else s
      let s := if b = 9 then s.put (Fld.BELFRY_PTPn_STATE_LANB n) 4 else s
      .next (s.servoLost (n + 1))
  else .next s

/-- A write of BELFRY_CTRL (R53, R54). While the servo controls ADDEND it stays within the clamp that STEP_EN sets (DEDUCED, log entry 158). -/
def State.belfryCtrlWrite (s : State) (w : Word) : State :=
  s.checked Reg.BELFRY_CTRL w
    (fun s => if bit w 1 && !s.on Fld.BELFRY_CTRL_STEP_EN && s.anyLegOrLayout then some .state else none)
    (fun s =>
      let was := s.on Fld.BELFRY_CTRL_SERVO_EN
      let s := s.applyWrite Reg.BELFRY_CTRL w
      if !bit w 0 then s.servoGo 0 0
      else
        let s := if !was then s.servoAcquire id else s
        if s.get Fld.BELFRY_STATUS_SERVO_STATE = 0 then s
        else s.setAddend (clampI (-s.addendLimit) s.addendLimit (s.rd Reg.BELFRY_ADDEND).toInt))

/-- SERVO_ENABLE_WRITE: SERVO_EN written, STEP_EN written as it reads. -/
def execServoEnableWrite (en : Bool) (s : State) : Out :=
  .next (s.belfryCtrlWrite (putBits (s.rd Reg.BELFRY_CTRL) 0 1 (b2n en)))

/-- STEP_EN_WRITE: STEP_EN written, SERVO_EN written as it reads. -/
def execStepEnWrite (en : Bool) (s : State) : Out :=
  .next (s.belfryCtrlWrite (putBits (s.rd Reg.BELFRY_CTRL) 1 1 (b2n en)))

/-- A write of BELFRY_SRC (R53). -/
def State.belfrySrcWriteOp (s : State) (w : Word) : State :=
  s.checked Reg.BELFRY_SRC w
    (fun s => if s.on Fld.GLOBAL_STRAPS_FABRIC_MASTER && (decide (bits w 0 3 = 4) || decide (bits w 4 3 = 4)) then some .conflict else none)
    (fun s =>
      let s := s.applyWrite Reg.BELFRY_SRC w
      if s.on Fld.BELFRY_CTRL_SERVO_EN then s.servoAcquire (fun s => s.servoGo 0 0) else s)

/-- BELFRY_SRC_WRITE. -/
def execBelfrySrcWrite (w : Word) (s : State) : Out := .next (s.belfrySrcWriteOp w)

/-- What a REL step adds: SEC × 10⁹ + NS ns with SEC a 48-bit signed number. -/
def State.stepRelNs (s : State) : Int := signed 48 (s.rd64 Reg.BELFRY_STEP_SEC_LO) * 1000000000 + (s.get Fld.BELFRY_STEP_NS_NS : Int)

/-- The time a REL step leads to, in whole ns. -/
def State.stepRelTarget (s : State) : Int := (s.now : Int) + s.stepRelNs

/-- A write of BELFRY_STEP_CMD (R54, R55). -/
def State.stepCmdWrite (s : State) (w : Word) : State :=
  s.checked Reg.BELFRY_STEP_CMD w
    (fun s =>
      if !s.on Fld.BELFRY_CTRL_STEP_EN || s.on Fld.BELFRY_CTRL_SERVO_EN then some .state
      else if bits w 0 2 = 2 ∧ s.stepRelTarget < 0 then some .range
      else none)
    (fun s =>
      if bits w 0 2 = 1 then s.stepClock (s.clk.setNs (s.rd64 Reg.BELFRY_STEP_SEC_LO % 2 ^ 48 * 1000000000 + s.get Fld.BELFRY_STEP_NS_NS))
      else s.stepClock (s.clk.shift (s.stepRelNs * 2 ^ 38)))

/-- STEP_ABS: the clock is set to SEC s + NS ns. -/
def execStepAbs (s : State) : Out := .next (s.stepCmdWrite 1)

/-- STEP_REL: SEC × 10⁹ + NS ns is added to the clock. -/
def execStepRel (s : State) : Out := .next (s.stepCmdWrite 2)

/-! ### PTP (R56 to R60) -/

/-- The active source is PTP (R58). -/
def State.ptpActive (s : State) : Bool :=
  decide (s.get Fld.BELFRY_STATUS_ACTIVE_SRC = 1) || decide (s.get Fld.BELFRY_STATUS_ACTIVE_SRC = 2)

/-- Write BELFRY_UTC and post its event when it changes (R58). -/
def State.utcSet (s : State) (w : Word) : State :=
  if s.rd Reg.BELFRY_UTC = w then s else (s.wr Reg.BELFRY_UTC w).event belfryPage 5

/-- The profile's delay mechanism has this kind of message: delay requests in profile 0, peer delay in the others (R56). -/
def ptpOfProfile (profile : Nat) : PtpKind → Bool
  | .delayReq | .delayResp => decide (profile = 0)
  | .pdelayReq | .pdelayResp | .pdelayRespFollowUp => decide (profile ≠ 0)
  | .announce | .sync | .followUp => true
  | .management | .other => false

/-- The intervals R56 accepts from a master, by the message that states one. -/
def ptpIntervalOk (k : PtpKind) (i : Int) : Bool :=
  match k with
  | .sync => decide (-7 ≤ i) && decide (i ≤ 4)
  | .announce => decide (-3 ≤ i) && decide (i ≤ 4)
  | .delayResp | .pdelayReq => decide (-7 ≤ i) && decide (i ≤ 5)
  | .followUp | .delayReq | .pdelayResp | .pdelayRespFollowUp | .management | .other => true

/-- The plane's clock processes message m: it runs, the message is of its domain, transport and delay mechanism, and states an interval R56 accepts. Management
messages and every option R56 does not name are ignored (R13, R56). -/
def State.ptpAccepts (s : State) (m : PtpMsg) : Bool :=
  let n := m.plane
  decide (n < 2) && s.on (Fld.BELFRY_PTPn_CFG_ENABLE n) && ptpOfProfile (s.get (Fld.BELFRY_PTPn_CFG_PROFILE n)) m.kind &&
    decide (m.domain = s.get (Fld.BELFRY_PTPn_CFG_DOMAIN n)) && decide (m.transport = s.get (Fld.BELFRY_PTPn_CFG_TRANSPORT n)) && ptpIntervalOk m.kind m.interval

/-- The port states the best-master logic gives a plane's two ports: one alone is SLAVE, the other then PASSIVE (R57), a slave-only clock is never master (6) or on
the way to it (5) (BELFRY_PTPn_CFG.SLAVE_ONLY), and a plane that is not doubly attached shows 3 for LAN B. -/
def State.ptpPorts (s : State) (n a b : Nat) : Nat × Nat :=
  let cap (v : Nat) : Nat := if s.on (Fld.BELFRY_PTPn_CFG_SLAVE_ONLY n) && (decide (v = 5) || decide (v = 6)) then 4 else v
  if !s.on (Fld.PLANEn_CFG_PRP n) then (cap a, 3)
  else if a = 9 then (9, 7)
  else if b = 9 then (7, 9)
  else (cap a, cap b)

/-- PTP_MESSAGE_RX: the plane's ordinary clock processes a received message (R56 to R58). -/
def execPtpMessageRx (m : PtpMsg) (s : State) : Out :=
  if s.ptpAccepts m = false then .next s
  else
    let n := m.plane
    let (a, b) := s.ptpPorts n m.lanA' m.lanB'
    let s := s.put (Fld.BELFRY_PTPn_STATE_LANA n) a
    let s := s.put (Fld.BELFRY_PTPn_STATE_LANB n) b
    let s := s.put (Fld.BELFRY_PTPn_STATE_DELAY n) (Nat.min 65535 m.delay)
    let s := if m.kind = .announce ∧ m.fromMaster = true ∧ s.srcPresent (n + 1) = false then s.servoFound (n + 1) else s
    if m.kind = .announce ∧ m.fromMaster = true ∧ s.get Fld.BELFRY_STATUS_ACTIVE_SRC = n + 1 then
      .next (s.utcSet (BitVec.ofNat 32 (b2n m.leap59 * 2 ^ 18 + b2n m.leap61 * 2 ^ 17 + b2n m.utcValid * 2 ^ 16 + m.utcOffset % 2 ^ 16)))
    else .next s

/-- A message with an event time stamp (R60). -/
def ptpEvent : PtpKind → Bool
  | .sync | .delayReq | .pdelayReq | .pdelayResp => true
  | .announce | .followUp | .delayResp | .pdelayRespFollowUp | .management | .other => false

/-- The transmit stamp of R59 for a launch now at port p, in 2⁻⁴ ns. -/
def State.txStamp (s : State) (p : Nat) : Nat :=
  s.clk.sixteenths + s.get (Fld.BELFRY_PnCAL_CAL_TX p) + s.get (Fld.BELFRY_PnEXT_EXT_TX p)

/-- The clock of plane n sends messages of this kind: those of its delay mechanism; a slave-only clock, as a junior's is, none that a master sends; a one-step clock no
follow-up (R56, R60, R350). -/
def State.ptpSends (s : State) (n : Nat) (k : PtpKind) : Bool :=
  let master := match k with | .announce | .sync | .followUp | .delayResp => true | _ => false
  let follow := match k with | .followUp | .pdelayRespFollowUp => true | _ => false
  let slaveOnly := s.on (Fld.BELFRY_PTPn_CFG_SLAVE_ONLY n) || decide (s.get Fld.TWIN_STATUS_STATE = 3)
  s.on (Fld.BELFRY_PTPn_CFG_ENABLE n) && ptpOfProfile (s.get (Fld.BELFRY_PTPn_CFG_PROFILE n)) k &&
    !(master && slaveOnly) && !(follow && s.on (Fld.BELFRY_PTPn_CFG_ONE_STEP n))

/-- The clock identity of plane n's clock: the plane's MAC address as an EUI-64, whose middle bytes are 0xFFFE, on a twin's strap junior 0xFFFD (R350; PRESUMED for a
device that is no twin, log entry 167). -/
def State.ptpIdentity (s : State) (n : Nat) : Nat :=
  let mac := s.get (Fld.PLANEn_MAC_LO_MAC n) + 2 ^ 32 * s.get (Fld.PLANEn_MAC_HI_MAC n)
  let mid := if s.get Fld.TWIN_STATUS_STATE ≠ 0 ∧ s.on Fld.GLOBAL_STRAPS_TWIN_SENIOR = false then 0xFFFD else 0xFFFE
  mac / 2 ^ 24 * 2 ^ 40 + mid * 2 ^ 24 + mac % 2 ^ 24

/-- A message of the clock of plane n as it waits to leave (R56): clockClass 248, which in HOLDOVER reports that state with a value the spec does not give (log
entry 159), clockAccuracy 0xFE and offsetScaledLogVariance 0xFFFF; the TLVs of C37.238 in its profile. -/
def State.ptpMessage (s : State) (n : Nat) (k : PtpKind) : PtpOut :=
  { kind := k, identity := s.ptpIdentity n, domain := s.get (Fld.BELFRY_PTPn_CFG_DOMAIN n), transport := s.get (Fld.BELFRY_PTPn_CFG_TRANSPORT n),
    prio1 := s.get (Fld.BELFRY_PTPn_CFG_PRIO1 n), prio2 := s.get (Fld.BELFRY_PTPn_CFG_PRIO2 n),
    clockClass := if s.get Fld.BELFRY_STATUS_SERVO_STATE = 3 then Config.holdoverClass.toNat else 248, clockAccuracy := 0xFE, variance := 0xFFFF,
    tlvs := decide (k = .announce) && decide (s.get (Fld.BELFRY_PTPn_CFG_PROFILE n) = 3) }

/-- A PTP message leaves port p: event messages are stamped; in one-step mode the stamp stands in the Sync or Pdelay_Resp itself, whose UDP checksum is corrected, and in
two-step mode the follow-up carries the stamp of the message before (R59, R60). -/
def State.ptpLeaves (s : State) (p : Nat) (m : PtpOut) : State :=
  let oneStep := s.on (Fld.BELFRY_PTPn_CFG_ONE_STEP (p / 2))
  let s := if ptpEvent m.kind then { s with bel := { s.bel with ptpTxStamp := s.bel.ptpTxStamp.set (fun _ => 0) p (s.txStamp p) } } else s
  let stamp := some (s.bel.ptpTxStamp.get (fun _ => 0) p)
  let m := match m.kind with
    | .sync | .pdelayResp => if oneStep then { m with stamp := stamp, udpFixed := decide (m.transport ≠ 0) } else m
    | .followUp | .pdelayRespFollowUp => { m with stamp := stamp }
    | _ => m
  { s with bel := { s.bel with ptpSent := s.bel.ptpSent.set (fun _ => none) p (some m) } }

end Sys2Proof.Machine
end

