-- ==== Sys2Proof/Machine/Mix.lean ====
section
/-! DEFINITION. The arithmetic of the audio graph (R170 to R190, R205 to R212) as functions on blocks of Q1.31 samples: the
exact sums, one saturation per node, the ramps, meters, gate, equaliser, limiter and tones. -/

namespace Sys2Proof.Machine

/-- Samples of a block in domain d (R170): D48, D16, D8. -/
def domN (d : Nat) : Nat := if d = 0 then 48 else if d = 1 then 16 else 8

/-- Saturation to Q1.31 (R172). -/
def sat (x : Int) : Int := clampI (-2147483648) 2147483647 x

/-- |x| with |0x8000_0000| taken as 0x7FFF_FFFF (R181). -/
def absSat (x : Int) : Nat := Nat.min 2147483647 x.natAbs

/-- A product with a Q2.30 weight: floor(x × w ÷ 2³⁰). -/
def mulQ30 (x : Int) (w : Nat) : Int := x * w / 1073741824

/-- A product with a Q5.27 gain. -/
def mulQ27 (x g : Int) : Int := x * g / 134217728

/-- The up weight q_n of R189 in a block of N samples. -/
def rampUp (N n : Nat) : Nat := (n + 1) * 1073741824 / N

/-- The down weight d_n. -/
def rampDown (N n : Nat) : Nat := 1073741824 - rampUp N n

/-- A block paired with the places of its samples. -/
def withIndex (b : Block) : List (Int × Nat) := b.zip (List.range b.length)

/-- An edge's weight by whether it exists in the tick before and in this one (R189). -/
def edgeWeight (before now : Bool) (N n : Nat) : Nat :=
  if before && now then 1073741824 else if now then rampUp N n else if before then rampDown N n else 0

/-- A block under an edge's weight. -/
def weighted (before now : Bool) (b : Block) : Block := (withIndex b).map (fun p => mulQ30 p.1 (edgeWeight before now b.length p.2))

/-- The sample-by-sample sum of two blocks; a missing sample is 0. -/
def addBlocks : Block → Block → Block
  | [], b => b
  | a, [] => a
  | x :: a, y :: b => (x + y) :: addBlocks a b

/-- A block of n zero samples. -/
def silence (n : Nat) : Block := List.replicate n 0

/-- A block saturated once. -/
def satBlock (b : Block) : Block := b.map sat

/-- The gain of sample n of a block that ramps from one gain to another (R190). -/
def rampGain (g0 g1 : Int) (N n : Nat) : Int := if g0 = g1 then g1 else g0 + (g1 - g0) * rampUp N n / 1073741824

/-- GAIN (R176, R190), from the gain of the tick before. -/
def gainBlock (g0 g1 : Int) (b : Block) : Block := (withIndex b).map (fun p => sat (mulQ27 p.1 (rampGain g0 g1 b.length p.2)))

/-- MIX: the exact sum of products, saturated once; gains ramp from those of the tick before. -/
def mixBlocks (N : Nat) (g0 g1 : List Int) (ins : List Block) : Block :=
  let terms := (ins.zip g1).zip (g0 ++ g1.drop g0.length)
  satBlock (terms.foldl (fun a t => addBlocks a ((withIndex t.1.1).map (fun p => mulQ27 p.1 (rampGain t.2 t.1.2 N p.2)))) (silence N))

/-- MIXMINUS: for each input the exact sum less that input, saturated once. -/
def mixMinusBlocks (N : Nat) (ins : List Block) : List Block :=
  let s := ins.foldl addBlocks (silence N)
  ins.map (fun b => satBlock (addBlocks s (b.map (fun x => -x))))

/-- The largest |x| of a block. -/
def blockPeak (b : Block) : Nat := b.foldl (fun a x => Nat.max a (absSat x)) 0

/-- The sum of squares of a block. -/
def blockSquares (b : Block) : Nat := sumBy (fun (x : Int) => x.natAbs * x.natAbs) b

/-- METER at the end of a block (R181): window of w ticks, hold h ms, decay multiplier. -/
def Meter.update (m : Meter) (w h decay : Nat) (b : Block) : Meter :=
  let pk := blockPeak b
  let blocks := ((blockSquares b, b.length) :: m.blocks).take w
  if m.peak ≤ pk then ⟨blocks, pk, h⟩
  else if 0 < m.hold then ⟨blocks, m.peak, m.hold - 1⟩
  else ⟨blocks, m.peak * decay / 65536, 0⟩

/-- MS as a fraction: the sum of squares and the number of samples. -/
def Meter.ms (m : Meter) : Nat × Nat := (sumBy (·.1) m.blocks, sumBy (·.2) m.blocks)

/-- Fraction a is greater than fraction b; an empty meter measures 0. -/
def msGt (a b : Nat × Nat) : Bool := decide (b.1 * (if a.2 = 0 then 1 else a.2) < a.1 * (if b.2 = 0 then 1 else b.2))

/-- floor(√n), bit by bit. -/
def isqrtFrom : Nat → Nat → Nat → Nat
  | 0, _, r => r
  | k + 1, n, r => let t := r + 2 ^ k; isqrtFrom k n (if t * t ≤ n then t else r)

def isqrt (n : Nat) : Nat := isqrtFrom 40 n 0

/-- The RMS level floor(√MS). -/
def Meter.rms (m : Meter) : Nat := if m.ms.2 = 0 then 0 else isqrt (m.ms.1 / m.ms.2)

/-- The gate's target gain (R207). -/
def gateTarget (p : Profile) (open_ : Bool) : Nat := if p.gateEn = false then 1073741824 else if open_ then 1073741824 else p.gateFloor

/-- GATE (R207, R210): the block under the gain, which ramps when the target changed at the end of the block before, and the gate at this block's end. The targets are
those of the parameters now in force. -/
def gateBlock (p : Profile) (g : GateState) (b : Block) : Block × GateState :=
  let from_ := gateTarget p g.was
  let to_ := gateTarget p g.open_
  let out := (withIndex b).map (fun q => mulQ30 q.1 (rampGain from_ to_ b.length q.2).toNat)
  let pk := blockPeak b
  let (o, h) :=
    if p.gateOpen ≤ pk then (true, p.gateHold)
    else if pk < p.gateClose then (if 0 < g.hold then (g.open_, g.hold - 1) else (false, 0))
    else (g.open_, g.hold)
  (out, ⟨o, g.open_, h⟩)

/-- A value clamped to Q9.31 (R208). -/
def clampQ9 (x : Int) : Int := clampI (-549755813888) 549755813887 x

/-- One sample through one stage (R208). -/
def biquad (c : Int × Int × Int × Int × Int) (h : EqHist) (x : Int) : Int × EqHist :=
  let y := clampQ9 ((c.1 * x + c.2.1 * h.x1 + c.2.2.1 * h.x2 - c.2.2.2.1 * h.y1 - c.2.2.2.2 * h.y2) / 536870912)
  (y, ⟨x, h.x1, y, h.y1⟩)

/-- One sample through all stages; a stage without a history starts with a zero one, and a history without a stage goes (R210). -/
def biquads : List (Int × Int × Int × Int × Int) → List EqHist → Int → Int × List EqHist
  | [], _, x => (x, [])
  | c :: t, h, x =>
    let (y, h0) := biquad c (h.head?.getD {}) x
    let (z, ht) := biquads t h.tail y
    (z, h0 :: ht)

/-- EQ: stages in series, only the output saturated to Q1.31. -/
def eqBlock (cs : List (Int × Int × Int × Int × Int)) : List EqHist → Block → Block × List EqHist
  | h, [] => ([], h.take cs.length)
  | h, x :: t =>
    let (y, h1) := biquads cs h x
    let (ys, h2) := eqBlock cs h1 t
    (sat y :: ys, h2)

/-- The limiter's samples (R209). -/
def limSamples (thresh : Nat) : Nat → Block → Block × Nat
  | g, [] => ([], g)
  | g, x :: t =>
    let g := if thresh < x.natAbs * g / 1073741824 then thresh * 1073741824 / x.natAbs else g
    let (ys, g2) := limSamples thresh g t
    (sat (mulQ30 x g) :: ys, g2)

/-- LIMITER (R209): the block and the gain after its end. -/
def limBlock (p : Profile) (g : Nat) (b : Block) : Block × Nat :=
  if p.limEn then
    let (ys, g1) := limSamples p.limThresh g b
    (ys, 1073741824 - (1073741824 - g1) * p.limRel / 65536)
  else (b, g)

/-- A delay line, newest first, after a block. -/
def pushLine (line : List Int) (b : Block) (keep : Nat) : List Int := (b.reverse ++ line).take keep

/-- x[n − L] of a block of N samples whose line, newest first, ends with it. -/
def delayed (line : List Int) (N L n : Nat) : Int := line.getD (N - 1 - n + L) 0

/-- DELAY (R176, R190): the line runs on, and a new L cross-fades. -/
def delayBlock (old new : Nat) (line : List Int) (N : Nat) : Block :=
  (List.range N).map (fun n =>
    if old = new then delayed line N new n
    else sat (mulQ30 (delayed line N old n) (rampDown N n) + mulQ30 (delayed line N new n) (rampUp N n)))

/-! ### Bridges (R170)

A signal is given as its samples by their distance from its newest one. A bridge filters with taps symmetric about its centre, so its group delay is the centre's place
(log entry 175). -/

/-- The group delay of the bridge between two neighbouring domains in samples of the faster one, and the ratio of their rates. -/
def bridgeCentre (a b : Nat) : Nat := if a + b = 1 then 30 else 16
def bridgeRatio (a b : Nat) : Nat := if a + b = 1 then 3 else 2

/-- The sum of products of n + 1 taps of a bridge with a signal of the faster domain, from a sample on. -/
def bridgeSum (a b : Nat) (x : Nat → Int) (i : Nat) : Int :=
  sumByI (fun (k : Nat) => (Config.bridgeTap a b ((k : Int) - bridgeCentre a b).natAbs).toInt * x (i + k)) (List.range (2 * bridgeCentre a b + 1))

/-- One conversion, saturated once (R172). Down: every third or second sample of the filtered signal, the first of a block standing at the block's first. Up: zeros stand
between the samples before the filter. -/
def bridgeStep (a b : Nat) (x : Nat → Int) : Nat → Int :=
  let f := bridgeRatio a b
  if a < b then fun i => sat (bridgeSum a b x (f - 1 + f * i) / 1073741824)
  else
    let up (j : Nat) : Int := if (j + 1) % f = 0 then x ((j + 1) / f - 1) else 0
    fun i => sat (bridgeSum a b up i / 1073741824)

/-- The signal in another domain; D48 and D8 join through D16. -/
def bridgeSignal (a b : Nat) (x : Nat → Int) : Nat → Int :=
  if a = b then x
  else if a + b = 2 then bridgeStep 1 b (bridgeStep a 1 x)
  else bridgeStep a b x

/-- The block of this tick in domain b of a signal of domain a whose samples, newest first, are `hist`. -/
def bridgeTo (a b : Nat) (hist : List Int) : Block :=
  let y := bridgeSignal a b (fun i => hist.getD i 0)
  (List.range (domN b)).map (fun n => y (domN b - 1 - n))

/-- Samples a bridge keeps: those its filters reach. -/
def bridgeKeep : Nat := 256

/-- A tone component's sample (R212). -/
def toneComponent (f l fs ph : Nat) : Int := if f = 0 ∨ fs ≤ 2 * f then 0 else (l : Int) * sine (ph / 1048576) / 2147483648

/-- The segment of the cadence at ms t since the start: (segment number, ms into it), none once REPEAT cycles are over
(R211, R213). -/
def cadenceAt (o : Tone) (t : Nat) : Option (Nat × Nat) :=
  let cycle := sumBy id o.seg
  if cycle = 0 then none
  else if o.repeats ≠ 0 ∧ o.repeats * cycle ≤ t then none
  else
    let r := t % cycle
    let rec go : Nat → List Nat → Nat → Option (Nat × Nat)
      | _, [], _ => none
      | i, d :: rest, r => if r < d then some (i, r) else go (i + 1) rest (r - d)
    go 0 o.seg r

/-- The generator sounds at ms t: an on segment is SEG0 or SEG2. -/
def toneOn (o : Tone) (t : Nat) : Bool := match cadenceAt o t with | some (i, _) => decide (i % 2 = 0) | none => false

/-- The phase of a component at sample n of the block at ms t since the start (R212, R213): it starts at 0 and advances with every sample, modulo 2³². -/
def tonePhase (f fs N t n : Nat) : Nat := (t * N + n) * (f * 2 ^ 32 / fs) % 2 ^ 32

/-- A TONE block of N samples at rate fs at ms t since its start (R212). -/
def toneBlock (o : Tone) (fs N t : Nat) : Block :=
  (List.range N).map (fun n =>
    let y := sat (toneComponent o.f1 o.l1 fs (tonePhase o.f1 fs N t n) + toneComponent o.f2 o.l2 fs (tonePhase o.f2 fs N t n))
    let w := if t = 0 then (if toneOn o 0 then 1073741824 else 0) else edgeWeight (toneOn o (t - 1)) (toneOn o t) N n
    mulQ30 y w)

end Sys2Proof.Machine
end

