-- ==== Sys2Proof/Machine/Granary.lean ====
section
/-! DEFINITION. Granary (spec/08_granary_queues.md, R157 to R169): linked-list queues, queue resets, bank queues and event
queues. -/

namespace Sys2Proof.Machine

/-- The limits of a queue (R158, R159): leg queues as configured, host queues from PKTOUT_LEGQ_CELLS, device-managed ones
as Epanis configures them. -/
def State.qLimits (s : State) (q : Nat) : Nat × Nat :=
  let g := s.queue q
  if q < 0x4000 then (if g.configured then (g.minCells, g.maxCells) else (0, 0))
  else if q < 0x4004 then (s.get Fld.PKTOUT_LEGQ_CELLS_MIN, s.get Fld.PKTOUT_LEGQ_CELLS_MAX)
  else if q < 0x4140 then (0, 0)
  else (deviceQueueMin q, Nat.max (deviceQueueMin q) (Config.deviceQueueCap q))

/-- Remove the oldest unclaimed item. -/
def dropUnclaimed : List GItem → List GItem
  | [] => []
  | i :: t => if i.claimed then i :: dropUnclaimed t else t

/-- The oldest unclaimed item. -/
def oldestUnclaimed (l : List GItem) : Option GItem := l.find? (fun i => !i.claimed)

/-- The admission loop of R160 for an item of k cells: `avail` is the cells free or held by this queue less what other
queues reserve. -/
def itemMakeRoom (min max avail k : Nat) : Nat → List GItem → Nat → List GItem × Nat
  | 0, l, n => (l, n)
  | fuel + 1, l, n =>
    let c := sumBy GItem.cells l
    if (oldestUnclaimed l).isNone then (l, n)
    else if c + k > max ∨ k - Nat.min k (min - c) > avail - c - (min - c) then
      itemMakeRoom min max avail k fuel (dropUnclaimed l) (n + 1)
    else (l, n)

/-- Whether k cells fit (R160). -/
def itemFits (min max avail k : Nat) (l : List GItem) : Bool :=
  let c := sumBy GItem.cells l
  decide (c + k ≤ max) && decide (k - Nat.min k (min - c) ≤ avail - c - (min - c))

/-! ### Packets and frames that a queue no longer holds -/

/-- Packets of leg queue l that it no longer holds wait no longer: they have no sequence number and are never released (R5, R161, R162). -/
def State.prunePkts (s : State) (l : Nat) : State :=
  { s with pkts := Sparse.mapAll (fun _ => none) (fun id o => match o with
      | none => none
      | some p => if p.leg = l ∧ (p.kind = .video ∨ p.kind = .rtx) ∧ (s.queue l).items.all (fun i => decide (i.tag ≠ id)) then none else some p) s.pkts }

/-- The number of the host queue among a port's departure queues (R144). -/
def hostQueue : Nat := 16388

/-- Frames of an inject slot of plane n that wait in some departure queue of its ports. -/
def State.slotWaits (s : State) (n slot : Nat) : Bool :=
  [2 * n, 2 * n + 1].any (fun p => (s.port p).q.any (fun x => x.2.any (fun f => decide (f.slot = some slot))))

/-- HEAD passes the inject slots, in ring order, whose frames have left on every LAN they name (R86). -/
def State.injSettle (s : State) (n : Nat) : Nat → State
  | 0 => s
  | fuel + 1 =>
    let p := s.plane n
    match p.injOut with
    | [] => s
    | slot :: t =>
      if s.slotWaits n slot then s
      else
        let s := s.setPlane n { p with injOut := t }
        State.injSettle (s.put (Fld.PLANEn_INJ_PTR_HEAD n) ((slot + 1) % s.get (Fld.PLANEn_INJ_CFG_SLOTS n))) n fuel

/-- HEAD of plane n's inject ring follows what has left. -/
def State.injFollow (s : State) (n : Nat) : State := s.injSettle n (s.plane n).injOut.length

/-- Frames of port p's host queue that Granary no longer holds are not sent. -/
def State.pruneHost (s : State) (p : Nat) : State :=
  let t := s.port p
  let items := (s.queue (0x4000 + p)).items
  let kept := (t.q.get (fun _ => []) hostQueue).filter (fun f => match f.item with | some i => items.any (fun g => decide (g.tag = i)) | none => true)
  (s.setPort p { t with q := t.q.set (fun _ => []) hostQueue kept }).injFollow (p / 2)

/-- What queue q no longer holds waits no longer. -/
def State.pruneQueue (s : State) (q : Nat) : State :=
  if q < 0x4000 then s.prunePkts q else if q < 0x4004 then s.pruneHost (q - 0x4000) else s

/-! ### Queue resets (R162) -/

/-- QUEUE_RESET (R162): the queue's unclaimed items are removed and counted lost, its cells wait to be swept, and the
event is posted to GRANARY_CFG.EVQ. -/
def State.queueReset (s : State) (q : Nat) : State :=
  if 0x4100 ≤ q ∧ q < 0x4140 then
    let (lost, s) := s.evqReset (q - 0x4100)
    s.postReset q lost
  else
    let g := s.queue q
    let gone := g.items.filter (fun i => !i.claimed)
    let s := s.setQueue q { g with items := g.items.filter (fun i => i.claimed), lost := (g.lost + gone.length) % 2 ^ 24,
                                   sweeping := g.sweeping + sumBy GItem.cells gone, bad := false }
    ((s.pruneQueue q).resetNoted).postReset q gone.length

/-- The two copies of queue q's pointers disagree, or one holds an uncorrectable error: the next access finds it (R162). -/
def State.pointersBad (s : State) (q : Nat) : State :=
  if 0x4100 ≤ q ∧ q < 0x4140 then
    { s with evq := s.evq.set (fun _ => {}) (q - 0x4100) { s.evq.get (fun _ => {}) (q - 0x4100) with bad := true } }
  else s.setQueue q { s.queue q with bad := true }

/-- The comparison of queue q's two copies of its pointers, made on every enqueue, dequeue and count read (R162): a mismatch resets it. -/
def State.queueCheck (s : State) (q : Nat) : State :=
  if 0x4100 ≤ q ∧ q < 0x4140 then s.evqCheck (q - 0x4100) else if (s.queue q).bad then s.queueReset q else s

/-- An access to queue q, which may itself find the mismatch. -/
def State.access (s : State) (q : Nat) (mismatch : Bool) : State := (if mismatch then s.pointersBad q else s).queueCheck q

/-! ### Enqueue, claim and read (R160, R161) -/

/-- Place an item of `len` bytes with number `tag` in queue q, whose pointers are compared first (R160, R162). Overwrites and drops count in LOST and are errors of
class CONTAINED (R26), also while Granary quiesces; a packet or frame overwritten or dropped waits no longer (R161). -/
def State.qAppend (s : State) (q len tag : Nat) : State :=
  let s := s.queueCheck q
  let g := s.queue q
  let (min, max) := s.qLimits q
  let k := ceilDiv len 256
  let own := min - g.cells
  let avail := s.freeCells + g.cells - (s.reservedCells - own)
  let (items1, lost) := if s.quiescing granaryPage then (g.items, 0) else itemMakeRoom min max avail k g.items.length g.items 0
  let fits := itemFits min max avail k items1 && !s.quiescing granaryPage
  let items2 := if fits then items1 ++ [⟨len, tag, false⟩] else items1
  let lost := if fits then lost else lost + 1
  let g2 := { g with items := items2, lost := (g.lost + lost) % 2 ^ 24, minCells := min, maxCells := max }
  let s := { s with queues := s.queues.set (fun _ => {}) q g2, freeCells := s.freeCells + g.cells - g2.cells }
  if lost = 0 then s else (s.contained lost).pruneQueue q

/-- Remove the item numbered `id` from queue q and return its cells to the pool. -/
def State.unqueue (s : State) (q id : Nat) : State :=
  let g := s.queue q
  let items := g.items.filter (fun i => decide (i.tag ≠ id))
  let s := s.setQueue q { g with items := items }
  { s with freeCells := s.freeCells + (g.cells - sumBy GItem.cells items) }

/-- GRANARY_ENQUEUE: a producer places an item in queue q; a mismatch of the queue's pointers resets it first (R160,
R162). The next enqueue starts a new list. -/
def execGranaryEnqueue (q : Nat) (item : GranaryItem) (mismatch : Bool) (s : State) : Out :=
  let s := s.access q mismatch
  match item with
  | .entry cls code obj arg =>
    if 0x4100 ≤ q ∧ q < 0x4140 then .next (s.post (q - 0x4100) cls code obj arg) else .next s
  | .record len =>
    if 0x4100 ≤ q ∧ q < 0x4140 then .next s
    else
      let id := s.nextPkt
      .next { (s.qAppend q len id) with nextPkt := id + 1 }

/-- Mark the oldest unclaimed item claimed. -/
def claimOldest : List GItem → List GItem
  | [] => []
  | i :: t => if i.claimed then i :: claimOldest t else { i with claimed := true } :: t

/-- Remove the oldest claimed item. -/
def dropClaimed : List GItem → List GItem
  | [] => []
  | i :: t => if i.claimed then t else i :: dropClaimed t

/-- GRANARY_CLAIM: the consumer of queue q begins to read its oldest unclaimed item (R161); a mismatch of the pointers resets the queue first (R162). -/
def execGranaryClaim (q : Nat) (mismatch : Bool) (s : State) : Out :=
  let s := s.access q mismatch
  .next (s.setQueue q { s.queue q with items := claimOldest (s.queue q).items })

/-- GRANARY_READ_COMPLETE: a read completes and the claimed item's cells return to the pool (R161). -/
def execGranaryReadComplete (q : Nat) (s : State) : Out :=
  let g := s.queue q
  let l := dropClaimed g.items
  let s := s.setQueue q { g with items := l }
  .next { s with freeCells := s.freeCells + (g.cells - sumBy GItem.cells l) }

/-- QUEUE_SWEEP_COMPLETE: the cells of a queue reset are back on the free list (R162). -/
def execQueueSweepComplete (q : Nat) (s : State) : Out :=
  if 0x4100 ≤ q ∧ q < 0x4140 then
    let e := s.evq.get (fun _ => {}) (q - 0x4100)
    .next { s with evq := s.evq.set (fun _ => {}) (q - 0x4100) { e with sweeping := 0 }, freeCells := s.freeCells + e.sweeping }
  else
  let g := s.queue q
  let s := s.setQueue q { g with sweeping := 0 }
  .next { s with freeCells := s.freeCells + g.sweeping }

/-! ### Bank queues (R165) -/

def State.bank (s : State) (k : Nat) : BankQ := s.bankq.get (fun _ => {}) k
def State.setBank (s : State) (k : Nat) (b : BankQ) : State := { s with bankq := s.bankq.set (fun _ => {}) k b }

/-- Bytes in a bank. -/
def bankBytes (l : List BankRec) : Nat := sumBy BankRec.len l

/-- Show bank queue k in GRANARY_BANKQk_FILL. -/
def State.bankShow (s : State) (k : Nat) : State :=
  let b := s.bank k
  (s.put (Fld.GRANARY_BANKQk_FILL_FILL k) (bankBytes b.filling)).put (Fld.GRANARY_BANKQk_FILL_DRAIN k) (bankBytes b.draining / 64)

/-- The tick the filling banks hold (R165): the present logical tick, as the banks swap at logical boundaries (R340). -/
def State.bankTick (s : State) : Nat := s.ltick

/-- A producer writes a record tagged with a tick into the filling bank of bank queue k: a late one and one that does not
fit are dropped and counted (R165). -/
def State.bankWrite (s : State) (k tick len : Nat) : State :=
  let b := s.bank k
  if tick < s.bankTick then s.bumpSat (Fld.GRANARY_BANKQk_LOST_LATE k)
  else if 65536 < bankBytes b.filling + len then s.bumpSat (Fld.GRANARY_BANKQk_LOST_FULL k)
  else (s.setBank k { b with filling := b.filling ++ [⟨tick, len⟩] }).bankShow k

/-- A bank queue that R166 assigns: 10, 11 and 20 to 31 are reserved. -/
def bankUsed (k : Nat) : Bool := decide (k < 20) && decide (k ≠ 10) && decide (k ≠ 11)

/-- BANKQ_WRITE: a record is a multiple of 64 bytes (R165); a producer of any other length writes none, and no producer has a reserved queue (R166). -/
def execBankqWrite (k tick len : Nat) (s : State) : Out :=
  if bankUsed k ∧ 0 < len ∧ len % 64 = 0 then .next (s.bankWrite k tick len) else .next s

/-- Step 2 of R20: every bank queue swaps; records unread in the draining bank are discarded and counted. -/
def State.bankSwap (s : State) : State :=
  forUpTo 32 (fun k s =>
    let b := s.bank k
    let s := if b.draining = [] then s else s.bumpSat (Fld.GRANARY_BANKQk_LOST_DISCARD k) b.draining.length
    if b.filling = [] ∧ b.draining = [] then s else (s.setBank k ⟨[], b.filling⟩).bankShow k) s

/-- The consumer has read every record of the draining bank of bank queue k. -/
def State.bankDrain (s : State) (k : Nat) : State := (s.setBank k { s.bank k with draining := [] }).bankShow k

/-! ### Event queues (R167, R168) -/

/-- The word EVQn_POP returns when it removes an entry. -/
def evqPopWord (q : EvQueue) : Word := BitVec.ofNat 32 (2 ^ 31 + b2n q.lostFlag * 2 ^ 30 + (q.entries.length - 1))

/-- EVQ_POP: the host's read of EVQn_POP removes the oldest entry and copies it into EVQn_W0 to EVQn_W3; an empty queue
returns VALID = 0 and removes nothing (R167). A pointer mismatch resets the queue first (R162). -/
def execEvqPop (n : Nat) (mismatch : Bool) (s : State) : Out :=
  if ¬ n < 64 ∨ s.linked (Reg.EVQn_POP 0) = false ∨ s.inReset (Reg.EVQn_POP 0) = true then .next { s with readData := 0 }
  else
    let s := s.access (0x4100 + n) mismatch
    let q := s.evq.get (fun _ => {}) n
    match q.entries with
    | [] => .next { s with readData := 0 }
    | e :: _ =>
      let w := evqPopWord q
      let q1 := { q.dropOldest with lostFlag := false }
      let s := { s with evq := s.evq.set (fun _ => {}) n q1, freeCells := s.freeCells + (q.cells - q1.cells) }
      let s := s.wr (Reg.EVQn_W0 n) (BitVec.ofNat 32 e.time)
      let s := s.wr (Reg.EVQn_W1 n) (BitVec.ofNat 32 (e.cls % 256 + e.code % 256 * 256))
      let s := s.wr (Reg.EVQn_W2 n) (BitVec.ofNat 32 e.obj)
      let s := s.wr (Reg.EVQn_W3 n) (BitVec.ofNat 32 e.arg)
      .next { s with readData := w }

/-- Discard an event queue's entries (R168, page reset of EVQ); the next pop still tells of entries lost before. -/
def State.evqEmpty (s : State) (n : Nat) : State :=
  let q := s.evq.get (fun _ => {}) n
  { s with evq := s.evq.set (fun _ => {}) n { q with entries := [], headGone := 0 }, freeCells := s.freeCells + q.cells }

/-- A write of EVQn_CFG (R159, R168). -/
def State.evqCfgWrite (s : State) (n : Nat) (w : Word) : State :=
  s.checked (Reg.EVQn_CFG n) w
    (fun s =>
      let on := s.on (Fld.EVQn_CFG_ENABLE n)
      let min := bits w 0 12
      let max := bits w 16 12
      if max < min then some .range
      else if on && (decide (min ≠ s.get (Fld.EVQn_CFG_MIN_CELLS n)) || decide (max ≠ s.get (Fld.EVQn_CFG_MAX_CELLS n))) then some .state
      else if bit w 31 && !on && decide (122880 < s.minSum + min) then some .noslot
      else none)
    (fun s =>
      let s := if bit w 31 then s else s.evqEmpty n
      s.applyWrite (Reg.EVQn_CFG n) w)

/-! ### Counts of a selected queue (R169) -/

/-- A write of GRANARY_Q_SEL: the fetch starts and its three results are pending (R35). -/
def State.granarySelWrite (s : State) (w : Word) : State :=
  s.checked Reg.GRANARY_Q_SEL w (fun _ => none)
    (fun s => (((s.applyWrite Reg.GRANARY_Q_SEL w).fetchStart Reg.GRANARY_Q_SEL).unvalid Reg.GRANARY_Q_COUNT |>.unvalid Reg.GRANARY_Q_CELLS).unvalid Reg.GRANARY_Q_LOST)

/-- GRANARY_Q_SEL: the host selects a queue. A pointer mismatch found by the count read resets the queue (R162). -/
def execGranaryQSel (q : Nat) (mismatch : Bool) (s : State) : Out :=
  let t := s.granarySelWrite (BitVec.ofNat 32 q)
  .next (if mismatch && (s.writeErr Reg.GRANARY_Q_SEL (BitVec.ofNat 32 q)).isNone then t.queueReset q else t)

/-- The fetch completes: the selected queue's items, cells and LOST count, posted with one GEN. -/
def State.granaryFetch (s : State) : State :=
  let q := s.get Fld.GRANARY_Q_SEL_QUEUE
  let isEvq := decide (0x4100 ≤ q) && decide (q < 0x4140)
  let e := s.evq.get (fun _ => {}) (q - 0x4100)
  let g := s.queue q
  let gen := s.nextGen Reg.GRANARY_Q_COUNT
  let s1 := s.postResultGen Reg.GRANARY_Q_COUNT gen (if isEvq then e.entries.length else (g.items.filter (fun i => !i.claimed)).length)
  let s2 := s1.postResultGen Reg.GRANARY_Q_CELLS gen (if isEvq then e.cells else g.cells)
  s2.postResultGen Reg.GRANARY_Q_LOST gen (if isEvq then s.get (Fld.EVQn_LOST_COUNT (q - 0x4100)) else g.lost)

end Sys2Proof.Machine
end

