-- ==== Sys2Proof/Machine/LinkBase.lean ====
section
/-! DEFINITION. Shared operations of the Binath links (spec/16_binath_cascade.md): link state, the CRC-64 of R317 and H64 of R344, the bytes of a
cascade frame (R334), and messages queued on a virtual channel. -/

namespace Sys2Proof.Machine

/-- BINATHn's page. -/
def linkPage (n : Nat) : Nat := 0xA0000 + n * 0x1000

def State.link (s : State) (n : Nat) : Link := s.links.get (fun _ => {}) n
def State.setLink (s : State) (n : Nat) (x : Link) : State := { s with links := s.links.set (fun _ => {}) n x }
def State.modLink (s : State) (n : Nat) (f : Link → Link) : State := s.setLink n (f (s.link n))

def State.modFab (s : State) (f : Fabric → Fabric) : State := { s with fab := f s.fab }
def State.modTwin (s : State) (f : Twin → Twin) : State := { s with twin := f s.twin }

/-- BINATHn_STATE.STATE: 0 DISABLED, 1 TRAINING, 2 CHECK, 3 UP, 4 MISMATCH, 5 REFUSED. -/
def State.linkState (s : State) (n : Nat) : Nat := s.get (Fld.BINATHn_STATE_STATE n)

/-- BINATHn_CFG.ROLE: 0 DISABLED, 1 UP, 2 DOWN, 3 TWIN, 4 STANDBY. -/
def State.linkRole (s : State) (n : Nat) : Nat := s.get (Fld.BINATHn_CFG_ROLE n)

/-- The queue of Binath events (R338). -/
def State.binathEvq (s : State) : Nat := s.get Fld.BINATH0_EVQ_EVQ

/-- The short form of a stamp now in 2⁻⁴ ns of Belfry time (R327). -/
def State.linkStamp (s : State) (n : Nat) (arrival : Bool) : Int :=
  let t : Int := (s.clk.sixteenths : Nat)
  if arrival then t - (Config.calLink n : Nat) else t + (Config.calLink n : Nat)

/-! ### CRC-64 (R317) -/

/-- One bit of the division, MSB first. -/
def crcShift (c : BitVec 64) : BitVec 64 := if c.msb then (c <<< 1) ^^^ 0x42F0E1EBA9EA3693#64 else c <<< 1

/-- One byte. -/
def crcByte (c : BitVec 64) (b : Byte) : BitVec 64 :=
  let c := c ^^^ (b.zeroExtend 64 <<< 56)
  crcShift (crcShift (crcShift (crcShift (crcShift (crcShift (crcShift (crcShift c)))))))

/-- The CRC-64 of ECMA-182: initial value 0, no final XOR. The H64 of R344. -/
def crc64 (l : List Byte) : BitVec 64 := l.foldl crcByte 0#64

/-! ### A cascade frame in bytes (R334) -/

/-- n bytes of zero. -/
def zeros (n : Nat) : List Byte := List.replicate n 0#8

/-- A block of 48 samples, Q1.31, little-endian. -/
def cascadeBlock (b : List Int) : List Byte := (b.map (fun x => natBytes 4 (unsigned 32 x))).flatten

/-- An entry: 256 bytes. -/
def centryBytes (e : CEntry) : List Byte :=
  natBytes 4 (e.fleg % 2 ^ 22) ++ natBytes 4 (b2n e.active + b2n e.gholder * 2 + e.edge % 4 * 4 + e.seat % 16 * 16) ++
    natBytes 8 e.ms ++ natBytes 4 e.peak ++ zeros 44 ++ cascadeBlock e.block

/-- A section. -/
def csectionBytes (x : CSection) : List Byte :=
  natBytes 2 (x.conf % 2 ^ 11) ++ natBytes 1 (x.k % 32) ++ natBytes 1 (x.entries.length % 64) ++ zeros 60 ++
    (x.entries.map centryBytes).flatten

/-- LEN of a frame. -/
def cframeLen (f : CFrame) : Nat := 64 + sumBy (fun (x : CSection) => 64 + 256 * x.entries.length) f.sections

/-- A frame. -/
def cframeBytes (f : CFrame) : List Byte :=
  natBytes 8 f.tick ++ natBytes 4 (cframeLen f) ++ natBytes 1 (b2n f.down) ++ natBytes 1 f.pos ++ natBytes 2 f.sections.length ++ zeros 48 ++
    (f.sections.map csectionBytes).flatten

/-! ### Messages -/

/-- The channel with n more in a per-channel list. -/
def addAt (l : List Nat) (vc n : Nat) : List Nat := modifyAt (fun x => x + n) vc l

/-- Queue a message of `len` payload bytes on channel vc of link n. A REFUSED link carries TOPO, TIME_REQ and TIME_RESP only (R323);
a link that is not locked carries nothing. -/
def State.sendMsg (s : State) (n vc kind chan len : Nat) (m : LinkMsg) : State :=
  let st := s.linkState n
  let ok := (!s.quiescing (linkPage n) || decide (kind = 3)) && (decide (st = 3) || (decide (st = 2) && decide (kind = 3)) || (decide (st = 5) && decide (4 ≤ kind)))
  if ok then
    s.modLink n (fun x => { x with queues := modifyAt (fun q => q ++ [⟨kind, chan, Nat.max 1 len, false, m⟩]) vc x.queues })
  else s

/-- Queue a control flit. -/
def State.sendCtl (s : State) (n kind : Nat) (m : LinkMsg) : State :=
  let (k, s) := s.fresh
  s.sendMsg n 0 kind 0 ((Config.flitLen k).toNat % 240 + 1) m

/-- Payload bytes of a Ledger entry: whole units of 64 bytes (R344, R345). A DELETE has no record; a loaded key's
entry takes 88 bytes (R388). -/
def ledgerUnits : LedgerEntry → Nat
  | .gate op table _ _ _ _ => 1 + (if op = 3 then 0 else ceilDiv (recLen table) 64)
  | .tdm _ b => 1 + ceilDiv (sumBy (fun (f : List Word) => 4 * f.length) b) 64
  | .key _ op _ => if op = 1 then 2 else 1
  | .resync legs _ => ceilDiv (16 + 2 * legs.length) 64
  | .tick _ _ _ _ d => ceilDiv (32 + 16 * d.length) 64
  | .admitted _ _ _ _ _ _ _ _ _ _ | .write _ _ _ | .image _ _ _ _ _ _ | .cascade _ _ _ _ => 1

/-- The acting senior records an input in the Ledger block of the present logical tick, whose record stands in BANKQ8; LINK3 sends the
entry on VC0 as it is written (R343, R346). -/
def State.record (s : State) (e : LedgerEntry) : State :=
  if s.get Fld.TWIN_STATUS_STATE = 2 then
    let s := if s.twin.ledger = [] then s.bankWrite 8 s.ltick 64 else s
    let s := { s with twin := { s.twin with ledger := s.twin.ledger ++ [e] } }
    s.sendMsg 3 0 1 1 (64 * ledgerUnits e) (.ledger s.ltick [e])
  else s

/-- The fabric master (R322). -/
def State.fabricMaster (s : State) : Bool := s.on Fld.BINATH0_FABRIC_MASTER

/-- The device belongs to a fabric. -/
def State.inFabric (s : State) : Bool := s.on Fld.BINATH0_FABRIC_ENABLE

/-- This device selects speakers for its tree: the master or a local root (R325, R331). -/
def State.isRoot (s : State) : Bool := s.fabricMaster || s.fab.localRoot

/-- Conference c is a fabric conference in this tick (R329). -/
def State.fabricConf (s : State) (c : Nat) : Bool := decide (c < 2048) && bit (s.fab.fconf.get (fun _ => 0) (c / 32)) (c % 32)

/-- The fabric conferences, ascending. -/
def State.fabricConfs (s : State) : List Nat :=
  (s.fab.fconf.map (fun p => ((List.range 32).filter (fun i => bit p.2 i)).map (fun i => 32 * p.1 + i))).flatten

/-- K of conference c (R183, R329): its CONF record's, but for a fabric conference away from its root K as carried, 4 until it is. -/
def State.confK (s : State) (c : Nat) : Nat :=
  let own := match s.effRec 2 c with
    | some r => CONF.K r
    | none => if s.fabricConf c then (Config.fabricK c).toNat + 1 else 0
  if s.fabricConf c && !s.isRoot then s.fab.carriedK.get (fun _ => 4) c else own

end Sys2Proof.Machine
end

