-- ==== Sys2Proof/Machine/Flags.lean ====
section
/-! DEFINITION. Flag computations of the Mill core (spec/11_mill_core.md, R223 to R225): what sets the sticky flags AOV and SOV of ST. -/

namespace Sys2Proof.Machine

/-- A value limited to `width` bits signed, and whether it was clipped. -/
def satW (width : Nat) (x : Int) : Int × Bool :=
  let lo : Int := -((2 : Int) ^ (width - 1))
  let hi : Int := (2 : Int) ^ (width - 1) - 1
  (clampI lo hi x, decide (x < lo) || decide (hi < x))

/-- The store value of an accumulator (R225), and whether it saturated. -/
def storeValue (a : Acc) : Word × Bool :=
  let top := a.toNat / 2 ^ 62
  if top = 0 ∨ top = 1023 then (BitVec.ofNat 32 (a.toNat / 2 ^ 31), false)
  else if a.msb then (0x80000000, true) else (0x7FFFFFFF, true)

end Sys2Proof.Machine
end

