-- ==== Sys2Proof/Machine/MillCore.lean ====
section
/-! DEFINITION. One Mill core (spec/11_mill_core.md, R219 to R235): the issue of a bundle. Every register has one home:
D, A and P in their tables, all others in `special` under the numbers of R230. -/

namespace Sys2Proof.Machine

/-! ### Registers -/

def MillCore.dReg (m : MillCore) (n : Nat) : Word := m.d.get (fun _ => 0) n
def MillCore.pReg (m : MillCore) (n : Nat) : Word := m.p.get (fun _ => 0) n
def MillCore.chainReg (m : MillCore) (n : Nat) : Acc := m.chain.get (fun _ => 0) n
def MillCore.viewReg (m : MillCore) (n : Nat) : Acc := m.view.get (fun _ => 0) n
def MillCore.sReg (m : MillCore) (n : Nat) : Word := m.special.get (fun _ => 0) n
def MillCore.setS (m : MillCore) (n : Nat) (w : Word) : MillCore := { m with special := m.special.set (fun _ => 0) n w }

/-- Numbers of R230. -/
def spLC0 : Nat := 0x18
def spLC1 : Nat := 0x19
def spLS0 : Nat := 0x1A
def spLS1 : Nat := 0x1B
def spLE0 : Nat := 0x1C
def spLE1 : Nat := 0x1D
def spST : Nat := 0x1E
def spRA : Nat := 0x1F
def spIRA : Nat := 0x20
def spIST : Nat := 0x21
def spIVEC : Nat := 0x22
def spCYC : Nat := 0x23
def spBREM : Nat := 0x24
def spCORE : Nat := 0x25
def spICAUSE : Nat := 0x26

/-- The width of a special register (R219). -/
def spWidth (n : Nat) : Nat :=
  if n = spLC0 ∨ n = spLC1 then 16
  else if (spLS0 ≤ n ∧ n ≤ spLE1) ∨ n = spRA ∨ n = spIRA ∨ n = spIVEC then 12
  else if n = spST ∨ n = spIST then 6 else 32

/-- A value cut to a register's width. -/
def spCut (n v : Nat) : Word := BitVec.ofNat 32 (v % 2 ^ spWidth n)

/-- A bit of ST. -/
def MillCore.st (m : MillCore) (i : Nat) : Bool := (m.sReg spST).getLsbD i

/-- Set a bit of ST when b. -/
def MillCore.stSet (m : MillCore) (i : Nat) (b : Bool) : MillCore :=
  if b then m.setS spST (putBits (m.sReg spST) i 1 1) else m

/-! ### Results in flight (R221, R222) -/

/-- Replace bits of an accumulator. -/
def accPart (a : Acc) (lo width v : Nat) : Acc :=
  BitVec.ofNat 72 (a.toNat - (a.toNat / 2 ^ lo % 2 ^ width) * 2 ^ lo + v % 2 ^ width * 2 ^ lo)

/-- One result lands. A MOVS to ICAUSE clears the bits written as 1 (R230). -/
def MPend.land (m : MillCore) (q : MPend) : MillCore :=
  let z : Nat → Acc := fun _ => 0
  match q.dst with
  | .d n => { m with d := m.d.set (fun _ => 0) n (BitVec.ofNat 32 q.val) }
  | .p n => { m with p := m.p.set (fun _ => 0) n (BitVec.ofNat 32 q.val) }
  | .chain n => { m with chain := m.chain.set z n (BitVec.ofNat 72 q.val) }
  | .view n => { m with view := m.view.set z n (BitVec.ofNat 72 q.val) }
  | .part n lo w => { m with chain := m.chain.set z n (accPart (m.chainReg n) lo w q.val),
                             view := m.view.set z n (accPart (m.viewReg n) lo w q.val) }
  | .both n => { m with chain := m.chain.set z n (BitVec.ofNat 72 q.val), view := m.view.set z n (BitVec.ofNat 72 q.val) }
  | .special n =>
    if n = spICAUSE then m.setS n (BitVec.ofNat 32 (Nat.land (m.sReg n).toNat (2 ^ 32 - 1 - q.val % 2 ^ 32)))
    else m.setS n (spCut n q.val)

/-- The results visible to bundle k land, the one issued later last. -/
def MillCore.landTo (m : MillCore) (k : Nat) : MillCore :=
  (m.flight.filter (fun q => decide (q.at_ ≤ k))).foldl MPend.land { m with flight := m.flight.filter (fun q => !decide (q.at_ ≤ k)) }

/-- Every result in flight lands, in the order the bundles would have shown them. -/
def MillCore.landAll (m : MillCore) : MillCore := ((m.landTo m.n).landTo (m.n + 1)).landTo (m.n + 2)

/-! ### MAC slots (R223 to R225) -/

/-- A register a slot writes, for R222. -/
inductive MReg where
  | d (n : Nat)
  | a (n : Nat)
  | p (n : Nat)
  deriving DecidableEq, Repr

/-- What a MAC slot does: results with latency, and the sticky AOV and SOV. -/
structure MacEffect where
  pends : List MPend := []
  writes : List MReg := []
  aov : Bool := false
  sov : Bool := false

/-- A result in a D register. -/
def toD (n dd lat : Nat) (w : Word) : MacEffect := { pends := [⟨n + lat, .d dd, w.toNat⟩], writes := [.d dd] }

/-- A saturated result in a D register. -/
def toDSat (n dd : Nat) (x : Int) : MacEffect :=
  let r := satW 32 x
  { toD n dd 1 (BitVec.ofInt 32 r.1) with sov := r.2 }

/-- A chain result: seen by chain operations of later bundles at once, by the others after two (R221, R224). -/
def toChain (n aa : Nat) (x : Int) : MacEffect :=
  let r := satW 72 x
  let v := unsigned 72 r.1
  { pends := [⟨n + 1, .chain aa, v⟩, ⟨n + 2, .view aa, v⟩], writes := [.a aa], aov := r.2 }

/-- The pair sum of MPY2, shifted left 32 (R224). -/
def pairSum (x y : Word) : Int :=
  (signed 16 (x.toNat / 65536) * signed 16 (y.toNat / 65536) + signed 16 x.toNat * signed 16 y.toNat) * 4294967296

/-- The effect of a MAC slot in bundle number n; none raises ILLEGAL. -/
def MillCore.mac (m : MillCore) (o : MacOp) : Option MacEffect :=
  let n := m.n
  let x := m.dReg o.dx
  let y := m.dReg o.dy
  let a := (m.chainReg o.aa).toInt
  let cnt := o.imm % 128
  let sh := y.toNat % 32
  let shi := o.imm % 32
  match o.op with
  | .nop => some {}
  | .add => some (toD n o.dd 1 (x + y))
  | .sub => some (toD n o.dd 1 (x - y))
  | .adds => some (toDSat n o.dd (x.toInt + y.toInt))
  | .subs => some (toDSat n o.dd (x.toInt - y.toInt))
  | .and => some (toD n o.dd 1 (x &&& y))
  | .or => some (toD n o.dd 1 (x ||| y))
  | .xor => some (toD n o.dd 1 (x ^^^ y))
  | .shl => some (toD n o.dd 1 (x <<< sh))
  | .shr => some (toD n o.dd 1 (x >>> sh))
  | .sra => some (toD n o.dd 1 (x.sshiftRight sh))
  | .shli => some (toD n o.dd 1 (x <<< shi))
  | .shri => some (toD n o.dd 1 (x >>> shi))
  | .srai => some (toD n o.dd 1 (x.sshiftRight shi))
  | .min => some (toD n o.dd 1 (if x.toInt ≤ y.toInt then x else y))
  | .max => some (toD n o.dd 1 (if x.toInt ≤ y.toInt then y else x))
  | .abss => some (toDSat n o.dd (if x.toInt < 0 then -x.toInt else x.toInt))
  | .negs => some (toDSat n o.dd (-x.toInt))
  | .cmplt => some (toD n o.dd 1 (if x.toInt < y.toInt then 1 else 0))
  | .cmpeq => some (toD n o.dd 1 (if x = y then 1 else 0))
  | .addi => some (toD n o.dd 1 (BitVec.ofInt 32 (x.toInt + signed 12 o.imm)))
  | .movi => some (toD n o.dd 1 (BitVec.ofInt 32 (signed 20 o.imm)))
  | .movh => some (toD n o.dd 1 (putBits (m.dReg o.dd) 16 16 o.imm))
  | .mpy => some (toChain n o.aa (x.toInt * y.toInt))
  | .mac => some (toChain n o.aa (a + x.toInt * y.toInt))
  | .msu => some (toChain n o.aa (a - x.toInt * y.toInt))
  | .mpysu => some (toChain n o.aa (x.toInt * (y.toNat : Int)))
  | .macsu => some (toChain n o.aa (a + x.toInt * (y.toNat : Int)))
  | .mpy2 => some (toChain n o.aa (pairSum x y))
  | .mac2 => some (toChain n o.aa (a + pairSum x y))
  | .msu2 => some (toChain n o.aa (a - pairSum x y))
  | .aclr => some (toChain n o.aa 0)
  | .aadd => if cnt ≤ 40 then some (toChain n o.aa (a + x.toInt * (2 : Int) ^ cnt)) else none
  | .ashr => if cnt ≤ 71 then some (toChain n o.aa (a / (2 : Int) ^ cnt)) else none
  | .ashl => if cnt ≤ 71 then some (toChain n o.aa (a * (2 : Int) ^ cnt)) else none
  | .amov => some { pends := [⟨n + 2, .both o.aa, (m.viewReg (o.dx % 8)).toNat⟩], writes := [.a o.aa] }
  | .sat => let v := storeValue (m.viewReg o.aa); some { toD n o.dd 2 v.1 with sov := v.2 }
  | .ardl => some (toD n o.dd 2 (BitVec.ofNat 32 (m.viewReg o.aa).toNat))
  | .ardh => some (toD n o.dd 2 (BitVec.ofNat 32 ((m.viewReg o.aa).toNat / 2 ^ 32)))
  | .ardg => some (toD n o.dd 2 (BitVec.ofInt 32 (signed 8 ((m.viewReg o.aa).toNat / 2 ^ 64))))
  | .awrl => some { pends := [⟨n + 2, .part o.aa 0 32, x.toNat⟩], writes := [.a o.aa] }
  | .awrh => some { pends := [⟨n + 2, .part o.aa 32 32, x.toNat⟩], writes := [.a o.aa] }
  | .awrg => some { pends := [⟨n + 2, .part o.aa 64 8, x.toNat % 256⟩], writes := [.a o.aa] }
  | .reserved => none

/-! ### Address units (R226 to R228) -/

/-- The low j bits reversed. -/
def revBits : Nat → Nat → Nat
  | 0, _ => 0
  | j + 1, v => v % 2 * 2 ^ j + revBits j (v / 2)

/-- j with n = 2^j, j ≥ 1. -/
def log2Exact (n : Nat) : Option Nat := (List.range 31).find? (fun j => decide (1 ≤ j) && decide (2 ^ j = n))

/-- The address of an access and the pointer after it (R227). -/
def MillCore.auAddr (m : MillCore) (u : AuOp) : Nat × Option Nat :=
  let p := (m.pReg u.pn).toNat
  if u.mode = 3 then (unsigned 32 ((p : Int) + 4 * signed 4 u.off), none)
  else
    let mk := (m.sReg (u.off / 2)).toInt
    let b : Int := (m.sReg (8 + u.pn)).toNat
    let l := (m.sReg (16 + u.pn)).toNat
    let post := unsigned 32 ((p : Int) + mk)
    if u.mode = 1 ∧ l ≠ 0 then
      let t : Int := p + mk
      (p, some (unsigned 32 (if b + l ≤ t then t - l else if t < b then t + l else t)))
    else if u.mode = 2 then
      match (if l % 4 = 0 then log2Exact (l / 4) else none) with
      | none => (p, some post)
      | some j =>
        let w := unsigned j (((p : Int) - b) / 4)
        let s := unsigned j (mk / 4)
        (p, some (unsigned 32 (b + 4 * (revBits j ((revBits j w + revBits j s) % 2 ^ j) : Nat))))
    else (p, some post)

/-- Bytes of an access. -/
def auSize (k : AuKind) : Nat := match k with | .ldh | .sth => 2 | .nop | .ld | .st | .sts | .ldp | .reserved => 4

/-- The access stores. -/
def auStores (k : AuKind) : Bool := match k with | .st | .sts | .sth => true | .nop | .ld | .ldh | .ldp | .reserved => false

/-- The place of a data-space address (R234): core data memory or cluster SRAM. -/
inductive MPlace where
  | data (off : Nat)
  | sram (off : Nat)
  deriving DecidableEq, Repr

def dataPlace (a : Nat) : Option MPlace :=
  if a < 0x20000 then some (.data a)
  else if 0x1000000 ≤ a ∧ a < 0x1400000 then some (.sram (a - 0x1000000))
  else none

/-- An address is granted to the activation (R236). -/
def Activation.granted (t : Activation) (a size : Nat) (store : Bool) : Bool :=
  t.grants.any (fun g => decide (g.1 ≤ a) && decide (a + size ≤ g.1 + g.2.1) && (!store || g.2.2))

/-- The fault an access raises: MISALIGN 2, RANGE 3, PROT 4; 0 for none. -/
def MillCore.auFault (m : MillCore) (u : AuOp) : Nat :=
  if u.op = .nop then 0
  else
    let a := (m.auAddr u).1
    if a % auSize u.op ≠ 0 then 2
    else if (dataPlace a).isNone then 3
    else if m.mode = .service ∧ m.act.granted a (auSize u.op) (auStores u.op) = false then 4
    else 0

/-- n bytes of the data space as a number. -/
def MillCore.load (m : MillCore) (sram : Memory) (a n : Nat) : Nat :=
  match dataPlace a with
  | some (.data o) => bytesNat (m.data.readList o n)
  | some (.sram o) => bytesNat (sram.readList o n)
  | none => 0

/-- Store n bytes in the data space. -/
def MillCore.store (m : MillCore) (sram : Memory) (a n v : Nat) : MillCore × Memory :=
  match dataPlace a with
  | some (.data o) => ({ m with data := m.data.writeList o (natBytes n v) }, sram)
  | some (.sram o) => (m, sram.writeList o (natBytes n v))
  | none => (m, sram)

/-- Results of an address unit: the load and the post-modification, with the registers they write. -/
def MillCore.auLoad (m : MillCore) (sram : Memory) (u : AuOp) : List MPend × List MReg :=
  if u.op = .nop then ([], [])
  else
    let (a, post) := m.auAddr u
    let after : List MPend × List MReg := match post with
      | some v => ([⟨m.n + 1, .p u.pn, v⟩], [.p u.pn])
      | none => ([], [])
    match u.op with
    | .ld => (⟨m.n + 2, .d u.reg, m.load sram a 4⟩ :: after.1, .d u.reg :: after.2)
    | .ldh => (⟨m.n + 2, .d u.reg, m.load sram a 2 * 65536⟩ :: after.1, .d u.reg :: after.2)
    | .ldp => (⟨m.n + 2, .p (u.reg % 8), m.load sram a 4⟩ :: after.1, .p (u.reg % 8) :: after.2)
    | .nop | .st | .sts | .sth | .reserved => after

/-- The store of an address unit at the end of its bundle, with the operands read at issue from m0 (R228). -/
def MillCore.auStore (m0 : MillCore) (u : AuOp) (ms : MillCore × Memory) : MillCore × Memory :=
  let a := (m0.auAddr u).1
  match u.op with
  | .st => ms.1.store ms.2 a 4 (m0.dReg u.reg).toNat
  | .sth => ms.1.store ms.2 a 2 ((m0.dReg u.reg).toNat / 65536)
  | .sts => ms.1.store ms.2 a 4 (storeValue (m0.viewReg (u.reg % 8))).1.toNat
  | .nop | .ld | .ldh | .ldp | .reserved => ms

/-- STS saturated (R225). -/
def MillCore.auSov (m : MillCore) (u : AuOp) : Bool := decide (u.op = .sts) && (storeValue (m.viewReg (u.reg % 8))).2

/-- The access goes to cluster SRAM. -/
def MillCore.auSram (m : MillCore) (u : AuOp) : Bool :=
  decide (u.op ≠ .nop) && (match dataPlace (m.auAddr u).1 with | some (.sram _) => true | some (.data _) => false | none => false)

/-- An address unit's encoding is legal (R226). -/
def auLegal (u : AuOp) : Bool := decide (u.op ≠ .reserved) && (decide (u.op = .nop) || decide (u.mode = 3) || decide (u.off % 2 = 0))

/-! ### The control slot (R229 to R231) -/

/-- What the control slot does: results, a transfer, the delay slots that follow, and whether it halts. -/
structure CtlEffect where
  pends : List MPend := []
  writes : List MReg := []
  go : Option MTransfer := none
  slots : Nat := 0
  halt : Bool := false
  clearIE : Bool := false
  setIE : Bool := false

/-- The address disp bundles from p. -/
def bundleAt (p : Nat) (disp : Int) : Nat := unsigned 12 ((p : Int) + disp)

/-- A transfer of control from address p is legal only if neither it nor its delay slots are the LE bundle of a loop with
LC ≥ 1 (R231). -/
def MillCore.transferLegal (m : MillCore) : Bool :=
  let clear (lc le : Nat) := decide ((m.sReg lc).toNat = 0) ||
    [0, 1, 2].all (fun i => decide ((m.sReg le).toNat ≠ bundleAt m.pc i))
  clear spLC0 spLE0 && clear spLC1 spLE1

/-- A transfer to a target. -/
def MillCore.goTo (m : MillCore) (target : Nat) : Option CtlEffect :=
  if m.transferLegal then some { go := some ⟨2, target % 4096, false, false⟩, slots := 2 } else none

/-- A conditional branch. -/
def MillCore.branchIf (m : MillCore) (c : Bool) (disp : Nat) : Option CtlEffect :=
  if m.transferLegal then
    some { go := if c then some ⟨2, bundleAt m.pc (signed 10 disp), false, false⟩ else none, slots := 2 }
  else none

/-- LOOPn: LS, LE and LC, and the jump past the body when the count is 0 (R231). -/
def MillCore.loopStart (m : MillCore) (second : Bool) (count len : Nat) : Option CtlEffect :=
  if len = 0 then none
  else
    let k := b2n second
    let le := bundleAt m.pc ((len : Int) + 2)
    some { pends := [⟨m.n + 1, .special (spLS0 + k), bundleAt m.pc 3⟩, ⟨m.n + 1, .special (spLE0 + k), le⟩,
                     ⟨m.n + 1, .special (spLC0 + k), count⟩],
           go := if count = 0 then some ⟨2, bundleAt le 1, false, false⟩ else none, slots := 2 }

/-- MOVS is legal (R230, R236). -/
def MillCore.movsLegal (m : MillCore) (n : Nat) (w : Word) : Bool :=
  decide (n ≤ spICAUSE) && decide (n ≠ spCORE) && decide (n ≠ spCYC) &&
  (decide (m.mode ≠ .service) ||
    !(decide (n = spIVEC) || decide (n = spIRA) || decide (n = spIST) || decide (n = spICAUSE) || (decide (n = spST) && w.getLsbD 0)))

/-- A special register as MOVD reads it; CORE is the core's own number. -/
def MillCore.specialRead (m : MillCore) (core n : Nat) : Word := if n = spCORE then BitVec.ofNat 32 core else m.sReg n

/-- The effect of the control slot; none raises ILLEGAL. -/
def MillCore.ctl (m : MillCore) (core : Nat) (o : CtlOp) : Option CtlEffect :=
  let x := m.dReg o.d
  let bench := decide (m.mode ≠ .service)
  match o.op with
  | .nop => some {}
  | .br => m.goTo (bundleAt m.pc (signed 15 o.imm))
  | .call =>
    (m.goTo (bundleAt m.pc (signed 15 o.imm))).map (fun e => { e with pends := [⟨m.n + 1, .special spRA, bundleAt m.pc 3⟩] })
  | .ret => (m.goTo (m.sReg spRA).toNat).map (fun e => { e with go := e.go.map (fun t => { t with ret := true }) })
  | .reti => (m.goTo (m.sReg spIRA).toNat).map (fun e => { e with go := e.go.map (fun t => { t with reti := true }) })
  | .bz => m.branchIf (decide (x = 0)) o.imm
  | .bnz => m.branchIf (decide (x ≠ 0)) o.imm
  | .bltz => m.branchIf x.msb o.imm
  | .bgez => m.branchIf (!x.msb) o.imm
  | .loop0 => m.loopStart false (x.toNat % 65536) o.len
  | .loop1 => m.loopStart true (x.toNat % 65536) o.len
  | .loopi0 => if o.imm = 0 then none else m.loopStart false o.imm o.len
  | .loopi1 => if o.imm = 0 then none else m.loopStart true o.imm o.len
  | .movs => if m.movsLegal o.imm x then some { pends := [⟨m.n + 1, .special o.imm, x.toNat⟩] } else none
  | .movd => if o.imm ≤ spICAUSE then some { pends := [⟨m.n + 1, .d o.d, (m.specialRead core o.imm).toNat⟩], writes := [.d o.d] } else none
  | .ei => if bench then some { setIE := true } else none
  | .di => if bench then some { clearIE := true } else none
  | .halt => if bench then some { halt := true } else none
  | .reserved => none

/-! ### The issue of a bundle -/

/-- No register is listed twice (R222). -/
def noRepeat : List MReg → Bool
  | [] => true
  | r :: t => !t.contains r && noRepeat t

/-- The bundle that follows the one at p when no transfer takes effect, and the core with its loop counts (R231). -/
def MillCore.loopNext (m : MillCore) (p : Nat) : Nat × MillCore :=
  let seq := bundleAt p 1
  if !m.st 1 then (seq, m)
  else
    let lc1 := (m.sReg spLC1).toNat
    let hit1 := decide (p = (m.sReg spLE1).toNat) && decide (1 ≤ lc1)
    if hit1 && decide (1 < lc1) then ((m.sReg spLS1).toNat, m.setS spLC1 (spCut spLC1 (lc1 - 1)))
    else
      let m := if hit1 then m.setS spLC1 0 else m
      let lc0 := (m.sReg spLC0).toNat
      if p = (m.sReg spLE0).toNat ∧ 1 ≤ lc0 then
        if 1 < lc0 then ((m.sReg spLS0).toNat, m.setS spLC0 (spCut spLC0 (lc0 - 1))) else (seq, m.setS spLC0 0)
      else (seq, m)

/-- What an issue comes to: the core, the cluster's SRAM, a fault cause (0: none), and whether a RET to the runtime has run its
second delay slot. -/
structure Issued where
  core : MillCore
  sram : Memory
  fault : Nat := 0
  done : Bool := false

/-- Budget cycles of a bundle (R235): 1, and 8 for each cluster-SRAM access. -/
def MillCore.cost (m : MillCore) (b : Bundle) : Nat := 1 + 8 * (b2n (m.auSram b.au0) + b2n (m.auSram b.au1))

/-- The cause that stops the bundle with none of its slots taking effect, 0 for none (R234). -/
def MillCore.bundleFault (m : MillCore) (core : Nat) (sram : Memory) (b : Bundle) : Nat :=
  match m.mac b.mac0, m.mac b.mac1, m.ctl core b.ctl with
  | some e0, some e1, some c =>
    let writes := e0.writes ++ e1.writes ++ (m.auLoad sram b.au0).2 ++ (m.auLoad sram b.au1).2 ++ c.writes
    let f0 := m.auFault b.au0
    let f1 := m.auFault b.au1
    if !auLegal b.au0 || !auLegal b.au1 || !noRepeat writes then 1
    else if c.halt then 6
    else if f0 = 0 then f1 else if f1 = 0 then f0 else Nat.min f0 f1
  | _, _, _ => 1

/-- The budget counts down and BUDGET is set when BREM reaches 0 (R232, R235); CYC counts. -/
def MillCore.charge (m : MillCore) (cost stall : Nat) : MillCore :=
  let r := (m.sReg spBREM).toNat
  let m := m.setS spBREM (BitVec.ofNat 32 (r - cost))
  let m := if 0 < r ∧ r ≤ cost then m.setS spICAUSE (putBits (m.sReg spICAUSE) 0 1 1) else m
  let m := m.setS spCYC (m.sReg spCYC + BitVec.ofNat 32 (1 + (if cost = 1 then 0 else stall)))
  { m with act := { m.act with spent := m.act.spent + cost } }

/-- Transfers advance by a bundle: the one whose second delay slot has issued, and the others. -/
def advance (l : List MTransfer) : Option MTransfer × List MTransfer :=
  let l := l.map (fun t => { t with left := t.left - 1 })
  (l.find? (fun t => decide (t.left = 0)), l.filter (fun t => !decide (t.left = 0)))

/-- Issue bundle b at the PC (R220 to R235). -/
def MillCore.issue (m : MillCore) (core : Nat) (sram : Memory) (stall : Nat) (b : Bundle) : Issued :=
  let m := m.landTo m.n
  let f := m.bundleFault core sram b
  match f, m.mac b.mac0, m.mac b.mac1, m.ctl core b.ctl with
  | 0, some e0, some e1, some c =>
    let cost := m.cost b
    let pends := e0.pends ++ e1.pends ++ (m.auLoad sram b.au0).1 ++ (m.auLoad sram b.au1).1 ++ c.pends
    let (m2, sram2) := m.auStore b.au1 (m.auStore b.au0 (m, sram))
    let m2 := (m2.stSet 2 (e0.aov || e1.aov)).stSet 3 (e0.sov || e1.sov || m.auSov b.au0 || m.auSov b.au1)
    let m2 := if c.setIE then { m2 with flight := m2.flight ++ [⟨m.n + 1, .special spST, (putBits (m2.sReg spST) 0 1 1).toNat⟩] } else m2
    let m2 := if c.clearIE then { m2 with flight := m2.flight ++ [⟨m.n + 1, .special spST, (putBits (m2.sReg spST) 0 1 0).toNat⟩] } else m2
    let m2 := (m2.charge cost stall)
    let (take, rest) := advance m2.transfers
    let (seq, m3) := m2.loopNext m.pc
    let m4 := match take with
      | some t => { m2 with pc := t.target }
      | none => { m3 with pc := seq }
    let m4 := match take with
      | some t => if t.reti then m4.setS spST (m4.sReg spIST) else m4
      | none => m4
    let m4 := { m4 with flight := m4.flight ++ pends, n := m.n + 1, transfers := rest ++ c.go.toList,
                        delay := if c.slots = 0 then m.delay - 1 else c.slots }
    { core := m4, sram := sram2, done := match take with
        | some t => t.ret && decide (m.mode = .service) && decide (t.target = m.act.ret)
        | none => false }
  | f, _, _, _ => { core := m, sram := sram, fault := if f = 0 then 1 else f }

/-! ### Program memory (R220, R223, R226, R229) -/

/-- Bits lo to lo + width − 1 of a bundle. -/
def bfield (b lo width : Nat) : Nat := b / 2 ^ lo % 2 ^ width

/-- The MAC opcodes of R223. -/
def macOpcode : Nat → MacKind
  | 0x01 => .add | 0x02 => .sub | 0x03 => .adds | 0x04 => .subs | 0x05 => .and | 0x06 => .or | 0x07 => .xor
  | 0x08 => .shl | 0x09 => .shr | 0x0A => .sra | 0x0B => .shli | 0x0C => .shri | 0x0D => .srai | 0x0E => .min
  | 0x0F => .max | 0x10 => .abss | 0x11 => .negs | 0x12 => .cmplt | 0x13 => .cmpeq | 0x14 => .addi | 0x15 => .movi
  | 0x16 => .movh | 0x20 => .mpy | 0x21 => .mac | 0x22 => .msu | 0x23 => .mpysu | 0x24 => .macsu | 0x25 => .mpy2
  | 0x26 => .mac2 | 0x27 => .msu2 | 0x28 => .aclr | 0x29 => .aadd | 0x2A => .ashr | 0x2B => .ashl | 0x2C => .amov
  | 0x2D => .sat | 0x2E => .ardl | 0x2F => .ardh | 0x30 => .ardg | 0x31 => .awrl | 0x32 => .awrh | 0x33 => .awrg
  | _ => .reserved

/-- A MAC slot of 36 bits. -/
def macDecode (v : Nat) : MacOp :=
  if v = 0 then {}
  else
    let k := macOpcode (bfield v 30 6)
    { op := k, dd := bfield v 25 5, dx := bfield v 20 5, dy := bfield v 15 5, aa := bfield v 12 3,
      imm := match k with | .movi => bfield v 5 20 | .movh => bfield v 5 16 | _ => bfield v 0 12 }

/-- An address unit of 18 bits. -/
def auDecode (v : Nat) : AuOp :=
  let k : AuKind := match bfield v 14 4 with
    | 0 => .nop | 1 => .ld | 2 => .st | 3 => .sts | 4 => .ldh | 5 => .sth | 6 => .ldp | _ => .reserved
  { op := k, reg := bfield v 9 5, pn := bfield v 6 3, mode := bfield v 4 2, off := bfield v 0 4 }

/-- The control slot of 20 bits. -/
def ctlDecode (v : Nat) : CtlOp :=
  let d := bfield v 10 5
  match bfield v 15 5 with
  | 0x00 => {}
  | 0x01 => { op := .br, imm := bfield v 0 15 }
  | 0x02 => { op := .call, imm := bfield v 0 15 }
  | 0x03 => { op := .ret }
  | 0x04 => { op := .reti }
  | 0x05 => { op := .bz, d := d, imm := bfield v 0 10 }
  | 0x06 => { op := .bnz, d := d, imm := bfield v 0 10 }
  | 0x07 => { op := .bltz, d := d, imm := bfield v 0 10 }
  | 0x08 => { op := .bgez, d := d, imm := bfield v 0 10 }
  | 0x09 => { op := .loop0, d := d, len := bfield v 0 10 }
  | 0x0A => { op := .loop1, d := d, len := bfield v 0 10 }
  | 0x0B => { op := .loopi0, imm := bfield v 8 7, len := bfield v 0 8 }
  | 0x0C => { op := .loopi1, imm := bfield v 8 7, len := bfield v 0 8 }
  | 0x0D => { op := .movs, d := d, imm := bfield v 4 6 }
  | 0x0E => { op := .movd, d := d, imm := bfield v 4 6 }
  | 0x0F => { op := .ei }
  | 0x10 => { op := .di }
  | 0x11 => { op := .halt }
  | _ => { op := .reserved }

/-- A bundle of 128 bits (R220). -/
def bundleDecode (v : Nat) : Bundle :=
  { mac0 := macDecode (bfield v 0 36), mac1 := macDecode (bfield v 36 36), au0 := auDecode (bfield v 72 18),
    au1 := auDecode (bfield v 90 18), ctl := ctlDecode (bfield v 108 20) }

/-- The bundle at the PC. -/
def MillCore.fetch (m : MillCore) : Bundle := bundleDecode (bytesNat (m.prog.readList (m.pc * 16) 16))

/-! ### Interrupts (R232) -/

/-- The core may take an interrupt at this boundary. -/
def MillCore.interruptible (m : MillCore) : Bool :=
  let c := m.landTo m.n
  decide (c.mode = .bench) && c.st 0 && decide (c.delay = 0) && decide (c.transfers = []) &&
    (((c.sReg spICAUSE).getLsbD 0 && c.st 4) || ((c.sReg spICAUSE).getLsbD 1 && c.st 5))

/-- The entry: IRA, IST, ST.IE and ST.LOOPEN, and the PC. -/
def MillCore.enter (m : MillCore) : MillCore :=
  let m := m.landTo m.n
  let st := m.sReg spST
  let m := (m.setS spIRA (spCut spIRA m.pc)).setS spIST st
  let m := m.setS spST (putBits st 0 2 0)
  { m with pc := (m.sReg spIVEC).toNat }

end Sys2Proof.Machine
end

