-- ==== Sys2Proof/Machine/Mill.lean ====
section
/-! DEFINITION. The Mill cores as the device runs them (spec/11_mill_core.md, R220 to R241; R214 to R217): each operation as
a bundle, custom kernels, bench mode and the memory slots of BAR0. -/

namespace Sys2Proof.Machine

/-- Base of the MILLCc page. -/
def millPage (c : Nat) : Nat := 0x50000 + c * 0x1000

/-- The SRAM of cluster c. -/
def State.sram (s : State) (c : Nat) : Memory := s.csram.get (fun _ => []) c

/-- Set a core and its cluster's SRAM. -/
def State.setMill (s : State) (k : Nat) (m : MillCore) (sram : Memory) : State :=
  let s := s.setCore k m
  { s with csram := s.csram.set (fun _ => []) (k / 16) sram }

/-! ### Activations of custom kernels (R236 to R238) -/

/-- The words of a block as bytes. -/
def blockBytes : Block → List Byte
  | [] => []
  | x :: t => natBytes 4 (unsigned 32 x) ++ blockBytes t

/-- A block of n words read from core data memory. -/
def MillCore.readBlock (m : MillCore) (a : Nat) : Nat → Block
  | 0 => []
  | n + 1 => signed 32 (bytesNat (m.data.readList a 4)) :: MillCore.readBlock m (a + 4) n

/-- Registers at the start of bench code or of an activation; memories are kept. -/
def MillCore.cleared (m : MillCore) : MillCore := { data := m.data, prog := m.prog }

/-- A core begins an activation of kernel g for a node (R236): the blocks lie in core data memory where the runtime places
them, a persistent area above 4,096 bytes in cluster SRAM. -/
def State.activate (s : State) (k node slot budget tick n dom : Nat) (g : Kernel) (ins : List Block) (params : List Byte) : State :=
  let (f, s) := s.fresh
  let base := (Config.kernelBase f).toNat * 64
  let ret := (Config.kernelReturn f).toNat
  let far := decide (4096 < g.dataLen)
  let persist := if far then 0x1000000 + (Config.kernelSram f).toNat * 64 else base + 3200
  let insAt (i : Nat) := base + 128 + i * 192
  let outAt (i : Nat) := base + 1664 + i * 192
  let outs := (List.range g.outputs).map outAt
  let held := (s.node node).mem
  let m := (s.core k).cleared
  let data := m.data.writeList base ((List.range g.inputs).flatMap (fun i => natBytes 4 (insAt i)))
  let data := data.writeList (base + 32) ((List.range g.outputs).flatMap (fun i => natBytes 4 (outAt i)))
  let data := data.writeList (base + 64) (params.take 64)
  let data := (List.range g.inputs).foldl (fun d i => d.writeList (insAt i) (blockBytes ((ins[i]?).getD (List.replicate n 0)))) data
  let data := outs.foldl (fun d a => d.writeList a (List.replicate (4 * n) 0)) data
  let kept := held.readList 0 g.dataLen
  let data := if far then data else data.writeList persist kept
  let sram : Memory := if far then Memory.writeList (s.sram (k / 16)) (persist - 0x1000000) kept else s.sram (k / 16)
  let dregs := [(0, n), (1, dom)].foldl (fun p q => Sparse.set (fun _ => (0 : Word)) p q.1 (BitVec.ofNat 32 q.2)) []
  let pregs := [(0, base), (1, base + 32), (2, persist), (3, base + 64), (7, base + 7296)].foldl
    (fun p q => Sparse.set (fun _ => (0 : Word)) p q.1 (BitVec.ofNat 32 q.2)) []
  let own : List (Nat × Nat × Bool) :=
    [(base, 32, false), (base + 32, 32, false), (base + 64, 64, false), (base + 7296, 8192, true), (persist, g.dataLen, true)]
  let blocks := (List.range g.inputs).map (fun i => (insAt i, 4 * n, false)) ++ outs.map (fun a => (a, 4 * n, true))
  let t : Activation := { node := node, slot := slot, budget := budget, ret := ret, len := n, outs := outs, persist := persist,
                          persistLen := g.dataLen, tick := tick, grants := own ++ blocks }
  let m := { m with data := data, pc := g.place + g.entry / 16, mode := .service, d := dregs, p := pregs, act := t }
  let m := (m.setS spST (BitVec.ofNat 32 2)).setS spRA (spCut spRA ret)
  s.setMill k (m.setS spBREM (BitVec.ofNat 32 budget)) sram

/-- An activation ends on core k: results in flight land, the outputs are what it wrote, or zero when it did not complete, and the
persistent data stays as it left it (R216, R238). One that ends after its tick has given its consumers silence (R192). -/
def State.activationEnd (s : State) (k : Nat) (completed : Bool) : State :=
  let m := (s.core k).landAll
  let t := m.act
  let held := if t.persist < 0x1000000 then m.data.readList t.persist t.persistLen
    else (s.sram (k / 16)).readList (t.persist - 0x1000000) t.persistLen
  let outs := t.outs.map (fun a => if completed then m.readBlock a t.len else List.replicate t.len 0)
  let s := s.setNode t.node { s.node t.node with mem := Memory.writeList [] 0 held }
  let ports := if t.tick = s.ltick then (outs.zip (List.range outs.length)).foldl (fun p o => p.set (fun _ => []) (t.node * 64 + o.2) o.1) s.audio.ports
    else s.audio.ports
  let s := { s with audio := { s.audio with ports := ports } }
  s.setCore k { m with mode := .idle }

/-- A kernel fault other than BUDGET (R238). -/
def State.kernelFault (s : State) (k cause : Nat) : State :=
  let node := (s.core k).act.node
  let s := s.activationEnd k false
  let s := s.bump (Fld.MILLC_KFAULT_COUNT (k / 16))
  s.postLimited (bits s.audio.cfg 0 6) 0x09 0x84 node false 1 cause

/-! ### Bench mode (R240) -/

/-- The bench core of cluster c. -/
def State.benchCore (s : State) (c : Nat) : Nat := c * 16 + s.get (Fld.MILLC_BENCH_SEL_CORE c)

/-- Core k is in bench mode. -/
def State.inBench (s : State) (k : Nat) : Bool := s.on (Fld.MILLC_BENCH_SEL_ENABLE (k / 16)) && decide (s.benchCore (k / 16) = k)

/-- The bench core stops at a bundle boundary. -/
def State.benchStop (s : State) (c state cause : Nat) : State :=
  let k := s.benchCore c
  let m := (s.core k).landAll
  let s := s.setCore k { m with mode := .idle, flight := [], transfers := [], delay := 0 }
  let s := s.put (Fld.MILLC_BENCH_STATUS_STATE c) state
  let s := s.put (Fld.MILLC_BENCH_STATUS_CAUSE c) cause
  let s := s.put (Fld.MILLC_BENCH_STATUS_PC c) m.pc
  s.event (millPage c) 2

/-- The clock of cluster c runs: RUN or CHANGING (R66, R432). -/
def State.clusterRuns (s : State) (c : Nat) : Bool := decide (s.get (Fld.PWR_CLc_STATUS_STATE c) = 0) || decide (s.get (Fld.PWR_CLc_STATUS_STATE c) = 5)

/-- Core k issues bundle b, if it runs and its cluster is neither GATED nor OFF: a fault ends the kernel or stops the bench core, and the second delay slot of the RET to
the runtime completes the kernel (R234, R238, R240). -/
def State.issueOn (s : State) (k : Nat) (b : Bundle) : State :=
  let m := s.core k
  if m.mode = .idle ∨ (m.mode = .service ∧ m.act.budget ≤ m.act.spent) ∨ s.clusterRuns (k / 16) = false then s
  else
    let (f, s) := s.fresh
    let r := m.issue k (s.sram (k / 16)) (Config.millStall f) b
    let s := s.setMill k r.core r.sram
    if r.fault ≠ 0 then
      if m.mode = .bench then s.benchStop (k / 16) (if r.fault = 6 then 2 else 3) r.fault else s.kernelFault k r.fault
    else if r.done then s.activationEnd k true
    else s

/-- The bundle with an operation in the MAC slot a site names. -/
def siteMac (x : Site) (o : MacOp) : Bundle := if x.second then { x.rest with mac1 := o } else { x.rest with mac0 := o }
/-- The bundle with an operation in the address unit a site names. -/
def siteAu (x : Site) (o : AuOp) : Bundle := if x.second then { x.rest with au1 := o } else { x.rest with au0 := o }
/-- The bundle with an operation in the control slot. -/
def siteCtl (x : Site) (o : CtlOp) : Bundle := { x.rest with ctl := o }

/-! ### One meaning per operation -/

/-- NOP: a bundle of all zeros does nothing but issue (R220). -/
def execNop (k : Nat) (s : State) : Out := .next (s.issueOn k {})

/-- ADD: DD = DX + DY, wrapping (R223). -/
def execAdd (x : Site) (dd dx dy : Nat) (s : State) : Out := .next (s.issueOn x.core (siteMac x { op := .add, dd := dd, dx := dx, dy := dy }))

/-- SUB: DD = DX − DY, wrapping (R223). -/
def execSub (x : Site) (dd dx dy : Nat) (s : State) : Out := .next (s.issueOn x.core (siteMac x { op := .sub, dd := dd, dx := dx, dy := dy }))

/-- ADDS: DD = sat(DX + DY) (R223). -/
def execAdds (x : Site) (dd dx dy : Nat) (s : State) : Out := .next (s.issueOn x.core (siteMac x { op := .adds, dd := dd, dx := dx, dy := dy }))

/-- SUBS: DD = sat(DX − DY) (R223). -/
def execSubs (x : Site) (dd dx dy : Nat) (s : State) : Out := .next (s.issueOn x.core (siteMac x { op := .subs, dd := dd, dx := dx, dy := dy }))

/-- AND: bitwise and (R223). -/
def execAnd (x : Site) (dd dx dy : Nat) (s : State) : Out := .next (s.issueOn x.core (siteMac x { op := .and, dd := dd, dx := dx, dy := dy }))

/-- OR: bitwise or (R223). -/
def execOr (x : Site) (dd dx dy : Nat) (s : State) : Out := .next (s.issueOn x.core (siteMac x { op := .or, dd := dd, dx := dx, dy := dy }))

/-- XOR: bitwise exclusive or (R223). -/
def execXor (x : Site) (dd dx dy : Nat) (s : State) : Out := .next (s.issueOn x.core (siteMac x { op := .xor, dd := dd, dx := dx, dy := dy }))

/-- SHL: DD = DX << DY[4:0] (R223). -/
def execShl (x : Site) (dd dx dy : Nat) (s : State) : Out := .next (s.issueOn x.core (siteMac x { op := .shl, dd := dd, dx := dx, dy := dy }))

/-- SHR: DD = DX >> DY[4:0], logical (R223). -/
def execShr (x : Site) (dd dx dy : Nat) (s : State) : Out := .next (s.issueOn x.core (siteMac x { op := .shr, dd := dd, dx := dx, dy := dy }))

/-- SRA: DD = DX >> DY[4:0], arithmetic (R223). -/
def execSra (x : Site) (dd dx dy : Nat) (s : State) : Out := .next (s.issueOn x.core (siteMac x { op := .sra, dd := dd, dx := dx, dy := dy }))

/-- MIN: the signed minimum (R223). -/
def execMin (x : Site) (dd dx dy : Nat) (s : State) : Out := .next (s.issueOn x.core (siteMac x { op := .min, dd := dd, dx := dx, dy := dy }))

/-- MAX: the signed maximum (R223). -/
def execMax (x : Site) (dd dx dy : Nat) (s : State) : Out := .next (s.issueOn x.core (siteMac x { op := .max, dd := dd, dx := dx, dy := dy }))

/-- CMPLT: DD = 1 if DX < DY signed, else 0 (R223). -/
def execCmplt (x : Site) (dd dx dy : Nat) (s : State) : Out := .next (s.issueOn x.core (siteMac x { op := .cmplt, dd := dd, dx := dx, dy := dy }))

/-- CMPEQ: DD = 1 if DX = DY, else 0 (R223). -/
def execCmpeq (x : Site) (dd dx dy : Nat) (s : State) : Out := .next (s.issueOn x.core (siteMac x { op := .cmpeq, dd := dd, dx := dx, dy := dy }))

/-- SHLI: DD = DX << IMM[4:0] (R223). -/
def execShli (x : Site) (dd dx imm : Nat) (s : State) : Out := .next (s.issueOn x.core (siteMac x { op := .shli, dd := dd, dx := dx, imm := imm }))

/-- SHRI: DD = DX >> IMM[4:0], logical (R223). -/
def execShri (x : Site) (dd dx imm : Nat) (s : State) : Out := .next (s.issueOn x.core (siteMac x { op := .shri, dd := dd, dx := dx, imm := imm }))

/-- SRAI: DD = DX >> IMM[4:0], arithmetic (R223). -/
def execSrai (x : Site) (dd dx imm : Nat) (s : State) : Out := .next (s.issueOn x.core (siteMac x { op := .srai, dd := dd, dx := dx, imm := imm }))

/-- ADDI: DD = DX + IMM, wrapping (R223). -/
def execAddi (x : Site) (dd dx imm : Nat) (s : State) : Out := .next (s.issueOn x.core (siteMac x { op := .addi, dd := dd, dx := dx, imm := imm }))

/-- ABSS: DD = sat(|DX|) (R223). -/
def execAbss (x : Site) (dd dx : Nat) (s : State) : Out := .next (s.issueOn x.core (siteMac x { op := .abss, dd := dd, dx := dx }))

/-- NEGS: DD = sat(−DX) (R223). -/
def execNegs (x : Site) (dd dx : Nat) (s : State) : Out := .next (s.issueOn x.core (siteMac x { op := .negs, dd := dd, dx := dx }))

/-- MOVI: DD = the sign-extended 20-bit immediate (R223). -/
def execMovi (x : Site) (dd imm : Nat) (s : State) : Out := .next (s.issueOn x.core (siteMac x { op := .movi, dd := dd, imm := imm }))

/-- MOVH: DD[31:16] = the immediate, DD[15:0] kept (R223). -/
def execMovh (x : Site) (dd imm : Nat) (s : State) : Out := .next (s.issueOn x.core (siteMac x { op := .movh, dd := dd, imm := imm }))

/-- MPY: AA = DX × DY (R223, R224). -/
def execMpy (x : Site) (aa dx dy : Nat) (s : State) : Out := .next (s.issueOn x.core (siteMac x { op := .mpy, aa := aa, dx := dx, dy := dy }))

/-- MAC: AA += DX × DY (R223, R224). -/
def execMac (x : Site) (aa dx dy : Nat) (s : State) : Out := .next (s.issueOn x.core (siteMac x { op := .mac, aa := aa, dx := dx, dy := dy }))

/-- MSU: AA −= DX × DY (R223, R224). -/
def execMsu (x : Site) (aa dx dy : Nat) (s : State) : Out := .next (s.issueOn x.core (siteMac x { op := .msu, aa := aa, dx := dx, dy := dy }))

/-- MPYSU: AA = DX × DY, DY unsigned (R223, R224). -/
def execMpysu (x : Site) (aa dx dy : Nat) (s : State) : Out := .next (s.issueOn x.core (siteMac x { op := .mpysu, aa := aa, dx := dx, dy := dy }))

/-- MACSU: AA += DX × DY, DY unsigned (R223, R224). -/
def execMacsu (x : Site) (aa dx dy : Nat) (s : State) : Out := .next (s.issueOn x.core (siteMac x { op := .macsu, aa := aa, dx := dx, dy := dy }))

/-- MPY2: AA = the pair sum of halves << 32 (R223, R224). -/
def execMpy2 (x : Site) (aa dx dy : Nat) (s : State) : Out := .next (s.issueOn x.core (siteMac x { op := .mpy2, aa := aa, dx := dx, dy := dy }))

/-- MAC2: AA += the pair sum (R223, R224). -/
def execMac2 (x : Site) (aa dx dy : Nat) (s : State) : Out := .next (s.issueOn x.core (siteMac x { op := .mac2, aa := aa, dx := dx, dy := dy }))

/-- MSU2: AA −= the pair sum (R223, R224). -/
def execMsu2 (x : Site) (aa dx dy : Nat) (s : State) : Out := .next (s.issueOn x.core (siteMac x { op := .msu2, aa := aa, dx := dx, dy := dy }))

/-- ACLR: AA = 0 (R223). -/
def execAclr (x : Site) (aa : Nat) (s : State) : Out := .next (s.issueOn x.core (siteMac x { op := .aclr, aa := aa }))

/-- AADD: AA += DX << IMM (R223). -/
def execAadd (x : Site) (aa dx imm : Nat) (s : State) : Out := .next (s.issueOn x.core (siteMac x { op := .aadd, aa := aa, dx := dx, imm := imm }))

/-- ASHR: AA >>= IMM, arithmetic (R223). -/
def execAshr (x : Site) (aa imm : Nat) (s : State) : Out := .next (s.issueOn x.core (siteMac x { op := .ashr, aa := aa, imm := imm }))

/-- ASHL: AA <<= IMM, saturating (R223, R224). -/
def execAshl (x : Site) (aa imm : Nat) (s : State) : Out := .next (s.issueOn x.core (siteMac x { op := .ashl, aa := aa, imm := imm }))

/-- AMOV: AA = the accumulator named in bits 22:20 (R223). -/
def execAmov (x : Site) (aa src : Nat) (s : State) : Out := .next (s.issueOn x.core (siteMac x { op := .amov, aa := aa, dx := src }))

/-- SAT: DD = the store value of AA (R225). -/
def execSat (x : Site) (dd aa : Nat) (s : State) : Out := .next (s.issueOn x.core (siteMac x { op := .sat, dd := dd, aa := aa }))

/-- ARDL: DD = AA[31:0]. -/
def execArdl (x : Site) (dd aa : Nat) (s : State) : Out := .next (s.issueOn x.core (siteMac x { op := .ardl, dd := dd, aa := aa }))

/-- ARDH: DD = AA[63:32]. -/
def execArdh (x : Site) (dd aa : Nat) (s : State) : Out := .next (s.issueOn x.core (siteMac x { op := .ardh, dd := dd, aa := aa }))

/-- ARDG: DD = AA[71:64], sign-extended. -/
def execArdg (x : Site) (dd aa : Nat) (s : State) : Out := .next (s.issueOn x.core (siteMac x { op := .ardg, dd := dd, aa := aa }))

/-- AWRL: AA[31:0] = DX. -/
def execAwrl (x : Site) (aa dx : Nat) (s : State) : Out := .next (s.issueOn x.core (siteMac x { op := .awrl, aa := aa, dx := dx }))

/-- AWRH: AA[63:32] = DX. -/
def execAwrh (x : Site) (aa dx : Nat) (s : State) : Out := .next (s.issueOn x.core (siteMac x { op := .awrh, aa := aa, dx := dx }))

/-- AWRG: AA[71:64] = DX[7:0]. -/
def execAwrg (x : Site) (aa dx : Nat) (s : State) : Out := .next (s.issueOn x.core (siteMac x { op := .awrg, aa := aa, dx := dx }))

/-- LD: a word into D (R226 to R228). -/
def execLd (x : Site) (reg pn mode off : Nat) (s : State) : Out :=
  .next (s.issueOn x.core (siteAu x { op := .ld, reg := reg, pn := pn, mode := mode, off := off }))

/-- ST: D to a word (R226 to R228). -/
def execSt (x : Site) (reg pn mode off : Nat) (s : State) : Out :=
  .next (s.issueOn x.core (siteAu x { op := .st, reg := reg, pn := pn, mode := mode, off := off }))

/-- STS: the store value of an accumulator to a word (R226 to R228). -/
def execSts (x : Site) (reg pn mode off : Nat) (s : State) : Out :=
  .next (s.issueOn x.core (siteAu x { op := .sts, reg := reg, pn := pn, mode := mode, off := off }))

/-- LDH: a signed halfword into D[31:16] (R226 to R228). -/
def execLdh (x : Site) (reg pn mode off : Nat) (s : State) : Out :=
  .next (s.issueOn x.core (siteAu x { op := .ldh, reg := reg, pn := pn, mode := mode, off := off }))

/-- STH: D[31:16] to a halfword (R226 to R228). -/
def execSth (x : Site) (reg pn mode off : Nat) (s : State) : Out :=
  .next (s.issueOn x.core (siteAu x { op := .sth, reg := reg, pn := pn, mode := mode, off := off }))

/-- LDP: a word into a pointer (R226 to R228). -/
def execLdp (x : Site) (reg pn mode off : Nat) (s : State) : Out :=
  .next (s.issueOn x.core (siteAu x { op := .ldp, reg := reg, pn := pn, mode := mode, off := off }))

/-- BR: PC = PC + disp after two delay slots (R229). -/
def execBr (x : Site) (disp : Nat) (s : State) : Out := .next (s.issueOn x.core (siteCtl x { op := .br, imm := disp }))

/-- CALL: RA = PC + 3 and PC = PC + disp (R229). -/
def execCall (x : Site) (disp : Nat) (s : State) : Out := .next (s.issueOn x.core (siteCtl x { op := .call, imm := disp }))

/-- RET: PC = RA; the RET to the runtime ends the kernel (R229, R238). -/
def execRet (x : Site) (s : State) : Out := .next (s.issueOn x.core (siteCtl x { op := .ret }))

/-- RETI: PC = IRA, and ST = IST after the delay slots (R229, R233). -/
def execReti (x : Site) (s : State) : Out := .next (s.issueOn x.core (siteCtl x { op := .reti }))

/-- BZ: branch if D = 0 (R229). -/
def execBz (x : Site) (d disp : Nat) (s : State) : Out := .next (s.issueOn x.core (siteCtl x { op := .bz, d := d, imm := disp }))

/-- BNZ: branch if D ≠ 0 (R229). -/
def execBnz (x : Site) (d disp : Nat) (s : State) : Out := .next (s.issueOn x.core (siteCtl x { op := .bnz, d := d, imm := disp }))

/-- BLTZ: branch if D < 0 (R229). -/
def execBltz (x : Site) (d disp : Nat) (s : State) : Out := .next (s.issueOn x.core (siteCtl x { op := .bltz, d := d, imm := disp }))

/-- BGEZ: branch if D ≥ 0 (R229). -/
def execBgez (x : Site) (d disp : Nat) (s : State) : Out := .next (s.issueOn x.core (siteCtl x { op := .bgez, d := d, imm := disp }))

/-- LOOP0: a hardware loop counted by D[15:0] (R231). -/
def execLoop0 (x : Site) (d len : Nat) (s : State) : Out := .next (s.issueOn x.core (siteCtl x { op := .loop0, d := d, len := len }))

/-- LOOP1: a hardware loop counted by D[15:0] (R231). -/
def execLoop1 (x : Site) (d len : Nat) (s : State) : Out := .next (s.issueOn x.core (siteCtl x { op := .loop1, d := d, len := len }))

/-- LOOPI0: a hardware loop of an immediate count (R231). -/
def execLoopi0 (x : Site) (count len : Nat) (s : State) : Out := .next (s.issueOn x.core (siteCtl x { op := .loopi0, imm := count, len := len }))

/-- LOOPI1: a hardware loop of an immediate count (R231). -/
def execLoopi1 (x : Site) (count len : Nat) (s : State) : Out := .next (s.issueOn x.core (siteCtl x { op := .loopi1, imm := count, len := len }))

/-- MOVS: special = D (R230). -/
def execMovs (x : Site) (d special : Nat) (s : State) : Out := .next (s.issueOn x.core (siteCtl x { op := .movs, d := d, imm := special }))

/-- MOVD: D = special (R230). -/
def execMovd (x : Site) (d special : Nat) (s : State) : Out := .next (s.issueOn x.core (siteCtl x { op := .movd, d := d, imm := special }))

/-- EI: ST.IE = 1 (R229). -/
def execEi (x : Site) (s : State) : Out := .next (s.issueOn x.core (siteCtl x { op := .ei }))

/-- DI: ST.IE = 0 (R229). -/
def execDi (x : Site) (s : State) : Out := .next (s.issueOn x.core (siteCtl x { op := .di }))

/-- HALT: the core stops, in bench mode only (R229, R234). -/
def execHalt (x : Site) (s : State) : Out := .next (s.issueOn x.core (siteCtl x { op := .halt }))

/-- INTERRUPT_ENTRY: core k takes an interrupt at a bundle boundary, when it may (R232). -/
def execInterruptEntry (k : Nat) (s : State) : Out :=
  let m := s.core k
  .next (if m.interruptible && s.clusterRuns (k / 16) then s.setCore k m.enter else s)

/-- KERNEL_BUDGET_END: the kernel of core k has spent its budget before completing: it ends, its outputs are zero, the overrun
counts against the node, the cluster and as an error of class CONTAINED (R26, R216, R238). -/
def execKernelBudgetEnd (k : Nat) (s : State) : Out :=
  let m := s.core k
  if m.mode = .service ∧ m.act.budget ≤ m.act.spent ∧ s.clusterRuns (k / 16) = true then
    let node := m.act.node
    let s := s.activationEnd k false
    let s := s.setNode node { s.node node with overruns := (s.node node).overruns + 1 }
    let s := (s.bump (Fld.MILLC_OVERRUN_COUNT (k / 16))).contained
    .next (s.postLimited (bits s.audio.cfg 0 6) 0x09 0x82 node false 1 (m.act.tick % 2 ^ 32))
  else .next s

/-! ### Loading kernels (R214, R215, R239) -/

/-- The header of a kernel image and its code. -/
def State.readKernel (s : State) (base : Nat) : Kernel :=
  let f (off n : Nat) := bytesNat (s.dram.readList (base + off) n)
  { id := f 4 4, codeLen := f 8 4, dataLen := f 12 4, latency := f 16 2, inputs := f 18 1, outputs := f 19 1, domains := f 20 1,
    budget := f 24 4, entry := f 28 4, code := s.dram.readList (base + 64) (Nat.min 32768 (f 8 4)) }

/-- A reserved field of the header is set, or MAGIC is wrong. -/
def State.kernelReserved (s : State) (base : Nat) : Bool :=
  let f (off n : Nat) := bytesNat (s.dram.readList (base + off) n)
  decide (f 0 4 ≠ 0x4B4E4C4D) || decide (16 ≤ f 18 1) || decide (16 ≤ f 19 1) || decide (8 ≤ f 20 1) || decide (f 21 3 ≠ 0) ||
    decide (f 32 16 ≠ 0)

/-- A header field is outside its range. -/
def Kernel.outOfRange (g : Kernel) : Bool :=
  decide (g.id = 0) || decide (g.codeLen < 16) || decide (32768 < g.codeLen) || decide (g.codeLen % 16 ≠ 0) ||
  decide (65536 < g.dataLen) || decide (g.dataLen % 64 ≠ 0) || decide (48000 < g.latency) || decide (g.inputs = 0) ||
  decide (8 < g.inputs) || decide (g.outputs = 0) || decide (8 < g.outputs) || decide (g.domains = 0) || decide (g.budget = 0) ||
  decide (250000 < g.budget) || decide (g.entry % 16 ≠ 0) || decide (g.codeLen ≤ g.entry)

/-- Bytes of kernel code loaded in cluster c. -/
def State.kernelBytes (s : State) (c : Nat) : Nat := sumBy (fun k => (s.kernel c k).codeLen) (List.range 8)

/-- A program has a CUSTOM node on a cluster's slot. -/
def Prog.usesSlot (p : Prog) (c slot : Nat) : Bool :=
  p.nodes.any (fun n => match n.kind with
    | .custom cl sl _ _ _ => decide (cl = c) && decide (sl = slot)
    | .source _ | .sink _ | .gain _ | .mix _ | .mixMinus | .eq _ | .gate _ | .limiter _ | .delay _ | .bridge | .meter _ _ _ => false)

/-- The DIGEST of an image matches (R178, R214): bytes 48 to 63 are the first 16 of SHA-256 over it with them zero. -/
def imageDigestOk (img : List Byte) : Bool :=
  let h := Config.sha256 (img.take 48 ++ zeros 16 ++ img.drop 64)
  decide ((beBytes 32 h.toNat).take 16 = (img.drop 48).take 16)

/-- Why a kernel command is rejected (R215). -/
def State.kernelErr (s : State) (c op slot : Nat) : Option Err :=
  let base := s.rd64 (Reg.MILLC_KBASE_LO c)
  let g := s.readKernel base
  if s.twinJunior then some .twin
  else if op = 1 then
    if s.kernelReserved base then some .reserved
    else if g.outOfRange then some .range
    else if imageDigestOk (s.dram.readList base (64 + g.codeLen)) = false then some .conflict
    else if 32768 < s.kernelBytes c + g.codeLen then some .noslot
    else if (s.kernel c slot).id ≠ 0 then some .state
    else none
  else if s.audio.active.usesSlot c slot || (s.audio.shadow.map (fun p => p.usesSlot c slot)).getD false then some .state
  else none

/-- A write of MILLC_KCMD; a rejected command stands in its result and in PG_LAST_ERR (R39). -/
def State.kernelCmdWrite (s : State) (c : Nat) (w : Word) : State :=
  s.checked (Reg.MILLC_KCMD c) w
    (fun s => if s.on (Fld.MILLC_KRESULT_VALID c) then none else some .busy)
    (fun s =>
      let op := bits w 0 4
      let slot := bits w 4 3
      let e := s.kernelErr c op slot
      let base := s.rd64 (Reg.MILLC_KBASE_LO c)
      let g := s.readKernel base
      let s := match e with
        | some x => s.reject (Reg.MILLC_KCMD c) x
        | none =>
          if op = 1 then s.record (.image true (c * 8 + slot) base (64 + g.codeLen) g.id (s.dram.readList base (64 + g.codeLen)))
          else s.record (.write (Reg.MILLC_KCMD c) w.toNat s.ltick)
      let s := s.unvalid (Reg.MILLC_KRESULT c)
      { s with kernelCmd := s.kernelCmd.set (fun _ => none) c (some ⟨op, slot, (e.map Err.code).getD 0, g⟩) })

/-- KERNEL_LOAD: the host loads a kernel slot. -/
def execKernelLoad (c slot : Nat) (s : State) : Out :=
  if c < 8 ∧ slot < 8 then .next (s.kernelCmdWrite c (BitVec.ofNat 32 (slot * 16 + 1))) else .next s

/-- KERNEL_UNLOAD: the host unloads a kernel slot. -/
def execKernelUnload (c slot : Nat) (s : State) : Out :=
  if c < 8 ∧ slot < 8 then .next (s.kernelCmdWrite c (BitVec.ofNat 32 (slot * 16 + 2))) else .next s

/-- The kernel area of the cluster's cores holds the loaded kernels, one after another in slot order. -/
def State.placeKernels (s : State) (c : Nat) : State :=
  let place (k : Nat) := 0x800 + sumBy (fun j => (s.kernel c j).codeLen) (List.range k) / 16
  let s := forUpTo 8 (fun k (t : State) =>
    let g := t.kernel c k
    if g.id = 0 then t else { t with kernels := t.kernels.set (fun _ => {}) (c * 8 + k) { g with place := place k } }) s
  forUpTo 16 (fun i (t : State) =>
    let m := t.core (c * 16 + i)
    let kept := m.prog.filter (fun e => decide (e.1 < 0x8000))
    let prog := (List.range 8).foldl (fun (p : Memory) k => Memory.writeList p ((t.kernel c k).place * 16) (t.kernel c k).code) kept
    t.setCore (c * 16 + i) { m with prog := prog }) s

/-- KERNEL_LOAD_DONE: the command of cluster c ends: MILLC_KRESULT is posted, and an accepted LOAD or UNLOAD has taken effect
(R217, R239). -/
def execKernelLoadDone (c : Nat) (s : State) : Out :=
  match s.kernelCmd.get (fun _ => none) c with
  | none => .next s
  | some q =>
    let s := { s with kernelCmd := s.kernelCmd.set (fun _ => none) c none }
    let g : Kernel := if q.op = 1 then q.kernel else {}
    let s := if q.status = 0 then
        let s := { s with kernels := s.kernels.set (fun _ => {}) (c * 8 + q.slot) g }
        let s := s.put (Fld.MILLC_KIDk_ID c q.slot) g.id
        (s.put (Fld.MILLC_KCODE_BYTES c) (s.kernelBytes c)).placeKernels c
      else s
    let s := s.postResult (Reg.MILLC_KRESULT c) (q.op * 256 + q.status)
    let s := s.event (millPage c) 1
    .next (if q.op = 1 ∧ q.status = 0 then s.post (bits s.audio.cfg 0 6) 0x09 0x83 (c + q.slot * 16) g.id else s)

/-- A kernel is copied to a free slot of another cluster, with its code (R215, R458). -/
def State.copyKernel (s : State) (c slot c' slot' : Nat) : State :=
  let g := s.kernel c slot
  let s := { s with kernels := s.kernels.set (fun _ => {}) (c' * 8 + slot') g }
  let s := s.put (Fld.MILLC_KIDk_ID c' slot') g.id
  (s.put (Fld.MILLC_KCODE_BYTES c') (s.kernelBytes c')).placeKernels c'

/-- The cores of cluster c get their runtime and kernels again, from the device's copies (R215, R240): what bench code wrote to program memory goes. -/
def State.reloadCores (s : State) (c : Nat) : State :=
  let s := forUpTo 16 (fun i (t : State) => t.setCore (c * 16 + i) { t.core (c * 16 + i) with prog := [] }) s
  let s := forUpTo 8 (fun k (t : State) => t.put (Fld.MILLC_KIDk_ID c k) (t.kernel c k).id) s
  (s.put (Fld.MILLC_KCODE_BYTES c) (s.kernelBytes c)).placeKernels c

/-! ### Bench registers (R240) -/

/-- A write of MILLC_BENCH_SEL. -/
def State.benchSelWrite (s : State) (c : Nat) (w : Word) : State :=
  s.checked (Reg.MILLC_BENCH_SEL c) w
    (fun s =>
      if bit w 31 && decide (s.get (Fld.PG_STATUS_SERVICE (millPage c)) ≠ 1) then some .state
      else if s.on (Fld.MILLC_BENCH_SEL_ENABLE c) && decide (bits w 0 4 ≠ s.get (Fld.MILLC_BENCH_SEL_CORE c)) then some .state
      else none)
    (fun s =>
      let s := if !bit w 31 && decide (s.get (Fld.MILLC_BENCH_STATUS_STATE c) = 1) then s.benchStop c 2 0 else s
      s.applyWrite (Reg.MILLC_BENCH_SEL c) w)

/-- BENCH_ENABLE: MILLC_BENCH_SEL written. -/
def execBenchEnable (c core : Nat) (enable : Bool) (s : State) : Out :=
  if c < 8 ∧ core < 16 then .next (s.benchSelWrite c (BitVec.ofNat 32 (b2n enable * 2 ^ 31 + core))) else .next s

/-- A write of MILLC_BENCH_CMD: START, HALT or MBX. -/
def State.benchCmdWrite (s : State) (c : Nat) (w : Word) : State :=
  let running (s : State) := decide (s.get (Fld.MILLC_BENCH_STATUS_STATE c) = 1)
  s.checked (Reg.MILLC_BENCH_CMD c) w
    (fun s =>
      if !s.on (Fld.MILLC_BENCH_SEL_ENABLE c) then some .state
      else if bits w 0 2 = 1 ∧ running s = true then some .state else none)
    (fun s =>
      let k := s.benchCore c
      let m := s.core k
      if bits w 0 2 = 1 then
        let m := { m.cleared with pc := s.get (Fld.MILLC_BENCH_PC_PC c), mode := .bench }
        let s := s.setCore k (m.setS spBREM (s.rd (Reg.MILLC_BENCH_BUDGET c)))
        (s.put (Fld.MILLC_BENCH_STATUS_STATE c) 1).put (Fld.MILLC_BENCH_STATUS_CAUSE c) 0
      else if bits w 0 2 = 2 then (if running s then s.benchStop c 2 0 else s)
      else s.setCore k (m.setS spICAUSE (putBits (m.sReg spICAUSE) 1 1 1)))

/-- BENCH_START. -/
def execBenchStart (c : Nat) (s : State) : Out := if c < 8 then .next (s.benchCmdWrite c 1) else .next s
/-- BENCH_HALT. -/
def execBenchHalt (c : Nat) (s : State) : Out := if c < 8 then .next (s.benchCmdWrite c 2) else .next s
/-- BENCH_MBX. -/
def execBenchMbx (c : Nat) (s : State) : Out := if c < 8 then .next (s.benchCmdWrite c 3) else .next s

/-! ### BAR0 slots of the cores (R241) -/

/-- A rejected write of a memory slot is posted to the cluster's page. -/
def State.coreSlotErr (s : State) (c off : Nat) (e : Err) : State := s.postErr (millPage c) (off % 4096) e.code

/-- MILL_SLOT_WRITE: the host writes a word at an offset of core k's slot: data memory, or program memory as MILLC_WIN
selects. -/
def execMillSlotWrite (k off : Nat) (w : Word) (s : State) : Out :=
  let c := k / 16
  let m := s.core k
  if ¬ (k < 128 ∧ off < 0x20000) then .next s
  else if off % 4 ≠ 0 then .next (s.coreSlotErr c off .align)
  else if s.linked (millPage c) = false then .next (s.coreSlotErr c off .state)
  else if bit (s.rd (Reg.MILLC_WIN c)) (k % 16) = false then
    .next (s.setCore k { m with data := m.data.writeList off (natBytes 4 w.toNat) })
  else if 0x10000 ≤ off then .next (s.coreSlotErr c off .range)
  else if s.inBench k then .next (s.setCore k { m with prog := m.prog.writeList off (natBytes 4 w.toNat) })
  else if off < 0x8000 then .next (s.coreSlotErr c off .priv)
  else .next (s.coreSlotErr c off .state)

/-- Each running core issues the bundle at its PC, takes an interrupt it may take, or ends a kernel that has spent its budget: what
time does to a core while no command waits. -/
def State.coresRun (s : State) : State :=
  forEach (s.mill.keys) (fun k (s : State) =>
    let m := s.core k
    if m.mode = .idle || !s.clusterRuns (k / 16) then s
    else if m.interruptible then s.setCore k m.enter
    else if m.mode = .service ∧ m.act.budget ≤ m.act.spent then
      match execKernelBudgetEnd k s with
      | .next t => t
      | .fault _ | .refused _ => s
    else s.issueOn k (m.landTo m.n).fetch) s

end Sys2Proof.Machine
end

