-- ==== Sys2Proof/Machine/ReeveBase.lean ====
section
/-! DEFINITION. Reeve's slots (spec/15_reeve_dispatch.md, R297 to R303, R308, R309): submission, back-pressure, readiness,
leases, the choice of an engine, and cancellation. What a task computes and delivers stands with its owner. -/

namespace Sys2Proof.Machine

/-- Base of the REEVE page. -/
def reevePage : Nat := 0x90000

/-! ### Engines -/

/-- The page of an engine by its code of R311. -/
def enginePage (e : Nat) : Nat :=
  let n := e % 256
  if e / 256 = 0 then 0x70000 + n * 0x1000
  else if e / 256 = 1 then 0x80000 + n * 0x1000
  else if e / 256 = 2 then 0x88000 + n * 0x1000
  else millPage (n / 16)

/-- Every engine, in engine order (R301). -/
def allEngines : List Nat :=
  List.range 16 ++ (List.range 8).map (· + 256) ++ (List.range 4).map (· + 512) ++ (List.range 128).map (· + 768)

/-- The SRTP engine and the cipher unit among the tested engines (R452): no task runs on them. -/
def srtpUnit : Nat := 1024
def cipherUnit : Nat := 1280

/-- The engines with a known-answer test (R452). -/
def testedEngines : List Nat := allEngines ++ [srtpUnit, cipherUnit]

/-- The cluster of an engine; the four CMPs count as one group (R302). -/
def engineCluster (e : Nat) : Nat :=
  let n := e % 256
  if e / 256 = 0 then n / 2 else if e / 256 = 1 then n else if e / 256 = 2 then 0 else n / 16

def State.eng (s : State) (e : Nat) : Engine := s.reeve.engines.get (fun _ => {}) e
def State.setEng (s : State) (e : Nat) (x : Engine) : State :=
  { s with reeve := { s.reeve with engines := s.reeve.engines.set (fun _ => {}) e x } }

/-- The Weir port and identity of an engine (R377). -/
def engineIdent (e : Nat) : Nat × Nat :=
  let n := e % 256
  if e / 256 = 0 then (2 + n / 2, n % 2) else if e / 256 = 1 then (2 + n, 2) else if e / 256 = 2 then (10, n) else (2 + n / 16, 16 + n % 16)

/-- A fence of an identity, or of a whole port, takes effect (R379); an identity fenced again keeps its fence. -/
def State.weirFence (s : State) (port : Nat) (ident : Option Nat) : State :=
  if s.weir.fences.any (fun f => decide (f.port = port) && decide (f.ident = ident)) then s
  else
    let s := { s with weir := { s.weir with fences := s.weir.fences ++ [(⟨port, ident, false, 0, s.now⟩ : Fence)] } }
    s.bump Fld.WEIR_FENCES_COUNT

/-- A fence is lifted: the engine is back in service, or the port repaired (R379). -/
def State.weirLift (s : State) (port : Nat) (ident : Option Nat) : State :=
  { s with weir := { s.weir with fences := s.weir.fences.filter (fun f => !(decide (f.port = port) && decide (f.ident = ident))) } }

/-- Every task in a slot. -/
def State.tasks (s : State) : List (Nat × Task) := s.reeve.slots.filterMap (fun p => p.2.map (fun t => (p.1, t)))
def State.task (s : State) (i : Nat) : Option Task := s.reeve.slots.get (fun _ => none) i
def State.setTask (s : State) (i : Nat) (t : Option Task) : State :=
  { s with reeve := { s.reeve with slots := s.reeve.slots.set (fun _ => none) i t } }
def State.modTask (s : State) (i : Nat) (f : Task → Task) : State := s.setTask i ((s.task i).map f)

/-- The engine may be given work: IN_SERVICE, its clock running, not quiescing, not reset or fenced, and running nothing (R302, R306, R432). -/
def State.engineIdle (s : State) (e : Nat) : Bool :=
  let x := s.eng e
  x.slot.isNone && !x.resetting && x.fenced.isNone && !x.retired && s.linked (enginePage e) && decide (s.get (Fld.PG_STATUS_SERVICE (enginePage e)) = 0) &&
    !s.on (Fld.PG_CTRL_QUIESCE (enginePage e))

/-- The engine type a task runs on (R297). -/
def Task.engineType (t : Task) : Nat :=
  match t.typ with
  | .decodePic => 0
  | .encodePic => 1
  | .compose | .scale => 2
  | .audioTick | .audioCodec | .customKernel => 3

/-- The engine may run the task (R297, R306). -/
def Task.mayRun (t : Task) (e : Nat) : Bool :=
  decide (e / 256 = t.engineType) && !t.excl.contains e && (decide (e / 256 ≠ 3) || decide (t.flow = 6144 + 256 * engineCluster e + t.flow % 256))

/-- A task holds its leases while it runs (R303). -/
def Task.holds (t : Task) : Bool := decide (t.state = .running) || t.cancelledRun

/-- A task awaits its leases. -/
def Task.awaits (t : Task) : Bool := decide (t.state = .waiting) || decide (t.state = .ready)

/-- The counts REEVE shows. -/
def State.showReeve (s : State) : State :=
  let l := s.tasks.map (·.2)
  let n := l.length
  let s := s.put Fld.REEVE_SLOTS_USED n
  let s := if s.get Fld.REEVE_SLOTS_PEAK < n then s.put Fld.REEVE_SLOTS_PEAK n else s
  let s := s.put Fld.REEVE_LEASES_HELD (sumBy (fun (t : Task) => if t.holds then t.leases.length else 0) l)
  let s := forUpTo 5 (fun p s => s.put (Fld.REEVE_PORTn_STATUS_USED p) (l.filter (fun t => decide (t.port = p))).length) s
  forUpTo 8 (fun k s =>
    let here := l.filter (fun t => decide (t.level = k))
    (s.put (Fld.REEVE_LEVELk_READY k) (here.filter (fun t => decide (t.state = .ready))).length).put (Fld.REEVE_LEVELk_RUNNING k)
      (here.filter (fun t => decide (t.state = .running))).length) s

/-! ### Submission (R298, R309) -/

/-- Slots a port holds. -/
def State.portUsed (s : State) (p : Nat) : Nat := (s.tasks.filter (fun t => decide (t.2.port = p))).length

/-- The port may take one more slot (R309); none while Reeve quiesces. -/
def State.portMay (s : State) (p : Nat) : Bool :=
  let u := s.portUsed p
  let unused := sumBy (fun q => s.get (Fld.REEVE_PORTn_CFG_RES q) - s.portUsed q) (List.range 5)
  !s.quiescing reevePage && (decide (u < s.get (Fld.REEVE_PORTn_CFG_RES p)) ||
    (decide (u < s.get (Fld.REEVE_PORTn_CFG_CAP p)) && decide (s.tasks.length + unused < 4096)))

/-- The lowest number at or above k that a rising list of keys does not list. -/
def firstGap : Nat → List Nat → Nat
  | k, [] => k
  | k, i :: t => if i = k then firstGap (k + 1) t else k

/-- The task takes a slot: its FSEQ is the flow's next (R298). -/
def State.placeTask (s : State) (t : Task) : State :=
  let i := firstGap 0 (s.reeve.slots.keys)
  let q := s.reeve.nextSeq.get (fun _ => 0) t.flow
  let t := { t with fseq := q, order := s.reeve.nextOrder, submit := s.shortTime }
  let r := { s.reeve with slots := s.reeve.slots.set (fun _ => none) i (some t),
                          nextSeq := s.reeve.nextSeq.set (fun _ => 0) t.flow ((q + 1) % 65536), nextOrder := s.reeve.nextOrder + 1 }
  { s with reeve := r }

/-- A producer submits a task: a port that can take no slot stalls and keeps it, in order (R309); the TICK port keeps its tasks
in the sequencer's own memory and never stalls. None submits while the device is not ACTIVE (R440). -/
def State.submitTask (s : State) (t : Task) : State :=
  if s.mediaOff then s else
  let held := s.reeve.stalled.get (fun _ => []) t.port
  if held = [] ∧ s.portMay t.port = true then (s.placeTask t).showReeve
  else
    let s := if t.port = 0 then s else s.bump (Fld.REEVE_PORTn_STATUS_STALLS t.port)
    { s with reeve := { s.reeve with stalled := s.reeve.stalled.set (fun _ => []) t.port (held ++ [t]) } }

/-- Stalled submissions take freed slots, the port with the lower number first (R310). -/
def State.drainStalled (s : State) : Nat → State
  | 0 => s
  | fuel + 1 =>
    match (List.range 5).find? (fun p => decide (s.reeve.stalled.get (fun _ => []) p ≠ []) && s.portMay p) with
    | none => s
    | some p =>
      match s.reeve.stalled.get (fun _ => []) p with
      | [] => s
      | t :: rest =>
        let s := { s with reeve := { s.reeve with stalled := s.reeve.stalled.set (fun _ => []) p rest } }
        State.drainStalled (s.placeTask t) fuel

/-! ### The rows of R297 -/

/-- The flow of a Mill task of cluster c. -/
def millFlow (c n : Nat) : Nat := 6144 + 256 * c + n % 256

/-- The level of a task by its type; live ECOMPs and leg codecs have the higher one of two. -/
def taskLevel (t : TaskType) (second : Bool) : Nat :=
  match t with
  | .audioTick | .customKernel => 0
  | .audioCodec => if second then 5 else 1
  | .encodePic => if second then 6 else 2
  | .compose => 3
  | .decodePic | .scale => 4

/-! ### Readiness (R300, R303) -/

/-- A task's lease is free (R303). -/
def State.leaseFree (s : State) (t : Task) (r : Nat × Bool) : Bool :=
  s.tasks.all (fun p =>
    let u := p.2
    let earlier := decide (u.order < t.order)
    if u.order = t.order then true
    else if r.2 then
      !((u.holds && u.leases.contains (r.1, true)) || (u.awaits && earlier && u.leases.any (fun x => decide (x.1 = r.1))))
    else !(earlier && (u.holds || u.awaits) && u.leases.contains (r.1, true)))

/-- The oldest unreleased FSEQ of a flow, by submission order. -/
def State.flowHead (s : State) (flow : Nat) : Option (Nat × Task) :=
  (sortBy (fun p => p.2.order) (s.tasks.filter (fun p => decide (p.2.flow = flow)))).head?

/-- A task has finished and its work is complete. -/
def Task.finished (t : Task) : Bool := decide (t.state = .held) || decide (t.state = .failed) || decide (t.state = .cancelled)

/-- A task not released whose hard limit has not passed yet; a result HELD behind a late head is late too (R305). -/
def Task.timed (t : Task) : Bool := !t.late && !t.cancelledRun && decide (t.state ≠ .failed) && decide (t.state ≠ .cancelled)

/-- The inputs of a task are present (R300 point 3): graph stages by stage and tick, an encode batch the graph of the tick before,
an encode its composition or the due boundary. -/
def State.inputsPresent (s : State) (t : Task) : Bool :=
  let l := s.tasks.map (·.2)
  let graph (u : Task) := decide (u.typ = .audioTick) || decide (u.typ = .customKernel)
  match t.work with
  | .encode tick _ => !l.any (fun u => graph u && decide (u.tick + 1 = tick) && !u.finished)
  | .encodePic _ _ =>
    decide (t.stage ≤ s.lnow) ||
      !l.any (fun u => decide (u.typ = .compose) && decide (u.key = t.dep) && decide (u.tick = t.tick) && !u.finished)
  | .none | .confBus _ _ | .program _ _ | .confOut _ _ | .kernel _ _ | .decode _ _ | .player _ _ | .picture _ _ | .scale _ _
  | .compose _ _ => !(graph t && l.any (fun u => graph u && decide (u.tick = t.tick) && decide (u.stage < t.stage) && !u.finished))

/-- A WAITING task becomes READY (R300); one of a key moved to another cluster awaits the copy of its context (R458). -/
def State.mayReady (s : State) (t : Task) : Bool :=
  let headSeq := match s.flowHead t.flow with | some p => p.2.fseq | none => t.fseq
  decide (t.start ≤ s.lnow) && !s.svc.copying.any (fun x => decide (x.1 = t.flow)) && decide ((t.fseq + 65536 - headSeq) % 65536 < 64) && s.inputsPresent t && t.leases.all (s.leaseFree t)

/-- Tasks that become READY in one cycle join their level by flow, then by FSEQ (R300). -/
def State.makeReady (s : State) : State :=
  let due := s.tasks.filter (fun p => decide (p.2.state = .waiting) && s.mayReady p.2)
  forEach (sortBy (fun p => p.2.flow * 65536 + p.2.fseq) due) (fun p s =>
    let n := s.reeve.nextRank
    let s := { s with reeve := { s.reeve with nextRank := n + 1 } }
    s.modTask p.1 (fun t => { t with state := .ready, rank := (n : Int) })) s

/-! ### The choice of an engine (R301, R302) -/

/-- How many of the listed engines are in a cluster. -/
def clusterCount (l : List Nat) (c : Nat) : Nat := (l.filter (fun e => decide (engineCluster e = c))).length

/-- The engine Reeve chooses for a task among those idle. -/
def State.chooseEngine (s : State) (t : Task) (idle : List Nat) : Option Nat :=
  let may := idle.filter t.mayRun
  match may.find? (fun e => decide ((s.eng e).lastFlow = some t.flow)) with
  | some e => some e
  | none =>
    let best := may.foldl (fun b e => Nat.max b (clusterCount may (engineCluster e))) 0
    may.find? (fun e => decide (clusterCount may (engineCluster e) = best))

/-- READY tasks in the order Reeve considers them. -/
def State.readyOrder (s : State) : List (Nat × Task) :=
  let l := s.tasks.filter (fun p => decide (p.2.state = .ready))
  let base : Int := (s.reeve.headRank : Int)
  sortBy (fun p => p.2.level * 2 ^ 64 + (p.2.rank + base).toNat) l

/-- An engine takes a task. -/
def State.takeTask (s : State) (i e : Nat) : State :=
  let s := s.setEng e { s.eng e with slot := some i, lastFlow := (s.task i).map (·.flow), since := s.now }
  s.modTask i (fun t => { t with state := .running, engine := e, attempt := Nat.max 1 t.attempt, dispatch := s.shortTime, dispatchAt := s.now })

/-- One cycle of pairing: the slots dispatched, in order, and the state. -/
def State.pair (s : State) : List Nat × State :=
  s.readyOrder.foldl (fun (a : List Nat × State) p =>
    let idle := allEngines.filter a.2.engineIdle
    match a.2.chooseEngine p.2 idle with
    | none => a
    | some e => (a.1 ++ [p.1], a.2.takeTask p.1 e)) ([], s)

/-! ### Cancellation and re-queueing (R306, R308) -/

/-- Leases of a task are revoked. -/
def State.revoke (s : State) (t : Task) : State :=
  if t.holds then s.bump Fld.REEVE_LEASES_REVOKED t.leases.length else s

/-- The tasks an object's DELETE cancels at the boundary (R308): those not dispatched, those HELD and those a stalled port still keeps are released as CANCELLED in
their turn (R309); a RUNNING one stops at its engine's next internal boundary. -/
def State.cancelTasks (s : State) (p : Task → Bool) : State :=
  let hit := s.tasks.filter (fun x => p x.2)
  let s := forEach hit (fun x s =>
    match x.2.state with
    | .running => s.modTask x.1 (fun t => { t with state := .cancelled, cancelledRun := true })
    | .waiting | .ready | .held => s.modTask x.1 (fun t => { t with state := .cancelled })
    | .cancelled | .failed => s) s
  let mark (l : List Task) := l.map (fun t => if p t then { t with state := .cancelled } else t)
  { s with reeve := { s.reeve with stalled := Sparse.mapAll (fun _ => []) (fun _ l => mark l) s.reeve.stalled } }

/-- A task goes back to READY at the head of its level (R306 step 4). -/
def State.requeue (s : State) (i : Nat) (fault : Bool) : State :=
  let n := s.reeve.headRank + 1
  let s := { s with reeve := { s.reeve with headRank := n } }
  let s := s.bump Fld.REEVE_RETRIES_COUNT
  s.modTask i (fun t => { t with state := .ready, rank := -(n : Int), attempt := if fault then t.attempt + 1 else t.attempt })

/-! ### REEVE page -/

/-- A write of REEVE_PORTn_CFG (R309). -/
def State.reevePortWrite (s : State) (n : Nat) (w : Word) : State :=
  s.checked (Reg.REEVE_PORTn_CFG n) w
    (fun s =>
      if n = 0 then some .priv
      else if bits w 16 13 < bits w 0 13 then some .range
      else if 4096 < sumBy (fun p => if p = n then bits w 0 13 else s.get (Fld.REEVE_PORTn_CFG_RES p)) (List.range 5) then some .noslot
      else none)
    (fun s => s.applyWrite (Reg.REEVE_PORTn_CFG n) w)

/-- A write of REEVE_FLOW_SEL starts a fetch. -/
def State.flowSelWrite (s : State) (w : Word) : State :=
  s.checked Reg.REEVE_FLOW_SEL w (fun _ => none) (fun s => ((s.applyWrite Reg.REEVE_FLOW_SEL w).fetchStart Reg.REEVE_FLOW_SEL).unvalid Reg.REEVE_FLOW_STATE)

/-- REEVE_FLOW_SEL. -/
def execReeveFlowSel (flow : Nat) (s : State) : Out := .next (s.flowSelWrite (BitVec.ofNat 32 flow))

/-- The fetch completes: results HELD and the FSEQ of the head, or the next to be assigned. -/
def State.flowFetch (s : State) : State :=
  let f := s.get Fld.REEVE_FLOW_SEL_FLOW
  let head := match s.flowHead f with | some p => p.2.fseq | none => s.reeve.nextSeq.get (fun _ => 0) f
  let held := (s.tasks.filter (fun p => decide (p.2.flow = f) && decide (p.2.state = .held))).length
  s.postResult Reg.REEVE_FLOW_STATE (held * 65536 + head)

end Sys2Proof.Machine
end

