-- ==== Sys2Proof/Machine/Egress.lean ====
section
/-! DEFINITION. Egress (spec/07_egress_scheduling.md, R144 to R156, R513): the release stage, the shaper's buckets, and the
departure of frames from the ports. -/

namespace Sys2Proof.Machine

/-! ### Shaper (R147, R149) -/

/-- The bucket's capacity in 10⁻⁶ bit. -/
def Shaper.cap (h : Shaper) : Nat := h.burst * 8000000

/-- The bucket brought up to instant t. -/
def Shaper.upTo (h : Shaper) (t : Nat) : Shaper :=
  if h.at_ < t then { h with tokens := Nat.min h.cap (h.tokens + h.rate * (t - h.at_)), at_ := t } else h

/-- Tokens a packet of n bytes needs: its length, or a full bucket when it is longer than BURST. -/
def Shaper.need (h : Shaper) (n : Nat) : Nat := if h.burst < n then h.cap else n * 8000000

/-- The first instant at or after t at which the bucket holds what a packet of n bytes needs: the wait is
ceil((need − tokens) ÷ rate) ns. -/
def Shaper.readyAt (h : Shaper) (t n : Nat) : Nat :=
  let g := h.upTo t
  let t := Nat.max t h.at_
  if g.need n ≤ g.tokens then t else t + ceilDiv (g.need n - g.tokens) g.rate

/-- The bucket after a packet of n bytes is released at instant t: its length is subtracted; an oversize packet leaves 0. -/
def Shaper.take (h : Shaper) (t n : Nat) : Shaper :=
  let g := h.upTo t
  { g with tokens := if g.burst < n then 0 else g.tokens - n * 8000000 }

/-- A SHAPER CREATE or MODIFY takes effect at instant t (R147). -/
def Shaper.apply (h : Shaper) (t rec : Nat) : Shaper :=
  let g := h.upTo t
  let burst := SHAPER.BURST rec
  { present := true, rate := SHAPER.RATE rec, burst := burst,
    tokens := if SHAPER.TOKEN_INIT rec = 1 then burst * 8000000 else if SHAPER.TOKEN_INIT rec = 2 then 0 else g.tokens,
    at_ := t, quantum := SHAPER.QUANTUM rec }

/-- The adaptation engine sets the running rate at instant t: burst and tokens are kept (R126, R149). -/
def Shaper.setRate (h : Shaper) (t rate : Nat) : Shaper := { h.upTo t with rate := rate }

/-! ### The release stage -/

/-- The ready instant of a packet of leg l with a release tick (R148). -/
def readyInstant (l tick : Nat) : Nat := tick * 1000000 + 500000 + (l % 500) * 1000

/-- The order of packets in a leg queue (R150): ready instant, PRIO, OSTR, media before RTX. -/
def State.pktOrder (s : State) (p : TxPkt) : Nat :=
  p.ready * 2 ^ 24 + OSTR.PRIO ((s.effRec 7 p.ostr).getD 0) * 2 ^ 20 + (p.ostr % 2 ^ 16) * 2 + (if p.kind = .rtx then 1 else 0)

/-- A waiting packet by number. -/
def State.pkt (s : State) (id : Nat) : Option TxPkt := s.pkts.get (fun _ => none) id

/-- The packet no longer waits. -/
def State.dropPkt (s : State) (id : Nat) : State := { s with pkts := s.pkts.set (fun _ => none) id none }

/-- Put a leg queue in the order of R150. -/
def State.sortLegq (s : State) (l : Nat) : State :=
  let g := s.queue l
  s.setQueue l { g with items := sortBy (fun i => match s.pkt i.tag with | some p => s.pktOrder p | none => 0) g.items }

/-- A packet of a video stream, or a retransmission of one: its leg's queue and shaper hold it (R144, R149). -/
def videoKind : PktKind → Bool
  | .audio | .rtcp => false
  | .video | .rtx => true

/-- A produced packet reaches the release stage (R148, R513): late ones are discarded with no number and no token;
audio and RTCP wait for their instant, video and RTX in the leg queue. A link OSTR's packet (R335) waits for its ready instant. Quiescing blocks on the way take none, nor
does a device that is not ACTIVE (R438, R441). -/
def State.enqueuePkt (s : State) (l : Nat) (kind : PktKind) (ostr len tick ts : Nat) (marker : Bool) (ext pay : List Byte)
    (plane : Option Nat := none) : State :=
  let ready := readyInstant l tick
  let video := videoKind kind
  if s.mediaOff || s.quiescing 0x27000 || (video && s.quiescing 0x2D000) || (s.quiescing 0x2C000 && decide (LEG.PROFILE (s.legRec l) ≠ 0)) then s
  else if ready < s.lnow then (s.bump Fld.PKTOUT_LATE_COUNT).contained
  else
    let id := s.nextPkt
    let s := { s with nextPkt := id + 1 }
    let queued := videoKind kind && decide (l < 0x4000)
    let s := if queued then s.qAppend l (len + 32) id else s
    if queued && (s.queue l).items.all (fun i => decide (i.tag ≠ id)) then s
    else
      let s := { s with pkts := s.pkts.set (fun _ => none) id (some ⟨id, l, kind, ostr, len, ready, ts, marker, ext, pay, plane⟩) }
      if queued then s.sortLegq l else s

/-- PACKET_ENQUEUE: a stage delivers a packet with its release tick; it carries no header extension. A mismatch of the leg queue's pointers resets the queue
first (R162). -/
def execPacketEnqueue (l : Nat) (kind : PktKind) (ostr len tick ts : Nat) (marker : Bool) (pay : List Byte) (mismatch : Bool) (s : State) : Out :=
  let queued := videoKind kind && decide (l < 0x4000)
  .next ((if queued then s.access l mismatch else s).enqueuePkt l kind ostr len tick ts marker [] pay)

/-- Leg l has a shaper. -/
def State.shaped (s : State) (l : Nat) : Bool := (s.leg l).shaper.present

/-- The release instant of a packet (R149). -/
def State.releaseInstant (s : State) (p : TxPkt) : Nat :=
  match p.kind with
  | .audio | .rtcp => p.ready
  | .video | .rtx => if s.shaped p.leg then (s.leg p.leg).shaper.readyAt p.ready p.len else p.ready

/-- The LANs a twin sends a plane's media on while its partner sends too (R349): with `senior` its acting role; under SPLIT each takes
the other's LAN while the last tick mark shows the other's port down. -/
def State.pairLans (s : State) (senior : Bool) (plane : Nat) : Bool × Bool :=
  let full := s.get Fld.TWIN_CFG_POLICY = 1
  let down (ports n : Nat) : Bool := decide (ports / 2 ^ n % 2 = 0)
  if full then (true, true)
  else if senior then (true, down s.twin.juniorPorts (2 * plane + 1))
  else (down s.twin.seniorPorts (2 * plane), true)

/-- The partner of a SENIOR sends (R349). -/
def State.partnerSends (s : State) : Bool :=
  let st := s.get Fld.TWIN_STATUS_STATE
  decide (st = 3) || (decide (st = 2) && decide (s.get Fld.TWIN_STATUS_PARTNER = 3))

/-- The LANs this device sends a plane's media on (R75, R349). -/
def State.ownLans (s : State) (plane : Nat) : Bool × Bool :=
  let st := s.get Fld.TWIN_STATUS_STATE
  if st = 0 ∨ st = 6 then (true, true)
  else if st = 2 then if s.partnerSends then s.pairLans true plane else (true, true)
  else if st = 3 then s.pairLans false plane
  else (false, false)

/-- The ports of a plane for a choice of LANs; a singly attached plane has LAN A only. -/
def State.lanPorts (s : State) (plane : Nat) (lans : Bool × Bool) : List Nat :=
  (if lans.1 then [2 * plane] else []) ++ (if lans.2 && s.on (Fld.PLANEn_CFG_PRP plane) then [2 * plane + 1] else [])

/-- The ports leg l's media leave on; a leg silenced on the junior goes out on both LANs of the senior (R349). -/
def State.mediaPorts (s : State) (plane l : Nat) : List Nat :=
  s.lanPorts plane (if s.get Fld.TWIN_STATUS_STATE = 2 ∧ s.twin.bothLans.contains l = true then (true, true) else s.ownLans plane)

/-- Port p's link is up. -/
def State.linkUp (s : State) (p : Nat) : Bool := s.on (Fld.ETHn_LINK_UP p)

/-- Insert a frame in release-instant order, then leg order (R152). -/
def frameInsert (f : Frame) (l : List Frame) : List Frame := insertBy (fun x => x.released * 2 ^ 16 + x.leg) f l

/-- Put a frame in departure queue q of port p; a port or scheduler that quiesces discards it as that of a link down does (R69). -/
def State.depQueue (s : State) (p q : Nat) (f : Frame) : State :=
  if s.quiescing (ethPage p) || s.quiescing (0x28000 + p * 0x1000) then
    let s := match f.item with | some i => s.unqueue (0x4000 + p) i | none => s
    s.bump (Fld.ETHn_TX_DROP_COUNT p)
  else
  let t := s.port p
  let l := t.q.get (fun _ => []) q
  s.setPort p { t with q := t.q.set (fun _ => []) q (if q = 2 ∨ q = 3 then frameInsert f l else l ++ [f]) }

/-- The departure queue of a packet (R144). -/
def State.depClass (s : State) (p : TxPkt) : Nat :=
  match p.kind with
  | .audio | .rtcp => if SHAPER.AUDIO_Q ((s.effRec 5 p.leg).getD 0) = 1 then 2 else 3
  | .video | .rtx => 4 + p.leg

/-- The marks of R74: DSCP and PCP of a class (0 CTRL, 1 VOICE, 2 VIDEO, 3 OTHER) on plane n. -/
def State.marks (s : State) (n cls : Nat) : Nat × Nat :=
  if cls = 0 then (s.get (Fld.PLANEn_QOS_DSCP_CTRL n), s.get (Fld.PLANEn_QOS_PCP_CTRL n))
  else if cls = 1 then (s.get (Fld.PLANEn_QOS_DSCP_VOICE n), s.get (Fld.PLANEn_QOS_PCP_VOICE n))
  else if cls = 2 then (s.get (Fld.PLANEn_QOS_DSCP_VIDEO n), s.get (Fld.PLANEn_QOS_PCP_VIDEO n))
  else (s.get (Fld.PLANEn_QOS_DSCP_OTHER n), s.get (Fld.PLANEn_QOS_PCP_OTHER n))

/-- The class a packet is marked with (R74); a leg's RTCP goes with its audio, as in R144 (DEDUCED, log entry 169). -/
def pktClass : PktKind → Nat
  | .audio | .rtcp => 1
  | .video | .rtx => 2

/-- The trailer of a copy for port p that is len bytes long with it (R75): LAN A is 0xA, LAN B 0xB. PRESUMED (IEC 62439-3): the LSDU size counts what follows the
Ethernet header and tag, trailer included and FCS not (log entry 169). -/
def trailerOf (p seq len : Nat) (tagged : Bool) : Trailer := ⟨seq % 65536, if p % 2 = 0 then 10 else 11, len - 18 - (if tagged then 4 else 0)⟩

/-- A frame of class CTRL that the device composes, untagged and without a trailer: its length with the FCS. -/
def State.ctrlFrame (s : State) (n len : Nat) : Frame := { len := len, released := s.now, dscp := (s.marks n 0).1 }

/-- The wire length of a copy of a packet, `cut` bytes shorter than the longer one, from the destination address to the FCS: Ethernet header and FCS, VLAN tag, PRP trailer
(R153). PRESUMED: a short frame is padded to the 64 bytes of Ethernet before its PRP trailer (log entry 166). -/
def State.wireLen (s : State) (p : TxPkt) (plane cut : Nat) : Nat :=
  let r := s.legRec p.leg
  Nat.max 64 (18 + (p.len - cut) + (if s.get (Fld.PLANEn_VLANk_VID plane (LEG.VLAN r)) = 0 then 0 else 4)) + (if s.on (Fld.PLANEn_CFG_PRP plane) then 6 else 0)

/-- The SSRC a packet is sent with. -/
def State.pktSsrc (s : State) (p : TxPkt) : Nat :=
  match p.kind with
  | .audio | .rtcp => LEG.LOCAL_SSRC (s.legRec p.leg)
  | .video => OSTR.SSRC ((s.effRec 7 p.ostr).getD 0)
  | .rtx => OSTR.RTX_SSRC ((s.effRec 7 p.ostr).getD 0)

/-- The SRTP index of the next RTP packet (RFC 3711). -/
def TxSsrc.index (x : TxSsrc) : Nat := x.roc * 65536 + x.seq

/-- Note a release of logical tick t for R358, given what the SSRC kept before it. -/
def TxSsrc.note (x before : TxSsrc) (t : Nat) : TxSsrc :=
  let first := if x.log = [] then [(t - 1, before.index, before.rtcpIndex)] else []
  let old := (x.log.filter (fun e => decide (e.1 + 64 < t))).getLast?.toList
  { x with log := old ++ x.log.filter (fun e => decide (t ≤ e.1 + 64)) ++ first ++ [(t, x.index, x.rtcpIndex)] }

/-- After an RTP packet: the sequence number advances and the rollover counter counts its wraps. -/
def TxSsrc.next (x : TxSsrc) : TxSsrc :=
  { x with seq := (x.seq + 1) % 65536, roc := if x.seq = 65535 then x.roc + 1 else x.roc }

/-- What a leg keeps for an SSRC it sends. -/
def Leg.txOf (g : Leg) (ssrc : Nat) : TxSsrc := g.tx.get (fun _ => {}) ssrc
def Leg.setTx (g : Leg) (ssrc : Nat) (x : TxSsrc) : Leg := { g with tx := g.tx.set (fun _ => {}) ssrc x }

/-- The leg's key-store context for transmission is empty (R89). -/
def State.txCtxEmpty (s : State) (r : Nat) : Bool :=
  decide (LEG.PROFILE r ≠ 0) && decide ((s.keys.get (fun _ => {}) (LEG.TX_CTX r)).state = 0)

/-- Legs in TX_STOPPED and HALTED, shown in SRTP_LEGS. -/
def State.showLegs (s : State) : State :=
  let n := (s.legs.filter (fun p => decide (p.2.state = .txStopped))).length
  let h := (s.legs.filter (fun p => decide (p.2.state = .halted))).length
  (s.put Fld.SRTP_LEGS_STOPPED n).put Fld.SRTP_LEGS_HALTED h

/-- The leg enters TX_STOPPED with an error code (R89, R102, R118). -/
def State.txStop (s : State) (l code : Nat) : State :=
  let s := s.modLeg l (fun g => { g with state := .txStopped, stopCode := code })
  let s := s.post (LEG.EVQ (s.legRec l)) 0x01 0x08 l code
  s.showLegs

/-- A packet discarded before sequence assignment and counted in TX_STOP_DROP (R516). -/
def State.txStopDropped (s : State) (l : Nat) : State := s.modLeg l (fun g => { g with txStopDrop := (g.txStopDrop + 1) % 2 ^ 32 })

/-- REKEY_SOON at SRTP index 2⁴⁷ and REKEY_SOON_RTCP at SRTCP index 2³⁰, once per SSRC and context (R102, R118). -/
def State.rekeyWarn (s : State) (l ssrc : Nat) (rtcp : Bool) : State :=
  let x := (s.leg l).txOf ssrc
  if rtcp then
    if 2 ^ 30 ≤ x.rtcpIndex ∧ x.warnedRtcp = false then
      let s := s.modLeg l (fun g => g.setTx ssrc { x with warnedRtcp := true })
      (s.post (LEG.EVQ (s.legRec l)) 0x01 0x0B l ssrc).bump Fld.SRTP_REKEY_COUNT
    else s
  else
    if 2 ^ 47 ≤ x.index ∧ x.warned = false then
      let s := s.modLeg l (fun g => g.setTx ssrc { x with warned := true })
      (s.post (LEG.EVQ (s.legRec l)) 0x01 0x07 l ssrc).bump Fld.SRTP_REKEY_COUNT
    else s

/-- An address in IPv4-mapped form (R87). -/
def isIpv4 (a : Nat) : Bool := decide (a % 2 ^ 96 = 0xFFFF * 2 ^ 80)

/-- The tag of a profile (R99): 16 bytes for the two GCM profiles, 10 for AES_CM_128_HMAC_SHA1_80. -/
def profileTag (p : Nat) : Nat := if p = 0 then 0 else if p = 3 then 10 else 16

/-- IP and UDP header and tag of a leg's packets, the larger of its two paths' (R80, R84). -/
def legOverhead (r : Nat) : Nat :=
  let ip (a : Nat) := if isIpv4 a then 20 else 40
  8 + profileTag (LEG.PROFILE r) + (if LEG.PROT r = 1 then Nat.max (ip (LEG.ADDR0 r)) (ip (LEG.ADDR1 r)) else ip (LEG.ADDR0 r))

/-- The copies of a leg's packet (R80): one, or one for each remote address of a protected leg, as the remote address and port, and how much shorter than the larger
of its IP lengths it is. -/
def pathCopies (r : Nat) : List ((Nat × Nat) × Nat) :=
  let ip (a : Nat) := if isIpv4 a then 20 else 40
  if LEG.PROT r = 1 then
    let m := Nat.max (ip (LEG.ADDR0 r)) (ip (LEG.ADDR1 r))
    [((LEG.ADDR0 r, LEG.PORT0 r), m - ip (LEG.ADDR0 r)), ((LEG.ADDR1 r, LEG.PORT1 r), m - ip (LEG.ADDR1 r))]
  else [((LEG.ADDR0 r, LEG.PORT0 r), 0)]

/-- The bytes a tap record of a packet takes (R109, R110): 32 of header, 32 of metadata, the packet, the tag, padded. -/
def tapRecordLen (r len : Nat) : Nat := roundUp (64 + len + (if REC.ENC r = 1 then 16 else 0)) 64

/-- The running taps of a kind on an object. -/
def State.tapsOn (s : State) (kind src : Nat) : List (Nat × Nat) :=
  (tableRecs s.gate.effective 3).filter (fun p => decide (REC.KIND p.2 = kind) && decide (REC.SRC p.2 = src) && (s.tap p.1).stopped.isNone)

/-- Every tap of a kind on an object gets a record of a packet of `len` bytes with its metadata, written at the end of the tick. -/
def State.tapPacket (s : State) (kind src len : Nat) (body : List Byte) : State :=
  forEach (s.tapsOn kind src) (fun p s =>
    s.setTap p.1 { s.tap p.1 with waiting := (s.tap p.1).waiting ++ [(⟨tapRecordLen p.2 len, body⟩ : TapRec)] }) s

/-- The payload type a packet is sent with (R86, R139). -/
def State.pktType (s : State) (p : TxPkt) : Nat :=
  match p.kind with
  | .audio | .rtcp => LEG.A_PT_TX (s.legRec p.leg)
  | .video => OSTR.PT ((s.effRec 7 p.ostr).getD 0)
  | .rtx => OSTR.RTX_PT ((s.effRec 7 p.ostr).getD 0)

/-- An RTP packet as it is sent, in clear: version 2, no padding, no CSRC list (R94), with its header extension and payload (R139). -/
def State.rtpBytes (s : State) (p : TxPkt) (seq : Nat) : List Byte :=
  natBytes 1 (0x80 + (if p.ext = [] then 0 else 0x10)) ++ natBytes 1 (b2n p.marker * 128 + s.pktType p) ++ beBytes 2 seq ++
    beBytes 4 p.ts ++ beBytes 4 (s.pktSsrc p) ++ p.ext ++ p.pay

/-- A packet as it is sent with number seq, in clear: an RTCP packet is its payload. -/
def State.pktBytes (s : State) (p : TxPkt) (seq : Nat) : List Byte :=
  match p.kind with
  | .rtcp => p.pay
  | .audio | .video | .rtx => s.rtpBytes p seq

/-- Taps of KIND 0x2 get a record of a packet sent with number seq: its metadata, which is free (log entry 64), and the packet. -/
def State.tapSent (s : State) (p : TxPkt) (seq : Nat) : State :=
  if (s.tapsOn 2 p.leg).isEmpty then s
  else
    let (n, s) := s.fresh
    let b := s.pktBytes p seq
    s.tapPacket 2 p.leg b.length ((List.range 32).map (Config.sentByte n) ++ b)

/-- A packet as the SRTP engine puts it out (R99): the header of an RTP packet or the first 8 bytes of an RTCP packet stand in clear, then the encrypted part, with the SRTCP
index of an RTCP packet, and the tag. -/
def State.srtpOut (s : State) (p : TxPkt) (x : TxSsrc) : List Byte :=
  let r := s.legRec p.leg
  let clear := s.pktBytes p x.seq
  if LEG.PROFILE r = 0 then clear
  else
    let rtcp := decide (p.kind = .rtcp)
    let head := if rtcp then 8 else 12 + p.ext.length
    let index := if rtcp then x.rtcpIndex else x.index
    clear.take head ++ (List.range (clear.length - head + (if rtcp then 4 else 0) + profileTag (LEG.PROFILE r))).map
      (Config.srtpByte (LEG.PROFILE r) (s.keys.get (fun _ => {}) (LEG.TX_CTX r)).keys index rtcp clear)

/-- The digest group of a leg: its conference, or 2,048 (R352). -/
def State.groupOf (s : State) (l : Nat) : Nat :=
  let c := LEG.CONF (s.legRec l)
  if l < 0x8000 ∧ c < 2048 then c else 2048

/-- Bytes join the digest of a key in logical tick t; digests are kept for 16 ticks (R352). -/
def Twin.digest (w : Twin) (t key : Nat) (b : List Byte) : Twin :=
  let mine (x : DigestSum) : Bool := decide (x.tick = t) && decide (x.key = key)
  let kept := w.sums.filter (fun x => decide (t < x.tick + 16))
  if kept.any mine then { w with sums := kept.map (fun x => if mine x then { x with sum := b.foldl crcByte x.sum } else x) }
  else { w with sums := kept ++ [⟨t, key, crc64 b⟩] }

/-- The digests of this device's own releases of tick t: those of groups, or those of legs, by number (R352). -/
def Twin.digestsOf (w : Twin) (t : Nat) (legs : Bool) : List (Nat × Nat) :=
  sortBy (·.1) ((w.sums.filter (fun x => decide (x.tick = t) && (decide (4096 ≤ x.key) == legs))).map (fun x => (if legs then x.key - 4096 else x.key, x.sum.toNat)))

/-- A packet of leg l, or of a link's OSTR, released in the present logical tick joins its group's digest, and its leg's (R352). -/
def State.noteDigest (s : State) (l : Nat) (b : List Byte) : State :=
  if s.get Fld.TWIN_STATUS_STATE = 0 then s
  else
    let s := s.modTwin (fun w => w.digest s.ltick (s.groupOf l) b)
    if l < 0x8000 then s.modTwin (fun w => w.digest s.ltick (4096 + l) b) else s

/-- Where RFC 8888 feedback finds a packet the leg sent. -/
def sentKey (ssrc seq : Nat) : Nat := ssrc * 65536 + seq

/-- A packet of the leg's sent streams is released (R122, R123). -/
def Cc.noteSent (c : Cc) (ssrc seq at_ tick : Nat) : Cc :=
  { c with sent := c.sent.set (fun _ => none) (sentKey ssrc seq) (some ⟨at_, tick, 0⟩) }

/-- The frame of copy i of a packet for port n (R74, R75, R80, R153): `seq` is the plane's first trailer number for the packet. -/
def State.mediaFrame (s : State) (p : TxPkt) (t plane n seq i : Nat) (copy : (Nat × Nat) × Nat) (bytes : List Byte) : Frame :=
  let m := s.marks plane (pktClass p.kind)
  let vid := s.get (Fld.PLANEn_VLANk_VID plane (LEG.VLAN (s.legRec p.leg)))
  let len := s.wireLen p plane copy.2
  { len := len, released := t + s.lag, leg := p.leg, dscp := m.1, tag := if vid = 0 then none else some (vid, m.2),
    rct := if s.on (Fld.PLANEn_CFG_PRP plane) then some (trailerOf n (seq + i) len (decide (vid ≠ 0))) else none, dst := some copy.1, bytes := bytes }

/-- What a sender report tells of a stream after a packet released at instant t (R94). -/
def TxSsrc.told (x : TxSsrc) (p : TxPkt) (t : Nat) : TxSsrc :=
  { x with pkts := (x.pkts + 1) % 2 ^ 32, octets := (x.octets + p.pay.length) % 2 ^ 32, last := some (p.ts, t) }

/-- The OSTR keeps a video packet released as number seq for 2 s, and notes when a kept one is sent again (R98). -/
def Ostr.keep (o : Ostr) (p : TxPkt) (seq t tick : Nat) : Ostr :=
  match p.kind with
  | .audio | .rtcp => o
  | .video =>
    let kept := o.history.filter (fun (h : RtxPkt) => decide (tick ≤ h.tick + 2000))
    { o with history := kept ++ [(⟨seq, tick, p.len, p.ts, p.marker, p.ext, p.pay, none⟩ : RtxPkt)] }
  | .rtx => { o with history := o.history.map (fun (h : RtxPkt) => if beBytes 2 h.seq = p.pay.take 2 then { h with lastSent := some t } else h) }

/-- Step 5 of R151 at logical instant t: the packet is numbered and its copies enter the departure queues of the ports that are up; those of a protected leg's two addresses are two
frames of the plane (R75, R80). -/
def State.releasePkt (s : State) (p : TxPkt) (t plane : Nat) (ports : List Nat) : State :=
  let ssrc := s.pktSsrc p
  let l := p.leg
  let s := if LEG.PROFILE (s.legRec l) = 0 then s else s.rekeyWarn l ssrc (decide (p.kind = .rtcp))
  let x := (s.leg l).txOf ssrc
  let seq := x.seq
  let bytes := s.srtpOut p x
  let x := match p.kind with
    | .rtcp => { x with rtcpIndex := x.rtcpIndex + 1 }
    | .audio | .video | .rtx => x.next.told p t
  let x := if s.get Fld.TWIN_STATUS_STATE = 0 then x else x.note ((s.leg l).txOf ssrc) s.ltick
  let g := (s.leg l).setTx ssrc x
  let oversize := g.shaper.present && decide (g.shaper.burst < p.len) && (decide (p.kind = .video) || decide (p.kind = .rtx))
  let g := match p.kind with
    | .audio | .rtcp => { g with cc := { g.cc with audioLog := g.cc.audioLog ++ [(s.ltick, p.len)] } }
    | .video | .rtx => if g.shaper.present then { g with shaper := g.shaper.take t p.len } else g
  let g := { g with txPkts := (g.txPkts + 1) % 2 ^ 32, rtxTx := if p.kind = .rtx then (g.rtxTx + 1) % 2 ^ 32 else g.rtxTx,
                    cc := { g.cc with sentLog := g.cc.sentLog ++ [(s.ltick, p.len)] } }
  let g := match p.kind with
    | .rtcp => g
    | .audio | .video | .rtx => { g with cc := g.cc.noteSent ssrc seq t s.ltick }
  let s := s.setLeg l g
  let s := match p.kind with
    | .video | .rtx => s.setOstr p.ostr ((s.ostr p.ostr).keep p seq t s.ltick)
    | .audio | .rtcp => s
  let s := if oversize then s.bump Fld.PKTOUT_OVERSIZE_COUNT else s
  let s := s.bump64 Reg.PKTOUT_RELEASED_LO
  let s := s.tapSent p seq
  let copies := pathCopies (s.legRec l)
  let first := (s.plane plane).txSeq
  let s := s.setPlane plane { s.plane plane with txSeq := (first + copies.length) % 65536 }
  let q := s.depClass p
  let s := s.noteDigest l bytes
  forEach copies.zipIdx (fun c (s : State) =>
    forEach ports (fun n (s : State) => s.depQueue n q (s.mediaFrame p t plane n first c.2 c.1 bytes)) s) s

/-- The index of the packet's SSRC is exhausted (R102, R358). -/
def State.exhausted (s : State) (p : TxPkt) : Bool :=
  let x := (s.leg p.leg).txOf (s.pktSsrc p)
  match p.kind with
  | .rtcp => decide (x.limitRtcp ≤ x.rtcpIndex)
  | .audio | .video | .rtx => decide (x.limit ≤ x.index)

/-- A packet of a link OSTR goes to VC2 of its link at its ready instant (R335); it carries the plane of its source. -/
def State.linkRelease (s : State) (p : TxPkt) : State :=
  let ssrc := s.pktSsrc p
  let x := (s.leg p.leg).txOf ssrc
  let s := (s.setLeg p.leg ((s.leg p.leg).setTx ssrc x.next)).noteDigest p.leg (s.pktBytes p x.seq)
  s.sendMsg (p.leg % 4) 2 1 3 p.len (.video ⟨ssrc, x.seq, p.ts, p.len, p.marker, p.plane, s.ltick, s.lnow % 2 ^ 32, none⟩)

/-- Step 4 of R151 in a pair (R351): some port either twin would send on is up in the port-up bits of the last tick mark. -/
def State.pairPortUp (s : State) (plane l : Nat) : Bool :=
  let both := s.twin.bothLans.contains l
  let a := s.lanPorts plane (if both then (true, true) else s.pairLans true plane)
  let b := s.lanPorts plane (s.pairLans false plane)
  a.any (fun n => decide (s.twin.seniorPorts / 2 ^ n % 2 = 1)) || b.any (fun n => decide (s.twin.juniorPorts / 2 ^ n % 2 = 1))

/-- A packet that goes before this one in the order its stream is numbered (R5): same leg and kind of stream, an earlier place in order. -/
def TxPkt.before (q p : TxPkt) : Bool :=
  let same := match p.kind, q.kind with
    | .audio, .audio | .rtcp, .rtcp => true
    | .video, .video | .rtx, .rtx => decide (p.ostr = q.ostr)
    | _, _ => false
  decide (q.leg = p.leg) && same && (decide (q.ready < p.ready) || (decide (q.ready = p.ready) && decide (q.id < p.id)))

/-- It is the packet's turn: a leg's shaped and unshaped video and RTX go in queue order (R149, R150), every other stream in the order of its packets. -/
def State.inTurn (s : State) (p : TxPkt) : Bool :=
  if (decide (p.kind = .video) || decide (p.kind = .rtx)) && decide (p.leg < 0x8000) then
    decide (((s.queue p.leg).items.head?.map GItem.tag) = some p.id)
  else s.pkts.all (fun x => match x.2 with | some q => !q.before p | none => true)

/-- The first tick at or after t at which leg l updates (R120). -/
def updateTick (l t : Nat) : Nat := t + (l % 50 + 50 - t % 50) % 50

/-- Leg l has a controller. -/
def State.hasController (s : State) (l : Nat) : Bool :=
  (decide ((s.leg l).state = .active) || decide ((s.leg l).state = .txStopped)) && decide (LEG.TRANSPORT (s.legRec l) = 0)

/-- The next update tick of leg l's controller (R120). -/
def State.nextUpdate (s : State) (l : Nat) : Nat :=
  updateTick l (match (s.leg l).cc.lastUpdate with | some t => Nat.max s.ltick (t + 1) | none => s.ltick)

/-- A boundary at or before logical instant t still has to change what the release looks at (R149, R156): an accepted command for the leg's LEG or SHAPER record, or an
update of the rate its bucket fills at. -/
def State.boundaryFirst (s : State) (p : TxPkt) (t : Nat) : Bool :=
  s.gate.pending.any (fun r => decide (r.table = 1 ∨ r.table = 5) && decide (r.index = p.leg) && decide (r.boundary * 1000000 ≤ t)) ||
    ((s.leg p.leg).shaper.present && (decide (p.kind = .video) || decide (p.kind = .rtx)) && s.on Fld.ADAPT_CFG_ENABLE && s.hasController p.leg &&
      decide (s.nextUpdate p.leg * 1000000 ≤ t))

/-- A plane whose page is disabled sends no frame (R70). -/
def State.planeSends (s : State) (n : Nat) : Bool := s.on (Fld.PG_CTRL_ENABLE (planePage n))

/-- Steps 1 to 5 of R151 for a packet at logical instant t. A plane that sends no frame discards its copies (log entry 170). -/
def State.releaseSteps (s : State) (p : TxPkt) (t : Nat) : State :=
  let l := p.leg
  let shapedKind := decide (p.kind = .video) || decide (p.kind = .rtx)
  let g := s.leg l
  let r := s.legRec l
  let plane := LEG.PLANE r
  if g.state = .none ∨ g.state = .pending then s
  else if g.state = .txStopped ∨ g.state = .halted then s.txStopDropped l
  else if shapedKind && g.shaper.present && decide (SHAPER.MAX_WAIT ((s.effRec 5 l).getD 0) * 1000000 < t - p.ready) then
    s.bump Fld.PKTOUT_DROP_WAIT_COUNT
  else if s.planeSends plane = false ∨ s.quiescing (planePage plane) = true then s
  else
    let ports := s.mediaPorts plane l
    let down := ports.filter (fun n => !s.linkUp n)
    let up := ports.filter (fun n => s.linkUp n)
    let s := forEach (pathCopies r) (fun _ s => forEach down (fun n s => s.bump (Fld.ETHn_TX_DROP_COUNT n)) s) s
    let paired := s.partnerSends || decide (s.get Fld.TWIN_STATUS_STATE = 5)
    if (paired = false ∧ up = []) ∨ (paired = true ∧ s.pairPortUp plane l = false) then s
    else if s.txCtxEmpty r then (s.txStop l Err.nokey.code).txStopDropped l
    else if LEG.PROFILE r ≠ 0 ∧ s.exhausted p = true then (s.txStop l Err.exhausted.code).txStopDropped l
    else s.releasePkt p t plane (if g.silenced then [] else up)

/-- A packet whose release instant arrives is released now: it is its turn, and no boundary at or before that instant has still to change what the release looks at. -/
def State.releaseNow (s : State) (p : TxPkt) : Bool :=
  s.inTurn p && (decide (0x8000 ≤ p.leg) || !s.boundaryFirst p (s.releaseInstant p))

/-- The release instant of a waiting packet (R151). A packet is released only in its turn, and after what takes effect at a boundary at or before that instant. -/
def State.packetRelease (s : State) (id : Nat) : State :=
  match (if s.muted then none else s.pkt id) with
  | none => s
  | some p =>
    let link := decide (0x8000 ≤ p.leg)
    let queued := !link && (decide (p.kind = .video) || decide (p.kind = .rtx))
    let t := if link then p.ready else s.releaseInstant p
    if !s.releaseNow p then s
    else
      let s := s.runTo (t + s.lag)
      let s := if queued then s.unqueue p.leg id else s
      let s := s.dropPkt id
      if link then s.linkRelease p else s.releaseSteps p t

/-! ### Departure (R152 to R155) -/

/-- The head frame of departure queue q. -/
def Port.head (t : Port) (q : Nat) : Option Frame := (t.q.get (fun _ => []) q).head?

/-- The DRR quantum of queue q of port n in bytes: strict queues when STRICT_EN = 0, leg queues by their SHAPER record, the
host queue (R150, R153, R154). -/
def State.drrQuantum (s : State) (n q : Nat) : Nat :=
  if q < 4 then s.get (Fld.SCHEDn_CFG_STRICT_Q n) * 64
  else if q = 16388 then s.get (Fld.SCHEDn_CFG_HOST_Q n) * 64
  else if (s.leg (q - 4)).shaper.present then (s.leg (q - 4)).shaper.quantum * 64 else 1536

/-- The first listed queue of the DRR group at or after number q, wrapping to the first. -/
def drrNext (strict : Bool) (t : Port) (q : Nat) : Option Nat :=
  let l := (t.q.keys).filter (fun k => !strict || decide (4 ≤ k))
  match l.find? (fun k => decide (q ≤ k)) with
  | some k => some k
  | none => l.head?

/-- The deficit queue q of a port begins its turn with: clipped to the least quantum set since its last turn (R147, R156). -/
def Port.entering (t : Port) (q : Nat) : Nat :=
  match t.clip.get (fun _ => none) q with
  | some c => Nat.min c (t.deficit.get (fun _ => 0) q)
  | none => t.deficit.get (fun _ => 0) q

/-- One pass of the DRR group (R153): find the queue that sends, with the port's rotation after the choice. -/
def State.drrPick (s : State) (n : Nat) (strict : Bool) : Nat → Port → Option (Nat × Port)
  | 0, _ => none
  | fuel + 1, t =>
    match drrNext strict t t.turn with
    | none => none
    | some q =>
      let credited := t.credited && decide (q = t.turn)
      let d := if credited then t.deficit.get (fun _ => 0) q else t.entering q + s.drrQuantum n q
      let t := if credited then t else { t with clip := t.clip.set (fun _ => none) q none }
      match t.head q with
      | none => none
      | some f =>
        if f.len ≤ d then
          let rest := (t.q.get (fun _ => []) q).drop 1
          let t := { t with q := t.q.set (fun _ => []) q rest,
                            deficit := t.deficit.set (fun _ => 0) q (if rest = [] then 0 else d - f.len),
                            turn := if rest = [] then q + 1 else q, credited := decide (rest ≠ []) }
          some (q, t)
        else s.drrPick n strict fuel { t with deficit := t.deficit.set (fun _ => 0) q d, turn := q + 1, credited := false }

/-- Count a departure of frame f from queue q of port n at the present instant, with its lag (R155). -/
def State.departed (s : State) (n q : Nat) (f : Frame) : State :=
  let s := s.bump64 (Reg.ETHn_TX_FRAMES_LO n)
  let s := if q < 4 then s.bump (Fld.SCHEDn_SQk_FRAMES_COUNT n q) else s.bump (Fld.SCHEDn_DRR_FRAMES_COUNT n)
  let lag := Nat.min (2 ^ 32 - 1) (s.now - f.released)
  let old := s.get (Fld.SCHEDn_LAG_MAX n)
  if old < lag then
    let s := s.put (Fld.SCHEDn_LAG_MAX n) lag
    if old ≤ 1000000 ∧ 1000000 < lag then s.event (0x28000 + n * 0x1000) 1 else s
  else s

/-- The frame port n starts next, its queue, and the port without it: the first of S0 to S3 that holds one, otherwise the next of the DRR group; with STRICT_EN = 0
the strict queues join the group (R152 to R154). -/
def State.nextFrame (s : State) (n : Nat) : Option (Nat × Frame × Port) :=
  let t := s.port n
  let strict := s.on (Fld.SCHEDn_CFG_STRICT_EN n)
  match (if strict then [0, 1, 2, 3].find? (fun q => (t.head q).isSome) else none) with
  | some q => (t.head q).map (fun f => (q, f, { t with q := t.q.set (fun _ => []) q ((t.q.get (fun _ => []) q).drop 1) }))
  | none =>
    match s.drrPick n strict (200 * (t.q.length + 1)) t with
    | none => none
    | some (q, t') => (t.head q).map (fun f => (q, f, t'))

/-- Frame f of queue q leaves port n: while the link is down the scheduler discards it and counts it (R69); otherwise it departs, and a PTP message is stamped
(R59, R60). Its cells return to the pool and HEAD of the inject ring follows (R86, R161). -/
def State.frameLeaves (s : State) (n q : Nat) (f : Frame) : State :=
  let s := match f.item with
    | some i => s.unqueue (0x4000 + n) i
    | none => s
  let s :=
    if s.linkUp n then
      let s := s.departed n q f
      match f.ptp with
      | some m => s.ptpLeaves n m
      | none => s
    else s.bump (Fld.ETHn_TX_DROP_COUNT n)
  s.injFollow (n / 2)

/-- Port n may start a frame: its plane sends and uses it (R70), and the device's ports are not silenced (R461, R496). -/
def State.portSends (s : State) (n : Nat) : Bool :=
  decide (n < 4) && !s.fatalAt.isSome && !s.pins.extest && s.planeSends (n / 2) && (decide (n % 2 = 0) || s.on (Fld.PLANEn_CFG_PRP (n / 2)))

/-- FRAME_DEPART: port n can start a frame and takes the next (R152). -/
def execFrameDepart (n : Nat) (s : State) : Out :=
  if s.portSends n = false then .next s
  else
    match s.nextFrame n with
    | none => .next s
    | some (q, f, t) => .next ((s.setPort n t).frameLeaves n q f)

/-! ### PTP messages on their way out (R56, R60, R144) -/

/-- The number of a kind of message. -/
def ptpKindNum : PtpKind → Nat
  | .announce => 0 | .sync => 1 | .followUp => 2 | .delayReq => 3 | .delayResp => 4 | .pdelayReq => 5 | .pdelayResp => 6
  | .pdelayRespFollowUp => 7 | .management => 8 | .other => 9

/-- PTP_MESSAGE_TX: the clock of plane n sends a message on one of its LANs; it waits in S0 of the port, without a trailer (R56, R75, R144), and is stamped as it
leaves (R60). Its length is free (log entry 169). -/
def execPtpMessageTx (n : Nat) (lanB : Bool) (k : PtpKind) (s : State) : Out :=
  if n < 2 ∧ s.planeSends n = true ∧ (lanB = false ∨ s.on (Fld.PLANEn_CFG_PRP n) = true) ∧ s.ptpSends n k = true then
    let m := s.ptpMessage n k
    .next (s.depQueue (2 * n + b2n lanB) 0 { s.ctrlFrame n (64 + (Config.ptpExtra (ptpKindNum k) m.transport).toNat) with ptp := some m })
  else .next s

/-! ### Selected leg (PKTOUT_LEG_SEL) -/

/-- A write of PKTOUT_LEG_SEL starts a fetch of the leg's bucket and running rate. -/
def State.pktoutSelWrite (s : State) (w : Word) : State :=
  s.checked Reg.PKTOUT_LEG_SEL w (fun _ => none)
    (fun s => (((s.applyWrite Reg.PKTOUT_LEG_SEL w).fetchStart Reg.PKTOUT_LEG_SEL).unvalid Reg.PKTOUT_LEG_TOKENS).unvalid Reg.PKTOUT_LEG_RATE)

/-- PKTOUT_LEG_SEL. -/
def execPktoutLegSel (leg : Nat) (s : State) : Out := .next (s.pktoutSelWrite (BitVec.ofNat 32 leg))

/-- The fetch completes: tokens in whole bytes at the fetch instant and the running rate, with one GEN. -/
def State.pktoutFetch (s : State) : State :=
  let h := (s.leg (s.get Fld.PKTOUT_LEG_SEL_LEG)).shaper
  let gen := s.nextGen Reg.PKTOUT_LEG_TOKENS
  let s := s.postResultGen Reg.PKTOUT_LEG_TOKENS gen (if h.present then (h.upTo s.lnow).tokens / 8000000 else 0)
  s.postResultGen Reg.PKTOUT_LEG_RATE gen (if h.present then Nat.min 16777215 h.rate else 0)

end Sys2Proof.Machine
end

