-- ==== Sys2Proof/Machine/Rtcp.lean ====
section
/-! DEFINITION. The RTCP packets the device composes (spec/05_legs_and_transport.md R94, R96 to R98; spec/06_adaptation_and_forwarding.md R140). R94 names the
standards for their layout and the spec does not restate it: PRESUMED from RFC 3550, 4585, 5104 and 8888 (log entry 32). -/

namespace Sys2Proof.Machine

/-- The RTP clock rate of a codec (R94, R195). -/
def rtpClock (codec : Nat) : Nat := if codec ≤ 4 then 8000 else if codec = 5 then 16000 else 48000

/-- The RFC 3711 estimate of an index of `mod` values from its low part, given the highest index (PRESUMED, log entry 16). -/
def estimateIndex (mod top low : Nat) : Nat :=
  let base := top / mod * mod + low
  if top + mod / 2 < base ∧ mod ≤ base then base - mod
  else if base + mod / 2 < top then base + mod
  else base

/-- The NTP timestamp (1900 epoch, 32.32) of an instant of Belfry time in ns, with BELFRY_UTC.OFFSET seconds subtracted while it is valid (R97). -/
def State.ntp (s : State) (t : Nat) : Nat :=
  let off := if s.on Fld.BELFRY_UTC_VALID then signed 16 (s.get Fld.BELFRY_UTC_OFFSET) else 0
  unsigned 64 ((((t / 1000000000 : Nat) : Int) - off + 2208988800) * 2 ^ 32 + (t % 1000000000 * 2 ^ 32 / 1000000000 : Nat))

/-- Its middle 32 bits. -/
def State.ntpMid (s : State) (t : Nat) : Nat := s.ntp t / 65536 % 2 ^ 32

/-! ### What is reported of a received stream -/

/-- A packet of the stream is admitted with a receive stamp in ns; `rate` is its RTP clock. -/
def RxStat.note (x : RxStat) (seq ts stamp rate : Nat) : RxStat :=
  let e := if x.count = 0 then seq + 65536 else estimateIndex 65536 x.high seq
  let tr : Int := (stamp * rate / 1000000000 : Nat) - (ts : Int)
  let d := match x.transit with | some p => (signed 32 (unsigned 32 (tr - p))).natAbs | none => 0
  { x with base := if x.count = 0 then e else x.base, high := if x.count = 0 then e else Nat.max x.high e, count := x.count + 1,
           transit := some tr, jitter := x.jitter + d - (x.jitter + 8) / 16, heard := x.heard ++ [(e, stamp)] }

/-- What a leg keeps of an SSRC it receives. -/
def Leg.rxOf (g : Leg) (ssrc : Nat) : RxStat := g.rx.get (fun _ => {}) ssrc
def Leg.setRx (g : Leg) (ssrc : Nat) (x : RxStat) : Leg := { g with rx := g.rx.set (fun _ => {}) ssrc x }

/-- Packets expected of the stream so far. -/
def RxStat.expected (x : RxStat) : Nat := if x.count = 0 then 0 else x.high - x.base + 1

/-- Fraction lost since the previous report, in 1/256. -/
def RxStat.fraction (x : RxStat) : Nat :=
  let due := x.expected - x.expectedPrior
  let got := x.count - x.receivedPrior
  if due ≤ got then 0 else (due - got) * 256 / due

/-- The report block of an SSRC in a packet released at instant t. -/
def reportBlock (ssrc t : Nat) (x : RxStat) : List Byte :=
  let lost := clampI (-8388608) 8388607 ((x.expected : Int) - x.count)
  let (lsr, dlsr) := match x.sr with | some (a, at_) => (a, (t - at_) * 65536 / 1000000000) | none => (0, 0)
  beBytes 4 ssrc ++ natBytes 1 (Nat.min 255 x.fraction) ++ beBytes 3 (unsigned 24 lost) ++ beBytes 4 (x.high - 65536) ++ beBytes 4 (x.jitter / 16) ++
    beBytes 4 lsr ++ beBytes 4 dlsr

/-- After a report the next counts anew. -/
def RxStat.reported (x : RxStat) : RxStat := { x with expectedPrior := x.expected, receivedPrior := x.count }

/-! ### Packets -/

/-- An RTCP packet: its count or format, its type, and its body in whole words. -/
def rtcpPacket (n type : Nat) (body : List Byte) : List Byte := natBytes 1 (0x80 + n % 32) ++ natBytes 1 type ++ beBytes 2 (body.length / 4) ++ body

/-- LEG.CNAME without its NUL padding (R87). -/
def legCname (r : Nat) : List Byte := (natBytes 32 (LEG.CNAME r)).takeWhile (fun b => decide (b ≠ 0#8))

/-- SDES with CNAME. -/
def sdesPacket (r : Nat) : List Byte :=
  let n := legCname r
  let chunk := beBytes 4 (LEG.LOCAL_SSRC r) ++ natBytes 1 1 ++ natBytes 1 n.length ++ n
  rtcpPacket 1 202 (chunk ++ zeros (roundUp (chunk.length + 1) 4 - chunk.length))

/-- Leg l has sent audio since the report before the last. -/
def Leg.sender (g : Leg) (r : Nat) : Bool :=
  match (g.txOf (LEG.LOCAL_SSRC r)).last with
  | some (_, t) => decide ((g.reports[1]?).getD 0 * 1000000 ≤ t)
  | none => false

/-- The sender information of an SR released at instant t: NTP timestamp (R97), the RTP timestamp of that instant, packets and octets sent. -/
def State.senderInfo (s : State) (l t : Nat) : List Byte :=
  let r := s.legRec l
  let x := (s.leg l).txOf (LEG.LOCAL_SSRC r)
  let rtp := match x.last with | some (ts, at_) => ts + (t - at_) * rtpClock (LEG.A_CODEC r) / 1000000000 | none => 0
  beBytes 8 (s.ntp t) ++ beBytes 4 rtp ++ beBytes 4 x.pkts ++ beBytes 4 x.octets

/-- What every compound packet of leg l begins with (R94): an SR if the leg sends audio, otherwise an RR, with a block for each SSRC heard, and SDES CNAME; and the
leg after that report. Its NTP timestamp is that of the paced release instant in tick t (R97). -/
def State.reportHead (s : State) (l t : Nat) : List Byte × State :=
  let r := s.legRec l
  let g := s.leg l
  let at_ := readyInstant l t
  let heard := (g.rx.filter (fun p => decide (p.2.count ≠ 0))).take 31
  let blocks := heard.flatMap (fun p => reportBlock p.1 at_ p.2)
  let sr := g.sender r
  let body := beBytes 4 (LEG.LOCAL_SSRC r) ++ (if sr then s.senderInfo l at_ else []) ++ blocks
  (rtcpPacket heard.length (if sr then 200 else 201) body ++ sdesPacket r,
    s.setLeg l { g with rx := Sparse.mapAll (fun _ => {}) (fun _ (x : RxStat) => x.reported) g.rx, reports := (t :: g.reports).take 2 })

/-- Generic NACK of the packets of an SSRC: each word names one number and those of the 16 after it that are missing. -/
def nackWords : Nat → List Nat → List Byte
  | 0, _ => []
  | _, [] => []
  | fuel + 1, q :: t =>
    let near (i : Nat) : Bool := decide (1 ≤ i) && decide (i ≤ 16)
    let dist (x : Nat) := (x + 65536 - q) % 65536
    let mask := sumBy (fun x => if near (dist x) then 2 ^ (dist x - 1) else 0) t
    beBytes 2 q ++ beBytes 2 mask ++ nackWords fuel (t.filter (fun x => !near (dist x)))

def rtcpNack (own ssrc : Nat) (seqs : List Nat) : List Byte := rtcpPacket 1 205 (beBytes 4 own ++ beBytes 4 ssrc ++ nackWords seqs.length seqs)

/-- PLI, and FIR with its command number (R140). -/
def rtcpPli (own ssrc : Nat) : List Byte := rtcpPacket 1 206 (beBytes 4 own ++ beBytes 4 ssrc)
def rtcpFir (own ssrc n : Nat) : List Byte := rtcpPacket 4 206 (beBytes 4 own ++ beBytes 4 0 ++ beBytes 4 ssrc ++ natBytes 1 n ++ zeros 3)

/-- The exponent of a rate whose mantissa has 17 bits. -/
def rateExp : Nat → Nat → Nat
  | 0, _ => 0
  | fuel + 1, b => if b < 131072 then 0 else rateExp fuel (b / 2) + 1

/-- TMMBN: the bounding request's SSRC, rate in b/s and overhead (R96). -/
def rtcpTmmbn (own ssrc rate overhead : Nat) : List Byte :=
  let e := rateExp 63 rate
  rtcpPacket 4 205 (beBytes 4 own ++ beBytes 4 0 ++ beBytes 4 ssrc ++ beBytes 4 (e * 2 ^ 26 + rate / 2 ^ e % 131072 * 512 + overhead % 512))

/-- What RFC 8888 feedback for release at instant t says of packet number e of a stream: 16 bits. -/
def ccfbMetric (heard : List (Nat × Nat)) (t e : Nat) : List Byte :=
  match heard.find? (fun h => decide (h.1 = e)) with
  | none => zeros 2
  | some h => beBytes 2 (32768 + Nat.min 8190 ((t - h.2) * 1024 / 1000000000))

/-- A stream's part of RFC 8888 feedback: every number from the one after the last reported to the highest heard. -/
def ccfbStream (ssrc t : Nat) (x : RxStat) : List Byte :=
  match x.heard with
  | [] => []
  | h :: rest =>
    let low := rest.foldl (fun a e => Nat.min a e.1) (Nat.min h.1 (x.nextFb.getD h.1))
    let high := rest.foldl (fun a e => Nat.max a e.1) h.1
    let n := high - low + 1
    beBytes 4 ssrc ++ beBytes 2 low ++ beBytes 2 n ++ (List.range n).flatMap (fun i => ccfbMetric x.heard t (low + i)) ++ zeros (n % 2 * 2)

/-- RFC 8888 feedback of leg l for release in tick t: on every stream with packets admitted since the last. -/
def State.rtcpCcfb (s : State) (l t : Nat) : List Byte :=
  let at_ := readyInstant l t
  rtcpPacket 11 205 (beBytes 4 (LEG.LOCAL_SSRC (s.legRec l)) ++ (s.leg l).rx.flatMap (fun p => ccfbStream p.1 at_ p.2) ++ beBytes 4 (s.ntpMid at_))

/-! ### Sending -/

/-- An RTCP packet of leg l for release in tick t. -/
def rtcpFor (l t : Nat) (p : TxPkt) : Bool := decide (p.kind = .rtcp) && decide (p.leg = l) && decide (p.ready = readyInstant l t)

/-- What is around a leg's RTCP packet: IP and UDP header, tag, and the SRTCP index (R84). -/
def rtcpOverhead (r : Nat) : Nat := legOverhead r + (if LEG.PROFILE r = 0 then 0 else 4)

/-- The device composes an RTCP packet of leg l for release in tick t with the given feedback. What leaves in one tick is one compound packet (log entry 32): one that
waits already takes the new items. -/
def State.sendRtcp (s : State) (l t : Nat) (items : List Byte) : State :=
  match s.pkts.find? (fun p => match p.2 with | some x => rtcpFor l t x | none => false) with
  | some q => { s with pkts := s.pkts.set (fun _ => none) q.1 (q.2.map (fun x => { x with pay := x.pay ++ items, len := x.len + items.length })) }
  | none =>
    let (head, s) := s.reportHead l t
    s.enqueuePkt l .rtcp 0 (rtcpOverhead (s.legRec l) + head.length + items.length) t 0 false [] (head ++ items)

/-- Media packets a leg with CCFB_EN admitted before the present tick are reported in it (R97: feedback goes in the tick after its cause). -/
def State.ccfbSend (s : State) (l : Nat) : State :=
  let g := s.leg l
  if LEG.CCFB_EN (s.legRec l) = 0 ∨ LEG.TRANSPORT (s.legRec l) ≠ 0 ∨ g.rx.all (fun p => p.2.heard.isEmpty) = true then s
  else
    let items := s.rtcpCcfb l s.ltick
    let told (x : RxStat) : RxStat := { x with heard := [], nextFb := if x.heard.isEmpty then x.nextFb else some (x.high + 1) }
    (s.setLeg l { g with rx := Sparse.mapAll (fun _ => {}) (fun _ x => told x) g.rx }).sendRtcp l s.ltick items

end Sys2Proof.Machine
end

