-- ==== Sys2Proof/Machine/Ports.lean ====
section
/-! DEFINITION. Ethernet ports, planes and PRP (spec/04_ports_and_planes.md, R67 to R86): link changes, duplicate discard,
supervision, the punt and inject rings. -/

namespace Sys2Proof.Machine

/-- Plane n uses its LAN B port. -/
def State.doubly (s : State) (n : Nat) : Bool := s.on (Fld.PLANEn_CFG_PRP n)

/-- The plane has a used port with its link up. -/
def State.planeUp (s : State) (n : Nat) : Bool := s.linkUp (2 * n) || (s.doubly n && s.linkUp (2 * n + 1))

/-- Show PLANEn UP in PG_STATUS.BLK bit 16 and post the plane coming up (bit 2) or going down (bit 1). -/
def State.showPlane (s : State) (n : Nat) : State :=
  let f : FieldRef := ⟨Reg.PG_STATUS (planePage n), 16, 1⟩
  let up := s.planeUp n
  if s.on f = up then s else (s.putB f up).event (planePage n) (if up then 2 else 1)

/-- ETH_LINK_UP: a signal on every lane the mode uses (R67), FEC lock, alignment and no local fault have held 10 ms (R68). -/
def execEthLinkUp (n : Nat) (remoteFault : Bool) (s : State) : Out :=
  if n < 4 ∧ s.linkUp n = false then
    let lanes := if s.get (Fld.ETHn_CFG_MODE n) = 1 then 3 else 15
    let s := (s.put (Fld.ETHn_LINK_SIGNAL n) lanes).putB (Fld.ETHn_LINK_REMOTE_FAULT n) remoteFault
    let s := s.put (Fld.ETHn_LINK_FEC_LOCK n) 1
    let s := s.put (Fld.ETHn_LINK_ALIGNED n) 1
    let s := s.put (Fld.ETHn_LINK_LOCAL_FAULT n) 0
    let s := s.put (Fld.ETHn_LINK_UP n) 1
    let s := s.put ⟨Reg.PG_STATUS (ethPage n), 16, 1⟩ 1
    let s := s.event (ethPage n) 1
    .next (s.showPlane (n / 2))
  else .next s

/-- ETH_LINK_DOWN, with what the port now receives: the link goes down on the first loss of FEC lock or alignment, or a local fault (R68). -/
def execEthLinkDown (n : Nat) (fecLock aligned localFault : Bool) (signal : Nat) (remoteFault : Bool) (s : State) : Out :=
  if n < 4 then
    let s := (s.put (Fld.ETHn_LINK_SIGNAL n) signal).putB (Fld.ETHn_LINK_REMOTE_FAULT n) remoteFault
    let s := s.putB (Fld.ETHn_LINK_FEC_LOCK n) fecLock
    let s := s.putB (Fld.ETHn_LINK_ALIGNED n) aligned
    let s := s.putB (Fld.ETHn_LINK_LOCAL_FAULT n) localFault
    if s.linkUp n && (!fecLock || !aligned || localFault) then
      let s := s.put (Fld.ETHn_LINK_UP n) 0
      let s := s.bump (Fld.ETHn_LINK_DOWN_COUNT n)
      let s := s.put ⟨Reg.PG_STATUS (ethPage n), 16, 1⟩ 0
      let s := s.event (ethPage n) 2
      .next (s.showPlane (n / 2))
    else .next s
  else .next s

/-- Epanis loads the calibration of port n for its mode (R59). -/
def State.portCal (s : State) (n : Nat) : State :=
  let m := s.get (Fld.ETHn_CFG_MODE n)
  (s.put (Fld.BELFRY_PnCAL_CAL_TX n) (Config.calTx n m)).put (Fld.BELFRY_PnCAL_CAL_RX n) (Config.calRx n m)

/-- A write of ETHn_CFG (R67): rejected while the page is enabled; a change of MODE reloads the port's calibration. -/
def State.ethCfgWrite (s : State) (n : Nat) (w : Word) : State :=
  s.checked (Reg.ETHn_CFG n) w
    (fun s => if s.on (Fld.PG_CTRL_ENABLE (ethPage n)) then some .state else none)
    (fun s =>
      let t := s.applyWrite (Reg.ETHn_CFG n) w
      if t.get (Fld.ETHn_CFG_MODE n) = s.get (Fld.ETHn_CFG_MODE n) then t else t.portCal n)

/-! ### PRP (R75 to R78) -/

/-- The distance from b up to a in 16-bit sequence numbers. -/
def seqDist (a b : Nat) : Nat := (a + 65536 - b % 65536) % 65536

/-- A trailered frame of a source with an entry is a duplicate to discard (R76): its number lies inside the window and was seen. -/
def PrpEntry.duplicate (e : PrpEntry) (seq : Nat) : Bool := decide (seqDist e.top seq ≤ 128) && e.seen.contains seq

/-- The entry after a frame (R76). A number outside the window restarts it (log entry 12). -/
def PrpEntry.take (e : PrpEntry) (seq now : Nat) : PrpEntry :=
  let e := { e with lastAt := now }
  if e.duplicate seq then e
  else if seqDist e.top seq ≤ 128 then { e with seen := seq :: e.seen }
  else if seqDist seq e.top < 32768 then { e with top := seq, seen := seq :: e.seen.filter (fun x => decide (seqDist seq x ≤ 128)) }
  else { e with top := seq, seen := [seq] }

/-- Show the table's occupancy (PLANEn_PRP_TABLE). -/
def State.showPrp (s : State) (n : Nat) : State :=
  let c := (s.plane n).prp.length
  let s := s.put (Fld.PLANEn_PRP_TABLE_ENTRIES n) c
  if s.get (Fld.PLANEn_PRP_TABLE_PEAK n) < c then s.put (Fld.PLANEn_PRP_TABLE_PEAK n) c else s

/-- Duplicate discard of a frame with a trailer (R76): whether the frame is accepted, and the state. A LAN B copy that completes in the same cycle as the LAN A copy
is the one discarded (R77). -/
def State.prpDiscard (s : State) (n src seq : Nat) (trailerB lanB together : Bool) : Bool × State :=
  let s := if trailerB = lanB then s else s.bumpSat (Fld.PLANEn_PRP_ERR_WRONG_LAN n)
  let p := s.plane n
  let second := lanB && together
  match p.prp.find? (fun e => decide (e.src = src)) with
  | some e =>
    let e' := if second then { e with lastAt := s.now } else e.take seq s.now
    let t := s.setPlane n { p with prp := p.prp.map (fun x => if x.src = src then e' else x) }
    if second || e.duplicate seq then (false, t.bump (Fld.PLANEn_PRP_DROP_COUNT n)) else (true, t)
  | none =>
    if 4096 ≤ p.prp.length then (true, s.bumpSat (Fld.PLANEn_PRP_ERR_NOENTRY n))
    else if second then (false, s.bump (Fld.PLANEn_PRP_DROP_COUNT n))
    else (true, (s.setPlane n { p with prp := p.prp ++ [⟨src, seq, [seq], s.now⟩] }).showPrp n)

/-- PRP_ENTRY_FORGET: an entry with no frame for FORGET × 10 ms is freed (R76). -/
def execPrpEntryForget (n src : Nat) (s : State) : Out :=
  let p := s.plane n
  let limit := s.get (Fld.PLANEn_PRP_CFG_FORGET n) * 10000000
  match p.prp.find? (fun e => decide (e.src = src)) with
  | none => .next s
  | some e =>
    if n < 2 then
      let s := s.runTo (e.lastAt + limit)
      .next ((s.setPlane n { p with prp := p.prp.filter (fun x => decide (x.src ≠ src)) }).showPrp n)
    else .next s

/-- The next instant, after that of its last frame, at which plane n sends supervision: a whole multiple of SUP_INT ms of logical time (R78). -/
def State.supervisionDue (s : State) (n : Nat) : Nat :=
  let i := s.get (Fld.PLANEn_PRP_CFG_SUP_INT n) * 1000000
  let d := ceilDiv s.lnow i * i
  if (s.plane n).lastSup = some d then d + i else d

/-- PRP_SUPERVISION_TX: a doubly attached, enabled plane with SUP_EN sends one supervision frame on both LANs, in S0, with
one trailer number (R75, R78, R144). -/
def execPrpSupervisionTx (n : Nat) (s : State) : Out :=
  if n < 2 && s.on (Fld.PLANEn_PRP_CFG_SUP_EN n) && s.doubly n && s.on (Fld.PG_CTRL_ENABLE (planePage n)) && !s.quiescing (planePage n) then
    let due := s.supervisionDue n
    let s := s.runTo (s.now + (due - s.lnow))
    let p := s.plane n
    let s := s.setPlane n { p with txSeq := (p.txSeq + 1) % 65536, lastSup := some due }
    .next (forEach [2 * n, 2 * n + 1] (fun q (s : State) => s.depQueue q 0 { s.ctrlFrame n 70 with rct := some (trailerOf q p.txSeq 70 false) }) s)
  else .next s

/-! ### Punt ring (R82, R85) -/

/-- The punt bucket brought up to now: 64 frames, RATE frames per ms, in 10⁻⁶ frame. -/
def State.puntTokens (s : State) (n : Nat) : Nat :=
  let p := s.plane n
  Nat.min 64000000 (p.puntTokens + s.get (Fld.PLANEn_PUNT_CFG_RATE n) * (s.now - p.puntAt))

/-- A frame is punted with a reason: written to the slot at TAIL with its 64-byte header, TAIL advanced and a PUNT entry
posted; or dropped and counted in the first of LONG, FULL and RATE that applies (R85). -/
def State.punt (s : State) (n reason port stamp : Nat) (f : RxFrame) : State :=
  let slots := s.get (Fld.PLANEn_PUNT_CFG_SLOTS n)
  let tail := s.get (Fld.PLANEn_PUNT_PTR_TAIL n)
  let len := f.len - 4
  if 1984 < len then s.bumpSat (Fld.PLANEn_PUNT_DROP_LONG n)
  else if !s.on (Fld.PLANEn_PUNT_CFG_ENABLE n) || decide ((tail + 1) % slots = s.get (Fld.PLANEn_PUNT_PTR_HEAD n)) then
    s.bumpSat (Fld.PLANEn_PUNT_DROP_FULL n)
  else if s.puntTokens n < 1000000 then s.bumpSat (Fld.PLANEn_PUNT_DROP_RATE n)
  else
    let hdr := natBytes 2 len ++ [BitVec.ofNat 8 (port % 4 + (port % 2) * 4), BitVec.ofNat 8 reason] ++ natBytes 4 stamp ++ natBytes 56 0
    let s := s.excursion.dramPut (s.rd64 (Reg.PLANEn_PUNT_BASE_LO n) + tail * 2048) (hdr ++ f.bytes)
    let p := s.plane n
    let s := s.setPlane n { p with puntTokens := s.puntTokens n - 1000000, puntAt := s.now }
    let s := s.put (Fld.PLANEn_PUNT_PTR_TAIL n) ((tail + 1) % slots)
    s.post (s.get (Fld.PLANEn_PUNT_CFG_EVQ n)) 0x05 0x40 n (tail + reason * 65536 + port * 2 ^ 24)

/-- A write of PLANEn_PUNT_PTR (HEAD outside 0 to SLOTS − 1 is rejected with E_RANGE). -/
def State.puntPtrWrite (s : State) (n : Nat) (w : Word) : State :=
  s.checked (Reg.PLANEn_PUNT_PTR n) w
    (fun s => if s.get (Fld.PLANEn_PUNT_CFG_SLOTS n) ≤ bits w 16 15 then some .range else none)
    (fun s => s.applyWrite (Reg.PLANEn_PUNT_PTR n) w)

/-- PUNT_HEAD_WRITE: the host consumes slots by advancing HEAD. -/
def execPuntHeadWrite (n head : Nat) (s : State) : Out :=
  if n < 2 then .next (s.puntPtrWrite n (BitVec.ofNat 32 (head % 32768 * 65536))) else .next s

/-- A write of PLANEn_PUNT_CFG: enabling the ring sets both pointers to 0; the bucket has filled at the old RATE until now. -/
def State.puntCfgWrite (s : State) (n : Nat) (w : Word) : State :=
  s.checked (Reg.PLANEn_PUNT_CFG n) w (fun _ => none)
    (fun s =>
      let was := s.on (Fld.PLANEn_PUNT_CFG_ENABLE n)
      let s := s.setPlane n { s.plane n with puntTokens := s.puntTokens n, puntAt := s.now }
      let s := s.applyWrite (Reg.PLANEn_PUNT_CFG n) w
      if bit w 31 && !was then s.wr (Reg.PLANEn_PUNT_PTR n) 0 else s)

/-! ### Inject ring (R86) -/

/-- A write of PLANEn_INJ_PTR. -/
def State.injPtrWrite (s : State) (n : Nat) (w : Word) : State :=
  s.checked (Reg.PLANEn_INJ_PTR n) w
    (fun s => if s.get (Fld.PLANEn_INJ_CFG_SLOTS n) ≤ bits w 0 15 then some .range else none)
    (fun s => s.applyWrite (Reg.PLANEn_INJ_PTR n) w)

/-- INJECT_TAIL_WRITE: the host has filled slots up to TAIL − 1. -/
def execInjectTailWrite (n tail : Nat) (s : State) : Out :=
  if n < 2 then .next (s.injPtrWrite n (BitVec.ofNat 32 (tail % 32768))) else .next s

/-- The departure queue of an injected frame: CTRL in S0 for PTP and PRP EtherTypes, otherwise S1; every other class in the
host queue (R144). -/
def injectQueue (cls etherType : Nat) : Nat :=
  if cls = 0 then (if etherType = 0x88F7 ∨ etherType = 0x88FB then 0 else 1) else hostQueue

/-- The plane's MAC address. -/
def State.planeMac (s : State) (n : Nat) : Nat := s.get (Fld.PLANEn_MAC_LO_MAC n) + 2 ^ 32 * s.get (Fld.PLANEn_MAC_HI_MAC n)

/-- An injected frame enters its departure queue on port p: a frame of the host queue holds cells there (R144, R158), and one that Granary drops is not sent. -/
def State.injectFrame (s : State) (p q : Nat) (f : Frame) : State :=
  if q = hostQueue then
    let id := s.nextPkt
    let s := { s with nextPkt := id + 1 }.qAppend (0x4000 + p) f.len id
    if (s.queue (0x4000 + p)).items.any (fun i => decide (i.tag = id)) then s.depQueue p q { f with item := some id } else s
  else s.depQueue p q f

/-- The frame of an inject slot of plane n: its bytes with the plane's source address, its marks, and its VLAN tag if it carries one (R74, R86). -/
def State.injectedFrame (s : State) (n slot len cls : Nat) (rct : Bool) (body : List Byte) : Frame :=
  let at_ (i : Nat) : Nat := (body[i]?.getD 0#8).toNat
  let tagged := at_ 12 = 0x81 ∧ at_ 13 = 0
  { len := len + 4 + (if rct then 6 else 0), released := s.now, leg := 16384, dscp := (s.marks n cls).1, slot := some slot,
    tag := if tagged then some ((at_ 14 * 256 + at_ 15) % 4096, (s.marks n cls).2) else none,
    bytes := body.take 6 ++ beBytes 6 (s.planeMac n) ++ body.drop 12 }

/-- INJECT_SLOT_SEND: the next slot of the ring that is not yet read is sent on the LANs it names, or skipped and counted in BAD; HEAD passes a slot once its frame has
left on every LAN (R86). A twin ignores RCT (R350). -/
def execInjectSlotSend (n : Nat) (s : State) : Out :=
  let slot := (s.get (Fld.PLANEn_INJ_PTR_HEAD n) + (s.plane n).injOut.length) % s.get (Fld.PLANEn_INJ_CFG_SLOTS n)
  if ¬ n < 2 ∨ s.on (Fld.PLANEn_INJ_CFG_ENABLE n) = false ∨ slot = s.get (Fld.PLANEn_INJ_PTR_TAIL n) ∨
      s.on (Fld.PG_CTRL_ENABLE (planePage n)) = false ∨ s.quiescing (planePage n) = true then .next s
  else
    let s := s.excursion
    let a := s.rd64 (Reg.PLANEn_INJ_BASE_LO n) + slot * 2048
    let h := bytesNat (s.dram.readList a 4)
    let len := h % 65536
    let lans := recField h 2 0 2
    let rct := decide (recField h 2 2 1 = 1) && decide (s.get Fld.TWIN_STATUS_STATE = 0)
    let cls := recField h 3 0 2
    let p := s.plane n
    let s := s.setPlane n { p with injOut := p.injOut ++ [slot] }
    if len < 60 ∨ 1984 < len ∨ (2 ≤ lans ∧ s.doubly n = false) ∨ lans = 0 then .next ((s.bumpSat (Fld.PLANEn_INJ_BAD n)).injFollow n)
    else
      let body := s.dram.readList (a + 64) len
      let tagged := decide ((body[12]?).getD 0#8 = 0x81#8) && decide ((body[13]?).getD 0#8 = 0#8)
      let et := bytesNat ((body.drop (if tagged then 16 else 12)).take 2).reverse
      let f := s.injectedFrame n slot len cls rct body
      let s := if rct then s.setPlane n { s.plane n with txSeq := (p.txSeq + 1) % 65536 } else s
      let lanA := if lans % 2 = 1 then [2 * n] else []
      let lanB := if 2 ≤ lans then [2 * n + 1] else []
      .next ((forEach (lanA ++ lanB) (fun q (s : State) =>
        s.injectFrame q (injectQueue cls et) { f with rct := if rct then some (trailerOf q p.txSeq f.len tagged) else none }) s).injFollow n)

/-! ### Selected leg (PKTIN_LEG_SEL) -/

/-- A write of PKTIN_LEG_SEL starts a fetch. -/
def State.pktinSelWrite (s : State) (w : Word) : State :=
  s.checked Reg.PKTIN_LEG_SEL w (fun _ => none)
    (fun s => (((s.applyWrite Reg.PKTIN_LEG_SEL w).fetchStart Reg.PKTIN_LEG_SEL).unvalid Reg.PKTIN_LEG_POLICE).unvalid Reg.PKTIN_LEG_DUP)

/-- PKTIN_LEG_SEL. -/
def execPktinLegSel (leg : Nat) (s : State) : Out := .next (s.pktinSelWrite (BitVec.ofNat 32 leg))

/-- The fetch completes: policer drops and duplicates of the selected leg, with one GEN. -/
def State.pktinFetch (s : State) : State :=
  let g := s.leg (s.get Fld.PKTIN_LEG_SEL_LEG)
  let gen := s.nextGen Reg.PKTIN_LEG_POLICE
  (s.postResultGen Reg.PKTIN_LEG_POLICE gen g.police).postResultGen Reg.PKTIN_LEG_DUP gen g.dup

end Sys2Proof.Machine
end

