-- ==== Sys2Proof/Machine/Adapt.lean ====
section
/-! DEFINITION. Per-leg adaptation and layered forwarding (spec/06_adaptation_and_forwarding.md, R120 to R143): the congestion
controller, the layer selector, and the requests for switch points. -/

namespace Sys2Proof.Machine

/-! ### Helpers -/

/-- The bytes of log entries of ticks u − 1,000 to u − 1. -/
def logBytes (u : Nat) (l : List (Nat × Nat)) : Nat := sumBy (fun p => if u ≤ p.1 + 1000 ∧ p.1 < u then p.2 else 0) l

/-- Bytes over 1,000 ticks in kb/s, rounded down. -/
def kbps (b : Nat) : Nat := b * 8 / 1000

/-- The effective OSTR records of a leg in ascending PRIO, then number (R133). -/
def State.ostrsOf (s : State) (l : Nat) : List (Nat × Nat) :=
  sortBy (fun p => OSTR.PRIO p.2 * 65536 + p.1) ((tableRecs s.gate.effective 7).filter (fun p => decide (OSTR.LEG p.2 = l)))

/-! ### Requests for switch points (R136, R140, R141, R250, R285) -/

/-- A request for an accelerated sweep of ECOMP e; requests waiting merge (R285). -/
def State.requestSweep (s : State) (e : Nat) : State :=
  let x := s.ecomp e
  if x.effective && x.accelWait.isNone then s.setEcomp e { x with accelWait := some s.ltick } else s

/-- A PLI or FIR of VSTR v goes out in tick t (R140); a stream that comes over Binath has no leg to send it on. -/
def State.sendPli (s : State) (v t : Nat) (fir : Bool) : State :=
  let x := s.vstr v
  let r := (s.effRec 6 v).getD 0
  let l := VSTR.LEG r
  let own := LEG.LOCAL_SSRC (s.legRec l)
  let n := if fir then (x.firSeq + 1) % 256 else x.firSeq
  let s := s.setVstr v { x with lastPli := some t, pliWaiting := false, firWaiting := false, pliDecoder := false, firSeq := n }
  if l < 0x8000 then
    (s.bump Fld.ADAPT_KEYREQ_PLI).sendRtcp l t (if fir then rtcpFir own (VSTR.SSRC r) n else rtcpPli own (VSTR.SSRC r))
  else s

/-- A PLI or FIR is asked for on VSTR v: sent in the next tick, or merged into the one 500 ticks after the last (R140,
R250). -/
def State.requestPli (s : State) (v : Nat) (fir decoder : Bool) : State :=
  let x := s.vstr v
  if !x.effective then s
  else if x.pliWaiting then
    s.setVstr v { x with firWaiting := x.firWaiting || fir, pliDecoder := x.pliDecoder && decoder }
  else
    match x.lastPli with
    | none => s.sendPli v (s.ltick + 1) fir
    | some t =>
      if t + 500 ≤ s.ltick + 1 then s.sendPli v (s.ltick + 1) fir
      else s.setVstr v { x with pliWaiting := true, firWaiting := fir, pliDecoder := decoder }

/-- A pending request that only the decoder made is withdrawn (R250, R255). -/
def State.withdrawPli (s : State) (v : Nat) : State :=
  let x := s.vstr v
  if x.pliWaiting && x.pliDecoder then s.setVstr v { x with pliWaiting := false, firWaiting := false, pliDecoder := false } else s

/-- PLI_SEND: a merged request goes out 500 ticks after the previous PLI (R140, R250), in that tick or later: the pictures its boundary releases come first
(R255). -/
def execPliSend (v : Nat) (s : State) : Out :=
  let x := s.vstr v
  match x.lastPli with
  | none => .next s
  | some t => if x.pliWaiting && decide (t + 500 < s.nextTick) && !s.mediaOff then .next (s.sendPli v (t + 500) x.firWaiting) else .next s

/-- A switch point is asked of a source (R136, R141). -/
def State.requestSwitch (s : State) (kind src : Nat) : State :=
  if kind = 1 then s.requestSweep src else s.requestPli src false false

/-- A PLI or FIR received on an OSTR's SSRC (R140). -/
def State.keyReqRx (s : State) (l ssrc : Nat) (fir : Bool) : State :=
  match (s.ostrsOf l).find? (fun p => decide (OSTR.SSRC p.2 = ssrc)) with
  | none => s
  | some (_, r) => if OSTR.SRC_KIND r = 1 then s.requestSweep (OSTR.SRC r) else s.requestPli (OSTR.SRC r) fir false

/-! ### The congestion controller (R120 to R126) -/

/-- Feedback is admitted: fb_silent restarts, and FB_RESUMED follows FB_LOST (R124, R143). -/
def State.feedback (s : State) (l : Nat) : State :=
  let g := s.leg l
  let s := s.setLeg l { g with cc := { g.cc with lastFb := s.ltick, fbLost := false } }
  if g.cc.fbLost then s.post (LEG.EVQ (s.legRec l)) 0x06 0x52 l 0 else s

/-- A group's delay from its last reported packet; the last 20 groups are kept (R123). -/
def noteGroup (groups : List (Nat × Nat × Int)) (tick tx : Nat) (delay : Int) : List (Nat × Nat × Int) :=
  match groups.find? (fun g => decide (g.1 = tick)) with
  | none => lastN 20 (insertBy (fun g => g.1) (tick, tx, delay) groups)
  | some g => if g.2.1 ≤ tx then groups.map (fun h => if h.1 = tick then (tick, tx, delay) else h) else groups

/-- RFC 8888 feedback reports on a packet (R122, R123): received wins over lost, and a packet that was counted keeps its count. -/
def Cc.report (c : Cc) (ssrc seq : Nat) (arrival : Option Int) : Cc :=
  match c.sent.get (fun _ => none) (sentKey ssrc seq) with
  | none => c
  | some p =>
    let st := if p.status = 3 then 3 else if arrival.isSome = true ∨ p.status = 2 then 2 else 1
    let c := { c with sent := c.sent.set (fun _ => none) (sentKey ssrc seq) (some { p with status := st }) }
    match arrival with
    | none => c
    | some a => { c with groups := noteGroup c.groups p.tick p.at_ (a - p.at_) }

/-- Sent packets whose report waits to be counted with status n. -/
def Cc.waiting (c : Cc) (n : Nat) : Nat := (c.sent.filter (fun p => match p.2 with | some x => decide (x.status = n) | none => false)).length

/-- After an evaluated loss nothing reported before it waits (R122): what was counted stays counted. -/
def Cc.counted (c : Cc) (ccfb : Bool) : Cc :=
  { c with sent := Sparse.mapAll (fun _ => none) (fun _ o => o.map (fun x =>
      if x.status = 1 ∨ x.status = 2 then { x with status := if ccfb then 3 else 0 } else x)) c.sent }

/-- The loss term's value (R122): none when nothing is evaluated. -/
def Cc.loss (c : Cc) (ccfb : Bool) : Option Nat :=
  if ccfb then
    let n := c.waiting 1 + c.waiting 2
    if n < 10 then none else some (1000 * c.waiting 1 / n)
  else c.rrFraction.map (fun f => f * 1000 / 256)

/-- N, M and the number of groups of R123: x the transmit stamps relative to the oldest group's and y the group delays, in whole µs. -/
def gradient (groups : List (Nat × Nat × Int)) : Int × Int × Nat :=
  let x0 := (groups.head?.map (fun g => g.2.1)).getD 0
  let l := groups.map (fun g => (((g.2.1 : Int) - x0).fdiv 1000, g.2.2.fdiv 1000))
  let n : Int := l.length
  let sx := sumByI (fun p => p.1) l
  let sy := sumByI (fun p => p.2) l
  let sxy := sumByI (fun p => p.1 * p.2) l
  let sxx := sumByI (fun p => p.1 * p.1) l
  (n * sxy - sx * sy, n * sxx - sx * sx, l.length)

/-- The delay term of R123. -/
def Cc.delay (c : Cc) (ccfb : Bool) (u grad rise : Nat) : Bool :=
  if ccfb then
    let (n, m, k) := gradient c.groups
    decide (8 ≤ k) && decide (0 < m) && decide ((grad : Int) * m < 1000 * n)
  else
    match c.rtt, (c.rttLog.filter (fun p => decide (u ≤ p.1 + 10000))).map (·.2) with
    | some r, h :: t => decide (rise < r - t.foldl Nat.min h)
    | _, _ => false

/-- The gradient as ADAPT_LEG_STATE shows it. -/
def Cc.shownGrad (c : Cc) : Int :=
  let (n, m, k) := gradient c.groups
  if m ≤ 0 ∨ k < 8 then 0 else clampI (-511) 511 ((1000 * n).fdiv m)

/-- The target rate clamped (R121, R124): the floor wins. -/
def clampRate (r floor ceil : Nat) : Nat := Nat.max floor (Nat.min r ceil)

/-- One update of R124 at tick u of a leg with record r: the controller after it, and whether it decreased. -/
def Cc.update (c : Cc) (u r trip : Nat) (timeout rise : Nat) : Cc × Bool :=
  let ccfb := match c.lastCcfb with | some t => decide (u ≤ t + 1000) | none => false
  let loss := c.loss ccfb
  let lossTerm := match loss with | some v => decide (20 < v) | none => false
  let delayTerm := c.delay ccfb u trip rise
  let rtt := c.rtt.getD 100
  let hold := match c.lastDec with | some t => decide (u - t < Nat.max rtt 100) | none => false
  let silent := decide (timeout * 100 ≤ u - c.lastFb)
  let cut := silent && (match c.lastCut with | some t => decide (500 ≤ u - t) | none => true)
  let dec := !silent && (lossTerm || delayTerm) && !hold
  let sent := kbps (logBytes u c.sentLog)
  let grow := !silent && !(lossTerm || delayTerm) && !hold && decide (c.rate * 3 / 4 ≤ sent)
  let r1 := if cut || dec then c.rate * 85 / 100 else if grow then c.rate + Nat.max 1 (c.rRef * 4 / 1000) else c.rate
  let cap := Nat.min (LEG.RATE_CEIL r) (c.tmmbr.getD (LEG.RATE_CEIL r))
  let grad := if ccfb then c.shownGrad else 0
  let c := if loss.isSome then c.counted ccfb else c
  let c := { c with
    rate := clampRate r1 (LEG.RATE_FLOOR r) cap, rRef := if cut || dec then r1 else c.rRef,
    lastDec := if dec then some u else c.lastDec, lastCut := if cut then some u else c.lastCut,
    rrFraction := if loss.isSome then none else c.rrFraction,
    lastUpdate := some u, mode := if silent then 3 else if ccfb then 1 else 2, held := hold && !silent, delayTerm := delayTerm,
    lossPm := loss.getD c.lossPm, grad := grad, fbLost := c.fbLost || silent,
    sentLog := c.sentLog.filter (fun p => decide (u ≤ p.1 + 1000)), audioLog := c.audioLog.filter (fun p => decide (u ≤ p.1 + 1000)),
    rttLog := c.rttLog.filter (fun p => decide (u ≤ p.1 + 10000)), groups := c.groups }
  (c, cut || dec)

/-- The controller of leg l updates at tick u, and the leg's shaper follows it (R124, R126). -/
def State.ccRun (s : State) (l u : Nat) : State :=
  let r := s.legRec l
  let g := s.leg l
  let (c, dec) := g.cc.update u r (s.get Fld.ADAPT_TRIP_GRAD) (s.get Fld.ADAPT_TRIP_FB_TIMEOUT) (s.get Fld.ADAPT_TRIP_RTT_RISE)
  let sh := if g.shaper.present then g.shaper.setRate s.lnow (Nat.min (ceilDiv (11 * c.rate) 10) 10000000) else g.shaper
  let s := s.setLeg l { g with cc := c, shaper := sh }
  let s := if dec then s.bump Fld.ADAPT_DECREASES_COUNT else s
  let s := if c.fbLost && !g.cc.fbLost then s.post (LEG.EVQ r) 0x06 0x51 l 0 else s
  if c.rate = LEG.RATE_FLOOR r ∧ c.rate < g.cc.rate then s.post (LEG.EVQ r) 0x06 0x50 l c.rate else s

/-! ### Layer selection (R129, R130, R133 to R137) -/

/-- Elements of the given (ID, length) fit the one-byte form of RFC 8285 (R94). -/
def extShort (l : List (Nat × Nat)) : Bool := l.all (fun e => decide (1 ≤ e.1) && decide (e.1 ≤ 14) && decide (1 ≤ e.2) && decide (e.2 ≤ 16))

/-- The length of a header extension with elements of the given (ID, length), in whole words. -/
def extLen (l : List (Nat × Nat)) : Nat :=
  if l = [] then 0 else 4 + roundUp (sumBy (fun (e : Nat × Nat) => e.2 + (if extShort l = true then 1 else 2)) l) 4

/-- A header extension (R94) with elements (ID, data): the one-byte form where every element fits it, otherwise the two-byte form. -/
def headerExt (l : List (Nat × List Byte)) : List Byte :=
  if l = [] then []
  else
    let short := extShort (l.map (fun e => (e.1, e.2.length)))
    let n := extLen (l.map (fun e => (e.1, e.2.length)))
    let head (e : Nat × List Byte) : List Byte :=
      if short = true then natBytes 1 (e.1 * 16 + (e.2.length - 1)) else natBytes 1 e.1 ++ natBytes 1 e.2.length
    let body := l.flatMap (fun e => head e ++ e.2)
    beBytes 2 (if short = true then 0xBEDE else 0x1000) ++ beBytes 2 (n / 4 - 1) ++ body ++ List.replicate (n - 4 - body.length) 0#8

/-- EXT_FM and EXT_DD of a sending leg (R139). Over a link (R335) there is no leg record, and both elements stay under numbers 1 and 2
(log entry 83). -/
def State.extIds (s : State) (l : Nat) : Nat × Nat := if 0x8000 ≤ l then (1, 2) else (LEG.EXT_FM (s.legRec l), LEG.EXT_DD (s.legRec l))

/-- The elements of lengths fm and dd that stay in a forwarded packet (R139). -/
def keptLens (ids : Nat × Nat) (fm dd : Nat) : List (Nat × Nat) :=
  (if ids.1 = 0 ∨ fm = 0 then [] else [(ids.1, fm)]) ++ (if ids.2 = 0 ∨ dd = 0 then [] else [(ids.2, dd)])

/-- The header extension a forwarded packet leaves with (R139). -/
def keptExt (ids : Nat × Nat) (m : Media) : List Byte :=
  headerExt ((if ids.1 = 0 ∨ m.fm = [] then [] else [(ids.1, m.fm)]) ++ (if ids.2 = 0 ∨ m.dd = [] then [] else [(ids.2, m.dd)]))

/-- What the device adds around the RTP packet of leg l's media: IP and UDP headers and tag; nothing over a link. -/
def State.mediaOverhead (s : State) (l : Nat) : Nat := if 0x8000 ≤ l then 0 else legOverhead (s.legRec l)

/-- A source's layer log, and when it took effect. -/
def State.srcLog (s : State) (kind src : Nat) : List LayerPkt × Nat :=
  if kind = 1 then ((s.ecomp src).layerLog, (s.ecomp src).born) else ((s.vstr src).layerLog, (s.vstr src).born)

/-- rate(s, t) of R130 in kb/s at tick u, each packet counted as it would leave: RTP header, the extension kept under `ids`, payload, and
`ovh` bytes of headers and tag. -/
def setRate (log : List LayerPkt) (born : Nat) (ids : Nat × Nat) (ovh u : Nat) (k : Nat × Nat) : Nat :=
  let b := sumBy (fun (p : LayerPkt) =>
    if u ≤ p.tick + 1000 ∧ p.tick < u ∧ p.s ≤ k.1 ∧ p.t ≤ k.2 then 12 + extLen (keptLens ids p.fm p.dd) + p.pay + ovh else 0) log
  let age := u - born
  if 1000 ≤ age then kbps b else if age = 0 then 0 else b * 8 / age

/-- A set is a candidate only when a packet of layer (s, t) itself arrived in the last 1,000 ticks (R130). -/
def setArrived (log : List LayerPkt) (u : Nat) (k : Nat × Nat) : Bool :=
  log.any (fun p => decide (u ≤ p.tick + 1000) && decide (p.tick < u) && decide (p.s = k.1) && decide (p.t = k.2))

/-- The order of sets by PREF (R133): spatial first or temporal first. -/
def setOrder (pref : Nat) (k : Nat × Nat) : Nat := if pref = 1 then k.2 * 4 + k.1 else k.1 * 4 + k.2

/-- The nine layer sets. -/
def allSets : List (Nat × Nat) := [(0, 0), (0, 1), (0, 2), (1, 0), (1, 1), (1, 2), (2, 0), (2, 1), (2, 2)]

/-- The candidate of greatest order. -/
def bestSet (pref : Nat) : List (Nat × Nat) → Option (Nat × Nat)
  | [] => none
  | k :: t =>
    match bestSet pref t with
    | none => some k
    | some b => if setOrder pref b < setOrder pref k then some k else some b

/-- The desired set of an OSTR with allowance v (R133), and the allowance left. -/
def State.desire (s : State) (o u : Nat) (r ovh : Nat) (v : Int) : Option (Nat × Nat) × Int :=
  let x := s.ostr o
  let (log, born) := s.srcLog x.srcKind x.src
  let rate := setRate log born (s.extIds (OSTR.LEG r)) ovh u
  let ok := allSets.filter (fun k =>
    decide (k.1 ≤ OSTR.MAX_S r) && decide (k.2 ≤ OSTR.MAX_T r) && setArrived log u k && decide ((rate k : Int) ≤ v))
  match bestSet (OSTR.PREF r) ok with
  | some k => (some k, v - rate k)
  | none => if OSTR.MIN_BASE r = 1 then (some (0, 0), v - rate (0, 0)) else (none, v)

/-- A downward move is decided (R134, R142): it waits for the source's next picture. -/
def State.moveDown (s : State) (o u : Nat) (k : Option (Nat × Nat)) : State :=
  let x := s.ostr o
  (s.setOstr o { x with down := x.down ++ [(u, k)], up := none, lastDown := some u }).bump Fld.ADAPT_SWITCH_DOWN_COUNT

/-- The set an OSTR will have once its waiting downward moves apply. -/
def Ostr.ref (x : Ostr) : Option (Nat × Nat) := match x.down.getLast? with | some p => p.2 | none => x.cur

/-- Whether set k is below set m (R134; DEDUCED, log entry 14: sets that differ both ways are placed by PREF). -/
def setBelow (pref : Nat) (k m : Option (Nat × Nat)) : Bool :=
  match k, m with
  | _, none => false
  | none, some _ => true
  | some a, some b => decide (setOrder pref a < setOrder pref b)

/-- The greatest set that every logged update desired at or above (R135): none if some update desired none. -/
def meetLog : List (Nat × Option (Nat × Nat)) → Option (Nat × Nat)
  | [] => some (3, 3)
  | (_, none) :: _ => none
  | (_, some k) :: t =>
    match meetLog t with
    | none => none
    | some m => some (Nat.min k.1 m.1, Nat.min k.2 m.2)

/-- The updates of the last 3,000 ticks that R135's first condition looks at: for a young OSTR that has never moved down, from
its first update with a candidate (R137). -/
def Ostr.upLog (x : Ostr) (u : Nat) : List (Nat × Option (Nat × Nat)) :=
  let l := x.wantLog.filter (fun p => decide (u ≤ p.1 + 3000))
  let young := x.cur.isNone && x.lastDown.isNone && decide (x.firstWant.getD u < x.born + 3000)
  if young then l.filter (fun p => decide (x.firstWant.getD u ≤ p.1)) else l

/-- The 3,000 ticks of R135 have passed since the last downward move and since a source switch (R141). -/
def Ostr.mayClimb (x : Ostr) (u : Nat) : Bool :=
  (match x.lastDown with | some t => decide (t + 3000 ≤ u) | none => true) &&
  (match x.restarted with | some t => decide (t + 3000 ≤ u) | none => true)

/-- The selector takes the desired set of OSTR o at update u (R134, R135, R136). -/
def State.decideSet (s : State) (o u r : Nat) (want : Option (Nat × Nat)) : State :=
  let x := s.ostr o
  let log := x.wantLog.filter (fun p => decide (u ≤ p.1 + 3000)) ++ [(u, want)]
  let x := { x with desired := want, wantLog := log, firstWant := if want.isSome && x.firstWant.isNone then some u else x.firstWant }
  let s := s.setOstr o x
  if setBelow (OSTR.PREF r) want x.ref then s.moveDown o u want
  else if want = none ∨ want = x.ref ∨ x.down ≠ [] ∨ x.mayClimb u = false then s.setOstr o { x with up := none }
  else
    match meetLog (x.upLog u) with
    | none => s.setOstr o { x with up := none }
    | some k =>
      if setBelow (OSTR.PREF r) x.ref (some k) || x.ref.isNone then
        let s := s.setOstr o { x with up := some k }
        let inS := match x.ref with | none => true | some m => decide (m.1 < k.1)
        if inS && decide (OSTR.KEYREQ r = 1) then s.requestSwitch x.srcKind x.src else s
      else s.setOstr o { x with up := none }

/-- The selector of leg l at update u (R133). -/
def State.selectLayers (s : State) (l u : Nat) : State :=
  let g := s.leg l
  let ovh := s.mediaOverhead l
  let v : Int := (9 * g.cc.rate / 10 : Nat) - (kbps (logBytes u g.cc.audioLog) : Int)
  ((s.ostrsOf l).foldl (fun (a : State × Int) p =>
    let (k, v) := a.1.desire p.1 u p.2 ovh a.2
    (a.1.decideSet p.1 u p.2 k, v)) (s, v)).1

/-- CC_UPDATE: the update tick of leg l: the controller, unless ADAPT_CFG.ENABLE = 0, and then the selector (R120, R124, R133).
A leg in TX_STOPPED updates as an ACTIVE one (R142; DEDUCED, log entry 15). -/
def execCcUpdate (l : Nat) (s : State) : Out :=
  if s.hasController l && !s.mediaOff then
    let u := s.nextUpdate l
    let s := s.runTo (u * 1000000 + s.lag)
    let s := if s.on Fld.ADAPT_CFG_ENABLE then s.ccRun l u else s.modLeg l (fun g => { g with cc := { g.cc with lastUpdate := some u } })
    .next (s.selectLayers l u)
  else .next s

/-! ### ADAPT page -/

/-- A write of ADAPT_LEG_SEL starts a fetch. -/
def State.adaptLegSelWrite (s : State) (w : Word) : State :=
  s.checked Reg.ADAPT_LEG_SEL w (fun _ => none)
    (fun s => (((s.applyWrite Reg.ADAPT_LEG_SEL w).fetchStart Reg.ADAPT_LEG_SEL).unvalid Reg.ADAPT_LEG_RATE).unvalid Reg.ADAPT_LEG_STATE)

/-- ADAPT_LEG_SEL. -/
def execAdaptLegSel (leg : Nat) (s : State) : Out := .next (s.adaptLegSelWrite (BitVec.ofNat 32 leg))

/-- The fetch completes: the selected leg's target rate and controller state, with one GEN. -/
def State.adaptLegFetch (s : State) : State :=
  let l := s.get Fld.ADAPT_LEG_SEL_LEG
  let c := (s.leg l).cc
  let has := s.hasController l
  let gen := s.nextGen Reg.ADAPT_LEG_RATE
  let s := s.postResultGen Reg.ADAPT_LEG_RATE gen (if has then c.rate else 0)
  s.postResultGen Reg.ADAPT_LEG_STATE gen
    (if has then c.mode * 2 ^ 22 + b2n c.held * 2 ^ 21 + b2n c.delayTerm * 2 ^ 20 + Nat.min 1000 c.lossPm * 2 ^ 10 + unsigned 10 c.grad else 0)

/-- A write of ADAPT_OSTR_SEL starts a fetch. -/
def State.adaptOstrSelWrite (s : State) (w : Word) : State :=
  s.checked Reg.ADAPT_OSTR_SEL w (fun _ => none)
    (fun s => ((s.applyWrite Reg.ADAPT_OSTR_SEL w).fetchStart Reg.ADAPT_OSTR_SEL).unvalid Reg.ADAPT_OSTR_LAYER)

/-- ADAPT_OSTR_SEL. -/
def execAdaptOstrSel (ostr : Nat) (s : State) : Out := .next (s.adaptOstrSelWrite (BitVec.ofNat 32 ostr))

/-- A set as ADAPT_OSTR_LAYER shows it. -/
def setCode : Option (Nat × Nat) → Nat
  | none => 15
  | some k => k.1 + 4 * k.2

/-- The fetch completes: the selected OSTR's sets. -/
def State.adaptOstrFetch (s : State) : State :=
  let x := s.ostr (s.get Fld.ADAPT_OSTR_SEL_OSTR)
  let upWait := match x.up, x.cur with
    | some _, none => true
    | some k, some m => decide (m.1 < k.1)
    | none, _ => false
  let st := if !x.effective then 0 else if x.switchTo.isSome then 3 else if x.cur.isNone then 2 else 1
  s.postResult Reg.ADAPT_OSTR_LAYER
    (if x.effective then st * 2 ^ 16 + b2n upWait * 2 ^ 12 + setCode x.desired * 2 ^ 8 + setCode x.cur else 15 * 2 ^ 8 + 15)

end Sys2Proof.Machine
end

