-- ==== Sys2Proof/Machine/Rx.lean ====
section
/-! DEFINITION. Reception (spec/04_ports_and_planes.md R70 to R85; spec/05_legs_and_transport.md R89 to R119): the checks of a
received frame, SRTP and duplicates, RTCP, the jitter buffer, the video buffer, the recall buffer, TDM frames, the leg
statistics and limited events. -/

namespace Sys2Proof.Machine

/-! ### Replay windows (R79, R100) -/

/-- What a window makes of index i: 0 new, 1 already seen, 2 below the window; and the window after a new one. -/
def ReplayWin.check (w : ReplayWin) (i : Nat) : Nat × ReplayWin :=
  if !w.started then (0, ⟨true, i, [i]⟩)
  else if w.top < i then (0, ⟨true, i, i :: w.seen.filter (fun x => decide (i < x + 128))⟩)
  else if w.top ≥ i + 128 then (2, w)
  else if w.seen.contains i then (1, w)
  else (0, { w with seen := i :: w.seen })

/-- The key of the windows of a context and SSRC (log entry 13); a leg with PROFILE 0x00 has its own. -/
def winKey (ctx ssrc : Nat) : Nat := ctx * 2 ^ 32 + ssrc

/-- The pseudo-context of a plain leg. -/
def plainCtx (l : Nat) : Nat := 65536 + l

/-- Forget every window of a context (R100, R385). -/
def State.clearWin (s : State) (ctx : Nat) : State :=
  { s with rxWin := s.rxWin.filter (fun p => decide (p.1 / 2 ^ 32 ≠ ctx)) }

/-- The replay check of a packet under a context: the outcome of `check`, the index, and the state. -/
def State.replay (s : State) (ctx : Nat) (p : RxPkt) : Nat × Nat × State :=
  let k := winKey ctx p.ssrc
  let x := s.rxWin.get (fun _ => {}) k
  if p.rtcp then
    let (v, w) := x.srtcp.check p.rtcpIndex
    (v, p.rtcpIndex, { s with rxWin := s.rxWin.set (fun _ => {}) k { x with srtcp := w } })
  else
    let i := if x.srtp.started then estimateIndex 65536 x.srtp.top p.seq else p.seq
    let (v, w) := x.srtp.check i
    (v, i, { s with rxWin := s.rxWin.set (fun _ => {}) k { x with srtp := w } })

/-! ### Classification and policing (R81 to R84) -/

/-- The path of a leg's record a datagram came on, by the form of its MATCH (R81). -/
def legMatch (r form : Nat) (srcAddr srcPort dstPort ssrc : Nat) : Option Bool :=
  if LEG.MATCH r ≠ form ∨ LEG.LOCAL_PORT r ≠ dstPort ∨ LEG.TRANSPORT r ≠ 0 then none
  else if form ≠ 1 ∧ LEG.REMOTE_SSRC r ≠ ssrc then none
  else if form = 2 then some false
  else if LEG.ADDR0 r = srcAddr ∧ LEG.PORT0 r = srcPort then some false
  else if LEG.PROT r = 1 ∧ LEG.ADDR1 r = srcAddr ∧ LEG.PORT1 r = srcPort then some true
  else none

/-- The leg a datagram to plane n's own address is classified to, and whether it came on PATH 1 (R72, R81). -/
def State.findLeg (s : State) (n srcAddr srcPort dstPort ssrc : Nat) : Option (Nat × Bool) :=
  let legs := (tableRecs s.gate.effective 1).filter (fun p => decide (LEG.PLANE p.2 = n) && (s.leg p.1).installed)
  let hit (form : Nat) := legs.findSome? (fun p => (legMatch p.2 form srcAddr srcPort dstPort ssrc).map (fun path => (p.1, path)))
  match hit 0 with
  | some x => some x
  | none =>
    match hit 1 with
    | some x => some x
    | none => hit 2

/-- The leg's policer refilled under record r up to instant t (R84); disabled, its tokens stay full (R83). -/
def Policer.refill (p : Policer) (r t : Nat) : Policer :=
  let cap := POLICER.BURST r * 1000000000
  let tokens := if p.at_ < t then Nat.min cap (p.tokens + POLICER.RATE r * 125 * (t - p.at_)) else p.tokens
  ⟨if POLICER.ENABLE r = 0 then cap else tokens, Nat.max p.at_ t⟩

/-- The leg's policer at a receive stamp (R84): whether a packet of n bytes passes, and the policer. -/
def Policer.police (p : Policer) (r t n : Nat) : Bool × Policer :=
  let p := p.refill r t
  if POLICER.ENABLE r = 0 then (true, p)
  else if n * 1000000000 ≤ p.tokens then (true, { p with tokens := p.tokens - n * 1000000000 })
  else (false, p)

/-- Step 6 of R70: whether the packet passes leg l's policer, and the state. -/
def State.police (s : State) (l stamp len : Nat) : Bool × State :=
  match s.effRec 4 l with
  | none => (true, s)
  | some r =>
    let (ok, p) := (s.leg l).policer.police r stamp len
    let s := s.modLeg l (fun g => { g with policer := p })
    if ok then (true, s)
    else (false, (s.modLeg l (fun g => { g with police := (g.police + 1) % 2 ^ 24 })).bump Fld.PKTIN_DROP_POLICE_COUNT)

/-! ### The jitter buffer (R103 to R106) -/

/-- The target for a J95 in thirds of a ns (R103). -/
def jbTarget (r j95 : Nat) : Nat :=
  let p := LEG.PTIME r
  if p = 0 ∨ LEG.JB_MAX r < p then 0
  else Nat.min (Nat.max (p * ceilDiv j95 (2000000 * p)) (p * ceilDiv (LEG.JB_MIN r) p)) (p * (LEG.JB_MAX r / p))

/-- J95 of a window (R103): the value at rank ceil(0.95 × n) of d − min(d). -/
def jbJ95 (w : List (Nat × Int)) : Nat :=
  match sortInts (w.map (·.2)) with
  | [] => 0
  | h :: t =>
    let n := t.length + 1
    (((h :: t)[ceilDiv (95 * n) 100 - 1]?).getD h - h).toNat

/-- The extended timestamp of ts by the newest one (R103): the nearest of its 2³² multiples. -/
def extendTs (last ts : Nat) : Nat := estimateIndex (2 ^ 32) last ts

/-- The delay variation of R103 in thirds of a ns. -/
def jbDelay (stamp ts rate : Nat) : Int := 3 * (stamp : Int) - (ts : Int) * (3000000000 / rate : Nat)

/-- Keep the newest and highest numbers that LOST counts by (RFC 3550). -/
def Jb.note (b : Jb) (seq : Nat) : Jb :=
  let e := estimateIndex 65536 b.rxHigh seq
  { b with rxHigh := Nat.max b.rxHigh e, rxCount := b.rxCount + 1 }

/-- A new base (R104, R106): the packet at admission tick t starts the buffer at the start target. -/
def Jb.rebase (b : Jb) (r t : Nat) (p : RxPkt) : Jb :=
  let target := jbTarget r 0
  let ts := p.ts + 2 ^ 32
  let seq := p.seq + 65536
  let same := decide (b.rxCount ≠ 0) && decide (b.ssrc = p.ssrc)
  { b with based := true, p0 := t + 1 + target, ts0 := ts, ssrc := p.ssrc, shift := 0, depth := target, target := target,
           j95 := 0, window := [], shrinkRun := 0, growDue := false, dropDue := false, lastTs := ts,
           rxBase := if same then b.rxBase else seq, rxHigh := if same then b.rxHigh else seq,
           rxCount := if same then b.rxCount else 0, frames := [], nextAt := t + 1 + target, decoded := false }

/-- The playout tick of an extended timestamp (R104). -/
def Jb.playout (b : Jb) (rate ts : Nat) : Int :=
  (b.p0 : Int) + b.shift + ((ts : Int) - b.ts0) * 1000 / (rate : Int)

/-- The payload of a received packet, without the padding its P bit announces (R94). -/
def rxPayload (p : RxPkt) : List Byte :=
  let pad := if bit ((p.clear.head?.getD 0#8).toNat) 5 then (p.clear.getLast?.getD 0#8).toNat else 0
  let whole := p.clear.take (p.clear.length - pad)
  whole.drop (whole.length - p.payLen)

/-- The milliseconds of one frame of an Opus packet by the configuration in its first byte; those under 10 ms are no frames of R195. PRESUMED (RFC 6716; log entry 171). -/
def opusFrameMs (config : Nat) : Option Nat :=
  if config < 12 then [10, 20, 40, 60][config % 4]?
  else if config < 16 then [10, 20][config % 2]?
  else if config % 4 = 2 then some 10 else if config % 4 = 3 then some 20 else none

/-- The frames of an Opus packet by its code, for code 3 by its second byte. -/
def opusFrameCount (pay : List Byte) : Option Nat :=
  match pay with
  | [] => none
  | b :: t =>
    match b.toNat % 4 with
    | 0 => some 1
    | 3 => t.head?.map (fun c => c.toNat % 64)
    | _ => some 2

/-- The milliseconds a received payload of a codec lasts, if it is in a form R195 accepts. -/
def frameMs (codec : Nat) (pay : List Byte) : Option Nat :=
  if codec = 7 then
    match opusFrameCount pay, opusFrameMs ((pay.head?.getD 0#8).toNat / 8) with
    | some n, some d => if 0 < n ∧ n * d ≤ 60 then some (n * d) else none
    | _, _ => none
  else
    let unit := if codec ≤ 3 then 8 else if codec = 4 then 16 else if codec = 5 then 32 else 96
    let n := pay.length
    if n % unit = 0 ∧ 0 < n ∧ n ≤ 40 * unit then some (n / unit) else none

/-- A frame is damaged (R201): outside the accepted forms, or failing to decode, which only an Opus payload can. -/
def frameBad (codec : Nat) (pay : List Byte) : Bool := (frameMs codec pay).isNone || (decide (codec = 7) && Config.opusFails pay)

/-- An admitted audio packet with receive stamp `stamp` reaches leg l's jitter buffer (R103, R104, R106). -/
def State.jbAdmit (s : State) (l stamp : Nat) (p : RxPkt) : State :=
  let r := s.legRec l
  let g := s.leg l
  let rate := rtpClock (LEG.A_CODEC r)
  let t := stamp / 1000000
  let other := g.jb.based && decide (g.jb.ssrc ≠ p.ssrc)
  let first := !g.jb.based || (other && decide (LEG.MATCH r ≠ 1))
  let far := g.jb.based && !other && decide (1000 < (g.jb.playout rate (extendTs g.jb.lastTs p.ts) - (s.ltick : Int)).natAbs)
  let resync := far || (other && decide (LEG.MATCH r = 1))
  let b := if first || resync then g.jb.rebase r t p else g.jb
  let ts := extendTs b.lastTs p.ts
  let d := jbDelay stamp ts rate
  let b := { b.note p.seq with lastTs := Nat.max b.lastTs ts,
                               window := b.window.filter (fun w => decide (stamp ≤ w.1 + 10000000000)) ++ [(stamp, d)] }
  let play := (b.playout rate ts).toNat
  let late := decide (play ≤ t)
  let pay := rxPayload p
  let f : JFrame := ⟨p.seq, ts, play, t, (frameMs (LEG.A_CODEC r) pay).getD 0, decide (LEG.A_CODEC r = 7) && decide (pay.length ≤ 2), frameBad (LEG.A_CODEC r) pay, Config.opusLbrr pay, pay⟩
  let b := if late then b else { b with frames := insertBy JFrame.playout f b.frames }
  let s := s.setLeg l { g with jb := b, late := if late then (g.late + 1) % 2 ^ 32 else g.late,
                               lost := (b.rxHigh - b.rxBase + 1) - b.rxCount,
                               resync := if resync then (g.resync + 1) % 65536 else g.resync }
  if other && decide (LEG.MATCH r = 1) then s.post (LEG.EVQ r) 0x01 0x05 l p.ssrc else s

/-- JB_RECOMPUTE: at a whole or half second leg l's target is recomputed, and a move of the depth becomes due (R103, R105). -/
def execJbRecompute (l : Nat) (s : State) : Out :=
  if s.mediaOff then .next s else
  let g := s.leg l
  if !g.jb.based then .next s
  else
    let s := s.runTo (ceilDiv s.lnow 500000000 * 500000000 + s.lag)
    let r := s.legRec l
    let w := g.jb.window.filter (fun w => decide (s.lnow ≤ w.1 + 10000000000))
    let j := jbJ95 w
    let target := jbTarget r j
    let b := g.jb
    let shrink := decide (target + LEG.PTIME r ≤ b.depth)
    let run := if shrink then b.shrinkRun + 1 else 0
    let b := { b with window := w, j95 := j, target := target, shrinkRun := run, growDue := decide (b.depth < target) }
    .next (s.setLeg l { g with jb := { b with dropDue := decide (2 ≤ run) } })

/-! ### The recall buffer (R111, R112) -/

/-- Bytes of a conference's recall region that hold entries. -/
def recallSpace (r : Nat) : Nat := CONF.RECALL_SIZE r * 65536 - 64

/-- Bytes free after `next` before the oldest entry, going round. -/
def Conf.free (c : Conf) (space : Nat) : Nat :=
  match c.entries with
  | [] => space
  | e :: _ => if e.offset = c.next then 0 else (e.offset + space - c.next) % space

/-- Reclaim the oldest entries until n bytes fit after the newest; entries frozen at T are kept (R112). -/
def Conf.makeRoom (c : Conf) (space n : Nat) : Nat → Conf
  | 0 => c
  | fuel + 1 =>
    match c.entries with
    | [] => c
    | e :: t =>
      if n ≤ c.free space ∨ e.frozen = true then c
      else Conf.makeRoom { c with entries := t, overwritten := c.overwritten + 1 } space n fuel

/-- Write bytes into the circular part of a region at an offset. -/
def State.recallPut (s : State) (r off : Nat) : List Byte → State
  | [] => s
  | b :: t =>
    let sp := recallSpace r
    State.recallPut (s.dramPut (CONF.RECALL_BASE r + 64 + (off - 64) % sp) [b]) r (off + 1) t

/-- An audio packet admitted by a leg of conference c is appended to its recall region (R111). -/
def State.recallAppend (s : State) (c l stamp : Nat) (path1 : Bool) (p : RxPkt) : State :=
  match s.effRec 2 c with
  | none => s
  | some r =>
    if CONF.RECALL_EN r = 0 then s
    else
      let size := roundUp (16 + p.len) 64
      let x := (s.conf c).makeRoom (recallSpace r) size (s.conf c).entries.length
      if x.free (recallSpace r) < size then
        let s := s.setConf c { x with fullPosted := true }
        if x.freezeTick.isSome && !x.fullPosted then s.post (CONF.EVQ r) 0x02 0x11 c 0 else s
      else
        let bytes := natBytes 4 (stamp / 1000000000) ++ natBytes 4 (stamp % 1000000000) ++ natBytes 2 l ++ natBytes 2 p.len ++
          natBytes 4 (b2n path1) ++ (p.clear.take p.len) ++ natBytes (size - 16 - Nat.min p.len p.clear.length) 0
        let s := s.recallPut r x.next bytes
        s.setConf c { x with entries := x.entries ++ [⟨stamp, l, x.next, size, false⟩],
                             next := 64 + (x.next - 64 + size) % recallSpace r }

/-! ### Video reception (R95, R98, R107, R129, R130) -/

/-- The numbers strictly between two sequence numbers, oldest first. -/
def seqBetween (a b : Nat) : List Nat := (List.range (seqDist b a - 1)).map (fun i => (a + 1 + i) % 65536)

/-- Sequence number a is above b. -/
def seqAbove (a b : Nat) : Bool := decide (seqDist a b ≠ 0) && decide (seqDist a b < 32768)

/-- The marker packet of the picture that precedes timestamp ts (R107), and whether some picture precedes it. -/
def precedingMarker (marks : List (Nat × Nat)) (ts : Nat) : Option Nat :=
  let before := marks.filter (fun m => decide ((ts + 2 ^ 32 - m.1) % 2 ^ 32 < 2 ^ 31) && decide (m.1 ≠ ts))
  match sortBy (fun m => (ts + 2 ^ 32 - m.1) % 2 ^ 32) before with
  | [] => none
  | m :: _ => if m.2 = 65536 then none else some m.2

/-- A picture is complete (R107). -/
def Pic.complete (p : Pic) (marks : List (Nat × Nat)) : Bool :=
  match p.marker with
  | none => false
  | some m =>
    let start := match precedingMarker marks p.ts with | some x => (x + 1) % 65536 | none => p.low
    (List.range (seqDist m start + 1)).all (fun i => p.pkts.any (fun k => decide (k.seq = (start + i) % 65536)))

/-- Record a picture's marker packet by its timestamp; 65,536 stands for one not admitted. -/
def noteMark (marks : List (Nat × Nat)) (ts : Nat) (marker : Option Nat) : List (Nat × Nat) :=
  match marker, marks.any (fun m => decide (m.1 = ts)) with
  | some q, _ => lastN 64 (marks.filter (fun m => decide (m.1 ≠ ts)) ++ [(ts, q)])
  | none, true => marks
  | none, false => lastN 64 (marks ++ [(ts, 65536)])

/-- The plane of a received stream (R73): its leg's, or over a link the one its packets carry (R335). -/
def State.streamPlane (s : State) (v : Nat) : Option Nat :=
  let l := VSTR.LEG ((s.effRec 6 v).getD 0)
  if 0x8000 ≤ l then (s.vstr v).plane else some (LEG.PLANE (s.legRec l))

/-- What is forwarded of a video packet of stream v, with the layers R129 finds: the dependency descriptor, the frame-marking extension,
the NAL unit header of H.265, otherwise 0 and 0; and the descriptor's decode targets. The device knows an extension whose ID on the
receiving leg is not 0; a stream that comes over a link has no leg and brings both (log entry 83). The payload of a retransmission follows
its two bytes of original sequence number. -/
def State.mediaOf (s : State) (v : Nat) (rtx : Bool) (p : RxPkt) : Media × Option (List (Nat × Nat × Bool)) :=
  let r := (s.effRec 6 v).getD 0
  let ids := s.extIds (VSTR.LEG r)
  let dd := if ids.2 = 0 then none else p.dd
  let fm := if ids.1 = 0 then none else p.fm
  let (a, b) := match dd, fm with
    | some d, _ => (d.s, d.t)
    | none, some f => (f.lid, f.tid)
    | none, none => if VSTR.CODEC r = 2 then p.nal else (0, 0)
  let data (o : Option (List Byte)) : List Byte := o.getD []
  (⟨a, b, data (fm.map FrameMark.bytes), data (dd.map Descriptor.bytes), if rtx then (rxPayload p).drop 2 else rxPayload p, s.streamPlane v⟩, dd.map Descriptor.targets)

/-- A video packet with original sequence number `seq` reaches VSTR v in admission tick t (R95, R107, R129, R130). -/
def State.videoAdmit (s : State) (v t seq : Nat) (rtx : Bool) (p : RxPkt) : State :=
  let x := s.vstr v
  let (m, targets) := s.mediaOf v rtx p
  let k : VPkt := ⟨seq, m, targets, rtx⟩
  let log := if rtx then x.layerLog
    else (x.layerLog.filter (fun e => decide (t ≤ e.tick + 1000))) ++ [⟨t, m.s, m.t, m.fm.length, m.dd.length, m.pay.length⟩]
  let missing := x.missing.filter (fun m => decide (m.seq ≠ seq))
  let missing := match x.highest with
    | some h => if !rtx && seqAbove seq h then missing ++ (seqBetween h seq).map (fun q => (⟨q, t, 0, 0⟩ : Missing)) else missing
    | none => missing
  let highest := match x.highest with
    | some h => if !rtx && seqAbove seq h then some seq else some h
    | none => if rtx then none else some seq
  let x := { x with layerLog := log, missing := lastN 1024 missing, highest := highest }
  if x.released.contains p.ts then s.setVstr v x
  else
    let marker := if p.marker then some seq else none
    let marks := noteMark x.marks p.ts marker
    let pic := match x.pics.find? (fun c => decide (c.ts = p.ts)) with
      | some c =>
        if c.pkts.any (fun q => decide (q.seq = seq)) then c
        else if seqAbove c.low seq then { c with pkts := c.pkts ++ [k], low := seq, first := t, marker := if p.marker then some seq else c.marker }
        else { c with pkts := c.pkts ++ [k], marker := if p.marker then some seq else c.marker }
      | none => ⟨p.ts, [k], seq, t, marker, none, p.facts⟩
    let pics := if x.pics.any (fun c => decide (c.ts = p.ts)) then x.pics.map (fun c => if c.ts = p.ts then pic else c) else x.pics ++ [pic]
    let pics := pics.map (fun c => if c.done.isNone && c.complete marks then { c with done := some t } else c)
    s.setVstr v { x with marks := marks, pics := pics }

/-! ### RTCP (R96, R98, R122 to R125) -/

/-- Requests of a NACK that are not served. -/
def State.nackIgnored (s : State) (l n : Nat) : State := s.modLeg l (fun g => { g with nackIgnored := (g.nackIgnored + n) % 2 ^ 32 })

/-- One requested packet of OSTR o is retransmitted in the next tick, or the request is ignored (R98): it must be in the 2 s
history, no retransmission of it may wait, and the next may go max(RTT, 20 ms) after the release of the one before at the earliest (log entry 172). The RTX payload is the sequence number it was sent with and its payload (RFC 4588;
R139). -/
def State.retransmit (s : State) (l o seq : Nat) : State :=
  let x := s.ostr o
  let rtt := ((s.leg l).cc.rtt).getD 0
  match x.history.find? (fun (h : RtxPkt) => decide (h.seq = seq) && decide (s.ltick ≤ h.tick + 2000)) with
  | none => s.nackIgnored l 1
  | some h =>
    let soon := match h.lastSent with | some t => decide (readyInstant l (s.ltick + 1) < t + Nat.max rtt 20 * 1000000) | none => false
    let waits := s.pkts.any (fun p => match p.2 with | some q => decide (q.kind = .rtx) && decide (q.ostr = o) && decide (q.pay.take 2 = beBytes 2 h.seq) | none => false)
    if soon || waits then s.nackIgnored l 1
    else
      s.enqueuePkt l .rtx o (h.len + 2) (s.ltick + 1) h.ts h.marker h.ext (beBytes 2 h.seq ++ h.pay)

/-- A generic NACK (R98, R139). -/
def State.nackRx (s : State) (l ssrc : Nat) (seqs : List Nat) : State :=
  let r := s.legRec l
  match (s.ostrsOf l).find? (fun p => decide (OSTR.SSRC p.2 = ssrc)) with
  | none => s
  | some (o, q) =>
    if LEG.NACK_EN r = 0 ∨ OSTR.RTX_PT q = 0 ∨ (s.ostr o).cur.isNone = true then s.nackIgnored l seqs.length
    else forEach seqs (fun n s => s.retransmit l o n) s

/-- An SSRC the leg sends. -/
def State.ownSsrc (s : State) (l ssrc : Nat) : Bool :=
  decide (ssrc = LEG.LOCAL_SSRC (s.legRec l)) || (s.ostrsOf l).any (fun p =>
    decide (OSTR.SSRC p.2 = ssrc) || (decide (OSTR.RTX_PT p.2 ≠ 0) && decide (OSTR.RTX_SSRC p.2 = ssrc)))

/-- The round-trip time in ms a report block gives (log entry 35): the arrival less LSR and DLSR, in units of 2⁻¹⁶ s; none without an LSR, and none
for a negative time. -/
def State.blockRtt (s : State) (stamp lsr dlsr : Nat) : Option Nat :=
  let d := unsigned 32 ((s.ntpMid stamp : Int) - lsr - dlsr)
  if lsr = 0 ∨ 2 ^ 31 ≤ d then none else some (d * 1000 / 65536)

/-- A compound packet begins with an SR or RR; the reduced-size form is not supported (R13, R94). -/
def compound : List RtcpItem → Bool
  | .sr _ _ :: _ => true
  | .rr :: _ => true
  | _ => false

/-- One item of a received RTCP packet (R96). -/
def State.rtcpItem (s : State) (l stamp : Nat) (i : RtcpItem) : State :=
  match i with
  | .sr ssrc lsr => s.modLeg l (fun g => g.setRx ssrc { g.rxOf ssrc with sr := some (lsr, stamp) })
  | .rr => s
  | .block ssrc fraction lost jitter lsr dlsr =>
    if s.ownSsrc l ssrc = false then s
    else
      let s := s.feedback l
      s.modLeg l (fun g =>
        let c := { g.cc with rrFraction := some fraction, rrLost := lost, rrJitter := jitter }
        { g with cc := match s.blockRtt stamp lsr dlsr with
            | none => c
            | some t => { c with rtt := some t, rttLog := c.rttLog ++ [(s.ltick, t)] } })
  | .bye ssrc => s.post (LEG.EVQ (s.legRec l)) 0x01 0x06 l ssrc
  | .nack ssrc seqs => s.nackRx l ssrc seqs
  | .pli ssrc => s.keyReqRx l ssrc false
  | .fir ssrc => s.keyReqRx l ssrc true
  | .tmmbr ssrc b ovh =>
    (s.modLeg l (fun g => { g with cc := { g.cc with tmmbr := some (b / 1000) } })).sendRtcp l (s.ltick + 1)
      (rtcpTmmbn (LEG.LOCAL_SSRC (s.legRec l)) ssrc b ovh)
  | .ccfb reports =>
    let s := s.feedback l
    s.modLeg l (fun g => { g with cc := { reports.foldl (fun (c : Cc) x => c.report x.1 x.2.1 x.2.2) g.cc with lastCcfb := some s.ltick } })

/-! ### Admission (R79, R89, R95, R100, R101, R118, R516) -/

/-- The VSTR of leg l whose media (or RTX) payload type and SSRC a packet carries. -/
def State.findVstr (s : State) (l : Nat) (rtx : Bool) (p : RxPkt) : Option Nat :=
  ((tableRecs s.gate.effective 6).find? (fun v =>
    decide (VSTR.LEG v.2 = l) &&
    (if rtx then decide (VSTR.RTX_PT v.2 ≠ 0) && decide (VSTR.RTX_PT v.2 = p.pt) && decide (VSTR.RTX_SSRC v.2 = p.ssrc)
     else decide (VSTR.PT v.2 = p.pt) && decide (VSTR.SSRC v.2 = p.ssrc)))).map (·.1)

/-- The 32 bytes of metadata of an admitted packet (R116). -/
def State.packetMeta (s : State) (l stamp port : Nat) (lanB path1 : Bool) (idx : Nat) (old : Bool) (p : RxPkt) : List Byte :=
  let r := s.legRec l
  let audio := decide (LEG.A_CODEC r ≠ 0) && decide (p.pt = LEG.A_PT_RX r)
  let media := if p.rtcp || audio then none else s.findVstr l false p
  let rtx := if p.rtcp || audio || media.isSome then none else s.findVstr l true p
  let kind := if p.rtcp then 3 else if media.isSome then 1 else if rtx.isSome then 2 else 0
  let v := (media.orElse (fun _ => rtx)).getD 0xFFFF
  natBytes 4 stamp ++ natBytes 4 (stamp / 1000000) ++ natBytes 2 l ++ natBytes 2 p.len ++
    natBytes 1 (port % 4 + b2n lanB * 4 + b2n path1 * 8 + LEG.PLANE r * 16 + kind * 32) ++ natBytes 1 (if p.rtcp then 0 else p.pt) ++ natBytes 2 v ++
    natBytes 6 idx ++ natBytes 2 (b2n rtx.isSome + 2 * b2n old) ++ natBytes 4 (if p.rtcp then 0 else p.ts) ++ natBytes 4 p.ssrc

/-- A media packet of a stream the leg reports on is admitted (R94, R97); rate is its RTP clock. -/
def State.heard (s : State) (l stamp rate : Nat) (p : RxPkt) : State :=
  s.modLeg l (fun g => g.setRx p.ssrc ((g.rxOf p.ssrc).note p.seq p.ts stamp rate))

/-- A verified packet is admitted to leg l (R95, R100 step 5), with its index and whether it verified under RX_OLD. -/
def State.admitted (s : State) (l stamp : Nat) (port : Nat) (lanB path1 : Bool) (idx : Nat) (old : Bool) (p : RxPkt) : State :=
  let r := s.legRec l
  let t := stamp / 1000000
  let md := s.packetMeta l stamp port lanB path1 idx old p
  let s := s.record (.admitted l p.ssrc p.seq p.h64 stamp t port lanB path1 md)
  let g := s.leg l
  let s := s.setLeg l { g with rxPkts := (g.rxPkts + 1) % 2 ^ 32, lastRxAt := some stamp, idle := false }
  let s := if g.idle then s.post (LEG.EVQ r) 0x01 0x04 l 0 else s
  let s := s.tapPacket 1 l p.len (md ++ p.clear.take p.len)
  if p.rtcp then (if compound p.items then forEach p.items (fun i s => s.rtcpItem l stamp i) s else s)
  else if LEG.A_CODEC r ≠ 0 ∧ p.pt = LEG.A_PT_RX r then
    let s := (s.heard l stamp (rtpClock (LEG.A_CODEC r)) p).jbAdmit l stamp p
    if LEG.CONF r = 0xFFFF then s else s.recallAppend (LEG.CONF r) l stamp path1 p
  else
    match s.findVstr l false p with
    | some v => (s.heard l stamp 90000 p).videoAdmit v t p.seq false p
    | none =>
      match s.findVstr l true p with
      | some v => (s.heard l stamp 90000 p).videoAdmit v t p.osn true p
      | none => s.bump Fld.SRTP_UNKNOWN_PT_COUNT

/-- A context is EMPTY. -/
def State.ctxEmpty (s : State) (c : Nat) : Bool := decide ((s.keys.get (fun _ => {}) c).state = 0)

/-- The context a packet verifies under (R100 step 2): none, and whether a named context was empty. -/
def State.verify (s : State) (r : Nat) (p : RxPkt) : Option Nat × Bool :=
  let old := decide (LEG.RX_OLD r ≠ 0xFFFF)
  if s.ctxEmpty (LEG.RX_CTX r) then (none, true)
  else if p.okNew then (some (LEG.RX_CTX r), false)
  else if old && s.ctxEmpty (LEG.RX_OLD r) then (none, true)
  else if old && p.okOld then (some (LEG.RX_OLD r), false)
  else (none, false)

/-- Step 7 of R70 in the order of R100. Of two copies that verify in one cycle the PATH 0 copy is admitted (R79). -/
def State.srtpRx (s : State) (l stamp : Nat) (port : Nat) (lanB path1 : Bool) (p : RxPkt) : State :=
  let r := s.legRec l
  if (s.leg l).state = .halted then s.bump Fld.SRTP_NOKEY_COUNT
  else
    let (ctx, nokey) := if LEG.PROFILE r = 0 then (some (plainCtx l), false) else s.verify r p
    match ctx with
    | none =>
      if nokey then s.bump Fld.SRTP_NOKEY_COUNT
      else (s.modLeg l (fun g => { g with authFail := (g.authFail + 1) % 2 ^ 32 })).bump Fld.SRTP_AUTH_FAIL_COUNT
    | some c =>
      let fresh := decide (LEG.PROFILE r ≠ 0) && decide (c = LEG.RX_CTX r) && (s.leg l).ctxSwitchDue
      let s := if fresh then (s.modLeg l (fun g => { g with ctxSwitchDue := false })).post (LEG.EVQ r) 0x01 0x0A l c else s
      if LEG.PROFILE r = 0 ∧ p.rtcp = true then s.admitted l stamp port lanB path1 0 false p
      else
        let (v, idx, s') := s.replay c p
        if v = 0 ∧ path1 = true ∧ p.together = true then (s.modLeg l (fun g => { g with dup := (g.dup + 1) % 2 ^ 32 })).bump Fld.PKTIN_RTP_DUP_COUNT
        else if v = 0 then s'.admitted l stamp port lanB path1 idx (decide (LEG.PROFILE r ≠ 0) && decide (c ≠ LEG.RX_CTX r)) p
        else if v = 1 then (s.modLeg l (fun g => { g with dup := (g.dup + 1) % 2 ^ 32 })).bump Fld.PKTIN_RTP_DUP_COUNT
        else (s.modLeg l (fun g => { g with replay := (g.replay + 1) % 2 ^ 32 })).bump Fld.SRTP_REPLAY_COUNT

/-! ### FRAME_RECEIVE (R70) -/

/-- The receive stamp of a frame detected now at port n in 2⁻⁴ ns (R59), which a PTP event message keeps (R60). -/
def State.rxStamp16 (s : State) (n : Nat) : Nat := s.clk.sixteenths - s.get (Fld.BELFRY_PnCAL_CAL_RX n) - s.get (Fld.BELFRY_PnEXT_EXT_RX n)

/-- The receive stamp in ns of logical time (R340). -/
def State.rxStamp (s : State) (n : Nat) : Nat := s.rxStamp16 n / 16 - s.lag

/-- Plane n accepts a VLAN: an untagged or priority-tagged frame when UNTAGGED = 1, a tag some valid entry holds (R70, R71, R74). -/
def State.vlanOk (s : State) (n : Nat) (vlan : Option Nat) : Bool :=
  match vlan with
  | none | some 0 => s.on (Fld.PLANEn_CFG_UNTAGGED n)
  | some v => (List.range 8).any (fun k => s.on (Fld.PLANEn_VLANk_VALID n k) && decide (s.get (Fld.PLANEn_VLANk_VID n k) = v))

/-- The punt reason of a frame's body that is no UDP datagram (R82). -/
def puntReason : RxBody → Nat
  | .arp => 1
  | .icmp4 => 2
  | .icmp6 => 3
  | .dhcp => 4
  | .fragment => 5
  | .otherEther => 7
  | .otherIp => 8
  | .ptp _ | .supervision | .udp _ _ _ _ _ => 6

/-- A twin that is JUNIOR holds media in its match store for 50 ms (R347). -/
def State.matchStore (s : State) (l : Nat) (p : RxPkt) : State :=
  { s with twin := { s.twin with store := s.twin.store ++ [⟨l, p, s.now + 50000000⟩] } }

/-- Plane n's IPv4 address in the form of LEG.ADDR0 (R87), the register's top byte first. -/
def State.planeIpv4 (s : State) (n : Nat) : Nat := 0xFFFF * 2 ^ 80 + bytesNat (beBytes 4 (s.get (Fld.PLANEn_IPV4_ADDR n))) * 2 ^ 96

/-- Plane n's IPv6 address in that form; word 0 is the most significant. -/
def State.planeIpv6 (s : State) (n : Nat) : Nat := bytesNat ((List.range 4).flatMap (fun k => beBytes 4 (s.get (Fld.PLANEn_IPV6_k_ADDR n k))))

/-- An address is the plane's own (R81); a register of 0 is no address. -/
def State.ownAddr (s : State) (n a : Nat) : Bool :=
  (decide (s.get (Fld.PLANEn_IPV4_ADDR n) ≠ 0) && decide (a = s.planeIpv4 n)) || (decide (s.planeIpv6 n ≠ 0) && decide (a = s.planeIpv6 n))

/-- A multicast address the device uses (R70): those of PTP (R56), PRP supervision (R78), and of IPv6 neighbour discovery: all nodes and the plane's solicited-node
address. PRESUMED for their numbers (IEEE 1588, IEC 62439-3, RFC 4291; log entry 173). -/
def State.usedMulticast (s : State) (n a : Nat) : Bool :=
  [0x011B19000000, 0x0180C200000E, 0x01005E000181, 0x01005E00006B, 0x333300000181, 0x33330000006B, 0x01154E000100, 0x333300000001].contains a ||
    (decide (s.planeIpv6 n ≠ 0) && decide (a = 0x3333FF000000 + s.get (Fld.PLANEn_IPV6_k_ADDR n 3) % 2 ^ 24))

/-- Steps 5 to 7 of R70 for a UDP datagram. -/
def State.udpRx (s : State) (f : RxFrame) (n stamp : Nat) (dstAddr srcAddr srcPort dstPort : Nat) (p : RxPkt) : State :=
  if s.quiescing 0x26000 then s
  else match if s.ownAddr n dstAddr then s.findLeg n srcAddr srcPort dstPort p.ssrc else none with
  | none => s.punt n 6 f.port stamp f
  | some (l, path1) =>
    if s.quiescing 0x2C000 = true ∧ LEG.PROFILE (s.legRec l) ≠ 0 then s
    else if !p.version2 && decide ((s.leg l).state ≠ .halted) then s.punt n 9 f.port stamp f
    else if s.mediaOff then s.bump Fld.PWR_MEDIA_DROP_COUNT
    else if s.get Fld.TWIN_STATUS_STATE = 3 ∨ s.get Fld.TWIN_STATUS_STATE = 5 then s.matchStore l p
    else
      let (ok, s) := s.police l stamp p.ipLen
      if ok then s.srtpRx l stamp f.port (decide (f.port % 2 = 1)) path1 p else s

/-- Steps 4 to 7 of R70. -/
def State.layer2 (s : State) (f : RxFrame) (n stamp : Nat) : State :=
  if s.quiescing (planePage n) then s
  else if s.on (Fld.PG_CTRL_ENABLE (planePage n)) = false ∨
      (f.dst ≠ s.planeMac n ∧ f.dst ≠ 2 ^ 48 - 1 ∧ s.usedMulticast n f.dst = false) then s.bumpSat Fld.PKTIN_DROP_L2_MAC
  else if s.vlanOk n f.vlan = false then s.bumpSat Fld.PKTIN_DROP_L2_VLAN
  else
    match f.body with
    | .ptp event => if event then { s with bel := { s.bel with ptpRxStamp := s.bel.ptpRxStamp.set (fun _ => 0) f.port (s.rxStamp16 f.port) } } else s
    | .supervision => s
    | .udp dstAddr srcAddr srcPort dstPort p => s.udpRx f n stamp dstAddr srcAddr srcPort dstPort p
    | b => s.punt n (puntReason b) f.port stamp f

/-- FRAME_RECEIVE: a received frame passes the steps of R70 in order. The LAN B port of a singly attached plane is disabled and
takes in nothing. What a PTP frame does to the clock is PTP_MESSAGE_RX; an accepted event
message leaves its full stamp (R60). -/
def execFrameReceive (f : RxFrame) (s : State) : Out :=
  let n := f.port / 2
  let lanB := decide (f.port % 2 = 1)
  if ¬ f.port < 4 ∨ (lanB = true ∧ s.doubly n = false) ∨ s.quiescing (ethPage f.port) = true then .next s
  else
    let s := s.bump (Fld.ETHn_FEC_CORR_COUNT f.port) f.fecCorrected
    let s := if f.fecBad then s.bump (Fld.ETHn_FEC_UNCORR_COUNT f.port) else s
    if f.fcsBad || f.fecBad then .next (s.bumpSat (Fld.ETHn_RX_ERR_FCS f.port))
    else if f.len < 64 ∨ s.get (Fld.ETHn_CFG_MAX_FRAME f.port) < f.len then .next (s.bumpSat (Fld.ETHn_RX_ERR_SIZE f.port))
    else
      let s := s.bump64 (Reg.ETHn_RX_FRAMES_LO f.port)
      let s := s.bump64 (Reg.ETHn_RX_OCTETS_LO f.port) f.len
      let stamp := s.rxStamp f.port
      match f.body with
      | .supervision => .next (s.bump (Fld.PLANEn_PRP_ERR_SUP_RX n))
      | .ptp _ => .next (s.layer2 f n stamp)
      | _ =>
        match f.rct, s.doubly n with
        | some (seq, trailerB), true =>
          let (ok, s) := s.prpDiscard n f.src seq trailerB lanB f.together
          .next (if ok then s.layer2 f n stamp else s)
        | _, _ => .next (s.layer2 f n stamp)

/-! ### RTCP_REPORT, NACK_RETRY, RX_IDLE (R97, R98, R118) -/

/-- The next value of the LFSR of R97 (Fibonacci form: the new top bit is the sum of the taps; DEDUCED, log entry 17). -/
def lfsrNext (x : Nat) : Nat :=
  let b := (x + x / 4 + x / 8 + x / 32) % 2
  x / 2 + b * 32768

/-- RTCP_REPORT: leg l's report instant. The next is floor(RTCP_INT × (0.5 + u)) ticks later (R97). -/
def execRtcpReport (l : Nat) (s : State) : Out :=
  if s.mediaOff then .next s else
  let g := s.leg l
  let r := s.legRec l
  if g.state = .none ∨ g.state = .pending ∨ LEG.TRANSPORT r ≠ 0 then .next s
  else
    let s := s.runTo (g.nextReport * 1000000 + s.lag)
    let x := lfsrNext g.lfsr
    let s := s.setLeg l { g with lfsr := x, nextReport := g.nextReport + LEG.RTCP_INT r * (32768 + x) / 65536 }
    .next (s.sendRtcp l g.nextReport [])

/-- The ticks after which a missing packet is asked for again: max(1.5 × RTT, 20 ms) (R98). -/
def nackWait (rtt : Nat) : Nat := Nat.max (ceilDiv (3 * rtt) 2) 20

/-- NACK_RETRY: a packet of VSTR v still missing after the wait is asked for once more (R98). -/
def execNackRetry (v seq : Nat) (s : State) : Out :=
  if s.mediaOff then .next s else
  let x := s.vstr v
  let l := VSTR.LEG ((s.effRec 6 v).getD 0)
  match x.missing.find? (fun m => decide (m.seq = seq)) with
  | none => .next s
  | some m =>
    if m.sent = 1 ∧ l < 0x8000 ∧ LEG.NACK_EN (s.legRec l) = 1 then
      let t := m.sentAt + nackWait (((s.leg l).cc.rtt).getD 0)
      let s := s.runTo (t * 1000000 + s.lag)
      let s := s.setVstr v { x with missing := x.missing.map (fun k => if k.seq = seq then { k with sent := 2 } else k) }
      .next (s.sendRtcp l (Nat.max t s.ltick) (rtcpNack (LEG.LOCAL_SSRC (s.legRec l)) (VSTR.SSRC ((s.effRec 6 v).getD 0)) [seq]))
    else .next s

/-- The first NACKs of R98 in the tick after a higher number was admitted: one message per stream. -/
def State.nackSend (s : State) (v : Nat) : State :=
  let x := s.vstr v
  let l := VSTR.LEG ((s.effRec 6 v).getD 0)
  let due := x.missing.filter (fun m => decide (m.sent = 0) && decide (m.tick < s.ltick))
  if due = [] ∨ ¬ l < 0x8000 ∨ LEG.NACK_EN (s.legRec l) = 0 then s
  else
    let s := s.setVstr v { x with missing := x.missing.map (fun m => if m.sent = 0 ∧ m.tick < s.ltick then { m with sent := 1, sentAt := s.ltick } else m) }
    s.sendRtcp l s.ltick (rtcpNack (LEG.LOCAL_SSRC (s.legRec l)) (VSTR.SSRC ((s.effRec 6 v).getD 0)) (due.map Missing.seq))

/-- RX_IDLE: no packet admitted to leg l for RX_TIMEOUT × 100 ms, counted from its effect tick until its first packet
(R118; log entry 18). -/
def execRxIdle (l : Nat) (s : State) : Out :=
  if s.mediaOff then .next s else
  let g := s.leg l
  let r := s.legRec l
  if (g.state = .active ∨ g.state = .txStopped) ∧ LEG.TRANSPORT r = 0 ∧ LEG.RX_TIMEOUT r ≠ 0 ∧ g.idle = false then
    let last := g.lastRxAt.getD (g.effectTick * 1000000)
    let s := s.runTo (last + LEG.RX_TIMEOUT r * 100000000 + s.lag)
    .next ((s.setLeg l { g with idle := true }).post (LEG.EVQ r) 0x01 0x03 l 0)
  else .next s

/-! ### TDM frames (R113 to R115) -/

/-- Base of the TDMn page. -/
def tdmPage (n : Nat) : Nat := 0x30000 + n * 0x1000

/-- A received sample with the bits below RX_BITS forced to 0 (R113). -/
def rxMask (bitsCode : Nat) (w : Word) : Word :=
  if bitsCode = 1 then putBits w 0 8 0 else if bitsCode = 2 then putBits w 0 16 0 else w

/-- The 32 bits of each slot, the most significant first. -/
def slotBits (l : List (Option Int)) : List (Option Bool) :=
  l.flatMap (fun v => (List.range 32).map (fun i => v.map (fun x => bit (BitVec.ofInt 32 x) (31 - i))))

/-- The levels of the frame sync and the data output in each bit clock of a frame (R113): the sync is high for one bit clock or for the first half of the frame; delayed data
begins on the second bit clock, after the last bit of the frame before. -/
def tdmWire (long delay : Bool) (prev now : List (Option Bool)) : List (Bool × Option Bool) :=
  let data := if delay then ((prev.getLast?).getD none) :: now.dropLast else now
  (data.zip (List.range data.length)).map (fun p => (if long then decide (2 * p.2 < data.length) else decide (p.2 = 0), p.1))

/-- A slot of a port carries something to transmit: a leg's TDM_TX, or what a program's sinks add to it (R113, R174). DEDUCED: R113 calls a slot bound by a leg's record
(log entry 185). -/
def State.tdmBound (s : State) (n i : Nat) : Bool :=
  bit (BitVec.ofNat 32 (s.get (Fld.TDMn_BIND_TX_SLOT n))) i || s.audio.active.nodes.any (fun g => match g.kind with
    | .sink t => decide (t.kind = 2) && decide (t.index = n * 32 + i)
    | .source _ | .gain _ | .mix _ | .mixMinus | .eq _ | .gate _ | .limiter _ | .delay _ | .bridge | .meter _ _ _ | .custom _ _ _ _ _ => false)

/-- What slot i of port n is driven with in frame k of the tick: its sample, the 48th again from there on; 0 while the port is unlocked; an unbound slot 0 or, with TX_TRI,
nothing (R113, R114). -/
def State.tdmSlotOut (s : State) (n i k : Nat) : Option Int :=
  if s.tdmBound n i then
    if s.on (Fld.TDMn_STATUS_LOCKED n) then some ((((s.tdmPort n).tx.get (fun _ => []) i)[Nat.min k 47]?).getD 0) else some 0
  else if s.on (Fld.TDMn_CFG_TX_TRI n) then none else some 0

/-- Show LOCKED of port n. -/
def State.tdmLocked (s : State) (n : Nat) (v : Bool) : State :=
  (s.putB (Fld.TDMn_STATUS_LOCKED n) v).putB ⟨Reg.PG_STATUS (tdmPage n), 16, 1⟩ v

/-- A port that is disabled or reset forgets its frames and its lock (R114). -/
def State.tdmStop (s : State) (n : Nat) : State := (s.setTdm n {}).tdmLocked n false

/-- A frame's sync falls at TDM port n: its samples join the receive block of the present tick. -/
def State.tdmFrame (s : State) (n : Nat) (samples : List Word) : State :=
  if s.quiescing (tdmPage n) then s
  else
  let t := s.tdmPort n
  let f := (samples.take (s.get (Fld.TDMn_CFG_SLOTS n) + 1)).map (rxMask (s.get (Fld.TDMn_CFG_RX_BITS n)))
  let k := t.frames.length
  let d := (List.range (s.get (Fld.TDMn_CFG_SLOTS n) + 1)).map (fun i => s.tdmSlotOut n i k)
  let w := tdmWire (s.on (Fld.TDMn_CFG_FS_LONG n)) (s.on (Fld.TDMn_CFG_FS_DELAY n)) (slotBits t.driven) (slotBits d)
  s.setTdm n { t with frames := t.frames ++ [f], driven := d, wire := w }

/-- TDM_FRAME_SYNC: an external frame sync falls at port n, with the samples its slots carry; with SYNC_EXT = 0 the sync is
generator 7 + n's edge (R114). -/
def execTdmFrameSync (n : Nat) (samples : List Word) (s : State) : Out :=
  if n < 4 && s.on (Fld.PG_CTRL_ENABLE (tdmPage n)) && s.on (Fld.TDMn_CFG_SYNC_EXT n) then .next (s.tdmFrame n samples)
  else .next s

/-- A write of TDMn_CFG (R113). -/
def State.tdmCfgWrite (s : State) (n : Nat) (w : Word) : State :=
  s.checked (Reg.TDMn_CFG n) w
    (fun s =>
      let bound := Nat.lor (s.get (Fld.TDMn_BIND_RX_SLOT n)) (s.get (Fld.TDMn_BIND_TX_SLOT n))
      if s.on (Fld.PG_CTRL_ENABLE (tdmPage n)) then some .state
      else if 2 ^ (bits w 1 5 + 1) ≤ bound then some .state else none)
    (fun s => s.applyWrite (Reg.TDMn_CFG n) w)

/-! ### Leg statistics (R119) -/

/-- The STATE field of R119. -/
def LegState.code : LegState → Nat
  | .none => 0
  | .pending => 1
  | .active => 2
  | .txStopped => 3
  | .halted => 4

/-- The 64-byte record of a leg. -/
def State.legStats (s : State) (l : Nat) : List Byte :=
  let g := s.leg l
  let head := natBytes 4 s.shortTime ++ [BitVec.ofNat 8 g.state.code, 0]
  if g.state = .none ∨ g.state = .pending then head ++ natBytes 58 0
  else
    head ++ natBytes 2 (Nat.min 65535 g.jb.depth) ++ natBytes 2 (Nat.min 65535 g.jb.target) ++ natBytes 2 (Nat.min 65535 (g.jb.j95 / 30000)) ++
    natBytes 4 g.rxPkts ++ natBytes 4 g.lost ++ natBytes 4 g.late ++ natBytes 4 g.dup ++ natBytes 4 g.authFail ++ natBytes 4 g.replay ++
    natBytes 4 g.txPkts ++ natBytes 4 g.txStopDrop ++ natBytes 4 g.nackIgnored ++ natBytes 4 g.rtxTx ++ natBytes 4 g.concealed ++
    natBytes 2 g.resync ++ natBytes 2 g.jbDrop ++ natBytes 4 ((g.lastRxAt.getD 0) % 2 ^ 32)

/-- LEG_STATS_WRITE: while SRTP_STATS_CFG.ENABLE = 1, leg l's line is written at SRTP_STATS_BASE + l × 64 (R119). -/
def execLegStatsWrite (l : Nat) (s : State) : Out :=
  if s.on Fld.SRTP_STATS_CFG_ENABLE && decide (l < 16384) && !s.mediaOff then .next (s.dramPut (s.rd64 Reg.SRTP_STATS_BASE_LO + l * 64) (s.legStats l))
  else .next s

/-! ### Limited events (R512) -/

/-- EVENT_WINDOW_EXPIRE: the window of an event limited to one per second ends: held occurrences are posted as one event, which
opens a new window. -/
def execEventWindowExpire (cls code obj sub : Nat) (s : State) : Out :=
  let k := windowKey cls code obj sub
  let w := s.windows.get (fun _ => {}) k
  if w.openUntil = 0 then .next s
  else
    let s := s.runTo w.openUntil
    if w.held = 0 then .next { s with windows := s.windows.set (fun _ => {}) k {} }
    else
      let s := s.post w.evq cls code obj w.argument
      .next { s with windows := s.windows.set (fun _ => {}) k { w with openUntil := s.now + 1000000000, held := 0 } }

end Sys2Proof.Machine
end

