-- ==== Sys2Proof/Machine/AudioDec.lean ====
section
/-! DEFINITION. Audio decode (spec/05 R104, R105; spec/09 R171, R193; spec/10 R195 to R204): what the jitter buffer plays at a
tick, the decoded blocks, and the recall players. -/

namespace Sys2Proof.Machine

/-! ### Codec rates (R171, R195) -/

/-- The domain of a codec. -/
def codecDom (codec : Nat) : Nat := if codec = 1 ∨ codec = 2 ∨ codec = 4 then 2 else if codec = 3 ∨ codec = 5 then 1 else 0

/-- The domain of a leg's codec rate: 0 D48, 1 D16, 2 D8. -/
def legDom (r : Nat) : Nat := if LEG.TRANSPORT r = 1 then 0 else codecDom (LEG.A_CODEC r)

/-! ### The frame a decode is to produce (R104, R105, R201, R202) -/

/-- Move every later playout tick by some ticks. -/
def Jb.move (b : Jb) (by_ : Int) : Jb :=
  { b with shift := b.shift + by_, depth := ((b.depth : Int) + by_).toNat,
           frames := b.frames.map (fun f => { f with playout := ((f.playout : Int) + by_).toNat }) }

/-- What a buffer's frames are decoded as: the codec, the ms of a frame of unknown duration, and whether received LBRR is used (R197, R202). -/
structure DecSet where
  codec : Nat
  ptime : Nat
  fec : Bool

/-- A leg's decode at tick t: the buffer, the leg's CONCEALED and JB_DROP and damaged counts added, and the decode if one begins. -/
structure JbPlay where
  jb : Jb
  concealed : Nat := 0
  dropped : Nat := 0
  damaged : Nat := 0
  dec : Option Dec := none

/-- The frames present at tick t, by playout tick (R104). -/
def Jb.present (b : Jb) (t : Nat) : List JFrame := b.frames.filter (fun f => decide (f.admitted < t))

/-- A frame concealed by the codec's own means or substitution for some ticks. -/
def Jb.concealFor (b : Jb) (t dur : Nat) : JbPlay :=
  { jb := { b with nextAt := t + dur, prevQuiet := false, substituted := b.substituted + dur }, concealed := 1,
    dec := some ⟨dur, .codec, false⟩ }

/-- The ms of a frame that is not there: as long as the frame decoded before it, or PTIME where there is none or it was damaged (DEDUCED, log entry 176). -/
def Jb.absentMs (b : Jb) (k : DecSet) : Nat := if b.lastDur = 0 then Nat.max 1 k.ptime else b.lastDur

/-- The frame absent at tick t, the next present one being f (R201, R202): a sender's pause, an LBRR decode, or concealment. -/
def Jb.absentBefore (b : Jb) (k : DecSet) (t : Nat) (f : JFrame) : JbPlay :=
  let gap := f.playout - t
  let dur := Nat.min (b.absentMs k) gap
  if b.decoded && decide (f.seq = (b.lastSeq + 1) % 65536) then
    { jb := { b with nextAt := t + dur, prevQuiet := true, substituted := 0 }, dec := some ⟨dur, if k.codec = 7 then .codec else .zeros, false⟩ }
  else if k.codec = 7 ∧ k.fec = true ∧ f.lbrr = true ∧ gap ≤ b.absentMs k then
    { jb := { b with nextAt := t + gap, prevQuiet := false, lastSeq := (f.seq + 65535) % 65536 }, dec := some ⟨gap, .lbrr f.pay, false⟩ }
  else b.concealFor t dur

/-- What plays at tick t, a playout tick of the buffer: an inserted frame on growth, a present frame, or one absent or damaged
(R105, R201, R202). -/
def Jb.playAt (b : Jb) (k : DecSet) (t : Nat) : Nat → JbPlay
  | 0 => { jb := b }
  | fuel + 1 =>
    if b.growDue then ({ b.move (Nat.max 1 k.ptime) with growDue := false } : Jb).concealFor t (Nat.max 1 k.ptime)
    else
      match b.present t with
      | [] => b.concealFor t (b.absentMs k)
      | f :: rest =>
        let others := b.frames.filter (fun g => decide (g.seq ≠ f.seq) || decide (g.ts ≠ f.ts))
        if f.playout < t then Jb.playAt { b with frames := others } k t fuel
        else if f.playout = t then
          if b.dropDue && (f.dtx || b.prevQuiet) && decide (f.dur ≤ b.depth - b.target) then
            let q := Jb.playAt ({ (({ b with frames := others } : Jb).move (-(f.dur : Int))) with dropDue := false, lastSeq := f.seq }) k t fuel
            { q with dropped := q.dropped + 1 }
          else if f.damaged then
            let span := match rest with | g :: _ => g.playout - t | [] => k.ptime
            let q := ({ b with frames := others, lastDur := 0 } : Jb).concealFor t (Nat.max 1 span)
            { q with damaged := 1 }
          else
            { jb := { b with frames := others, nextAt := t + Nat.max 1 f.dur, lastSeq := f.seq, lastDur := f.dur, decoded := true, substituted := 0 },
              dec := some ⟨Nat.max 1 f.dur, .payload f.pay, decide (k.codec ≠ 3) && decide (k.codec ≠ 7) && decide (0 < b.substituted)⟩ }
        else b.absentBefore k t f

/-! ### Decoding (R196, R201) -/

/-- A 16-bit linear sample in bits 31:16 (R196). -/
def place16 (w : Int) : Int := w * 65536

/-- Big-endian 16-bit samples. -/
def l16Samples : List Byte → List Int
  | hi :: lo :: t => place16 (BitVec.ofNat 16 (hi.toNat * 256 + lo.toNat)).toInt :: l16Samples t
  | _ => []

/-- An Opus payload is stereo: bit 2 of its first byte. PRESUMED (RFC 6716; log entry 171). -/
def opusStereo (pay : List Byte) : Bool := bit (BitVec.ofNat 32 (pay.head?.getD 0#8).toNat) 2

/-- n samples of a decoder in a state, of a kind and payload; a stereo packet is mixed down on the 16-bit values (R196). -/
def coderSamples (codec ctx kind : Nat) (pay : List Byte) (n : Nat) : List Int :=
  (List.range n).map (fun i =>
    let l := (Config.decoderSample codec ctx kind pay 0 i).toInt
    if codec = 7 ∧ kind ≠ 1 ∧ opusStereo pay = true then place16 ((l + (Config.decoderSample codec ctx kind pay 1 i).toInt) / 2) else place16 l)

/-- The samples of a payload: L16 exactly, G.711 by its law, other codecs by their standard. -/
def payloadSamples (codec ctx n : Nat) (pay : List Byte) : List Int :=
  if codec = 4 ∨ codec = 5 ∨ codec = 6 then l16Samples pay
  else if codec = 1 ∨ codec = 2 then pay.map (fun b => place16 (Config.pcmExpand codec b.toNat).toInt)
  else coderSamples codec ctx 0 pay n

/-- Concealment of `total` samples at n a ms, `before` ms into it; that of G.711 and L16 is zero after 60 ms (R201). -/
def substitution (codec ctx before n total : Nat) : List Int :=
  let made := coderSamples codec ctx 1 [] total
  if codec = 3 ∨ codec = 7 then made
  else made.take ((60 - before) * n) ++ silence (total - Nat.min total ((60 - before) * n))

/-- The first tick of a good frame after a substitution is cross-faded (R201). -/
def fadeIn (n : Nat) (sub good : List Int) : List Int :=
  let head := (List.range n).map (fun i =>
    sat (mulQ30 ((good[i]?).getD 0) (rampUp n i) + mulQ30 ((sub[i]?).getD 0) (rampDown n i)))
  head ++ good.drop n

/-- The samples of a decode by a decoder in state ctx, after `before` ms of consecutive substitution. -/
def decSamples (codec ctx before : Nat) (d : Dec) : List Int :=
  let n := domN (codecDom codec)
  let total := d.dur * n
  match d.kind with
  | .zeros => silence total
  | .payload pay =>
    let good := payloadSamples codec ctx total pay
    if d.fade then fadeIn n (substitution codec ctx before n n) good else good
  | .codec => substitution codec ctx before n total
  | .lbrr pay => coderSamples codec ctx 2 pay total

/-- The decoder after a decode. -/
def Codec.next (c : Codec) (codec : Nat) (d : Dec) : Codec :=
  match d.kind with
  | .zeros => c
  | .payload pay => ⟨Config.decoderNext codec c.ctx 0 pay d.dur⟩
  | .codec => ⟨Config.decoderNext codec c.ctx 1 [] d.dur⟩
  | .lbrr pay => ⟨Config.decoderNext codec c.ctx 2 pay d.dur⟩

/-- The RMS level of samples is below −45 dBFS (R105). -/
def quietSamples (x : List Int) : Bool := decide (isqrt (blockSquares x / Nat.max 1 x.length) < 12076188)

/-- Cut samples into blocks of n at ticks t, t + 1 and so on, of the decode that began in tick `tag`. -/
def placeBlocks (n tag : Nat) : Nat → Nat → List Int → Sparse (Nat × Block) → Sparse (Nat × Block)
  | 0, _, _, m => m
  | k + 1, t, x, m => placeBlocks n tag k (t + 1) (x.drop n) (m.set (fun _ => (0, [])) t (tag, x.take n))

/-- A buffer with what it decodes into plays on at tick t: the play, the samples' blocks, the decoder after it. Whether a frame was quiet is judged by its samples. -/
def playOut (q : JbPlay) (codec before t : Nat) (dec : Codec) (future : Sparse (Nat × Block)) : Jb × Codec × Sparse (Nat × Block) :=
  match q.dec with
  | none => (q.jb, dec, future)
  | some d =>
    let x := decSamples codec dec.ctx before d
    let jb := match d.kind with
      | .payload _ => { q.jb with prevQuiet := quietSamples x }
      | .zeros | .codec | .lbrr _ => q.jb
    (jb, dec.next codec d, placeBlocks (domN (codecDom codec)) t d.dur t x future)

/-- The audio codec's decode of leg l at boundary t: the buffer plays on, and the samples stand ready for the mixes of their ticks once the decode's task completes (R204). They
depend on the frames and the decoder's state alone (R24, R25). -/
def State.jbTick (s : State) (l t : Nat) : State :=
  let g := s.leg l
  let r := s.legRec l
  if !g.jb.based || decide (LEG.A_CODEC r = 0) || decide (t < g.jb.nextAt) then s
  else
    let q := g.jb.playAt ⟨LEG.A_CODEC r, LEG.PTIME r, bit (BitVec.ofNat 32 (LEG.A_FLAGS r)) 1⟩ t (g.jb.frames.length + 2)
    let a := s.legA l
    let (jb, dec, future) := playOut q (LEG.A_CODEC r) g.jb.substituted t a.dec a.future
    let s := s.setLeg l { g with jb := jb, concealed := (g.concealed + q.concealed) % 2 ^ 32, jbDrop := (g.jbDrop + q.dropped) % 65536 }
    let s := s.setLegA l { a with dec := dec, future := future, decoding := if q.dec.isSome then a.decoding ++ [(t, a.dec)] else a.decoding }
    if q.damaged = 0 then s else s.postLimited (LEG.EVQ r) 0x09 0x80 l true q.damaged 0

/-- Leg l begins a decode in tick t. -/
def State.decodes (s : State) (l t : Nat) : Bool := (s.legA l).decoding.any (fun p => decide (p.1 = t))

/-- The decode of tick t is complete. -/
def decodedAt (t : Nat) (l : List (Nat × Codec)) : List (Nat × Codec) := l.filter (fun p => decide (p.1 ≠ t))

/-- The decode of tick t failed (R303, R305): its samples are silence, and the decoder is as it was unless it has gone on. -/
def LegAudio.decodeFailed (a : LegAudio) (t : Nat) : LegAudio :=
  let dec := match a.decoding.getLast? with | some p => if p.1 = t then p.2 else a.dec | none => a.dec
  { a with dec := dec, decoding := decodedAt t a.decoding, future := a.future.filter (fun p => decide (p.2.1 ≠ t)) }

/-- Blocks of tick t and after are kept. -/
def keepFrom {α : Type} (t : Nat) (m : Sparse α) : Sparse α := m.filter (fun p => decide (t ≤ p.1))

/-- The block of a tick among decoded ones, silence where there is none or its decode is not complete (R204). -/
def readyBlock (n t : Nat) (future : Sparse (Nat × Block)) (decoding : List (Nat × Codec)) : Block :=
  match future.get (fun _ => (0, [])) t with
  | (tag, x) => if x = [] ∨ decoding.any (fun p => decide (p.1 = tag)) = true then silence n else x

/-- A slot's samples of a TDM receive block (R115). -/
def tdmSlot (b : List (List Word)) (slot : Nat) : Block := b.map (fun f => ((f[slot]?).getD 0).toInt)

/-- Leg l's block of tick t − 1 at the codec rate under record r: of a HALTED leg silence, of a TDM leg its slot's (R115). -/
def State.legBlock (s : State) (l r t : Nat) : Block :=
  let a := s.legA l
  let n := domN (legDom r)
  if (s.leg l).state = .halted then silence n
  else if LEG.TRANSPORT r = 1 then (if LEG.TDM_RX r = 1 then tdmSlot (s.tdmPort (LEG.TDM_PORT r)).block (LEG.TDM_SLOT r) else silence n)
  else readyBlock n (t - 1) a.future a.decoding

/-- At boundary t the block of tick t − 1 becomes the leg's input of the mix. A leg that changed its codec rate at t gave it to what it left behind; the new codec has
decoded nothing yet. -/
def State.captureBlock (s : State) (l t : Nat) : State :=
  let a := s.legA l
  let r := if a.gone then a.lastRec else s.legRec l
  let b := s.legBlock l r t
  let old := a.old.map (fun o => if o.dom = legDom r then { o with block := b, hist := pushLine o.hist b bridgeKeep }
    else { o with hist := pushLine o.hist o.block bridgeKeep })
  s.setLegA l { a with block := b, lastRec := r, future := keepFrom t a.future, inHist := pushLine a.inHist b bridgeKeep, old := old }

/-! ### Recall players (R193, R199) -/

def State.player (s : State) (n : Nat) : Player := s.audio.players.get (fun _ => {}) n
def State.setPlayer (s : State) (n : Nat) (x : Player) : State :=
  { s with audio := { s.audio with players := s.audio.players.set (fun _ => {}) n x } }

/-- A big-endian number of bytes. -/
def beNat : List Byte → Nat := fun l => bytesNat l.reverse

/-- An entry of a recall region as a player sees it: its place, SSRC, payload type, sequence number, timestamp and payload. -/
structure RecallPkt where
  place : Nat × Nat
  ssrc : Nat
  pt : Nat
  seq : Nat
  ts : Nat
  pay : List Byte

/-- The payload of an RTP packet: after its CSRCs and header extension, before its padding. -/
def rtpPayload (p : List Byte) : List Byte :=
  let b0 := (p.head?.getD 0#8).toNat
  let fixed := 12 + 4 * (b0 % 16)
  let head := if b0 / 16 % 2 = 1 then fixed + 4 + 4 * beNat ((p.drop (fixed + 2)).take 2) else fixed
  let pad := if b0 / 32 % 2 = 1 then (p.getLast?.getD 0#8).toNat else 0
  (p.take (p.length - pad)).drop head

/-- An entry read from its region (R111). -/
def State.recallPkt (s : State) (r : Nat) (e : RecallEntry) : RecallPkt :=
  let sp := recallSpace r
  let at_ (i n : Nat) := (List.range n).map (fun k => s.dram.read (CONF.RECALL_BASE r + 64 + (e.offset - 64 + i + k) % sp))
  let p := at_ 16 (bytesNat (at_ 10 2))
  ⟨(e.time, e.offset), beNat ((p.drop 8).take 4), (((p.drop 1).head?).getD 0#8).toNat % 128, beNat ((p.drop 2).take 2), beNat ((p.drop 4).take 4), rtpPayload p⟩

/-- Stored poison lies in an entry's bytes. -/
def State.entryPoisoned (s : State) (r : Nat) (e : RecallEntry) : Bool :=
  let sp := recallSpace r
  let a := CONF.RECALL_BASE r + 64
  s.anyPoison (a + (e.offset - 64) % sp) (Nat.min e.size (sp - (e.offset - 64) % sp)) || s.anyPoison a (e.size - (sp - (e.offset - 64) % sp))

/-- The entries player n plays, in the order of the buffer; one read poisoned is skipped (R371). -/
def State.playerEntries (s : State) (n : Nat) : List RecallPkt :=
  let c := s.get (Fld.AUDIO_RPn_SRC_CONF n)
  let r := (s.effRec 2 c).getD 0
  let mine := (s.conf c).entries.filter (fun e =>
    decide (s.rd64 (Reg.AUDIO_RPn_START_LO n) ≤ e.time / 1000000) && decide (e.leg = s.get (Fld.AUDIO_RPn_SRC_LEG n)) &&
    !s.entryPoisoned r e)
  (mine.map (s.recallPkt r)).filter (fun x => decide (x.pt = s.get (Fld.AUDIO_RPn_CODEC_PT n)))

/-- The entries after the latest one read. -/
def entriesAfter (l : List RecallPkt) : Option (Nat × Nat) → List RecallPkt
  | none => l
  | some k =>
    match l.dropWhile (fun x => decide (x.place ≠ k)) with
    | [] => l.filter (fun x => decide (k.1 < x.place.1))
    | _ :: t => t

/-- Frames of a player's buffer are placed as R104 places them, up to 1,000 ms ahead of tick t. An entry beyond that, or of another SSRC, waits until the buffer is empty
and then sets a new base (R106); one whose tick has passed is discarded (log entry 177). -/
def Player.enter (x : Player) (codec t : Nat) : List RecallPkt → Player
  | [] => x
  | e :: rest =>
    let rate := rtpClock codec
    let same := x.jb.based && decide (x.jb.ssrc = e.ssrc)
    let near := same && decide ((x.jb.playout rate (extendTs x.jb.lastTs e.ts) - (t : Int)).natAbs ≤ 1000)
    if !near && x.jb.based && (decide (x.jb.frames ≠ []) || decide (t < x.jb.nextAt)) then x
    else
      let jb := if near then x.jb
        else { x.jb with based := true, p0 := t, ts0 := e.ts + 2 ^ 32, ssrc := e.ssrc, shift := 0, lastTs := e.ts + 2 ^ 32, frames := [], nextAt := t, decoded := false }
      let ts := extendTs jb.lastTs e.ts
      let play := (jb.playout rate ts).toNat
      let f : JFrame := ⟨e.seq, ts, play, t - 1, (frameMs codec e.pay).getD 0, false, frameBad codec e.pay, Config.opusLbrr e.pay, e.pay⟩
      let jb := { jb with lastTs := Nat.max jb.lastTs ts }
      let jb := if play < t ∨ play < jb.nextAt then jb else { jb with frames := insertBy JFrame.playout f jb.frames }
      Player.enter { x with jb := jb, cursor := some e.place } codec t rest

/-- Player n stops with a cause (R193, R194). -/
def State.playerStop (s : State) (n cause : Nat) : State :=
  let s := s.setPlayer n {}
  let s := s.put (Fld.AUDIO_RPn_STATUS_STATE n) 2
  s.post (bits s.audio.cfg 0 6) 0x08 0x73 n cause

/-- The ms of a frame of unknown duration in a recall player, which has no PTIME: 10 for L16 at 48 kHz, else 20. DESIGN CHOICE (log entry 177). -/
def playerPtime (codec : Nat) : Nat := if codec = 6 then 10 else 20

/-- The entries a play takes: a frame, good or damaged. -/
def JbPlay.played (q : JbPlay) : Nat :=
  match q.dec.map Dec.kind with
  | some (.payload _) => 1
  | some .zeros | some .codec | some (.lbrr _) | none => q.damaged

/-- Player n at boundary t: its block of tick t − 1, its entries placed, a decode begun, and the end after the last entry (R193, R199). -/
def State.playerTick (s : State) (n t : Nat) : State :=
  let x := s.player n
  if !x.playing || decide (t < x.startAt) then s
  else
    let codec := s.get (Fld.AUDIO_RPn_CODEC_CODEC n)
    let x := { x with block := readyBlock (domN (codecDom codec)) (t - 1) x.future x.decoding, future := keepFrom t x.future }
    let x := x.enter codec t (entriesAfter (s.playerEntries n) x.cursor)
    if x.jb.based = true ∧ t < x.jb.nextAt then s.setPlayer n x
    else if x.jb.frames = [] then
      if x.jb.based = false ∨ x.jb.nextAt < t then s.playerStop n 0 else s.setPlayer n x
    else
      let q := x.jb.playAt ⟨codec, playerPtime codec, true⟩ t (x.jb.frames.length + 2)
      let (jb, dec, future) := playOut q codec x.jb.substituted t x.dec x.future
      let s := s.bump (Fld.AUDIO_RPn_STATUS_PLAYED n) q.played
      s.setPlayer n { x with jb := jb, dec := dec, future := future, decoding := if q.dec.isSome then x.decoding ++ [(t, x.dec)] else x.decoding }

/-- The decode of tick t of player n is complete, or failed. -/
def State.playerDecoded (s : State) (n t : Nat) (ok : Bool) : State :=
  let x := s.player n
  let future := if ok then x.future else x.future.filter (fun p => decide (p.2.1 ≠ t))
  s.setPlayer n { x with decoding := decodedAt t x.decoding, future := future }

/-- Players of conference c stop when its buffer is released (R193). -/
def State.playersReleased (s : State) (c : Nat) : State :=
  forUpTo 16 (fun n s => if (s.player n).playing ∧ s.get (Fld.AUDIO_RPn_SRC_CONF n) = c then s.playerStop n 1 else s) s

/-- A write of AUDIO_RPn_CMD (R193). -/
def State.playerCmdWrite (s : State) (n : Nat) (w : Word) : State :=
  s.checked (Reg.AUDIO_RPn_CMD n) w
    (fun s =>
      if s.twinJunior then some .twin
      else if bits w 0 2 = 1 ∧ CONF.FREEZE ((s.effRec 2 (s.get (Fld.AUDIO_RPn_SRC_CONF n))).getD 0) = 0 then some .state
      else none)
    (fun s =>
      let s := s.record (.write (Reg.AUDIO_RPn_CMD n) w.toNat (s.ltick + 1))
      if bits w 0 2 = 1 then
        let s := s.setPlayer n { playing := true, startAt := s.ltick + 1 }
        (s.put (Fld.AUDIO_RPn_STATUS_STATE n) 1).put (Fld.AUDIO_RPn_STATUS_PLAYED n) 0
      else if (s.player n).playing then s.playerStop n 2 else s)

/-- RECALL_PLAY. -/
def execRecallPlay (n : Nat) (s : State) : Out := if n < 16 then .next (s.playerCmdWrite n 1) else .next s
/-- RECALL_STOP. -/
def execRecallStop (n : Nat) (s : State) : Out := if n < 16 then .next (s.playerCmdWrite n 2) else .next s

/-- Writes of a recall player's other registers: inputs (R187), AUDIO_RPn_SRC not while PLAYING, a codec of R87 only. -/
def State.playerRegWrite (s : State) (n addr : Nat) (w : Word) : State :=
  s.checked addr w
    (fun s =>
      if s.twinJunior then some .twin
      else if addr = Reg.AUDIO_RPn_SRC n ∧ (s.player n).playing = true then some .state
      else if addr = Reg.AUDIO_RPn_CODEC n ∧ (bits w 0 8 = 0 ∨ 7 < bits w 0 8) then some .range
      else none)
    (fun s => (s.record (.write addr w.toNat (s.ltick + 1))).applyWrite addr w)

end Sys2Proof.Machine
end

