-- ==== Sys2Proof/Machine/AudioMix.lean ====
section
/-! DEFINITION. The graph run of a tick (spec/09_audio_graph.md R173 to R192; spec/10 R205 to R213): speaker selection, the
conference bus and N−1 mixes, the host program, and leg encodes. -/

namespace Sys2Proof.Machine

/-! ### Parameters -/

/-- The default effect profile (R205). -/
def defaultProfile : Profile := ⟨0x08000000, false, true, [], 0, 0, 0, 0, 0x70000000, 64634⟩

/-- A program's profile. -/
def Prog.profile (p : Prog) (n : Nat) : Profile := ((p.profiles.find? (fun x => decide (x.1 = n))).map (·.2)).getD defaultProfile

/-- A program's conference entry (R179). -/
def Prog.conf (p : Prog) (c : Nat) : ConfEntry := if p.hasTable then p.confs.get (fun _ => {}) c else {}

/-- The entry of conference c in this tick: a fabric conference runs in D48 (R329). -/
def State.confEntry (s : State) (c : Nat) : ConfEntry :=
  let e := s.audio.active.conf c
  if s.fabricConf c then { e with dom := 0 } else e

/-- The effect profile number of a leg (R197). -/
def legFx (r : Nat) : Nat := LEG.A_FLAGS r / 8

/-- The members of conference c: the effective LEG records that name it (R173). -/
def State.confMembers (s : State) (c : Nat) : List Nat :=
  if c = 0xFFFF then [] else (tableRecs s.gate.effective 1).filterMap (fun p => if LEG.CONF p.2 = c then some p.1 else none)

/-! ### Speaker selection (R181 to R183) -/

/-- Insert before the first element that x precedes. -/
def insertWith {α : Type} (lt : α → α → Bool) (x : α) : List α → List α
  | [] => [x]
  | y :: t => if lt x y then x :: y :: t else y :: insertWith lt x t

/-- Sort by an order, equal elements keeping their places. -/
def sortWith {α : Type} (lt : α → α → Bool) (l : List α) : List α := l.reverse.foldl (fun a x => insertWith (fun u v => !lt v u) x a) []

/-- A member's selection meter. -/
def State.meterOf (s : State) (l : Nat) : Meter := (s.legA l).chain.meter

/-- A member is active (R182). -/
def State.memberActive (s : State) (l : Nat) : Bool := decide (s.audio.thresh ≤ (s.meterOf l).peak)

/-- Holders in ascending MS, of equal ones the higher number first (R182 step 5). -/
def seatBefore (ms : Nat → Nat × Nat) (a b : Nat × Nat) : Bool :=
  msGt (ms b.2) (ms a.2) || (!msGt (ms a.2) (ms b.2) && decide (b.2 < a.2))

/-- A seat on offer: its number, the holder to be displaced, and whether it is offered as outranked. -/
structure SeatOffer where
  seat : Nat
  holder : Option Nat
  outranked : Bool

/-- Candidates take the offered seats in turn (R182 step 6): triples of seat, member and whether it was an outranked holder's. -/
def assignSeats (ms : Nat → Nat × Nat) : List Nat → List SeatOffer → List (Nat × Nat × Bool)
  | [], _ => []
  | _, [] => []
  | c :: cs, o :: os =>
    match o.outranked, o.holder with
    | true, some h => if msGt (ms c) (ms h) then (o.seat, c, true) :: assignSeats ms cs os else []
    | _, _ => (o.seat, c, false) :: assignSeats ms cs os

/-- Seats paired with their numbers. -/
def seatList (l : List (Option Nat)) : List (Nat × Option Nat) := (List.range l.length).zip l

/-- Candidates in descending MS, of equal ones the lower number first (R182 step 3). -/
def byMs (ms : Nat → Nat × Nat) (l : List Nat) : List Nat :=
  sortWith (fun x y => msGt (ms x) (ms y) || (!msGt (ms y) (ms x) && decide (x < y))) l

/-- The seat decision of R182 over members given by number: seats with their OUTRANKED counts, and the seats taken. Holders that are no
members any longer leave their seats; `hold` is SEAT_HOLD's count. -/
def decideSeats (k hold : Nat) (members : List Nat) (active : Nat → Bool) (ms : Nat → Nat × Nat) (old : List (Option Nat)) (out : List Nat) :
    List (Option Nat) × List Nat × List (Nat × Nat × Bool) :=
  let seats := (List.range k).map (fun i => ((old[i]?).getD none).bind (fun l => if members.contains l then some l else none))
  let held := seats.filterMap id
  let rivals := members.filter (fun l => active l && !held.contains l)
  let count (i : Nat) (h : Option Nat) : Nat :=
    let o := (out[i]?).getD 0
    match h with
    | none => o
    | some l => if active l then (if rivals.any (fun x => msGt (ms x) (ms l)) then o + 1 else 0) else o
  let counts := (seatList seats).map (fun p => count p.1 p.2)
  let empty := (seatList seats).filterMap (fun p => if p.2.isNone then some (⟨p.1, none, false⟩ : SeatOffer) else none)
  let holders := (seatList seats).filterMap (fun p => p.2.map (fun l => (p.1, l)))
  let quiet := sortWith (seatBefore ms) (holders.filter (fun p => !active p.2))
  let beaten := sortWith (seatBefore ms) (holders.filter (fun p => active p.2 && decide (hold ≤ (counts[p.1]?).getD 0)))
  let offers := empty ++ quiet.map (fun p => ⟨p.1, some p.2, false⟩) ++ beaten.map (fun p => ⟨p.1, some p.2, true⟩)
  let taken := assignSeats ms (byMs ms rivals) offers
  let seats := taken.foldl (fun l t => modifyAt (fun _ => some t.2.1) t.1 l) seats
  let counts := taken.foldl (fun l t => modifyAt (fun _ => 0) t.1 l) counts
  (seats, counts, taken)

/-- A member's mean square. -/
def State.msOf (s : State) (l : Nat) : Nat × Nat := (s.meterOf l).ms

/-- The seat update of conference c (R182). -/
def State.seatUpdate (s : State) (c : Nat) : State :=
  let a := s.confA c
  let r := (s.effRec 2 c).getD 0
  let (seats, counts, taken) := decideSeats (s.confK c) (bits s.audio.sel 0 16) (s.confMembers c) s.memberActive s.msOf a.seats a.outranked
  let s := s.setConfA c { a with seats := seats, outranked := counts }
  if bit s.audio.cfg 31 then
    forEach taken (fun t s => s.post (CONF.EVQ r) 0x08 0x72 c (t.2.1 + t.1 * 65536 + b2n t.2.2 * 2 ^ 31)) s
  else s

/-- A CONF MODIFY changes K (R183): holders are vacated until K remain, quiet ones first and then by ascending MS, and the rest are
renumbered. -/
def State.setSeats (s : State) (c k : Nat) : State :=
  let a := s.confA c
  let holders := ((seatList a.seats).zip (a.outranked ++ List.replicate a.seats.length 0)).filterMap (fun p => p.1.2.map (fun l => (p.1.1, l, p.2)))
  if holders.length ≤ k ∧ a.seats.length ≤ k then s
  else
    let order := sortWith (fun (x y : Nat × Nat × Nat) =>
      (!s.memberActive x.2.1 && s.memberActive y.2.1) ||
      (decide (s.memberActive x.2.1 = s.memberActive y.2.1) && seatBefore s.msOf (x.1, x.2.1) (y.1, y.2.1))) holders
    let gone := (order.take (holders.length - k)).map (·.1)
    let keep := holders.filter (fun p => !gone.contains p.1)
    s.setConfA c { a with seats := keep.map (fun p => some p.2.1), outranked := keep.map (fun p => p.2.2) }

/-! ### A member's input chain (R173 steps 1 to 4) -/

/-- The chain on a block in the conference's domain: the signal after the selection meter and the chain's state. -/
def chainRun (p : Profile) (e : ConfEntry) (x : Block) (c : NodeState) : Block × NodeState :=
  let x := gainBlock (c.lastGain.head?.getD p.inGain) p.inGain x
  let (x, g) := gateBlock p c.gate x
  let (x, h) := eqBlock p.eq c.eq x
  (x, { c with lastGain := [p.inGain], gate := g, eq := h, meter := c.meter.update e.rmsWin e.peakHold e.decayMul x })

/-- The history the leg-end bridge to a domain reads: a bridge that did not stand in the tick before starts with zero history (R176). -/
def LegAudio.inLine (g : LegAudio) (dom : Nat) : List Int := if g.inEnd = some (legDom g.lastRec, dom) then g.inHist else pushLine [] g.block bridgeKeep

/-- The leg's signal in a domain through its leg-end bridge; a leg that changed its codec rate in this tick is cross-faded from its old bridge (R171, R189). -/
def LegAudio.inSignal (g : LegAudio) (dom : Nat) : Block :=
  let d := legDom g.lastRec
  let x := bridgeTo d dom (g.inLine dom)
  match g.old with
  | some o =>
    if o.dom ≠ d ∧ g.inEnd = some (o.dom, dom) then satBlock (addBlocks (weighted true false (bridgeTo o.dom dom o.hist)) (weighted false true x)) else x
  | none => x

/-- A leg's signal in conference c in a domain, and its chain after it: of a leg that left c in this tick by what it left there (R191). -/
def LegAudio.signal (g : LegAudio) (p : Profile) (e : ConfEntry) (c dom : Nat) : Block × NodeState :=
  match g.old with
  | some o =>
    if o.conf = c ∧ LEG.CONF g.lastRec ≠ c then chainRun p e (bridgeTo o.dom dom o.hist) o.chain else chainRun p e (g.inSignal dom) g.chain
  | none => chainRun p e (g.inSignal dom) g.chain

/-- The leg after its signal was computed in its conference's domain. -/
def LegAudio.heard (g : LegAudio) (dom : Nat) (x : Block) (st : NodeState) : LegAudio :=
  { g with chain := st, x := x, inHist := g.inLine dom, inEnd := some (legDom g.lastRec, dom) }

/-- The sum of blocks. -/
def sumBlocks (n : Nat) (l : List Block) : Block := l.foldl addBlocks (silence n)

/-- N−1 of a sum: the sum and the inserts less the member's own term (R184). -/
def nMinusOne (s ins own : Block) : Block := satBlock (addBlocks (addBlocks s ins) (own.map (fun x => -x)))

/-- A term of a leg, silence for one not seated. -/
def termOf (n : Nat) (terms : List (Nat × Block)) (l : Nat) : Block := ((terms.find? (fun p => decide (p.1 = l))).map (·.2)).getD (silence n)

/-- What members that leave a mixer in this tick still get of it: (leg, domain, block). -/
def State.setTails (s : State) (l : List (Nat × Nat × Block)) : State :=
  forEach l (fun q (s : State) => s.setLegA q.1 { s.legA q.1 with tail := some q.2 }) s

/-- The bus run of conference c (R182, R184, R188 to R190): seats, every member's chain and meter, the weighted terms, the sum and
the bus. Members that left in this tick ramp out; a new domain ramps the old mixer out and the new one in. -/
def State.confBusRun (s : State) (t c : Nat) (late : Bool) : State :=
  let s := s.seatUpdate c
  let a := s.confA c
  let prog := s.audio.active
  let e := s.confEntry c
  let n := domN e.dom
  let members := s.confMembers c
  let seated := a.seats.filterMap id
  let leavers := a.members.filter (fun l => !members.contains l)
  let changed := match a.dom with | some d => decide (d ≠ e.dom) | none => false
  let d0 := a.dom.getD e.dom
  let signal (l dom : Nat) : Block × NodeState := (s.legA l).signal (prog.profile (legFx (s.legA l).lastRec)) e c dom
  let before := if changed then [] else a.edges
  let terms := (members ++ (if changed then [] else leavers)).filterMap (fun l =>
    if before.contains l || seated.contains l then some (l, weighted (before.contains l) (seated.contains l) (signal l e.dom).1) else none)
  let sum := sumBlocks n (terms.map (·.2))
  let oldTerms := if changed then a.edges.map (fun l => (l, weighted true false (signal l d0).1)) else []
  let oldSum := sumBlocks (domN d0) (oldTerms.map (·.2))
  let tails : List (Nat × Nat × Block) :=
    if changed then a.members.map (fun l => (l, d0, weighted true false (nMinusOne oldSum [] (termOf (domN d0) oldTerms l))))
    else leavers.map (fun l => (l, e.dom, weighted true false (nMinusOne sum [] (termOf n terms l))))
  let s := forEach members (fun l (s : State) =>
    let (x, st) := signal l e.dom
    let g := s.legA l
    s.setLegA l { g.heard e.dom x st with lastSeated := if seated.contains l then some t else g.lastSeated }) s
  let s := if late then s else s.setTails tails
  let joined := if changed then members else members.filter (fun l => !a.members.contains l)
  let a := s.confA c
  s.setConfA c { a with edges := seated, members := members, joined := joined, dom := some e.dom, sum := sum,
                        bus := if late then silence n else satBlock sum, terms := terms }

/-! ### Outputs of members (R173 steps 6 to 8) -/

/-- The output of leg l leaves at the codec rate in tick t: b in domain `dom`, and what the leg still gets of a mixer it left in this tick, through the limiter and the
leg-end bridges. `chain` is false for a leg without a conference, whose output passes no limiter. A bridge that did not stand in the tick before starts with zero history,
and ramps in when only the codec rate is new (R189). -/
def State.legOut (s : State) (t l dom : Nat) (b : Block) (p : Profile) (chain : Bool) : State :=
  let g := s.legA l
  let d := legDom g.lastRec
  let tail := g.tail.getD (dom, [])
  let here := if tail.1 = dom then tail.2 else []
  let (y, gain) := if chain then limBlock p g.outLim (satBlock (addBlocks b here)) else (satBlock (addBlocks b (limBlock p g.outLim here).1), g.outLim)
  let hist := pushLine (if g.outEnd = some (dom, d) then g.outHist else []) y bridgeKeep
  let z := bridgeTo dom d hist
  let z := match g.outEnd with
    | some e => if e.1 = dom ∧ e.2 ≠ d then weighted false true z else z
    | none => z
  let z := if tail.1 = dom then z
    else satBlock (addBlocks z (bridgeTo tail.1 d (pushLine (if g.outEnd = some (tail.1, d) then g.outHist else []) (limBlock p g.outLim tail.2).1 bridgeKeep)))
  s.setLegA l { g with outLim := gain, outHist := hist, outEnd := some (dom, d), outs := (keepFrom (t - 64) g.outs).set (fun _ => []) t z }

/-- What the program's sinks give a terminal in this tick: their sum, saturated once (R174). -/
def State.sunk (s : State) (kind index n : Nat) : Block :=
  satBlock (sumBlocks n ((s.audio.terms.filter (fun p => decide (p.2.1 = kind * 65536 + index))).map (fun p => p.2.2)))

/-- The output run of conference c (R184): N−1 of every member, the program's sinks, the limiter, the leg-end bridges. -/
def State.confOutRun (s : State) (t c : Nat) : State :=
  let a := s.confA c
  let prog := s.audio.active
  let d := (s.confEntry c).dom
  let n := domN d
  let ins := s.sunk 5 c n
  forEach a.members (fun l (s : State) =>
    let out := weighted (!a.joined.contains l) true (nMinusOne a.sum ins (termOf n a.terms l))
    s.legOut t l d (addBlocks out (s.sunk 1 l n)) (prog.profile (legFx (s.legA l).lastRec)) true) s

/-! ### The host program (R174 to R177, R188 to R190) -/

/-- Which type a node is of. -/
def nodeTag : NodeKind → Nat
  | .source _ => 0 | .sink _ => 1 | .gain _ => 2 | .mix _ => 3 | .mixMinus => 4 | .eq _ => 5 | .gate _ => 6 | .limiter _ => 7
  | .delay _ => 8 | .bridge => 9 | .meter _ _ _ => 10 | .custom _ _ _ _ _ => 11

/-- The L of a DELAY node. -/
def delayOf : NodeKind → Option Nat
  | .delay l => some l
  | .source _ | .sink _ | .gain _ | .mix _ | .mixMinus | .eq _ | .gate _ | .limiter _ | .bridge | .meter _ _ _ | .custom _ _ _ _ _ => none

/-- The terminal of a SINK node. -/
def sinkOf : NodeKind → Option Terminal
  | .sink t => some t
  | .source _ | .gain _ | .mix _ | .mixMinus | .eq _ | .gate _ | .limiter _ | .delay _ | .bridge | .meter _ _ _ | .custom _ _ _ _ _ => none

/-- A program's node by number. -/
def Prog.nodeNo (p : Prog) (n : Nat) : Option GNode := p.nodes.find? (fun g => decide (g.num = n))

/-- A delay of at least a block: no output depends on the tick's own input (R177). -/
def longDelay (g : GNode) : Bool := match delayOf g.kind with | some l => decide (domN g.dom ≤ l) | none => false

/-- A CUSTOM node. -/
def customNode (g : GNode) : Bool := decide (nodeTag g.kind = 11)

/-- The nodes of the previous program that are gone, in the one tick they run on (R189). -/
def Audio.goneNodes (a : Audio) : List GNode :=
  match a.previous with
  | none => []
  | some q => q.nodes.filter (fun g => (a.active.nodeNo g.num).isNone)

/-- The nodes of this tick's graph. -/
def Audio.tickNodes (a : Audio) : List GNode := a.goneNodes ++ a.active.nodes

/-- The program a node of this tick runs under. -/
def Audio.progOf (a : Audio) (n : Nat) : Prog := if (a.active.nodeNo n).isSome then a.active else a.previous.getD a.active

/-- The edges a program has into input i of a node. -/
def Prog.into (p : Prog) (n i : Nat) : List (Nat × Nat) := (((p.nodeNo n).map (·.ins)).getD [])[i]?.getD []

/-- The edges into input i of a node: source, and whether it exists in the tick before and in this one (R188). -/
def Audio.inEdges (a : Audio) (g : GNode) (i : Nat) : List ((Nat × Nat) × Bool × Bool) :=
  let now := a.active.into g.num i
  match a.previous with
  | none => now.map (fun e => (e, true, true))
  | some q =>
    let old := q.into g.num i
    now.map (fun e => (e, old.contains e, true)) ++ (old.filter (fun e => !now.contains e)).map (fun e => (e, true, false))

/-- Inputs of a node that have an edge in the tick before or in this one. -/
def Audio.inCount (a : Audio) (g : GNode) : Nat :=
  let n (p : Prog) := (((p.nodeNo g.num).map (·.ins)).getD []).length
  Nat.max (n a.active) ((a.previous.map n).getD 0)

/-- A node feeds another in this tick. -/
def Audio.feeds (a : Audio) (n : Nat) (g : GNode) : Bool := (List.range (a.inCount g)).any (fun i => (a.inEdges g i).any (fun e => decide (e.1.1 = n)))

/-- An output port's block of this tick. -/
def State.portBlock (s : State) (e : Nat × Nat) : Block := s.audio.ports.get (fun _ => []) (e.1 * 64 + e.2)
def State.setPortBlock (s : State) (node port : Nat) (b : Block) : State :=
  { s with audio := { s.audio with ports := s.audio.ports.set (fun _ => []) (node * 64 + port) b } }

/-- The block at input i of a node: its edges under their weights (R189); one whose source gave nothing in this tick is silence (R192). -/
def State.inputBlock (s : State) (g : GNode) (i : Nat) : Block :=
  let x := match s.audio.inEdges g i with
    | [(e, true, true)] => s.portBlock e
    | l => satBlock (l.foldl (fun b x => addBlocks b (weighted x.2.1 x.2.2 (s.portBlock x.1))) [])
  (addBlocks (silence (domN g.dom)) x).take (domN g.dom)

/-- A tone generator's block in tick t (R212, R213). -/
def Prog.toneRun (p : Prog) (t gen dom : Nat) : Block :=
  match p.tones.find? (fun x => decide (x.1 = gen)) with
  | none => silence (domN dom)
  | some (_, o) => toneBlock o (if dom = 0 then 48000 else if dom = 1 then 16000 else 8000) (domN dom) (t - p.toneStart.get (fun _ => 0) gen)

/-- A signal of domain d as a node of another domain takes it through leg-end bridges, and their history. -/
def NodeState.bridged (st : NodeState) (d dom : Nat) (b : Block) : Block × NodeState :=
  let line := pushLine (if st.outDom = some d then st.line else []) b bridgeKeep
  (bridgeTo d dom line, { st with line := line, outDom := some d })

/-- A SOURCE LEG node (R174): a leg that changed its codec rate in this tick is cross-faded, a deleted one ramps out (R189). -/
def LegAudio.source (g : LegAudio) (st : NodeState) (dom : Nat) : Block × NodeState :=
  let (x, st') := st.bridged (legDom g.lastRec) dom (addBlocks (silence (domN (legDom g.lastRec))) g.block)
  let x := match g.old with
    | some o =>
      if o.dom ≠ legDom g.lastRec ∧ st.outDom = some o.dom then
        satBlock (addBlocks (weighted true false (st.bridged o.dom dom o.block).1) (weighted false true x))
      else x
    | none => x
  (if g.gone then weighted true false x else x, st')

/-- A SOURCE node of a domain in tick t (R174): its block and state. A TDM slot is D48 and a conference's bus in the conference's domain; a node of another domain gets silence (log entry 178). -/
def State.sourceRun (s : State) (t : Nat) (g : GNode) (src : Terminal) (st : NodeState) : Block × NodeState :=
  if src.kind = 3 then ((s.audio.progOf g.num).toneRun t src.index g.dom, st)
  else if src.kind = 1 then (s.legA src.index).source st g.dom
  else if src.kind = 4 then
    let d := codecDom (s.get (Fld.AUDIO_RPn_CODEC_CODEC src.index))
    st.bridged d g.dom (addBlocks (silence (domN d)) (s.player src.index).block)
  else if src.kind = 2 then (if g.dom = 0 then tdmSlot (s.tdmPort (src.index / 32)).block (src.index % 32) else silence (domN g.dom), st)
  else (if (s.confA src.index).dom = some g.dom then (s.confA src.index).bus else silence (domN g.dom), st)

/-- The domain a sink's terminal takes its block in (R174). -/
def State.sinkDom (s : State) (t : Terminal) (nodeDom : Nat) : Nat :=
  if t.kind = 1 then
    let r := (s.legA t.index).lastRec
    if LEG.CONF r = 0xFFFF then legDom r else (s.confEntry (LEG.CONF r)).dom
  else if t.kind = 2 then 0
  else if t.kind = 5 then (s.confEntry t.index).dom
  else nodeDom

/-- A SINK node's block reaches its terminal. A leg's sink passes leg-end bridges; when they lead to another domain than in the tick before, the old ones ramp out and the new
ones in. One for a TDM slot or a conference of another domain gives nothing (log entry 178). -/
def State.sinkRun (s : State) (g : GNode) (snk : Terminal) (st : NodeState) (x : Block) : State :=
  let d := s.sinkDom snk g.dom
  let put (s : State) (b : Block) : State := { s with audio := { s.audio with terms := s.audio.terms.set (fun _ => (0, [])) g.num (snk.kind * 65536 + snk.index, b) } }
  if snk.kind ≠ 1 then (if d = g.dom then put s x else s)
  else
    let cont := decide (st.outDom = some d)
    let line := pushLine (if cont then st.line else []) x bridgeKeep
    let s := s.setNode g.num { st with line := line, outDom := some d }
    match st.outDom with
    | none => put s (bridgeTo g.dom d line)
    | some d0 =>
      if cont then put s (bridgeTo g.dom d line)
      else
        let a := s.legA snk.index
        let old := weighted true false (bridgeTo g.dom d0 (pushLine st.line x bridgeKeep))
        let tail := match a.tail with
          | none => some (d0, old)
          | some q => if q.1 = d0 then some (d0, addBlocks q.2 old) else some q
        put (s.setLegA snk.index { a with tail := tail }) (weighted false true (bridgeTo g.dom d line))

/-- The domain of the node at the input of a BRIDGE. -/
def Audio.inDom (a : Audio) (g : GNode) : Nat :=
  match a.inEdges g 0 with
  | (e, _, _) :: _ => ((a.tickNodes.find? (fun h => decide (h.num = e.1))).map (·.dom)).getD g.dom
  | [] => g.dom

/-- One node of the program runs (R176, R190). -/
def State.nodeRun (s : State) (t : Nat) (g : GNode) : State :=
  let st := s.node g.num
  let n := domN g.dom
  let x := s.inputBlock g 0
  let ins := (List.range (s.audio.inCount g)).map (s.inputBlock g)
  match g.kind with
  | .source src =>
    let (b, st) := s.sourceRun t g src st
    (s.setNode g.num st).setPortBlock g.num 0 b
  | .sink snk => s.sinkRun g snk st x
  | .gain v =>
    (s.setNode g.num { st with lastGain := [v] }).setPortBlock g.num 0 (gainBlock (st.lastGain.head?.getD v) v x)
  | .mix gs =>
    (s.setNode g.num { st with lastGain := gs }).setPortBlock g.num 0 (mixBlocks n st.lastGain (gs ++ st.lastGain.drop gs.length) ins)
  | .mixMinus =>
    let outs := mixMinusBlocks n ins
    (outs.zip (List.range outs.length)).foldl (fun s p => s.setPortBlock g.num p.2 p.1) s
  | .eq p =>
    let (y, h) := eqBlock p.eq st.eq x
    (s.setNode g.num { st with eq := h }).setPortBlock g.num 0 y
  | .gate p =>
    let (y, h) := gateBlock p st.gate x
    (s.setNode g.num { st with gate := h }).setPortBlock g.num 0 y
  | .limiter p =>
    let (y, h) := limBlock p st.lim x
    (s.setNode g.num { st with lim := h }).setPortBlock g.num 0 y
  | .delay l =>
    let line := pushLine st.line x (48000 + 48)
    (s.setNode g.num { st with line := line, lastDelay := some l }).setPortBlock g.num 0 (delayBlock (st.lastDelay.getD l) l line n)
  | .bridge =>
    let (y, st) := st.bridged (s.audio.inDom g) g.dom x
    (s.setNode g.num st).setPortBlock g.num 0 y
  | .meter w h d => (s.setNode g.num { st with meter := st.meter.update w h d x }).setPortBlock g.num 0 x
  | .custom _ _ _ _ _ => s

/-- A DELAY whose old and new L are both a block or more: its output is ready before its input (R177, R190). -/
def State.early (s : State) (g : GNode) : Bool :=
  longDelay g && (match (s.node g.num).lastDelay with | some l => decide (domN g.dom ≤ l) | none => true)

/-- The output of such a DELAY, before this tick's input reaches its line. -/
def State.delayOut (s : State) (g : GNode) : State :=
  match delayOf g.kind with
  | some l =>
    let st := s.node g.num
    s.setPortBlock g.num 0 (delayBlock (st.lastDelay.getD l) l (silence (domN g.dom) ++ st.line) (domN g.dom))
  | none => s

/-- The graph run of a tick begins: no node has an output yet but a long DELAY. -/
def State.graphBegin (s : State) : State :=
  let s := { s with audio := { s.audio with ports := [], terms := [] } }
  forEach (s.audio.tickNodes.filter s.early) (fun g s => s.delayOut g) s

/-- A node has given its output in this tick. -/
def State.hasRun (s : State) (n : Nat) : Bool := s.audio.ports.any (fun p => decide (p.1 / 64 = n))

/-- Run nodes in an order in which every input is ready: the first listed one whose sources have run, at each turn. -/
def State.runNodes (s : State) (t : Nat) : Nat → List GNode → State
  | 0, _ => s
  | fuel + 1, l =>
    match l with
    | [] => s
    | h :: _ =>
      let g := (l.find? (fun g => !l.any (fun k => decide (k.num ≠ g.num) && s.audio.feeds k.num g))).getD h
      State.runNodes (s.nodeRun t g) t fuel (l.filter (fun k => decide (k.num ≠ g.num)))

/-- Nodes with those gone nodes before them that still feed them in this tick and have not run (R189). -/
def State.withGone (s : State) : Nat → List GNode → List GNode
  | 0, l => l
  | fuel + 1, l =>
    let need := s.audio.goneNodes.filter (fun h =>
      !s.hasRun h.num && !customNode h && !l.any (fun g => decide (g.num = h.num)) && l.any (s.audio.feeds h.num))
    if need = [] then l else State.withGone s fuel (need ++ l)

/-- The nodes of segment `seg` of this tick; from 1,024 on those of the previous program, of which only gone nodes run. -/
def Audio.segNodes (a : Audio) (seg : Nat) : List GNode :=
  if seg < 1024 then ((a.active.segs[seg]?.map (·.nodes)).getD []).filterMap a.active.nodeNo
  else
    let q := a.previous.getD {}
    (((q.segs[seg - 1024]?.map (·.nodes)).getD []).filterMap q.nodeNo).filter (fun g => (a.active.nodeNo g.num).isNone)

/-- Segment `seg` of the host program runs in tick t (R189); gone nodes that feed it run with it. -/
def State.segmentRun (s : State) (t seg : Nat) : State :=
  let own := (s.audio.segNodes seg).filter (fun g => !s.early g && !customNode g && !s.hasRun g.num)
  let l := s.withGone s.audio.goneNodes.length own
  s.runNodes t l.length l

/-- The move holds at tick t. -/
def MillMove.holds (m : MillMove) (t : Nat) : Bool := decide (m.start ≤ t) && (match m.stop with | none => true | some u => decide (t < u))

/-- The cluster that serves a key at tick t: its own, or where moves of R458 took it. Kinds: 0 batch, 1 segment, 2 node, 3 player. -/
def State.millCluster (s : State) (kind key c t : Nat) : Nat :=
  s.svc.moves.foldl (fun c m =>
    if m.holds t && decide (c = m.from_) && decide (m.targets ≠ []) then (m.targets[Config.moveTarget m.num kind key % m.targets.length]?).getD c else c) (c % 8)

/-- The cluster and the slot of a CUSTOM node's kernel at tick t. -/
def State.movedSlot (s : State) (node c slot t : Nat) : Nat × Nat :=
  s.svc.moves.foldl (fun (p : Nat × Nat) m =>
    if m.holds t && decide (p.1 = m.from_) && decide (m.targets ≠ []) then
      let c' := (m.targets[Config.moveTarget m.num 2 node % m.targets.length]?).getD p.1
      match m.slots.find? (fun x => decide (x.1 = p.2) && decide (x.2.1 = c')) with
      | some x => x.2
      | none => (c', p.2)
    else p) (c, slot)

/-- The inputs of a CUSTOM node in tick t: those kept when its activation was late, else this tick's. -/
def State.kernelIns (s : State) (t : Nat) (g : GNode) : List Block :=
  match s.audio.lateIns.get (fun _ => []) (t * 65536 + g.num) with
  | [] => (List.range g.ins.length).map (s.inputBlock g)
  | l => l

/-- A CUSTOM node's kernel starts on a core (R236); a node whose slot holds no kernel yields zeros. -/
def State.kernelStart (s : State) (t node core : Nat) : State :=
  match (s.audio.tickNodes).find? (fun g => decide (g.num = node)) with
  | none => s
  | some g =>
    match g.kind with
    | .custom c slot budget outs params =>
      let (c, slot) := s.movedSlot node c slot t
      let k := s.kernel c slot
      if k.id = 0 then forUpTo outs (fun i s => s.setPortBlock node i (silence (domN g.dom))) s
      else s.activate core node slot budget t (domN g.dom) g.dom k (s.kernelIns t g) params
    | .source _ | .sink _ | .gain _ | .mix _ | .mixMinus | .eq _ | .gate _ | .limiter _ | .delay _ | .bridge | .meter _ _ _ => s

/-- The inputs of a CUSTOM node whose activation in tick t is late are kept for its run (R192). -/
def State.keepIns (s : State) (t node : Nat) : State :=
  match s.audio.tickNodes.find? (fun g => decide (g.num = node)) with
  | none => s
  | some g => { s with audio := { s.audio with lateIns := s.audio.lateIns.set (fun _ => []) (t * 65536 + node) (s.kernelIns t g) } }

/-- The activation is over: its inputs are not kept. -/
def State.dropIns (s : State) (t node : Nat) : State :=
  { s with audio := { s.audio with lateIns := s.audio.lateIns.set (fun _ => []) (t * 65536 + node) [] } }

/-! ### Encodes and mix groups (R185, R195 to R198) -/

/-- A leg encodes at boundary t: the frame whose last sample was mixed in tick t − 1 is whole, of one codec and PTIME (R21, R185; log entry 75). -/
def State.encodeDue (s : State) (l t : Nat) : Bool :=
  let r := s.legRec l
  let p := LEG.PTIME r
  decide (LEG.TRANSPORT r = 0) && decide (LEG.A_CODEC r ≠ 0) && decide (p ≠ 0) && decide ((t - 1) % p = 0) &&
    decide ((s.legA l).encSince + p < t) && decide ((s.leg l).state ≠ .none) && decide ((s.leg l).state ≠ .pending)

/-- A program sink addresses the leg. -/
def Prog.sinksTo (p : Prog) (l : Nat) : Bool :=
  p.nodes.any (fun g => match sinkOf g.kind with | some t => decide (t.kind = 1) && decide (t.index = l) | none => false)

/-- What decides a leg's mix group in a tick (R185): its conference, A_CODEC, PTIME, A_BITRATE, A_FLAGS, the output limiter, whether a program LEG sink addresses it, and
whether its conference permits groups. -/
def State.keyOf (s : State) (l : Nat) : List Nat :=
  let r := s.legRec l
  let p := s.audio.active.profile (legFx r)
  [LEG.CONF r, LEG.A_CODEC r, LEG.PTIME r, LEG.A_BITRATE r, LEG.A_FLAGS r, b2n p.limEn, p.limThresh, p.limRel, b2n (s.audio.active.sinksTo l),
    b2n (decide (LEG.CONF r ≠ 0xFFFF) && (s.confEntry (LEG.CONF r)).groupEn)]

/-- The key of leg l in the graph tick that begins. -/
def State.noteKey (s : State) (l t : Nat) : State :=
  let a := s.legA l
  let k := s.keyOf l
  if a.key = k then s else s.setLegA l { a with key := k, keySince := t }

/-- Leg l uses its group's payload for the frame that ended before boundary t (R185). -/
def State.usesGroup (s : State) (l t : Nat) : Bool :=
  let g := s.legA l
  let p := LEG.PTIME (s.legRec l)
  let codec := LEG.A_CODEC (s.legRec l)
  let free := match g.lastSeated with | some k => decide (k + p < t) | none => true
  let rested := match g.lastSeated with | some k => decide (k + bits s.audio.sel 16 16 < t) | none => true
  decide (g.key.drop 8 = [0, 1]) && free && decide (g.keySince + p ≤ t) && ((decide (codec ≠ 3) && decide (codec ≠ 7)) || decide (g.usedGroup ≠ []) || rested)

/-- The samples of the frame leg l encodes at boundary t, at the codec rate: PTIME ticks of its output, the last one mixed at boundary t − 1
(R21, R185). -/
def State.frameSamples (s : State) (l t : Nat) : List Int :=
  let n := domN (legDom (s.legRec l))
  (List.range (LEG.PTIME (s.legRec l))).flatMap (fun i =>
    let b := (s.legA l).outs.get (fun _ => []) (t - LEG.PTIME (s.legRec l) + i)
    (List.range n).map (fun j => (b[j]?).getD 0))

/-- A sample as an encoder takes it: x >> 16 as 16-bit linear PCM (R196). -/
def pcm16 (x : Int) : Nat := unsigned 16 (x.fdiv 65536)

/-- The mode (0 SILK, 1 hybrid, 2 CELT) and audio bandwidth in kHz of the Opus encoder (R198). -/
def opusMode (bitrate : Nat) : Nat × Nat :=
  if bitrate < 12000 then (0, 4) else if bitrate < 20000 then (0, 8) else if bitrate < 28000 then (1, 12) else if bitrate < 40000 then (1, 20) else (2, 20)

/-- The first byte of an Opus packet of one mono frame. PRESUMED (RFC 6716; log entry 171). -/
def opusToc (mode bw ptime : Nat) : Nat :=
  let config := if mode = 0 then (if bw = 4 then 0 else 8) + (if ptime = 10 then 0 else 1)
    else if mode = 1 then (if bw = 12 then 12 else 14) + (if ptime = 10 then 0 else 1)
    else 28 + (if ptime = 10 then 2 else 3)
  config * 8

/-- What the Opus encoder is set to (R197, R198): mode, bandwidth, bitrate, CBR, LBRR, and the expected loss in per cent; FEC has no effect on CELT-only frames. -/
def opusSettings (r lossPm : Nat) : List Nat :=
  let m := opusMode (LEG.A_BITRATE r)
  let fec := decide (LEG.A_FLAGS r / 2 % 2 = 1) && decide (m.1 ≠ 2)
  [m.1, m.2, LEG.A_BITRATE r, LEG.A_FLAGS r / 4 % 2, b2n fec, if fec then Nat.min 250 lossPm / 10 else 0]

/-- What an encoder gives for a frame: its payload ([]: omitted), its state after it, and ms of silence since the last frame sent. -/
structure Encoded where
  pay : List Byte
  after : Codec
  dtxAge : Nat

/-- An Opus frame (R197, R198): of constant bitrate A_BITRATE × PTIME ÷ 8,000 bytes; with DTX a frame classed as silence is omitted until 400 ms have passed since the last
frame sent (log entry 179). -/
def opusEncode (r lossPm dtxAge : Nat) (c : Codec) (x : List Nat) : Encoded :=
  let st := opusSettings r lossPm
  let p := LEG.PTIME r
  let len := if LEG.A_FLAGS r / 4 % 2 = 1 then LEG.A_BITRATE r * p / 8000 else (Config.encoderLen st c.ctx x).toNat + 1
  let m := opusMode (LEG.A_BITRATE r)
  let pay := BitVec.ofNat 8 (opusToc m.1 m.2 p) :: (List.range (len - 1)).map (Config.encoderByte st c.ctx x)
  let silent := Config.encoderSilent st c.ctx x
  let skip := decide (LEG.A_FLAGS r % 2 = 1) && silent && decide (dtxAge + p < 400)
  ⟨if skip then [] else pay, ⟨Config.encoderNext st c.ctx x⟩, if skip then dtxAge + p else 0⟩

/-- A frame of record r's codec encoded from samples by an encoder in a state (R195, R196): G.711 code words, L16 big-endian, 64 kb/s of G.722, Opus. -/
def encodeFrame (r lossPm dtxAge : Nat) (c : Codec) (x : List Nat) : Encoded :=
  match LEG.A_CODEC r with
  | 1 => ⟨x.map (Config.pcmCompress 1), c, 0⟩
  | 2 => ⟨x.map (Config.pcmCompress 2), c, 0⟩
  | 3 => ⟨(List.range (8 * LEG.PTIME r)).map (Config.encoderByte [] c.ctx x), ⟨Config.encoderNext [] c.ctx x⟩, 0⟩
  | 7 => opusEncode r lossPm dtxAge c x
  | _ => ⟨x.flatMap (beBytes 2), c, 0⟩

/-- A group's encoder at the start of the frame that ended before boundary t: the one before that frame's encode, or after the frame before it. -/
def GroupEnc.start (g : GroupEnc) (t p : Nat) : Option Codec := if g.tick = t then some g.before else if g.tick + p = t then some g.after else none

/-- The frame of a leg that uses its group's payload: the group's of this tick, or the first member's encode for all (R185). -/
def State.groupFrame (s : State) (t l : Nat) : State × List Byte :=
  let r := s.legRec l
  let a := s.legA l
  match s.audio.groups.find? (fun g => decide (g.key = a.key)) with
  | some g =>
    if g.tick = t then (s, g.pay)
    else
      let before := (g.start t (LEG.PTIME r)).getD {}
      let e := encodeFrame r a.loss (if g.tick + LEG.PTIME r = t then g.dtxAge else 0) before ((s.frameSamples l t).map pcm16)
      ({ s with audio := { s.audio with groups := s.audio.groups.filter (fun g => decide (g.key ≠ a.key)) ++ [⟨a.key, t, before, e.after, e.pay, e.dtxAge⟩] } }, e.pay)
  | none =>
    let e := encodeFrame r a.loss 0 {} ((s.frameSamples l t).map pcm16)
    ({ s with audio := { s.audio with groups := s.audio.groups ++ [⟨a.key, t, {}, e.after, e.pay, e.dtxAge⟩] } }, e.pay)

/-- The RTP timestamp of the frame that ended before boundary t. -/
def State.frameTs (s : State) (l t : Nat) : Nat :=
  let r := s.legRec l
  ((s.legA l).tsBase + (t - 1 - LEG.PTIME r) * (rtpClock (LEG.A_CODEC r) / 1000)) % 2 ^ 32

/-- The encode of leg l at boundary t: the group's payload, or its own; one that used the group's before starts from the group encoder's state (R185). The result waits for the
encode's task, and depends on the samples, the settings and the encoder's state alone (R24, R25). -/
def State.encodeAt (s : State) (t l : Nat) : State :=
  let r := s.legRec l
  if s.usesGroup l t then
    let (s, pay) := s.groupFrame t l
    let a := s.legA l
    let s := s.setLegA l { a with encoded := some ⟨t, pay, s.frameTs l t, a.enc⟩, usedGroup := a.key, loss := a.lossNext }
    { s with audio := { s.audio with groupMembers := s.audio.groupMembers + 1 } }
  else
    let a := s.legA l
    let copy := if a.usedGroup = [] then none else (s.audio.groups.find? (fun g => decide (g.key = a.usedGroup))).bind (fun g => g.start t (LEG.PTIME r))
    let before := copy.getD a.enc
    let e := encodeFrame r a.loss (if copy.isSome then 0 else a.dtxAge) before ((s.frameSamples l t).map pcm16)
    s.setLegA l { a with encoded := some ⟨t, e.pay, s.frameTs l t, before⟩, usedGroup := [], enc := e.after, dtxAge := e.dtxAge, loss := a.lossNext }

/-- At the start of a leg's frame its expected loss is that of the last evaluation (R122, R197). -/
def State.noteLoss (s : State) (l t : Nat) : State :=
  let p := LEG.PTIME (s.legRec l)
  if p = 0 ∨ t % p ≠ 0 then s else s.setLegA l { s.legA l with lossNext := (s.leg l).cc.lossPm }

/-- A late decode or encode (R204, R217): CODEC_MISS on every leg of the batch, an error of class CONTAINED each. -/
def State.codecLate (s : State) (t : Nat) (encode : Bool) (legs : List Nat) : State :=
  forEach legs (fun l (s : State) =>
    (s.contained).post (LEG.EVQ (s.legRec l)) 0x09 0x81 l (b2n encode * 2 ^ 31 + t % 2 ^ 31)) s

/-- The encode of tick t of leg l is complete: its packet goes to the release stage (R21, R148); an omitted frame is never released (R197). After the leg's ready instant it
is a miss and gives no packet (R204); `late` says that the miss is posted already. -/
def State.encodeDeliver (s : State) (t l : Nat) (late : Bool) : State :=
  match (s.legA l).encoded with
  | none => s
  | some f =>
    if f.tick ≠ t then s
    else
      let s := s.setLegA l { s.legA l with encoded := none }
      if late then s
      else if readyInstant l t < s.lnow then s.codecLate t true [l]
      else if f.pay = [] then s
      else s.enqueuePkt l .audio 0 (12 + f.pay.length + legOverhead (s.legRec l)) t f.ts (Config.audioMarker l f.ts) [] f.pay

/-- The encode of tick t of leg l failed: no packet, and the encoder as it was (R303, R305). -/
def State.encodeLost (s : State) (t l : Nat) : State :=
  match (s.legA l).encoded with
  | none => s
  | some f => if f.tick = t then s.setLegA l { s.legA l with encoded := none, enc := if (s.legA l).usedGroup = [] then f.before else (s.legA l).enc } else s

end Sys2Proof.Machine
end

