-- ==== Sys2Proof/Machine/AudioCtl.lean ====
section
/-! DEFINITION. The audio graph's control (spec/09_audio_graph.md R178 to R180, R186 to R188, R191 to R194): program commands,
activation, selected paths, meters and seats, and the audio tasks of a tick. -/

namespace Sys2Proof.Machine

/-- The queue of PROG_ACTIVE, AUDIO_MISS and RP_END (R194). -/
def State.audioEvq (s : State) : Nat := bits s.audio.cfg 0 6

/-! ### Program images (R178, R179, R186, R205, R206, R211) -/

/-- A conference-table entry of 8 bytes. -/
def confEntryOf (v : Nat) : ConfEntry :=
  { dom := v % 4, groupEn := decide (v / 4 % 2 = 1), rmsWin := v / 2 ^ 16 % 65536, peakHold := v / 2 ^ 32 % 65536, decayMul := v / 2 ^ 48 % 65536 }

/-- The entry sets a reserved bit or encoding. -/
def confEntryReserved (v : Nat) : Bool := decide (v % 4 = 3) || decide (v / 8 % 32 ≠ 0) || decide (v / 256 % 256 ≠ 0)

/-- The entry is out of range. -/
def confEntryRange (v : Nat) : Bool :=
  let e := confEntryOf v
  decide (e.rmsWin < 10) || decide (1000 < e.rmsWin) || decide (10000 < e.peakHold)

/-- A profile record of 192 bytes (R206). -/
def profileOf (v : Nat) : Profile :=
  let q (k i : Nat) : Int := signed 32 (recField v (32 + 20 * k + 4 * i) 0 32)
  { inGain := signed 32 (recField v 0 0 32), gateEn := decide (recField v 4 0 1 = 1), limEn := decide (recField v 4 1 1 = 1),
    eq := (List.range (recField v 5 0 4)).map (fun k => (q k 0, q k 1, q k 2, q k 3, q k 4)), gateHold := recField v 6 0 16,
    gateOpen := recField v 8 0 32, gateClose := recField v 12 0 32, gateFloor := recField v 16 0 32, limThresh := recField v 20 0 32,
    limRel := recField v 24 0 16 }

/-- A profile record sets a reserved bit. -/
def profileReserved (v : Nat) : Bool := decide (recField v 4 2 6 ≠ 0) || decide (recField v 5 4 4 ≠ 0) || decide (recField v 26 0 48 ≠ 0)

/-- A profile outside the ranges of R206. -/
def profileRange (p : Profile) : Bool :=
  decide (8 < p.eq.length) || decide (10000 < p.gateHold) || decide (0x7FFFFFFF < p.gateOpen) || decide (p.gateOpen < p.gateClose) ||
    decide (2 ^ 30 < p.gateFloor) || decide (p.limThresh = 0) || decide (0x7FFFFFFF < p.limThresh) || decide (65535 < p.limRel)

/-- A tone record of 32 bytes (R211). -/
def toneOf (v : Nat) : Tone :=
  { f1 := recField v 0 0 16, f2 := recField v 2 0 16, l1 := recField v 4 0 32, l2 := recField v 8 0 32,
    seg := (List.range 4).map (fun k => recField v (12 + 2 * k) 0 16), repeats := recField v 20 0 16, restart := recField v 22 0 8 }

/-- A tone record sets a reserved bit. -/
def toneReserved (v : Nat) : Bool := decide (recField v 23 0 72 ≠ 0)

/-- A tone record outside the ranges of R211. -/
def toneRange (o : Tone) : Bool :=
  decide (23900 < o.f1) || decide (23900 < o.f2) || decide (0x7FFFFFFF < o.l1 + o.l2) || o.seg.any (fun d => decide (10000 < d))

/-- A terminal a SOURCE or a SINK node may name (R174). -/
def terminalOk (source : Bool) (t : Terminal) : Bool :=
  match t.kind with
  | 1 => decide (t.index < 16384)
  | 2 => decide (t.index < 128)
  | 3 => source && decide (t.index < 64)
  | 4 => source && decide (t.index < 16)
  | 5 => decide (t.index < 2048)
  | 6 => !source && decide (t.index < 2048)
  | _ => false

/-- A node outside the limits of R172, R174 and R176: its parameters and the number of its inputs. -/
def nodeRange (g : GNode) : Bool :=
  let n := g.ins.length
  let gain (v : Int) : Bool := decide (v < -2147483648) || decide (2147483647 < v)
  match g.kind with
  | .source t => decide (n ≠ 0) || !terminalOk true t
  | .sink t => decide (n ≠ 1) || !terminalOk false t
  | .gain v => decide (n ≠ 1) || gain v
  | .mix gs => decide (n = 0) || decide (64 < n) || decide (gs.length ≠ n) || gs.any gain
  | .mixMinus => decide (n < 2) || decide (64 < n)
  | .eq p | .gate p | .limiter p => decide (n ≠ 1) || profileRange p
  | .delay l => decide (n ≠ 1) || decide (1000 * domN g.dom < l)
  | .bridge => decide (n ≠ 1)
  | .meter _ _ _ => decide (n ≠ 1)
  | .custom c k b o params => decide (n = 0) || decide (8 < n) || decide (o = 0) || decide (8 < o) || decide (8 ≤ c) || decide (8 ≤ k) || decide (b = 0) || decide (250000 < b) ||
      decide (params.length ≠ 64)

/-- The output ports of a node. -/
def outPorts (g : GNode) : Nat :=
  match g.kind with
  | .sink _ => 0
  | .mixMinus => g.ins.length
  | .custom _ _ _ o _ => o
  | .source _ | .gain _ | .mix _ | .eq _ | .gate _ | .limiter _ | .delay _ | .bridge | .meter _ _ _ => 1

/-- A number of n bytes of an image. -/
def imageNat (img : List Byte) (off n : Nat) : Nat := bytesNat ((img.drop off).take n)

/-- The program an image holds: its header numbers, tables, and what its segment area decodes to. -/
def progOfImage (img : List Byte) : Prog :=
  let f := imageNat img
  let b := Config.segmentArea (img.drop (f 32 4))
  let conf := f 24 4
  let path := f 28 4
  let confs := (List.range 2048).foldl (fun (m : Sparse ConfEntry) c => m.set (fun _ => {}) c (confEntryOf (f (conf + 8 * c) 8))) []
  let paths := (List.range (f 36 4)).map (fun i => (f (path + 16 * i) 4, f (path + 16 * i + 4) 4, f (path + 16 * i + 8) 4))
  { id := f 4 4, nodes := b.nodes, segs := b.segs, profiles := b.profiles.map (fun p => (p.1, profileOf p.2)), tones := b.tones.map (fun p => (p.1, toneOf p.2)),
    hasTable := decide (conf ≠ 0), confs := if conf = 0 then [] else confs, paths := if path = 0 then [] else paths }

/-- An image outside its limits (R178, R179, R206, R211): its header's counts, a table beyond its end, a conference entry, profile, tone record or node. A LEN of the header that
differs from AUDIO_PROG_LEN is one too. DESIGN CHOICE (log entry 180). -/
def imageRange (img : List Byte) (len : Nat) (b : ProgBody) : Bool :=
  let f := imageNat img
  let conf := f 24 4
  let path := f 28 4
  decide (8388608 < len) || decide (f 8 4 ≠ len) || decide (f 12 4 = 0) || decide (65536 < f 12 4) || decide (262144 < f 16 4) || decide (f 20 4 = 0) ||
    decide (1024 < f 20 4) || decide (65536 < f 36 4) || decide (f 4 4 = 0) || decide (len < f 32 4) || decide (conf ≠ 0 ∧ len < conf + 16384) ||
    decide (path ≠ 0 ∧ len < path + 16 * f 36 4) ||
    (decide (conf ≠ 0) && (List.range 2048).any (fun c => confEntryRange (f (conf + 8 * c) 8))) ||
    b.profiles.any (fun x => decide (32 ≤ x.1) || profileRange (profileOf x.2)) || b.tones.any (fun x => decide (64 ≤ x.1) || toneRange (toneOf x.2)) || b.nodes.any nodeRange

/-- A path-table entry's terminal uses a reserved bit or encoding (R179). -/
def pathReserved (v : Nat) : Bool := decide (v / 2 ^ 28 = 0) || decide (8 ≤ v / 2 ^ 28) || decide (v / 65536 % 4096 ≠ 0)

/-- An image with a wrong MAGIC or a reserved field or encoding. -/
def imageReserved (img : List Byte) (b : ProgBody) : Bool :=
  let f := imageNat img
  let conf := f 24 4
  let path := f 28 4
  decide (f 0 4 ≠ 0x4741484C) || decide (f 40 8 ≠ 0) || (decide (conf ≠ 0) && (List.range 2048).any (fun c => confEntryReserved (f (conf + 8 * c) 8))) ||
    (decide (path ≠ 0) && (List.range (f 36 4)).any (fun i =>
      pathReserved (f (path + 16 * i) 4) || pathReserved (f (path + 16 * i + 4) 4) || decide (f (path + 16 * i + 12) 4 ≠ 0))) ||
    b.profiles.any (fun x => profileReserved x.2) || b.tones.any (fun x => toneReserved x.2)

/-- Nodes left after those with no source among the rest are taken out, again and again. -/
def loopNodes : Nat → List GNode → List GNode
  | 0, l => l
  | k + 1, l => loopNodes k (l.filter (fun g => g.ins.flatten.any (fun e => l.any (fun h => decide (h.num = e.1)))))

/-- A cycle without a DELAY of at least a block (R177). -/
def Prog.cyclic (p : Prog) : Bool := decide (loopNodes p.nodes.length (p.nodes.filter (fun g => !longDelay g)) ≠ [])

/-- An edge from nothing or between domains, or an input without exactly one edge (R177). A BRIDGE joins two neighbouring domains (R170), a TDM terminal is D48, and a CONF
terminal in its conference's domain (R174). -/
def Prog.badEdge (p : Prog) : Bool :=
  p.nodes.any (fun g =>
    g.ins.any (fun l => decide (l.length ≠ 1)) ||
    g.ins.flatten.any (fun e => match p.nodeNo e.1 with
      | some h => decide (outPorts h ≤ e.2) || (if nodeTag g.kind = 9 then decide (h.dom + 1 ≠ g.dom) && decide (g.dom + 1 ≠ h.dom) else decide (h.dom ≠ g.dom))
      | none => true) ||
    (match g.kind with
      | .source t | .sink t => (decide (t.kind = 2) && decide (g.dom ≠ 0)) || (decide (t.kind = 5) && decide (g.dom ≠ (p.conf t.index).dom))
      | .gain _ | .mix _ | .mixMinus | .eq _ | .gate _ | .limiter _ | .delay _ | .bridge | .meter _ _ _ | .custom _ _ _ _ _ => false))

/-- Two REC sinks name one conference. -/
def Prog.twoRec (p : Prog) : Bool :=
  let l := p.nodes.filterMap (fun g => (sinkOf g.kind).bind (fun t => if t.kind = 6 then some t.index else none))
  l.any (fun c => decide (1 < (l.filter (fun d => decide (d = c))).length))

/-- A CUSTOM node names a kernel not loaded in its cluster. -/
def State.missingKernel (s : State) (p : Prog) : Bool :=
  p.nodes.any (fun g => match g.kind with
    | .custom c slot _ _ _ => decide ((s.kernel c slot).id = 0)
    | .source _ | .sink _ | .gain _ | .mix _ | .mixMinus | .eq _ | .gate _ | .limiter _ | .delay _ | .bridge | .meter _ _ _ => false)

/-! ### Path latency (R180) -/

/-- Bridge latency between two domains in samples at 48 kHz (R170, R180). -/
def bridgeLatency (a b : Nat) : Nat :=
  if a = b then 0 else if a + b = 1 then 30 else if a + b = 3 then 48 else 78

/-- The latency of a node in samples at 48 kHz (R176). -/
def State.nodeLatency (s : State) (p : Prog) (g : GNode) : Nat :=
  match g.kind with
  | .delay l => l * (48 / domN g.dom)
  | .bridge => bridgeLatency ((g.ins.flatten.head?.bind (fun e => p.nodeNo e.1)).map (·.dom) |>.getD g.dom) g.dom
  | .custom c slot _ _ _ => (s.kernel c slot).latency
  | .source _ | .sink _ | .gain _ | .mix _ | .mixMinus | .eq _ | .gate _ | .limiter _ | .meter _ _ _ => 0

/-- The latencies leg-end bridges may have between a domain and a leg: they depend on its codec and conference. -/
def endLatencies (dom : Nat) : List Nat := (List.range 3).flatMap (fun c => (List.range 3).map (fun d => bridgeLatency dom c + bridgeLatency c d))

/-- Latencies with which a source terminal in the encoding of AUDIO_PATH_SRC is a node's own output. -/
def startsAt (g : GNode) (src : Nat) : List Nat :=
  if src = 7 * 2 ^ 28 + g.num then [0]
  else match g.kind with
    | .source t =>
      if t.kind * 2 ^ 28 + t.index = src then (if t.kind = 1 ∨ t.kind = 4 then (List.range 3).map (fun d => bridgeLatency d g.dom) else [0]) else []
    | .sink _ | .gain _ | .mix _ | .mixMinus | .eq _ | .gate _ | .limiter _ | .delay _ | .bridge | .meter _ _ _ | .custom _ _ _ _ _ => []

/-- The latencies of the paths from a source terminal to a node's output that pass no node twice. -/
def Prog.latenciesTo (p : Prog) (lat : GNode → Nat) (src : Nat) : Nat → List Nat → GNode → List Nat
  | 0, _, _ => []
  | k + 1, seen, g =>
    startsAt g src ++ ((g.ins.flatten.filterMap (fun e => p.nodeNo e.1)).filter (fun h => decide (h.num ≠ g.num) && !seen.contains h.num)).flatMap
      (fun h => (Prog.latenciesTo p lat src k (g.num :: seen) h).map (· + lat g))

/-- The path table disagrees with the graph: an entry gives its terminals a latency that no path between them has (DEDUCED, log entry 181). -/
def State.pathBad (s : State) (p : Prog) : Bool :=
  p.paths.any (fun q =>
    let ends := p.nodes.flatMap (fun g =>
      let l := p.latenciesTo (s.nodeLatency p) q.1 p.nodes.length [] g
      if q.2.1 = 7 * 2 ^ 28 + g.num then l
      else match sinkOf g.kind with
        | some t =>
          if t.kind * 2 ^ 28 + t.index ≠ q.2.1 then []
          else if t.kind = 1 then l.flatMap (fun x => (endLatencies g.dom).map (· + x)) else l
        | none => [])
    !ends.contains q.2.2)

/-- The segments do not fit: more than 1 MiB of a cluster's shadow bank, or budgets of more than 250,000 cycles on a core (R186, R216). -/
def unfit (b : ProgBody) : Bool :=
  let budget (core : Nat × Nat) : Nat := sumBy (fun g => match g.kind with
    | .custom c _ n _ _ => if (c, ((b.cores.find? (fun x => decide (x.1 = g.num))).map (·.2)).getD 0) = core then n else 0
    | .source _ | .sink _ | .gain _ | .mix _ | .mixMinus | .eq _ | .gate _ | .limiter _ | .delay _ | .bridge | .meter _ _ _ => 0) b.nodes
  (List.range 8).any (fun c =>
    decide (1048576 < sumBy (fun x => if x.cluster = c then x.bytes else 0) b.segs) || (List.range 16).any (fun k => decide (250000 < budget (c, k)))) ||
    b.segs.any (fun x => decide (8 ≤ x.cluster))

/-- Why LOAD is rejected, with its DETAIL (R186, in the order of its table). -/
def State.loadErr (s : State) (base len : Nat) : Option (Err × Nat) :=
  let img := s.dram.readList base len
  let b := Config.segmentArea (img.drop (imageNat img 32 4))
  let p := progOfImage img
  if base % 4096 ≠ 0 ∨ len % 4096 ≠ 0 ∨ imageNat img 8 4 % 4096 ≠ 0 then some (.align, 0)
  else if imageRange img len b then some (.range, 0)
  else if imageReserved img b then some (.reserved, 0)
  else if imageDigestOk img = false then some (.conflict, 1)
  else if p.cyclic then some (.conflict, 2)
  else if p.badEdge then some (.conflict, 3)
  else if p.twoRec then some (.conflict, 4)
  else if s.pathBad p then some (.conflict, 5)
  else if s.missingKernel p then some (.state, 6)
  else if unfit b then some (.noslot, 0)
  else none

/-! ### Program commands (R186, R187) -/

/-- A command waits for the tick after the last activation tick to end (R186). -/
def State.progBusy (s : State) : Bool := match s.audio.lastActivation with | some a => decide (s.ltick ≤ a + 1) | none => false

/-- The payload of AUDIO_PROG_RESULT. -/
def progPayload (op detail status : Nat) : Nat := op * 2 ^ 20 + detail % 4096 * 2 ^ 8 + status

/-- Post the result of a program command. -/
def State.progResult (s : State) (op detail status : Nat) : State := s.postResult Reg.AUDIO_PROG_RESULT (progPayload op detail status)

/-- A program command is rejected: in PG_LAST_ERR (R39) and in its result. -/
def State.progReject (s : State) (op detail : Nat) (e : Err) : State := (s.reject Reg.AUDIO_PROG_CMD e).progResult op detail e.code

/-- A write of AUDIO_PROG_CMD (R186, R187). -/
def State.progCmdWrite (s : State) (w : Word) : State :=
  s.checked Reg.AUDIO_PROG_CMD w
    (fun s => if !s.on Fld.AUDIO_PROG_RESULT_VALID then some .busy else if s.twinJunior then some .twin else none)
    (fun s =>
      let op := bits w 0 4
      let s := s.wr64 Reg.AUDIO_PROG_EFFECT_LO 0
      if s.progBusy then s.progReject op 0 .busy
      else if op = 2 then
        if s.audio.activateAt.isSome || s.audio.shadow.isNone then s.progReject op 0 .state
        else
          let t := s.ltick + 1
          let s := s.record (.write Reg.AUDIO_PROG_CMD w.toNat t)
          let s := { s with audio := { s.audio with activateAt := some t } }
          (s.wr64 Reg.AUDIO_PROG_EFFECT_LO t).progResult op 0 0
      else if s.audio.activateAt.isSome then s.progReject op 0 .state
      else if op = 3 then
        let s := s.record (.write Reg.AUDIO_PROG_CMD w.toNat s.ltick)
        let s := { s with audio := { s.audio with shadow := none } }
        (s.put Fld.AUDIO_PROG_SHADOW_ID_ID 0).progResult op 0 0
      else
        let base := s.rd64 Reg.AUDIO_PROG_BASE_LO
        let len := s.get Fld.AUDIO_PROG_LEN_LEN
        let e := s.loadErr base len
        let p := progOfImage (s.dram.readList base len)
        let s := if e.isNone then s.record (.image false 0 base len p.id (s.dram.readList base len)) else s
        let s := s.unvalid Reg.AUDIO_PROG_RESULT
        { s with audio := { s.audio with loading := some ⟨op, e, p⟩ } })

/-- PROG_LOAD. -/
def execProgLoad (s : State) : Out := .next (s.progCmdWrite 1)

/-- PROG_LOAD_DONE: the LOAD ends and its result is posted; a validated program is in the shadow bank. -/
def execProgLoadDone (s : State) : Out :=
  match s.audio.loading with
  | none => .next s
  | some q =>
    let s := { s with audio := { s.audio with loading := none } }
    match q.err with
    | some (e, detail) => .next (s.progReject q.op detail e)
    | none =>
      let s := { s with audio := { s.audio with shadow := some q.prog } }
      .next ((s.put Fld.AUDIO_PROG_SHADOW_ID_ID q.prog.id).progResult q.op 0 0)

/-- PROG_ACTIVATE. -/
def execProgActivate (s : State) : Out := .next (s.progCmdWrite 2)
/-- PROG_DISCARD. -/
def execProgDiscard (s : State) : Out := .next (s.progCmdWrite 3)

/-- The tick each tone generator of a program started at: a record that the program before declared the same goes on (R213). -/
def toneStarts (old : Prog) (p : Prog) (t : Nat) : Sparse Nat :=
  p.tones.foldl (fun (m : Sparse Nat) x =>
    m.set (fun _ => 0) x.1 (if old.tones.find? (fun y => decide (y.1 = x.1)) = some x then old.toneStart.get (fun _ => 0) x.1 else t)) []

/-- Step 3 of R20 at tick t: the program waiting becomes active, and the one before runs on for this tick; nodes new to the graph
start in their creation state, and generators whose records are new or changed start (R186, R189, R213). -/
def State.activateProgram (s : State) (t : Nat) : State :=
  let s := { s with audio := { s.audio with previous := none } }
  match s.audio.activateAt, s.audio.shadow with
  | some a, some p =>
    if t < a then s
    else
      let old := s.audio.active
      let p := { p with toneStart := toneStarts old p t }
      let fresh (g : GNode) : Bool := match old.nodeNo g.num with | some h => decide (nodeTag h.kind ≠ nodeTag g.kind) | none => true
      let nodes := (p.nodes.filter fresh).foldl (fun (m : Sparse NodeState) g => m.set (fun _ => {}) g.num {}) s.audio.nodes
      let s := { s with audio := { s.audio with previous := some old, active := p, shadow := none, activateAt := none,
                                                lastActivation := some t, nodes := nodes } }
      let s := (s.put Fld.AUDIO_PROG_ACTIVE_ID_ID p.id).put Fld.AUDIO_PROG_SHADOW_ID_ID 0
      s.post s.audioEvq 0x08 0x70 p.id (t % 2 ^ 32)
  | _, _ => s

/-! ### Settings (R187) -/

/-- A write of AUDIO_CFG, AUDIO_SEL or AUDIO_ACT_THRESH: an input, in effect from the next boundary. -/
def State.audioSetWrite (s : State) (addr : Nat) (w : Word) : State :=
  s.checked addr w
    (fun s => if s.twinJunior then some .twin else none)
    (fun s => (s.record (.write addr w.toNat (s.ltick + 1))).applyWrite addr w)

/-- The settings in effect from this boundary on. -/
def State.audioSettings (s : State) : State :=
  { s with audio := { s.audio with cfg := s.rd Reg.AUDIO_CFG, sel := s.rd Reg.AUDIO_SEL, thresh := (s.rd Reg.AUDIO_ACT_THRESH).toNat } }

/-! ### Selected path, meter and seats (R35, R180) -/

/-- The latencies of the paths between two terminals in the active graph. -/
def State.pathLatencies (s : State) (src snk : Nat) : List Nat :=
  let prog := s.audio.active.paths.filterMap (fun p => if p.1 = src ∧ p.2.1 = snk then some p.2.2 else none)
  let a := s.legRec (src % 65536)
  let b := s.legRec (snk % 65536)
  let conf := LEG.CONF a
  if src / 2 ^ 28 = 1 ∧ snk / 2 ^ 28 = 1 ∧ src ≠ snk ∧ a ≠ 0 ∧ b ≠ 0 ∧ conf ≠ 0xFFFF ∧ LEG.CONF b = conf then
    let d := (s.confEntry conf).dom
    (bridgeLatency (legDom a) d + bridgeLatency d (legDom b)) :: prog
  else prog

/-- A write of AUDIO_PATH_SNK starts a fetch. -/
def State.pathSnkWrite (s : State) (w : Word) : State :=
  s.checked Reg.AUDIO_PATH_SNK w (fun _ => none) (fun s => ((s.applyWrite Reg.AUDIO_PATH_SNK w).fetchStart Reg.AUDIO_PATH_SNK).unvalid Reg.AUDIO_PATH_LAT)

/-- AUDIO_PATH_SNK. -/
def execAudioPathSnk (kind index : Nat) (s : State) : Out := .next (s.pathSnkWrite (BitVec.ofNat 32 (kind * 2 ^ 28 + index)))

/-- The fetch completes: the greatest latency, MULTI, NOPATH. -/
def State.pathFetch (s : State) : State :=
  let l := s.pathLatencies (s.rd Reg.AUDIO_PATH_SRC).toNat (s.rd Reg.AUDIO_PATH_SNK).toNat
  match l with
  | [] => s.postResult Reg.AUDIO_PATH_LAT (2 ^ 23)
  | x :: t =>
    let m := t.foldl Nat.max x
    s.postResult Reg.AUDIO_PATH_LAT (b2n (t.any (fun y => decide (y ≠ x))) * 2 ^ 22 + m % 2 ^ 17)

/-- A write of AUDIO_METER_SEL starts a fetch; only legs and program nodes have meters. -/
def State.meterSelWrite (s : State) (w : Word) : State :=
  s.checked Reg.AUDIO_METER_SEL w
    (fun _ => if bits w 28 4 = 1 ∨ bits w 28 4 = 7 then none else some .range)
    (fun s => (((s.applyWrite Reg.AUDIO_METER_SEL w).fetchStart Reg.AUDIO_METER_SEL).unvalid Reg.AUDIO_METER_RMS).unvalid Reg.AUDIO_METER_PEAK)

/-- AUDIO_METER_SEL. -/
def execAudioMeterSel (kind index : Nat) (s : State) : Out := .next (s.meterSelWrite (BitVec.ofNat 32 (kind * 2 ^ 28 + index)))

/-- The fetch completes: bits 30:7 of the RMS level and of the held peak, with one GEN. -/
def State.meterFetch (s : State) : State :=
  let i := s.get Fld.AUDIO_METER_SEL_INDEX
  let m := if s.get Fld.AUDIO_METER_SEL_KIND = 1 then s.meterOf i else (s.node i).meter
  let gen := s.nextGen Reg.AUDIO_METER_RMS
  (s.postResultGen Reg.AUDIO_METER_RMS gen (m.rms / 128)).postResultGen Reg.AUDIO_METER_PEAK gen (m.peak / 128)

/-- A write of AUDIO_SEAT_SEL starts a fetch of all 16 seats. -/
def State.seatSelWrite (s : State) (w : Word) : State :=
  s.checked Reg.AUDIO_SEAT_SEL w (fun _ => none)
    (fun s => forUpTo 16 (fun k s => s.unvalid (Reg.AUDIO_SEATk k)) ((s.applyWrite Reg.AUDIO_SEAT_SEL w).fetchStart Reg.AUDIO_SEAT_SEL))

/-- AUDIO_SEAT_SEL. -/
def execAudioSeatSel (c : Nat) (s : State) : Out := .next (s.seatSelWrite (BitVec.ofNat 32 c))

/-- The fetch completes: QUIET, HELD and the holder of each seat, with one GEN. -/
def State.seatFetch (s : State) : State :=
  let a := s.confA (s.get Fld.AUDIO_SEAT_SEL_CONF)
  let gen := s.nextGen (Reg.AUDIO_SEATk 0)
  forUpTo 16 (fun k (s : State) =>
    let v := match (a.seats[k]?).getD none with
      | some l => b2n (!s.memberActive l) * 2 ^ 23 + 2 ^ 22 + l % 16384
      | none => 0
    s.postResultGen (Reg.AUDIO_SEATk k) gen v) s

/-! ### The audio tasks of a tick (R20 step 5, R21, R297) -/

/-- The boundary that starts tick t, in ns of logical time. -/
def boundaryNs (t : Nat) : Nat := t * 1000000

/-- A Mill task of the TICK port on cluster c. -/
def audioTask (typ : TaskType) (c n t stage hard : Nat) (w : Work) : Task :=
  { typ := typ, level := taskLevel typ false, port := 0, flow := millFlow (c % 8) n, key := n, start := boundaryNs t, hard := hard,
    leases := [(millFlow (c % 8) n, true)], work := w, tick := t, stage := stage }

/-- Legs with something to do in one batch, as (cluster, batch). -/
def batchesOf (l : List Nat) : List (Nat × Nat) :=
  l.foldl (fun b x =>
    let k := (Config.legCluster x % 8, Config.legBatch x)
    if b.contains k then b else b ++ [k]) []

/-- The legs of a batch. -/
def inBatch (l : List Nat) (k : Nat × Nat) : List Nat := l.filter (fun x => decide ((Config.legCluster x % 8, Config.legBatch x) = k))

/-- The cluster of a key at tick t; a key that moves at t waits for its context to be copied (R458). -/
def State.placeKey (s : State) (kind key flowKey c t : Nat) : Nat × State :=
  let now := s.millCluster kind key c t
  let was := s.millCluster kind key c (t - 1)
  if now = was then (now, s)
  else (now, { s with svc := { s.svc with copying := s.svc.copying ++ [(millFlow now flowKey, millFlow was flowKey, t)] } })

/-- The cluster of a CUSTOM node. -/
def customCluster : NodeKind → Option Nat
  | .custom c _ _ _ _ => some c
  | .source _ | .sink _ | .gain _ | .mix _ | .mixMinus | .eq _ | .gate _ | .limiter _ | .delay _ | .bridge | .meter _ _ _ => none

/-- A segment whose only node is CUSTOM: that node's number and cluster. -/
def Prog.customOf (p : Prog) (x : Segment) : Option (Nat × Nat) :=
  match x.nodes with
  | [n] => ((p.nodeNo n).bind (fun g => customCluster g.kind)).map (fun c => (n, c))
  | _ => none

/-- Segment i of a program of this tick is handed to Reeve at stage `stage`; one of the previous program counts from 1,024 on, and only if it holds a gone node. -/
def State.submitSegment (s : State) (p : Prog) (t i stage : Nat) (x : Segment) (gone : Bool) : State :=
  let seg := if gone then i + 1024 else i
  let hard := boundaryNs (t + 1)
  if gone ∧ s.audio.segNodes seg = [] then s
  else
    match p.customOf x with
    | some (node, c) =>
      let (cl, s) := State.placeKey s 2 node node c t
      s.submitTask (audioTask .customKernel cl node t stage hard (.kernel t node))
    | none =>
      let (cl, s) := State.placeKey s 1 (2048 + i) i x.cluster t
      s.submitTask (audioTask .audioTick cl i t stage hard (.program t seg))

/-- Stages of a program. -/
def Prog.stages (p : Prog) : Nat := p.segs.foldl (fun m x => Nat.max m (x.stage + 1)) 0

/-- The AUDIO_TICK and CUSTOM_KERNEL tasks of tick t: conference buses, the program's segments in their stages, those of the previous program, and conference outputs. -/
def State.graphTasks (s : State) (t : Nat) : State :=
  let own := (tableRecs s.gate.effective 2).map (·.1)
  let confs := own ++ s.fabricConfs.filter (fun c => !own.contains c)
  let hard := boundaryNs (t + 1)
  let s := forEach confs (fun c s =>
    let (cl, s) := State.placeKey s 1 c c (Config.segCluster 0 c) t
    s.submitTask (audioTask .audioTick cl c t 0 hard (.confBus t c))) s
  let p := s.audio.active
  let q := s.audio.previous.getD {}
  let s := forEach (p.segs.zip (List.range p.segs.length)) (fun x (s : State) => s.submitSegment p t x.2 (1 + x.1.stage) x.1 false) s
  let s := forEach (q.segs.zip (List.range q.segs.length)) (fun x (s : State) => s.submitSegment q t x.2 (1 + p.stages + x.1.stage) x.1 true) s
  forEach confs (fun c (s : State) =>
    s.submitTask (audioTask .audioTick (s.millCluster 1 c (Config.segCluster 0 c) t) c t (1 + p.stages + q.stages) hard (.confOut t c))) s

/-- The AUDIO_CODEC tasks of tick t: batches of decodes and encodes, and recall players. An encode batch's limit is the last ready instant of its legs; each leg's own is its
ready instant (R148, R204). -/
def State.codecTasks (s : State) (t : Nat) (dec enc : List Nat) : State :=
  let ready (b : List Nat) := b.foldl (fun m l => Nat.max m (readyInstant l t)) 0
  let s := forEach (batchesOf dec) (fun k s =>
    let (c, s) := State.placeKey s 0 k.2 k.2 k.1 t
    s.submitTask (audioTask .audioCodec c k.2 t 0 (boundaryNs (t + 1)) (.decode t (inBatch dec k)))) s
  let s := forEach (batchesOf enc) (fun k s =>
    let (c, s) := State.placeKey s 0 k.2 k.2 k.1 t
    s.submitTask (audioTask .audioCodec c k.2 t 0 (ready (inBatch enc k)) (.encode t (inBatch enc k)))) s
  forUpTo 16 (fun n (s : State) =>
    if (s.player n).decoding.any (fun p => decide (p.1 = t)) then
      let (c, s) := s.placeKey 3 n 255 (Config.legCluster (16384 + n)) t
      let q := audioTask .audioCodec c 255 t 0 (boundaryNs (t + 1)) (.player t n)
      s.submitTask { q with level := 5, port := 4 }
    else s) s

/-- AUDIO_GROUPS reports the tick that has ended; encoders of groups no frame can follow are dropped (R185). -/
def State.groupsTick (s : State) (t : Nat) : State :=
  let s := s.put Fld.AUDIO_GROUPS_MEMBERS (Nat.min 65535 s.audio.groupMembers)
  let s := s.put Fld.AUDIO_GROUPS_ENCODES ((s.audio.groups.filter (fun g => decide (g.tick + 1 = t))).length % 65536)
  { s with audio := { s.audio with groupMembers := 0, groups := s.audio.groups.filter (fun g => decide (t ≤ g.tick + 40)) } }

/-- Every running cluster gets its audio tick frame of tick t: a record of 64 bytes in BANKQ0 to BANKQ7 (R166). DESIGN CHOICE: its length (log entry 183). -/
def State.tickFrames (s : State) (t : Nat) : State :=
  forUpTo 8 (fun c (s : State) => if s.clusterRuns c then s.bankWrite c t 64 else s) s

/-- Audio at boundary t: settings, inputs captured, encodes and decodes decided, players, and the tasks submitted (R20 step 5). -/
def State.audioBoundary (s : State) (t : Nat) : State :=
  let s := (s.groupsTick t).tickFrames t
  let legs := (tableRecs s.gate.effective 1).map (·.1)
  let s := forEach s.legAudio.keys (fun l (s : State) => if (s.legA l).gone ∨ legs.contains l = true then s.captureBlock l t else s) s
  let rtp := legs.filter (fun l => decide (LEG.TRANSPORT (s.legRec l) = 0) && decide (LEG.A_CODEC (s.legRec l) ≠ 0))
  let enc := rtp.filter (fun l => s.encodeDue l t)
  let s := forEach enc (fun l s => s.encodeAt t l) s
  let s := forEach rtp (fun l (s : State) => ((s.noteLoss l t).noteKey l t).jbTick l t) s
  let dec := rtp.filter (fun l => s.decodes l t)
  let s := forUpTo 16 (fun n s => s.playerTick n t) s
  let s := s.graphBegin.codecTasks t dec enc
  if s.quiescing 0x60000 then s else s.graphTasks t

/-! ### The end of a graph tick -/

/-- The transmit block of a TDM port that the graph mixed in tick t: what its legs put out, and what program sinks add (R115, R174). -/
def State.tdmTx (s : State) (n t : Nat) : State :=
  let legs := (tableRecs s.gate.effective 1).filter (fun p =>
    decide (LEG.TRANSPORT p.2 = 1) && decide (LEG.TDM_PORT p.2 = n) && decide (LEG.TDM_TX p.2 = 1))
  let slots := s.get (Fld.TDMn_CFG_SLOTS n) + 1
  let tx := (List.range slots).foldl (fun (m : Sparse (List Int)) i =>
    let own := match legs.find? (fun p => decide (LEG.TDM_SLOT p.2 = i)) with
      | some p => (s.legA p.1).outs.get (fun _ => []) t
      | none => []
    m.set (fun _ => []) i (satBlock (addBlocks own (s.sunk 2 (n * 32 + i) 0)))) []
  s.setTdm n { s.tdmPort n with tx := tx }

/-- A leg after a graph tick: what it left in it has ramped out, and a deleted leg is gone (R189). -/
def LegAudio.rest (a : LegAudio) : LegAudio := if a.gone then {} else { a with old := none, tail := none }

/-- Graph tick t ends: long DELAYs take their input, legs without a conference get what program sinks give them, and TDM ports their transmit blocks. -/
def State.graphEnd (s : State) (t : Nat) : State :=
  let s := forEach (s.audio.tickNodes.filter s.early) (fun g s => s.nodeRun t g) s
  let alone := (tableRecs s.gate.effective 1).filter (fun p => decide (LEG.CONF p.2 = 0xFFFF))
  let s := forEach alone (fun p (s : State) =>
    let d := legDom (s.legA p.1).lastRec
    s.legOut t p.1 d (s.sunk 1 p.1 (domN d)) (s.audio.active.profile (legFx (s.legA p.1).lastRec)) false) s
  let s := forUpTo 4 (fun n s => s.tdmTx n t) s
  { s with legAudio := Sparse.mapAll (fun _ => {}) (fun _ a => a.rest) s.legAudio }

/-! ### Late segments (R192) -/

/-- The segment of a CUSTOM node. -/
def Audio.segOf (a : Audio) (node : Nat) : Nat :=
  let p := a.progOf node
  ((p.segs.zip (List.range p.segs.length)).find? (fun x => x.1.nodes.contains node)).map (·.2) |>.getD 0

/-- A node's outputs and what it gives its terminal in this tick are silence. -/
def State.nodeSilent (s : State) (n : Nat) : State :=
  { s with audio := { s.audio with ports := s.audio.ports.filter (fun p => decide (p.1 / 64 ≠ n)), terms := s.audio.terms.filter (fun p => decide (p.1 ≠ n)) } }

/-- A late graph segment of tick t contributes silence (R192): its outputs of the tick are dropped, the miss is counted and
posted. -/
def State.segmentLate (s : State) (t : Nat) (w : Work) : State :=
  let drop (l : Nat) (s : State) : State := s.setLegA l { s.legA l with outs := (s.legA l).outs.set (fun _ => []) t [] }
  let (n, s) : Nat × State := match w with
    | .confBus _ c =>
      let a := s.confA c
      (0xFFFFFFFF, s.setConfA c { a with bus := a.bus.map (fun _ => 0), sum := a.sum.map (fun _ => 0), terms := [] })
    | .confOut _ c => (0xFFFFFFFF, forEach (s.confA c).members drop s)
    | .program _ seg => (seg % 1024, forEach (s.audio.segNodes seg) (fun g s => s.nodeSilent g.num) s)
    | .kernel _ node => (s.audio.segOf node, s.nodeSilent node)
    | .none | .decode _ _ | .encode _ _ | .player _ _ | .picture _ _ | .scale _ _ | .compose _ _ | .encodePic _ _ => (0, s)
  let s := (s.bump Fld.AUDIO_MISS_COUNT).contained
  s.post s.audioEvq 0x08 0x71 n (t % 2 ^ 32)

/-- The tick and place a segment's work is known by. -/
def workPlace : Work → Nat × Nat
  | .confBus t c => (t, 0x10000 + c)
  | .program t seg => (t, seg)
  | .confOut t c => (t, 0x20000 + c)
  | .none | .kernel _ _ | .decode _ _ | .encode _ _ | .player _ _ | .picture _ _ | .scale _ _ | .compose _ _ | .encodePic _ _ => (0, 0)

/-- The node states and chains a segment is about to change, kept until it completes (R303, R305). -/
def State.keepUndo (s : State) (w : Work) : State :=
  let k := workPlace w
  let legs := match w with
    | .confBus _ c => s.confMembers c
    | .confOut _ c => (s.confA c).members
    | .none | .program _ _ | .kernel _ _ | .decode _ _ | .encode _ _ | .player _ _ | .picture _ _ | .scale _ _ | .compose _ _ | .encodePic _ _ => []
  let nodes := match w with
    | .program _ seg => s.audio.segNodes seg
    | .none | .confBus _ _ | .confOut _ _ | .kernel _ _ | .decode _ _ | .encode _ _ | .player _ _ | .picture _ _ | .scale _ _ | .compose _ _ | .encodePic _ _ => []
  let u : Undo := ⟨k.1, k.2, nodes.map (fun g => (g.num, s.node g.num)), legs.map (fun l => (l, (s.legA l).chain, (s.legA l).outLim))⟩
  { s with audio := { s.audio with undo := s.audio.undo ++ [u] } }

/-- A late segment completed: its states stand. -/
def State.dropUndo (s : State) (w : Work) : State :=
  { s with audio := { s.audio with undo := s.audio.undo.filter (fun u => decide ((u.tick, u.place) ≠ workPlace w)) } }

/-- A late segment failed: node states continue from the committed copies (R305). -/
def State.restoreUndo (s : State) (w : Work) : State :=
  match s.audio.undo.find? (fun u => decide ((u.tick, u.place) = workPlace w)) with
  | none => s
  | some u =>
    let s := forEach u.nodes (fun p (s : State) => s.setNode p.1 p.2) s
    (forEach u.chains (fun p (s : State) => s.setLegA p.1 { s.legA p.1 with chain := p.2.1, outLim := p.2.2 }) s).dropUndo w

end Sys2Proof.Machine
end

