-- ==== Sys2Proof/Machine/Cascade.lean ====
section
/-! DEFINITION. Fabric conferences over the cascade (spec/16_binath_cascade.md, R329 to R334): selection across the fabric, down entries and local mixes,
and the cascade frames of a tick. -/

namespace Sys2Proof.Machine

/-- FLEG of a leg of this device (R334). -/
def State.flegOf (s : State) (l : Nat) : Nat := s.get Fld.BINATH0_FABRIC_POS * 16384 + l % 16384

/-- The links to children: DOWN links in UP and standby links serving as downlinks (R330). -/
def State.childLinks (s : State) : List Nat :=
  (List.range 4).filter (fun n => decide (s.linkState n = 3) && (decide (s.linkRole n = 2) || s.fab.serving.contains n))

/-- The active uplink while it is in UP. -/
def State.uplinkUp (s : State) : Option Nat := s.fab.uplink.bind (fun n => if s.linkState n = 3 then some n else none)

/-- The entries for conference c in frames of one direction from some links. -/
def State.sectionOf (s : State) (c n : Nat) (down : Bool) : Option CSection :=
  (s.fab.frames.find? (fun p => decide (p.1 = n) && decide (p.2.down = down))).bind
    (fun p => p.2.sections.find? (fun x => decide (x.conf = c)))

/-- A candidate's mean square and activity as its entry carries them; one with no entry is quiet (R331). -/
def entryMs (l : List CEntry) (f : Nat) : Nat × Nat := ((l.find? (fun e => decide (e.fleg = f))).map (fun e => (e.ms, 1))).getD (0, 1)
def entryActive (l : List CEntry) (f : Nat) : Bool := (l.find? (fun e => decide (e.fleg = f) && e.active)).isSome

/-- The entry of a member of this device (R334). -/
def State.localEntry (s : State) (l : Nat) : CEntry :=
  let m := s.meterOf l
  let q := m.ms
  { fleg := s.flegOf l, active := s.memberActive l, ms := if q.2 = 0 then 0 else q.1 / q.2, peak := m.peak, block := (s.legA l).x }

/-- Up entries of R331: the holders of global seats, and the K others of highest MS, of equal MS the lower FLEG. -/
def upEntries (k : Nat) (holders : List Nat) (all : List CEntry) : List CEntry :=
  let held := all.filter (fun e => holders.contains e.fleg)
  let rest := all.filter (fun e => !holders.contains e.fleg)
  let best := (byMs (entryMs rest) (rest.map (·.fleg))).take k
  held.map (fun e => { e with gholder := true }) ++ best.filterMap (fun f => rest.find? (fun e => decide (e.fleg = f)))

/-- The root's decision for a conference (R331, R332): its seats, and the down entries with their weighted blocks. -/
def rootSelect (k hold : Nat) (g : GSeats) (all : List CEntry) : GSeats × List CEntry :=
  let present (f : Nat) : Bool := all.any (fun e => decide (e.fleg = f))
  let absent := (seatList g.seats).map (fun p => match p.2 with
    | some f => if present f then 0 else (g.absent[p.1]?).getD 0 + 1
    | none => 0)
  let kept := (seatList g.seats).map (fun p => p.2.bind (fun f => if 100 ≤ (absent[p.1]?).getD 0 then none else some f))
  let members := all.map (·.fleg) ++ (kept.filterMap id).filter (fun f => !present f)
  let (seats, counts, _) := decideSeats k hold members (entryActive all) (entryMs all) kept g.outranked
  let absent := (seatList seats).map (fun p => match p.2 with
    | some f => if present f then 0 else (absent[p.1]?).getD 0
    | none => 0)
  let old := g.seats.filterMap id
  let now := seats.filterMap id
  let entry (f seat edge : Nat) (before after : Bool) : Option CEntry :=
    (all.find? (fun e => decide (e.fleg = f))).map (fun e =>
      { fleg := f, edge := edge, seat := seat, block := weighted before after e.block })
  let stay := (seatList seats).filterMap (fun p => p.2.bind (fun f => if old.contains f then entry f p.1 0 true true else entry f p.1 1 false true))
  let gone := (seatList g.seats).filterMap (fun p => p.2.bind (fun f => if now.contains f then none else entry f p.1 2 true false))
  (⟨seats, counts, absent⟩, stay ++ gone)

/-- The down entries of conference c at this device in this tick, with the K they carry (R329, R331, R332). -/
def State.fabricSelect (s : State) (c : Nat) (all : List CEntry) : State × List CEntry :=
  if s.isRoot then
    let (g, d) := rootSelect (s.confK c) (bits s.audio.sel 0 16) (s.fab.gseats.get (fun _ => {}) c) all
    ({ s with fab := { s.fab with gseats := s.fab.gseats.set (fun _ => {}) c g } }, d)
  else
    match s.fab.uplink.bind (fun n => s.sectionOf c n true) with
    | some x => ({ s with fab := { s.fab with carriedK := s.fab.carriedK.set (fun _ => 4) c x.k } }, x.entries)
    | none => (s, [])

/-- A frame goes out on link n, by way of the partner when the link is not UP (R330, R362). Its record in the outbound bank counts as
read when the banks swap. -/
def State.sendFrame (s : State) (n : Nat) (f : CFrame) : State :=
  let s := s.bankWrite (12 + 2 * n) f.tick 64
  if s.linkState n = 3 then s.sendMsg n 1 1 0 (cframeLen f) (.cascade 0 n f)
  else if s.get Fld.TWIN_STATUS_STATE ≠ 0 then s.sendMsg 3 1 1 0 (cframeLen f) (.cascade 1 n f)
  else s

/-- The links this device exchanges frames with: its uplink and its children, or, in a twin, those reached by way of the partner. -/
def State.frameLinks (s : State) : List (Nat × Bool) :=
  let twin := decide (s.get Fld.TWIN_STATUS_STATE ≠ 0) && decide (s.linkState 3 = 3)
  let reach (n : Nat) : Bool := decide (s.linkState n = 3) || (twin && decide (n ≠ 3))
  ((s.fab.uplink.toList).filter reach).map (fun n => (n, false)) ++
    ((List.range 4).filter (fun n => reach n && (decide (s.linkRole n = 2) || s.fab.serving.contains n))).map (fun n => (n, true))

/-- The frames of tick t go out, a section for every fabric conference (R330, R334). -/
def State.cascadeSend (s : State) (t : Nat) : State :=
  let pos := s.get Fld.BINATH0_FABRIC_POS
  let cs := s.fabricConfs
  let up : List CSection := cs.map (fun c => ⟨c, 0, s.fab.up.get (fun _ => []) c⟩)
  let down : List CSection := cs.map (fun c => ⟨c, s.confK c, s.fab.down.get (fun _ => []) c⟩)
  forEach s.frameLinks (fun p s => s.sendFrame p.1 ⟨t, p.2, pos, if p.2 then down else up⟩) s

/-- The bus run of fabric conference c (R331, R332): local seats and members' chains, the selection, the exact sum of the down entries'
blocks and this device's own terms in it, and the entries it sends on; the frames go when the last conference has run. -/
def State.fabricBusRun (s : State) (t c : Nat) (late : Bool) : State :=
  let s := s.seatUpdate c
  let a := s.confA c
  let prog := s.audio.active
  let e := s.confEntry c
  let n := domN e.dom
  let members := s.confMembers c
  let leavers := a.members.filter (fun l => !members.contains l)
  let s := forEach members (fun l (s : State) =>
    let g := s.legA l
    let (x, st) := g.signal (prog.profile (legFx g.lastRec)) e c e.dom
    s.setLegA l (g.heard e.dom x st)) s
  let seated := a.seats.filterMap id
  let held := s.fab.holders.get (fun _ => []) c
  let own := (members.filter (fun l => seated.contains l || held.contains (s.flegOf l))).map s.localEntry
  let fromBelow := (s.childLinks.map (fun n => ((s.sectionOf c n false).map (·.entries)).getD [])).flatten
  let all := own ++ fromBelow
  let (s, down) := s.fabricSelect c all
  let before := s.fab.before.get (fun _ => []) c
  let heard := down.map (fun x => if s.fab.rootChanged && decide (x.edge = 0) && !before.contains x.fleg && !s.isRoot then
      { x with block := weighted false true x.block } else x)
  let sum := sumBlocks n (heard.map (·.block))
  let terms := members.filterMap (fun l => (heard.find? (fun x => decide (x.fleg = s.flegOf l))).map (fun x => (l, x.block)))
  let tails : List (Nat × Nat × Block) := leavers.map (fun l =>
    let mine := ((heard.find? (fun x => decide (x.fleg = s.flegOf l))).map (·.block)).getD (silence n)
    (l, e.dom, weighted true false (nMinusOne sum [] mine)))
  let s := forEach (terms.map (·.1)) (fun l (s : State) => s.setLegA l { s.legA l with lastSeated := some t }) s
  let s := if late then s else s.setTails tails
  let holders := (down.filter (fun x => decide (x.edge ≠ 2))).map (·.fleg)
  let up := if s.isRoot then [] else upEntries (s.confK c) holders all
  let todo := s.fab.todo.filter (fun x => decide (x ≠ c))
  let fab := { s.fab with holders := s.fab.holders.set (fun _ => []) c holders, before := s.fab.before.set (fun _ => []) c (down.map (·.fleg)),
                          up := s.fab.up.set (fun _ => []) c up, down := s.fab.down.set (fun _ => []) c down, todo := todo }
  let s := { s with fab := fab }
  let b := s.confA c
  let s := s.setConfA c { b with edges := [], members := members, joined := members.filter (fun l => !a.members.contains l), dom := some e.dom,
                                 sum := sum, bus := if late then silence n else satBlock sum, terms := terms }
  if todo = [] ∧ late = false then s.cascadeSend t else s

/-- The bus run of a conference, fabric or local. -/
def State.busRun (s : State) (t c : Nat) (late : Bool) : State :=
  if s.fabricConf c then s.fabricBusRun t c late else s.confBusRun t c late

/-- CASCADE_LATE for one more late or absent frame or section on link n, at most once per second per link (R333, R338). -/
def State.cascadeLate (s : State) (n count : Nat) : State := s.postLimited s.binathEvq 0x0E 0xD5 n true count 0

/-- The frame a link owes this tick, or its absence (R330, R333): a frame not wholly here at its swap counts in the inbound queue's
LATE; sections absent from a frame and sections of conferences that are not fabric conferences count in BINATH0_FSTRAY. -/
def State.frameDue (s : State) (t n : Nat) (down : Bool) : State :=
  match s.fab.arrived.find? (fun p => decide (p.1 = n) && decide (p.2.tick + 1 = t) && decide (p.2.down = down)) with
  | none => (s.bumpSat (Fld.GRANARY_BANKQk_LOST_LATE (13 + 2 * n))).cascadeLate n 1
  | some (_, f) =>
    let cs := s.fabricConfs
    let missing := (cs.filter (fun c => !f.sections.any (fun x => decide (x.conf = c)))).length
    let stray := (f.sections.filter (fun x => !cs.contains x.conf)).length
    let s := s.bump Fld.BINATH0_FSTRAY_COUNT (missing + stray)
    let s := if missing = 0 then s else s.cascadeLate n missing
    let s := s.record (.cascade n f.tick (cframeLen f) (crc64 (cframeBytes f)).toNat)
    { s with fab := { s.fab with frames := s.fab.frames ++ [(n, { f with sections := f.sections.filter (fun x => cs.contains x.conf) })] } }

/-- The cascade at the boundary that starts tick t, after the bank swap: FCONF takes effect, frames of tick t − 1 are taken up, and the sections of t begin
(R329, R330). Records of both banks count as read. A twin junior takes its frames from the Ledger. -/
def State.cascadeBoundary (s : State) (t : Nat) (junior : Bool) : State :=
  let s := forUpTo 4 (fun n s => (s.bankDrain (12 + 2 * n)).bankDrain (13 + 2 * n)) s
  let words := (List.range 64).foldl (fun (m : Sparse Word) k => m.set (fun _ => 0) k (s.rd (Reg.BINATH0_FCONFk k))) []
  let cleared (c : Nat) : Bool := bit (words.get (fun _ => 0) (c / 32)) (c % 32)
  let fab := { s.fab with fconf := words, up := [], down := [], tick := t,
                          before := s.fab.before.filter (fun p => cleared p.1), holders := s.fab.holders.filter (fun p => cleared p.1),
                          gseats := s.fab.gseats.filter (fun p => cleared p.1) }
  let s := { s with fab := if junior then fab else { fab with frames := [] } }
  let s := if s.inFabric && !junior then forEach s.frameLinks (fun p s => s.frameDue t p.1 (!p.2)) s else s
  let s : State := { s with fab := { s.fab with arrived := s.fab.arrived.filter (fun p => decide (t ≤ p.2.tick)), todo := s.fabricConfs } }
  if s.fabricConfs = [] ∧ s.inFabric = true then s.cascadeSend t else s

end Sys2Proof.Machine
end

