-- ==== Sys2Proof/Machine/VideoFwd.lean ====
section
/-! DEFINITION. Forwarding of pictures to OSTRs (spec/06_adaptation_and_forwarding.md R134 to R142; R335 for streams sent over Binath):
the set a picture is forwarded with, moves at its beginning, the source switch, and the rewriting of its packets. -/

namespace Sys2Proof.Machine

/-- The signed 32-bit difference of two RTP timestamps. -/
def tsDiff (a b : Nat) : Int := signed 32 ((a + 2 ^ 32 - b % 2 ^ 32) % 2 ^ 32)

/-- What a source's picture is to the layer selector (R136, R141): its timestamp, its tick, its temporal layer, whether it is a switch point
of every spatial layer, and the decode targets its descriptor gives. -/
structure FwdPic where
  kind : Nat
  src : Nat
  ts : Nat
  tick : Nat
  t : Nat
  whole : Bool
  targets : List (Nat × Nat × Bool)
  deriving DecidableEq, Repr

/-- The spatial layers a picture is a switch point of, for temporal layers up to maxT (R136): all, or those whose decode target with the
highest temporal layer at most maxT has the indication "switch". -/
def switchLayers (whole : Bool) (targets : List (Nat × Nat × Bool)) (maxT : Nat) : List Nat :=
  if whole then [0, 1, 2]
  else
    [0, 1, 2].filter (fun n =>
      let l := targets.filter (fun d => decide (d.1 = n) && decide (d.2.1 ≤ maxT))
      let top := l.foldl (fun m d => Nat.max m d.2.1) 0
      l.any (fun d => decide (d.2.1 = top) && d.2.2))

/-- The spatial layers a picture is a switch point of, to an OSTR with record r. -/
def FwdPic.switchS (p : FwdPic) (r : Nat) : List Nat := switchLayers p.whole p.targets (OSTR.MAX_T r)

/-- An event of OSTR o goes to its leg's queue (R143); an OSTR over a link has no leg and posts none (log entry 174). -/
def State.ostrPost (s : State) (o code arg : Nat) : State :=
  let l := OSTR.LEG ((s.effRec 7 o).getD 0)
  if 0x8000 ≤ l then s else s.post (LEG.EVQ (s.legRec l)) 0x06 code o arg

/-- OSTR o takes set k: SUSPENDED is entered or left (R137). -/
def State.setCur (s : State) (o : Nat) (k : Option (Nat × Nat)) : State :=
  let x := s.ostr o
  let s := s.setOstr o { x with cur := k }
  match x.cur, k with
  | some _, none => s.ostrPost o 0x53 s.ltick
  | none, some m => s.ostrPost o 0x54 (m.1 + 4 * m.2)
  | none, none | some _, some _ => s

/-- The highest set an upward move to k may take at a picture (R135, R142): s rises at a switch point, t at temporal layer 0. -/
def climb (cur : Option (Nat × Nat)) (k : Nat × Nat) (switchS : List Nat) (t : Nat) : Option (Nat × Nat) :=
  let best := (switchS.filter (fun n => decide (n ≤ k.1))).foldl Nat.max 0
  let may := switchS.any (fun n => decide (n ≤ k.1))
  match cur with
  | none => if may then some (best, if t = 0 then k.2 else 0) else none
  | some m =>
    if m.1 < k.1 then
      if may && decide (m.1 < best) then some (best, if t = 0 then k.2 else Nat.min m.2 k.2)
      else if t = 0 ∧ m.2 < k.2 then some (m.1, k.2) else cur
    else if t = 0 then some k else cur

/-- The source switch of R141 steps 3 to 5: the timestamp runs on by 90 × max(1, Δ). -/
def State.switchSource (s : State) (o : Nat) (p : FwdPic) : State :=
  let x := s.ostr o
  let dt := Nat.max 1 (p.tick - x.lastPicTick)
  let off := x.tsOff.map (fun _ => (x.lastTs + 90 * dt + 2 ^ 32 - p.ts % 2 ^ 32) % 2 ^ 32)
  let s := s.setOstr o { x with srcKind := p.kind, src := p.src, switchTo := none, down := [], up := none, wantLog := [], firstWant := none,
                                restarted := some s.ltick, tsOff := off }
  let s := s.setCur o (some (0, 0))
  s.ostrPost o 0x55 (p.src + p.kind * 2 ^ 31)

/-- The set an OSTR over a link is to send (R335): the greatest up to (MAX_S, MAX_T) that its source delivers (R130). -/
def State.linkDesired (s : State) (r : Nat) (x : Ostr) : Option (Nat × Nat) :=
  let log := (s.srcLog x.srcKind x.src).1
  bestSet (OSTR.PREF r) (allSets.filter (fun k => decide (k.1 ≤ OSTR.MAX_S r) && decide (k.2 ≤ OSTR.MAX_T r) && setArrived log s.ltick k))

/-- The moves of R134 and R135. A stream over a link has no updates: its desired set is judged at each picture (R335; log entry 174). -/
def State.moves (s : State) (o r : Nat) (x : Ostr) (p : FwdPic) : State :=
  if ¬ (x.srcKind = p.kind ∧ x.src = p.src) then s
  else
    let due := x.down.filter (fun d => decide (d.1 ≤ p.tick))
    match due.getLast? with
    | some d => (s.setOstr o { x with down := x.down.filter (fun d => decide (p.tick < d.1)) }).setCur o d.2
    | none =>
      if 0x8000 ≤ OSTR.LEG r then
        match s.linkDesired r x with
        | none => s
        | some k =>
          if setBelow (OSTR.PREF r) (some k) x.cur then (s.setOstr o { x with lastDown := some s.ltick }).setCur o (some k)
          else if x.mayClimb s.ltick then s.setCur o (climb x.cur k (p.switchS r) p.t) else s
      else
        match x.up with
        | none => s
        | some k =>
          let m := climb x.cur k (p.switchS r) p.t
          if m = x.cur then s
          else
            let s := s.setCur o m
            let s := s.setOstr o { s.ostr o with up := if m = some k then none else some k }
            s.bump Fld.ADAPT_SWITCH_UP_COUNT

/-- A picture of a source begins for OSTR o: a pending switch, downward moves decided before it, or an upward move apply. -/
def State.beginPic (s : State) (o r : Nat) (p : FwdPic) : State :=
  let x := s.ostr o
  match x.switchTo with
  | some (k, src, at_) =>
    if k = p.kind ∧ src = p.src ∧ at_ ≤ p.tick ∧ (p.switchS r).contains 0 = true then s.switchSource o p else s.moves o r x p
  | none => s.moves o r x p

/-- The packets of a picture an OSTR sends: those of its set, in order. -/
def inSet (k : Nat × Nat) (l : List Media) : List Media := l.filter (fun p => decide (p.s ≤ k.1) && decide (p.t ≤ k.2))

/-- Media of plane a may not go undecoded to leg l, which is bound to the other plane (R73): PLANEn_CFG.ISOLATE of either. -/
def State.isolated (s : State) (a : Option Nat) (l : Nat) : Bool :=
  match a with
  | none => false
  | some a =>
    let b := LEG.PLANE (s.legRec l)
    decide (l < 0x8000) && decide (a ≠ b) && (s.on (Fld.PLANEn_CFG_ISOLATE a) || s.on (Fld.PLANEn_CFG_ISOLATE b))

/-- Packets of a picture go to the release stage for tick `tick` with the OSTR's timestamp (R138, R139); the last carries the marker when
`last`. -/
def State.sendPic (s : State) (o r tick : Nat) (p : FwdPic) (pkts : List Media) (last : Bool) : State :=
  let pkts := pkts.filter (fun k => !s.isolated k.plane (OSTR.LEG r))
  if pkts = [] then s
  else
    let x := s.ostr o
    let off := x.tsOff.getD ((OSTR.TS_INIT r + 2 ^ 32 - p.ts % 2 ^ 32) % 2 ^ 32)
    let ts := (p.ts + off) % 2 ^ 32
    let s := s.setOstr o { x with tsOff := some off, lastTs := ts, lastPicTick := p.tick }
    let ovh := s.mediaOverhead (OSTR.LEG r)
    let ids := s.extIds (OSTR.LEG r)
    let n := pkts.length
    ((pkts.zip (List.range n)).foldl (fun (s : State) k =>
      let ext := keptExt ids k.1
      s.enqueuePkt (OSTR.LEG r) .video o (12 + ext.length + k.1.pay.length + ovh) tick ts (last && decide (k.2 + 1 = n)) ext k.1.pay k.1.plane) s)

/-- OSTRs that name a source now or after a pending switch; those of decoded pictures (R336) take no packets. -/
def State.followers (s : State) (kind src : Nat) : List (Nat × Nat) :=
  (tableRecs s.gate.effective 7).filter (fun p =>
    let x := s.ostr p.1
    !(decide (0x8004 ≤ OSTR.LEG p.2)) && x.effective &&
      ((decide (x.srcKind = kind) && decide (x.src = src)) ||
        (match x.switchTo with | some (k, n, _) => decide (k = kind) && decide (n = src) | none => false)))

/-- A whole picture of a VSTR is forwarded in tick `tick`. -/
def State.forwardPic (s : State) (tick : Nat) (p : FwdPic) (pkts : List Media) : State :=
  forEach (s.followers p.kind p.src) (fun f (s : State) =>
    let s := s.beginPic f.1 f.2 p
    let x := s.ostr f.1
    if x.srcKind = p.kind ∧ x.src = p.src then
      match x.cur with
      | some k => s.sendPic f.1 f.2 tick p (inSet k pkts) true
      | none => s
    else s) s

/-- A quarter q of an ECOMP's picture is forwarded in its release tick (R138, R290): the set is the one of its beginning. -/
def State.forwardQuarter (s : State) (tick frame q : Nat) (p : FwdPic) (pkts : List Media) : State :=
  let e := s.ecomp p.src
  let new := pkts.map (fun (k : Media) => (⟨tick, k.s, k.t, k.fm.length, k.dd.length, k.pay.length⟩ : LayerPkt))
  let s := s.setEcomp p.src { e with layerLog := (e.layerLog.filter (fun x => decide (s.ltick ≤ x.tick + 2000))) ++ new }
  forEach (s.followers p.kind p.src) (fun f (s : State) =>
    let s := if q = 0 then
        let s := s.beginPic f.1 f.2 p
        let x := s.ostr f.1
        if x.srcKind = p.kind ∧ x.src = p.src then s.setOstr f.1 { x with picSet := x.cur.map (fun k => (frame, k.1, k.2)) } else s
      else s
    let x := s.ostr f.1
    match x.picSet with
    | some (n, k) => if n = frame ∧ x.srcKind = p.kind ∧ x.src = p.src then s.sendPic f.1 f.2 tick p (inSet k pkts) (decide (q = 3)) else s
    | none => s) s

end Sys2Proof.Machine
end

