-- ==== Sys2Proof/Machine/VideoDec.lean ====
section
/-! DEFINITION. The video decoders (spec/12_video_decode.md, R242 to R257, R514) and the release of pictures from the video buffer
(R107). -/

namespace Sys2Proof.Machine

/-! ### Costs (R244, R246, R249) -/

/-- F of R244 for a target spatial layer. -/
def layerF (s : Nat) : Nat := if s = 0 then 16 else if s = 1 then 20 else 21

/-- The cost of a decoding stream in samples/s, times 16 (R244). -/
def vstrCost16 (r : Nat) : Nat := DEC.MAX_W r * DEC.MAX_H r * DEC.MAX_FPS r * layerF (DEC.TARGET_S r)

/-- The cost a VSTR record counts (R245, R336). -/
def vstrCost (r : Nat) : Nat := if VSTR.DECODE r = 1 ∧ VSTR.LEG r < 0x8004 then ceilDiv (vstrCost16 r) 16 else 0

/-- The minimum DUE (R246). -/
def minDue (r : Nat) : Nat := 1 + ceilDiv (DEC.MAX_W r * DEC.MAX_H r * layerF (DEC.TARGET_S r)) 16000000

/-- The DUE of a stream. -/
def dueOf (r : Nat) : Nat := if DEC.DUE r = 0 then minDue r else DEC.DUE r

/-- The bytes of a picture buffer (R249). -/
def bufferBytes (w h : Nat) (deep : Bool) : Nat :=
  let stride := roundUp (w * (if deep then 2 else 1)) 256
  let h64 := roundUp h 64
  roundUp (stride * h64 + stride * h64 / 2) 65536

/-! ### Start and end of decoding (R253, R254) -/

/-- The effective VSTR record, or 0. -/
def State.vstrRec (s : State) (v : Nat) : Nat := (s.effRec 6 v).getD 0

/-- A record with DECODE = 1 takes effect (R253): STARTING, and a PLI is requested whatever PLI_EN says. Pictures that come decoded over
Binath (R336) use no decoder. -/
def State.decodeStart (s : State) (v : Nat) : State :=
  let r := s.vstrRec v
  if 0x8004 ≤ VSTR.LEG r then s.setDec v { born := s.ltick }
  else (s.setDec v { born := s.ltick, state := 1, targetS := DEC.TARGET_S r, targetT := DEC.TARGET_T r }).requestPli v false true

/-- Decoding ends (R254): tasks are cancelled and the pictures go. -/
def State.decodeEnd (s : State) (v : Nat) : State :=
  let s := s.cancelTasks (fun t => decide (t.flow = v))
  s.setDec v {}

/-- A VSTR takes effect at tick t. -/
def State.vstrStart (s : State) (v t : Nat) : State :=
  let s := s.setVstr v { effective := true, born := t }
  if VSTR.DECODE (s.vstrRec v) = 1 then s.decodeStart v else s

/-- A VSTR is deleted. -/
def State.vstrEnd (s : State) (v : Nat) : State := (s.decodeEnd v).setVstr v {}

/-! ### Release to decode (R107, R245, R246, R248, R250) -/

/-- The targets in force for a picture (R245): a lower one at once, a higher TARGET_S at a switch point of the new layer, a higher
TARGET_T at temporal layer 0. -/
def DecStream.retarget (x : DecStream) (r t : Nat) (switchS : List Nat) : DecStream :=
  let ts := DEC.TARGET_S r
  let tt := DEC.TARGET_T r
  { x with targetS := if ts < x.targetS ∨ switchS.contains ts = true then ts else x.targetS,
           targetT := if tt < x.targetT ∨ t = 0 then tt else x.targetT }

/-- The picture fits the stream's buffers (R251). -/
def picFits (r : Nat) (f : PicFacts) : Bool :=
  decide (f.width ≤ DEC.MAX_W r) && decide (f.height ≤ DEC.MAX_H r) && (!f.depth10 || decide (DEC.DEPTH10 r = 1)) && !f.unsupported

/-- A picture is a switch point of every spatial layer (R136). -/
def picWhole (f : PicFacts) : Bool := f.key || f.switchFrame

/-- The packets of a picture in sequence order. -/
def Pic.ordered (p : Pic) : List VPkt := sortBy (fun (k : VPkt) => (k.seq + 65536 - p.low) % 65536) p.pkts

/-- The decode targets in the descriptor of the picture's first packet that carries one (R136). -/
def Pic.targets (p : Pic) : List (Nat × Nat × Bool) := (p.ordered.findSome? VPkt.targets).getD []

/-- A picture released to decode raises no fault of its own that its packets show (R251). -/
def DecJob.sound (j : DecJob) (r : Nat) : Bool := !j.absent && !j.facts.invalid && !j.facts.damaged && picFits r j.facts

/-- A picture released to decode will clear CONCEALED unless its decode is disturbed (R514): a key picture, or the last of a sweep of which every picture is
sound, with every picture it refers to decoded or with Reeve. -/
def DecStream.clears (x : DecStream) (r : Nat) (j : DecJob) : Bool :=
  let sweep := x.queue.foldl (fun (b : Option Bool) (q : DecJob) =>
    if q.facts.sweepLast then none else if q.facts.sweepFirst then some (q.sound r) else b.map (fun y => y && q.sound r)) x.sweepClean
  let known (ts : Nat) := x.pics.any (fun p => decide (p.ts = ts) && p.reference && !p.bad && !p.subst) ||
    x.queue.any (fun q => decide (q.ts = ts) && q.facts.reference)
  j.sound r && (j.facts.key || (j.facts.sweepLast && (j.facts.sweepFirst || decide (sweep = some true)) && j.facts.refs.all (fun q => known q.1)))

/-- A picture of temporal layer t is released to decode at tick R. One above TARGET_T is discarded unread (R248), and counts in PICNUM (R256). -/
def State.decodeRelease (s : State) (v r R t : Nat) (p : Pic) (absent : Bool) : State :=
  let x := (s.dec v).retarget r t (switchLayers (picWhole p.facts) p.targets (DEC.TARGET_T r))
  let s := s.setDec v x
  if x.targetT < t then s.setDec v { x with picnum := (x.picnum + 1) % 2 ^ 32 }
  else
    let here := (p.pkts.map (fun k => k.media.s)).filter (fun n => decide (n ≤ x.targetS))
    let out := here.foldl Nat.max 0
    let j : DecJob := ⟨p.ts, x.picnum, R, R + dueOf r, out, t, decide (out < x.targetS), absent || decide (here = []), p.facts⟩
    let s := s.setDec v { x with picnum := (x.picnum + 1) % 2 ^ 32, queue := x.queue ++ [j] }
    let clean := x.clears r j
    let s := if clean then s.withdrawPli v else s
    s.submitTask { typ := .decodePic, level := taskLevel .decodePic false, port := if VSTR.LEG r < 0x8000 then 2 else 3, flow := v, key := v,
                   start := boundaryNs R, hard := boundaryNs j.due, leases := [(v, p.facts.reference)], work := .picture v p.ts, tick := R }

/-- A picture leaves the video buffer in tick R (R107, R138): to the OSTRs and to the decoder. What is missing of it or before it is asked for no more (R98). -/
def State.releasePic (s : State) (v ts R : Nat) (absent : Bool) : State :=
  let x := s.vstr v
  match x.pics.find? (fun p => decide (p.ts = ts)) with
  | none => s
  | some p =>
    let r := s.vstrRec v
    let high := (p.ordered.getLast?.map VPkt.seq).getD p.low
    let s := s.setVstr v { x with pics := x.pics.filter (fun p => decide (p.ts ≠ ts)), released := lastN 256 (x.released ++ [ts]),
                                  missing := x.missing.filter (fun m => seqAbove m.seq high) }
    let t := (p.pkts.head?.map (fun k => k.media.t)).getD 0
    let s := if VSTR.FORWARD r = 1 then
        s.forwardPic R ⟨0, v, ts, p.first, t, picWhole p.facts, p.targets⟩ (p.ordered.map VPkt.media)
      else s
    if VSTR.DECODE r = 1 then s.decodeRelease v r R t p absent else s

/-- The pictures of VSTR v that became complete in an earlier tick are released at tick R, in the order of their timestamps. -/
def State.releaseDue (s : State) (v R : Nat) : State :=
  let due := (s.vstr v).pics.filter (fun p => match p.done with | some t => decide (t < R) | none => false)
  let base := (due.head?.map Pic.ts).getD 0
  forEach (sortBy (fun (p : Pic) => (tsDiff p.ts base + 2 ^ 32).toNat) due) (fun p s => s.releasePic v p.ts R false) s

/-- VIDEO_WAIT_EXPIRE: VIDEO_WAIT ticks after its first packet's admission an incomplete picture is released (R107). A stream that comes
over Binath has no leg and no wait. -/
def execVideoWaitExpire (v ts : Nat) (absent : Bool) (s : State) : Out :=
  match (s.vstr v).pics.find? (fun p => decide (p.ts = ts)) with
  | none => .next s
  | some p =>
    if p.done.isSome ∨ s.mediaOff = true then .next s
    else
      let R := p.first + LEG.VIDEO_WAIT (s.legRec (VSTR.LEG (s.vstrRec v)))
      let s := s.runTo (boundaryNs R + s.lag)
      .next (s.releasePic v ts (Nat.max R s.ltick) absent)

/-! ### Decoding (R248, R250 to R253, R514) -/

/-- The decoded picture of timestamp ts whose layer n a picture may refer to. -/
def findRef (pics : List DecPic) (n ts : Nat) : Option DecPic :=
  pics.find? (fun p => decide (p.ts = ts) && p.reference && !p.bad && !p.subst && decide (n ≤ p.s))

/-- The substitute of R250: the most recent correctly decoded picture of the spatial layer, unless its size differs; none for
mid-grey. -/
def substitute (pics : List DecPic) (n : Nat) (size : Option (Nat × Nat)) : Option DecPic :=
  match (pics.filter (fun p => p.correct && !p.bad && decide (p.s = n))).getLast? with
  | none => none
  | some p => if size = none ∨ size = some (p.width, p.height) then some p else none

/-- A picture comes out of a decode: what R250, R251, R252 and R514 make of it, the events and counts, the picture's record (R256), and
the stream's state (R253). -/
def State.decodeDeliver (s : State) (v ts : Nat) (late failed : Bool) (f : TaskFacts) : State :=
  let x := s.dec v
  match x.queue.find? (fun j => decide (j.ts = ts)) with
  | none => s
  | some j =>
    let r := s.vstrRec v
    let evq := VSTR.EVQ r
    let d := j.facts
    let s := forEach f.poison (fun k (s : State) => (s.bump Fld.VDE0_POISON_COUNT).post evq 0x0A 0x93 v k.1) s
    let ctx := f.poison.any (fun k => decide (k.1 = 2))
    let pics := x.pics.map (fun p => { p with bad := p.bad || f.poison.contains (0, p.ts), reference := p.reference && !ctx })
    let resized := !d.key && (match x.size with | some z => decide (z ≠ (d.width, d.height)) | none => false)
    let invalid := failed || d.invalid || resized
    let unsupp := !invalid && !picFits r d
    let whole := invalid || unsupp || ctx
    let own := invalid || unsupp || d.damaged || j.absent || f.poison.any (fun k => decide (k.1 = 1))
    let used := (d.refs.filter (fun q => decide (q.2 ≤ j.s))).map (fun q => findRef pics q.2 q.1)
    let missing := !whole && used.any Option.isNone
    let inherits := used.any (fun o => match o with | some p => p.concealed | none => false)
    let sweep := if d.sweepFirst then some (!own) else x.sweepClean.map (fun b => b && !own)
    let clearing := !missing && !own && !ctx && (d.key || (d.sweepLast && decide (sweep = some true)))
    let concealed := !clearing && (missing || own || ctx || inherits || decide (x.state = 1))
    let size := if whole then x.size else some (d.width, d.height)
    let sub := if ctx then none else substitute pics j.s size
    let out := match sub with | some p => (p.width, p.height) | none => x.size.getD (DEC.MAX_W r, DEC.MAX_H r)
    let dims := if whole then out else (d.width, d.height)
    let pic : DecPic := {
      vstr := v, s := j.s, t := j.t, concealed := concealed, upscaled := j.upscaled && !whole, subst := whole, late := late,
      matrix := if DEC.MATRIX r ≠ 0 then DEC.MATRIX r else if d.matrix = 0 then 2 else d.matrix,
      range := if DEC.RANGE r ≠ 0 then DEC.RANGE r else if d.range = 0 then 1 else d.range,
      depth10 := decide (DEC.DEPTH10 r = 1), ts := ts, release := j.release, due := j.due, width := dims.1, height := dims.2,
      picnum := j.picnum, correct := !concealed, reference := d.reference, bad := false, spoiled := false, sub := sub.map DecPic.picnum,
      low := (d.lowW, d.lowH) }
    let next := if ctx then 1 else if clearing then 2 else if x.state = 1 ∨ concealed = true then 3 else x.state
    let y : DecStream := { x with
      state := next, queue := x.queue.filter (fun j => decide (j.ts ≠ ts)), pics := lastN 256 (pics ++ [pic]), size := size,
      sweepClean := if d.sweepLast then none else sweep, concealed := if concealed then (x.concealed + 1) % 65536 else x.concealed,
      lastUpscaled := pic.upscaled }
    let s := s.setDec v y
    let s := if missing then s.bump Fld.VDE0_MISSREF_COUNT else s
    let s := if unsupp then (s.bumpSat Fld.VDE0_CORRUPT_UNSUPP).postLimited evq 0x0A 0x92 v true 1 0
      else if own then s.bumpSat Fld.VDE0_CORRUPT_FAULTY else s
    let s := if (missing || own || ctx) && decide (DEC.PLI_EN r = 1) then s.requestPli v false true else s
    let s := if clearing then s.withdrawPli v else s
    if next = 2 ∧ x.state ≠ 2 then s.post evq 0x0A 0x91 v j.picnum
    else if next = 3 ∧ x.state ≠ 3 then s.post evq 0x0A 0x90 v j.picnum
    else s

/-- The hard limit of a decode passes (R247): the picture will be LATE. -/
def State.decodeLate (s : State) (v : Nat) : State :=
  let x := s.dec v
  let s := s.setDec v { x with late := (x.late + 1) % 2 ^ 24 }
  (s.contained).postLimited (VSTR.EVQ (s.vstrRec v)) 0x0A 0x94 v true 1 0

/-- A decode leaves the queue with no picture (CANCELLED). -/
def State.decodeDrop (s : State) (v ts : Nat) : State :=
  let x := s.dec v
  s.setDec v { x with queue := x.queue.filter (fun j => decide (j.ts ≠ ts)) }

/-- Whether a picture must be upscaled after its decode (R248, R299). -/
def State.needsScale (s : State) (v ts : Nat) : Bool := (s.dec v).queue.any (fun j => decide (j.ts = ts) && j.upscaled)

/-- The luma samples a decode reads, over every layer. -/
def State.decodeSamples (s : State) (v ts : Nat) : Nat :=
  match (s.dec v).queue.find? (fun j => decide (j.ts = ts)) with
  | some j => j.facts.width * j.facts.height * layerF j.s / 16
  | none => 0

/-- The pictures eligible at an instant of logical time (R247, R264). -/
def State.candidates (s : State) (v at_ : Nat) : List DecPic :=
  (s.dec v).pics.filter (fun p => !p.late && !p.spoiled && decide (boundaryNs p.due ≤ at_))

/-! ### VDE0 page -/

/-- A write of VDE0_STR_SEL starts a fetch. -/
def State.strSelWrite (s : State) (w : Word) : State :=
  s.checked Reg.VDE0_STR_SEL w (fun _ => none)
    (fun s => (((s.applyWrite Reg.VDE0_STR_SEL w).fetchStart Reg.VDE0_STR_SEL).unvalid Reg.VDE0_STR_STATE).unvalid Reg.VDE0_STR_LATE)

/-- VDE0_STR_SEL. -/
def execVde0StrSel (vstr : Nat) (s : State) : Out := .next (s.strSelWrite (BitVec.ofNat 32 vstr))

/-- The fetch completes: the stream's state and late count, with one GEN. -/
def State.strFetch (s : State) : State :=
  let v := s.get Fld.VDE0_STR_SEL_VSTR
  let x := s.dec v
  let held := lastN (DEC.DPB (s.vstrRec v) + 3) x.pics
  let bad := (held.filter (fun p => p.bad)).length
  let gen := s.nextGen Reg.VDE0_STR_STATE
  let w := x.state * 2 ^ 22 + b2n (s.vstr v).pliWaiting * 2 ^ 21 + b2n x.lastUpscaled * 2 ^ 20 + Nat.min 15 bad * 2 ^ 16 + x.concealed
  (s.postResultGen Reg.VDE0_STR_STATE gen w).postResultGen Reg.VDE0_STR_LATE gen x.late

end Sys2Proof.Machine
end

