-- ==== Sys2Proof/Machine/VideoEnc.lean ====
section
/-! DEFINITION. Frame ticks (spec/01_device_overview.md R19) and the video encoders (spec/14_video_encode.md, R278 to R296): the plan of
each picture, rate control, and the release of its quarters. -/

namespace Sys2Proof.Machine

/-! ### Frame ticks (R19, R262) -/

/-- The instant of frame tick k of a layout, in ns. -/
def frameNs (r k : Nat) : Nat := LAYOUT.ANCHOR r * 1000000000 + k * LAYOUT.RATE_D r * 1000000000 / LAYOUT.RATE_N r

/-- The first frame tick of a layout strictly after an instant. -/
def frameAfter (r t : Nat) : Nat :=
  let a := LAYOUT.ANCHOR r * 1000000000
  if t < a then 0 else ceilDiv ((t - a + 1) * LAYOUT.RATE_N r) (LAYOUT.RATE_D r * 1000000000)

/-- Ticks a composition takes: ceil(WIDTH × HEIGHT ÷ 1,000,000). -/
def composeTicks (r : Nat) : Nat := ceilDiv (LAYOUT.WIDTH r * LAYOUT.HEIGHT r) 1000000

/-- The due boundary of a composition whose frame boundary tick F owns (R262). -/
def composeDue (r F : Nat) : Nat := boundaryNs (F + 1 + composeTicks r)

/-- The cost of a layout (R258). -/
def layoutCost (r : Nat) : Nat := ceilDiv (LAYOUT.WIDTH r * LAYOUT.HEIGHT r * LAYOUT.RATE_N r) (LAYOUT.RATE_D r)

/-- The effective LAYOUT record, or 0. -/
def State.layRec (s : State) (l : Nat) : Nat := (s.effRec 8 l).getD 0

/-! ### The record and its layers (R278, R279) -/

/-- The effective ECOMP record, or 0. -/
def State.ecompRec (s : State) (e : Nat) : Nat := (s.effRec 9 e).getD 0

/-- A field whose 0 stands for a value. -/
def orElse (v d : Nat) : Nat := if v = 0 then d else v

def ecompRefresh (r : Nat) : Nat := orElse (ECOMP.REFRESH_PERIOD r) 30
def ecompAccel (r : Nat) : Nat := orElse (ECOMP.ACCEL_PERIOD r) 8
def ecompQpMax (r : Nat) : Nat := orElse (ECOMP.QP_MAX r) (if ECOMP.CODEC r = 3 then 255 else 51)
def ecompQpStart (r : Nat) : Nat := orElse (ECOMP.QP_START r) (if ECOMP.CODEC r = 3 then 128 else 32)
def ecompKeyMult (r : Nat) : Nat := orElse (ECOMP.KEY_MULT r) 6
/-- RATE(s, t). -/
def ecompRate (r s t : Nat) : Nat := recField r (24 + 4 * (3 * s + t)) 0 32

/-- The size of spatial layer s (R279). -/
def layerSize (r s : Nat) : Nat × Nat :=
  let d := 2 ^ (ECOMP.SPATIAL r - 1 - s)
  (ECOMP.TOP_W r / d, ECOMP.TOP_H r / d)

/-- Luma samples of one picture over every spatial layer. -/
def ecompSamples (r : Nat) : Nat := sumBy (fun s => (layerSize r s).1 * (layerSize r s).2) (List.range (ECOMP.SPATIAL r))

/-- The cost of an ECOMP on its layout (R279). -/
def ecompCost (r lay : Nat) : Nat := ceilDiv (ecompSamples r * LAYOUT.RATE_N lay) (LAYOUT.RATE_D lay)

/-- The temporal period G (R279). -/
def periodG (r : Nat) : Nat := 2 ^ (ECOMP.TEMPORAL r - 1)

/-- n_t of R279. -/
def perPeriod (t : Nat) : Nat := if t = 2 then 2 else 1

/-- The temporal layer of picture p (R279). -/
def temporalOf (r p : Nat) : Nat :=
  if ECOMP.TEMPORAL r = 1 then 0
  else if ECOMP.TEMPORAL r = 2 then p % 2
  else if p % 4 = 0 then 0 else if p % 4 = 2 then 1 else 2

/-- Unit of rows and columns of coding (R281, R283): 16 rows and columns for H.264, 64 otherwise. -/
def unitOf (r : Nat) : Nat := if ECOMP.CODEC r = 1 then 16 else 64

/-- Rows of spatial layer s. -/
def rowsOf (r s : Nat) : Nat := ceilDiv (layerSize r s).2 (unitOf r)

/-- Columns of spatial layer s. -/
def columnsOf (r s : Nat) : Nat := ceilDiv (layerSize r s).1 (unitOf r)

/-- The intra columns of a plan's picture in spatial layer s, as the first and the one after the last (R283). -/
def PicPlan.intra (p : PicPlan) (s : Nat) : Nat × Nat :=
  if p.key then (0, columnsOf p.data s)
  else if p.t = 0 ∧ p.kind ≠ 0 then (p.j * columnsOf p.data s / p.m, (p.j + 1) * columnsOf p.data s / p.m)
  else (0, 0)

/-- The first and the last picture of a sweep (R283, R284). -/
def PicPlan.first (p : PicPlan) : Bool := decide (p.t = 0) && decide (p.kind ≠ 0) && decide (p.j = 0)
def PicPlan.last (p : PicPlan) : Bool := decide (p.t = 0) && decide (p.kind ≠ 0) && decide (p.j + 1 = p.m)

/-- A plan's picture is a switch point of every spatial layer (R136). -/
def PicPlan.whole (p : PicPlan) : Bool := p.key || p.first

/-- The QP offset of R286 at a coding unit's top-left sample (x, y) of spatial layer s: the lowest-numbered enabled region that holds
it. -/
def roiOffset (r lay s x y : Nat) : Int :=
  let d := 2 ^ (ECOMP.SPATIAL r - 1 - s)
  let scale (v top canvas : Nat) := v * top / (canvas * d)
  let hit (i : Nat) : Bool :=
    let f (b w : Nat) := recField r (64 + 12 * i + b) 0 w
    let x0 := scale (f 0 16) (ECOMP.TOP_W r) (LAYOUT.WIDTH lay)
    let y0 := scale (f 2 16) (ECOMP.TOP_H r) (LAYOUT.HEIGHT lay)
    let w := scale (f 4 16) (ECOMP.TOP_W r) (LAYOUT.WIDTH lay)
    let h := scale (f 6 16) (ECOMP.TOP_H r) (LAYOUT.HEIGHT lay)
    decide (f 9 1 = 1) && decide (x0 ≤ x) && decide (x < x0 + w) && decide (y0 ≤ y) && decide (y < y0 + h)
  match (List.range 8).find? hit with
  | some i => signed 8 (recField r (64 + 12 * i + 8) 0 8)
  | none => 0

/-- The QP of a coding unit of a row (R286): the row QP and the region's offset (4 qindex steps a unit for AV1), clamped. -/
def unitQp (r lay s x y rowQp : Nat) (intra : Bool) : Nat :=
  if intra then rowQp
  else (clampI (ECOMP.QP_MIN r) (ecompQpMax r) ((rowQp : Int) + roiOffset r lay s x y * (if ECOMP.CODEC r = 3 then 4 else 1))).toNat

/-! ### The plan of a picture (R279, R282, R283, R285) -/

/-- The RTP timestamp of frame tick k (R281). -/
def pictureTs (lay k : Nat) : Nat := frameNs lay k * 9 / 100000 % 2 ^ 32

/-- At a frame boundary owned by tick F the next picture of ECOMP e is planned and its task submitted. -/
def State.planPicture (s : State) (e frame F at_ : Nat) : State :=
  let x := s.ecomp e
  if !x.effective then s
  else
    let r := s.ecompRec e
    let lay := s.layRec e
    let key := !x.started || decide (x.keySeq ≠ ECOMP.KEY_SEQ r)
    let p := if key then 0 else x.p + 1
    let t := temporalOf r p
    let g := periodG r
    let due := match x.accelWait with
      | some q => decide (q < F) && (match x.lastAccel with | some a => decide (a + 500 ≤ F) | none => true)
      | none => false
    let accel := !key && decide (t = 0) && due
    let fresh := decide (x.kind = 0) || decide (x.m ≤ x.j + 1)
    let x' : Ecomp :=
      if key then { x with kind := 0, j := 0, m := 0, accelWait := none, keySeq := ECOMP.KEY_SEQ r }
      else if accel then
        { x with kind := 2, j := 0, m := ceilDiv (ecompAccel r) g, sweepNo := x.sweepNo + 1, lastAccel := some F, accelWait := none }
      else if t = 0 then
        if fresh then { x with kind := 1, j := 0, m := ceilDiv (ecompRefresh r) g, sweepNo := x.sweepNo + 1 } else { x with j := x.j + 1 }
      else x
    let plan : PicPlan := ⟨frame, F, pictureTs lay frame, r, lay, t, key, x'.kind, x'.j, x'.m, x'.sweepNo⟩
    let s := s.setEcomp e { x' with started := true, p := p, plans := x'.plans ++ [plan] }
    let s := if accel then
        let s := (s.bump Fld.ADAPT_KEYREQ_SWEEP).bump Fld.VEE0_SWEEPS_ACCEL
        s.post (ECOMP.EVQ r) 0x0C 0xB3 e frame
      else s
    s.submitTask { typ := .encodePic, level := taskLevel .encodePic (decide (ECOMP.LIVE r = 0)), port := 1, flow := 5120 + e, key := e, start := at_,
                   hard := boundaryNs (F + composeTicks lay + 2 + ECOMP.LAG r) + 500000, leases := [(5120 + e, true)],
                   work := .encodePic e frame, tick := frame, stage := composeDue lay F, dep := e }

/-! ### Rate control (R287 to R289) -/

/-- The budget of a picture (R287). -/
def rcBase (r lay s t : Nat) (intra : Bool) : Nat :=
  let b := ecompRate r s t * 1000 * LAYOUT.RATE_D lay * periodG r / (LAYOUT.RATE_N lay * perPeriod t)
  if intra then b * ecompKeyMult r else b

/-- The QP0 change of R288. -/
def qpStep (used : Nat) (avail : Int) : Int :=
  let u : Int := used * 100
  if avail ≤ 0 ∨ avail * 125 < u then 2
  else if avail * 106 < u then 1
  else if u < avail * 60 then -2
  else if u < avail * 80 then -1
  else 0

/-- The QP0 of a layer's next picture (R288). -/
def RateCtl.nextQp (c : RateCtl) (r : Nat) : Nat :=
  if !c.coded then ecompQpStart r else (clampI (ECOMP.QP_MIN r) (ecompQpMax r) ((c.qp0 : Int) + qpStep c.used c.avail)).toNat

/-- The QP of row n of R rows when rows 0 to n − 1 took `used` bits (R288). -/
def rowQp (r qp0 used base rows n : Nat) (avail : Int) : Nat :=
  let step := clampI (-3) 6 ((8 * ((used : Int) - (avail * n).fdiv rows)).fdiv base)
  (clampI (ECOMP.QP_MIN r) (ecompQpMax r) ((qp0 : Int) + step)).toNat

/-- Whether a picture whose rows took these bits entered floor mode (R289). -/
def floorEntered (avail : Int) (bits : List Nat) : Bool :=
  decide (avail ≤ 0) ||
    (List.range bits.length).any (fun n => decide (0 < n) && decide (avail ≤ sumBy id (bits.take n)))

/-- One picture of a layer: the rate control after it, and whether its debt was clamped (R287). A rate changed since the last picture
first clamps the debt to 4 times the new base. -/
def RateCtl.picture (c : RateCtl) (r lay s t : Nat) (intra : Bool) (bits : List Nat) : RateCtl × Bool :=
  let base := rcBase r lay s t intra
  let debt := if c.rate ≠ ecompRate r s t then Nat.min c.debt (4 * base) else c.debt
  let avail : Int := (base : Int) - debt
  let used := sumBy id bits
  let d := ((used : Int) - avail).toNat
  let capped := decide (4 * base < d)
  ({ debt := if capped then 4 * base else d, rate := ecompRate r s t, coded := true, qp0 := c.nextQp r, used := used, avail := avail,
     floor := floorEntered avail bits }, capped)

/-- The rate control of every spatial layer for a coded picture, with the counts of floor mode and clamped debts. -/
def State.rateControl (s : State) (e : Nat) (p : PicPlan) (intra : Bool) (rows : List (List (Nat × List Nat))) : State :=
  forUpTo (ECOMP.SPATIAL p.data) (fun n (s : State) =>
    let x := s.ecomp e
    let k := 3 * n + p.t
    let bits := ((rows[n]?).getD []).map (·.1)
    let (c, capped) := (x.rc.get (fun _ => {}) k).picture p.data p.lay n p.t intra bits
    let s := s.setEcomp e { x with rc := x.rc.set (fun _ => {}) k c }
    let s := if c.floor then s.bump Fld.VEE0_FLOOR_COUNT else s
    if capped then s.bump Fld.VEE0_DEBT_CAP_COUNT else s) s

/-! ### Release (R290 to R293) -/

/-- The packets of quarter q: rows floor(q × R_s ÷ 4) to floor((q + 1) × R_s ÷ 4) − 1 of every spatial layer, in layer and then row order,
(R290), with what marks their layers (R281): the frame-marking extension of an H.264 packet, the
descriptor of an AV1 packet. `k` numbers the free values: their payload bytes, the marking's data, and the length of a descriptor. -/
def quarterPkts (p : PicPlan) (rows : List (List (Nat × List Nat))) (q k : Nat) : List Media :=
  ((List.range (ECOMP.SPATIAL p.data)).map (fun n =>
    let l := (rows[n]?).getD []
    let R := rowsOf p.data n
    let part := (l.drop (q * R / 4)).take ((q + 1) * R / 4 - q * R / 4)
    let codec := ECOMP.CODEC p.data
    let lens := ((part.map (·.2)).flatten).map (Nat.min (orElse (ECOMP.MAX_PAYLOAD p.data) 1200))
    (lens.zip (List.range lens.length)).map (fun x =>
      let free (at_ len : Nat) := (List.range len).map (fun i => Config.encodedByte k (16384 * n + x.2) (at_ + i))
      (⟨n, p.t, if codec = 1 then free 65536 3 else [], if codec = 3 then free 131072 (Config.descriptorLen k (16384 * n + x.2)).toNat.succ else [],
        free 0 x.1, none⟩ : Media)))).flatten

/-- The release tick of quarter q (R290). -/
def quarterTick (p : PicPlan) (q : Nat) : Nat := p.tick + composeTicks p.lay + 2 + q + ECOMP.LAG p.data

/-- The hard limit of quarter q, in ns of logical time. -/
def quarterLimit (p : PicPlan) (q : Nat) : Nat := boundaryNs (quarterTick p q) + 500000

/-- The plan of a frame tick. -/
def State.planOf (s : State) (e frame : Nat) : Option PicPlan := (s.ecomp e).plans.find? (fun p => decide (p.frame = frame))

/-- Quarter q of a picture goes to the OSTRs. -/
def State.releaseQuarter (s : State) (e : Nat) (p : PicPlan) (rows : List (List (Nat × List Nat))) (q : Nat) : State :=
  let (k, s) := s.fresh
  s.forwardQuarter (quarterTick p q) p.frame q ⟨1, e, p.ts, p.tick, p.t, p.whole, []⟩ (quarterPkts p rows q k)

/-- An encode miss (R292): the quarter and those after it are discarded. -/
def State.encodeMiss (s : State) (e : Nat) : State :=
  let s := s.requestSweep e
  let s := (s.bumpSat Fld.VEE0_LATE_MISS).contained
  s.postLimited (ECOMP.EVQ (s.ecompRec e)) 0x0C 0xB0 e true 1 0

/-- A picture of ECOMP e comes out of its encode, its quarters from `q` on still to be released (R287, R290, R291, R293). -/
def State.encodePicDeliver (s : State) (e frame q : Nat) (compLate : Bool) (f : TaskFacts) : State :=
  match s.planOf e frame with
  | none => s
  | some p =>
    let x := s.ecomp e
    let evq := ECOMP.EVQ p.data
    let s := forEach f.poison (fun k (s : State) => (s.bump Fld.VEE0_POISON_COUNT).post evq 0x0C 0xB4 e k.1) s
    let forced := !p.key && (x.forced || f.poison.any (fun k => decide (k.1 ≠ 1)))
    let repeats := !forced && (compLate || f.poison.any (fun k => decide (k.1 = 1)))
    let s := s.setEcomp e { x with forced := false, plans := x.plans.filter (fun y => decide (y.frame ≠ frame)) }
    let s := s.rateControl e p (p.key || forced) f.rows
    let s := if repeats then
        ((s.bumpSat Fld.VEE0_LATE_REPEAT).contained).postLimited evq 0x0C 0xB1 e true 1 0
      else s
    let s := if p.key then (s.bump Fld.VEE0_SWEEPS_KEYS).post evq 0x0C 0xB2 e frame else s
    forEach ((List.range 4).filter (fun n => decide (q ≤ n))) (fun n s => s.releaseQuarter e p f.rows n) s

/-- An encode FAILED (R305): a miss for the quarters not yet released, and the next picture is forced intra. -/
def State.encodeFailed (s : State) (e frame q : Nat) : State :=
  let x := s.ecomp e
  let s := s.setEcomp e { x with forced := true, plans := x.plans.filter (fun y => decide (y.frame ≠ frame)) }
  if q < 4 then s.encodeMiss e else s

/-! ### Start and end -/

/-- An ECOMP takes effect at tick t. -/
def State.ecompStart (s : State) (e t : Nat) : State := s.setEcomp e { effective := true, born := t }

/-- An ECOMP is deleted (R295): its tasks are cancelled and packets not yet released discarded. -/
def State.ecompEnd (s : State) (e : Nat) : State :=
  let s := s.cancelTasks (fun t => decide (t.flow = 5120 + e))
  let mine := (s.followers 1 e).map (·.1)
  let gone := s.pkts.filterMap (fun p => match p.2 with
    | some k => if k.kind = .video ∧ mine.contains k.ostr = true then some k else none
    | none => none)
  let s := forEach gone (fun k s => (s.unqueue k.leg k.id).dropPkt k.id) s
  s.setEcomp e {}

/-! ### VEE0 page -/

/-- A write of VEE0_EC_SEL starts a fetch. -/
def State.ecSelWrite (s : State) (w : Word) : State :=
  s.checked Reg.VEE0_EC_SEL w (fun _ => none)
    (fun s => (((s.applyWrite Reg.VEE0_EC_SEL w).fetchStart Reg.VEE0_EC_SEL).unvalid Reg.VEE0_EC_STATE).unvalid Reg.VEE0_EC_DEBT)

/-- VEE0_EC_SEL. -/
def execVee0EcSel (e n t : Nat) (s : State) : Out := .next (s.ecSelWrite (BitVec.ofNat 32 (t * 2 ^ 18 + n * 2 ^ 16 + e)))

/-- The fetch completes: the layer's sweep, floor mode, QP0, J and debt, with one GEN. -/
def State.ecFetch (s : State) : State :=
  let x := s.ecomp (s.get Fld.VEE0_EC_SEL_ECOMP)
  let c := x.rc.get (fun _ => {}) (3 * s.get Fld.VEE0_EC_SEL_S + s.get Fld.VEE0_EC_SEL_T)
  let gen := s.nextGen Reg.VEE0_EC_STATE
  let w := x.kind * 2 ^ 22 + b2n x.accelWait.isSome * 2 ^ 21 + b2n c.floor * 2 ^ 20 + c.qp0 % 256 * 2 ^ 12 + x.j % 1024
  (s.postResultGen Reg.VEE0_EC_STATE gen w).postResultGen Reg.VEE0_EC_DEBT gen (Nat.min 16777215 c.debt)

end Sys2Proof.Machine
end

