-- ==== Sys2Proof/Machine/VideoComp.lean ====
section
/-! DEFINITION. Layouts and compositions (spec/13_video_composition.md, R258 to R277): the record's layers, what each video layer shows at
a frame boundary, and late and poisoned compositions. -/

namespace Sys2Proof.Machine

/-! ### The record (R258 to R260) -/

/-- Video layer v of a LAYOUT record. -/
def vlayer (r v : Nat) : Nat := recField r (32 + 16 * v) 0 128
/-- Graphic layer g of a LAYOUT record. -/
def glayer (r g : Nat) : Nat := recField r (288 + 24 * g) 0 192

/-- A layout's output buffers (R263): 4 of R249. -/
def layoutBytes (r : Nat) : Nat := 4 * bufferBytes (LAYOUT.WIDTH r) (LAYOUT.HEIGHT r) (decide (LAYOUT.DEPTH10 r = 1))

/-! ### What a video layer shows (R264 to R266) -/

/-- A source a layer may show: what a candidate is, and its timestamp or frame tick. -/
abbrev Candidate := Shown × Nat

/-- Candidate a comes after b: by the signed 32-bit difference for a VSTR, by frame tick for a LAY. -/
def laterThan (kind a b : Nat) : Bool := if kind = 1 then decide (0 < tsDiff a b) else decide (b < a)

/-- The compositions of a source layout that are candidates at an instant. -/
def State.layCandidates (s : State) (l at_ : Nat) : List Candidate :=
  ((s.layout l).comps.filter (fun c => c.done && !c.late && !c.spoiled && decide (c.due ≤ at_))).map (fun c => (Shown.lay l c.frame, c.frame))

/-- The candidates of a source at an instant (R264). -/
def State.layerCandidates (s : State) (kind src at_ : Nat) : List Candidate :=
  if kind = 1 then (s.candidates src at_).map (fun p => (Shown.pic p, p.ts)) else s.layCandidates src at_

/-- The greatest candidate. -/
def newest (kind : Nat) : List Candidate → Option Candidate
  | [] => none
  | c :: t =>
    match newest kind t with
    | none => some c
    | some d => if laterThan kind c.2 d.2 then some c else some d

/-- The source holds a picture newer than `last` that is not shown (R265): released to decode at or before tick F and no candidate, or a
composition of a later frame tick. -/
def State.heldNewer (s : State) (kind src last F at_ : Nat) : Bool :=
  if kind = 1 then
    let x := s.dec src
    x.queue.any (fun j => decide (j.release ≤ F) && laterThan 1 j.ts last) ||
      x.pics.any (fun p => decide (p.release ≤ F) && laterThan 1 p.ts last && (p.late || p.spoiled || decide (at_ < boundaryNs p.due)))
  else (s.layout src).comps.any (fun c => decide (last < c.frame))

/-- The tick the source took effect in, none when it is gone: a deleted VSTR or one with DECODE cleared, a deleted layout (R266). -/
def State.sourceBorn (s : State) (kind src : Nat) : Option Nat :=
  if kind = 1 then
    if (s.vstr src).effective ∧ VSTR.DECODE (s.vstrRec src) = 1 then some (s.dec src).born else none
  else if (s.layout src).effective then some (s.layout src).born else none

/-- A repeat counted STALE (R265): in CMP0_STALE, and as LAYER_STALE at most once per second per layer. -/
def State.stale (s : State) (lay r v : Nat) : State :=
  (s.bump Fld.CMP0_STALE_COUNT).postWindow (LAYOUT.EVQ r) 0x0B 0xA3 lay v 256 1 v

/-- Video layer v of layout `lay` at frame tick k, boundary instant at_ owned by tick F: its state after (R264 to R266). -/
def State.layerStep (s : State) (lay r k F at_ v : Nat) : State :=
  let x := s.layout lay
  let e := vlayer r v
  let kind := VLAYER.SRC_KIND e
  let src := VLAYER.SRC e
  let old := x.layers.get (fun _ => {}) v
  let put (s : State) (y : LayerState) : State :=
    let x := s.layout lay
    s.setLayout lay { x with layers := x.layers.set (fun _ => {}) v y }
  if kind = 0 then put s { stale := old.stale }
  else
    let born := s.sourceBorn kind src
    let same := decide (old.state ≠ 0) && decide (old.kind = kind) && decide (old.src = src) && decide (born = some old.born)
    let cur : LayerState := if same then old else { state := 1, kind := kind, src := src, born := born.getD 0, stale := old.stale }
    let cands := if born.isNone then [] else s.layerCandidates kind src at_
    match newest kind cands with
    | none =>
      if cur.state = 2 ∧ s.heldNewer kind src cur.last F at_ = true then put (s.stale lay r v) { cur with stale := (cur.stale + 1) % 65536 }
      else put s cur
    | some (c, n) =>
      if cur.state = 1 then
        let s := put s { cur with state := 2, shown := c, last := n }
        s.post (LAYOUT.EVQ r) 0x0B 0xA2 lay (k % 2 ^ 24 * 256 + v)
      else if laterThan kind n cur.last then put s { cur with shown := c, last := n }
      else if s.heldNewer kind src cur.last F at_ then put (s.stale lay r v) { cur with stale := (cur.stale + 1) % 65536 }
      else put s cur

/-- What the enabled video layers show, by number. -/
def Layout.shownLayers (x : Layout) : List (Nat × Shown) :=
  (List.range 16).filterMap (fun v =>
    let y := x.layers.get (fun _ => {}) v
    if y.state = 0 then none else some (v, if y.state = 2 then y.shown else .fill))

/-! ### Frame boundaries (R262) -/

/-- The composition of layout `lay` at its next frame boundary, committed records already in effect: the layers select, the COMPOSE task
and the encode of ECOMP L are submitted, and the boundary after it is set. -/
def State.composeAt (s : State) (lay : Nat) : State :=
  let x := s.layout lay
  if !x.effective then s
  else
    let r := s.layRec lay
    let (k, at_) := x.next
    let F := at_ / 1000000
    let s := forUpTo 16 (fun v s => s.layerStep lay r k F at_ v) s
    let x := s.layout lay
    let c : Composition := { frame := k, tick := F, due := composeDue r F, data := r, layers := x.shownLayers }
    let n := frameAfter r at_
    let s := s.setLayout lay { x with comps := lastN 256 (x.comps ++ [c]), next := (n, frameNs r n) }
    let s := s.submitTask { typ := .compose, level := taskLevel .compose false, port := 1, flow := 4096 + lay, key := lay, start := at_, hard := c.due,
                            leases := [(4096 + lay, true)], work := .compose lay k, tick := k }
    s.planPicture lay k F at_

/-- Change the composition of a frame tick. -/
def State.modComp (s : State) (lay frame : Nat) (f : Composition → Composition) : State :=
  let x := s.layout lay
  s.setLayout lay { x with comps := x.comps.map (fun c => if c.frame = frame then f c else c) }

/-- The composition of a frame tick. -/
def State.compOf (s : State) (lay frame : Nat) : Option Composition := (s.layout lay).comps.find? (fun c => decide (c.frame = frame))

/-- A composition has not finished at its due boundary (R274). -/
def State.composeLate (s : State) (lay frame : Nat) : State :=
  let s := s.modComp lay frame (fun c => { c with late := true })
  let s := (s.bump Fld.CMP0_LATE_COUNT).contained
  s.postLimited (LAYOUT.EVQ (s.layRec lay)) 0x0B 0xA0 lay true 1 0

/-- A layer's picture is never a candidate again (R275). -/
def State.spoil (s : State) (k : Shown) : State :=
  match k with
  | .fill | .blank => s
  | .pic p =>
    let x := s.dec p.vstr
    s.setDec p.vstr { x with pics := x.pics.map (fun q => if q.picnum = p.picnum then { q with spoiled := true } else q) }
  | .lay l n => s.modComp l n (fun c => { c with spoiled := true })

/-- One poisoned read of a composition (R275): a video layer shows its fill, a graphic layer is left out. -/
def State.composePoison (s : State) (lay frame layer : Nat) : State :=
  let s := (s.bump Fld.CMP0_POISON_COUNT).post (LAYOUT.EVQ (s.layRec lay)) 0x0B 0xA1 lay layer
  if layer < 16 then
    let k := match s.compOf lay frame with
      | some c => match c.layers.find? (fun p => decide (p.1 = layer)) with | some p => p.2 | none => .fill
      | none => .fill
    let s := s.spoil k
    let s := s.modComp lay frame (fun c => { c with layers := c.layers.map (fun p => if p.1 = layer then (p.1, .blank) else p) })
    let x := s.layout lay
    let y := x.layers.get (fun _ => {}) layer
    if y.shown = k then s.setLayout lay { x with layers := x.layers.set (fun _ => {}) layer { y with shown := .blank } } else s
  else s.modComp lay frame (fun c => { c with omitted := c.omitted ++ [layer - 16] })

/-- A composition is complete, LATE or not (R262, R274). -/
def State.composeDeliver (s : State) (lay frame : Nat) (f : TaskFacts) : State :=
  let s := forEach (f.poison.map (·.2)) (fun n s => s.composePoison lay frame n) s
  let s := s.modComp lay frame (fun c => { c with done := true })
  match s.compOf lay frame with
  | none => s
  | some c => let x := s.layout lay; s.setLayout lay { x with last := some (frame, c.late) }

/-! ### Start and end -/

/-- A layout takes effect at the boundary set for it. -/
def State.layoutStart (s : State) (lay t : Nat) : State := let x := s.layout lay; s.setLayout lay { x with effective := true, born := t }

/-- A layout is deleted: its tasks are cancelled. -/
def State.layoutEnd (s : State) (lay : Nat) : State :=
  let s := s.cancelTasks (fun t => decide (t.flow = 4096 + lay))
  s.setLayout lay {}

/-! ### CMP0 page -/

/-- A write of CMP0_LAY_SEL starts a fetch. -/
def State.laySelWrite (s : State) (w : Word) : State :=
  s.checked Reg.CMP0_LAY_SEL w (fun _ => none)
    (fun s => (((s.applyWrite Reg.CMP0_LAY_SEL w).fetchStart Reg.CMP0_LAY_SEL).unvalid Reg.CMP0_LAY_STATE).unvalid Reg.CMP0_LAYER_STATE)

/-- CMP0_LAY_SEL. -/
def execCmp0LaySel (lay layer : Nat) (s : State) : Out := .next (s.laySelWrite (BitVec.ofNat 32 (layer * 2 ^ 16 + lay)))

/-- The fetch completes: the layout's and the video layer's state, with one GEN. -/
def State.layFetch (s : State) : State :=
  let x := s.layout (s.get Fld.CMP0_LAY_SEL_LAY)
  let y := x.layers.get (fun _ => {}) (s.get Fld.CMP0_LAY_SEL_LAYER)
  let gen := s.nextGen Reg.CMP0_LAY_STATE
  let (k, late) := x.last.getD (0, false)
  let s := s.postResultGen Reg.CMP0_LAY_STATE gen (b2n x.effective * 2 ^ 23 + b2n late * 2 ^ 22 + k % 2 ^ 22)
  s.postResultGen Reg.CMP0_LAYER_STATE gen (y.state * 2 ^ 22 + y.stale)

end Sys2Proof.Machine
end

