-- ==== Sys2Proof/Machine/Reeve.lean ====
section
/-! DEFINITION. Reeve (spec/15_reeve_dispatch.md, R297 to R312): what a dispatched task computes, release in flow order, hard limits, engine
faults and recovery, cancellation, and the known-answer tests of R452 and R453. -/

namespace Sys2Proof.Machine

/-- The queue of Reeve's events. -/
def State.reeveEvq (s : State) : Nat := s.get Fld.REEVE_CFG_EVQ

/-! ### Work -/

/-- A task just dispatched begins: a kernel on its core. A graph segment's results are those of its completion, decodes and encodes are computed from what was admitted
(R24, R25), and pictures as their results are released, in flow order. -/
def State.runWork (s : State) (i : Nat) : State :=
  match s.task i with
  | none => s
  | some t =>
    match t.work with
    | .kernel tick node => (s.modTask i (fun u => { u with ran := true })).kernelStart tick node (t.engine % 256)
    | .none | .confBus _ _ | .program _ _ | .confOut _ _ | .decode _ _ | .encode _ _ | .player _ _ | .picture _ _ | .scale _ _ | .compose _ _ | .encodePic _ _ => s

/-- A graph segment runs. -/
def State.graphRun (s : State) (w : Work) (late : Bool) : State :=
  match w with
  | .confBus tick c => s.busRun tick c late
  | .program tick seg => s.segmentRun tick seg
  | .confOut tick c => s.confOutRun tick c
  | .none | .kernel _ _ | .decode _ _ | .encode _ _ | .player _ _ | .picture _ _ | .scale _ _ | .compose _ _ | .encodePic _ _ => s

/-- A task completes: a graph segment whose limit has not passed gives its results; of one that ran late, the node states stand (R192). -/
def State.finishRun (s : State) (t : Task) : State := if t.late then s.dropUndo t.work else s.graphRun t.work false

/-! ### Release (R299, R304, R305) -/

/-- A task's result OK reaches its consumer. -/
def State.deliverOk (s : State) (t : Task) : State :=
  match t.work with
  | .none | .confBus _ _ | .program _ _ | .confOut _ _ => s
  | .kernel tick node => s.dropIns tick node
  | .player tick n => s.playerDecoded n tick true
  | .decode tick legs => forEach legs (fun l (s : State) => s.setLegA l { s.legA l with decoding := decodedAt tick (s.legA l).decoding }) s
  | .encode tick legs => forEach legs (fun l s => s.encodeDeliver tick l t.late) s
  | .picture v ts | .scale v ts => s.decodeDeliver v ts t.late false t.facts
  | .compose l k => s.composeDeliver l k t.facts
  | .encodePic e k => s.encodePicDeliver e k t.quarter (match s.compOf e k with | some c => c.late | none => true) t.facts

/-- A task's CANCELLED release: no output (R254, R308). -/
def State.deliverCancelled (s : State) (t : Task) : State :=
  let s := s.bump Fld.REEVE_OUTCOMES_CANCELLED
  match t.work with
  | .picture v ts | .scale v ts => s.decodeDrop v ts
  | .none | .confBus _ _ | .program _ _ | .confOut _ _ | .kernel _ _ | .player _ _ | .decode _ _ | .encode _ _ | .compose _ _ | .encodePic _ _ => s

/-- A kernel's outputs of this tick are zero (R216, R305). -/
def State.kernelZero (s : State) (node : Nat) : State :=
  match s.audio.tickNodes.find? (fun g => decide (g.num = node)) with
  | none => s
  | some g =>
    match g.kind with
    | .custom _ _ _ outs _ => forUpTo outs (fun i s => s.setPortBlock node i (silence (domN g.dom))) s
    | .source _ | .sink _ | .gain _ | .mix _ | .mixMinus | .eq _ | .gate _ | .limiter _ | .delay _ | .bridge | .meter _ _ _ => s

/-- A task's FAILED release and its consumer's handling (R305, R307, R312). -/
def State.deliverFailed (s : State) (t : Task) : State :=
  let s := (s.bump Fld.REEVE_OUTCOMES_FAILED).contained
  let code := match t.typ with
    | .decodePic => 0 | .encodePic => 1 | .compose => 2 | .audioTick => 3 | .audioCodec => 4 | .customKernel => 5 | .scale => 6
  let s := (s.post s.reeveEvq 0x0D 0xC2 t.flow (code * 2 ^ 16 + t.fseq)).event reevePage 3
  match t.work with
  | .none => s
  | .player tick n => s.playerDecoded n tick false
  | .confBus tick _ | .program tick _ | .confOut tick _ => if t.late then s.restoreUndo t.work else s.segmentLate tick t.work
  | .kernel tick node => (if t.late then s else s.kernelZero node).dropIns tick node
  | .decode tick legs => forEach legs (fun l (s : State) => s.setLegA l ((s.legA l).decodeFailed tick)) s
  | .encode tick legs => forEach legs (fun l s => s.encodeLost tick l) s
  | .picture v ts | .scale v ts => s.decodeDeliver v ts t.late true {}
  | .compose l k => if t.late then s else s.composeLate l k
  | .encodePic e k => s.encodeFailed e k t.quarter

/-- Whether a task may be released in its turn: finished, and no engine still stopping on it. -/
def Task.releasable (t : Task) : Bool := t.finished && !t.cancelledRun

/-- The results at the head of a flow are released in FSEQ order, and their slots freed (R304). -/
def State.releaseFlow (s : State) (flow : Nat) : Nat → State
  | 0 => s
  | fuel + 1 =>
    match s.flowHead flow with
    | none => s
    | some (i, t) =>
      if !t.releasable then s
      else
        let s := s.setTask i none
        let s := match t.state with
          | .cancelled => s.deliverCancelled t
          | .failed => s.deliverFailed t
          | .waiting | .ready | .running | .held => s.deliverOk t
        State.releaseFlow s flow fuel

/-- Freed slots go to stalled submissions; one cancelled meanwhile is released at once when it heads its flow (R308, R309). -/
def State.settle (s : State) : Nat → State
  | 0 => s
  | fuel + 1 =>
    let s := s.drainStalled 4096
    match s.tasks.find? (fun p => decide (p.2.state = .cancelled) && p.2.releasable && decide ((s.flowHead p.2.flow).map (·.1) = some p.1)) with
    | none => s
    | some p => State.settle (s.releaseFlow p.2.flow (s.tasks.length + 1)) fuel

/-- Submissions that stalled ports keep. -/
def State.stalledCount (s : State) : Nat := sumBy (fun p => p.2.length) s.reeve.stalled

/-- Release what a flow can release, and what stalled submissions make of the freed slots. -/
def State.releaseTurn (s : State) (flow : Nat) : State :=
  ((s.releaseFlow flow (s.tasks.length + 1)).settle (s.stalledCount + 1)).showReeve

/-- Release what every flow can release, after cancellations. -/
def State.releaseAll (s : State) : State :=
  let flows := (s.tasks.filter (fun p => p.2.releasable)).map (fun p => p.2.flow)
  forEach flows (fun f s => s.releaseTurn f) s

/-! ### TASK_SUBMIT, TASK_DISPATCH, TASK_COMPLETE -/

/-- A task type by its code of R311. -/
def taskTypeOf (c : Nat) : Option TaskType :=
  if c = 0 then some .decodePic else if c = 1 then some .encodePic else if c = 2 then some .compose else if c = 3 then some .audioTick
  else if c = 4 then some .audioCodec else if c = 5 then some .customKernel else none

/-- The flow of a task of a type for an object (R297). -/
def taskFlow (t : TaskType) (second : Bool) (cluster key : Nat) : Nat :=
  match t with
  | .decodePic | .scale => key
  | .encodePic => 5120 + key
  | .compose => 4096 + key
  | .audioTick | .customKernel => millFlow cluster key
  | .audioCodec => millFlow cluster (if second then 255 else key)

/-- The object and cluster numbers of a task are in range (R12). -/
def taskKeyOk (t : TaskType) (cluster key : Nat) : Bool :=
  match t with
  | .decodePic | .scale => decide (key < 4096)
  | .encodePic | .compose => decide (key < 1024)
  | .audioTick | .customKernel | .audioCodec => decide (cluster < 8)

/-- The ports that submit a type (R297). -/
def taskPortOk (t : TaskType) (second : Bool) (port : Nat) : Bool :=
  match t with
  | .decodePic => decide (port = 2) || decide (port = 3)
  | .encodePic | .compose => decide (port = 1)
  | .audioTick | .customKernel => decide (port = 0)
  | .audioCodec => decide (port = if second then 4 else 0)
  | .scale => false

/-- TASK_SUBMIT: a producer port submits a task of a type for an object (`second`: a NONLIVE ECOMP, a recall player), which takes a slot
or stalls (R298, R309). A port submits only the types of its rows of R297, for objects that R12 numbers. The tasks of pictures, frames and ticks, with their work,
come from the boundaries that make them. -/
def execTaskSubmit (typ port key : Nat) (second : Bool) (cluster : Nat) (s : State) : Out :=
  match taskTypeOf typ with
  | none => .next s
  | some t =>
    if taskPortOk t second port && taskKeyOk t cluster key then
      let f := taskFlow t second cluster key
      .next (s.submitTask { typ := t, level := taskLevel t second, port := port, flow := f, key := key, start := s.lnow, hard := s.lnow + 1000000,
                            leases := [(f, true)], work := .none, tick := s.ltick, stage := s.lnow, dep := key })
    else .next s

/-- TASK_DISPATCH: one NET cycle with an idle engine and a READY task (R300 to R303): tasks become READY, are paired with engines, and
begin. -/
def execTaskDispatch (s : State) : Out :=
  let (l, s) := s.makeReady.pair
  .next ((forEach l (fun i s => s.runWork i) s).showReeve)

/-- Count a task an engine completed on its page. -/
def State.countEngine (s : State) (e : Nat) (t : Task) : State :=
  let n := e % 256
  match t.work with
  | .picture v ts => (s.bump64 (Reg.VDEn_PIXELS_LO n) (s.decodeSamples v ts)).bump (Fld.VDEn_PICS_COUNT n)
  | .encodePic c _ => (s.bump64 (Reg.VEEn_PIXELS_LO n) (ecompSamples (s.ecompRec c))).bump (Fld.VEEn_PICS_COUNT n)
  | .compose l k =>
    let r := match s.compOf l k with | some c => c.data | none => 0
    (s.bump64 (Reg.CMPn_PIXELS_LO n) (LAYOUT.WIDTH r * LAYOUT.HEIGHT r)).bump (Fld.CMPn_FRAMES_COUNT n)
  | .none | .confBus _ _ | .program _ _ | .confOut _ _ | .kernel _ _ | .decode _ _ | .encode _ _ | .player _ _ | .scale _ _ => s

/-- A Mill core still runs its kernel. -/
def State.kernelRuns (s : State) (e : Nat) (t : Task) : Bool :=
  match t.work with
  | .kernel _ _ => decide ((s.core (e % 256)).mode = .service)
  | .none | .confBus _ _ | .program _ _ | .confOut _ _ | .decode _ _ | .encode _ _ | .player _ _ | .picture _ _ | .scale _ _ | .compose _ _
  | .encodePic _ _ => false

/-! ### Hard limits (R23, R192, R204, R216, R247, R274, R292, R307) -/

/-- Some engine that may run the task is IN_SERVICE. -/
def State.hasEngine (s : State) (t : Task) : Bool :=
  allEngines.any (fun e => t.mayRun e && decide (s.get (Fld.PG_STATUS_SERVICE (enginePage e)) = 0) && !(s.eng e).retired)

/-- The effect of a task's lateness on its consumer. -/
def State.lateEffect (s : State) (t : Task) : State :=
  match t.work with
  | .none | .encodePic _ _ => s
  | .player _ _ => s.contained
  | .confBus tick _ | .program tick _ | .confOut tick _ =>
    (if t.state = .held then s else (s.keepUndo t.work).graphRun t.work true).segmentLate tick t.work
  | .kernel tick node => (if t.ran then s else s.keepIns tick node).segmentLate tick t.work
  | .decode tick legs => s.codecLate tick false legs
  | .encode tick legs => s.codecLate tick true legs
  | .picture v _ | .scale v _ => s.decodeLate v
  | .compose l k => s.composeLate l k

/-- The quarter of picture k of ECOMP e that its task holds at its limit is released. -/
def State.quarterDue (s : State) (i e k : Nat) (t : Task) (f : TaskFacts) : State :=
  match s.planOf e k with
  | none => s
  | some p =>
    let s := s.releaseQuarter e p f.rows t.quarter
    s.modTask i (fun u => { u with quarter := t.quarter + 1, hard := quarterLimit p (t.quarter + 1), late := decide (t.quarter = 3) })

/-- An encode task at its limit: a running one with the facts of its quarter releases it, any other that still may run misses the picture. -/
def State.encodeLimit (s : State) (i e k : Nat) (t : Task) (dead : Bool) (quarter : Option TaskFacts) : State :=
  match quarter with
  | some f =>
    if (s.planOf e k).isSome then (if t.state = .running ∧ t.quarter < 4 then s.quarterDue i e k t f else s)
    else if t.quarter < 4 ∧ dead = false then (s.encodeMiss e).modTask i (fun u => { u with quarter := 4, late := true })
    else s
  | none => if t.quarter < 4 ∧ dead = false then (s.encodeMiss e).modTask i (fun u => { u with quarter := 4, late := true }) else s

/-- What a task's own work loses or delivers at its limit. -/
def State.limitDue (s : State) (i : Nat) (t : Task) (dead : Bool) (quarter : Option TaskFacts) : State :=
  match t.work with
  | .encodePic e k => s.encodeLimit i e k t dead quarter
  | .none | .confBus _ _ | .program _ _ | .confOut _ _ | .kernel _ _ | .decode _ _ | .encode _ _ | .player _ _ | .picture _ _ | .scale _ _
  | .compose _ _ => (s.modTask i (fun u => { u with late := true })).lateEffect t

/-- Task i reaches its limit: one that cannot run any more fails. -/
def State.limitEnd (s : State) (i : Nat) (t : Task) (quarter : Option TaskFacts) : State :=
  let dead := decide (t.state ≠ .running) && decide (t.state ≠ .held) && !s.hasEngine t
  let s := s.limitDue i t dead quarter
  if dead then (s.modTask i (fun u => { u with state := .failed })).releaseTurn t.flow else s

/-- A task whose limit passed before its engine completed it is late, whether HARD_LIMIT_EXPIRE came or not (R23). -/
def State.overdue (s : State) (i : Nat) : State :=
  match s.task i with
  | none => s
  | some t => if t.timed && decide (t.hard < s.lnow) then s.limitEnd i t none else s

/-- TASK_COMPLETE: an engine completes its task: leases end, a picture to be upscaled becomes a SCALE task in place (R299), any other
result is HELD or released in its turn (R303, R304). -/
def execTaskComplete (e : Nat) (f : TaskFacts) (s : State) : Out :=
  let x := s.eng e
  let s := match x.slot with | some i => if x.resetting || x.fenced.isSome || (s.task i).any (s.kernelRuns e) then s else s.overdue i | none => s
  match x.slot with
  | none => .next s
  | some i =>
    match s.task i with
    | none => .next (s.setEng e (x.freed s.now))
    | some t =>
      if x.resetting || x.fenced.isSome || s.kernelRuns e t then .next s
      else
        let s := s.setEng e (x.freed s.now)
        if t.cancelledRun then
          let s := s.revoke t
          .next ((s.modTask i (fun u => { u with cancelledRun := false })).releaseTurn t.flow)
        else
          let s := (s.countEngine e t).finishRun t
          match t.work with
          | .picture v ts =>
            if s.needsScale v ts then
              .next ((s.modTask i (fun u => { u with typ := .scale, work := .scale v ts, state := .waiting, leases := [], facts := f, ran := false })).showReeve)
            else .next ((s.modTask i (fun u => { u with state := .held, facts := f })).releaseTurn t.flow)
          | .scale _ _ => .next ((s.modTask i (fun u => { u with state := .held })).releaseTurn t.flow)
          | .none | .confBus _ _ | .program _ _ | .confOut _ _ | .kernel _ _ | .decode _ _ | .encode _ _ | .player _ _ | .compose _ _
          | .encodePic _ _ => .next ((s.modTask i (fun u => { u with state := .held, facts := f })).releaseTurn t.flow)

/-- HARD_LIMIT_EXPIRE: the hard limit of a task that is not released passes: its consumer takes the substitute of R22. For an encoded
picture it is the limit of its next quarter, and `quarter` is what the engine coded so far when it finished that quarter in time; otherwise
that quarter and the later ones are discarded (R292). A task not RUNNING that no engine in service may run is FAILED (R307). -/
def execHardLimitExpire (i : Nat) (quarter : Option TaskFacts) (s : State) : Out :=
  match s.task i with
  | none => .next s
  | some t =>
    if t.timed then .next ((s.runTo (t.hard + s.lag)).limitEnd i t quarter) else .next s

/-! ### Faults (R306, R307, R312, R450, R463) -/

/-- Faults of an engine in the last 3,600 s. -/
def State.hourFaults (s : State) (e : Nat) : Nat :=
  Nat.min 3 ((s.eng e).faults.filter (fun t => decide (s.now ≤ t + 3600000000000))).length

/-- The FAULTS register of an engine's page; the Mill's page has none. -/
def State.countFault (s : State) (e : Nat) : State :=
  let n := e % 256
  let h := s.hourFaults e
  if e / 256 = 0 then ((s.bumpSat (Fld.VDEn_FAULTS_TOTAL n)).put (Fld.VDEn_FAULTS_HOUR n) h).event (enginePage e) 1
  else if e / 256 = 1 then ((s.bumpSat (Fld.VEEn_FAULTS_TOTAL n)).put (Fld.VEEn_FAULTS_HOUR n) h).event (enginePage e) 1
  else if e / 256 = 2 then ((s.bumpSat (Fld.CMPn_FAULTS_TOTAL n)).put (Fld.CMPn_FAULTS_HOUR n) h).event (enginePage e) 1
  else s

/-- PG_ID.TYPE and INST of an engine's page. -/
def State.engineType (s : State) (e : Nat) : Nat := s.get (Fld.PG_ID_TYPE (enginePage e))
def State.engineInst (s : State) (e : Nat) : Nat := s.get (Fld.PG_ID_INST (enginePage e))

/-- A core's kernel activation is abandoned with its engine. -/
def State.stopCore (s : State) (e : Nat) : State :=
  if e / 256 = 3 ∧ (s.core (e % 256)).mode = .service then s.setCore (e % 256) { s.core (e % 256) with mode := .idle } else s

/-- An engine that runs a task is reset and fenced: its task waits for the fence (R306 steps 1 and 2). -/
def State.engineAbort (s : State) (e : Nat) (cause : Option Nat) : State :=
  let x := s.eng e
  let s := s.weirFence (engineIdent e).1 (some (engineIdent e).2)
  (s.setEng e { x.freed s.now with resetting := true, fenced := x.slot, cause := cause }).stopCore e

/-- Steps 5 and 6 of R306: the fault is counted, posted and logged; the third within 3,600 s retires the engine. -/
def State.faultCounted (s : State) (e cause flow : Nat) (held : Bool) : State :=
  let recent := (s.eng e).faults.filter (fun t => decide (s.now ≤ t + 3600000000000)) ++ [s.now]
  let s := s.setEng e { s.eng e with faults := recent }
  let s := { s with crier := { s.crier with faults := s.crier.faults + 1 } }
  let s := s.countFault e
  let arg := flow * 2 ^ 16 + cause
  let s := ((s.post s.reeveEvq 0x0D 0xC0 e arg).event reevePage 1).faultEntry 1 0xC0 (s.engineType e) (s.engineInst e) e arg
  let s := if held then s.contained else s
  if 3 ≤ recent.length then
    let s := s.setEng e { s.eng e with retired := true }
    let s := if e / 256 < 3 then s.put (Fld.PG_STATUS_SERVICE (enginePage e)) 1 else s
    let s := (s.post s.reeveEvq 0x0D 0xC1 e recent.length).event reevePage 2
    s.blockFatal 0xC1 (s.engineType e) (s.engineInst e) e recent.length
  else s

/-- An engine faults (R306): it is stopped, reset and fenced. A fault with no task counts at once (R310); with a task it counts when the
fence is empty. A further fault until then is part of the same one. -/
def State.engineFaulted (s : State) (e cause : Nat) : State :=
  let x := s.eng e
  if x.resetting || x.fenced.isSome then s
  else if x.slot.isSome then s.engineAbort e (some cause)
  else (s.engineAbort e none).faultCounted e cause 0 false

/-- ENGINE_FAULT: an engine reports a fault. -/
def execEngineFault (e cause : Nat) (s : State) : Out := .next (if allEngines.contains e then s.engineFaulted e cause else s)

/-- WATCHDOG_EXPIRE: a task runs longer than REEVE_CFG.WDOG ms. -/
def execWatchdogExpire (e : Nat) (s : State) : Out :=
  match (s.eng e).slot with
  | none => .next s
  | some i =>
    match s.task i with
    | none => .next s
    | some t => .next ((s.runTo (t.dispatchAt + s.get Fld.REEVE_CFG_WDOG * 1000000)).engineFaulted e 2)

/-- The engine is out of service or retired: its fence stays. -/
def State.engineOut (s : State) (e : Nat) : Bool := (s.eng e).retired || decide (s.get (Fld.PG_STATUS_SERVICE (enginePage e)) ≠ 0)

/-- An engine that is neither in reset nor fenced loses its fence at Weir, while it is in service (R306 step 6, R379). -/
def State.engineBack (s : State) (e : Nat) : State :=
  if s.engineOut e || (s.eng e).resetting || (s.eng e).fenced.isSome then s else s.weirLift (engineIdent e).1 (some (engineIdent e).2)

/-- Steps 3 and 4 of R306 for the task of a fenced engine: leases are revoked, and the task goes back to READY, or finishes as CANCELLED or, on
its third attempt, as FAILED (R307, R308). -/
def State.fencedTask (s : State) (e i : Nat) (t : Task) (counted : Bool) : State :=
  let s := s.revoke t
  if t.cancelledRun then s.modTask i (fun u => { u with cancelledRun := false })
  else if counted = false then s.requeue i false
  else
    let s := s.modTask i (fun u => { u with excl := u.excl ++ [e] })
    if 3 ≤ t.attempt then s.modTask i (fun u => { u with state := .failed }) else s.requeue i true

/-- The fence of an engine is empty (R306 steps 3 to 6, R307): its task is freed, and the fault that fenced it is counted. -/
def State.fenceEmpty (s : State) (e : Nat) : State :=
  let x := s.eng e
  match x.fenced with
  | none => s
  | some i =>
    let s := s.setEng e { x with fenced := none, cause := none }
    let flow := match s.task i with | some t => t.flow | none => 0
    let s := match s.task i with | some t => s.fencedTask e i t x.cause.isSome | none => s
    let s := match x.cause with | some c => s.faultCounted e c flow true | none => s
    let done := match s.task i with | some u => u.releasable | none => false
    (if done then s.releaseTurn flow else s.showReeve).engineBack e

/-- ENGINE_RESET_DONE: the engine's reset completes; it is idle again unless it is fenced or was retired (R306 step 6). -/
def execEngineResetDone (e : Nat) (s : State) : Out := .next ((s.setEng e { s.eng e with resetting := false }).engineBack e)

/-- TASK_CANCEL_STOP: a cancelled engine has stopped at its internal boundary: its leases are revoked and the task is released in its turn
(R308). -/
def execTaskCancelStop (e : Nat) (s : State) : Out :=
  match (s.eng e).slot with
  | none => .next s
  | some i =>
    match s.task i with
    | none => .next s
    | some t =>
      if t.cancelledRun then
        let s := s.revoke t
        let s := (s.setEng e ((s.eng e).freed s.now)).stopCore e
        .next ((s.modTask i (fun u => { u with cancelledRun := false })).releaseTurn t.flow)
      else .next s

/-- The LOAD register of an engine's page; the Mill's page has none. -/
def State.showLoad (s : State) (e load : Nat) : State :=
  let n := e % 256
  if e / 256 = 0 then s.put (Fld.VDEn_LOAD_LOAD n) load
  else if e / 256 = 1 then s.put (Fld.VEEn_LOAD_LOAD n) load
  else if e / 256 = 2 then s.put (Fld.CMPn_LOAD_LOAD n) load
  else s

/-- A window of 100 ms ends: LOAD is the busy share of each engine in 1/1,000. -/
def State.loadWindow (s : State) : State :=
  forEach (allEngines.filter (fun e => decide (e / 256 < 3))) (fun e (s : State) =>
    let x := s.eng e
    let b := x.busy + (if x.slot.isSome then s.now - x.since else 0)
    (s.setEng e { x with busy := 0, since := if x.slot.isSome then s.now else x.since }).showLoad e (Nat.min 1000 (b / 100000))) s

/-! ### Known-answer tests (R302, R452, R453) -/

/-- The queue of the FAULT page's events. -/
def State.faultEvq (s : State) : Nat := s.get Fld.FAULT_CFG_EVQ

/-- FAULT_TEST_OVERDUE shows which types of engine have an overdue test. -/
def State.showOverdue (s : State) : State :=
  let any (k : Nat) := s.reeve.engines.any (fun p => decide (p.1 / 256 = k) && p.2.overdue)
  s.put Fld.FAULT_TEST_OVERDUE_TYPE (sumBy (fun k => b2n (any k) * 2 ^ k) (List.range 6))

/-- A known-answer test of an engine fails at a chunk (R453). -/
def State.katFail (s : State) (e chunk : Nat) : State :=
  let s := (s.bumpSat Fld.FAULT_TEST_FAIL).post s.faultEvq 0x13 0x01 e chunk
  (s.faultEntry 1 0x01 (s.engineType e) (s.engineInst e) e chunk).engineFaulted e 5

end Sys2Proof.Machine
end

