-- ==== Sys2Proof/Machine/TwinBase.lean ====
section
/-! DEFINITION. A twin's state (spec/17_twin_redundancy.md, R339 to R342, R349, R355 to R358): changes of state, heartbeat paths, and
what becoming SOLE does to sequence numbers and indices. -/

namespace Sys2Proof.Machine

/-- The TWIN page. -/
def twinPage : Nat := 0xA8000

/-- TWIN_STATUS.STATE: 0 OFF, 1 PAIRING, 2 SENIOR, 3 JUNIOR, 4 SILENT, 5 RESYNC, 6 SOLE. -/
def State.twinState (s : State) : Nat := s.get Fld.TWIN_STATUS_STATE

/-- The queue of twin events (R364). -/
def State.twinEvq (s : State) : Nat := s.get Fld.TWIN_CFG_EVQ

/-- The strap role is senior (R339). -/
def State.strapSenior (s : State) : Bool := s.on Fld.GLOBAL_STRAPS_TWIN_SENIOR

/-- The partner's STATE from its latest heartbeat. -/
def State.partnerState (s : State) : Nat := s.get Fld.TWIN_STATUS_PARTNER

/-- The paths that are up, as in TWIN_STATUS.PATHS and the OBJECT of HB_PATH. -/
def Twin.paths (w : Twin) : Nat := b2n w.link.up + 2 * b2n w.pins.up + 4 * b2n w.lan.up

/-- Show the LANs media leaves on, the paths, and the legs held silent (R349, R353). -/
def State.showTwin (s : State) : State :=
  let lans := (s.ownLans 0, s.ownLans 1)
  let s := s.putB Fld.TWIN_STATUS_TX_LANA (lans.1.1 || lans.2.1)
  let s := s.putB Fld.TWIN_STATUS_TX_LANB (lans.1.2 || lans.2.2)
  let s := s.put Fld.TWIN_STATUS_PATHS s.twin.paths
  s.put Fld.TWIN_DIVERGED_LEGS (s.legs.filter (fun p => p.2.silenced)).length

/-- Every SSRC's index limits at the values of R102 (R358). -/
def State.limitsEnd (s : State) : State :=
  let free (x : TxSsrc) : TxSsrc := { x with limit := 281474976710656, limitRtcp := 2147483648 }
  let s := { s with legs := Sparse.mapAll (fun _ => {}) (fun _ g => { g with tx := Sparse.mapAll (fun _ => {}) (fun _ x => free x) g.tx }) s.legs }
  s.put Fld.TWIN_STATUS_LIMITS 0

/-- The SSRCs leg l sends: what it has sent with, and those its records name (R357, R358). -/
def State.sentSsrcs (s : State) (l : Nat) : List Nat :=
  let own := if (s.effRec 1 l).isSome then [LEG.LOCAL_SSRC (s.legRec l)] else []
  let ostrs := ((tableRecs s.gate.effective 7).filter (fun p => decide (OSTR.LEG p.2 = l))).flatMap (fun p =>
    OSTR.SSRC p.2 :: (if OSTR.RTX_PT p.2 = 0 then [] else [OSTR.RTX_SSRC p.2]))
  ((s.leg l).tx.keys ++ own ++ ostrs).eraseDups

/-- Every SSRC of every leg, and of every link's OSTRs, is changed. -/
def State.mapSsrcs (s : State) (f : TxSsrc → TxSsrc) : State :=
  let ls := (s.legs.keys ++ (tableRecs s.gate.effective 1).map (·.1) ++ (tableRecs s.gate.effective 7).map (fun p => OSTR.LEG p.2)).eraseDups
  forEach ls (fun l (s : State) => s.modLeg l (fun g => (s.sentSsrcs l).foldl (fun g x => g.setTx x (f (g.txOf x))) g)) s

/-- The next index of an SSRC at the end of the last common tick: X + 1 of R358, of SRTP and SRTCP. -/
def TxSsrc.atTick (x : TxSsrc) (t : Nat) : Nat × Nat :=
  match (x.log.filter (fun e => decide (e.1 ≤ t))).getLast?, x.log.head? with
  | some e, _ => e.2
  | none, some e => e.2
  | none, none => (x.index, x.rtcpIndex)

/-- The limits of R358: every index above X + SEQ_JUMP counts as exhausted. -/
def State.limitsBegin (s : State) : State :=
  let jump := s.get Fld.TWIN_WAIT_SEQ_JUMP
  let t := s.twin.common
  let lim (x : TxSsrc) : TxSsrc :=
    let n := x.atTick t
    { x with limit := Nat.min 281474976710656 (n.1 + jump), limitRtcp := Nat.min 2147483648 (n.2 + jump) }
  let s := s.mapSsrcs lim
  s.put Fld.TWIN_STATUS_LIMITS 1

/-- The discontinuity of R357, at the first release of a strap junior that became SOLE: SEQ_JUMP on every SSRC's numbers, 0x8000 on each plane's
trailer counter, an accelerated sweep of every ECOMP and a PLI of every VSTR that is decoded or a source of an OSTR. -/
def State.twinJump (s : State) : State :=
  if !s.twin.jumpDue then s
  else
    let jump := s.get Fld.TWIN_WAIT_SEQ_JUMP
    let move (x : TxSsrc) : TxSsrc :=
      let i := x.index + jump
      { x with seq := i % 65536, roc := i / 65536, rtcpIndex := x.rtcpIndex + jump }
    let s := { s with twin := { s.twin with jumpDue := false } }.mapSsrcs move
    let s := forUpTo 2 (fun n s => s.setPlane n { s.plane n with txSeq := ((s.plane n).txSeq + 0x8000) % 65536 }) s
    let s := forEach (tableRecs s.gate.effective 9) (fun p s => s.requestSweep p.1) s
    let sources := ((tableRecs s.gate.effective 7).filter (fun p => decide (OSTR.SRC_KIND p.2 = 0))).map (fun p => OSTR.SRC p.2)
    let s := forEach ((tableRecs s.gate.effective 6).filter (fun p => decide (VSTR.DECODE p.2 = 1) || sources.contains p.1))
      (fun p s => s.requestPli p.1 false false) s
    s.put Fld.TWIN_STATUS_JUMPED 1

/-- What a leg's resynchronisation holds on a twin ends (R353, R363). -/
def State.syncsEnd (s : State) : State :=
  let s := { s with twin := { s.twin with syncs := [], freezes := [], bothLans := [], diverged := [] } }
  { s with legs := Sparse.mapAll (fun _ => {}) (fun _ g => { g with silenced := false }) s.legs }

/-- A change of state (R341): ROLE_CHANGE, and what entering and leaving the state does. -/
def State.enterTwin (s : State) (st : Nat) : State :=
  let was := s.twinState
  if was = st then s
  else
    let s := s.put Fld.TWIN_STATUS_STATE st
    let s := s.put ⟨Reg.PG_STATUS twinPage, 16, 3⟩ st
    let s := { s with twin := { s.twin with since := s.now, stallDue := false } }
    let s := if was = 3 ∨ was = 2 then s.syncsEnd else s
    let s := if st = 2 then (s.limitsEnd).put Fld.TWIN_STATUS_JUMPED 0 else s
    let s := if st = 3 then s.put Fld.TWIN_STATUS_JUMPED 0 else s
    let s := if st = 5 then
        let (k, s) := s.fresh
        let s := { s with twin := { s.twin with copied := false, failedSync := false, blocks := [], store := [] } }
        (s.put Fld.TWIN_COPY_PHASE 1).put Fld.TWIN_COPY_BEHIND (Config.copyMiB k).toNat
      else if was = 5 then (s.put Fld.TWIN_COPY_PHASE 0).put Fld.TWIN_COPY_BEHIND 0
      else s
    let s := if st = 3 then s.wr Reg.TWIN_LAG (BitVec.ofNat 32 (((s.twin.partner.map (·.lag)).getD 0) + 1000000)) else s
    let s := s.showTwin
    (s.post s.twinEvq 0x0F 0xE0 st s.ltick).event twinPage 1

/-- A resynchronisation fails: SILENT, and another try after 10 s (R341, R359). -/
def State.resyncFails (s : State) : State :=
  let s := s.enterTwin 4
  { s with twin := { s.twin with failedSync := true } }

/-- The device becomes SOLE (R341, R356 to R358): a strap junior that was not SENIOR jumps, every other one takes the limits. -/
def State.becomeSole (s : State) : State :=
  let was := s.twinState
  let s := s.enterTwin 6
  if was = 1 then s
  else if !s.strapSenior && decide (was ≠ 2) then { s with twin := { s.twin with jumpDue := true } }
  else s.limitsBegin

/-- The packets and tasks of a device's own are dropped; its engines let their tasks go at their next internal boundary. -/
def State.dropWork (s : State) : State :=
  let s := forEach (s.pkts.filterMap (·.2)) (fun p (s : State) => (s.unqueue p.leg p.id).dropPkt p.id) s
  s.cancelTasks (fun _ => true)

/-- The media tables are empty again (R341): a device whose partner was lost before its copy completed. -/
def State.dropTables (s : State) : State :=
  let s := s.dropWork
  { s with gate := {}, legs := [], confs := [], taps := [], vstrs := [], ostrs := [], ecomps := [], decs := [], layouts := [], rxWin := [],
           legAudio := [], confAudio := [], kernels := [], audio := { s.audio with active := {}, shadow := none, previous := none } }

/-- The partner is lost: all three paths are down (R341, R356). -/
def State.partnerLost (s : State) : State :=
  let st := s.twinState
  if st = 2 ∨ st = 3 ∨ st = 4 then s.becomeSole
  else if st = 5 then
    if s.twin.copied then s.becomeSole
    else ((s.enterTwin 1).dropTables).post s.twinEvq 0x0F 0xE5 0 0
  else s

/-- What the partner's state on the LINK3 path leads to (R341, R360). -/
def State.pairStep (s : State) : State :=
  let st := s.twinState
  let p := s.partnerState
  if !s.twin.link.up then s
  else if st = 1 then
    if p = 2 ∨ p = 6 then s.enterTwin 5
    else if p = 1 then s.enterTwin (if s.strapSenior then 2 else 5)
    else s
  else if st = 4 then if (p = 2 ∨ p = 6) ∧ s.twin.failedSync = false then s.enterTwin 5 else s
  else if st = 6 then
    if p = 5 then s.enterTwin 2
    else if p = 6 then s.enterTwin (if s.strapSenior then 5 else 2)
    else s
  else s

/-- LINK3's path is down while another is up: a JUNIOR goes SILENT, a resynchronisation fails (R341, R356). -/
def State.linkDegraded (s : State) : State :=
  let st := s.twinState
  if st = 3 then s.enterTwin 4 else if st = 5 then s.resyncFails else s

/-- A path goes up or down, with HB_PATH (R355). Paths: 0 LINK3, 1 pins, 2 LAN. -/
def State.setPath (s : State) (i : Nat) (f : HbPath → HbPath) : State :=
  let was := s.twin.paths
  let w := s.twin
  let w := if i = 0 then { w with link := f w.link } else if i = 1 then { w with pins := f w.pins } else { w with lan := f w.lan }
  let s := { s with twin := w }
  if w.paths = was then s
  else ((s.showTwin).post s.twinEvq 0x0F 0xE1 w.paths 0).event twinPage 2

/-- LINK3 leaves UP: its path goes down at once (R355); with another path up the partner is alive (R356). -/
def State.linkPathDown (s : State) : State :=
  if s.twinState = 0 then s
  else
    let s := s.setPath 0 (fun h => { h with up := false, good := 0 })
    if s.twin.paths = 0 then s else s.linkDegraded

/-- The lag at a tick boundary (R340): SENIOR and SOLE close towards 0 at 2,000 ns per tick, a JUNIOR towards its partner's L plus
1,000,000 ns. -/
def State.closeLag (s : State) : State :=
  let st := s.twinState
  let target := if st = 3 then ((s.twin.partner.map (·.lag)).getD 0) + 1000000 else 0
  if (st = 2 ∨ st = 3 ∨ st = 6) ∧ target < s.lag then s.wr Reg.TWIN_LAG (BitVec.ofNat 32 (Nat.max target (s.lag - 2000))) else s

end Sys2Proof.Machine
end

