-- ==== Sys2Proof/Machine/Binath.lean ====
section
/-! DEFINITION. The Binath links (spec/16_binath_cascade.md, R313 to R328, R335 to R338): link states, flits and replay, topology, claims and reverts,
time exchanges, and what messages deliver. -/

namespace Sys2Proof.Machine

/-! ### Topology (R322 to R326) -/

/-- HEIGHT: levels of the subtree below this device. -/
def State.fabHeight (s : State) : Nat := (s.childLinks.foldl (fun h n => Nat.max h ((s.link n).topo.height + 1)) 0)

/-- ROOTED, DEPTH and PATH of this device. -/
def State.fabPlace (s : State) : Bool × Nat × List Nat :=
  let pos := s.get Fld.BINATH0_FABRIC_POS
  if s.fabricMaster then (true, 0, [pos])
  else
    match s.uplinkUp with
    | none => (false, 0, [pos])
    | some u =>
      let t := (s.link u).topo
      if (s.link u).heard then (t.rooted, t.depth + 1, t.path ++ [pos]) else (false, 0, [pos])

/-- The TOPO content this device sends. -/
def State.topoNow (s : State) : Topo :=
  let p := s.fabPlace
  { rooted := p.1, depth := p.2.1, height := s.fabHeight, path := p.2.2 }

/-- Show the device's place in BINATH0_TOPO and the active uplink in BINATHn_STATE. -/
def State.showTopo (s : State) : State :=
  let t := s.topoNow
  let up := s.fab.uplink
  let s := s.put Fld.BINATH0_TOPO_DEPTH (Nat.min 15 t.depth)
  let s := s.put Fld.BINATH0_TOPO_HEIGHT (Nat.min 15 t.height)
  let s := s.putB Fld.BINATH0_TOPO_ROOTED t.rooted
  let s := s.putB Fld.BINATH0_TOPO_LOCAL_ROOT s.fab.localRoot
  let s := s.put Fld.BINATH0_TOPO_UPLINK (up.getD 0)
  let s := s.putB Fld.BINATH0_TOPO_ON_STANDBY (match up with | some n => decide (s.linkRole n = 4) | none => false)
  forUpTo 4 (fun n s => s.putB (Fld.BINATHn_STATE_UPLINK n) (decide (up = some n))) s

/-- A TOPO flit on link n; a REFUSED downlink says so (R323). -/
def State.sendTopo (s : State) (n : Nat) (f : Topo → Topo) : State :=
  let st := s.linkState n
  if (st = 3 ∧ s.linkRole n ≠ 3) ∨ st = 5 then
    let t := s.topoNow
    let t := if s.linkRole n = 2 then { t with refuse := decide (st = 5), accept := decide (st = 3) } else t
    s.sendCtl n 6 (.topo (f t))
  else s

/-- A parent's test of R323 for a child of a HEIGHT. -/
def State.budgetAllows (s : State) (height : Nat) : Bool :=
  let d := s.topoNow.depth + 1
  decide (d + height ≤ s.get Fld.BINATH0_FABRIC_BUDGET) && decide (d ≤ 15)

/-- The link's state as BINATHn_STATE and PG_STATUS show it. -/
def State.showLink (s : State) (n st : Nat) : State := (s.put (Fld.BINATHn_STATE_STATE n) st).put ⟨Reg.PG_STATUS (linkPage n), 16, 3⟩ st

/-- The link enters UP: LINK_UP with the peer's POS. -/
def State.linkUpNow (s : State) (n : Nat) : State :=
  let s := s.showLink n 3
  (s.post s.binathEvq 0x0E 0xD0 n (((s.link n).ident.map Ident.pos).getD 0)).event (linkPage n) 1

/-- The link leaves UP: LINK_DOWN with its reason; a cause R338 gives no code leaves ARG open. -/
def State.linkLeavesUp (s : State) (n : Nat) (reason : Option Nat) : State :=
  let (k, s) := s.fresh
  let s := s.bump (Fld.BINATHn_STATE_DOWN_COUNT n)
  (s.post s.binathEvq 0x0E 0xD1 n (reason.getD (Config.linkDownArg k).toNat)).event (linkPage n) 2

/-- A parent re-evaluates its downlinks (R323): a child beyond the budget is REFUSED, one within it accepted again. -/
def State.reviewChildren (s : State) : State :=
  forUpTo 4 (fun n (s : State) =>
    let st := s.linkState n
    let x := s.link n
    if s.linkRole n ≠ 2 ∨ s.inFabric = false then s
    else if st = 3 ∧ s.budgetAllows x.topo.height = false then
      let s := (s.linkLeavesUp n none).showLink n 5
      let s := s.post s.binathEvq 0x0E 0xD3 n x.topo.height
      s.sendTopo n id
    else if st = 5 ∧ s.budgetAllows x.topo.height = true then
      let s := s.linkUpNow n
      s.sendTopo n id
    else s) s

/-- An unrooted device: in a fabric, not its master, and without a rooted path. -/
def State.unrooted (s : State) : Bool := s.inFabric && !s.fabricMaster && !s.topoNow.rooted

/-- The STANDBY link a device may claim: UP, and not the uplink that failed. -/
def State.claimLink (s : State) : Option Nat :=
  (List.range 4).find? (fun n => decide (s.linkRole n = 4) && decide (s.linkState n = 3) && decide (s.fab.uplink ≠ some n) && !s.fab.serving.contains n)

/-- An unrooted device claims its STANDBY link with switch tick S = current tick + 2 (R324). -/
def State.claim (s : State) : State :=
  match s.claimLink with
  | none => s
  | some n =>
    if !s.unrooted || s.fab.claim.isSome then s
    else
      let t := s.tick + 2
      let s := s.modFab (fun f => { f with claim := some (n, t, false), claimAt := s.now })
      s.sendTopo n (fun q => { q with claim := some t })

/-- LINK0 is UP with a ROOTED peer. -/
def State.link0Rooted (s : State) : Bool := decide (s.linkState 0 = 3) && decide (s.linkRole 0 = 1) && (s.link 0).heard && (s.link 0).topo.rooted

/-- The uplink changes to link n (or to none) now; UPLINK_CHANGE names the switch tick (R324, R326, R338). -/
def State.switchUplink (s : State) (n : Option Nat) (t : Nat) : State :=
  let s := { s with fab := { s.fab with uplink := n } }
  s.post s.binathEvq 0x0E 0xD4 (n.getD 15) (t % 2 ^ 32)

/-- The active uplink runs on a STANDBY link. -/
def State.onStandby (s : State) : Bool := match s.fab.uplink with | some n => decide (s.linkRole n = 4) | none => false

/-- A lost uplink: back to LINK0 at once when the standby path fails and LINK0 has a ROOTED peer, otherwise none (R324, R326). -/
def State.uplinkCheck (s : State) : State :=
  match s.fab.uplink with
  | none => s
  | some u =>
    if s.linkState u = 3 then s
    else if s.onStandby && s.link0Rooted then s.switchUplink (some 0) s.tick
    else s.modFab (fun f => { f with uplink := none })

/-- LINK0 in UP becomes the uplink of a device that has none. -/
def State.uplinkTake (s : State) : State :=
  if s.fab.uplink.isNone && s.inFabric && !s.fabricMaster && decide (s.linkRole 0 = 1) && decide (s.linkState 0 = 3) then
    s.modFab (fun f => { f with uplink := some 0 })
  else s

/-- Since when LINK0 could take the uplink back, when the uplink was last UP, the standby links that still serve, and whether a claim has failed since the device became
unrooted. -/
def State.uplinkNote (s : State) : State :=
  let back := if s.onStandby && s.link0Rooted then some (s.fab.backSince.getD s.now) else none
  let at_ := if s.uplinkUp.isSome then s.now else s.fab.uplinkAt
  let serving := s.fab.serving.filter (fun n => decide (s.linkState n = 3))
  s.modFab (fun f => { f with backSince := back, uplinkAt := at_, serving := serving, retrying := f.retrying && s.unrooted })

/-- TOPO at once on every link when this device's place changed (R323). -/
def State.announce (s : State) : State :=
  let t := s.topoNow
  if t = s.fab.announced then s
  else forUpTo 4 (fun n s => s.sendTopo n id) (s.modFab (fun f => { f with announced := t }))

/-- What a change of links or topology leads to: a lost uplink, the return of LINK0, the first claim of an unrooted device (a failed one is renewed by CLAIM_RETRY), the
review of children, and TOPO (R323 to R326). -/
def State.fabricRefresh (s : State) : State :=
  let s := s.uplinkCheck.uplinkTake.uplinkNote
  let s := if s.unrooted && !s.fab.retrying then s.claim else s
  s.reviewChildren.announce.showTopo

/-- TOPO_SEND: every 100 µs a TOPO flit goes on each UP, STANDBY and REFUSED link (R323). -/
def execTopoSend (n : Nat) (s : State) : Out := if n < 4 then .next (s.sendTopo n id) else .next s

/-- TOPO_RX: the peer's place, a claim, its answer, a revert, or a parent's acceptance (R323, R324, R326). -/
def execTopoRx (n : Nat) (t : Topo) (s : State) : Out :=
  let st := s.linkState n
  if ¬ n < 4 ∨ (st ≠ 3 ∧ st ≠ 5) then .next s
  else
    let s := s.modLink n (fun x => { x with topo := t, heard := true })
    let s := (s.put (Fld.BINATHn_STATE_PEER_HEIGHT n) t.height).put (Fld.BINATHn_STATE_PEER_DEPTH n) t.depth
    let role := s.linkRole n
    let s := match t.claim with
      | some k =>
        let pos := ((s.link n).ident.map Ident.pos).getD 0
        let me := s.topoNow
        let ok := decide (role = 4) && me.rooted && !me.path.contains pos && decide (me.depth + 1 + t.height ≤ s.get Fld.BINATH0_FABRIC_BUDGET)
        let s := if ok ∧ s.tick < k then s.modFab (fun f => { f with grants := f.grants ++ [(n, k)] }) else s
        s.sendTopo n (fun q => { q with accept := ok, refuse := !ok })
      | none => s
    let s := match s.fab.claim with
      | some (l, k, _) =>
        if l ≠ n ∨ t.claim.isSome = true then s
        else if t.accept = true ∧ s.tick < k then s.modFab (fun f => { f with claim := some (l, k, true) })
        else if t.refuse then s.modFab (fun f => { f with claim := none, claimAt := s.now, retrying := true })
        else s
      | none => s
    let s := match t.revert with
      | some k => if s.fab.serving.contains n then s.modFab (fun f => { f with returning := f.returning ++ [(n, k)] }) else s
      | none => s
    let s := if role = 1 ∧ st = 3 ∧ t.refuse = true then (s.linkLeavesUp n none).showLink n 5
      else if role = 1 ∧ st = 5 ∧ t.refuse = false then s.linkUpNow n
      else s
    .next s.fabricRefresh

/-- CLAIM_RETRY: 100 ms after a refusal, or a claim that brought no reply by S, the device claims again (R324). -/
def execClaimRetry (s : State) : Out :=
  if s.unrooted && s.fab.claim.isNone then .next ((s.runTo (s.fab.claimAt + 100000000)).claim) else .next s

/-- FABRIC_REVERT_HOLD_EXPIRE: LINK0 has been UP with a ROOTED peer for HOLD seconds; a REVERT with S = current tick + 2 goes out (R326). -/
def execFabricRevertHoldExpire (s : State) : Out :=
  match s.fab.backSince, s.fab.uplink with
  | some t, some u =>
    if s.fab.revert.isSome then .next s
    else
      let s := s.runTo (t + s.get Fld.BINATH0_REVERT_HOLD * 1000000000)
      let k := s.tick + 2
      let s := s.modFab (fun f => { f with revert := some k })
      .next (s.sendTopo u (fun q => { q with revert := some k }))
  | _, _ => .next s

/-- The claim's switch at its S (R324): to the standby link when it was accepted in time, otherwise the claim has failed. -/
def State.claimSwitch (s : State) (t : Nat) : State :=
  match s.fab.claim with
  | none => s
  | some (l, k, ok) =>
    if t < k then s
    else if ok && decide (s.linkState l = 3) then (s.modFab (fun f => { f with claim := none })).switchUplink (some l) k
    else s.modFab (fun f => { f with claim := none, claimAt := s.now, retrying := true })

/-- Standby links begin and end to serve as downlinks at their switch ticks (R324, R326); UPLINK_CHANGE names the link. -/
def State.servingSwitch (s : State) (t : Nat) : State :=
  let s := forEach (s.fab.grants.filter (fun g => decide (g.2 ≤ t))) (fun g (s : State) =>
    if s.linkState g.1 = 3 then
      (s.modFab (fun f => { f with serving := f.serving ++ [g.1] })).post s.binathEvq 0x0E 0xD4 g.1 (g.2 % 2 ^ 32)
    else s) s
  let s := forEach (s.fab.returning.filter (fun g => decide (g.2 ≤ t))) (fun g (s : State) =>
    (s.modFab (fun f => { f with serving := f.serving.filter (fun n => decide (n ≠ g.1)) })).post s.binathEvq 0x0E 0xD4 g.1 (g.2 % 2 ^ 32)) s
  s.modFab (fun f => { f with grants := f.grants.filter (fun g => decide (t < g.2)), returning := f.returning.filter (fun g => decide (t < g.2)) })

/-- A revert's switch at its S (R326). -/
def State.revertSwitch (s : State) (t : Nat) : State :=
  match s.fab.revert with
  | none => s
  | some k =>
    if t < k then s
    else
      let s := s.modFab (fun f => { f with revert := none })
      if s.link0Rooted then s.switchUplink (some 0) k else s

/-- The local root of R325 begins and ends at a boundary. -/
def State.rootSwitch (s : State) (t : Nat) : State :=
  let local_ := s.unrooted
  if local_ = s.fab.localRoot then s
  else
    let s := s.modFab (fun f => { f with localRoot := local_, gseats := [] })
    s.post s.binathEvq 0x0E 0xD4 (if local_ then 15 else s.fab.uplink.getD 15) (t % 2 ^ 32)

/-- Switches due at the boundary that starts tick t, and whether this device's root changed (R324 to R326, R333). -/
def State.fabricBoundary (s : State) (t : Nat) : State :=
  let wasRoot := s.isRoot
  let wasPath := s.fab.path.head?
  let s := ((s.claimSwitch t).servingSwitch t).revertSwitch t
  let s := s.fabricRefresh.rootSwitch t
  let changed := decide (s.isRoot ≠ wasRoot) || decide (s.topoNow.path.head? ≠ wasPath)
  let path := s.topoNow.path
  (s.modFab (fun f => { f with rootChanged := changed, path := path })).showTopo

/-! ### Link states (R314, R315, R321) -/

/-- The link goes to TRAINING (or DISABLED): replay, queues and partly received messages are gone with it, and an open time exchange counts as missing
(R328, R337). -/
def State.linkReset (s : State) (n st : Nat) (reason : Option Nat) : State :=
  let up := decide (s.linkState n = 3)
  let s := if up then s.linkLeavesUp n reason else s
  let s := s.showLink n st
  let x := s.link n
  let s := s.setLink n { trainAt := s.now, missed := x.missed + b2n x.t1.isSome, badParent := x.badParent }
  let s := if up && decide (s.linkRole n = 3) then s.linkPathDown else s
  s.fabricRefresh

/-- PG_CTRL.ENABLE of the page changes (R314). -/
def State.linkEnable (s : State) (n : Nat) (en : Bool) : State :=
  if en then if s.linkRole n ≠ 0 ∧ s.linkState n = 0 then s.linkReset n 1 none else s
  else if s.linkState n = 0 then s else (s.linkReset n 0 none).put (Fld.BINATHn_STATE_LOCK n) 0

/-- What this device's IDENT carries (R315, R342). -/
def State.ownIdent (s : State) (n : Nat) : Ident :=
  ⟨s.get Fld.BINATH0_FABRIC_FABRIC_ID, s.get Fld.BINATH0_FABRIC_POS, s.linkRole n, s.fabricMaster, s.strapSenior,
    match s.boot.image with | some f => f.version | none => 0, sumBy (fun c => s.get (Fld.DDRCn_CFG_GIB c)) (List.range 8)⟩

/-- Why two ends are incompatible (R315, R342), none when they are compatible. -/
def identMismatch (a b : Ident) : Option Nat :=
  let twin := decide (a.role = 3) && decide (b.role = 3)
  let roles := twin || (decide (a.role = 1) && decide (b.role = 2)) || (decide (a.role = 2) && decide (b.role = 1)) ||
    (decide (a.role = 4) && decide (b.role = 4))
  if a.fabric ≠ b.fabric then some 1
  else if (twin = true ∧ a.pos ≠ b.pos) ∨ (twin = false ∧ a.pos = b.pos) then some 2
  else if !roles then some 3
  else if (a.role = 1 ∧ a.master = true) ∨ (b.role = 1 ∧ b.master = true) then some 4
  else if twin && decide (a.senior = b.senior) then some 5
  else if twin && decide (a.firmware ≠ b.firmware) then some 6
  else if twin && decide (a.dram ≠ b.dram) then some 7
  else none

/-- BINATH_LANE_LOCK: all four lanes lock and deskew; the link enters CHECK and sends IDENT (R314). -/
def execBinathLaneLock (n : Nat) (s : State) : Out :=
  if n < 4 ∧ s.linkState n = 1 then
    let s := (s.showLink n 2).put (Fld.BINATHn_STATE_LOCK n) 15
    .next (s.sendCtl n 3 (.ident (s.ownIdent n)))
  else .next s

/-- BINATH_TRAIN_TIMEOUT: 20 ms without lock restarts training (R314). -/
def execBinathTrainTimeout (n : Nat) (s : State) : Out :=
  if n < 4 ∧ s.linkState n = 1 then
    let s := s.runTo ((s.link n).trainAt + 20000000)
    .next ((s.modLink n (fun x => { x with trainAt := s.now })).bumpSat (Fld.BINATHn_ERR_TRAIN_FAIL n))
  else .next s

/-- BINATH_IDENT_RX: the ends are compatible or not; a parent applies its budget to the child (R315, R323). -/
def execBinathIdentRx (n : Nat) (i : Ident) (s : State) : Out :=
  if n < 4 ∧ s.linkState n = 2 then
    let s := (s.modLink n (fun x => { x with ident := some i })).put (Fld.BINATHn_STATE_PEER_POS n) i.pos
    match identMismatch (s.ownIdent n) i with
    | some r => .next ((s.showLink n 4).post s.binathEvq 0x0E 0xD2 n r)
    | none =>
      let s := if s.linkRole n = 2 ∧ s.inFabric = true ∧ s.budgetAllows 0 = false then
          let s := s.showLink n 5
          s.post s.binathEvq 0x0E 0xD3 n 0
        else s.linkUpNow n
      let s := s.fabricRefresh
      .next (s.sendTopo n id)
  else .next s

/-- BINATH_LOCK_LOST: block lock is lost on a lane (R314). -/
def execBinathLockLost (n lane : Nat) (s : State) : Out :=
  if n < 4 ∧ lane < 4 ∧ 2 ≤ s.linkState n then
    let s := s.put ⟨(Fld.BINATHn_STATE_LOCK n).addr, 4 + lane, 1⟩ 0
    .next (s.linkReset n 1 (some 0))
  else .next s

/-- BINATH_FLIT_TIMEOUT: 1 µs with no flit received (R314). -/
def execBinathFlitTimeout (n : Nat) (s : State) : Out :=
  if n < 4 ∧ (s.linkState n = 3 ∨ s.linkState n = 5) then
    let s := s.runTo ((s.link n).lastRx + 1000)
    .next (s.linkReset n 1 (some 2))
  else .next s

/-- A write of BINATHn_CFG (R314, R321). -/
def State.linkCfgWrite (s : State) (n : Nat) (w : Word) : State :=
  s.checked (Reg.BINATHn_CFG n) w
    (fun s =>
      let role := bits w 0 3
      let ok := decide (role = 0) || (decide (role = 1) && decide (n = 0) && !s.fabricMaster) ||
        (decide (role = 2) && (decide (n ≠ 0) || s.fabricMaster)) || (decide (role = 3) && decide (n = 3) && s.on Fld.GLOBAL_STRAPS_TWIN_EN) ||
        (decide (role = 4) && decide (n ≠ 0))
      if s.on (Fld.PG_CTRL_ENABLE (linkPage n)) then some .state else if ok then none else some .conflict)
    (fun s => s.applyWrite (Reg.BINATHn_CFG n) w)

/-- A write of BINATH0_FABRIC (R322). -/
def State.fabricWrite (s : State) (w : Word) : State :=
  s.checked Reg.BINATH0_FABRIC w
    (fun s => if (List.range 4).any (fun n => s.on (Fld.PG_CTRL_ENABLE (linkPage n))) then some .state else none)
    (fun s =>
      let s := s.applyWrite Reg.BINATH0_FABRIC w
      let s := s.putB Fld.BINATH0_FABRIC_MASTER (s.on Fld.GLOBAL_STRAPS_FABRIC_MASTER && s.inFabric)
      s.fabricRefresh)

/-- A write of BINATH0_FCONFk: an input, in effect from the first tick boundary strictly after it (R329). -/
def State.fconfWrite (s : State) (k : Nat) (w : Word) : State :=
  s.checked (Reg.BINATH0_FCONFk k) w
    (fun s => if s.twinJunior then some .twin else none)
    (fun s => (s.record (.write (Reg.BINATH0_FCONFk k) w.toNat (s.ltick + 1))).applyWrite (Reg.BINATH0_FCONFk k) w)

/-! ### Sending (R316 to R320) -/

/-- SEQ after q. -/
def seqNext (q : Nat) : Nat := (q + 1) % 4096

/-- Channels a REFUSED link may serve: control only, and of it TOPO and TIME (R323). -/
def Link.ready (x : Link) (vc : Nat) : Bool :=
  decide ((x.queues[vc]?).getD [] ≠ []) && decide (0 < (x.credits[vc]?).getD 0)

/-- The channel served next (R319): VC0, VC1, then VC2 and VC3 in the ratio of their weights while both wait. -/
def Link.pick (x : Link) (w2 w3 : Nat) : Option Nat :=
  if x.ready 0 then some 0
  else if x.ready 1 then some 1
  else if x.ready 2 && x.ready 3 then some (if x.share2 * w3 ≤ x.share3 * w2 then 2 else 3)
  else if x.ready 2 then some 2
  else if x.ready 3 then some 3
  else none

/-- Credits to return: the first channel that owes any, at most 63. -/
def Link.returns (x : Link) : Nat × Nat :=
  match (List.range 4).find? (fun vc => decide (0 < (x.owed[vc]?).getD 0)) with
  | none => (0, 0)
  | some vc => (vc, Nat.min 63 ((x.owed[vc]?).getD 0))

/-- A flit leaves with the ACK and the credits of the moment. -/
def Link.sent (x : Link) (f : TxFlit) : Link :=
  let (vc, n) := x.returns
  { x with last := some ⟨f, (x.rxSeq + 4095) % 4096, vc, n⟩, owed := modifyAt (fun o => o - n) vc x.owed }

/-- An IDLE flit. -/
def idleFlit : TxFlit := ⟨0, 0, false, false, 0, 0, 0, none⟩

/-- The next flit of the message at the head of channel vc takes a credit and the next SEQ, and stays for replay. -/
def Link.sendFrom (x : Link) (vc now : Nat) (stamp : Int) : Link :=
  match (x.queues[vc]?).getD [] with
  | [] => x.sent idleFlit
  | m :: rest =>
    let n := Nat.min 240 m.left
    let last := decide (m.left ≤ 240)
    let body := match m.msg with | .timeResp t2 _ => LinkMsg.timeResp t2 stamp | b => b
    let f : TxFlit := ⟨m.kind, vc, !m.started, last, x.txSeq, n, m.chan, if last then some body else none⟩
    let queue := if last then rest else { m with left := m.left - 240, started := true } :: rest
    let both := x.ready 2 && x.ready 3
    let y := { x with queues := modifyAt (fun _ => queue) vc x.queues, credits := modifyAt (fun c => c - 1) vc x.credits,
                      txSeq := seqNext x.txSeq, oldestAt := if x.replay = [] then now else x.oldestAt, replay := x.replay ++ [f],
                      t1 := if m.kind = 4 then some stamp else x.t1,
                      share2 := if vc = 2 ∧ both = true then x.share2 + 1 else x.share2,
                      share3 := if vc = 3 ∧ both = true then x.share3 + 1 else x.share3 }
    y.sent f

/-- BINATH_FLIT_TX: the sender serves replay, then NAK and VC0, VC1, and VC2 with VC3; with nothing to send, or 256 unacknowledged
flits, it sends IDLE (R314, R319, R320). -/
def execBinathFlitTx (n : Nat) (s : State) : Out :=
  if ¬ n < 4 ∨ s.fatalAt.isSome = true ∨ s.pins.extest = true ∨ s.linkState n < 2 ∨ s.linkState n = 4 then .next s
  else
    let x := s.link n
    match x.resend.bind (fun i => (x.replay[i]?).map (fun f => (i, f))) with
    | some (i, f) =>
      let y := if i = 0 then { x with oldestAt := s.now } else x
      .next (s.setLink n ({ y with resend := if i + 1 < x.replay.length then some (i + 1) else none }.sent f))
    | none =>
      if 256 ≤ x.replay.length then .next (s.setLink n (x.sent idleFlit))
      else
        match x.nak with
        | some _ =>
          let f : TxFlit := ⟨2, 0, true, true, x.txSeq, 1, 0, none⟩
          let y := { x with nak := none, txSeq := seqNext x.txSeq, oldestAt := if x.replay = [] then s.now else x.oldestAt, replay := x.replay ++ [f] }
          .next (s.setLink n (y.sent f))
        | none =>
          match x.pick (s.get (Fld.BINATHn_CFG_VC2_W n)) (s.get (Fld.BINATHn_CFG_VC3_W n)) with
          | none => .next (s.setLink n (x.sent idleFlit))
          | some vc =>
            let kind := (((x.queues[vc]?).getD []).head?.map TxMsg.kind).getD 0
            let s := s.setLink n (x.sendFrom vc s.now (s.linkStamp n false))
            .next (if kind = 1 then s.bump64 (Reg.BINATHn_FLITS_LO n) else s)

/-- A replay starts from the flit at an index: the lower one when a NAK and a timeout meet (R320, R337); the eighth in a row without progress takes the link down
(R314). -/
def State.replayFrom (s : State) (n i : Nat) : State :=
  let x := s.link n
  let i := match x.resend with | some j => Nat.min i j | none => i
  let s := s.setLink n { x with resend := some i, stalls := x.stalls + 1 }
  if 8 ≤ x.stalls + 1 then s.linkReset n 1 (some 1) else s

/-- Flits an ACK of SEQ a covers leave the replay buffer. -/
def Link.acked (x : Link) (a now : Nat) : Link :=
  match x.replay.findIdx? (fun f => decide (f.seq = a)) with
  | none => x
  | some i =>
    let rest := x.replay.drop (i + 1)
    let resend := x.resend.bind (fun j => if j ≤ i then (if rest = [] then none else some 0) else some (j - i - 1))
    { x with replay := rest, resend := resend, stalls := 0, oldestAt := now }

/-- BINATH_NAK_RX: a NAK starts a replay from the SEQ it names; the flits before it were received (R320). -/
def execBinathNakRx (n seq : Nat) (s : State) : Out :=
  if ¬ n < 4 ∨ s.linkState n < 2 ∨ s.linkState n = 4 then .next s
  else
    let x := (s.link n).acked ((seq + 4095) % 4096) s.now
    let s := s.setLink n x
    match x.replay.findIdx? (fun f => decide (f.seq = seq)) with
    | none => .next s
    | some i => .next ((s.bump (Fld.BINATHn_REPLAY_NAK n)).replayFrom n i)

/-- BINATH_REPLAY_TIMEOUT: the oldest unacknowledged flit has waited 4 µs (R320). -/
def execBinathReplayTimeout (n : Nat) (s : State) : Out :=
  let x := s.link n
  if ¬ n < 4 ∨ s.linkState n < 2 ∨ s.linkState n = 4 ∨ x.replay = [] then .next s
  else
    let s := s.runTo (x.oldestAt + 4000)
    let s := s.modLink n (fun x => { x with oldestAt := s.now })
    .next ((s.bump (Fld.BINATHn_REPLAY_TIMEOUT n)).replayFrom n 0)

/-! ### Receiving (R316 to R320, R329, R330, R335, R336, R362) -/

/-- A field of a received flit's header (R316). -/
def flitField (l : List Byte) (byte lo width : Nat) : Nat := recField (bytesNat (l.take 8)) byte lo width

/-- The flit is bad: a block beyond correction, a wrong CRC, or a reserved encoding (R313, R317). -/
def flitBad (f : FlitRx) : Bool :=
  let kind := flitField f.bytes 0 0 4
  let len := flitField f.bytes 5 0 8
  f.blockBad || decide (f.bytes.length ≠ 256) ||
    decide ((crc64 (f.bytes.take 248)).toNat ≠ bytesNat ((f.bytes.drop 248).reverse)) ||
    decide (7 ≤ kind) || (decide (kind = 1) && decide (7 ≤ flitField f.bytes 6 0 16)) ||
    (if kind = 0 then decide (len ≠ 0) else decide (len = 0) || decide (240 < len))

/-- A video packet from a link (R335): admitted in the tick after its release, or dropped when that tick has begun. -/
def State.linkVideo (s : State) (n : Nat) (p : LinkPkt) : State :=
  match (tableRecs s.gate.effective 6).find? (fun v => decide (VSTR.LEG v.2 = 0x8000 + n) && decide (VSTR.SSRC v.2 = p.ssrc)), p.shown with
  | some (v, _), some q =>
    if p.release + 1 ≤ s.ltick then s.bumpSat (Fld.BINATHn_LATE_PKTS n)
    else (s.setVstr v { s.vstr v with plane := p.plane }).videoAdmit v (p.release + 1) p.seq false q
  | _, _ => s

/-- A decoded picture from a link (R336): eligible from the boundary of tick D + 1 + ceil(B ÷ 12,500,000), LATE when it is not here
by then, discarded when its size is not its stream's. -/
def State.linkPicture (s : State) (n : Nat) (p : LinkPic) : State :=
  match (tableRecs s.gate.effective 6).find? (fun v => decide (VSTR.LEG v.2 = 0x8004 + n) && decide (VSTR.SSRC v.2 = p.ssrc)) with
  | none => s
  | some (v, r) =>
    let deep := decide (DEC.DEPTH10 r = 1)
    if DEC.MAX_W r < p.width ∨ DEC.MAX_H r < p.height ∨ deep ≠ p.depth10 ∨ p.bytes ≠ bufferBytes (DEC.MAX_W r) (DEC.MAX_H r) deep then s.bumpSat (Fld.BINATHn_LATE_PICS n)
    else
      let due := p.due + 1 + ceilDiv p.bytes 12500000
      let late := decide (due ≤ s.ltick)
      let s := if late then (s.bumpSat (Fld.BINATHn_LATE_PICS n)).decodeLate v else s
      let x := s.dec v
      let pic : DecPic := {
        vstr := v, s := p.s, t := p.t, concealed := p.concealed, upscaled := p.upscaled, subst := p.subst, late := late, matrix := p.matrix,
        range := p.range, depth10 := p.depth10, ts := p.ts, release := s.ltick, due := due, width := p.width, height := p.height,
        picnum := x.picnum, correct := !p.concealed, reference := false, bad := false, spoiled := false, sub := none,
        low := (p.width, p.height) }
      s.setDec v { x with pics := lastN 256 (x.pics ++ [pic]), picnum := (x.picnum + 1) % 2 ^ 32 }

/-- A cascade frame from link n (R330, R362): its record goes to the inbound bank tagged with the sender's tick; in a twin, frames on their way to
the partner or from it are passed on. -/
def State.linkFrame (s : State) (n relay link : Nat) (f : CFrame) : State :=
  let len := cframeLen f
  let take (s : State) (m : Nat) : State :=
    if f.tick < s.ltick then s
    else
      let s := s.bankWrite (13 + 2 * m) f.tick 64
      { s with fab := { s.fab with arrived := s.fab.arrived ++ [(m, f)] } }
  if relay = 0 then take s n
  else if relay = 1 then s.sendMsg (link % 4) 1 1 0 len (.cascade 2 link f)
  else if relay = 2 then s.sendMsg 3 1 1 0 len (.cascade 3 n f)
  else take s (link % 4)

/-- The Ledger's entries of a tick reach the junior (R343, R348, R359): the first writes the block's record into BANKQ9; the tick mark's arrival
is measured; a catch-up store that is full ends the resynchronisation. -/
def State.linkLedger (s : State) (t : Nat) (es : List LedgerEntry) : State :=
  let st := s.twinState
  if st ≠ 3 ∧ st ≠ 5 then s
  else
    let old := s.twin.blocks.get (fun _ => []) t
    let s := if old = [] then s.bankWrite 9 t 64 else s
    let s := { s with twin := { s.twin with blocks := s.twin.blocks.set (fun _ => []) t (old ++ es) } }
    let mark := es.any (fun e => match e with
      | .tick _ _ _ _ _ => true
      | .admitted _ _ _ _ _ _ _ _ _ _ | .gate _ _ _ _ _ _ | .write _ _ _ | .image _ _ _ _ _ _ | .cascade _ _ _ _ | .tdm _ _ | .resync _ _ | .key _ _ _ => false)
    let after := s.now - (boundaryNs t + s.lag)
    let s := if mark && decide (st = 3) && decide (s.get Fld.TWIN_LAG_MAX_MAX_MARK < after) then s.put Fld.TWIN_LAG_MAX_MAX_MARK (Nat.min (2 ^ 32 - 1) after) else s
    let stored := sumBy (fun p => sumBy (fun e => 64 * ledgerUnits e) p.2) s.twin.blocks + sumBy (fun (p : StoredPkt) => p.pkt.len) s.twin.store
    if st = 5 ∧ s.get Fld.TWIN_CATCHUP_SIZE_GIB * 2 ^ 30 ≤ stored then s.resyncFails else s

/-- The junior's diverged legs reach the acting senior (R353): RESYNC entries of up to 64 legs with F, and the legs on both LANs; a revert waits (R363). -/
def State.linkDiverged (s : State) (legs : List Nat) : State :=
  if s.twinState ≠ 2 then s
  else
    let f := s.ltick + 2
    let s := forUpTo (ceilDiv legs.length 64) (fun k (s : State) => s.record (.resync ((legs.drop (64 * k)).take 64) f)) s
    let w := s.twin
    { s with twin := { w with freezes := w.freezes ++ [(f, legs)], bothLans := w.bothLans ++ legs.filter (fun l => !w.bothLans.contains l), swapAt := none } }

/-- A Crier record from a child: passed on to this device's own uplink, or kept by a master that relays; one of an instant already relayed is dropped (R456). -/
def State.crierUp (s : State) (r : Nat) : State :=
  match s.uplinkUp with
  | some u => s.sendMsg u 0 1 6 256 (.crier r)
  | none =>
    let at_ := recField r 8 0 48 * 1000000000 + recField r 4 0 30
    let late := decide (at_ + 50000000 < s.now) || (match s.crier.relayed with | some t => decide (at_ ≤ t) | none => false)
    if !(s.fabricMaster && s.on Fld.CRIER_CFG_RELAY) then s
    else if late then s.bumpSat Fld.CRIER_LOST_LATE
    else { s with crier := { s.crier with relay := s.crier.relay ++ [(recField r 14 0 8, recField r 15 0 1, at_, natBytes 256 r)] } }

/-- A whole message is delivered (R316). A heartbeat and a Crier record act by HEARTBEAT_RX and CRIER_RELAY. -/
def State.linkDeliver (s : State) (n : Nat) (m : LinkMsg) : State :=
  match m with
  | .cascade relay link f => s.linkFrame n relay link f
  | .ledger t es => if n = 3 then s.linkLedger t es else s
  | .diverged _ legs => if n = 3 then s.linkDiverged legs else s
  | .resynced legs =>
    if n = 3 ∧ s.twinState = 2 then { s with twin := { s.twin with bothLans := s.twin.bothLans.filter (fun l => !legs.contains l) } } else s
  | .video p => s.linkVideo n p
  | .picture p => s.linkPicture n p
  | .bulk len => if s.twinState = 5 then s.put Fld.TWIN_COPY_BEHIND (s.get Fld.TWIN_COPY_BEHIND - len / 2 ^ 20) else s
  | .crier r => s.crierUp r
  | .heartbeat _ | .ident _ | .timeReq | .timeResp _ _ | .topo _ => s

/-- BINATH_FLIT_RX: a flit is checked; a bad one, and every later one until the expected SEQ comes again, is discarded, with one NAK;
a good one in order is acknowledged, returns its credit and delivers its message at EOM. What IDENT, NAK, TIME and TOPO flits say acts by
their own commands. -/
def execBinathFlitRx (n : Nat) (f : FlitRx) (s : State) : Out :=
  if ¬ n < 4 ∨ s.linkState n < 2 ∨ s.linkState n = 4 then .next s
  else
    let s := s.bump (Fld.BINATHn_ERR_CORR n) f.corrected
    let s := s.modLink n (fun x => { x with lastRx := s.now })
    let x := s.link n
    let nak (x : Link) : Link := if x.discarding then x else { x with discarding := true, nak := some x.rxSeq }
    if flitBad f then .next ((s.bumpSat (Fld.BINATHn_ERR_BAD n)).setLink n (nak x))
    else
      let kind := flitField f.bytes 0 0 4
      let vc := flitField f.bytes 0 4 2
      let seq := flitField f.bytes 1 0 12
      let crVc := flitField f.bytes 4 0 2
      let crCnt := flitField f.bytes 4 2 6
      let good (x : Link) : Link := (({ x with credits := addAt x.credits crVc crCnt } : Link)).acked (flitField f.bytes 1 12 12) s.now
      if kind = 0 then .next (s.setLink n (good x))
      else if seq ≠ x.rxSeq then
        .next (s.setLink n (if (seq + 4096 - x.rxSeq) % 4096 < 2048 then nak x else x))
      else
        let y := good { x with rxSeq := seqNext x.rxSeq, discarding := false }
        let s := s.setLink n (if kind = 2 then y else { y with owed := addAt y.owed vc 1 })
        match f.msg with
        | none => .next s
        | some m => if kind = 1 ∧ flitField f.bytes 0 7 1 = 1 ∧ s.linkState n = 3 then .next (s.linkDeliver n m) else .next s

/-! ### Time (R327, R328, R342) -/

/-- This end starts the time exchange on link n: the child end of UP and REFUSED links, the end of lower POS of a STANDBY link, the strap
junior of a TWIN link. -/
def State.timeInitiator (s : State) (n : Nat) : Bool :=
  let role := s.linkRole n
  if role = 1 then true
  else if role = 4 then decide (s.get Fld.BINATH0_FABRIC_POS < (((s.link n).ident.map Ident.pos).getD 0))
  else if role = 3 then !s.strapSenior
  else false

/-- The Binath source is lost when 20 exchanges in a row brought no answer or no valid parent time (R328). -/
def State.timeLost (s : State) (n : Nat) : State :=
  let x := s.link n
  if s.fab.uplink = some n ∧ (20 ≤ x.missed ∨ 20 ≤ x.badParent) then s.servoLost 4 else s

/-- TIME_EXCHANGE_START: 200,000 ns after the tick boundary the initiator sends TIME_REQ; an exchange still open counts as missing. -/
def execTimeExchangeStart (n : Nat) (s : State) : Out :=
  if n < 4 ∧ (s.linkState n = 3 ∨ s.linkState n = 5) ∧ s.timeInitiator n = true then
    let s := s.runTo (s.now / 1000000 * 1000000 + 200000)
    let x := s.link n
    let s := s.setLink n { x with missed := if x.t1.isSome then x.missed + 1 else x.missed, t1 := none }
    .next ((s.timeLost n).sendCtl n 4 .timeReq)
  else .next s

/-- TIME_REQ_RX: the responder stamps the arrival and answers; t3 is stamped as the answer leaves. -/
def execTimeReqRx (n : Nat) (s : State) : Out :=
  if n < 4 ∧ (s.linkState n = 3 ∨ s.linkState n = 5) then .next (s.sendCtl n 5 (.timeResp (s.linkStamp n true) 0)) else .next s

/-- TIME_RESP_RX: delay and offset of R327. On the uplink the servo takes the sample while the parent's time is valid (R328); on a TWIN
link the offset is only reported (R342). -/
def execTimeRespRx (n : Nat) (t2 t3 : Int) (parentValid : Bool) (s : State) : Out :=
  if ¬ n < 4 then .next s
  else
    let x := s.link n
    match x.t1 with
    | none => .next s
    | some t1 =>
      let t4 := s.linkStamp n true
      let d := ((t4 - t1) - (t3 - t2)) / 2
      let offset := (t1 - t2) + d + signed 16 (s.get (Fld.BINATHn_ASYM_ASYM n))
      let s := s.put (Fld.BINATHn_DELAY_DELAY n) (clampI 0 16777215 d).toNat
      let s := s.setLink n { x with t1 := none, missed := 0, badParent := if parentValid then 0 else x.badParent + 1 }
      if s.linkRole n = 3 then
        let ns := clampI (-2147483648) 2147483647 (offset / 16)
        let s := s.put Fld.TWIN_OFFSET_OFFSET (unsigned 32 ns)
        .next (if 160000 < offset.natAbs then s.postLimited s.twinEvq 0x0F 0xE7 0 false 1 (unsigned 32 ns) else s)
      else if s.fab.uplink = some n then
        if parentValid then .next (s.servoSample 4 offset) else .next (s.timeLost n)
      else .next s

/-! ### Pictures over links (R336) -/

/-- At the boundary that starts tick t, the decoded pictures due in t go out for every OSTR that sends its stream over a link. -/
def State.linkPictures (s : State) (t : Nat) : State :=
  forEach ((tableRecs s.gate.effective 7).filter (fun p => decide (0x8004 ≤ OSTR.LEG p.2) && decide (OSTR.LEG p.2 ≤ 0x8007))) (fun o (s : State) =>
    let v := OSTR.SRC o.2
    let r := s.vstrRec v
    let bytes := bufferBytes (DEC.MAX_W r) (DEC.MAX_H r) (decide (DEC.DEPTH10 r = 1))
    forEach ((s.dec v).pics.filter (fun p => decide (p.due = t) && !p.late)) (fun p s =>
      s.sendMsg (OSTR.LEG o.2 % 4) 2 1 4 bytes (.picture ⟨OSTR.SSRC o.2, p.ts, p.picnum, p.due, p.width, p.height, p.depth10, p.matrix, p.range,
        p.s, p.t, p.concealed, p.upscaled, p.subst, bytes⟩)) s) s

end Sys2Proof.Machine
end

