-- ==== Sys2Proof/Machine/Canvas.lean ====
section
/-! DEFINITION. The arithmetic of composition (spec/13_video_composition.md, R267 to R273): placement, the polyphase scaler, colour
conversion, blending, and the output samples. A composition's canvas is a function of the composition, the decoded pictures (Config)
and the graphic surfaces in device DRAM. -/

namespace Sys2Proof.Machine

/-! ### The scaler (R268) -/

/-- sin(π × n ÷ d) × 2⁶⁰ by its Taylor series, for an angle brought to [0, π/2]. -/
def sinPi (n : Int) (d : Nat) : Int :=
  let one : Int := 2 ^ 60
  let r := n % (2 * (d : Int))
  let neg := decide ((d : Int) ≤ r)
  let r := if neg then r - d else r
  let r := if (d : Int) < 2 * r then d - r else r
  let x := 57952155664616982739 * r / (16 * d)
  let x2 := x * x / one
  let (sum, _) := (List.range 13).foldl (fun (a : Int × Int) k =>
    (a.1 + a.2, -(a.2 * x2 / one) / ((2 * k + 2) * (2 * k + 3) : Nat))) (0, x)
  if neg then -sum else sum

/-- sinc(n ÷ d) × 2⁶⁰. -/
def sincFix (n : Int) (d : Nat) : Int :=
  if n = 0 then 2 ^ 60 else sinPi n d * 2 ^ 60 / (57952155664616982739 * n / (16 * d))

/-- The cutoff's denominator: min(1, Wo ÷ Ws) rounded down to 1, 1/2, 1/4 or 1/8. -/
def cutoffDen (ws wo : Nat) : Nat := if ws ≤ wo then 1 else if ws ≤ 2 * wo then 2 else if ws ≤ 4 * wo then 4 else 8

/-- The filter value of a tap at `dist` 1/64 samples: a Lanczos window of a = taps ÷ 2 over a sinc of cutoff 1/c. -/
def tapValue (taps c : Nat) (dist : Int) : Int :=
  if (32 * taps : Int) ≤ dist.natAbs then 0 else sincFix dist (64 * c) * sincFix dist (32 * taps) / 2 ^ 60

/-- The coefficients of a phase, first tap first: round(512 × h ÷ Σh), the remainder on the tap nearest the sample position. -/
def tapCoefs (taps c phase : Nat) : List Int :=
  let first : Int := 1 - (taps / 2 : Nat)
  let h := (List.range taps).map (fun (i : Nat) => tapValue taps c ((first + i) * 64 - phase))
  let sum := sumByI id h
  let q := h.map (fun v => (1024 * v + sum).fdiv (2 * sum))
  let rest := 512 - sumByI id q
  let near := taps / 2 - 1 + (if 32 < phase then 1 else 0)
  modifyAt (· + rest) near q

/-- Source position of output sample i of Wo, in 1/64 sample. -/
def scalePos (ws wo i : Nat) : Int := ((((2 * i + 1) * ws : Nat) - (wo : Int)) * 32).fdiv wo

/-- One axis: the weighted sum of source samples, shifted right by 9; samples beyond an edge repeat it. -/
def scaleAxis (taps ws wo i : Nat) (src : Nat → Int) : Int :=
  let p := scalePos ws wo i
  let i0 := p.fdiv 64
  let phase := (p % 64).toNat
  let first : Int := 1 - (taps / 2 : Nat)
  let at_ (k : Nat) := src (clampI 0 ((ws : Int) - 1) (i0 + first + k)).toNat
  let coefs := tapCoefs taps (cutoffDen ws wo) phase
  (sumByI (fun (k : Int × Nat) => k.1 * at_ k.2) (coefs.zip (List.range taps))).fdiv 512

/-- A plane of ws × hs scaled to wo × ho, at output sample (x, y): horizontally, then vertically, clamped to 0 to 4,095. -/
def scalePlane (ws hs wo ho x y : Nat) (src : Nat → Nat → Int) : Nat :=
  if ws = wo ∧ hs = ho then (src x y).toNat
  else
    let row (j : Nat) : Int := scaleAxis 8 ws wo x (fun i => src i j)
    (clampI 0 4095 (scaleAxis 6 hs ho y row)).toNat

/-! ### Colour (R269, R270) -/

/-- Kr and Kb × 10,000 of a MATRIX. -/
def matrixK (m : Nat) : Int × Int := if m = 1 then (2990, 1140) else if m = 2 then (2126, 722) else (2627, 593)

/-- A coefficient n ÷ d in `w`-bit fixed point. -/
def fixCoef (w : Nat) (n : Int) (d : Int) : Int := (2 * n * 2 ^ w + d).fdiv (2 * d)

/-- A colour's numerators over 10,000 × kg: R′, G′, B′ of (y, cb, cr) in a matrix. -/
def toRgb (m : Nat) (v : Int × Int × Int) : Int × Int × Int :=
  let (kr, kb) := matrixK m
  let kg := 10000 - kr - kb
  let r := 10000 * v.1 + 2 * (10000 - kr) * v.2.2
  let b := 10000 * v.1 + 2 * (10000 - kb) * v.2.1
  (r * kg, 100000000 * v.1 - kr * r - kb * b, b * kg)

/-- The coefficient of component `c` of Y, Cb, Cr in a matrix for R′G′B′ numerators over `d`, in 14-bit fixed point. -/
def yccCoef (m c : Nat) (rgb : Int × Int × Int) (d : Int) : Int :=
  let (kr, kb) := matrixK m
  let kg := 10000 - kr - kb
  let y := kr * rgb.1 + kg * rgb.2.1 + kb * rgb.2.2
  if c = 0 then fixCoef 14 y (10000 * d)
  else if c = 1 then fixCoef 14 (10000 * rgb.2.2 - y) (2 * (10000 - kb) * d)
  else fixCoef 14 (10000 * rgb.1 - y) (2 * (10000 - kr) * d)

/-- Component c after the 3 × 3 matrix from one MATRIX to another, of 12-bit full-range samples (R269 step 3). -/
def rematrix (from_ to_ c : Nat) (v : Int × Int × Int) : Int :=
  if from_ = to_ then (if c = 0 then v.1 else if c = 1 then v.2.1 else v.2.2)
  else
    let (kr, kb) := matrixK from_
    let d := 10000 * (10000 - kr - kb)
    let k (u : Int × Int × Int) := yccCoef to_ c (toRgb from_ u) d
    let sum := k (1, 0, 0) * v.1 + k (0, 1, 0) * (v.2.1 - 2048) + k (0, 0, 1) * (v.2.2 - 2048)
    clampI 0 4095 (sum.fdiv 16384 + (if c = 0 then 0 else 2048))

/-- Steps 1 and 2 of R269: a sample code to 12 bits full range. -/
def toFull (deep limited chroma : Bool) (v : Nat) : Int :=
  let w : Int := if deep then v * 4 else v * 16
  if !limited then w
  else if chroma then clampI 0 4095 (((w - 2048) * fixCoef 15 4095 3584).fdiv 32768 + 2048)
  else clampI 0 4095 (((w - 256) * fixCoef 15 4095 3504).fdiv 32768)

/-- An R′G′B′ sample of 8 bits in a layout's matrix (R270). -/
def fromRgb (m c r g b : Nat) : Int :=
  let k (u : Int × Int × Int) := yccCoef m c u 1
  let sum := k (1, 0, 0) * (r * 16 : Nat) + k (0, 1, 0) * (g * 16 : Nat) + k (0, 0, 1) * (b * 16 : Nat)
  clampI 0 4095 (sum.fdiv 16384 + (if c = 0 then 0 else 2048))

/-! ### Decoded samples -/

/-- A sample code of a decoded picture's buffer (R248 to R250): its own, scaled up from the layer that was decoded when that lies below the target; its
substitute's; or mid-grey. -/
def DecPic.code (p : DecPic) (plane x y : Nat) : Nat :=
  let v (n x y : Nat) : Nat := (Config.decodedSample p.vstr n plane x y).toNat % (if p.depth10 then 1024 else 256)
  if p.subst then (match p.sub with | some n => v n x y | none => if p.depth10 then 512 else 128)
  else if p.upscaled then
    let d := if plane = 0 then 1 else 2
    Nat.min (if p.depth10 then 1023 else 255)
      (scalePlane (p.low.1 / d) (p.low.2 / d) (p.width / d) (p.height / d) x y (fun i j => (v p.picnum i j : Int)))
  else v p.picnum x y

/-- A full-range 12-bit sample of a decoded picture in a layout's matrix, on the picture's own planes (R269 steps 1 to 3). -/
def DecPic.sample (p : DecPic) (to_ c x y : Nat) : Int :=
  let f (plane x y : Nat) := toFull p.depth10 (decide (p.range = 1)) (decide (plane ≠ 0)) (p.code plane x y)
  if c = 0 then rematrix p.matrix to_ 0 (f 0 x y, f 1 (x / 2) (y / 2), f 2 (x / 2) (y / 2))
  else
    let luma : Int := ((Config.chromaLuma p.vstr p.picnum x y).toNat : Int)
    rematrix p.matrix to_ c (luma, f 1 x y, f 2 x y)

/-! ### Placement (R267) -/

/-- A size rounded down to an even number, the ratio to the source clamped to 1/8 to 4. -/
def clampSize (src v : Nat) : Nat := Nat.min (4 * src) (Nat.max (src / 8) v) / 2 * 2

/-- The scaled size of a picture in an inner area by FIT. -/
def scaledSize (fit ws hs wi hi : Nat) : Nat × Nat :=
  let byWidth := decide (wi * hs ≤ hi * ws)
  let r : Nat × Nat :=
    if fit = 0 then (wi, hi)
    else if (fit = 1) = (byWidth = true) then (wi, hs * wi / ws)
    else (ws * hi / hs, hi)
  (clampSize ws r.1, clampSize hs r.2)

/-- The centring offset of a scaled size in an inner size, rounded down to an even number. -/
def centre (inner scaled : Nat) : Int := (((inner : Int) - scaled).fdiv 4) * 2

/-- A colour of the layout as a 12-bit component (R258, R272). -/
def colourOf (r i c : Nat) : Nat :=
  let v := recField r (16 + 4 * i) 0 30
  (if c = 0 then v / 2 ^ 20 else if c = 1 then v / 2 ^ 10 % 1024 else v % 1024) * 4

/-! ### Blending (R270, R272) -/

/-- One layer over the result so far. -/
def blend (a layer below : Nat) : Nat := (a * layer + (255 - a) * below + 127) / 255

/-- The ARGB word of a graphic surface at (x, y) of the surface (R270). -/
def State.argb (s : State) (e x y : Nat) : Nat :=
  let base := GLAYER.ADDR e
  let word (a : Nat) := bytesNat (s.dram.readList a 4)
  if GLAYER.FORMAT e = 0 then word (base + y * GLAYER.STRIDE e * 64 + 4 * x)
  else word (base + 4 * (s.dram.read (base + 1024 + y * GLAYER.STRIDE e * 64 + x)).toNat)

/-- Whether (x, y) lies in the rectangle at byte 4 of a layer entry. -/
def inRect (X Y W H x y : Nat) : Bool := decide (X ≤ x) && decide (x < X + W) && decide (Y ≤ y) && decide (y < Y + H)

/-- The layers of a composition in ascending Z, video layers by number and graphic layers from 16, as (Z, layer). -/
def Composition.stack (c : Composition) : List Nat :=
  let video := c.layers.map (fun p => (VLAYER.Z (vlayer c.data p.1), p.1))
  let placeholder (v : Nat) := c.layers.any (fun p => decide (p.1 = v) && decide (p.2 = Shown.fill))
  let graphic := (List.range 8).filterMap (fun g =>
    let e := glayer c.data g
    if GLAYER.ENABLE e = 1 ∧ c.omitted.contains g = false ∧ (GLAYER.BIND e = 31 ∨ placeholder (GLAYER.BIND e) = true) then
      some (GLAYER.Z e, 16 + g)
    else none)
  (sortBy (fun p => p.1) (video ++ graphic)).map (fun p => p.2)

/-- The blended canvas of a composition: component c (0 Y, 1 Cb, 2 Cr) at (x, y), 12-bit full range in the layout's matrix (R269 to
R272). Layouts shown by layouts are followed to a depth of `fuel`; R261 admits no cycle. -/
def State.canvas (s : State) : Nat → Composition → Nat → Nat → Nat → Nat
  | 0, _, _, _, _ => 0
  | fuel + 1, comp, c, x, y =>
    let r := comp.data
    let m := LAYOUT.MATRIX r
    comp.stack.foldl (fun (below : Nat) (n : Nat) =>
      if n < 16 then
        let e := vlayer r n
        let X := VLAYER.X e
        let Y := VLAYER.Y e
        let W := VLAYER.W e
        let H := VLAYER.H e
        let b := VLAYER.BORDER e
        if !inRect X Y W H x y then below
        else
          let fill := colourOf r (VLAYER.FILL_C e) c
          let value :=
            if !inRect (X + b) (Y + b) (W - 2 * b) (H - 2 * b) x y then colourOf r (VLAYER.BORDER_C e) c
            else
              let place (ws hs : Nat) (src : Nat → Nat → Nat → Nat → Nat) : Nat :=
                let (wo, ho) := scaledSize (VLAYER.FIT e) ws hs (W - 2 * b) (H - 2 * b)
                let px : Int := (x : Int) - (X + b : Nat) - centre (W - 2 * b) wo
                let py : Int := (y : Int) - (Y + b : Nat) - centre (H - 2 * b) ho
                if px < 0 ∨ py < 0 ∨ (wo : Int) ≤ px ∨ (ho : Int) ≤ py then fill else src wo ho px.toNat py.toNat
              let shown : Option Shown := (comp.layers.find? (fun p => decide (p.1 = n))).map (fun p => p.2)
              match shown with
              | some (.pic p) =>
                place p.width p.height (fun wo ho i j =>
                  if c = 0 then scalePlane p.width p.height wo ho i j (fun u v => p.sample m 0 u v)
                  else scalePlane (p.width / 2) (p.height / 2) wo ho i j (fun u v => p.sample m c u v))
              | some (.lay l k) =>
                match s.compOf l k with
                | none => fill
                | some q =>
                  let ws := LAYOUT.WIDTH q.data
                  let hs := LAYOUT.HEIGHT q.data
                  let f (c u v : Nat) : Int := (State.canvas s fuel q c u v : Int)
                  place ws hs (fun wo ho i j =>
                    scalePlane ws hs wo ho i j (fun u v => rematrix (LAYOUT.MATRIX q.data) m c (f 0 u v, f 1 u v, f 2 u v)))
              | some .fill | some .blank | none => fill
          blend (VLAYER.ALPHA e) value below
      else
        let e := glayer r (n - 16)
        let X := GLAYER.X e
        let Y := GLAYER.Y e
        if !inRect X Y (GLAYER.W e) (GLAYER.H e) x y then below
        else
          let w := s.argb e (x - X) (y - Y)
          let a := (w / 2 ^ 24 % 256 * GLAYER.ALPHA e + 127) / 255
          blend a (fromRgb m c (w / 2 ^ 16 % 256) (w / 2 ^ 8 % 256) (w % 256)).toNat below) (colourOf r 0 c)

/-! ### Output (R273) -/

/-- The rows of the 8 × 8 Bayer matrix. -/
def bayerRows : List (List Nat) := [
  [0, 32, 8, 40, 2, 34, 10, 42], [48, 16, 56, 24, 50, 18, 58, 26], [12, 44, 4, 36, 14, 46, 6, 38], [60, 28, 52, 20, 62, 30, 54, 22],
  [3, 35, 11, 43, 1, 33, 9, 41], [51, 19, 59, 27, 49, 17, 57, 25], [15, 47, 7, 39, 13, 45, 5, 37], [63, 31, 55, 23, 61, 29, 53, 21]]

/-- M[i][j]. -/
def bayerAt (i j : Nat) : Nat := (((bayerRows[i]?).getD [])[j]?).getD 0

/-- Entry (x, y) of phase r, rotated by r quarter turns clockwise. -/
def bayer (r x y : Nat) : Nat :=
  if r = 0 then bayerAt y x else if r = 1 then bayerAt (7 - x) y else if r = 2 then bayerAt (7 - y) (7 - x) else bayerAt x (7 - y)

/-- Step 1: full range, or compressed to limited range. -/
def toLimited (full chroma : Bool) (v : Nat) : Nat :=
  if full then v
  else if chroma then ((((v : Int) - 2048) * fixCoef 15 3584 4095).fdiv 32768 + 2048).toNat
  else ((v * (fixCoef 15 3504 4095).toNat) / 32768 + 256)

/-- Step 3: a 12-bit sample at plane coordinates (x, y) of frame tick k, quantised to panel depth p (DITHER on) and output depth o. -/
def quantise (dither : Bool) (p o k x y v : Nat) : Nat :=
  if dither then
    let sh := 12 - p
    let q := (v + bayer (k % 4) (x % 8) (y % 8) * 2 ^ sh / 64) / 2 ^ sh
    Nat.min q (2 ^ p - 1) * 2 ^ (o - p)
  else
    let sh := 12 - o
    Nat.min ((v + 2 ^ (sh - 1)) / 2 ^ sh) (2 ^ o - 1)

/-- A sample of a composition's output picture: plane 0 luma, 1 Cb, 2 Cr, at the plane's coordinates (R273). -/
def State.outputSample (s : State) (comp : Composition) (plane x y : Nat) : Nat :=
  let r := comp.data
  let full := decide (LAYOUT.FULL r = 1)
  let o := if LAYOUT.DEPTH10 r = 1 then 10 else 8
  let p := if LAYOUT.DITHER r = 1 then 6 else if LAYOUT.DITHER r = 2 then 8 else 10
  let at_ (x y : Nat) := toLimited full (decide (plane ≠ 0)) (s.canvas 1025 comp plane x y)
  let v := if plane = 0 then at_ x y
    else (at_ (2 * x) (2 * y) + at_ (2 * x + 1) (2 * y) + at_ (2 * x) (2 * y + 1) + at_ (2 * x + 1) (2 * y + 1) + 2) / 4
  quantise (decide (LAYOUT.DITHER r ≠ 0)) p o comp.frame x y v

end Sys2Proof.Machine
end

