-- ==== Sys2Proof/Machine/Dram.lean ====
section
/-! DEFINITION. The DRAM channels and Weir (spec/18_dram_controller.md, R365 to R383): the address map, error correction and marking, patrol scrub, refresh,
self-refresh, windows and fences. -/

namespace Sys2Proof.Machine

/-- DDRCn's page. -/
def ddrPage (n : Nat) : Nat := 0xB0000 + n * 0x1000

/-! ### The address map (R365, R366) -/

/-- The channel of an address. -/
def dramChannel (a : Nat) : Nat := Nat.xor (a / 256 % 8) (a / 65536 % 8)

/-- The subchannel. -/
def dramSub (a : Nat) : Nat := a / 2048 % 2

/-- The line index L within the subchannel. -/
def dramLine (a : Nat) : Nat := a / 64 % 4 + 4 * (a / 4096)

/-- Column, bank (bank group × banks per group + bank), rank and row of a line index, by geometry. -/
def dramPlace (geom l : Nat) : Nat × Nat × Nat × Nat :=
  let col := 16 * (l % 64)
  let group := l / 64 % 8
  let bankBits := if geom = 2 then 2 else 1
  let bank := l / 512 % 2 ^ bankBits
  let rest := l / 512 / 2 ^ bankBits
  let rank := if geom = 1 then rest % 2 else 0
  let row := if geom = 1 then rest / 2 else rest
  (col, group * 2 ^ bankBits + bank, rank, row)

/-- Bytes of device DRAM (R365). -/
def dramBytes (geom : Nat) : Nat := if geom = 0 then 2 ^ 37 else 2 ^ 38

/-- Line k of channel ch in ascending address order. -/
def scrubAddr (ch k : Nat) : Nat :=
  let h := k / 8
  let sel := Nat.xor ch (h / 16 % 8)
  h * 4096 + k / 4 % 2 * 2048 + sel * 256 + k % 4 * 64

/-! ### RS(40,32) over GF(2⁸) (R367) -/

/-- Multiplication by α in the field of x⁸ + x⁴ + x³ + x² + 1. -/
def gfDouble (a : Nat) : Nat := if a < 128 then 2 * a else Nat.xor (2 * a) 0x11D % 256

/-- α to the power n. -/
def gfPow : Nat → Nat
  | 0 => 1
  | n + 1 => gfDouble (gfPow n)

/-- Multiplication: b's bits, low first, over multiples of a. -/
def gfMulBits : Nat → Nat → Nat → Nat
  | 0, _, _ => 0
  | k + 1, a, b => Nat.xor (if b % 2 = 1 then a else 0) (gfMulBits k (gfDouble a) (b / 2))
def gfMul (a b : Nat) : Nat := gfMulBits 8 a b

/-- Syndrome S_k of an error pattern of one codeword, symbol 0 the coefficient of highest power (PRESUMED: the usual order). -/
def syndrome (errs : List (Nat × Byte)) (k : Nat) : Nat :=
  errs.foldl (fun a e => Nat.xor a (gfMul e.2.toNat (gfPow (k * (39 - e.1) % 255)))) 0

/-- The eight syndromes of a codeword as the log holds them, S₀ in the lowest byte. -/
def syndromes (errs : List (Nat × Byte)) : Nat := sumBy (fun k => syndrome errs k * 256 ^ k) (List.range 8)

/-- The device that holds symbol i. -/
def symbolDevice (i : Nat) : Nat := if i < 32 then i / 4 else 8 + (i - 32) / 4

/-- The symbols in error in codeword c. -/
def codewordErrs (errs : List (Nat × Nat × Byte)) (c : Nat) : List (Nat × Byte) :=
  (errs.filter (fun e => decide (e.1 = c) && decide (e.2.1 < 40) && decide (e.2.2 ≠ 0))).map (·.2)

/-- A codeword can be corrected (R368): up to 4 symbols, or up to 2 outside a marked device. -/
def correctable (mark : Option Nat) (errs : List (Nat × Byte)) : Bool :=
  match mark with
  | none => decide (errs.length ≤ 4)
  | some d => decide ((errs.filter (fun e => decide (symbolDevice e.1 ≠ d))).length ≤ 2)

/-! ### The log and marks (R368, R370, R372, R383) -/

/-- GEOM. -/
def State.geom (s : State) : Nat := s.get (Fld.DDRCn_STATUS_GEOM 0)

/-- The marked position of a subchannel and rank. -/
def State.mark (s : State) (n rank sub : Nat) : Option Nat :=
  let k := 2 * rank + sub
  if s.get ⟨Reg.DDRCn_MARK n, 8 * k + 4, 1⟩ = 1 then some (s.get ⟨Reg.DDRCn_MARK n, 8 * k, 4⟩) else none

/-- Add an entry to channel n's log: DRAM_UE for every kind but 4 and 5. -/
def State.dramLog (s : State) (n kind addr cw dev port ident syn0 syn1 : Nat) : State :=
  let p := dramPlace s.geom (dramLine addr)
  let x := s.chan n
  let place := n % 8 + dramSub addr * 8 + p.2.2.1 % 2 * 16 + cw % 4 * 32
  let e := kind + place * 2 ^ 8 + dev % 16 * 2 ^ 16 + p.2.1 % 32 * 2 ^ 32 + p.2.2.2 % 2 ^ 18 * 2 ^ 48 + p.1 % 2048 * 2 ^ 80 +
    (port % 32 + ident % 256 * 32) * 2 ^ 96 + addr / 64 * 64 % 2 ^ 38 * 2 ^ 128 + s.now / 1000000000 % 2 ^ 32 * 2 ^ 192 + s.now % 1000000000 * 2 ^ 224 +
    syn0 % 2 ^ 64 * 2 ^ 256 + syn1 % 2 ^ 64 * 2 ^ 320 + x.log.seq * 2 ^ 384
  let s := s.setChan n { x with log := x.log.add 32 e }
  if kind = 4 ∨ kind = 5 then s
  else (s.post (s.get (Fld.DDRCn_LOG_CFG_EVQ n)) 0x10 0xF0 n x.log.seq).event (ddrPage n) 1

/-- Distinct lines with a corrected symbol in a position in the last 24 h. -/
def Ddr.lines (x : Ddr) (pos now : Nat) : List (Nat × Nat) := (x.ce.get (fun _ => []) pos).filter (fun e => decide (now < e.2 + 86400000000000))

/-- A corrected symbol in a device position of a line (R368): counted once per line, and the position marked when it reaches THRESH. -/
def State.countDevice (s : State) (n addr rank sub dev : Nat) (log : Nat → State → State) : State :=
  let x := s.chan n
  let pos := 32 * rank + 16 * sub + dev
  let line := addr / 64
  let l := (x.lines pos s.now).filter (fun e => decide (e.1 ≠ line)) ++ [(line, s.now)]
  let s := s.setChan n { x with ce := x.ce.set (fun _ => []) pos l }
  if l.length < s.get (Fld.DDRCn_MARK_CFG_THRESH n) then s
  else
    let evq := s.get (Fld.DDRCn_LOG_CFG_EVQ n)
    let arg := rank * 256 + sub * 16 + dev
    match s.mark n rank sub with
    | none =>
      let k := 2 * rank + sub
      let s := (s.put ⟨Reg.DDRCn_MARK n, 8 * k, 4⟩ dev).put ⟨Reg.DDRCn_MARK n, 8 * k + 4, 1⟩ 1
      ((log 4 s).post evq 0x10 0xF1 n arg).event (ddrPage n) 2
    | some d =>
      if d = dev ∨ (s.chan n).second.contains pos = true then s
      else
        let s := s.setChan n { s.chan n with second := (s.chan n).second ++ [pos] }
        (log 5 s).post evq 0x10 0xF3 n arg

/-- A read of a line decodes both codewords (R368, R370): how it ends (0 good, 1 uncorrectable, 3 stored poison), with corrections counted
and devices marked. `kind` names an uncorrectable read in the log. -/
def State.decodeLine (s : State) (a port ident kind : Nat) (errs : List (Nat × Nat × Byte)) : Nat × State :=
  let n := dramChannel a
  let sub := dramSub a
  let rank := (dramPlace s.geom (dramLine a)).2.2.1
  let e0 := codewordErrs errs 0
  let e1 := codewordErrs errs 1
  let syn0 := syndromes e0
  let syn1 := syndromes e1
  if s.poisoned.contains (a / 64) then
    (3, (s.bumpSat (Fld.DDRCn_UE_STORED n)).dramLog n 3 a 3 15 port ident syn0 syn1)
  else
    let m := s.mark n rank sub
    let good0 := correctable m e0
    let good1 := correctable m e1
    let corrected := b2n (good0 && decide (e0 ≠ [])) + b2n (good1 && decide (e1 ≠ []))
    let s := if corrected = 0 then s else (s.bump (Fld.DDRCn_CE_COUNT n) corrected).corrected corrected
    let bad := !good0 || !good1
    let s := if bad then (s.bumpSat (Fld.DDRCn_UE_UE n)).dramLog n kind a (b2n (!good0) + 2 * b2n (!good1)) 15 port ident syn0 syn1 else s
    let devices := (((if good0 then e0 else []) ++ (if good1 then e1 else [])).map (fun e => symbolDevice e.1)).eraseDups
    let s := forEach devices (fun d (s : State) => s.countDevice n a rank sub d (fun k s => s.dramLog n k a 0 d port ident syn0 syn1)) s
    (if bad then 1 else 0, s)

/-- A line gets stored poison, or loses it (R370). -/
def State.setPoison (s : State) (a : Nat) (p : Bool) : State :=
  let l := s.poisoned.filter (fun x => decide (x ≠ a / 64))
  { s with poisoned := if p then insertBy id (a / 64) l else l }

/-! ### Weir (R377 to R379) -/

/-- The configuration of the window for a port: its reset value until the first window. -/
def State.weirCfg (s : State) (p : Nat) : Word := s.weir.cfg.get (fun q => resetWord (Reg.WEIR_PORTp_CFG q)) p

/-- C_p, at least 1. -/
def State.weirCap (s : State) (p : Nat) : Nat := Nat.max 1 (bits (s.weirCfg p) 16 11 * 25 / 32)

/-- A new window: counts are reported and restart, and new configurations apply (R378). -/
def State.weirNext (s : State) : State :=
  let s := forUpTo 17 (fun p (s : State) =>
    let per := (List.range 8).map (fun ch => s.weir.lines.get (fun _ => 0) (ch * 32 + p))
    let s := s.put (Fld.WEIR_PORTp_STAT_LINES p) (Nat.min 65535 (sumBy id per))
    if per.any (fun k => decide (s.weirCap p ≤ k)) then s.bump (Fld.WEIR_PORTp_STAT_CAPPED p) else s) s
  let cfg := (List.range 17).foldl (fun (m : Sparse Word) p => m.set (fun q => resetWord (Reg.WEIR_PORTp_CFG q)) p (s.rd (Reg.WEIR_PORTp_CFG p))) []
  { s with weir := { s.weir with lines := [], cfg := cfg } }

/-- WEIR_WINDOW: a 1 µs window begins. -/
def execWeirWindow (s : State) : Out := .next ((s.runTo ((s.now / 1000 + 1) * 1000)).weirNext)

/-- A line crosses port p to channel n; a port at C_p waits for the next window (R378). Patrol scrub passes no port. -/
def State.weirTake (s : State) (p n : Nat) : State :=
  if 17 ≤ p then s
  else
    let k := n * 32 + p
    let s := if s.weirCap p ≤ s.weir.lines.get (fun _ => 0) k then (s.runTo ((s.now / 1000 + 1) * 1000)).weirNext else s
    { s with weir := { s.weir with lines := s.weir.lines.modify (fun _ => 0) k (· + 1) } }

/-- The identity is fenced, itself or with its port (R379). -/
def State.fenced (s : State) (port ident : Nat) : Bool :=
  s.weir.fences.any (fun f => decide (f.port = port) && (decide (f.ident = none) || decide (f.ident = some ident)))

/-- A transaction of a fenced identity is aborted. -/
def State.fenceAborts (s : State) (port ident : Nat) : State :=
  let fs := s.weir.fences.map (fun f => if f.port = port ∧ (f.ident = none ∨ f.ident = some ident) then { f with aborted := satAdd 65535 f.aborted 1 } else f)
  let k := port * 256 + ident
  { s with weir := { s.weir with fences := fs, aborted := s.weir.aborted.set (fun _ => 0) k (satAdd 65535 (s.weir.aborted.get (fun _ => 0) k) 1) } }

/-- WEIR_FENCE: Reeve or Epanis fences an identity, or a whole port. -/
def execWeirFence (port : Nat) (ident : Option Nat) (s : State) : Out :=
  if port < 17 then
    let s := match ident with
      | some i => { s with weir := { s.weir with aborted := s.weir.aborted.set (fun _ => 0) (port * 256 + i) 0 } }
      | none => s
    .next (s.weirFence port ident)
  else .next s

/-- The engine of an identity (R377). -/
def identEngine (port ident : Nat) : Option Nat := allEngines.find? (fun e => decide (engineIdent e = (port, ident)))

/-- FENCE_EMPTY: no transaction of the identity remains (R379); an engine's task is handled (R306). -/
def execFenceEmpty (port : Nat) (ident : Option Nat) (aborted : Nat) (s : State) : Out :=
  if s.weir.fences.any (fun f => decide (f.port = port) && decide (f.ident = ident)) then
    let fs := s.weir.fences.map (fun f => if f.port = port ∧ f.ident = ident then { f with empty := true, aborted := satAdd 65535 f.aborted aborted } else f)
    let s := { s with weir := { s.weir with fences := fs } }
    match ident with
    | none => .next s
    | some i =>
      let k := port * 256 + i
      let s := { s with weir := { s.weir with aborted := s.weir.aborted.set (fun _ => 0) k (satAdd 65535 (s.weir.aborted.get (fun _ => 0) k) aborted) } }
      match identEngine port i with
      | some e => .next (s.fenceEmpty e)
      | none => .next s
  else .next s

/-- FENCE_TIMEOUT: a fence not EMPTY within 10 µs (R379). -/
def execFenceTimeout (port : Nat) (ident : Option Nat) (s : State) : Out :=
  match s.weir.fences.find? (fun f => decide (f.port = port) && decide (f.ident = ident) && !f.empty) with
  | none => .next s
  | some f => .next ((s.runTo (f.at_ + 10000)).deviceFatal 0xB8000 3 port)

/-- A write of WEIR_PORTp_CFG: E_RANGE for a CAP below GUAR, E_NOSLOT for a sum above 768 (R378). -/
def State.weirCfgWrite (s : State) (p : Nat) (w : Word) : State :=
  s.checked (Reg.WEIR_PORTp_CFG p) w
    (fun s =>
      let sum := s.get Fld.WEIR_SUM_GUAR - s.get (Fld.WEIR_PORTp_CFG_GUAR p) + bits w 0 11
      if bits w 16 11 < bits w 0 11 then some .range else if 768 < sum then some .noslot else none)
    (fun s =>
      let sum := s.get Fld.WEIR_SUM_GUAR - s.get (Fld.WEIR_PORTp_CFG_GUAR p) + bits w 0 11
      (s.applyWrite (Reg.WEIR_PORTp_CFG p) w).put Fld.WEIR_SUM_GUAR sum)

/-- A write of WEIR_FENCE_SEL starts a fetch. -/
def State.fenceSelWrite (s : State) (w : Word) : State :=
  s.checked Reg.WEIR_FENCE_SEL w
    (fun _ => none)
    (fun s => ((s.applyWrite Reg.WEIR_FENCE_SEL w).fetchStart Reg.WEIR_FENCE_SEL).unvalid Reg.WEIR_FENCE_STATUS)

/-- WEIR_FENCE_SEL. -/
def execWeirFenceSel (port ident : Nat) (s : State) : Out := .next (s.fenceSelWrite (BitVec.ofNat 32 (port * 65536 + ident)))

/-- The fetch of WEIR_FENCE_STATUS completes. -/
def State.fenceFetch (s : State) : State :=
  let port := s.get Fld.WEIR_FENCE_SEL_PORT
  let i := s.get Fld.WEIR_FENCE_SEL_IDENT
  let st := match s.weir.fences.find? (fun f => decide (f.port = port) && (decide (f.ident = none) || decide (f.ident = some i))) with
    | none => 0
    | some f => if f.empty then 2 else 1
  s.postResult Reg.WEIR_FENCE_STATUS (st * 65536 + s.weir.aborted.get (fun _ => 0) (port * 256 + i))

/-! ### Reads, writes and scrub (R368 to R373) -/

/-- An access reaches a channel: one in self-refresh exits at once (R376, R441). -/
def State.dramAccess (s : State) (a port : Nat) : State := (s.excursion.weirTake port (dramChannel a)).srExit (dramChannel a)

/-- An address outside the range reaches no channel (R365). -/
def State.dramNoChannel (s : State) (a port ident : Nat) : State :=
  let n := dramChannel a
  { (s.bumpSat (Fld.DDRCn_UE_UE n)).dramLog n 7 a 0 15 port ident 0 0 with dramRead := some (false, []) }

/-- A received packet is dropped: its picture waits for it again. -/
def dropReceived (seq : Nat) (c : Pic) : Pic :=
  if c.pkts.any (fun k => decide (k.seq = seq)) then { c with pkts := c.pkts.filter (fun k => decide (k.seq ≠ seq)), done := none } else c

/-- What is lost with poisoned data (R371): an absent frame (R104), a dropped packet, a packet discarded before sequence assignment, of RTX counted in NACK_IGNORED, an
entry skipped, a message not sent. -/
def State.poisonLoses (s : State) : DramUse → State
  | .other => s
  | .frame l seq => s.modLeg l (fun g => { g with jb := { g.jb with frames := g.jb.frames.filter (fun f => decide (f.seq ≠ seq)) } })
  | .received v seq => s.setVstr v { s.vstr v with pics := (s.vstr v).pics.map (dropReceived seq) }
  | .waiting id =>
    match s.pkt id with
    | none => s
    | some p =>
      let s := (s.unqueue p.leg id).dropPkt id
      if p.kind = .rtx then s.nackIgnored p.leg 1 else s
  | .player n =>
    match entriesAfter (s.playerEntries n) (s.player n).cursor with
    | [] => s
    | x :: _ => s.setPlayer n { s.player n with cursor := some x.place }
  | .message n vc => s.modLink n (fun x => { x with queues := modifyAt (fun q => q.tail) vc x.queues })

/-- A requester handles poisoned data (R371): Epanis is fatal, every other one contains it. -/
def State.poisonRead (s : State) (port ident : Nat) (use : DramUse) : State :=
  if port = 12 ∧ ident = 0 then s.deviceFatal 0xB8000 5 0 else s.contained.poisonLoses use

/-- DRAM_READ: a requester reads the line of an address, with the symbols in error it meets and what it was for. -/
def execDramRead (a port ident : Nat) (errs : List (Nat × Nat × Byte)) (use : DramUse) (s : State) : Out :=
  if s.fenced port ident then .next { s.fenceAborts port ident with dramRead := some (false, []) }
  else if dramBytes s.geom ≤ a then .next (s.dramNoChannel a port ident)
  else
    let s := s.dramAccess a port
    let (r, s) := s.decodeLine a port ident 1 errs
    if r = 0 then .next { s with dramRead := some (true, s.dram.readList (a / 64 * 64) 64) }
    else .next { s.poisonRead port ident use with dramRead := some (false, []) }

/-- A write of a line or a part of one (R370, R373): a part is merged by read-modify-write, and dropped with stored poison when that read is
uncorrectable. -/
def State.dramStore (s : State) (a port ident : Nat) (data : List Byte) (errs : List (Nat × Nat × Byte)) : State :=
  let line := a / 64 * 64
  let bytes := data.take (64 - a % 64)
  if bytes.length = 64 then s.dramPut line bytes
  else
    let stored := s.poisoned.contains (a / 64)
    let (r, s) := if stored then (3, s) else s.decodeLine a port ident 6 errs
    if r = 0 then s.dramPut a bytes
    else if stored then
      let n := dramChannel a
      (s.bumpSat (Fld.DDRCn_UE_UE n)).dramLog n 6 a 3 15 port ident 0 0
    else s.setPoison a true

/-- DRAM_WRITE: a requester's write is accepted and acknowledged; from then on every read returns the new data. -/
def execDramWrite (a port ident : Nat) (data : List Byte) (errs : List (Nat × Nat × Byte)) (s : State) : Out :=
  if s.fenced port ident then .next (s.fenceAborts port ident)
  else if dramBytes s.geom ≤ a then .next (s.dramNoChannel a port ident)
  else .next ((s.dramAccess a port).dramStore a port ident data errs)

/-- SCRUB_READ: the patrol scrub reads the next line of a channel; a corrected line is written back, an uncorrectable one gets stored poison
(R369). -/
def execScrubRead (n : Nat) (errs : List (Nat × Nat × Byte)) (s : State) : Out :=
  if n < 8 ∧ s.get (Fld.DDRCn_STATUS_STATE n) = 2 ∧ s.quiescing (ddrPage n) = false then
    let x := s.chan n
    let lines := dramBytes s.geom / 8 / 64
    let a := scrubAddr n x.scrub
    let (r, s) := s.decodeLine a 31 0 2 errs
    let s := if r = 1 then s.setPoison a true else s
    let k := x.scrub + 1
    let wrap := decide (lines ≤ k)
    let k := if wrap then 0 else k
    let s := s.setChan n { s.chan n with scrub := k }
    let s := s.put (Fld.DDRCn_SCRUB_POS n) (k * 1048576 / lines)
    .next (if wrap then s.bump (Fld.DDRCn_SCRUB_PASSES n) else s)
  else .next s

/-! ### Refresh, calibration and self-refresh (R374 to R376, R381) -/

/-- Ranks of a channel (R365). -/
def State.ranks (s : State) : Nat := if s.geom = 1 then 2 else 1

/-- The owed count of a rank. -/
def owedFld (n rank : Nat) : FieldRef := if rank = 0 then Fld.DDRCn_REFRESH_OWED0 n else Fld.DDRCn_REFRESH_OWED1 n

/-- The rank runs at rate 2x. -/
def State.rate2x (s : State) (n rank : Nat) : Bool := s.on ⟨Reg.DDRCn_STATUS n, 8 + rank, 1⟩

/-- REFRESH_DUE: a refresh of a rank falls due; with traffic queued it is postponed below the allowance, and one is issued at it; with none
all owed are issued (R374). -/
def execRefreshDue (n rank : Nat) (queued : Bool) (s : State) : Out :=
  if n < 8 ∧ rank < s.ranks ∧ s.get (Fld.DDRCn_STATUS_STATE n) = 2 then
    let x := s.chan n
    let due := (x.due[rank]?).getD 0
    let s := s.runTo due
    let fast := s.rate2x n rank
    let s := s.setChan n { x with due := modifyAt (fun _ => Nat.max due s.now + (if fast then 1950 else 3900)) rank x.due }
    let owed := s.get (owedFld n rank) + 1
    let allow := if fast then 2 else 4
    .next (s.put (owedFld n rank) (if !queued then 0 else if owed < allow then owed else owed - 1))
  else .next s

/-- One rank at a poll (R374, R375): MR4 0 normal, 1 doubled, 2 above. -/
def State.pollRank (s : State) (n rank mr4 : Nat) : State :=
  let was := s.rate2x n rank
  let now2 := decide (1 ≤ mr4)
  let s := (s.put ⟨Reg.DDRCn_STATUS n, 8 + rank, 1⟩ (b2n now2)).put ⟨Reg.DDRCn_STATUS n, 10 + rank, 1⟩ (b2n (decide (2 ≤ mr4)))
  let s := if 2 ≤ mr4 then (s.post (s.get (Fld.DDRCn_LOG_CFG_EVQ n)) 0x10 0xF2 n rank).event (ddrPage n) 3 else s
  if was = now2 then s
  else
    let x := s.chan n
    let s := s.setChan n { x with due := modifyAt (fun _ => s.now + (if now2 then 1950 else 3900)) rank x.due }
    if now2 then (s.put (owedFld n rank) 0).bump (Fld.DDRCn_REFRESH_CROSS n) else s

/-- REFRESH_RATE_POLL: every 16 ms the controller reads each rank's MR4 and checks DQS drift (R374, R375, R381). -/
def execRefreshRatePoll (n : Nat) (mr4 : List Nat) (drift : Bool) (s : State) : Out :=
  if n < 8 ∧ (s.get (Fld.DDRCn_STATUS_STATE n) = 2 ∨ s.get (Fld.DDRCn_STATUS_STATE n) = 3) then
    let s := forUpTo s.ranks (fun r (s : State) => s.pollRank n r ((mr4[r]?).getD 0)) s
    .next (if drift then s.bump (Fld.DDRCn_TRAIN_ADJ n) else s)
  else .next s

/-- ZQ_CAL_START: every 128 ms a rank receives ZQCal Start (R381). -/
def execZqCalStart (n rank : Nat) (s : State) : Out :=
  if n < 8 ∧ rank < s.ranks ∧ s.get (Fld.DDRCn_STATUS_STATE n) = 2 ∧ s.quiescing (ddrPage n) = false then
    let s := s.runTo (((s.chan n).zqAt[rank]?).getD 0 + 128000000)
    let x := s.chan n
    .next (s.setChan n { x with zq := modifyAt (fun _ => true) rank x.zq, zqAt := modifyAt (fun _ => s.now) rank x.zqAt })
  else .next s

/-- ZQ_CAL_LATCH: 1 µs after the Start the rank receives ZQCal Latch (R381). -/
def execZqCalLatch (n rank : Nat) (s : State) : Out :=
  if n < 8 ∧ ((s.chan n).zq[rank]?).getD false = true then
    let s := s.runTo (((s.chan n).zqAt[rank]?).getD 0 + 1000)
    let x := s.chan n
    .next (s.setChan n { x with zq := modifyAt (fun _ => false) rank x.zq })
  else .next s

/-- Every channel enters self-refresh (R376): owed is cleared, scrub and ZQ calibration stop. -/
def State.srEnter (s : State) : State :=
  forUpTo 8 (fun n (s : State) =>
    if s.get (Fld.DDRCn_STATUS_STATE n) = 2 then
      let s := ((s.put (Fld.DDRCn_STATUS_STATE n) 3).put (Fld.DDRCn_REFRESH_OWED0 n) 0).put (Fld.DDRCn_REFRESH_OWED1 n) 0
      (s.setChan n { s.chan n with zq := [false, false] }).islandDown (12 + n) 0
    else s) s

/-- SELF_REFRESH_ENTER: the power controller's entry command. -/
def execSelfRefreshEnter (s : State) : Out := .next s.srEnter

/-- SELF_REFRESH_EXIT: a channel leaves self-refresh. -/
def execSelfRefreshExit (n : Nat) (s : State) : Out := if n < 8 then .next (s.srExit n) else .next s

/-! ### Registers -/

/-- DRAM_LOG_POP: a read of DDRCn_LOG_POP removes the oldest entry (R372). -/
def execDramLogPop (n : Nat) (s : State) : Out :=
  if ¬ n < 8 ∨ s.linked (Reg.DDRCn_LOG_POP n) = false ∨ s.inReset (Reg.DDRCn_LOG_POP n) = true then .next { s with readData := 0 }
  else
    let x := s.chan n
    let (w, e, l) := x.log.pop
    let s := { s.setChan n { x with log := l } with readData := w }
    match e with
    | none => .next s
    | some v => .next (s.putWords (Reg.DDRCn_LOGWw n 0) 16 v)

/-- A write of DDRCn_DEV_SEL starts a fetch. -/
def State.devSelWrite (s : State) (n : Nat) (w : Word) : State :=
  s.checked (Reg.DDRCn_DEV_SEL n) w
    (fun _ => none)
    (fun s => ((s.applyWrite (Reg.DDRCn_DEV_SEL n) w).fetchStart (Reg.DDRCn_DEV_SEL n)).unvalid (Reg.DDRCn_DEV_CE n))

/-- DDRC_DEV_SEL. -/
def execDdrcDevSel (n rank sub dev : Nat) (s : State) : Out :=
  if n < 8 then .next (s.devSelWrite n (BitVec.ofNat 32 (rank * 32 + sub * 16 + dev))) else .next s

/-- The fetch of DDRCn_DEV_CE completes. -/
def State.devFetch (s : State) (n : Nat) : State :=
  let pos := s.get (Fld.DDRCn_DEV_SEL_RANK n) * 32 + s.get (Fld.DDRCn_DEV_SEL_SUB n) * 16 + s.get (Fld.DDRCn_DEV_SEL_DEV n)
  s.postResult (Reg.DDRCn_DEV_CE n) (Nat.min (2 ^ 24 - 1) ((s.chan n).lines pos s.now).length)

end Sys2Proof.Machine
end

