-- ==== Sys2Proof/Machine/Twin.lean ====
section
/-! DEFINITION. A twin pair at work (spec/17_twin_redundancy.md, R346 to R364): heartbeats and paths, digests and leg resynchronisation, copies and
catch-up, and reverts. -/

namespace Sys2Proof.Machine

/-! ### Heartbeats (R355, R356) -/

/-- The link-up state of P0 to P3. -/
def State.portBits (s : State) : Nat := sumBy (fun n => if s.linkUp n then 2 ^ n else 0) (List.range 4)

/-- The content of this device's heartbeat (R355). -/
def State.heartbeat (s : State) : Heartbeat := ⟨s.twinState, s.strapSenior, s.portBits, s.rd64 Reg.TWIN_EXEC_LO, s.lag⟩

/-- HEARTBEAT_SEND: at ns mod 100,000 = 50,000 a heartbeat leaves on LINK3, TWIN_HB_OUT changes level, and a supervision frame leaves on every LAN
port whose link is up (R355). -/
def execHeartbeatSend (s : State) : Out :=
  if s.twinState = 0 ∨ s.muted = true then .next s
  else
    let s := s.runTo ((s.now + 49999) / 100000 * 100000 + 50000)
    let s := s.modTwin (fun w => { w with pinOut := !w.pinOut, sentHb := w.sentHb + 1 })
    let s := s.sendMsg 3 0 1 2 32 (.heartbeat s.heartbeat)
    .next (forUpTo 4 (fun n (s : State) => if s.linkUp n then s.depQueue n 1 (s.ctrlFrame (n / 2) 64) else s) s)

/-- The acting senior begins a full copy when its partner enters RESYNC: F is its logical tick + 2 (R359). -/
def State.freezeBegin (s : State) : State :=
  if s.twinState = 2 ∧ s.partnerState = 5 ∧ s.twin.freezeAt.isNone = true then s.modTwin (fun w => { w with freezeAt := some (s.ltick + 2) })
  else if s.partnerState ≠ 5 then s.modTwin (fun w => { w with freezeAt := none })
  else s

/-- What the partner reports of itself. -/
def State.partnerSays (s : State) (h : Heartbeat) : State :=
  let s := s.put Fld.TWIN_STATUS_PARTNER h.state
  let since := if h.state = 3 then some (s.twin.partnerJunior.getD s.now) else none
  let common := if s.twinState = 2 then h.exec else s.twin.common
  s.modTwin (fun w => { w with partner := some h, partnerJunior := since, common := common })

/-- HEARTBEAT_RX: a heartbeat of the partner arrives on a path (0 LINK3, 1 pins, 2 LAN); the pins carry no content (R341, R355, R360). -/
def execHeartbeatRx (path : Nat) (content : Option Heartbeat) (s : State) : Out :=
  if ¬ path < 3 ∨ s.twinState = 0 then .next s
  else
    let s := s.modTwin (fun w => { w with heardAt := s.now })
    let s := s.setPath path (fun h => { h with seen := h.seen + 1 })
    let s := match content with
      | some h => if path = 1 then s else s.partnerSays h
      | none => s
    .next ((if path = 0 then s.pairStep else s).freezeBegin.showTwin)

/-- A path at the end of an interval: three intervals in a row without a heartbeat take it down, three with one bring it up (R355). -/
def HbPath.interval (h : HbPath) : HbPath :=
  if h.seen = 0 then
    let m := h.missed + 1
    { up := h.up && decide (m < 3), seen := 0, missed := m, good := 0 }
  else
    let g := h.good + 1
    { up := h.up || decide (3 ≤ g), seen := 0, missed := 0, good := g }

/-- One path's interval ends, its miss counted. -/
def State.pathInterval (s : State) (i : Nat) (h : HbPath) : State :=
  let s := if h.seen = 0 then
      s.bumpSat (if i = 0 then Fld.TWIN_HB_MISS_LINK3 else if i = 1 then Fld.TWIN_HB_MISS_PINS else Fld.TWIN_HB_MISS_LAN)
    else s
  s.setPath i HbPath.interval

/-- HB_INTERVAL_END: a heartbeat interval ends on all three paths; with all down the partner is lost, with LINK3 down it is alive
(R355, R356); a stall that waited for the interval acts now (R363). -/
def execHbIntervalEnd (s : State) : Out :=
  if s.twinState = 0 then .next s
  else
    let s := s.runTo ((s.now + 100000) / 100000 * 100000)
    let w := s.twin
    let s := ((s.pathInterval 0 w.link).pathInterval 1 w.pins).pathInterval 2 w.lan
    let s := if s.twin.paths = 0 then s.partnerLost
      else if !s.twin.link.up then s.linkDegraded
      else if s.twin.stallDue then s.enterTwin 4
      else s.pairStep
    .next (s.modTwin (fun w => { w with stallDue := false })).showTwin

/-- PAIR_WAIT_EXPIRE: PAIR_WAIT has elapsed in PAIRING, for a strap junior without a heartbeat on any path; the device becomes SOLE (R341). -/
def execPairWaitExpire (s : State) : Out :=
  if s.twinState = 1 then
    let from_ := if s.strapSenior then s.twin.since else Nat.max s.twin.since s.twin.heardAt
    .next ((s.runTo (from_ + s.get Fld.TWIN_WAIT2_PAIR_WAIT * 100000000)).becomeSole)
  else .next s

/-! ### Stalls and the match store (R347, R348) -/

/-- A path is down or its third miss would fall at the end of this interval. -/
def HbPath.failing (h : HbPath) : Bool := !h.up || (decide (2 ≤ h.missed) && decide (h.seen = 0))

/-- STALL: LAG_LIMIT after the boundary that starts its own Belfry tick for logical tick T, the junior lacks T's inputs; it enters SILENT,
or, when every path may be lost in this heartbeat interval, waits for the interval's end (R348, R363). -/
def execStall (s : State) : Out :=
  if s.twinState = 3 then
    let t := s.rd64 Reg.TWIN_EXEC_LO + 1
    let s := s.runTo (boundaryNs t + s.lag + s.get Fld.TWIN_CFG_LAG_LIMIT * 10000)
    let s := s.post s.twinEvq 0x0F 0xE4 0 (t % 2 ^ 32)
    let w := s.twin
    if w.link.failing && w.pins.failing && w.lan.failing then .next (s.modTwin (fun w => { w with stallDue := true }))
    else .next (s.enterTwin 4)
  else .next s

/-- MATCH_STORE_EXPIRE: the oldest packet of the match store has been held 50 ms (R347). The catch-up store keeps its packets (R359). -/
def execMatchStoreExpire (s : State) : Out :=
  match s.twin.store with
  | [] => .next s
  | p :: rest => if s.twinState = 5 then .next s else .next ((s.runTo p.until_).modTwin (fun w => { w with store := rest }))

/-! ### Digests (R352 to R354) -/

/-- Groups whose digests differ between two lists, one absent from either counting as different. -/
def digestDiff (a b : List (Nat × Nat)) : List Nat :=
  let gs := a.map (·.1) ++ (b.map (·.1)).filter (fun g => !(a.map (·.1)).contains g)
  gs.filter (fun g => decide ((a.find? (fun p => decide (p.1 = g))).map (·.2) ≠ (b.find? (fun p => decide (p.1 = g))).map (·.2)))

/-- A leg found diverged at tick t (R353): it is sent no longer. -/
def State.diverge (s : State) (t l : Nat) : State :=
  let s := s.modLeg l (fun g => { g with silenced := true })
  let s := s.modTwin (fun w => { w with syncs := w.syncs ++ [⟨l, 0, 0, false⟩], diverged := w.diverged ++ [(t, l)] })
  let s := s.bump Fld.TWIN_MISMATCH_LEGS
  ((s.post s.twinEvq 0x0F 0xE2 l (t % 2 ^ 32)).event twinPage 3).showTwin

/-- A resynchronised leg's digest of a tick matched or not (R353): after 100 in a row it is sent again. -/
def State.resyncMatch (s : State) (y : LegSync) (ok : Bool) : State :=
  if !y.copied then s
  else
    let n := if ok then y.matched + 1 else 0
    let others := s.twin.syncs.filter (fun z => decide (z.leg ≠ y.leg))
    if n < 100 then s.modTwin (fun w => { w with syncs := others ++ [{ y with matched := n }] })
    else
      let s := s.modTwin (fun w => { w with syncs := others })
      let s := (s.modLeg y.leg (fun g => { g with silenced := false })).bump Fld.TWIN_RESYNCS_LEG
      let s := s.post s.twinEvq 0x0F 0xE3 y.leg (y.f % 2 ^ 32)
      (s.sendMsg 3 0 1 2 32 (.resynced [y.leg])).showTwin

/-- DIGEST_COMPARE: the junior's releases of T are complete and its group digests are compared with the tick mark's. `fetched` are the senior's per-leg digests of T as fetched: of
the groups that differ, whose legs with another digest are diverged, and of the legs being resynchronised. More than WIDE legs in 100 ticks,
or a leg that does not match within RECHECK ticks of its F, send the device to SILENT (R352 to R354). -/
def execDigestCompare (t : Nat) (fetched : List (Nat × Nat)) (s : State) : Out :=
  if s.twinState ≠ 3 ∨ t < s.twin.compared then .next s
  else
    let bad := digestDiff (s.twin.digestsOf t false) (s.twin.digests.get (fun _ => []) t)
    let differ := digestDiff (s.twin.digestsOf t true) fetched
    let s := s.modTwin (fun w => { w with digests := w.digests.filter (fun p => decide (t < p.1)), compared := t + 1 })
    let s := s.bump Fld.TWIN_MISMATCH_GROUPS bad.length
    let fresh := (differ.filter (fun l => bad.contains (s.groupOf l) && decide (s.effRec 1 l ≠ none) && !(s.twin.syncs.any (fun y => decide (y.leg = l))))).eraseDups
    let old := s.twin.syncs
    let s := forEach fresh (fun l s => s.diverge t l) s
    let s := if fresh = [] then s else s.sendMsg 3 0 1 2 32 (.diverged t fresh)
    let s := forEach old (fun y s => s.resyncMatch y (!differ.contains y.leg)) s
    let s := s.modTwin (fun w => { w with diverged := w.diverged.filter (fun p => decide (t < p.1 + 100)) })
    let wide := decide (s.get Fld.TWIN_CFG_WIDE < s.twin.diverged.length)
    let stuck := s.twin.syncs.any (fun y => y.copied && decide (y.f + s.get Fld.TWIN_WAIT2_RECHECK < t))
    .next (if wide || stuck then s.enterTwin 4 else s)

/-! ### Rejoin (R341, R359) -/

/-- The ticks a returning device is behind its target lag, L of its partner plus 1,000,000 ns (R359). -/
def State.ticksBehind (s : State) : Nat :=
  let target := (s.now - (((s.twin.partner.map (·.lag)).getD 0) + 1000000)) / 1000000
  target - (s.rd64 Reg.TWIN_EXEC_LO + 1)

/-- A packet of the snapshot waits at the release stage. -/
def State.restorePkt (s : State) (p : TxPkt) : State :=
  let p := { p with id := s.nextPkt }
  let s := { s with nextPkt := p.id + 1, pkts := s.pkts.set (fun _ => none) p.id (some p) }
  match p.kind with
  | .audio | .rtcp => s
  | .video | .rtx => if p.leg < 0x4000 then s.qAppend p.leg (p.len + 32) p.id else s

/-- The snapshot's packets and tasks take the place of this device's (R359). -/
def State.restoreWork (s : State) (c : Snapshot) : State :=
  let s := forEach c.pkts (fun p (s : State) => s.restorePkt p) s.dropWork
  let s := forUpTo 2 (fun n (s : State) => s.setPlane n { s.plane n with txSeq := c.planeSeq.getD n 0 }) s
  forEach c.tasks (fun t (s : State) => s.submitTask { t with state := .waiting, engine := 0x7FF }) s

/-- RESYNC_COPY_DONE: the snapshot of the acting senior is complete and takes the place of this device's media state; catch-up begins at F (R359). -/
def execResyncCopyDone (c : Snapshot) (s : State) : Out :=
  if s.twinState = 5 ∧ s.twin.copied = false then
    let s := { s with gate := c.gate, keys := c.keys, legs := c.legs, confs := c.confs, taps := c.taps, vstrs := c.vstrs, ostrs := c.ostrs }
    let s := { s with rxWin := c.rxWin, ecomps := c.ecomps, decs := c.decs, layouts := c.layouts, audio := c.audio, legAudio := c.legAudio,
                      confAudio := c.confAudio, kernels := c.kernels }
    let s := s.restoreWork c
    let s := forEach c.writes (fun p (s : State) => s.wr p.1 (BitVec.ofNat 32 p.2)) s
    let s := s.modTwin (fun w => { w with copied := true, common := c.f - 1 })
    let s := s.wr64 Reg.TWIN_EXEC_LO (c.f - 1)
    .next ((s.put Fld.TWIN_COPY_PHASE 2).put Fld.TWIN_COPY_BEHIND (Nat.min (2 ^ 24 - 1) s.ticksBehind))
  else .next s

/-- CATCHUP_DONE: catch-up has reached the target lag; the device becomes JUNIOR (R359). -/
def execCatchupDone (s : State) : Out :=
  if s.twinState = 5 ∧ s.twin.copied = true ∧ s.ticksBehind = 0 then .next ((s.enterTwin 3).bump Fld.TWIN_RESYNCS_FULL)
  else .next s

/-- RESYNC_COPY_TIMEOUT: the copy is not complete in 10 s (R341). -/
def execResyncCopyTimeout (s : State) : Out :=
  if s.twinState = 5 ∧ s.twin.copied = false then .next ((s.runTo (s.twin.since + 10000000000)).resyncFails) else .next s

/-- RESYNC_RETRY: 10 s after a failure the resynchronisation is tried again (R359). -/
def execResyncRetry (s : State) : Out :=
  if s.twinState = 4 ∧ s.twin.failedSync = true then
    .next (((s.runTo (s.twin.since + 10000000000)).modTwin (fun w => { w with failedSync := false })).pairStep)
  else .next s

/-! ### Reverts and commands (R346, R361) -/

/-- The conditions of R361 apart from REVERT_AUTO; a revert waits until no leg is diverged (R363). -/
def State.mayRevert (s : State) : Bool :=
  decide (s.twinState = 2) && !s.strapSenior && decide (s.partnerState = 3) && s.twin.bothLans.isEmpty && s.twin.swapAt.isNone &&
    (match s.twin.partnerJunior with | some t => decide (t + s.get Fld.TWIN_WAIT_REVERT_HOLD * 1000000000 ≤ s.now) | none => false)

/-- The acting senior chooses S (R361 step 1). -/
def State.revertStart (s : State) : State := s.modTwin (fun w => { w with swapAt := some (s.ltick + 2) })

/-- TWIN_REVERT_HOLD_EXPIRE: the partner has been JUNIOR for REVERT_HOLD without a break; with REVERT_AUTO the revert starts (R361). -/
def execTwinRevertHoldExpire (s : State) : Out :=
  match s.twin.partnerJunior with
  | none => .next s
  | some t =>
    if s.twinState = 2 ∧ s.strapSenior = false then
      let s := s.runTo (t + s.get Fld.TWIN_WAIT_REVERT_HOLD * 1000000000)
      .next (if s.on Fld.TWIN_CFG_REVERT_AUTO && s.mayRevert then s.revertStart else s)
    else .next s

/-- A write of TWIN_CMD (R346, R361). -/
def State.twinCmdWrite (s : State) (w : Word) : State :=
  s.checked Reg.TWIN_CMD w
    (fun s => if bits w 0 2 = 1 then (if s.mayRevert then none else some .state) else if s.twinState = 3 then none else some .state)
    (fun s => if bits w 0 2 = 1 then s.revertStart else (s.enterTwin 4).pairStep)

/-- TWIN_CMD_REVERT. -/
def execTwinCmdRevert (s : State) : Out := .next (s.twinCmdWrite 1)

/-- TWIN_CMD_RESYNC: a JUNIOR enters SILENT and then RESYNC. -/
def execTwinCmdResync (s : State) : Out := .next (s.twinCmdWrite 2)

/-- A write of TWIN_CFG, TWIN_WAIT or TWIN_WAIT2: rejected on an acting junior, and copied to the partner by the senior (R346). -/
def State.twinSetWrite (s : State) (addr : Nat) (w : Word) : State :=
  s.checked addr w (fun s => if s.twinJunior then some .twin else none)
    (fun s => (((s.record (.write addr w.toNat (s.ltick + 1))).applyWrite addr w)).showTwin)

end Sys2Proof.Machine
end

