-- ==== Sys2Proof/Machine/Security.lean ====
section
/-! DEFINITION. Keys, ciphers and alarms (spec/19_security.md, R384 to R404, R515): the SRTP key store, the management cipher unit with its lock, jobs, pre-emption
and key slots, the alarm logic, the anti-rollback counter and the entropy source. -/

namespace Sys2Proof.Machine

def keystorePage : Nat := 0xC1000
def alarmPage : Nat := 0xC2000

/-- An alarm is latched (R400). -/
def State.latched (s : State) : Bool := s.on Fld.ALARM_STATUS_LATCHED

def State.modSec (s : State) (f : Sec → Sec) : State := { s with sec := f s.sec }

/-! ### The key store (R384 to R389) -/

def State.keyCtx (s : State) (c : Nat) : KeyCtx := s.keys.get (fun _ => {}) c

/-- A LEG record names a context (R384). -/
def legNames (r c : Nat) : Bool := decide (LEG.PROFILE r ≠ 0) && (decide (LEG.TX_CTX r = c) || decide (LEG.RX_CTX r = c) || decide (LEG.RX_OLD r = c))

/-- Effective and pending LEG records. -/
def State.legRecords (s : State) : List Nat :=
  (tableRecs s.gate.effective 1).map (·.2) ++
    ((s.gate.pending ++ s.gate.txn).filter (fun r => decide (r.table = 1) && decide (r.op ≠ .delete))).map (·.data)

/-- LEGS of KEYSTORE_STATE. -/
def State.ctxLegs (s : State) (c : Nat) : Nat := (s.legRecords.filter (fun r => legNames r c)).length

/-- Contexts become HOT or COLD as LEG records name them or stop doing so, and KEYSTORE_COUNT follows (R384). -/
def State.keyRefresh (s : State) : State :=
  let rs := s.legRecords
  let keys := s.keys.map (fun p => (p.1, { p.2 with state := if p.2.state = 0 then 0 else if rs.any (fun r => legNames r p.1) then 2 else 1 }))
  let s := { s with keys := keys }
  let hot := (keys.filter (fun p => decide (p.2.state = 2))).length
  let cold := (keys.filter (fun p => decide (p.2.state = 1))).length
  (s.put Fld.KEYSTORE_COUNT_HOT hot).put Fld.KEYSTORE_COUNT_COLD (Nat.min 65535 cold)

/-- What R385 rejects in a record. -/
def keyRecordErr (r : Nat) : Option Err :=
  let profile := recField r 0 0 8
  let key := if profile = 2 then 32 else 16
  let salt := if profile = 3 then 14 else 12
  if 4 ≤ profile ∨ recField r 1 1 7 ≠ 0 ∨ recField r 2 0 16 ≠ 0 ∨ recField r (4 + key) 0 (8 * (32 - key)) ≠ 0 ∨
      recField r (36 + salt) 0 (8 * (14 - salt)) ≠ 0 ∨ recField r 50 0 112 ≠ 0 then some .reserved
  else if profile = 0 then some .range
  else none

/-- Load a record: the session keys are derived, the rollover counters and replay windows start afresh. -/
def State.loadCtx (s : State) (c r : Nat) : State :=
  let s := { s with keys := s.keys.set (fun _ => {}) c ⟨1, recField r 1 0 1, recField r 0 0 8, Config.sessionKeys r⟩ }
  let s := { s with rxWin := s.rxWin.filter (fun p => decide (p.1 / 2 ^ 32 ≠ c)) }
  s.keyRefresh

/-- Erase a context. -/
def State.eraseCtx (s : State) (c : Nat) : State := { s with keys := s.keys.set (fun _ => {}) c {} }.keyRefresh

/-- A key slot. -/
def State.slot (s : State) (k : Nat) : Option KeySlot := s.sec.slots.get (fun _ => none) k
def State.setSlot (s : State) (k : Nat) (x : Option KeySlot) : State := s.modSec (fun c => { c with slots := c.slots.set (fun _ => none) k x })

/-- One more invocation of a slot (R394). -/
def State.invoke (s : State) (k : Nat) : State := s.setSlot k ((s.slot k).map (fun x => { x with count := Nat.min 0xFFFFFFFF (x.count + 1) }))

/-- A slot that may unwrap a key: KEK set, user HOST (R386, R390). -/
def State.unwrapSlot (s : State) (k : Nat) : Option KeySlot :=
  match s.slot k with
  | some x => if x.kek ∧ x.user = 0 ∧ x.kind ≤ 2 then some x else none
  | none => none

/-- SLOT_EXHAUSTED. -/
def State.exhaustedEvent (s : State) (k user : Nat) : State := s.post (s.get Fld.ALARM_CFG_EVQ) 0x11 0x02 k user

/-- The acting senior records a key-store command as a KEY entry, which counts one invocation of the pair key (R388). -/
def State.recordKey (s : State) (c op data : Nat) : State :=
  if s.twinState = 2 then
    let s := if s.on Fld.KEYSTORE_PAIR_SLOT_VALID then s.invoke (s.get Fld.KEYSTORE_PAIR_SLOT_SLOT) else s
    s.record (.key c op data)
  else s

/-- A key-store command runs: what it is rejected with, and the state after. -/
def State.keyCommand (s : State) (w : Nat) (stage : List Byte) : Option Err × State :=
  let c := w / 16 % 65536
  let op := w % 16
  let k := w / 2 ^ 24 % 256
  let x := s.keyCtx c
  if s.latched then (some .state, s)
  else if s.twinJunior then (some .twin, s)
  else if w / 2 ^ 20 % 16 ≠ 0 ∨ op = 0 ∨ 3 < op then (some .reserved, s)
  else if 32767 < c then (some .range, s)
  else if op = 3 then
    if x.state ≠ 1 then (some .state, s) else (none, (s.eraseCtx c).recordKey c 3 0)
  else if op = 1 then
    let r := bytesNat (stage.take 64)
    if x.state ≠ 0 then (some .state, s)
    else match keyRecordErr r with
      | some e => (some e, s)
      | none => (none, (s.loadCtx c r).recordKey c 1 r)
  else
    match s.unwrapSlot k with
    | none => (some (if x.state ≠ 0 then .state else .nokey), s)
    | some y =>
      if y.count = 0xFFFFFFFF then
        if x.state ≠ 0 then (some .state, s) else (some .exhausted, s.exhaustedEvent k 0)
      else
        let s := s.invoke k
        if x.state ≠ 0 then (some .state, s)
        else match Config.unwrapPad y.key (stage.take 72) with
          | none => (some .tagfail, s)
          | some p =>
            let r := p.toNat % 2 ^ 512
            match keyRecordErr r with
            | some e => (some e, s)
            | none => (none, (s.loadCtx c r).recordKey c 1 r)

/-- The staging window. -/
def windowBytes (m : Sparse Word) (n : Nat) : List Byte := ((List.range n).map (fun w => natBytes 4 (m.get (fun _ => 0) w).toNat)).flatten

/-- A write of KEYSTORE_CMD: busy while a result is pending; otherwise the window is copied and cleared, and the command is on its way (R386). -/
def State.keystoreCmdWrite (s : State) (w : Word) : State :=
  let e := s.writeErr Reg.KEYSTORE_CMD w
  if e = some .state ∨ e = some .busy then s.reject Reg.KEYSTORE_CMD (e.getD .state)
  else if s.on Fld.KEYSTORE_RESULT_VALID = false then s.reject Reg.KEYSTORE_CMD .busy
  else (s.unvalid Reg.KEYSTORE_RESULT).modSec (fun c => { c with keyCmd := some (w.toNat, windowBytes c.stage 20), stage := [] })

/-- KEYSTORE_LOAD: a write of KEYSTORE_CMD with OP LOAD. -/
def execKeystoreLoad (index : Nat) (s : State) : Out := .next (s.keystoreCmdWrite (BitVec.ofNat 32 (index % 65536 * 16 + 1)))

/-- KEYSTORE_LOAD_WRAPPED. -/
def execKeystoreLoadWrapped (index wslot : Nat) (s : State) : Out :=
  .next (s.keystoreCmdWrite (BitVec.ofNat 32 (wslot % 256 * 2 ^ 24 + index % 65536 * 16 + 2)))

/-- KEYSTORE_ERASE. -/
def execKeystoreErase (index : Nat) (s : State) : Out := .next (s.keystoreCmdWrite (BitVec.ofNat 32 (index % 65536 * 16 + 3)))

/-- KEYSTORE_CMD_DONE: the command in progress completes and posts its result; a rejection is posted in PG_LAST_ERR as well (R386). -/
def execKeystoreCmdDone (s : State) : Out :=
  match s.sec.keyCmd with
  | none => .next s
  | some (w, stage) =>
    let s := s.modSec (fun c => { c with keyCmd := none })
    let c := w / 16 % 65536
    let (e, s) := s.keyCommand w stage
    let code := (e.map Err.code).getD 0
    let s := s.postResult Reg.KEYSTORE_RESULT (c * 256 + code)
    .next (if code = 0 then s else s.postErr keystorePage 0x40 code)

/-- A write of a word of KEYSTORE_STAGE. -/
def State.stageWrite (s : State) (i : Nat) (w : Word) : State :=
  s.checked (Reg.KEYSTORE_STAGE_w i) w (fun s => if s.twinJunior then some .twin else none)
    (fun s => s.modSec (fun c => { c with stage := c.stage.set (fun _ => 0) i w }))

/-- A write of KEYSTORE_SEL starts a fetch. -/
def State.keystoreSelWrite (s : State) (w : Word) : State :=
  s.checked Reg.KEYSTORE_SEL w (fun s => if s.twinJunior then some .twin else none)
    (fun s => ((s.applyWrite Reg.KEYSTORE_SEL w).fetchStart Reg.KEYSTORE_SEL).unvalid Reg.KEYSTORE_STATE)

/-- KEYSTORE_SEL. -/
def execKeystoreSel (index : Nat) (s : State) : Out := .next (s.keystoreSelWrite (BitVec.ofNat 32 index))

/-- The fetch of KEYSTORE_STATE completes. -/
def State.keystoreFetch (s : State) : State :=
  let c := s.get Fld.KEYSTORE_SEL_INDEX
  let x := s.keyCtx c
  s.postResult Reg.KEYSTORE_STATE (x.state * 2 ^ 22 + x.dir * 2 ^ 21 + x.profile % 8 * 2 ^ 18 + s.ctxLegs c % 2 ^ 15)

/-- A write of KEYSTORE_PAIR_SLOT: E_STATE once the device has left PAIRING, E_NOKEY unless the slot is an AES-256 KEK slot of user TWIN. -/
def State.pairSlotWrite (s : State) (w : Word) : State :=
  s.checked Reg.KEYSTORE_PAIR_SLOT w
    (fun s =>
      if s.twinJunior then some .twin
      else if 2 ≤ s.twinState then some .state
      else if bit w 8 = false then none
      else match s.slot (bits w 0 8) with
        | some x => if x.kind = 2 ∧ x.kek ∧ x.user = 3 then none else some .nokey
        | none => some .nokey)
    (fun s => s.applyWrite Reg.KEYSTORE_PAIR_SLOT w)

/-! ### The lock (R391) -/

/-- CIPHER_LOCK shows the lock. -/
def State.showLock (s : State) : State :=
  let waiting := sumBy (fun u => if s.sec.requests.any (fun r => decide (r.user = u)) then 2 ^ u else 0) (List.range 4)
  let sus := (s.sec.suspended.map (·.user)).getD 7
  (s.put Fld.CIPHER_LOCK_WAITING waiting).put Fld.CIPHER_LOCK_SUSPENDED sus

/-- The owner of the lock; 7: free. -/
def State.lockOwner (s : State) : Nat := s.get Fld.CIPHER_LOCK_OWNER

/-- A user's class may be what it asks for. -/
def classAllowed (user : Nat) (urgent : Bool) : Bool := (decide (user = 0) && !urgent) || decide (user = 1) || (decide (user = 2) && !urgent) || (decide (user = 3) && urgent)

/-- The user has no request outstanding. -/
def State.mayRequest (s : State) (user : Nat) : Bool :=
  decide (s.lockOwner ≠ user) && !s.sec.requests.any (fun r => decide (r.user = user)) && decide (s.sec.suspended.map (·.user) ≠ some user)

def State.lockRequest (s : State) (user : Nat) (urgent : Bool) : State :=
  if s.mayRequest user && classAllowed user urgent then
    (s.modSec (fun c => { c with requests := insertBy (fun (r : LockReq) => r.at_ * 4 + r.user) ⟨user, urgent, s.now⟩ c.requests })).showLock
  else s

/-- The lock becomes free. -/
def State.lockFree (s : State) : State := ((s.put Fld.CIPHER_LOCK_OWNER 7).modSec (fun c => { c with releaseDue := false, ownerUrgent := false })).showLock

/-- A user releases: a waiting request is withdrawn, a job running or suspended completes first. -/
def State.lockRelease (s : State) (user : Nat) : State :=
  let s := (s.modSec (fun c => { c with requests := c.requests.filter (fun r => decide (r.user ≠ user)) })).showLock
  let mine (j : Option CipherJob) : Bool := match j with | some x => decide (x.user = user) && decide (x.alg ≠ 0) | none => false
  if mine s.sec.running || mine s.sec.suspended then s.modSec (fun c => { c with releaseDue := true })
  else if s.lockOwner = user then (s.modSec (fun c => { c with running := none })).lockFree
  else s

/-- A write of CIPHER_LOCK: REQ 1 requests, 0 releases. -/
def State.cipherLockWrite (s : State) (w : Word) : State :=
  s.checked Reg.CIPHER_LOCK w (fun _ => none)
    (fun s =>
      let s := s.applyWrite Reg.CIPHER_LOCK w
      if bit w 0 then s.lockRequest 0 false else s.lockRelease 0)

/-- CIPHER_LOCK_REQUEST: HOST (0) by a write of CIPHER_LOCK; FW (1), REC (2) and TWIN (3) inside the device. -/
def execCipherLockRequest (user : Nat) (urgent : Bool) (s : State) : Out :=
  if user = 0 then .next (s.cipherLockWrite 1) else .next (s.lockRequest user urgent)

/-- CIPHER_LOCK_RELEASE. -/
def execCipherLockRelease (user : Nat) (s : State) : Out :=
  if user = 0 then .next (s.cipherLockWrite 0) else if user < 4 then .next (s.lockRelease user) else .next s

/-- The lock goes to a request; a user inside the device starts its job. -/
def State.lockTake (s : State) (r : LockReq) : State :=
  let s := s.modSec (fun c => { c with requests := c.requests.filter (fun x => decide (x.user ≠ r.user)), ownerUrgent := r.urgent })
  let s := if r.user ≠ 0 ∧ s.latched = false then s.modSec (fun c => { c with running := some ⟨r.user, 0, 0, 0, 0, 0, [], [], [], 0, 0, 0, s.now, none, false, none⟩ }) else s
  (s.put Fld.CIPHER_LOCK_OWNER r.user).showLock

/-- CIPHER_LOCK_GRANT: a free lock goes to the earliest URGENT request, else back to a suspended job's user, else to the earliest NORMAL request (R391). -/
def execCipherLockGrant (s : State) : Out :=
  if s.lockOwner ≠ 7 then .next s
  else match s.sec.requests.find? (fun r => r.urgent) with
    | some r => .next (s.lockTake r)
    | none =>
      match s.sec.suspended with
      | some j => .next (s.put Fld.CIPHER_LOCK_OWNER j.user).showLock
      | none =>
        match s.sec.requests with
        | r :: _ => .next (s.lockTake r)
        | [] => .next s

/-! ### Jobs (R392 to R395) -/

/-- Bytes SRC holds. -/
def jobSrcLen (alg len aad : Nat) : Nat := if alg = 1 then aad + len else if alg = 2 then aad + len + 16 else len

/-- The job's AAD and its data. -/
def CipherJob.aadBytes (j : CipherJob) : List Byte := if j.alg ≤ 2 then j.input.take j.aad else []
def CipherJob.dataBytes (j : CipherJob) : List Byte := if j.alg ≤ 2 then j.input.drop j.aad else j.input

/-- Bytes DST receives. -/
def CipherJob.outLen (j : CipherJob) : Nat :=
  match j.alg with
  | 1 => j.len + 16
  | 7 => j.len + 8
  | 8 => j.len - 8
  | 9 => roundUp j.len 8 + 8
  | 10 => j.len - 8 - (Config.padBytes j.key j.input).toNat
  | 11 => 32
  | 12 => 48
  | 13 => if j.key.length = 48 then 48 else 32
  | _ => j.len

/-- The output. -/
def CipherJob.output (j : CipherJob) : List Byte :=
  (List.range j.outLen).map (Config.cipherByte j.alg j.key j.iv j.aadBytes j.dataBytes)

/-- The tag or the integrity check holds; the other operations have none. -/
def CipherJob.verifies (j : CipherJob) : Bool :=
  if j.alg = 2 ∨ j.alg = 8 ∨ j.alg = 10 then Config.cipherVerifies j.alg j.key j.iv j.aadBytes j.dataBytes else true

/-- Bytes of DST written once n blocks have ended: the streaming operations write as they go. -/
def CipherJob.streamed (j : CipherJob) (n : Nat) : Nat := if 1 ≤ j.alg ∧ j.alg ≤ 6 then Nat.min (16 * n) j.len else 0

/-- Blocks of a job and the SOC cycles of each (R392): 4 per AES block or wrap step, 80 per SHA block. -/
def jobBlocks (alg len kind : Nat) : Nat × Nat :=
  let wrap (n : Nat) : Nat := if n = 1 then 1 else 6 * n
  if alg ≤ 6 then (ceilDiv len 16, 4)
  else if alg = 7 ∨ alg = 9 then (wrap (ceilDiv len 8), 4)
  else if alg = 8 ∨ alg = 10 then (wrap (len / 8 - 1), 4)
  else if alg = 11 then ((len + 72) / 64, 80)
  else if alg = 12 then ((len + 144) / 128, 80)
  else if kind = 3 then ((len + 72) / 64 + 3, 80)
  else ((len + 144) / 128 + 3, 80)

/-- The block a source byte belongs to. -/
def jobBlockOf (alg aad pos kind : Nat) : Nat :=
  if alg ≤ 2 then (pos - aad) / 16
  else if alg ≤ 6 then pos / 16
  else if alg ≤ 10 then 0
  else if alg = 11 ∨ (alg = 13 ∧ kind = 3) then pos / 64
  else pos / 128

/-- The first block of a range of device DRAM whose data is poisoned or does not exist. -/
def State.poisonBlock (s : State) (src n alg aad kind : Nat) : Option Nat :=
  ((List.range ((n + 63) / 64)).find? (fun i => s.poisoned.contains (src / 64 + i) || decide (dramBytes s.geom ≤ src + 64 * i))).map
    (fun i => jobBlockOf alg aad (64 * i) kind)

/-- The IV: 12 bytes for GCM, 16 for CTR and CBC, big-endian words. -/
def State.jobIv (s : State) (alg : Nat) : List Byte :=
  let word (k : Nat) : List Byte := (natBytes 4 (s.rd (Reg.CIPHER_JOB_IVk k)).toNat).reverse
  if alg ≤ 2 then ((List.range 3).map word).flatten else if alg ≤ 6 then ((List.range 4).map word).flatten else []

/-- What a START is rejected with (R390, R392, R394). -/
def State.jobErr (s : State) (alg k : Nat) : Option Err :=
  let len := s.get Fld.CIPHER_JOB_LEN_LEN
  let n := jobSrcLen alg len (s.get Fld.CIPHER_JOB_AAD_LEN)
  let src := s.rd64 Reg.CIPHER_JOB_SRC_LO
  let dst := s.rd64 Reg.CIPHER_JOB_DST_LO
  let hash := decide (alg = 11 ∨ alg = 12)
  let busy (j : Option CipherJob) : Bool := decide (j.map (·.user) = some 0)
  let kind : Nat := ((s.slot k).map KeySlot.kind).getD 0
  let kek : Bool := ((s.slot k).map KeySlot.kek).getD false
  let out := CipherJob.outLen ⟨0, alg, k, dst, len, 0, [], [], List.replicate (if kind = 4 then 48 else 32) 0, 0, 0, 0, 0, none, false, none⟩
  if s.latched then some .state
  else if s.lockOwner ≠ 0 then some .locked
  else if busy s.sec.running || busy s.sec.suspended then some .busy
  else if !hash && decide (k < 16) then some .priv
  else if !hash && decide ((s.slot k).map (·.user) ≠ some 0) then some .nokey
  else if !hash && ((decide (alg ≤ 10) && decide (2 < kind)) || (decide (10 < alg) && decide (kind < 3)) || (kek != (decide (7 ≤ alg) && decide (alg ≤ 10)))) then some .conflict
  else if decide (0 < n) && decide (0 < out) && overlaps src n dst out then some .conflict
  else if (decide (alg = 5 ∨ alg = 6) && decide (len % 16 ≠ 0)) ||
      (decide (alg = 7 ∨ alg = 8) && (decide (len % 8 ≠ 0) || decide (len < 16) || decide (4096 < len))) ||
      (decide (alg = 9 ∨ alg = 10) && (decide (len = 0) || decide (4096 < len))) then some .range
  else if !hash && decide (((s.slot k).map (·.count)).getD 0 = 0xFFFFFFFF) then some .exhausted
  else none

/-- A job of user HOST starts; the slot's COUNT goes up before its first block. -/
def State.jobStart (s : State) (alg k : Nat) : State :=
  let len := s.get Fld.CIPHER_JOB_LEN_LEN
  let aad := if alg ≤ 2 then s.get Fld.CIPHER_JOB_AAD_LEN else 0
  let n := jobSrcLen alg len aad
  let src := s.rd64 Reg.CIPHER_JOB_SRC_LO
  let hash := decide (alg = 11 ∨ alg = 12)
  let x := if hash then none else s.slot k
  let kind := (x.map (·.kind)).getD 0
  let b := jobBlocks alg len kind
  let j : CipherJob := ⟨0, alg, k, s.rd64 Reg.CIPHER_JOB_DST_LO, len, aad, s.jobIv alg, s.dram.readList src n, (x.map (·.key)).getD [], b.1, b.2, 0, s.now,
    s.poisonBlock src n alg aad kind, false, none⟩
  let s := if hash then s else s.invoke k
  (s.unvalid Reg.CIPHER_RESULT).modSec (fun c => { c with running := some j })

/-- A write of CIPHER_JOB_CMD. -/
def State.jobCmdWrite (s : State) (w : Word) : State :=
  let alg := bits w 4 4
  let k := bits w 8 8
  let t := s.checked Reg.CIPHER_JOB_CMD w (fun s => if bit w 0 then s.jobErr alg k else none)
    (fun s => if bit w 0 then s.jobStart alg k else s)
  if s.writeErr Reg.CIPHER_JOB_CMD w = none ∧ bit w 0 = true ∧ s.jobErr alg k = some .exhausted then t.exhaustedEvent k 0 else t

/-- START of one operation on a slot. -/
def jobWord (alg slot : Nat) : Word := BitVec.ofNat 32 (slot % 256 * 256 + alg * 16 + 1)

/-- CIPHER_GCM_ENCRYPT. -/
def execCipherGcmEncrypt (slot : Nat) (s : State) : Out := .next (s.jobCmdWrite (jobWord 1 slot))
/-- CIPHER_GCM_DECRYPT. -/
def execCipherGcmDecrypt (slot : Nat) (s : State) : Out := .next (s.jobCmdWrite (jobWord 2 slot))
/-- CIPHER_CTR_ENCRYPT. -/
def execCipherCtrEncrypt (slot : Nat) (s : State) : Out := .next (s.jobCmdWrite (jobWord 3 slot))
/-- CIPHER_CTR_DECRYPT. -/
def execCipherCtrDecrypt (slot : Nat) (s : State) : Out := .next (s.jobCmdWrite (jobWord 4 slot))
/-- CIPHER_CBC_ENCRYPT. -/
def execCipherCbcEncrypt (slot : Nat) (s : State) : Out := .next (s.jobCmdWrite (jobWord 5 slot))
/-- CIPHER_CBC_DECRYPT. -/
def execCipherCbcDecrypt (slot : Nat) (s : State) : Out := .next (s.jobCmdWrite (jobWord 6 slot))
/-- CIPHER_KEY_WRAP (RFC 3394). -/
def execCipherKeyWrap (slot : Nat) (s : State) : Out := .next (s.jobCmdWrite (jobWord 7 slot))
/-- CIPHER_KEY_UNWRAP (RFC 3394). -/
def execCipherKeyUnwrap (slot : Nat) (s : State) : Out := .next (s.jobCmdWrite (jobWord 8 slot))
/-- CIPHER_KEY_WRAP_PAD (RFC 5649). -/
def execCipherKeyWrapPad (slot : Nat) (s : State) : Out := .next (s.jobCmdWrite (jobWord 9 slot))
/-- CIPHER_KEY_UNWRAP_PAD (RFC 5649). -/
def execCipherKeyUnwrapPad (slot : Nat) (s : State) : Out := .next (s.jobCmdWrite (jobWord 10 slot))
/-- CIPHER_SHA256. -/
def execCipherSha256 (slot : Nat) (s : State) : Out := .next (s.jobCmdWrite (jobWord 11 slot))
/-- CIPHER_SHA384. -/
def execCipherSha384 (slot : Nat) (s : State) : Out := .next (s.jobCmdWrite (jobWord 12 slot))
/-- CIPHER_HMAC. -/
def execCipherHmac (slot : Nat) (s : State) : Out := .next (s.jobCmdWrite (jobWord 13 slot))

/-- The running job ends: its result is posted, and a release made meanwhile takes effect. -/
def State.jobEnd (s : State) (j : CipherJob) (code : Nat) : State :=
  let s := s.modSec (fun c => { c with running := none })
  let s := if code = Err.tagfail.code then (s.bump Fld.CIPHER_TAGFAIL_COUNT).post (s.get Fld.ALARM_CFG_EVQ) 0x11 0x03 j.user j.slot else s
  let s := s.postResult Reg.CIPHER_RESULT (j.slot * 65536 + code)
  if s.sec.releaseDue then s.lockFree else s

/-- What has been written to DST once n blocks have ended. -/
def State.jobWrite (s : State) (j : CipherJob) (n : Nat) : State := s.dramPut j.dst (j.output.take (j.streamed n))

/-- CIPHER_JOB_DONE: the running job finishes its last block and posts its result, or ends at a poisoned block; a failed GCM tag, and poison in a decrypt, first zero
DST (R392, R395); a job an alarm stopped posts E_NOKEY (R399). -/
def execCipherJobDone (s : State) : Out :=
  match s.sec.running with
  | none => .next s
  | some j =>
    if j.alg = 0 then
      let s := s.modSec (fun c => { c with running := none })
      .next (if s.sec.ownerUrgent then s else s.lockFree)
    else if j.stopped then .next (s.jobEnd j Err.nokey.code)
    else if j.zeroing.isSome then .next s
    else
      match j.poison with
      | some p =>
        let s := ((s.runTo (j.at_ + (p - j.ended) * j.cycles)).jobWrite j p).contained
        if j.alg = 2 ∨ j.alg = 4 ∨ j.alg = 6 then
          .next (s.modSec (fun c => { c with running := some { j with ended := p, zeroing := some Err.poison.code } }))
        else .next (s.jobEnd j Err.poison.code)
      | none =>
        let s := s.runTo (j.at_ + (j.blocks - j.ended) * j.cycles + (if j.alg = 2 then 8 else 0))
        if j.verifies then .next ((s.dramPut j.dst j.output).jobEnd j 0)
        else if j.alg = 2 then
          let s := s.jobWrite j j.blocks
          .next (s.modSec (fun c => { c with running := some { j with ended := j.blocks, zeroing := some Err.tagfail.code } }))
        else .next (s.jobEnd j Err.tagfail.code)

/-- Every byte of DST the job has written is overwritten with zeros (R395 step 1). -/
def State.jobZero (s : State) (j : CipherJob) : State := s.dramPut j.dst (List.replicate (j.streamed j.ended) 0)

/-- CIPHER_TAG_ZEROISED: the zero writes have been acknowledged and the result is posted (R395). -/
def execCipherTagZeroised (s : State) : Out :=
  match s.sec.running with
  | some j =>
    match j.zeroing with
    | some code => .next (((s.runTo (s.now + ceilDiv (j.streamed j.ended) 16 + 16)).jobZero j).jobEnd j code)
    | none => .next s
  | none => .next s

/-- CIPHER_JOB_SUSPEND: a NORMAL job is suspended at the next block boundary, its state saved, and the lock passes to the URGENT request (R393). A job that ends
first, one that zeroes DST and an URGENT job go on. -/
def execCipherJobSuspend (s : State) : Out :=
  match s.sec.running, s.sec.requests.find? (fun r => r.urgent) with
  | some j, some r =>
    let t := Nat.max r.at_ j.at_
    let n := if j.cycles = 0 then 0 else ceilDiv (t - j.at_) j.cycles
    let done := j.ended + n
    let ends := decide (j.alg ≠ 0) && (decide (j.blocks ≤ done) || (match j.poison with | some p => decide (p < done) | none => false))
    if s.sec.ownerUrgent || s.sec.suspended.isSome || j.zeroing.isSome || ends then .next s
    else
      let s := (s.runTo (j.at_ + n * j.cycles + 32)).jobWrite j done
      let s := s.modSec (fun c => { c with suspended := some { j with ended := done }, running := none })
      .next ((s.bump Fld.CIPHER_PREEMPT_COUNT).lockTake r)
  | _, _ => .next s

/-- CIPHER_JOB_RESUME: no URGENT request waits; the suspended job's state is restored and it continues, its owner holding the lock (R393). -/
def execCipherJobResume (s : State) : Out :=
  match s.sec.suspended with
  | some j =>
    if s.sec.running.isNone ∧ (s.lockOwner = 7 ∨ s.lockOwner = j.user) ∧ s.sec.requests.any (fun r => r.urgent) = false then
      let s := s.runTo (s.now + 32)
      let s := s.modSec (fun c => { c with suspended := none, running := some { j with at_ := s.now }, ownerUrgent := false })
      .next (s.put Fld.CIPHER_LOCK_OWNER j.user).showLock
    else .next s
  | none => .next s

/-! ### Key slots (R390) -/

/-- Bytes of a key by KIND. -/
def kindBytes (k : Nat) : Nat := if k = 1 then 16 else if k = 4 then 48 else 32

/-- The slot is used by the running or the suspended job. -/
def State.slotUsed (s : State) (k : Nat) : Bool :=
  let uses (j : Option CipherJob) : Bool := match j with | some x => decide (x.slot = k) && decide (x.alg ≠ 0) | none => false
  uses s.sec.running || uses s.sec.suspended

/-- What a slot command is rejected with. -/
def State.slotErr (s : State) (w : Word) : Option Err :=
  let op := bits w 0 2
  let k := bits w 16 8
  let kind := bits w 8 3
  if s.latched then some .state
  else if k < 16 ∨ (op ≠ 3 ∧ bits w 12 2 = 1) then some .priv
  else if op ≠ 3 ∧ (kind = 0 ∨ 4 < kind) then some .reserved
  else if s.slotUsed k then some .busy
  else if op = 3 then (if (s.slot k).isNone then some .state else none)
  else if (s.slot k).isSome then some .state
  else if op = 2 then
    match s.unwrapSlot (bits w 24 8) with
    | none => some .nokey
    | some x => if x.count = 0xFFFFFFFF then some .exhausted else none
  else none

/-- A slot command runs and posts its result; CIPHER_KEYIN is cleared when it is posted. -/
def State.slotRun (s : State) (w : Word) : State :=
  let op := bits w 0 2
  let k := bits w 16 8
  let kind := bits w 8 3
  let ws := bits w 24 8
  let n := kindBytes kind
  let keyin := windowBytes s.sec.keyin 16
  let load (s : State) (key : List Byte) : State := s.setSlot k (some ⟨kind, decide (bits w 11 1 = 1), bits w 12 2, 0, key⟩)
  let (code, s) :=
    if op = 3 then (0, s.setSlot k none)
    else if op = 1 then (0, load s (keyin.take n))
    else
      let s := s.invoke ws
      match Config.unwrapPad (((s.slot ws).map (·.key)).getD []) (keyin.take (n + 8)) with
      | none => (Err.tagfail.code, s)
      | some p => (0, load s (natBytes n p.toNat))
  (s.modSec (fun c => { c with keyin := [] })).postResult Reg.CIPHER_RESULT (k * 65536 + code)

/-- A write of CIPHER_SLOT_CMD. -/
def State.slotCmdWrite (s : State) (w : Word) : State :=
  let t := s.checked Reg.CIPHER_SLOT_CMD w (fun s => s.slotErr w) (fun s => s.slotRun w)
  if s.writeErr Reg.CIPHER_SLOT_CMD w = none ∧ s.slotErr w = some .exhausted then t.exhaustedEvent (bits w 24 8) 0 else t

/-- The word of a slot command. -/
def slotWord (op slot wslot user kind : Nat) (kek : Bool) : Word :=
  BitVec.ofNat 32 (wslot % 256 * 2 ^ 24 + slot % 256 * 2 ^ 16 + user % 4 * 2 ^ 12 + b2n kek * 2 ^ 11 + kind % 8 * 2 ^ 8 + op)

/-- CIPHER_SLOT_LOAD: a slot is loaded from CIPHER_KEYIN. -/
def execCipherSlotLoad (slot user kind : Nat) (kek : Bool) (s : State) : Out := .next (s.slotCmdWrite (slotWord 1 slot 0 user kind kek))

/-- CIPHER_SLOT_LOAD_WRAPPED: a slot is loaded by unwrapping CIPHER_KEYIN under WSLOT. -/
def execCipherSlotLoadWrapped (slot wslot user kind : Nat) (kek : Bool) (s : State) : Out := .next (s.slotCmdWrite (slotWord 2 slot wslot user kind kek))

/-- CIPHER_SLOT_ERASE. -/
def execCipherSlotErase (slot : Nat) (s : State) : Out := .next (s.slotCmdWrite (slotWord 3 slot 0 0 1 false))

/-- A write of a word of CIPHER_KEYIN. -/
def State.keyinWrite (s : State) (i : Nat) (w : Word) : State :=
  s.checked (Reg.CIPHER_KEYIN_w i) w (fun _ => none) (fun s => s.modSec (fun c => { c with keyin := c.keyin.set (fun _ => 0) i w }))

/-- A write of CIPHER_SLOT_SEL starts a fetch. -/
def State.slotSelWrite (s : State) (w : Word) : State :=
  s.checked Reg.CIPHER_SLOT_SEL w (fun _ => none) (fun s => ((s.applyWrite Reg.CIPHER_SLOT_SEL w).fetchStart Reg.CIPHER_SLOT_SEL).unvalid Reg.CIPHER_SLOT_STATE)

/-- CIPHER_SLOT_SEL. -/
def execCipherSlotSel (slot : Nat) (s : State) : Out := .next (s.slotSelWrite (BitVec.ofNat 32 slot))

/-- The fetch of CIPHER_SLOT_STATE completes, with CIPHER_SLOT_COUNT. -/
def State.slotFetch (s : State) : State :=
  match s.slot (s.get Fld.CIPHER_SLOT_SEL_SLOT) with
  | none => (s.wr Reg.CIPHER_SLOT_COUNT 0).postResult Reg.CIPHER_SLOT_STATE 0
  | some x => (s.wr Reg.CIPHER_SLOT_COUNT (BitVec.ofNat 32 x.count)).postResult Reg.CIPHER_SLOT_STATE (256 + x.user * 64 + b2n x.kek * 32 + x.kind * 4)

/-! ### Alarms (R398 to R400) -/

/-- A leg with SRTP enters HALTED (R89, R399). -/
def State.haltLeg (s : State) (l : Nat) : State :=
  let g := s.leg l
  if LEG.PROFILE (s.legRec l) ≠ 0 ∧ (g.state = .active ∨ g.state = .txStopped) then
    ((s.setLeg l { g with state := .halted }).post (LEG.EVQ (s.legRec l)) 0x01 0x09 l 0).showLegs
  else s

/-- Jobs stop: a GCM decrypt zeroes DST, a running host job posts E_NOKEY, a suspended one when its result is due (R399, R403). -/
def State.stopJobs (s : State) : State :=
  let s := s.modSec (fun c => { c with suspended := c.suspended.map (fun j => { j with stopped := true, key := [] }) })
  let s := match s.sec.suspended with
    | some j => if j.alg = 2 then s.jobZero j else s
    | none => s
  match s.sec.running with
  | none => s
  | some j =>
    if j.alg = 0 then (s.modSec (fun c => { c with running := none })).lockFree
    else
      let n := Nat.min j.blocks (j.ended + (if j.cycles = 0 then 0 else (s.now - j.at_) / j.cycles))
      let j' := if j.zeroing.isSome then j else { j with ended := n }
      let s := if j.zeroing.isSome then s else s.jobWrite j n
      let s := if j.alg = 2 ∨ j.zeroing.isSome then s.jobZero j' else s
      s.jobEnd j Err.nokey.code

/-- An alarm source trips (R399): keys, slots, the session KEK and the DRBG are zeroised, the source and the time of the first trip latched, jobs stopped, SRTP legs
halted, and the alarm reported. A twin sends no more media and no heartbeats while the latch stands. A source that trips again acts again. -/
def State.alarm (s : State) (source : Nat) : State :=
  if 7 ≤ source then s
  else
    let first := !s.latched
    let s := s.stopJobs
    let s := { s with keys := [] }
    let s := (s.modSec (fun c => { c with slots := [], kek := false, drbg := false, stage := [], keyin := [] })).keyRefresh
    let s := s.put Fld.ALARM_STATUS_SOURCE (s.get Fld.ALARM_STATUS_SOURCE ||| 2 ^ source)
    let s := if first then
        ((s.put Fld.ALARM_STATUS_LATCHED 1).wr Reg.ALARM_TIME_LO (BitVec.ofNat 32 (s.now % 1000000000))).wr Reg.ALARM_TIME_HI (BitVec.ofNat 32 (s.now / 1000000000))
      else s
    let s := forEach s.legs.keys (fun l (s : State) => s.haltLeg l) s
    let obj := s.get Fld.ALARM_STATUS_SOURCE
    let s := ((s.uartLog 2 source).post (s.get Fld.ALARM_CFG_EVQ) 0x11 0x01 obj s.shortTime).event alarmPage 1
    s.blockFatal 0x01 (s.get (Fld.PG_ID_TYPE alarmPage)) 0 obj s.shortTime

/-- ALARM_TRIP: a source of R398 trips. While RESET_N is low the monitors are not armed (R506). -/
def execAlarmTrip (source : Nat) (s : State) : Out := .next (if s.boot.held then s else s.alarm source)

/-- A write of ALARM_CMD. -/
def State.alarmCmdWrite (s : State) (w : Word) : State :=
  s.checked Reg.ALARM_CMD w (fun _ => none) (fun s => if bit w 0 then s.alarm 6 else s)

/-- ALARM_ZEROISE. -/
def execAlarmZeroise (s : State) : Out := .next (s.alarmCmdWrite 1)

/-! ### Images, the anti-rollback counter and the entropy source (R397, R401, R402, R472) -/

/-- An image passes R401 and R402. -/
def State.imageValid (s : State) (f : FwImage) : Bool :=
  f.magicOk && decide (f.bodyLen % 4096 = 0) && decide (f.bodyLen ≤ 2 ^ 25) && f.signed && f.hashOk && decide (f.root < 4) && !bit s.flash.revoked f.root &&
    decide (f.svn < 64) && decide (s.get Fld.ALARM_BOOT_COUNTER ≤ f.svn)

/-- The image of the running slot and of the other one. -/
def State.runningImage (s : State) : Option FwImage := if s.on Fld.ALARM_BOOT_RUNNING_B then s.flash.imageB else s.flash.imageA
def State.otherImage (s : State) : Option FwImage := if s.on Fld.ALARM_BOOT_RUNNING_B then s.flash.imageA else s.flash.imageB

/-- A board configuration copy is valid (R472, R477). -/
def BoardCfg.valid (c : BoardCfg) : Bool :=
  c.crcOk && decide (c.geom < 3) && decide (16 ≤ c.mediaGib) && decide (c.mediaGib + 16 ≤ dramBytes c.geom / 2 ^ 30)

/-- The copy in force, with whether it is copy 1. -/
def Flash.board (f : Flash) : Option (BoardCfg × Bool) :=
  let a := f.cfg0.filter BoardCfg.valid
  let b := f.cfg1.filter BoardCfg.valid
  match a, b with
  | some x, some y => if x.gen < y.gen then some (y, true) else some (x, false)
  | some x, none => some (x, false)
  | none, some y => some (y, true)
  | none, none => none

/-- Epanis changes PREFER_B: it writes the copy not in force with GEN + 1. -/
def Flash.prefer (f : Flash) (b : Bool) : Flash :=
  match f.board with
  | none => f
  | some (c, one) =>
    let n := { c with gen := (c.gen + 1) % 2 ^ 32, preferB := b }
    if one then { f with cfg0 := some n } else { f with cfg1 := some n }

/-- A write of ALARM_BOOT: PREFER_B is written to the flash configuration. -/
def State.alarmBootWrite (s : State) (w : Word) : State :=
  s.checked Reg.ALARM_BOOT w (fun _ => none)
    (fun s => { s.applyWrite Reg.ALARM_BOOT w with flash := s.flash.prefer (bit w 31) })

/-- A write of ALARM_SVN_CMD: the counter rises to the running SVN, unless some image is not valid with at least that SVN (R402). -/
def State.svnCmdWrite (s : State) (w : Word) : State :=
  let good (f : Option FwImage) : Bool := match f with | some x => s.imageValid x && decide (s.get Fld.ALARM_BOOT_SVN ≤ x.svn) | none => false
  s.checked Reg.ALARM_SVN_CMD w
    (fun s => if bit w 0 && !(good s.runningImage && good s.otherImage) then some .state else none)
    (fun s =>
      if bit w 0 then
        let n := Nat.max (s.get Fld.ALARM_BOOT_COUNTER) (s.get Fld.ALARM_BOOT_SVN)
        (s.put Fld.ALARM_BOOT_COUNTER n).post (s.get Fld.ALARM_CFG_EVQ) 0x11 0x04 n (s.get Fld.ALARM_BOOT_SVN)
      else s)

/-- SVN_ADVANCE. -/
def execSvnAdvance (s : State) : Out := .next (s.svnCmdWrite 1)

/-- DRBG_RESEED: the DRBG reseeds; one zeroised by an alarm does not restart (R397, R400). -/
def execDrbgReseed (s : State) : Out :=
  if s.latched then .next s else .next ((s.modSec (fun c => { c with drbg := true })).bump Fld.ALARM_HEALTH_RESEEDS)

/-- The key shares are re-randomised at least once per audio tick (R396). -/
def State.shareTick (s : State) : State := s.modSec (fun c => { c with shares := c.shares + 1 })

end Sys2Proof.Machine
end

