-- ==== Sys2Proof/Machine/HostDma.lean ====
section
/-! DEFINITION. The host interface and DMA (spec/20_host_and_dma.md, R405 to R420): the BAR2 window, MSI-X, link loss and Function Level Reset, and the 32 DMA
channels. -/

namespace Sys2Proof.Machine

def hostifPage : Nat := 0x8000

/-- The base of every page of R40, ascending. -/
def allPages : List Nat := sortBy id ((pageMap.map (fun p => (List.range p.count).map (fun n => p.base + 0x1000 * n))).flatten)

/-! ### The BAR2 window (R407) -/

/-- A count in HOSTIF_BAR2_ERR. -/
def State.bar2Err (s : State) (f : FieldRef) : State := (s.bumpSat f).event hostifPage 1

/-- Pieces of a range by 64-byte line, as (address, bytes). -/
def linePieces (a n : Nat) : List (Nat × Nat) :=
  (List.range ((a % 64 + n + 63) / 64)).map (fun i =>
    let b := if i = 0 then a else a / 64 * 64 + 64 * i
    (b, Nat.min (64 - b % 64) (a + n - b)))

/-- The device address of byte o of BAR2. -/
def State.bar2Addr (s : State) (o : Nat) : Nat := s.get Fld.HOSTIF_WIN_BASE * 2 ^ 30 + o % 2 ^ 34

/-- One line of a BAR2 read: its bytes, and whether the completion carries EP. -/
def State.bar2ReadLine (s : State) (a n : Nat) : List Byte × Bool × State :=
  let ones := List.replicate n (255 : Byte)
  if s.boot.trained = false then (ones, true, s)
  else if dramBytes s.geom ≤ a then (ones, true, (s.dramNoChannel a 12 1).bar2Err Fld.HOSTIF_BAR2_ERR_RANGE)
  else
    let s := s.dramAccess a 12
    let (r, s) := s.decodeLine a 12 1 1 []
    if r = 0 then (s.dram.readList a n, false, s) else (ones, true, s.contained.bar2Err Fld.HOSTIF_BAR2_ERR_POISON)

/-- The lines of a read through the window: the data, EP, and the state after. -/
def State.bar2Lines (s : State) (l : List (Nat × Nat)) : List Byte × Bool × State :=
  l.foldl (fun (p : List Byte × Bool × State) x =>
    let r := p.2.2.bar2ReadLine x.1 x.2
    (p.1 ++ r.1, p.2.1 || r.2.1, r.2.2)) ([], false, s)

/-- BAR2_READ: a host read through the window; its data and EP stand in `bar2`. -/
def execBar2Read (offset len : Nat) (s : State) : Out :=
  let r := s.bar2Lines (linePieces (s.bar2Addr offset) len)
  .next { r.2.2 with bar2 := some (r.1, r.2.1) }

/-- One line of a BAR2 write: outside the DRAM and in the media region it is discarded and counted; before boot step 5 has
ended there is no DRAM to take it. -/
def State.bar2WriteLine (s : State) (a : Nat) (l : List Byte) : State :=
  if s.boot.trained = false then s
  else if dramBytes s.geom ≤ a then (s.dramNoChannel a 12 1).bar2Err Fld.HOSTIF_BAR2_ERR_RANGE
  else if s.inMedia a l.length then s.bar2Err Fld.HOSTIF_BAR2_ERR_MEDIA
  else (s.dramAccess a 12).dramStore a 12 1 l []

/-- BAR2_WRITE. -/
def execBar2Write (offset : Nat) (data : List Byte) (s : State) : Out :=
  let a := s.bar2Addr offset
  .next (forEach (linePieces a data.length) (fun x (s : State) => s.bar2WriteLine x.1 ((data.drop (x.1 - a)).take x.2)) s)

/-! ### MSI-X, the link and resets (R408, R409, R469) -/

/-- A pending vector that is unmasked sends one message. -/
def State.msixFire (s : State) (v : Nat) : State :=
  if s.msix.unmasked.get (fun _ => false) v && s.msix.pendingBit.get (fun _ => false) v then
    { s with msix := { s.msix with pendingBit := s.msix.pendingBit.set (fun _ => false) v false } }.sendMsix v
  else s

/-- MSIX_VECTOR_UNMASK: the host unmasks a vector, with MSI-X Enable and Function Mask as it has set them; every vector that is unmasked then and pending sends one
message. -/
def execMsixVectorUnmask (vector : Nat) (enable funcMask : Bool) (s : State) : Out :=
  if vector < 2048 then
    let s := { s with msix := { s.msix with enable := enable, funcMask := funcMask, unmasked := s.msix.unmasked.set (fun _ => false) vector true } }
    if enable && !funcMask then .next (forEach s.msix.pendingBit.keys (fun v (s : State) => s.msixFire v) s) else .next s
  else .next s

/-- A recording tap stops with an error code (R109). -/
def State.tapStop (s : State) (r code : Nat) : State :=
  if (s.tap r).stopped.isSome then s
  else
    let s := s.setTap r { s.tap r with stopped := some code }
    match s.effRec 3 r with
    | some q => s.post (REC.EVQ q) 0x03 0x21 r code
    | none => s

/-! ### DMA channels -/

def State.dmaCh (s : State) (c : Nat) : DmaChan := s.dma.get (fun _ => {}) c
def State.setDma (s : State) (c : Nat) (x : DmaChan) : State := { s with dma := s.dma.set (fun _ => {}) c x }

def dmaPage (c : Nat) : Nat := 0x10000 + c / 4 * 0x1000

/-- A channel's DONE (1), STOP (2) or HALT (3) event. -/
def State.dmaEvent (s : State) (c k : Nat) : State := s.event (dmaPage c) (k + 4 * (c % 4))

def State.dmaState (s : State) (c : Nat) : Nat := s.get (Fld.DMA_CHc_STATUS_STATE c)
def State.dmaEnter (s : State) (c st : Nat) : State := s.put (Fld.DMA_CHc_STATUS_STATE c) st

/-- Descriptors of the ring. -/
def State.dmaSize (s : State) (c : Nat) : Nat := 2 ^ s.get (Fld.DMA_CHc_CTRL_SIZE c)
def State.dmaHead (s : State) (c : Nat) : Nat := s.get (Fld.DMA_CHc_HEAD_HEAD c)
def State.dmaTail (s : State) (c : Nat) : Nat := s.get (Fld.DMA_CHc_TAIL_TAIL c)

/-- Descriptors ready and not completed. -/
def State.dmaReady (s : State) (c : Nat) : Nat := (s.dmaTail c + s.dmaSize c - s.dmaHead c) % s.dmaSize c

/-- INFLIGHT, and the non-posted requests outstanding. -/
def State.showDma (s : State) (c : Nat) : State :=
  let n := ((s.dmaCh c).bursts.filter (fun b => decide (b.st = .flight))).length
  let s := s.put (Fld.DMA_CHc_STATUS_INFLIGHT c) n
  let used := sumBy (fun p => if ((p.2.fetched.head?.map DmaDesc.dir).getD 1) = 0 then (p.2.bursts.filter (fun b => decide (b.st = .flight))).length else 0) s.dma
  let used := Nat.min 256 used
  let s := s.put Fld.HOSTIF_TAGS_USED used
  if s.get Fld.HOSTIF_TAGS_PEAK < used then s.put Fld.HOSTIF_TAGS_PEAK used else s

/-- A descriptor as it stands in host memory, with the check of R412 it fails. -/
def State.dmaDesc (s : State) (c i : Nat) : DmaDesc :=
  let r := bytesNat (s.hostMem.readList (s.rd64 (Reg.DMA_CHc_RING_LO c) + 64 * i) 64)
  let src := recField r 0 0 64
  let dst := recField r 8 0 64
  let len := recField r 16 0 32
  let dir := recField r 20 0 1
  let dev := if dir = 0 then dst else src
  let bad :=
    if recField r 20 4 4 ≠ 0 ∨ recField r 21 0 24 ≠ 0 ∨ recField r 40 0 192 ≠ 0 then Err.reserved.code
    else if src % 64 ≠ 0 ∨ dst % 64 ≠ 0 ∨ len % 64 ≠ 0 then Err.align.code
    else if len = 0 ∨ dramBytes s.geom < dev + len then Err.range.code
    else if dir = 0 ∧ s.inMedia dst len = true then Err.conflict.code
    else 0
  ⟨i, src, dst, len, dir, decide (recField r 20 1 1 = 1), decide (recField r 20 2 1 = 1), decide (recField r 20 3 1 = 1), bad⟩

/-- A descriptor completes: written back while the link is up, HEAD advances, and IOC sets DONE (R414). -/
def State.dmaWriteBack (s : State) (c : Nat) (d : DmaDesc) (outcome code residue : Nat) : State :=
  let a := s.rd64 (Reg.DMA_CHc_RING_LO c) + 64 * d.index
  let s := if s.on Fld.HOSTIF_LINK_UP then
      (s.hostPut (a + 28) (natBytes 4 residue ++ natBytes 8 s.now)).hostPut (a + 24) (natBytes 4 (2 ^ 31 + code * 256 + outcome))
    else s
  let s := (s.put (Fld.DMA_CHc_HEAD_HEAD c) ((d.index + 1) % s.dmaSize c)).put (Fld.DMA_CHc_STATUS_OUTCOME c) outcome
  if d.ioc then s.dmaEvent c 1 else s

/-- The rest of a transfer completes SKIPPED: descriptors from HEAD to the one that ends it. -/
def State.dmaSkip (s : State) (c : Nat) : Nat → State
  | 0 => s
  | fuel + 1 =>
    if s.dmaHead c = s.dmaTail c then s
    else
      let d := s.dmaDesc c (s.dmaHead c)
      let t := s.dmaWriteBack c d 6 0 d.len
      if d.chain && !d.last then t.dmaSkip c fuel else t

/-- The rest of descriptor d's transfer is skipped. -/
def State.dmaSkipAfter (s : State) (c : Nat) (d : DmaDesc) : State := if d.chain && !d.last then s.dmaSkip c (s.dmaSize c) else s

/-- The channel enters STOPPED. -/
def State.dmaStop (s : State) (c : Nat) : State :=
  let s := s.setDma c { s.dmaCh c with fetched := [], bursts := [], next := 0, abort := false, errEnd := false, openChain := false }
  ((s.dmaEnter c 3).showDma c).dmaEvent c 2

/-- The channel goes on after a descriptor: IDLE when HEAD has reached TAIL. -/
def State.dmaGoOn (s : State) (c : Nat) : State :=
  let x := s.dmaCh c
  let s := (s.setDma c { x with fetched := x.fetched.drop 1, bursts := [], next := 0 }).showDma c
  if s.dmaHead c = s.dmaTail c then s.dmaEnter c 1 else s

/-- Bytes of bursts in a state. -/
def burstBytes (l : List DmaBurst) (st : BurstState) : Nat := sumBy (fun (b : DmaBurst) => if b.st = st then b.len else 0) l

/-- The host and device addresses of a burst. -/
def DmaDesc.host (d : DmaDesc) (off : Nat) : Nat := (if d.dir = 0 then d.src else d.dst) + off
def DmaDesc.dev (d : DmaDesc) (off : Nat) : Nat := (if d.dir = 0 then d.dst else d.src) + off

/-- A burst ends well: its data is written. -/
def State.dmaFinish (s : State) (c : Nat) (d : DmaDesc) (b : DmaBurst) : State :=
  let s := if d.dir = 0 then
      let data := s.hostMem.readList (d.host b.off) b.len
      forEach (linePieces (d.dev b.off) b.len) (fun p (s : State) =>
        (s.dramAccess p.1 11).dramPut p.1 ((data.drop (p.1 - d.dev b.off)).take p.2)) s
    else s.hostPut (d.host b.off) b.data
  let x := s.dmaCh c
  let s := s.setDma c { x with bursts := x.bursts.map (fun y => if y.j = b.j then { y with st := .done, data := [] } else y) }
  (s.bump64 (Reg.DMA_CHc_BYTES_LO c) b.len).showDma c

/-- Every burst in flight ends well. -/
def State.dmaDrain (s : State) (c : Nat) (d : DmaDesc) : State :=
  forEach ((s.dmaCh c).bursts.filter (fun b => decide (b.st = .flight))) (fun b (s : State) => s.dmaFinish c d b) s

/-- FAIL_ADDR and FAIL are latched and the channel enters HALTED. -/
def State.dmaHalt (s : State) (c index host dir cause : Nat) : State :=
  let s := s.wr64 (Reg.DMA_CHc_FAIL_ADDR_LO c) host
  let s := ((s.put (Fld.DMA_CHc_FAIL_INDEX c) index).put (Fld.DMA_CHc_FAIL_CAUSE c) cause).put (Fld.DMA_CHc_FAIL_DIR c) dir
  (s.dmaEnter c 4).dmaEvent c 3

/-! ### Channel registers (R410, R415) -/

/-- A write of DMA_CHc_CTRL. -/
def State.dmaCtrlWrite (s : State) (c : Nat) (w : Word) : State :=
  s.checked (Reg.DMA_CHc_CTRL c) w
    (fun s =>
      let st := s.dmaState c
      if bits w 1 4 ≠ s.get (Fld.DMA_CHc_CTRL_SIZE c) ∧ st ≠ 0 then some .state
      else if bit w 0 = false ∧ (st = 2 ∨ st = 4) then some .state
      else none)
    (fun s =>
      let st := s.dmaState c
      let s := s.applyWrite (Reg.DMA_CHc_CTRL c) w
      if bit w 0 = false then ((s.setDma c {}).dmaEnter c 0).showDma c
      else if st = 0 then
        (((s.setDma c {}).put (Fld.DMA_CHc_HEAD_HEAD c) 0).put (Fld.DMA_CHc_TAIL_TAIL c) 0).dmaEnter c 1
      else s)

/-- A write of DMA_CHc_TAIL. -/
def State.dmaTailWrite (s : State) (c : Nat) (w : Word) : State :=
  s.checked (Reg.DMA_CHc_TAIL c) w
    (fun s => if s.dmaState c = 0 then some .state else if s.dmaSize c ≤ w.toNat then some .range else none)
    (fun s =>
      let s := s.applyWrite (Reg.DMA_CHc_TAIL c) w
      if s.dmaState c = 1 ∧ s.dmaTail c ≠ s.dmaHead c then s.dmaEnter c 2 else s)

/-- The front descriptor, read now if ABORT comes before its fetch. -/
def State.dmaFront (s : State) (c : Nat) : State :=
  let x := s.dmaCh c
  if x.fetched = [] then s.setDma c { x with fetched := [s.dmaDesc c (s.dmaHead c)] } else s

/-- ABANDON in HALTED (R417, R418). -/
def State.dmaAbandoned (s : State) (c : Nat) : State :=
  let x := s.dmaCh c
  if x.errEnd then ((if x.openChain then s.dmaSkip c (s.dmaSize c) else s).dmaStop c)
  else match x.fetched with
    | [] => s.dmaStop c
    | d :: _ =>
      let s := s.dmaDrain c d
      let code := if s.get (Fld.DMA_CHc_FAIL_CAUSE c) = 5 then Err.fenced.code else Err.state.code
      let s := s.dmaWriteBack c d 3 code (burstBytes (s.dmaCh c).bursts .failed)
      (s.dmaSkipAfter c d).dmaStop c

/-- A write of DMA_CHc_CMD. -/
def State.dmaCmdWrite (s : State) (c : Nat) (w : Word) : State :=
  let op := bits w 0 2
  s.checked (Reg.DMA_CHc_CMD c) w
    (fun s =>
      let need := if op = 0 then 3 else if op = 1 then 2 else 4
      if s.dmaState c ≠ need then some .state else none)
    (fun s =>
      if op = 0 then s.dmaEnter c (if s.dmaHead c = s.dmaTail c then 1 else 2)
      else if op = 1 then
        let s := s.dmaFront c
        s.setDma c { s.dmaCh c with abort := true }
      else if op = 2 then
        if (s.dmaCh c).errEnd then
          let s := (s.setDma c { s.dmaCh c with errEnd := false, openChain := false }).dmaEnter c 2
          if s.dmaHead c = s.dmaTail c then s.dmaEnter c 1 else s
        else s.dmaEnter c 2
      else s.dmaAbandoned c)

/-- DMA_ENABLE. -/
def execDmaEnable (c : Nat) (s : State) : Out :=
  if c < 32 then .next (s.dmaCtrlWrite c (putBits (s.rd (Reg.DMA_CHc_CTRL c)) 0 1 1)) else .next s
/-- DMA_DISABLE. -/
def execDmaDisable (c : Nat) (s : State) : Out :=
  if c < 32 then .next (s.dmaCtrlWrite c (putBits (s.rd (Reg.DMA_CHc_CTRL c)) 0 1 0)) else .next s
/-- DMA_TAIL_WRITE. -/
def execDmaTailWrite (c tail : Nat) (s : State) : Out := if c < 32 then .next (s.dmaTailWrite c (BitVec.ofNat 32 tail)) else .next s
/-- DMA_RUN. -/
def execDmaRun (c : Nat) (s : State) : Out := if c < 32 then .next (s.dmaCmdWrite c 0) else .next s
/-- DMA_ABORT. -/
def execDmaAbort (c : Nat) (s : State) : Out := if c < 32 then .next (s.dmaCmdWrite c 1) else .next s
/-- DMA_RESUME. -/
def execDmaResume (c : Nat) (s : State) : Out := if c < 32 then .next (s.dmaCmdWrite c 2) else .next s
/-- DMA_ABANDON. -/
def execDmaAbandon (c : Nat) (s : State) : Out := if c < 32 then .next (s.dmaCmdWrite c 3) else .next s

/-! ### Descriptors and bursts (R411 to R419) -/

/-- DMA_DESCRIPTOR_FETCH: an ACTIVE channel fetches and checks its next descriptor, at most 8 ahead of the one it completes. -/
def execDmaDescriptorFetch (c : Nat) (s : State) : Out :=
  let x := s.dmaCh c
  let n := x.fetched.length
  if c < 32 ∧ s.dmaState c = 2 ∧ n < s.dmaReady c ∧ n < 9 ∧ s.on Fld.HOSTIF_LINK_UP = true then
    .next (s.setDma c { x with fetched := x.fetched ++ [s.dmaDesc c ((s.dmaHead c + n) % s.dmaSize c)] })
  else .next s

/-- Bytes of the burst at an offset: to the next 512-byte boundary of the host address. -/
def DmaDesc.burstLen (d : DmaDesc) (off : Nat) : Nat := Nat.min (512 - d.host off % 512) (d.len - off)

/-- The instant the limiter lets the next burst start after one of b bytes at t (R413). -/
def dmaGap (share b : Nat) : Nat := ceilDiv (b * 8192) (share * 1008)

/-- DIR 1 reads a burst from DRAM: its bytes, or poison. -/
def State.dmaDramRead (s : State) (c a n : Nat) : Option (List Byte) × State :=
  (linePieces a n).foldl (fun (p : Option (List Byte) × State) x =>
    let t := p.2.dramAccess x.1 11
    let (r, t) := t.decodeLine x.1 11 c 1 []
    match p.1 with
    | none => (none, t)
    | some l => if r = 0 then (some (l ++ t.dram.readList x.1 x.2), t) else (none, t)) (some [], s)

/-- A burst starts. -/
def State.dmaIssue (s : State) (c : Nat) (d : DmaDesc) (j off len : Nat) : State :=
  let s := s.runTo (s.dmaCh c).readyAt
  let (data, s) := if d.dir = 1 then s.dmaDramRead c (d.dev off) len else (some [], s)
  let x := s.dmaCh c
  let b : DmaBurst := ⟨j, off, len, if data.isSome then .flight else .poisoned, data.getD []⟩
  let s := if data.isSome then s else s.contained
  let x := { x with bursts := x.bursts.filter (fun y => decide (y.j ≠ j)) ++ [b], next := Nat.max x.next (off + len),
                    readyAt := s.now + dmaGap (s.get (Fld.DMA_CHc_CTRL_SHARE c)) len }
  (s.setDma c x).showDma c

/-- DMA_BURST_START: the limiter lets an ACTIVE channel start its next burst: a failed one again, else the next of the descriptor at HEAD; at most 8 are in
flight. -/
def execDmaBurstStart (c : Nat) (s : State) : Out :=
  let x := s.dmaCh c
  match x.fetched with
  | [] => .next s
  | d :: _ =>
    let flying := (x.bursts.filter (fun b => decide (b.st = .flight))).length
    let poisoned := x.bursts.any (fun b => decide (b.st = .poisoned))
    if 32 ≤ c ∨ s.dmaState c ≠ 2 ∨ x.abort = true ∨ poisoned = true ∨ d.bad ≠ 0 ∨ 8 ≤ flying then .next s
    else match x.bursts.find? (fun b => decide (b.st = .failed)) with
      | some b => .next (s.dmaIssue c d b.j b.off b.len)
      | none => if d.len ≤ x.next then .next s else .next (s.dmaIssue c d x.bursts.length x.next (d.burstLen x.next))

/-- DMA_BURST_COMPLETE: burst j of the descriptor at HEAD has arrived, or has been issued to the host. -/
def execDmaBurstComplete (c j : Nat) (s : State) : Out :=
  let x := s.dmaCh c
  match x.fetched, x.bursts.find? (fun b => decide (b.j = j) && decide (b.st = .flight)) with
  | d :: _, some b => .next (s.dmaFinish c d b)
  | _, _ => .next s

/-- DMA_BUS_ERROR: burst j fails; the first failure of the descriptor is latched and halts the channel, later ones are marked for retry (R417). Causes 1 UR, 2 CA,
3 EP, 4 timeout. -/
def execDmaBusError (c j cause : Nat) (s : State) : Out :=
  let x := s.dmaCh c
  match x.fetched, x.bursts.find? (fun b => decide (b.j = j) && decide (b.st = .flight)) with
  | d :: _, some b =>
    let s := (s.setDma c { x with bursts := x.bursts.map (fun y => if y.j = j then { y with st := .failed } else y) }).showDma c
    .next (if s.dmaState c = 2 then s.dmaHalt c d.index (d.host b.off) d.dir cause else s)
  | _, _ => .next s

/-- DMA_ERR_AT_END: the last beat of the descriptor's final burst fails with no byte left to request; the descriptor completes ERR_AT_END and the channel halts
(R418). -/
def execDmaErrAtEnd (c cause : Nat) (s : State) : Out :=
  let x := s.dmaCh c
  match x.fetched, x.bursts.find? (fun b => decide (b.st = .flight) && decide (b.off + b.len = ((x.fetched.head?.map DmaDesc.len).getD 0))) with
  | d :: rest, some b =>
    if s.dmaState c = 2 ∧ d.len ≤ x.next then
      let s := s.setDma c { x with bursts := x.bursts.map (fun y => if y.j = b.j then { y with st := .failed } else y) }
      let s := s.dmaDrain c d
      let s := s.dmaWriteBack c d 4 Err.state.code 0
      let y := s.dmaCh c
      let s := (s.setDma c { y with fetched := rest, bursts := [], next := 0, errEnd := true, openChain := d.chain && !d.last }).showDma c
      .next (s.dmaHalt c d.index (d.host b.off) d.dir cause)
    else .next s
  | _, _ => .next s

/-- DMA_DESCRIPTOR_COMPLETE: the descriptor at HEAD completes: REJECTED, ABORTED, POISON, or OK once every burst has ended (R412, R414, R416, R419). -/
def execDmaDescriptorComplete (c : Nat) (s : State) : Out :=
  let x := s.dmaCh c
  match x.fetched with
  | [] => .next s
  | d :: _ =>
    let flying := x.bursts.any (fun b => decide (b.st = .flight))
    if 32 ≤ c ∨ s.dmaState c ≠ 2 then .next s
    else if d.bad ≠ 0 then .next (((s.dmaWriteBack c d 1 d.bad d.len).dmaSkipAfter c d).dmaStop c)
    else if flying then .next s
    else if x.abort then
      .next (((s.dmaWriteBack c d 2 0 (d.len - burstBytes x.bursts .done)).dmaSkipAfter c d).dmaStop c)
    else match x.bursts.find? (fun b => decide (b.st = .poisoned)) with
      | some p =>
        let before := burstBytes (x.bursts.filter (fun b => decide (b.j < p.j))) .done
        .next (((s.dmaWriteBack c d 5 Err.poison.code (d.len - before)).dmaSkipAfter c d).dmaStop c)
      | none =>
        if x.next < d.len ∨ x.bursts.any (fun b => decide (b.st ≠ .done)) = true then .next s
        else
          let s := s.dmaWriteBack c d 0 0 0
          .next (if d.last then s.dmaStop c else s.dmaGoOn c)

/-! ### Link loss and resets of the endpoint (R409, R469) -/

/-- An ACTIVE channel halts for link loss: its bursts in flight fail. -/
def State.dmaLinkDown (s : State) (c : Nat) : State :=
  if s.dmaState c = 2 then
    let x := s.dmaCh c
    let d := x.fetched.head?.getD (s.dmaDesc c (s.dmaHead c))
    let s := (s.setDma c { x with bursts := x.bursts.map (fun y => if y.st = .flight then { y with st := .failed, data := [] } else y) }).showDma c
    let off := match (s.dmaCh c).bursts.find? (fun b => decide (b.st = .failed)) with | some b => b.off | none => x.next
    s.dmaHalt c d.index (d.host off) d.dir 5
  else s

/-- The link leaves L0 for a link-down state. -/
def State.linkLost (s : State) : State :=
  let s := (s.put Fld.HOSTIF_LINK_UP 0).bump Fld.HOSTIF_LINK_DOWN_COUNT
  let s := forUpTo 32 (fun c (s : State) => s.dmaLinkDown c) s
  forEach (tableRecs s.gate.effective 3) (fun p (s : State) => s.tapStop p.1 Err.fenced.code) s

/-- PCIE_LINK_DOWN. -/
def execPcieLinkDown (s : State) : Out := if s.on Fld.HOSTIF_LINK_UP then .next s.linkLost else .next s

/-- PCIE_LINK_UP: the link reaches L0 with a width (1, 2, 4, 8) and a speed (1 to 5); not before boot step 1 has ended, nor while RESET_N or PERST_N is low. -/
def execPcieLinkUp (width speed : Nat) (s : State) : Out :=
  if s.boot.held ∨ s.boot.perst ∨ s.get Fld.GLOBAL_BOOT_STAGE = 0 ∨ [1, 2, 4, 8].contains width = false ∨ speed = 0 ∨ 5 < speed then .next s
  else
    let s := ((s.put Fld.HOSTIF_LINK_UP 1).put Fld.HOSTIF_LINK_WIDTH width).put Fld.HOSTIF_LINK_SPEED speed
    .next (s.event hostifPage 2)

/-- Host-side state is reset: every channel to DISABLED with no write-back, HOSTIF_WIN, every PG_MSIX, and the MSI-X table masked (R409). -/
def State.hostReset (s : State) : State :=
  let s := forUpTo 32 (fun c (s : State) =>
    (((s.setDma c {}).dmaEnter c 0).put (Fld.DMA_CHc_CTRL_ENABLE c) 0).showDma c) s
  let s := s.wr Reg.HOSTIF_WIN (resetWord Reg.HOSTIF_WIN)
  let s := forEach allPages (fun p (s : State) => s.wr (Reg.PG_MSIX p) (resetWord (Reg.PG_MSIX p))) s
  { s with msix := { s.msix with enable := false, funcMask := false, unmasked := [], pendingBit := [] } }

/-- FUNCTION_LEVEL_RESET. -/
def execFunctionLevelReset (s : State) : Out := .next s.hostReset

end Sys2Proof.Machine
end

