-- ==== Sys2Proof/Machine/Islands.lean ====
section
/-! DEFINITION. Clock islands and crossings (spec/21_islands_and_crossings.md, R421 to R431): pulse crossings by request and acknowledge, and the reset of one
side. -/

namespace Sys2Proof.Machine

/-- PULSE_CROSSING_ISSUE: a pulse into an island becomes a request, or is counted while one is outstanding; at 255 it is dropped (R422, R423). -/
def execPulseCrossingIssue (i : Nat) (s : State) : Out :=
  let x := s.crossing i
  if ¬ i < 28 ∨ x.held = true then .next s
  else if x.outstanding = 0 then .next (s.setCrossing i { x with outstanding := 1 })
  else if x.counter < 255 then .next (s.setCrossing i { x with counter := x.counter + 1 })
  else .next ((s.put ⟨Reg.CLK_XOVF, i, 1⟩ 1).event clkPage 1)

/-- PULSE_CROSSING_ACK: the count outstanding was delivered and its acknowledge arrives; pulses counted meanwhile, with one issued in this cycle, become a new
request (R423, R431). -/
def execPulseCrossingAck (i : Nat) (pulse : Bool) (s : State) : Out :=
  let x := s.crossing i
  if ¬ i < 28 ∨ x.held = true ∨ x.outstanding = 0 then .next s
  else
    let n := x.counter + b2n pulse
    .next (s.setCrossing i { x with delivered := x.delivered + x.outstanding, outstanding := Nat.min 255 n, counter := n - Nat.min 255 n })

/-- ISLAND_RESET, with the writes queued for the island. -/
def execIslandReset (i writes : Nat) (s : State) : Out := .next (s.islandDown i writes)

/-- The domain of an island. -/
def islandDomain (i : Nat) : Nat :=
  if i < 3 then i else if i < 11 then i + 1 else if i = 11 then 12 else if i < 20 then 3 else if i < 24 then 13 else 2

/-- ISLAND_RESYNC: an island whose domain is powered and whose clock runs resynchronises (R421, R430). -/
def execIslandResync (i : Nat) (s : State) : Out :=
  if i < 28 ∧ s.get (Fld.PWR_DOMd_STATUS_STATE (islandDomain i)) = 0 then .next (s.islandUp i) else .next s

end Sys2Proof.Machine
end

