-- ==== Sys2Proof/Machine/Power.lean ====
section
/-! DEFINITION. Power domains, device states and voltage scaling (spec/22_power.md, R432 to R449): the governor, changes of operating point over AVSBus, entry to
QUIET and DEEP, wake, single domains, and retention. -/

namespace Sys2Proof.Machine

def pwrPage : Nat := 0x2000

/-- The device state of R438: 0 ACTIVE, 1 ENTERING, 2 QUIET, 3 DEEP, 4 WAKING. -/
def State.devState (s : State) : Nat := s.get Fld.PWR_STATE_STATE

/-- STATE_CHANGED (R438, R449). -/
def State.devEnter (s : State) (st : Nat) : State :=
  let s := s.put Fld.PWR_STATE_STATE st
  (s.post (s.get Fld.PWR_CFG_EVQ) 0x12 0x01 st (s.tick % 2 ^ 32)).event pwrPage 1

/-! ### Operating points (R433 to R436) -/

/-- VDD_CLc in mV, the clock in 0.1 MHz, and full-load power in 0.1 W, by OP. -/
def opVolt (op : Nat) : Nat := 600 + 50 * op
def opClock (op : Nat) : Nat := ([2500, 5000, 7000, 9000, 11000, 12500][op]?).getD 0
def opPower (op : Nat) : Nat := ([18, 34, 51, 73, 99, 125][op]?).getD 0

/-- min(CEIL, CEIL_EFF) of cluster c. -/
def State.ceilOf (s : State) (c : Nat) : Nat := Nat.min (s.get (Fld.PWR_CLc_CTRL_CEIL c)) (s.get (Fld.PWR_CLc_STATUS_CEIL_EFF c))

/-- A change from the present OP to b starts: upward the voltage first, downward the clock first (R434). A new target during a change waits. -/
def State.opChange (s : State) (c b : Nat) : State :=
  let x := s.dom (4 + c)
  let a := s.get (Fld.PWR_CLc_STATUS_OP c)
  if x.phase ≠ .none then s.setDom (4 + c) { x with next := some b }
  else if a = b then s
  else
    let s := ((s.put (Fld.PWR_CLc_STATUS_STATE c) 5).put (Fld.PWR_CLc_STATUS_TARGET_OP c) b).put (Fld.PWR_CLc_STATUS_RETRIES c) 0
    s.setDom (4 + c) { x with phase := if a < b then .write else .lock, from_ := a, to_ := b, wake := false, fails := 0, since := s.now, next := none }

/-- A change ends with the cluster at OP op; a target set meanwhile is taken up. -/
def State.opEnd (s : State) (c op : Nat) : State :=
  let x := s.dom (4 + c)
  let s := s.setDom (4 + c) { x with phase := .none, next := none, fails := 0 }
  let s := ((s.put (Fld.PWR_CLc_STATUS_STATE c) 0).put (Fld.PWR_CLc_STATUS_OP c) op).put (Fld.PWR_CLc_STATUS_TARGET_OP c) op
  match x.next with
  | some b => if s.get (Fld.PWR_CLc_STATUS_STATE c) = 0 then s.opChange c (Nat.min b (s.ceilOf c)) else s
  | none => s

/-- A failure during a change is counted and AVS_ERR posted (R436). -/
def State.avsError (s : State) (c arg : Nat) : State :=
  let s := (s.bump Fld.PWR_AVS_ERRORS).put Fld.PWR_AVS_LAST_RAIL c
  ((s.post (s.get Fld.PWR_CFG_EVQ) 0x12 0x03 c arg).event pwrPage 3).contained

def State.setVolt (s : State) (c mv : Nat) : State := s.modPwr (fun w => { w with volts := w.volts.set (fun _ => 0) c mv })

/-! ### Domains and retention (R432, R443 to R446, R507) -/

/-- The islands and pages of a domain. -/
def domIslands (d : Nat) : List Nat := (List.range 24).filter (fun i => decide (islandDomain i = d))
def domPages (d : Nat) : List Nat := allPages.filter (fun p => decide (islandDomain (islandOf p) = d))

/-- A register the retention list of R445 keeps. -/
def retained (a : Nat) : Bool :=
  let p := pageOf a
  let o := a % 4096
  let head := decide (o = 0x04) || decide (o = 0x08) || decide (a = Reg.PG_EVENT_EN p) || decide (a = Reg.PG_MSIX p)
  let mill := decide (0x50000 ≤ p) && decide (p < 0x58000) && (decide (o = 0x40) || decide (o = 0x44) || decide (o = 0x48) || decide (o = 0x94) || decide (o = 0xA0))
  let faults := decide (0x70000 ≤ p) && decide (p < 0x8C000) && decide (o = 0x50)
  let first := (decide (p = 0x70000 ∨ p = 0x88000) && decide (0x8C ≤ o) && decide (o ≤ 0x98)) || (decide (p = 0x80000) && decide (0x8C ≤ o) && decide (o ≤ 0xA0))
  let mem := decide (0xB0000 ≤ p) && decide (p < 0xB8000) && (decide (o ≤ 0x54) || decide (o = 0x68) || decide (o = 0x70))
  let weir := decide (p = 0xB8000) && (specAt a).any (fun r => r.writable) && decide (Reg.WEIR_PORTp_CFG 0 ≤ a) && decide (a ≤ Reg.WEIR_PORTp_CFG 16) || decide (a = Reg.WEIR_SUM)
  let link := decide (0xA0000 ≤ p) && decide (p < 0xA4000) && (decide (o = 0x40) || decide (o = 0x48) || (decide (p = 0xA0000) && decide (0x100 ≤ o)))
  head || mill || faults || first || mem || weir || link

/-- A domain's pages show SERVICE v. -/
def State.domService (s : State) (d v : Nat) : State := forEach (domPages d) (fun p (s : State) => s.put (Fld.PG_STATUS_SERVICE p) v) s

/-- A clock stops: SLEEP holds the time, SLEEPS counts it (R446). -/
def State.domSleep (s : State) (d : Nat) : State :=
  let s := (s.wr (Reg.PWR_DOMd_SLEEP_LO d) (BitVec.ofNat 32 (s.now % 1000000000))).wr (Reg.PWR_DOMd_SLEEP_HI d) (BitVec.ofNat 32 (s.now / 1000000000))
  s.bump (Fld.PWR_DOMd_STATUS_SLEEPS d)

/-- Registers and memories of a domain that are not retained return to their reset values. -/
def State.domForget (s : State) (d : Nat) : State :=
  let ps := domPages d
  let s := s.keepRegs (fun a => !ps.contains (pageOf a) || retained a)
  if 4 ≤ d ∧ d < 12 then
    let c := d - 4
    { s with mill := s.mill.filter (fun p => decide (p.1 / 16 ≠ c)), csram := s.csram.filter (fun p => decide (p.1 ≠ c)) }
  else if d = 3 then { s with weir := { s.weir with fences := [], lines := [], aborted := [] } }
  else if d = 13 then forUpTo 4 (fun n (s : State) => s.linkReset n 0 none) s
  else s

/-- A domain goes OFF (R440, R444, R445): SERVICE values are kept and its pages read POWERED_OFF. A cluster's rail is written 0 mV. -/
def State.domOff (s : State) (d : Nat) (command : Bool) : State :=
  let kept := (domPages d).map (fun p => (p, s.get (Fld.PG_STATUS_SERVICE p)))
  let s := s.domForget d
  let s := s.setDom d { s.dom d with phase := .none, services := kept, byCommand := command }
  let s := if s.get (Fld.PWR_DOMd_STATUS_STATE d) = 1 then s else s.domSleep d
  let s := s.put (Fld.PWR_DOMd_STATUS_STATE d) 2
  let s := if 4 ≤ d ∧ d < 12 then ((s.put (Fld.PWR_CLc_STATUS_STATE (d - 4)) 2).put (Fld.PWR_CLc_STATUS_OP (d - 4)) 0).setVolt (d - 4) 0 else s
  let s := forEach (domIslands d) (fun i (s : State) => s.islandDown i 0) s
  s.domService d 3

/-- A domain begins to wake (R443): a cluster with the voltage write, others with their PLL. -/
def State.domWake (s : State) (d : Nat) : State :=
  let x := s.dom d
  let cl := decide (4 ≤ d) && decide (d < 12)
  let s := s.setDom d { x with phase := if cl then .write else .lock, wake := true, fails := 0, since := s.now, to_ := s.ceilOf (d - 4), next := none }
  let s := (s.put (Fld.PWR_DOMd_STATUS_STATE d) 4).put (Fld.PWR_DOMd_STATUS_RETRIES d) 0
  if cl then (s.put (Fld.PWR_CLc_STATUS_STATE (d - 4)) 4).put (Fld.PWR_CLc_STATUS_RETRIES (d - 4)) 0 else s

/-- A domain the wake must still bring up: OFF and not by command. -/
def State.domAsleep (s : State) (d : Nat) : Bool := decide (s.get (Fld.PWR_DOMd_STATUS_STATE d) = 2) && !(s.dom d).byCommand

/-- A domain is under change or waking. -/
def State.domBusy (s : State) (d : Nat) : Bool := decide ((s.dom d).phase ≠ .none)

/-- The next step of a wake (R442): MEM, then its channels out of self-refresh for ACTIVE, then LINK, then every cluster and CMPX. -/
def State.wakeNext (s : State) : State :=
  if s.devState ≠ 4 then s
  else if s.domBusy 3 then s
  else if s.domAsleep 3 then s.domWake 3
  else
    let active := decide (s.get Fld.PWR_STATE_TARGET = 0)
    let s := if active then forUpTo 8 (fun n (s : State) => s.srExit n) s else s
    if s.domBusy 13 then s
    else if s.domAsleep 13 then s.domWake 13
    else if active then forEach [4, 5, 6, 7, 8, 9, 10, 11, 12] (fun d (s : State) => if s.domAsleep d && !s.domBusy d then s.domWake d else s) s
    else s

/-- A domain is up: its retention list is restored, its islands linked, and SERVICE as it was, or OUT_OF_SERVICE after a command (R443, R444, R507). Kernels are
reloaded from the tables (R215). -/
def State.domUp (s : State) (d : Nat) : State :=
  let x := s.dom d
  let s := s.setDom d { x with phase := .none, wake := false, services := [], byCommand := false }
  let s := (s.put (Fld.PWR_DOMd_STATUS_STATE d) 0).domWakeTime d
  let s := if 4 ≤ d ∧ d < 12 then
      let c := d - 4
      ((s.put (Fld.PWR_CLc_STATUS_STATE c) 0).put (Fld.PWR_CLc_STATUS_OP c) x.to_).put (Fld.PWR_CLc_STATUS_TARGET_OP c) x.to_
    else s
  let s := forEach (domIslands d) (fun i (s : State) => s.islandUp i) s
  let s := if 4 ≤ d ∧ d < 12 then s.reloadCores (d - 4) else s
  let s := if x.byCommand then s.domService d 1
    else forEach x.services (fun p (s : State) => s.put (Fld.PG_STATUS_SERVICE p.1) p.2) s
  let s := if d = 13 then forUpTo 4 (fun n (s : State) => s.linkEnable n (s.on (Fld.PG_CTRL_ENABLE (linkPage n)))) s else s
  s.wakeNext

/-- The fourth attempt has failed (R443): the domain is FAILED_WAKE; of SOC, which wakes only at boot, and of MEM that is DEVICE_FATAL, with FAULT_N. -/
def State.failedWake (s : State) (d : Nat) : State :=
  let cl := decide (4 ≤ d) && decide (d < 12)
  let s := s.setDom d { s.dom d with phase := .none, wake := false, fails := 0 }
  let s := s.put (Fld.PWR_DOMd_STATUS_STATE d) 3
  let s := if cl then (s.put (Fld.PWR_CLc_STATUS_STATE (d - 4)) 3).setVolt (d - 4) 0 else s
  let s := s.domService d 2
  let s := (s.post (s.get Fld.PWR_CFG_EVQ) 0x12 0x02 d 4).event pwrPage 2
  if d = 1 ∨ d = 3 then (s.deviceFatal pwrPage 4 d).put Fld.FAULT_FATAL_FAULT_N 1
  else s.blockFatal 0x02 (s.get (Fld.PG_ID_TYPE ((domPages d).headD pwrPage))) (s.get (Fld.PG_ID_INST ((domPages d).headD pwrPage))) d 4

/-- A wake attempt fails (R443): it is retried up to 3 times. -/
def State.wakeFails (s : State) (d : Nat) : State :=
  let x := s.dom d
  let cl := decide (4 ≤ d) && decide (d < 12)
  if x.fails < 3 then
    let n := x.fails + 1
    let s := s.setDom d { x with phase := if cl then .write else .lock, fails := n, since := s.now }
    let s := s.put (Fld.PWR_DOMd_STATUS_RETRIES d) n
    if cl then (s.put (Fld.PWR_CLc_STATUS_RETRIES (d - 4)) n).setVolt (d - 4) 0 else s
  else (s.failedWake d).wakeNext

/-! ### AVSBus and PLLs (R434 to R436, R443) -/

/-- AVS_VOLTAGE_WRITE: the controller writes the rail voltage a change or wake calls for. -/
def execAvsVoltageWrite (rail : Nat) (s : State) : Out :=
  let x := s.dom (4 + rail)
  if ¬ rail < 8 then .next s
  else match x.phase with
    | .write => .next ((s.setVolt rail (opVolt x.to_)).setDom (4 + rail) { x with phase := .settle, since := s.now })
    | .lateWrite => .next ((s.setVolt rail (opVolt x.to_)).setDom (4 + rail) { x with phase := .lateSettle, since := s.now })
    | .none | .settle | .lock | .lateSettle => .next s

/-- AVS_STATUS_POLL: 2 µs later the controller reads VDone; once it is set the clock moves to the bypass and the PLL relocks, or a downward change ends. -/
def execAvsStatusPoll (rail : Nat) (vdone : Bool) (s : State) : Out :=
  let x := s.dom (4 + rail)
  if ¬ rail < 8 ∨ (x.phase ≠ .settle ∧ x.phase ≠ .lateSettle) then .next s
  else
    let s := s.runTo (x.since + ((s.now - x.since) / 2000 + 1) * 2000)
    if vdone = false then .next s
    else if x.phase = .settle then .next (s.setDom (4 + rail) { x with phase := .lock, since := s.now, fails := if x.wake then x.fails else 0 })
    else .next (s.opEnd rail x.to_)

/-- AVS_SETTLE_TIMEOUT: a rail has not reported VDone within 2 ms of the write (R435, R436, R443). -/
def execAvsSettleTimeout (rail : Nat) (s : State) : Out :=
  let x := s.dom (4 + rail)
  if ¬ rail < 8 ∨ (x.phase ≠ .settle ∧ x.phase ≠ .lateSettle) then .next s
  else
    let s := s.runTo (x.since + 2000000)
    if x.wake then .next (s.wakeFails (4 + rail))
    else
      let up := decide (x.phase = .settle)
      let s := s.avsError rail (if up then 1 else 2)
      if x.fails < 3 then
        let s := s.put (Fld.PWR_CLc_STATUS_RETRIES rail) (x.fails + 1)
        .next (s.setDom (4 + rail) { x with phase := if up then .write else .lateWrite, fails := x.fails + 1, since := s.now })
      else if up then .next (((s.setVolt rail (opVolt x.from_)).put (Fld.PWR_CLc_STATUS_CEIL_EFF rail) x.from_).opEnd rail x.from_)
      else .next (((s.setVolt rail (opVolt x.from_)).put (Fld.PWR_CLc_STATUS_CEIL_EFF rail) x.to_).opEnd rail x.to_)

/-- PLL_LOCK: a domain's PLL locks and its clock switches to it; a downward change then writes its voltage, a wake is complete. -/
def execPllLock (d : Nat) (s : State) : Out :=
  let x := s.dom d
  if ¬ d < 14 ∨ x.phase ≠ .lock then .next s
  else if x.wake then .next (s.domUp d)
  else if x.to_ < x.from_ then .next (s.setDom d { x with phase := .lateWrite, fails := 0, since := s.now })
  else .next (s.opEnd (d - 4) x.to_)

/-- PLL_LOCK_TIMEOUT: a PLL has not locked in 200 µs. -/
def execPllLockTimeout (d : Nat) (s : State) : Out :=
  let x := s.dom d
  if ¬ d < 14 ∨ x.phase ≠ .lock then .next s
  else
    let s := s.runTo (x.since + 200000)
    if x.wake then .next (s.wakeFails d)
    else
      let c := d - 4
      let s := s.avsError c 3
      if x.fails < 3 then .next ((s.put (Fld.PWR_CLc_STATUS_RETRIES c) (x.fails + 1)).setDom d { x with fails := x.fails + 1, since := s.now })
      else .next ((s.put (Fld.PWR_CLc_STATUS_CEIL_EFF c) 0).opEnd c 0)

/-! ### The governor (R437) -/

/-- Cluster states. -/
def State.clState (s : State) (c : Nat) : Nat := s.get (Fld.PWR_CLc_STATUS_STATE c)

/-- Clusters in RUN, changing included. -/
def State.clRunning (s : State) (c : Nat) : Bool := decide (s.clState c = 0) || decide (s.clState c = 5)

/-- Clusters in RUN. -/
def State.runCount (s : State) : Nat := ((List.range 8).filter (fun k => s.clRunning k)).length

/-- A cluster's engines run a task. -/
def State.clBusy (s : State) (c : Nat) : Bool :=
  s.tasks.any (fun t => t.2.holds && decide (t.2.engine ≠ 0x7FF) && decide (t.2.engine / 256 ≠ 2) && decide (engineCluster t.2.engine = c))

/-- A cluster is gated: its clocks stop, its contents stay. -/
def State.gateCluster (s : State) (c : Nat) : State :=
  let s := (s.put (Fld.PWR_CLc_STATUS_STATE c) 1).put (Fld.PWR_DOMd_STATUS_STATE (4 + c)) 1
  (s.domSleep (4 + c)).islandDown (3 + c) 0

/-- A gated cluster's clock runs again. -/
def State.ungateCluster (s : State) (c : Nat) : State :=
  if s.clState c = 1 then
    let s := (s.put (Fld.PWR_CLc_STATUS_STATE c) 0).put (Fld.PWR_DOMd_STATUS_STATE (4 + c)) 0
    (s.domWakeTime (4 + c)).islandUp (3 + c)
  else s

/-- The cap lowers targets, highest power first, until the estimate is at or below it; an OP does not go below FLOOR. -/
def State.capTargets (s : State) (cap : Nat) : Nat → Nat → List Nat → List Nat
  | 0, _, l => l
  | fuel + 1, est, l =>
    if est ≤ cap then l
    else
      let can := (List.range 8).filter (fun c => decide ((l[c]?).getD 0 < 6) && decide (s.get (Fld.PWR_CLc_CTRL_FLOOR c) < (l[c]?).getD 0))
      match can.foldl (fun (b : Option Nat) c => match b with
          | none => some c
          | some x => if (l[x]?).getD 0 < (l[c]?).getD 0 then some c else some x) none with
      | none => l
      | some c =>
        let op := (l[c]?).getD 0
        s.capTargets cap fuel (est - (opPower op - opPower (op - 1))) (modifyAt (fun _ => op - 1) c l)

/-- The bounded target of cluster c: an OP within its limits, or 6 to gate. -/
def State.boundTarget (s : State) (c want : Nat) : Nat :=
  if s.on Fld.PWR_GOV_ENABLE then
    if want = 6 ∧ s.on Fld.PWR_GOV_GATE_EN = true then 6
    else Nat.min (Nat.max (s.get (Fld.PWR_CLc_CTRL_FLOOR c)) (Nat.min want 5)) (s.ceilOf c)
  else s.ceilOf c

/-- A decision is applied to a cluster that is up: gating keeps MIN_RUN clusters running and waits for running tasks; a gated
cluster whose target is an OP runs again. DESIGN CHOICE (log entry 188). -/
def State.applyTarget (s : State) (c t : Nat) : State :=
  if t = 6 then
    if s.clState c = 0 ∧ s.get Fld.PWR_GOV_MIN_RUN < s.runCount ∧ s.clBusy c = false ∧ s.domBusy (4 + c) = false then s.gateCluster c else s
  else if s.clRunning c then s.opChange c t
  else if s.clState c = 1 then (s.ungateCluster c).opChange c t
  else s

/-- Gated clusters run again while fewer than MIN_RUN do (R437 item 2). -/
def State.keepRunning (s : State) : State :=
  forUpTo 8 (fun c (s : State) => if s.runCount < s.get Fld.PWR_GOV_MIN_RUN then s.ungateCluster c else s) s

/-- The bounds of R437 at a tick boundary: a cluster in RUN whose OP lies outside them starts a change; with the governor off every cluster runs at its highest. -/
def State.boundsTick (s : State) : State :=
  if s.devState ≠ 0 then s
  else
    let gov := s.on Fld.PWR_GOV_ENABLE
    forUpTo 8 (fun c (s : State) =>
      let s := if gov then s else s.ungateCluster c
      let x := s.dom (4 + c)
      let at_ := if x.phase = .none then s.get (Fld.PWR_CLc_STATUS_OP c) else x.next.getD x.to_
      let b := if gov then s.boundTarget c at_ else s.ceilOf c
      if s.clRunning c && decide (b ≠ at_) then s.opChange c b else s) s

/-- GOVERNOR_DECIDE: once per tick the governor wants targets for the clusters (an OP, or 6 to gate); the bounds of R437 are kept. A cluster without a
target stays as it is (log entry 188). `power` is the estimate over the last tick, in 0.1 W. -/
def execGovernorDecide (targets : List Nat) (power : Nat) (s : State) : Out :=
  let s := s.put Fld.PWR_EST_POWER (Nat.min 2500 power)
  if s.devState ≠ 0 then .next s
  else
    let l := (List.range 8).map (fun c => s.boundTarget c ((targets[c]?).getD (if s.clState c = 1 then 6 else s.get (Fld.PWR_CLc_STATUS_OP c))))
    let cap := s.get Fld.PWR_GOV_CAP * 10
    let l := if s.on Fld.PWR_GOV_ENABLE && decide (cap ≠ 0) then s.capTargets cap 40 (Nat.min 2500 power) l else l
    .next (forUpTo 8 (fun c (s : State) => s.applyTarget c ((l[c]?).getD 0)) s).keepRunning

/-- A READY task needs a gated cluster (R437 item 3): only it may run the task, or no running cluster has an idle engine for it. -/
def State.needsCluster (s : State) (c : Nat) : Bool :=
  s.tasks.any (fun t => decide (t.2.state = .ready) && allEngines.any (fun e => decide (e / 256 ≠ 2) && decide (engineCluster e = c) && t.2.mayRun e) &&
    !allEngines.any (fun e => t.2.mayRun e && s.engineIdle e))

/-- CLUSTER_WAKE_ON_TASK. -/
def execClusterWakeOnTask (c : Nat) (s : State) : Out :=
  if c < 8 ∧ s.needsCluster c = true then .next (s.ungateCluster c) else .next s

/-- A write of PWR_CLc_CTRL resets CEIL_EFF to CEIL; FLOOR above CEIL is rejected. -/
def State.clCtrlWrite (s : State) (c : Nat) (w : Word) : State :=
  s.checked (Reg.PWR_CLc_CTRL c) w (fun _ => if bits w 4 3 < bits w 0 3 then some .range else none)
    (fun s => (s.applyWrite (Reg.PWR_CLc_CTRL c) w).put (Fld.PWR_CLc_STATUS_CEIL_EFF c) (bits w 4 3))

/-- A write of PWR_GOV. -/
def State.govWrite (s : State) (w : Word) : State :=
  s.checked Reg.PWR_GOV w (fun _ => if (0 < bits w 4 8 ∧ bits w 4 8 < 20) ∨ 185 < bits w 4 8 then some .range else none)
    (fun s => s.applyWrite Reg.PWR_GOV w)

/-! ### Device states (R438 to R442) -/

/-- What PWR_STATE_CMD is rejected with (R439). -/
def State.stateCmdErr (s : State) (op : Nat) : Option Err :=
  let st := s.devState
  if op = 3 then (if st = 0 then some .state else none)
  else if s.on Fld.GLOBAL_STRAPS_TWIN_EN then some .conflict
  else if s.gate.txnOpen ∨ s.gate.pending ≠ [] then some .state
  else if st = 1 ∨ st = 4 then some .busy
  else if op = 2 ∧ (List.range 4).any (fun n => s.on (Fld.PG_CTRL_ENABLE (linkPage n))) = true then some .state
  else if (op = 1 ∧ st = 2) ∨ (op = 2 ∧ st = 3) then some .state
  else none

/-- A wake begins with a target (0 ACTIVE, 2 QUIET). -/
def State.wakeBegin (s : State) (target : Nat) : State :=
  let s := s.modPwr (fun w => { w with wakeHeld := false, excursion := none })
  ((s.put Fld.PWR_STATE_TARGET target).devEnter 4).wakeNext

/-- A write of PWR_STATE_CMD: entry to QUIET or DEEP from ACTIVE begins at the next tick boundary; WAKE in ENTERING is held. -/
def State.stateCmdWrite (s : State) (w : Word) : State :=
  let op := bits w 0 2
  s.checked Reg.PWR_STATE_CMD w (fun s => s.stateCmdErr op)
    (fun s =>
      let st := s.devState
      if op = 3 then
        if st = 1 then s.modPwr (fun p => { p with wakeHeld := true })
        else if st = 4 then s
        else s.wakeBegin 0
      else
        let s := s.put Fld.PWR_STATE_TARGET (op + 1)
        if st = 0 then s.modPwr (fun p => { p with enterAt := some (s.tick + 1) })
        else if op = 2 then s.devEnter 1
        else s.wakeBegin 2)

/-- STATE_QUIET. -/
def execStateQuiet (s : State) : Out := .next (s.stateCmdWrite 1)
/-- STATE_DEEP. -/
def execStateDeep (s : State) : Out := .next (s.stateCmdWrite 2)
/-- STATE_WAKE. -/
def execStateWake (s : State) : Out := .next (s.stateCmdWrite 3)

/-- Every injected frame in port p's host queue is discarded. -/
def State.hostDiscard (s : State) (p : Nat) : State :=
  (forEach (s.queue (0x4000 + p)).items (fun i (s : State) => s.unqueue (0x4000 + p) i.tag) s).pruneHost p

/-- The entry boundary (R440 steps 1 and 2): tasks not running are cancelled, waiting packets discarded before they are numbered, jitter buffers emptied. -/
def State.entryStart (s : State) : State :=
  let s := (s.modPwr (fun p => { p with enterAt := none })).devEnter 1
  let s := s.cancelTasks (fun t => decide (t.state = .waiting) || decide (t.state = .ready))
  let s := forEach s.pkts (fun p (s : State) => match p.2 with
    | some x => (s.unqueue x.leg p.1).dropPkt p.1
    | none => s) s
  let s := forUpTo 4 (fun p (s : State) => s.hostDiscard p) s
  forEach s.legs.keys (fun l (s : State) => s.modLeg l (fun g => { g with jb := { g.jb with based := false, frames := [], decoded := false } })) s

/-- ENTRY_COMPLETE: no task runs and no operating point changes; clusters and CMPX go OFF, channels enter self-refresh, for DEEP MEM and LINK go OFF as well; a
held wake begins at once (R440). -/
def execEntryComplete (s : State) : Out :=
  let running := s.tasks.any (fun t => t.2.holds)
  let changing := (List.range 8).any (fun c => s.domBusy (4 + c))
  if s.devState ≠ 1 ∨ running = true ∨ changing = true then .next s
  else
    let target := s.get Fld.PWR_STATE_TARGET
    let s := forEach [4, 5, 6, 7, 8, 9, 10, 11, 12] (fun d (s : State) => if s.get (Fld.PWR_DOMd_STATUS_STATE d) < 2 then s.domOff d false else s) s
    let s := s.srEnter
    let s := if target = 3 then forEach [3, 13] (fun d (s : State) => if s.get (Fld.PWR_DOMd_STATUS_STATE d) < 2 then s.domOff d false else s) s else s
    .next (if s.pwr.wakeHeld then s.wakeBegin 0 else s.devEnter target)

/-- WAKE_COMPLETE: every domain of the target is up or FAILED_WAKE; the device is QUIET, or becomes ACTIVE at the next tick boundary (R442). -/
def execWakeComplete (s : State) : Out :=
  let s := s.wakeNext
  if s.devState ≠ 4 ∨ (List.range 14).any (fun d => s.domBusy d) = true then .next s
  else if s.get Fld.PWR_STATE_TARGET = 2 then .next (s.devEnter 2)
  else .next (s.modPwr (fun p => { p with activeDue := true }))

/-- From the first ACTIVE tick every media object starts as on creation (R442); controllers, selectors, shapers, sequence numbers and SRTP indices continue. -/
def State.mediaRestart (s : State) : State :=
  let s := forEach s.legs.keys (fun l (s : State) => s.modLeg l (fun g => { g with jb := { g.jb with based := false, frames := [], decoded := false, window := [] } })) s
  let s := { s with legAudio := Sparse.mapAll (fun _ => {}) (fun _ (a : LegAudio) => ({ tsBase := a.tsBase, lastRec := a.lastRec, keySince := s.ltick, encSince := s.ltick } : LegAudio)) s.legAudio }
  let s := { s with confAudio := [], audio := { s.audio with nodes := [], ports := [], terms := [], groups := [], undo := [], lateIns := [] } }
  let s := forEach (tableRecs s.gate.effective 6) (fun p (s : State) => if VSTR.DECODE p.2 = 1 then s.decodeStart p.1 else s) s
  forEach (tableRecs s.gate.effective 9) (fun p (s : State) => s.ecompStart p.1 s.ltick) s

/-- The device becomes ACTIVE at a tick boundary. -/
def State.becomeActive (s : State) : State :=
  ((s.modPwr (fun p => { p with activeDue := false })).devEnter 0).mediaRestart

/-- MEM_IDLE_EXPIRE: after MEM_IDLE µs without a request the channels return to self-refresh, and in DEEP MEM to OFF (R441). -/
def execMemIdleExpire (s : State) : Out :=
  match s.pwr.excursion with
  | none => .next s
  | some t =>
    if s.devState = 2 ∨ s.devState = 3 then
      let s := s.runTo (t + s.get Fld.PWR_CFG_MEM_IDLE * 1000)
      let s := (s.modPwr (fun p => { p with excursion := none })).srEnter
      .next (if s.devState = 3 then s.domOff 3 false else s)
    else .next s

/-! ### Single domains (R444) -/

/-- Every page of a domain is OUT_OF_SERVICE and QUIESCED. -/
def State.domRetired (s : State) (d : Nat) : Bool :=
  (domPages d).all (fun p => decide (s.get (Fld.PG_STATUS_SERVICE p) = 1) && s.on (Fld.PG_STATUS_QUIESCED p))

/-- A write of PWR_DOM_CMD. -/
def State.domCmdWrite (s : State) (w : Word) : State :=
  let d := bits w 4 4
  let op := bits w 0 2
  s.checked Reg.PWR_DOM_CMD w
    (fun s =>
      if 13 < d then some .range
      else if op = 1 ∧ d < 4 then some .priv
      else if s.devState ≠ 0 then some .state
      else if op = 1 then (if s.get (Fld.PWR_DOMd_STATUS_STATE d) < 2 ∧ s.domBusy d = false ∧ s.domRetired d = true then none else some .state)
      else if s.get (Fld.PWR_DOMd_STATUS_STATE d) = 2 ∨ s.get (Fld.PWR_DOMd_STATUS_STATE d) = 3 then none
      else some .state)
    (fun s => if op = 1 then s.domOff d true else (s.setDom d { s.dom d with byCommand := true }).domWake d)

/-- DOMAIN_OFF. -/
def execDomainOff (d : Nat) (s : State) : Out := .next (s.domCmdWrite (BitVec.ofNat 32 (d % 16 * 16 + 1)))

/-- DOMAIN_WAKE. -/
def execDomainWake (d : Nat) (s : State) : Out := .next (s.domCmdWrite (BitVec.ofNat 32 (d % 16 * 16 + 2)))

end Sys2Proof.Machine
end

