-- ==== Sys2Proof/Machine/Pages.lean ====
section
/-! DEFINITION. Page resets and quiescence (spec/02_register_conventions.md, R30, R511; spec/03, R508; spec/08; spec/15, R306; spec/19, R515). -/

namespace Sys2Proof.Machine

/-- The engines whose page this is. -/
def pageEngines (p : Nat) : List Nat := allEngines.filter (fun e => decide (enginePage e = p))

/-- The block behind a page has work in progress. -/
def State.pageBusy (s : State) (p : Nat) : Bool :=
  let port (n : Nat) := (s.port n).q.any (fun x => decide (x.2 ≠ []))
  let waiting (f : TxPkt → Bool) := s.pkts.any (fun x => match x.2 with | some q => f q | none => false)
  if (pageEngines p).any (fun e => (s.eng e).slot.isSome || (s.eng e).fenced.isSome) then true
  else if 0x20000 ≤ p ∧ p < 0x24000 then port ((p - 0x20000) / 0x1000)
  else if 0x24000 ≤ p ∧ p < 0x26000 then decide ((s.plane ((p - 0x24000) / 0x1000)).injOut ≠ [])
  else if p = 0x27000 then waiting (fun _ => true)
  else if 0x28000 ≤ p ∧ p < 0x2C000 then port ((p - 0x28000) / 0x1000)
  else if p = 0x2C000 then waiting (fun q => decide (LEG.PROFILE (s.legRec q.leg) ≠ 0))
  else if p = 0x2D000 then waiting (fun q => decide (q.kind = .video) || decide (q.kind = .rtx))
  else if 0x30000 ≤ p ∧ p < 0x34000 then decide ((s.tdmPort ((p - 0x30000) / 0x1000)).frames ≠ [])
  else if p = granaryPage then s.queues.any (fun q => decide (q.2.sweeping ≠ 0) || q.2.items.any (fun i => i.claimed))
  else if p = 0x42000 then s.evq.any (fun q => decide (q.2.sweeping ≠ 0))
  else if 0xA0000 ≤ p ∧ p < 0xA4000 then
    let x := s.link ((p - 0xA0000) / 0x1000)
    decide (x.replay ≠ []) || x.queues.any (fun q => decide (q ≠ []))
  else if p = twinPage then decide (s.twinState = 5)
  else if 0xB0000 ≤ p ∧ p < 0xB8000 then (s.chan ((p - 0xB0000) / 0x1000)).zq.any id
  else if p = 0xB8000 then s.weir.fences.any (fun f => !f.empty)
  else if 0x50000 ≤ p ∧ p < 0x58000 then (s.kernelCmd.get (fun _ => none) ((p - 0x50000) / 0x1000)).isSome
  else if 0x10000 ≤ p ∧ p < 0x18000 then (List.range 4).any (fun k => decide (s.dmaState ((p - 0x10000) / 0x1000 * 4 + k) = 2))
  else if p = 0x40000 then s.gate.cmd.isSome
  else if p = 0xC0000 then s.sec.running.isSome || s.sec.suspended.isSome
  else if p = 0xC1000 then s.sec.keyCmd.isSome
  else if p = 0x60000 then !s.on Fld.AUDIO_PROG_RESULT_VALID || s.tasks.any (fun t => decide (t.2.typ = .audioTick) || decide (t.2.typ = .customKernel))
  else if p = reevePage then s.tasks.any (fun t => t.2.holds)
  else if p = 0x5000 then s.svc.cmd.isSome || s.svc.fwStage.isSome
  else false

/-- Result registers of commands that a page reset does not end: they keep their value while the result is pending. -/
def pendingResults : List Nat :=
  [Reg.FAULT_SVC_RESULT, Reg.FAULT_FW_RESULT, Reg.FAULT_FW_EFFECT_LO, Reg.FAULT_FW_EFFECT_HI, Reg.AUDIO_PROG_RESULT, Reg.AUDIO_PROG_EFFECT_LO,
   Reg.AUDIO_PROG_EFFECT_HI, Reg.CIPHER_RESULT] ++ (List.range 8).map Reg.MILLC_KRESULT

/-- Single registers that a page reset keeps: those a chapter names as kept, and those that report state of the logic or tables behind the page, which the reset
leaves. -/
def keptRegs : List Nat :=
  [Reg.GLOBAL_REV, Reg.GLOBAL_STRAPS, Reg.GLOBAL_BOOT, Reg.GLOBAL_MEDIA, Reg.GLOBAL_MEDIA_FREE, Reg.BELFRY_STATUS, Reg.BELFRY_SEC_LO, Reg.BELFRY_SEC_HI,
   Reg.BELFRY_NS, Reg.BELFRY_FRAC, Reg.PWR_STATE, Reg.PWR_EST, Reg.CLK_RUN, Reg.CLK_LINKED, Reg.CRIER_SEQ, Reg.FAULT_FATAL, Reg.FAULT_LIFE,
   Reg.FAULT_TEST_OVERDUE, Reg.DUMP_STATUS, Reg.DUMP_LOCAL_LO, Reg.DUMP_LOCAL_HI, Reg.HOSTIF_LINK, Reg.HOSTIF_TAGS, Reg.SRTP_LEGS, Reg.GATE_RESULT,
   Reg.GATE_EFFECT_LO, Reg.GATE_EFFECT_HI, Reg.GATE_TXN, Reg.GATE_PENDING, Reg.AUDIO_PROG_ACTIVE_ID, Reg.AUDIO_PROG_SHADOW_ID, Reg.AUDIO_GROUPS, Reg.BINATH0_TOPO,
   Reg.TWIN_STATUS, Reg.TWIN_LAG, Reg.TWIN_EXEC_LO, Reg.TWIN_EXEC_HI, Reg.TWIN_OFFSET, Reg.TWIN_COPY, Reg.CIPHER_LOCK, Reg.KEYSTORE_RESULT, Reg.KEYSTORE_STATE,
   Reg.KEYSTORE_COUNT, Reg.KEYSTORE_PAIR_SLOT, Reg.ALARM_STATUS, Reg.ALARM_TIME_LO, Reg.ALARM_TIME_HI, Reg.ALARM_BOOT, Reg.ALARM_HEALTH] ++
  (List.range 4).map Reg.BELFRY_PnCAL ++ (List.range 4).map Reg.ETHn_LINK ++ (List.range 4).map Reg.TDMn_BIND_RX ++ (List.range 4).map Reg.TDMn_BIND_TX ++
  (List.range 4).map Reg.BINATHn_STATE ++ (List.range 8).map Reg.PWR_CLc_STATUS ++ (List.range 16).map Reg.AUDIO_RPn_STATUS ++
  (List.range 2).map Reg.PLANEn_PRP_TABLE ++ (List.range 8).map Reg.MILLC_KCODE ++
  (List.range 64).map (fun i => Reg.MILLC_KIDk (i / 8) (i % 8)) ++ (List.range 8).map Reg.DDRCn_CFG ++ (List.range 8).map Reg.DDRCn_STATUS ++
  (List.range 8).map Reg.DDRCn_MARK ++ (List.range 8).map Reg.DDRCn_TRAIN ++ (List.range 8).map Reg.DDRCn_REFRESH

/-- A page reset keeps the register at a. Belfry's generators 0, 1 and 7 to 10 keep theirs (R508), GRANARY all but its counters. -/
def State.pageKeeps (s : State) (a : Nat) : Bool :=
  if a % 4096 < 0x40 then true
  else if pageOf a = granaryPage then !(decide (a = Reg.GRANARY_RESETS) || (decide (Reg.GRANARY_BANKQk_FILL 0 ≤ a) && decide (a % 8 = 4)))
  else if Reg.BELFRY_TRGn_CTRL 0 ≤ a ∧ a < Reg.BELFRY_TRGn_CTRL 16 then
    let n := (a - Reg.BELFRY_TRGn_CTRL 0) / 0x20
    decide (n < 2) || (decide (7 ≤ n) && decide (n < 11))
  else if Reg.PWR_DOMd_STATUS 0 ≤ a ∧ a < 0x3000 then true
  else if Reg.CLK_FREQk 0 ≤ a ∧ a < 0x4000 then true
  else keptRegs.contains a || (pendingResults.contains a && s.pageBusy (pageOf a))

/-- Faults in the last hour as a page of engines shows them, which no page reset clears. -/
def State.showHours (s : State) (p : Nat) : State :=
  forEach (pageEngines p) (fun e (s : State) =>
    let n := e % 256
    if e / 256 = 0 then s.put (Fld.VDEn_FAULTS_HOUR n) (s.hourFaults e)
    else if e / 256 = 1 then s.put (Fld.VEEn_FAULTS_HOUR n) (s.hourFaults e)
    else if e / 256 = 2 then s.put (Fld.CMPn_FAULTS_HOUR n) (s.hourFaults e)
    else s) s

/-- A page reset of BELFRY: pulses end at once (DESIGN CHOICE, log entry 154); the clock runs on, the servo goes to FREERUN, generators other than 0, 1 and 7 to 10 and the capture units stop (R508). -/
def State.belfryPageReset (s : State) : State :=
  let s := s.servoGo 0 0
  let gens := (List.range 16).filter (fun n => !(decide (n < 2) || (decide (7 ≤ n) && decide (n < 11))))
  let s := forEach gens (fun n (s : State) => s.setTrg n {}) s
  forUpTo 8 (fun n (s : State) => s.setCap n {}) s

/-- What a page reset does to the logic behind the page. An engine that runs a task is handled as in R306 steps 2 to 4, with no fault counted. -/
def State.pageLogic (s : State) (p : Nat) : State :=
  let s := forEach (pageEngines p) (fun e (s : State) => if (s.eng e).slot.isSome then s.engineAbort e none else s) s
  let s := s.showHours p
  if p = belfryPage then s.belfryPageReset
  else if 0x10000 ≤ p ∧ p < 0x18000 then
    forUpTo 4 (fun k (s : State) =>
      let c := (p - 0x10000) / 0x1000 * 4 + k
      ((s.setDma c {}).dmaEnter c 0).showDma c) s
  else if 0x20000 ≤ p ∧ p < 0x24000 then s.portCal ((p - 0x20000) / 0x1000)
  else if 0x30000 ≤ p ∧ p < 0x34000 then s.tdmStop ((p - 0x30000) / 0x1000)
  else if p = 0x42000 then
    let s := forUpTo 64 (fun n (s : State) => s.evqEmpty n) s
    { s with evq := [] }
  else if p = reevePage then s.showReeve
  else if 0xA0000 ≤ p ∧ p < 0xA4000 then s.linkEnable ((p - 0xA0000) / 0x1000) false
  else if p = 0xB8000 then s.put Fld.WEIR_SUM_GUAR (sumBy (fun k => s.get (Fld.WEIR_PORTp_CFG_GUAR k)) (List.range 17))
  else if p = 0xC1000 then s.modSec (fun c => { c with stage := [] })
  else s

/-- A page reset starts: pairs keep their held low words and captures (DESIGN CHOICE, log entry 162); block registers take their reset values, ENABLE, PG_EVENT and PG_ERR_COUNT are cleared, and RESET reads 1 (R30). -/
def State.pageReset (s : State) (p : Nat) : State :=
  let s := if p = 0xA0000 ∨ p = 0xA1000 ∨ p = 0xA2000 ∨ p = 0xA3000 then s.linkEnable ((p - 0xA0000) / 0x1000) false else s
  let keep (a : Nat) := decide (pageOf a ≠ p) || s.pageKeeps a
  let s := s.keepRegs keep
  let s := s.pageLogic p
  let s := (s.put (Fld.PG_CTRL_ENABLE p) 0).put (Fld.PG_CTRL_RESET p) 1
  (s.wr (Reg.PG_EVENT p) 0).wr (Reg.PG_ERR_COUNT p) 0

/-- QUIESCE takes effect: QUIESCED rises at once on a page of the SOC island with no work in progress; it falls with QUIESCE (R30). -/
def State.quiesce (s : State) (p : Nat) : State :=
  if !s.on (Fld.PG_CTRL_QUIESCE p) then s.put (Fld.PG_STATUS_QUIESCED p) 0
  else if islandOf p = 1 ∧ s.pageBusy p = false then s.put (Fld.PG_STATUS_QUIESCED p) 1
  else s

/-- A write of PG_CTRL. A junior refuses every write to its KEYSTORE page (R346); BELFRY refuses a reset while legs or layouts exist (R508). -/
def State.pgCtrlWrite (s : State) (p : Nat) (w : Word) : State :=
  s.checked (Reg.PG_CTRL p) w
    (fun s =>
      if p = 0xC1000 ∧ s.twinJunior = true then some .twin
      else if p = belfryPage ∧ bit w 2 = true ∧ s.anyLegOrLayout = true then some .state
      else none)
    (fun s =>
      let was := s.on (Fld.PG_CTRL_ENABLE p)
      let s := ((s.put (Fld.PG_CTRL_ENABLE p) (b2n (bit w 0))).put (Fld.PG_CTRL_QUIESCE p) (b2n (bit w 1))).quiesce p
      if bit w 2 && !s.on (Fld.PG_CTRL_RESET p) then s.pageReset p
      else if was = bit w 0 then s
      else if 0xA0000 ≤ p ∧ p < 0xA4000 then s.linkEnable ((p - 0xA0000) / 0x1000) (bit w 0)
      else if 0x30000 ≤ p ∧ p < 0x34000 then s.tdmStop ((p - 0x30000) / 0x1000)
      else s)

/-- PAGE_RESET: PG_CTRL of the page at base `page` is written with RESET = 1, the other fields as given. -/
def execPageReset (page : Nat) (enable quiesce : Bool) (s : State) : Out :=
  .next (if allPages.contains page then s.pgCtrlWrite page (BitVec.ofNat 32 (4 + b2n quiesce * 2 + b2n enable)) else s)

/-- PAGE_RESET_COMPLETE: RESET reads 0 again. A command in progress at the gate or the key store completes first (R511, R515). -/
def execPageResetComplete (page : Nat) (s : State) : Out :=
  if allPages.contains page && s.on (Fld.PG_CTRL_RESET page) then
    if page = 0x40000 then
      if s.gate.cmd.isSome then .next s
      else .next ((s.keepRegs (fun a => !(decide (Reg.GATE_STAGE_w 0 ≤ a) && decide (a < 0x40800)))).put (Fld.PG_CTRL_RESET page) 0)
    else if page = 0xC1000 ∧ s.sec.keyCmd.isSome then .next s
    else .next (s.put (Fld.PG_CTRL_RESET page) 0)
  else .next s

/-- QUIESCE_SET: PG_CTRL is written with QUIESCE = 1 and ENABLE as given. -/
def execQuiesceSet (page : Nat) (enable : Bool) (s : State) : Out :=
  .next (if allPages.contains page then s.pgCtrlWrite page (BitVec.ofNat 32 (2 + b2n enable)) else s)

/-- QUIESCE_DONE: no work is in progress in a quiescing block, and QUIESCED rises. -/
def execQuiesceDone (page : Nat) (s : State) : Out :=
  if allPages.contains page && s.on (Fld.PG_CTRL_QUIESCE page) && !s.pageBusy page then .next (s.put (Fld.PG_STATUS_QUIESCED page) 1)
  else .next s

end Sys2Proof.Machine
end

