-- ==== Sys2Proof/Machine/RegRead.lean ====
section
/-! DEFINITION. What a read of a register returns (spec/02_register_conventions.md, R30, R34 to R36): live values, captures of 64-bit pairs, and what reads 0. -/

namespace Sys2Proof.Machine

/-- Sums of costs over records, in 10⁶ samples per s (R245, R261, R280); those of encoded compositions over accepted tables `m` and what is leaving. -/
def decodeCosts (l : List (Nat × Nat)) : Nat :=
  sumBy (fun p => if VSTR.DECODE p.2 = 1 ∧ VSTR.LEG p.2 < 0x8004 then vstrCost16 p.2 else 0) l
def layoutCosts (l : List (Nat × Nat)) : Nat := sumBy (fun p => layoutCost p.2) l
def State.ecompCosts (s : State) (m : Sparse Nat) : Nat :=
  sumBy (fun p => match accRec m 8 p.1 with | some l => ecompCost p.2 l | none => 0) (tableRecs m 9) +
    sumBy (fun p => match s.effRec 8 p.1 with | some l => ecompCost p.2 l | none => 0) (s.leaving 9)

/-- Effective and pending RTP legs of a plane. -/
def State.planeLegs (s : State) (n : Nat) : Nat :=
  let legs := ((s.standing 1).filter (fun p => decide (LEG.TRANSPORT p.2 = 0) && decide (LEG.PLANE p.2 = n))).map (·.1)
  (legs.eraseDups).length

/-- Classifier entries in use: one per path of each installed leg (R81). -/
def State.classEntries (s : State) : Nat :=
  sumBy (fun p => if (s.leg p.1).installed then 1 + LEG.PROT p.2 else 0) (tableRecs s.gate.effective 1)

/-- WIDTH of the frame-sync generator of TDM port n in ns: one bit clock, or half the frame (R62, R113). -/
def State.tdmWidth (s : State) (n : Nat) : Nat :=
  if s.on (Fld.TDMn_CFG_FS_LONG n) then 1000000000 / 96000 else 1000000000 / ((s.get (Fld.TDMn_CFG_SLOTS n) + 1) * 32 * 48000)

/-- What the registers of trigger generators show that follow other blocks (R62): CTRL and WIDTH of generators 7 to 10, and RUN of those, of the audio tick and of the
frame-tick sequencer. -/
def State.trgWord (s : State) (addr : Nat) : Word :=
  let n := (addr - Reg.BELFRY_TRGn_CTRL 0) / 0x20
  let tdm := decide (7 ≤ n) && decide (n ≤ 10)
  if tdm && decide (addr = Reg.BELFRY_TRGn_CTRL n) then BitVec.ofNat 32 (b2n (s.trgRunning n))
  else if tdm && decide (addr = Reg.BELFRY_TRGn_WIDTH n) then BitVec.ofNat 32 (s.tdmWidth (n - 7))
  else if decide (addr = Reg.BELFRY_TRGn_STATUS n) && (tdm || decide (n < 2)) then
    putBits (s.rd addr) 30 1 (b2n (decide (n = 0) || (decide (n = 1) && s.layouts.any (fun p => p.2.effective)) || s.trgRunning n))
  else s.rd addr

/-- The value a register has now: most stand in the register file, some are computed as they are read. -/
def State.liveWord (s : State) (addr : Nat) : Word :=
  if addr % 4096 = 8 then putBits (s.rd addr) 0 1 (b2n (s.linked addr))
  else if trgFixed addr then s.trgWord addr
  else if 0x70000 ≤ addr ∧ addr < 0x8C000 ∧ addr % 4096 = 0x50 then
    match (pageEngines (pageOf addr)).head? with
    | some e => putBits (s.rd addr) 0 2 (s.hourFaults e)
    | none => s.rd addr
  else if addr = Reg.BELFRY_SHORT then BitVec.ofNat 32 s.shortTime
  else if addr = Reg.PKTIN_CLASS then BitVec.ofNat 32 s.classEntries
  else if addr = Reg.SCHEDn_LEGQ 0 ∨ addr = Reg.SCHEDn_LEGQ 1 then BitVec.ofNat 32 (s.planeLegs 0)
  else if addr = Reg.SCHEDn_LEGQ 2 ∨ addr = Reg.SCHEDn_LEGQ 3 then BitVec.ofNat 32 (s.planeLegs 1)
  else if addr = Reg.GRANARY_POOL then BitVec.ofNat 32 s.sharedCells
  else if addr = Reg.GRANARY_RESERVED then BitVec.ofNat 32 s.minSum
  else if pageOf addr = 0x42000 ∧ Reg.EVQn_COUNT 0 ≤ addr ∧ addr % 0x20 = 0x18 ∧ addr ≤ Reg.EVQn_COUNT 63 then
    let n := (addr - Reg.EVQn_COUNT 0) / 0x20
    BitVec.ofNat 32 ((s.evqCheck n).evq.get (fun _ => {}) n).entries.length
  else if addr = Reg.VDE0_COST then BitVec.ofNat 32 (ceilDiv (decodeCosts (s.standing 6)) 16000000)
  else if addr = Reg.VEE0_COST then BitVec.ofNat 32 (ceilDiv (s.ecompCosts s.accepted) 1000000)
  else if addr = Reg.CMP0_COST then BitVec.ofNat 32 (ceilDiv (layoutCosts (s.standing 8)) 1000000)
  else if addr = Reg.TWIN_STATUS then s.rd addr ||| BitVec.ofNat 32 (b2n (s.on Fld.GLOBAL_STRAPS_TWIN_SENIOR) * 2 ^ Fld.TWIN_STATUS_STRAP.lo)
  else s.rd addr

/-- Whether some field of the register is POP. -/
def RegSpec.pops (r : RegSpec) : Bool := r.rows.any (fun x => decide (x.acc = .pop))

/-- The Mill core whose memory slot an address lies in (R40). -/
def slotCore (addr : Nat) : Option Nat :=
  if 0x1000000 ≤ addr ∧ addr < 0x1000000 + 128 * 0x20000 then some ((addr - 0x1000000) / 0x20000) else none

/-- A word of core k's slot: its data memory, or its program memory as MILLC_WIN selects, of which the runtime area shows in bench mode only (R40, R241). -/
def State.slotWord (s : State) (k off : Nat) : Word :=
  let m := s.core k
  if s.linked (millPage (k / 16)) = false ∨ off % 4 ≠ 0 then 0
  else if bit (s.rd (Reg.MILLC_WIN (k / 16))) (k % 16) = false then BitVec.ofNat 32 (bytesNat (m.data.readList off 4))
  else if 0x10000 ≤ off ∨ (off < 0x8000 ∧ s.inBench k = false) then 0
  else BitVec.ofNat 32 (bytesNat (m.prog.readList off 4))

/-- A read that has no effect of its own, by one reader: 0 at a reserved or unmapped address, while the page is not LINKED or in reset, and of a _POP or WO
register; the capture of a _HI register; a word of a core's memories (R30, R34, R36, R40, R41, R51). -/
def State.readWord (s : State) (r : Reader) (addr : Nat) : Word :=
  match specAt addr with
  | none => (match slotCore addr with | some k => s.slotWord k ((addr - 0x1000000) % 0x20000) | none => 0)
  | some x =>
    if addr % 4096 < 0x40 then s.liveWord addr
    else if !s.linked addr || s.inReset addr || x.pops then 0
    else if addr = Reg.BELFRY_SEC_HI ∨ addr = Reg.BELFRY_NS ∨ addr = Reg.BELFRY_FRAC ∨ x.role = .hi then s.captured r addr
    else s.liveWord addr

end Sys2Proof.Machine
end

