-- ==== Sys2Proof/Machine/GateCheck.lean ====
section
/-! DEFINITION. What the table gate checks (spec/02_register_conventions.md, R42 to R47, R510, and the owners' tables of R83, R88, R90, R93, R108, R128, R132,
R146, R245, R261 and R280 with the reservations of R509): the first check that fails names the error. -/

namespace Sys2Proof.Machine

def gatePage : Nat := 0x40000

/-! ### Tables (R42) -/

/-- Indexes of a table; 0 for a number that is no table. -/
def tableSize (t : Nat) : Nat :=
  if t = 1 ∨ t = 4 ∨ t = 5 ∨ t = 7 then 16384
  else if t = 2 then 2048 else if t = 3 then 256 else if t = 6 then 4096 else if t = 8 ∨ t = 9 then 1024 else 0

/-- The commit class: 1 tick, 2 frame. -/
def tableClass (t : Nat) : Nat := if t < 8 then 1 else 2

/-- A field moved to an entry of a record. -/
def RecField.shift (f : RecField) (n : Nat) : RecField := { f with byte := f.byte + n }

/-- Every field of a LAYOUT record with its layers (R258 to R260). -/
def layoutFields : List RecField :=
  LAYOUT.fields ++ (List.range 16).flatMap (fun v => VLAYER.fields.map (fun f => f.shift (32 + 16 * v))) ++
    (List.range 8).flatMap (fun g => GLAYER.fields.map (fun f => f.shift (288 + 24 * g)))

/-- The fields of a VSTR record in use: those of DEC only while DECODE = 1 (R127). -/
def vstrFields (r : Nat) : List RecField :=
  if VSTR.DECODE r = 1 then VSTR.fields.filter (fun f => decide (f.byte < 32)) ++ DEC.fields else VSTR.fields.filter (fun f => decide (f.byte < 32))

/-- The fields of a LEG record in use: a TDM leg ignores bytes 6 to 83 and 96 to 127 (R87). -/
def legFields (r : Nat) : List RecField :=
  if LEG.TRANSPORT r = 1 then LEG.fields.filter (fun f => decide (f.byte < 6) || (decide (84 ≤ f.byte) && decide (f.byte < 96))) else LEG.fields

def tableFields (t r : Nat) : List RecField :=
  if t = 1 then legFields r else if t = 2 then CONF.fields else if t = 3 then REC.fields else if t = 4 then POLICER.fields
  else if t = 5 then SHAPER.fields else if t = 6 then vstrFields r else if t = 7 then OSTR.fields else if t = 8 then layoutFields else ECOMP.fields

/-- A record without the bytes its table ignores. -/
def normalise (t r : Nat) : Nat :=
  let r := r % 2 ^ (8 * recLen t)
  if t = 1 ∧ LEG.TRANSPORT r = 1 then
    r - recField r 6 0 624 * 2 ^ 48 - recField r 96 0 256 * 2 ^ 768
  else if t = 6 ∧ VSTR.DECODE r = 0 then r % 2 ^ 256
  else r

/-! ### Fields outside their own ranges (R510 step 5) -/

/-- The error of the first check that fails. -/
def firstErr : List (Bool × Err) → Option Err
  | [] => none
  | (b, e) :: t => if b then some e else firstErr t

/-- A CNAME of 1 to 32 printable characters and NULs after them. -/
def cnameOk (r : Nat) : Bool :=
  let l := natBytes 32 (LEG.CNAME r)
  let body := l.takeWhile (fun b => decide (b ≠ 0))
  decide (body ≠ []) && body.all (fun b => decide (0x20 ≤ b.toNat) && decide (b.toNat ≤ 0x7E)) && (l.drop body.length).all (fun b => decide (b = 0))

/-- A number that must be 0 or lie in a range. -/
def zeroOr (v lo hi : Nat) : Bool := decide (v = 0) || (decide (lo ≤ v) && decide (v ≤ hi))

/-- Ranges of LEG fields that its field list does not give (R87, R121). -/
def legRange (r : Nat) : Bool :=
  let rtp := decide (LEG.TRANSPORT r = 0)
  let rate (v : Nat) : Bool := decide (8 ≤ v) && decide (v ≤ 10000000)
  !(decide (LEG.CONF r < 2048) || decide (LEG.CONF r = 0xFFFF)) || !rate (LEG.RATE_FLOOR r) || !rate (LEG.RATE_CEIL r) ||
    decide (LEG.RATE_CEIL r < LEG.RATE_FLOOR r) ||
    (rtp && (decide (LEG.JB_MAX r < LEG.JB_MIN r) || !(decide (LEG.RX_OLD r < 32768) || decide (LEG.RX_OLD r = 0xFFFF)) || !cnameOk r))

/-- Ranges of DEC fields (R244). -/
def decRange (r : Nat) : Bool := decide (VSTR.DECODE r = 1) && (decide (DEC.MAX_W r % 8 ≠ 0) || decide (DEC.MAX_H r % 8 ≠ 0))

/-- Ranges of the canvas header and of the sources named (R258, R259). -/
def layoutRange (r : Nat) : Bool :=
  decide (LAYOUT.WIDTH r % 8 ≠ 0) || decide (LAYOUT.HEIGHT r % 8 ≠ 0) ||
    (List.range 16).any (fun v => let e := vlayer r v
      (decide (VLAYER.SRC_KIND e = 1) && decide (4096 ≤ VLAYER.SRC e)) || (decide (VLAYER.SRC_KIND e = 2) && decide (1024 ≤ VLAYER.SRC e)))

/-- A region of interest of an ECOMP (R278) as X, Y, W, H, OFFSET and ENABLE. -/
def roiOf (r i : Nat) : Nat × Nat × Int × Bool :=
  (recField r (68 + 12 * i) 0 16, recField r (70 + 12 * i) 0 16, signed 8 (recField r (72 + 12 * i) 0 8), decide (recField r (73 + 12 * i) 0 1 = 1))

/-- Layer (s, t) is one an ECOMP record uses. -/
def ecompUses (r s t : Nat) : Bool := decide (s < ECOMP.SPATIAL r) && decide (t < ECOMP.TEMPORAL r)

/-- Ranges of ECOMP fields (R278). -/
def ecompRange (r : Nat) : Bool :=
  let top := if ECOMP.CODEC r = 3 then 255 else 51
  !zeroOr (ECOMP.REFRESH_PERIOD r) 2 600 || !zeroOr (ECOMP.ACCEL_PERIOD r) 2 (ecompRefresh r) ||
    decide (top < ECOMP.QP_MIN r) || decide (top < ecompQpMax r) || decide (ecompQpMax r < ECOMP.QP_MIN r) ||
    decide (ecompQpStart r < ECOMP.QP_MIN r) || decide (ecompQpMax r < ecompQpStart r) || !zeroOr (ECOMP.KEY_MULT r) 1 16 ||
    !zeroOr (ECOMP.MAX_PAYLOAD r) 400 1400 ||
    (if ECOMP.LIVE r = 1 then decide (ECOMP.LAG r ≠ 0) else decide (ECOMP.LAG r < 100) || decide (1000 < ECOMP.LAG r)) ||
    (List.range 9).any (fun i => let v := ecompRate r (i / 3) (i % 3)
      if ecompUses r (i / 3) (i % 3) then decide (v < 16) || decide (100000 < v) else decide (v ≠ 0)) ||
    (List.range 8).any (fun i => let (w, h, o, on) := roiOf r i
      on && (decide (w < 16) || decide (h < 16) || decide (o < -12) || decide (12 < o)))

/-- Whether n is a power of two from 65,536 to 1,073,741,824. -/
def ringSizeOk (n : Nat) : Bool := (List.range 15).any (fun k => decide (n = 65536 * 2 ^ k))

/-- A PROFILE that its codec does not have (R278). -/
def ecompProfileReserved (r : Nat) : Bool := decide ((if ECOMP.CODEC r = 1 then 2 else 1) < ECOMP.PROFILE r)

/-- R510 step 5: reserved bits and encodings, then ranges in ascending byte order; the alignment of the addresses of CONF and REC is checked in their bytes' place
(DEDUCED, log entry 164). -/
def recordErr (t r : Nat) : Option Err :=
  let fs := tableFields t r
  let upTo (n : Nat) : List RecField := fs.filter (fun f => decide (f.byte < n))
  if recBitReserved r (recLen t) fs || recEncodingReserved r fs || (decide (t = 9) && ecompProfileReserved r) then some .reserved
  else if t = 2 then
    firstErr [(recOutOfRange r (upTo 8), .range), (decide (CONF.RECALL_BASE r % 65536 ≠ 0), .align), (recOutOfRange r fs, .range)]
  else if t = 3 then
    firstErr [(decide (REC.RING_BASE r % 4096 ≠ 0), .align), (recOutOfRange r fs || !ringSizeOk (REC.RING_SIZE r), .range),
      (decide (REC.HEAD_ADDR r % 8 ≠ 0), .align), (decide (REC.TAIL_ADDR r % 8 ≠ 0), .align)]
  else if recOutOfRange r fs || (decide (t = 1) && legRange r) || (decide (t = 6) && decRange r) || (decide (t = 8) && layoutRange r) ||
      (decide (t = 9) && ecompRange r) then some .range
  else none

/-! ### Reservations (R509), in units of 64 KiB -/

def units (bytes : Nat) : Nat := ceilDiv bytes 65536

/-- The bytes of an ECOMP's reference buffers and of the picture being coded (R280). -/
def ecompBytes (r : Nat) : Nat :=
  let deep := decide (ECOMP.CODEC r ≠ 1) && decide (ECOMP.PROFILE r = 1)
  sumBy (fun s => 2 * bufferBytes (layerSize r s).1 (layerSize r s).2 deep) (List.range (ECOMP.SPATIAL r)) +
    bufferBytes (ECOMP.TOP_W r) (ECOMP.TOP_H r) deep

/-- What a record reserves; `ceil` is the RATE_CEIL of an OSTR's leg. -/
def reservation (t r ceil : Nat) : Nat :=
  if t = 1 then (if LEG.TRANSPORT r = 1 then 1 else 4)
  else if t = 6 then
    let buf := bufferBytes (DEC.MAX_W r) (DEC.MAX_H r) (decide (DEC.DEPTH10 r = 1))
    if 0x8004 ≤ VSTR.LEG r then units (4 * buf)
    else 64 + (if VSTR.DECODE r = 1 then units ((DEC.DPB r + 3) * buf) + 16 else 0)
  else if t = 7 then
    if OSTR.RTX_PT r = 0 ∨ 0x8000 ≤ OSTR.LEG r then 1 else units (65536 + 275 * ceil)
  else if t = 8 then units (layoutBytes r)
  else if t = 9 then units (ecompBytes r + 4194304)
  else 0

/-- What an index reserves: the greatest amount of its present life, and the amounts of lives whose accepted DELETE is not yet in effect. -/
structure Life where
  cur : Nat := 0
  closed : Nat := 0
  deriving DecidableEq, Repr

/-- Accepted records that are not yet in effect, and one that is being checked. -/
def State.coming (s : State) (extra : List GateRec) : List GateRec := s.gate.pending ++ s.gate.txn ++ extra

/-- The greatest RATE_CEIL of a leg over its effective and coming records. -/
def State.rateCeilOf (s : State) (extra : List GateRec) (l : Nat) : Nat :=
  let eff := match s.effRec 1 l with | some r => LEG.RATE_CEIL r | none => 0
  (s.coming extra).foldl (fun m g => if g.table = 1 ∧ g.index = l ∧ g.op ≠ .delete then Nat.max m (LEG.RATE_CEIL g.data) else m) eff

/-- What a record of the tables reserves now. -/
def State.amount (s : State) (extra : List GateRec) (t r : Nat) : Nat := reservation t r (s.rateCeilOf extra (OSTR.LEG r))

/-- One coming record added to what its index reserves. -/
def State.lifeStep (s : State) (extra : List GateRec) (m : Sparse Life) (g : GateRec) : Sparse Life :=
  let k := recKey g.table g.index
  let x := m.get (fun _ => {}) k
  let a := s.amount extra g.table g.data
  m.set (fun _ => {}) k (match g.op with
    | .create => { x with cur := a }
    | .modify => { x with cur := Nat.max x.cur a }
    | .delete => { cur := 0, closed := x.closed + x.cur })

/-- The units reserved with some more records accepted. -/
def State.reserved (s : State) (extra : List GateRec) : Nat :=
  let m : Sparse Life := s.gate.effective.foldl (fun (m : Sparse Life) p =>
    if p.2 = 0 then m else m.set (fun _ => {}) p.1 { cur := s.amount extra (p.1 / 65536) (p.2 - 1) }) []
  let m := (s.coming extra).foldl (s.lifeStep extra) m
  sumBy (fun p => p.2.cur + p.2.closed) m

/-- The pool in units (R509). -/
def State.mediaPool (s : State) : Nat := (s.get Fld.GLOBAL_MEDIA_SIZE - 4) * 16384

/-- A record does not fit the pool: it reserves more than is free. -/
def State.noRoom (s : State) (g : GateRec) : Bool :=
  decide (s.reserved [] < s.reserved [g]) && decide (s.mediaPool < s.reserved [g])

/-! ### The owners' conditions (R510 step 6) -/

/-- A command's record in the context of the gate: its operation, table, index and record, the accepted tables before it (`m`), with it (`n`), and the
record it changes: the effective one, or the accepted one where none is effective or its DELETE is accepted. -/
structure GateCtx where
  op : GateOp
  table : Nat
  index : Nat
  r : Nat
  m : Sparse Nat
  n : Sparse Nat
  base : Nat

def State.gateCtx (s : State) (op : GateOp) (t i r : Nat) : GateCtx :=
  let m := s.accepted
  let acc := (accRec m t i).getD 0
  { op := op, table := t, index := i, r := r, m := m, n := applyRec m ⟨op, t, i, r, 0⟩,
    base := match s.effRec t i with | some e => if s.deleting t i then acc else e | none => acc }

def GateCtx.modify (c : GateCtx) : Bool := decide (c.op = .modify)

/-- Records of a table but for the command's own index. -/
def GateCtx.others (c : GateCtx) : List (Nat × Nat) := (tableRecs c.m c.table).filter (fun p => decide (p.1 ≠ c.index))

/-- Contexts a LEG record names (R384). -/
def namedCtx (r : Nat) : List Nat :=
  if LEG.PROFILE r = 0 then [] else [LEG.TX_CTX r, LEG.RX_CTX r] ++ (if LEG.RX_OLD r = 0xFFFF then [] else [LEG.RX_OLD r])

/-- PTIME and A_BITRATE are allowed for A_CODEC (R195). -/
def codecOk (r : Nat) : Bool :=
  let c := LEG.A_CODEC r
  let p := LEG.PTIME r
  let b := LEG.A_BITRATE r
  if c = 0 then decide (p = 0) && decide (b = 0)
  else if c = 7 then (decide (p = 10) || decide (p = 20)) && decide (6000 ≤ b) && decide (b ≤ 128000)
  else decide (b = 0) && (if c = 6 then decide (p = 10) else decide (p = 10) || decide (p = 20) || decide (p = 30) || decide (p = 40))

/-- The classifier keys of a LEG record (R81): form, plane, local port, address, port, SSRC. -/
def classKeys (r : Nat) : List (List Nat) :=
  let key (a p : Nat) : List Nat :=
    [LEG.MATCH r, LEG.PLANE r, LEG.LOCAL_PORT r, if LEG.MATCH r = 2 then 0 else a, if LEG.MATCH r = 2 then 0 else p, if LEG.MATCH r = 1 then 0 else LEG.REMOTE_SSRC r]
  if LEG.TRANSPORT r = 1 then [] else key (LEG.ADDR0 r) (LEG.PORT0 r) :: (if LEG.PROT r = 1 then [key (LEG.ADDR1 r) (LEG.PORT1 r)] else [])

/-- A TDM slot direction is bound to another leg, or the port has no such slot (R88). -/
def State.slotTaken (s : State) (c : GateCtx) : Bool :=
  decide (LEG.TRANSPORT c.r = 1) && (decide (s.get (Fld.TDMn_CFG_SLOTS (LEG.TDM_PORT c.r)) + 1 ≤ LEG.TDM_SLOT c.r) ||
    c.others.any (fun p => decide (LEG.TRANSPORT p.2 = 1) && decide (LEG.TDM_PORT p.2 = LEG.TDM_PORT c.r) && decide (LEG.TDM_SLOT p.2 = LEG.TDM_SLOT c.r) &&
      ((decide (LEG.TDM_RX p.2 = 1) && decide (LEG.TDM_RX c.r = 1)) || (decide (LEG.TDM_TX p.2 = 1) && decide (LEG.TDM_TX c.r = 1)))))

/-- Records of a table with the command's own, and those whose DELETE has yet to take effect. -/
def State.after (s : State) (c : GateCtx) (t : Nat) : List (Nat × Nat) := tableRecs c.n t ++ s.leaving t

/-- A port runs its leg queues with STRICT_EN = 0 and has 256 of them already (R154). -/
def State.strictFull (s : State) (c : GateCtx) : Bool :=
  let n := ((((s.after c 1).filter (fun p => decide (LEG.TRANSPORT p.2 = 0) && decide (LEG.PLANE p.2 = LEG.PLANE c.r))).map (·.1)).eraseDups).length
  decide (256 < n) && (List.range 2).any (fun i => !s.on (Fld.SCHEDn_CFG_STRICT_EN (2 * LEG.PLANE c.r + i)))

/-- LEG (R88 with R54, R72, R81, R386, R516, R154 and R159; R90 for a DELETE). -/
def State.legErr (s : State) (c : GateCtx) : Option Err :=
  let r := c.r
  let rtp := decide (LEG.TRANSPORT r = 0)
  let create := decide (c.op = .create)
  if c.op = .delete then
    firstErr [
      ((tableRecs c.m 6).any (fun p => decide (VSTR.LEG p.2 = c.index)) || (tableRecs c.m 7).any (fun p => decide (OSTR.LEG p.2 = c.index)) ||
        (tableRecs c.m 3).any (fun p => decide (REC.KIND p.2 ≠ 3) && decide (REC.SRC p.2 = c.index)), .state),
      ((s.gate.pending ++ s.gate.txn).any (fun g => (decide (g.table = 4) || decide (g.table = 5)) && decide (g.index = c.index)), .state)]
  else
    firstErr [
      (decide (LEG.CONF r ≠ 0xFFFF) && (accRec c.m 2 (LEG.CONF r)).isNone, .state),
      (rtp && decide (LEG.PROT r = 1) && (decide (LEG.MATCH r = 2) || decide (LEG.ADDR1 r = 0)), .conflict),
      (rtp && decide (LEG.PROT r = 0) && (decide (LEG.ADDR1 r ≠ 0) || decide (LEG.PORT1 r ≠ 0)), .conflict),
      ((namedCtx r).any (fun k => s.ctxEmpty k), .nokey),
      (s.slotTaken c, .conflict),
      (rtp && decide (8192 < sumBy (fun p => if LEG.TRANSPORT p.2 = 0 ∧ LEG.A_CODEC p.2 = 7 then 3 else 0) (s.after c 1)) && decide (LEG.A_CODEC r = 7), .noslot),
      (rtp && !codecOk r, .range),
      (c.modify && (decide (LEG.PLANE r ≠ LEG.PLANE c.base) || decide (LEG.TRANSPORT r ≠ LEG.TRANSPORT c.base)), .conflict),
      (rtp && !s.on (Fld.PLANEn_VLANk_VALID (LEG.PLANE r) (LEG.VLAN r)), .conflict),
      (s.noRoom ⟨c.op, 1, c.index, r, 0⟩, .noslot),
      (create && s.on Fld.BELFRY_CTRL_STEP_EN, .state),
      (c.others.any (fun p => decide (LEG.PLANE p.2 ≠ LEG.PLANE r) && (namedCtx p.2).any (fun k => (namedCtx r).contains k)), .conflict),
      (c.others.any (fun p => (classKeys p.2).any (fun k => (classKeys r).contains k)), .conflict),
      (decide (LEG.PROFILE r ≠ 0) && (decide ((s.keyCtx (LEG.TX_CTX r)).dir = 0) || decide ((s.keyCtx (LEG.RX_CTX r)).dir = 1) ||
        (decide (LEG.RX_OLD r ≠ 0xFFFF) && decide ((s.keyCtx (LEG.RX_OLD r)).dir = 1))), .conflict),
      (c.modify && decide ((s.leg c.index).state = .halted) && !s.deleting 1 c.index, .state),
      (create && rtp && s.strictFull c, .noslot),
      (create && rtp && !(s.queue c.index).configured && decide (122880 < s.minSum + s.get Fld.PKTOUT_LEGQ_CELLS_MIN), .noslot)]

/-- The recall region of a CONF record. -/
def recallOverlap (a b : Nat) : Bool :=
  overlaps (CONF.RECALL_BASE a) (CONF.RECALL_SIZE a * 65536) (CONF.RECALL_BASE b) (CONF.RECALL_SIZE b * 65536)

/-- CONF (R93). -/
def State.confErr (s : State) (c : GateCtx) : Option Err :=
  let r := c.r
  let on := decide (CONF.RECALL_EN r = 1)
  if c.op = .delete then
    firstErr [((tableRecs c.m 1).any (fun p => decide (LEG.CONF p.2 = c.index)) ||
      (tableRecs c.m 3).any (fun p => decide (REC.KIND p.2 = 3) && decide (REC.SRC p.2 = c.index)), .state)]
  else
    firstErr [
      (on && c.others.any (fun p => decide (CONF.RECALL_EN p.2 = 1) && recallOverlap p.2 r), .conflict),
      (on && s.inMedia (CONF.RECALL_BASE r) (CONF.RECALL_SIZE r * 65536), .conflict),
      (c.modify && decide (CONF.RECALL_EN c.base = 1) &&
        (decide (CONF.RECALL_BASE r ≠ CONF.RECALL_BASE c.base) || decide (CONF.RECALL_SIZE r ≠ CONF.RECALL_SIZE c.base)), .conflict)]

/-- REC (R108). -/
def State.recErr (s : State) (c : GateCtx) : Option Err :=
  let r := c.r
  if c.op = .delete then none
  else
    firstErr [
      ((accRec c.m (if REC.KIND r = 3 then 2 else 1) (REC.SRC r)).isNone, .state),
      (decide (REC.ENC r = 1) && (match s.sec.slots.get (fun _ => none) (REC.KEY_SLOT r) with | some k => decide (k.user ≠ 2) | none => true), .nokey)]

/-- The leg a POLICER or SHAPER record belongs to. -/
def GateCtx.ownLeg (c : GateCtx) : Option Nat := accRec c.m 1 c.index

/-- The leg is a TDM leg. -/
def tdmLeg (o : Option Nat) : Bool := match o with | some r => decide (LEG.TRANSPORT r = 1) | none => false

/-- POLICER (R83, R90). -/
def State.policerErr (s : State) (c : GateCtx) : Option Err :=
  let del := decide (c.op = .delete)
  firstErr [(!del && c.ownLeg.isNone, .state), (!del && tdmLeg c.ownLeg, .conflict), (s.deleting 1 c.index, .state)]

/-- SHAPER (R146, R90). -/
def State.shaperErr (s : State) (c : GateCtx) : Option Err :=
  let del := decide (c.op = .delete)
  let keep := decide (SHAPER.TOKEN_INIT c.r = 0)
  firstErr [
    (decide (c.op = .create) && keep, .conflict),
    (c.modify && keep && (decide (SHAPER.RATE c.r ≠ SHAPER.RATE c.base) || decide (SHAPER.BURST c.r ≠ SHAPER.BURST c.base)), .conflict),
    (!del && c.ownLeg.isNone, .state), (!del && tdmLeg c.ownLeg, .conflict), (s.deleting 1 c.index, .state)]

/-- LEG of a VSTR or OSTR record is one over a link (R335), and its link takes part in a fabric. -/
def linkLeg (l : Nat) : Bool := decide (0x8000 ≤ l) && decide (l < 0x8008)
def State.linkLegBad (s : State) (l : Nat) : Bool :=
  let role := s.linkRole (l % 4)
  !(decide (role = 1) || decide (role = 2) || decide (role = 4))

/-- SSRCs a VSTR or an OSTR record uses; the second only with RTX. -/
def vstrSsrcs (r : Nat) : List Nat := VSTR.SSRC r :: (if VSTR.RTX_PT r = 0 then [] else [VSTR.RTX_SSRC r])
def ostrSsrcs (r : Nat) : List Nat := OSTR.SSRC r :: (if OSTR.RTX_PT r = 0 then [] else [OSTR.RTX_SSRC r])

/-- The sources OSTR i holds: those of its accepted record `r`, of its effective record, of its records that wait, and the one it forwards until a switch is done
(R128, R141). -/
def State.sourcesHeld (s : State) (i r : Nat) : List (Nat × Nat) :=
  let x := s.ostr i
  (OSTR.SRC_KIND r, OSTR.SRC r) :: ((match s.effRec 7 i with | some e => if s.deleting 7 i then [] else [(OSTR.SRC_KIND e, OSTR.SRC e)] | none => []) ++
    ((s.coming []).filter (fun g => decide (g.table = 7) && decide (g.index = i) && decide (g.op ≠ .delete))).map (fun g => (OSTR.SRC_KIND g.data, OSTR.SRC g.data)) ++
    (if x.effective && x.switchTo.isSome && !s.deleting 7 i then [(x.srcKind, x.src)] else []))

/-- Some OSTR of the accepted tables holds a source. -/
def State.namedSource (s : State) (m : Sparse Nat) (kind i : Nat) : Bool := (tableRecs m 7).any (fun p => (s.sourcesHeld p.1 p.2).contains (kind, i))

/-- VSTR (R128, R245, R335, R336). -/
def State.vstrErr (s : State) (c : GateCtx) : Option Err :=
  let r := c.r
  let dec := decide (VSTR.DECODE r = 1)
  let was := decide (VSTR.DECODE c.base = 1)
  let link := linkLeg (VSTR.LEG r)
  let leg := accRec c.m 1 (VSTR.LEG r)
  if c.op = .delete then firstErr [(s.namedSource c.m 0 c.index, .state)]
  else
    firstErr [
      (if link then s.linkLegBad (VSTR.LEG r) else leg.isNone, .state),
      (!link && tdmLeg leg, .conflict),
      (c.others.any (fun p => decide (VSTR.LEG p.2 = VSTR.LEG r) && (vstrSsrcs p.2).any (fun x => (vstrSsrcs r).contains x)), .conflict),
      (!dec && decide (VSTR.FORWARD r = 0), .range),
      (c.modify && (decide (VSTR.LEG r ≠ VSTR.LEG c.base) || decide (VSTR.CODEC r ≠ VSTR.CODEC c.base) || decide (VSTR.SSRC r ≠ VSTR.SSRC c.base)), .conflict),
      (c.modify && decide (VSTR.FORWARD r = 0) && s.namedSource c.m 0 c.index, .state),
      (dec && (decide (8294400 < DEC.MAX_W r * DEC.MAX_H r) || decide (248832000 < ceilDiv (vstrCost16 r) 16)), .range),
      (dec && decide (DEC.DUE r ≠ 0) && decide (DEC.DUE r < minDue r), .range),
      (dec && decide (16000000000 * 16 < decodeCosts (s.after c 6)), .noslot),
      (s.noRoom ⟨c.op, 6, c.index, r, 0⟩, .noslot),
      (c.modify && dec && was && (decide (DEC.MAX_W r ≠ DEC.MAX_W c.base) || decide (DEC.MAX_H r ≠ DEC.MAX_H c.base) || decide (DEC.MAX_FPS r ≠ DEC.MAX_FPS c.base) ||
        decide (DEC.DPB r ≠ DEC.DPB c.base) || decide (DEC.DEPTH10 r ≠ DEC.DEPTH10 c.base)), .conflict),
      (decide (0x8004 ≤ VSTR.LEG r) && !dec, .conflict)]

/-- The codec of a source. -/
def sourceCodec (m : Sparse Nat) (kind i : Nat) : Option Nat :=
  if kind = 1 then (accRec m 9 i).map ECOMP.CODEC else (accRec m 6 i).map VSTR.CODEC

/-- OSTR (R132, R73, R335, R336). -/
def State.ostrErr (s : State) (c : GateCtx) : Option Err :=
  let r := c.r
  let link := linkLeg (OSTR.LEG r)
  let leg := accRec c.m 1 (OSTR.LEG r)
  let kind := OSTR.SRC_KIND r
  let src := if kind = 1 then accRec c.m 9 (OSTR.SRC r) else accRec c.m 6 (OSTR.SRC r)
  let v := if kind = 0 then src else none
  let srcPlane := match v with | some x => if linkLeg (VSTR.LEG x) then (s.vstr (OSTR.SRC r)).plane else (accRec c.m 1 (VSTR.LEG x)).map LEG.PLANE | none => none
  let own := match leg with | some g => if link then none else some (LEG.LOCAL_SSRC g) | none => none
  if c.op = .delete then none
  else
    firstErr [
      (if link then s.linkLegBad (OSTR.LEG r) else leg.isNone, .state),
      (!link && tdmLeg leg, .conflict),
      (src.isNone, .state),
      ((match v with | some x => decide (VSTR.FORWARD x = 0) | none => false), .conflict),
      ((match own with | some x => (ostrSsrcs r).contains x | none => false) ||
        c.others.any (fun p => decide (OSTR.LEG p.2 = OSTR.LEG r) && (ostrSsrcs p.2).any (fun x => (ostrSsrcs r).contains x)), .conflict),
      (c.modify && (decide (OSTR.LEG r ≠ OSTR.LEG c.base) || decide (OSTR.SSRC r ≠ OSTR.SSRC c.base) || decide (OSTR.RTX_SSRC r ≠ OSTR.RTX_SSRC c.base)), .conflict),
      (c.modify && decide (sourceCodec c.m kind (OSTR.SRC r) ≠ sourceCodec c.m (OSTR.SRC_KIND c.base) (OSTR.SRC c.base)), .conflict),
      (s.noRoom ⟨c.op, 7, c.index, r, 0⟩, .noslot),
      ((match srcPlane, leg with
        | some a, some g => !link && decide (a ≠ LEG.PLANE g) && (s.on (Fld.PLANEn_CFG_ISOLATE a) || s.on (Fld.PLANEn_CFG_ISOLATE (LEG.PLANE g)))
        | _, _ => false), .conflict),
      (decide (0x8004 ≤ OSTR.LEG r) && (match v with | some x => decide (VSTR.DECODE x = 0) | none => true), .conflict)]

/-- Enabled video layers of a LAYOUT record, and enabled graphic layers. -/
def videoLayers (r : Nat) : List Nat := ((List.range 16).map (vlayer r)).filter (fun e => decide (VLAYER.SRC_KIND e ≠ 0))
def graphicLayers (r : Nat) : List Nat := ((List.range 8).map (glayer r)).filter (fun e => decide (GLAYER.ENABLE e = 1))

/-- A rectangle that is odd or not wholly inside the canvas (R261). -/
def rectBad (r x y w h : Nat) : Bool :=
  decide (x % 2 + y % 2 + w % 2 + h % 2 ≠ 0) || decide (LAYOUT.WIDTH r < x + w) || decide (LAYOUT.HEIGHT r < y + h)

/-- The first row of R261. -/
def canvasBad (r : Nat) : Bool :=
  let n := LAYOUT.RATE_N r
  let d := LAYOUT.RATE_D r
  decide (n < d) || !(decide (n ≤ 30 * d) || (decide (LAYOUT.WIDTH r ≤ 1920) && decide (LAYOUT.HEIGHT r ≤ 1080) && decide (n ≤ 60 * d))) ||
    (videoLayers r).any (fun e => rectBad r (VLAYER.X e) (VLAYER.Y e) (VLAYER.W e) (VLAYER.H e) ||
      decide (VLAYER.W e < 16 + 2 * VLAYER.BORDER e) || decide (VLAYER.H e < 16 + 2 * VLAYER.BORDER e)) ||
    (graphicLayers r).any (fun e => rectBad r (GLAYER.X e) (GLAYER.Y e) (GLAYER.W e) (GLAYER.H e) || decide (GLAYER.W e < 2) || decide (GLAYER.H e < 2) ||
      decide (GLAYER.STRIDE e * 64 < (if GLAYER.FORMAT e = 0 then 4 * GLAYER.W e else GLAYER.W e)))

/-- A number stands twice in a list. -/
def twice : List Nat → Bool
  | [] => false
  | x :: t => t.contains x || twice t

/-- The bytes a graphic surface takes, its palette before an indexed one (R270). -/
def surfaceBytes (e : Nat) : Nat := (if GLAYER.FORMAT e = 1 then 1024 else 0) + GLAYER.H e * GLAYER.STRIDE e * 64

/-- The LAY sources of a layout. -/
def laySources (m : Sparse Nat) (l : Nat) : List Nat :=
  match accRec m 8 l with
  | some r => ((videoLayers r).filter (fun e => decide (VLAYER.SRC_KIND e = 2))).map VLAYER.SRC
  | none => []

/-- Whether the layouts reached from `todo` include `target`. -/
def reaches (m : Sparse Nat) (target : Nat) : Nat → List Nat → List Nat → Bool
  | 0, _, _ => false
  | _, [], _ => false
  | fuel + 1, l :: todo, seen =>
    if l = target then true
    else if seen.contains l then reaches m target fuel todo seen
    else reaches m target fuel (todo ++ laySources m l) (l :: seen)

/-- The transaction in progress deletes, or creates, ECOMP L. -/
def State.txnHas (s : State) (op : GateOp) (t i : Nat) : Bool :=
  s.gate.txn.any (fun g => decide (g.op = op) && decide (g.table = t) && decide (g.index = i))

/-- A MODIFY changes the size, the rate or the depth of a layout. -/
def reshapes (a b : Nat) : Bool :=
  decide (LAYOUT.WIDTH a ≠ LAYOUT.WIDTH b) || decide (LAYOUT.HEIGHT a ≠ LAYOUT.HEIGHT b) || decide (LAYOUT.RATE_N a ≠ LAYOUT.RATE_N b) ||
    decide (LAYOUT.RATE_D a ≠ LAYOUT.RATE_D b) || decide (LAYOUT.ANCHOR a ≠ LAYOUT.ANCHOR b) || decide (LAYOUT.DEPTH10 a ≠ LAYOUT.DEPTH10 b)

/-- LAYOUT (R261). The conditions on ECOMP L look at what the open transaction holds so far (log entry 54). A LAY source equal to the layout itself is judged by the row
that names it (DEDUCED, log entry 165). -/
def State.layoutErr (s : State) (c : GateCtx) : Option Err :=
  let r := c.r
  let ecomp := (accRec c.m 9 c.index).isSome
  let vs := videoLayers r
  let gs := graphicLayers r
  let ofKind (k : Nat) : List Nat := (vs.filter (fun e => decide (VLAYER.SRC_KIND e = k))).map VLAYER.SRC
  if c.op = .delete then
    firstErr [(ecomp, .state), (c.others.any (fun p => (laySources c.m p.1).contains c.index), .state)]
  else
    firstErr [
      (canvasBad r, .range),
      (twice (vs.map VLAYER.Z ++ gs.map GLAYER.Z) ||
        gs.any (fun e => decide (GLAYER.BIND e < 16) && decide (VLAYER.SRC_KIND (vlayer r (GLAYER.BIND e)) = 0)) ||
        (decide (LAYOUT.DITHER r = 3) && decide (LAYOUT.DEPTH10 r = 0)), .conflict),
      ((ofKind 1).any (fun v => (accRec c.m 6 v).isNone), .state),
      ((ofKind 1).any (fun v => match accRec c.m 6 v with | some x => decide (VSTR.DECODE x = 0) | none => false), .conflict),
      ((ofKind 2).any (fun l => decide (l ≠ c.index) && (accRec c.m 8 l).isNone), .state),
      (reaches c.m c.index 2048 (ofKind 2) [], .conflict),
      (gs.any (fun e => decide (GLAYER.ADDR e % 64 ≠ 0)), .align),
      (gs.any (fun e => s.inMedia (GLAYER.ADDR e) (surfaceBytes e)), .conflict),
      (decide (16000000000 < layoutCosts (s.after c 8)) || s.noRoom ⟨c.op, 8, c.index, r, 0⟩, .noslot),
      (c.modify && reshapes r c.base && ecomp && !s.txnHas .delete 9 c.index, .conflict),
      (decide (c.op = .create) && s.on Fld.BELFRY_CTRL_STEP_EN, .state)]

/-- Row 1 of R280 beyond the fields' own ranges; the canvas rows only where the layout is known. -/
def ecompSizeBad (r : Nat) (lay : Option Nat) : Bool :=
  let w := ECOMP.TOP_W r
  let h := ECOMP.TOP_H r
  let b := layerSize r 0
  decide (1920 < w) || decide (1080 < h) || decide (w % 2 ^ ECOMP.SPATIAL r ≠ 0) || decide (h % 2 ^ ECOMP.SPATIAL r ≠ 0) || decide (b.1 < 128) || decide (b.2 < 96) ||
    (match lay with
    | some y => decide (LAYOUT.WIDTH y < w) || decide (LAYOUT.HEIGHT y < h) || decide (8 * b.1 < LAYOUT.WIDTH y) || decide (8 * b.2 < LAYOUT.HEIGHT y)
    | none => false)

/-- ECOMP (R280). -/
def State.ecompErr (s : State) (c : GateCtx) : Option Err :=
  let r := c.r
  let b := c.base
  let lay := accRec c.m 8 c.index
  let deep := decide (ECOMP.CODEC r ≠ 1) && decide (ECOMP.PROFILE r = 1)
  if c.op = .delete then firstErr [(s.namedSource c.m 1 c.index && !s.gate.txnOpen, .state)]
  else
    firstErr [
      (ecompSizeBad r lay, .range),
      ((decide (1 < ECOMP.SPATIAL r) && decide (ECOMP.CODEC r ≠ 3)) || (match lay with | some y => decide (deep ≠ decide (LAYOUT.DEPTH10 y = 1)) | none => false) ||
        (decide (ECOMP.CODEC r = 1) && decide (ECOMP.PROFILE r = 0) && decide (1 < ECOMP.TEMPORAL r)), .conflict),
      (lay.isNone, .state),
      (decide (8000000000 < s.ecompCosts c.n) || s.noRoom ⟨c.op, 9, c.index, r, 0⟩, .noslot),
      (c.modify && (decide (ECOMP.CODEC r ≠ ECOMP.CODEC b) || decide (ECOMP.SPATIAL r ≠ ECOMP.SPATIAL b) || decide (ECOMP.TEMPORAL r ≠ ECOMP.TEMPORAL b) ||
        decide (ECOMP.PROFILE r ≠ ECOMP.PROFILE b) || decide (ECOMP.TOP_W r ≠ ECOMP.TOP_W b) || decide (ECOMP.TOP_H r ≠ ECOMP.TOP_H b) ||
        decide (ECOMP.LIVE r ≠ ECOMP.LIVE b)), .conflict)]

/-- The owner's conditions for a record. -/
def State.ownerErr (s : State) (c : GateCtx) : Option Err :=
  if c.table = 1 then s.legErr c else if c.table = 2 then s.confErr c else if c.table = 3 then s.recErr c else if c.table = 4 then s.policerErr c
  else if c.table = 5 then s.shaperErr c else if c.table = 6 then s.vstrErr c else if c.table = 7 then s.ostrErr c else if c.table = 8 then s.layoutErr c
  else s.ecompErr c

/-! ### The whole check (R510) -/

/-- The class and the layout of the open transaction: its first record's (R47). -/
def State.txnClass (s : State) : Option (Nat × Nat) :=
  match s.gate.txn with
  | [] => none
  | g :: _ => some (tableClass g.table, if g.table < 8 then 0 else g.index)

/-- Step 7: a record of another class or layout than the transaction's. -/
def State.otherClass (s : State) (t i : Nat) : Bool :=
  match s.txnClass with
  | none => false
  | some k => decide (k ≠ (tableClass t, if t < 8 then 0 else i))

/-- A change of a record: steps 4 to 8. -/
def State.changeErr (s : State) (op : GateOp) (t i r : Nat) : Option Err :=
  let c := s.gateCtx op t i r
  let used := (accRec c.m t i).isSome
  let index := if op = .create then used else !used
  let record := if op = .delete then none else recordErr t r
  if index then some .state
  else
    match record with
    | some e => some e
    | none =>
      match s.ownerErr c with
      | some e => some e
      | none =>
        firstErr [
          (s.gate.txnOpen && s.otherClass t i, .conflict),
          (s.gate.txnOpen && decide (256 ≤ s.gate.txn.length), .noslot),
          (decide (4096 ≤ s.gate.pending.length + s.gate.txn.length), .noslot)]

/-- What R280 asks of a whole transaction: an ECOMP that an OSTR names is deleted only together with its re-creation, which can follow the DELETE alone (log entry
54). -/
def State.commitErr (s : State) : Option Err :=
  let after := s.accepted
  firstErr [(s.gate.txn.any (fun g => decide (g.table = 9) && decide (g.op = .delete) && (accRec after 9 g.index).isNone && s.namedSource after 1 g.index), .state)]

/-- The operation of a code of R46 that changes a table. -/
def gateOpOf (op : Nat) : Option GateOp := if op = 1 then some .create else if op = 2 then some .modify else if op = 3 then some .delete else none

/-- The state of the device that refuses a command: none is taken while the pair forms (R341), by a junior but READ (R48), or outside ACTIVE (R439). -/
def State.gateClosed (s : State) (op : Nat) : Option Err :=
  if s.get Fld.TWIN_STATUS_STATE = 1 then some .state
  else if s.twinJunior ∧ op ≠ 4 then some .twin
  else if s.get Fld.PWR_STATE_STATE ≠ 0 then some .state
  else none

/-- The first check a command fails. -/
def State.gateErr (s : State) (c : GateCmd) : Option Err :=
  match s.gateClosed c.op with
  | some e => some e
  | none =>
    if c.op = 0 ∨ 8 ≤ c.op then some .reserved
    else if c.op = 5 then (if s.gate.txnOpen then some .state else none)
    else if c.op = 6 then (if s.gate.txnOpen then s.commitErr else some .state)
    else if c.op = 7 then (if s.gate.txnOpen then none else some .state)
    else if tableSize c.table = 0 then some .reserved
    else if tableSize c.table ≤ c.index then some .range
    else
      match gateOpOf c.op with
      | none => if (s.effRec c.table c.index).isSome then none else some .state
      | some op => s.changeErr op c.table c.index (normalise c.table c.data)

end Sys2Proof.Machine
end

