-- ==== Sys2Proof/Machine/Service.lean ====
section
/-! DEFINITION. Self-test, Crier, faults, live repair, firmware update and the dump (spec/23_reliability_and_service.md, R450 to R466). -/

namespace Sys2Proof.Machine

def faultPage : Nat := 0x5000

def State.modSvc (s : State) (f : Svc → Svc) : State := { s with svc := f s.svc }
def State.modCrier (s : State) (f : Crier → Crier) : State := { s with crier := f s.crier }

/-- The highest junction sensor reads `temp` in 0.1 °C; GPIO0 and I2C_ALERT_N follow it (R494, R497). -/
def State.senseHottest (s : State) (temp : Int) : State := { s with pins := { s.pins with tempMax := temp, hot := decide (1000 < temp) } }

/-! ### Known-answer tests (R452, R453) -/

/-- An engine's test may run: no READY task may use it and it is idle; the SRTP engine's runs in idle cycles, the cipher unit's while the lock is free. -/
def State.testable (s : State) (e : Nat) : Bool :=
  if e = srtpUnit then true
  else if e = cipherUnit then decide (s.lockOwner = 7)
  else s.engineIdle e && !s.tasks.any (fun p => decide (p.2.state = .ready) && p.2.mayRun e)

/-- A test fails: an engine faults; the SRTP engine or the cipher unit trips FAULT_INJ, source 4. -/
def State.testFail (s : State) (e chunk : Nat) : State :=
  if e = srtpUnit ∨ e = cipherUnit then (s.bumpSat Fld.FAULT_TEST_FAIL).alarm 4 else s.katFail e chunk

/-- KAT_CHUNK: an engine runs chunk `chunk` of its test; `done` when that completes a set, `pass` when the CRC agreed. -/
def execKatChunk (e chunk : Nat) (done pass : Bool) (s : State) : Out :=
  if testedEngines.contains e && s.testable e then
    if pass then
      if done then .next ((s.bump Fld.FAULT_TEST_RUNS).setEng e { s.eng e with katAt := s.now, overdue := false }).showOverdue
      else .next s
    else .next (s.testFail e chunk)
  else .next s

/-- TEST_OVERDUE: an engine has not completed its test set for 10 s. -/
def execTestOverdue (e : Nat) (s : State) : Out :=
  let x := s.eng e
  if testedEngines.contains e && !x.overdue then
    let s := s.runTo (x.katAt + 10000000000)
    .next ((s.setEng e { x with overdue := true }).showOverdue.post s.faultEvq 0x13 0x06 e 0)
  else .next s

/-! ### On-chip SRAM (R451) -/

/-- A list without its element at a place. -/
def dropAt {α : Type} (l : List α) (i : Nat) : List α := l.take i ++ l.drop (i + 1)

/-- An item of a Granary queue is dropped and counted in the queue's LOST. -/
def State.dropItem (s : State) (q place : Nat) : State :=
  if 0x4100 ≤ q ∧ q < 0x4140 then
    let n := q - 0x4100
    let e := s.evq.get (fun _ => {}) n
    if e.entries.length ≤ place then s
    else
      let e' := { e with entries := dropAt e.entries place, lostFlag := true }
      ({ s with evq := s.evq.set (fun _ => {}) n e', freeCells := s.freeCells + e.cells - e'.cells }.bump (Fld.EVQn_LOST_COUNT n)).contained
  else
    let g := s.queue q
    if g.items.length ≤ place then s
    else
      let g' := { g with items := dropAt g.items place, lost := (g.lost + 1) % 2 ^ 24 }
      ({ s.setQueue q g' with freeCells := s.freeCells + g.cells - g'.cells }.pruneQueue q).contained

/-- SRAM_SCRUB: Epanis scrubs an on-chip SRAM: single-bit errors are rewritten corrected and counted; an uncorrectable one is handled by what it is in. A word of
cluster SRAM becomes poisoned data for the Mill core that reads it (R371), an error of class CONTAINED. -/
def execSramScrub (corrected : Nat) (ue : Option SramUe) (s : State) : Out :=
  let s := if corrected = 0 then s else s.corrected corrected
  match ue with
  | none => .next s
  | some (.engine e) => .next (if allEngines.contains e then s.engineFaulted e 1 else s)
  | some (.cluster _) => .next s.contained
  | some (.cell q place) => .next (s.dropItem q place)
  | some (.pointers q) => .next (s.pointersBad q)
  | some .freeList => .next (s.deviceFatal granaryPage 2 0)
  | some .table => .next (s.deviceFatal 0x40000 6 0)

/-! ### Crier (R454 to R456) -/

/-- VERSION of the running image. -/
def State.fwVersion (s : State) : Nat := match s.boot.image with | some f => f.version | none => 0

/-- The counters a record gives as Δ, as (place, bytes, present value, whether it wraps at 2³²). -/
def State.crierCounters (s : State) : List (Nat × Nat × Nat × Bool) :=
  (List.range 8).map (fun n => (68 + 4 * n, 4, s.get (Fld.DDRCn_CE_COUNT n), true)) ++
  (List.range 8).map (fun n => (100 + n, 1, s.get (Fld.DDRCn_UE_UE n), false)) ++
  [(120, 2, s.get Fld.REEVE_OUTCOMES_FAILED, true), (122, 2, s.get Fld.REEVE_OUTCOMES_CANCELLED, true), (124, 2, s.crier.faults, false),
   (144, 4, s.get Fld.FAULT_CORRECTED_COUNT, true), (148, 4, s.get Fld.FAULT_CONTAINED_COUNT, true), (152, 2, s.get Fld.FAULT_BLOCK_COUNT, false)]

/-- A Δ of R455: the advance since the previous instant, saturating at its width; a counter cleared meanwhile counts from 0. -/
def crierDelta (bytes cur prev : Nat) (wraps : Bool) (width : Nat) : Nat :=
  let d := if prev ≤ cur then cur - prev else if wraps then cur + 2 ^ width - prev else cur
  Nat.min (2 ^ (8 * bytes) - 1) d

/-- Put a little-endian number at a place of a record given as a number. -/
def putAt (r byte v : Nat) : Nat := r + v * 2 ^ (8 * byte)

/-- SERVICE of `count` pages from `base`, two bits each. -/
def State.services (s : State) (base count : Nat) : Nat :=
  sumBy (fun n => s.get (Fld.PG_STATUS_SERVICE (base + n * 0x1000)) * 4 ^ n) (List.range count)

/-- Bytes 0 to 247 of the record of the present instant, as a number (R455). -/
def State.crierBody (s : State) (temps : List Int) : Nat :=
  let overdue := s.reeve.engines.any (fun p => p.2.overdue)
  let tasks := s.tasks.map (·.2)
  let temp (i : Nat) := unsigned 16 ((temps[i]?).getD 0)
  let fields : List (Nat × Nat) :=
    [(0, s.crier.seq % 2 ^ 32), (4, s.now % 1000000000), (8, s.now / 1000000000), (14, s.get Fld.BINATH0_FABRIC_POS),
     (15, s.get Fld.GLOBAL_STRAPS_TWIN_SENIOR + b2n overdue * 4),
     (16, s.get Fld.PWR_STATE_STATE + s.get Fld.TWIN_STATUS_STATE * 16),
     (17, s.get Fld.BELFRY_STATUS_SERVO_STATE + s.get Fld.BELFRY_STATUS_OSC_INT * 4 + s.get Fld.BINATH0_TOPO_ROOTED * 8 + s.get Fld.BINATH0_TOPO_LOCAL_ROOT * 16),
     (18, sumBy (fun p => b2n (s.linkUp p) * 2 ^ p) (List.range 4) + b2n (s.planeUp 0) * 16 + b2n (s.planeUp 1) * 32),
     (19, s.get Fld.TWIN_STATUS_PATHS),
     (20, sumBy (fun n => s.linkState n * 8 ^ n) (List.range 4)),
     (32, s.services 0x70000 16), (36, s.services 0x80000 8), (38, s.services 0x88000 4),
     (64, s.get Fld.PWR_EST_POWER),
     (108, sumBy (fun n => b2n (s.on (Fld.DDRCn_MARK_VALID0 n) || s.on (Fld.DDRCn_MARK_VALID1 n) || s.on (Fld.DDRCn_MARK_VALID2 n) || s.on (Fld.DDRCn_MARK_VALID3 n)) * 2 ^ n)
       (List.range 8)),
     (112, tasks.length), (114, s.get Fld.REEVE_LEASES_HELD % 65536), (116, (tasks.filter (fun t => decide (t.state = .ready))).length),
     (118, (tasks.filter (fun t => decide (t.state = .running))).length),
     (128, s.sharedCells), (132, s.gate.pending.length + s.gate.txn.length), (136, (s.rd Reg.ALARM_STATUS).toNat), (140, s.get Fld.FAULT_LIFE_HOURS),
     (156, s.fwVersion)] ++
    (List.range 8).map (fun c => (24 + c, s.get (Fld.PWR_CLc_STATUS_STATE c) + s.get (Fld.PWR_CLc_STATUS_OP c) * 8 +
      s.get (Fld.PG_STATUS_SERVICE (millPage c)) * 64)) ++
    (List.range 12).map (fun i => (40 + 2 * i, temp i)) ++
    s.crierCounters.map (fun x => (x.1, crierDelta x.2.1 x.2.2.1 (s.crier.prev.get (fun _ => 0) x.1) x.2.2.2 (if x.2.1 = 2 then 16 else 32)))
  fields.foldl (fun r f => putAt r f.1 f.2) 0

/-- A record with its CRC: 256 bytes. -/
def crierClose (body : List Byte) : List Byte :=
  let l := body.take 248
  l ++ natBytes 8 (crc64 l).toNat

/-- The next instant of Crier: a multiple of 100 ms after the newest record's. -/
def State.crierDue (s : State) : Nat :=
  let n := ceilDiv s.now 100000000
  (if s.crier.at_ = some (n * 100000000) then n + 1 else n) * 100000000

/-- CRIER_RECORD: at the next instant Crier composes a record, with the sensors' readings (clusters 0 to 7, SOC, NET, CMPX and the highest, in 0.1 °C); it writes it
to the host ring, keeps it, and sends it up. -/
def execCrierRecord (temps : List Int) (s : State) : Out :=
  if s.on Fld.CRIER_CFG_ENABLE = false then .next s
  else
    let s := s.runTo s.crierDue
    let s := { s with pins := { s.pins with temps := temps.take 11 } }.senseHottest ((temps[11]?).getD s.pins.tempMax)
    let rec_ := crierClose (natBytes 248 (s.crierBody temps))
    let n := s.crier.seq
    let prev := s.crierCounters.foldl (fun (m : Sparse Nat) x => m.set (fun _ => 0) x.1 x.2.2.1) []
    let s := (s.modCrier (fun c => { c with kept := lastN 1024 (c.kept ++ [rec_]), seq := n + 1, at_ := some s.now, prev := prev })).put Fld.CRIER_SEQ_SEQ (n % 2 ^ 32)
    let s := if s.on Fld.HOSTIF_LINK_UP then s.hostPut (s.rd64 Reg.CRIER_RING_LO + (n % 2 ^ s.get Fld.CRIER_CFG_SIZE) * 256) rec_
      else s.bumpSat Fld.CRIER_LOST_HOST
    .next (if s.inFabric && s.on Fld.CRIER_CFG_UP then
        match s.uplinkUp with
        | some u => s.sendMsg u 0 1 6 256 (.crier (bytesNat rec_))
        | none => s
      else s)

/-- CRIER_RELAY: at t + 50 ms a master with RELAY writes the records of instant t it has received, by POS, then STRAP, with RELAYED set. -/
def execCrierRelay (s : State) : Out :=
  if s.fabricMaster = false ∨ s.inFabric = false ∨ s.on Fld.CRIER_CFG_RELAY = false then .next s
  else
    let n := ceilDiv (s.now + 50000000) 100000000
    let n := if s.crier.relayed = some ((n - 1) * 100000000) then n + 1 else n
    let s := s.runTo (n * 100000000 - 50000000)
    let t := (n - 1) * 100000000
    let l := sortBy (fun (x : Nat × Nat × Nat × List Byte) => x.1 * 2 + x.2.1) (s.crier.relay.filter (fun x => decide (x.2.2.1 = t)))
    let s := s.modCrier (fun c => { c with relay := c.relay.filter (fun x => decide (t < x.2.2.1)), relayed := some t })
    .next (forEach l (fun x (s : State) =>
      let r := bytesNat x.2.2.2
      let r := setRecField r 15 1 1 1
      let b := crierClose (natBytes 248 r)
      if s.on Fld.HOSTIF_LINK_UP then
        let k := s.crier.relayNext
        (s.hostPut (s.rd64 Reg.CRIER_FRING_LO + (k % 2 ^ s.get Fld.CRIER_CFG_FSIZE) * 256) b).modCrier (fun c => { c with relayNext := k + 1 })
      else s) s)

/-- A write of CRIER_CFG. -/
def State.crierCfgWrite (s : State) (w : Word) : State :=
  s.checked Reg.CRIER_CFG w
    (fun s => if s.on Fld.CRIER_CFG_ENABLE && (decide (bits w 8 4 ≠ s.get Fld.CRIER_CFG_SIZE) || decide (bits w 12 4 ≠ s.get Fld.CRIER_CFG_FSIZE)) then some .state else none)
    (fun s => s.applyWrite Reg.CRIER_CFG w)

/-- A write of DUMP_CFG. -/
def State.dumpCfgWrite (s : State) (w : Word) : State :=
  s.checked Reg.DUMP_CFG w (fun s => if bit w 0 && decide (s.get Fld.DUMP_SIZE_PAGES < 194) then some .state else none)
    (fun s => s.applyWrite Reg.DUMP_CFG w)

/-! ### Live repair (R457, R458) -/

/-- The pages of a target: a cluster's, an engine's, a compositor's or a link's. -/
def svcPages (typ i : Nat) : List Nat :=
  if typ = 0 then domPages (4 + i)
  else if typ = 1 then [0x70000 + i * 0x1000]
  else if typ = 2 then [0x80000 + i * 0x1000]
  else if typ = 3 then [0x88000 + i * 0x1000]
  else [linkPage i]

/-- The page whose SERVICE speaks for a target. -/
def svcPage (typ i : Nat) : Nat := if typ = 0 then millPage i else (svcPages typ i).headD faultPage

/-- How many targets of a type there are. -/
def svcCount (typ : Nat) : Nat := if typ = 0 then 8 else if typ = 1 then 16 else if typ = 2 then 8 else 4

/-- The engines of a target. -/
def svcEngines (typ i : Nat) : List Nat := ((svcPages typ i).map pageEngines).flatten

/-- Post FAULT_SVC_RESULT and SERVICE_DONE for command w. -/
def State.svcResult (s : State) (w : Word) (status : Nat) : State :=
  let s := s.postResult Reg.FAULT_SVC_RESULT (bits w 8 3 * 65536 + bits w 4 4 * 4096 + bits w 0 2 * 256 + status)
  s.post s.faultEvq 0x13 0x02 (bits w 8 3 * 256 + bits w 4 4) status

/-- The tick at which Mill work moves: the second boundary after the present one. -/
def State.moveTick (s : State) : Nat := s.ltick + 3

/-- Kernel x.1 of cluster c is copied to a free slot of cluster x.2 with room for its code, unless it is there already: whether it could be, and the move (R215, R458). -/
def State.moveKernel (s : State) (c : Nat) (m : MillMove) (x : Nat × Nat) : Bool × MillMove × State :=
  if m.slots.any (fun y => decide (y.1 = x.1) && decide (y.2.1 = x.2)) then (true, m, s)
  else match (List.range 8).find? (fun k => decide ((s.kernel x.2 k).id = 0)) with
    | none => (false, m, s)
    | some k =>
      if 32768 < s.kernelBytes x.2 + (s.kernel c x.1).codeLen then (false, m, s)
      else (true, { m with slots := m.slots ++ [(x.1, x.2, k)] }, s.copyKernel c x.1 x.2 k)

/-- Budget cycles of the CUSTOM nodes that run on cluster c from tick t under the moves of s (R216). -/
def State.clusterBudget (s : State) (c t : Nat) : Nat :=
  sumBy (fun g => match g.kind with
    | .custom cl sl n _ _ => if (s.movedSlot g.num cl sl t).1 = c then n else 0
    | .source _ | .sink _ | .gain _ | .mix _ | .mixMinus | .eq _ | .gate _ | .limiter _ | .delay _ | .bridge | .meter _ _ _ => 0) s.audio.active.nodes

/-- Mill work moves off cluster c to the given clusters: each CUSTOM node's kernel is copied to a free slot of the cluster it goes to. The answer says whether it fits:
there is a cluster, a slot and room for each kernel's code, and the 16 cores of each cluster have 250,000 budget cycles each for their kernels (R458). -/
def State.moveOff (s : State) (c : Nat) (targets : List Nat) : Bool × State :=
  let (n, s) := s.fresh
  let t := s.moveTick
  let goes (g : GNode) : Option (Nat × Nat) := match g.kind with
    | .custom cl sl _ _ _ =>
      let p := s.movedSlot g.num cl sl t
      if p.1 = c then some (p.2, (targets[Config.moveTarget n 2 g.num % targets.length]?).getD c) else none
    | .source _ | .sink _ | .gain _ | .mix _ | .mixMinus | .eq _ | .gate _ | .limiter _ | .delay _ | .bridge | .meter _ _ _ => none
  let (ok, m, s) := (s.audio.active.nodes.filterMap goes).foldl (fun (p : Bool × MillMove × State) x =>
    let r := p.2.2.moveKernel c p.2.1 x
    (p.1 && r.1, r.2)) (true, ⟨c, n, targets, [], t, none⟩, s)
  let s := s.modSvc (fun v => { v with moves := v.moves ++ [m] })
  (ok && decide (targets ≠ []) && targets.all (fun k => decide (s.clusterBudget k t ≤ 16 * 250000)), s)

/-- Mill work moved off cluster c moves back. -/
def State.moveBack (s : State) (c : Nat) : State :=
  let t := s.moveTick
  s.modSvc (fun v => { v with moves := v.moves.map (fun m => if m.from_ = c ∧ m.stop = none then { m with stop := some t } else m) })

/-- Why a service command is rejected (R457). `fits`: Mill work of a cluster fits elsewhere. -/
def State.svcErr (s : State) (w : Word) (fits : Bool) : Option Err :=
  let typ := bits w 8 3
  let i := bits w 4 4
  let op := bits w 0 2
  let inService := decide (s.get (Fld.PG_STATUS_SERVICE (svcPage typ i)) = 0)
  if svcCount typ ≤ i then some .range
  else if s.devState ≠ 0 then some .state
  else if op = 2 then (if inService then some .state else none)
  else if !inService then some .state
  else if typ = 0 ∧ fits = false then some .noslot
  else none

/-- The pages of a target are reset through PG_CTRL.RESET (R457). -/
def State.svcReset (s : State) (typ i : Nat) : State :=
  forEach (svcPages typ i) (fun p (s : State) => (s.pageReset p).put (Fld.PG_CTRL_RESET p) 0) s

/-- A write of FAULT_SVC_CMD, with the clusters that take a cluster's Mill work (none: it fits nowhere). OUT and HOLD quiesce the target; IN wakes a cluster that is
off, and resets any other target. Rejections stand in the result and in PG_LAST_ERR, E_BUSY in the latter only. -/
def State.svcCmdWrite (s : State) (w : Word) (targets : List Nat) : State :=
  s.checked Reg.FAULT_SVC_CMD w
    (fun s => if s.on Fld.FAULT_SVC_RESULT_VALID then none else some .busy)
    (fun s =>
      let typ := bits w 8 3
      let i := bits w 4 4
      let l := targets.filter (fun c => decide (c < 8) && decide (c ≠ i) && decide (s.get (Fld.PG_STATUS_SERVICE (millPage c)) = 0))
      let moved := if typ = 0 ∧ bits w 0 2 ≠ 2 then s.moveOff i l else (true, s)
      match s.svcErr w moved.1 with
      | some e => (s.reject Reg.FAULT_SVC_CMD e).svcResult w e.code
      | none =>
        let s := moved.2.unvalid Reg.FAULT_SVC_RESULT
        let off := decide (typ = 0) && decide (s.get (Fld.PWR_DOMd_STATUS_STATE (4 + i)) = 2)
        let s := s.modSvc (fun v => { v with cmd := some (w.toNat, off) })
        if bits w 0 2 = 2 then
          if off then (s.setDom (4 + i) { s.dom (4 + i) with byCommand := true }).domWake (4 + i)
          else if typ = 4 then (if s.on (Fld.PG_CTRL_ENABLE (linkPage i)) then (s.linkEnable i false).linkEnable i true else s)
          else s.svcReset typ i
        else
          let ps := (svcPages typ i).filter (fun p => decide (typ ≠ 0) || decide (p ≠ millPage i))
          forEach ps (fun p (s : State) => (s.put (Fld.PG_CTRL_QUIESCE p) 1).quiesce p) s)

/-- The word of a service command. -/
def svcWord (typ i op : Nat) : Word := BitVec.ofNat 32 (typ % 8 * 256 + i % 16 * 16 + op)

/-- SERVICE_OUT. -/
def execServiceOut (typ index : Nat) (targets : List Nat) (s : State) : Out := .next (s.svcCmdWrite (svcWord typ index 1) targets)
/-- SERVICE_IN. -/
def execServiceIn (typ index : Nat) (s : State) : Out := .next (s.svcCmdWrite (svcWord typ index 2) [])
/-- SERVICE_HOLD. -/
def execServiceHold (typ index : Nat) (targets : List Nat) (s : State) : Out := .next (s.svcCmdWrite (svcWord typ index 3) targets)

/-- The target has finished its work: no page is busy, and a cluster's keys have moved and left no task behind. -/
def State.svcQuiet (s : State) (typ i : Nat) : Bool :=
  (svcPages typ i).all (fun p => !s.pageBusy p) &&
  (decide (typ ≠ 0) || ((s.svc.moves.filter (fun m => decide (m.from_ = i) && decide (m.stop = none))).all (fun m => decide (m.start ≤ s.ltick)) &&
    !s.tasks.any (fun t => decide (6144 + 256 * i ≤ t.2.flow) && decide (t.2.flow < 6400 + 256 * i))))

/-- OUT or HOLD ends: the target's pages are QUIESCED and OUT_OF_SERVICE; OUT powers a cluster off and resets any other target. -/
def State.svcOutDone (s : State) (typ i : Nat) (hold : Bool) : State :=
  let s := forEach (svcPages typ i) (fun p (s : State) =>
    ((s.put (Fld.PG_CTRL_QUIESCE p) 1).put (Fld.PG_STATUS_QUIESCED p) 1).put (Fld.PG_STATUS_SERVICE p) 1) s
  if hold then s
  else if typ = 0 then s.domOff (4 + i) true
  else s.svcReset typ i

/-- IN succeeds: fault times and QUIESCE are cleared, SERVICE reads IN_SERVICE, fences of its engines are lifted, and Mill work moves back. -/
def State.svcInDone (s : State) (typ i : Nat) : State :=
  let s := forEach (svcEngines typ i) (fun e (s : State) =>
    (s.setEng e { s.eng e with faults := [], retired := false, resetting := false, katAt := s.now, overdue := false }).weirLift (engineIdent e).1 (some (engineIdent e).2)) s
  let s := forEach (svcPages typ i) (fun p (s : State) =>
    ((s.showHours p).put (Fld.PG_CTRL_QUIESCE p) 0).put (Fld.PG_STATUS_QUIESCED p) 0) s
  let s := forEach (svcPages typ i) (fun p (s : State) => s.put (Fld.PG_STATUS_SERVICE p) 0) s
  let s := s.showOverdue
  if typ = 0 then (s.reloadCores i).moveBack i else s

/-- A service command is over: its result is posted. -/
def State.svcEnd (s : State) (w : Word) (e : Nat) : State := (s.modSvc (fun v => { v with cmd := none })).svcResult w e

/-- SERVICE_DONE: the operation in progress completes; `failed` is the engine and chunk of a known-answer test that failed in IN. A link must be UP. -/
def execServiceDone (failed : Option (Nat × Nat)) (s : State) : Out :=
  match s.svc.cmd with
  | none => .next s
  | some (n, wasOff) =>
    let w := BitVec.ofNat 32 n
    let typ := bits w 8 3
    let i := bits w 4 4
    if bits w 0 2 = 2 then
      if typ = 0 ∧ s.domBusy (4 + i) = true then .next s
      else if typ = 0 ∧ s.get (Fld.PWR_DOMd_STATUS_STATE (4 + i)) = 3 then .next (s.svcEnd w Err.state.code)
      else match failed with
        | some (e, chunk) =>
          if (svcEngines typ i).contains e then
            let s := s.katFail e chunk
            .next ((if wasOff then s.domOff (4 + i) true else s).svcEnd w Err.state.code)
          else .next s
        | none => if typ = 4 ∧ s.linkState i ≠ 3 then .next (s.svcEnd w Err.state.code) else .next ((s.svcInDone typ i).svcEnd w 0)
    else if s.svcQuiet typ i = false then .next s
    else .next ((s.svcOutDone typ i (decide (bits w 0 2 = 3))).svcEnd w 0)

/-- MILL_CONTEXT_COPY_DONE: the context of the keys of a flow has been copied, after the last task of the tick before the move on the old flow was released. -/
def execMillContextCopyDone (flow : Nat) (s : State) : Out :=
  match s.svc.copying.find? (fun x => decide (x.1 = flow)) with
  | none => .next s
  | some x =>
    if s.tasks.any (fun t => decide (t.2.flow = x.2.1) && decide (t.2.tick < x.2.2)) then .next s
    else .next (s.modSvc (fun v => { v with copying := v.copying.filter (fun y => decide (y.1 ≠ flow)) }))

/-! ### Firmware update in service (R459, R460) -/

/-- The image of R401 at an address of device DRAM. -/
def State.readImage (s : State) (a : Nat) : FwImage :=
  let h := s.dram.readList a 512
  let f (i n : Nat) := bytesNat ((h.drop i).take n)
  let len := f 12 4
  let body := if len ≤ 2 ^ 25 then s.dram.readList (a + 512) len else []
  { magicOk := decide (f 0 4 = 0x4E415045), version := f 4 4, svn := f 8 4, bodyLen := len, root := f 16 1 % 4, bodyHash := f 128 48,
    signed := Config.imageSigned (h ++ body), hashOk := decide (bytesNat ((natBytes 48 (Config.sha384 body).toNat).reverse) = f 128 48) }

/-- The status staging an image at address a ends with (R459). -/
def State.stageStatus (s : State) (a : Nat) (f : FwImage) : Nat :=
  if !f.magicOk then Err.reserved.code
  else if f.bodyLen % 4096 ≠ 0 ∨ 2 ^ 25 < f.bodyLen ∨ 63 < f.svn ∨ f.svn < s.get Fld.ALARM_BOOT_COUNTER then Err.range.code
  else if !(f.signed && f.hashOk && !bit s.flash.revoked f.root) then Err.conflict.code
  else if s.inMedia a (512 + f.bodyLen) then Err.conflict.code
  else 0

/-- The image of the slot that is not running is replaced. -/
def State.setOther (s : State) (f : Option FwImage) : State :=
  let s := if s.on Fld.ALARM_BOOT_RUNNING_B then { s with flash := { s.flash with imageA := f } } else { s with flash := { s.flash with imageB := f } }
  s.putB Fld.ALARM_BOOT_OTHER_VALID f.isSome

/-- Post FAULT_FW_RESULT. -/
def State.fwResult (s : State) (op status : Nat) : State := s.postResult Reg.FAULT_FW_RESULT (op * 256 + status)

/-- Why ACTIVATE is rejected. -/
def State.activateErr (s : State) : Option Err :=
  if s.twinJunior then some .twin
  else if (match s.otherImage with | some f => s.imageValid f | none => false) then none
  else some .state

/-- A write of FAULT_FW_CMD: STAGE begins to check and write the image at FAULT_FW_ADDR; ACTIVATE schedules the other slot's image for the first tick boundary at
least 100 ms after. E_BUSY stands in PG_LAST_ERR only. -/
def State.fwCmdWrite (s : State) (w : Word) : State :=
  s.checked Reg.FAULT_FW_CMD w
    (fun s => if s.on Fld.FAULT_FW_RESULT_VALID then none else some .busy)
    (fun s =>
      if bits w 0 2 = 1 then
        let a := s.rd64 Reg.FAULT_FW_ADDR_LO
        let f := s.readImage a
        let st := s.stageStatus a f
        let s := (s.unvalid Reg.FAULT_FW_RESULT).wr64 Reg.FAULT_FW_EFFECT_LO 0
        let s := if st = 0 then s.setOther none else s
        s.modSvc (fun v => { v with fwStage := some (f, st) })
      else match s.activateErr with
        | some e => ((s.reject Reg.FAULT_FW_CMD e).wr64 Reg.FAULT_FW_EFFECT_LO 0).fwResult 2 e.code
        | none =>
          match s.otherImage with
          | none => s
          | some f =>
            let t := ceilDiv (s.lnow + 100000000) 1000000
            let s := (s.unvalid Reg.FAULT_FW_RESULT).wr64 Reg.FAULT_FW_EFFECT_LO t
            (s.modSvc (fun v => { v with fwActive := some (t, f) })).record (.write Reg.FAULT_FW_CMD 2 t))

/-- FW_STAGE. -/
def execFwStage (s : State) : Out := .next (s.fwCmdWrite 1)
/-- FW_ACTIVATE. -/
def execFwActivate (s : State) : Out := .next (s.fwCmdWrite 2)

/-- FW_STAGED: a staging completes. -/
def execFwStaged (s : State) : Out :=
  match s.svc.fwStage with
  | none => .next s
  | some (f, st) =>
    let s := s.modSvc (fun v => { v with fwStage := none })
    if st = 0 then
      .next (((s.setOther (some f)).fwResult 1 0).post s.faultEvq 0x13 0x03 f.version f.svn)
    else .next ((s.postErr faultPage (Reg.FAULT_FW_CMD % 4096) st).fwResult 1 st)

/-- Boundary T of an activation: Epanis passes to the new image if it is ready; else the old image runs on. -/
def State.fwBoundary (s : State) (t : Nat) (ready : Bool) : State :=
  match s.svc.fwActive with
  | none => s
  | some (T, f) =>
    if t < T then s
    else
      let s := s.modSvc (fun v => { v with fwActive := none })
      if ready then
        let b := !s.on Fld.ALARM_BOOT_RUNNING_B
        let old := match s.runningImage with | some x => s.imageValid x | none => false
        let s := ((s.putB Fld.ALARM_BOOT_RUNNING_B b).put Fld.ALARM_BOOT_SVN f.svn).putB Fld.ALARM_BOOT_PREFER_B b
        let s := { s.putB Fld.ALARM_BOOT_OTHER_VALID old with flash := s.flash.prefer b, boot := { s.boot with image := some f } }
        (s.fwResult 2 0).post s.faultEvq 0x13 0x04 f.version (T % 2 ^ 32)
      else (s.fwResult 2 Err.state.code).post s.faultEvq 0x13 0x05 f.version Err.state.code

/-! ### DEVICE_FATAL and the dump (R461 to R463) -/

/-- The page of the block a cause comes from. -/
def fatalPage (cause : Nat) : Nat :=
  if cause = 2 then granaryPage else if cause = 3 ∨ cause = 5 then 0xB8000 else if cause = 4 then pwrPage else if cause = 6 then 0x40000 else faultPage

/-- DEVICE_FATAL: a cause of R461 is detected; `obj` is its queue, port or address. -/
def execDeviceFatal (cause obj : Nat) (s : State) : Out :=
  .next (if 1 ≤ cause ∧ cause ≤ 6 then s.deviceFatal (fatalPage cause) cause obj else s)

/-- EPANIS_WATCHDOG. -/
def execEpanisWatchdog (s : State) : Out := .next (s.deviceFatal faultPage 1 0)

/-- FAULT_N asserts. -/
def State.faultN (s : State) : State := s.put Fld.FAULT_FATAL_FAULT_N 1

/-- The word of a register in the dump: a _HI register reads an Epanis capture made with its _LO, _POP and WO registers read 0, and a page that is not LINKED holds
its header only. -/
def State.dumpWord (s : State) (a : Nat) : Word :=
  match specAt a with
  | none => 0
  | some x =>
    if a % 4096 < 0x40 then s.liveWord a
    else if !s.linked a || s.inReset a || x.pops then 0
    else if a = Reg.BELFRY_SEC_LO then BitVec.ofNat 32 s.clk.sec
    else if a = Reg.BELFRY_SEC_HI then BitVec.ofNat 32 (s.clk.sec / 2 ^ 32)
    else if a = Reg.BELFRY_NS then BitVec.ofNat 32 s.clk.ns
    else if a = Reg.BELFRY_FRAC then BitVec.ofNat 32 (s.clk.frac / 2 ^ 22)
    else s.liveWord a

/-- A page in the dump. -/
def State.dumpPage (s : State) (p : Nat) : List Byte := (List.range 1024).flatMap (fun i => natBytes 4 (s.dumpWord (p + 4 * i)).toNat)

/-- The code of a task type, and of a slot's state (R311). -/
def TaskType.code (t : TaskType) : Nat :=
  match t with
  | .decodePic => 0 | .encodePic => 1 | .compose => 2 | .audioTick => 3 | .audioCodec => 4 | .customKernel => 5 | .scale => 6
def SlotState.code (t : SlotState) : Nat :=
  match t with
  | .waiting => 1 | .ready => 2 | .running => 3 | .held => 4 | .cancelled => 5 | .failed => 6

/-- The record of a slot (R311): zeros when it is FREE. -/
def slotBytes (x : Option Task) : List Byte :=
  match x with
  | none => List.replicate 32 0#8
  | some t =>
    natBytes 1 (t.typ.code + t.level % 8 * 8 + t.attempt % 4 * 64) ++ natBytes 1 (t.state.code + t.port % 8 * 16) ++ natBytes 2 t.flow ++ natBytes 2 t.fseq ++
    natBytes 2 t.engine ++ natBytes 4 (t.hard / 1000000) ++ natBytes 4 (t.hard % 1000000) ++ natBytes 4 t.submit ++ natBytes 4 t.dispatch ++ natBytes 4 t.key ++
    natBytes 1 t.leases.length ++ natBytes 1 (t.excl.foldl (fun m e => Nat.lor m (2 ^ (e % 8))) 0) ++ natBytes 2 0

/-- A list of bytes padded with zeros to n. -/
def padTo (n : Nat) (l : List Byte) : List Byte := (l ++ List.replicate (n - l.length) 0#8).take n

/-- The sections after the header, as (offset, bytes, entries, contents). -/
def State.dumpSections (s : State) : List (Nat × Nat × Nat × List Byte) :=
  [(0x1000, 376832, 92, allPages.flatMap s.dumpPage),
   (0x5D000, 131072, 4096, (List.range 4096).flatMap (fun i => slotBytes (s.task i))),
   (0x7D000, 262144, s.crier.kept.length, padTo 262144 s.crier.kept.flatten),
   (0xBD000, 16384, sumBy (fun n => (s.chan n).log.entries.length) (List.range 8),
    (List.range 8).flatMap (fun n => padTo 2048 ((s.chan n).log.entries.flatMap (natBytes 64)))),
   (0xC1000, 4096, s.faultLog.entries.length, padTo 4096 (s.faultLog.entries.flatMap (natBytes 32)))]

/-- The bytes of the dump (R462). -/
def State.dumpBytes (s : State) : List Byte :=
  let secs := s.dumpSections
  let rest := secs.flatMap (fun x => x.2.2.2)
  let obj := match s.faultLog.entries.reverse.find? (fun e => decide (e % 4 = 3)) with | some e => e / 2 ^ 128 % 2 ^ 32 | none => 0
  let head := natBytes 4 0x504D5544 ++ natBytes 4 794624 ++ natBytes 1 (s.get Fld.FAULT_FATAL_CAUSE) ++ natBytes 1 (s.get Fld.GLOBAL_REV_REV) ++ natBytes 2 0x9600 ++
    natBytes 4 s.fwVersion ++ natBytes 8 (s.fatalAt.getD 0) ++ natBytes 4 (s.get Fld.CRIER_SEQ_SEQ) ++ natBytes 4 0 ++
    secs.flatMap (fun x => natBytes 4 x.1 ++ natBytes 4 x.2.1 ++ natBytes 4 x.2.2.1 ++ natBytes 4 0) ++ natBytes 8 obj
  let head := padTo 4088 head
  head ++ natBytes 8 (crc64 (rest ++ head)).toNat ++ rest

/-- DUMP_COMPLETE: the dump is written, to the host or, if a host write failed, to the base of the media region; FAULT_N asserts. -/
def execDumpComplete (hostOk : Bool) (s : State) : Out :=
  if s.get Fld.DUMP_STATUS_STATE ≠ 1 then .next s
  else
    let b := s.dumpBytes
    if hostOk && s.on Fld.HOSTIF_LINK_UP then .next ((s.hostPut (s.rd64 Reg.DUMP_ADDR_LO) b).put Fld.DUMP_STATUS_STATE 2).faultN
    else
      let base := s.get Fld.GLOBAL_MEDIA_BASE * 2 ^ 30
      .next (((s.dramPut base b).wr64 Reg.DUMP_LOCAL_LO base).put Fld.DUMP_STATUS_STATE 3).faultN

/-- FATAL_DEADLINE: 100 ms after detection FAULT_N asserts. -/
def execFatalDeadline (s : State) : Out :=
  match s.fatalAt with
  | none => .next s
  | some t => .next (s.runTo (t + 100000000)).faultN

/-- FAULT_LOG_POP: a read removes the oldest entry into FAULT_LOGWw. -/
def execFaultLogPop (s : State) : Out :=
  if s.linked Reg.FAULT_LOG_POP = false ∨ s.inReset Reg.FAULT_LOG_POP = true then .next { s with readData := 0 }
  else
    let (w, e, l) := s.faultLog.pop
    let s := { s with faultLog := l, readData := w }
    match e with
    | none => .next s
    | some v => .next (s.putWords (Reg.FAULT_LOGWw 0) 8 v)

/-! ### Service life (R464) -/

/-- 2^((T − 95) ÷ 10) s in 2⁻³² s, T in 0.1 °C. -/
def lifeOf (t : Int) : Nat :=
  let d := t - 950
  if d % 100 = 0 then
    if 0 ≤ d then 2 ^ (32 + (d / 100).toNat) else 2 ^ (32 - (-d / 100).toNat)
  else Config.lifeStep t

/-- LIFE_ACCUMULATE: each second the life at the highest reading of that second is added. -/
def execLifeAccumulate (temp : Int) (s : State) : Out :=
  let s := s.runTo ((s.now / 1000000000 + 1) * 1000000000)
  let s := s.senseHottest temp
  let t := s.crier.lifeFrac + lifeOf temp
  let hour := 3600 * 2 ^ 32
  .next ((s.modCrier (fun c => { c with lifeFrac := t % hour })).put Fld.FAULT_LIFE_HOURS (s.get Fld.FAULT_LIFE_HOURS + t / hour))

/-- LIFE_SAVE: the total goes to flash. -/
def execLifeSave (s : State) : Out := .next { s with flash := { s.flash with life := s.get Fld.FAULT_LIFE_HOURS } }

end Sys2Proof.Machine
end

