-- ==== Sys2Proof/Machine/Boot.lean ====
section
/-! DEFINITION. Resets, straps and the boot (spec/24_reset_and_boot.md, R467 to R477). -/

namespace Sys2Proof.Machine

/-! ### Resets (R467 to R471) -/

/-- The device as a reset of everything leaves it (R468): OTP, flash, FAULT_LIFE, host memory and what the balls sense stay; the DRAM is as memory nothing has
written; the commands waiting and the counter of free values are the model's own. -/
def State.resetAll (s : State) : State :=
  let t : State := { State.reset with
    flash := s.flash, hostMem := s.hostMem, free := s.free, pending := s.pending,
    pins := { s.pins with smbus := none }, boot := { held := true, perst := s.boot.perst },
    crier := { lifeFrac := s.crier.lifeFrac } }
  (t.put Fld.FAULT_LIFE_HOURS (s.get Fld.FAULT_LIFE_HOURS)).put Fld.ALARM_BOOT_COUNTER (s.get Fld.ALARM_BOOT_COUNTER)

/-- RESET_N_ASSERT: RESET_N low for a time in ns: below 1 µs it is ignored, from 10 µs it resets the device, and between it does one or the other (R500). -/
def execResetNAssert (low : Nat) (s : State) : Out :=
  let (n, s') := s.fresh
  if 10000 ≤ low then .next s.resetAll
  else if low < 1000 then .next s
  else if Config.shortReset n then .next s'.resetAll
  else .next s'

/-- POWER_ON_RESET: as RESET_N; the life total is the one saved in flash (R464). -/
def execPowerOnReset (s : State) : Out :=
  .next ({ s.resetAll with crier := {} }.put Fld.FAULT_LIFE_HOURS s.flash.life)

/-- The straps are sampled (R470). -/
def State.sampleStraps (s : State) (p : Straps) : State :=
  (((s.put Fld.GLOBAL_STRAPS_BOOT_SEL p.bootSel).putB Fld.GLOBAL_STRAPS_TWIN_EN p.twinEn).putB Fld.GLOBAL_STRAPS_TWIN_SENIOR p.twinSenior).putB
    Fld.GLOBAL_STRAPS_FABRIC_MASTER p.fabricMaster

/-- RESET_N_RELEASE: the clock restarts at 0, the straps are sampled and the boot begins. -/
def execResetNRelease (straps : Straps) (s : State) : Out :=
  if s.boot.held then .next ({ s with clk := {}, boot := { s.boot with held := false } }.sampleStraps straps) else .next s

/-- A register a warm reset keeps (R471): those of the AON island but for device state and the other domains, the straps, the part, the PCIe link, the life total
and the DRAM marks. -/
def warmKeeps (a : Nat) : Bool :=
  (decide (islandOf a = 0) && !(decide (a = Reg.PWR_STATE) || decide (a = Reg.PWR_EST) || (List.range 8).any (fun c => decide (a = Reg.PWR_CLc_STATUS c)) ||
    (List.range 14).any (fun d => decide (3 ≤ d) && decide (a = Reg.PWR_DOMd_STATUS d)))) ||
  decide (a = Reg.GLOBAL_STRAPS) || decide (a = Reg.GLOBAL_REV) || decide (a = Reg.HOSTIF_LINK) || decide (a = Reg.FAULT_LIFE) ||
  (List.range 8).any (fun n => decide (a = Reg.DDRCn_MARK n))

/-- GLOBAL_BOOT shows a stage, and the ms since RESET_N rose; the text log tells it. -/
def State.enterStage (s : State) (st : Nat) : State :=
  ((s.uartLog 0 st).put Fld.GLOBAL_BOOT_STAGE st).put Fld.GLOBAL_BOOT_MS (Nat.min 65535 (s.clk.cycles / 500000))

/-- Every domain but AON is reset, every page is OUT_OF_SERVICE (R507), the DRBG, of the alarm logic's island, runs on and reseeds for the boot (R397), and the boot runs
again from step 3. -/
def State.warmReset (s : State) : State :=
  let t : State := { State.reset with
    regs := s.regs.filter (fun p => warmKeeps p.1), clk := s.clk, bel := s.bel, flash := s.flash, hostMem := s.hostMem, free := s.free, pending := s.pending,
    pins := s.pins, boot := { perst := s.boot.perst }, sec := { drbg := s.sec.drbg }, crier := { lifeFrac := s.crier.lifeFrac },
    msix := { enable := s.msix.enable, funcMask := s.msix.funcMask },
    ddr := Sparse.mapAll (fun _ => {}) (fun _ (x : Ddr) => ({ ce := x.ce, second := x.second } : Ddr)) s.ddr }
  (forEach (allPages.filter (fun p => decide (islandOf p = 0))) (fun p (s : State) => s.put (Fld.PG_STATUS_SERVICE p) 1) (t.bump Fld.ALARM_HEALTH_RESEEDS)).enterStage 2

/-- A write of GLOBAL_RESET. -/
def State.globalResetWrite (s : State) (w : Word) : State :=
  s.checked Reg.GLOBAL_RESET w
    (fun s => if bits w 8 8 ≠ 0x5A then some .reserved else if s.on Fld.FAULT_FATAL_FAULT_N ∨ s.latched = true then some .state else none)
    (fun s => if bit w 0 then s.warmReset else s)

/-- WARM_RESET: GLOBAL_RESET is written with WARM = 1 and a KEY. -/
def execWarmReset (key : Nat) (s : State) : Out := .next (s.globalResetWrite (BitVec.ofNat 32 (key % 256 * 256 + 1)))

/-- PERST_N_ASSERT: the link is lost, and the endpoint, HOSTIF, the MSI-X table and every channel are reset as by a Function Level Reset (R469). -/
def execPerstNAssert (s : State) : Out :=
  let s := if s.on Fld.HOSTIF_LINK_UP then s.linkLost else s
  .next { s.hostReset with boot := { s.boot with perst := true } }

/-- PERST_N_RELEASE: the link may train again (R469, R474). -/
def execPerstNRelease (s : State) : Out := .next { s with boot := { s.boot with perst := false } }

/-! ### The boot (R472 to R477) -/

/-- The boot fails at the present step. -/
def State.bootFail (s : State) : State := ((s.put Fld.GLOBAL_BOOT_FAIL_STAGE (s.get Fld.GLOBAL_BOOT_STAGE)).enterStage 15).faultN

/-- Step 3: the copy in force gives the geometry and the preference; RECOVERY goes to step 5. -/
def State.bootConfig (s : State) : State :=
  match s.flash.board with
  | none => s.bootFail
  | some (c, _) =>
    let s := s.putB Fld.ALARM_BOOT_PREFER_B c.preferB
    let s := forUpTo 8 (fun n (s : State) => s.put (Fld.DDRCn_STATUS_GEOM n) c.geom) s
    s.enterStage (if s.get Fld.GLOBAL_STRAPS_BOOT_SEL = 2 then 4 else 3)

/-- A valid image of a slot. -/
def State.goodImage (s : State) (b : Bool) : Option FwImage := (if b then s.flash.imageB else s.flash.imageA).filter (fun f => s.imageValid f)

/-- Step 4: the preferred image, then the other (R402). -/
def State.bootVerify (s : State) : State :=
  let b := s.on Fld.ALARM_BOOT_PREFER_B
  let pick (s : State) (f : FwImage) (b : Bool) : State :=
    (({ s with boot := { s.boot with image := some f, imageB := b } }).putB Fld.GLOBAL_BOOT_IMAGE_B b).enterStage 4
  match s.goodImage b, s.goodImage (!b) with
  | some f, _ => pick s f b
  | none, some f => pick s f (!b)
  | none, none => s.bootFail

/-- Step 5: channels train (R381); the media region is placed at the top of the DRAM (R477, R509). -/
def State.bootTrain (s : State) (fails : List (Nat × Nat)) : State :=
  let l := fails.filter (fun x => decide (x.1 < 8))
  if l ≠ [] then
    (forEach l (fun x (s : State) => (s.put (Fld.DDRCn_STATUS_STATE x.1) 4).put (Fld.DDRCn_TRAIN_FAIL_STEP x.1) x.2) s).bootFail
  else
    let gib := dramBytes s.geom / 2 ^ 30
    let size := match s.flash.board with | some (c, _) => c.mediaGib | none => 16
    let s := forUpTo 8 (fun n (s : State) => (s.put (Fld.DDRCn_CFG_GIB n) (gib / 8)).put (Fld.DDRCn_STATUS_STATE n) 2) s
    let s := (s.put Fld.GLOBAL_MEDIA_BASE (gib - size)).put Fld.GLOBAL_MEDIA_SIZE size
    let s := s.wr Reg.GLOBAL_MEDIA_FREE (BitVec.ofNat 32 ((size - 4) * 16384))
    let s := { s with boot := { s.boot with trained := true } }
    s.enterStage (if s.get Fld.GLOBAL_STRAPS_BOOT_SEL = 2 then 9 else 5)

/-- Step 7: Epanis runs the image, and the session KEK exists (R387). -/
def State.bootFw (s : State) : State :=
  let svn := match s.boot.image with | some f => f.svn | none => 0
  let s := s.modSec (fun c => { c with kek := true })
  let s := (s.putB Fld.ALARM_BOOT_RUNNING_B s.boot.imageB).put Fld.ALARM_BOOT_SVN svn
  (s.putB Fld.ALARM_BOOT_OTHER_VALID (s.goodImage (!s.boot.imageB)).isSome).enterStage 7

/-- A domain wakes at boot. -/
def State.bootWake (s : State) (d : Nat) (asleep : List Nat) : State :=
  if asleep.contains d then s.failedWake d
  else
    let s := (s.put (Fld.PWR_DOMd_STATUS_STATE d) 0).domWakeTime d
    if 4 ≤ d ∧ d < 12 then
      let c := d - 4
      let op := s.ceilOf c
      (((s.put (Fld.PWR_CLc_STATUS_STATE c) 0).put (Fld.PWR_CLc_STATUS_OP c) op).put (Fld.PWR_CLc_STATUS_TARGET_OP c) op).setVolt c (opVolt op)
    else s

/-- DRAM from address `top` up reads as unwritten memory. -/
def State.dropDram (s : State) (top : Nat) : State := { s with dram := s.dram.filter (fun c => decide (c.1 < top)) }

/-- Step 8: the ports' calibration is loaded (R59), every page shows SERVICE (R507), the domains wake, self-tests have run, the media region reads zero, the islands are linked, and a twin enters
PAIRING (R475). SOC or MEM failing to wake fails the boot (R443). -/
def State.bootReady (s : State) (f : BootFacts) : State :=
  let s := forEach allPages (fun p (s : State) => s.put (Fld.PG_STATUS_SERVICE p) 0) s
  let s := forEach ((List.range 14).filter (fun d => decide (3 ≤ d) || f.asleep.contains d)) (fun d (s : State) => s.bootWake d f.asleep) s
  if f.asleep.contains 1 || f.asleep.contains 3 then s.bootFail
  else
    let s := forUpTo 4 (fun n (s : State) => s.portCal n) s
    let s := forUpTo 28 (fun i (s : State) => if f.asleep.contains (islandDomain i) then s else s.islandUp i) s
    let s := s.dropDram (s.get Fld.GLOBAL_MEDIA_BASE * 2 ^ 30)
    let good := allEngines.filter (fun e => !(f.kat.any (fun x => decide (x.1 = e))))
    let s := forEach (good ++ [srtpUnit, cipherUnit]) (fun e (s : State) => s.setEng e { s.eng e with katAt := s.now }) s
    let s := forEach f.kat (fun x (s : State) => if allEngines.contains x.1 then (s.katFail x.1 x.2).put (Fld.PG_STATUS_SERVICE (enginePage x.1)) 1 else s) s
    let s := s.bump Fld.FAULT_TEST_RUNS good.length
    let s := if s.on Fld.GLOBAL_STRAPS_TWIN_EN then s.enterTwin 1 else s
    { s with deviceReserved := deviceReserve }.enterStage 8

/-- BOOT_STAGE_COMPLETE: the step in progress ends, as the facts found say. -/
def execBootStageComplete (f : BootFacts) (s : State) : Out :=
  if s.boot.held then .next s
  else
    let st := s.get Fld.GLOBAL_BOOT_STAGE
    if st = 3 ∧ s.boot.checking = true then
      let s := { s with boot := { s.boot with checking := false } }
      let x := s.readImage 0
      if s.imageValid x then .next ({ s with boot := { s.boot with image := some x } }.enterStage 6)
      else .next ((s.put Fld.GLOBAL_BOOT_FAIL_STAGE 3).enterStage 9)
    else if 8 ≤ st then .next s
    else if f.ok = false then .next s.bootFail
    else match st with
      | 0 =>
        if s.get Fld.GLOBAL_STRAPS_BOOT_SEL % 2 = 1 then .next s.faultN
        else .next ((s.modPwr (fun w => { w with volts := [] })).enterStage 1)
      | 1 => .next (((s.modSec (fun c => { c with drbg := true })).bump Fld.ALARM_HEALTH_RESEEDS).enterStage 2)
      | 2 => .next s.bootConfig
      | 3 => .next s.bootVerify
      | 4 => .next (s.bootTrain f.training)
      | 5 => .next (s.enterStage 6)
      | 6 => .next s.bootFw
      | _ => .next (s.bootReady f)

/-- A write of GLOBAL_BOOT_CMD: GO makes the ROM check the image at device address 0 (R476, R479). -/
def State.bootCmdWrite (s : State) (w : Word) : State :=
  s.checked Reg.GLOBAL_BOOT_CMD w
    (fun s => if bit w 0 = false then none else if s.boot.checking then some .busy else if s.get Fld.GLOBAL_BOOT_STAGE = 9 then none else some .state)
    (fun s => if bit w 0 then { s with boot := { s.boot with checking := true } }.enterStage 3 else s)

/-- RECOVERY_GO. -/
def execRecoveryGo (s : State) : Out := .next (s.bootCmdWrite 1)

end Sys2Proof.Machine
end

