-- ==== Sys2Proof/Machine/Pins.lean ====
section
/-! DEFINITION. The side ports and the balls that show state (spec/25_electrical_and_package.md, R494, R496, R497). -/

namespace Sys2Proof.Machine

/-! ### SMBus (R494) -/

/-- The target's answer to a command; while RESET_N is low only the temperature and the alarm status are served, and the others read 0xFF. -/
def State.smbusAnswer (s : State) (inReset : Bool) (n v : Nat) : State :=
  let bytes : List Byte := if s.boot.held && !inReset then List.replicate n 255#8 else natBytes n v
  { s with pins := { s.pins with smbus := some bytes } }

/-- SMBUS_TEMPERATURE: the highest junction sensor, in 0.1 °C. -/
def execSmbusTemperature (s : State) : Out := .next (s.smbusAnswer true 2 (unsigned 16 s.pins.tempMax))
/-- SMBUS_BOOT_STAGE. -/
def execSmbusBootStage (s : State) : Out :=
  .next (s.smbusAnswer false 1 (s.get Fld.GLOBAL_BOOT_STAGE + s.get Fld.GLOBAL_BOOT_FAIL_STAGE * 16))
/-- SMBUS_FATAL_CAUSE. -/
def execSmbusFatalCause (s : State) : Out := .next (s.smbusAnswer false 1 (s.get Fld.FAULT_FATAL_CAUSE))
/-- SMBUS_ALARM_STATUS. -/
def execSmbusAlarmStatus (s : State) : Out :=
  .next (s.smbusAnswer true 1 (s.get Fld.ALARM_STATUS_SOURCE % 128 + s.get Fld.ALARM_STATUS_LATCHED * 128))
/-- SMBUS_POWER. -/
def execSmbusPower (s : State) : Out := .next (s.smbusAnswer false 2 (s.get Fld.PWR_EST_POWER))
/-- SMBUS_PART. -/
def execSmbusPart (s : State) : Out := .next (s.smbusAnswer false 2 (s.get Fld.GLOBAL_REV_PART))

/-- I2C_ALERT_N is asserted: the junction is above 100 °C, FAULT_N is asserted, or the alarm latch is set. -/
def State.alerting (s : State) : Bool := s.pins.hot || s.on Fld.FAULT_FATAL_FAULT_N || s.latched

/-- SMBUS_ALERT_RESPONSE: a read of the Alert Response Address is answered, with the device's address 0x2C in bits 7:1, while I2C_ALERT_N is asserted. -/
def execSmbusAlertResponse (s : State) : Out :=
  .next { s with pins := { s.pins with smbus := if s.alerting then some [0x58#8] else none } }

/-- The junction sensors report a new highest reading, in 0.1 °C; GPIO0 and I2C_ALERT_N follow it (R497). -/
def execHighestJunctionSensorCrossing (temp : Int) (s : State) : Out :=
  .next (s.senseHottest temp)

/-- The level of GPIO k (R497); 8 to 15 are inputs. -/
def State.gpio (s : State) (k : Nat) : Bool :=
  if k = 0 then s.pins.hot
  else if k = 1 then decide (s.get Fld.GLOBAL_BOOT_STAGE = 8)
  else if k < 6 then s.on (Fld.ETHn_LINK_UP (k - 2))
  else if k = 6 then decide (s.twinState = 2) || decide (s.twinState = 6)
  else if k = 7 then s.on Fld.BINATH0_TOPO_ROOTED || s.fabricMaster
  else false

/-! ### UART (R495) -/

/-- The bits of a byte on UART_TXD at 115,200 b/s: a start bit, 8 data bits, the least significant first (PRESUMED, log entry 152), no parity, 1 stop bit. -/
def uartFrame (b : Byte) : List Bool := [false] ++ (List.range 8).map (fun i => b.getLsbD i) ++ [true]

/-- Everything UART_TXD has carried since reset, bit by bit; between frames it is high. -/
def State.uartTxd (s : State) : List Bool := (s.uart.flatMap (fun l => Config.uartText l.kind l.code l.at_)).flatMap uartFrame

/-! ### JTAG (R496) -/

/-- An instruction of the test access port takes effect: 0 EXTEST, 1 SAMPLE/PRELOAD, 2 IDCODE, 3 BYPASS. EXTEST drives the balls and stops media. -/
def State.jtag (s : State) (ir dr : Nat) : State := { s with pins := { s.pins with jtagIr := ir, jtagDr := dr, extest := decide (ir = 0) } }

/-- JTAG_BYPASS: the data register is one bit, 0 as it is captured (IEEE 1149.1). -/
def execJtagBypass (s : State) : Out := .next (s.jtag 3 0)
/-- JTAG_SAMPLE_PRELOAD: what stands at the balls is captured. -/
def execJtagSamplePreload (balls : Nat) (s : State) : Out := .next (s.jtag 1 balls)
/-- JTAG_EXTEST: the balls are driven from the boundary register, and media stops at once. -/
def execJtagExtest (drive : Nat) (s : State) : Out := .next (s.jtag 0 drive)
/-- JTAG_IDCODE: REV, 0x9600, 0x4D5 and 1. -/
def execJtagIdcode (s : State) : Out :=
  .next (s.jtag 2 (s.get Fld.GLOBAL_REV_REV * 2 ^ 28 + 0x9600 * 2 ^ 12 + 0x4D5 * 2 + 1))

end Sys2Proof.Machine
end

