-- ==== Sys2Proof/Machine/Gate.lean ====
section
/-! DEFINITION. The table gate (spec/02_register_conventions.md, R42 to R48, R510): its commands, acceptance, and what an accepted record does when it takes
effect. -/

namespace Sys2Proof.Machine

/-! ### What the gate shows -/

/-- GATE_TXN, GATE_PENDING and GLOBAL_MEDIA_FREE (R45, R47, R509). -/
def State.showGate (s : State) : State :=
  let n := s.gate.txn.length
  let (cls, lay) := s.txnClass.getD (0, 0)
  let s := s.wr Reg.GATE_TXN (BitVec.ofNat 32 (b2n s.gate.txnOpen + n * 2 + cls * 2 ^ 10 + lay * 2 ^ 12))
  let s := s.put Fld.GATE_PENDING_COUNT (s.gate.pending.length + n)
  s.put Fld.GLOBAL_MEDIA_FREE_FREE (s.mediaPool - s.reserved [])

/-- TDMn_BIND_RX and TDMn_BIND_TX: the slots bound in the effective LEG table. -/
def State.showBind (s : State) : State :=
  let legs := ((tableRecs s.gate.effective 1).map (·.2)).filter (fun r => decide (LEG.TRANSPORT r = 1))
  forUpTo 4 (fun n (s : State) =>
    let mask (f : Nat → Nat) : Nat := sumBy (fun i => if legs.any (fun r => decide (LEG.TDM_PORT r = n) && decide (LEG.TDM_SLOT r = i) && decide (f r = 1)) then 2 ^ i else 0)
      (List.range 32)
    (s.wr (Reg.TDMn_BIND_RX n) (BitVec.ofNat 32 (mask LEG.TDM_RX))).wr (Reg.TDMn_BIND_TX n) (BitVec.ofNat 32 (mask LEG.TDM_TX))) s

/-! ### Legs taking effect (R89 to R91, R102, R105, R121) -/

/-- Leg l is an RTP leg in its effective record or in one that waits: from the acceptance of its CREATE until its DELETE takes effect (R159). -/
def State.rtpHeld (s : State) (l : Nat) : Bool :=
  (match s.effRec 1 l with | some r => decide (LEG.TRANSPORT r = 0) | none => false) ||
    (s.gate.pending ++ s.gate.txn).any (fun g => decide (g.table = 1) && decide (g.index = l) && decide (g.op ≠ .delete) && decide (LEG.TRANSPORT g.data = 0))

/-- The leg queue counts as configured from the acceptance of its leg's CREATE until its DELETE takes effect (R159). -/
def State.configureQueue (s : State) (l : Nat) : State :=
  let rtp := s.rtpHeld l
  let g := s.queue l
  if rtp && !g.configured then
    s.setQueue l { g with configured := true, minCells := s.get Fld.PKTOUT_LEGQ_CELLS_MIN, maxCells := s.get Fld.PKTOUT_LEGQ_CELLS_MAX }
  else if !rtp && g.configured then s.setQueue l { g with configured := false, minCells := 0, maxCells := 0 }
  else s

/-- The first transmit state of a leg's own SSRC: the RTP sequence number starts where the device chooses. -/
def State.firstTx (s : State) (r : Nat) : Sparse TxSsrc × State :=
  let (n, s) := s.fresh
  (Sparse.set (fun _ => {}) [] (LEG.LOCAL_SSRC r) { seq := Config.audioSeq n % 65536 }, s)

/-- LEG CREATE takes effect at tick t. -/
def State.legStart (s : State) (l r t : Nat) : State :=
  let halted := decide (LEG.PROFILE r ≠ 0) && s.latched
  let rtp := decide (LEG.TRANSPORT r = 0)
  let (tx, s) := s.firstTx r
  let (n, s) := s.fresh
  let seed := Nat.xor l (LEG.LOCAL_SSRC r % 65536)
  let rate := clampRate (s.get Fld.ADAPT_CFG_START) (LEG.RATE_FLOOR r) (LEG.RATE_CEIL r)
  let g : Leg := { state := if halted then .halted else .active, installed := rtp, effectTick := t, tx := tx, nextReport := t,
                   lfsr := if seed = 0 then 1 else seed, cc := { rate := rate, rRef := rate, lastFb := t },
                   jb := { depth := jbTarget r 0, target := jbTarget r 0 } }
  let a : LegAudio := { tsBase := Config.audioTs n % 2 ^ 32, lastRec := r, keySince := t, encSince := t }
  let s := ((s.setLeg l g).setLegA l a).configureQueue l
  if halted then s.post (LEG.EVQ r) 0x01 0x09 l 0 else s.post (LEG.EVQ r) 0x01 0x01 l t

/-- A MODIFY that changes TX_CTX: rollover counters, SRTCP indices, warnings and limits start again, and a stopped leg sends (R89, R102, R358). -/
def Leg.newTxCtx (g : Leg) : Leg :=
  { g with tx := Sparse.mapAll (fun _ => {}) (fun _ (x : TxSsrc) => ({ seq := x.seq, log := x.log } : TxSsrc)) g.tx,
           state := if g.state = .txStopped then .active else g.state, stopCode := if g.state = .txStopped then 0 else g.stopCode }

/-- Frames discarded at once while the depth is above a lowered JB_MAX (R105): the jitter buffer and how many were discarded. -/
def Jb.lower (b : Jb) (max ptime : Nat) : Nat → Jb × Nat
  | 0 => (b, 0)
  | fuel + 1 =>
    if b.depth ≤ max then (b, 0)
    else
      match sortBy (fun (f : JFrame) => f.playout) b.frames with
      | [] => (({ b with frames := [] } : Jb).move (-(Nat.max 1 ptime : Int)), 0)
      | f :: rest =>
        let q := Jb.lower (({ b with frames := rest } : Jb).move (-(Nat.max 1 f.dur : Int))) max ptime fuel
        (q.1, q.2 + 1)

/-- A leg moves between conferences: without one it has no chain and no bridge to one (R173). -/
def LegAudio.moved (a : LegAudio) (o r : Nat) : LegAudio :=
  if o = 0xFFFF then { a with chain := {}, inEnd := none, outLim := 1073741824 } else if r = 0xFFFF then { a with chain := {}, inEnd := none } else a

/-- A leg takes another codec at tick t: a new decoder and a new encoder. What the old ones had begun is dropped. DESIGN CHOICE (log entry 182). -/
def LegAudio.newCodec (a : LegAudio) (t : Nat) : LegAudio :=
  { a with decoding := [], future := [], dec := {}, enc := {}, encSince := t, usedGroup := [], dtxAge := 0, encoded := none }

/-- LEG MODIFY from record o to record r takes effect at tick t. A target rate that the new bounds lower to RATE_FLOOR posts the event (R121).
A leg that moves from one conference to another keeps its chain's nodes, of which the selection meter is one; only edges change (R91, R173, R189). -/
def State.legModify (s : State) (l o r t : Nat) : State :=
  let g := s.leg l
  if g.state = .halted then s
  else
    let g := if LEG.TX_CTX o ≠ LEG.TX_CTX r ∨ LEG.PROFILE o ≠ LEG.PROFILE r then g.newTxCtx else g
    let g := if LEG.PROFILE r ≠ 0 ∧ LEG.RX_CTX o ≠ LEG.RX_CTX r then { g with ctxSwitchDue := true } else g
    let g := if LEG.RATE_FLOOR o ≠ LEG.RATE_FLOOR r ∨ LEG.RATE_CEIL o ≠ LEG.RATE_CEIL r then
        { g with cc := { g.cc with rate := clampRate g.cc.rate (LEG.RATE_FLOOR r) (LEG.RATE_CEIL r) } }
      else g
    let (jb, n) := if LEG.JB_MAX r < LEG.JB_MAX o then g.jb.lower (LEG.JB_MAX r) (LEG.PTIME r) 512 else (g.jb, 0)
    let jb := if LEG.A_CODEC o ≠ LEG.A_CODEC r then { jb with based := false, frames := [], lastDur := 0, substituted := 0 } else jb
    let jb := if jb.based then jb else { jb with depth := jbTarget r 0, target := jbTarget r 0 }
    let before := (s.leg l).cc.rate
    let s := s.setLeg l { g with jb := jb, jbDrop := (g.jbDrop + n) % 65536 }
    let s := if g.cc.rate = LEG.RATE_FLOOR r ∧ g.cc.rate < before then s.post (LEG.EVQ r) 0x06 0x50 l g.cc.rate else s
    let a := s.legA l
    let old : OldEnd := ⟨LEG.CONF o, a.chain, legDom o, a.inHist, s.legBlock l o t⟩
    let a := if LEG.CONF o ≠ LEG.CONF r ∨ legDom o ≠ legDom r then { a with old := some old } else a
    let a := if LEG.CONF o ≠ LEG.CONF r then a.moved (LEG.CONF o) (LEG.CONF r) else a
    let a := if LEG.A_CODEC o ≠ LEG.A_CODEC r then a.newCodec t else if LEG.PTIME o ≠ LEG.PTIME r then { a with encSince := t } else a
    s.setLegA l a

/-- LEG DELETE takes effect at tick t: classifier entries, jitter buffer and queued packets go, the graph's edges ramp out, and the leg's POLICER and SHAPER
records are deleted with it (R89, R90). -/
def State.legEnd (s : State) (l r t : Nat) : State :=
  let mine := s.pkts.filterMap (fun p => match p.2 with | some k => if k.leg = l then some p.1 else none | none => none)
  let s := forEach mine (fun id (s : State) => (s.unqueue l id).dropPkt id) s
  let s := (s.setLeg l {}).clearWin (plainCtx l)
  let s := s.setLegA l { s.legA l with gone := true, encoded := none }
  let e := (s.gate.effective.set (fun _ => 0) (recKey 4 l) 0).set (fun _ => 0) (recKey 5 l) 0
  let s := ({ s with gate := { s.gate with effective := e } }).configureQueue l
  s.post (LEG.EVQ r) 0x01 0x02 l t

/-! ### Conferences, taps, policers, shapers and streams taking effect -/

/-- CONF from record o (0: none) to record r takes effect at tick t (R93, R112, R182). -/
def State.confTake (s : State) (c o r t : Nat) : State :=
  let x := s.conf c
  let x : Conf := { x with effective := true }
  let x : Conf := if CONF.RECALL_EN r = 0 then { effective := true } else x
  let froze := decide (CONF.FREEZE o = 0) && decide (CONF.FREEZE r = 1)
  let freed := decide (CONF.FREEZE o = 1) && decide (CONF.FREEZE r = 0)
  let x : Conf :=
    if froze then { x with freezeTick := some t, fullPosted := false, entries := x.entries.map (fun e => { e with frozen := true }) }
    else if freed then { x with freezeTick := none, fullPosted := false, entries := x.entries.map (fun e => { e with frozen := false }) } else x
  let s := s.setConf c x
  let s := if o ≠ 0 ∧ CONF.K o ≠ CONF.K r then s.setSeats c (CONF.K r) else s
  if froze then s.post (CONF.EVQ r) 0x02 0x10 c t
  else if freed then (s.post (CONF.EVQ r) 0x02 0x12 c t).playersReleased c
  else s

/-- REC from record o (0: none) takes effect: a CREATE starts a tap, a MODIFY starts a stopped one again (R110). -/
def State.recTake (s : State) (i o : Nat) : State :=
  if o = 0 then s.setTap i {} else s.setTap i { s.tap i with stopped := none }

/-- POLICER (R83): CREATE starts the bucket full, MODIFY clips the tokens of record o at its instant. -/
def State.policerTake (s : State) (l o r t : Nat) : State :=
  let cap := POLICER.BURST r * 10 ^ 9
  let at_ := boundaryNs t
  s.modLeg l (fun g => { g with policer :=
    if o = 0 then { tokens := cap, at_ := at_ }
    else
      let p := g.policer.refill o at_
      { p with tokens := Nat.min cap p.tokens } })

/-- SHAPER (R147). -/
def State.shaperTake (s : State) (l r t : Nat) : State :=
  let at_ := boundaryNs t
  let s := s.modLeg l (fun g => { g with shaper := g.shaper.apply at_ r })
  let clip (p : Port) : Port :=
    { p with clip := p.clip.modify (fun _ => none) (4 + l) (fun c => some (Nat.min (64 * SHAPER.QUANTUM r) (c.getD (64 * SHAPER.QUANTUM r)))) }
  forUpTo 4 (fun n (s : State) => s.setPort n (clip (s.port n))) s

/-- VSTR from record o (0: none) to record r takes effect at tick t (R245, R253, R254). -/
def State.vstrTake (s : State) (v o r t : Nat) : State :=
  if o = 0 then s.vstrStart v t
  else if VSTR.DECODE o = 0 ∧ VSTR.DECODE r = 1 then s.decodeStart v
  else if VSTR.DECODE o = 1 ∧ VSTR.DECODE r = 0 then s.decodeEnd v
  else s

/-- The leg an OSTR's transmit state is kept in: its own, or one per link (R335). -/
def ostrHolder (r : Nat) : Nat := OSTR.LEG r

/-- OSTR from its record of before (none on a CREATE) to record r takes effect at tick t (R137, R139, R141, R142). -/
def State.ostrTake (s : State) (i : Nat) (old : Option Nat) (r t : Nat) : State :=
  match old with
  | none =>
    let s := s.modLeg (ostrHolder r) (fun g =>
      let g := g.setTx (OSTR.SSRC r) { seq := OSTR.SEQ_INIT r }
      if OSTR.RTX_PT r = 0 then g else g.setTx (OSTR.RTX_SSRC r) { seq := OSTR.RTX_SEQ_INIT r })
    s.setOstr i { effective := true, born := t, srcKind := OSTR.SRC_KIND r, src := OSTR.SRC r, rtxStarted := decide (OSTR.RTX_PT r ≠ 0) }
  | some o =>
    let x := s.ostr i
    let moved := decide (OSTR.SRC_KIND o ≠ OSTR.SRC_KIND r) || decide (OSTR.SRC o ≠ OSTR.SRC r)
    let s := if OSTR.RTX_PT r ≠ 0 ∧ x.rtxStarted = false then
        s.modLeg (ostrHolder r) (fun g => g.setTx (OSTR.RTX_SSRC r) { seq := OSTR.RTX_SEQ_INIT r }) else s
    let x := { x with rtxStarted := x.rtxStarted || decide (OSTR.RTX_PT r ≠ 0) }
    let s := s.setOstr i x
    let s := if moved then (s.setOstr i { x with switchTo := some (OSTR.SRC_KIND r, OSTR.SRC r, t) }).requestSwitch (OSTR.SRC_KIND r) (OSTR.SRC r) else s
    match (s.ostr i).ref with
    | some k => if OSTR.MAX_S r < k.1 ∨ OSTR.MAX_T r < k.2 then s.moveDown i t (some (Nat.min k.1 (OSTR.MAX_S r), Nat.min k.2 (OSTR.MAX_T r))) else s
    | none => s

/-- An OSTR is deleted: its packets not yet released go with it. -/
def State.ostrEnd (s : State) (i : Nat) : State :=
  let gone := s.pkts.filterMap (fun p => match p.2 with
    | some k => if (k.kind = .video ∨ k.kind = .rtx) ∧ k.ostr = i then some k else none
    | none => none)
  let s := forEach gone (fun k (s : State) => (s.unqueue k.leg k.id).dropPkt k.id) s
  s.setOstr i {}

/-! ### Records taking effect (R43, R46) -/

/-- The record a MODIFY leaves of an OSTR: TS_INIT, SEQ_INIT and RTX_SEQ_INIT, bytes 16 to 23, are ignored (R132). -/
def ostrModified (o r : Nat) : Nat := r % 2 ^ 128 + o / 2 ^ 128 % 2 ^ 64 * 2 ^ 128 + r / 2 ^ 192 * 2 ^ 192

/-- One record of the tick class takes effect at tick t. -/
def State.takeTick (s : State) (t : Nat) (g : GateRec) : State :=
  let o := (s.effRec g.table g.index).getD 0
  let i := g.index
  let r := if g.table = 7 ∧ g.op = .modify then ostrModified o g.data else g.data
  let g := { g with data := r }
  let s := { s with gate := { s.gate with effective := applyRec s.gate.effective g } }
  match g.op with
  | .delete =>
    if g.table = 1 then s.legEnd i o t
    else if g.table = 2 then (s.setConf i {}).setConfA i {}
    else if g.table = 3 then s.setTap i {}
    else if g.table = 5 then s.modLeg i (fun g => { g with shaper := {} })
    else if g.table = 6 then s.vstrEnd i
    else if g.table = 7 then s.ostrEnd i
    else s
  | .create | .modify =>
    let o := if g.op = .create then 0 else o
    if g.table = 1 then (if g.op = .create then s.legStart i r t else s.legModify i o r t)
    else if g.table = 2 then s.confTake i o r t
    else if g.table = 3 then s.recTake i o
    else if g.table = 4 then s.policerTake i o r t
    else if g.table = 5 then s.shaperTake i r t
    else if g.table = 6 then s.vstrTake i o r t
    else s.ostrTake i (if g.op = .create then none else some o) r t

/-- The records of a list but those of a key up to its DELETE. -/
def dropLife (k : Nat) : List GateRec → List GateRec
  | [] => []
  | g :: t => if recKey g.table g.index = k then (if g.op = .delete then t else dropLife k t) else g :: dropLife k t

/-- Records that take effect together, without those of an object that a CREATE begins and a DELETE of the same boundary ends (R89). -/
def withoutGhosts : Nat → List GateRec → List GateRec
  | 0, l => l
  | _, [] => []
  | fuel + 1, g :: t =>
    let k := recKey g.table g.index
    if g.op = .create ∧ t.any (fun h => decide (recKey h.table h.index = k) && decide (h.op = .delete)) = true then withoutGhosts fuel (dropLife k t)
    else g :: withoutGhosts fuel t

/-- A leg shown PENDING whose CREATE is gone is shown no longer; one whose next CREATE waits is PENDING again once its DELETE has taken effect (R89). -/
def State.settleLeg (s : State) (l : Nat) : State :=
  let s := s.configureQueue l
  let waits := (accRec s.accepted 1 l).isSome
  if (s.leg l).state = .pending ∧ waits = false then s.setLeg l {}
  else if (s.leg l).state = .none ∧ waits = true then s.modLeg l (fun x => { x with state := .pending })
  else s

/-- Step 1 of R20 at tick t: the tick-class records due take effect in issue order. -/
def State.gateTick (s : State) (t : Nat) : State :=
  let due := s.gate.pending.filter (fun g => decide (tableClass g.table = 1) && decide (g.boundary ≤ t))
  if due = [] then s
  else
    let s := { s with gate := { s.gate with pending := s.gate.pending.filter (fun g => !(decide (tableClass g.table = 1) && decide (g.boundary ≤ t))) } }
    let s := forEach (withoutGhosts due.length due) (fun g (s : State) => s.takeTick t g) s
    let s := forEach (due.filter (fun g => decide (g.table = 1))) (fun g (s : State) => s.settleLeg g.index) s
    s.showLegs.showBind.keyRefresh.showGate

/-- One record of the frame class takes effect at a frame boundary of its layout, owned by tick F (R262, R280). -/
def State.takeFrame (s : State) (F : Nat) (g : GateRec) : State :=
  let i := g.index
  let s := { s with gate := { s.gate with effective := applyRec s.gate.effective g } }
  match g.op with
  | .delete => if g.table = 8 then s.layoutEnd i else s.ecompEnd i
  | .modify => s
  | .create =>
    if g.table = 8 then s.layoutStart i F
    else
      let s := s.ecompStart i F
      forEach ((tableRecs s.gate.effective 7).filter (fun p => decide (OSTR.SRC_KIND p.2 = 1) && decide (OSTR.SRC p.2 = i)))
        (fun p (s : State) =>
          let x := s.ostr p.1
          if x.effective && x.tsOff.isSome then s.setOstr p.1 { x with switchTo := some (1, i, F) } else s) s

/-- The records of layout L due at its frame boundary k take effect; those that wait on keep their boundary in the numbering of the sequence in force (R262). -/
def State.gateFrame (s : State) (lay : Nat) : State :=
  let (k, at_) := (s.layout lay).next
  let mine (g : GateRec) : Bool := decide (tableClass g.table = 2) && decide (g.index = lay)
  let due := s.gate.pending.filter (fun g => mine g && decide (g.boundary ≤ k))
  if due = [] then s
  else
    let old := s.layRec lay
    let s := { s with gate := { s.gate with pending := s.gate.pending.filter (fun g => !(mine g && decide (g.boundary ≤ k))) } }
    let s := forEach (withoutGhosts due.length due) (fun g (s : State) => s.takeFrame (at_ / 1000000) g) s
    let r := s.layRec lay
    let s := if (s.layout lay).effective then s.setLayout lay { s.layout lay with next := (k, at_) } else s
    let s := if r = 0 ∨ !reshapes old r then s
      else { s with gate := { s.gate with pending := s.gate.pending.map (fun g => if mine g then { g with boundary := frameAfter r at_ } else g) } }
    s.showGate

/-! ### Acceptance (R43, R44, R47) -/

/-- The first frame boundary of a LAYOUT record after now, kept as the next boundary of a layout not yet effective. -/
def State.frameNext (s : State) (lay r : Nat) : Nat × State :=
  let x := s.layout lay
  let k := frameAfter r s.lnow
  (k, if x.effective then s else s.setLayout lay { x with next := (k, frameNs r k) })

/-- The frame boundary a command on layout L accepted now takes effect at: the first strictly after now (R43, R262). A layout that is created gets its first
boundary. -/
def State.frameEffect (s : State) (lay : Nat) (records : List GateRec) : Nat × State :=
  let x := s.layout lay
  let created := (s.gate.pending ++ records).find? (fun g => decide (g.table = 8) && decide (g.index = lay) && decide (g.op = .create))
  if s.lnow < x.next.2 then (x.next.1, s)
  else
    match s.effRec 8 lay, created with
    | some r, _ => s.frameNext lay r
    | none, some g => s.frameNext lay g.data
    | none, none => (0, s)

/-- Records are accepted for one boundary, and Ledger entries say so (R48, R345). -/
def State.commitRecs (s : State) (records : List GateRec) : Nat × State :=
  match records with
  | [] => (0, s)
  | g :: _ =>
    let (k, s) := if tableClass g.table = 1 then (s.ltick + 1, s) else s.frameEffect g.index records
    let s := { s with gate := { s.gate with pending := s.gate.pending ++ records.map (fun g => { g with boundary := k }) } }
    let n := records.length
    let code (o : GateOp) : Nat := match o with | .create => 1 | .modify => 2 | .delete => 3
    (k, (records.zip (List.range n)).foldl (fun (s : State) p =>
      s.record (.gate (code p.1.op) p.1.table p.1.index p.1.data k (decide (p.2 + 1 = n)))) s)

/-- A leg whose CREATE is accepted is PENDING and its queue configured (R89, R159). -/
def State.legAccepted (s : State) (g : GateRec) : State :=
  if g.table ≠ 1 then s
  else
    let s := s.configureQueue g.index
    if g.op = .create ∧ (s.leg g.index).state = .none then s.modLeg g.index (fun x => { x with state := .pending }) else s

/-- GATE_RESULT is posted, GATE_EFFECT before it. -/
def State.gatePost (s : State) (c : GateCmd) (status effect : Nat) : State :=
  (s.wr64 Reg.GATE_EFFECT_LO effect).postResult Reg.GATE_RESULT (c.index % 65536 * 256 + status)

/-- A change that passed every check: into the open transaction, or by itself. -/
def State.acceptChange (s : State) (c : GateCmd) (op : GateOp) : State :=
  let g : GateRec := ⟨op, c.table, c.index, if op = .delete then 0 else normalise c.table c.data, 0⟩
  if s.gate.txnOpen then
    let s := { s with gate := { s.gate with txn := s.gate.txn ++ [g] } }
    ((s.legAccepted g).keyRefresh.showGate).gatePost c 0 0
  else
    let (k, s) := s.commitRecs [g]
    ((s.legAccepted g).keyRefresh.showGate).gatePost c 0 k

/-- An accepted command. A READ leaves the words of the readback window beyond its record as they were (DESIGN CHOICE, log entry 163). -/
def State.gateDo (s : State) (c : GateCmd) : State :=
  match gateOpOf c.op with
  | some op => s.acceptChange c op
  | none =>
    if c.op = 4 then
      let r := (s.effRec c.table c.index).getD 0
      (forUpTo (recLen c.table / 4) (fun w (s : State) => s.wr (Reg.GATE_READBACK_w w) (BitVec.ofNat 32 (r / 2 ^ (32 * w)))) s).gatePost c 0 0
    else if c.op = 5 then ({ s with gate := { s.gate with txnOpen := true, txn := [] } }.showGate).gatePost c 0 0
    else if c.op = 6 then
      let records := s.gate.txn
      let s := { s with gate := { s.gate with txnOpen := false, txn := [] } }
      let (k, s) := if records = [] then (let (n, s) := s.fresh; ((Config.emptyCommit n).toNat, s)) else s.commitRecs records
      s.showGate.gatePost c 0 k
    else
      let records := s.gate.txn
      let s := { s with gate := { s.gate with txnOpen := false, txn := [] } }
      let s := forEach (records.filter (fun g => decide (g.table = 1))) (fun g (s : State) => s.settleLeg g.index) s
      s.keyRefresh.showGate.gatePost c 0 0

/-- GATE_ACCEPTANCE: the command in progress is validated and its result posted (R43, R510). -/
def execGateAcceptance (s : State) : Out :=
  match s.gate.cmd with
  | none => .next s
  | some c =>
    let s := { s with gate := { s.gate with cmd := none } }
    match s.gateErr c with
    | none => .next (s.gateDo c)
    | some e => .next ((s.gatePost c e.code 0).postErr gatePage (Reg.GATE_CMD % 4096) e.code)

/-! ### Commands -/

/-- The staging window as one number. -/
def State.stageWindow (s : State) : Nat := wordsNat ((List.range 128).map (fun w => s.rd (Reg.GATE_STAGE_w w)))

/-- A write of GATE_CMD copies the staging window into the gate (R43, R45); a reserved operation or bit is found by the gate itself (R510 step 2). A page that
quiesces takes no new command (R30). -/
def State.gateCmdWrite (s : State) (w : Word) : State :=
  if !s.linked Reg.GATE_CMD then s.reject Reg.GATE_CMD .state
  else if s.inReset Reg.GATE_CMD then s.reject Reg.GATE_CMD .busy
  else if s.on (Fld.PG_CTRL_QUIESCE gatePage) then s.reject Reg.GATE_CMD .state
  else if !s.on Fld.GATE_RESULT_VALID then s.reject Reg.GATE_CMD .busy
  else
    let c : GateCmd := ⟨bits w 0 4 + 16 * bits w 28 4, bits w 4 8, bits w 12 16, s.stageWindow⟩
    { s.unvalid Reg.GATE_RESULT with gate := { s.gate with cmd := some c } }

/-- The word of GATE_CMD. -/
def gateWord (op table index : Nat) : Word := BitVec.ofNat 32 (op + table % 256 * 2 ^ 4 + index % 65536 * 2 ^ 12)

/-- GATE_CREATE. -/
def execGateCreate (table index : Nat) (s : State) : Out := .next (s.gateCmdWrite (gateWord 1 table index))
/-- GATE_MODIFY. -/
def execGateModify (table index : Nat) (s : State) : Out := .next (s.gateCmdWrite (gateWord 2 table index))
/-- GATE_DELETE. -/
def execGateDelete (table index : Nat) (s : State) : Out := .next (s.gateCmdWrite (gateWord 3 table index))
/-- GATE_READ. -/
def execGateRead (table index : Nat) (s : State) : Out := .next (s.gateCmdWrite (gateWord 4 table index))
/-- GATE_TXN_OPEN. -/
def execGateTxnOpen (s : State) : Out := .next (s.gateCmdWrite (gateWord 5 0 0))
/-- GATE_TXN_COMMIT. -/
def execGateTxnCommit (s : State) : Out := .next (s.gateCmdWrite (gateWord 6 0 0))
/-- GATE_TXN_ABORT. -/
def execGateTxnAbort (s : State) : Out := .next (s.gateCmdWrite (gateWord 7 0 0))

end Sys2Proof.Machine
end

