-- ==== Sys2Proof/Machine/Taps.lean ====
section
/-! DEFINITION. Recording taps (spec/05_legs_and_transport.md, R108 to R110; R175): the records of a tick written to host rings; and the recall regions at a tick
(R111, R112). -/

namespace Sys2Proof.Machine

/-! ### Records of a conference's mix (R175) -/

/-- The domain of the active program's REC sink for conference c. -/
def State.recSinkDom (s : State) (c : Nat) : Option Nat :=
  s.audio.active.nodes.findSome? (fun g => (sinkOf g.kind).bind (fun t => if t.kind = 6 ∧ t.index = c then some g.dom else none))

/-- A tap of KIND 0x3 takes the signal of the tick that has ended. -/
def State.tapMix (s : State) (i r : Nat) : State :=
  let c := REC.SRC r
  let d := REC.DOMAIN r
  let x := s.tap i
  match (s.confA c).dom with
  | none => s
  | some dom =>
    let own := decide (s.recSinkDom c = some d)
    let hist := pushLine x.hist (s.confA c).bus bridgeKeep
    let b := if own then s.sunk 6 c (domN d) else bridgeTo dom d hist
    let n := domN d
    let bytes := (List.range n).flatMap (fun k => natBytes 4 (unsigned 32 ((b[k]?).getD 0)))
    s.setTap i { x with hist := hist, waiting := x.waiting ++ [(⟨roundUp (32 + 4 * n + (if REC.ENC r = 1 then 16 else 0)) 64, bytes⟩ : TapRec)] }

/-! ### Rings (R109, R110) -/

/-- Bytes free in a ring of `size` bytes; a ring whose offsets are equal is empty. -/
def ringFree (size off head : Nat) : Nat := if off < head then head - off else size - (off - head)

/-- The read offset in host memory at HEAD_ADDR. -/
def State.readHead (s : State) (r : Nat) : Nat := bytesNat (s.hostMem.readList (REC.HEAD_ADDR r) 8) % REC.RING_SIZE r

/-- The header of a record. -/
def tapHeader (i r len kind count tick : Nat) : List Byte :=
  natBytes 4 len ++ natBytes 2 (kind + (if kind = 0 then 0 else REC.ENC r * 8)) ++ natBytes 2 i ++ natBytes 8 count ++ natBytes 8 tick ++ natBytes 8 0

/-- The IV of a record: TAP and COUNT, big-endian. -/
def tapIv (i count : Nat) : List Byte := (natBytes 12 (i * 2 ^ 64 + count % 2 ^ 64)).reverse

/-- What follows the header: the body, encrypted with its tag when ENC = 1, and padding, which is free. -/
def tapTail (n i r len count : Nat) (header body : List Byte) (key : List Byte) : List Byte :=
  let l := if REC.ENC r = 1 then (List.range (body.length + 16)).map (Config.cipherByte 1 key (tapIv i count) header body) else body
  l ++ (List.range (len - 32 - l.length)).map (Config.tapPad n)

/-- A record of tick t is written, behind a pad record where it would cross the end of the ring. -/
def State.tapStore (s : State) (i r t : Nat) (x : TapRec) (key : List Byte) : State :=
  let p := s.tap i
  let size := REC.RING_SIZE r
  let base := REC.RING_BASE r
  let pad := if size - p.offset < x.len then size - p.offset else 0
  let s := if pad = 0 then s else s.hostPut (base + p.offset) (tapHeader i r pad 0 p.count t)
  let off := if pad = 0 then p.offset else 0
  let (n, s) := s.fresh
  let header := tapHeader i r x.len (REC.KIND r) p.count t
  let s := s.hostPut (base + off) (header ++ tapTail n i r x.len p.count header x.body key)
  s.setTap i { s.tap i with offset := (off + x.len) % size, count := p.count + 1 }

/-- One record of tick t of tap i: dropped where it does not fit; a refused key slot or a lost host link stops the tap. -/
def State.tapRecord (s : State) (i r t : Nat) (x : TapRec) : State :=
  let p := s.tap i
  let size := REC.RING_SIZE r
  let need := x.len + (if size - p.offset < x.len then size - p.offset else 0)
  if p.stopped.isSome then s
  else if !s.on Fld.HOSTIF_LINK_UP then s.tapStop i (Config.busErrorCode).toNat
  else
    let head := if ringFree size p.offset p.cachedHead ≤ need then s.readHead r else p.cachedHead
    let s := s.setTap i { p with cachedHead := head }
    if ringFree size p.offset head ≤ need then s.postLimited (REC.EVQ r) 0x03 0x20 i true 1 0
    else if REC.ENC r = 0 then s.tapStore i r t x []
    else
      match s.slot (REC.KEY_SLOT r) with
      | none => s.tapStop i Err.nokey.code
      | some k =>
        if k.count = 0xFFFFFFFF then (s.exhaustedEvent (REC.KEY_SLOT r) 2).tapStop i Err.exhausted.code
        else (s.invoke (REC.KEY_SLOT r)).tapStore i r t x k.key

/-- The records of tick t of tap i are written, and its write offset after them. -/
def State.tapWrite (s : State) (t i r : Nat) : State :=
  let s := if REC.KIND r = 3 ∧ (s.tap i).stopped = none then s.tapMix i r else s
  let l := (s.tap i).waiting
  if l = [] then s
  else
    let s := s.setTap i { s.tap i with waiting := [] }
    let s := forEach l (fun x s => s.tapRecord i r t x) s
    if (s.tap i).stopped.isSome then s else s.hostPut (REC.TAIL_ADDR r) (natBytes 8 (s.tap i).offset)

/-- Every tap at the end of tick t. -/
def State.tapsTick (s : State) (t : Nat) : State := forEach (tableRecs s.gate.effective 3) (fun p s => s.tapWrite t p.1 p.2) s

/-! ### Recall regions (R111, R112) -/

/-- Entries older than RECALL_MIN minutes are reclaimed but for those frozen, and the descriptor is rewritten. -/
def State.recallTick (s : State) (c r : Nat) : State :=
  if CONF.RECALL_EN r = 0 then s
  else
    let x := s.conf c
    let kept := x.entries.filter (fun e => e.frozen || !decide (e.time + CONF.RECALL_MIN r * 60000000000 < s.lnow))
    let oldest := match kept with | e :: _ => e.offset | [] => x.next
    (s.setConf c { x with entries := kept }).dramPut (CONF.RECALL_BASE r)
      (natBytes 8 oldest ++ natBytes 8 x.next ++ natBytes 1 (b2n x.freezeTick.isSome))

/-- Every recall region at a tick boundary. -/
def State.recallsTick (s : State) : State := forEach (tableRecs s.gate.effective 2) (fun p s => s.recallTick p.1 p.2) s

end Sys2Proof.Machine
end

