-- ==== Sys2Proof/Machine/Tick.lean ====
section
/-! DEFINITION. Audio tick boundaries, frame boundaries and trigger edges (spec/01_device_overview.md, R18 to R21; spec/03_belfry_timebase.md, R62;
spec/05_legs_and_transport.md, R113 to R115; spec/17_twin_redundancy.md, R343 to R346). -/

namespace Sys2Proof.Machine

/-! ### TDM ports (R114, R115) -/

/-- A block of 48 silent frames. -/
def silentFrames : List (List Word) := List.replicate 48 []

/-- The 48 frames of a block: the last one repeated, those beyond dropped. -/
def fitFrames (l : List (List Word)) : List (List Word) := (l ++ List.replicate 48 (l.getLast?.getD [])).take 48

/-- An external frame sync's tick of k frames at a locked port: 47 and 49 slip, 48 is kept, and every other count loses the lock. -/
def State.tdmHold (s : State) (n k : Nat) : State :=
  if k = 48 then s
  else if k = 47 ∨ k = 49 then
    let s := (s.bump (Fld.TDMn_SLIP_COUNT n)).event (tdmPage n) 1
    s.postLimited (s.get (Fld.TDMn_CFG_EVQ n)) 0x04 0x30 n true 1 0
  else
    let s := ((s.tdmLocked n false).event (tdmPage n) 2).post (s.get (Fld.TDMn_CFG_EVQ n)) 0x04 0x31 n 0
    s.setTdm n { s.tdmPort n with goodTicks := 0 }

/-- A tick of k frames at an unlocked port: 16 ticks of 48 in a row lock it. -/
def State.tdmSeek (s : State) (n k : Nat) : State :=
  let g := if k = 48 then (s.tdmPort n).goodTicks + 1 else 0
  let s := s.setTdm n { s.tdmPort n with goodTicks := g }
  if g < 16 then s else ((s.tdmLocked n true).event (tdmPage n) 3).post (s.get (Fld.TDMn_CFG_EVQ n)) 0x04 0x32 n 0

/-- The tick of port n ends: its frames are counted and become the receive block, silence while the port is unlocked. `own` is false on a twin whose
blocks come from the Ledger. -/
def State.tdmEnd (s : State) (n : Nat) (own : Bool) : State :=
  let frames := (s.tdmPort n).frames
  let k := frames.length
  let enabled := s.on (Fld.PG_CTRL_ENABLE (tdmPage n))
  let ext := s.on (Fld.TDMn_CFG_SYNC_EXT n)
  let was := s.on (Fld.TDMn_STATUS_LOCKED n)
  let s := if enabled then s.put (Fld.TDMn_STATUS_FRAMES n) (Nat.min 63 k) else s
  let s := if !enabled then s else if !ext then s.tdmLocked n true else if was then s.tdmHold n k else s.tdmSeek n k
  let good := enabled && (!ext || (was && s.on (Fld.TDMn_STATUS_LOCKED n)))
  let t := s.tdmPort n
  s.setTdm n { t with frames := [], block := if own then (if good then fitFrames frames else silentFrames) else t.block }

/-- The transmit block the graph tick that ended gave port n is sent in this one; that of an unlocked or disabled port is discarded. -/
def State.tdmSend (s : State) (n : Nat) : State :=
  if s.on (Fld.PG_CTRL_ENABLE (tdmPage n)) && s.on (Fld.TDMn_STATUS_LOCKED n) then s else s.setTdm n { s.tdmPort n with tx := [] }

/-! ### Clock measurement (CLK_FREQk) -/

/-- The nominal clock of island i in units of 0.1 MHz (R421). -/
def State.islandClock (s : State) (i : Nat) : Nat :=
  if i = 0 then 5000
  else if i = 1 then 10000
  else if i = 2 then 11000
  else if i < 11 then opClock (s.get (Fld.PWR_CLc_STATUS_OP (i - 3)))
  else if i = 11 then 10000
  else if i < 20 then 16000
  else if i < 24 then 8789
  else 3906

/-- Each island's clock measured over the tick that ended; 0 while it does not run. -/
def State.measureClocks (s : State) : State :=
  forUpTo 28 (fun i (s : State) => s.put (Fld.CLK_FREQk_FREQ i) (if s.on ⟨Reg.CLK_RUN, i, 1⟩ then s.islandClock i else 0)) s

/-- A window of 100 ms ends: LOAD of every engine, and the entropy source's sample count. -/
def State.windowEnd (s : State) : State :=
  let s := s.loadWindow
  let (k, s) := s.fresh
  s.put Fld.ALARM_HEALTH_SAMPLES (Config.entropySamples k).toNat

/-! ### The edges of generators 0 and 1 (R62) -/

/-- An edge of generator n that no register schedules. -/
def State.fixedEdge (s : State) (n : Nat) : State :=
  (((s.bump (Fld.BELFRY_TRGn_STATUS_EDGES n)).event belfryPage (16 + n)).captureInternal 5 n false)

/-! ### The twin at a boundary (R343, R353, R359, R361) -/

/-- The acting senior's Ledger block of tick t ends: its TDM blocks and its tick mark are sent. -/
def State.ledgerEnd (s : State) (t : Nat) : State :=
  let send (e : LedgerEntry) (s : State) : State := s.sendMsg 3 0 1 1 (64 * ledgerUnits e) (.ledger t [e])
  let ports := (List.range 4).filter (fun n => s.on (Fld.PG_CTRL_ENABLE (tdmPage n)))
  let s := forEach ports (fun n (s : State) => send (.tdm n (s.tdmPort n).block) s) s
  let own := s.portBits
  let other := (s.twin.partner.map Heartbeat.ports).getD 15
  let swap := decide (s.twin.swapAt = some t)
  let s := send (.tick swap own other t (s.twin.digestsOf t false)) s
  let s := s.modTwin (fun w => { w with ledger := [], seniorPorts := own, juniorPorts := other })
  (s.bankDrain 8).wr64 Reg.TWIN_EXEC_LO t

/-- Bulk copy messages of 1 MiB. -/
def State.sendCopy (s : State) (mib : Nat) : State := forUpTo mib (fun _ (s : State) => s.sendMsg 3 3 1 5 (2 ^ 20) (.bulk (2 ^ 20))) s

/-- Both twins at freeze tick F ask for switch points for every OSTR of the legs being resynchronised (R353 step 3). -/
def State.freezeSwitches (s : State) (legs : List Nat) : State :=
  forEach ((tableRecs s.gate.effective 7).filter (fun p => legs.contains (OSTR.LEG p.2)))
    (fun p (s : State) => s.requestSwitch (OSTR.SRC_KIND p.2) (OSTR.SRC p.2)) s

/-- The acting senior at freeze tick t: copies of the legs named for t that still exist, and the snapshot of a full copy (R353, R359). -/
def State.freezeSend (s : State) (t : Nat) : State :=
  let legs := ((s.twin.freezes.filter (fun p => decide (p.1 = t))).map (·.2)).flatten
  let s := s.modTwin (fun w => { w with freezes := w.freezes.filter (fun p => decide (t < p.1)) })
  let s := s.freezeSwitches legs
  let s := forEach (legs.filter (fun l => decide (s.effRec 1 l ≠ none)))
    (fun l (s : State) => s.sendMsg 3 3 1 5 (Config.legCopyBytes l).toNat (.bulk (Config.legCopyBytes l).toNat)) s
  if s.twin.freezeAt = some t then
    let (k, s) := s.fresh
    (s.modTwin (fun w => { w with freezeAt := none })).sendCopy (Config.copyMiB k).toNat
  else s

/-- After swap tick S the acting senior of a revert becomes JUNIOR (R361 step 3). -/
def State.swapSenior (s : State) (t : Nat) : State :=
  match s.twin.swapAt with
  | some x =>
    if x + 1 ≤ t then
      let s := (s.modTwin (fun w => { w with swapAt := none, common := x })).enterTwin 3
      s.post s.twinEvq 0x0F 0xE6 0 (x % 2 ^ 32)
    else s
  | none => s

/-! ### The media work of a boundary (R20) -/

/-- Layouts, effective or about to be created, whose next frame boundary is the instant `at_`, ascending. -/
def State.layoutsAt (s : State) (at_ : Nat) : List Nat :=
  (s.layouts.keys).filter (fun l => decide ((s.layout l).next.2 = at_) &&
    ((s.layout l).effective || s.gate.pending.any (fun g => decide (g.table = 8) && decide (g.index = l))))

/-- Steps 1 to 4 of R20, which every boundary takes in every device state; cascade frames move only while media is processed (R438, R440). -/
def State.boundaryTake (s : State) (t : Nat) (junior : Bool) (lays : List Nat) : State :=
  let s := ((s.gateTick t).bankSwap).fabricBoundary t
  let s := if s.devState = 0 then s.cascadeBoundary t junior else s
  let s := s.activateProgram t
  forEach lays (fun l (s : State) => s.gateFrame l) s

/-- The frame boundaries of layouts that fall while no media is processed: their numbers go on (R441). -/
def State.framesPass (s : State) (lays : List Nat) : State :=
  forEach lays (fun l (s : State) =>
    let x := s.layout l
    let k := frameAfter (s.layRec l) x.next.2
    let s := s.fixedEdge 1
    if x.effective then s.setLayout l { x with next := (k, frameNs (s.layRec l) k) } else s) s

/-- Step 5 of R20, the pictures and retransmission requests of the tick, and pictures over links. -/
def State.boundaryTasks (s : State) (t : Nat) (lays : List Nat) : State :=
  let s := s.audioSettings.audioBoundary t
  let s := forUpTo 4 (fun n (s : State) => s.tdmSend n) s
  let s := forEach lays (fun l (s : State) => (s.fixedEdge 1).composeAt l) s
  let vs := (tableRecs s.gate.effective 6).map (·.1)
  let s := forEach vs (fun v (s : State) => (s.nackSend v).releaseDue v t) s
  let s := forEach ((tableRecs s.gate.effective 1).map (·.1)) (fun l (s : State) => s.ccfbSend l) s
  s.linkPictures t

/-- Changes of the device state due at this boundary (R440, R442). -/
def State.powerBoundary (s : State) : State :=
  let s := match s.pwr.enterAt with
    | some t => if t ≤ s.tick then s.entryStart else s
    | none => s
  if s.pwr.activeDue then s.becomeActive else s

/-- Tasks whose hard limit is the boundary that falls, or has passed: they are late at it, whether HARD_LIMIT_EXPIRE came before or not (R23). -/
def State.limitsPassed (s : State) : State :=
  forEach (s.tasks.filter (fun p => p.2.timed && decide (p.2.hard ≤ s.lnow)))
    (fun p (s : State) => match s.task p.1 with | some t => s.limitEnd p.1 t none | none => s) s

/-- The tick that boundary t ends: the clusters have read their tick frames, and its graph, the taps and recall buffers end. -/
def State.tickClose (s : State) (t : Nat) : State :=
  let s := forUpTo 8 (fun c (s : State) => s.bankDrain c) s.limitsPassed
  if s.devState = 0 then ((s.graphEnd (t - 1)).tapsTick (t - 1)).recallsTick else s

/-- Boundary t as R20 orders it: the tick before ends; records take effect and bank queues swap whatever the device state; the state may change; and a device that is then ACTIVE hands
the tick's tasks to Reeve. -/
def State.boundaryWork (s : State) (t : Nat) (junior : Bool) : State :=
  let lays := s.layoutsAt (boundaryNs t)
  let s := ((s.tickClose t).boundaryTake t junior lays).powerBoundary
  if s.devState = 0 then s.boundaryTasks t lays else s.framesPass lays

/-- What every device does at each of its boundaries: the return to OSC_REF, generator 0, TDM frame counts, and measurement. -/
def State.ownBoundary (s : State) (own : Bool) : State :=
  let s := if s.bel.oscReturning then s.oscReturn else s
  let s := (s.fixedEdge 0).measureClocks
  let s := forUpTo 4 (fun n (s : State) => s.tdmEnd n own) s
  if s.tick % 100 = 0 then s.windowEnd else s

/-- What follows the media work: firmware, the lag, the mask shares, and the bounds of the operating points. -/
def State.boundaryClose (s : State) (fwReady : Bool) : State := ((((s.fwBoundary s.ltick fwReady).closeLag).shareTick).boundsTick).releaseAll

/-- The boundary of a tick falls. -/
def State.tickFalls (s : State) (t : Nat) : State := { s with clk := { s.clk with ticked := t } }

/-- The boundary that starts logical tick t, on a device that admits its own inputs. -/
def State.tickBoundary (s : State) (t : Nat) (fwReady : Bool) : State :=
  let s := s.ownBoundary true
  let s := if s.twinState = 2 then ((s.ledgerEnd (t - 1)).freezeSend t).swapSenior t else s
  let s := if s.twinState = 3 then s else s.boundaryWork t false
  s.boundaryClose fwReady

/-- AUDIO_TICK_BOUNDARY: the next boundary of R18 falls. `fwReady` says whether a new image is ready at its boundary (R471). A device that takes its inputs from the Ledger does the tick's media work by JUNIOR_TICK_EXECUTE. -/
def execAudioTickBoundary (fwReady : Bool) (s : State) : Out :=
  if s.twinState = 3 ∨ s.twinState = 5 then
    let t := tickAfter s.clk.ticked s.now
    let s := (s.runTo (boundaryNs t)).tickFalls t
    .next ((s.ownBoundary false).boundaryClose fwReady)
  else
    let t := s.nextTick
    let s := (s.runTo (boundaryNs t + s.lag)).tickFalls t
    .next (s.tickBoundary t fwReady)

/-- FRAME_BOUNDARY: the next frame boundary of layout `lay` falls (R19): commits due there take effect and the COMPOSE task is submitted. One that coincides with
a tick boundary falls with it (R20 step 4). -/
def execFrameBoundary (lay : Nat) (s : State) : Out :=
  let x := s.layout lay
  let due := x.effective || s.gate.pending.any (fun g => decide (g.table = 8) && decide (g.index = lay))
  if due = false ∨ (x.next.2 % 1000000 = 0 ∧ (s.lnow < x.next.2 ∨ boundaryNs s.nextTick = x.next.2)) then .next s
  else
    let s := s.runTo (x.next.2 + s.lag)
    let s := (s.fixedEdge 1).limitsPassed
    let s := s.gateFrame lay
    if s.devState = 0 then .next (s.composeAt lay).releaseAll
    else
      let n := frameAfter (s.layRec lay) x.next.2
      .next (if (s.layout lay).effective then s.setLayout lay { s.layout lay with next := (n, frameNs (s.layRec lay) n) } else s)

/-- TRIGGER_EDGE: generator n reaches its next edge; the edge of generators 7 to 10 is the frame sync of their TDM port, whose slots carry `samples`. Edges
of generators 0 and 1 fall with the boundaries they mark. A device in QUIET or DEEP may wake on it (R441). -/
def execTriggerEdge (n : Nat) (samples : List Word) (s : State) : Out :=
  if s.trgRunning n = false then .next s
  else
    let tdm := decide (7 ≤ n) && decide (n ≤ 10)
    let s := if tdm && decide (s.trgEdgeTime n (s.trg n).nextK < s.now) then
        s.setTrg n { s.trg n with nextK := s.trgFirstAfter n s.now }
      else s
    let s := s.trgEdge n
    let s := if tdm then s.tdmFrame (n - 7) samples else s
    let wakes := s.on Fld.PWR_CFG_WAKE_GEN_EN && decide (s.get Fld.PWR_CFG_WAKE_GEN = n) && (decide (s.devState = 2) || decide (s.devState = 3))
    .next (if wakes then s.wakeBegin 0 else s)

end Sys2Proof.Machine
end

