-- ==== Sys2Proof/Machine/TwinExec.lean ====
section
/-! DEFINITION. Executing logical ticks from the Ledger, and releasing packets (spec/17_twin_redundancy.md, R345 to R348, R353, R357, R359, R361, R388;
spec/07_egress_scheduling.md, R151). -/

namespace Sys2Proof.Machine

/-! ### The inputs of a tick (R347, R348) -/

/-- A packet has the key of an ADMIT entry. -/
def admitMatches (ssrc seq h64 : Nat) (p : RxPkt) : Bool := decide (p.ssrc = ssrc) && decide (p.seq = seq) && decide (p.h64 = h64)

/-- The stored copy an ADMIT entry names, if it verifies. -/
def State.storedCopy (s : State) (l ssrc seq h64 : Nat) : Option RxPkt :=
  (s.twin.store.find? (fun x => decide (x.leg = l) && admitMatches ssrc seq h64 x.pkt &&
    (decide (LEG.PROFILE (s.legRec l) = 0) || x.pkt.okNew || x.pkt.okOld))).map StoredPkt.pkt

/-- A cascade frame has the key of a CASCADE entry. -/
def frameMatches (link tick h64 : Nat) (x : Nat × CFrame) : Bool :=
  decide (x.1 = link) && decide (x.2.tick = tick) && decide ((crc64 (cframeBytes x.2)).toNat = h64)

/-- The tick mark. -/
def isMark : LedgerEntry → Bool
  | .tick _ _ _ _ _ => true
  | .admitted _ _ _ _ _ _ _ _ _ _ | .gate _ _ _ _ _ _ | .write _ _ _ | .image _ _ _ _ _ _ | .cascade _ _ _ _ | .tdm _ _ | .resync _ _ | .key _ _ _ => false

/-- What an entry names is present: a packet or frame stored or fetched; a key that unwraps under the pair key; for an activation, an image staged in the other slot
(R460). -/
def State.entryHere (s : State) (packets : List RxPkt) (frames : List (Nat × CFrame)) : LedgerEntry → Bool
  | .admitted l ssrc seq h64 _ _ _ _ _ _ => (s.storedCopy l ssrc seq h64).isSome || packets.any (admitMatches ssrc seq h64)
  | .cascade link tick _ h64 => (s.fab.arrived ++ frames).any (frameMatches link tick h64)
  | .key _ op _ => decide (op ≠ 1) || s.on Fld.KEYSTORE_PAIR_SLOT_VALID
  | .write addr _ _ => decide (addr ≠ Reg.FAULT_FW_CMD) || s.otherImage.isSome
  | .gate _ _ _ _ _ _ | .image _ _ _ _ _ _ | .tdm _ _ | .resync _ _ | .tick _ _ _ _ _ => true

/-- The block of a tick. -/
def State.blockOf (s : State) (t : Nat) : List LedgerEntry := s.twin.blocks.get (fun _ => []) t

/-- The tick mark of t and everything its block names are present (R348). -/
def State.inputsHere (s : State) (t : Nat) (packets : List RxPkt) (frames : List (Nat × CFrame)) : Bool :=
  (s.blockOf t).any isMark && (s.blockOf t).all (s.entryHere packets frames)

/-! ### The entries (R345) -/

/-- ADMIT: the packet is admitted with the senior's stamp, port, LAN and path. -/
def State.takeAdmit (s : State) (packets : List RxPkt) (l ssrc seq h64 stamp port : Nat) (lanB path1 : Bool) : State :=
  match s.storedCopy l ssrc seq h64 with
  | some p =>
    let s := s.modTwin (fun w => { w with store := w.store.filter (fun x => !(decide (x.leg = l) && admitMatches ssrc seq h64 x.pkt)) })
    s.srtpRx l stamp port lanB path1 p
  | none =>
    match packets.find? (admitMatches ssrc seq h64) with
    | some p => (s.bumpSat Fld.TWIN_FETCH_PKTS).srtpRx l stamp port lanB path1 p
    | none => s

/-- GATE: an accepted record with its boundary. -/
def State.takeGate (s : State) (op table index data boundary : Nat) : State :=
  match gateOpOf op with
  | none => s
  | some o =>
    let g : GateRec := ⟨o, table, index, data, boundary⟩
    let s := { s with gate := { s.gate with pending := s.gate.pending ++ [g] } }
    let s := if table = 8 ∧ o = .create ∧ (s.layout index).effective = false then
        s.setLayout index { s.layout index with next := (boundary, frameNs data boundary) }
      else s
    ((s.legAccepted g).keyRefresh).showGate

/-- A WRITE of AUDIO_PROG_CMD. -/
def State.takeProgCmd (s : State) (op tick : Nat) : State :=
  if op = 2 then { s with audio := { s.audio with activateAt := some tick } }
  else if op = 3 then { s with audio := { s.audio with shadow := none } }.put Fld.AUDIO_PROG_SHADOW_ID_ID 0
  else s

/-- A WRITE of AUDIO_RPn_CMD. -/
def State.takePlayerCmd (s : State) (n op tick : Nat) : State :=
  if op = 1 then
    let s := s.setPlayer n { playing := true, startAt := tick }
    (s.put (Fld.AUDIO_RPn_STATUS_STATE n) 1).put (Fld.AUDIO_RPn_STATUS_PLAYED n) 0
  else if (s.player n).playing then s.playerStop n 2
  else s

/-- A kernel takes a slot of cluster c, or none does. -/
def State.takeKernel (s : State) (c slot : Nat) (g : Kernel) : State :=
  let s := { s with kernels := s.kernels.set (fun _ => {}) (c * 8 + slot) g }
  let s := s.put (Fld.MILLC_KIDk_ID c slot) g.id
  (s.put (Fld.MILLC_KCODE_BYTES c) (s.kernelBytes c)).placeKernels c

/-- WRITE: an input register's accepted write, or a command recorded as one. -/
def State.takeWrite (s : State) (addr value tick : Nat) : State :=
  if addr = Reg.AUDIO_PROG_CMD then s.takeProgCmd (value % 16) tick
  else if addr = Reg.FAULT_FW_CMD then s.modSvc (fun v => { v with fwActive := s.otherImage.map (fun f => (tick, f)) })
  else match (List.range 8).find? (fun c => decide (Reg.MILLC_KCMD c = addr)), (List.range 16).find? (fun n => decide (Reg.AUDIO_RPn_CMD n = addr)) with
    | some c, _ => s.takeKernel c (value / 16 % 8) {}
    | none, some n => s.takePlayerCmd n (value % 4) tick
    | none, none => (s.applyWrite addr (BitVec.ofNat 32 value)).showTwin

/-- IMAGE: a program or kernel copied over LINK3. -/
def State.takeImage (s : State) (kernel : Bool) (place addr : Nat) (bytes : List Byte) : State :=
  if kernel then s.takeKernel (place / 8) (place % 8) ((s.dramPut addr bytes).readKernel addr)
  else
    let p := progOfImage bytes
    { s with audio := { s.audio with shadow := some p } }.put Fld.AUDIO_PROG_SHADOW_ID_ID p.id

/-- RESYNC: the legs' freeze tick. -/
def State.takeResync (s : State) (legs : List Nat) (f : Nat) : State :=
  s.modTwin (fun w => { w with
    freezes := w.freezes ++ [(f, legs)]
    syncs := w.syncs.map (fun y => if legs.contains y.leg then ({ y with f := f, copied := false, matched := 0 } : LegSync) else y) })

/-- KEY: a context is loaded or erased, one invocation of the pair key counted (R388). -/
def State.takeKey (s : State) (c op data : Nat) : State :=
  let s := if s.on Fld.KEYSTORE_PAIR_SLOT_VALID then s.invoke (s.get Fld.KEYSTORE_PAIR_SLOT_SLOT) else s
  if op = 1 then s.loadCtx c data else s.eraseCtx c

/-- The tick mark: port-up bits, the senior's digests, and the swap (R351, R352, R361). -/
def State.takeMark (s : State) (swap : Bool) (senior junior t : Nat) (digests : List (Nat × Nat)) : State :=
  s.modTwin (fun w => { w with
    seniorPorts := senior
    juniorPorts := junior
    digests := w.digests.set (fun _ => []) t digests
    swapAt := if swap then some t else w.swapAt })

/-- One entry of the block. CASCADE entries are served before the boundary's work. -/
def State.takeEntry (s : State) (packets : List RxPkt) : LedgerEntry → State
  | .admitted l ssrc seq h64 stamp _ port lanB path1 _ => s.takeAdmit packets l ssrc seq h64 stamp port lanB path1
  | .gate op table index data boundary _ => s.takeGate op table index data boundary
  | .write addr value tick => s.takeWrite addr value tick
  | .image kernel place addr _ _ bytes => s.takeImage kernel place addr bytes
  | .cascade _ _ _ _ => s
  | .tdm port block => s.setTdm port { s.tdmPort port with block := block }
  | .resync legs f => s.takeResync legs f
  | .key c op data => s.takeKey c op data
  | .tick swap senior junior t digests => s.takeMark swap senior junior t digests

/-! ### A logical tick (R348, R353, R359, R361) -/

/-- The cascade frames the block names, from the device's own tree or fetched. -/
def State.serveFrames (s : State) (es : List LedgerEntry) (frames : List (Nat × CFrame)) : State :=
  let s := s.modFab (fun f => { f with frames := [] })
  forEach es (fun e (s : State) => match e with
    | .cascade link tick _ h64 =>
      match s.fab.arrived.find? (frameMatches link tick h64), frames.find? (frameMatches link tick h64) with
      | some x, _ => s.modFab (fun f => { f with frames := f.frames ++ [x] })
      | none, some x => (s.bumpSat Fld.TWIN_FETCH_FRAMES).modFab (fun f => { f with frames := f.frames ++ [x] })
      | none, none => s
    | .admitted _ _ _ _ _ _ _ _ _ _ | .gate _ _ _ _ _ _ | .write _ _ _ | .image _ _ _ _ _ _ | .tdm _ _ | .resync _ _ | .key _ _ _ | .tick _ _ _ _ _ => s) s

/-- A copied context takes the place of the leg's own (R353 step 5); the leg stays silenced. -/
def State.installCopy (s : State) (c : LegCopy) : State :=
  let s := (s.setLeg c.leg { c.data with silenced := true }).setLegA c.leg c.audio
  let s := forEach c.ostrs (fun p (s : State) => s.setOstr p.1 p.2) s
  let s := forEach c.vstrs (fun p (s : State) => s.setVstr p.1 p.2) s
  s.modTwin (fun w => { w with syncs := w.syncs.map (fun y => if y.leg = c.leg then ({ y with copied := true } : LegSync) else y) })

/-- Freeze tick t of one leg: its copy is taken, asked for again if it is not here, or dropped when the leg is deleted. -/
def State.freezeLeg (s : State) (t : Nat) (copies : List LegCopy) (l : Nat) : State :=
  if s.effRec 1 l = none then s.modTwin (fun w => { w with syncs := w.syncs.filter (fun y => decide (y.leg ≠ l)) })
  else match copies.find? (fun c => decide (c.leg = l)) with
    | some c => s.installCopy c
    | none => s.sendMsg 3 0 1 2 32 (.diverged t [l])

/-- Freeze tick t on the junior. -/
def State.freezeTake (s : State) (t : Nat) (copies : List LegCopy) : State :=
  let legs := ((s.twin.freezes.filter (fun p => decide (p.1 = t))).map (·.2)).flatten
  let s := s.modTwin (fun w => { w with freezes := w.freezes.filter (fun p => decide (t < p.1)) })
  forEach legs (fun l (s : State) => s.freezeLeg t copies l) (s.freezeSwitches legs)

/-- After swap tick S the strap senior becomes SENIOR and keeps its lag (R361 step 2). -/
def State.swapJunior (s : State) (t : Nat) : State :=
  if s.twin.swapAt = some t ∧ s.twinState = 3 then
    let s := (s.modTwin (fun w => { w with swapAt := none })).enterTwin 2
    s.post s.twinEvq 0x0F 0xE6 0 (t % 2 ^ 32)
  else s

/-- The clock reaches the boundary of logical tick t; in catch-up the lag is what puts t at the present instant. -/
def State.reachTick (s : State) (t : Nat) : State :=
  if s.twinState = 5 then s.wr Reg.TWIN_LAG (BitVec.ofNat 32 (s.now - boundaryNs t)) else s.runTo (boundaryNs t + s.lag)

/-- What the block of t executed leaves. -/
def State.tickExecuted (s : State) (t : Nat) : State :=
  let s := (s.modTwin (fun w => { w with blocks := w.blocks.filter (fun p => decide (t < p.1)), common := t })).wr64 Reg.TWIN_EXEC_LO t
  let s := if s.twinState = 5 then s.put Fld.TWIN_COPY_BEHIND (Nat.min (2 ^ 24 - 1) s.ticksBehind) else s.bankDrain 9
  s.swapJunior t

/-- Logical tick t from the Ledger. -/
def State.tickFromLedger (s : State) (t : Nat) (packets : List RxPkt) (frames : List (Nat × CFrame)) (copies : List LegCopy) : State :=
  let es := s.blockOf t
  let s := s.reachTick t
  let s := ((s.freezeTake t copies).serveFrames es frames).boundaryWork t true
  let s := forEach es (fun e (s : State) => s.takeEntry packets e) s
  (s.releaseAll).tickExecuted t

/-- JUNIOR_TICK_EXECUTE: the next logical tick runs when its tick mark and every packet and frame its block names are present (R348); `packets` and `frames` are
those fetched from the senior, `copies` the leg contexts that have arrived. In RESYNC the ticks from F on run once the copy is complete (R359). -/
def execJuniorTickExecute (packets : List RxPkt) (frames : List (Nat × CFrame)) (copies : List LegCopy) (s : State) : Out :=
  let t := s.rd64 Reg.TWIN_EXEC_LO + 1
  let may := decide (s.twinState = 3) || (decide (s.twinState = 5) && s.twin.copied)
  if may && s.inputsHere t packets frames then .next (s.tickFromLedger t packets frames copies) else .next s

/-! ### Releases (R151, R357) -/

/-- PACKET_RELEASE: the release instant of packet `id` arrives; the first release after a strap junior became SOLE makes the jump of R357. -/
def execPacketRelease (id : Nat) (s : State) : Out :=
  match (if s.muted then none else s.pkt id) with
  | none => .next s
  | some p => .next ((if s.releaseNow p then s.twinJump else s).packetRelease id)

end Sys2Proof.Machine
end

