-- ==== Sys2Proof/Machine/RegWrite.lean ====
section
/-! DEFINITION. Host accesses to BAR0 (spec/02_register_conventions.md, R29 to R41; spec/21_islands_and_crossings.md, R429): what a write of each register does,
64-bit pairs, the fence, selector fetches, and accesses that are misaligned or unmapped. -/

namespace Sys2Proof.Machine

/-! ### Plain registers and pairs (R33, R36) -/

/-- The index of the register at `addr` in an array of n registers. -/
def indexOf (f : Nat → Nat) (n addr : Nat) : Option Nat := (List.range n).find? (fun k => decide (f k = addr))

/-- A write with no effect beyond the register. -/
def State.plainWrite (s : State) (addr : Nat) (w : Word) : State := s.checked addr w (fun _ => none) (fun s => s.applyWrite addr w)

/-- A write with a check of the block's own. -/
def State.guardWrite (s : State) (addr : Nat) (w : Word) (e : Option Err) : State := s.checked addr w (fun _ => e) (fun s => s.applyWrite addr w)

/-- A check that holds or rejects with a code. -/
def rejectIf (bad : Bool) (e : Err) : Option Err := if bad then some e else none

/-- The low half a pair holds for its next _HI write. -/
def State.held (s : State) (lo : Nat) : Word := s.heldLo.get (fun _ => 0) lo

/-- The pair at lo written whole: its held low half and a high half. -/
def State.pairApply (s : State) (lo : Nat) (w : Word) : State := (s.applyWrite lo (s.held lo)).applyWrite (lo + 4) w

/-- What the owning block rejects a write of either half of a pair with. -/
def State.pairErr (s : State) (lo : Nat) : Option Err :=
  match indexOf Reg.BELFRY_TRGn_START_SEC_LO 16 lo, indexOf Reg.PLANEn_PUNT_BASE_LO 2 lo, indexOf Reg.PLANEn_INJ_BASE_LO 2 lo, indexOf Reg.DMA_CHc_RING_LO 32 lo with
  | some n, _, _, _ => rejectIf (s.on (Fld.BELFRY_TRGn_CTRL_ENABLE n)) .state
  | none, some n, _, _ => rejectIf (s.on (Fld.PLANEn_PUNT_CFG_ENABLE n)) .state
  | none, none, some n, _ => rejectIf (s.on (Fld.PLANEn_INJ_CFG_ENABLE n)) .state
  | none, none, none, some c => rejectIf (decide (s.dmaState c ≠ 0)) .state
  | none, none, none, none =>
    if lo = Reg.SRTP_STATS_BASE_LO then rejectIf (s.on Fld.SRTP_STATS_CFG_ENABLE) .state
    else if (indexOf Reg.AUDIO_RPn_START_LO 16 lo).isSome then rejectIf s.twinJunior .twin
    else if lo = Reg.TWIN_CATCHUP_BASE_LO then rejectIf (decide (s.twinState = 5)) .state
    else if lo = Reg.CRIER_RING_LO then rejectIf (s.on Fld.CRIER_CFG_ENABLE) .state
    else if lo = Reg.CRIER_FRING_LO then rejectIf (s.on Fld.CRIER_CFG_RELAY) .state
    else if lo = Reg.DUMP_ADDR_LO then rejectIf (s.on Fld.DUMP_CFG_ENABLE) .state
    else none

/-- What a whole pair is rejected with: a multicast address of a plane, a change of a plane's address while a leg is bound to it (R71), a catch-up store in the
media region. -/
def State.pairWholeErr (s : State) (lo : Nat) (w : Word) : Option Err :=
  match indexOf Reg.PLANEn_MAC_LO 2 lo with
  | some n =>
    if bit w 8 then some .range else rejectIf (s.planeBound n && decide (s.rd lo ≠ s.held lo ∨ s.rd (lo + 4) ≠ w)) .state
  | none =>
  if lo = Reg.TWIN_CATCHUP_BASE_LO then
    rejectIf (s.inMedia ((s.held lo).toNat + 2 ^ 32 * bits w 0 6) (s.get Fld.TWIN_CATCHUP_SIZE_GIB * 2 ^ 30)) .conflict
  else none

/-- A write of a _LO register of a writable pair is held. -/
def State.pairLoWrite (s : State) (lo : Nat) (w : Word) : State :=
  s.checked lo w (fun s => s.pairErr lo) (fun s => { s with heldLo := s.heldLo.set (fun _ => 0) lo w })

/-- A write of _HI applies the pair; the pair of a recall player is an input of R187. -/
def State.pairHiWrite (s : State) (hi : Nat) (w : Word) : State :=
  let lo := hi - 4
  s.checked hi w (fun s => (s.pairErr lo).orElse (fun _ => s.pairWholeErr lo w))
    (fun s =>
      let s := if (indexOf Reg.AUDIO_RPn_START_LO 16 lo).isSome then
          (s.record (.write lo (s.held lo).toNat (s.ltick + 1))).record (.write hi w.toNat (s.ltick + 1))
        else s
      s.pairApply lo w)

/-! ### The common header (R29, R30) -/

/-- A junior rejects every write of its KEYSTORE page (R346). -/
def State.headErr (s : State) (addr : Nat) : Option Err := rejectIf (decide (pageOf addr = 0xC1000) && s.twinJunior) .twin

/-- A write in the common header. A new PG_EVENT_EN may raise the page's vector. -/
def State.headWrite (s : State) (addr : Nat) (w : Word) : State :=
  let p := pageOf addr
  if addr = Reg.PG_CTRL p then s.pgCtrlWrite p w
  else s.checked addr w (fun s => s.headErr addr) (fun s => s.withIrq p (fun s => s.applyWrite addr w))

/-! ### Pages of the core, Belfry, ports and planes -/

/-- GLOBAL. -/
def State.globalPageWrite (s : State) (addr : Nat) (w : Word) : State :=
  if addr = Reg.GLOBAL_RESET then s.globalResetWrite w
  else if addr = Reg.GLOBAL_BOOT_CMD then s.bootCmdWrite w
  else s.plainWrite addr w

/-- BELFRY_PTPn_CFG: no field but ENABLE changes while the clock runs; UDP and the domain number as the profile allows (R56). -/
def State.ptpCfgErr (s : State) (n : Nat) (w : Word) : Option Err :=
  let old := s.rd (Reg.BELFRY_PTPn_CFG n)
  let profile := bits w 0 3
  let domain := bits w 8 8
  let fixed := decide (profile = 2 ∨ profile = 3)
  if (fixed && decide (domain ≠ (Config.ptpDomain profile).toNat)) || (!fixed && decide (127 < domain)) then some .range
  else if bit old 7 && decide (putBits old 7 1 0 ≠ putBits w 7 1 0) then some .state
  else rejectIf (fixed && decide (bits w 3 2 = 1 ∨ bits w 3 2 = 2)) .conflict

/-- BELFRY_CAPn_CTRL: clearing ENABLE empties the FIFO; that captures were discarded is still told with the next entry popped (R65). -/
def State.capCtrlWrite (s : State) (n : Nat) (w : Word) : State :=
  s.checked (Reg.BELFRY_CAPn_CTRL n) w (fun _ => none)
    (fun s =>
      let s := s.applyWrite (Reg.BELFRY_CAPn_CTRL n) w
      if bit w 0 then s else s.setCap n { s.cap n with fifo := [] })

/-- A generator's registers but CTRL and START_SEC: its settings only while it is disabled (R62, R63). -/
def State.trgRegWrite (s : State) (n addr : Nat) (w : Word) : State :=
  let setting := decide (addr ≠ Reg.BELFRY_TRGn_STATUS n)
  s.guardWrite addr w (rejectIf (setting && s.on (Fld.BELFRY_TRGn_CTRL_ENABLE n)) .state)

/-- BELFRY. -/
def State.belfryPageWrite (s : State) (addr : Nat) (w : Word) : State :=
  if addr = Reg.BELFRY_CTRL then s.belfryCtrlWrite w
  else if addr = Reg.BELFRY_ADDEND then s.guardWrite addr w (rejectIf (s.on Fld.BELFRY_CTRL_SERVO_EN) .state)
  else if addr = Reg.BELFRY_STEP_CMD then s.stepCmdWrite w
  else if addr = Reg.BELFRY_UTC then s.checked addr w (fun s => rejectIf s.ptpActive .state) (fun s => s.utcSet w)
  else if addr = Reg.BELFRY_SRC then s.belfrySrcWriteOp w
  else match indexOf Reg.BELFRY_PTPn_CFG 2 addr, indexOf Reg.BELFRY_CAPn_CTRL 8 addr, indexOf Reg.BELFRY_TRGn_CTRL 16 addr with
    | some n, _, _ => s.guardWrite addr w (s.ptpCfgErr n w)
    | none, some n, _ => s.capCtrlWrite n w
    | none, none, some n => s.trgCtrlWrite n w
    | none, none, none =>
      if Reg.BELFRY_TRGn_CTRL 0 ≤ addr ∧ addr < Reg.BELFRY_TRGn_CTRL 16 then s.trgRegWrite ((addr - Reg.BELFRY_TRGn_CTRL 0) / 0x20) addr w
      else s.plainWrite addr w

/-- PLANEn_CFG, the IP addresses and the VLAN entries do not change while a leg is bound to the plane (R71). -/
def State.planeSetErr (s : State) (n addr : Nat) (w : Word) : Option Err :=
  rejectIf (decide (Reg.PLANEn_CFG n ≤ addr ∧ addr ≤ Reg.PLANEn_VLANk n 7) && s.planeBound n && decide (s.rd addr ≠ w)) .state

/-- PLANEn. -/
def State.planePageWrite (s : State) (n addr : Nat) (w : Word) : State :=
  if addr = Reg.PLANEn_PUNT_CFG n then s.puntCfgWrite n w
  else if addr = Reg.PLANEn_PUNT_PTR n then s.puntPtrWrite n w
  else if addr = Reg.PLANEn_INJ_PTR n then s.injPtrWrite n w
  else s.guardWrite addr w (s.planeSetErr n addr w)

/-- PKTOUT_LEGQ_CELLS: MAX not below MIN, no LEG record effective or pending, and the sum of R159 not above 122,880 (the code for that is DEDUCED, log entry 184). -/
def State.legCellsErr (s : State) (w : Word) : Option Err :=
  if bits w 16 16 < bits w 0 16 then some .range
  else if s.anyLeg then some .state
  else rejectIf (decide (122880 + 4 * s.get Fld.PKTOUT_LEGQ_CELLS_MIN < s.minSum + 4 * bits w 0 16)) .noslot

/-- SCHEDn_CFG: STRICT_EN is not cleared above 256 leg queues (R154). -/
def State.schedErr (s : State) (n : Nat) (w : Word) : Option Err :=
  rejectIf (s.on (Fld.SCHEDn_CFG_STRICT_EN n) && !bit w 0 && decide (256 < s.planeLegs (n / 2))) .state

/-- PKTIN, PKTOUT, SCHEDn, SRTP, ADAPT and TDMn. -/
def State.mediaPageWrite (s : State) (addr : Nat) (w : Word) : State :=
  if addr = Reg.PKTIN_LEG_SEL then s.pktinSelWrite w
  else if addr = Reg.PKTOUT_LEG_SEL then s.pktoutSelWrite w
  else if addr = Reg.PKTOUT_LEGQ_CELLS then s.guardWrite addr w (s.legCellsErr w)
  else if addr = Reg.ADAPT_LEG_SEL then s.adaptLegSelWrite w
  else if addr = Reg.ADAPT_OSTR_SEL then s.adaptOstrSelWrite w
  else match indexOf Reg.SCHEDn_CFG 4 addr, indexOf Reg.TDMn_CFG 4 addr with
    | some n, _ => s.guardWrite addr w (s.schedErr n w)
    | none, some n => s.tdmCfgWrite n w
    | none, none => s.plainWrite addr w

/-! ### Gate, Granary, event queues, audio and Mill -/

/-- GATE, GRANARY and EVQ. -/
def State.queuePageWrite (s : State) (addr : Nat) (w : Word) : State :=
  if addr = Reg.GATE_CMD then s.gateCmdWrite w
  else if addr = Reg.GRANARY_Q_SEL then s.granarySelWrite w
  else match indexOf Reg.EVQn_CFG 64 addr with
    | some n => s.evqCfgWrite n w
    | none => s.plainWrite addr w

/-- A recall player's registers. -/
def State.playerPageWrite (s : State) (n addr : Nat) (w : Word) : State :=
  if addr = Reg.AUDIO_RPn_CMD n then s.playerCmdWrite n w
  else if addr = Reg.AUDIO_RPn_SRC n ∨ addr = Reg.AUDIO_RPn_CODEC n then s.playerRegWrite n addr w
  else s.plainWrite addr w

/-- AUDIO. -/
def State.audioPageWrite (s : State) (addr : Nat) (w : Word) : State :=
  if addr = Reg.AUDIO_CFG ∨ addr = Reg.AUDIO_SEL ∨ addr = Reg.AUDIO_ACT_THRESH then s.audioSetWrite addr w
  else if addr = Reg.AUDIO_PROG_CMD then s.progCmdWrite w
  else if addr = Reg.AUDIO_PATH_SNK then s.pathSnkWrite w
  else if addr = Reg.AUDIO_METER_SEL then s.meterSelWrite w
  else if addr = Reg.AUDIO_SEAT_SEL then s.seatSelWrite w
  else if Reg.AUDIO_RPn_SRC 0 ≤ addr ∧ addr < Reg.AUDIO_RPn_SRC 16 then s.playerPageWrite ((addr - Reg.AUDIO_RPn_SRC 0) / 0x20) addr w
  else s.plainWrite addr w

/-- MILLCc. -/
def State.millPageWrite (s : State) (c addr : Nat) (w : Word) : State :=
  if addr = Reg.MILLC_KCMD c then s.kernelCmdWrite c w
  else if addr = Reg.MILLC_BENCH_SEL c then s.benchSelWrite c w
  else if addr = Reg.MILLC_BENCH_CMD c then s.benchCmdWrite c w
  else s.plainWrite addr w

/-! ### Engines, Reeve, Binath, twin and memory -/

/-- VDEn, VEEn, CMPn and REEVE. -/
def State.enginePageWrite (s : State) (addr : Nat) (w : Word) : State :=
  if addr = Reg.VDE0_STR_SEL then s.strSelWrite w
  else if addr = Reg.CMP0_LAY_SEL then s.laySelWrite w
  else if addr = Reg.VEE0_EC_SEL then s.ecSelWrite w
  else if addr = Reg.REEVE_FLOW_SEL then s.flowSelWrite w
  else match indexOf Reg.REEVE_PORTn_CFG 5 addr with
    | some n => s.reevePortWrite n w
    | none => s.plainWrite addr w

/-- BINATHn. -/
def State.binathPageWrite (s : State) (addr : Nat) (w : Word) : State :=
  if addr = Reg.BINATH0_FABRIC then s.fabricWrite w
  else match indexOf Reg.BINATHn_CFG 4 addr, indexOf Reg.BINATH0_FCONFk 64 addr with
    | some n, _ => s.linkCfgWrite n w
    | none, some k => s.fconfWrite k w
    | none, none => s.plainWrite addr w

/-- TWIN_CATCHUP_SIZE: not in RESYNC, not so large that the store reaches the media region. -/
def State.catchupSizeErr (s : State) (w : Word) : Option Err :=
  if s.twinState = 5 then some .state else rejectIf (s.inMedia (s.rd64 Reg.TWIN_CATCHUP_BASE_LO) (bits w 0 7 * 2 ^ 30)) .conflict

/-- TWIN. -/
def State.twinPageWrite (s : State) (addr : Nat) (w : Word) : State :=
  if addr = Reg.TWIN_CFG ∨ addr = Reg.TWIN_WAIT ∨ addr = Reg.TWIN_WAIT2 then s.twinSetWrite addr w
  else if addr = Reg.TWIN_CMD then s.twinCmdWrite w
  else if addr = Reg.TWIN_CATCHUP_SIZE then s.guardWrite addr w (s.catchupSizeErr w)
  else s.plainWrite addr w

/-- DDRCn and WEIR. -/
def State.memoryPageWrite (s : State) (addr : Nat) (w : Word) : State :=
  if addr = Reg.WEIR_FENCE_SEL then s.fenceSelWrite w
  else match indexOf Reg.DDRCn_DEV_SEL 8 addr, indexOf Reg.WEIR_PORTp_CFG 17 addr with
    | some n, _ => s.devSelWrite n w
    | none, some p => s.weirCfgWrite p w
    | none, none => s.plainWrite addr w

/-! ### Security, host interface, power and service -/

/-- CIPHER. -/
def State.cipherPageWrite (s : State) (addr : Nat) (w : Word) : State :=
  if addr = Reg.CIPHER_LOCK then s.cipherLockWrite w
  else if addr = Reg.CIPHER_JOB_CMD then s.jobCmdWrite w
  else if addr = Reg.CIPHER_SLOT_CMD then s.slotCmdWrite w
  else if addr = Reg.CIPHER_SLOT_SEL then s.slotSelWrite w
  else match indexOf Reg.CIPHER_KEYIN_w 16 addr with
    | some i => s.keyinWrite i w
    | none => s.plainWrite addr w

/-- KEYSTORE. -/
def State.keystorePageWrite (s : State) (addr : Nat) (w : Word) : State :=
  if addr = Reg.KEYSTORE_CMD then s.keystoreCmdWrite w
  else if addr = Reg.KEYSTORE_SEL then s.keystoreSelWrite w
  else if addr = Reg.KEYSTORE_PAIR_SLOT then s.pairSlotWrite w
  else match indexOf Reg.KEYSTORE_STAGE_w 20 addr with
    | some i => s.stageWrite i w
    | none => s.guardWrite addr w (s.headErr addr)

/-- ALARM. -/
def State.alarmPageWrite (s : State) (addr : Nat) (w : Word) : State :=
  if addr = Reg.ALARM_CMD then s.alarmCmdWrite w
  else if addr = Reg.ALARM_BOOT then s.alarmBootWrite w
  else if addr = Reg.ALARM_SVN_CMD then s.svnCmdWrite w
  else s.plainWrite addr w

/-- DMAn. -/
def State.dmaPageWrite (s : State) (addr : Nat) (w : Word) : State :=
  match indexOf Reg.DMA_CHc_CTRL 32 addr, indexOf Reg.DMA_CHc_TAIL 32 addr, indexOf Reg.DMA_CHc_CMD 32 addr with
  | some c, _, _ => s.dmaCtrlWrite c w
  | none, some c, _ => s.dmaTailWrite c w
  | none, none, some c => s.dmaCmdWrite c w
  | none, none, none => s.plainWrite addr w

/-- PWR. -/
def State.pwrPageWrite (s : State) (addr : Nat) (w : Word) : State :=
  if addr = Reg.PWR_STATE_CMD then s.stateCmdWrite w
  else if addr = Reg.PWR_GOV then s.govWrite w
  else if addr = Reg.PWR_DOM_CMD then s.domCmdWrite w
  else match indexOf Reg.PWR_CLc_CTRL 8 addr with
    | some c => s.clCtrlWrite c w
    | none => s.plainWrite addr w

/-- CLK, CRIER, FAULT, DUMP and HOSTIF. -/
def State.servicePageWrite (s : State) (addr : Nat) (w : Word) (f : WriteFacts) : State :=
  if addr = Reg.FAULT_SVC_CMD then s.svcCmdWrite w f.targets
  else if addr = Reg.FAULT_FW_CMD then s.fwCmdWrite w
  else if addr = Reg.CRIER_CFG then s.crierCfgWrite w
  else if addr = Reg.DUMP_CFG then s.dumpCfgWrite w
  else s.plainWrite addr w

/-! ### The dispatch of a host write (R32, R33, R39, R41) -/

/-- A write of a block register, by the page it lies in. -/
def State.blockWrite (s : State) (addr : Nat) (w : Word) (f : WriteFacts) : State :=
  let p := pageOf addr
  if p = 0 then s.globalPageWrite addr w
  else if p = belfryPage then s.belfryPageWrite addr w
  else if p = pwrPage then s.pwrPageWrite addr w
  else if p < 0x10000 then s.servicePageWrite addr w f
  else if p < 0x20000 then s.dmaPageWrite addr w
  else if p < 0x24000 then
    match indexOf Reg.ETHn_CFG 4 addr with
    | some n => s.ethCfgWrite n w
    | none => s.plainWrite addr w
  else if p < 0x26000 then s.planePageWrite ((p - 0x24000) / 0x1000) addr w
  else if p < 0x40000 then s.mediaPageWrite addr w
  else if p < 0x50000 then s.queuePageWrite addr w
  else if p < 0x60000 then s.millPageWrite ((p - 0x50000) / 0x1000) addr w
  else if p < 0x70000 then s.audioPageWrite addr w
  else if p < 0xA0000 then s.enginePageWrite addr w
  else if p < twinPage then s.binathPageWrite addr w
  else if p < 0xB0000 then s.twinPageWrite addr w
  else if p < 0xC0000 then s.memoryPageWrite addr w
  else if p < 0xC1000 then s.cipherPageWrite addr w
  else if p < 0xC2000 then s.keystorePageWrite addr w
  else s.alarmPageWrite addr w

/-- BAR0 is not reached: reset or PERST_N is held. -/
def State.hostCut (s : State) : Bool := s.boot.held || s.boot.perst

/-- A write to an unmapped address (R41). -/
def State.unmappedWrite (s : State) (addr : Nat) : State := (s.put Fld.GLOBAL_BADADDR_ADDR (addr % 2 ^ 26)).bumpSat Fld.GLOBAL_BADADDR_COUNT

/-- An aligned 32-bit host write. -/
def State.hostWrite (s : State) (addr : Nat) (w : Word) (f : WriteFacts) : State :=
  match pageAt addr, specAt addr with
  | none, _ => s.unmappedWrite addr
  | some _, none => s.reject addr ((s.writeErr addr w).getD .reserved)
  | some _, some r =>
    if addr % 4096 < 0x40 then s.headWrite addr w
    else if r.role = .lo ∧ r.writable = true then s.pairLoWrite addr w
    else if r.role = .hi ∧ r.writable = true then s.pairHiWrite addr w
    else s.blockWrite addr w f

/-- REGISTER_WRITE: the host writes a register. A register with behaviour of its own behaves as its own command says. -/
def execRegisterWrite (addr : Nat) (w : Word) (f : WriteFacts) (s : State) : Out :=
  if s.hostCut ∨ addr % 4 ≠ 0 then .next s
  else match slotCore addr with
    | some k => execMillSlotWrite k ((addr - 0x1000000) % 0x20000) w s
    | none => .next (s.hostWrite addr w f)

/-- MISALIGNED_ACCESS: an access to BAR0 that is not an aligned 32-bit one (R32). OFFSET keeps the low two bits of the address (DESIGN CHOICE, log entry 160). -/
def execMisalignedAccess (addr : Nat) (write : Bool) (s : State) : Out :=
  if s.hostCut then .next s
  else if write = false then .next { s with readData := 0 }
  else match pageAt addr, slotCore addr with
    | some _, _ => .next (s.reject addr .align)
    | none, some k => .next (s.postErr (millPage (k / 16)) (addr % 4096) Err.align.code)
    | none, none => .next (s.unmappedWrite addr)

/-- UNMAPPED_WRITE: a write to an unmapped address is recorded in GLOBAL_BADADDR (R41). -/
def execUnmappedWrite (addr : Nat) (s : State) : Out :=
  if s.hostCut ∨ (pageAt addr).isSome = true ∨ (slotCore addr).isSome = true then .next s else .next (s.unmappedWrite addr)

/-- PAIR_LO_READ: a read of a _LO register loads its pair's capture register of the reader and returns the low half; on a page that is not LINKED or is in reset it
returns 0 and captures nothing (R36, R431). BELFRY_SEC_LO captures the whole clock. -/
def execPairLoRead (r : Reader) (addr : Nat) (s : State) : Out :=
  if addr = Reg.BELFRY_SEC_LO then execBelfryCaptureRead r s
  else match specAt addr with
    | none => .next s
    | some x =>
      if x.role ≠ .lo then .next s
      else if !s.linked addr || s.inReset addr then .next { s with readData := 0 }
      else .next { s.setCapture r (addr + 4) (s.liveWord (addr + 4)) with readData := s.liveWord addr }

/-- PAIR_HI_WRITE: a write of a _HI register of a writable pair (R36). -/
def execPairHiWrite (addr : Nat) (w : Word) (s : State) : Out :=
  match specAt addr with
  | none => .next s
  | some r => if s.hostCut ∨ r.role ≠ .hi then .next s else if r.writable then .next (s.pairHiWrite addr w) else .next (s.plainWrite addr w)

/-! ### The fence (R37, R429) -/

/-- GLOBAL_FENCE_READ: the read waits for every earlier write. While the page is not served or is in reset it returns 0 at once (R30). -/
def execGlobalFenceRead (s : State) : Out :=
  if s.hostCut then .next s
  else if !s.linked Reg.GLOBAL_FENCE || s.inReset Reg.GLOBAL_FENCE then .next { s with readData := 0 }
  else .next { s with fences := s.fences ++ [s.now] }

/-- FENCE_READ_COMPLETE: the oldest fence read completes and returns the short time. -/
def execFenceReadComplete (s : State) : Out :=
  match s.fences with
  | [] => .next s
  | _ :: t => .next { s.put ⟨Reg.GLOBAL_FENCE, 0, 32⟩ s.shortTime with fences := t, readData := BitVec.ofNat 32 s.shortTime }

/-! ### Selector fetches (R35) -/

/-- The fetch a selector started ends. -/
def State.fetchEnd (s : State) (sel : Nat) : State :=
  if sel = Reg.PKTIN_LEG_SEL then s.pktinFetch
  else if sel = Reg.PKTOUT_LEG_SEL then s.pktoutFetch
  else if sel = Reg.ADAPT_LEG_SEL then s.adaptLegFetch
  else if sel = Reg.ADAPT_OSTR_SEL then s.adaptOstrFetch
  else if sel = Reg.GRANARY_Q_SEL then s.granaryFetch
  else if sel = Reg.AUDIO_PATH_SNK then s.pathFetch
  else if sel = Reg.AUDIO_METER_SEL then s.meterFetch
  else if sel = Reg.AUDIO_SEAT_SEL then s.seatFetch
  else if sel = Reg.VDE0_STR_SEL then s.strFetch
  else if sel = Reg.CMP0_LAY_SEL then s.layFetch
  else if sel = Reg.VEE0_EC_SEL then s.ecFetch
  else if sel = Reg.REEVE_FLOW_SEL then s.flowFetch
  else if sel = Reg.WEIR_FENCE_SEL then s.fenceFetch
  else if sel = Reg.CIPHER_SLOT_SEL then s.slotFetch
  else if sel = Reg.KEYSTORE_SEL then s.keystoreFetch
  else match indexOf Reg.DDRCn_DEV_SEL 8 sel with
    | some n => s.devFetch n
    | none => s

/-- RESULT_FETCH_COMPLETE: the fetch started by a write of the selector register `sel` completes; its result registers post with a new GEN. -/
def execResultFetchComplete (sel : Nat) (s : State) : Out :=
  if s.fetches.contains sel then .next ({ s with fetches := s.fetches.filter (fun a => decide (a ≠ sel)) }.fetchEnd sel) else .next s

end Sys2Proof.Machine
end

