-- ==== Sys2Proof/Machine/Dispatch.lean ====
section
/-! DEFINITION. One arm per command: its meaning. -/

namespace Sys2Proof.Machine

def exec (i : Instr) (s : State) : Host.Outcome State Fault Refusal :=
  match i with
  | .audioTickBoundary fwReady => Sys2Proof.Machine.execAudioTickBoundary fwReady s
  | .frameBoundary lay => Sys2Proof.Machine.execFrameBoundary lay s
  | .hardLimitExpire slot quarter => Sys2Proof.Machine.execHardLimitExpire slot quarter s
  | .pageReset page enable quiesce => Sys2Proof.Machine.execPageReset page enable quiesce s
  | .pageResetComplete page => Sys2Proof.Machine.execPageResetComplete page s
  | .quiesceSet page enable => Sys2Proof.Machine.execQuiesceSet page enable s
  | .quiesceDone page => Sys2Proof.Machine.execQuiesceDone page s
  | .registerWrite addr w facts => Sys2Proof.Machine.execRegisterWrite addr w facts s
  | .misalignedAccess addr write => Sys2Proof.Machine.execMisalignedAccess addr write s
  | .unmappedWrite addr => Sys2Proof.Machine.execUnmappedWrite addr s
  | .pairLoRead r addr => Sys2Proof.Machine.execPairLoRead r addr s
  | .pairHiWrite addr w => Sys2Proof.Machine.execPairHiWrite addr w s
  | .globalFenceRead => Sys2Proof.Machine.execGlobalFenceRead s
  | .fenceReadComplete => Sys2Proof.Machine.execFenceReadComplete s
  | .resultFetchComplete sel => Sys2Proof.Machine.execResultFetchComplete sel s
  | .gateCreate table index => Sys2Proof.Machine.execGateCreate table index s
  | .gateModify table index => Sys2Proof.Machine.execGateModify table index s
  | .gateDelete table index => Sys2Proof.Machine.execGateDelete table index s
  | .gateRead table index => Sys2Proof.Machine.execGateRead table index s
  | .gateTxnOpen => Sys2Proof.Machine.execGateTxnOpen s
  | .gateTxnCommit => Sys2Proof.Machine.execGateTxnCommit s
  | .gateTxnAbort => Sys2Proof.Machine.execGateTxnAbort s
  | .gateAcceptance => Sys2Proof.Machine.execGateAcceptance s
  | .belfryCaptureRead r => Sys2Proof.Machine.execBelfryCaptureRead r s
  | .oscLost => Sys2Proof.Machine.execOscLost s
  | .oscBack => Sys2Proof.Machine.execOscBack s
  | .servoSample m => Sys2Proof.Machine.execServoSample m s
  | .ptpSourceLost plane passiveReceives => Sys2Proof.Machine.execPtpSourceLost plane passiveReceives s
  | .ppsSourceLost => Sys2Proof.Machine.execPpsSourceLost s
  | .binathSourceLost => Sys2Proof.Machine.execBinathSourceLost s
  | .servoEnableWrite en => Sys2Proof.Machine.execServoEnableWrite en s
  | .stepEnWrite en => Sys2Proof.Machine.execStepEnWrite en s
  | .belfrySrcWrite w => Sys2Proof.Machine.execBelfrySrcWrite w s
  | .stepAbs => Sys2Proof.Machine.execStepAbs s
  | .stepRel => Sys2Proof.Machine.execStepRel s
  | .ptpMessageRx m => Sys2Proof.Machine.execPtpMessageRx m s
  | .ptpMessageTx plane lanB kind => Sys2Proof.Machine.execPtpMessageTx plane lanB kind s
  | .triggerEnable n oneshot invert => Sys2Proof.Machine.execTriggerEnable n oneshot invert s
  | .triggerEdge n samples => Sys2Proof.Machine.execTriggerEdge n samples s
  | .triggerPulseEnd n => Sys2Proof.Machine.execTriggerPulseEnd n s
  | .captureEdge src falling hold => Sys2Proof.Machine.execCaptureEdge src falling hold s
  | .capturePop n => Sys2Proof.Machine.execCapturePop n s
  | .ethLinkUp n remoteFault => Sys2Proof.Machine.execEthLinkUp n remoteFault s
  | .ethLinkDown n fecLock aligned localFault signal remoteFault => Sys2Proof.Machine.execEthLinkDown n fecLock aligned localFault signal remoteFault s
  | .frameReceive f => Sys2Proof.Machine.execFrameReceive f s
  | .prpEntryForget plane src => Sys2Proof.Machine.execPrpEntryForget plane src s
  | .prpSupervisionTx plane => Sys2Proof.Machine.execPrpSupervisionTx plane s
  | .puntHeadWrite plane head => Sys2Proof.Machine.execPuntHeadWrite plane head s
  | .injectTailWrite plane tail => Sys2Proof.Machine.execInjectTailWrite plane tail s
  | .injectSlotSend plane => Sys2Proof.Machine.execInjectSlotSend plane s
  | .pktinLegSel leg => Sys2Proof.Machine.execPktinLegSel leg s
  | .rtcpReport leg => Sys2Proof.Machine.execRtcpReport leg s
  | .nackRetry vstr seq => Sys2Proof.Machine.execNackRetry vstr seq s
  | .jbRecompute leg => Sys2Proof.Machine.execJbRecompute leg s
  | .rxIdle leg => Sys2Proof.Machine.execRxIdle leg s
  | .videoWaitExpire vstr ts absent => Sys2Proof.Machine.execVideoWaitExpire vstr ts absent s
  | .tdmFrameSync n samples => Sys2Proof.Machine.execTdmFrameSync n samples s
  | .legStatsWrite leg => Sys2Proof.Machine.execLegStatsWrite leg s
  | .eventWindowExpire cls code obj sub => Sys2Proof.Machine.execEventWindowExpire cls code obj sub s
  | .ccUpdate leg => Sys2Proof.Machine.execCcUpdate leg s
  | .pliSend vstr => Sys2Proof.Machine.execPliSend vstr s
  | .adaptLegSel leg => Sys2Proof.Machine.execAdaptLegSel leg s
  | .adaptOstrSel ostr => Sys2Proof.Machine.execAdaptOstrSel ostr s
  | .packetEnqueue leg kind ostr len releaseTick ts marker pay mismatch => Sys2Proof.Machine.execPacketEnqueue leg kind ostr len releaseTick ts marker pay mismatch s
  | .packetRelease id => Sys2Proof.Machine.execPacketRelease id s
  | .frameDepart port => Sys2Proof.Machine.execFrameDepart port s
  | .pktoutLegSel leg => Sys2Proof.Machine.execPktoutLegSel leg s
  | .granaryEnqueue q item mismatch => Sys2Proof.Machine.execGranaryEnqueue q item mismatch s
  | .granaryClaim q mismatch => Sys2Proof.Machine.execGranaryClaim q mismatch s
  | .granaryReadComplete q => Sys2Proof.Machine.execGranaryReadComplete q s
  | .queueSweepComplete q => Sys2Proof.Machine.execQueueSweepComplete q s
  | .bankqWrite k tick len => Sys2Proof.Machine.execBankqWrite k tick len s
  | .evqPop n mismatch => Sys2Proof.Machine.execEvqPop n mismatch s
  | .granaryQSel q mismatch => Sys2Proof.Machine.execGranaryQSel q mismatch s
  | .progLoad => Sys2Proof.Machine.execProgLoad s
  | .progLoadDone => Sys2Proof.Machine.execProgLoadDone s
  | .progActivate => Sys2Proof.Machine.execProgActivate s
  | .progDiscard => Sys2Proof.Machine.execProgDiscard s
  | .audioPathSnk kind index => Sys2Proof.Machine.execAudioPathSnk kind index s
  | .audioMeterSel kind index => Sys2Proof.Machine.execAudioMeterSel kind index s
  | .audioSeatSel conf => Sys2Proof.Machine.execAudioSeatSel conf s
  | .recallPlay player => Sys2Proof.Machine.execRecallPlay player s
  | .recallStop player => Sys2Proof.Machine.execRecallStop player s
  | .nop core => Sys2Proof.Machine.execNop core s
  | .add x dd dx dy => Sys2Proof.Machine.execAdd x dd dx dy s
  | .sub x dd dx dy => Sys2Proof.Machine.execSub x dd dx dy s
  | .adds x dd dx dy => Sys2Proof.Machine.execAdds x dd dx dy s
  | .subs x dd dx dy => Sys2Proof.Machine.execSubs x dd dx dy s
  | .and x dd dx dy => Sys2Proof.Machine.execAnd x dd dx dy s
  | .or x dd dx dy => Sys2Proof.Machine.execOr x dd dx dy s
  | .xor x dd dx dy => Sys2Proof.Machine.execXor x dd dx dy s
  | .shl x dd dx dy => Sys2Proof.Machine.execShl x dd dx dy s
  | .shr x dd dx dy => Sys2Proof.Machine.execShr x dd dx dy s
  | .sra x dd dx dy => Sys2Proof.Machine.execSra x dd dx dy s
  | .shli x dd dx imm => Sys2Proof.Machine.execShli x dd dx imm s
  | .shri x dd dx imm => Sys2Proof.Machine.execShri x dd dx imm s
  | .srai x dd dx imm => Sys2Proof.Machine.execSrai x dd dx imm s
  | .min x dd dx dy => Sys2Proof.Machine.execMin x dd dx dy s
  | .max x dd dx dy => Sys2Proof.Machine.execMax x dd dx dy s
  | .abss x dd dx => Sys2Proof.Machine.execAbss x dd dx s
  | .negs x dd dx => Sys2Proof.Machine.execNegs x dd dx s
  | .cmplt x dd dx dy => Sys2Proof.Machine.execCmplt x dd dx dy s
  | .cmpeq x dd dx dy => Sys2Proof.Machine.execCmpeq x dd dx dy s
  | .addi x dd dx imm => Sys2Proof.Machine.execAddi x dd dx imm s
  | .movi x dd imm => Sys2Proof.Machine.execMovi x dd imm s
  | .movh x dd imm => Sys2Proof.Machine.execMovh x dd imm s
  | .mpy x aa dx dy => Sys2Proof.Machine.execMpy x aa dx dy s
  | .mac x aa dx dy => Sys2Proof.Machine.execMac x aa dx dy s
  | .msu x aa dx dy => Sys2Proof.Machine.execMsu x aa dx dy s
  | .mpysu x aa dx dy => Sys2Proof.Machine.execMpysu x aa dx dy s
  | .macsu x aa dx dy => Sys2Proof.Machine.execMacsu x aa dx dy s
  | .mpy2 x aa dx dy => Sys2Proof.Machine.execMpy2 x aa dx dy s
  | .mac2 x aa dx dy => Sys2Proof.Machine.execMac2 x aa dx dy s
  | .msu2 x aa dx dy => Sys2Proof.Machine.execMsu2 x aa dx dy s
  | .aclr x aa => Sys2Proof.Machine.execAclr x aa s
  | .aadd x aa dx imm => Sys2Proof.Machine.execAadd x aa dx imm s
  | .ashr x aa imm => Sys2Proof.Machine.execAshr x aa imm s
  | .ashl x aa imm => Sys2Proof.Machine.execAshl x aa imm s
  | .amov x aa src => Sys2Proof.Machine.execAmov x aa src s
  | .sat x dd aa => Sys2Proof.Machine.execSat x dd aa s
  | .ardl x dd aa => Sys2Proof.Machine.execArdl x dd aa s
  | .ardh x dd aa => Sys2Proof.Machine.execArdh x dd aa s
  | .ardg x dd aa => Sys2Proof.Machine.execArdg x dd aa s
  | .awrl x aa dx => Sys2Proof.Machine.execAwrl x aa dx s
  | .awrh x aa dx => Sys2Proof.Machine.execAwrh x aa dx s
  | .awrg x aa dx => Sys2Proof.Machine.execAwrg x aa dx s
  | .ld x reg pn mode off => Sys2Proof.Machine.execLd x reg pn mode off s
  | .st x reg pn mode off => Sys2Proof.Machine.execSt x reg pn mode off s
  | .sts x reg pn mode off => Sys2Proof.Machine.execSts x reg pn mode off s
  | .ldh x reg pn mode off => Sys2Proof.Machine.execLdh x reg pn mode off s
  | .sth x reg pn mode off => Sys2Proof.Machine.execSth x reg pn mode off s
  | .ldp x reg pn mode off => Sys2Proof.Machine.execLdp x reg pn mode off s
  | .br x disp => Sys2Proof.Machine.execBr x disp s
  | .call x disp => Sys2Proof.Machine.execCall x disp s
  | .ret x => Sys2Proof.Machine.execRet x s
  | .reti x => Sys2Proof.Machine.execReti x s
  | .bz x d disp => Sys2Proof.Machine.execBz x d disp s
  | .bnz x d disp => Sys2Proof.Machine.execBnz x d disp s
  | .bltz x d disp => Sys2Proof.Machine.execBltz x d disp s
  | .bgez x d disp => Sys2Proof.Machine.execBgez x d disp s
  | .loop0 x d len => Sys2Proof.Machine.execLoop0 x d len s
  | .loop1 x d len => Sys2Proof.Machine.execLoop1 x d len s
  | .loopi0 x count len => Sys2Proof.Machine.execLoopi0 x count len s
  | .loopi1 x count len => Sys2Proof.Machine.execLoopi1 x count len s
  | .movs x d special => Sys2Proof.Machine.execMovs x d special s
  | .movd x d special => Sys2Proof.Machine.execMovd x d special s
  | .ei x => Sys2Proof.Machine.execEi x s
  | .di x => Sys2Proof.Machine.execDi x s
  | .halt x => Sys2Proof.Machine.execHalt x s
  | .interruptEntry core => Sys2Proof.Machine.execInterruptEntry core s
  | .kernelBudgetEnd core => Sys2Proof.Machine.execKernelBudgetEnd core s
  | .kernelLoad cluster slot => Sys2Proof.Machine.execKernelLoad cluster slot s
  | .kernelUnload cluster slot => Sys2Proof.Machine.execKernelUnload cluster slot s
  | .kernelLoadDone cluster => Sys2Proof.Machine.execKernelLoadDone cluster s
  | .benchEnable cluster core enable => Sys2Proof.Machine.execBenchEnable cluster core enable s
  | .benchStart cluster => Sys2Proof.Machine.execBenchStart cluster s
  | .benchHalt cluster => Sys2Proof.Machine.execBenchHalt cluster s
  | .benchMbx cluster => Sys2Proof.Machine.execBenchMbx cluster s
  | .millSlotWrite core off w => Sys2Proof.Machine.execMillSlotWrite core off w s
  | .vde0StrSel vstr => Sys2Proof.Machine.execVde0StrSel vstr s
  | .cmp0LaySel lay layer => Sys2Proof.Machine.execCmp0LaySel lay layer s
  | .vee0EcSel ecomp s' t => Sys2Proof.Machine.execVee0EcSel ecomp s' t s
  | .taskSubmit typ port key second cluster => Sys2Proof.Machine.execTaskSubmit typ port key second cluster s
  | .taskDispatch => Sys2Proof.Machine.execTaskDispatch s
  | .taskComplete engine facts => Sys2Proof.Machine.execTaskComplete engine facts s
  | .engineFault engine cause => Sys2Proof.Machine.execEngineFault engine cause s
  | .watchdogExpire engine => Sys2Proof.Machine.execWatchdogExpire engine s
  | .engineResetDone engine => Sys2Proof.Machine.execEngineResetDone engine s
  | .taskCancelStop engine => Sys2Proof.Machine.execTaskCancelStop engine s
  | .katChunk engine chunk done pass => Sys2Proof.Machine.execKatChunk engine chunk done pass s
  | .testOverdue engine => Sys2Proof.Machine.execTestOverdue engine s
  | .reeveFlowSel flow => Sys2Proof.Machine.execReeveFlowSel flow s
  | .binathLaneLock link => Sys2Proof.Machine.execBinathLaneLock link s
  | .binathTrainTimeout link => Sys2Proof.Machine.execBinathTrainTimeout link s
  | .binathIdentRx link ident => Sys2Proof.Machine.execBinathIdentRx link ident s
  | .binathLockLost link lane => Sys2Proof.Machine.execBinathLockLost link lane s
  | .binathFlitTimeout link => Sys2Proof.Machine.execBinathFlitTimeout link s
  | .binathFlitRx link flit => Sys2Proof.Machine.execBinathFlitRx link flit s
  | .binathNakRx link seq => Sys2Proof.Machine.execBinathNakRx link seq s
  | .binathReplayTimeout link => Sys2Proof.Machine.execBinathReplayTimeout link s
  | .binathFlitTx link => Sys2Proof.Machine.execBinathFlitTx link s
  | .topoSend link => Sys2Proof.Machine.execTopoSend link s
  | .topoRx link topo => Sys2Proof.Machine.execTopoRx link topo s
  | .claimRetry => Sys2Proof.Machine.execClaimRetry s
  | .fabricRevertHoldExpire => Sys2Proof.Machine.execFabricRevertHoldExpire s
  | .timeExchangeStart link => Sys2Proof.Machine.execTimeExchangeStart link s
  | .timeReqRx link => Sys2Proof.Machine.execTimeReqRx link s
  | .timeRespRx link t2 t3 parentValid => Sys2Proof.Machine.execTimeRespRx link t2 t3 parentValid s
  | .heartbeatSend => Sys2Proof.Machine.execHeartbeatSend s
  | .heartbeatRx path content => Sys2Proof.Machine.execHeartbeatRx path content s
  | .hbIntervalEnd => Sys2Proof.Machine.execHbIntervalEnd s
  | .pairWaitExpire => Sys2Proof.Machine.execPairWaitExpire s
  | .juniorTickExecute packets frames copies => Sys2Proof.Machine.execJuniorTickExecute packets frames copies s
  | .stall => Sys2Proof.Machine.execStall s
  | .matchStoreExpire => Sys2Proof.Machine.execMatchStoreExpire s
  | .digestCompare tick fetched => Sys2Proof.Machine.execDigestCompare tick fetched s
  | .resyncCopyDone snap => Sys2Proof.Machine.execResyncCopyDone snap s
  | .catchupDone => Sys2Proof.Machine.execCatchupDone s
  | .resyncCopyTimeout => Sys2Proof.Machine.execResyncCopyTimeout s
  | .resyncRetry => Sys2Proof.Machine.execResyncRetry s
  | .twinRevertHoldExpire => Sys2Proof.Machine.execTwinRevertHoldExpire s
  | .twinCmdRevert => Sys2Proof.Machine.execTwinCmdRevert s
  | .twinCmdResync => Sys2Proof.Machine.execTwinCmdResync s
  | .dramRead addr port ident errs use => Sys2Proof.Machine.execDramRead addr port ident errs use s
  | .dramWrite addr port ident data errs => Sys2Proof.Machine.execDramWrite addr port ident data errs s
  | .scrubRead ch errs => Sys2Proof.Machine.execScrubRead ch errs s
  | .refreshDue ch rank queued => Sys2Proof.Machine.execRefreshDue ch rank queued s
  | .refreshRatePoll ch mr4 drift => Sys2Proof.Machine.execRefreshRatePoll ch mr4 drift s
  | .zqCalStart ch rank => Sys2Proof.Machine.execZqCalStart ch rank s
  | .zqCalLatch ch rank => Sys2Proof.Machine.execZqCalLatch ch rank s
  | .selfRefreshEnter => Sys2Proof.Machine.execSelfRefreshEnter s
  | .selfRefreshExit ch => Sys2Proof.Machine.execSelfRefreshExit ch s
  | .weirWindow => Sys2Proof.Machine.execWeirWindow s
  | .weirFence port ident => Sys2Proof.Machine.execWeirFence port ident s
  | .fenceEmpty port ident aborted => Sys2Proof.Machine.execFenceEmpty port ident aborted s
  | .fenceTimeout port ident => Sys2Proof.Machine.execFenceTimeout port ident s
  | .dramLogPop ch => Sys2Proof.Machine.execDramLogPop ch s
  | .ddrcDevSel ch rank sub dev => Sys2Proof.Machine.execDdrcDevSel ch rank sub dev s
  | .weirFenceSel port ident => Sys2Proof.Machine.execWeirFenceSel port ident s
  | .keystoreLoad index => Sys2Proof.Machine.execKeystoreLoad index s
  | .keystoreLoadWrapped index wslot => Sys2Proof.Machine.execKeystoreLoadWrapped index wslot s
  | .keystoreErase index => Sys2Proof.Machine.execKeystoreErase index s
  | .keystoreCmdDone => Sys2Proof.Machine.execKeystoreCmdDone s
  | .keystoreSel index => Sys2Proof.Machine.execKeystoreSel index s
  | .cipherLockRequest user urgent => Sys2Proof.Machine.execCipherLockRequest user urgent s
  | .cipherLockRelease user => Sys2Proof.Machine.execCipherLockRelease user s
  | .cipherLockGrant => Sys2Proof.Machine.execCipherLockGrant s
  | .cipherGcmEncrypt slot => Sys2Proof.Machine.execCipherGcmEncrypt slot s
  | .cipherGcmDecrypt slot => Sys2Proof.Machine.execCipherGcmDecrypt slot s
  | .cipherCtrEncrypt slot => Sys2Proof.Machine.execCipherCtrEncrypt slot s
  | .cipherCtrDecrypt slot => Sys2Proof.Machine.execCipherCtrDecrypt slot s
  | .cipherCbcEncrypt slot => Sys2Proof.Machine.execCipherCbcEncrypt slot s
  | .cipherCbcDecrypt slot => Sys2Proof.Machine.execCipherCbcDecrypt slot s
  | .cipherKeyWrap slot => Sys2Proof.Machine.execCipherKeyWrap slot s
  | .cipherKeyUnwrap slot => Sys2Proof.Machine.execCipherKeyUnwrap slot s
  | .cipherKeyWrapPad slot => Sys2Proof.Machine.execCipherKeyWrapPad slot s
  | .cipherKeyUnwrapPad slot => Sys2Proof.Machine.execCipherKeyUnwrapPad slot s
  | .cipherSha256 slot => Sys2Proof.Machine.execCipherSha256 slot s
  | .cipherSha384 slot => Sys2Proof.Machine.execCipherSha384 slot s
  | .cipherHmac slot => Sys2Proof.Machine.execCipherHmac slot s
  | .cipherJobDone => Sys2Proof.Machine.execCipherJobDone s
  | .cipherJobSuspend => Sys2Proof.Machine.execCipherJobSuspend s
  | .cipherJobResume => Sys2Proof.Machine.execCipherJobResume s
  | .cipherTagZeroised => Sys2Proof.Machine.execCipherTagZeroised s
  | .cipherSlotLoad slot user kind kek => Sys2Proof.Machine.execCipherSlotLoad slot user kind kek s
  | .cipherSlotLoadWrapped slot wslot user kind kek => Sys2Proof.Machine.execCipherSlotLoadWrapped slot wslot user kind kek s
  | .cipherSlotErase slot => Sys2Proof.Machine.execCipherSlotErase slot s
  | .cipherSlotSel slot => Sys2Proof.Machine.execCipherSlotSel slot s
  | .alarmTrip source => Sys2Proof.Machine.execAlarmTrip source s
  | .alarmZeroise => Sys2Proof.Machine.execAlarmZeroise s
  | .svnAdvance => Sys2Proof.Machine.execSvnAdvance s
  | .drbgReseed => Sys2Proof.Machine.execDrbgReseed s
  | .bar2Read offset len => Sys2Proof.Machine.execBar2Read offset len s
  | .bar2Write offset data => Sys2Proof.Machine.execBar2Write offset data s
  | .msixVectorUnmask vector enable funcMask => Sys2Proof.Machine.execMsixVectorUnmask vector enable funcMask s
  | .pcieLinkDown => Sys2Proof.Machine.execPcieLinkDown s
  | .pcieLinkUp width speed => Sys2Proof.Machine.execPcieLinkUp width speed s
  | .functionLevelReset => Sys2Proof.Machine.execFunctionLevelReset s
  | .dmaEnable ch => Sys2Proof.Machine.execDmaEnable ch s
  | .dmaDisable ch => Sys2Proof.Machine.execDmaDisable ch s
  | .dmaTailWrite ch tail => Sys2Proof.Machine.execDmaTailWrite ch tail s
  | .dmaRun ch => Sys2Proof.Machine.execDmaRun ch s
  | .dmaAbort ch => Sys2Proof.Machine.execDmaAbort ch s
  | .dmaResume ch => Sys2Proof.Machine.execDmaResume ch s
  | .dmaAbandon ch => Sys2Proof.Machine.execDmaAbandon ch s
  | .dmaDescriptorFetch ch => Sys2Proof.Machine.execDmaDescriptorFetch ch s
  | .dmaBurstStart ch => Sys2Proof.Machine.execDmaBurstStart ch s
  | .dmaBurstComplete ch burst => Sys2Proof.Machine.execDmaBurstComplete ch burst s
  | .dmaBusError ch burst cause => Sys2Proof.Machine.execDmaBusError ch burst cause s
  | .dmaErrAtEnd ch cause => Sys2Proof.Machine.execDmaErrAtEnd ch cause s
  | .dmaDescriptorComplete ch => Sys2Proof.Machine.execDmaDescriptorComplete ch s
  | .pulseCrossingIssue island => Sys2Proof.Machine.execPulseCrossingIssue island s
  | .pulseCrossingAck island pulse => Sys2Proof.Machine.execPulseCrossingAck island pulse s
  | .islandReset island writes => Sys2Proof.Machine.execIslandReset island writes s
  | .islandResync island => Sys2Proof.Machine.execIslandResync island s
  | .governorDecide targets power => Sys2Proof.Machine.execGovernorDecide targets power s
  | .avsVoltageWrite rail => Sys2Proof.Machine.execAvsVoltageWrite rail s
  | .avsStatusPoll rail vdone => Sys2Proof.Machine.execAvsStatusPoll rail vdone s
  | .avsSettleTimeout rail => Sys2Proof.Machine.execAvsSettleTimeout rail s
  | .pllLock domain => Sys2Proof.Machine.execPllLock domain s
  | .pllLockTimeout domain => Sys2Proof.Machine.execPllLockTimeout domain s
  | .clusterWakeOnTask cluster => Sys2Proof.Machine.execClusterWakeOnTask cluster s
  | .stateQuiet => Sys2Proof.Machine.execStateQuiet s
  | .stateDeep => Sys2Proof.Machine.execStateDeep s
  | .stateWake => Sys2Proof.Machine.execStateWake s
  | .entryComplete => Sys2Proof.Machine.execEntryComplete s
  | .wakeComplete => Sys2Proof.Machine.execWakeComplete s
  | .domainOff domain => Sys2Proof.Machine.execDomainOff domain s
  | .domainWake domain => Sys2Proof.Machine.execDomainWake domain s
  | .memIdleExpire => Sys2Proof.Machine.execMemIdleExpire s
  | .sramScrub corrected ue => Sys2Proof.Machine.execSramScrub corrected ue s
  | .crierRecord temps => Sys2Proof.Machine.execCrierRecord temps s
  | .crierRelay => Sys2Proof.Machine.execCrierRelay s
  | .serviceOut typ index targets => Sys2Proof.Machine.execServiceOut typ index targets s
  | .serviceIn typ index => Sys2Proof.Machine.execServiceIn typ index s
  | .serviceHold typ index targets => Sys2Proof.Machine.execServiceHold typ index targets s
  | .serviceDone failed => Sys2Proof.Machine.execServiceDone failed s
  | .millContextCopyDone flow => Sys2Proof.Machine.execMillContextCopyDone flow s
  | .fwStage => Sys2Proof.Machine.execFwStage s
  | .fwStaged => Sys2Proof.Machine.execFwStaged s
  | .fwActivate => Sys2Proof.Machine.execFwActivate s
  | .deviceFatal cause obj => Sys2Proof.Machine.execDeviceFatal cause obj s
  | .epanisWatchdog => Sys2Proof.Machine.execEpanisWatchdog s
  | .dumpComplete hostOk => Sys2Proof.Machine.execDumpComplete hostOk s
  | .fatalDeadline => Sys2Proof.Machine.execFatalDeadline s
  | .faultLogPop => Sys2Proof.Machine.execFaultLogPop s
  | .lifeAccumulate temp => Sys2Proof.Machine.execLifeAccumulate temp s
  | .lifeSave => Sys2Proof.Machine.execLifeSave s
  | .powerOnReset => Sys2Proof.Machine.execPowerOnReset s
  | .resetNAssert low => Sys2Proof.Machine.execResetNAssert low s
  | .resetNRelease straps => Sys2Proof.Machine.execResetNRelease straps s
  | .warmReset key => Sys2Proof.Machine.execWarmReset key s
  | .perstNAssert => Sys2Proof.Machine.execPerstNAssert s
  | .bootStageComplete found => Sys2Proof.Machine.execBootStageComplete found s
  | .recoveryGo => Sys2Proof.Machine.execRecoveryGo s
  | .smbusTemperature => Sys2Proof.Machine.execSmbusTemperature s
  | .smbusBootStage => Sys2Proof.Machine.execSmbusBootStage s
  | .smbusFatalCause => Sys2Proof.Machine.execSmbusFatalCause s
  | .smbusAlarmStatus => Sys2Proof.Machine.execSmbusAlarmStatus s
  | .smbusPower => Sys2Proof.Machine.execSmbusPower s
  | .smbusPart => Sys2Proof.Machine.execSmbusPart s
  | .smbusAlertResponse => Sys2Proof.Machine.execSmbusAlertResponse s
  | .jtagBypass => Sys2Proof.Machine.execJtagBypass s
  | .jtagSamplePreload balls => Sys2Proof.Machine.execJtagSamplePreload balls s
  | .jtagExtest drive => Sys2Proof.Machine.execJtagExtest drive s
  | .jtagIdcode => Sys2Proof.Machine.execJtagIdcode s
  | .perstNRelease => Sys2Proof.Machine.execPerstNRelease s
  | .highestJunctionSensorCrossing temp => Sys2Proof.Machine.execHighestJunctionSensorCrossing temp s

end Sys2Proof.Machine
end

