-- ==== Sys2Proof/Machine/Idle.lean ====
section
/-! DEFINITION. What the device does while no command waits (log entry 1): its base clock makes a cycle and its Mill cores run on. -/

namespace Sys2Proof.Machine

/-- One cycle of the base clock (R49, R50), in which every running Mill core issues a bundle. Nothing runs while RESET_N is held. -/
def State.idle (s : State) : State :=
  if s.boot.held then s else ({ s with clk := s.clk.cycle (s.rd Reg.BELFRY_ADDEND) } : State).coresRun

end Sys2Proof.Machine
end

