-- ==== Sys2Proof/Safety.lean ====
section
/-! DEFINITION. What counts as a good state and a safe run, in the terms the statements use. -/

namespace Sys2Proof.Machine

/-- The parts of the state, one for each field of `State`. -/
inductive Part where
  | regs | capture | heldLo | readData | clk | bel | gate | free | msix | evq | queues | bankq | freeCells | deviceReserved | cross | dram
  | hostMem | keys | faultLog | pkts | nextPkt | fences | fetches | legs | confs | taps | tdm | windows | planes | vstrs | ostrs | ports | rxWin
  | ecomps | decs | layouts | twin | links | fab | ddr | weir | poisoned | dramRead | fatalAt | sec | flash | boot | dma | bar2 | pwr | svc | crier
  | pins | audio | legAudio | confAudio | mill | csram | kernels | kernelCmd | reeve | uart | pending
  deriving DecidableEq, Repr

/-- Part p of two states is the same. -/
def Part.same (p : Part) (s t : State) : Prop :=
  match p with
  | .regs => t.regs = s.regs
  | .capture => t.capture = s.capture
  | .heldLo => t.heldLo = s.heldLo
  | .readData => t.readData = s.readData
  | .clk => t.clk = s.clk
  | .bel => t.bel = s.bel
  | .gate => t.gate = s.gate
  | .free => t.free = s.free
  | .msix => t.msix = s.msix
  | .evq => t.evq = s.evq
  | .queues => t.queues = s.queues
  | .bankq => t.bankq = s.bankq
  | .freeCells => t.freeCells = s.freeCells
  | .deviceReserved => t.deviceReserved = s.deviceReserved
  | .cross => t.cross = s.cross
  | .dram => t.dram = s.dram
  | .hostMem => t.hostMem = s.hostMem
  | .keys => t.keys = s.keys
  | .faultLog => t.faultLog = s.faultLog
  | .pkts => t.pkts = s.pkts
  | .nextPkt => t.nextPkt = s.nextPkt
  | .fences => t.fences = s.fences
  | .fetches => t.fetches = s.fetches
  | .legs => t.legs = s.legs
  | .confs => t.confs = s.confs
  | .taps => t.taps = s.taps
  | .tdm => t.tdm = s.tdm
  | .windows => t.windows = s.windows
  | .planes => t.planes = s.planes
  | .vstrs => t.vstrs = s.vstrs
  | .ostrs => t.ostrs = s.ostrs
  | .ports => t.ports = s.ports
  | .rxWin => t.rxWin = s.rxWin
  | .ecomps => t.ecomps = s.ecomps
  | .decs => t.decs = s.decs
  | .layouts => t.layouts = s.layouts
  | .twin => t.twin = s.twin
  | .links => t.links = s.links
  | .fab => t.fab = s.fab
  | .ddr => t.ddr = s.ddr
  | .weir => t.weir = s.weir
  | .poisoned => t.poisoned = s.poisoned
  | .dramRead => t.dramRead = s.dramRead
  | .fatalAt => t.fatalAt = s.fatalAt
  | .sec => t.sec = s.sec
  | .flash => t.flash = s.flash
  | .boot => t.boot = s.boot
  | .dma => t.dma = s.dma
  | .bar2 => t.bar2 = s.bar2
  | .pwr => t.pwr = s.pwr
  | .svc => t.svc = s.svc
  | .crier => t.crier = s.crier
  | .pins => t.pins = s.pins
  | .audio => t.audio = s.audio
  | .legAudio => t.legAudio = s.legAudio
  | .confAudio => t.confAudio = s.confAudio
  | .mill => t.mill = s.mill
  | .csram => t.csram = s.csram
  | .kernels => t.kernels = s.kernels
  | .kernelCmd => t.kernelCmd = s.kernelCmd
  | .reeve => t.reeve = s.reeve
  | .uart => t.uart = s.uart
  | .pending => t.pending = s.pending

/-- t differs from s in no part but those listed. -/
def State.changesOnly (ps : List Part) (s t : State) : Prop := ∀ p, p ∉ ps → p.same s t

/-- Port p and its scheduler take frames: neither page quiesces. -/
def State.portTakes (s : State) (p : Nat) : Bool := !s.quiescing (ethPage p) && !s.quiescing (0x28000 + p * 0x1000)

/-- The parts of the state a command may change, as the meanings of its chapter say; a command that is turned away, or finds nothing to do, changes fewer. -/
def partsOf (c : Instr) : List Part :=
  match c with
  | .audioTickBoundary _ =>
    [.regs, .clk, .bel, .gate, .free, .msix, .evq, .queues, .bankq, .freeCells, .cross, .dram, .hostMem, .keys, .pkts, .nextPkt, .legs, .confs, .taps, .tdm,
    .windows, .planes, .vstrs, .ostrs, .ports, .rxWin, .ecomps, .decs, .layouts, .twin, .links, .fab, .poisoned, .sec, .flash, .boot, .pwr, .svc, .audio,
    .legAudio, .confAudio, .reeve]
  | .frameBoundary _ =>
    [.regs, .clk, .bel, .gate, .free, .msix, .evq, .queues, .bankq, .freeCells, .pkts, .nextPkt, .legs, .windows, .planes, .vstrs, .ostrs, .ports, .ecomps,
    .decs, .layouts, .links, .fab, .audio, .legAudio, .confAudio, .reeve]
  | .hardLimitExpire _ _ =>
    [.regs, .clk, .free, .msix, .evq, .queues, .bankq, .freeCells, .pkts, .nextPkt, .legs, .windows, .planes, .vstrs, .ostrs, .ports, .ecomps, .decs, .layouts,
    .links, .fab, .audio, .legAudio, .confAudio, .reeve]
  | .pageReset _ _ _ | .quiesceSet _ _ =>
    [.regs, .bel, .free, .msix, .evq, .freeCells, .legs, .tdm, .twin, .links, .fab, .weir, .sec, .dma, .mill, .reeve]
  | .pageResetComplete _ | .quiesceDone _ | .unmappedWrite _ =>
    [.regs]
  | .registerWrite _ _ _ =>
    [.regs, .capture, .heldLo, .readData, .clk, .bel, .gate, .free, .msix, .evq, .queues, .bankq, .freeCells, .deviceReserved, .cross, .dram, .hostMem, .keys,
    .faultLog, .pkts, .nextPkt, .fences, .fetches, .legs, .confs, .taps, .tdm, .windows, .planes, .vstrs, .ostrs, .ports, .rxWin, .ecomps, .decs, .layouts,
    .twin, .links, .fab, .ddr, .weir, .poisoned, .dramRead, .fatalAt, .sec, .flash, .boot, .dma, .bar2, .pwr, .svc, .crier, .audio, .legAudio, .confAudio,
    .mill, .csram, .kernels, .kernelCmd, .reeve, .uart]
  | .misalignedAccess _ _ =>
    [.regs, .readData, .msix]
  | .pairLoRead _ _ | .belfryCaptureRead _ =>
    [.capture, .readData]
  | .pairHiWrite _ _ =>
    [.regs, .msix, .bankq, .twin, .links]
  | .globalFenceRead =>
    [.readData, .fences]
  | .fenceReadComplete =>
    [.regs, .readData, .fences]
  | .resultFetchComplete _ =>
    [.regs, .fetches]
  | .gateCreate _ _ | .gateModify _ _ | .gateDelete _ _ | .gateRead _ _ | .gateTxnOpen | .gateTxnCommit | .gateTxnAbort =>
    [.regs, .gate, .msix]
  | .gateAcceptance =>
    [.regs, .gate, .free, .msix, .queues, .bankq, .keys, .legs, .layouts, .twin, .links]
  | .oscLost | .oscBack | .servoSample _ =>
    [.regs, .clk, .bel, .free, .msix]
  | .ptpSourceLost _ _ | .ppsSourceLost | .binathSourceLost | .servoEnableWrite _ | .stepEnWrite _ | .belfrySrcWrite _ | .ptpMessageRx _
  | .triggerEnable _ _ _ | .captureEdge _ _ _ =>
    [.regs, .bel, .msix]
  | .stepAbs | .stepRel | .triggerPulseEnd _ =>
    [.regs, .clk, .bel, .msix]
  | .ptpMessageTx _ _ _ =>
    [.regs, .queues, .freeCells, .ports]
  | .triggerEdge _ _ =>
    [.regs, .clk, .bel, .msix, .evq, .freeCells, .cross, .tdm, .ddr, .pwr]
  | .capturePop _ =>
    [.regs, .readData, .bel]
  | .ethLinkUp _ _ | .ethLinkDown _ _ _ _ _ _ | .puntHeadWrite _ _ | .injectTailWrite _ _ | .pcieLinkUp _ _ | .dmaTailWrite _ _ =>
    [.regs, .msix]
  | .frameReceive _ =>
    [.regs, .bel, .msix, .evq, .queues, .bankq, .freeCells, .cross, .dram, .pkts, .nextPkt, .legs, .confs, .taps, .planes, .vstrs, .ports, .rxWin, .ecomps,
    .twin, .links, .ddr, .poisoned, .pwr]
  | .prpEntryForget _ _ =>
    [.regs, .clk, .planes]
  | .prpSupervisionTx _ =>
    [.regs, .clk, .queues, .freeCells, .planes, .ports]
  | .injectSlotSend _ =>
    [.regs, .msix, .evq, .queues, .freeCells, .cross, .pkts, .nextPkt, .planes, .ports, .ddr, .pwr]
  | .pktinLegSel _ | .adaptLegSel _ | .adaptOstrSel _ | .pktoutLegSel _ | .audioPathSnk _ _ | .audioMeterSel _ _ | .audioSeatSel _ | .vde0StrSel _
  | .cmp0LaySel _ _ | .vee0EcSel _ _ _ | .reeveFlowSel _ | .ddrcDevSel _ _ _ _ | .weirFenceSel _ _ | .keystoreSel _ | .cipherSlotSel _ =>
    [.regs, .msix, .fetches]
  | .rtcpReport _ =>
    [.regs, .clk, .msix, .evq, .queues, .freeCells, .pkts, .nextPkt, .legs, .planes, .ports]
  | .nackRetry _ _ =>
    [.regs, .clk, .msix, .evq, .queues, .freeCells, .pkts, .nextPkt, .legs, .planes, .vstrs, .ports]
  | .jbRecompute _ =>
    [.clk, .legs]
  | .rxIdle _ =>
    [.regs, .clk, .msix, .evq, .freeCells, .legs]
  | .videoWaitExpire _ _ _ =>
    [.regs, .clk, .msix, .evq, .queues, .freeCells, .pkts, .nextPkt, .planes, .vstrs, .ostrs, .ports, .decs, .reeve]
  | .tdmFrameSync _ _ =>
    [.tdm]
  | .legStatsWrite _ =>
    [.dram, .poisoned]
  | .eventWindowExpire _ _ _ _ =>
    [.regs, .clk, .msix, .evq, .freeCells, .windows]
  | .ccUpdate _ =>
    [.regs, .clk, .msix, .evq, .queues, .freeCells, .pkts, .nextPkt, .legs, .planes, .vstrs, .ostrs, .ports, .ecomps]
  | .pliSend _ =>
    [.regs, .msix, .evq, .queues, .freeCells, .pkts, .nextPkt, .legs, .planes, .vstrs, .ports]
  | .packetEnqueue _ _ _ _ _ _ _ _ _ | .granaryEnqueue _ _ _ =>
    [.regs, .msix, .evq, .queues, .freeCells, .pkts, .nextPkt, .planes, .ports]
  | .packetRelease _ =>
    [.regs, .clk, .free, .msix, .evq, .queues, .freeCells, .pkts, .nextPkt, .legs, .taps, .planes, .vstrs, .ostrs, .ports, .ecomps, .twin, .links]
  | .frameDepart _ =>
    [.regs, .bel, .msix, .queues, .freeCells, .planes, .ports]
  | .granaryClaim _ _ =>
    [.regs, .msix, .evq, .queues, .freeCells, .pkts, .planes, .ports]
  | .granaryReadComplete _ =>
    [.queues, .freeCells]
  | .queueSweepComplete _ =>
    [.evq, .queues, .freeCells]
  | .bankqWrite _ _ _ =>
    [.regs, .bankq]
  | .evqPop _ _ =>
    [.regs, .readData, .msix, .evq, .queues, .freeCells, .pkts, .planes, .ports]
  | .granaryQSel _ _ =>
    [.regs, .msix, .evq, .queues, .freeCells, .pkts, .fetches, .planes, .ports]
  | .progLoad | .progActivate | .progDiscard =>
    [.regs, .msix, .bankq, .twin, .links, .audio]
  | .progLoadDone =>
    [.regs, .msix, .audio]
  | .recallPlay _ | .recallStop _ =>
    [.regs, .msix, .evq, .bankq, .freeCells, .twin, .links, .audio]
  | .nop _ | .add _ _ _ _ | .sub _ _ _ _ | .adds _ _ _ _ | .subs _ _ _ _ | .and _ _ _ _ | .or _ _ _ _ | .xor _ _ _ _ | .shl _ _ _ _ | .shr _ _ _ _
  | .sra _ _ _ _ | .shli _ _ _ _ | .shri _ _ _ _ | .srai _ _ _ _ | .min _ _ _ _ | .max _ _ _ _ | .abss _ _ _ | .negs _ _ _ | .cmplt _ _ _ _ | .cmpeq _ _ _ _
  | .addi _ _ _ _ | .movi _ _ _ | .movh _ _ _ | .mpy _ _ _ _ | .mac _ _ _ _ | .msu _ _ _ _ | .mpysu _ _ _ _ | .macsu _ _ _ _ | .mpy2 _ _ _ _ | .mac2 _ _ _ _
  | .msu2 _ _ _ _ | .aclr _ _ | .aadd _ _ _ _ | .ashr _ _ _ | .ashl _ _ _ | .amov _ _ _ | .sat _ _ _ | .ardl _ _ _ | .ardh _ _ _ | .ardg _ _ _ | .awrl _ _ _
  | .awrh _ _ _ | .awrg _ _ _ | .ld _ _ _ _ _ | .st _ _ _ _ _ | .sts _ _ _ _ _ | .ldh _ _ _ _ _ | .sth _ _ _ _ _ | .ldp _ _ _ _ _ | .br _ _ | .call _ _
  | .ret _ | .reti _ | .bz _ _ _ | .bnz _ _ _ | .bltz _ _ _ | .bgez _ _ _ | .loop0 _ _ _ | .loop1 _ _ _ | .loopi0 _ _ _ | .loopi1 _ _ _ | .movs _ _ _
  | .movd _ _ _ | .ei _ | .di _ | .halt _ =>
    [.regs, .free, .msix, .evq, .freeCells, .windows, .audio, .mill, .csram]
  | .interruptEntry _ =>
    [.mill]
  | .kernelBudgetEnd _ =>
    [.regs, .msix, .evq, .freeCells, .windows, .audio, .mill]
  | .kernelLoad _ _ | .kernelUnload _ _ =>
    [.regs, .msix, .bankq, .twin, .links, .kernelCmd]
  | .kernelLoadDone _ =>
    [.regs, .msix, .evq, .freeCells, .mill, .kernels, .kernelCmd]
  | .benchEnable _ _ _ | .benchStart _ | .benchHalt _ | .benchMbx _ | .millSlotWrite _ _ _ =>
    [.regs, .msix, .mill]
  | .taskSubmit _ _ _ _ _ =>
    [.regs, .reeve]
  | .taskDispatch =>
    [.regs, .free, .audio, .mill, .csram, .reeve]
  | .taskComplete _ _ =>
    [.regs, .free, .msix, .evq, .queues, .bankq, .freeCells, .pkts, .nextPkt, .legs, .windows, .planes, .vstrs, .ostrs, .ports, .ecomps, .decs, .layouts,
    .links, .fab, .audio, .legAudio, .confAudio, .reeve]
  | .engineFault _ _ =>
    [.regs, .msix, .evq, .freeCells, .faultLog, .weir, .crier, .mill, .reeve, .uart]
  | .watchdogExpire _ =>
    [.regs, .clk, .msix, .evq, .freeCells, .faultLog, .weir, .crier, .mill, .reeve, .uart]
  | .engineResetDone _ =>
    [.weir, .reeve]
  | .taskCancelStop _ =>
    [.regs, .free, .msix, .evq, .queues, .freeCells, .pkts, .nextPkt, .legs, .windows, .planes, .vstrs, .ostrs, .ports, .ecomps, .decs, .layouts, .audio,
    .legAudio, .confAudio, .mill, .reeve]
  | .katChunk _ _ _ _ =>
    [.regs, .msix, .evq, .freeCells, .dram, .keys, .faultLog, .legs, .weir, .poisoned, .sec, .crier, .mill, .reeve, .uart]
  | .testOverdue _ =>
    [.regs, .clk, .msix, .evq, .freeCells, .reeve]
  | .binathLaneLock _ =>
    [.regs, .free, .links]
  | .binathTrainTimeout _ =>
    [.regs, .clk, .links]
  | .binathIdentRx _ _ | .topoRx _ _ =>
    [.regs, .free, .msix, .evq, .freeCells, .links, .fab]
  | .binathLockLost _ _ | .binathNakRx _ _ =>
    [.regs, .free, .msix, .evq, .freeCells, .legs, .twin, .links, .fab]
  | .binathFlitTimeout _ | .binathReplayTimeout _ =>
    [.regs, .clk, .free, .msix, .evq, .freeCells, .legs, .twin, .links, .fab]
  | .binathFlitRx _ _ =>
    [.regs, .free, .msix, .evq, .bankq, .freeCells, .legs, .windows, .vstrs, .decs, .twin, .links, .fab, .crier]
  | .binathFlitTx _ =>
    [.regs, .links]
  | .topoSend _ | .timeReqRx _ =>
    [.free, .links]
  | .claimRetry | .fabricRevertHoldExpire =>
    [.clk, .free, .links, .fab]
  | .timeExchangeStart _ =>
    [.regs, .clk, .bel, .free, .msix, .links]
  | .timeRespRx _ _ _ _ =>
    [.regs, .clk, .bel, .free, .msix, .evq, .freeCells, .windows, .links]
  | .heartbeatSend =>
    [.regs, .clk, .queues, .freeCells, .ports, .twin, .links]
  | .heartbeatRx _ _ | .catchupDone | .twinCmdRevert | .twinCmdResync =>
    [.regs, .free, .msix, .evq, .freeCells, .legs, .twin]
  | .hbIntervalEnd =>
    [.regs, .clk, .gate, .free, .msix, .evq, .queues, .freeCells, .pkts, .legs, .confs, .taps, .vstrs, .ostrs, .rxWin, .ecomps, .decs, .layouts, .twin, .audio,
    .legAudio, .confAudio, .kernels, .reeve]
  | .pairWaitExpire | .stall | .resyncCopyTimeout | .resyncRetry =>
    [.regs, .clk, .free, .msix, .evq, .freeCells, .legs, .twin]
  | .juniorTickExecute _ _ _ =>
    [.regs, .clk, .bel, .gate, .free, .msix, .evq, .queues, .bankq, .freeCells, .dram, .hostMem, .keys, .pkts, .nextPkt, .legs, .confs, .taps, .tdm, .windows,
    .planes, .vstrs, .ostrs, .ports, .rxWin, .ecomps, .decs, .layouts, .twin, .links, .fab, .poisoned, .sec, .pwr, .svc, .audio, .legAudio, .confAudio, .mill,
    .kernels, .reeve]
  | .matchStoreExpire | .twinRevertHoldExpire =>
    [.clk, .twin]
  | .digestCompare _ _ =>
    [.regs, .free, .msix, .evq, .freeCells, .legs, .twin, .links]
  | .resyncCopyDone _ =>
    [.regs, .gate, .msix, .evq, .queues, .freeCells, .keys, .pkts, .nextPkt, .legs, .confs, .taps, .planes, .vstrs, .ostrs, .ports, .rxWin, .ecomps, .decs,
    .layouts, .twin, .audio, .legAudio, .confAudio, .kernels, .reeve]
  | .dramRead _ _ _ _ _ =>
    [.regs, .clk, .msix, .evq, .queues, .freeCells, .cross, .faultLog, .pkts, .legs, .vstrs, .links, .ddr, .weir, .dramRead, .fatalAt, .pwr, .audio, .uart]
  | .dramWrite _ _ _ _ _ | .bar2Write _ _ =>
    [.regs, .clk, .msix, .evq, .freeCells, .cross, .dram, .ddr, .weir, .poisoned, .dramRead, .pwr]
  | .scrubRead _ _ =>
    [.regs, .msix, .evq, .freeCells, .ddr, .poisoned]
  | .refreshDue _ _ _ =>
    [.regs, .clk, .ddr]
  | .refreshRatePoll _ _ _ =>
    [.regs, .msix, .evq, .freeCells, .ddr]
  | .zqCalStart _ _ | .zqCalLatch _ _ =>
    [.clk, .ddr]
  | .selfRefreshEnter =>
    [.regs, .msix, .cross, .ddr]
  | .selfRefreshExit _ =>
    [.regs, .cross, .ddr]
  | .weirWindow =>
    [.regs, .clk, .weir]
  | .weirFence _ _ =>
    [.regs, .weir]
  | .fenceEmpty _ _ _ =>
    [.regs, .free, .msix, .evq, .queues, .freeCells, .faultLog, .pkts, .nextPkt, .legs, .windows, .planes, .vstrs, .ostrs, .ports, .ecomps, .decs, .layouts,
    .weir, .crier, .audio, .legAudio, .confAudio, .reeve, .uart]
  | .fenceTimeout _ _ =>
    [.regs, .clk, .msix, .faultLog, .fatalAt, .uart]
  | .dramLogPop _ =>
    [.regs, .readData, .ddr]
  | .keystoreLoad _ | .keystoreLoadWrapped _ _ | .keystoreErase _ | .cipherLockRequest _ _ | .cipherLockRelease _ =>
    [.regs, .msix, .sec]
  | .keystoreCmdDone =>
    [.regs, .msix, .evq, .bankq, .freeCells, .keys, .rxWin, .twin, .links, .sec]
  | .cipherLockGrant | .drbgReseed =>
    [.regs, .sec]
  | .cipherGcmEncrypt _ | .cipherGcmDecrypt _ | .cipherCtrEncrypt _ | .cipherCtrDecrypt _ | .cipherCbcEncrypt _ | .cipherCbcDecrypt _ | .cipherKeyWrap _
  | .cipherKeyUnwrap _ | .cipherKeyWrapPad _ | .cipherKeyUnwrapPad _ | .cipherSha256 _ | .cipherSha384 _ | .cipherHmac _ | .cipherSlotLoad _ _ _ _
  | .cipherSlotLoadWrapped _ _ _ _ _ | .cipherSlotErase _ =>
    [.regs, .msix, .evq, .freeCells, .sec]
  | .cipherJobDone | .cipherTagZeroised =>
    [.regs, .clk, .msix, .evq, .freeCells, .dram, .poisoned, .sec]
  | .cipherJobSuspend =>
    [.regs, .clk, .dram, .poisoned, .sec]
  | .cipherJobResume =>
    [.regs, .clk, .sec]
  | .alarmTrip _ | .alarmZeroise =>
    [.regs, .msix, .evq, .freeCells, .dram, .keys, .faultLog, .legs, .poisoned, .sec, .uart]
  | .svnAdvance =>
    [.regs, .msix, .evq, .freeCells]
  | .bar2Read _ _ =>
    [.regs, .clk, .msix, .evq, .freeCells, .cross, .ddr, .weir, .dramRead, .bar2, .pwr]
  | .msixVectorUnmask _ _ _ =>
    [.msix]
  | .pcieLinkDown =>
    [.regs, .msix, .evq, .freeCells, .taps, .dma]
  | .functionLevelReset | .dmaEnable _ | .dmaDisable _ | .dmaBusError _ _ _ =>
    [.regs, .msix, .dma]
  | .dmaRun _ | .dmaAbort _ | .dmaResume _ | .dmaAbandon _ | .dmaErrAtEnd _ _ =>
    [.regs, .clk, .msix, .cross, .dram, .hostMem, .ddr, .weir, .poisoned, .dma, .pwr]
  | .dmaDescriptorFetch _ =>
    [.dma]
  | .dmaBurstStart _ =>
    [.regs, .clk, .msix, .evq, .freeCells, .cross, .ddr, .weir, .dma, .pwr]
  | .dmaBurstComplete _ _ =>
    [.regs, .clk, .cross, .dram, .hostMem, .ddr, .weir, .poisoned, .dma, .pwr]
  | .dmaDescriptorComplete _ =>
    [.regs, .msix, .hostMem, .dma]
  | .pulseCrossingIssue _ | .islandReset _ _ =>
    [.regs, .msix, .cross]
  | .pulseCrossingAck _ _ =>
    [.cross]
  | .islandResync _ | .clusterWakeOnTask _ =>
    [.regs, .cross]
  | .governorDecide _ _ =>
    [.regs, .msix, .cross, .pwr]
  | .avsVoltageWrite _ =>
    [.pwr]
  | .avsStatusPoll _ _ =>
    [.regs, .clk, .pwr]
  | .avsSettleTimeout _ | .pllLockTimeout _ =>
    [.regs, .clk, .msix, .evq, .freeCells, .cross, .faultLog, .ddr, .fatalAt, .pwr, .uart]
  | .pllLock _ =>
    [.regs, .free, .msix, .evq, .freeCells, .cross, .legs, .twin, .links, .fab, .ddr, .pwr, .mill, .kernels]
  | .stateQuiet | .stateDeep | .stateWake | .wakeComplete =>
    [.regs, .msix, .evq, .freeCells, .cross, .ddr, .pwr]
  | .entryComplete =>
    [.regs, .free, .msix, .evq, .freeCells, .cross, .legs, .twin, .links, .fab, .ddr, .weir, .pwr, .mill, .csram]
  | .domainOff _ | .domainWake _ =>
    [.regs, .free, .msix, .evq, .freeCells, .cross, .legs, .twin, .links, .fab, .weir, .pwr, .mill, .csram]
  | .memIdleExpire =>
    [.regs, .clk, .free, .msix, .evq, .freeCells, .cross, .legs, .twin, .links, .fab, .ddr, .weir, .pwr, .mill, .csram]
  | .sramScrub _ _ =>
    [.regs, .msix, .evq, .queues, .freeCells, .faultLog, .pkts, .planes, .ports, .weir, .fatalAt, .crier, .mill, .reeve, .uart]
  | .crierRecord _ =>
    [.regs, .clk, .hostMem, .links, .crier, .pins]
  | .crierRelay =>
    [.clk, .hostMem, .crier]
  | .serviceOut _ _ _ | .serviceIn _ _ | .serviceHold _ _ _ =>
    [.regs, .bel, .free, .msix, .evq, .freeCells, .legs, .tdm, .twin, .links, .fab, .weir, .sec, .dma, .pwr, .svc, .mill, .kernels, .reeve]
  | .serviceDone _ =>
    [.regs, .bel, .free, .msix, .evq, .freeCells, .cross, .faultLog, .legs, .tdm, .twin, .links, .fab, .weir, .sec, .dma, .pwr, .svc, .crier, .mill, .csram,
    .kernels, .reeve, .uart]
  | .millContextCopyDone _ =>
    [.svc]
  | .fwStage | .fwActivate =>
    [.regs, .msix, .bankq, .twin, .links, .flash, .svc]
  | .fwStaged =>
    [.regs, .msix, .evq, .freeCells, .flash, .svc]
  | .deviceFatal _ _ | .epanisWatchdog =>
    [.regs, .msix, .faultLog, .fatalAt, .uart]
  | .dumpComplete _ =>
    [.regs, .dram, .hostMem, .poisoned]
  | .fatalDeadline =>
    [.regs, .clk]
  | .faultLogPop =>
    [.regs, .readData, .faultLog]
  | .lifeAccumulate _ =>
    [.regs, .clk, .crier, .pins]
  | .lifeSave =>
    [.flash]
  | .powerOnReset =>
    [.regs, .capture, .heldLo, .readData, .clk, .bel, .gate, .msix, .evq, .queues, .bankq, .freeCells, .deviceReserved, .cross, .dram, .keys, .faultLog, .pkts,
    .nextPkt, .fences, .fetches, .legs, .confs, .taps, .tdm, .windows, .planes, .vstrs, .ostrs, .ports, .rxWin, .ecomps, .decs, .layouts, .twin, .links, .fab,
    .ddr, .weir, .poisoned, .dramRead, .fatalAt, .sec, .boot, .dma, .bar2, .pwr, .svc, .crier, .pins, .audio, .legAudio, .confAudio, .mill, .csram, .kernels,
    .kernelCmd, .reeve, .uart]
  | .resetNAssert _ =>
    [.regs, .capture, .heldLo, .readData, .clk, .bel, .gate, .free, .msix, .evq, .queues, .bankq, .freeCells, .deviceReserved, .cross, .dram, .keys, .faultLog,
    .pkts, .nextPkt, .fences, .fetches, .legs, .confs, .taps, .tdm, .windows, .planes, .vstrs, .ostrs, .ports, .rxWin, .ecomps, .decs, .layouts, .twin, .links,
    .fab, .ddr, .weir, .poisoned, .dramRead, .fatalAt, .sec, .boot, .dma, .bar2, .pwr, .svc, .crier, .pins, .audio, .legAudio, .confAudio, .mill, .csram,
    .kernels, .kernelCmd, .reeve, .uart]
  | .resetNRelease _ =>
    [.regs, .clk, .boot]
  | .warmReset _ =>
    [.regs, .capture, .heldLo, .readData, .gate, .msix, .evq, .queues, .bankq, .freeCells, .deviceReserved, .cross, .dram, .keys, .faultLog, .pkts, .nextPkt,
    .fences, .fetches, .legs, .confs, .taps, .tdm, .windows, .planes, .vstrs, .ostrs, .ports, .rxWin, .ecomps, .decs, .layouts, .twin, .links, .fab, .ddr,
    .weir, .poisoned, .dramRead, .fatalAt, .sec, .boot, .dma, .bar2, .pwr, .svc, .crier, .audio, .legAudio, .confAudio, .mill, .csram, .kernels, .kernelCmd,
    .reeve, .uart]
  | .perstNAssert =>
    [.regs, .msix, .evq, .freeCells, .taps, .boot, .dma]
  | .bootStageComplete _ =>
    [.regs, .free, .msix, .evq, .freeCells, .deviceReserved, .cross, .dram, .faultLog, .legs, .twin, .weir, .fatalAt, .sec, .boot, .pwr, .crier, .mill, .reeve,
    .uart]
  | .recoveryGo =>
    [.regs, .msix, .boot, .uart]
  | .smbusTemperature | .smbusBootStage | .smbusFatalCause | .smbusAlarmStatus | .smbusPower | .smbusPart | .smbusAlertResponse | .jtagBypass
  | .jtagSamplePreload _ | .jtagExtest _ | .jtagIdcode | .highestJunctionSensorCrossing _ =>
    [.pins]
  | .perstNRelease =>
    [.boot]

/-- Every register but those listed reads the same in t as in s. -/
def State.regsOutside (l : List Nat) (s t : State) : Prop := ∀ a, a ∉ l → t.rd a = s.rd a

/-- The error reporting of a page (R39): PG_LAST_ERR, PG_ERR_COUNT and PG_EVENT. -/
def errRegs (page : Nat) : List Nat := [Reg.PG_LAST_ERR page, Reg.PG_ERR_COUNT page, Reg.PG_EVENT page]

/-- t is s after a write of w to the selector register `sel`, whose fetch is in progress: each result register has VALID = 0 and keeps the rest (R35). -/
def fetchStarted (sel : Nat) (w : Word) (results : List Nat) (s t : State) : Prop :=
  t.rd sel = (s.applyWrite sel w).rd sel ∧ sel ∈ t.fetches ∧ (∀ a ∈ results, bits (t.rd a) 31 1 = 0 ∧ bits (t.rd a) 0 31 = bits (s.rd a) 0 31) ∧
    s.regsOutside (sel :: results) t ∧ s.changesOnly [.regs, .fetches] t

/-- A register holds a posted result: VALID, a GEN and 24 bits of data (R35). -/
def State.posted (s : State) (addr gen data : Nat) : Prop :=
  bits (s.rd addr) 31 1 = 1 ∧ bits (s.rd addr) 24 7 = gen % 128 ∧ bits (s.rd addr) 0 24 = data % 2 ^ 24

/-- Bit i of a page's PG_EVENT is set. -/
def State.hasEvent (s : State) (page i : Nat) : Prop := bits (s.rd (Reg.PG_EVENT page)) i 1 = 1

/-- The servo's state and source, as BELFRY_STATUS reports them (R53). -/
def State.servoIs (s : State) (st src : Nat) : Prop :=
  s.get Fld.BELFRY_STATUS_SERVO_STATE = st ∧ s.get Fld.BELFRY_STATUS_ACTIVE_SRC = src

/-- From s to t the SERVO event is posted if SERVO_STATE or ACTIVE_SRC changes (R53). -/
def State.servoPosts (s t : State) : Prop := t.rd Reg.BELFRY_STATUS ≠ s.rd Reg.BELFRY_STATUS → t.hasEvent belfryPage 3

/-- In t the servo acquires the primary source of BELFRY_SRC if it was present in s, otherwise the secondary if it was, otherwise as `otherwise` says. -/
def State.acquires (s t : State) (otherwise : Prop) : Prop :=
  if s.srcPresent (t.get Fld.BELFRY_SRC_PRI) then t.servoIs 1 (t.get Fld.BELFRY_SRC_PRI)
  else if s.srcPresent (t.get Fld.BELFRY_SRC_SEC) then t.servoIs 1 (t.get Fld.BELFRY_SRC_SEC)
  else otherwise

/-- Core k issues bundles, its cluster being ACTIVE or changing its operating point (R66), and its next one is not the second delay slot of the RET that ends its kernel (R236, R238, R240). -/
def State.coreRuns (s : State) (k : Nat) : Prop :=
  let m := s.core k
  m.mode ≠ .idle ∧ s.clusterRuns (k / 16) = true ∧ (m.mode = .service → m.act.spent < m.act.budget ∧ ∀ q ∈ m.transfers, q.left ≤ 1 → q.ret = true → q.target ≠ m.act.ret)

/-- From s to t a bundle of core k has issued: only that core, its cluster's SRAM and the counter of free values differ. -/
def State.issueFrame (k : Nat) (s t : State) : Prop :=
  s.changesOnly [.free, .mill, .csram] t ∧ (∀ j, j ≠ k → t.core j = s.core j) ∧ (∀ c, c ≠ k / 16 → t.sram c = s.sram c)

/-- The special registers that the issue of any bundle may change: the loop counts (R231), CYC and BREM (R235), ICAUSE (R232) and ST. -/
def issueSpecials : List Nat := [spLC0, spLC1, spCYC, spBREM, spICAUSE, spST]

/-- What core b shows to bundle q is what core a shows to it, but for the listed D, A and P registers and special registers. -/
def MillCore.sameBut (ds as ps sp : List Nat) (q : Nat) (a b : MillCore) : Prop :=
  (∀ r, r ∉ ds → (b.landTo q).dReg r = (a.landTo q).dReg r) ∧ (∀ r, r ∉ ps → (b.landTo q).pReg r = (a.landTo q).pReg r) ∧
  (∀ r, r ∉ as → (b.landTo q).chainReg r = (a.landTo q).chainReg r ∧ (b.landTo q).viewReg r = (a.landTo q).viewReg r) ∧
  (∀ r, r ∉ sp ++ issueSpecials → (b.landTo q).sReg r = (a.landTo q).sReg r)

/-- The bits of ST are as before, but for AOV and SOV, which are set when a result saturates; not said where a RETI restores ST at this bundle (R219, R233). -/
def MillCore.stKept (aov sov : Bool) (a b : MillCore) : Prop :=
  (∀ q ∈ a.transfers, q.left ≤ 1 → q.reti = false) →
    b.st 2 = (a.st 2 || aov) ∧ b.st 3 = (a.st 3 || sov) ∧ ∀ i, i ≠ 2 → i ≠ 3 → b.st i = a.st i

/-- The register file and the two memories are in their canonical form. -/
def State.canonical (s : State) : Prop := Sparse.wf resetWord s.regs = true ∧ s.dram.wf = true ∧ s.hostMem.wf = true

end Sys2Proof.Machine
end

