-- ==== Sys2Proof/Certificates/Slice0/Obligations.lean ====
section
/-! DEFINITION. The statements about the model. Each docstring says which rule of spec/ it states, or what it rests on; where a clause rests on a choice of the model,
it names the entry of the assumption log. -/

open Sys2Proof Sys2Proof.Machine

/-- For every command c, state s and queue, a step of s with c at the front of its queue is exec of c on s with the rest of the queue. -/
def Obligations.StepRunsTheFrontCommand : Prop :=
  ∀ (c : Instr) (rest : List Instr) (s : State), step { s with pending := c :: rest } = exec c { s with pending := rest }

/-- For every command c and state s, exec c s answers a next state that differs from s in no part of the state but those that `partsOf` lists for c; the queue of
waiting commands is listed for none, so no command adds or removes one.
Choices of the model where the rules leave room: log entries 4, 10. -/
def Obligations.EveryCommandChangesOnlyItsParts : Prop :=
  ∀ (c : Instr) (s : State), ∃ t, exec c s = .next t ∧ s.changesOnly (partsOf c) t

/-- From every state whose register file, DRAM and host memory are in their canonical form (addresses strictly rising, no entry equal to what an unlisted address reads
as), a step, of whatever command or of none, leaves them so.
Choices of the model where the rules leave room: log entries 6. -/
def Obligations.EveryStepKeepsTheTablesCanonical : Prop :=
  ∀ s t : State, s.canonical → step s = .next t → t.canonical

/-- The state after reset has its register file, DRAM and host memory in their canonical form, and no command waits.
Choices of the model where the rules leave room: log entries 3, 6. -/
def Obligations.ResetIsCanonical : Prop := State.reset.canonical ∧ State.reset.pending = []

/-- For every clock whose counts are in their ranges and every ADDEND, one base cycle adds 2 ns + ADDEND × 2⁻³⁸ ns to the time, exactly and modulo 2⁴⁸ s, and leaves the
counts in their ranges: nanoseconds below 1,000,000,000, a carry going to the seconds in the same cycle, seconds below 2⁴⁸ with 2⁴⁸ − 1 followed by 0. -/
def Obligations.ClockCycleAddsTwoNanosecondsAndAddend : Prop :=
  ∀ (c : Clock) (addend : Word), c.sec < 2 ^ 48 → c.ns < 1000000000 → c.frac < 2 ^ 38 →
    let units (k : Clock) : Int := (((k.sec * 1000000000 + k.ns) * 2 ^ 38 + k.frac : Nat) : Int)
    units (c.cycle addend) = (units c + 2 * 2 ^ 38 + addend.toInt) % ((2 ^ 48 * 1000000000 * 2 ^ 38 : Nat) : Int) ∧
    (c.cycle addend).ns < 1000000000 ∧ (c.cycle addend).frac < 2 ^ 38 ∧ (c.cycle addend).sec < 2 ^ 48 ∧
    (c.cycle addend).sec = (if 1000000000 ≤ ((c.ns * 2 ^ 38 + c.frac + 2 * 2 ^ 38 : Nat) + addend.toInt).toNat / 2 ^ 38 then (c.sec + 1) % 2 ^ 48 else c.sec)

/-- The model's choice (log entry 1): with no command waiting a step is one cycle of the base clock, by ADDEND, in which the Mill cores run on; while RESET_N is held
nothing changes. No part but those of the clock and of the running cores changes. -/
def Obligations.IdleStepIsOneClockCycle : Prop :=
  ∀ s : State, s.pending = [] →
    ∃ t, step s = .next t ∧ (s.boot.held = true → t = s) ∧ (s.boot.held = false → t.clk = s.clk.cycle (s.rd Reg.BELFRY_ADDEND)) ∧
      s.changesOnly [.regs, .clk, .free, .msix, .evq, .freeCells, .windows, .audio, .mill, .csram] t

/-- When a write of a register is rejected, whether by the general checks or by its block's own check, CODE and OFFSET stand in PG_LAST_ERR, SEQ has advanced by one,
PG_ERR_COUNT has advanced (it stays at its greatest value), PG_EVENT.ERR is set, and nothing else changes: no other register, and no other part but the MSI-X vectors that
the page's event may send. Errors are posted in the order of the rejections, the latest standing in PG_LAST_ERR. -/
def Obligations.RejectedWriteChangesOnlyErrorReporting : Prop :=
  ∀ (s : State) (addr : Nat) (w : Word) (check : State → Option Err) (effect : State → State) (e : Err),
    (s.writeErr addr w = some e ∨ (s.writeErr addr w = none ∧ check s = some e)) →
    let p := pageOf addr
    let t := s.checked addr w check effect
    t.get (Fld.PG_LAST_ERR_CODE p) = e.code ∧ t.get (Fld.PG_LAST_ERR_OFFSET p) = addr % 4096 ∧
    t.get (Fld.PG_LAST_ERR_SEQ p) = (s.get (Fld.PG_LAST_ERR_SEQ p) + 1) % 256 ∧
    t.get (Fld.PG_ERR_COUNT_COUNT p) = Nat.min (2 ^ 32 - 1) (s.get (Fld.PG_ERR_COUNT_COUNT p) + 1) ∧
    t.get (Fld.PG_EVENT_ERR p) = 1 ∧ s.regsOutside (errRegs p) t ∧ s.changesOnly [.regs, .msix] t

/-- GATE_CREATE, GATE_MODIFY, GATE_DELETE, GATE_READ, GATE_TXN_OPEN, GATE_TXN_COMMIT and GATE_TXN_ABORT: while the gate's page serves commands and GATE_RESULT is VALID, the
command and a copy of the staging window wait for acceptance and GATE_RESULT reads VALID = 0 with its previous data; nothing else changes. While a command is in progress the
write is rejected with E_BUSY. The words of the staging window are copied whole: word w gives bits 32 w to 32 w + 31.
Choices of the model where the rules leave room: log entries 20, 48. -/
def Obligations.GateCommandsCopyTheStagingWindow : Prop :=
  (∀ (table index : Nat) (s : State), table < 256 → index < 65536 → s.linked Reg.GATE_CMD = true → s.inReset Reg.GATE_CMD = false →
    s.on (Fld.PG_CTRL_QUIESCE gatePage) = false →
    ∀ x ∈ [(Instr.gateCreate table index, 1, table, index), (.gateModify table index, 2, table, index), (.gateDelete table index, 3, table, index),
      (.gateRead table index, 4, table, index), (.gateTxnOpen, 5, 0, 0), (.gateTxnCommit, 6, 0, 0), (.gateTxnAbort, 7, 0, 0)],
      (s.on Fld.GATE_RESULT_VALID = true → ∃ t, exec x.1 s = .next t ∧ t.gate.cmd = some ⟨x.2.1, x.2.2.1, x.2.2.2, s.stageWindow⟩ ∧
        t.gate.pending = s.gate.pending ∧ t.gate.txn = s.gate.txn ∧ t.gate.txnOpen = s.gate.txnOpen ∧ t.gate.effective = s.gate.effective ∧
        t.on Fld.GATE_RESULT_VALID = false ∧ bits (t.rd Reg.GATE_RESULT) 0 31 = bits (s.rd Reg.GATE_RESULT) 0 31 ∧
        s.regsOutside [Reg.GATE_RESULT] t ∧ s.changesOnly [.regs, .gate] t) ∧
      (s.on Fld.GATE_RESULT_VALID = false → exec x.1 s = .next (s.reject Reg.GATE_CMD .busy))) ∧
  (∀ (w : Nat) (s : State), w < 128 → s.stageWindow / 2 ^ (32 * w) % 2 ^ 32 = (s.rd (Reg.GATE_STAGE_w w)).toNat)

/-- GATE_ACCEPTANCE of a command in progress. A command that fails a check posts its error in GATE_RESULT and in PG_LAST_ERR and changes no table. A change that passes outside
a transaction is appended to the pending records, of the tick class for the next tick, and GATE_EFFECT names that tick; inside a transaction it is appended to the transaction.
TXN_OPEN opens an empty transaction; TXN_COMMIT of tick-class records appends them to the pending ones for one tick and closes it; TXN_ABORT drops them. READ puts the effective record in
GATE_READBACK. No command changes an effective table.
Choices of the model where the rules leave room: log entries 36, 48 to 56, 59. -/
def Obligations.GateAcceptanceQueuesRecords : Prop :=
  ∀ (c : GateCmd) (s : State), s.gate.cmd = some c → c.index < 65536 →
    let u : State := { s with gate := { s.gate with cmd := none } }
    let gen := bits (s.rd Reg.GATE_RESULT) 24 7 + 1
    let posts (status : Nat) (t : State) : Prop := t.posted Reg.GATE_RESULT gen (c.index * 256 + status) ∧ t.gate.cmd = none
    let put (op : GateOp) : GateRec := ⟨op, c.table, c.index, if op = .delete then 0 else normalise c.table c.data, s.ltick + 1⟩
    (∀ e, u.gateErr c = some e → ∃ t, exec .gateAcceptance s = .next t ∧ posts e.code t ∧ t.gate = u.gate ∧
      t.get (Fld.PG_LAST_ERR_CODE gatePage) = e.code ∧ t.get (Fld.PG_LAST_ERR_OFFSET gatePage) = Reg.GATE_CMD % 4096 ∧ t.hasEvent gatePage 0 ∧
      s.regsOutside ([Reg.GATE_RESULT, Reg.GATE_EFFECT_LO, Reg.GATE_EFFECT_LO + 4] ++ errRegs gatePage) t ∧ s.changesOnly [.regs, .gate, .msix] t) ∧
    (∀ op, u.gateErr c = none → gateOpOf c.op = some op → ∃ t, exec .gateAcceptance s = .next t ∧ posts 0 t ∧ t.gate.effective = s.gate.effective ∧
      t.gate.txnOpen = s.gate.txnOpen ∧
      (s.gate.txnOpen = true → t.gate.txn = s.gate.txn ++ [{ put op with boundary := 0 }] ∧ t.gate.pending = s.gate.pending) ∧
      (s.gate.txnOpen = false → tableClass c.table = 1 → t.gate.txn = s.gate.txn ∧ t.gate.pending = s.gate.pending ++ [put op] ∧
        t.rd64 Reg.GATE_EFFECT_LO = (s.ltick + 1) % 2 ^ 64)) ∧
    (u.gateErr c = none → c.op = 4 → ∃ t, exec .gateAcceptance s = .next t ∧ posts 0 t ∧ t.gate = u.gate ∧
      (∀ w, w < recLen c.table / 4 → (t.rd (Reg.GATE_READBACK_w w)).toNat = (s.effRec c.table c.index).getD 0 / 2 ^ (32 * w) % 2 ^ 32) ∧
      s.regsOutside ([Reg.GATE_RESULT, Reg.GATE_EFFECT_LO, Reg.GATE_EFFECT_LO + 4] ++ (List.range (recLen c.table / 4)).map Reg.GATE_READBACK_w) t ∧
      s.changesOnly [.regs, .gate] t) ∧
    (u.gateErr c = none → c.op = 5 → ∃ t, exec .gateAcceptance s = .next t ∧ posts 0 t ∧ t.gate = { u.gate with txnOpen := true, txn := [] } ∧
      s.changesOnly [.regs, .gate] t) ∧
    (u.gateErr c = none → c.op = 6 → s.gate.txn ≠ [] → (∀ g ∈ s.gate.txn, tableClass g.table = 1) → ∃ t, exec .gateAcceptance s = .next t ∧ posts 0 t ∧
      t.gate = { u.gate with txnOpen := false, txn := [], pending := s.gate.pending ++ s.gate.txn.map (fun g => { g with boundary := s.ltick + 1 }) } ∧
      t.rd64 Reg.GATE_EFFECT_LO = (s.ltick + 1) % 2 ^ 64) ∧
    (u.gateErr c = none → c.op = 7 → ∃ t, exec .gateAcceptance s = .next t ∧ posts 0 t ∧ t.gate = { u.gate with txnOpen := false, txn := [] })

/-- AUDIO_TICK_BOUNDARY of a device outside a twin, in every device state: the clock reaches the next boundary of the logical tick (the present one while the clock stands
at a boundary that has not fallen, log entry 5), every tick-class record due at it has left the pending records, and the clusters' bank queues have swapped. A device that
takes its inputs from the Ledger reaches its own boundary and that tick has fallen. A program whose activation is due becomes the active one, the one before runs on for
this tick and PROG_ACTIVE is posted. The edge of generator 0 is
counted and posted. A tick-class record that takes effect alone stands in its effective table, or is gone from it after a DELETE. FRAME_BOUNDARY of an effective layout between
ticks: the clock reaches it, the records of the layout due there have left the pending records, and generator 1's edge is counted. How a boundary passed while the queue is empty
comes to be is the environment's: log entry 1.
Choices of the model where the rules leave room: log entries 5, 57, 58, 60, 62, 85, 143, 147. -/
def Obligations.BoundariesTakeDueRecords : Prop :=
  (∀ (fwReady : Bool) (s : State), s.twinState = 0 →
    let n := s.nextTick
    ∃ t, exec (.audioTickBoundary fwReady) s = .next t ∧
      (s.bel.oscReturning = false → n * 1000000 + s.lag < 2 ^ 48 * 1000000000 → t.now = Nat.max s.now (n * 1000000 + s.lag)) ∧
      (∀ g ∈ t.gate.pending, tableClass g.table = 1 → n < g.boundary) ∧
      (∀ k, k < 8 → (t.bank k).draining = (s.bank k).filling)) ∧
  (∀ (fwReady : Bool) (s : State), s.twinState = 3 ∨ s.twinState = 5 →
    let n := tickAfter s.clk.ticked s.now
    ∃ t, exec (.audioTickBoundary fwReady) s = .next t ∧ t.clk.ticked = n ∧ t.gate = s.gate ∧
      (s.bel.oscReturning = false → n * 1000000 < 2 ^ 48 * 1000000000 → t.now = Nat.max s.now (n * 1000000))) ∧
  (∀ (own : Bool) (s : State), s.bel.oscReturning = false →
    (s.ownBoundary own).get (Fld.BELFRY_TRGn_STATUS_EDGES 0) = (s.get (Fld.BELFRY_TRGn_STATUS_EDGES 0) + 1) % 2 ^ (Fld.BELFRY_TRGn_STATUS_EDGES 0).width ∧
      (s.ownBoundary own).hasEvent belfryPage 16) ∧
  (∀ (n : Nat) (g : GateRec) (s : State), s.gate.pending = [g] → tableClass g.table = 1 → g.boundary ≤ n → g.index < 65536 →
    let t := s.gateTick n
    t.gate.pending = [] ∧ (g.op = .delete → t.effRec g.table g.index = none) ∧ (g.op ≠ .delete → t.effRec g.table g.index = some g.data) ∧
      (∀ table index, index < 65536 → (table, index) ≠ (g.table, g.index) → (g.table = 1 → g.op = .delete → table ≠ 4 ∧ table ≠ 5) → t.effRec table index = s.effRec table index)) ∧
  (∀ (lay : Nat) (s : State), (s.layout lay).effective = true → (s.layout lay).next.2 % 1000000 ≠ 0 →
    let x := s.layout lay
    ∃ t, exec (.frameBoundary lay) s = .next t ∧ (x.next.2 + s.lag < 2 ^ 48 * 1000000000 → t.now = Nat.max s.now (x.next.2 + s.lag)) ∧
      ((∀ g ∈ s.gate.pending, g.table = 8 → g.index = lay → x.next.1 < g.boundary) →
        t.gate.pending = s.gate.pending.filter (fun g => !(decide (tableClass g.table = 2) && decide (g.index = lay) && decide (g.boundary ≤ x.next.1))))) ∧
  (∀ (n a : Nat) (p : Prog) (s : State), s.audio.activateAt = some a → s.audio.shadow = some p →
    (a ≤ n → ∃ u, s.activateProgram n = u.post u.audioEvq 0x08 0x70 p.id (n % 2 ^ 32) ∧ u.audio.active = { p with toneStart := toneStarts s.audio.active p n } ∧ u.audio.previous = some s.audio.active ∧
      u.audio.shadow = none ∧ u.audio.activateAt = none ∧ u.audio.lastActivation = some n ∧ u.get Fld.AUDIO_PROG_ACTIVE_ID_ID = p.id % 2 ^ Fld.AUDIO_PROG_ACTIVE_ID_ID.width ∧
      s.regsOutside [Reg.AUDIO_PROG_ACTIVE_ID, Reg.AUDIO_PROG_SHADOW_ID] u ∧ s.changesOnly [.regs, .audio] u) ∧
    (n < a → (s.activateProgram n).audio = { s.audio with previous := none } ∧ s.changesOnly [.audio] (s.activateProgram n)))

/-- PAGE_RESET of a page, accepted: RESET reads 1, ENABLE, PG_EVENT and PG_ERR_COUNT are 0, the block registers the reset does not keep (log entry 19) read their
reset values, and the registers of no other page that is not named here change, for a page with no engine, channel or link behind it. PAGE_RESET_COMPLETE clears RESET, of the gate and the key store not before their command in progress is done.
QUIESCE_SET stores QUIESCE and ENABLE; QUIESCED rises at once on an idle page of the SOC island, and with QUIESCE_DONE on any page with no work in progress. BELFRY rejects a page
reset with E_STATE while a leg or layout exists, and a junior's KEYSTORE page refuses every write with E_TWIN.
Choices of the model where the rules leave room: log entries 19 to 21. -/
def Obligations.PagesResetAndQuiesce : Prop :=
  (∀ (p : Nat) (enable quiesce : Bool) (s : State), p ∈ allPages → s.on (Fld.PG_CTRL_RESET p) = false →
    s.writeErr (Reg.PG_CTRL p) (BitVec.ofNat 32 (4 + b2n quiesce * 2 + b2n enable)) = none →
    (p = belfryPage → s.anyLegOrLayout = true → exec (.pageReset p enable quiesce) s = .next (s.reject (Reg.PG_CTRL p) .state)) ∧
    (p = 0xC1000 → s.twinJunior = true → exec (.pageReset p enable quiesce) s = .next (s.reject (Reg.PG_CTRL p) .twin)) ∧
    (¬ (p = belfryPage ∧ s.anyLegOrLayout = true) → ¬ (p = 0xC1000 ∧ s.twinJunior = true) →
      ∃ t, exec (.pageReset p enable quiesce) s = .next t ∧ t.on (Fld.PG_CTRL_RESET p) = true ∧ t.on (Fld.PG_CTRL_ENABLE p) = false ∧
        t.on (Fld.PG_CTRL_QUIESCE p) = quiesce ∧ t.rd (Reg.PG_EVENT p) = 0 ∧ t.rd (Reg.PG_ERR_COUNT p) = 0 ∧
        (pageEngines p = [] → p ∉ [belfryPage, 0x42000, reevePage, 0xA0000, 0xA1000, 0xA2000, 0xA3000, 0xB8000, 0xC1000] → ¬ (0x10000 ≤ p ∧ p < 0x18000) → ¬ (0x30000 ≤ p ∧ p < 0x34000) →
          (∀ a, pageOf a = p → s.pageKeeps a = false → t.rd a = resetWord a) ∧
          (∀ a, (pageOf a ≠ p ∨ s.pageKeeps a = true) → a ∉ [Reg.PG_CTRL p, Reg.PG_STATUS p, Reg.PG_EVENT p, Reg.PG_ERR_COUNT p] → t.rd a = s.rd a) ∧
          s.changesOnly [.regs] t))) ∧
  (∀ (p : Nat) (s : State), p ∈ allPages → s.on (Fld.PG_CTRL_RESET p) = true →
    (¬ (p = 0x40000 ∧ s.gate.cmd.isSome = true) → ¬ (p = 0xC1000 ∧ s.sec.keyCmd.isSome = true) →
      ∃ t, exec (.pageResetComplete p) s = .next t ∧ t.on (Fld.PG_CTRL_RESET p) = false ∧ (p ≠ 0x40000 → s.regsOutside [Reg.PG_CTRL p] t) ∧ s.changesOnly [.regs] t) ∧
    ((p = 0x40000 ∧ s.gate.cmd.isSome = true) ∨ (p = 0xC1000 ∧ s.sec.keyCmd.isSome = true) → exec (.pageResetComplete p) s = .next s)) ∧
  (∀ (p : Nat) (s : State), p ∈ allPages → ¬ (p = 0xC1000 ∧ s.twinJunior = true) →
    let enable := s.on (Fld.PG_CTRL_ENABLE p)
    s.writeErr (Reg.PG_CTRL p) (BitVec.ofNat 32 (2 + b2n enable)) = none →
    ∃ t, exec (.quiesceSet p enable) s = .next t ∧ t.on (Fld.PG_CTRL_QUIESCE p) = true ∧ t.on (Fld.PG_CTRL_ENABLE p) = enable ∧
      (islandOf p = 1 → s.pageBusy p = false → t.on (Fld.PG_STATUS_QUIESCED p) = true) ∧
      s.regsOutside [Reg.PG_CTRL p, Reg.PG_STATUS p] t ∧ s.changesOnly [.regs] t) ∧
  (∀ (p : Nat) (s : State), p ∈ allPages → s.on (Fld.PG_CTRL_QUIESCE p) = true → s.pageBusy p = false →
    ∃ t, exec (.quiesceDone p) s = .next t ∧ t.on (Fld.PG_STATUS_QUIESCED p) = true ∧ s.regsOutside [Reg.PG_STATUS p] t ∧ s.changesOnly [.regs] t)

/-- MISALIGNED_ACCESS, with the host's access reaching BAR0: a read returns 0 and changes nothing but the value read; a write to a page is discarded, and E_ALIGN with its
offset is posted to that page (PG_LAST_ERR, PG_ERR_COUNT, PG_EVENT.ERR, and the vector they may send), nothing else changing; a write in a core's memory slot posts
E_ALIGN to the page of its cluster.
That OFFSET keeps the low two bits of the address is the model's choice (log entry 160). -/
def Obligations.MisalignedAccessPostsAlign : Prop :=
  (∀ (addr : Nat) (s : State), s.hostCut = false →
    ∃ t, exec (.misalignedAccess addr false) s = .next t ∧ t.readData = 0 ∧ s.changesOnly [.readData] t) ∧
  (∀ (addr : Nat) (s : State), s.hostCut = false → (pageAt addr).isSome = true →
    ∃ t, exec (.misalignedAccess addr true) s = .next t ∧ t.get (Fld.PG_LAST_ERR_CODE (pageOf addr)) = 2 ∧
      t.get (Fld.PG_LAST_ERR_OFFSET (pageOf addr)) = addr % 4096 ∧ t.get (Fld.PG_EVENT_ERR (pageOf addr)) = 1 ∧
      s.regsOutside (errRegs (pageOf addr)) t ∧ s.changesOnly [.regs, .msix] t) ∧
  (∀ (addr k : Nat) (s : State), s.hostCut = false → pageAt addr = none → slotCore addr = some k →
    ∃ t, exec (.misalignedAccess addr true) s = .next t ∧ t.get (Fld.PG_LAST_ERR_CODE (millPage (k / 16))) = 2 ∧
      s.regsOutside (errRegs (millPage (k / 16))) t ∧ s.changesOnly [.regs, .msix] t)

/-- UNMAPPED_WRITE, at an address of no page and no memory slot: the write is discarded, its address stands in GLOBAL_BADADDR.ADDR and COUNT advances, staying at its
greatest value; no other register and no other part changes. A misaligned write there is recorded the same way. A read of such an address returns 0.
Choices of the model where the rules leave room: log entries 23. -/
def Obligations.UnmappedWriteIsRecorded : Prop :=
  ∀ (addr : Nat) (s : State), s.hostCut = false → pageAt addr = none → slotCore addr = none →
    (∃ t, exec (.unmappedWrite addr) s = .next t ∧ exec (.misalignedAccess addr true) s = .next t ∧
      t.get Fld.GLOBAL_BADADDR_ADDR = addr % 2 ^ 26 ∧ t.get Fld.GLOBAL_BADADDR_COUNT = Nat.min 63 (s.get Fld.GLOBAL_BADADDR_COUNT + 1) ∧
      s.regsOutside [Reg.GLOBAL_BADADDR] t ∧ s.changesOnly [.regs] t) ∧
    ∀ r : Reader, s.readWord r addr = 0

/-- PAIR_LO_READ and PAIR_HI_WRITE. A read of a _LO register by a reader returns the low half and loads that reader's capture register of the pair with the high half; no
other capture register, the other reader's included, and nothing else changes. A read of _HI returns the reader's capture, which is 0 before any read of _LO since reset.
A write of _LO of a writable pair is held and changes nothing else; a write of _HI that its page accepts applies the held low half and the high half at once. (The pair of
BELFRY_SEC captures the whole clock, R51; the pair a recall player starts at is also an input of R187; both are stated apart.) -/
def Obligations.PairsAreReadAndWrittenWhole : Prop :=
  (∀ (r : Reader) (addr : Nat) (x : RegSpec) (s : State), addr ≠ Reg.BELFRY_SEC_LO → specAt addr = some x → x.role = .lo →
      s.linked addr = true → s.inReset addr = false →
      ∃ t, exec (.pairLoRead r addr) s = .next t ∧ t.readData = s.liveWord addr ∧ t.captured r (addr + 4) = s.liveWord (addr + 4) ∧
        (∀ (q : Reader) (b : Nat), (q, b) ≠ (r, addr + 4) → t.captured q b = s.captured q b) ∧ s.changesOnly [.capture, .readData] t) ∧
  (∀ (r : Reader) (addr : Nat) (x : RegSpec) (s : State), specAt addr = some x → x.role = .hi → x.pops = false → ¬ addr % 4096 < 0x40 →
      s.linked addr = true → s.inReset addr = false → s.readWord r addr = s.captured r addr) ∧
  (∀ (r : Reader) (addr : Nat), State.reset.captured r addr = 0) ∧
  (∀ (lo : Nat) (w : Word) (s : State), s.writeErr lo w = none → s.pairErr lo = none →
      let t := s.pairLoWrite lo w
      t.held lo = w ∧ (∀ b, b ≠ lo → t.held b = s.held b) ∧ s.changesOnly [.heldLo] t) ∧
  (∀ (hi : Nat) (w : Word) (x : RegSpec) (s : State), s.hostCut = false → specAt hi = some x → x.role = .hi → x.writable = true →
      s.writeErr hi w = none → s.pairErr (hi - 4) = none → s.pairWholeErr (hi - 4) w = none → (indexOf Reg.AUDIO_RPn_START_LO 16 (hi - 4)).isSome = false →
      ∃ t, exec (.pairHiWrite hi w) s = .next t ∧ t = (s.applyWrite (hi - 4) (s.held (hi - 4))).applyWrite (hi - 4 + 4) w ∧
        s.regsOutside [hi - 4, hi - 4 + 4] t ∧ s.changesOnly [.regs] t)

/-- For every register of the map, every row of its table and every word written: after a plain write an RW field holds the value written, a W1C field its bits not
written as 1, a W1S field also those written as 1, a count field 0 after all ones and otherwise what it held, and an RO or POP field what it held. No other register and no
other part changes.
Choices of the model where the rules leave room: log entries 11. -/
def Obligations.FieldsTakeWritesByAccessType : Prop :=
  ∀ (addr : Nat) (r : RegSpec) (x : FieldRow) (w : Word) (s : State), specAt addr = some r → x ∈ r.rows →
    let n := x.hi - x.lo + 1
    let t := s.applyWrite addr w
    let old := bits (s.rd addr) x.lo n
    let new := bits (t.rd addr) x.lo n
    let v := bits w x.lo n
    (x.acc = .rw → new = v) ∧ (x.acc = .w1c → ∀ i, i < n → (new.testBit i = (old.testBit i && !v.testBit i))) ∧
    (x.acc = .w1s → ∀ i, i < n → (new.testBit i = (old.testBit i || v.testBit i))) ∧
    (x.acc = .w1all → new = if v = 2 ^ n - 1 then 0 else old) ∧ (x.acc = .ro ∨ x.acc = .pop → new = old) ∧
    s.regsOutside [addr] t ∧ s.changesOnly [.regs] t

/-- REGISTER_WRITE to PG_EVENT of any page clears the bits written as 1 and keeps the others; to PG_EVENT_EN it stores the word; each where the host's access reaches BAR0
and no junior's key store refuses it. No other register changes, and besides the registers only MSI-X may: the page's vector is sent when the enabled events change from zero
to nonzero. -/
def Obligations.EventRegistersAreWritten : Prop :=
  ∀ (p : Nat) (w : Word) (f : WriteFacts) (s : State), p ∈ allPages → s.hostCut = false → (p = 0xC1000 → s.twinJunior = false) →
    (∃ t, exec (.registerWrite (Reg.PG_EVENT p) w f) s = .next t ∧ t.rd (Reg.PG_EVENT p) = s.rd (Reg.PG_EVENT p) &&& ~~~ w ∧
      s.regsOutside [Reg.PG_EVENT p] t ∧ s.changesOnly [.regs, .msix] t) ∧
    (∃ t, exec (.registerWrite (Reg.PG_EVENT_EN p) w f) s = .next t ∧ t.rd (Reg.PG_EVENT_EN p) = w ∧
      s.regsOutside [Reg.PG_EVENT_EN p] t ∧ s.changesOnly [.regs, .msix] t)

/-- Setting an event bit of a page leaves the other bits of its PG_EVENT and all other registers as they were; it sends the page's MSI-X vector exactly when the enabled
events change from zero to nonzero, and the vector's pending bit stands instead while it is masked or MSI-X is off.
Choices of the model where the rules leave room: log entries 124. -/
def Obligations.EventSendsTheVectorOnce : Prop :=
  ∀ (p i : Nat) (s : State), i < 32 →
    let t := s.event p i
    let v := s.get (Fld.PG_MSIX_VECTOR p)
    let rises := s.pageRaised p = false ∧ (s.rd (Reg.PG_EVENT_EN p)).getLsbD i = true
    let open_ := s.msix.enable = true ∧ s.msix.funcMask = false ∧ s.msix.unmasked.get (fun _ => false) v = true
    t.rd (Reg.PG_EVENT p) = s.rd (Reg.PG_EVENT p) ||| BitVec.twoPow 32 i ∧ s.regsOutside [Reg.PG_EVENT p] t ∧ s.changesOnly [.regs, .msix] t ∧
    (¬ rises → t.msix = s.msix) ∧
    (rises → open_ → t.msix.sent.get (fun _ => 0) v = s.msix.sent.get (fun _ => 0) v + 1) ∧
    (rises → ¬ open_ → t.msix.pendingBit.get (fun _ => false) v = true ∧ t.msix.sent = s.msix.sent)

/-- Posting a result sets VALID (bit 31) and the data and increments GEN (bits 30:24) modulo 128; while a new result is pending VALID reads 0 and the other bits keep the
previous data and GEN. No other register and no other part changes. A read of a register changes no state, so two reads with no new result between them return the same
value. -/
def Obligations.ResultRegistersCarryAGeneration : Prop :=
  ∀ (s : State) (addr data : Nat),
    (s.postResult addr data).posted addr (bits (s.rd addr) 24 7 + 1) data ∧
    bits ((s.unvalid addr).rd addr) 31 1 = 0 ∧ bits ((s.unvalid addr).rd addr) 0 31 = bits (s.rd addr) 0 31 ∧
    s.regsOutside [addr] (s.postResult addr data) ∧ s.regsOutside [addr] (s.unvalid addr) ∧
    s.changesOnly [.regs] (s.postResult addr data) ∧ s.changesOnly [.regs] (s.unvalid addr)

/-- PKTIN_LEG_SEL, ADAPT_LEG_SEL, ADAPT_OSTR_SEL, PKTOUT_LEG_SEL, GRANARY_Q_SEL, AUDIO_PATH_SNK, AUDIO_METER_SEL, AUDIO_SEAT_SEL, VDE0_STR_SEL, CMP0_LAY_SEL, VEE0_EC_SEL,
REEVE_FLOW_SEL, DDRC_DEV_SEL, WEIR_FENCE_SEL, KEYSTORE_SEL and CIPHER_SLOT_SEL: a write that its page accepts stores the selector and starts the fetch: each result register
has VALID = 0 and keeps its data and GEN; no other register and no other part changes.
Choices of the model where the rules leave room: log entries 22. -/
def Obligations.SelectorWriteStartsAFetch : Prop :=
  ∀ (s : State) (a b c : Nat),
    (s.writeErr Reg.PKTIN_LEG_SEL (BitVec.ofNat 32 a) = none → ∃ t, exec (.pktinLegSel a) s = .next t ∧
      fetchStarted Reg.PKTIN_LEG_SEL (BitVec.ofNat 32 a) [Reg.PKTIN_LEG_POLICE, Reg.PKTIN_LEG_DUP] s t) ∧
    (s.writeErr Reg.ADAPT_LEG_SEL (BitVec.ofNat 32 a) = none → ∃ t, exec (.adaptLegSel a) s = .next t ∧
      fetchStarted Reg.ADAPT_LEG_SEL (BitVec.ofNat 32 a) [Reg.ADAPT_LEG_RATE, Reg.ADAPT_LEG_STATE] s t) ∧
    (s.writeErr Reg.ADAPT_OSTR_SEL (BitVec.ofNat 32 a) = none → ∃ t, exec (.adaptOstrSel a) s = .next t ∧
      fetchStarted Reg.ADAPT_OSTR_SEL (BitVec.ofNat 32 a) [Reg.ADAPT_OSTR_LAYER] s t) ∧
    (s.writeErr Reg.PKTOUT_LEG_SEL (BitVec.ofNat 32 a) = none → ∃ t, exec (.pktoutLegSel a) s = .next t ∧
      fetchStarted Reg.PKTOUT_LEG_SEL (BitVec.ofNat 32 a) [Reg.PKTOUT_LEG_TOKENS, Reg.PKTOUT_LEG_RATE] s t) ∧
    (s.writeErr Reg.GRANARY_Q_SEL (BitVec.ofNat 32 a) = none → ∃ t, exec (.granaryQSel a false) s = .next t ∧
      fetchStarted Reg.GRANARY_Q_SEL (BitVec.ofNat 32 a) [Reg.GRANARY_Q_COUNT, Reg.GRANARY_Q_CELLS, Reg.GRANARY_Q_LOST] s t) ∧
    (let w := BitVec.ofNat 32 (a * 2 ^ 28 + b)
     s.writeErr Reg.AUDIO_PATH_SNK w = none → ∃ t, exec (.audioPathSnk a b) s = .next t ∧ fetchStarted Reg.AUDIO_PATH_SNK w [Reg.AUDIO_PATH_LAT] s t) ∧
    (let w := BitVec.ofNat 32 (a * 2 ^ 28 + b)
     s.writeErr Reg.AUDIO_METER_SEL w = none → (bits w 28 4 = 1 ∨ bits w 28 4 = 7) → ∃ t, exec (.audioMeterSel a b) s = .next t ∧
      fetchStarted Reg.AUDIO_METER_SEL w [Reg.AUDIO_METER_RMS, Reg.AUDIO_METER_PEAK] s t) ∧
    (s.writeErr Reg.AUDIO_SEAT_SEL (BitVec.ofNat 32 a) = none → ∃ t, exec (.audioSeatSel a) s = .next t ∧
      fetchStarted Reg.AUDIO_SEAT_SEL (BitVec.ofNat 32 a) ((List.range 16).map Reg.AUDIO_SEATk) s t) ∧
    (s.writeErr Reg.VDE0_STR_SEL (BitVec.ofNat 32 a) = none → ∃ t, exec (.vde0StrSel a) s = .next t ∧
      fetchStarted Reg.VDE0_STR_SEL (BitVec.ofNat 32 a) [Reg.VDE0_STR_STATE, Reg.VDE0_STR_LATE] s t) ∧
    (let w := BitVec.ofNat 32 (b * 2 ^ 16 + a)
     s.writeErr Reg.CMP0_LAY_SEL w = none → ∃ t, exec (.cmp0LaySel a b) s = .next t ∧ fetchStarted Reg.CMP0_LAY_SEL w [Reg.CMP0_LAY_STATE, Reg.CMP0_LAYER_STATE] s t) ∧
    (let w := BitVec.ofNat 32 (c * 2 ^ 18 + b * 2 ^ 16 + a)
     s.writeErr Reg.VEE0_EC_SEL w = none → ∃ t, exec (.vee0EcSel a b c) s = .next t ∧ fetchStarted Reg.VEE0_EC_SEL w [Reg.VEE0_EC_STATE, Reg.VEE0_EC_DEBT] s t) ∧
    (s.writeErr Reg.REEVE_FLOW_SEL (BitVec.ofNat 32 a) = none → ∃ t, exec (.reeveFlowSel a) s = .next t ∧
      fetchStarted Reg.REEVE_FLOW_SEL (BitVec.ofNat 32 a) [Reg.REEVE_FLOW_STATE] s t) ∧
    (∀ n, n < 8 → let w := BitVec.ofNat 32 (a * 32 + b * 16 + c)
     s.writeErr (Reg.DDRCn_DEV_SEL n) w = none → ∃ t, exec (.ddrcDevSel n a b c) s = .next t ∧ fetchStarted (Reg.DDRCn_DEV_SEL n) w [Reg.DDRCn_DEV_CE n] s t) ∧
    (let w := BitVec.ofNat 32 (a * 65536 + b)
     s.writeErr Reg.WEIR_FENCE_SEL w = none → ∃ t, exec (.weirFenceSel a b) s = .next t ∧ fetchStarted Reg.WEIR_FENCE_SEL w [Reg.WEIR_FENCE_STATUS] s t) ∧
    (s.writeErr Reg.KEYSTORE_SEL (BitVec.ofNat 32 a) = none → s.twinJunior = false → ∃ t, exec (.keystoreSel a) s = .next t ∧
      fetchStarted Reg.KEYSTORE_SEL (BitVec.ofNat 32 a) [Reg.KEYSTORE_STATE] s t) ∧
    (s.writeErr Reg.CIPHER_SLOT_SEL (BitVec.ofNat 32 a) = none → ∃ t, exec (.cipherSlotSel a) s = .next t ∧
      fetchStarted Reg.CIPHER_SLOT_SEL (BitVec.ofNat 32 a) [Reg.CIPHER_SLOT_STATE] s t)

/-- RESULT_FETCH_COMPLETE of a fetch in progress ends it and posts its result registers with the next GEN: of PKTIN_LEG_SEL the selected leg's policer drops and duplicates,
of PKTOUT_LEG_SEL the shaper's tokens in whole bytes and rate, of GRANARY_Q_SEL a queue's unclaimed items, cells and LOST count, of REEVE_FLOW_SEL a flow's held results and
the FSEQ of its head, and of ADAPT_LEG_SEL the rate of a leg with a controller, which is 0 for one without.
Choices of the model where the rules leave room: log entries 22, 31. -/
def Obligations.FetchPostsItsResults : Prop :=
  ∀ s : State,
    (Reg.PKTIN_LEG_SEL ∈ s.fetches → ∃ t, exec (.resultFetchComplete Reg.PKTIN_LEG_SEL) s = .next t ∧ Reg.PKTIN_LEG_SEL ∉ t.fetches ∧
      (let g := s.leg (s.get Fld.PKTIN_LEG_SEL_LEG)
       let gen := bits (s.rd Reg.PKTIN_LEG_POLICE) 24 7 + 1
       t.posted Reg.PKTIN_LEG_POLICE gen g.police ∧ t.posted Reg.PKTIN_LEG_DUP gen g.dup ∧
       s.regsOutside [Reg.PKTIN_LEG_POLICE, Reg.PKTIN_LEG_DUP] t ∧ s.changesOnly [.regs, .fetches] t)) ∧
    (Reg.PKTOUT_LEG_SEL ∈ s.fetches → ∃ t, exec (.resultFetchComplete Reg.PKTOUT_LEG_SEL) s = .next t ∧ Reg.PKTOUT_LEG_SEL ∉ t.fetches ∧
      (let h := (s.leg (s.get Fld.PKTOUT_LEG_SEL_LEG)).shaper
       let gen := bits (s.rd Reg.PKTOUT_LEG_TOKENS) 24 7 + 1
       t.posted Reg.PKTOUT_LEG_TOKENS gen (if h.present then (h.upTo s.lnow).tokens / 8000000 else 0) ∧
       t.posted Reg.PKTOUT_LEG_RATE gen (if h.present then Nat.min 16777215 h.rate else 0) ∧
       s.regsOutside [Reg.PKTOUT_LEG_TOKENS, Reg.PKTOUT_LEG_RATE] t ∧ s.changesOnly [.regs, .fetches] t)) ∧
    (Reg.GRANARY_Q_SEL ∈ s.fetches → s.get Fld.GRANARY_Q_SEL_QUEUE < 0x4100 → ∃ t, exec (.resultFetchComplete Reg.GRANARY_Q_SEL) s = .next t ∧ Reg.GRANARY_Q_SEL ∉ t.fetches ∧
      (let g := s.queue (s.get Fld.GRANARY_Q_SEL_QUEUE)
       let gen := bits (s.rd Reg.GRANARY_Q_COUNT) 24 7 + 1
       t.posted Reg.GRANARY_Q_COUNT gen (g.items.filter (fun i => !i.claimed)).length ∧ t.posted Reg.GRANARY_Q_CELLS gen g.cells ∧ t.posted Reg.GRANARY_Q_LOST gen g.lost ∧
       s.regsOutside [Reg.GRANARY_Q_COUNT, Reg.GRANARY_Q_CELLS, Reg.GRANARY_Q_LOST] t ∧ s.changesOnly [.regs, .fetches] t)) ∧
    (Reg.REEVE_FLOW_SEL ∈ s.fetches → ∃ t, exec (.resultFetchComplete Reg.REEVE_FLOW_SEL) s = .next t ∧ Reg.REEVE_FLOW_SEL ∉ t.fetches ∧
      (let f := s.get Fld.REEVE_FLOW_SEL_FLOW
       let held := (s.tasks.filter (fun p => decide (p.2.flow = f) && decide (p.2.state = .held))).length
       t.posted Reg.REEVE_FLOW_STATE (bits (s.rd Reg.REEVE_FLOW_STATE) 24 7 + 1)
         (held * 65536 + match s.flowHead f with | some p => p.2.fseq | none => s.reeve.nextSeq.get (fun _ => 0) f) ∧
       s.regsOutside [Reg.REEVE_FLOW_STATE] t ∧ s.changesOnly [.regs, .fetches] t)) ∧
    (Reg.ADAPT_LEG_SEL ∈ s.fetches → ∃ t, exec (.resultFetchComplete Reg.ADAPT_LEG_SEL) s = .next t ∧ Reg.ADAPT_LEG_SEL ∉ t.fetches ∧
      (let l := s.get Fld.ADAPT_LEG_SEL_LEG
       t.posted Reg.ADAPT_LEG_RATE (bits (s.rd Reg.ADAPT_LEG_RATE) 24 7 + 1) (if s.hasController l then (s.leg l).cc.rate else 0) ∧
       s.regsOutside [Reg.ADAPT_LEG_RATE, Reg.ADAPT_LEG_STATE] t ∧ s.changesOnly [.regs, .fetches] t))

/-- GLOBAL_FENCE_READ lets a read of GLOBAL_FENCE wait, or return 0 at once while the page cannot be read; FENCE_READ_COMPLETE ends the oldest waiting one, and the read returns the Belfry short time of that instant, which the
register holds. Nothing else changes. -/
def Obligations.FenceReadReturnsTheShortTime : Prop :=
  (∀ s : State, s.hostCut = false →
    (s.linked Reg.GLOBAL_FENCE = true → s.inReset Reg.GLOBAL_FENCE = false → ∃ t, exec .globalFenceRead s = .next t ∧ t.fences = s.fences ++ [s.now] ∧ s.changesOnly [.fences] t) ∧
    (s.linked Reg.GLOBAL_FENCE = false ∨ s.inReset Reg.GLOBAL_FENCE = true → exec .globalFenceRead s = .next { s with readData := 0 })) ∧
  (∀ (s : State) (a : Nat) (l : List Nat), s.fences = a :: l → ∃ t, exec .fenceReadComplete s = .next t ∧ t.fences = l ∧
    t.readData = BitVec.ofNat 32 (s.now % 2 ^ 32) ∧ t.rd Reg.GLOBAL_FENCE = BitVec.ofNat 32 (s.now % 2 ^ 32) ∧ s.regsOutside [Reg.GLOBAL_FENCE] t ∧
    s.changesOnly [.regs, .readData, .fences] t)

/-- BELFRY_CAPTURE_READ, while the page can be read: seconds 31:0 are returned, and reads of BELFRY_SEC_HI, BELFRY_NS and BELFRY_FRAC by the same reader then return the
matching fields of that capture, for a clock whose counts are in their ranges. The other reader's capture and everything else stay as they were. Before any such read since
reset a read of the three registers returns 0. -/
def Obligations.ClockReadCapturesTheWholeClock : Prop :=
  (∀ (r : Reader) (s : State), s.linked Reg.BELFRY_SEC_LO = true → s.inReset Reg.BELFRY_SEC_LO = false → s.clk.sec < 2 ^ 48 → s.clk.ns < 1000000000 → s.clk.frac < 2 ^ 38 →
    ∃ t, exec (.belfryCaptureRead r) s = .next t ∧ t.readData.toNat = s.clk.sec % 2 ^ 32 ∧
      (t.readWord r Reg.BELFRY_SEC_HI).toNat = s.clk.sec / 2 ^ 32 ∧ (t.readWord r Reg.BELFRY_NS).toNat = s.clk.ns ∧
      (t.readWord r Reg.BELFRY_FRAC).toNat = s.clk.frac / 2 ^ 22 ∧
      (∀ (q : Reader) (a : Nat), q ≠ r ∨ a ∉ [Reg.BELFRY_SEC_HI, Reg.BELFRY_NS, Reg.BELFRY_FRAC] → t.captured q a = s.captured q a) ∧
      s.changesOnly [.capture, .readData] t) ∧
  (∀ (r : Reader), State.reset.readWord r Reg.BELFRY_SEC_HI = 0 ∧ State.reset.readWord r Reg.BELFRY_NS = 0 ∧ State.reset.readWord r Reg.BELFRY_FRAC = 0)

/-- SERVO_SAMPLE of the active source in ACQUIRING or LOCKED posts the measured offset in BELFRY_SERVO, in 2⁻⁴ ns. A PTP sample is taken only at the plane's SLAVE port, and shows
its full receive stamp less its origin and the path delay. In ACQUIRING with STEP_EN = 1 and an offset above 10,000 ns the clock steps by
the offset and STEPPED is posted, or, where the result would fall below 0, ADDEND stands at the clamp of R54 in the direction that reduces the offset. Otherwise ADDEND stays within
the clamp, the sixteenth sample within 100 ns leads to LOCKED, and in LOCKED the sixteenth above 1,000 ns to ACQUIRING. PPS_SOURCE_LOST, BINATH_SOURCE_LOST and
PTP_SOURCE_LOST: ACQUIRING on the other source where it is present, otherwise, with no active source, FREERUN from ACQUIRING and HOLDOVER with the mean of the servo's output,
clamped, from LOCKED; the PASSIVE
port of a PRP plane takes over without a state change. SERVO_ENABLE_WRITE, STEP_EN_WRITE and BELFRY_SRC_WRITE: the rows and checks of their writes. Every change of state or source posts SERVO. That a
sample's servo output is any value within the clamp, that ACTIVE_SRC reads 0 in HOLDOVER and when the clamp acts are the model's.
Choices of the model where the rules leave room: log entries 8, 27, 28, 153, 157, 158. -/
def Obligations.ServoFollowsItsTable : Prop :=
  ∀ s : State,
    let st := s.get Fld.BELFRY_STATUS_SERVO_STATE
    let active := s.get Fld.BELFRY_STATUS_ACTIVE_SRC
    let servoEn := s.on Fld.BELFRY_CTRL_SERVO_EN
    let lim : Int := if s.on Fld.BELFRY_CTRL_STEP_EN then 274877906 else 54975581
    (∀ (n : Nat) (lanB : Bool) (origin delay : Int), n < 2 →
      let slave : Prop := s.get (if lanB then Fld.BELFRY_PTPn_STATE_LANB n else Fld.BELFRY_PTPn_STATE_LANA n) = 9
      (¬ slave → exec (.servoSample (.ptp n lanB origin delay)) s = .next s) ∧
      (slave → s.servoMeas (.ptp n lanB origin delay) = some (n + 1, ((s.bel.ptpRxStamp.get (fun _ => 0) (2 * n + b2n lanB) : Nat) : Int) - origin - delay))) ∧
    (∀ (m : ServoMeas) (src : Nat) (offset : Int), s.servoMeas m = some (src, offset) → servoEn = true → active = src → src ≠ 0 → s.srcPresent src = true → (st = 1 ∨ st = 2) →
      let mag := offset.natAbs
      let target : Int := (s.clk.sixteenths : Int) - offset
      let steps := st = 1 ∧ s.on Fld.BELFRY_CTRL_STEP_EN = true ∧ 160000 < mag
      ∃ t, exec (.servoSample m) s = .next t ∧
        t.posted Reg.BELFRY_SERVO (bits (s.rd Reg.BELFRY_SERVO) 24 7 + 1) (unsigned 24 (clampI (-8388608) 8388607 offset)) ∧
        (steps → 0 ≤ target → (t.clk.sixteenths : Int) = target % ((2 ^ 48 * 1000000000 * 16 : Nat) : Int) ∧ t.clk.cycles = s.clk.cycles ∧ t.hasEvent belfryPage 4 ∧ t.servoIs 1 src) ∧
        (steps → target < 0 → t.clk = s.clk ∧ (t.rd Reg.BELFRY_ADDEND).toInt = (if 0 < offset then -lim else lim) ∧ t.servoIs 1 src) ∧
        (¬ steps → t.clk = s.clk ∧ -lim ≤ (t.rd Reg.BELFRY_ADDEND).toInt ∧ (t.rd Reg.BELFRY_ADDEND).toInt ≤ lim ∧
          (st = 1 → t.servoIs (if mag ≤ 1600 ∧ 15 ≤ s.bel.inTol then 2 else 1) src) ∧
          (st = 2 → t.servoIs (if 16000 < mag ∧ 15 ≤ s.bel.outTol then 1 else 2) src)) ∧
        s.servoPosts t ∧ s.regsOutside [Reg.BELFRY_SERVO, Reg.BELFRY_ADDEND, Reg.BELFRY_STATUS, Reg.PG_EVENT belfryPage] t ∧
        s.changesOnly [.regs, .clk, .bel, .free, .msix] t) ∧
    (∀ x ∈ [(Instr.ptpSourceLost 0 false, 1), (.ptpSourceLost 1 false, 2), (.ppsSourceLost, 3), (.binathSourceLost, 4)],
      let p := s.get Fld.BELFRY_SRC_PRI
      let other := if p = x.2 then s.get Fld.BELFRY_SRC_SEC else p
      let uses := servoEn = true ∧ active = x.2 ∧ (st = 1 ∨ st = 2)
      ∃ t, exec x.1 s = .next t ∧ t.srcPresent x.2 = false ∧ (∀ d, d ≠ x.2 → t.srcPresent d = s.srcPresent d) ∧
        (uses → other ≠ x.2 → s.srcPresent other = true → t.servoIs 1 other ∧ t.rd Reg.BELFRY_ADDEND = s.rd Reg.BELFRY_ADDEND) ∧
        (uses → (other = x.2 ∨ s.srcPresent other = false) → st = 1 → t.servoIs 0 0 ∧ t.rd Reg.BELFRY_ADDEND = s.rd Reg.BELFRY_ADDEND) ∧
        (uses → (other = x.2 ∨ s.srcPresent other = false) → st = 2 → t.servoIs 3 0 ∧ t.rd Reg.BELFRY_ADDEND = BitVec.ofInt 32 (clampI (-lim) lim s.holdoverAddend)) ∧
        (¬ uses → t.rd Reg.BELFRY_STATUS = s.rd Reg.BELFRY_STATUS ∧ t.rd Reg.BELFRY_ADDEND = s.rd Reg.BELFRY_ADDEND) ∧
        s.servoPosts t ∧
        s.regsOutside [Reg.BELFRY_ADDEND, Reg.BELFRY_STATUS, Reg.PG_EVENT belfryPage, Reg.BELFRY_PTPn_STATE 0, Reg.BELFRY_PTPn_STATE 1] t ∧
        s.changesOnly [.regs, .bel, .msix] t) ∧
    (∀ n, n < 2 → s.on (Fld.PLANEn_CFG_PRP n) = true → ∀ p ∈ [(9, 7), (7, 9)], s.get (Fld.BELFRY_PTPn_STATE_LANA n) = p.1 → s.get (Fld.BELFRY_PTPn_STATE_LANB n) = p.2 →
      ∃ t, exec (.ptpSourceLost n true) s = .next t ∧ t.get (Fld.BELFRY_PTPn_STATE_LANA n) = p.2 ∧ t.get (Fld.BELFRY_PTPn_STATE_LANB n) = p.1 ∧
        s.regsOutside [Reg.BELFRY_PTPn_STATE n] t ∧ s.changesOnly [.regs] t) ∧
    (∀ en : Bool, s.writeErr Reg.BELFRY_CTRL (putBits (s.rd Reg.BELFRY_CTRL) 0 1 (b2n en)) = none →
      ∃ t, exec (.servoEnableWrite en) s = .next t ∧ t.on Fld.BELFRY_CTRL_SERVO_EN = en ∧
        t.on Fld.BELFRY_CTRL_STEP_EN = s.on Fld.BELFRY_CTRL_STEP_EN ∧
        (en = false → t.servoIs 0 0) ∧ (en = true → servoEn = false → s.acquires t (t.rd Reg.BELFRY_STATUS = s.rd Reg.BELFRY_STATUS)) ∧
        (en = false → t.rd Reg.BELFRY_ADDEND = s.rd Reg.BELFRY_ADDEND) ∧
        s.servoPosts t ∧ s.regsOutside [Reg.BELFRY_CTRL, Reg.BELFRY_STATUS, Reg.BELFRY_ADDEND, Reg.PG_EVENT belfryPage] t ∧ s.changesOnly [.regs, .bel, .msix] t) ∧
    (∀ en : Bool, s.writeErr Reg.BELFRY_CTRL (putBits (s.rd Reg.BELFRY_CTRL) 1 1 (b2n en)) = none →
      (¬ (en = true ∧ s.on Fld.BELFRY_CTRL_STEP_EN = false ∧ s.anyLegOrLayout = true) →
        ∃ t, exec (.stepEnWrite en) s = .next t ∧ t.on Fld.BELFRY_CTRL_STEP_EN = en ∧ t.on Fld.BELFRY_CTRL_SERVO_EN = servoEn ∧
          (servoEn = false → t.rd Reg.BELFRY_ADDEND = s.rd Reg.BELFRY_ADDEND) ∧
          (servoEn = true → st ≠ 0 → let k : Int := if en then 274877906 else 54975581
            (t.rd Reg.BELFRY_ADDEND).toInt = clampI (-k) k (s.rd Reg.BELFRY_ADDEND).toInt ∧ t.servoIs st active) ∧
          s.servoPosts t ∧ s.regsOutside [Reg.BELFRY_CTRL, Reg.BELFRY_STATUS, Reg.BELFRY_ADDEND, Reg.PG_EVENT belfryPage] t ∧ s.changesOnly [.regs, .bel, .msix] t) ∧
      (en = true → s.on Fld.BELFRY_CTRL_STEP_EN = false → s.anyLegOrLayout = true →
        exec (.stepEnWrite en) s = .next (s.reject Reg.BELFRY_CTRL .state))) ∧
    (∀ w : Word, s.writeErr Reg.BELFRY_SRC w = none → ¬ (s.on Fld.GLOBAL_STRAPS_FABRIC_MASTER = true ∧ (bits w 0 3 = 4 ∨ bits w 4 3 = 4)) →
      ∃ t, exec (.belfrySrcWrite w) s = .next t ∧ t.rd Reg.BELFRY_SRC = (s.applyWrite Reg.BELFRY_SRC w).rd Reg.BELFRY_SRC ∧
        (servoEn = true → s.acquires t (t.servoIs 0 0)) ∧ (servoEn = false → t.rd Reg.BELFRY_STATUS = s.rd Reg.BELFRY_STATUS) ∧
        s.servoPosts t ∧ s.regsOutside [Reg.BELFRY_SRC, Reg.BELFRY_STATUS, Reg.PG_EVENT belfryPage] t ∧ s.changesOnly [.regs, .bel, .msix] t)

/-- STEP_ABS and STEP_REL, accepted with STEP_EN = 1 and SERVO_EN = 0: the clock is set to SEC s + NS ns, with no fraction, or SEC × 10⁹ + NS ns with SEC signed is added,
modulo 2⁴⁸ s, the fraction kept; STEPPED
is posted; no register but PG_EVENT changes and the elapsed base cycles stay. Every running generator resumes at its first edge strictly after the new time, and a pulse in progress
still ends at its base cycle. A write without
STEP_EN or with SERVO_EN is rejected with E_STATE, and a REL result below 0 with E_RANGE.
Choices of the model where the rules leave room: log entries 5, 155. -/
def Obligations.StepsSetTheClock : Prop :=
  ∀ s : State,
    let permitted := s.on Fld.BELFRY_CTRL_STEP_EN = true ∧ s.on Fld.BELFRY_CTRL_SERVO_EN = false
    let stepped (goal : Nat) (t : State) : Prop :=
      t.clk.sixteenths = goal % (2 ^ 48 * 1000000000 * 16) ∧ t.now = goal / 16 % (2 ^ 48 * 1000000000) ∧ t.clk.cycles = s.clk.cycles ∧ t.hasEvent belfryPage 4 ∧
      (∀ n, n < 16 → s.trgRunning n = true → (t.trg n).nextK = t.trgFirstAfter n t.now ∧ (t.trg n).high = (s.trg n).high ∧ (t.trg n).endCycle = (s.trg n).endCycle) ∧
      s.regsOutside [Reg.PG_EVENT belfryPage] t ∧ s.changesOnly [.regs, .clk, .bel, .msix] t
    (s.writeErr Reg.BELFRY_STEP_CMD 1 = none → permitted → ∃ t, exec .stepAbs s = .next t ∧
      stepped ((s.rd64 Reg.BELFRY_STEP_SEC_LO % 2 ^ 48 * 1000000000 + s.get Fld.BELFRY_STEP_NS_NS) * 16) t ∧ t.clk.frac = 0) ∧
    (s.writeErr Reg.BELFRY_STEP_CMD 2 = none → permitted → 0 ≤ s.stepRelTarget → ∃ t, exec .stepRel s = .next t ∧ stepped (s.stepRelTarget.toNat * 16 + s.clk.sixteenths % 16) t) ∧
    (s.writeErr Reg.BELFRY_STEP_CMD 2 = none → permitted → s.stepRelTarget < 0 → exec .stepRel s = .next (s.reject Reg.BELFRY_STEP_CMD .range)) ∧
    (¬ permitted → (s.writeErr Reg.BELFRY_STEP_CMD 1 = none → exec .stepAbs s = .next (s.reject Reg.BELFRY_STEP_CMD .state)) ∧
      (s.writeErr Reg.BELFRY_STEP_CMD 2 = none → exec .stepRel s = .next (s.reject Reg.BELFRY_STEP_CMD .state)))

/-- OSC_LOST moves the clock by at most 2 ns, sets OSC_INT, counts the loss (the count stays at 255) and posts OSC_LOST. OSC_BACK at a tick boundary moves the clock by at
most 2 ns, clears OSC_INT and posts OSC_BACK; between boundaries it only waits for the next one. The time is more than 2 ns away from either end of its range.
Choices of the model where the rules leave room: log entries 2, 27. -/
def Obligations.OscRefLossSwitchesTheClock : Prop :=
  ∀ s : State, 2 ≤ s.now → s.now + 3 < 2 ^ 48 * 1000000000 →
    (s.on Fld.BELFRY_STATUS_OSC_INT = false → ∃ t, exec .oscLost s = .next t ∧ t.on Fld.BELFRY_STATUS_OSC_INT = true ∧
      t.get Fld.BELFRY_OSC_LOST_COUNT = Nat.min 255 (s.get Fld.BELFRY_OSC_LOST_COUNT + 1) ∧ t.hasEvent belfryPage 1 ∧ t.now ≤ s.now + 2 ∧ s.now ≤ t.now + 2 ∧
      s.regsOutside [Reg.BELFRY_STATUS, Reg.BELFRY_OSC, Reg.PG_EVENT belfryPage] t ∧ s.changesOnly [.regs, .clk, .bel, .free, .msix] t) ∧
    (s.on Fld.BELFRY_STATUS_OSC_INT = true → s.now % 1000000 = 0 → ∃ t, exec .oscBack s = .next t ∧ t.on Fld.BELFRY_STATUS_OSC_INT = false ∧
      t.hasEvent belfryPage 2 ∧ t.bel.oscReturning = false ∧ t.now ≤ s.now + 2 ∧ s.now ≤ t.now + 2 ∧
      s.regsOutside [Reg.BELFRY_STATUS, Reg.PG_EVENT belfryPage] t ∧ s.changesOnly [.regs, .clk, .bel, .free, .msix] t) ∧
    (s.on Fld.BELFRY_STATUS_OSC_INT = true → s.now % 1000000 ≠ 0 → ∃ t, exec .oscBack s = .next t ∧ t.bel.oscReturning = true ∧
      s.changesOnly [.bel] t)

/-- PTP_MESSAGE_RX that the plane's clock processes: it runs, and the message is of its domain, transport and delay mechanism and states an interval of R56. The port states the
best-master logic gives are reported, a SLAVE port's fellow PASSIVE, LAN B DISABLED on a plane that is not doubly attached and a slave-only clock never master, and the path
delay, which stays at 65,535; an Announce of the selected master makes its source present and, while that source is the active one, sets BELFRY_UTC and posts its event when it
changes. Any other message, a management message among them, changes nothing. PTP_MESSAGE_TX of a kind the clock sends puts one frame, with the clock's identity, domain, priorities and clockClass 248
(but in HOLDOVER), last in S0 of the LAN's port. As such a frame departs it is stamped, if it is an event message, with the launch time + CAL_TX + EXT_TX; one-step, a Sync or
Pdelay_Resp carries that stamp itself, and two-step, the follow-up carries it.
Choices of the model where the rules leave room: log entries 8, 46, 159, 167, 169. -/
def Obligations.PtpClocksReportAndStamp : Prop :=
  (∀ (m : PtpMsg) (s : State),
    let n := m.plane
    let accepted : Prop := n < 2 ∧ s.on (Fld.BELFRY_PTPn_CFG_ENABLE n) = true ∧ ptpOfProfile (s.get (Fld.BELFRY_PTPn_CFG_PROFILE n)) m.kind = true ∧
      m.domain = s.get (Fld.BELFRY_PTPn_CFG_DOMAIN n) ∧ m.transport = s.get (Fld.BELFRY_PTPn_CFG_TRANSPORT n) ∧ ptpIntervalOk m.kind m.interval = true
    let prp := s.on (Fld.PLANEn_CFG_PRP n)
    let ports (t : State) (a b : Nat) : Prop := t.get (Fld.BELFRY_PTPn_STATE_LANA n) = a ∧ t.get (Fld.BELFRY_PTPn_STATE_LANB n) = b
    (m.kind = .management ∨ m.kind = .other → exec (.ptpMessageRx m) s = .next s) ∧ (¬ accepted → exec (.ptpMessageRx m) s = .next s) ∧
    (accepted → m.lanA' < 16 → m.lanB' < 16 →
      ∃ t, exec (.ptpMessageRx m) s = .next t ∧ t.get (Fld.BELFRY_PTPn_STATE_DELAY n) = Nat.min 65535 m.delay ∧
        (prp = false → t.get (Fld.BELFRY_PTPn_STATE_LANB n) = 3) ∧ (prp = true → m.lanA' = 9 → ports t 9 7) ∧ (prp = true → m.lanA' ≠ 9 → m.lanB' = 9 → ports t 7 9) ∧
        (s.on (Fld.BELFRY_PTPn_CFG_SLAVE_ONLY n) = false → prp = true → m.lanA' ≠ 9 → m.lanB' ≠ 9 → ports t m.lanA' m.lanB') ∧
        (s.on (Fld.BELFRY_PTPn_CFG_SLAVE_ONLY n) = true → t.get (Fld.BELFRY_PTPn_STATE_LANA n) ≠ 6 ∧ t.get (Fld.BELFRY_PTPn_STATE_LANB n) ≠ 6) ∧
        (m.kind = .announce → m.fromMaster = true → t.srcPresent (n + 1) = true ∧
          (t.get Fld.BELFRY_STATUS_ACTIVE_SRC = n + 1 →
            t.rd Reg.BELFRY_UTC = BitVec.ofNat 32 (b2n m.leap59 * 2 ^ 18 + b2n m.leap61 * 2 ^ 17 + b2n m.utcValid * 2 ^ 16 + m.utcOffset % 2 ^ 16) ∧
            (t.rd Reg.BELFRY_UTC ≠ s.rd Reg.BELFRY_UTC → t.hasEvent belfryPage 5)) ∧
          (t.get Fld.BELFRY_STATUS_ACTIVE_SRC ≠ n + 1 → t.rd Reg.BELFRY_UTC = s.rd Reg.BELFRY_UTC)) ∧
        (¬ (m.kind = .announce ∧ m.fromMaster = true) → s.regsOutside [Reg.BELFRY_PTPn_STATE n] t ∧ s.changesOnly [.regs] t) ∧
        s.regsOutside [Reg.BELFRY_PTPn_STATE n, Reg.BELFRY_UTC, Reg.BELFRY_STATUS, Reg.PG_EVENT belfryPage] t ∧ s.changesOnly [.regs, .bel, .msix] t)) ∧
  (∀ (n : Nat) (lanB : Bool) (kind : PtpKind) (s : State), n < 2 → s.on (Fld.PG_CTRL_ENABLE (planePage n)) = true → (lanB = true → s.on (Fld.PLANEn_CFG_PRP n) = true) →
    s.ptpSends n kind = true →
    let p := 2 * n + b2n lanB
    s.on (Fld.PG_CTRL_QUIESCE (ethPage p)) = false → s.on (Fld.PG_CTRL_QUIESCE (0x28000 + p * 0x1000)) = false →
    ∃ t f, exec (.ptpMessageTx n lanB kind) s = .next t ∧ (t.port p).q.get (fun _ => []) 0 = (s.port p).q.get (fun _ => []) 0 ++ [f] ∧
      (∀ q, q ≠ 0 → (t.port p).q.get (fun _ => []) q = (s.port p).q.get (fun _ => []) q) ∧ (∀ r, r ≠ p → t.port r = s.port r) ∧
      (∃ m, f.ptp = some m ∧ m.kind = kind ∧ m.domain = s.get (Fld.BELFRY_PTPn_CFG_DOMAIN n) ∧ m.prio1 = s.get (Fld.BELFRY_PTPn_CFG_PRIO1 n) ∧ m.prio2 = s.get (Fld.BELFRY_PTPn_CFG_PRIO2 n) ∧
        m.identity = s.ptpIdentity n ∧ m.clockAccuracy = 0xFE ∧ m.variance = 0xFFFF ∧ (s.get Fld.BELFRY_STATUS_SERVO_STATE ≠ 3 → m.clockClass = 248)) ∧ f.rct = none ∧
      s.changesOnly [.ports] t) ∧
  (∀ (p : Nat) (f : Frame) (l : List Frame) (m : PtpOut) (s : State), p < 4 → s.portSends p = true → s.linkUp p = true → s.on (Fld.SCHEDn_CFG_STRICT_EN p) = true →
    (s.port p).q.get (fun _ => []) 0 = f :: l → f.ptp = some m →
    let launch := s.clk.sixteenths + s.get (Fld.BELFRY_PnCAL_CAL_TX p) + s.get (Fld.BELFRY_PnEXT_EXT_TX p)
    let oneStep := s.on (Fld.BELFRY_PTPn_CFG_ONE_STEP (p / 2))
    ∃ t, exec (.frameDepart p) s = .next t ∧ (t.port p).q.get (fun _ => []) 0 = l ∧
      t.bel.ptpTxStamp.get (fun _ => 0) p = (if ptpEvent m.kind then launch else s.bel.ptpTxStamp.get (fun _ => 0) p) ∧
      (∃ y, t.bel.ptpSent.get (fun _ => none) p = some y ∧ y.kind = m.kind ∧
        ((m.kind = .sync ∨ m.kind = .pdelayResp) → oneStep = true → y.stamp = some launch) ∧
        ((m.kind = .followUp ∨ m.kind = .pdelayRespFollowUp) → y.stamp = some (s.bel.ptpTxStamp.get (fun _ => 0) p))))

/-- TRIGGER_ENABLE: rejected with E_PRIV on a generator the host may not program and with E_RANGE on the conditions of R63; otherwise the word stands in CTRL, and a generator
that was disabled starts at edge 0 for a START in the future, at the first edge strictly after now with LATE for a periodic one with START in the past, and not at all, with
LATE set and ENABLE cleared, for a one-shot one. TRIGGER_EDGE of a running generator the host programs: at the edge's Belfry time START + floor(k × NUM / DEN) ns EDGES advances, the
generator's event is posted, the next edge is k + 1, a pin rises, or falls where INVERT = 1, until ceil(WIDTH / 2) base cycles later, and a one-shot generator ends (one with a pin after
its pulse). TRIGGER_PULSE_END: the pulse ends at its base cycle, and a one-shot generator whose edge has come then clears ENABLE.
Choices of the model where the rules leave room: log entries 5, 37, 142, 154. -/
def Obligations.TriggerGeneratorsMakeTheirEdges : Prop :=
  let programmed (n : Nat) : Prop := (2 ≤ n ∧ n ≤ 6) ∨ (11 ≤ n ∧ n < 16)
  let level (s t : State) (n : Nat) : Prop := trgPin n = true → (t.trg n).level = xor (t.trg n).high (s.on (Fld.BELFRY_TRGn_CTRL_INVERT n))
  (∀ (n : Nat) (oneshot invert : Bool) (s : State), n < 16 →
    let w : Word := BitVec.ofNat 32 (b2n invert * 4 + b2n oneshot * 2 + 1)
    (¬ programmed n → s.linked (Reg.BELFRY_TRGn_CTRL n) = true → s.inReset (Reg.BELFRY_TRGn_CTRL n) = false →
      exec (.triggerEnable n oneshot invert) s = .next (s.reject (Reg.BELFRY_TRGn_CTRL n) .priv)) ∧
    (s.writeErr (Reg.BELFRY_TRGn_CTRL n) w = none → programmed n ∧
      (s.trgBadPeriod n = true → exec (.triggerEnable n oneshot invert) s = .next (s.reject (Reg.BELFRY_TRGn_CTRL n) .range)) ∧
      (s.trgBadPeriod n = false → s.on (Fld.BELFRY_TRGn_CTRL_ENABLE n) = false →
        ∃ t, exec (.triggerEnable n oneshot invert) s = .next t ∧
          t.on (Fld.BELFRY_TRGn_CTRL_ONESHOT n) = oneshot ∧ t.on (Fld.BELFRY_TRGn_CTRL_INVERT n) = invert ∧ level t t n ∧ (t.trg n).high = (s.trg n).high ∧
          (s.now < s.trgStart n → t.on (Fld.BELFRY_TRGn_CTRL_ENABLE n) = true ∧ t.on (Fld.BELFRY_TRGn_STATUS_RUN n) = true ∧ (t.trg n).nextK = 0) ∧
          (s.trgStart n ≤ s.now → oneshot = false → t.on (Fld.BELFRY_TRGn_CTRL_ENABLE n) = true ∧ t.on (Fld.BELFRY_TRGn_STATUS_RUN n) = true ∧
            t.on (Fld.BELFRY_TRGn_STATUS_LATE n) = true ∧ (t.trg n).nextK = s.trgFirstAfter n s.now) ∧
          (s.trgStart n ≤ s.now → oneshot = true → t.on (Fld.BELFRY_TRGn_CTRL_ENABLE n) = false ∧ t.on (Fld.BELFRY_TRGn_STATUS_RUN n) = false ∧
            t.on (Fld.BELFRY_TRGn_STATUS_LATE n) = true) ∧
          (∀ m, m ≠ n → t.trg m = s.trg m) ∧ s.regsOutside [Reg.BELFRY_TRGn_CTRL n, Reg.BELFRY_TRGn_STATUS n] t ∧ s.changesOnly [.regs, .bel] t))) ∧
  (∀ (n : Nat) (samples : List Word) (s : State), programmed n → s.on (Fld.BELFRY_TRGn_CTRL_ENABLE n) = true → s.on (Fld.BELFRY_TRGn_STATUS_RUN n) = true →
    s.on Fld.PWR_CFG_WAKE_GEN_EN = false →
    let k := (s.trg n).nextK
    ∃ t, exec (.triggerEdge n samples) s = .next t ∧ (s.trgEdgeTime n k < 2 ^ 48 * 1000000000 → t.now = Nat.max s.now (s.trgEdgeTime n k)) ∧
      t.get (Fld.BELFRY_TRGn_STATUS_EDGES n) = (s.get (Fld.BELFRY_TRGn_STATUS_EDGES n) + 1) % 2 ^ (Fld.BELFRY_TRGn_STATUS_EDGES n).width ∧
      t.hasEvent belfryPage (16 + n) ∧ (t.trg n).nextK = k + 1 ∧ level s t n ∧
      (trgPin n = true → (t.trg n).high = true ∧ (t.trg n).endCycle = t.clk.cycles + (s.get (Fld.BELFRY_TRGn_WIDTH_WIDTH n) + 1) / 2) ∧
      (s.on (Fld.BELFRY_TRGn_CTRL_ONESHOT n) = true → t.on (Fld.BELFRY_TRGn_STATUS_RUN n) = false ∧ t.on (Fld.BELFRY_TRGn_CTRL_ENABLE n) = trgPin n) ∧
      (s.on (Fld.BELFRY_TRGn_CTRL_ONESHOT n) = false → t.rd (Reg.BELFRY_TRGn_CTRL n) = s.rd (Reg.BELFRY_TRGn_CTRL n)) ∧ (∀ m, m ≠ n → t.trg m = s.trg m) ∧
      s.regsOutside [Reg.BELFRY_TRGn_CTRL n, Reg.BELFRY_TRGn_STATUS n, Reg.PG_EVENT belfryPage] t ∧ s.changesOnly [.regs, .clk, .bel, .msix] t) ∧
  (∀ (n : Nat) (s : State), trgPin n = true → (s.trg n).high = true →
    let ends : Prop := s.on (Fld.BELFRY_TRGn_CTRL_ONESHOT n) = true ∧ s.on (Fld.BELFRY_TRGn_STATUS_RUN n) = false
    ∃ t, exec (.triggerPulseEnd n) s = .next t ∧ (t.trg n).high = false ∧ level s t n ∧
      (ends → t.on (Fld.BELFRY_TRGn_CTRL_ENABLE n) = false) ∧ (¬ ends → t.rd (Reg.BELFRY_TRGn_CTRL n) = s.rd (Reg.BELFRY_TRGn_CTRL n)) ∧
      t.clk.cycles = Nat.max s.clk.cycles (s.trg n).endCycle ∧ (∀ m, m ≠ n → t.trg m = s.trg m) ∧
      s.regsOutside [Reg.BELFRY_TRGn_CTRL n, Reg.PG_EVENT belfryPage] t ∧ s.changesOnly [.regs, .clk, .bel, .msix] t)

/-- CAPTURE_EDGE of an edge of PPS_IN or EVT_IN0 to EVT_IN3: every enabled unit that selects the input and the edge, if the new level holds for MINW × 2 ns, puts the time, in
the clock's own format, last in its FIFO, or, when 16 entries wait, discards it and makes the next
pop return OVF; either way PG_EVENT bit 8 + n is set. No other unit changes. CAPTURE_POP returns VALID with OVF, the edge and how many entries are left, removes the oldest entry and loads its time
into SEC_LO, SEC_HI, NS and FRAC of the unit; on an empty FIFO, or while the page cannot be read, it returns 0 and changes nothing. -/
def Obligations.CaptureUnitsQueueTimes : Prop :=
  (∀ (src hold : Nat) (falling : Bool) (s : State), src < 5 →
    ∃ t, exec (.captureEdge src falling hold) s = .next t ∧
      (∀ n, let edge := s.get (Fld.BELFRY_CAPn_CTRL_EDGE n)
        let takes : Prop := n < 8 ∧ s.on (Fld.BELFRY_CAPn_CTRL_ENABLE n) = true ∧ s.get (Fld.BELFRY_CAPn_CTRL_SRC n) = src ∧ 2 * s.get (Fld.BELFRY_CAPn_CTRL_MINW n) ≤ hold ∧
          (edge = 2 ∨ (edge = 0 ∧ falling = false) ∨ (edge = 1 ∧ falling = true))
        (takes → t.hasEvent belfryPage (8 + n)) ∧
        (takes → (s.cap n).fifo.length < 16 → t.cap n = { s.cap n with fifo := (s.cap n).fifo ++ [⟨falling, s.clk.sec, s.clk.ns, s.clk.frac / 2 ^ 22⟩] }) ∧
        (takes → 16 ≤ (s.cap n).fifo.length → t.cap n = { s.cap n with ovf := true }) ∧ (¬ takes → t.cap n = s.cap n)) ∧
      s.regsOutside [Reg.PG_EVENT belfryPage] t ∧ s.changesOnly [.regs, .bel, .msix] t) ∧
  (∀ (n : Nat) (e : CapEntry) (l : List CapEntry) (s : State), n < 8 → s.linked Reg.BELFRY_CTRL = true → s.inReset Reg.BELFRY_CTRL = false →
    (s.cap n).fifo = e :: l → l.length < 16 → e.sec < 2 ^ 48 → e.ns < 2 ^ 30 → e.frac < 2 ^ 16 →
    ∃ t, exec (.capturePop n) s = .next t ∧ t.cap n = ⟨l, false⟩ ∧ (∀ m, m ≠ n → t.cap m = s.cap m) ∧
      bits t.readData 31 1 = 1 ∧ bits t.readData 30 1 = b2n (s.cap n).ovf ∧ bits t.readData 29 1 = b2n e.falling ∧ bits t.readData 0 5 = l.length ∧
      t.rd64 (Reg.BELFRY_CAPn_SEC_LO n) = e.sec ∧ (t.rd (Reg.BELFRY_CAPn_NS n)).toNat = e.ns ∧ (t.rd (Reg.BELFRY_CAPn_FRAC n)).toNat = e.frac ∧
      s.regsOutside [Reg.BELFRY_CAPn_SEC_LO n, Reg.BELFRY_CAPn_SEC_HI n, Reg.BELFRY_CAPn_NS n, Reg.BELFRY_CAPn_FRAC n] t ∧
      s.changesOnly [.regs, .readData, .bel] t) ∧
  (∀ (n : Nat) (s : State), ((s.cap n).fifo = [] ∨ s.linked Reg.BELFRY_CTRL = false ∨ s.inReset Reg.BELFRY_CTRL = true) →
    ∃ t, exec (.capturePop n) s = .next t ∧ t.readData = 0 ∧ s.changesOnly [.readData] t)

/-- ETH_LINK_UP of a port whose link is down: all lanes have a signal, FEC lock and alignment hold, there is no local fault, UP and PG_STATUS.BLK bit 16 are set and the
port's event 1 is posted. ETH_LINK_DOWN with FEC lock or alignment lost, or a local fault, of a port whose link is up: the facts reported stand in ETHn_LINK, UP and the
status bit clear, DOWN_COUNT advances and event 2 is posted. Either way the plane's status bit follows whether one of its used ports is up, and posts the plane's event when it
changes. With none of these losses, or while the link is down, ETH_LINK_DOWN only shows the facts reported. Nothing else changes.
Choices of the model where the rules leave room: log entries 21, 30. -/
def Obligations.EthernetLinksGoUpAndDown : Prop :=
  ∀ (n : Nat) (s : State), n < 4 →
    let planeShown (t : State) : Prop :=
      bits (t.rd (Reg.PG_STATUS (planePage (n / 2)))) 16 1 = b2n (t.planeUp (n / 2)) ∧
      (bits (s.rd (Reg.PG_STATUS (planePage (n / 2)))) 16 1 ≠ b2n (t.planeUp (n / 2)) → t.hasEvent (planePage (n / 2)) (if t.planeUp (n / 2) then 2 else 1)) ∧
      s.regsOutside [Reg.ETHn_LINK n, Reg.PG_STATUS (ethPage n), Reg.PG_EVENT (ethPage n), Reg.PG_STATUS (planePage (n / 2)), Reg.PG_EVENT (planePage (n / 2))] t ∧
      s.changesOnly [.regs, .msix] t
    (∀ remote : Bool, s.linkUp n = false → ∃ t, exec (.ethLinkUp n remote) s = .next t ∧ t.linkUp n = true ∧ t.get (Fld.ETHn_LINK_SIGNAL n) = (if s.get (Fld.ETHn_CFG_MODE n) = 1 then 3 else 15) ∧
      t.on (Fld.ETHn_LINK_FEC_LOCK n) = true ∧ t.on (Fld.ETHn_LINK_ALIGNED n) = true ∧ t.on (Fld.ETHn_LINK_LOCAL_FAULT n) = false ∧
      t.on (Fld.ETHn_LINK_REMOTE_FAULT n) = remote ∧ t.get (Fld.ETHn_LINK_DOWN_COUNT n) = s.get (Fld.ETHn_LINK_DOWN_COUNT n) ∧
      bits (t.rd (Reg.PG_STATUS (ethPage n))) 16 1 = 1 ∧ t.hasEvent (ethPage n) 1 ∧ planeShown t) ∧
    (∀ (fec aligned fault remote : Bool) (signal : Nat), ∃ t, exec (.ethLinkDown n fec aligned fault signal remote) s = .next t ∧
      t.get (Fld.ETHn_LINK_SIGNAL n) = signal % 16 ∧ t.on (Fld.ETHn_LINK_FEC_LOCK n) = fec ∧ t.on (Fld.ETHn_LINK_ALIGNED n) = aligned ∧
      t.on (Fld.ETHn_LINK_LOCAL_FAULT n) = fault ∧ t.on (Fld.ETHn_LINK_REMOTE_FAULT n) = remote ∧
      (s.linkUp n = true → (fec = false ∨ aligned = false ∨ fault = true) → t.linkUp n = false ∧
        t.get (Fld.ETHn_LINK_DOWN_COUNT n) = (s.get (Fld.ETHn_LINK_DOWN_COUNT n) + 1) % 65536 ∧
        bits (t.rd (Reg.PG_STATUS (ethPage n))) 16 1 = 0 ∧ t.hasEvent (ethPage n) 2 ∧ planeShown t) ∧
      (s.linkUp n = false ∨ (fec = true ∧ aligned = true ∧ fault = false) → t.linkUp n = s.linkUp n ∧
        t.get (Fld.ETHn_LINK_DOWN_COUNT n) = s.get (Fld.ETHn_LINK_DOWN_COUNT n) ∧ s.regsOutside [Reg.ETHn_LINK n] t ∧ s.changesOnly [.regs] t))

/-- PRP_ENTRY_FORGET frees a source's entry FORGET × 10 ms after its last frame. PRP_SUPERVISION_TX of a doubly attached, enabled plane, at a multiple of SUP_INT ms, puts one frame
in S0 of both ports, of class CTRL, with one trailer number and each LAN's identifier. PUNT_HEAD_WRITE and INJECT_TAIL_WRITE below SLOTS store the pointer, and at or above it are
rejected with E_RANGE. INJECT_SLOT_SEND with no earlier slot on its way reads the slot at HEAD. A slot of a length outside 60 to 1,984 bytes, for a LAN B the plane does not have, or for no LAN,
is counted in BAD and not sent, and HEAD passes it. Of any other a frame for each LAN it names, with the plane's own source address, waits: of class CTRL in S0 or S1 of the port, and HEAD
stays until it has left; of the other classes in the port's host queue, where Granary admits it. It has a trailer, with one number for both LANs, where it asks for one outside a twin.
Choices of the model where the rules leave room: log entries 12, 38, 61, 166, 169. -/
def Obligations.PrpAndHostRingsMove : Prop :=
  (∀ (n src : Nat) (e : PrpEntry) (s : State), n < 2 → (s.plane n).prp.find? (fun e => decide (e.src = src)) = some e →
    ∃ t, exec (.prpEntryForget n src) s = .next t ∧ (t.plane n).prp = (s.plane n).prp.filter (fun x => decide (x.src ≠ src)) ∧
      (e.lastAt + s.get (Fld.PLANEn_PRP_CFG_FORGET n) * 10000000 < 2 ^ 48 * 1000000000 →
        t.now = Nat.max s.now (e.lastAt + s.get (Fld.PLANEn_PRP_CFG_FORGET n) * 10000000)) ∧
      (∀ m, m ≠ n → t.plane m = s.plane m) ∧ s.regsOutside [Reg.PLANEn_PRP_TABLE n] t ∧ s.changesOnly [.regs, .clk, .planes] t) ∧
  (∀ (n : Nat) (s : State), n < 2 → s.on (Fld.PLANEn_PRP_CFG_SUP_EN n) = true → s.doubly n = true → s.on (Fld.PG_CTRL_ENABLE (planePage n)) = true →
    s.quiescing (planePage n) = false → (∀ p ∈ [2 * n, 2 * n + 1], s.portTakes p = true) →
    ∃ t, exec (.prpSupervisionTx n) s = .next t ∧ (t.plane n).txSeq = ((s.plane n).txSeq + 1) % 65536 ∧ (t.plane n).prp = (s.plane n).prp ∧
      (∀ p ∈ [2 * n, 2 * n + 1], ∃ f r, (t.port p).q.get (fun _ => []) 0 = (s.port p).q.get (fun _ => []) 0 ++ [f] ∧
        f.rct = some r ∧ r.seq = (s.plane n).txSeq % 65536 ∧ r.lan = (if p = 2 * n then 10 else 11) ∧ f.tag = none ∧ f.dscp = s.get (Fld.PLANEn_QOS_DSCP_CTRL n) ∧
        ∀ q, q ≠ 0 → (t.port p).q.get (fun _ => []) q = (s.port p).q.get (fun _ => []) q) ∧
      (∃ d, (t.plane n).lastSup = some d ∧ d % (s.get (Fld.PLANEn_PRP_CFG_SUP_INT n) * 1000000) = 0) ∧
      (∀ p, p ∉ [2 * n, 2 * n + 1] → t.port p = s.port p) ∧ (∀ m, m ≠ n → t.plane m = s.plane m) ∧ s.changesOnly [.clk, .planes, .ports] t) ∧
  (∀ (n v : Nat) (s : State), n < 2 → v < 32768 →
    (let w : Word := BitVec.ofNat 32 (v * 65536)
     s.writeErr (Reg.PLANEn_PUNT_PTR n) w = none →
      (v < s.get (Fld.PLANEn_PUNT_CFG_SLOTS n) → ∃ t, exec (.puntHeadWrite n v) s = .next t ∧ t.get (Fld.PLANEn_PUNT_PTR_HEAD n) = v ∧
        t.get (Fld.PLANEn_PUNT_PTR_TAIL n) = s.get (Fld.PLANEn_PUNT_PTR_TAIL n) ∧ s.regsOutside [Reg.PLANEn_PUNT_PTR n] t ∧ s.changesOnly [.regs] t) ∧
      (s.get (Fld.PLANEn_PUNT_CFG_SLOTS n) ≤ v → exec (.puntHeadWrite n v) s = .next (s.reject (Reg.PLANEn_PUNT_PTR n) .range))) ∧
    (let w : Word := BitVec.ofNat 32 v
     s.writeErr (Reg.PLANEn_INJ_PTR n) w = none →
      (v < s.get (Fld.PLANEn_INJ_CFG_SLOTS n) → ∃ t, exec (.injectTailWrite n v) s = .next t ∧ t.get (Fld.PLANEn_INJ_PTR_TAIL n) = v ∧
        t.get (Fld.PLANEn_INJ_PTR_HEAD n) = s.get (Fld.PLANEn_INJ_PTR_HEAD n) ∧ s.regsOutside [Reg.PLANEn_INJ_PTR n] t ∧ s.changesOnly [.regs] t) ∧
      (s.get (Fld.PLANEn_INJ_CFG_SLOTS n) ≤ v → exec (.injectTailWrite n v) s = .next (s.reject (Reg.PLANEn_INJ_PTR n) .range)))) ∧
  (∀ (n : Nat) (s : State), n < 2 → s.on (Fld.PLANEn_INJ_CFG_ENABLE n) = true → s.on (Fld.PG_CTRL_ENABLE (planePage n)) = true →
    s.quiescing (planePage n) = false → (∀ p ∈ [2 * n, 2 * n + 1], s.portTakes p = true ∧ (s.queue (0x4000 + p)).bad = false) →
    s.get Fld.PWR_STATE_STATE ≠ 2 → s.get Fld.PWR_STATE_STATE ≠ 3 → (s.plane n).injOut = [] →
    s.get (Fld.PLANEn_INJ_PTR_HEAD n) < s.get (Fld.PLANEn_INJ_CFG_SLOTS n) → s.slotWaits n (s.get (Fld.PLANEn_INJ_PTR_HEAD n)) = false →
    s.get (Fld.PLANEn_INJ_PTR_HEAD n) ≠ s.get (Fld.PLANEn_INJ_PTR_TAIL n) →
    let head := s.get (Fld.PLANEn_INJ_PTR_HEAD n)
    let h := bytesNat (s.dram.readList (s.rd64 (Reg.PLANEn_INJ_BASE_LO n) + head * 2048) 4)
    let len := h % 65536
    let lans := recField h 2 0 2
    let rct := recField h 2 2 1 = 1 ∧ s.get Fld.TWIN_STATUS_STATE = 0
    let named (lan : Nat) : Prop := lan < 2 ∧ lans / 2 ^ lan % 2 = 1
    let bad := len < 60 ∨ 1984 < len ∨ (2 ≤ lans ∧ s.doubly n = false) ∨ lans = 0
    let made (lan : Nat) (f : Frame) : Prop := f.slot = some head ∧ f.len = len + 4 + (if rct then 6 else 0) ∧ (f.bytes.drop 6).take 6 = beBytes 6 (s.planeMac n) ∧
      (rct → ∃ r, f.rct = some r ∧ r.seq = (s.plane n).txSeq % 65536 ∧ r.lan = 10 + lan) ∧ (¬ rct → f.rct = none)
    ∃ t, exec (.injectSlotSend n) s = .next t ∧ t.get (Fld.PLANEn_INJ_PTR_TAIL n) = s.get (Fld.PLANEn_INJ_PTR_TAIL n) ∧
      (bad → t.get (Fld.PLANEn_INJ_BAD n) = Nat.min 65535 (s.get (Fld.PLANEn_INJ_BAD n) + 1) ∧ t.ports = s.ports ∧
        t.get (Fld.PLANEn_INJ_PTR_HEAD n) = (head + 1) % s.get (Fld.PLANEn_INJ_CFG_SLOTS n) % 32768 ∧ (t.plane n).injOut = []) ∧
      (¬ bad → t.get (Fld.PLANEn_INJ_BAD n) = s.get (Fld.PLANEn_INJ_BAD n) ∧
        (t.plane n).txSeq = (if rct then ((s.plane n).txSeq + 1) % 65536 else (s.plane n).txSeq) ∧
        (recField h 3 0 2 = 0 → t.get (Fld.PLANEn_INJ_PTR_HEAD n) = head ∧ (t.plane n).injOut = [head] ∧
          ∃ q, (q = 0 ∨ q = 1) ∧ ∀ lan, named lan → ∃ f, made lan f ∧ f.dscp = s.get (Fld.PLANEn_QOS_DSCP_CTRL n) ∧
            (t.port (2 * n + lan)).q.get (fun _ => []) q = (s.port (2 * n + lan)).q.get (fun _ => []) q ++ [f]) ∧
        (recField h 3 0 2 ≠ 0 → ∀ lan, named lan → (t.queue (0x4000 + (2 * n + lan))).items.length = (s.queue (0x4000 + (2 * n + lan))).items.length + 1 →
          ∃ f, made lan f ∧ f.item.isSome = true ∧
            (t.port (2 * n + lan)).q.get (fun _ => []) hostQueue = (s.port (2 * n + lan)).q.get (fun _ => []) hostQueue ++ [f]) ∧
        (∀ p, ¬ (∃ lan, named lan ∧ p = 2 * n + lan) → t.port p = s.port p)) ∧
      s.regsOutside [Reg.PLANEn_INJ_PTR n, Reg.PLANEn_INJ n, Fld.FAULT_CONTAINED_COUNT.addr] t ∧
      s.changesOnly [.regs, .queues, .freeCells, .nextPkt, .planes, .ports] t)

/-- FRAME_RECEIVE at a port its plane uses, while the blocks on its way do not quiesce. A frame with a bad FCS or FEC, or of a length outside 64 to MAX_FRAME, is dropped and counted in
ETHn_RX_ERR; any other counts in RX_FRAMES and RX_OCTETS. Supervision counts in SUP_RX. On a doubly attached plane a frame whose trailer number its source's entry has seen inside the
window, or a LAN B copy that completes together with its LAN A copy, is discarded and counted in PRP_DROP, and one not seen there is accepted; either way the entry remembers when. An accepted
frame for another MAC address, or to a plane that is not enabled, is counted in DROP_L2.MAC; one of a VLAN the plane does not hold in DROP_L2.VLAN; one of an EtherType or protocol the device
does not take is punted with its reason, and so are a UDP datagram that no leg matches and one that is not of version 2 for a leg that is not HALTED. A PTP event message leaves its full
stamp. Media for a leg outside ACTIVE power state is counted in PWR_MEDIA_DROP. A datagram of a leg without a policer goes on to its checks. A punted frame goes to the slot at TAIL, TAIL
advances and a PUNT entry is posted, or it is dropped and counted in the first of LONG, FULL and RATE that applies.
Choices of the model where the rules leave room: log entries 25, 61, 104, 111, 149, 173. -/
def Obligations.ReceivedFramesPassTheirChecks : Prop :=
  (∀ (f : RxFrame) (s : State), f.port < 4 → (f.port % 2 = 1 → s.doubly (f.port / 2) = true) → s.quiescing (ethPage f.port) = false →
    let n := f.port / 2
    let bad := f.fcsBad = true ∨ f.fecBad = true
    let size := f.len < 64 ∨ s.get (Fld.ETHn_CFG_MAX_FRAME f.port) < f.len
    let errs := [Reg.ETHn_FEC_CORR f.port, Reg.ETHn_FEC_UNCORR f.port, Reg.ETHn_RX_ERR f.port]
    let counts := Reg.ETHn_FEC_CORR f.port :: [Reg.ETHn_RX_FRAMES_LO f.port, Reg.ETHn_RX_FRAMES_LO f.port + 4, Reg.ETHn_RX_OCTETS_LO f.port, Reg.ETHn_RX_OCTETS_LO f.port + 4]
    let counted (t : State) : Prop := t.rd64 (Reg.ETHn_RX_FRAMES_LO f.port) = (s.rd64 (Reg.ETHn_RX_FRAMES_LO f.port) + 1) % 2 ^ 64 ∧
      t.rd64 (Reg.ETHn_RX_OCTETS_LO f.port) = (s.rd64 (Reg.ETHn_RX_OCTETS_LO f.port) + f.len) % 2 ^ 64
    (bad → ∃ t, exec (.frameReceive f) s = .next t ∧
      t.get (Fld.ETHn_RX_ERR_FCS f.port) = Nat.min (2 ^ (Fld.ETHn_RX_ERR_FCS f.port).width - 1) (s.get (Fld.ETHn_RX_ERR_FCS f.port) + 1) ∧
      s.regsOutside errs t ∧ s.changesOnly [.regs] t) ∧
    (¬ bad → size → ∃ t, exec (.frameReceive f) s = .next t ∧
      t.get (Fld.ETHn_RX_ERR_SIZE f.port) = Nat.min (2 ^ (Fld.ETHn_RX_ERR_SIZE f.port).width - 1) (s.get (Fld.ETHn_RX_ERR_SIZE f.port) + 1) ∧
      s.regsOutside errs t ∧ s.changesOnly [.regs] t) ∧
    (¬ bad → ¬ size → f.body = .supervision → ∃ t, exec (.frameReceive f) s = .next t ∧ counted t ∧
      t.get (Fld.PLANEn_PRP_ERR_SUP_RX n) = (s.get (Fld.PLANEn_PRP_ERR_SUP_RX n) + 1) % 2 ^ (Fld.PLANEn_PRP_ERR_SUP_RX n).width ∧
      s.regsOutside (Reg.PLANEn_PRP_ERR n :: counts) t ∧ s.changesOnly [.regs] t) ∧
    (¬ bad → ¬ size → f.body ≠ .supervision → (∀ e, f.body ≠ .ptp e) → s.doubly n = true → ∀ seq b, f.rct = some (seq, b) →
      let second := f.port % 2 = 1 ∧ f.together = true
      let goesOn (regs : List Nat) : Prop := ∃ u, exec (.frameReceive f) s = .next (u.layer2 f n (s.rxStamp f.port)) ∧ counted u ∧
        (∃ e' ∈ (u.plane n).prp, e'.src = f.src ∧ e'.seen.contains seq = true ∧ e'.lastAt = s.now) ∧
        s.regsOutside (regs ++ Reg.PLANEn_PRP_ERR n :: counts) u ∧ s.changesOnly [.regs, .planes] u
      (∀ e, (s.plane n).prp.find? (fun e => decide (e.src = f.src)) = some e →
        (second ∨ (seqDist e.top seq ≤ 128 ∧ e.seen.contains seq = true) → ∃ t, exec (.frameReceive f) s = .next t ∧ counted t ∧
          t.get (Fld.PLANEn_PRP_DROP_COUNT n) = (s.get (Fld.PLANEn_PRP_DROP_COUNT n) + 1) % 2 ^ (Fld.PLANEn_PRP_DROP_COUNT n).width ∧
          (∃ e' ∈ (t.plane n).prp, e'.src = f.src ∧ e'.top = e.top ∧ e'.seen = e.seen ∧ e'.lastAt = s.now) ∧
          s.regsOutside ([Reg.PLANEn_PRP_DROP n, Reg.PLANEn_PRP_ERR n] ++ counts) t ∧ s.changesOnly [.regs, .planes] t) ∧
        (¬ second → ¬ (seqDist e.top seq ≤ 128 ∧ e.seen.contains seq = true) → goesOn [])) ∧
      ((s.plane n).prp.find? (fun e => decide (e.src = f.src)) = none → ¬ second → (s.plane n).prp.length < 4096 → goesOn [Reg.PLANEn_PRP_TABLE n])) ∧
    (¬ bad → ¬ size → f.body ≠ .supervision → ((∃ e, f.body = .ptp e) ∨ f.rct = none ∨ s.doubly n = false) →
      ∃ u, exec (.frameReceive f) s = .next (u.layer2 f n (s.rxStamp f.port)) ∧ counted u ∧ s.regsOutside counts u ∧ s.changesOnly [.regs] u)) ∧
  (∀ (f : RxFrame) (n stamp : Nat) (s : State), s.quiescing (planePage n) = false →
    let mine := s.on (Fld.PG_CTRL_ENABLE (planePage n)) = true ∧ (f.dst = s.planeMac n ∨ f.dst = 2 ^ 48 - 1 ∨ s.usedMulticast n f.dst = true)
    (¬ mine → ∃ t, s.layer2 f n stamp = t ∧ t.get Fld.PKTIN_DROP_L2_MAC = Nat.min (2 ^ Fld.PKTIN_DROP_L2_MAC.width - 1) (s.get Fld.PKTIN_DROP_L2_MAC + 1) ∧
      s.regsOutside [Reg.PKTIN_DROP_L2] t ∧ s.changesOnly [.regs] t) ∧
    (mine → s.vlanOk n f.vlan = false → ∃ t, s.layer2 f n stamp = t ∧
      t.get Fld.PKTIN_DROP_L2_VLAN = Nat.min (2 ^ Fld.PKTIN_DROP_L2_VLAN.width - 1) (s.get Fld.PKTIN_DROP_L2_VLAN + 1) ∧
      s.regsOutside [Reg.PKTIN_DROP_L2] t ∧ s.changesOnly [.regs] t) ∧
    (mine → s.vlanOk n f.vlan = true → ∀ x ∈ [(RxBody.arp, 1), (.icmp4, 2), (.icmp6, 3), (.dhcp, 4), (.fragment, 5), (.otherEther, 7), (.otherIp, 8)],
      f.body = x.1 → s.layer2 f n stamp = s.punt n x.2 f.port stamp f) ∧
    (mine → s.vlanOk n f.vlan = true → f.body = .ptp false → s.layer2 f n stamp = s) ∧
    (mine → s.vlanOk n f.vlan = true → f.body = .ptp true → ∃ t, s.layer2 f n stamp = t ∧
      t.bel.ptpRxStamp.get (fun _ => 0) f.port = s.rxStamp16 f.port ∧ s.changesOnly [.bel] t) ∧
    (mine → s.vlanOk n f.vlan = true → s.quiescing 0x26000 = false → ∀ dst src sp dp p, f.body = .udp dst src sp dp p →
      (s.ownAddr n dst = false ∨ s.findLeg n src sp dp p.ssrc = none → s.layer2 f n stamp = s.punt n 6 f.port stamp f) ∧
      (∀ l path, s.ownAddr n dst = true → s.findLeg n src sp dp p.ssrc = some (l, path) → s.quiescing 0x2C000 = false →
        (p.version2 = false → (s.leg l).state ≠ .halted → s.layer2 f n stamp = s.punt n 9 f.port stamp f) ∧
        (p.version2 = true → s.mediaOff = true → ∃ t, s.layer2 f n stamp = t ∧
          t.get Fld.PWR_MEDIA_DROP_COUNT = (s.get Fld.PWR_MEDIA_DROP_COUNT + 1) % 2 ^ Fld.PWR_MEDIA_DROP_COUNT.width ∧
          s.regsOutside [Fld.PWR_MEDIA_DROP_COUNT.addr] t ∧ s.changesOnly [.regs] t) ∧
        (p.version2 = true → s.mediaOff = false → s.get Fld.TWIN_STATUS_STATE ≠ 3 → s.get Fld.TWIN_STATUS_STATE ≠ 5 → s.effRec 4 l = none →
          s.layer2 f n stamp = s.srtpRx l stamp f.port (decide (f.port % 2 = 1)) path p)))) ∧
  (∀ (f : RxFrame) (n reason port stamp : Nat) (s : State), s.get Fld.PWR_STATE_STATE ≠ 2 → s.get Fld.PWR_STATE_STATE ≠ 3 →
    let slots := s.get (Fld.PLANEn_PUNT_CFG_SLOTS n)
    let tail := s.get (Fld.PLANEn_PUNT_PTR_TAIL n)
    let long := 1984 < f.len - 4
    let full := s.on (Fld.PLANEn_PUNT_CFG_ENABLE n) = false ∨ (tail + 1) % slots = s.get (Fld.PLANEn_PUNT_PTR_HEAD n)
    let drops (c : FieldRef) (t : State) : Prop := t.get c = Nat.min (2 ^ c.width - 1) (s.get c + 1) ∧ s.regsOutside [c.addr] t ∧ s.changesOnly [.regs] t
    (long → drops (Fld.PLANEn_PUNT_DROP_LONG n) (s.punt n reason port stamp f)) ∧
    (¬ long → full → drops (Fld.PLANEn_PUNT_DROP_FULL n) (s.punt n reason port stamp f)) ∧
    (¬ long → ¬ full → s.puntTokens n < 1000000 → drops (Fld.PLANEn_PUNT_DROP_RATE n) (s.punt n reason port stamp f)) ∧
    (¬ long → ¬ full → 1000000 ≤ s.puntTokens n → ∃ u,
      s.punt n reason port stamp f = u.post (s.get (Fld.PLANEn_PUNT_CFG_EVQ n)) 0x05 0x40 n (tail + reason * 65536 + port * 2 ^ 24) ∧
      u.get (Fld.PLANEn_PUNT_PTR_TAIL n) = (tail + 1) % slots % 32768 ∧
      (let a := s.rd64 (Reg.PLANEn_PUNT_BASE_LO n) + tail * 2048
       u.dram.readList (a + 64) f.bytes.length = f.bytes ∧ u.dram.readList a 2 = natBytes 2 (f.len - 4) ∧ u.dram.readList (a + 4) 4 = natBytes 4 stamp ∧
       ∀ b, b < a ∨ a + 64 + f.bytes.length ≤ b → u.dram.read b = s.dram.read b) ∧
      (u.plane n).puntTokens = s.puntTokens n - 1000000 ∧ s.regsOutside [Reg.PLANEn_PUNT_PTR n] u ∧ s.changesOnly [.regs, .dram, .planes] u))

/-- A replay window that has taken an index calls it a duplicate from then on, calls every index 128 or more below the highest too old, and never takes back an index it has
turned away. A packet of a leg that passed its policer: of a HALTED leg, or under an EMPTY context, it counts in NOKEY; with a tag that verifies under neither context in
AUTH_FAIL of the leg and the device; with an index already seen, or on path 1 together with its copy on path 0, in DUP; with one below the window in REPLAY; and with a new index it is admitted, counts in RX_PKTS, and the leg
is no longer idle. Of a plain leg every RTCP packet is admitted.
Choices of the model where the rules leave room: log entries 13, 16, 41, 104. -/
def Obligations.PacketsAreVerifiedAndAdmittedOnce : Prop :=
  (∀ (w w' : ReplayWin) (i : Nat), w.check i = (0, w') → (w'.check i).1 = 1 ∧ i ≤ w'.top ∧ (∀ j, j + 128 ≤ w'.top → (w'.check j).1 = 2) ∧
    (∀ j, (w.check j).1 ≠ 0 → (w'.check j).1 ≠ 0)) ∧
  (∀ (l stamp port : Nat) (lanB path1 : Bool) (p : RxPkt) (s : State),
    let r := s.legRec l
    let t := s.srtpRx l stamp port lanB path1 p
    let g := s.leg l
    let ctx := if LEG.PROFILE r = 0 then (some (plainCtx l), false) else s.verify r p
    (g.state = .halted ∨ ctx = (none, true) → t.get Fld.SRTP_NOKEY_COUNT = (s.get Fld.SRTP_NOKEY_COUNT + 1) % 2 ^ Fld.SRTP_NOKEY_COUNT.width ∧
      s.regsOutside [Reg.SRTP_NOKEY] t ∧ s.changesOnly [.regs] t) ∧
    (g.state ≠ .halted → ctx = (none, false) → t.get Fld.SRTP_AUTH_FAIL_COUNT = (s.get Fld.SRTP_AUTH_FAIL_COUNT + 1) % 2 ^ Fld.SRTP_AUTH_FAIL_COUNT.width ∧
      t.leg l = { g with authFail := (g.authFail + 1) % 2 ^ 32 } ∧ s.regsOutside [Reg.SRTP_AUTH_FAIL] t ∧ s.changesOnly [.regs, .legs] t) ∧
    (∀ c, g.state ≠ .halted → ctx = (some c, false) → g.ctxSwitchDue = false →
      let v := (s.replay c p).1
      (¬ (LEG.PROFILE r = 0 ∧ p.rtcp = true) → (v = 1 ∨ (v = 0 ∧ path1 = true ∧ p.together = true)) →
        t.get Fld.PKTIN_RTP_DUP_COUNT = (s.get Fld.PKTIN_RTP_DUP_COUNT + 1) % 2 ^ Fld.PKTIN_RTP_DUP_COUNT.width ∧
        t.leg l = { g with dup := (g.dup + 1) % 2 ^ 32 } ∧ s.regsOutside [Reg.PKTIN_RTP_DUP] t ∧ s.changesOnly [.regs, .legs] t) ∧
      (¬ (LEG.PROFILE r = 0 ∧ p.rtcp = true) → v = 2 →
        t.get Fld.SRTP_REPLAY_COUNT = (s.get Fld.SRTP_REPLAY_COUNT + 1) % 2 ^ Fld.SRTP_REPLAY_COUNT.width ∧
        t.leg l = { g with replay := (g.replay + 1) % 2 ^ 32 } ∧ s.regsOutside [Reg.SRTP_REPLAY] t ∧ s.changesOnly [.regs, .legs] t) ∧
      ((LEG.PROFILE r = 0 ∧ p.rtcp = true) ∨ (v = 0 ∧ ¬ (path1 = true ∧ p.together = true)) → (t.leg l).rxPkts = (g.rxPkts + 1) % 2 ^ 32 ∧ (t.leg l).idle = false ∧ (t.leg l).lastRxAt = some stamp ∧
        (∀ m, m ≠ l → (t.leg m).rxPkts = (s.leg m).rxPkts))))

/-- With the device in power state ACTIVE: RTCP_REPORT of a leg with RTP transport that is in effect moves its next report floor(RTCP_INT × (0.5 + u)) ticks on, u from the LFSR, and a
report waits for release in the due tick: an SR of a leg that sends audio, otherwise an RR, and then SDES with the leg's CNAME. NACK_RETRY asks once more, with a generic NACK, for a packet
that is still missing. JB_RECOMPUTE sets the jitter target: a multiple of PTIME, at most JB_MAX. RX_IDLE marks the leg idle and posts its event. VIDEO_WAIT_EXPIRE releases an incomplete
picture. TDM_FRAME_SYNC adds the frame's samples to the receive block and drives the port's slots. LEG_STATS_WRITE writes the leg's 64-byte line at SRTP_STATS_BASE + 64 × leg and no other
byte. EVENT_WINDOW_EXPIRE posts the occurrences held as one event, or closes the window. Each changes no other leg, stream or port, but for what a leg keeps of its reports.
Choices of the model where the rules leave room: log entries 5, 17, 18, 32, 39, 43. -/
def Obligations.LegsActAtTheirDueTimes : Prop :=
  (∀ (l : Nat) (s : State),
    let g := s.leg l
    let r := s.legRec l
    g.state ≠ .none → g.state ≠ .pending → LEG.TRANSPORT r = 0 → s.now ≤ g.nextReport * 1000000 + s.lag → s.mediaOff = false → s.quiescing 0x27000 = false →
    (s.quiescing 0x2C000 = true → LEG.PROFILE r = 0) →
    ∃ t, exec (.rtcpReport l) s = .next t ∧
      t.leg l = { g with lfsr := lfsrNext g.lfsr, nextReport := g.nextReport + LEG.RTCP_INT r * (32768 + lfsrNext g.lfsr) / 65536,
                         rx := (t.leg l).rx, reports := (t.leg l).reports } ∧
      (∀ m, m ≠ l → t.leg m = s.leg m) ∧
      (∃ (id : Nat) (p : TxPkt), t.pkt id = some p ∧ rtcpFor l g.nextReport p = true ∧ (∀ i, i ≠ id → t.pkt i = s.pkt i) ∧
        ((∀ x ∈ s.pkts, ∀ q, x.2 = some q → rtcpFor l g.nextReport q = false) → (t.leg l).reports = (g.nextReport :: g.reports).take 2 ∧
          ∃ n body, p.pay = rtcpPacket n (if g.sender r then 200 else 201) (beBytes 4 (LEG.LOCAL_SSRC r) ++ body) ++ sdesPacket r)) ∧
      s.changesOnly [.clk, .legs, .pkts, .nextPkt] t) ∧
  (∀ (v seq : Nat) (m : Missing) (s : State),
    let x := s.vstr v
    let l := VSTR.LEG ((s.effRec 6 v).getD 0)
    let due := m.sentAt + nackWait (((s.leg l).cc.rtt).getD 0)
    x.missing.find? (fun m => decide (m.seq = seq)) = some m → m.sent = 1 → l < 0x8000 → LEG.NACK_EN (s.legRec l) = 1 → s.mediaOff = false →
    ∃ t, exec (.nackRetry v seq) s = .next t ∧ t.vstr v = { x with missing := x.missing.map (fun k => if k.seq = seq then { k with sent := 2 } else k) } ∧
      (∀ w, w ≠ v → t.vstr w = s.vstr w) ∧ (∀ k, t.leg k = { s.leg k with rx := (t.leg k).rx, reports := (t.leg k).reports }) ∧
      (s.quiescing 0x27000 = false → s.quiescing 0x2C000 = false → s.now ≤ due * 1000000 + s.lag → ∃ (id : Nat) (p : TxPkt) (first : List Byte),
        t.pkt id = some p ∧ rtcpFor l due p = true ∧ (∀ i, i ≠ id → t.pkt i = s.pkt i) ∧
        p.pay = first ++ rtcpNack (LEG.LOCAL_SSRC (s.legRec l)) (VSTR.SSRC ((s.effRec 6 v).getD 0)) [seq]) ∧
      s.regsOutside [Reg.PKTOUT_LATE, Reg.FAULT_CONTAINED] t ∧ s.changesOnly [.regs, .clk, .legs, .pkts, .nextPkt, .vstrs] t) ∧
  (∀ (l : Nat) (s : State), (s.leg l).jb.based = true → s.mediaOff = false →
    let r := s.legRec l
    ∃ t, exec (.jbRecompute l) s = .next t ∧
      (let b := (t.leg l).jb
       b.target = jbTarget r b.j95 ∧ b.j95 = jbJ95 b.window ∧ b.growDue = decide ((s.leg l).jb.depth < b.target) ∧ b.depth = (s.leg l).jb.depth ∧ b.frames = (s.leg l).jb.frames ∧
       (0 < LEG.PTIME r → b.target % LEG.PTIME r = 0) ∧ b.target ≤ LEG.JB_MAX r ∧ b.window.Sublist (s.leg l).jb.window ∧
       b.dropDue = decide (2 ≤ b.shrinkRun) ∧ b.shrinkRun = (if b.target + LEG.PTIME r ≤ b.depth then (s.leg l).jb.shrinkRun + 1 else 0)) ∧
      (∀ m, m ≠ l → t.leg m = s.leg m) ∧ s.changesOnly [.clk, .legs] t) ∧
  (∀ (l : Nat) (s : State),
    let g := s.leg l
    let r := s.legRec l
    (g.state = .active ∨ g.state = .txStopped) → LEG.TRANSPORT r = 0 → LEG.RX_TIMEOUT r ≠ 0 → g.idle = false → s.mediaOff = false →
    ∃ u, exec (.rxIdle l) s = .next (u.post (LEG.EVQ r) 0x01 0x03 l 0) ∧ u.leg l = { g with idle := true } ∧ (∀ m, m ≠ l → u.leg m = s.leg m) ∧
      s.changesOnly [.clk, .legs] u) ∧
  (∀ (v ts : Nat) (absent : Bool) (p : Pic) (s : State), (s.vstr v).pics.find? (fun p => decide (p.ts = ts)) = some p →
    (p.done = none → s.mediaOff = false → ∃ t, exec (.videoWaitExpire v ts absent) s = .next t ∧ (t.vstr v).pics = (s.vstr v).pics.filter (fun p => decide (p.ts ≠ ts)) ∧
      ts ∈ (t.vstr v).released ∧ (∀ w, w ≠ v → (t.vstr w).pics = (s.vstr w).pics ∧ (t.vstr w).released = (s.vstr w).released)) ∧
    (p.done.isSome = true → exec (.videoWaitExpire v ts absent) s = .next s)) ∧
  (∀ (n : Nat) (samples : List Word) (s : State), n < 4 → s.on (Fld.PG_CTRL_ENABLE (tdmPage n)) = true → s.on (Fld.TDMn_CFG_SYNC_EXT n) = true → s.quiescing (tdmPage n) = false →
    ∃ t, exec (.tdmFrameSync n samples) s = .next t ∧
      (t.tdmPort n).frames = (s.tdmPort n).frames ++ [(samples.take (s.get (Fld.TDMn_CFG_SLOTS n) + 1)).map (rxMask (s.get (Fld.TDMn_CFG_RX_BITS n)))] ∧
      (t.tdmPort n).driven = (List.range (s.get (Fld.TDMn_CFG_SLOTS n) + 1)).map (fun i => s.tdmSlotOut n i (s.tdmPort n).frames.length) ∧
      (t.tdmPort n).wire = tdmWire (s.on (Fld.TDMn_CFG_FS_LONG n)) (s.on (Fld.TDMn_CFG_FS_DELAY n)) (slotBits (s.tdmPort n).driven) (slotBits (t.tdmPort n).driven) ∧
      (∀ m, m ≠ n → t.tdmPort m = s.tdmPort m) ∧ s.changesOnly [.tdm] t) ∧
  (∀ (l : Nat) (s : State), s.on Fld.SRTP_STATS_CFG_ENABLE = true → l < 16384 → s.mediaOff = false →
    let a := s.rd64 Reg.SRTP_STATS_BASE_LO + l * 64
    ∃ t, exec (.legStatsWrite l) s = .next t ∧ (s.legStats l).length = 64 ∧ t.dram.readList a 64 = s.legStats l ∧
      t.dram.readList a 4 = natBytes 4 s.shortTime ∧ t.dram.read (a + 4) = BitVec.ofNat 8 (s.leg l).state.code ∧
      (∀ b, b < a ∨ a + 64 ≤ b → t.dram.read b = s.dram.read b) ∧ s.changesOnly [.dram, .poisoned] t) ∧
  (∀ (cls code obj sub : Nat) (s : State),
    let k := windowKey cls code obj sub
    let w := s.windows.get (fun _ => {}) k
    w.openUntil ≠ 0 →
    (w.held = 0 → ∃ t, exec (.eventWindowExpire cls code obj sub) s = .next t ∧ t.windows.get (fun _ => {}) k = {} ∧
      (∀ j, j ≠ k → t.windows.get (fun _ => {}) j = s.windows.get (fun _ => {}) j) ∧ s.changesOnly [.clk, .windows] t) ∧
    (w.held ≠ 0 → ∃ t u, exec (.eventWindowExpire cls code obj sub) s = .next t ∧ s.changesOnly [.clk] u ∧
      t = { u.post w.evq cls code obj w.argument with windows := t.windows } ∧
      t.windows.get (fun _ => {}) k = { w with openUntil := u.now + 1000000000, held := 0 } ∧
      (∀ j, j ≠ k → t.windows.get (fun _ => {}) j = s.windows.get (fun _ => {}) j)))

/-- With the device in power state ACTIVE: CC_UPDATE of a leg with RTP transport in ACTIVE or TX_STOPPED, at its next update tick u, which is the leg's number modulo 50. With ADAPT_CFG.ENABLE = 1 the rate follows
R124: with no feedback for FB_TIMEOUT it is cut to 85 % once in 500 ticks; with a loss or delay term outside the hold it falls to 85 % and the decrease is counted; with neither,
outside the hold, and three quarters of the rate sent it grows by 0.4 % of the last decreased rate, at least 1 kb/s; otherwise it stays. The result is clamped to RATE_CEIL and the
received TMMBR, and then to no less than RATE_FLOOR. The leg's shaper runs at 110 % of the rate, at most 10⁷ kb/s. With ENABLE = 0 the rate stays. The set the selector
desires for an OSTR is within MAX_S and MAX_T and its top layer arrived in the last 1,000 ticks, or it is the base set of an OSTR with MIN_BASE. PLI_SEND sends a merged
request, as a FIR if one was among them, 500 ticks after the last PLI, once the boundary of that tick has fallen.
Choices of the model where the rules leave room: log entries 14, 15, 35, 42. -/
def Obligations.ControllersFollowTheRateLaw : Prop :=
  (∀ (l : Nat) (s : State),
    let g := s.leg l
    let r := s.legRec l
    (g.state = .active ∨ g.state = .txStopped) → LEG.TRANSPORT r = 0 → s.mediaOff = false →
    ∃ t u, exec (.ccUpdate l) s = .next t ∧ u % 50 = l % 50 ∧ s.ltick ≤ u ∧ (∀ v, g.cc.lastUpdate = some v → v < u) ∧
      (t.leg l).cc.lastUpdate = some u ∧ (∀ m, m ≠ l → t.leg m = { s.leg m with rx := (t.leg m).rx, reports := (t.leg m).reports }) ∧
      (s.on Fld.ADAPT_CFG_ENABLE = false → (t.leg l).cc.rate = g.cc.rate ∧ (t.leg l).shaper = g.shaper) ∧
      (s.on Fld.ADAPT_CFG_ENABLE = true →
        let c := g.cc
        let ccfb := (∃ v, c.lastCcfb = some v ∧ u ≤ v + 1000)
        let timeout := s.get Fld.ADAPT_TRIP_FB_TIMEOUT
        let silent := timeout * 100 ≤ u - c.lastFb
        let term (b : Bool) : Prop := (∃ v, c.loss b = some v ∧ 20 < v) ∨ c.delay b u (s.get Fld.ADAPT_TRIP_GRAD) (s.get Fld.ADAPT_TRIP_RTT_RISE) = true
        let congested := (ccfb ∧ term true) ∨ (¬ ccfb ∧ term false)
        let hold := ∃ v, c.lastDec = some v ∧ u - v < Nat.max (c.rtt.getD 100) 100
        let recent := ∃ v, c.lastCut = some v ∧ u - v < 500
        let clamped (x : Nat) : Nat := Nat.max (LEG.RATE_FLOOR r) (Nat.min x (Nat.min (LEG.RATE_CEIL r) (c.tmmbr.getD (LEG.RATE_CEIL r))))
        let rate := (t.leg l).cc.rate
        (silent → ¬ recent → rate = clamped (c.rate * 85 / 100)) ∧ (silent → recent → rate = clamped c.rate) ∧
        (¬ silent → congested → ¬ hold → rate = clamped (c.rate * 85 / 100) ∧
          t.get Fld.ADAPT_DECREASES_COUNT = (s.get Fld.ADAPT_DECREASES_COUNT + 1) % 2 ^ Fld.ADAPT_DECREASES_COUNT.width) ∧
        (¬ silent → hold → rate = clamped c.rate) ∧
        (¬ silent → ¬ congested → ¬ hold → c.rate * 3 / 4 ≤ kbps (logBytes u c.sentLog) → rate = clamped (c.rate + Nat.max 1 (c.rRef * 4 / 1000))) ∧
        (¬ silent → ¬ congested → ¬ hold → kbps (logBytes u c.sentLog) < c.rate * 3 / 4 → rate = clamped c.rate) ∧
        (g.shaper.present = true → (t.leg l).shaper.rate = Nat.min (ceilDiv (11 * rate) 10) 10000000 ∧ (t.leg l).shaper.burst = g.shaper.burst)) ∧
      (Sparse.wf (fun _ => 0) s.gate.effective = true → ∀ p ∈ s.ostrsOf l, ∀ k, (t.ostr p.1).desired = some k →
        (k.1 ≤ OSTR.MAX_S p.2 ∧ k.2 ≤ OSTR.MAX_T p.2 ∧ setArrived (s.srcLog (s.ostr p.1).srcKind (s.ostr p.1).src).1 u k = true) ∨
        (k = (0, 0) ∧ OSTR.MIN_BASE p.2 = 1)) ∧
      (Sparse.wf (fun _ => 0) s.gate.effective = true → ∀ p ∈ s.ostrsOf l, (t.ostr p.1).up.isSome = true → (t.ostr p.1).mayClimb u = true ∧ (t.ostr p.1).down = [])) ∧
  (∀ (v a : Nat) (s : State), (s.vstr v).lastPli = some a → (s.vstr v).pliWaiting = true → a + 500 < s.nextTick → s.mediaOff = false →
    let x := s.vstr v
    let r := (s.effRec 6 v).getD 0
    let l := VSTR.LEG r
    let own := LEG.LOCAL_SSRC (s.legRec l)
    let n := if x.firWaiting then (x.firSeq + 1) % 256 else x.firSeq
    ∃ t, exec (.pliSend v) s = .next t ∧
      t.vstr v = { x with lastPli := some (a + 500), pliWaiting := false, firWaiting := false, pliDecoder := false, firSeq := n } ∧
      t.get Fld.ADAPT_KEYREQ_PLI = (if l < 0x8000 then (s.get Fld.ADAPT_KEYREQ_PLI + 1) % 2 ^ Fld.ADAPT_KEYREQ_PLI.width else s.get Fld.ADAPT_KEYREQ_PLI) ∧
      (l < 0x8000 → s.lnow ≤ readyInstant l (a + 500) → s.quiescing 0x27000 = false → s.quiescing 0x2C000 = false → ∃ (id : Nat) (p : TxPkt) (first : List Byte),
        t.pkt id = some p ∧ rtcpFor l (a + 500) p = true ∧ (∀ i, i ≠ id → t.pkt i = s.pkt i) ∧
        p.pay = first ++ (if x.firWaiting then rtcpFir own (VSTR.SSRC r) n else rtcpPli own (VSTR.SSRC r))) ∧
      (∀ w, w ≠ v → t.vstr w = s.vstr w) ∧ s.regsOutside [Reg.ADAPT_KEYREQ, Reg.PKTOUT_LATE, Reg.FAULT_CONTAINED] t ∧
      (∀ k, t.leg k = { s.leg k with rx := (t.leg k).rx, reports := (t.leg k).reports }) ∧ s.changesOnly [.regs, .legs, .pkts, .nextPkt, .vstrs] t)

/-- With the device in power state ACTIVE, and no block on the packet's way quiescing: PACKET_ENQUEUE of a packet whose ready instant has passed counts it in PKTOUT_LATE and as a contained
error, and discards it; any other waits under its number with its ready instant, video and RTX packets in the leg's queue, which stands in the order of R150; a mismatch of that queue's
pointers resets it first. PACKET_RELEASE, outside a twin, at the packet's release instant: a packet whose turn it is not, or before whose release a boundary has still to take effect, stays. A
packet of a leg that is deleted is discarded, one of a stopped leg counted in TX_STOP_DROP, one that waited longer than MAX_WAIT in PKTOUT_DROP_WAIT, and one of a plane that is disabled
discarded (log entry 170). Otherwise it is sent in one copy, or on a protected leg in one for each of the two remote addresses: each copy for a port whose link is down counts in TX_DROP, and
when a port is up the packet takes the next sequence number of its SSRC, unless the key context is empty or the index exhausted, and every copy enters a departure queue of each port that is
up. The packet waits no longer.
Choices of the model where the rules leave room: log entries 5, 7, 20, 45, 64, 107, 109, 170. -/
def Obligations.PacketsAreReleasedOrDiscarded : Prop :=
  (∀ (l : Nat) (kind : PktKind) (ostr len tick ts : Nat) (marker : Bool) (pay : List Byte) (s : State),
    let ready := tick * 1000000 + 500000 + (l % 500) * 1000
    let video := kind = .video ∨ kind = .rtx
    let made : TxPkt := ⟨s.nextPkt, l, kind, ostr, len, ready, ts, marker, [], pay, none⟩
    s.mediaOff = false → s.quiescing 0x27000 = false → (video → s.quiescing 0x2D000 = false) → (s.quiescing 0x2C000 = true → LEG.PROFILE (s.legRec l) = 0) →
    (video → l < 0x4000 → (s.queue l).bad = false) →
    (ready < s.lnow → ∃ t, exec (.packetEnqueue l kind ostr len tick ts marker pay false) s = .next t ∧
      t.get Fld.PKTOUT_LATE_COUNT = (s.get Fld.PKTOUT_LATE_COUNT + 1) % 2 ^ 32 ∧ t.get Fld.FAULT_CONTAINED_COUNT = (s.get Fld.FAULT_CONTAINED_COUNT + 1) % 2 ^ 32 ∧
      s.regsOutside [Reg.PKTOUT_LATE, Reg.FAULT_CONTAINED] t ∧ s.changesOnly [.regs] t) ∧
    (s.lnow ≤ ready → ∃ t, exec (.packetEnqueue l kind ostr len tick ts marker pay false) s = .next t ∧ t.nextPkt = s.nextPkt + 1 ∧
      (¬ (video ∧ l < 0x4000) → t.pkt s.nextPkt = some made ∧ (∀ i, i ≠ s.nextPkt → t.pkt i = s.pkt i) ∧ s.changesOnly [.pkts, .nextPkt] t) ∧
      (video → l < 0x4000 →
        ((∃ i ∈ (t.queue l).items, i.tag = s.nextPkt) → t.pkt s.nextPkt = some made) ∧
        (Sparse.wf (fun _ => none) s.pkts = true → s.pkt s.nextPkt = none → (∀ i ∈ (t.queue l).items, i.tag ≠ s.nextPkt) → t.pkt s.nextPkt = none) ∧
        (t.queue l).items.Pairwise (fun a b => (match t.pkt a.tag with | some p => t.pktOrder p | none => 0) ≤ (match t.pkt b.tag with | some p => t.pktOrder p | none => 0)) ∧
        (∀ r, r ≠ l → t.queue r = s.queue r) ∧ s.regsOutside [Reg.FAULT_CONTAINED] t ∧ s.changesOnly [.regs, .queues, .freeCells, .pkts, .nextPkt] t)) ∧
    (exec (.packetEnqueue l kind ostr len tick ts marker pay true) s =
      exec (.packetEnqueue l kind ostr len tick ts marker pay false) (if video ∧ l < 0x4000 then (s.pointersBad l).queueReset l else s))) ∧
  (∀ (id : Nat) (p : TxPkt) (s : State), s.muted = false → s.pkt id = some p → p.leg < 0x8000 → s.twin.jumpDue = false → s.get Fld.TWIN_STATUS_STATE = 0 →
    let g := s.leg p.leg
    let video := p.kind = .video ∨ p.kind = .rtx
    let at_ := s.releaseInstant p
    let late := video ∧ g.shaper.present = true ∧ SHAPER.MAX_WAIT ((s.effRec 5 p.leg).getD 0) * 1000000 < at_ - p.ready
    let plane := LEG.PLANE (s.legRec p.leg)
    let ports := s.lanPorts plane (true, true)
    let sends := s.planeSends plane = true ∧ s.quiescing (planePage plane) = false
    let copies := if LEG.PROT (s.legRec p.leg) = 1 then 2 else 1
    let keyed := LEG.PROFILE (s.legRec p.leg) = 0 ∨ (s.txCtxEmpty (s.legRec p.leg) = false ∧ s.exhausted p = false)
    (s.releaseNow p = false → exec (.packetRelease id) s = .next s) ∧
    (s.releaseNow p = true → ∃ t, exec (.packetRelease id) s = .next t ∧ t.pkt id = none ∧ (∀ i, i ≠ id → t.pkt i = s.pkt i) ∧
      (at_ + s.lag < 2 ^ 48 * 1000000000 → t.now = Nat.max s.now (at_ + s.lag)) ∧
      ((g.state = .none ∨ g.state = .pending) → t.legs = s.legs ∧ t.ports = s.ports ∧ t.regs = s.regs) ∧
      ((g.state = .txStopped ∨ g.state = .halted) → t.leg p.leg = { g with txStopDrop := (g.txStopDrop + 1) % 2 ^ 32 } ∧ t.ports = s.ports ∧ t.regs = s.regs) ∧
      (g.state = .active → late → t.get Fld.PKTOUT_DROP_WAIT_COUNT = (s.get Fld.PKTOUT_DROP_WAIT_COUNT + 1) % 2 ^ 32 ∧ t.legs = s.legs ∧ t.ports = s.ports) ∧
      (g.state = .active → ¬ late → ¬ sends → t.legs = s.legs ∧ t.ports = s.ports ∧ t.regs = s.regs) ∧
      (g.state = .active → ¬ late → sends → (∀ n ∈ ports, s.portTakes n = true) →
        (∀ n ∈ ports, s.linkUp n = false → t.get (Fld.ETHn_TX_DROP_COUNT n) = (s.get (Fld.ETHn_TX_DROP_COUNT n) + copies) % 2 ^ (Fld.ETHn_TX_DROP_COUNT n).width) ∧
        ((∀ n ∈ ports, s.linkUp n = false) → t.legs = s.legs ∧ t.ports = s.ports) ∧
        ((∃ n ∈ ports, s.linkUp n = true) → keyed → g.silenced = false →
          (p.kind ≠ .rtcp → ((t.leg p.leg).txOf (s.pktSsrc p)).seq = ((g.txOf (s.pktSsrc p)).seq + 1) % 65536) ∧
          (p.kind = .rtcp → ((t.leg p.leg).txOf (s.pktSsrc p)).rtcpIndex = (g.txOf (s.pktSsrc p)).rtcpIndex + 1) ∧
          t.rd64 Reg.PKTOUT_RELEASED_LO = (s.rd64 Reg.PKTOUT_RELEASED_LO + 1) % 2 ^ 64 ∧ (t.leg p.leg).txPkts = (g.txPkts + 1) % 2 ^ 32 ∧
          (∀ n ∈ ports, s.linkUp n = true → ((t.port n).q.get (fun _ => []) (s.depClass p)).length = ((s.port n).q.get (fun _ => []) (s.depClass p)).length + copies) ∧
          (∀ n, n ∉ ports ∨ s.linkUp n = false → t.port n = s.port n))) ∧
      s.changesOnly [.regs, .clk, .free, .msix, .evq, .queues, .freeCells, .pkts, .legs, .taps, .planes, .ostrs, .ports] t))

/-- The instant at which a shaped packet may be released is the first, not before it is ready, at which the bucket holds what it needs: its length, or a full bucket for a
packet longer than BURST. FRAME_DEPART of a port that its enabled plane uses, with STRICT_EN = 1: the head of the first of S0 to S3 that holds a frame leaves; otherwise, and with
STRICT_EN = 0 for all queues, the head of the queue whose turn the DRR rotation gives, its deficit covering the frame's length. The frame leaves its queue and no other queue changes; its
cells in the host queue return. With the link up it departs: ETHn_TX_FRAMES and the queue's count advance, a PTP event message is stamped, and SCHEDn_LAG keeps the largest lag and posts its event
when it first exceeds 1 ms. With the link down it is discarded and counted in TX_DROP. With no frame in any queue nothing changes.
Choices of the model where the rules leave room: log entries 61, 167. -/
def Obligations.BucketsAndDepartures : Prop :=
  (∀ (h : Shaper) (t n : Nat), 0 < h.rate → h.tokens ≤ h.cap →
    let i := h.readyAt t n
    Nat.max t h.at_ ≤ i ∧ h.need n ≤ (h.upTo i).tokens ∧ ∀ j, Nat.max t h.at_ ≤ j → j < i → (h.upTo j).tokens < h.need n) ∧
  (∀ (n q : Nat) (f : Frame) (l : List Frame) (s : State), s.portSends n = true →
    let strict := s.on (Fld.SCHEDn_CFG_STRICT_EN n)
    let t0 := s.port n
    let picks := (strict = true ∧ q < 4 ∧ (∀ k, k < q → t0.head k = none)) ∨
      ((strict = true → ∀ k, k < 4 → t0.head k = none) ∧ (s.drrPick n strict (200 * (t0.q.length + 1)) t0).map (fun x => x.1) = some q)
    let still (t : State) : Prop := (s.plane (n / 2)).injOut = [] → t.planes = s.planes ∧ t.rd (Reg.PLANEn_INJ_PTR (n / 2)) = s.rd (Reg.PLANEn_INJ_PTR (n / 2))
    t0.q.get (fun _ => []) q = f :: l → picks →
    ∃ t, exec (.frameDepart n) s = .next t ∧ (t.port n).q.get (fun _ => []) q = l ∧
      (∀ k, k ≠ q → (t.port n).q.get (fun _ => []) k = t0.q.get (fun _ => []) k) ∧ (∀ m, m ≠ n → t.port m = s.port m) ∧ still t ∧
      (f.item = none → t.queues = s.queues ∧ t.freeCells = s.freeCells) ∧
      (∀ i, f.item = some i → (t.queue (0x4000 + n)).items = (s.queue (0x4000 + n)).items.filter (fun x => decide (x.tag ≠ i))) ∧
      (s.linkUp n = false → t.get (Fld.ETHn_TX_DROP_COUNT n) = (s.get (Fld.ETHn_TX_DROP_COUNT n) + 1) % 2 ^ (Fld.ETHn_TX_DROP_COUNT n).width ∧
        s.regsOutside [(Fld.ETHn_TX_DROP_COUNT n).addr, Reg.PLANEn_INJ_PTR (n / 2)] t ∧ s.changesOnly [.regs, .queues, .freeCells, .planes, .ports] t) ∧
      (s.linkUp n = true →
        t.rd64 (Reg.ETHn_TX_FRAMES_LO n) = (s.rd64 (Reg.ETHn_TX_FRAMES_LO n) + 1) % 2 ^ 64 ∧
        (q < 4 → t.get (Fld.SCHEDn_SQk_FRAMES_COUNT n q) = (s.get (Fld.SCHEDn_SQk_FRAMES_COUNT n q) + 1) % 2 ^ 32) ∧
        (4 ≤ q → t.get (Fld.SCHEDn_DRR_FRAMES_COUNT n) = (s.get (Fld.SCHEDn_DRR_FRAMES_COUNT n) + 1) % 2 ^ 32) ∧
        t.get (Fld.SCHEDn_LAG_MAX n) = Nat.max (s.get (Fld.SCHEDn_LAG_MAX n)) (Nat.min (2 ^ 32 - 1) (s.now - f.released)) ∧
        (s.get (Fld.SCHEDn_LAG_MAX n) ≤ 1000000 → 1000000 < s.now - f.released → t.hasEvent (0x28000 + n * 0x1000) 1) ∧
        (f.ptp = none → t.bel = s.bel) ∧ (∀ m, f.ptp = some m → ptpEvent m.kind = true → t.bel.ptpTxStamp.get (fun _ => 0) n = s.txStamp n) ∧
        s.regsOutside [Reg.ETHn_TX_FRAMES_LO n, Reg.ETHn_TX_FRAMES_LO n + 4, if q < 4 then Reg.SCHEDn_SQk_FRAMES n q else Reg.SCHEDn_DRR_FRAMES n, Reg.SCHEDn_LAG n,
          Reg.PG_EVENT (0x28000 + n * 0x1000), Reg.PLANEn_INJ_PTR (n / 2)] t ∧ s.changesOnly [.regs, .bel, .msix, .queues, .freeCells, .planes, .ports] t)) ∧
  (∀ (n fuel q : Nat) (strict : Bool) (f : Frame) (l : List Frame) (p p' : Port) (s : State), s.drrPick n strict fuel p = some (q, p') →
    p.q.get (fun _ => []) q = f :: l → p'.q.get (fun _ => []) q = l ∧ (strict = true → 4 ≤ q) ∧
      (l ≠ [] → ∃ d k, d ≤ p.deficit.get (fun _ => 0) q ∧ (p.clip.get (fun _ => none) q = none → d = p.deficit.get (fun _ => 0) q) ∧
        p'.deficit.get (fun _ => 0) q + f.len = d + k * s.drrQuantum n q) ∧
      (l = [] → p'.deficit.get (fun _ => 0) q = 0)) ∧
  (∀ (n : Nat) (s : State), (s.port n).q = [] → exec (.frameDepart n) s = .next s)

/-- GRANARY_ENQUEUE of a record of k = ceil(len ÷ 256) cells into a linked-list queue that is no event queue: the oldest unclaimed items are overwritten one by one, no more
of them than it takes for the record to fit under MAX_CELLS and the shared count; if it then fits it is appended last, and otherwise, with no unclaimed item left, it is dropped
itself. LOST counts every item overwritten or dropped; claimed items and the order of the items that stay are untouched; the pool gets back and gives what the queue's cells
change by; no other queue changes; what is lost is an error of class CONTAINED. A record that fits beside what is there, with k less what MIN_CELLS still reserves within the shared
count, overwrites nothing. While the GRANARY page quiesces the record is dropped itself. (The two copies of the queue's pointers agree.)
Choices of the model where the rules leave room: log entries 20, 29. -/
def Obligations.AdmissionOverwritesOnlyWhatItMust : Prop :=
  ∀ (q len : Nat) (s : State), ¬ (0x4100 ≤ q ∧ q < 0x4140) → (s.queue q).bad = false →
    let g := s.queue q
    let k := ceilDiv len 256
    let min := (s.qLimits q).1
    let max := (s.qLimits q).2
    let avail := s.freeCells + g.cells - (s.reservedCells - (min - g.cells))
    let after (n : Nat) : List GItem := Nat.repeat dropUnclaimed n g.items
    let fits (l : List GItem) : Prop := sumBy GItem.cells l + k ≤ max ∧
      k - Nat.min k (min - sumBy GItem.cells l) ≤ avail - sumBy GItem.cells l - (min - sumBy GItem.cells l)
    let lostRegs := [Reg.FAULT_CONTAINED, Reg.PLANEn_INJ_PTR 0, Reg.PLANEn_INJ_PTR 1]
    (s.quiescing granaryPage = true → ∃ t, exec (.granaryEnqueue q (.record len) false) s = .next t ∧ (t.queue q).items = g.items ∧
      (t.queue q).lost = (g.lost + 1) % 2 ^ 24 ∧ t.nextPkt = s.nextPkt + 1 ∧ (∀ r, r ≠ q → t.queue r = s.queue r) ∧
      s.regsOutside lostRegs t ∧ s.changesOnly [.regs, .queues, .freeCells, .pkts, .nextPkt, .planes, .ports] t) ∧
    (s.quiescing granaryPage = false → ∃ t n, exec (.granaryEnqueue q (.record len) false) s = .next t ∧
      (∀ j, j < n → ¬ fits (after j)) ∧ n ≤ (g.items.filter (fun i => !i.claimed)).length ∧
      (fits (after n) → (t.queue q).items = after n ++ [⟨len, s.nextPkt, false⟩] ∧ (t.queue q).lost = (g.lost + n) % 2 ^ 24) ∧
      (¬ fits (after n) → (t.queue q).items = after n ∧ (∀ i ∈ after n, i.claimed = true) ∧ (t.queue q).lost = (g.lost + n + 1) % 2 ^ 24) ∧
      (t.queue q).items.filter (fun i => i.claimed) = g.items.filter (fun i => i.claimed) ∧
      t.freeCells = s.freeCells + g.cells - (t.queue q).cells ∧ t.nextPkt = s.nextPkt + 1 ∧ (∀ r, r ≠ q → t.queue r = s.queue r) ∧
      (g.cells + k ≤ max → k - Nat.min k (min - g.cells) ≤ s.sharedCells → min - g.cells ≤ s.reservedCells → s.reservedCells ≤ s.freeCells → n = 0 ∧ fits (after 0)) ∧
      (n = 0 → fits (after 0) → s.changesOnly [.queues, .freeCells, .nextPkt] t) ∧
      (fits (after n) → t.get Fld.FAULT_CONTAINED_COUNT = (s.get Fld.FAULT_CONTAINED_COUNT + n) % 2 ^ 32) ∧
      (¬ fits (after n) → t.get Fld.FAULT_CONTAINED_COUNT = (s.get Fld.FAULT_CONTAINED_COUNT + n + 1) % 2 ^ 32) ∧
      s.regsOutside lostRegs t ∧ s.changesOnly [.regs, .queues, .freeCells, .pkts, .nextPkt, .planes, .ports] t)

/-- Of an event queue whose pointers agree. GRANARY_ENQUEUE of an entry into EVQn: with ENABLE = 0, or while the page quiesces, it is dropped and counted in EVQn_LOST, the next pop tells of
the loss, and nothing else changes; otherwise it stands last, stamped with the present short time, after as many of the oldest entries as it takes are overwritten, or is dropped when even the
emptied queue has no room; EVQn_LOST and the contained errors count the entries lost and the next pop tells of them. EVQ_POP returns VALID, LOSTF and how many entries are left, removes the
oldest entry and copies it into EVQn_W0 to EVQn_W3; of an empty queue, or while the page cannot be read, it returns 0 and changes nothing else.
Choices of the model where the rules leave room: log entries 20. -/
def Obligations.EventQueuesHoldEntriesInOrder : Prop :=
  (∀ (n cls code obj arg : Nat) (s : State), n < 64 → (s.evq.get (fun _ => {}) n).bad = false → s.on (Fld.EVQn_CFG_ENABLE n) = false ∨ s.quiescing 0x42000 = true →
    ∃ t, exec (.granaryEnqueue (0x4100 + n) (.entry cls code obj arg) false) s = .next t ∧
      t.get (Fld.EVQn_LOST_COUNT n) = (s.get (Fld.EVQn_LOST_COUNT n) + 1) % 2 ^ (Fld.EVQn_LOST_COUNT n).width ∧
      t.evq.get (fun _ => {}) n = { s.evq.get (fun _ => {}) n with lostFlag := true } ∧
      (∀ r, r ≠ n → t.evq.get (fun _ => {}) r = s.evq.get (fun _ => {}) r) ∧
      s.regsOutside [Reg.EVQn_LOST n] t ∧ s.changesOnly [.regs, .evq] t) ∧
  (∀ (n cls code obj arg : Nat) (s : State), n < 64 → (s.evq.get (fun _ => {}) n).bad = false → s.on (Fld.EVQn_CFG_ENABLE n) = true → s.quiescing 0x42000 = false →
    let q := s.evq.get (fun _ => {}) n
    ∃ t m, exec (.granaryEnqueue (0x4100 + n) (.entry cls code obj arg) false) s = .next t ∧ m ≤ q.entries.length + 1 ∧
      (let p := t.evq.get (fun _ => {}) n
       (p.entries = q.entries.drop m ++ [⟨s.shortTime, cls, code, obj, arg % 2 ^ 32⟩] ∧ (q.headGone < 16 → p.cells ≤ s.get (Fld.EVQn_CFG_MAX_CELLS n)) ∨
         p.entries = [] ∧ m = q.entries.length + 1) ∧
       p.lostFlag = (q.lostFlag || decide (m ≠ 0)) ∧ t.freeCells = s.freeCells + q.cells - p.cells) ∧
      t.get (Fld.EVQn_LOST_COUNT n) = (s.get (Fld.EVQn_LOST_COUNT n) + m) % 2 ^ (Fld.EVQn_LOST_COUNT n).width ∧
      (∀ r, r ≠ n → t.evq.get (fun _ => {}) r = s.evq.get (fun _ => {}) r) ∧
      t.get Fld.FAULT_CONTAINED_COUNT = (s.get Fld.FAULT_CONTAINED_COUNT + m) % 2 ^ 32 ∧
      s.regsOutside [Reg.EVQn_LOST n, Reg.FAULT_CONTAINED] t ∧ s.changesOnly [.regs, .evq, .freeCells] t) ∧
  (∀ (n : Nat) (e : EvEntry) (l : List EvEntry) (s : State), n < 64 → s.linked (Reg.EVQn_POP 0) = true → s.inReset (Reg.EVQn_POP 0) = false →
    (s.evq.get (fun _ => {}) n).bad = false → (s.evq.get (fun _ => {}) n).entries = e :: l → l.length < 2 ^ 24 →
    ∃ t, exec (.evqPop n false) s = .next t ∧ (t.evq.get (fun _ => {}) n).entries = l ∧ (t.evq.get (fun _ => {}) n).lostFlag = false ∧
      bits t.readData 31 1 = 1 ∧ bits t.readData 30 1 = b2n (s.evq.get (fun _ => {}) n).lostFlag ∧ bits t.readData 0 24 = l.length ∧
      t.rd (Reg.EVQn_W0 n) = BitVec.ofNat 32 e.time ∧ t.rd (Reg.EVQn_W1 n) = BitVec.ofNat 32 (e.cls % 256 + e.code % 256 * 256) ∧
      t.rd (Reg.EVQn_W2 n) = BitVec.ofNat 32 e.obj ∧ t.rd (Reg.EVQn_W3 n) = BitVec.ofNat 32 e.arg ∧
      t.freeCells = s.freeCells + ((s.evq.get (fun _ => {}) n).cells - (t.evq.get (fun _ => {}) n).cells) ∧
      (∀ r, r ≠ n → t.evq.get (fun _ => {}) r = s.evq.get (fun _ => {}) r) ∧
      s.regsOutside [Reg.EVQn_W0 n, Reg.EVQn_W1 n, Reg.EVQn_W2 n, Reg.EVQn_W3 n] t ∧ s.changesOnly [.regs, .evq, .freeCells, .readData] t) ∧
  (∀ (n : Nat) (s : State), n < 64 → (s.evq.get (fun _ => {}) n).bad = false → ((s.evq.get (fun _ => {}) n).entries = [] ∨ s.linked (Reg.EVQn_POP 0) = false ∨ s.inReset (Reg.EVQn_POP 0) = true) →
    ∃ t, exec (.evqPop n false) s = .next t ∧ t.readData = 0 ∧ s.changesOnly [.readData] t)

/-- GRANARY_CLAIM marks the oldest unclaimed item of a queue; GRANARY_READ_COMPLETE removes the oldest claimed one and its cells return to the pool. A pointer mismatch on
an enqueue, a claim, a pop or a count read resets the queue first: every unclaimed item is gone and counted in LOST, the claimed ones stay, the cells wait to be swept, a leg queue's packets that
are gone wait for no release, GRANARY_RESETS and the contained errors advance, PG_EVENT bit 1 is set and QUEUE_RESET with the number lost is posted to GRANARY_CFG.EVQ; QUEUE_SWEEP_COMPLETE
returns the swept cells. BANKQ_WRITE of a record of a multiple of 64 bytes to a bank queue that is not reserved: one tagged with a tick before the one the filling banks hold is counted in LATE,
one that does not fit in 64 KiB in FULL, and any other stands last in the filling bank.
Choices of the model where the rules leave room: log entries 29. -/
def Obligations.QueuesAreClaimedResetAndBanked : Prop :=
  (∀ (q : Nat) (a b : List GItem) (i : GItem) (s : State), (s.queue q).items = a ++ i :: b → (∀ x ∈ a, x.claimed = true) → i.claimed = false → ¬ (0x4100 ≤ q ∧ q < 0x4140) →
    (s.queue q).bad = false → ∃ t, exec (.granaryClaim q false) s = .next t ∧ t.queue q = { s.queue q with items := a ++ { i with claimed := true } :: b } ∧
      (∀ r, r ≠ q → t.queue r = s.queue r) ∧ s.changesOnly [.queues] t) ∧
  (∀ (q : Nat) (a b : List GItem) (i : GItem) (s : State), (s.queue q).items = a ++ i :: b → (∀ x ∈ a, x.claimed = false) → i.claimed = true →
    ∃ t, exec (.granaryReadComplete q) s = .next t ∧ t.queue q = { s.queue q with items := a ++ b } ∧ t.freeCells = s.freeCells + ceilDiv i.len 256 ∧
      (∀ r, r ≠ q → t.queue r = s.queue r) ∧ s.changesOnly [.queues, .freeCells] t) ∧
  (∀ (q : Nat) (s : State), ¬ (0x4100 ≤ q ∧ q < 0x4140) → ∃ t, exec (.queueSweepComplete q) s = .next t ∧ t.queue q = { s.queue q with sweeping := 0 } ∧
    t.freeCells = s.freeCells + (s.queue q).sweeping ∧ (∀ r, r ≠ q → t.queue r = s.queue r) ∧ s.changesOnly [.queues, .freeCells] t) ∧
  (∀ (n : Nat) (s : State), n < 64 → ∃ t, exec (.queueSweepComplete (0x4100 + n)) s = .next t ∧
    t.evq.get (fun _ => {}) n = { s.evq.get (fun _ => {}) n with sweeping := 0 } ∧ t.freeCells = s.freeCells + (s.evq.get (fun _ => {}) n).sweeping ∧
    (∀ r, r ≠ n → t.evq.get (fun _ => {}) r = s.evq.get (fun _ => {}) r) ∧ s.changesOnly [.evq, .freeCells] t) ∧
  (∀ (q : Nat) (item : GranaryItem) (s : State), exec (.granaryEnqueue q item true) s = exec (.granaryEnqueue q item false) (s.queueReset q)) ∧
  (∀ (q : Nat) (s : State), exec (.granaryClaim q true) s = exec (.granaryClaim q false) (s.queueReset q)) ∧
  (∀ (n : Nat) (s : State), n < 64 → s.linked (Reg.EVQn_POP 0) = true → s.inReset (Reg.EVQn_POP 0) = false →
    exec (.evqPop n true) s = exec (.evqPop n false) (s.queueReset (0x4100 + n))) ∧
  (∀ (q : Nat) (s t : State), s.writeErr Reg.GRANARY_Q_SEL (BitVec.ofNat 32 q) = none → exec (.granaryQSel q false) s = .next t →
    exec (.granaryQSel q true) s = .next (t.queueReset q)) ∧
  (∀ (q : Nat) (s : State), ¬ (0x4100 ≤ q ∧ q < 0x4140) →
    let g := s.queue q
    let gone := g.items.filter (fun i => !i.claimed)
    (s.evq.get (fun _ => {}) (s.get Fld.GRANARY_CFG_EVQ)).bad = false →
    ∃ u, s.queueReset q = u.evqPlace (s.get Fld.GRANARY_CFG_EVQ) ⟨s.shortTime, 0x07, 0x60, q, gone.length⟩ ∧
      (u.queue q).items = g.items.filter (fun i => i.claimed) ∧ (u.queue q).lost = (g.lost + gone.length) % 2 ^ 24 ∧ (u.queue q).bad = false ∧
      (∀ r, r ≠ q → u.queue r = s.queue r) ∧
      (q < 0x4000 → ∀ id p, u.pkt id = some p → p.leg = q → (p.kind = .video ∨ p.kind = .rtx) → ∃ i ∈ (u.queue q).items, i.tag = id) ∧
      (u.queue q).sweeping = g.sweeping + sumBy GItem.cells gone ∧ (u.queue q).minCells = g.minCells ∧ (u.queue q).maxCells = g.maxCells ∧
      u.get Fld.GRANARY_RESETS_COUNT = (s.get Fld.GRANARY_RESETS_COUNT + 1) % 2 ^ Fld.GRANARY_RESETS_COUNT.width ∧
      u.get Fld.FAULT_CONTAINED_COUNT = (s.get Fld.FAULT_CONTAINED_COUNT + 1) % 2 ^ Fld.FAULT_CONTAINED_COUNT.width ∧ u.hasEvent granaryPage 1 ∧
      s.regsOutside [Reg.GRANARY_RESETS, Reg.FAULT_CONTAINED, Reg.PG_EVENT granaryPage, Reg.PLANEn_INJ_PTR 0, Reg.PLANEn_INJ_PTR 1] u ∧
      s.changesOnly [.regs, .queues, .msix, .pkts, .planes, .ports] u) ∧
  (∀ (n : Nat) (s : State), n < 64 →
    let e := s.evq.get (fun _ => {}) n
    (s.get Fld.GRANARY_CFG_EVQ ≠ n → (s.evq.get (fun _ => {}) (s.get Fld.GRANARY_CFG_EVQ)).bad = false) →
    ∃ u, s.queueReset (0x4100 + n) = u.evqPlace (s.get Fld.GRANARY_CFG_EVQ) ⟨s.shortTime, 0x07, 0x60, 0x4100 + n, e.entries.length⟩ ∧
      (let p := u.evq.get (fun _ => {}) n
       p.entries = [] ∧ p.sweeping = e.sweeping + e.cells ∧ p.bad = false ∧ p.lostFlag = (e.lostFlag || decide (e.entries ≠ []))) ∧
      (∀ r, r ≠ n → u.evq.get (fun _ => {}) r = s.evq.get (fun _ => {}) r) ∧
      u.get (Fld.EVQn_LOST_COUNT n) = (s.get (Fld.EVQn_LOST_COUNT n) + e.entries.length) % 2 ^ (Fld.EVQn_LOST_COUNT n).width ∧ u.hasEvent granaryPage 1 ∧
      s.regsOutside [Reg.EVQn_LOST n, Reg.GRANARY_RESETS, Reg.FAULT_CONTAINED, Reg.PG_EVENT granaryPage] u ∧ s.changesOnly [.regs, .evq, .msix] u) ∧
  (∀ (k tick len : Nat) (s : State), bankUsed k = true → 0 < len → len % 64 = 0 →
    ∃ t, exec (.bankqWrite k tick len) s = .next t ∧
      (tick < s.bankTick → t.get (Fld.GRANARY_BANKQk_LOST_LATE k) =
          Nat.min (2 ^ (Fld.GRANARY_BANKQk_LOST_LATE k).width - 1) (s.get (Fld.GRANARY_BANKQk_LOST_LATE k) + 1) ∧ t.bankq = s.bankq ∧
        s.regsOutside [Reg.GRANARY_BANKQk_LOST k] t) ∧
      (s.bankTick ≤ tick → 65536 < bankBytes (s.bank k).filling + len → t.get (Fld.GRANARY_BANKQk_LOST_FULL k) =
          Nat.min (2 ^ (Fld.GRANARY_BANKQk_LOST_FULL k).width - 1) (s.get (Fld.GRANARY_BANKQk_LOST_FULL k) + 1) ∧ t.bankq = s.bankq ∧
        s.regsOutside [Reg.GRANARY_BANKQk_LOST k] t) ∧
      (s.bankTick ≤ tick → bankBytes (s.bank k).filling + len ≤ 65536 → (t.bank k).filling = (s.bank k).filling ++ [⟨tick, len⟩] ∧
        (t.bank k).draining = (s.bank k).draining ∧ (∀ j, j ≠ k → t.bank j = s.bank j) ∧ s.regsOutside [Reg.GRANARY_BANKQk_FILL k] t) ∧
      s.changesOnly [.regs, .bankq] t)

/-- While the AUDIO page accepts the command, AUDIO_PROG_RESULT is VALID, no device role refuses inputs, no activation waits and the tick after the last activation tick has
ended: PROG_LOAD starts a load of the image at AUDIO_PROG_BASE and AUDIO_PROG_RESULT reads VALID = 0 with its previous data; PROG_DISCARD empties the shadow bank; PROG_ACTIVATE with a program
in the shadow bank names the next tick in AUDIO_PROG_EFFECT and the program becomes active there, and without one answers E_STATE. PROG_LOAD_DONE posts the load's outcome, and a program that
passed is in the shadow bank. Each command answers E_BUSY until that tick has ended, and no register outside the result, the effect and the shadow's ID changes, but for PG_LAST_ERR and what
goes with it, where a rejection also stands. RECALL_PLAY starts a player at the next tick for a frozen conference and otherwise is rejected with E_STATE; RECALL_STOP ends one that plays.
Choices of the model where the rules leave room: log entries 20, 24, 33, 177, 180. -/
def Obligations.AudioCommandsAnswer : Prop :=
  (∀ (s : State), s.get Fld.TWIN_STATUS_STATE = 0 → s.on Fld.AUDIO_PROG_RESULT_VALID = true →
    let gen := bits (s.rd Reg.AUDIO_PROG_RESULT) 24 7 + 1
    let page := pageOf Reg.AUDIO_PROG_CMD
    let regs := [Reg.AUDIO_PROG_RESULT, Reg.AUDIO_PROG_EFFECT_LO, Reg.AUDIO_PROG_EFFECT_LO + 4, Reg.AUDIO_PROG_SHADOW_ID]
    let rejected (op code : Nat) (t : State) : Prop := t.posted Reg.AUDIO_PROG_RESULT gen (progPayload op 0 code) ∧ t.get (Fld.PG_LAST_ERR_CODE page) = code ∧
      s.regsOutside (errRegs page ++ regs) t ∧ s.changesOnly [.regs, .msix] t
    (s.progBusy = true → ∀ x ∈ [(Instr.progLoad, 1), (.progActivate, 2), (.progDiscard, 3)], s.writeErr Reg.AUDIO_PROG_CMD (BitVec.ofNat 32 x.2) = none →
      ∃ t, exec x.1 s = .next t ∧ rejected x.2 6 t) ∧
    (s.progBusy = false → s.audio.activateAt = none →
      (s.writeErr Reg.AUDIO_PROG_CMD 1 = none → ∃ t e, exec .progLoad s = .next t ∧ t.on Fld.AUDIO_PROG_RESULT_VALID = false ∧
        bits (t.rd Reg.AUDIO_PROG_RESULT) 0 31 = bits (s.rd Reg.AUDIO_PROG_RESULT) 0 31 ∧
        (let base := s.rd64 Reg.AUDIO_PROG_BASE_LO
         let len := s.get Fld.AUDIO_PROG_LEN_LEN
         t.audio = { s.audio with loading := some ⟨1, e, progOfImage (s.dram.readList base len)⟩ } ∧
         (base % 4096 ≠ 0 ∨ len % 4096 ≠ 0 → e = some (.align, 0))) ∧ s.regsOutside regs t ∧ s.changesOnly [.regs, .audio] t) ∧
      (s.writeErr Reg.AUDIO_PROG_CMD 2 = none → s.audio.shadow.isSome = true → ∃ t, exec .progActivate s = .next t ∧ t.audio.activateAt = some (s.ltick + 1) ∧
        t.rd64 Reg.AUDIO_PROG_EFFECT_LO = (s.ltick + 1) % 2 ^ 64 ∧ t.posted Reg.AUDIO_PROG_RESULT gen (progPayload 2 0 0) ∧ t.audio.shadow = s.audio.shadow ∧
        t.audio.active = s.audio.active ∧ s.regsOutside regs t ∧ s.changesOnly [.regs, .audio] t) ∧
      (s.writeErr Reg.AUDIO_PROG_CMD 2 = none → s.audio.shadow = none → ∃ t, exec .progActivate s = .next t ∧ rejected 2 3 t) ∧
      (s.writeErr Reg.AUDIO_PROG_CMD 3 = none → ∃ t, exec .progDiscard s = .next t ∧ t.audio.shadow = none ∧ t.audio.active = s.audio.active ∧
        t.get Fld.AUDIO_PROG_SHADOW_ID_ID = 0 ∧ t.posted Reg.AUDIO_PROG_RESULT gen (progPayload 3 0 0) ∧ s.regsOutside regs t ∧ s.changesOnly [.regs, .audio] t))) ∧
  (∀ (q : Loading) (s : State), s.audio.loading = some q →
    let gen := bits (s.rd Reg.AUDIO_PROG_RESULT) 24 7 + 1
    let page := pageOf Reg.AUDIO_PROG_CMD
    (q.err = none → ∃ t, exec .progLoadDone s = .next t ∧ t.posted Reg.AUDIO_PROG_RESULT gen (progPayload q.op 0 0) ∧
      t.audio = { s.audio with loading := none, shadow := some q.prog } ∧ t.get Fld.AUDIO_PROG_SHADOW_ID_ID = q.prog.id % 2 ^ Fld.AUDIO_PROG_SHADOW_ID_ID.width ∧
      s.regsOutside [Reg.AUDIO_PROG_RESULT, Reg.AUDIO_PROG_SHADOW_ID] t ∧ s.changesOnly [.regs, .audio] t) ∧
    (∀ e detail, q.err = some (e, detail) → ∃ t, exec .progLoadDone s = .next t ∧ t.posted Reg.AUDIO_PROG_RESULT gen (progPayload q.op detail e.code) ∧
      t.audio = { s.audio with loading := none } ∧ t.get (Fld.PG_LAST_ERR_CODE page) = e.code ∧
      s.regsOutside (Reg.AUDIO_PROG_RESULT :: errRegs page) t ∧ s.changesOnly [.regs, .msix, .audio] t)) ∧
  (∀ (n : Nat) (s : State), n < 16 → s.get Fld.TWIN_STATUS_STATE = 0 →
    let frozen := CONF.FREEZE ((s.effRec 2 (s.get (Fld.AUDIO_RPn_SRC_CONF n))).getD 0) ≠ 0
    (s.writeErr (Reg.AUDIO_RPn_CMD n) 1 = none → frozen → ∃ t, exec (.recallPlay n) s = .next t ∧ t.player n = { playing := true, startAt := s.ltick + 1 } ∧
      (∀ m, m ≠ n → t.player m = s.player m) ∧ t.get (Fld.AUDIO_RPn_STATUS_STATE n) = 1 ∧ t.get (Fld.AUDIO_RPn_STATUS_PLAYED n) = 0 ∧
      s.regsOutside [Reg.AUDIO_RPn_STATUS n] t ∧ s.changesOnly [.regs, .audio] t) ∧
    (s.writeErr (Reg.AUDIO_RPn_CMD n) 1 = none → ¬ frozen → exec (.recallPlay n) s = .next (s.reject (Reg.AUDIO_RPn_CMD n) .state)) ∧
    (s.writeErr (Reg.AUDIO_RPn_CMD n) 2 = none → (s.player n).playing = true → ∃ u, exec (.recallStop n) s = .next (u.post (bits s.audio.cfg 0 6) 0x08 0x73 n 2) ∧
      u.player n = {} ∧ (∀ m, m ≠ n → u.player m = s.player m) ∧ u.get (Fld.AUDIO_RPn_STATUS_STATE n) = 2 ∧ s.regsOutside [Reg.AUDIO_RPn_STATUS n] u ∧ s.changesOnly [.regs, .audio] u) ∧
    (s.writeErr (Reg.AUDIO_RPn_CMD n) 2 = none → (s.player n).playing = false → exec (.recallStop n) s = .next s))

/-- A running core that issues a bundle without a fault, with one of ADD, SUB, ADDS, SUBS, AND, OR, XOR, SHL, SHR, SRA, SHLI, SHRI, SRAI, MIN, MAX, ABSS, NEGS, CMPLT, CMPEQ,
ADDI, MOVI, MOVH, SAT, ARDL, ARDH or ARDG in a MAC slot: the destination holds the operation's value as bundles one later (two later for SAT and ARDx) see it, and ST.SOV is set
where a saturating operation clips. Where the bundle's other slots are NOP, there is no fault, and no other register, ST bit, byte of data or program memory or of cluster SRAM
changes, the cycle and budget counters, ICAUSE and the loop counts apart.
Choices of the model where the rules leave room: log entries 66, 67. -/
def Obligations.MacSlotsWriteDRegisters : Prop :=
  ∀ (x : Site) (dd dx dy aa imm : Nat) (s : State), s.coreRuns x.core →
    let c := (s.core x.core).landTo (s.core x.core).n
    let a := c.dReg dx
    let b := c.dReg dy
    let g := c.viewReg aa
    let sh := b.toNat % 32
    let cut (i : Int) : Word := BitVec.ofInt 32 (clampI (-2147483648) 2147483647 i)
    let clips (i : Int) : Bool := decide (i < -2147483648 ∨ 2147483647 < i)
    ∀ p ∈ ([(Instr.add x dd dx dy, { op := .add, dd := dd, dx := dx, dy := dy }, 1, a + b, false), (.sub x dd dx dy, { op := .sub, dd := dd, dx := dx, dy := dy }, 1, a - b, false),
        (.adds x dd dx dy, { op := .adds, dd := dd, dx := dx, dy := dy }, 1, cut (a.toInt + b.toInt), clips (a.toInt + b.toInt)),
        (.subs x dd dx dy, { op := .subs, dd := dd, dx := dx, dy := dy }, 1, cut (a.toInt - b.toInt), clips (a.toInt - b.toInt)),
        (.and x dd dx dy, { op := .and, dd := dd, dx := dx, dy := dy }, 1, a &&& b, false), (.or x dd dx dy, { op := .or, dd := dd, dx := dx, dy := dy }, 1, a ||| b, false),
        (.xor x dd dx dy, { op := .xor, dd := dd, dx := dx, dy := dy }, 1, a ^^^ b, false), (.shl x dd dx dy, { op := .shl, dd := dd, dx := dx, dy := dy }, 1, a <<< sh, false),
        (.shr x dd dx dy, { op := .shr, dd := dd, dx := dx, dy := dy }, 1, BitVec.ofNat 32 (a.toNat / 2 ^ sh), false),
        (.sra x dd dx dy, { op := .sra, dd := dd, dx := dx, dy := dy }, 1, BitVec.ofInt 32 (a.toInt / 2 ^ sh), false),
        (.shli x dd dx imm, { op := .shli, dd := dd, dx := dx, imm := imm }, 1, a <<< (imm % 32), false),
        (.shri x dd dx imm, { op := .shri, dd := dd, dx := dx, imm := imm }, 1, BitVec.ofNat 32 (a.toNat / 2 ^ (imm % 32)), false),
        (.srai x dd dx imm, { op := .srai, dd := dd, dx := dx, imm := imm }, 1, BitVec.ofInt 32 (a.toInt / 2 ^ (imm % 32)), false),
        (.min x dd dx dy, { op := .min, dd := dd, dx := dx, dy := dy }, 1, BitVec.ofInt 32 (Min.min a.toInt b.toInt), false),
        (.max x dd dx dy, { op := .max, dd := dd, dx := dx, dy := dy }, 1, BitVec.ofInt 32 (Max.max a.toInt b.toInt), false),
        (.abss x dd dx, { op := .abss, dd := dd, dx := dx }, 1, cut a.toInt.natAbs, clips a.toInt.natAbs), (.negs x dd dx, { op := .negs, dd := dd, dx := dx }, 1, cut (-a.toInt), clips (-a.toInt)),
        (.cmplt x dd dx dy, { op := .cmplt, dd := dd, dx := dx, dy := dy }, 1, if a.slt b then 1 else 0, false),
        (.cmpeq x dd dx dy, { op := .cmpeq, dd := dd, dx := dx, dy := dy }, 1, if a = b then 1 else 0, false),
        (.addi x dd dx imm, { op := .addi, dd := dd, dx := dx, imm := imm }, 1, a + (BitVec.ofNat 12 imm).signExtend 32, false),
        (.movi x dd imm, { op := .movi, dd := dd, imm := imm }, 1, (BitVec.ofNat 20 imm).signExtend 32, false),
        (.movh x dd imm, { op := .movh, dd := dd, imm := imm }, 1, BitVec.ofNat 16 imm ++ (c.dReg dd).extractLsb' 0 16, false),
        (.sat x dd aa, { op := .sat, dd := dd, aa := aa }, 2, cut (g.toInt / 2147483648), clips (g.toInt / 2147483648)),
        (.ardl x dd aa, { op := .ardl, dd := dd, aa := aa }, 2, g.extractLsb' 0 32, false), (.ardh x dd aa, { op := .ardh, dd := dd, aa := aa }, 2, g.extractLsb' 32 32, false),
        (.ardg x dd aa, { op := .ardg, dd := dd, aa := aa }, 2, (g.extractLsb' 64 8).signExtend 32, false)] : List (Instr × MacOp × Nat × Word × Bool)),
      let (i, o, lat, v, sov) := p
      let seen (t : State) : Prop := ((t.core x.core).landTo (c.n + lat)).dReg dd = v
      (c.bundleFault x.core (s.sram (x.core / 16)) (siteMac x o) = 0 → ∃ t, exec i s = .next t ∧ seen t ∧ s.issueFrame x.core t ∧
        (sov = true → (∀ q ∈ c.transfers, q.left ≤ 1 → q.reti = false) → (t.core x.core).st 3 = true)) ∧
      (x.rest = {} → ∃ t, exec i s = .next t ∧ seen t ∧ s.issueFrame x.core t ∧ t.sram (x.core / 16) = s.sram (x.core / 16) ∧
        (t.core x.core).data = c.data ∧ (t.core x.core).prog = c.prog ∧ c.stKept false sov (t.core x.core) ∧
        ∀ q, c.sameBut (if c.n + lat ≤ q then [dd] else []) [] [] [] q (t.core x.core))

/-- A running core that issues a bundle without a fault, with one of MPY, MAC, MSU, MPYSU, MACSU, MPY2, MAC2, MSU2, ACLR, AADD (count 0 to 40), ASHR or ASHL (count 0 to 71)
in a MAC slot: chain operations see the exact result, kept to the 72-bit signed range, one bundle later, SAT, STS, ARDx and AMOV see it two bundles later, and ST.AOV is set where it was
kept to the range. AMOV copies an accumulator, and AWRL, AWRH and AWRG replace bits 31:0, 63:32 and 71:64 of one, two bundles later. Where the bundle's other slots are NOP, no other
register, ST bit, byte of data or program memory or of cluster SRAM changes, the cycle and budget counters, ICAUSE and the loop counts apart.
Choices of the model where the rules leave room: log entries 66, 67. -/
def Obligations.MacSlotsWriteAccumulators : Prop :=
  ∀ (x : Site) (aa dx dy imm : Nat) (s : State), s.coreRuns x.core →
    let c := (s.core x.core).landTo (s.core x.core).n
    let a := (c.dReg dx).toInt
    let b := (c.dReg dy).toInt
    let u : Int := (c.dReg dy).toNat
    let g := (c.chainReg aa).toInt
    let half (w : Word) (k : Nat) : Int := (w.extractLsb' k 16).toInt
    let two : Int := (half (c.dReg dx) 16 * half (c.dReg dy) 16 + half (c.dReg dx) 0 * half (c.dReg dy) 0) * 2 ^ 32
    let lo : Int := -(2 : Int) ^ 71
    let hi : Int := (2 : Int) ^ 71 - 1
    let quiet (o : MacOp) (t : State) : Prop := s.issueFrame x.core t ∧ t.sram (x.core / 16) = s.sram (x.core / 16) ∧
      (t.core x.core).data = c.data ∧ (t.core x.core).prog = c.prog ∧ ∀ q, c.sameBut [] (if c.n < q then [o.aa] else []) [] [] q (t.core x.core)
    (∀ p ∈ ([(Instr.mpy x aa dx dy, { op := .mpy, aa := aa, dx := dx, dy := dy }, a * b), (.mac x aa dx dy, { op := .mac, aa := aa, dx := dx, dy := dy }, g + a * b),
        (.msu x aa dx dy, { op := .msu, aa := aa, dx := dx, dy := dy }, g - a * b), (.mpysu x aa dx dy, { op := .mpysu, aa := aa, dx := dx, dy := dy }, a * u),
        (.macsu x aa dx dy, { op := .macsu, aa := aa, dx := dx, dy := dy }, g + a * u), (.mpy2 x aa dx dy, { op := .mpy2, aa := aa, dx := dx, dy := dy }, two),
        (.mac2 x aa dx dy, { op := .mac2, aa := aa, dx := dx, dy := dy }, g + two), (.msu2 x aa dx dy, { op := .msu2, aa := aa, dx := dx, dy := dy }, g - two),
        (.aclr x aa, { op := .aclr, aa := aa }, 0), (.aadd x aa dx (imm % 41), { op := .aadd, aa := aa, dx := dx, imm := imm % 41 }, g + a * 2 ^ (imm % 41)),
        (.ashr x aa (imm % 72), { op := .ashr, aa := aa, imm := imm % 72 }, g / 2 ^ (imm % 72)),
        (.ashl x aa (imm % 72), { op := .ashl, aa := aa, imm := imm % 72 }, g * 2 ^ (imm % 72))] : List (Instr × MacOp × Int)),
      let (i, o, v) := p
      let seen (t : State) : Prop := ((t.core x.core).landTo (c.n + 1)).chainReg aa = BitVec.ofInt 72 (clampI lo hi v) ∧
        ((t.core x.core).landTo (c.n + 2)).viewReg aa = BitVec.ofInt 72 (clampI lo hi v) ∧ ((t.core x.core).landTo (c.n + 1)).viewReg aa = (c.landTo (c.n + 1)).viewReg aa
      (c.bundleFault x.core (s.sram (x.core / 16)) (siteMac x o) = 0 → ∃ t, exec i s = .next t ∧ seen t ∧ s.issueFrame x.core t ∧
        (v < lo ∨ hi < v → (∀ q ∈ c.transfers, q.left ≤ 1 → q.reti = false) → (t.core x.core).st 2 = true)) ∧
      (x.rest = {} → ∃ t, exec i s = .next t ∧ seen t ∧ quiet o t ∧ c.stKept (decide (v < lo ∨ hi < v)) false (t.core x.core))) ∧
    (∀ p ∈ ([(Instr.amov x aa dx, { op := .amov, aa := aa, dx := dx }, 0, 72, c.viewReg (dx % 8)), (.awrl x aa dx, { op := .awrl, aa := aa, dx := dx }, 0, 32, (c.dReg dx).setWidth 72),
        (.awrh x aa dx, { op := .awrh, aa := aa, dx := dx }, 32, 32, (c.dReg dx).setWidth 72), (.awrg x aa dx, { op := .awrg, aa := aa, dx := dx }, 64, 8, (c.dReg dx).setWidth 72)] :
          List (Instr × MacOp × Nat × Nat × BitVec 72)),
      let (i, o, at_, width, v) := p
      let part (new old : BitVec 72) : Prop := ∀ j, j < 72 → new.getLsbD j = if at_ ≤ j ∧ j < at_ + width then v.getLsbD (j - at_) else old.getLsbD j
      let seen (t : State) : Prop := part (((t.core x.core).landTo (c.n + 2)).chainReg aa) ((c.landTo (c.n + 2)).chainReg aa) ∧
        part (((t.core x.core).landTo (c.n + 2)).viewReg aa) ((c.landTo (c.n + 2)).viewReg aa)
      (c.bundleFault x.core (s.sram (x.core / 16)) (siteMac x o) = 0 → ∃ t, exec i s = .next t ∧ seen t ∧ s.issueFrame x.core t) ∧
      (x.rest = {} → ∃ t, exec i s = .next t ∧ seen t ∧ quiet o t ∧ c.stKept false false (t.core x.core)))

/-- A running core that issues a bundle without a fault, with LD, LDH or LDP in an address unit: the register holds, two bundles later, the word, or the halfword in bits 31:16,
that stood at the address of R227 before the bundle. With ST, STH or STS the bytes at that address are the word of D, bits 31:16 of D, or the accumulator's store value, and every
other byte of core data memory and cluster SRAM is as before, the other slots being NOP. In either case the pointer is post-modified as the mode says, one bundle later, and
no other register changes, the cycle and budget counters, ICAUSE and the loop counts apart.
Choices of the model where the rules leave room: log entries 66, 67, 69, 70. -/
def Obligations.AddressUnitsLoadAndStore : Prop :=
  ∀ (x : Site) (reg pn mode off : Nat) (s : State), s.coreRuns x.core → pn < 8 → mode < 4 →
    let k := x.core
    let c := (s.core k).landTo (s.core k).n
    let u (o : AuKind) : AuOp := { op := o, reg := reg, pn := pn, mode := mode, off := off }
    let fine (o : AuKind) : Prop := c.bundleFault k (s.sram (k / 16)) (siteAu x (u o)) = 0
    let p := c.pReg pn
    let m := c.sReg (off / 2)
    let b := c.sReg (8 + pn)
    let l := c.sReg (16 + pn)
    let at_ : Nat := if mode = 3 then (p + (BitVec.ofNat 4 off).signExtend 32 * 4).toNat else p.toNat
    let t0 : Int := p.toNat + m.toInt
    let after : Word :=
      if mode = 3 then p
      else if mode = 1 ∧ l ≠ 0 then
        BitVec.ofInt 32 (if (b.toNat : Int) + l.toNat ≤ t0 then t0 - l.toNat else if t0 < b.toNat then t0 + l.toNat else t0)
      else p + m
    let post (t : State) (j : Nat) : Prop := mode = 3 ∨ j = pn ∨ (mode = 2 ∧ ∃ e, 1 ≤ e ∧ e < 30 ∧ l.toNat = 4 * 2 ^ e) ∨ ((t.core k).landTo (c.n + 1)).pReg pn = after
    let rev (t : State) (j : Nat) : Prop := ∀ e : Nat, j ≠ pn → mode = 2 → 1 ≤ e → e < 30 → l.toNat = 4 * 2 ^ e →
      let w := unsigned e (((p.toNat : Int) - b.toNat) / 4)
      ((t.core k).landTo (c.n + 1)).pReg pn = b + BitVec.ofNat 32 (4 * revBits e ((revBits e w + revBits e (unsigned e (m.toInt / 4))) % 2 ^ e))
    let quiet (t : State) (ds ps : List Nat) : Prop := (t.core k).prog = c.prog ∧ ∀ q, c.sameBut ds [] (if mode = 3 then ps else pn :: ps) [] q (t.core k)
    (c.auAddr (u .ld)).1 = at_ ∧
    (∀ o ∈ [(AuKind.ld, Instr.ld x reg pn mode off), (.ldh, .ldh x reg pn mode off), (.ldp, .ldp x reg pn mode off)],
      let word := c.load (s.sram (k / 16)) at_ 4
      let seen (t : State) : Prop := let e := (t.core k).landTo (c.n + 2)
        match o.1 with
        | .ld => e.dReg reg = BitVec.ofNat 32 word ∧ post t 8 ∧ rev t 8
        | .ldh => e.dReg reg = BitVec.ofNat 32 (c.load (s.sram (k / 16)) at_ 2 * 65536) ∧ post t 8 ∧ rev t 8
        | _ => e.pReg (reg % 8) = BitVec.ofNat 32 word ∧ post t (reg % 8) ∧ rev t (reg % 8)
      (fine o.1 → ∃ t, exec o.2 s = .next t ∧ seen t ∧ s.issueFrame k t) ∧
      (fine o.1 → x.rest = {} → ∃ t, exec o.2 s = .next t ∧ seen t ∧ s.issueFrame k t ∧ t.sram (k / 16) = s.sram (k / 16) ∧ (t.core k).data = c.data ∧
        c.stKept false false (t.core k) ∧ quiet t (if o.1 = .ldp then [] else [reg]) (if o.1 = .ldp then [reg % 8] else []))) ∧
    (∀ o ∈ [(AuKind.st, Instr.st x reg pn mode off, natBytes 4 (c.dReg reg).toNat), (.sth, .sth x reg pn mode off, natBytes 2 ((c.dReg reg).toNat / 65536)),
        (.sts, .sts x reg pn mode off, natBytes 4 (BitVec.ofInt 32 (clampI (-2147483648) 2147483647 ((c.viewReg (reg % 8)).toInt / 2147483648))).toNat)],
      let stored (t : State) : Prop := match dataPlace at_ with
        | some (.data d) => ∀ i, i < o.2.2.length → (t.core k).data.read (d + i) = o.2.2[i]?
        | some (.sram d) => ∀ i, i < o.2.2.length → Memory.read (t.sram (k / 16)) (d + i) = o.2.2[i]?
        | none => False
      let others (t : State) : Prop :=
        (∀ a, (t.core k).data.read a ≠ c.data.read a → ∃ d, dataPlace at_ = some (.data d) ∧ d ≤ a ∧ a < d + o.2.2.length) ∧
        (∀ a, Memory.read (t.sram (k / 16)) a ≠ Memory.read (s.sram (k / 16)) a → ∃ d, dataPlace at_ = some (.sram d) ∧ d ≤ a ∧ a < d + o.2.2.length)
      (fine o.1 → (x.second = true ∨ x.rest.au1.op = .nop) → ∃ t, exec o.2.1 s = .next t ∧ stored t ∧ post t 8 ∧ rev t 8 ∧ s.issueFrame k t) ∧
      (fine o.1 → x.rest = {} → ∃ t, exec o.2.1 s = .next t ∧ stored t ∧ others t ∧ post t 8 ∧ rev t 8 ∧ s.issueFrame k t ∧
        c.stKept false (c.auSov (u o.1)) (t.core k) ∧ quiet t [] []))

/-- For a running core with no transfer in its delay slots, no special register in flight and at least 18 budget cycles left: BR, CALL, RET, RETI, a taken BZ, BNZ, BLTZ or BGEZ and a LOOP of count 0 continue at their
targets after two further bundles, and an untaken branch at the bundle after them; CALL leaves PC + 3 in RA, RETI restores ST from IST, LOOPn and LOOPIn set LS, LE and LC, and the RET
to the runtime ends a kernel with the blocks it wrote as its outputs. MOVS writes a special register one bundle later (clearing bits in ICAUSE), MOVD reads one into D, and in
bench mode EI and DI set and clear ST.IE and HALT stops the core with its PC and cause 6 in MILLC_BENCH_STATUS and PG_EVENT bit 2. A NOP costs one budget cycle, advances the PC, and at the end
bundle of a hardware loop goes back to its start and counts down. INTERRUPT_ENTRY saves PC and ST, clears IE and LOOPEN and continues at IVEC, and changes nothing where no interrupt may be taken.
Choices of the model where the rules leave room: log entries 66 to 69. -/
def Obligations.ControlSlotMovesThePc : Prop :=
  (∀ (x : Site) (d imm len : Nat) (s : State), s.coreRuns x.core →
    let k := x.core
    let c := (s.core k).landTo (s.core k).n
    let fine (o : CtlOp) : Prop := c.bundleFault k (s.sram (k / 16)) { x.rest with ctl := o } = 0
    let v := c.dReg d
    let next (j : Int) : Nat := unsigned 12 ((c.pc : Int) + j)
    let pcAfter (i : Instr) (pc : Nat) (also : State → State → Prop) : Prop := ∃ t1 t2 t3, exec i s = .next t1 ∧ exec (.nop k) t1 = .next t2 ∧ exec (.nop k) t2 = .next t3 ∧
      (t3.core k).pc = pc ∧ also t1 t3 ∧ s.issueFrame k t1
    let none_ : State → State → Prop := fun _ _ => True
    (c.transfers = [] → c.pc < 4096 → (∀ q ∈ c.flight, ∀ r, q.dst ≠ .special r) → (c.mode = .service → c.act.spent + 18 < c.act.budget) →
      (fine { op := .br, imm := imm } → pcAfter (.br x imm) (next (signed 15 imm)) none_) ∧
      (fine { op := .call, imm := imm } → pcAfter (.call x imm) (next (signed 15 imm)) (fun t _ => ((t.core k).landTo (c.n + 1)).sReg spRA = BitVec.ofNat 32 (next 3))) ∧
      (fine { op := .ret } → (c.mode = .service → (c.sReg spRA).toNat % 4096 ≠ c.act.ret) → pcAfter (.ret x) ((c.sReg spRA).toNat % 4096) (fun _ t => (t.core k).mode = c.mode)) ∧
      (fine { op := .reti } → pcAfter (.reti x) ((c.sReg spIRA).toNat % 4096) (fun _ t => (t.core k).sReg spST = c.sReg spIST)) ∧
      (∀ b ∈ ([(.bz x d imm, { op := .bz, d := d, imm := imm }, decide (v = 0)), (.bnz x d imm, { op := .bnz, d := d, imm := imm }, decide (v ≠ 0)),
          (.bltz x d imm, { op := .bltz, d := d, imm := imm }, decide (v.toInt < 0)), (.bgez x d imm, { op := .bgez, d := d, imm := imm }, decide (0 ≤ v.toInt))] :
            List (Instr × CtlOp × Bool)), fine b.2.1 → pcAfter b.1 (if b.2.2 then next (signed 10 imm) else next 3) none_) ∧
      (∀ b ∈ ([(.loop0 x d len, { op := .loop0, d := d, len := len }, false, v.toNat % 65536), (.loop1 x d len, { op := .loop1, d := d, len := len }, true, v.toNat % 65536),
          (.loopi0 x imm len, { op := .loopi0, imm := imm, len := len }, false, imm), (.loopi1 x imm len, { op := .loopi1, imm := imm, len := len }, true, imm)] :
            List (Instr × CtlOp × Bool × Nat)), fine b.2.1 → c.transferLegal = true → 1 ≤ len → len < 1024 → b.2.2.2 < 65536 →
          pcAfter b.1 (if b.2.2.2 = 0 then next (len + 3) else next 3) (fun t _ =>
            let e := (t.core k).landTo (c.n + 1)
            let one := b2n b.2.2.1
            e.sReg (spLS0 + one) = BitVec.ofNat 32 (next 3) ∧ e.sReg (spLE0 + one) = BitVec.ofNat 32 (next (len + 2)) ∧ e.sReg (spLC0 + one) = BitVec.ofNat 32 b.2.2.2))) ∧
    (fine { op := .movs, d := d, imm := imm } → ∃ t, exec (.movs x d imm) s = .next t ∧ s.issueFrame k t ∧
      (let w := ((t.core k).landTo (c.n + 1)).sReg imm
       if imm = spICAUSE then ∀ i, i < 32 → (w.getLsbD i = true → v.getLsbD i = false) ∧ (v.getLsbD i = false → ((c.landTo (c.n + 1)).sReg imm).getLsbD i = true → w.getLsbD i = true)
       else w = BitVec.ofNat 32 (v.toNat % 2 ^ spWidth imm))) ∧
    (fine { op := .movd, d := d, imm := imm } → ∃ t, exec (.movd x d imm) s = .next t ∧ s.issueFrame k t ∧
      ((t.core k).landTo (c.n + 1)).dReg d = if imm = spCORE then BitVec.ofNat 32 k else c.sReg imm) ∧
    (∀ b ∈ ([(.ei x, { op := .ei }, true), (.di x, { op := .di }, false)] : List (Instr × CtlOp × Bool)), fine b.2.1 → ∃ t, exec b.1 s = .next t ∧ s.issueFrame k t ∧
      ((t.core k).landTo (c.n + 1)).st 0 = b.2.2) ∧
    (k < 128 → s.inBench k = true → c.mode = .bench → x.rest = {} → ∃ t, exec (.halt x) s = .next t ∧ (t.core k).mode = .idle ∧ (t.core k).pc = c.pc ∧ (t.core k).d = c.landAll.d ∧
      (t.core k).data = c.data ∧ t.sram (k / 16) = s.sram (k / 16) ∧ t.get (Fld.MILLC_BENCH_STATUS_STATE (k / 16)) = 2 ∧ t.get (Fld.MILLC_BENCH_STATUS_CAUSE (k / 16)) = 6 ∧
      t.get (Fld.MILLC_BENCH_STATUS_PC (k / 16)) = c.pc % 4096 ∧ t.hasEvent (millPage (k / 16)) 2 ∧ (∀ j, j ≠ k → t.core j = s.core j) ∧
      s.regsOutside [Reg.MILLC_BENCH_STATUS (k / 16), Reg.PG_EVENT (millPage (k / 16))] t ∧ s.changesOnly [.regs, .free, .mill, .csram, .msix] t)) ∧
  (∀ (x : Site) (s : State), let k := x.core
    let c := (s.core k).landTo (s.core k).n
    c.mode = .service → c.transfers = [] → (∀ q ∈ c.flight, ∀ r, q.dst ≠ .special r) → c.act.spent + 2 < c.act.budget → c.act.ret < 4096 → (c.sReg spRA).toNat = c.act.ret →
      c.transferLegal = true → x.rest = {} →
      ∃ t1 t2 t3, exec (.ret x) s = .next t1 ∧ exec (.nop k) t1 = .next t2 ∧ exec (.nop k) t2 = .next t3 ∧ (t3.core k).mode = .idle ∧ (t2.core k).mode = .service ∧
        (∀ i a, c.act.outs[i]? = some a → i < 64 → t3.audio.ports.get (fun _ => []) (c.act.node * 64 + i) = (t3.core k).readBlock a c.act.len) ∧
        s.changesOnly [.free, .mill, .csram, .audio] t3) ∧
  (∀ (k : Nat) (s : State), s.coreRuns k →
    let c := (s.core k).landTo (s.core k).n
    ∃ t, exec (.nop k) s = .next t ∧ s.issueFrame k t ∧ (t.core k).sReg spBREM = BitVec.ofNat 32 ((c.sReg spBREM).toNat - 1) ∧
      (t.core k).sReg spCYC = c.sReg spCYC + 1 ∧ ((c.sReg spBREM).toNat = 1 → ((t.core k).sReg spICAUSE).getLsbD 0 = true) ∧ (t.core k).n = c.n + 1 ∧
      (t.core k).data = c.data ∧ (t.core k).prog = c.prog ∧ c.stKept false false (t.core k) ∧ (∀ q, c.sameBut [] [] [] [] q (t.core k)) ∧
      (c.transfers = [] →
        (c.st 1 = true → c.pc = (c.sReg spLE1).toNat → 1 < (c.sReg spLC1).toNat → (c.sReg spLC1).toNat < 65536 →
          (t.core k).pc = (c.sReg spLS1).toNat ∧ ((t.core k).sReg spLC1).toNat = (c.sReg spLC1).toNat - 1 ∧ (t.core k).sReg spLC0 = c.sReg spLC0) ∧
        (c.st 1 = true → (c.pc = (c.sReg spLE1).toNat → (c.sReg spLC1).toNat = 0 ∨ (c.sReg spLC1).toNat = 1) → c.pc = (c.sReg spLE0).toNat → 1 < (c.sReg spLC0).toNat → (c.sReg spLC0).toNat < 65536 →
          (t.core k).pc = (c.sReg spLS0).toNat ∧ ((t.core k).sReg spLC0).toNat = (c.sReg spLC0).toNat - 1 ∧ (c.pc = (c.sReg spLE1).toNat → ((t.core k).sReg spLC1).toNat = 0)) ∧
        (c.st 1 = false ∨ ((c.pc ≠ (c.sReg spLE1).toNat ∨ (c.sReg spLC1).toNat = 0) ∧ (c.pc ≠ (c.sReg spLE0).toNat ∨ (c.sReg spLC0).toNat = 0)) →
          (t.core k).pc = (c.pc + 1) % 4096 ∧ (t.core k).sReg spLC0 = c.sReg spLC0 ∧ (t.core k).sReg spLC1 = c.sReg spLC1))) ∧
  (∀ (k : Nat) (s : State),
    let c := (s.core k).landTo (s.core k).n
    let may : Prop := s.clusterRuns (k / 16) = true ∧ c.mode = .bench ∧ c.st 0 = true ∧ c.delay = 0 ∧ c.transfers = [] ∧
      (((c.sReg spICAUSE).getLsbD 0 = true ∧ c.st 4 = true) ∨ ((c.sReg spICAUSE).getLsbD 1 = true ∧ c.st 5 = true))
    (may → ∃ t, exec (.interruptEntry k) s = .next t ∧ (t.core k).pc = (c.sReg spIVEC).toNat ∧ (t.core k).sReg spIRA = BitVec.ofNat 32 (c.pc % 4096) ∧
      (t.core k).sReg spIST = c.sReg spST ∧ (t.core k).st 0 = false ∧ (t.core k).st 1 = false ∧ (∀ i, 2 ≤ i → (t.core k).st i = c.st i) ∧
      (∀ r, r ∉ [spIRA, spIST, spST] → (t.core k).sReg r = c.sReg r) ∧
      (t.core k) = { c with pc := (t.core k).pc, special := (t.core k).special } ∧ (∀ j, j ≠ k → t.core j = s.core j) ∧ s.changesOnly [.mill] t) ∧
    (¬ may → exec (.interruptEntry k) s = .next s))

/-- A bundle that faults stops with no byte stored: a bench core goes to FAULTED with the cause and the PC posted and PG_EVENT bit 2, and a kernel ends with zero outputs, MILLC_KFAULT counting and
KERNEL_FAULT posted. A misaligned access gives MISALIGN, one outside the map RANGE, one outside the grants in service PROT, a count out of range or EI, DI and HALT in service ILLEGAL. KERNEL_BUDGET_END ends a kernel that has spent
its budget, with zero outputs, the overrun counted three ways and KERNEL_OVERRUN posted, and changes nothing before. KERNEL_LOAD and KERNEL_UNLOAD check as R215 says, a rejection standing in PG_LAST_ERR too, KERNEL_LOAD_DONE posts MILLC_KRESULT and puts an accepted
kernel in its slot and in every core's kernel area, the runtime area kept. BENCH_ENABLE needs a cluster out of service and writes MILLC_BENCH_SEL; BENCH_START runs the core from MILLC_BENCH_PC with every register 0 and BREM from MILLC_BENCH_BUDGET; BENCH_HALT stops it; BENCH_MBX sets ICAUSE.MBX;
MILL_SLOT_WRITE writes a word of data memory or, of a bench core in the program view, of program memory, and posts E_ALIGN, E_RANGE, E_PRIV or E_STATE elsewhere.
Choices of the model where the rules leave room: log entries 67, 70 to 73. -/
def Obligations.KernelsAndBenchCores : Prop :=
  (∀ (x : Site) (dd imm reg pn mode off : Nat) (s : State), x.core < 128 →
    let k := x.core
    let c := (s.core k).landTo (s.core k).n
    let fault (b : Bundle) : Nat := c.bundleFault k (s.sram (k / 16)) b
    let u (o : AuKind) : AuOp := { op := o, reg := reg, pn := pn, mode := mode, off := off }
    (c.mode ≠ .idle → s.clusterRuns (k / 16) = true → (c.mode = .service → c.act.spent < c.act.budget) →
      ∀ p ∈ ([(.movi x dd imm, siteMac x { op := .movi, dd := dd, imm := imm }), (.ld x reg pn mode off, siteAu x (u .ld)), (.sth x reg pn mode off, siteAu x (u .sth)),
          (.ei x, siteCtl x { op := .ei }), (.di x, siteCtl x { op := .di }), (.halt x, siteCtl x { op := .halt })] : List (Instr × Bundle)), fault p.2 ≠ 0 →
        let quiet (t : State) : Prop := (t.core k).mode = .idle ∧ (t.core k).data = c.data ∧ (t.core k).pc = c.pc ∧ t.sram (k / 16) = s.sram (k / 16) ∧ (∀ j, j ≠ k → t.core j = s.core j)
        (c.mode = .bench → s.inBench k = true → ∃ t, exec p.1 s = .next t ∧ quiet t ∧
          t.get (Fld.MILLC_BENCH_STATUS_STATE (k / 16)) = (if fault p.2 = 6 then 2 else 3) ∧ t.get (Fld.MILLC_BENCH_STATUS_CAUSE (k / 16)) = fault p.2 ∧
          t.get (Fld.MILLC_BENCH_STATUS_PC (k / 16)) = c.pc % 4096 ∧ t.hasEvent (millPage (k / 16)) 2 ∧
          s.regsOutside [Reg.MILLC_BENCH_STATUS (k / 16), Reg.PG_EVENT (millPage (k / 16))] t ∧ s.changesOnly [.regs, .free, .mill, .csram, .msix] t) ∧
        (c.mode = .service → ∃ v, exec p.1 s = .next (v.postLimited (bits s.audio.cfg 0 6) 0x09 0x84 c.act.node false 1 (fault p.2)) ∧ quiet v ∧
          v.get (Fld.MILLC_KFAULT_COUNT (k / 16)) = (s.get (Fld.MILLC_KFAULT_COUNT (k / 16)) + 1) % 2 ^ (Fld.MILLC_KFAULT_COUNT (k / 16)).width ∧
          (c.act.tick = s.ltick → ∀ i a, c.act.outs[i]? = some a → v.audio.ports.get (fun _ => []) (c.act.node * 64 + i) = List.replicate c.act.len 0) ∧
          s.regsOutside [Reg.MILLC_KFAULT (k / 16)] v ∧ s.changesOnly [.regs, .free, .audio, .mill, .csram] v)) ∧
    (x.rest = {} → auLegal (u .ld) = true → pn < 8 →
      let a := (c.auAddr (u .ld)).1
      (a % 4 ≠ 0 → fault (siteAu x (u .ld)) = 2) ∧
      (a % 4 = 0 → ¬ a < 0x20000 → ¬ (0x1000000 ≤ a ∧ a < 0x1400000) → fault (siteAu x (u .ld)) = 3) ∧
      (a % 4 = 0 → (a < 0x20000 ∨ (0x1000000 ≤ a ∧ a < 0x1400000)) → c.mode = .service → (∀ g ∈ c.act.grants, a < g.1 ∨ g.1 + g.2.1 < a + 4) → fault (siteAu x (u .ld)) = 4)) ∧
    (x.rest = {} → 40 < imm → imm < 128 → fault (siteMac x { op := .aadd, aa := dd, dx := reg, imm := imm }) = 1) ∧
    (c.mode = .service → fault (siteCtl x { op := .ei }) = 1 ∧ fault (siteCtl x { op := .di }) = 1 ∧ fault (siteCtl x { op := .halt }) = 1) ∧
    (c.mode = .bench → x.rest = {} → fault (siteCtl x { op := .halt }) = 6)) ∧
  (∀ (k : Nat) (s : State), k < 128 →
    let m := s.core k
    let t := m.act
    (s.clusterRuns (k / 16) = true → m.mode = .service → t.budget ≤ t.spent →
      ∃ v, exec (.kernelBudgetEnd k) s = .next (v.postLimited (bits s.audio.cfg 0 6) 0x09 0x82 t.node false 1 (t.tick % 2 ^ 32)) ∧ (v.core k).mode = .idle ∧ (v.core k).data = m.data ∧
        (v.node t.node).overruns = (s.node t.node).overruns + 1 ∧ (t.tick = s.ltick → ∀ i a, t.outs[i]? = some a → v.audio.ports.get (fun _ => []) (t.node * 64 + i) = List.replicate t.len 0) ∧
        v.get (Fld.MILLC_OVERRUN_COUNT (k / 16)) = (s.get (Fld.MILLC_OVERRUN_COUNT (k / 16)) + 1) % 2 ^ (Fld.MILLC_OVERRUN_COUNT (k / 16)).width ∧
        v.get Fld.FAULT_CONTAINED_COUNT = (s.get Fld.FAULT_CONTAINED_COUNT + 1) % 2 ^ Fld.FAULT_CONTAINED_COUNT.width ∧ (∀ j, j ≠ k → v.core j = s.core j) ∧
        s.regsOutside [Reg.MILLC_OVERRUN (k / 16), Reg.FAULT_CONTAINED] v ∧ s.changesOnly [.regs, .audio, .mill] v) ∧
    (¬ (s.clusterRuns (k / 16) = true ∧ m.mode = .service ∧ t.budget ≤ t.spent) → exec (.kernelBudgetEnd k) s = .next s)) ∧
  (∀ (c slot : Nat) (s : State), c < 8 → slot < 8 → s.get Fld.TWIN_STATUS_STATE = 0 →
    let r := Reg.MILLC_KCMD c
    let base := s.rd64 (Reg.MILLC_KBASE_LO c)
    let g := s.readKernel base
    let st : Nat := if s.kernelReserved base then Err.reserved.code else if g.outOfRange then Err.range.code else if imageDigestOk (s.dram.readList base (64 + g.codeLen)) = false then Err.conflict.code
      else if 32768 < s.kernelBytes c + g.codeLen then Err.noslot.code else if (s.kernel c slot).id ≠ 0 then Err.state.code else 0
    let used := s.audio.active.usesSlot c slot || (s.audio.shadow.map (fun p => p.usesSlot c slot)).getD false
    ∀ p ∈ ([(.kernelLoad c slot, 1, st), (.kernelUnload c slot, 2, if used then Err.state.code else 0)] : List (Instr × Nat × Nat)),
      s.writeErr r (BitVec.ofNat 32 (slot * 16 + p.2.1)) = none →
      (s.on (Fld.MILLC_KRESULT_VALID c) = false → exec p.1 s = .next (s.reject r .busy)) ∧
      (s.on (Fld.MILLC_KRESULT_VALID c) = true → ∃ t, exec p.1 s = .next t ∧ t.kernelCmd.get (fun _ => none) c = some ⟨p.2.1, slot, p.2.2, g⟩ ∧
        t.on (Fld.MILLC_KRESULT_VALID c) = false ∧ bits (t.rd (Reg.MILLC_KRESULT c)) 0 31 = bits (s.rd (Reg.MILLC_KRESULT c)) 0 31 ∧
        (∀ d, d ≠ c → t.kernelCmd.get (fun _ => none) d = s.kernelCmd.get (fun _ => none) d) ∧
        (p.2.2 = 0 → s.regsOutside [Reg.MILLC_KRESULT c] t ∧ s.changesOnly [.regs, .kernelCmd] t) ∧
        (p.2.2 ≠ 0 → t.get (Fld.PG_LAST_ERR_CODE (millPage c)) = p.2.2 ∧ s.regsOutside (Reg.MILLC_KRESULT c :: errRegs (millPage c)) t ∧
          s.changesOnly [.regs, .msix, .kernelCmd] t))) ∧
  (∀ (c : Nat) (s : State), s.kernelCmd.get (fun _ => none) c = none → exec (.kernelLoadDone c) s = .next s) ∧
  (∀ (c : Nat) (q : KernelCmd) (s : State), c < 8 → q.slot < 8 → q.op < 16 → q.status < 256 → s.kernelCmd.get (fun _ => none) c = some q →
    ∃ t, exec (.kernelLoadDone c) s = .next (if q.op = 1 ∧ q.status = 0 then t.post (bits s.audio.cfg 0 6) 0x09 0x83 (c + q.slot * 16) q.kernel.id else t) ∧
      t.posted (Reg.MILLC_KRESULT c) (bits (s.rd (Reg.MILLC_KRESULT c)) 24 7 + 1) (q.op * 256 + q.status) ∧ t.hasEvent (millPage c) 1 ∧ t.kernelCmd.get (fun _ => none) c = none ∧
      (q.status = 0 → t.get (Fld.MILLC_KIDk_ID c q.slot) = (if q.op = 1 then q.kernel.id else 0) % 2 ^ 32 ∧ (t.kernel c q.slot).id = (if q.op = 1 then q.kernel.id else 0) ∧
        (q.op = 1 → (t.kernel c q.slot).code = q.kernel.code ∧ (t.kernel c q.slot).budget = q.kernel.budget ∧ (t.kernel c q.slot).entry = q.kernel.entry)) ∧
      (q.status ≠ 0 → t.kernels = s.kernels ∧ t.mill = s.mill) ∧
      (∀ d j, d ≠ c → j < 8 → t.kernel d j = s.kernel d j) ∧ (∀ j, j < 8 → j ≠ q.slot → (t.kernel c j).id = (s.kernel c j).id ∧ (t.kernel c j).code = (s.kernel c j).code) ∧
      (∀ k, (t.core k).data = (s.core k).data ∧ (t.core k).mode = (s.core k).mode ∧ (k / 16 ≠ c → t.core k = s.core k)) ∧
      s.regsOutside [Reg.MILLC_KRESULT c, Reg.MILLC_KIDk c q.slot, Reg.MILLC_KCODE c, Reg.PG_EVENT (millPage c)] t ∧ s.changesOnly [.regs, .msix, .kernels, .kernelCmd, .mill] t) ∧
  (∀ (c core : Nat) (enable : Bool) (s : State), c < 8 → core < 16 →
    let r := Reg.MILLC_BENCH_SEL c
    let k := s.benchCore c
    s.writeErr r (BitVec.ofNat 32 (b2n enable * 2 ^ 31 + core)) = none →
      ((enable = true ∧ s.get (Fld.PG_STATUS_SERVICE (millPage c)) ≠ 1) ∨ (s.on (Fld.MILLC_BENCH_SEL_ENABLE c) = true ∧ core ≠ s.get (Fld.MILLC_BENCH_SEL_CORE c)) →
        exec (.benchEnable c core enable) s = .next (s.reject r .state)) ∧
      ((enable = true → s.get (Fld.PG_STATUS_SERVICE (millPage c)) = 1) → (s.on (Fld.MILLC_BENCH_SEL_ENABLE c) = true → core = s.get (Fld.MILLC_BENCH_SEL_CORE c)) →
        ∃ t, exec (.benchEnable c core enable) s = .next t ∧ t.on (Fld.MILLC_BENCH_SEL_ENABLE c) = enable ∧ t.get (Fld.MILLC_BENCH_SEL_CORE c) = core ∧
          (enable = false → s.get (Fld.MILLC_BENCH_STATUS_STATE c) = 1 → (t.core k).mode = .idle ∧ t.get (Fld.MILLC_BENCH_STATUS_STATE c) = 2) ∧
          (∀ j, j ≠ k → t.core j = s.core j) ∧ s.regsOutside [r, Reg.MILLC_BENCH_STATUS c, Reg.PG_EVENT (millPage c)] t ∧ s.changesOnly [.regs, .msix, .mill] t)) ∧
  (∀ (c : Nat) (s : State), c < 8 →
    let r := Reg.MILLC_BENCH_CMD c
    let k := s.benchCore c
    let running : Prop := s.get (Fld.MILLC_BENCH_STATUS_STATE c) = 1
    (∀ p ∈ ([(.benchStart c, 1), (.benchHalt c, 2), (.benchMbx c, 3)] : List (Instr × Word)), s.writeErr r p.2 = none →
      (s.on (Fld.MILLC_BENCH_SEL_ENABLE c) = false ∨ (p.2 = 1 ∧ running) → exec p.1 s = .next (s.reject r .state))) ∧
    (s.on (Fld.MILLC_BENCH_SEL_ENABLE c) = true →
      (s.writeErr r 1 = none → ¬ running → ∃ t, exec (.benchStart c) s = .next t ∧ (t.core k).mode = .bench ∧ (t.core k).pc = s.get (Fld.MILLC_BENCH_PC_PC c) ∧
        (∀ n, (t.core k).dReg n = 0 ∧ (t.core k).pReg n = 0 ∧ (t.core k).chainReg n = 0 ∧ (t.core k).viewReg n = 0 ∧ (n ≠ spBREM → (t.core k).sReg n = 0)) ∧
        (t.core k).sReg spBREM = s.rd (Reg.MILLC_BENCH_BUDGET c) ∧ (t.core k).flight = [] ∧ (t.core k).transfers = [] ∧ (t.core k).data = (s.core k).data ∧ (t.core k).prog = (s.core k).prog ∧
        t.get (Fld.MILLC_BENCH_STATUS_STATE c) = 1 ∧ (∀ j, j ≠ k → t.core j = s.core j) ∧ s.regsOutside [Reg.MILLC_BENCH_STATUS c] t ∧ s.changesOnly [.regs, .mill] t) ∧
      (s.writeErr r 2 = none → running → ∃ t, exec (.benchHalt c) s = .next t ∧ (t.core k).mode = .idle ∧ (t.core k).pc = (s.core k).pc ∧ (t.core k).d = (s.core k).landAll.d ∧
        (t.core k).data = (s.core k).data ∧ t.get (Fld.MILLC_BENCH_STATUS_STATE c) = 2 ∧ t.get (Fld.MILLC_BENCH_STATUS_CAUSE c) = 0 ∧ t.get (Fld.MILLC_BENCH_STATUS_PC c) = (s.core k).pc % 4096 ∧
        t.hasEvent (millPage c) 2 ∧ (∀ j, j ≠ k → t.core j = s.core j) ∧ s.regsOutside [Reg.MILLC_BENCH_STATUS c, Reg.PG_EVENT (millPage c)] t ∧ s.changesOnly [.regs, .msix, .mill] t) ∧
      (s.writeErr r 2 = none → ¬ running → exec (.benchHalt c) s = .next s) ∧
      (s.writeErr r 3 = none → ∃ t, exec (.benchMbx c) s = .next t ∧ ((t.core k).sReg spICAUSE).getLsbD 1 = true ∧
        (∀ i, i ≠ 1 → ((t.core k).sReg spICAUSE).getLsbD i = ((s.core k).sReg spICAUSE).getLsbD i) ∧ (∀ n, n ≠ spICAUSE → (t.core k).sReg n = (s.core k).sReg n) ∧
        t.core k = { s.core k with special := (t.core k).special } ∧ (∀ j, j ≠ k → t.core j = s.core j) ∧ s.changesOnly [.mill] t))) ∧
  (∀ (k off : Nat) (w : Word) (s : State), k < 128 → off < 0x20000 →
    let c := k / 16
    let prog := bit (s.rd (Reg.MILLC_WIN c)) (k % 16)
    let err (e : Err) : Prop := exec (.millSlotWrite k off w) s = .next (s.postErr (millPage c) (off % 4096) e.code)
    (off % 4 ≠ 0 → err .align) ∧
    (off % 4 = 0 → s.linked (millPage c) = false → err .state) ∧
    (off % 4 = 0 → s.linked (millPage c) = true →
      (prog = false → ∃ t, exec (.millSlotWrite k off w) s = .next t ∧ t.core k = { s.core k with data := (t.core k).data } ∧
        (∀ a, (t.core k).data.read a = if off ≤ a ∧ a < off + 4 then w.extractLsb' ((a - off) * 8) 8 else (s.core k).data.read a) ∧ (∀ j, j ≠ k → t.core j = s.core j) ∧ s.changesOnly [.mill] t) ∧
      (prog = true → 0x10000 ≤ off → err .range) ∧
      (prog = true → off < 0x10000 → s.inBench k = true → ∃ t, exec (.millSlotWrite k off w) s = .next t ∧ t.core k = { s.core k with prog := (t.core k).prog } ∧
        (∀ a, (t.core k).prog.read a = if off ≤ a ∧ a < off + 4 then w.extractLsb' ((a - off) * 8) 8 else (s.core k).prog.read a) ∧ (∀ j, j ≠ k → t.core j = s.core j) ∧ s.changesOnly [.mill] t) ∧
      (prog = true → off < 0x10000 → s.inBench k = false → err (if off < 0x8000 then .priv else .state))))

/-- TASK_SUBMIT by a port that submits the type, for an object that R12 numbers, with the device in power state ACTIVE: with a slot to take, the task waits in a free slot with its flow, its
level, the flow's next FSEQ and its flow's lease; otherwise it stalls behind the port's earlier ones; by another port, for another object or in another power state it changes nothing.
TASK_DISPATCH, of tasks that carry no media work: a task that starts was READY or became so, and runs on an engine of its type that was idle and is not excluded; no READY
task is left that an idle engine may run; a task whose conditions do not hold waits on. TASK_COMPLETE of such a task frees the engine: its result is released and the slot freed where it is the flow's oldest, and is
HELD behind an older one, late if its hard limit has passed. TASK_CANCEL_STOP releases a cancelled task, counted in CANCELLED. The slots' keys are assumed canonical and, for a release, no submission stalled and
no other cancelled task left to release.
Choices of the model where the rules leave room: log entries 5, 44, 74, 76. -/
def Obligations.ReeveRunsTasksInFlowOrder : Prop :=
  let shown : List Nat := [Reg.REEVE_SLOTS, Reg.REEVE_LEASES] ++ (List.range 5).map Reg.REEVE_PORTn_STATUS ++ (List.range 8).map Reg.REEVE_LEVELk
  let wf (s : State) : Prop := Sparse.wf (fun _ => none) s.reeve.slots = true
  let othersKept (i : Nat) (s t : State) : Prop := ∀ j, j ≠ i → t.task j = s.task j
  (∀ (typ port key cluster : Nat) (second : Bool) (s : State), wf s →
    ∀ p ∈ ([(0, [2, 3], 4, key), (1, [1], if second then 6 else 2, 5120 + key), (2, [1], 3, 4096 + key), (3, [0], 0, 6144 + 256 * cluster + key % 256),
        (4, if second then [4] else [0], if second then 5 else 1, 6144 + 256 * cluster + (if second then 255 else key % 256)), (5, [0], 0, 6144 + 256 * cluster + key % 256)] :
          List (Nat × List Nat × Nat × Nat)), typ = p.1 →
      let numbered : Prop := (typ = 0 → key < 4096) ∧ (typ = 1 ∨ typ = 2 → key < 1024) ∧ (3 ≤ typ → cluster < 8)
      let held := s.reeve.stalled.get (fun _ => []) port
      let q := s.reeve.nextSeq.get (fun _ => 0) p.2.2.2
      let made (x : Task) : Prop := x.port = port ∧ x.level = p.2.2.1 ∧ x.flow = p.2.2.2 ∧ x.state = .waiting ∧ x.leases = [(p.2.2.2, true)] ∧ x.work = .none ∧ x.start = s.lnow
      (port ∉ p.2.1 ∨ ¬ numbered ∨ s.mediaOff = true → exec (.taskSubmit typ port key second cluster) s = .next s) ∧
      (port ∈ p.2.1 → numbered → s.mediaOff = false → held = [] → s.portMay port = true → ∃ t i x, exec (.taskSubmit typ port key second cluster) s = .next t ∧ s.task i = none ∧ t.task i = some x ∧ made x ∧ x.fseq = q ∧
        othersKept i s t ∧ (∀ f, t.reeve.nextSeq.get (fun _ => 0) f = if f = p.2.2.2 then (q + 1) % 65536 else s.reeve.nextSeq.get (fun _ => 0) f) ∧
        t.get Fld.REEVE_SLOTS_USED = (s.tasks.length + 1) % 2 ^ Fld.REEVE_SLOTS_USED.width ∧ s.regsOutside shown t ∧ s.changesOnly [.regs, .reeve] t) ∧
      (port ∈ p.2.1 → numbered → s.mediaOff = false → ¬ (held = [] ∧ s.portMay port = true) → ∃ t x, exec (.taskSubmit typ port key second cluster) s = .next t ∧ made x ∧
        (∀ n, t.reeve.stalled.get (fun _ => []) n = if n = port then held ++ [x] else s.reeve.stalled.get (fun _ => []) n) ∧ t.reeve.slots = s.reeve.slots ∧
        (port ≠ 0 → t.get (Fld.REEVE_PORTn_STATUS_STALLS port) = (s.get (Fld.REEVE_PORTn_STATUS_STALLS port) + 1) % 2 ^ 16) ∧
        s.regsOutside [Reg.REEVE_PORTn_STATUS port] t ∧ s.changesOnly [.regs, .reeve] t)) ∧
  (∀ (s : State), wf s → (∀ p ∈ s.tasks, p.2.work = .none) → ∃ t, exec .taskDispatch s = .next t ∧
    (∀ i x, t.task i = some x → x.state = .running → (∃ y, s.task i = some y ∧ y.state = .running) ∨
      (∃ y, s.task i = some y ∧ (y.state = .ready ∨ (y.state = .waiting ∧ s.mayReady y = true)) ∧ x.flow = y.flow ∧ x.engine / 256 = y.engineType ∧ x.engine ∉ y.excl ∧
        s.engineIdle x.engine = true ∧ (t.eng x.engine).slot = some i ∧ (t.eng x.engine).lastFlow = some y.flow)) ∧
    (∀ i x, t.task i = some x → x.state = .ready → ∀ e ∈ allEngines, t.engineIdle e = true → x.mayRun e = false) ∧
    (∀ i y, s.task i = some y → y.state = .waiting → s.mayReady y = false → ∃ x, t.task i = some x ∧ x.state = .waiting) ∧
    (∀ i, t.task i = none ↔ s.task i = none) ∧ s.regsOutside shown t ∧ s.changesOnly [.regs, .reeve] t) ∧
  (∀ (e i : Nat) (f : TaskFacts) (y : Task) (s : State), wf s → (∀ n, s.reeve.stalled.get (fun _ => []) n = []) → (s.eng e).slot = some i → s.task i = some y → y.work = .none →
    let head : Prop := ∀ p ∈ s.tasks, p.2.flow = y.flow → p.1 = i
    let late : Bool := y.late || (y.timed && decide (y.hard < s.lnow))
    (∀ p ∈ s.tasks, p.1 ≠ i → p.2.state = .cancelled → p.2.releasable = false) →
    (y.state = .running → y.cancelledRun = false → (s.eng e).resetting = false → (s.eng e).fenced = none →
      (∀ j z, s.flowHead y.flow = some (j, z) → j ≠ i → z.releasable = false → ∃ t, exec (.taskComplete e f) s = .next t ∧ (t.eng e).slot = none ∧
        t.task i = some { y with late := late, state := .held, facts := f } ∧ othersKept i s t ∧ (∀ d, d ≠ e → t.eng d = s.eng d) ∧ s.regsOutside shown t ∧
        (late = false → t.audio = s.audio) ∧ s.changesOnly [.regs, .audio, .reeve] t) ∧
      (head → ∃ t, exec (.taskComplete e f) s = .next t ∧ (t.eng e).slot = none ∧ t.task i = none ∧ othersKept i s t ∧ (∀ d, d ≠ e → t.eng d = s.eng d) ∧
        t.get Fld.REEVE_SLOTS_USED = (s.tasks.length - 1) % 2 ^ Fld.REEVE_SLOTS_USED.width ∧ s.regsOutside shown t ∧ (late = false → t.audio = s.audio) ∧
        s.changesOnly [.regs, .audio, .reeve] t)) ∧
    (y.cancelledRun = true → y.state = .cancelled → head → ∃ t, exec (.taskCancelStop e) s = .next t ∧ (t.eng e).slot = none ∧ t.task i = none ∧ othersKept i s t ∧
      (∀ d, d ≠ e → t.eng d = s.eng d) ∧ t.get Fld.REEVE_OUTCOMES_CANCELLED = (s.get Fld.REEVE_OUTCOMES_CANCELLED + 1) % 2 ^ 16 ∧
      t.get Fld.REEVE_LEASES_REVOKED = (s.get Fld.REEVE_LEASES_REVOKED + y.leases.length) % 2 ^ 16 ∧
      s.regsOutside (Reg.REEVE_OUTCOMES :: shown) t ∧ s.changesOnly [.regs, .mill, .reeve] t) ∧
    (y.cancelledRun = false → exec (.taskCancelStop e) s = .next s)) ∧
  (∀ (w : Task) (idle : List Nat) (s : State), (∃ e ∈ idle, w.mayRun e = true ∧ (s.eng e).lastFlow = some w.flow) → ∃ e, s.chooseEngine w idle = some e ∧ (s.eng e).lastFlow = some w.flow)

/-- ENGINE_FAULT, or WATCHDOG_EXPIRE of an engine that runs a task: the engine is reset and its identity fenced at Weir, its task keeps its slot, and the fault waits to be counted, until the fence is empty; a fault with no task is counted at once: its time joins those of the last 3,600 s, and with three
the engine is retired; a fault of an engine in reset or fenced, or a watchdog of an idle engine, changes nothing. ENGINE_RESET_DONE ends the reset and lifts the fence unless the engine is fenced still, retired or out of service. KAT_CHUNK runs only on an idle engine that no READY task may use: a pass
that completes the set counts in FAULT_TEST.RUNS and dates it, a failure resets the engine; the SRTP engine's test runs in idle cycles and the cipher unit's while the lock is free, and a failure there trips source 4. TEST_OVERDUE marks the engine and its type and posts event 0x13/0x06. HARD_LIMIT_EXPIRE marks a task of no media work late, and a task that no engine in service may run, alone in its flow, is released FAILED.
Choices of the model where the rules leave room: log entries 5, 26, 91, 92, 168. -/
def Obligations.EngineFaultsFenceAndRetire : Prop :=
  let reset (e : Nat) (s t : State) : Prop := (∀ d, d ≠ e → t.eng d = s.eng d) ∧ t.reeve.slots = s.reeve.slots ∧
    (∃ f ∈ t.weir.fences, f.port = (engineIdent e).1 ∧ f.ident = some (engineIdent e).2) ∧ (∀ f ∈ s.weir.fences, f ∈ t.weir.fences)
  let stopped (e cause : Nat) (s t : State) : Prop := reset e s t ∧
    t.eng e = { s.eng e with slot := none, resetting := true, fenced := (s.eng e).slot, cause := some cause, busy := (s.eng e).busy + (s.now - (s.eng e).since) } ∧
    s.changesOnly [.regs, .weir, .mill, .reeve] t
  let counted (e : Nat) (s t : State) : Prop :=
    let recent := (s.eng e).faults.filter (fun u => decide (s.now ≤ u + 3600000000000)) ++ [s.now]
    reset e s t ∧ t.eng e = { s.eng e with resetting := true, fenced := none, cause := none, faults := recent, retired := (s.eng e).retired || decide (3 ≤ recent.length) } ∧
      t.crier.faults = s.crier.faults + 1 ∧ s.changesOnly [.regs, .msix, .evq, .freeCells, .faultLog, .weir, .crier, .mill, .reeve, .uart] t
  (∀ (e cause : Nat) (s : State), e ∈ allEngines →
    ((s.eng e).resetting = false → (s.eng e).fenced = none →
      ((s.eng e).slot.isSome = true → ∃ t, exec (.engineFault e cause) s = .next t ∧ stopped e cause s t) ∧ ((s.eng e).slot = none → ∃ t, exec (.engineFault e cause) s = .next t ∧ counted e s t)) ∧
    ((s.eng e).resetting = true ∨ (s.eng e).fenced.isSome = true → exec (.engineFault e cause) s = .next s)) ∧
  (∀ (e : Nat) (s : State), ((s.eng e).slot = none → exec (.watchdogExpire e) s = .next s) ∧
    (∀ i y, (s.eng e).slot = some i → s.task i = some y → (s.eng e).resetting = false → (s.eng e).fenced = none →
      ∃ t, exec (.watchdogExpire e) s = .next t ∧ stopped e 2 (s.runTo (y.dispatchAt + s.get Fld.REEVE_CFG_WDOG * 1000000)) t)) ∧
  (∀ (e : Nat) (s : State), ∃ t, exec (.engineResetDone e) s = .next t ∧ t.eng e = { s.eng e with resetting := false } ∧ (∀ d, d ≠ e → t.eng d = s.eng d) ∧
    (let out : Prop := (s.eng e).retired = true ∨ s.get (Fld.PG_STATUS_SERVICE (enginePage e)) ≠ 0 ∨ (s.eng e).fenced.isSome = true
     (out → t.weir = s.weir) ∧ (¬ out → ∀ f, f ∈ t.weir.fences ↔ f ∈ s.weir.fences ∧ ¬ (f.port = (engineIdent e).1 ∧ f.ident = some (engineIdent e).2))) ∧
    t.reeve.slots = s.reeve.slots ∧ s.changesOnly [.weir, .reeve] t) ∧
  (∀ (e chunk : Nat) (done pass : Bool) (s : State), e ∈ allEngines →
    let free : Prop := s.engineIdle e = true ∧ ∀ p ∈ s.tasks, p.2.state = .ready → p.2.mayRun e = false
    (¬ free → exec (.katChunk e chunk done pass) s = .next s) ∧
    (free → pass = true → done = false → exec (.katChunk e chunk done pass) s = .next s) ∧
    (free → pass = true → done = true → ∃ t, exec (.katChunk e chunk done pass) s = .next t ∧ t.eng e = { s.eng e with katAt := s.now, overdue := false } ∧ (∀ d, d ≠ e → t.eng d = s.eng d) ∧
      t.get Fld.FAULT_TEST_RUNS = (s.get Fld.FAULT_TEST_RUNS + 1) % 2 ^ 16 ∧ s.regsOutside [Reg.FAULT_TEST, Reg.FAULT_TEST_OVERDUE] t ∧ s.changesOnly [.regs, .reeve] t) ∧
    (free → pass = false → ∃ t, exec (.katChunk e chunk done pass) s = .next t ∧ counted e s t)) ∧
  (∀ (e chunk : Nat) (s : State), e = srtpUnit ∨ (e = cipherUnit ∧ s.lockOwner = 7) →
    (∃ t, exec (.katChunk e chunk true true) s = .next t ∧ t.eng e = { s.eng e with katAt := s.now, overdue := false } ∧ (∀ d, d ≠ e → t.eng d = s.eng d) ∧
      t.get Fld.FAULT_TEST_RUNS = (s.get Fld.FAULT_TEST_RUNS + 1) % 2 ^ 16 ∧ s.regsOutside [Reg.FAULT_TEST, Reg.FAULT_TEST_OVERDUE] t ∧ s.changesOnly [.regs, .reeve] t) ∧
    (∀ done, ∃ u, exec (.katChunk e chunk done false) s = .next (u.alarm 4) ∧
      u.get Fld.FAULT_TEST_FAIL = Nat.min (2 ^ Fld.FAULT_TEST_FAIL.width - 1) (s.get Fld.FAULT_TEST_FAIL + 1) ∧ s.regsOutside [Reg.FAULT_TEST] u ∧ s.changesOnly [.regs] u)) ∧
  (∀ (e : Nat) (s : State), ((s.eng e).overdue = true → exec (.testOverdue e) s = .next s) ∧
    ((s.eng e).overdue = false → e ∈ testedEngines → ∃ u, exec (.testOverdue e) s = .next (u.post (u.get Fld.FAULT_CFG_EVQ) 0x13 0x06 e 0) ∧ u.eng e = { s.eng e with overdue := true } ∧
      (∀ d, d ≠ e → u.eng d = s.eng d) ∧ u.get Fld.FAULT_TEST_OVERDUE_TYPE / 2 ^ (e / 256) % 2 = 1 ∧ s.regsOutside [Reg.FAULT_TEST_OVERDUE] u ∧ s.changesOnly [.regs, .clk, .reeve] u)) ∧
  (∀ (i : Nat) (y : Task) (s : State), Sparse.wf (fun _ => none) s.reeve.slots = true → (∀ n, s.reeve.stalled.get (fun _ => []) n = []) → s.task i = some y → y.work = .none → y.cancelledRun = false →
    let stuck : Prop := y.state ≠ .running ∧ y.state ≠ .held ∧ s.hasEngine y = false
    (y.late = true ∨ y.state = .failed ∨ y.state = .cancelled → exec (.hardLimitExpire i none) s = .next s) ∧
    (∀ p ∈ s.tasks, p.1 ≠ i → p.2.state = .cancelled → p.2.releasable = false) →
    (y.late = false → y.state ≠ .failed → y.state ≠ .cancelled → ¬ stuck → ∃ t, exec (.hardLimitExpire i none) s = .next t ∧ t.task i = some { y with late := true } ∧
      (∀ j, j ≠ i → t.task j = s.task j) ∧ s.changesOnly [.clk, .reeve] t) ∧
    (y.late = false → y.state ≠ .failed → y.state ≠ .cancelled → stuck → (∀ p ∈ s.tasks, p.2.flow = y.flow → p.1 = i) → ∃ t, exec (.hardLimitExpire i none) s = .next t ∧ t.task i = none ∧
      (∀ j, j ≠ i → t.task j = s.task j) ∧ t.get Fld.REEVE_OUTCOMES_FAILED = (s.get Fld.REEVE_OUTCOMES_FAILED + 1) % 2 ^ 16 ∧ t.hasEvent reevePage 3 ∧
      s.changesOnly [.regs, .clk, .msix, .evq, .freeCells, .reeve] t))

/-- A training link that locks enters CHECK and queues its IDENT; 20 ms without lock count in TRAIN_FAIL; an IDENT in CHECK leads to MISMATCH with its reason posted when the ends are incompatible, to
REFUSED for a child beyond the budget, and otherwise to UP. A lost lane lock, or 1 µs without a flit, takes the link to TRAINING with its replay and queues empty and counts in DOWN when it was UP. TOPO_SEND queues
this device's place on an UP or REFUSED link; TOPO_RX shows the peer's height and depth, grants a claim to a rooted STANDBY end within the budget, and accepts or drops this device's own claim. CLAIM_RETRY claims the
STANDBY link with S = the tick + 2, and REVERT_HOLD_EXPIRE announces a return to LINK0 with such an S. In another state the command changes nothing.
Choices of the model where the rules leave room: log entries 93 to 95, 97 to 100. -/
def Obligations.LinksTrainAndClaim : Prop :=
  ∀ (n : Nat) (s : State), n < 4 →
    let st := s.linkState n
    let queued (t : State) (kind : Nat) (m : LinkMsg) : Prop :=
      ∃ len, 1 ≤ len ∧ len ≤ 240 ∧ t.link n = { s.link n with queues := modifyAt (fun q => q ++ [⟨kind, 0, len, false, m⟩]) 0 (s.link n).queues }
    let others (t : State) : Prop := ∀ k, k ≠ n → t.link k = s.link k
    let linkRegs : List Nat := [Reg.BINATHn_STATE n, Reg.PG_STATUS (linkPage n)]
    (st = 1 → ∃ t, exec (.binathLaneLock n) s = .next t ∧ t.linkState n = 2 ∧ t.get (Fld.BINATHn_STATE_LOCK n) = 15 ∧ queued t 3 (.ident (s.ownIdent n)) ∧ others t ∧
      s.regsOutside linkRegs t ∧ s.changesOnly [.regs, .free, .links] t) ∧
    (st = 1 → ∃ t, exec (.binathTrainTimeout n) s = .next t ∧ t.get (Fld.BINATHn_ERR_TRAIN_FAIL n) = Nat.min (2 ^ (Fld.BINATHn_ERR_TRAIN_FAIL n).width - 1) (s.get (Fld.BINATHn_ERR_TRAIN_FAIL n) + 1) ∧
      t.link n = { s.link n with trainAt := t.now } ∧ others t ∧ s.regsOutside [Reg.BINATHn_ERR n] t ∧ s.changesOnly [.regs, .clk, .links] t) ∧
    (st ≠ 1 → exec (.binathLaneLock n) s = .next s ∧ exec (.binathTrainTimeout n) s = .next s) ∧
    (∀ i : Ident, (st ≠ 2 → exec (.binathIdentRx n i) s = .next s) ∧
      (st = 2 → i.fabric < 65536 → i.pos < 256 →
        (i.fabric ≠ (s.ownIdent n).fabric → identMismatch (s.ownIdent n) i = some 1) ∧
        (i.fabric = (s.ownIdent n).fabric → s.linkRole n ≠ 3 → i.pos = (s.ownIdent n).pos → identMismatch (s.ownIdent n) i = some 2) ∧
        (∀ r, identMismatch (s.ownIdent n) i = some r → ∃ u, exec (.binathIdentRx n i) s = .next (u.post s.binathEvq 0x0E 0xD2 n r) ∧ u.linkState n = 4 ∧
          u.link n = { s.link n with ident := some i } ∧ others u ∧ s.regsOutside linkRegs u ∧ s.changesOnly [.regs, .links] u) ∧
        (identMismatch (s.ownIdent n) i = none → ∃ t, exec (.binathIdentRx n i) s = .next t ∧ (t.link n).ident = some i ∧
          (s.inFabric = true → s.linkRole n = 2 → t.linkState n = 3 ∨ t.linkState n = 5) ∧ (s.inFabric = false ∨ s.linkRole n ≠ 2 → t.linkState n = 3) ∧
          s.changesOnly [.regs, .free, .msix, .evq, .freeCells, .links, .fab] t))) ∧
    (∀ i ∈ ([(.binathLockLost n 0, 2), (.binathLockLost n 1, 2), (.binathLockLost n 2, 2), (.binathLockLost n 3, 2), (.binathFlitTimeout n, 3)] : List (Instr × Nat)), i.2 ≤ st → (i.2 = 3 → st ≠ 4) → st < 6 →
      ∃ t, exec i.1 s = .next t ∧ t.linkState n = 1 ∧ (t.link n).replay = [] ∧ (t.link n).queues = [[], [], [], []] ∧ (t.link n).txSeq = 0 ∧ (t.link n).rxSeq = 0 ∧ (t.link n).heard = false ∧
        t.get (Fld.BINATHn_STATE_DOWN_COUNT n) = (s.get (Fld.BINATHn_STATE_DOWN_COUNT n) + (if st = 3 then 1 else 0)) % 2 ^ (Fld.BINATHn_STATE_DOWN_COUNT n).width ∧
        s.changesOnly [.regs, .clk, .free, .msix, .evq, .freeCells, .legs, .twin, .links, .fab] t) ∧
    (st < 2 → (∀ lane, exec (.binathLockLost n lane) s = .next s) ∧ exec (.binathFlitTimeout n) s = .next s) ∧
    ((st = 3 ∧ s.linkRole n ≠ 3) ∨ st = 5 → ∃ t, exec (.topoSend n) s = .next t ∧ others t ∧
      queued t 6 (.topo { s.topoNow with refuse := decide (s.linkRole n = 2 ∧ st = 5), accept := decide (s.linkRole n = 2 ∧ st = 3) }) ∧ s.changesOnly [.free, .links] t) ∧
    (¬ ((st = 3 ∧ s.linkRole n ≠ 3) ∨ st = 5) → exec (.topoSend n) s = .next s) ∧
    (∀ p : Topo, (st ≠ 3 → st ≠ 5 → exec (.topoRx n p) s = .next s) ∧
      (st = 3 ∨ st = 5 → ∃ t, exec (.topoRx n p) s = .next t ∧ (t.link n).topo = p ∧ (t.link n).heard = true ∧ t.get (Fld.BINATHn_STATE_PEER_HEIGHT n) = p.height % 2 ^ (Fld.BINATHn_STATE_PEER_HEIGHT n).width ∧
        t.get (Fld.BINATHn_STATE_PEER_DEPTH n) = p.depth % 2 ^ (Fld.BINATHn_STATE_PEER_DEPTH n).width ∧
        (∀ k, p.claim = some k → s.linkRole n ≠ 4 ∨ k ≤ s.tick → t.fab.grants = s.fab.grants) ∧
        (∀ l k ok, s.fab.claim = some (l, k, ok) → p.claim = none → (l ≠ n → t.fab.claim = some (l, k, ok)) ∧ (l = n → p.accept = true → s.tick < k → t.fab.claim = some (l, k, true)) ∧
          (l = n → p.accept = false → p.refuse = true → t.fab.claim = none)) ∧
        s.changesOnly [.regs, .free, .msix, .evq, .freeCells, .links, .fab] t)) ∧
    (s.fab.claim = none → s.unrooted = true → s.claimLink = some n → ∃ t, exec .claimRetry s = .next t ∧ t.fab = { s.fab with claim := some (n, t.tick + 2, false), claimAt := t.now } ∧ s.linkRole n = 4 ∧ st = 3 ∧
      queued t 6 (.topo { s.topoNow with claim := some (t.tick + 2) }) ∧ others t ∧ s.changesOnly [.clk, .free, .links, .fab] t) ∧
    (s.fab.claim ≠ none ∨ s.unrooted = false → exec .claimRetry s = .next s) ∧
    (∀ b, s.fab.backSince = some b → s.fab.uplink = some n → s.fab.revert = none → st = 3 → s.linkRole n = 4 → ∃ t, exec .fabricRevertHoldExpire s = .next t ∧
      t.fab = { s.fab with revert := some (t.tick + 2) } ∧ queued t 6 (.topo { s.topoNow with revert := some (t.tick + 2) }) ∧ others t ∧ s.changesOnly [.clk, .free, .links, .fab] t) ∧
    (s.fab.backSince = none ∨ s.fab.uplink = none ∨ s.fab.revert ≠ none → exec .fabricRevertHoldExpire s = .next s)

/-- FLIT_TX on a link past CHECK of a device that sends: a replay resends its next flit unchanged; otherwise, with fewer than 256 flits unacknowledged, a NAK, or the first flit of the channel whose turn it is (VC0, then VC1, then VC2 and VC3 by weight, each with a credit),
goes out with the next SEQ and stays for replay, at a cost of one credit; otherwise IDLE. FLIT_RX counts corrected blocks; a bad flit, or one that is ahead, asks for one NAK and changes nothing else of the receiver; the expected one advances the SEQ and owes
a credit; one from the past is dropped. NAK_RX and REPLAY_TIMEOUT start a replay, and the eighth in a row without progress takes the link down. TIME_EXCHANGE_START queues TIME_REQ at the initiating end and counts an open exchange as missed; TIME_REQ_RX queues the answer with its arrival stamp; TIME_RESP_RX
shows the delay of R327, and on a TWIN link the offset.
Choices of the model where the rules leave room: log entries 94, 102, 103. -/
def Obligations.FlitsArriveInOrder : Prop :=
  ∀ (n : Nat) (s : State), n < 4 →
    let st := s.linkState n
    let x := s.link n
    let others (t : State) : Prop := ∀ k, k ≠ n → t.link k = s.link k
    let live : Prop := 2 ≤ st ∧ st ≠ 4
    let sends : Prop := live ∧ s.fatalAt = none ∧ s.pins.extest = false
    let flit (t : State) : Option TxFlit := (t.link n).last.map SentFlit.flit
    (¬ sends → exec (.binathFlitTx n) s = .next s) ∧
    (sends → ∃ t, exec (.binathFlitTx n) s = .next t ∧ others t ∧ s.changesOnly [.regs, .links] t ∧ s.regsOutside [Reg.BINATHn_FLITS_LO n, Reg.BINATHn_FLITS_LO n + 4] t ∧
      (∃ y, (t.link n).last = some y ∧ y.ack = (x.rxSeq + 4095) % 4096) ∧ (t.link n).rxSeq = x.rxSeq ∧
      (∀ i f, x.resend = some i → x.replay[i]? = some f → flit t = some f ∧ (t.link n).replay = x.replay ∧ (t.link n).txSeq = x.txSeq ∧ (t.link n).queues = x.queues ∧
        (t.link n).resend = if i + 1 < x.replay.length then some (i + 1) else none) ∧
      (x.resend = none → 256 ≤ x.replay.length → flit t = some idleFlit ∧ (t.link n).replay = x.replay ∧ (t.link n).txSeq = x.txSeq ∧ (t.link n).queues = x.queues) ∧
      (x.resend = none → x.replay.length < 256 → x.nak ≠ none → ∃ f, flit t = some f ∧ f.kind = 2 ∧ f.vc = 0 ∧ f.seq = x.txSeq ∧ (t.link n).nak = none ∧ (t.link n).txSeq = (x.txSeq + 1) % 4096 ∧
        (t.link n).replay = x.replay ++ [f] ∧ (t.link n).queues = x.queues ∧ (t.link n).credits = x.credits) ∧
      (x.resend = none → x.replay.length < 256 → x.nak = none → ∀ q0 q1 q2 q3 : List TxMsg, ∀ c0 c1 c2 c3 : Nat, x.queues = [q0, q1, q2, q3] → x.credits = [c0, c1, c2, c3] →
        let may (q : List TxMsg) (c : Nat) : Prop := q ≠ [] ∧ 0 < c
        let sent (vc : Nat) (q : List TxMsg) : Prop := ∃ m rest f, q = m :: rest ∧ flit t = some f ∧ f.kind = m.kind ∧ f.vc = vc ∧ f.seq = x.txSeq ∧ f.len = Nat.min 240 m.left ∧ f.som = !m.started ∧
          f.eom = decide (m.left ≤ 240) ∧ (t.link n).txSeq = (x.txSeq + 1) % 4096 ∧ (t.link n).replay = x.replay ++ [f] ∧
          (t.link n).queues = modifyAt (fun _ => if m.left ≤ 240 then rest else { m with left := m.left - 240, started := true } :: rest) vc x.queues ∧
          (t.link n).credits = modifyAt (fun c => c - 1) vc x.credits ∧
          (m.kind = 1 → t.rd64 (Reg.BINATHn_FLITS_LO n) = (s.rd64 (Reg.BINATHn_FLITS_LO n) + 1) % 2 ^ 64)
        (may q0 c0 → sent 0 q0) ∧ (¬ may q0 c0 → may q1 c1 → sent 1 q1) ∧ (¬ may q0 c0 → ¬ may q1 c1 → may q2 c2 → ¬ may q3 c3 → sent 2 q2) ∧
        (¬ may q0 c0 → ¬ may q1 c1 → ¬ may q2 c2 → may q3 c3 → sent 3 q3) ∧ (¬ may q0 c0 → ¬ may q1 c1 → may q2 c2 → may q3 c3 → sent 2 q2 ∨ sent 3 q3) ∧
        (¬ may q0 c0 → ¬ may q1 c1 → ¬ may q2 c2 → ¬ may q3 c3 → flit t = some idleFlit ∧ (t.link n).queues = x.queues ∧ (t.link n).txSeq = x.txSeq ∧ (t.link n).replay = x.replay))) ∧
    (∀ f : FlitRx, (¬ live → exec (.binathFlitRx n f) s = .next s) ∧
      (live →
        let kind := flitField f.bytes 0 0 4
        let seq := flitField f.bytes 1 0 12
        let corr (t : State) : Prop := t.get (Fld.BINATHn_ERR_CORR n) = (s.get (Fld.BINATHn_ERR_CORR n) + f.corrected) % 2 ^ (Fld.BINATHn_ERR_CORR n).width
        let nak (y : Link) : Prop := y = { x with lastRx := s.now, discarding := true, nak := if x.discarding then x.nak else some x.rxSeq }
        (flitBad f = true → ∃ t, exec (.binathFlitRx n f) s = .next t ∧ nak (t.link n) ∧ others t ∧ corr t ∧
          t.get (Fld.BINATHn_ERR_BAD n) = Nat.min (2 ^ (Fld.BINATHn_ERR_BAD n).width - 1) (s.get (Fld.BINATHn_ERR_BAD n) + 1) ∧ s.changesOnly [.regs, .links] t) ∧
        (flitBad f = false → kind = 0 → ∃ t, exec (.binathFlitRx n f) s = .next t ∧ (t.link n).rxSeq = x.rxSeq ∧ (t.link n).discarding = x.discarding ∧ (t.link n).queues = x.queues ∧
          (t.link n).owed = x.owed ∧ others t ∧ corr t ∧ s.changesOnly [.regs, .links] t) ∧
        (flitBad f = false → kind ≠ 0 → seq ≠ x.rxSeq → ∃ t, exec (.binathFlitRx n f) s = .next t ∧ others t ∧ corr t ∧ s.changesOnly [.regs, .links] t ∧
          (if (seq + 4096 - x.rxSeq) % 4096 < 2048 then nak (t.link n) else t.link n = { x with lastRx := s.now })) ∧
        (flitBad f = false → kind ≠ 0 → seq = x.rxSeq → (f.msg = none ∨ kind ≠ 1) → ∃ t, exec (.binathFlitRx n f) s = .next t ∧ (t.link n).rxSeq = (x.rxSeq + 1) % 4096 ∧ (t.link n).discarding = false ∧
          (t.link n).owed = (if kind = 2 then x.owed else addAt x.owed (flitField f.bytes 0 4 2) 1) ∧ others t ∧ corr t ∧ s.changesOnly [.regs, .links] t) ∧
        (∀ m, flitBad f = false → kind = 1 → seq = x.rxSeq → st = 3 → f.msg = some m → flitField f.bytes 0 7 1 = 1 → ∃ u, exec (.binathFlitRx n f) s = .next (u.linkDeliver n m) ∧
          (u.link n).rxSeq = (x.rxSeq + 1) % 4096 ∧ (u.link n).discarding = false ∧ others u ∧ corr u ∧ s.changesOnly [.regs, .links] u))) ∧
    (live → ∀ (seq i : Nat), (x.acked ((seq + 4095) % 4096) s.now).replay.findIdx? (fun f => decide (f.seq = seq)) = some i → (x.acked ((seq + 4095) % 4096) s.now).stalls < 7 →
      ∃ t, exec (.binathNakRx n seq) s = .next t ∧ (∃ j, (t.link n).resend = some j ∧ j ≤ i) ∧ (t.link n).replay = (x.acked ((seq + 4095) % 4096) s.now).replay ∧
        t.get (Fld.BINATHn_REPLAY_NAK n) = (s.get (Fld.BINATHn_REPLAY_NAK n) + 1) % 2 ^ (Fld.BINATHn_REPLAY_NAK n).width ∧ others t ∧ s.regsOutside [Reg.BINATHn_REPLAY n] t ∧ s.changesOnly [.regs, .links] t) ∧
    (live → ∀ (seq : Nat), (∀ f ∈ x.replay, f.seq ≠ seq) → (∀ f ∈ x.replay, f.seq ≠ (seq + 4095) % 4096) → exec (.binathNakRx n seq) s = .next (s.setLink n x)) ∧
    (live → x.replay ≠ [] → x.stalls < 7 → ∃ t, exec (.binathReplayTimeout n) s = .next t ∧ (t.link n).resend = some 0 ∧ (t.link n).replay = x.replay ∧ (t.link n).stalls = x.stalls + 1 ∧ others t ∧
      t.get (Fld.BINATHn_REPLAY_TIMEOUT n) = (s.get (Fld.BINATHn_REPLAY_TIMEOUT n) + 1) % 2 ^ (Fld.BINATHn_REPLAY_TIMEOUT n).width ∧ s.regsOutside [Reg.BINATHn_REPLAY n] t ∧ s.changesOnly [.regs, .clk, .links] t) ∧
    (live → x.replay ≠ [] → x.stalls = 7 → st < 6 → ∃ t, exec (.binathReplayTimeout n) s = .next t ∧ t.linkState n = 1 ∧ (t.link n).replay = []) ∧
    (¬ live ∨ x.replay = [] → exec (.binathReplayTimeout n) s = .next s) ∧
    (let up : Prop := st = 3 ∨ st = 5
     let queued (t : State) (y : Link) (kind : Nat) (m : LinkMsg) : Prop := ∃ len, 1 ≤ len ∧ len ≤ 240 ∧ t.link n = { y with queues := modifyAt (fun q => q ++ [⟨kind, 0, len, false, m⟩]) 0 x.queues }
     (up → s.timeInitiator n = true → ∃ t, exec (.timeExchangeStart n) s = .next t ∧ queued t { x with missed := if x.t1.isSome then x.missed + 1 else x.missed, t1 := none } 4 .timeReq ∧ others t ∧
       s.changesOnly [.regs, .clk, .bel, .free, .msix, .links] t) ∧
     (¬ (up ∧ s.timeInitiator n = true) → exec (.timeExchangeStart n) s = .next s) ∧
     (up → ∃ t, exec (.timeReqRx n) s = .next t ∧ queued t x 5 (.timeResp (s.linkStamp n true) 0) ∧ others t ∧ s.changesOnly [.free, .links] t) ∧ (¬ up → exec (.timeReqRx n) s = .next s) ∧
     (∀ (t2 t3 : Int) (ok : Bool), (x.t1 = none → exec (.timeRespRx n t2 t3 ok) s = .next s) ∧
       (∀ t1 : Int, x.t1 = some t1 →
         let d := ((s.linkStamp n true - t1) - (t3 - t2)) / 2
         ∃ t, exec (.timeRespRx n t2 t3 ok) s = .next t ∧ t.get (Fld.BINATHn_DELAY_DELAY n) = (clampI 0 16777215 d).toNat ∧
           t.link n = { x with t1 := none, missed := 0, badParent := if ok then 0 else x.badParent + 1 } ∧ others t ∧
           (s.linkRole n ≠ 3 → s.fab.uplink ≠ some n → s.regsOutside [Reg.BINATHn_DELAY n] t ∧ s.changesOnly [.regs, .links] t) ∧
           s.changesOnly [.regs, .clk, .bel, .free, .msix, .evq, .freeCells, .windows, .links] t)))

/-- HEARTBEAT_SEND of a twin that may send turns TWIN_HB_OUT, queues the heartbeat on LINK3 and one in S1 of every port whose link is up. HEARTBEAT_RX counts a heartbeat on its path, keeps its content, and on LINK3 moves PAIRING, SILENT and SOLE as the table of R341 says.
HB_INTERVAL_END takes a path down at its third miss in a row and up at its third heartbeat in a row; with all paths down the partner is lost, with only LINK3 down a JUNIOR or RESYNC goes SILENT. PAIR_WAIT_EXPIRE
leads from PAIRING to SOLE; STALL from JUNIOR to SILENT, or waits when every path is failing; RESYNC_COPY_TIMEOUT fails a copy; RESYNC_RETRY leaves SILENT for a SENIOR or SOLE partner on LINK3; CATCHUP_DONE ends in
JUNIOR with FULL counted; MATCH_STORE_EXPIRE drops the oldest stored packet but not in RESYNC. A revert is started by TWIN_CMD_REVERT or by the expired hold only while its conditions hold, with S = the logical tick + 2, and
TWIN_CMD_RESYNC takes a JUNIOR through SILENT. In a state of no such row the command changes nothing, or is rejected with E_STATE. A heartbeat of no content leaves the partner as it was.
Choices of the model where the rules leave room: log entries 5, 105 to 107, 109. -/
def Obligations.TwinStatesFollowTheTable : Prop :=
  let parts : List Part := [.regs, .clk, .free, .msix, .evq, .freeCells, .legs, .twin]
  let peerUp (s : State) : Prop := s.twin.link.up = true ∧ (s.partnerState = 2 ∨ s.partnerState = 6)
  (∀ (s : State),
    let st := s.twinState
    (st ≠ 0 → s.muted = false → ∃ t, exec .heartbeatSend s = .next t ∧ t.twin = { s.twin with pinOut := !s.twin.pinOut, sentHb := s.twin.sentHb + 1 } ∧
      (s.linkState 3 = 3 → t.link 3 = { s.link 3 with queues := modifyAt (fun q => q ++ [⟨1, 2, 32, false, .heartbeat ⟨st, s.strapSenior, s.portBits, s.rd64 Reg.TWIN_EXEC_LO, s.lag⟩⟩]) 0 (s.link 3).queues }) ∧
      (∀ n, n < 4 → (s.linkUp n = true → s.portTakes n = true → t.port n = { s.port n with q := (s.port n).q.set (fun _ => []) 1 ((s.port n).q.get (fun _ => []) 1 ++ [t.ctrlFrame (n / 2) 64]) }) ∧
        (s.linkUp n = false → t.port n = s.port n)) ∧
      (∀ n, n ≠ 3 → t.link n = s.link n) ∧ ((∀ n, n < 4 → s.linkUp n = true → s.portTakes n = true) → t.regs = s.regs) ∧ s.changesOnly [.regs, .clk, .ports, .twin, .links] t) ∧
    (st = 0 ∨ s.muted = true → exec .heartbeatSend s = .next s) ∧
    (∀ h : Heartbeat, h.state < 8 → st ≠ 0 →
      (∀ p ∈ [0, 2], ∃ t, exec (.heartbeatRx p (some h)) s = .next t ∧ t.twin.partner = some h ∧ t.partnerState = h.state ∧ t.twin.heardAt = s.now ∧
        (p = 0 → t.twin.link = { s.twin.link with seen := s.twin.link.seen + 1 } ∧ t.twin.lan = s.twin.lan) ∧ (p = 2 → t.twin.lan = { s.twin.lan with seen := s.twin.lan.seen + 1 } ∧ t.twin.link = s.twin.link) ∧
        t.twinState = (if p ≠ 0 ∨ s.twin.link.up = false then st
          else if st = 1 then (if h.state = 2 ∨ h.state = 6 then 5 else if h.state = 1 then (if s.strapSenior then 2 else 5) else 1)
          else if st = 4 then (if (h.state = 2 ∨ h.state = 6) ∧ s.twin.failedSync = false then 5 else 4)
          else if st = 6 then (if h.state = 5 then 2 else if h.state = 6 then (if s.strapSenior then 5 else 2) else 6)
          else st) ∧ s.changesOnly [.regs, .free, .msix, .evq, .freeCells, .legs, .twin] t) ∧
      (∃ t, exec (.heartbeatRx 1 none) s = .next t ∧ t.twin.pins = { s.twin.pins with seen := s.twin.pins.seen + 1 } ∧ t.twin.partner = s.twin.partner ∧ t.twinState = st)) ∧
    (∀ p c, st = 0 ∨ 3 ≤ p → exec (.heartbeatRx p c) s = .next s) ∧
    (st ≠ 0 → ∃ t, exec .hbIntervalEnd s = .next t ∧ t.twin.link = s.twin.link.interval ∧ t.twin.pins = s.twin.pins.interval ∧ t.twin.lan = s.twin.lan.interval ∧ t.twin.stallDue = false ∧
      (let l := s.twin.link.interval.up
       let any := l || s.twin.pins.interval.up || s.twin.lan.interval.up
       t.twinState = (if any = false then (if st = 2 ∨ st = 3 ∨ st = 4 then 6 else if st = 5 then (if s.twin.copied then 6 else 1) else st)
         else if l = false then (if st = 3 ∨ st = 5 then 4 else st)
         else if s.twin.stallDue then 4 else t.twinState) ∧
       (any = false → st = 5 → s.twin.copied = false → t.gate = {} ∧ t.legs = [] ∧ t.confs = [] ∧ t.vstrs = [] ∧ t.ostrs = [] ∧ t.kernels = []))) ∧
    (∀ h : HbPath, (h.seen = 0 → 2 ≤ h.missed → h.interval.up = false) ∧ (h.seen = 0 → h.missed < 2 → h.interval.up = h.up) ∧ (0 < h.seen → 2 ≤ h.good → h.interval.up = true) ∧
      (0 < h.seen → h.good < 2 → h.interval.up = h.up) ∧ h.interval.seen = 0 ∧ (h.seen = 0 → h.interval.good = 0 ∧ h.interval.missed = h.missed + 1) ∧
      (0 < h.seen → h.interval.missed = 0 ∧ h.interval.good = h.good + 1)) ∧
    (st = 1 → ∃ t, exec .pairWaitExpire s = .next t ∧ t.twinState = 6 ∧ s.changesOnly parts t) ∧ (st ≠ 1 → exec .pairWaitExpire s = .next s) ∧
    (st = 3 → ∃ t, exec .stall s = .next t ∧ s.changesOnly parts t ∧
      (if s.twin.link.failing = true ∧ s.twin.pins.failing = true ∧ s.twin.lan.failing = true then t.twinState = 3 ∧ t.twin.stallDue = true else t.twinState = 4)) ∧
    (st ≠ 3 → exec .stall s = .next s) ∧
    (st = 5 → s.twin.copied = false → ∃ t, exec .resyncCopyTimeout s = .next t ∧ t.twinState = 4 ∧ t.twin.failedSync = true ∧ s.changesOnly parts t) ∧
    (st ≠ 5 ∨ s.twin.copied = true → exec .resyncCopyTimeout s = .next s) ∧
    (st = 4 → s.twin.failedSync = true → ∃ t, exec .resyncRetry s = .next t ∧ t.twin.failedSync = false ∧ (peerUp s → t.twinState = 5) ∧ (¬ peerUp s → t.twinState = 4) ∧ s.changesOnly parts t) ∧
    (st ≠ 4 ∨ s.twin.failedSync = false → exec .resyncRetry s = .next s) ∧
    (let done : Prop := st = 5 ∧ s.twin.copied = true ∧ s.ticksBehind = 0
     (done → ∃ t, exec .catchupDone s = .next t ∧ t.twinState = 3 ∧ t.get Fld.TWIN_RESYNCS_FULL = (s.get Fld.TWIN_RESYNCS_FULL + 1) % 2 ^ 16 ∧
       s.changesOnly [.regs, .free, .msix, .evq, .freeCells, .legs, .twin] t) ∧ (¬ done → exec .catchupDone s = .next s)) ∧
    (∀ p l, s.twin.store = p :: l → st ≠ 5 → ∃ t, exec .matchStoreExpire s = .next t ∧ t.twin = { s.twin with store := l } ∧ s.changesOnly [.clk, .twin] t) ∧
    (s.twin.store = [] ∨ st = 5 → exec .matchStoreExpire s = .next s)) ∧
  (∀ (s : State),
    let may : Prop := s.twinState = 2 ∧ s.strapSenior = false ∧ s.partnerState = 3 ∧ s.twin.bothLans = [] ∧ s.twin.swapAt = none ∧
      ∃ t, s.twin.partnerJunior = some t ∧ t + s.get Fld.TWIN_WAIT_REVERT_HOLD * 1000000000 ≤ s.now
    let chosen := { s with twin := { s.twin with swapAt := some (s.ltick + 2) } }
    (s.writeErr Reg.TWIN_CMD 1 = none → may → exec .twinCmdRevert s = .next chosen) ∧ (s.writeErr Reg.TWIN_CMD 1 = none → ¬ may → exec .twinCmdRevert s = .next (s.reject Reg.TWIN_CMD .state)) ∧
    (may → s.on Fld.TWIN_CFG_REVERT_AUTO = true → exec .twinRevertHoldExpire s = .next chosen) ∧
    (may → s.on Fld.TWIN_CFG_REVERT_AUTO = false → exec .twinRevertHoldExpire s = .next s) ∧
    (s.twin.partnerJunior = none ∨ s.twinState ≠ 2 ∨ s.strapSenior = true → exec .twinRevertHoldExpire s = .next s) ∧
    (s.writeErr Reg.TWIN_CMD 2 = none → s.twinState ≠ 3 → exec .twinCmdResync s = .next (s.reject Reg.TWIN_CMD .state)) ∧
    (s.writeErr Reg.TWIN_CMD 2 = none → s.twinState = 3 → s.twin.failedSync = false → ∃ t, exec .twinCmdResync s = .next t ∧ (peerUp s → t.twinState = 5) ∧ (¬ peerUp s → t.twinState = 4) ∧
      s.changesOnly [.regs, .free, .msix, .evq, .freeCells, .legs, .twin] t))

/-- JUNIOR_TICK_EXECUTE: the next logical tick is executed only by a JUNIOR, or a RESYNC whose copy is complete, and only when its tick mark and everything its block names are present; TWIN_EXEC then names it, and its block and every earlier one
are gone. DIGEST_COMPARE of a JUNIOR, for a tick not compared before, counts the groups whose digest differs from the tick mark's; legs whose own digest differs from the fetched one in such a group are silenced, counted in MISMATCH.LEGS and listed for resynchronisation; more than WIDE of them within 100 ticks send the device to SILENT; the hundredth match
in a row of a copied leg ends its resynchronisation. RESYNC_COPY_DONE puts the snapshot's tables, kernels and PRP sequence numbers in place of the device's own and sets TWIN_EXEC to F − 1. In another state each changes nothing.
Choices of the model where the rules leave room: log entries 104, 108, 110 to 112. -/
def Obligations.JuniorFollowsTheLedger : Prop :=
  (∀ (packets : List RxPkt) (frames : List (Nat × CFrame)) (copies : List LegCopy) (s : State),
    let t := s.rd64 Reg.TWIN_EXEC_LO + 1
    let may : Prop := s.twinState = 3 ∨ (s.twinState = 5 ∧ s.twin.copied = true)
    let present : Prop := (∃ a b c d e, LedgerEntry.tick a b c d e ∈ s.blockOf t) ∧ ∀ e ∈ s.blockOf t, s.entryHere packets frames e = true
    (¬ (may ∧ present) → exec (.juniorTickExecute packets frames copies) s = .next s) ∧
    (may → present → ∃ u, exec (.juniorTickExecute packets frames copies) s = .next u ∧ u.rd64 Reg.TWIN_EXEC_LO = t % 2 ^ 64 ∧ u.twin.common = t ∧ ∀ k, k ≤ t → u.blockOf k = [])) ∧
  (∀ (t : Nat) (fetched : List (Nat × Nat)) (s : State),
    let bad := digestDiff (s.twin.digestsOf t false) (s.twin.digests.get (fun _ => []) t)
    let differ := digestDiff (s.twin.digestsOf t true) fetched
    let fresh := differ.filter (fun l => bad.contains (s.groupOf l) && decide (s.effRec 1 l ≠ none))
    let may : Prop := s.twinState = 3 ∧ s.twin.compared ≤ t
    let recent := s.twin.diverged.filter (fun p => decide (t < p.1 + 100))
    (¬ may → exec (.digestCompare t fetched) s = .next s) ∧
    (may → s.twin.syncs = [] → ∃ u, exec (.digestCompare t fetched) s = .next u ∧
      u.get Fld.TWIN_MISMATCH_GROUPS = (s.get Fld.TWIN_MISMATCH_GROUPS + bad.length) % 2 ^ 16 ∧ u.get Fld.TWIN_MISMATCH_LEGS = (s.get Fld.TWIN_MISMATCH_LEGS + fresh.eraseDups.length) % 2 ^ 16 ∧
      (s.get Fld.TWIN_CFG_WIDE < recent.length + fresh.eraseDups.length → u.twinState = 4) ∧
      (recent.length + fresh.eraseDups.length ≤ s.get Fld.TWIN_CFG_WIDE → u.twinState = 3 ∧ (∀ l, (u.leg l).silenced = ((s.leg l).silenced || fresh.contains l)) ∧
        (∀ l, l ∈ u.twin.syncs.map LegSync.leg ↔ l ∈ fresh) ∧ (∀ k ≤ t, u.twin.digests.get (fun _ => []) k = []) ∧ u.twin.compared = t + 1) ∧
      s.changesOnly [.regs, .free, .msix, .evq, .freeCells, .legs, .twin, .links] u) ∧
    (∀ y : LegSync, may → s.twin.syncs = [y] → y.copied = true → fresh = [] → t ≤ y.f + s.get Fld.TWIN_WAIT2_RECHECK → recent.length ≤ s.get Fld.TWIN_CFG_WIDE →
      ∃ u, exec (.digestCompare t fetched) s = .next u ∧ u.twinState = 3 ∧
        (if differ.contains y.leg = false then
          (if y.matched + 1 < 100 then u.twin.syncs = [{ y with matched := y.matched + 1 }]
           else u.twin.syncs = [] ∧ (u.leg y.leg).silenced = false ∧ u.get Fld.TWIN_RESYNCS_LEG = (s.get Fld.TWIN_RESYNCS_LEG + 1) % 2 ^ 16)
         else u.twin.syncs = [{ y with matched := 0 }]))) ∧
  (∀ (c : Snapshot) (s : State),
    let may : Prop := s.twinState = 5 ∧ s.twin.copied = false
    (¬ may → exec (.resyncCopyDone c) s = .next s) ∧
    (may → ∃ u, exec (.resyncCopyDone c) s = .next u ∧ u.gate = c.gate ∧ u.keys = c.keys ∧ u.legs = c.legs ∧ u.confs = c.confs ∧ u.taps = c.taps ∧ u.vstrs = c.vstrs ∧ u.ostrs = c.ostrs ∧ u.rxWin = c.rxWin ∧
      u.ecomps = c.ecomps ∧ u.decs = c.decs ∧ u.layouts = c.layouts ∧ u.audio = c.audio ∧ u.legAudio = c.legAudio ∧ u.confAudio = c.confAudio ∧ u.kernels = c.kernels ∧
      (∀ n, n < 2 → (u.plane n).txSeq = c.planeSeq.getD n 0) ∧
      u.twin = { s.twin with copied := true, common := c.f - 1 } ∧ u.rd64 Reg.TWIN_EXEC_LO = (c.f - 1) % 2 ^ 64 ∧ u.get Fld.TWIN_COPY_PHASE = 2 ∧
      s.changesOnly [.regs, .gate, .msix, .evq, .queues, .freeCells, .keys, .pkts, .nextPkt, .legs, .confs, .taps, .planes, .vstrs, .ostrs, .ports, .rxWin, .ecomps, .decs, .layouts, .twin, .audio, .legAudio,
        .confAudio, .kernels, .reeve] u))

/-- DRAM_READ of a line whose two codewords can both be corrected returns the line as it was written; one with a codeword beyond correction, or stored poison, returns poison and counts in DDRCn_UE, and what the line was read for is lost; memory and stored poison stay as they are.
DRAM_WRITE of a whole line replaces it and clears stored poison; a part is merged into a correctable line, makes an uncorrectable one stored poison, and is dropped on stored poison; no other byte changes. A transaction of a fenced identity is aborted and one outside
the range reaches no channel: neither touches memory. SCRUB_READ of a channel in READY turns an uncorrectable line into stored poison, moves on to the next line of the channel and counts a pass at the last. A codeword can be corrected with at most 4 symbols in error, or
at most 2 outside the marked device.
Choices of the model where the rules leave room: log entries 6, 113, 116. -/
def Obligations.DramKeepsWhatIsWritten : Prop :=
  let fixable (s : State) (a : Nat) (errs : List (Nat × Nat × Byte)) : Prop := ∀ c, c < 2 →
    let l := (errs.filter (fun e => decide (e.1 = c) && decide (e.2.1 < 40) && decide (e.2.2 ≠ 0))).map (fun e => if e.2.1 < 32 then e.2.1 / 4 else 8 + (e.2.1 - 32) / 4)
    match s.mark (dramChannel a) (dramPlace s.geom (dramLine a)).2.2.1 (dramSub a) with
    | none => l.length ≤ 4
    | some d => (l.filter (fun x => decide (x ≠ d))).length ≤ 2
  let inRange (s : State) (a : Nat) : Prop := a < (if s.geom = 0 then 137438953472 else 274877906944)
  (∀ (a port ident : Nat) (errs : List (Nat × Nat × Byte)) (use : DramUse) (s : State),
    let n := dramChannel a
    let report : List Part := [.regs, .clk, .msix, .evq, .freeCells, .cross, .faultLog, .ddr, .weir, .dramRead, .fatalAt, .pwr, .uart]
    let kept (t : State) : Prop := t.legs = s.legs ∧ t.vstrs = s.vstrs ∧ t.pkts = s.pkts ∧ t.queues = s.queues ∧ t.links = s.links ∧ t.audio = s.audio
    let lost (t : State) : Prop := match use with
      | .other => kept t
      | .frame l seq => t.leg l = { s.leg l with jb := { (s.leg l).jb with frames := (s.leg l).jb.frames.filter (fun f => decide (f.seq ≠ seq)) } } ∧ ∀ k, k ≠ l → t.leg k = s.leg k
      | .received v seq => t.vstr v = { s.vstr v with pics := (s.vstr v).pics.map (dropReceived seq) } ∧ ∀ k, k ≠ v → t.vstr k = s.vstr k
      | .waiting id => t.pkt id = none ∧ ∀ k, k ≠ id → t.pkt k = s.pkt k
      | .player k => t.player k = (match entriesAfter (s.playerEntries k) (s.player k).cursor with | [] => s.player k | x :: _ => { s.player k with cursor := some x.place })
      | .message k vc => t.link k = { s.link k with queues := modifyAt (fun q => q.tail) vc (s.link k).queues } ∧ ∀ j, j ≠ k → t.link j = s.link j
    let epanis : Prop := port = 12 ∧ ident = 0
    (s.fenced port ident = true → ∃ t, exec (.dramRead a port ident errs use) s = .next t ∧ t.dramRead = some (false, []) ∧ s.changesOnly [.weir, .dramRead] t) ∧
    (s.fenced port ident = false → ¬ inRange s a → ∃ t, exec (.dramRead a port ident errs use) s = .next t ∧ t.dramRead = some (false, []) ∧ t.dram = s.dram ∧ t.poisoned = s.poisoned ∧
      t.get (Fld.DDRCn_UE_UE n) = Nat.min 65535 (s.get (Fld.DDRCn_UE_UE n) + 1)) ∧
    (s.fenced port ident = false → inRange s a →
      ∃ t, exec (.dramRead a port ident errs use) s = .next t ∧ s.changesOnly (report ++ [.queues, .pkts, .legs, .vstrs, .links, .audio]) t ∧
        (a / 64 ∉ s.poisoned → fixable s a errs → kept t) ∧ (a / 64 ∈ s.poisoned ∨ ¬ fixable s a errs → (epanis → kept t) ∧ (¬ epanis → lost t)) ∧
        (a / 64 ∉ s.poisoned → fixable s a errs → t.dramRead = some (true, s.dram.readList (a / 64 * 64) 64) ∧ t.get (Fld.DDRCn_UE_UE n) = s.get (Fld.DDRCn_UE_UE n)) ∧
        (a / 64 ∉ s.poisoned → ¬ fixable s a errs → t.dramRead = some (false, []) ∧ t.get (Fld.DDRCn_UE_UE n) = Nat.min 65535 (s.get (Fld.DDRCn_UE_UE n) + 1)) ∧
        (a / 64 ∈ s.poisoned → t.dramRead = some (false, []) ∧ t.get (Fld.DDRCn_UE_STORED n) = Nat.min 65535 (s.get (Fld.DDRCn_UE_STORED n) + 1)))) ∧
  (∀ (a port ident : Nat) (data : List Byte) (errs : List (Nat × Nat × Byte)) (s : State), a % 64 + data.length ≤ 64 →
    let whole : Prop := data.length = 64
    let merged (t : State) : Prop := ∀ b, t.dram.read b = if a ≤ b then (data[b - a]?).getD (s.dram.read b) else s.dram.read b
    let poison (t : State) (p : Prop) : Prop := (a / 64 ∈ t.poisoned ↔ p) ∧ ∀ l, l ≠ a / 64 → (l ∈ t.poisoned ↔ l ∈ s.poisoned)
    (s.fenced port ident = true → ∃ t, exec (.dramWrite a port ident data errs) s = .next t ∧ s.changesOnly [.weir] t) ∧
    (s.fenced port ident = false → ¬ inRange s a → ∃ t, exec (.dramWrite a port ident data errs) s = .next t ∧ t.dram = s.dram ∧ t.poisoned = s.poisoned) ∧
    (s.fenced port ident = false → inRange s a →
      ∃ t, exec (.dramWrite a port ident data errs) s = .next t ∧ s.changesOnly [.regs, .clk, .msix, .evq, .freeCells, .cross, .dram, .ddr, .weir, .poisoned, .pwr] t ∧
        (whole → merged t ∧ poison t False) ∧
        (¬ whole → a / 64 ∉ s.poisoned → fixable s a errs → merged t ∧ t.poisoned = s.poisoned) ∧
        (¬ whole → a / 64 ∉ s.poisoned → ¬ fixable s a errs → t.dram = s.dram ∧ poison t True) ∧
        (¬ whole → a / 64 ∈ s.poisoned → t.dram = s.dram ∧ t.poisoned = s.poisoned))) ∧
  (∀ (n : Nat) (errs : List (Nat × Nat × Byte)) (s : State), n < 8 →
    let k := (s.chan n).scrub
    let a := scrubAddr n k
    let lines := (if s.geom = 0 then 137438953472 else 274877906944) / 512
    let width := Fld.DDRCn_SCRUB_PASSES n
    (s.get (Fld.DDRCn_STATUS_STATE n) ≠ 2 ∨ s.quiescing (ddrPage n) = true → exec (.scrubRead n errs) s = .next s) ∧
    (s.get (Fld.DDRCn_STATUS_STATE n) = 2 → s.quiescing (ddrPage n) = false → k < lines → ∃ t, exec (.scrubRead n errs) s = .next t ∧ (t.chan n).scrub = (if k + 1 = lines then 0 else k + 1) ∧
      t.get (Fld.DDRCn_SCRUB_POS n) = (if k + 1 = lines then 0 else (k + 1) * 1048576 / lines) ∧
      t.get width = (if k + 1 = lines then (s.get width + 1) % 2 ^ 12 else s.get width) ∧
      (∀ l, l ∈ t.poisoned ↔ l ∈ s.poisoned ∨ (l = a / 64 ∧ dramChannel a = n ∧ ¬ fixable s a errs)) ∧
      s.changesOnly [.regs, .msix, .evq, .freeCells, .ddr, .poisoned] t))

/-- REFRESH_DUE of a rank in READY: with no traffic nothing is owed; with traffic one more is owed below the allowance of 4 (2 at rate 2x), and the count stays at it otherwise. REFRESH_RATE_POLL sets a rank's rate from MR4 and restarts its timer when the rate changes; ZQ_CAL_START
and ZQ_CAL_LATCH begin and end a calibration. SELF_REFRESH_ENTER takes every channel from READY to SELF_REFRESH with nothing owed and its island unlinked, and SELF_REFRESH_EXIT takes one back. WEIR_WINDOW reports each port's lines, restarts the counts and takes up the
configurations. WEIR_FENCE adds a fence once and counts it; FENCE_EMPTY marks it and hands an engine's task back to READY at the head of its level; a fault that fenced the engine is counted then, with the engine excluded and the attempt counted, while a page reset counts neither; a fence not empty in time is DEVICE_FATAL with cause 3. DRAM_LOG_POP returns and
removes the oldest log entry. A channel not in the state the command needs, or without the rank it names, is unchanged.
Choices of the model where the rules leave room: log entries 5, 114, 115. -/
def Obligations.DramRefreshWeirAndLog : Prop :=
  (∀ (n rank : Nat) (queued drift : Bool) (mr4 : Nat) (s : State), n < 8 →
    let ranks := if s.geom = 1 then 2 else 1
    let st := s.get (Fld.DDRCn_STATUS_STATE n)
    let owed := if rank = 0 then Fld.DDRCn_REFRESH_OWED0 n else Fld.DDRCn_REFRESH_OWED1 n
    let fast := s.on ⟨Reg.DDRCn_STATUS n, 8 + rank, 1⟩
    let allow := if fast then 2 else 4
    let step := if fast then 1950 else 3900
    let kept (t : State) : Prop := ∀ k, k ≠ n → t.chan k = s.chan k
    (st = 2 → rank < ranks → ∃ t, exec (.refreshDue n rank queued) s = .next t ∧ t.get owed = (if queued = false then 0 else if s.get owed + 1 < allow then s.get owed + 1 else s.get owed) ∧
      (let due := ((s.chan n).due[rank]?).getD 0
       t.chan n = { s.chan n with due := modifyAt (fun _ => Nat.max due t.now + step) rank (s.chan n).due }) ∧ kept t ∧ s.regsOutside [Reg.DDRCn_REFRESH n] t ∧ s.changesOnly [.regs, .clk, .ddr] t) ∧
    (st ≠ 2 ∨ ranks ≤ rank → exec (.refreshDue n rank queued) s = .next s ∧ exec (.zqCalStart n rank) s = .next s) ∧
    (s.quiescing (ddrPage n) = true → exec (.zqCalStart n rank) s = .next s) ∧
    (st = 2 → rank < ranks → s.quiescing (ddrPage n) = false → ∃ t, exec (.zqCalStart n rank) s = .next t ∧
      t.chan n = { s.chan n with zq := modifyAt (fun _ => true) rank (s.chan n).zq, zqAt := modifyAt (fun _ => t.now) rank (s.chan n).zqAt } ∧ kept t ∧ s.changesOnly [.clk, .ddr] t) ∧
    ((s.chan n).zq[rank]? = some true → ∃ t, exec (.zqCalLatch n rank) s = .next t ∧ t.chan n = { s.chan n with zq := modifyAt (fun _ => false) rank (s.chan n).zq } ∧ kept t ∧ s.changesOnly [.clk, .ddr] t) ∧
    ((s.chan n).zq[rank]? ≠ some true → exec (.zqCalLatch n rank) s = .next s) ∧
    (st ≠ 2 → st ≠ 3 → exec (.refreshRatePoll n [mr4] drift) s = .next s) ∧
    (st = 2 ∨ st = 3 → s.geom ≠ 1 → ∃ t, exec (.refreshRatePoll n [mr4] drift) s = .next t ∧ t.on ⟨Reg.DDRCn_STATUS n, 8, 1⟩ = decide (1 ≤ mr4) ∧ t.on ⟨Reg.DDRCn_STATUS n, 10, 1⟩ = decide (2 ≤ mr4) ∧
      (2 ≤ mr4 → t.hasEvent (ddrPage n) 3) ∧ (s.on ⟨Reg.DDRCn_STATUS n, 8, 1⟩ = decide (1 ≤ mr4) → t.ddr = s.ddr) ∧
      (s.on ⟨Reg.DDRCn_STATUS n, 8, 1⟩ = false → 1 ≤ mr4 → t.get (Fld.DDRCn_REFRESH_OWED0 n) = 0 ∧ t.get (Fld.DDRCn_REFRESH_CROSS n) = (s.get (Fld.DDRCn_REFRESH_CROSS n) + 1) % 2 ^ 16) ∧
      t.get (Fld.DDRCn_TRAIN_ADJ n) = (s.get (Fld.DDRCn_TRAIN_ADJ n) + b2n drift) % 2 ^ (Fld.DDRCn_TRAIN_ADJ n).width ∧ kept t ∧ s.changesOnly [.regs, .msix, .evq, .freeCells, .ddr] t) ∧
    (st ≠ 3 → exec (.selfRefreshExit n) s = .next s) ∧
    (st = 3 → ∃ t, exec (.selfRefreshExit n) s = .next t ∧ t.get (Fld.DDRCn_STATUS_STATE n) = 2 ∧ t.get (Fld.DDRCn_REFRESH_OWED0 n) = 0 ∧ t.get (Fld.DDRCn_REFRESH_OWED1 n) = 0 ∧
      (t.rd Reg.CLK_LINKED).getLsbD (12 + n) = true ∧ (t.chan n).zq = [false, false] ∧ kept t ∧ s.changesOnly [.regs, .cross, .ddr] t) ∧
    (∃ t, exec .selfRefreshEnter s = .next t ∧ s.changesOnly [.regs, .msix, .cross, .ddr] t ∧
      (st ≠ 2 → t.get (Fld.DDRCn_STATUS_STATE n) = st ∧ t.chan n = s.chan n ∧ t.rd (Reg.DDRCn_REFRESH n) = s.rd (Reg.DDRCn_REFRESH n)) ∧
      (st = 2 → t.get (Fld.DDRCn_STATUS_STATE n) = 3 ∧ t.get (Fld.DDRCn_REFRESH_OWED0 n) = 0 ∧ t.get (Fld.DDRCn_REFRESH_OWED1 n) = 0 ∧ (t.rd Reg.CLK_LINKED).getLsbD (12 + n) = false ∧
        t.chan n = { s.chan n with zq := [false, false] }))) ∧
  (∀ (s : State), ∃ t, exec .weirWindow s = .next t ∧ t.weir.lines = [] ∧ t.weir.fences = s.weir.fences ∧ t.weir.aborted = s.weir.aborted ∧
    (∀ p, p < 17 → t.weir.cfg.get (fun q => resetWord (Reg.WEIR_PORTp_CFG q)) p = s.rd (Reg.WEIR_PORTp_CFG p) ∧
      t.get (Fld.WEIR_PORTp_STAT_LINES p) = Nat.min 65535 (sumBy (fun ch => s.weir.lines.get (fun _ => 0) (ch * 32 + p)) (List.range 8))) ∧
    s.regsOutside ((List.range 17).map Reg.WEIR_PORTp_STAT) t ∧ s.changesOnly [.regs, .clk, .weir] t) ∧
  (∀ (port : Nat) (ident : Option Nat) (aborted : Nat) (s : State),
    let here (f : Fence) : Prop := f.port = port ∧ f.ident = ident
    (17 ≤ port → exec (.weirFence port ident) s = .next s) ∧
    (port < 17 → (∀ f ∈ s.weir.fences, ¬ here f) → ∃ t, exec (.weirFence port ident) s = .next t ∧ t.weir.fences = s.weir.fences ++ [⟨port, ident, false, 0, s.now⟩] ∧
      t.get Fld.WEIR_FENCES_COUNT = (s.get Fld.WEIR_FENCES_COUNT + 1) % 2 ^ 32 ∧ (∀ i, ident = some i → t.weir.aborted.get (fun _ => 0) (port * 256 + i) = 0) ∧
      s.regsOutside [Reg.WEIR_FENCES] t ∧ s.changesOnly [.regs, .weir] t) ∧
    (port < 17 → (∃ f ∈ s.weir.fences, here f) → ∃ t, exec (.weirFence port ident) s = .next t ∧ t.weir.fences = s.weir.fences ∧ s.changesOnly [.weir] t) ∧
    ((∀ f ∈ s.weir.fences, ¬ here f) → exec (.fenceEmpty port ident aborted) s = .next s) ∧
    ((∃ f ∈ s.weir.fences, here f) → (ident = none ∨ ∃ i, ident = some i ∧ identEngine port i = none) → ∃ t, exec (.fenceEmpty port ident aborted) s = .next t ∧
      (∀ f ∈ t.weir.fences, here f → f.empty = true) ∧ t.weir.fences.length = s.weir.fences.length ∧ s.changesOnly [.weir] t) ∧
    (∀ i e k y, (∃ f ∈ s.weir.fences, here f) → ident = some i → identEngine port i = some e → (s.eng e).fenced = some k → s.task k = some y → y.cancelledRun = false →
      let recent := (s.eng e).faults.filter (fun u => decide (s.now ≤ u + 3600000000000)) ++ [s.now]
      let back (counted : Bool) (t : State) (x : Task) : Prop := t.task k = some x ∧ x.state = .ready ∧ x.flow = y.flow ∧ x.fseq = y.fseq ∧ x.rank = -((s.reeve.headRank + 1 : Nat) : Int) ∧
        x.attempt = (if counted then y.attempt + 1 else y.attempt) ∧ x.excl = (if counted then y.excl ++ [e] else y.excl) ∧ (∀ j, j ≠ k → t.task j = s.task j) ∧
        t.get Fld.REEVE_RETRIES_COUNT = (s.get Fld.REEVE_RETRIES_COUNT + 1) % 2 ^ 32 ∧ (∀ f ∈ t.weir.fences, here f → f.empty = true)
      ((s.eng e).cause = none → ∃ t x, exec (.fenceEmpty port ident aborted) s = .next t ∧ back false t x ∧ t.eng e = { s.eng e with fenced := none, cause := none } ∧
        s.changesOnly [.regs, .weir, .reeve] t) ∧
      (∀ c, (s.eng e).cause = some c → y.attempt < 3 → ∃ t x, exec (.fenceEmpty port ident aborted) s = .next t ∧ back true t x ∧
        t.eng e = { s.eng e with fenced := none, cause := none, faults := recent, retired := (s.eng e).retired || decide (3 ≤ recent.length) } ∧ t.crier.faults = s.crier.faults + 1 ∧
        s.changesOnly [.regs, .msix, .evq, .freeCells, .faultLog, .weir, .crier, .reeve, .uart] t)) ∧
    ((∀ f ∈ s.weir.fences, here f → f.empty = true) → exec (.fenceTimeout port ident) s = .next s) ∧
    ((∃ f ∈ s.weir.fences, here f ∧ f.empty = false) → s.fatalAt = none → ∃ t, exec (.fenceTimeout port ident) s = .next t ∧ t.fatalAt = some t.now ∧ t.get Fld.FAULT_FATAL_CAUSE = 3 ∧
      s.changesOnly [.regs, .clk, .msix, .faultLog, .fatalAt, .uart] t)) ∧
  (∀ (n : Nat) (s : State), n < 8 →
    (s.linked (Reg.DDRCn_LOG_POP n) = false ∨ s.inReset (Reg.DDRCn_LOG_POP n) = true → exec (.dramLogPop n) s = .next { s with readData := 0 }) ∧
    (s.linked (Reg.DDRCn_LOG_POP n) = true → s.inReset (Reg.DDRCn_LOG_POP n) = false →
      ((s.chan n).log.entries = [] → ∃ t, exec (.dramLogPop n) s = .next t ∧ t.readData = 0 ∧ t.chan n = s.chan n ∧ s.changesOnly [.readData, .ddr] t) ∧
      (∀ e l, (s.chan n).log.entries = e :: l → l.length < 2 ^ 24 → ∃ t, exec (.dramLogPop n) s = .next t ∧ bits t.readData 31 1 = 1 ∧ bits t.readData 30 1 = b2n (s.chan n).log.lostFlag ∧
        bits t.readData 0 24 = l.length ∧ (t.chan n).log.entries = l ∧ (t.chan n).log.lostFlag = false ∧ (∀ k, k ≠ n → t.chan k = s.chan k) ∧
        (∀ w, w < 16 → t.rd (Reg.DDRCn_LOGWw n w) = BitVec.ofNat 32 (e / 2 ^ (32 * w))) ∧ s.regsOutside ((List.range 16).map (Reg.DDRCn_LOGWw n)) t ∧ s.changesOnly [.regs, .readData, .ddr] t)))

/-- A key-store command copies and clears the staging window and takes KEYSTORE_RESULT.VALID to 0, or is rejected with E_BUSY while a result is pending. KEYSTORE_CMD_DONE, on a device that is no twin and has no alarm latched: ERASE of a COLD context and LOAD of a valid record into an empty one take effect, LOAD_WRAPPED
does so with what the wrapping slot unwraps and counts one invocation of it; any other is posted with its error and changes no context; with an alarm latched every command ends with E_STATE. The replay windows of a loaded context start afresh. CIPHER_SLOT_LOAD, LOAD_WRAPPED and ERASE fill and
empty a key slot, clear CIPHER_KEYIN and post CIPHER_RESULT, or are rejected. A tripped alarm source zeroises every context, slot, the session KEK and the DRBG, ends the running job, latches and halts active SRTP legs, also where it has tripped before; one of no monitor, and any while RESET_N holds the device, does nothing. SVN_ADVANCE raises the counter
only while both images allow it, and DRBG_RESEED has no effect after an alarm. What a key record or a wrapped key yields is a free function of its bytes.
Choices of the model where the rules leave room: log entries 117, 119, 120, 122. -/
def Obligations.KeysAreLoadedErasedAndZeroised : Prop :=
  (∀ (index wslot : Nat) (s : State),
    ∀ p ∈ ([(.keystoreLoad index, index % 65536 * 16 + 1), (.keystoreLoadWrapped index wslot, wslot % 256 * 2 ^ 24 + index % 65536 * 16 + 2), (.keystoreErase index, index % 65536 * 16 + 3)] : List (Instr × Nat)),
      let e := s.writeErr Reg.KEYSTORE_CMD (BitVec.ofNat 32 p.2)
      (∀ r, e = some r → r = .state ∨ r = .busy → exec p.1 s = .next (s.reject Reg.KEYSTORE_CMD r)) ∧
      (e ≠ some .state → e ≠ some .busy → s.on Fld.KEYSTORE_RESULT_VALID = false → exec p.1 s = .next (s.reject Reg.KEYSTORE_CMD .busy)) ∧
      (e ≠ some .state → e ≠ some .busy → s.on Fld.KEYSTORE_RESULT_VALID = true → ∃ t, exec p.1 s = .next t ∧ t.on Fld.KEYSTORE_RESULT_VALID = false ∧
        t.sec = { s.sec with keyCmd := some (p.2, windowBytes s.sec.stage 20), stage := [] } ∧ s.regsOutside [Reg.KEYSTORE_RESULT] t ∧ s.changesOnly [.regs, .sec] t)) ∧
  (∀ s : State, s.sec.keyCmd = none → exec .keystoreCmdDone s = .next s) ∧
  (∀ (c k : Nat) (stage : List Byte) (s : State), c < 65536 → k < 256 → s.twinState = 0 →
    let gen := bits (s.rd Reg.KEYSTORE_RESULT) 24 7 + 1
    let x := s.keyCtx c
    let ends (e : Option Err) (also : State → Prop) : Prop := ∃ t, exec .keystoreCmdDone s = .next t ∧ t.sec.keyCmd = none ∧
      t.posted Reg.KEYSTORE_RESULT gen (c * 256 + (e.map Err.code).getD 0) ∧ (e.isSome = true → t.keys = s.keys ∧ t.hasEvent keystorePage 0 ∧ bits (t.rd (Reg.PG_LAST_ERR keystorePage)) 0 8 = (e.map Err.code).getD 0 % 256) ∧
      also t ∧ s.changesOnly [.regs, .msix, .evq, .freeCells, .keys, .rxWin, .sec] t
    let others (t : State) : Prop := ∀ d, d ≠ c → (t.keyCtx d).keys = (s.keyCtx d).keys ∧ ((t.keyCtx d).state = 0 ↔ (s.keyCtx d).state = 0)
    let loaded (r : Nat) (t : State) : Prop := (t.keyCtx c).keys = Config.sessionKeys r ∧ (t.keyCtx c).profile = r % 256 ∧ (t.keyCtx c).dir = r / 256 % 2 ∧
      (t.keyCtx c).state = (if (s.legRecords.any (fun l => legNames l c)) then 2 else 1) ∧ (∀ ssrc, ssrc < 2 ^ 32 → t.rxWin.get (fun _ => {}) (c * 2 ^ 32 + ssrc) = {}) ∧ others t
    let counted (t : State) : Prop := t.slot k = (s.slot k).map (fun y => { y with count := Nat.min 0xFFFFFFFF (y.count + 1) })
    let r := bytesNat (stage.take 64)
    (s.sec.keyCmd = some (c * 16 + 3, stage) →
      (s.latched = true → ends (some .state) (fun _ => True)) ∧ (s.latched = false → 32767 < c → ends (some .range) (fun _ => True)) ∧
      (s.latched = false → c ≤ 32767 → x.state ≠ 1 → ends (some .state) (fun _ => True)) ∧
      (s.latched = false → c ≤ 32767 → x.state = 1 → ends none (fun t => (t.keyCtx c).state = 0 ∧ (t.keyCtx c).keys = ({} : KeyCtx).keys ∧ others t))) ∧
    (s.sec.keyCmd = some (c * 16 + 1, stage) →
      (s.latched = true → ends (some .state) (fun _ => True)) ∧ (s.latched = false → 32767 < c → ends (some .range) (fun _ => True)) ∧
      (s.latched = false → c ≤ 32767 → x.state ≠ 0 → ends (some .state) (fun _ => True)) ∧
      (s.latched = false → c ≤ 32767 → x.state = 0 → ∀ e, keyRecordErr r = some e → ends (some e) (fun _ => True)) ∧
      (s.latched = false → c ≤ 32767 → x.state = 0 → keyRecordErr r = none → ends none (loaded r))) ∧
    (s.sec.keyCmd = some (k * 2 ^ 24 + c * 16 + 2, stage) → c < 32768 → s.latched = false →
      (s.slot k = none → ends (some (if x.state = 0 then .nokey else .state)) (fun t => t.slot k = none)) ∧
      (∀ y, s.slot k = some y → y.kek = true → y.user = 0 → y.kind ≤ 2 → y.count < 0xFFFFFFFF →
        (x.state ≠ 0 → ends (some .state) counted) ∧
        (x.state = 0 → Config.unwrapPad y.key (stage.take 72) = none → ends (some .tagfail) counted) ∧
        (∀ q, x.state = 0 → Config.unwrapPad y.key (stage.take 72) = some q → keyRecordErr (q.toNat % 2 ^ 512) = none → ends none (fun t => loaded (q.toNat % 2 ^ 512) t ∧ counted t))))) ∧
  (∀ (slot wslot user kind : Nat) (kek : Bool) (s : State), slot < 256 → wslot < 256 → user < 4 → 1 ≤ kind → kind ≤ 4 →
    let word (op w : Nat) (u kd : Nat) (f : Bool) : Word := BitVec.ofNat 32 (w * 2 ^ 24 + slot * 2 ^ 16 + u * 2 ^ 12 + b2n f * 2 ^ 11 + kd * 2 ^ 8 + op)
    let n := if kind = 1 then 16 else if kind = 4 then 48 else 32
    let input := windowBytes s.sec.keyin 16
    let used : Prop := ∃ j, (s.sec.running = some j ∨ s.sec.suspended = some j) ∧ j.slot = slot ∧ j.alg ≠ 0
    let done (t : State) (code : Nat) : Prop := t.sec.keyin = [] ∧ t.posted Reg.CIPHER_RESULT (bits (s.rd Reg.CIPHER_RESULT) 24 7 + 1) (slot * 65536 + code) ∧ s.regsOutside [Reg.CIPHER_RESULT] t ∧ s.changesOnly [.regs, .sec] t
    let free : Prop := s.latched = false ∧ 16 ≤ slot ∧ ¬ used
    let key (bytes : List Byte) : Option KeySlot := some { kind := kind, kek := kek, user := user, count := 0, key := bytes }
    (s.writeErr Reg.CIPHER_SLOT_CMD (word 1 0 user kind kek) = none →
      (s.latched = true → exec (.cipherSlotLoad slot user kind kek) s = .next (s.reject Reg.CIPHER_SLOT_CMD .state)) ∧
      (s.latched = false → slot < 16 ∨ user = 1 → exec (.cipherSlotLoad slot user kind kek) s = .next (s.reject Reg.CIPHER_SLOT_CMD .priv)) ∧
      (free → user ≠ 1 → (s.slot slot).isSome = true → exec (.cipherSlotLoad slot user kind kek) s = .next (s.reject Reg.CIPHER_SLOT_CMD .state)) ∧
      (free → user ≠ 1 → s.slot slot = none → ∃ t, exec (.cipherSlotLoad slot user kind kek) s = .next t ∧ t.slot slot = key (input.take n) ∧ (∀ j, j ≠ slot → t.slot j = s.slot j) ∧ done t 0)) ∧
    (s.writeErr Reg.CIPHER_SLOT_CMD (word 2 wslot user kind kek) = none → free → user ≠ 1 → s.slot slot = none → ∀ y, s.slot wslot = some y → y.kek = true → y.user = 0 → y.kind ≤ 2 → y.count < 0xFFFFFFFF →
      ∃ t, exec (.cipherSlotLoadWrapped slot wslot user kind kek) s = .next t ∧ t.slot wslot = some { y with count := y.count + 1 } ∧ (∀ j, j ≠ slot → j ≠ wslot → t.slot j = s.slot j) ∧
        match Config.unwrapPad y.key (input.take (n + 8)) with
        | none => t.slot slot = none ∧ done t Err.tagfail.code
        | some q => t.slot slot = key (natBytes n q.toNat) ∧ done t 0) ∧
    (s.writeErr Reg.CIPHER_SLOT_CMD (word 3 0 0 1 false) = none →
      (free → s.slot slot = none → exec (.cipherSlotErase slot) s = .next (s.reject Reg.CIPHER_SLOT_CMD .state)) ∧
      (s.latched = false → 16 ≤ slot → used → exec (.cipherSlotErase slot) s = .next (s.reject Reg.CIPHER_SLOT_CMD .busy)) ∧
      (free → (s.slot slot).isSome = true → ∃ t, exec (.cipherSlotErase slot) s = .next t ∧ t.slot slot = none ∧ (∀ j, j ≠ slot → t.slot j = s.slot j) ∧ done t 0))) ∧
  (∀ (source : Nat) (s : State),
    let zeroised (i : Nat) (t : State) : Prop := t.keys = [] ∧ t.sec.slots = [] ∧ t.sec.kek = false ∧ t.sec.drbg = false ∧ t.sec.running = none ∧ t.sec.stage = [] ∧ t.sec.keyin = [] ∧ t.latched = true ∧
      bit (t.get Fld.ALARM_STATUS_SOURCE) i = true ∧ t.hasEvent alarmPage 1 ∧ (∀ l, (s.leg l).state = .active → LEG.PROFILE (s.legRec l) ≠ 0 → (t.leg l).state = .halted) ∧
      s.changesOnly [.regs, .msix, .evq, .freeCells, .dram, .keys, .faultLog, .legs, .poisoned, .sec, .uart] t
    (s.boot.held = true ∨ 7 ≤ source → exec (.alarmTrip source) s = .next s) ∧
    (s.boot.held = false → source < 7 → ∃ t, exec (.alarmTrip source) s = .next t ∧ zeroised source t) ∧
    (s.writeErr Reg.ALARM_CMD 1 = none → ∃ t, exec .alarmZeroise s = .next t ∧ zeroised 6 t)) ∧
  (∀ s : State,
    let allows (f : Option FwImage) : Prop := ∃ x, f = some x ∧ s.imageValid x = true ∧ s.get Fld.ALARM_BOOT_SVN ≤ x.svn
    let c := Nat.max (s.get Fld.ALARM_BOOT_COUNTER) (s.get Fld.ALARM_BOOT_SVN)
    (s.writeErr Reg.ALARM_SVN_CMD 1 = none → ¬ (allows s.runningImage ∧ allows s.otherImage) → exec .svnAdvance s = .next (s.reject Reg.ALARM_SVN_CMD .state)) ∧
    (s.writeErr Reg.ALARM_SVN_CMD 1 = none → allows s.runningImage → allows s.otherImage → ∃ u, exec .svnAdvance s = .next (u.post (u.get Fld.ALARM_CFG_EVQ) 0x11 0x04 c (s.get Fld.ALARM_BOOT_SVN)) ∧
      u.get Fld.ALARM_BOOT_COUNTER = c ∧ s.regsOutside [Reg.ALARM_BOOT] u ∧ s.changesOnly [.regs] u) ∧
    (s.latched = true → exec .drbgReseed s = .next s) ∧
    (s.latched = false → ∃ t, exec .drbgReseed s = .next t ∧ t.sec = { s.sec with drbg := true } ∧ t.get Fld.ALARM_HEALTH_RESEEDS = (s.get Fld.ALARM_HEALTH_RESEEDS + 1) % 2 ^ 16 ∧
      s.regsOutside [Reg.ALARM_HEALTH] t ∧ s.changesOnly [.regs, .sec] t))

/-- A user with no request outstanding asks for the lock in a class it may have and waits; a release withdraws the request, frees the lock, or, while the user's job runs, waits for its end. A free lock goes to the earliest URGENT request, else back to the user of a suspended job, else to the earliest request. START of any of the thirteen operations by
HOST runs the job with the slot's key, one invocation counted before its first block and CIPHER_RESULT.VALID 0, or is rejected with its error. JOB_DONE writes the output to DST and posts the result; where the tag or the integrity check fails it posts E_TAGFAIL, for GCM only after TAG_ZEROISED has zeroed what was written; a stopped job posts E_NOKEY. A job inside
the device ends with its lock. An URGENT request suspends a NORMAL job at a block boundary, counted in PREEMPT, and JOB_RESUME gives it the lock back. Otherwise the command changes nothing. The bytes of an output and whether a check holds are free functions of the job.
Choices of the model where the rules leave room: log entries 117, 118, 121. -/
def Obligations.CipherJobsRunUnderTheLock : Prop :=
  (∀ (user : Nat) (urgent : Bool) (s : State),
    let may : Prop := s.lockOwner ≠ user ∧ (∀ r ∈ s.sec.requests, r.user ≠ user) ∧ (∀ j, s.sec.suspended = some j → j.user ≠ user)
    let class_ : Prop := (user = 0 ∧ urgent = false) ∨ user = 1 ∨ (user = 2 ∧ urgent = false) ∨ (user = 3 ∧ urgent = true)
    let asked (t : State) : Prop := (⟨user, urgent, s.now⟩ : LockReq) ∈ t.sec.requests ∧ t.sec.requests.length = s.sec.requests.length + 1 ∧ (∀ r ∈ s.sec.requests, r ∈ t.sec.requests) ∧
      t.sec = { s.sec with requests := t.sec.requests } ∧ s.regsOutside [Reg.CIPHER_LOCK] t ∧ s.changesOnly [.regs, .sec] t
    (user ≠ 0 → may → class_ → ∃ t, exec (.cipherLockRequest user urgent) s = .next t ∧ asked t) ∧
    (user ≠ 0 → ¬ (may ∧ class_) → exec (.cipherLockRequest user urgent) s = .next s) ∧
    (user = 0 → urgent = false → s.writeErr Reg.CIPHER_LOCK 1 = none → may → ∃ t, exec (.cipherLockRequest user urgent) s = .next t ∧ asked t) ∧
    (user < 4 → (user = 0 → s.writeErr Reg.CIPHER_LOCK 0 = none) →
      let mine : Prop := ∃ j, (s.sec.running = some j ∨ s.sec.suspended = some j) ∧ j.user = user ∧ j.alg ≠ 0
      let left := s.sec.requests.filter (fun r => decide (r.user ≠ user))
      ∃ t, exec (.cipherLockRelease user) s = .next t ∧ t.sec.requests = left ∧ s.regsOutside [Reg.CIPHER_LOCK] t ∧ s.changesOnly [.regs, .sec] t ∧
        (mine → t.sec.releaseDue = true ∧ t.lockOwner = s.lockOwner ∧ t.sec.running = s.sec.running) ∧ (¬ mine → s.lockOwner = user → t.lockOwner = 7 ∧ t.sec.running = none) ∧
        (¬ mine → s.lockOwner ≠ user → t.lockOwner = s.lockOwner ∧ t.sec.running = s.sec.running))) ∧
  (∀ s : State,
    let taken (r : LockReq) (t : State) : Prop := t.lockOwner = r.user % 8 ∧ t.sec.requests = s.sec.requests.filter (fun x => decide (x.user ≠ r.user)) ∧ t.sec.ownerUrgent = r.urgent ∧
      (r.user = 0 → t.sec.running = s.sec.running) ∧ (r.user ≠ 0 → s.latched = false → ∃ j, t.sec.running = some j ∧ j.user = r.user ∧ j.alg = 0) ∧ s.regsOutside [Reg.CIPHER_LOCK] t ∧ s.changesOnly [.regs, .sec] t
    (s.lockOwner ≠ 7 → exec .cipherLockGrant s = .next s) ∧
    (∀ r, s.lockOwner = 7 → s.sec.requests.find? (fun r => r.urgent) = some r → ∃ t, exec .cipherLockGrant s = .next t ∧ taken r t) ∧
    (∀ j, s.lockOwner = 7 → s.sec.requests.find? (fun r => r.urgent) = none → s.sec.suspended = some j → ∃ t, exec .cipherLockGrant s = .next t ∧ t.lockOwner = j.user % 8 ∧ t.sec = s.sec ∧
      s.regsOutside [Reg.CIPHER_LOCK] t ∧ s.changesOnly [.regs] t) ∧
    (∀ r l, s.lockOwner = 7 → s.sec.requests.find? (fun r => r.urgent) = none → s.sec.suspended = none → s.sec.requests = r :: l → ∃ t, exec .cipherLockGrant s = .next t ∧ taken r t) ∧
    (s.lockOwner = 7 → s.sec.suspended = none → s.sec.requests = [] → exec .cipherLockGrant s = .next s)) ∧
  (∀ (k : Nat) (s : State), k < 256 →
    ∀ p ∈ ([(.cipherGcmEncrypt k, 1), (.cipherGcmDecrypt k, 2), (.cipherCtrEncrypt k, 3), (.cipherCtrDecrypt k, 4), (.cipherCbcEncrypt k, 5), (.cipherCbcDecrypt k, 6), (.cipherKeyWrap k, 7), (.cipherKeyUnwrap k, 8),
        (.cipherKeyWrapPad k, 9), (.cipherKeyUnwrapPad k, 10), (.cipherSha256 k, 11), (.cipherSha384 k, 12), (.cipherHmac k, 13)] : List (Instr × Nat)),
      let alg := p.2
      let len := s.get Fld.CIPHER_JOB_LEN_LEN
      let aad := if alg ≤ 2 then s.get Fld.CIPHER_JOB_AAD_LEN else 0
      let src := (if alg = 2 then aad + len + 16 else if alg = 1 then aad + len else len)
      let hash : Prop := alg = 11 ∨ alg = 12
      let host (j : Option CipherJob) : Prop := j.map CipherJob.user = some 0
      let no (e : Err) : Prop := exec p.1 s = .next (s.reject Reg.CIPHER_JOB_CMD e)
      s.writeErr Reg.CIPHER_JOB_CMD (BitVec.ofNat 32 (k * 256 + alg * 16 + 1)) = none →
      (s.latched = true → no .state) ∧ (s.latched = false → s.lockOwner ≠ 0 → no .locked) ∧ (s.latched = false → s.lockOwner = 0 → host s.sec.running ∨ host s.sec.suspended → no .busy) ∧
      (s.latched = false → s.lockOwner = 0 → ¬ host s.sec.running → ¬ host s.sec.suspended →
        (¬ hash → k < 16 → no .priv) ∧ (¬ hash → 16 ≤ k → (s.slot k).map KeySlot.user ≠ some 0 → no .nokey)) ∧
      (s.jobErr alg k = none → ∃ t j, exec p.1 s = .next t ∧ t.sec.running = some j ∧ j.user = 0 ∧ j.alg = alg ∧ j.slot = k ∧ j.len = len ∧ j.aad = aad ∧ j.dst = s.rd64 Reg.CIPHER_JOB_DST_LO ∧ j.ended = 0 ∧
        j.at_ = s.now ∧ j.input = s.dram.readList (s.rd64 Reg.CIPHER_JOB_SRC_LO) src ∧ (¬ hash → some j.key = (s.slot k).map KeySlot.key) ∧ (hash → j.key = []) ∧ j.zeroing = none ∧ j.stopped = false ∧
        (¬ hash → t.slot k = (s.slot k).map (fun x => { x with count := Nat.min 0xFFFFFFFF (x.count + 1) })) ∧ (hash → t.slot k = s.slot k) ∧ (∀ i, i ≠ k → t.slot i = s.slot i) ∧
        t.on Fld.CIPHER_RESULT_VALID = false ∧ s.regsOutside [Reg.CIPHER_RESULT] t ∧ s.changesOnly [.regs, .sec] t)) ∧
  (∀ s : State, s.sec.running = none → exec .cipherJobDone s = .next s ∧ exec .cipherTagZeroised s = .next s ∧ exec .cipherJobSuspend s = .next s) ∧
  (∀ (j : CipherJob) (s : State), s.sec.running = some j →
    let posted (t : State) (code : Nat) : Prop := t.posted Reg.CIPHER_RESULT (bits (s.rd Reg.CIPHER_RESULT) 24 7 + 1) (j.slot * 65536 + code) ∧ t.sec.running = none ∧ (s.sec.releaseDue = true → t.lockOwner = 7) ∧
      (s.sec.releaseDue = false → t.lockOwner = s.lockOwner)
    (j.alg = 0 → ∃ t, exec .cipherJobDone s = .next t ∧ t.sec.running = none ∧ t.lockOwner = (if s.sec.ownerUrgent then s.lockOwner else 7) ∧ t.dram = s.dram ∧ s.changesOnly [.regs, .sec] t) ∧
    (j.alg ≠ 0 → j.stopped = true → ∃ t, exec .cipherJobDone s = .next t ∧ posted t Err.nokey.code ∧ t.dram = s.dram) ∧
    (j.alg ≠ 0 → j.stopped = false → j.zeroing = none → j.poison = none → j.verifies = true → ∃ t, exec .cipherJobDone s = .next t ∧ posted t 0 ∧ t.dram = s.dram.writeList j.dst j.output ∧
      s.changesOnly [.regs, .clk, .dram, .poisoned, .sec] t) ∧
    (j.alg ≠ 0 → j.stopped = false → j.zeroing = none → j.poison = none → j.verifies = false → j.alg ≠ 2 → ∃ t, exec .cipherJobDone s = .next t ∧ posted t Err.tagfail.code ∧ t.dram = s.dram ∧
      t.get Fld.CIPHER_TAGFAIL_COUNT = (s.get Fld.CIPHER_TAGFAIL_COUNT + 1) % 2 ^ 32) ∧
    (j.stopped = false → j.zeroing = none → j.poison = none → j.verifies = false → j.alg = 2 → ∃ t, exec .cipherJobDone s = .next t ∧ t.sec = { s.sec with running := some { j with ended := j.blocks, zeroing := some Err.tagfail.code } } ∧
      t.rd Reg.CIPHER_RESULT = s.rd Reg.CIPHER_RESULT ∧ s.changesOnly [.clk, .dram, .poisoned, .sec] t) ∧
    (j.zeroing = none → exec .cipherTagZeroised s = .next s) ∧
    (∀ code, j.zeroing = some code → (j.alg ≠ 0 → j.stopped = false → exec .cipherJobDone s = .next s) ∧ ∃ t, exec .cipherTagZeroised s = .next t ∧ posted t code ∧
      t.dram = s.dram.writeList j.dst (List.replicate (if 1 ≤ j.alg ∧ j.alg ≤ 6 then Nat.min (16 * j.ended) j.len else 0) 0) ∧ s.changesOnly [.regs, .clk, .msix, .evq, .freeCells, .dram, .poisoned, .sec] t) ∧
    (s.sec.ownerUrgent = true ∨ s.sec.suspended ≠ none ∨ j.zeroing ≠ none ∨ (∀ r ∈ s.sec.requests, r.urgent = false) → exec .cipherJobSuspend s = .next s) ∧
    (∀ r, s.sec.requests.find? (fun r => r.urgent) = some r → s.sec.ownerUrgent = false → s.sec.suspended = none → j.zeroing = none → j.poison = none → j.alg ≠ 0 → 0 < j.cycles →
      let n := (Nat.max r.at_ j.at_ - j.at_ + j.cycles - 1) / j.cycles
      j.ended + n < j.blocks → ∃ t, exec .cipherJobSuspend s = .next t ∧ t.sec.suspended = some { j with ended := j.ended + n } ∧ t.lockOwner = r.user % 8 ∧
        t.get Fld.CIPHER_PREEMPT_COUNT = (s.get Fld.CIPHER_PREEMPT_COUNT + 1) % 2 ^ 32 ∧ t.dram = s.dram.writeList j.dst (j.output.take (if 1 ≤ j.alg ∧ j.alg ≤ 6 then Nat.min (16 * (j.ended + n)) j.len else 0)) ∧
        s.changesOnly [.regs, .clk, .dram, .poisoned, .sec] t)) ∧
  (∀ s : State, (∀ j, s.sec.suspended = some j → s.sec.running = none → s.lockOwner = 7 ∨ s.lockOwner = j.user → (∀ r ∈ s.sec.requests, r.urgent = false) →
      ∃ t, exec .cipherJobResume s = .next t ∧ t.sec.suspended = none ∧ t.sec.running = some { j with at_ := t.now } ∧ t.lockOwner = j.user % 8 ∧ t.sec.requests = s.sec.requests ∧ s.changesOnly [.regs, .clk, .sec] t) ∧
    (s.sec.suspended = none ∨ s.sec.running ≠ none → exec .cipherJobResume s = .next s))

/-- ENABLE takes a DISABLED channel to IDLE with HEAD and TAIL 0 and DISABLE takes one that is neither ACTIVE nor HALTED back; TAIL is taken in any enabled state and starts an IDLE channel; RUN, ABORT, RESUME and ABANDON act only in the state R415 names for them and are otherwise
rejected with E_STATE. An ACTIVE channel fetches and checks its next descriptor. A burst ends at the next 512-byte boundary of the host address and sets when the next may start; a failed one is issued again first; DIR 1 reads DRAM and a poisoned line makes the burst poisoned. Its end moves the data, counts the bytes and,
for DIR 0, clears stored poison. A bus error latches address, index, cause and direction and halts the channel. A descriptor completes REJECTED, ABORTED, POISON, ERR_AT_END, BUS_ERR or OK: bytes 24 to 39 are written back while the link is up, HEAD advances and IOC sets DONE; the next descriptor of an unfinished transfer completes
SKIPPED; and the channel stops, halts or goes on. Otherwise the command changes nothing.
Choices of the model where the rules leave room: log entries 47, 123, 125. -/
def Obligations.DmaChannelsFollowTheirStates : Prop :=
  ∀ (c : Nat) (s : State), c < 32 →
  let st := s.dmaState c
  let x := s.dmaCh c
  let size := s.dmaSize c
  let ring := s.rd64 (Reg.DMA_CHc_RING_LO c)
  let status : List Nat := [Reg.DMA_CHc_STATUS c, Reg.HOSTIF_TAGS]
  let pageRegs : List Nat := [Reg.PG_EVENT (dmaPage c)]
  let failRegs : List Nat := [Reg.DMA_CHc_FAIL_ADDR_LO c, Reg.DMA_CHc_FAIL_ADDR_HI c, Reg.DMA_CHc_FAIL c]
  let event (k : Nat) (t : State) : Prop := t.hasEvent (dmaPage c) (k + 4 * (c % 4))
  let others (t : State) : Prop := ∀ k, k ≠ c → t.dmaCh k = s.dmaCh k
  let back (m : Memory) (d : DmaDesc) (outcome code residue : Nat) : Memory :=
    let a := ring + 64 * d.index
    if s.on Fld.HOSTIF_LINK_UP then (m.writeList (a + 28) (natBytes 4 residue ++ natBytes 8 s.now)).writeList (a + 24) (natBytes 4 (2 ^ 31 + code * 256 + outcome)) else m
  let completed (d : DmaDesc) (outcome code residue : Nat) (t : State) : Prop := t.hostMem = back s.hostMem d outcome code residue ∧ t.dmaHead c = (d.index + 1) % size ∧
    t.get (Fld.DMA_CHc_STATUS_OUTCOME c) = outcome ∧ (d.ioc = true → event 1 t)
  let stopped (t : State) : Prop := t.dmaState c = 3 ∧ t.dmaCh c = { readyAt := x.readyAt } ∧ event 2 t ∧ others t ∧ s.regsOutside (status ++ pageRegs ++ [Reg.DMA_CHc_HEAD c]) t ∧ s.changesOnly [.regs, .msix, .hostMem, .dma] t
  let latched (d : DmaDesc) (off cause : Nat) (t : State) : Prop := t.rd64 (Reg.DMA_CHc_FAIL_ADDR_LO c) = d.host off % 2 ^ 64 ∧ t.get (Fld.DMA_CHc_FAIL_INDEX c) = d.index % 65536 ∧
    t.get (Fld.DMA_CHc_FAIL_CAUSE c) = cause % 8 ∧ t.get (Fld.DMA_CHc_FAIL_DIR c) = d.dir % 2 ∧ t.dmaState c = 4 ∧ event 3 t
  let one (d : DmaDesc) : Prop := d.chain = false ∨ d.last = true
  let flying (b : DmaBurst) : Prop := b.st = .flight
  (let w := putBits (s.rd (Reg.DMA_CHc_CTRL c)) 0 1 1
   (∀ e, s.writeErr (Reg.DMA_CHc_CTRL c) w = some e → exec (.dmaEnable c) s = .next (s.reject (Reg.DMA_CHc_CTRL c) e)) ∧
   (s.writeErr (Reg.DMA_CHc_CTRL c) w = none → ∃ t, exec (.dmaEnable c) s = .next t ∧ t.get (Fld.DMA_CHc_CTRL_ENABLE c) = 1 ∧ t.dmaSize c = size ∧ others t ∧ s.changesOnly [.regs, .dma] t ∧
     (st = 0 → t.dmaState c = 1 ∧ t.dmaHead c = 0 ∧ t.dmaTail c = 0 ∧ t.dmaCh c = {} ∧ s.regsOutside [Reg.DMA_CHc_CTRL c, Reg.DMA_CHc_HEAD c, Reg.DMA_CHc_TAIL c, Reg.DMA_CHc_STATUS c] t) ∧
     (st ≠ 0 → s.regsOutside [Reg.DMA_CHc_CTRL c] t ∧ t.dma = s.dma))) ∧
  (let w := putBits (s.rd (Reg.DMA_CHc_CTRL c)) 0 1 0
   (∀ e, s.writeErr (Reg.DMA_CHc_CTRL c) w = some e → exec (.dmaDisable c) s = .next (s.reject (Reg.DMA_CHc_CTRL c) e)) ∧
   (s.writeErr (Reg.DMA_CHc_CTRL c) w = none → (st = 2 ∨ st = 4 → exec (.dmaDisable c) s = .next (s.reject (Reg.DMA_CHc_CTRL c) .state)) ∧
     (st ≠ 2 → st ≠ 4 → ∃ t, exec (.dmaDisable c) s = .next t ∧ t.dmaState c = 0 ∧ t.dmaCh c = {} ∧ others t ∧ s.regsOutside (Reg.DMA_CHc_CTRL c :: status) t ∧ s.changesOnly [.regs, .dma] t))) ∧
  (∀ tail, tail < 2 ^ 32 → s.writeErr (Reg.DMA_CHc_TAIL c) (BitVec.ofNat 32 tail) = none →
    (st = 0 → exec (.dmaTailWrite c tail) s = .next (s.reject (Reg.DMA_CHc_TAIL c) .state)) ∧ (st ≠ 0 → size ≤ tail → exec (.dmaTailWrite c tail) s = .next (s.reject (Reg.DMA_CHc_TAIL c) .range)) ∧
    (st ≠ 0 → tail < size → ∃ t, exec (.dmaTailWrite c tail) s = .next t ∧ t.dmaTail c = tail ∧ t.dmaState c = (if st = 1 ∧ tail ≠ s.dmaHead c then 2 else st) ∧
      s.regsOutside [Reg.DMA_CHc_TAIL c, Reg.DMA_CHc_STATUS c] t ∧ s.changesOnly [.regs] t)) ∧
  (let ready (k : Nat) : Prop := s.writeErr (Reg.DMA_CHc_CMD c) (BitVec.ofNat 32 k) = none
   let no (i : Instr) : Prop := exec i s = .next (s.reject (Reg.DMA_CHc_CMD c) .state)
   let runs (t : State) : Prop := t.dmaState c = (if s.dmaHead c = s.dmaTail c then 1 else 2)
   (ready 0 → (st ≠ 3 → no (.dmaRun c)) ∧ (st = 3 → ∃ t, exec (.dmaRun c) s = .next t ∧ runs t ∧ s.regsOutside [Reg.DMA_CHc_STATUS c] t ∧ s.changesOnly [.regs] t)) ∧
   (ready 1 → (st ≠ 2 → no (.dmaAbort c)) ∧ (st = 2 → ∃ t, exec (.dmaAbort c) s = .next t ∧
     t.dmaCh c = { x with abort := true, fetched := if x.fetched = [] then [s.dmaDesc c (s.dmaHead c)] else x.fetched } ∧ others t ∧ s.changesOnly [.dma] t)) ∧
   (ready 2 → (st ≠ 4 → no (.dmaResume c)) ∧ (st = 4 → ∃ t, exec (.dmaResume c) s = .next t ∧ (x.errEnd = false → t.dmaState c = 2 ∧ t.dma = s.dma) ∧
     (x.errEnd = true → runs t ∧ t.dmaCh c = { x with errEnd := false, openChain := false }) ∧ others t ∧ s.regsOutside [Reg.DMA_CHc_STATUS c] t ∧ s.changesOnly [.regs, .dma] t)) ∧
   (ready 3 → (st ≠ 4 → no (.dmaAbandon c)) ∧
     (st = 4 → x.errEnd = true → x.openChain = false → ∃ t, exec (.dmaAbandon c) s = .next t ∧ stopped t ∧ t.hostMem = s.hostMem) ∧
     (∀ d l, st = 4 → x.errEnd = false → x.fetched = d :: l → (∀ b ∈ x.bursts, ¬ flying b) → one d → ∃ t, exec (.dmaAbandon c) s = .next t ∧ stopped t ∧
       completed d 3 (if s.get (Fld.DMA_CHc_FAIL_CAUSE c) = 5 then Err.fenced.code else Err.state.code) (burstBytes x.bursts .failed) t))) ∧
  (let n := x.fetched.length
   let may : Prop := st = 2 ∧ n < s.dmaReady c ∧ n < 9 ∧ s.on Fld.HOSTIF_LINK_UP = true
   (¬ may → exec (.dmaDescriptorFetch c) s = .next s) ∧
   (may → ∃ t, exec (.dmaDescriptorFetch c) s = .next t ∧ t.dmaCh c = { x with fetched := x.fetched ++ [s.dmaDesc c ((s.dmaHead c + n) % size)] } ∧ others t ∧ s.changesOnly [.dma] t)) ∧
  (x.fetched = [] → exec (.dmaBurstStart c) s = .next s ∧ exec (.dmaDescriptorComplete c) s = .next s ∧ ∀ j cause, exec (.dmaBurstComplete c j) s = .next s ∧ exec (.dmaBusError c j cause) s = .next s ∧ exec (.dmaErrAtEnd c cause) s = .next s) ∧
  (st ≠ 2 → exec (.dmaBurstStart c) s = .next s ∧ exec (.dmaDescriptorComplete c) s = .next s) ∧
  (∀ (d : DmaDesc) (l : List DmaDesc), x.fetched = d :: l →
    (let failed := x.bursts.find? (fun b => decide (b.st = .failed))
     let may : Prop := st = 2 ∧ x.abort = false ∧ (∀ b ∈ x.bursts, b.st ≠ .poisoned) ∧ d.bad = 0 ∧ (x.bursts.filter (fun b => decide (b.st = .flight))).length < 8
     let starts (j off len : Nat) : Prop := ∃ (t : State) (b : DmaBurst), exec (.dmaBurstStart c) s = .next t ∧ b.j = j ∧ b.off = off ∧ b.len = len ∧
       t.dmaCh c = { x with bursts := x.bursts.filter (fun y => decide (y.j ≠ j)) ++ [b], next := Nat.max x.next (off + len), readyAt := t.now + ceilDiv (len * 8192) (s.get (Fld.DMA_CHc_CTRL_SHARE c) * 1008) } ∧
       (d.dir ≠ 1 → b.st = .flight ∧ (x.readyAt < 2 ^ 48 * 1000000000 → t.now = Nat.max s.now x.readyAt) ∧ others t ∧ s.regsOutside status t ∧ s.changesOnly [.regs, .clk, .dma] t) ∧
       (d.dir = 1 → 0 < len → let poisoned : Prop := ∃ a, d.dev off ≤ a ∧ a < d.dev off + len ∧ a / 64 ∈ s.poisoned
         (poisoned → b.st = .poisoned) ∧ (¬ poisoned → b.st = .flight ∧ b.data = s.dram.readList (d.dev off) len)) ∧
       s.changesOnly [.regs, .clk, .msix, .evq, .freeCells, .cross, .ddr, .weir, .dma, .pwr] t
     (¬ may → exec (.dmaBurstStart c) s = .next s) ∧ (∀ b, may → failed = some b → starts b.j b.off b.len) ∧ (may → failed = none → d.len ≤ x.next → exec (.dmaBurstStart c) s = .next s) ∧
     (may → failed = none → x.next < d.len → starts x.bursts.length x.next (Nat.min (512 - d.host x.next % 512) (d.len - x.next)))) ∧
    (∀ j cause, x.bursts.find? (fun b => decide (b.j = j) && decide (b.st = .flight)) = none → exec (.dmaBurstComplete c j) s = .next s ∧ exec (.dmaBusError c j cause) s = .next s) ∧
    (∀ j b cause, x.bursts.find? (fun b => decide (b.j = j) && decide (b.st = .flight)) = some b →
      (∃ t, exec (.dmaBurstComplete c j) s = .next t ∧ t.dmaCh c = { x with bursts := x.bursts.map (fun y => if y.j = b.j then { y with st := .done, data := [] } else y) } ∧ others t ∧
        t.rd64 (Reg.DMA_CHc_BYTES_LO c) = (s.rd64 (Reg.DMA_CHc_BYTES_LO c) + b.len) % 2 ^ 64 ∧
        (d.dir = 0 → t.dram = s.dram.writeList (d.dev b.off) (s.hostMem.readList (d.host b.off) b.len) ∧
          (∀ k, k ∈ t.poisoned ↔ k ∈ s.poisoned ∧ (k * 64 + 64 ≤ d.dev b.off ∨ d.dev b.off + b.len ≤ k * 64)) ∧ s.changesOnly [.regs, .clk, .cross, .dram, .ddr, .weir, .poisoned, .dma, .pwr] t) ∧
        (d.dir ≠ 0 → t.hostMem = s.hostMem.writeList (d.host b.off) b.data ∧ s.regsOutside ([Reg.DMA_CHc_BYTES_LO c, Reg.DMA_CHc_BYTES_HI c] ++ status) t ∧ s.changesOnly [.regs, .hostMem, .dma] t)) ∧
      (∃ t, exec (.dmaBusError c j cause) s = .next t ∧ t.dmaCh c = { x with bursts := x.bursts.map (fun y => if y.j = j then { y with st := .failed } else y) } ∧ others t ∧
        (st = 2 → latched d b.off cause t ∧ s.regsOutside (status ++ pageRegs ++ failRegs) t) ∧ (st ≠ 2 → t.dmaState c = st ∧ s.regsOutside status t) ∧ s.changesOnly [.regs, .msix, .dma] t)) ∧
    (∀ b cause, x.bursts.find? (fun b => decide (b.st = .flight) && decide (b.off + b.len = d.len)) = some b → (st ≠ 2 ∨ x.next < d.len → exec (.dmaErrAtEnd c cause) s = .next s) ∧
      (st = 2 → d.len ≤ x.next → (∀ y ∈ x.bursts, flying y → y.j = b.j) → ∃ t, exec (.dmaErrAtEnd c cause) s = .next t ∧ completed d 4 Err.state.code 0 t ∧ latched d b.off cause t ∧
        t.dmaCh c = { x with fetched := l, bursts := [], next := 0, errEnd := true, openChain := d.chain && !d.last } ∧ others t ∧ s.regsOutside (status ++ pageRegs ++ failRegs ++ [Reg.DMA_CHc_HEAD c]) t ∧
        s.changesOnly [.regs, .msix, .hostMem, .dma] t)) ∧
    (st = 2 →
      let ends (outcome code residue : Nat) : Prop := ∃ t, exec (.dmaDescriptorComplete c) s = .next t ∧ stopped t ∧
        (one d → completed d outcome code residue t) ∧
        (¬ one d → let m := back s.hostMem d outcome code residue
          let next := (d.index + 1) % size
          let e := ({ s with hostMem := m }).dmaDesc c next
          (next = s.dmaTail c → completed d outcome code residue t) ∧
          (next ≠ s.dmaTail c → 0 < size → one e → t.hostMem = back m e 6 0 e.len ∧ t.dmaHead c = (next + 1) % size ∧ t.get (Fld.DMA_CHc_STATUS_OUTCOME c) = 6 ∧ (d.ioc = true ∨ e.ioc = true → event 1 t)))
      let idle : Prop := d.bad = 0 ∧ ∀ b ∈ x.bursts, ¬ flying b
      (d.bad ≠ 0 → ends 1 d.bad d.len) ∧ (d.bad = 0 → (∃ b ∈ x.bursts, flying b) → exec (.dmaDescriptorComplete c) s = .next s) ∧
      (idle → x.abort = true → ends 2 0 (d.len - burstBytes x.bursts .done)) ∧
      (∀ p, idle → x.abort = false → x.bursts.find? (fun b => decide (b.st = .poisoned)) = some p → ends 5 Err.poison.code (d.len - burstBytes (x.bursts.filter (fun b => decide (b.j < p.j))) .done)) ∧
      (idle → x.abort = false → (∀ b ∈ x.bursts, b.st ≠ .poisoned) → x.next < d.len ∨ (∃ b ∈ x.bursts, b.st ≠ .done) → exec (.dmaDescriptorComplete c) s = .next s) ∧
      (idle → x.abort = false → (∀ b ∈ x.bursts, b.st = .done) → d.len ≤ x.next → ∃ t, exec (.dmaDescriptorComplete c) s = .next t ∧ completed d 0 0 0 t ∧ (d.last = true → stopped t) ∧
        (d.last = false → t.dmaState c = (if (d.index + 1) % size = s.dmaTail c then 1 else 2) ∧ t.dmaCh c = { x with fetched := l, bursts := [], next := 0 } ∧ others t ∧
          s.regsOutside (status ++ pageRegs ++ [Reg.DMA_CHc_HEAD c]) t ∧ s.changesOnly [.regs, .msix, .hostMem, .dma] t))))

/-- A BAR2 read before boot step 5 has ended, of a line outside the DRAM or of a poisoned line returns all ones with EP, the last two counted; any other returns the bytes at BASE × 1 GiB + offset. A write before step 5 has ended is discarded, one outside the DRAM or in the media region is discarded and counted, and any other writes its
bytes. Unmasking a vector sends one message of every vector then unmasked with its pending bit set. The link comes up with a width and speed of R405 once boot step 1 has ended; when it goes down every ACTIVE channel halts with cause 5 and every recording tap stops with E_FENCED. A Function Level Reset disables every channel and resets HOSTIF_WIN, every PG_MSIX and
the MSI-X table. A pulse becomes a request, is counted while one is outstanding, and at 255 is dropped and sets OVF; the acknowledge delivers the count and a new pulse counts into the next request. The reset of an island's side flushes its crossing, discards and counts its writes and takes LINKED to 0; resynchronising sets it again where the domain is powered.
Choices of the model where the rules leave room: log entries 6, 124 to 126, 137. -/
def Obligations.HostWindowLinkAndCrossings : Prop :=
  (∀ (offset len : Nat) (s : State), 0 < len →
    let a := s.get Fld.HOSTIF_WIN_BASE * 2 ^ 30 + offset % 2 ^ 34
    let ones := List.replicate len (255 : Byte)
    let errs (t : State) : Prop := t.hasEvent hostifPage 1 ∧ t.dram = s.dram ∧ t.poisoned = s.poisoned
    (s.boot.trained = false → ∃ t, exec (.bar2Read offset len) s = .next t ∧ t.bar2 = some (ones, true) ∧ s.changesOnly [.bar2] t) ∧
    (s.boot.trained = true → a + len ≤ dramBytes s.geom → (∀ b, a ≤ b → b < a + len → b / 64 ∉ s.poisoned) → ∃ t, exec (.bar2Read offset len) s = .next t ∧ t.bar2 = some (s.dram.readList a len, false) ∧
      t.rd Reg.HOSTIF_BAR2_ERR = s.rd Reg.HOSTIF_BAR2_ERR ∧ s.changesOnly [.regs, .clk, .cross, .ddr, .weir, .bar2, .pwr] t) ∧
    (s.boot.trained = true → a % 64 + len ≤ 64 → dramBytes s.geom ≤ a → ∃ t, exec (.bar2Read offset len) s = .next t ∧ t.bar2 = some (ones, true) ∧ errs t ∧
      t.get Fld.HOSTIF_BAR2_ERR_RANGE = Nat.min 2047 (s.get Fld.HOSTIF_BAR2_ERR_RANGE + 1)) ∧
    (s.boot.trained = true → a % 64 + len ≤ 64 → a < dramBytes s.geom → a / 64 ∈ s.poisoned → ∃ t, exec (.bar2Read offset len) s = .next t ∧ t.bar2 = some (ones, true) ∧ errs t ∧
      t.get Fld.HOSTIF_BAR2_ERR_POISON = Nat.min 1023 (s.get Fld.HOSTIF_BAR2_ERR_POISON + 1))) ∧
  (∀ (offset : Nat) (data : List Byte) (s : State), data ≠ [] →
    let a := s.get Fld.HOSTIF_WIN_BASE * 2 ^ 30 + offset % 2 ^ 34
    let discarded (f : FieldRef) : Prop := ∃ t, exec (.bar2Write offset data) s = .next t ∧ t.get f = Nat.min 2047 (s.get f + 1) ∧ t.hasEvent hostifPage 1 ∧ t.dram = s.dram ∧ t.poisoned = s.poisoned
    (s.boot.trained = false → exec (.bar2Write offset data) s = .next s) ∧
    (s.boot.trained = true → a % 64 + data.length ≤ 64 → dramBytes s.geom ≤ a → discarded Fld.HOSTIF_BAR2_ERR_RANGE) ∧
    (s.boot.trained = true → a % 64 + data.length ≤ 64 → a < dramBytes s.geom → s.inMedia a data.length = true → discarded Fld.HOSTIF_BAR2_ERR_MEDIA) ∧
    (s.boot.trained = true → a + data.length ≤ dramBytes s.geom → s.inMedia a data.length = false → (∀ b, a ≤ b → b < a + data.length → b / 64 ∉ s.poisoned) →
      ∃ t, exec (.bar2Write offset data) s = .next t ∧ t.dram = s.dram.writeList a data ∧ t.poisoned = s.poisoned ∧ s.changesOnly [.regs, .clk, .cross, .dram, .ddr, .weir, .pwr] t) ∧
    (s.boot.trained = true → a % 64 = 0 → data.length = 64 → a < dramBytes s.geom → s.inMedia a 64 = false → ∃ t, exec (.bar2Write offset data) s = .next t ∧ t.dram = s.dram.writeList a data ∧
      (∀ k, k ∈ t.poisoned ↔ k ∈ s.poisoned ∧ k ≠ a / 64))) ∧
  (∀ (v : Nat) (enable funcMask : Bool) (s : State),
    let sent (m : Msix) (k : Nat) : Nat := m.sent.get (fun _ => 0) k
    let waits (m : Msix) (k : Nat) : Bool := m.pendingBit.get (fun _ => false) k
    let open_ (m : Msix) (k : Nat) : Bool := m.unmasked.get (fun _ => false) k
    let fires (k : Nat) : Bool := enable && !funcMask && waits s.msix k && (decide (k = v) || open_ s.msix k)
    (2048 ≤ v → exec (.msixVectorUnmask v enable funcMask) s = .next s) ∧
    (v < 2048 → ∃ t, exec (.msixVectorUnmask v enable funcMask) s = .next t ∧ t.msix.enable = enable ∧ t.msix.funcMask = funcMask ∧
      (∀ k, open_ t.msix k = (decide (k = v) || open_ s.msix k) ∧ sent t.msix k = (if fires k then sent s.msix k + 1 else sent s.msix k) ∧ waits t.msix k = (if fires k then false else waits s.msix k)) ∧ s.changesOnly [.msix] t)) ∧
  (∀ (width speed : Nat) (s : State),
    let no : Prop := s.boot.held = true ∨ s.boot.perst = true ∨ s.get Fld.GLOBAL_BOOT_STAGE = 0 ∨ width ∉ [1, 2, 4, 8] ∨ speed = 0 ∨ 5 < speed
    (no → exec (.pcieLinkUp width speed) s = .next s) ∧
    (¬ no → ∃ t, exec (.pcieLinkUp width speed) s = .next t ∧ t.get Fld.HOSTIF_LINK_UP = 1 ∧ t.get Fld.HOSTIF_LINK_WIDTH = width ∧ t.get Fld.HOSTIF_LINK_SPEED = speed ∧
      t.get Fld.HOSTIF_LINK_DOWN_COUNT = s.get Fld.HOSTIF_LINK_DOWN_COUNT ∧ t.hasEvent hostifPage 2 ∧ s.regsOutside [Reg.HOSTIF_LINK, Reg.PG_EVENT hostifPage] t ∧ s.changesOnly [.regs, .msix] t) ∧
    (s.on Fld.HOSTIF_LINK_UP = false → exec .pcieLinkDown s = .next s) ∧
    (s.on Fld.HOSTIF_LINK_UP = true → ∃ t, exec .pcieLinkDown s = .next t ∧ t.on Fld.HOSTIF_LINK_UP = false ∧ t.get Fld.HOSTIF_LINK_DOWN_COUNT = (s.get Fld.HOSTIF_LINK_DOWN_COUNT + 1) % 2 ^ 16 ∧
      (∀ c, c < 32 → (s.dmaState c = 2 → t.dmaState c = 4 ∧ t.get (Fld.DMA_CHc_FAIL_CAUSE c) = 5 ∧ t.hasEvent (dmaPage c) (3 + 4 * (c % 4)) ∧ (t.dmaCh c).fetched = (s.dmaCh c).fetched ∧
          ∀ b ∈ (t.dmaCh c).bursts, b.st ≠ .flight) ∧ (s.dmaState c ≠ 2 → t.dmaState c = s.dmaState c ∧ t.dmaCh c = s.dmaCh c)) ∧
      (∀ r q, (r, q) ∈ tableRecs s.gate.effective 3 → (t.tap r).stopped = (if (s.tap r).stopped.isSome then (s.tap r).stopped else some Err.fenced.code)) ∧
      s.changesOnly [.regs, .msix, .evq, .freeCells, .taps, .dma] t) ∧
    (∃ t, exec .functionLevelReset s = .next t ∧ (∀ c, c < 32 → t.dmaState c = 0 ∧ t.get (Fld.DMA_CHc_CTRL_ENABLE c) = 0 ∧ t.dmaCh c = {}) ∧ t.rd Reg.HOSTIF_WIN = resetWord Reg.HOSTIF_WIN ∧
      (∀ p ∈ allPages, t.rd (Reg.PG_MSIX p) = resetWord (Reg.PG_MSIX p)) ∧ t.msix = { sent := s.msix.sent } ∧
      s.regsOutside ([Reg.HOSTIF_WIN, Reg.HOSTIF_TAGS] ++ (List.range 32).map Reg.DMA_CHc_CTRL ++ (List.range 32).map Reg.DMA_CHc_STATUS ++ allPages.map Reg.PG_MSIX) t ∧ s.changesOnly [.regs, .msix, .dma] t)) ∧
  (∀ (i writes : Nat) (pulse : Bool) (s : State),
    let x := s.crossing i
    let others (t : State) : Prop := ∀ k, k ≠ i → t.crossing k = s.crossing k
    let n := x.counter + (if pulse then 1 else 0)
    (28 ≤ i ∨ x.held = true → exec (.pulseCrossingIssue i) s = .next s ∧ exec (.pulseCrossingAck i pulse) s = .next s) ∧
    (x.outstanding = 0 → exec (.pulseCrossingAck i pulse) s = .next s) ∧
    (i < 28 → x.held = false →
      (x.outstanding = 0 → ∃ t, exec (.pulseCrossingIssue i) s = .next t ∧ t.crossing i = { x with outstanding := 1 } ∧ others t ∧ s.changesOnly [.cross] t) ∧
      (x.outstanding ≠ 0 → x.counter < 255 → ∃ t, exec (.pulseCrossingIssue i) s = .next t ∧ t.crossing i = { x with counter := x.counter + 1 } ∧ others t ∧ s.changesOnly [.cross] t) ∧
      (x.outstanding ≠ 0 → 255 ≤ x.counter → ∃ t, exec (.pulseCrossingIssue i) s = .next t ∧ (t.rd Reg.CLK_XOVF).getLsbD i = true ∧ (∀ k, k ≠ i → (t.rd Reg.CLK_XOVF).getLsbD k = (s.rd Reg.CLK_XOVF).getLsbD k) ∧
        t.hasEvent clkPage 1 ∧ s.regsOutside [Reg.CLK_XOVF, Reg.PG_EVENT clkPage] t ∧ s.changesOnly [.regs, .msix] t) ∧
      (x.outstanding ≠ 0 → ∃ t, exec (.pulseCrossingAck i pulse) s = .next t ∧
        t.crossing i = { x with delivered := x.delivered + x.outstanding, outstanding := Nat.min 255 n, counter := n - Nat.min 255 n } ∧ others t ∧ s.changesOnly [.cross] t)) ∧
    (i = 1 ∨ 28 ≤ i → exec (.islandReset i writes) s = .next s) ∧
    (i ≠ 1 → i < 28 → ∃ t, exec (.islandReset i writes) s = .next t ∧ t.crossing i = { x with outstanding := 0, counter := 0, held := true } ∧ others t ∧
      t.get Fld.CLK_FLUSHED_COUNT = (s.get Fld.CLK_FLUSHED_COUNT + writes) % 2 ^ 32 ∧ (t.rd Reg.CLK_RUN).getLsbD i = false ∧ (t.rd Reg.CLK_LINKED).getLsbD i = false ∧
      (∀ k, k ≠ i → (t.rd Reg.CLK_RUN).getLsbD k = (s.rd Reg.CLK_RUN).getLsbD k ∧ (t.rd Reg.CLK_LINKED).getLsbD k = (s.rd Reg.CLK_LINKED).getLsbD k) ∧
      ((s.rd Reg.CLK_LINKED).getLsbD i = true → t.hasEvent clkPage 2) ∧ s.regsOutside [Reg.CLK_FLUSHED, Reg.CLK_RUN, Reg.CLK_LINKED, Reg.PG_EVENT clkPage] t ∧ s.changesOnly [.regs, .msix, .cross] t) ∧
    (let asleep : Prop := 28 ≤ i ∨ s.get (Fld.PWR_DOMd_STATUS_STATE (islandDomain i)) ≠ 0 ∨ (12 ≤ i ∧ i < 20 ∧ s.get (Fld.DDRCn_STATUS_STATE (i - 12)) = 3)
     (asleep → exec (.islandResync i) s = .next s) ∧
     (¬ asleep → ∃ t, exec (.islandResync i) s = .next t ∧ t.crossing i = { x with held := false } ∧ others t ∧ (t.rd Reg.CLK_RUN).getLsbD i = true ∧ (t.rd Reg.CLK_LINKED).getLsbD i = true ∧
      (∀ k, k ≠ i → (t.rd Reg.CLK_RUN).getLsbD k = (s.rd Reg.CLK_RUN).getLsbD k ∧ (t.rd Reg.CLK_LINKED).getLsbD k = (s.rd Reg.CLK_LINKED).getLsbD k) ∧
      s.regsOutside [Reg.CLK_RUN, Reg.CLK_LINKED] t ∧ s.changesOnly [.regs, .cross] t)))

/-- A governor decision changes a running cluster to a target within FLOOR and min(CEIL, CEIL_EFF), or gates it while more than MIN_RUN run, and turns none OFF; a gated cluster with an operating point for target runs again, and so does a needed one. An upward change writes the voltage, waits for VDone and relocks; a downward one relocks first; OP follows at the end. A rail that does not
settle or a PLL that does not lock is counted and tried again up to 3 times, then the cluster keeps the safe point and CEIL_EFF falls, or a wake ends in FAILED_WAKE, of SOC and MEM with DEVICE_FATAL. PWR_DOM_CMD takes a retired domain OFF and wakes one that is OFF or FAILED_WAKE. QUIET, DEEP and WAKE are rejected as R439 says; otherwise
entry begins at the next boundary, or the device wakes. ENTRY_COMPLETE takes the clusters and CMPX OFF, the channels into self-refresh and for DEEP MEM and LINK OFF; WAKE_COMPLETE ends a wake; MEM_IDLE_EXPIRE ends an excursion. Otherwise the command changes nothing. A decision's targets are the command's operands.
Choices of the model where the rules leave room: log entries 127 to 129, 187, 188. -/
def Obligations.PowerFollowsItsStates : Prop :=
  (∀ (targets : List Nat) (power : Nat) (s : State),
    let ceil (c : Nat) : Nat := Nat.min (s.get (Fld.PWR_CLc_CTRL_CEIL c)) (s.get (Fld.PWR_CLc_STATUS_CEIL_EFF c))
    let want (c : Nat) : Nat := (targets[c]?).getD (s.get (Fld.PWR_CLc_STATUS_OP c))
    let point (c : Nat) : Nat := if s.on Fld.PWR_GOV_ENABLE then Nat.min (Nat.max (s.get (Fld.PWR_CLc_CTRL_FLOOR c)) (Nat.min (want c) 5)) (ceil c) else ceil c
    let running (t : State) : Nat := ((List.range 8).filter (fun k => decide (t.clState k = 0) || decide (t.clState k = 5))).length
    ∃ t, exec (.governorDecide targets power) s = .next t ∧ t.get Fld.PWR_EST_POWER = Nat.min 2500 power ∧ s.changesOnly [.regs, .msix, .cross, .pwr] t ∧
      (s.devState ≠ 0 → s.regsOutside [Reg.PWR_EST] t ∧ s.changesOnly [.regs] t) ∧ (s.get Fld.PWR_GOV_MIN_RUN ≤ running s → s.get Fld.PWR_GOV_MIN_RUN ≤ running t) ∧
      (∀ c, c < 8 → s.clState c ≠ 2 → t.clState c ≠ 2) ∧
      (∀ c, c < 8 → s.devState = 0 → s.on Fld.PWR_GOV_ENABLE = false ∨ (s.get Fld.PWR_GOV_CAP = 0 ∧ ¬ (want c = 6 ∧ s.on Fld.PWR_GOV_GATE_EN = true)) → ceil c < 6 → s.clState c = 0 → (s.dom (4 + c)).phase = .none →
        (point c = s.get (Fld.PWR_CLc_STATUS_OP c) → t.rd (Reg.PWR_CLc_STATUS c) = s.rd (Reg.PWR_CLc_STATUS c) ∧ t.dom (4 + c) = s.dom (4 + c)) ∧
        (point c ≠ s.get (Fld.PWR_CLc_STATUS_OP c) → t.clState c = 5 ∧ t.get (Fld.PWR_CLc_STATUS_TARGET_OP c) = point c ∧ t.get (Fld.PWR_CLc_STATUS_OP c) = s.get (Fld.PWR_CLc_STATUS_OP c) ∧
          (t.dom (4 + c)).phase = (if s.get (Fld.PWR_CLc_STATUS_OP c) < point c then .write else .lock) ∧ (t.dom (4 + c)).from_ = s.get (Fld.PWR_CLc_STATUS_OP c) ∧ (t.dom (4 + c)).to_ = point c ∧ (t.dom (4 + c)).wake = false)) ∧
      (∀ c k, c < 8 → s.devState = 0 → s.on Fld.PWR_GOV_ENABLE = true → s.get Fld.PWR_GOV_CAP = 0 → ceil c < 6 → s.clState c = 1 → targets[c]? = some k → k < 6 → t.clState c = 0 ∨ t.clState c = 5)) ∧
  (∀ (c : Nat) (s : State),
    (¬ (c < 8 ∧ s.needsCluster c = true ∧ s.clState c = 1) → exec (.clusterWakeOnTask c) s = .next s) ∧
    (c < 8 → s.needsCluster c = true → s.clState c = 1 → ∃ t, exec (.clusterWakeOnTask c) s = .next t ∧ t.clState c = 0 ∧ t.get (Fld.PWR_DOMd_STATUS_STATE (4 + c)) = 0 ∧ (t.rd Reg.CLK_LINKED).getLsbD (3 + c) = true ∧
      t.get (Fld.PWR_DOMd_WAKE_LO_TIME (4 + c)) = s.now % 1000000000 ∧
      s.regsOutside [Reg.PWR_CLc_STATUS c, Reg.PWR_DOMd_STATUS (4 + c), Reg.PWR_DOMd_WAKE_LO (4 + c), Reg.PWR_DOMd_WAKE_HI (4 + c), Reg.CLK_RUN, Reg.CLK_LINKED] t ∧ s.changesOnly [.regs, .cross] t)) ∧
  (∀ (c : Nat) (vdone : Bool) (s : State), c < 8 →
    let d := 4 + c
    let x := s.dom d
    let volt (t : State) : Nat := t.pwr.volts.get (fun _ => 0) c
    let settles : Prop := x.phase = .settle ∨ x.phase = .lateSettle
    let others (t : State) : Prop := ∀ k, k ≠ d → t.dom k = s.dom k
    let ends (op : Nat) (t : State) : Prop := t.clState c = 0 ∧ t.get (Fld.PWR_CLc_STATUS_OP c) = op ∧ t.get (Fld.PWR_CLc_STATUS_TARGET_OP c) = op ∧ (t.dom d).phase = .none
    let failed (t : State) : Prop := t.get Fld.PWR_AVS_ERRORS = (s.get Fld.PWR_AVS_ERRORS + 1) % 2 ^ 16 ∧ t.get Fld.PWR_AVS_LAST_RAIL = c ∧ t.hasEvent pwrPage 3 ∧
      t.get Fld.FAULT_CONTAINED_COUNT = (s.get Fld.FAULT_CONTAINED_COUNT + 1) % 2 ^ 32
    (x.phase ≠ .write → x.phase ≠ .lateWrite → exec (.avsVoltageWrite c) s = .next s) ∧
    (x.phase = .write ∨ x.phase = .lateWrite → ∃ t, exec (.avsVoltageWrite c) s = .next t ∧ volt t = 600 + 50 * x.to_ ∧ (∀ k, k ≠ c → t.pwr.volts.get (fun _ => 0) k = s.pwr.volts.get (fun _ => 0) k) ∧
      t.dom d = { x with phase := if x.phase = .write then .settle else .lateSettle, since := s.now } ∧ others t ∧ s.changesOnly [.pwr] t) ∧
    (¬ settles → exec (.avsStatusPoll c vdone) s = .next s ∧ exec (.avsSettleTimeout c) s = .next s) ∧
    (settles → ∃ t, exec (.avsStatusPoll c vdone) s = .next t ∧ (vdone = false → s.changesOnly [.clk] t) ∧
      (vdone = true → x.phase = .settle → t.dom d = { x with phase := .lock, since := t.now, fails := if x.wake then x.fails else 0 } ∧ others t ∧ s.changesOnly [.clk, .pwr] t) ∧
      (vdone = true → x.phase = .lateSettle → x.next = none → x.to_ < 6 → ends x.to_ t ∧ s.regsOutside [Reg.PWR_CLc_STATUS c] t ∧ s.changesOnly [.regs, .clk, .pwr] t)) ∧
    (settles → x.wake = false → x.fails < 3 → ∃ t, exec (.avsSettleTimeout c) s = .next t ∧ failed t ∧ t.get (Fld.PWR_CLc_STATUS_RETRIES c) = x.fails + 1 ∧ volt t = volt s ∧ others t ∧
      (t.dom d).phase = (if x.phase = .settle then .write else .lateWrite) ∧ (t.dom d).fails = x.fails + 1) ∧
    (settles → x.wake = false → 3 ≤ x.fails → x.next = none → x.from_ < 6 → x.to_ < 6 → ∃ t, exec (.avsSettleTimeout c) s = .next t ∧ failed t ∧ volt t = 600 + 50 * x.from_ ∧ others t ∧
      (let op := if x.phase = .settle then x.from_ else x.to_
       ends op t ∧ t.get (Fld.PWR_CLc_STATUS_CEIL_EFF c) = op)) ∧
    (x.phase ≠ .lock → exec (.pllLock d) s = .next s ∧ exec (.pllLockTimeout d) s = .next s) ∧
    (x.phase = .lock → x.wake = false → x.to_ < x.from_ → ∃ t, exec (.pllLock d) s = .next t ∧ t.dom d = { x with phase := .lateWrite, fails := 0, since := s.now } ∧ others t ∧ s.changesOnly [.pwr] t) ∧
    (x.phase = .lock → x.wake = false → x.from_ ≤ x.to_ → x.next = none → x.to_ < 6 → ∃ t, exec (.pllLock d) s = .next t ∧ ends x.to_ t ∧ others t ∧ s.regsOutside [Reg.PWR_CLc_STATUS c] t ∧ s.changesOnly [.regs, .pwr] t) ∧
    (x.phase = .lock → x.wake = true → x.to_ < 6 → ∃ t, exec (.pllLock d) s = .next t ∧ ends x.to_ t ∧ t.get (Fld.PWR_DOMd_STATUS_STATE d) = 0 ∧ (t.rd Reg.CLK_LINKED).getLsbD (3 + c) = true ∧
      (x.byCommand = true → ∀ p ∈ domPages d, t.get (Fld.PG_STATUS_SERVICE p) = 1)) ∧
    (x.phase = .lock → x.wake = false → x.fails < 3 → ∃ t, exec (.pllLockTimeout d) s = .next t ∧ failed t ∧ t.get (Fld.PWR_CLc_STATUS_RETRIES c) = x.fails + 1 ∧ (t.dom d).phase = .lock ∧ (t.dom d).fails = x.fails + 1 ∧ others t) ∧
    (x.phase = .lock → x.wake = false → 3 ≤ x.fails → x.next = none → ∃ t, exec (.pllLockTimeout d) s = .next t ∧ failed t ∧ ends 0 t ∧ t.get (Fld.PWR_CLc_STATUS_CEIL_EFF c) = 0 ∧ others t) ∧
    (∀ i, (i = .avsSettleTimeout c ∧ settles) ∨ (i = .pllLockTimeout d ∧ x.phase = .lock) → x.wake = true →
      (x.fails < 3 → ∃ t, exec i s = .next t ∧ (t.dom d).phase = .write ∧ (t.dom d).fails = x.fails + 1 ∧ t.get (Fld.PWR_DOMd_STATUS_RETRIES d) = x.fails + 1 ∧ volt t = 0 ∧ others t) ∧
      (3 ≤ x.fails → ∃ t, exec i s = .next t ∧ t.get (Fld.PWR_DOMd_STATUS_STATE d) = 3 ∧ t.clState c = 3 ∧ volt t = 0 ∧ (t.dom d).phase = .none ∧ (∀ p ∈ domPages d, t.get (Fld.PG_STATUS_SERVICE p) = 2) ∧ t.hasEvent pwrPage 2))) ∧
  (∀ (s : State), ∀ d ∈ [1, 3], (s.dom d).phase = .lock → (s.dom d).wake = true → 3 ≤ (s.dom d).fails → s.fatalAt = none → ∃ t, exec (.pllLockTimeout d) s = .next t ∧ t.get (Fld.PWR_DOMd_STATUS_STATE d) = 3 ∧ t.fatalAt.isSome = true ∧
    t.get Fld.FAULT_FATAL_CAUSE = 4 ∧ t.get Fld.FAULT_FATAL_FAULT_N = 1) ∧
  (∀ (d : Nat) (s : State), d < 16 →
    let st := s.get (Fld.PWR_DOMd_STATUS_STATE d)
    let word (op : Nat) : Word := BitVec.ofNat 32 (d * 16 + op)
    let no (i : Instr) (e : Err) : Prop := exec i s = .next (s.reject Reg.PWR_DOM_CMD e)
    let retired : Prop := ∀ p ∈ domPages d, s.get (Fld.PG_STATUS_SERVICE p) = 1 ∧ s.on (Fld.PG_STATUS_QUIESCED p) = true
    (∀ p ∈ ([(.domainOff d, 1), (.domainWake d, 2)] : List (Instr × Nat)), (∀ e, s.writeErr Reg.PWR_DOM_CMD (word p.2) = some e → no p.1 e) ∧ (s.writeErr Reg.PWR_DOM_CMD (BitVec.ofNat 32 (13 * 16 + p.2)) = none → 13 < d → no p.1 .range)) ∧
    (s.writeErr Reg.PWR_DOM_CMD (word 1) = none → (d < 4 → no (.domainOff d) .priv) ∧ (4 ≤ d → d < 14 → s.devState ≠ 0 ∨ 2 ≤ st ∨ (s.dom d).phase ≠ .none ∨ ¬ retired → no (.domainOff d) .state) ∧
      (4 ≤ d → d < 14 → s.devState = 0 → st < 2 → (s.dom d).phase = .none → retired → ∃ t, exec (.domainOff d) s = .next t ∧ t.get (Fld.PWR_DOMd_STATUS_STATE d) = 2 ∧ (t.dom d).byCommand = true ∧
        (∀ p ∈ domPages d, t.get (Fld.PG_STATUS_SERVICE p) = 3) ∧ (d < 12 → t.clState (d - 4) = 2 ∧ t.get (Fld.PWR_CLc_STATUS_OP (d - 4)) = 0 ∧ t.pwr.volts.get (fun _ => 0) (d - 4) = 0 ∧ (∀ k, k / 16 = d - 4 → t.core k = {}) ∧
          (t.rd Reg.CLK_LINKED).getLsbD (3 + (d - 4)) = false) ∧ (st = 0 → t.get (Fld.PWR_DOMd_STATUS_SLEEPS d) = (s.get (Fld.PWR_DOMd_STATUS_SLEEPS d) + 1) % 2 ^ 16 ∧ t.get (Fld.PWR_DOMd_SLEEP_LO_TIME d) = s.now % 1000000000))) ∧
    (s.writeErr Reg.PWR_DOM_CMD (word 2) = none → d < 14 → (s.devState ≠ 0 ∨ (st ≠ 2 ∧ st ≠ 3) → no (.domainWake d) .state) ∧
      (s.devState = 0 → st = 2 ∨ st = 3 → ∃ t, exec (.domainWake d) s = .next t ∧ t.get (Fld.PWR_DOMd_STATUS_STATE d) = 4 ∧ (t.dom d).wake = true ∧ (t.dom d).byCommand = true ∧ (t.dom d).fails = 0 ∧
        (t.dom d).phase = (if 4 ≤ d ∧ d < 12 then .write else .lock) ∧ (∀ k, k ≠ d → t.dom k = s.dom k) ∧ s.regsOutside [Reg.PWR_DOMd_STATUS d, Reg.PWR_CLc_STATUS (d - 4)] t ∧ s.changesOnly [.regs, .pwr] t))) ∧
  (∀ s : State,
    let st := s.devState
    let no (i : Instr) (e : Err) : Prop := exec i s = .next (s.reject Reg.PWR_STATE_CMD e)
    let ready (op : Nat) : Prop := s.writeErr Reg.PWR_STATE_CMD (BitVec.ofNat 32 op) = none
    let twin : Prop := s.on Fld.GLOBAL_STRAPS_TWIN_EN = true
    let gate : Prop := s.gate.txnOpen = true ∨ s.gate.pending ≠ []
    let linked : Prop := ∃ n, n < 4 ∧ s.on (Fld.PG_CTRL_ENABLE (linkPage n)) = true
    (∀ p ∈ ([(.stateQuiet, 1), (.stateDeep, 2)] : List (Instr × Nat)), ready p.2 → (twin → no p.1 .conflict) ∧ (¬ twin → gate → no p.1 .state) ∧ (¬ twin → ¬ gate → st = 1 ∨ st = 4 → no p.1 .busy) ∧
      (p.2 = 2 → ¬ twin → ¬ gate → st ≠ 1 → st ≠ 4 → linked → no p.1 .state) ∧
      (st = 0 → ¬ twin → ¬ gate → ¬ (p.2 = 2 ∧ linked) → ∃ t, exec p.1 s = .next t ∧ t.pwr = { s.pwr with enterAt := some (s.tick + 1) } ∧ t.get Fld.PWR_STATE_TARGET = p.2 + 1 ∧ t.devState = 0 ∧
        s.regsOutside [Reg.PWR_STATE] t ∧ s.changesOnly [.regs, .pwr] t)) ∧
    (ready 1 → ¬ twin → ¬ gate → (st = 2 → no .stateQuiet .state) ∧ (st = 3 → ∃ t, exec .stateQuiet s = .next t ∧ t.devState = 4 ∧ t.get Fld.PWR_STATE_TARGET = 2 ∧ t.hasEvent pwrPage 1)) ∧
    (ready 2 → ¬ twin → ¬ gate → ¬ linked → (st = 3 → no .stateDeep .state) ∧ (st = 2 → ∃ t, exec .stateDeep s = .next t ∧ t.devState = 1 ∧ t.get Fld.PWR_STATE_TARGET = 3 ∧ t.pwr = s.pwr ∧ t.hasEvent pwrPage 1)) ∧
    (ready 3 → (st = 0 → no .stateWake .state) ∧ (st = 1 → exec .stateWake s = .next { s with pwr := { s.pwr with wakeHeld := true } }) ∧ (st = 4 → exec .stateWake s = .next s) ∧
      (st = 2 ∨ st = 3 → ∃ t, exec .stateWake s = .next t ∧ t.devState = 4 ∧ t.get Fld.PWR_STATE_TARGET = 0 ∧ t.hasEvent pwrPage 1 ∧ t.pwr.excursion = none ∧
        ((s.dom 3).phase = .none → (s.dom 3).byCommand = false → s.get (Fld.PWR_DOMd_STATUS_STATE 3) = 2 → t.get (Fld.PWR_DOMd_STATUS_STATE 3) = 4) ∧
        ((s.dom 3).phase = .none → s.get (Fld.PWR_DOMd_STATUS_STATE 3) = 0 → ∀ n, n < 8 → t.get (Fld.DDRCn_STATUS_STATE n) ≠ 3)))) ∧
  (∀ s : State,
    let target := s.get Fld.PWR_STATE_TARGET
    let busy : Prop := (∃ p ∈ s.tasks, p.2.holds = true) ∨ ∃ c, c < 8 ∧ (s.dom (4 + c)).phase ≠ .none
    (s.devState ≠ 1 ∨ busy → exec .entryComplete s = .next s) ∧
    (s.devState = 1 → ¬ busy → ∃ t, exec .entryComplete s = .next t ∧ t.devState = (if s.pwr.wakeHeld then 4 else target) ∧ t.hasEvent pwrPage 1 ∧
      (s.pwr.wakeHeld = false → (∀ d, 4 ≤ d → d < 13 → s.get (Fld.PWR_DOMd_STATUS_STATE d) < 2 → t.get (Fld.PWR_DOMd_STATUS_STATE d) = 2) ∧
        (target = 3 → ∀ d ∈ [3, 13], s.get (Fld.PWR_DOMd_STATUS_STATE d) < 2 → t.get (Fld.PWR_DOMd_STATUS_STATE d) = 2) ∧ (target = 2 → ∀ n, n < 8 → t.get (Fld.DDRCn_STATUS_STATE n) ≠ 2)))) ∧
  (∀ s : State, (s.devState ≠ 4 → exec .wakeComplete s = .next s) ∧ (s.devState = 4 → (s.dom 3).phase ≠ .none → exec .wakeComplete s = .next s) ∧
    (s.devState = 4 → (∀ d, d < 14 → (s.dom d).phase = .none ∧ s.get (Fld.PWR_DOMd_STATUS_STATE d) ≠ 2) → (∀ n, n < 8 → s.get (Fld.DDRCn_STATUS_STATE n) ≠ 3) →
      (s.get Fld.PWR_STATE_TARGET = 2 → ∃ t, exec .wakeComplete s = .next t ∧ t.devState = 2 ∧ t.hasEvent pwrPage 1) ∧
      (s.get Fld.PWR_STATE_TARGET ≠ 2 → exec .wakeComplete s = .next { s with pwr := { s.pwr with activeDue := true } }))) ∧
  (∀ s : State, (s.pwr.excursion = none ∨ (s.devState ≠ 2 ∧ s.devState ≠ 3) → exec .memIdleExpire s = .next s) ∧
    (s.pwr.excursion ≠ none → s.devState = 2 → ∃ t, exec .memIdleExpire s = .next t ∧ t.pwr = { s.pwr with excursion := none } ∧ ∀ n, n < 8 → t.get (Fld.DDRCn_STATUS_STATE n) ≠ 2) ∧
    (s.pwr.excursion ≠ none → s.devState = 3 → ∃ t, exec .memIdleExpire s = .next t ∧ t.pwr.excursion = none ∧ t.get (Fld.PWR_DOMd_STATUS_STATE 3) = 2))

/-- A scrub counts the corrected errors and handles an uncorrectable one by what it is in; one in an engine's SRAM is a fault of that engine, counted at once when it runs no task, and one in a queue's pointers is found at the next access to it. Crier keeps the last 1,024 records and writes each to the slot of its number, or counts it in LOST.HOST while the link is down; a relaying master writes the records of an instant 50 ms after it. OUT and HOLD quiesce an IN_SERVICE target, with a cluster's Mill work where it fits, and IN
resets or wakes one that is not, or FAULT_SVC_RESULT carries R457's error; SERVICE_DONE ends the operation with the SERVICE R457 gives. STAGE checks the image at FAULT_FW_ADDR and FW_STAGED posts what it found; ACTIVATE takes effect at the first boundary 100 ms on, or is rejected. A first DEVICE_FATAL latches its cause
and begins the dump, with FAULT_N at once for causes 1 and 5; the dump goes to the host or to the base of the media region, and FAULT_N asserts at its end or at the deadline. A read of the FAULT log removes its oldest entry. Each second adds its equivalent life, and the total is saved to flash. Otherwise the command changes nothing.
Choices of the model where the rules leave room: log entries 26, 130 to 135. -/
def Obligations.ServiceAndFaultsAreHandled : Prop :=
  (∀ (n : Nat) (s : State),
    let counted (t : State) : Prop := t.get Fld.FAULT_CORRECTED_COUNT = (s.get Fld.FAULT_CORRECTED_COUNT + n) % 2 ^ 32
    let one (t : State) : Prop := t.get Fld.FAULT_CONTAINED_COUNT = (s.get Fld.FAULT_CONTAINED_COUNT + 1) % 2 ^ 32
    (∃ t, exec (.sramScrub n none) s = .next t ∧ counted t ∧ s.regsOutside [Reg.FAULT_CORRECTED] t ∧ s.changesOnly [.regs] t) ∧
    (∀ c, ∃ t, exec (.sramScrub n (some (.cluster c))) s = .next t ∧ counted t ∧ one t ∧ s.regsOutside [Reg.FAULT_CORRECTED, Reg.FAULT_CONTAINED] t ∧ s.changesOnly [.regs] t) ∧
    (∀ q place, ¬ (0x4100 ≤ q ∧ q < 0x4140) → place < (s.queue q).items.length → ∃ t, exec (.sramScrub n (some (.cell q place))) s = .next t ∧ counted t ∧ one t ∧
      (t.queue q).items = (s.queue q).items.take place ++ (s.queue q).items.drop (place + 1) ∧ (t.queue q).lost = ((s.queue q).lost + 1) % 2 ^ 24 ∧ (∀ k, k ≠ q → t.queue k = s.queue k) ∧
      s.changesOnly [.regs, .queues, .freeCells, .pkts, .planes, .ports] t ∧ (¬ (0x4000 ≤ q ∧ q < 0x4004) → s.regsOutside [Reg.FAULT_CORRECTED, Reg.FAULT_CONTAINED] t ∧ s.changesOnly [.regs, .queues, .freeCells, .pkts] t)) ∧
    (∀ q, ¬ (0x4100 ≤ q ∧ q < 0x4140) → ∃ t, exec (.sramScrub n (some (.pointers q))) s = .next t ∧ counted t ∧ t.queue q = { s.queue q with bad := true } ∧ (∀ k, k ≠ q → t.queue k = s.queue k) ∧
      s.regsOutside [Reg.FAULT_CORRECTED] t ∧ s.changesOnly [.regs, .queues] t) ∧
    (∀ p ∈ ([(.freeList, 2), (.table, 6)] : List (SramUe × Nat)), s.fatalAt = none → ∃ t, exec (.sramScrub n (some p.1)) s = .next t ∧ counted t ∧ t.fatalAt = some s.now ∧ t.get Fld.FAULT_FATAL_CAUSE = p.2) ∧
    (∀ e, e ∈ allEngines → (s.eng e).resetting = false → (s.eng e).fenced = none →
      ((s.eng e).slot = none → ∃ t, exec (.sramScrub n (some (.engine e))) s = .next t ∧ counted t ∧ t.crier.faults = s.crier.faults + 1 ∧ s.now ∈ (t.eng e).faults ∧ t.hasEvent reevePage 1) ∧
      ((s.eng e).slot.isSome = true → ∃ t, exec (.sramScrub n (some (.engine e))) s = .next t ∧ counted t ∧ (t.eng e).slot = none ∧ (t.eng e).resetting = true ∧ (t.eng e).fenced = (s.eng e).slot ∧
        (t.eng e).cause = some 1 ∧ s.changesOnly [.regs, .weir, .mill, .reeve] t)) ∧
    (∀ e, (s.eng e).resetting = true ∨ (s.eng e).fenced.isSome = true → ∃ t, exec (.sramScrub n (some (.engine e))) s = .next t ∧ counted t ∧ s.regsOutside [Reg.FAULT_CORRECTED] t ∧
      s.changesOnly [.regs] t)) ∧
  (∀ (temps : List Int) (s : State),
    (s.on Fld.CRIER_CFG_ENABLE = false → exec (.crierRecord temps) s = .next s) ∧
    (s.on Fld.CRIER_CFG_ENABLE = true → ∃ t r, exec (.crierRecord temps) s = .next t ∧ r.length = 256 ∧ t.crier.kept = lastN 1024 (s.crier.kept ++ [r]) ∧ t.crier.seq = s.crier.seq + 1 ∧
      t.get Fld.CRIER_SEQ_SEQ = s.crier.seq % 2 ^ 32 ∧ t.crier.at_ = some t.now ∧ (s.now + 200000000 < 2 ^ 48 * 1000000000 → t.now % 100000000 = 0 ∧ s.now ≤ t.now ∧ t.now ≤ s.now + 200000000 ∧ s.crier.at_ ≠ some t.now) ∧
      (s.on Fld.HOSTIF_LINK_UP = true → t.hostMem = s.hostMem.writeList (s.rd64 Reg.CRIER_RING_LO + s.crier.seq % 2 ^ s.get Fld.CRIER_CFG_SIZE * 256) r ∧ s.regsOutside [Reg.CRIER_SEQ] t) ∧
      (s.on Fld.HOSTIF_LINK_UP = false → t.hostMem = s.hostMem ∧ t.get Fld.CRIER_LOST_HOST = Nat.min 65535 (s.get Fld.CRIER_LOST_HOST + 1) ∧ s.regsOutside [Reg.CRIER_SEQ, Reg.CRIER_LOST] t) ∧
      s.changesOnly [.regs, .clk, .hostMem, .links, .crier, .pins] t) ∧
    (¬ (s.fabricMaster = true ∧ s.inFabric = true ∧ s.on Fld.CRIER_CFG_RELAY = true) → exec .crierRelay s = .next s) ∧
    (s.fabricMaster = true → s.inFabric = true → s.on Fld.CRIER_CFG_RELAY = true → ∃ t n, exec .crierRelay s = .next t ∧ t.crier.relayed = some (n * 100000000) ∧
      (let due := s.crier.relay.filter (fun x => decide (x.2.2.1 = n * 100000000))
       t.crier.relay = s.crier.relay.filter (fun x => decide (n * 100000000 < x.2.2.1)) ∧ t.crier.relayNext = s.crier.relayNext + (if s.on Fld.HOSTIF_LINK_UP then due.length else 0) ∧ (due = [] → t.hostMem = s.hostMem)) ∧
      s.changesOnly [.clk, .hostMem, .crier] t)) ∧
  (∀ (typ i : Nat) (targets : List Nat) (s : State), typ < 5 → i < 16 →
    let word (op : Nat) : Word := BitVec.ofNat 32 (typ * 256 + i * 16 + op)
    let st := s.get (Fld.PG_STATUS_SERVICE (svcPage typ i))
    let l := targets.filter (fun c => decide (c < 8) && decide (c ≠ i) && decide (s.get (Fld.PG_STATUS_SERVICE (millPage c)) = 0))
    let posted (op status : Nat) (t : State) : Prop := t.posted Reg.FAULT_SVC_RESULT (bits (s.rd Reg.FAULT_SVC_RESULT) 24 7 + 1) (typ * 65536 + i * 4096 + op * 256 + status)
    let taken (op : Nat) (off : Bool) (t : State) : Prop := t.on Fld.FAULT_SVC_RESULT_VALID = false ∧ t.svc.cmd = some (typ * 256 + i * 16 + op, off)
    ∀ p ∈ ([(.serviceOut typ i targets, 1), (.serviceHold typ i targets, 3), (.serviceIn typ i, 2)] : List (Instr × Nat)),
      let no (e : Err) : Prop := ∃ t, exec p.1 s = .next t ∧ posted p.2 e.code t ∧ bits (t.rd (Reg.PG_LAST_ERR faultPage)) 0 8 = e.code ∧ t.svc = s.svc ∧ s.regsOutside (Reg.FAULT_SVC_RESULT :: errRegs faultPage ++ (List.range 64).map Reg.EVQn_LOST) t ∧
        s.changesOnly [.regs, .msix, .evq, .freeCells] t
      (∀ e, s.writeErr Reg.FAULT_SVC_CMD (word p.2) = some e → exec p.1 s = .next (s.reject Reg.FAULT_SVC_CMD e)) ∧
      (s.writeErr Reg.FAULT_SVC_CMD (word p.2) = none → s.on Fld.FAULT_SVC_RESULT_VALID = false → exec p.1 s = .next (s.reject Reg.FAULT_SVC_CMD .busy)) ∧
      (s.writeErr Reg.FAULT_SVC_CMD (word p.2) = none → s.on Fld.FAULT_SVC_RESULT_VALID = true →
        (svcCount typ ≤ i → no .range) ∧ (i < svcCount typ → s.devState ≠ 0 → no .state) ∧ (i < svcCount typ → s.devState = 0 → (p.2 = 2 ∧ st = 0) ∨ (p.2 ≠ 2 ∧ st ≠ 0) → no .state) ∧
        (i < svcCount typ → s.devState = 0 → p.2 ≠ 2 → st = 0 → typ = 0 → (s.moveOff i l).1 = false → no .noslot) ∧ (l = [] → (s.moveOff i l).1 = false) ∧
        (i < svcCount typ → s.devState = 0 → p.2 ≠ 2 → st = 0 → 1 ≤ typ → ∃ t, exec p.1 s = .next t ∧ taken p.2 false t ∧ (∀ g ∈ svcPages typ i, t.get (Fld.PG_CTRL_QUIESCE g) = 1)) ∧
        (i < svcCount typ → s.devState = 0 → p.2 ≠ 2 → st = 0 → typ = 0 → (s.moveOff i l).1 = true → ∃ t m, exec p.1 s = .next t ∧ t.on Fld.FAULT_SVC_RESULT_VALID = false ∧ (t.svc.cmd.map (·.1)) = some (i * 16 + p.2) ∧
          t.svc.moves = s.svc.moves ++ [m] ∧ m.from_ = i ∧ m.targets = l ∧ m.start = s.ltick + 3 ∧ m.stop = none ∧ (∀ g ∈ domPages (4 + i), g ≠ millPage i → t.get (Fld.PG_CTRL_QUIESCE g) = 1)) ∧
        (i < svcCount typ → s.devState = 0 → p.2 = 2 → st ≠ 0 → 1 ≤ typ → typ < 4 → ∃ t, exec p.1 s = .next t ∧ taken 2 false t ∧ (∀ g ∈ svcPages typ i, t.get (Fld.PG_CTRL_RESET g) = 0 ∧ t.get (Fld.PG_CTRL_ENABLE g) = 0) ∧
          ((∀ e ∈ svcEngines typ i, (s.eng e).slot = none) → (∀ a, pageOf a ∉ svcPages typ i → a ≠ Reg.FAULT_SVC_RESULT → t.rd a = s.rd a) ∧ s.changesOnly [.regs, .svc] t)) ∧
        (i < svcCount typ → s.devState = 0 → p.2 = 2 → st ≠ 0 → typ = 0 → s.get (Fld.PWR_DOMd_STATUS_STATE (4 + i)) = 2 → ∃ t, exec p.1 s = .next t ∧ taken 2 true t ∧ t.get (Fld.PWR_DOMd_STATUS_STATE (4 + i)) = 4 ∧
          (t.dom (4 + i)).phase = .write ∧ (t.dom (4 + i)).wake = true ∧ s.changesOnly [.regs, .pwr, .svc] t))) ∧
  (∀ (failed : Option (Nat × Nat)) (s : State), (s.svc.cmd = none → exec (.serviceDone failed) s = .next s) ∧
    (∀ (typ i op : Nat) (off : Bool), typ < 5 → i < svcCount typ → 1 ≤ op → op ≤ 3 → s.svc.cmd = some (typ * 256 + i * 16 + op, off) →
      let posted (status : Nat) (t : State) : Prop := t.posted Reg.FAULT_SVC_RESULT (bits (s.rd Reg.FAULT_SVC_RESULT) 24 7 + 1) (typ * 65536 + i * 4096 + op * 256 + status) ∧ t.svc.cmd = none
      let service (v : Nat) (t : State) : Prop := ∀ p ∈ svcPages typ i, t.get (Fld.PG_STATUS_SERVICE p) = v
      let ready : Prop := ¬ (typ = 0 ∧ (s.dom (4 + i)).phase ≠ .none)
      (op ≠ 2 → s.svcQuiet typ i = false → exec (.serviceDone failed) s = .next s) ∧
      (op = 3 → s.svcQuiet typ i = true → ∃ t, exec (.serviceDone failed) s = .next t ∧ posted 0 t ∧ service 1 t ∧ ∀ p ∈ svcPages typ i, t.get (Fld.PG_STATUS_QUIESCED p) = 1) ∧
      (op = 1 → s.svcQuiet typ i = true → ∃ t, exec (.serviceDone failed) s = .next t ∧ posted 0 t ∧ service (if typ = 0 then 3 else 1) t ∧ (typ = 0 → t.get (Fld.PWR_DOMd_STATUS_STATE (4 + i)) = 2) ∧
        (typ = 4 → t.linkState i = 0)) ∧
      (op = 2 → ¬ ready → exec (.serviceDone failed) s = .next s) ∧
      (op = 2 → ready → typ = 0 → s.get (Fld.PWR_DOMd_STATUS_STATE (4 + i)) = 3 → ∃ t, exec (.serviceDone failed) s = .next t ∧ posted Err.state.code t) ∧
      (∀ e chunk, op = 2 → ready → ¬ (typ = 0 ∧ s.get (Fld.PWR_DOMd_STATUS_STATE (4 + i)) = 3) → failed = some (e, chunk) → e ∈ svcEngines typ i → ∃ t, exec (.serviceDone failed) s = .next t ∧ posted Err.state.code t ∧
        (off = true → typ = 0 → t.get (Fld.PWR_DOMd_STATUS_STATE (4 + i)) = 2)) ∧
      (op = 2 → ready → ¬ (typ = 0 ∧ s.get (Fld.PWR_DOMd_STATUS_STATE (4 + i)) = 3) → failed = none → (typ = 4 → s.linkState i = 3) → ∃ t, exec (.serviceDone failed) s = .next t ∧ posted 0 t ∧ service 0 t ∧
        (∀ p ∈ svcPages typ i, t.get (Fld.PG_CTRL_QUIESCE p) = 0) ∧ (∀ e ∈ svcEngines typ i, (t.eng e).faults = [] ∧ (t.eng e).retired = false)) ∧
      (op = 2 → failed = none → typ = 4 → s.linkState i ≠ 3 → ∃ t, exec (.serviceDone failed) s = .next t ∧ posted Err.state.code t))) ∧
  (∀ (flow : Nat) (s : State), (s.svc.copying.find? (fun x => decide (x.1 = flow)) = none → exec (.millContextCopyDone flow) s = .next s) ∧
    (∀ x, s.svc.copying.find? (fun x => decide (x.1 = flow)) = some x → (s.tasks.any (fun t => decide (t.2.flow = x.2.1) && decide (t.2.tick < x.2.2)) = true → exec (.millContextCopyDone flow) s = .next s) ∧
      (s.tasks.any (fun t => decide (t.2.flow = x.2.1) && decide (t.2.tick < x.2.2)) = false →
        exec (.millContextCopyDone flow) s = .next { s with svc := { s.svc with copying := s.svc.copying.filter (fun y => decide (y.1 ≠ flow)) } }))) ∧
  (∀ s : State,
    let w (op : Nat) : Word := BitVec.ofNat 32 op
    let a := s.rd64 Reg.FAULT_FW_ADDR_LO
    let f := s.readImage a
    let bad : Err → Prop := fun e =>
      if f.magicOk = false then e = .reserved
      else if f.bodyLen % 4096 ≠ 0 ∨ 2 ^ 25 < f.bodyLen ∨ 63 < f.svn ∨ f.svn < s.get Fld.ALARM_BOOT_COUNTER then e = .range
      else (f.signed = false ∨ f.hashOk = false ∨ bit s.flash.revoked f.root = true ∨ s.inMedia a (512 + f.bodyLen) = true) ∧ e = .conflict
    let good : Prop := f.magicOk = true ∧ f.bodyLen % 4096 = 0 ∧ f.bodyLen ≤ 2 ^ 25 ∧ f.svn ≤ 63 ∧ s.get Fld.ALARM_BOOT_COUNTER ≤ f.svn ∧ f.signed = true ∧ f.hashOk = true ∧ bit s.flash.revoked f.root = false ∧
      s.inMedia a (512 + f.bodyLen) = false
    let pending (t : State) : Prop := t.on Fld.FAULT_FW_RESULT_VALID = false
    let posted (op status : Nat) (t : State) : Prop := t.posted Reg.FAULT_FW_RESULT (bits (s.rd Reg.FAULT_FW_RESULT) 24 7 + 1) (op * 256 + status)
    (∀ p ∈ ([(.fwStage, 1), (.fwActivate, 2)] : List (Instr × Nat)), (∀ e, s.writeErr Reg.FAULT_FW_CMD (w p.2) = some e → exec p.1 s = .next (s.reject Reg.FAULT_FW_CMD e)) ∧
      (s.writeErr Reg.FAULT_FW_CMD (w p.2) = none → s.on Fld.FAULT_FW_RESULT_VALID = false → exec p.1 s = .next (s.reject Reg.FAULT_FW_CMD .busy))) ∧
    (s.writeErr Reg.FAULT_FW_CMD (w 1) = none → s.on Fld.FAULT_FW_RESULT_VALID = true →
      (∀ e, bad e → ∃ t, exec .fwStage s = .next t ∧ pending t ∧ t.svc = { s.svc with fwStage := some (f, e.code) } ∧ t.flash = s.flash ∧ s.changesOnly [.regs, .svc] t) ∧
      (good → ∃ t, exec .fwStage s = .next t ∧ pending t ∧ t.svc = { s.svc with fwStage := some (f, 0) } ∧ t.otherImage = none ∧ t.runningImage = s.runningImage ∧ s.changesOnly [.regs, .flash, .svc] t)) ∧
    (s.svc.fwStage = none → exec .fwStaged s = .next s) ∧
    (∀ g, s.svc.fwStage = some (g, 0) → ∃ t, exec .fwStaged s = .next t ∧ posted 1 0 t ∧ t.otherImage = some g ∧ t.runningImage = s.runningImage ∧ t.get Fld.ALARM_BOOT_OTHER_VALID = 1 ∧ t.svc = { s.svc with fwStage := none }) ∧
    (∀ g c, s.svc.fwStage = some (g, c) → c ≠ 0 → c < 256 → ∃ t, exec .fwStaged s = .next t ∧ posted 1 c t ∧ t.flash = s.flash ∧ bits (t.rd (Reg.PG_LAST_ERR faultPage)) 0 8 = c ∧ t.svc = { s.svc with fwStage := none }) ∧
    (s.writeErr Reg.FAULT_FW_CMD (w 2) = none → s.on Fld.FAULT_FW_RESULT_VALID = true →
      let valid (g : FwImage) : Prop := s.otherImage = some g ∧ s.imageValid g = true
      (s.twinJunior = true → ∃ t, exec .fwActivate s = .next t ∧ posted 2 Err.twin.code t ∧ t.svc = s.svc) ∧
      (s.twinJunior = false → (∀ g, ¬ valid g) → ∃ t, exec .fwActivate s = .next t ∧ posted 2 Err.state.code t ∧ t.svc = s.svc) ∧
      (∀ g, s.twinJunior = false → valid g → let at_ := (s.lnow + 100000000 + 999999) / 1000000
        ∃ t, exec .fwActivate s = .next t ∧ pending t ∧ t.svc = { s.svc with fwActive := some (at_, g) } ∧ t.rd64 Reg.FAULT_FW_EFFECT_LO = at_ % 2 ^ 64 ∧ t.flash = s.flash))) ∧
  (∀ (cause obj : Nat) (s : State),
    let known : Prop := 1 ≤ cause ∧ cause ≤ 6
    let fatal (k : Nat) (t : State) : Prop := t.fatalAt = some s.now ∧ t.get Fld.FAULT_FATAL_CAUSE = k ∧ t.get Fld.DUMP_STATUS_STATE = (if k = 1 ∨ k = 5 ∨ s.on Fld.DUMP_CFG_ENABLE = false then 4 else 1) ∧
      t.get Fld.FAULT_FATAL_FAULT_N = (if k = 1 ∨ k = 5 then 1 else s.get Fld.FAULT_FATAL_FAULT_N) ∧ t.hasEvent faultPage 1 ∧ s.regsOutside [Reg.DUMP_STATUS, Reg.FAULT_FATAL, Reg.PG_EVENT faultPage] t ∧ s.changesOnly [.regs, .msix, .faultLog, .fatalAt, .uart] t
    (¬ known ∨ s.fatalAt.isSome = true → exec (.deviceFatal cause obj) s = .next s) ∧ (s.fatalAt.isSome = true → exec .epanisWatchdog s = .next s) ∧
    (known → s.fatalAt = none → ∃ t, exec (.deviceFatal cause obj) s = .next t ∧ fatal cause t) ∧ (s.fatalAt = none → ∃ t, exec .epanisWatchdog s = .next t ∧ fatal 1 t)) ∧
  (∀ (ok : Bool) (s : State),
    let base := s.get Fld.GLOBAL_MEDIA_BASE * 2 ^ 30
    (s.get Fld.DUMP_STATUS_STATE ≠ 1 → exec (.dumpComplete ok) s = .next s) ∧
    (s.get Fld.DUMP_STATUS_STATE = 1 → ok = true → s.on Fld.HOSTIF_LINK_UP = true → ∃ t, exec (.dumpComplete ok) s = .next t ∧ t.hostMem = s.hostMem.writeList (s.rd64 Reg.DUMP_ADDR_LO) s.dumpBytes ∧ t.get Fld.DUMP_STATUS_STATE = 2 ∧
      t.get Fld.FAULT_FATAL_FAULT_N = 1 ∧ s.regsOutside [Reg.DUMP_STATUS, Reg.FAULT_FATAL] t ∧ s.changesOnly [.regs, .hostMem] t) ∧
    (s.get Fld.DUMP_STATUS_STATE = 1 → ok = false ∨ s.on Fld.HOSTIF_LINK_UP = false → ∃ t, exec (.dumpComplete ok) s = .next t ∧ t.dram = s.dram.writeList base s.dumpBytes ∧ t.get Fld.DUMP_STATUS_STATE = 3 ∧
      t.rd64 Reg.DUMP_LOCAL_LO = base % 2 ^ 64 ∧ t.get Fld.FAULT_FATAL_FAULT_N = 1 ∧ s.regsOutside [Reg.DUMP_STATUS, Reg.DUMP_LOCAL_LO, Reg.DUMP_LOCAL_HI, Reg.FAULT_FATAL] t ∧ s.changesOnly [.regs, .dram, .poisoned] t) ∧
    (s.fatalAt = none → exec .fatalDeadline s = .next s) ∧ (∀ t0, s.fatalAt = some t0 → ∃ t, exec .fatalDeadline s = .next t ∧ t.get Fld.FAULT_FATAL_FAULT_N = 1 ∧ (t0 + 100000000 < 2 ^ 48 * 1000000000 → t.now = Nat.max s.now (t0 + 100000000)) ∧
      s.regsOutside [Reg.FAULT_FATAL] t ∧ s.changesOnly [.regs, .clk] t)) ∧
  (∀ s : State,
    (s.linked Reg.FAULT_LOG_POP = false ∨ s.inReset Reg.FAULT_LOG_POP = true → exec .faultLogPop s = .next { s with readData := 0 }) ∧
    (s.linked Reg.FAULT_LOG_POP = true → s.inReset Reg.FAULT_LOG_POP = false →
      (s.faultLog.entries = [] → exec .faultLogPop s = .next { s with readData := 0 }) ∧
      (∀ e l, s.faultLog.entries = e :: l → l.length < 2 ^ 24 → ∃ t, exec .faultLogPop s = .next t ∧ bits t.readData 31 1 = 1 ∧ bits t.readData 30 1 = b2n s.faultLog.lostFlag ∧ bits t.readData 0 24 = l.length ∧
        t.faultLog = { s.faultLog with entries := l, lostFlag := false } ∧ (∀ w, w < 8 → t.rd (Reg.FAULT_LOGWw w) = BitVec.ofNat 32 (e / 2 ^ (32 * w))) ∧ s.regsOutside ((List.range 8).map Reg.FAULT_LOGWw) t ∧
        s.changesOnly [.regs, .readData, .faultLog] t))) ∧
  (∀ (temp : Int) (s : State),
    let hour := 3600 * 2 ^ 32
    let total (t : State) : Nat := t.get Fld.FAULT_LIFE_HOURS * hour + t.crier.lifeFrac
    (∃ t, exec (.lifeAccumulate temp) s = .next t ∧ t.pins = { s.pins with tempMax := temp, hot := decide (1000 < temp) } ∧ t.crier.lifeFrac < hour ∧ (total s + lifeOf temp < 2 ^ 32 * hour → total t = total s + lifeOf temp) ∧
      s.regsOutside [Reg.FAULT_LIFE] t ∧ s.changesOnly [.regs, .clk, .crier, .pins] t) ∧
    (∀ k : Nat, lifeOf (950 + 100 * (k : Int)) = 2 ^ 32 * 2 ^ k) ∧ (∀ k : Nat, k ≤ 32 → lifeOf (950 - 100 * (k : Int)) * 2 ^ k = 2 ^ 32) ∧
    exec .lifeSave s = .next { s with flash := { s.flash with life := s.get Fld.FAULT_LIFE_HOURS } })

/-- RESET_N low for 10 µs and power-on reset leave every register at its reset value but the life total and the anti-rollback counter, and keep flash; below 1 µs nothing happens, and between it is one or the other. Its release samples the straps and starts the clock at 0. A warm reset with the right key keeps what R471 keeps and boots
from step 3 with every page OUT_OF_SERVICE; a wrong key, FAULT_N or an alarm rejects it. PERST_N acts as a Function Level Reset with loss of the link. Each boot step ends as R473 says: it fails with FAIL_STAGE, STAGE FAILED and FAULT_N, or goes on with what it found; the last leaves pages IN_SERVICE but those of domains that do not wake. GO starts the check of a
recovery image in RECOVERY_WAIT. SMBus returns the contents of its table, only the temperature and the alarm status while RESET_N is low; JTAG takes an instruction's register, IDCODE the REV; a new highest reading drives GPIO0. DRAM after a reset reads as memory nothing has written (log entry 6), and PRESUMED are the alert response's
byte and BYPASS capturing 0.
Choices of the model where the rules leave room: log entries 3, 136 to 141. -/
def Obligations.ResetsBootAndSidePorts : Prop :=
  (∀ (low : Nat) (s : State),
    let fresh (hours : Nat) (t : State) : Prop := t.boot = { held := true, perst := s.boot.perst } ∧ t.flash = s.flash ∧ t.hostMem = s.hostMem ∧ t.pins = { s.pins with smbus := none } ∧ t.pending = s.pending ∧
      (∀ a, a ≠ Reg.FAULT_LIFE → a ≠ Reg.ALARM_BOOT → t.rd a = resetWord a) ∧ t.get Fld.FAULT_LIFE_HOURS = hours % 2 ^ 32 ∧ t.get Fld.ALARM_BOOT_COUNTER = s.get Fld.ALARM_BOOT_COUNTER ∧
      State.reset.changesOnly [.regs, .boot, .pins, .crier, .flash, .hostMem, .free, .pending] t
    let hours := s.get Fld.FAULT_LIFE_HOURS
    (10000 ≤ low → ∃ t, exec (.resetNAssert low) s = .next t ∧ fresh hours t ∧ t.free = s.free ∧ t.crier = { lifeFrac := s.crier.lifeFrac }) ∧ (low < 1000 → exec (.resetNAssert low) s = .next s) ∧
    (1000 ≤ low → low < 10000 → ∃ t, exec (.resetNAssert low) s = .next t ∧ (t = { s with free := s.free + 1 } ∨ (fresh hours t ∧ t.free = s.free + 1))) ∧
    (∃ t, exec .powerOnReset s = .next t ∧ fresh s.flash.life t ∧ t.crier = {})) ∧
  (∀ (p : Straps) (s : State), (s.boot.held = false → exec (.resetNRelease p) s = .next s) ∧
    (s.boot.held = true → ∃ t, exec (.resetNRelease p) s = .next t ∧ t.now = 0 ∧ t.boot = { s.boot with held := false } ∧ t.get Fld.GLOBAL_STRAPS_BOOT_SEL = p.bootSel % 4 ∧ t.on Fld.GLOBAL_STRAPS_TWIN_EN = p.twinEn ∧
      t.on Fld.GLOBAL_STRAPS_TWIN_SENIOR = p.twinSenior ∧ t.on Fld.GLOBAL_STRAPS_FABRIC_MASTER = p.fabricMaster ∧ s.regsOutside [Reg.GLOBAL_STRAPS] t ∧ s.changesOnly [.regs, .clk, .boot] t)) ∧
  (∀ (key : Nat) (s : State), key < 256 →
    let no (e : Err) : Prop := exec (.warmReset key) s = .next (s.reject Reg.GLOBAL_RESET e)
    let w : Word := BitVec.ofNat 32 (key * 256 + 1)
    (∀ e, s.writeErr Reg.GLOBAL_RESET w = some e → no e) ∧
    (s.writeErr Reg.GLOBAL_RESET w = none → (key ≠ 90 → no .reserved) ∧ (key = 90 → s.on Fld.FAULT_FATAL_FAULT_N = true ∨ s.latched = true → no .state) ∧
      (key = 90 → s.on Fld.FAULT_FATAL_FAULT_N = false → s.latched = false → ∃ t, exec (.warmReset key) s = .next t ∧ t.get Fld.GLOBAL_BOOT_STAGE = 2 ∧ t.clk = s.clk ∧ t.bel = s.bel ∧ t.flash = s.flash ∧ t.hostMem = s.hostMem ∧ t.pins = s.pins ∧
        (∀ a, a ≠ Reg.GLOBAL_BOOT → a ≠ Reg.ALARM_HEALTH → (∀ p ∈ allPages, islandOf p = 0 → a ≠ Reg.PG_STATUS p) → t.rd a = if warmKeeps a then s.rd a else resetWord a) ∧
        (∀ p ∈ allPages, t.get (Fld.PG_STATUS_SERVICE p) = 1) ∧ t.sec = { drbg := s.sec.drbg } ∧ t.get Fld.ALARM_HEALTH_RESEEDS = (s.get Fld.ALARM_HEALTH_RESEEDS + 1) % 2 ^ 16 ∧ (Sparse.wf (fun _ => ({} : Ddr)) s.ddr = true → ∀ n, (t.chan n).ce = (s.chan n).ce ∧ (t.chan n).second = (s.chan n).second) ∧
        State.reset.changesOnly [.regs, .clk, .bel, .free, .msix, .hostMem, .ddr, .flash, .sec, .boot, .crier, .pins, .uart, .pending] t))) ∧
  (∀ s : State, exec .perstNRelease s = .next { s with boot := { s.boot with perst := false } } ∧
    ∃ t, exec .perstNAssert s = .next t ∧ t.boot = { s.boot with perst := true } ∧ t.on Fld.HOSTIF_LINK_UP = false ∧ (∀ c, c < 32 → t.dmaState c = 0 ∧ t.dmaCh c = {}) ∧ t.rd Reg.HOSTIF_WIN = resetWord Reg.HOSTIF_WIN ∧
      (∀ p ∈ allPages, t.rd (Reg.PG_MSIX p) = resetWord (Reg.PG_MSIX p)) ∧ t.msix.enable = false ∧ t.msix.unmasked = [] ∧ t.get Fld.HOSTIF_LINK_DOWN_COUNT = (s.get Fld.HOSTIF_LINK_DOWN_COUNT + b2n (s.on Fld.HOSTIF_LINK_UP)) % 2 ^ 16 ∧
      s.changesOnly [.regs, .msix, .evq, .freeCells, .taps, .boot, .dma] t) ∧
  (∀ (f : BootFacts) (s : State),
    let st := s.get Fld.GLOBAL_BOOT_STAGE
    let runs (k : Nat) : Prop := s.boot.held = false ∧ st = k ∧ f.ok = true ∧ ¬ (st = 3 ∧ s.boot.checking = true)
    let ends (facts : State → Prop) : Prop := ∃ t, exec (.bootStageComplete f) s = .next t ∧ facts t
    let fails (t : State) : Prop := t.get Fld.GLOBAL_BOOT_STAGE = 15 ∧ t.get Fld.GLOBAL_BOOT_FAIL_STAGE = st ∧ t.get Fld.FAULT_FATAL_FAULT_N = 1
    let stage (k : Nat) (t : State) : Prop := t.get Fld.GLOBAL_BOOT_STAGE = k ∧ t.get Fld.GLOBAL_BOOT_FAIL_STAGE = s.get Fld.GLOBAL_BOOT_FAIL_STAGE
    let recovery : Prop := s.get Fld.GLOBAL_STRAPS_BOOT_SEL = 2
    let good (b : Bool) (x : FwImage) : Prop := (if b then s.flash.imageB else s.flash.imageA) = some x ∧ s.imageValid x = true
    let channels := f.training.filter (fun x => decide (x.1 < 8))
    (s.boot.held = true ∨ 8 ≤ st → exec (.bootStageComplete f) s = .next s) ∧
    (s.boot.held = false → st < 8 → f.ok = false → ¬ (st = 3 ∧ s.boot.checking = true) → ends (fun t => fails t ∧ s.regsOutside [Reg.GLOBAL_BOOT, Reg.FAULT_FATAL] t ∧ s.changesOnly [.regs, .uart] t)) ∧
    (runs 0 → s.get Fld.GLOBAL_STRAPS_BOOT_SEL % 2 = 1 → ends (fun t => stage 0 t ∧ t.get Fld.FAULT_FATAL_FAULT_N = 1 ∧ s.regsOutside [Reg.FAULT_FATAL] t ∧ s.changesOnly [.regs] t)) ∧
    (runs 0 → s.get Fld.GLOBAL_STRAPS_BOOT_SEL % 2 = 0 → ends (fun t => stage 1 t ∧ s.regsOutside [Reg.GLOBAL_BOOT] t ∧ s.changesOnly [.regs, .pwr, .uart] t)) ∧
    (runs 1 → ends (fun t => stage 2 t ∧ t.sec = { s.sec with drbg := true } ∧ s.regsOutside [Reg.GLOBAL_BOOT, Reg.ALARM_HEALTH] t ∧ s.changesOnly [.regs, .sec, .uart] t)) ∧
    (runs 2 → s.flash.board = none → ends fails) ∧
    (∀ c one, runs 2 → s.flash.board = some (c, one) → c.geom < 4 → ends (fun t => (recovery → stage 4 t) ∧ (¬ recovery → stage 3 t) ∧ (∀ n, n < 8 → t.get (Fld.DDRCn_STATUS_GEOM n) = c.geom) ∧ t.on Fld.ALARM_BOOT_PREFER_B = c.preferB ∧
      s.regsOutside ([Reg.GLOBAL_BOOT, Reg.ALARM_BOOT] ++ (List.range 8).map Reg.DDRCn_STATUS) t ∧ s.changesOnly [.regs, .uart] t)) ∧
    (let b := s.on Fld.ALARM_BOOT_PREFER_B
     let takes (x : FwImage) (k : Bool) (t : State) : Prop := stage 4 t ∧ t.boot = { s.boot with image := some x, imageB := k } ∧ t.on Fld.GLOBAL_BOOT_IMAGE_B = k ∧ s.regsOutside [Reg.GLOBAL_BOOT] t ∧ s.changesOnly [.regs, .boot, .uart] t
     (∀ x, runs 3 → good b x → ends (takes x b)) ∧ (∀ x, runs 3 → (∀ y, ¬ good b y) → good (!b) x → ends (takes x (!b))) ∧ (runs 3 → (∀ y, ¬ good b y) → (∀ y, ¬ good (!b) y) → ends fails)) ∧
    (runs 4 → channels ≠ [] → ends (fun t => fails t ∧ ∀ x ∈ channels, t.get (Fld.DDRCn_STATUS_STATE x.1) = 4)) ∧
    (∀ c one, runs 4 → channels = [] → s.flash.board = some (c, one) → ends (fun t =>
      let gib := (if s.geom = 0 then 137438953472 else 274877906944) / 2 ^ 30
      (recovery → stage 9 t) ∧ (¬ recovery → stage 5 t) ∧ t.boot = { s.boot with trained := true } ∧ (∀ n, n < 8 → t.get (Fld.DDRCn_STATUS_STATE n) = 2 ∧ t.get (Fld.DDRCn_CFG_GIB n) = gib / 8) ∧
        t.get Fld.GLOBAL_MEDIA_BASE = (gib - c.mediaGib) % 256 ∧ t.get Fld.GLOBAL_MEDIA_SIZE = c.mediaGib % 256 ∧ s.changesOnly [.regs, .boot, .uart] t)) ∧
    (runs 5 → ends (fun t => stage 6 t ∧ s.regsOutside [Reg.GLOBAL_BOOT] t ∧ s.changesOnly [.regs, .uart] t)) ∧
    (runs 6 → ends (fun t => stage 7 t ∧ t.sec = { s.sec with kek := true } ∧ t.on Fld.ALARM_BOOT_RUNNING_B = s.boot.imageB ∧ (∀ x, s.boot.image = some x → t.get Fld.ALARM_BOOT_SVN = x.svn % 2 ^ Fld.ALARM_BOOT_SVN.width) ∧
      (t.on Fld.ALARM_BOOT_OTHER_VALID = true ↔ ∃ x, good (!s.boot.imageB) x) ∧ s.regsOutside [Reg.GLOBAL_BOOT, Reg.ALARM_BOOT] t ∧ s.changesOnly [.regs, .sec, .uart] t)) ∧
    (runs 7 → 1 ∈ f.asleep ∨ 3 ∈ f.asleep → ends (fun t => fails t ∧ (s.fatalAt = none → t.get Fld.FAULT_FATAL_CAUSE = 4))) ∧
    (runs 7 → 1 ∉ f.asleep → 3 ∉ f.asleep → f.kat = [] → ends (fun t => stage 8 t ∧ (∀ p ∈ allPages, islandDomain (islandOf p) ∉ f.asleep → t.get (Fld.PG_STATUS_SERVICE p) = 0) ∧
      (∀ d ∈ f.asleep, d < 14 → t.get (Fld.PWR_DOMd_STATUS_STATE d) = 3 ∧ ∀ p ∈ domPages d, t.get (Fld.PG_STATUS_SERVICE p) = 2) ∧
      (∀ i, i < 28 → ¬ (12 ≤ i ∧ i < 20) → islandDomain i ∉ f.asleep → (t.rd Reg.CLK_LINKED).getLsbD i = true) ∧ (s.on Fld.GLOBAL_STRAPS_TWIN_EN = true → t.twinState = 1) ∧
      (∀ c, c < 8 → 4 + c ∉ f.asleep → t.clState c = 0 ∧ t.get (Fld.PWR_CLc_STATUS_OP c) = Nat.min (s.get (Fld.PWR_CLc_CTRL_CEIL c)) (s.get (Fld.PWR_CLc_STATUS_CEIL_EFF c))))) ∧
    (s.boot.held = false → st = 3 → s.boot.checking = true →
      (s.imageValid (s.readImage 0) = true → ends (fun t => stage 6 t ∧ t.boot = { s.boot with checking := false, image := some (s.readImage 0) })) ∧
      (s.imageValid (s.readImage 0) = false → ends (fun t => t.get Fld.GLOBAL_BOOT_STAGE = 9 ∧ t.get Fld.GLOBAL_BOOT_FAIL_STAGE = 3 ∧ t.boot = { s.boot with checking := false }))) ∧
    (s.writeErr Reg.GLOBAL_BOOT_CMD 1 = none →
      (s.boot.checking = true → exec .recoveryGo s = .next (s.reject Reg.GLOBAL_BOOT_CMD .busy)) ∧ (s.boot.checking = false → st ≠ 9 → exec .recoveryGo s = .next (s.reject Reg.GLOBAL_BOOT_CMD .state)) ∧
      (s.boot.checking = false → st = 9 → ∃ t, exec .recoveryGo s = .next t ∧ stage 3 t ∧ t.boot = { s.boot with checking := true } ∧ s.regsOutside [Reg.GLOBAL_BOOT] t ∧ s.changesOnly [.regs, .boot, .uart] t))) ∧
  (∀ s : State,
    let answers (i : Instr) (always : Bool) (n v : Nat) : Prop := exec i s = .next { s with pins := { s.pins with smbus := some (if s.boot.held && !always then List.replicate n (255 : Byte) else natBytes n v) } }
    answers .smbusTemperature true 2 (unsigned 16 s.pins.tempMax) ∧ answers .smbusBootStage false 1 (s.get Fld.GLOBAL_BOOT_STAGE + s.get Fld.GLOBAL_BOOT_FAIL_STAGE * 16) ∧ answers .smbusFatalCause false 1 (s.get Fld.FAULT_FATAL_CAUSE) ∧
    answers .smbusAlarmStatus true 1 (s.get Fld.ALARM_STATUS_SOURCE % 128 + s.get Fld.ALARM_STATUS_LATCHED * 128) ∧ answers .smbusPower false 2 (s.get Fld.PWR_EST_POWER) ∧ answers .smbusPart false 2 (s.get Fld.GLOBAL_REV_PART) ∧
    exec .smbusAlertResponse s = .next { s with pins := { s.pins with smbus := if s.pins.hot || s.on Fld.FAULT_FATAL_FAULT_N || s.latched then some [88] else none } }) ∧
  (∀ (balls : Nat) (temp : Int) (s : State),
    let taken (i : Instr) (ir dr : Nat) : Prop := exec i s = .next { s with pins := { s.pins with jtagIr := ir, jtagDr := dr, extest := decide (ir = 0) } }
    taken (.jtagExtest balls) 0 balls ∧ taken (.jtagSamplePreload balls) 1 balls ∧ taken .jtagIdcode 2 (s.get Fld.GLOBAL_REV_REV * 268435456 + 0x9600 * 4096 + 0x4D5 * 2 + 1) ∧ taken .jtagBypass 3 0 ∧
    exec (.highestJunctionSensorCrossing temp) s = .next { s with pins := { s.pins with tempMax := temp, hot := decide (1000 < temp) } })
end

