-- ==== Sys2Proof/Laws/Sparse.lean ====
section
/-! SUPPORT. Laws of sparse tables and memory: a read after a write, and the canonical form kept by every operation. -/

namespace Sys2Proof.Machine

variable {α : Type}

theorem Sparse.get_insert (d : Nat → α) (m : Sparse α) (k a : Nat) (v : α) : (m.insert k v).get d a = if a = k then v else m.get d a := by
  induction m with
  | nil => simp [Sparse.insert, Sparse.get]
  | cons p t ih =>
    obtain ⟨i, u⟩ := p
    simp only [Sparse.insert]
    by_cases h : k = i
    · subst h
      simp only [if_true, Sparse.get]
      split <;> rfl
    · by_cases h2 : k < i
      · simp only [if_neg h, if_pos h2, Sparse.get]
      · simp only [if_neg h, if_neg h2, Sparse.get, ih]
        by_cases h3 : a = i
        · subst h3; simp [show ¬ a = k from fun e => h e.symm]
        · simp [h3]

theorem Sparse.get_erase (d : Nat → α) (m : Sparse α) (k a : Nat) : (m.erase k).get d a = if a = k then d k else m.get d a := by
  induction m with
  | nil => simp only [Sparse.erase, Sparse.get]; split <;> simp_all
  | cons p t ih =>
    obtain ⟨i, u⟩ := p
    simp only [Sparse.erase]
    by_cases h : k = i
    · subst h
      simp only [if_true, ih, Sparse.get]
      split <;> rfl
    · simp only [if_neg h, Sparse.get, ih]
      by_cases h3 : a = i
      · subst h3; simp [show ¬ a = k from fun e => h e.symm]
      · simp [h3]

/-- A read after a write. -/
@[simp] theorem Sparse.get_set [DecidableEq α] (d : Nat → α) (m : Sparse α) (k a : Nat) (v : α) : (m.set d k v).get d a = if a = k then v else m.get d a := by
  unfold Sparse.set
  split
  · rename_i h; rw [Sparse.get_erase, h]
  · exact Sparse.get_insert d m k a v

theorem Sparse.get_filter (d : Nat → α) (m : Sparse α) (keep : Nat → Bool) (a : Nat) :
    Sparse.get d (m.filter (fun p => keep p.1)) a = if keep a then m.get d a else d a := by
  induction m with
  | nil => simp [Sparse.get]
  | cons p t ih =>
    obtain ⟨i, u⟩ := p
    simp only [List.filter_cons]
    by_cases h : keep i = true
    · simp only [h, if_true, Sparse.get, ih]
      by_cases h2 : a = i
      · subst h2; simp [h]
      · simp [h2]
    · rw [if_neg h, ih]
      by_cases h2 : a = i
      · subst h2; simp [h]
      · simp [Sparse.get, h2]

theorem Sparse.wfFrom_mono [DecidableEq α] (d : Nat → α) {b c : Nat} (h : c ≤ b) : ∀ m : Sparse α, Sparse.wfFrom d b m = true → Sparse.wfFrom d c m = true
  | [], _ => rfl
  | (i, v) :: t, hm => by
    simp only [Sparse.wfFrom, Bool.and_eq_true, decide_eq_true_eq] at hm ⊢
    exact ⟨⟨Nat.le_trans h hm.1.1, hm.1.2⟩, hm.2⟩

theorem Sparse.wfFrom_erase [DecidableEq α] (d : Nat → α) (k : Nat) : ∀ (m : Sparse α) (b : Nat), Sparse.wfFrom d b m = true → Sparse.wfFrom d b (m.erase k) = true
  | [], _, _ => rfl
  | (i, v) :: t, b, hm => by
    simp only [Sparse.wfFrom, Bool.and_eq_true, decide_eq_true_eq] at hm
    simp only [Sparse.erase]
    have ih := Sparse.wfFrom_erase d k t (i + 1) hm.2
    split
    · exact Sparse.wfFrom_mono d (by omega) _ ih
    · simp only [Sparse.wfFrom, Bool.and_eq_true, decide_eq_true_eq]
      exact ⟨hm.1, ih⟩

theorem Sparse.wfFrom_insert [DecidableEq α] (d : Nat → α) (k : Nat) (v : α) (hv : v ≠ d k) :
    ∀ (m : Sparse α) (b : Nat), b ≤ k → Sparse.wfFrom d b m = true → Sparse.wfFrom d b (m.insert k v) = true
  | [], b, hb, _ => by simp [Sparse.insert, Sparse.wfFrom, hb, hv]
  | (i, u) :: t, b, hb, hm => by
    simp only [Sparse.wfFrom, Bool.and_eq_true, decide_eq_true_eq, Bool.not_eq_true', decide_eq_false_iff_not] at hm
    simp only [Sparse.insert]
    split
    · rename_i h
      subst h
      simp only [Sparse.wfFrom, Bool.and_eq_true, decide_eq_true_eq, Bool.not_eq_true', decide_eq_false_iff_not]
      exact ⟨⟨hb, hv⟩, hm.2⟩
    · rename_i h
      split
      · simp only [Sparse.wfFrom, Bool.and_eq_true, decide_eq_true_eq, Bool.not_eq_true', decide_eq_false_iff_not]
        exact ⟨⟨hb, hv⟩, ⟨by omega, hm.1.2⟩, hm.2⟩
      · simp only [Sparse.wfFrom, Bool.and_eq_true, decide_eq_true_eq, Bool.not_eq_true', decide_eq_false_iff_not]
        exact ⟨hm.1, Sparse.wfFrom_insert d k v hv t (i + 1) (by omega) hm.2⟩

/-- A write keeps the canonical form. -/
theorem Sparse.wf_set [DecidableEq α] (d : Nat → α) (m : Sparse α) (k : Nat) (v : α) (h : m.wf d = true) : (m.set d k v).wf d = true := by
  unfold Sparse.set Sparse.wf
  split
  · exact Sparse.wfFrom_erase d k m 0 h
  · rename_i hv; exact Sparse.wfFrom_insert d k v hv m 0 (Nat.zero_le k) h

/-- Dropping entries keeps the canonical form. -/
theorem Sparse.wf_filter [DecidableEq α] (d : Nat → α) (q : Nat × α → Bool) (m : Sparse α) (h : m.wf d = true) : Sparse.wf d (m.filter q) = true := by
  have key : ∀ (m : Sparse α) (b : Nat), Sparse.wfFrom d b m = true → Sparse.wfFrom d b (m.filter q) = true := by
    intro m
    induction m with
    | nil => intro b _; rfl
    | cons p t ih =>
      intro b hm
      obtain ⟨i, v⟩ := p
      simp only [Sparse.wfFrom, Bool.and_eq_true, decide_eq_true_eq] at hm
      simp only [List.filter_cons]
      split
      · simp only [Sparse.wfFrom, Bool.and_eq_true, decide_eq_true_eq]
        exact ⟨hm.1, ih _ hm.2⟩
      · exact Sparse.wfFrom_mono d (by omega) _ (ih _ hm.2)
  exact key m 0 h

/-! ### Memory -/

@[simp] theorem Memory.read_write (m : Memory) (a b : Nat) (v : Byte) : (m.write a v).read b = if b = a then v else m.read b := Sparse.get_set _ m a b v

theorem Memory.wf_write (m : Memory) (a : Nat) (v : Byte) (h : m.wf = true) : (m.write a v).wf = true := Sparse.wf_set _ m a v h

theorem Memory.wf_writeList (l : List Byte) : ∀ (m : Memory) (a : Nat), m.wf = true → (m.writeList a l).wf = true := by
  induction l with
  | nil => intro m a h; exact h
  | cons b t ih => intro m a h; exact ih _ _ (Memory.wf_write m a b h)

/-- A byte after a write of a list: the list's own byte inside it, the old byte outside. -/
theorem Memory.read_writeList (l : List Byte) : ∀ (m : Memory) (a b : Nat),
    (m.writeList a l).read b = if a ≤ b ∧ b < a + l.length then l.getD (b - a) 0 else m.read b := by
  induction l with
  | nil => intro m a b; rw [if_neg (by simp only [List.length_nil]; omega)]; rfl
  | cons x t ih =>
    intro m a b
    simp only [Memory.writeList, ih, Memory.read_write, List.length_cons]
    by_cases h1 : b = a
    · subst h1
      rw [if_neg (by omega), if_pos rfl, if_pos (by omega), Nat.sub_self]
      rfl
    · by_cases h2 : a + 1 ≤ b ∧ b < a + 1 + t.length
      · rw [if_pos h2, if_pos (by omega)]
        obtain ⟨k, rfl⟩ : ∃ k, b = a + 1 + k := ⟨b - (a + 1), by omega⟩
        have e1 : a + 1 + k - (a + 1) = k := by omega
        have e2 : a + 1 + k - a = k + 1 := by omega
        simp [e1, e2]
      · rw [if_neg h2, if_neg h1, if_neg (by omega)]

/-- A list reads back where it was written. -/
theorem Memory.readList_writeList (l : List Byte) (m : Memory) (a : Nat) : (m.writeList a l).readList a l.length = l := by
  have key : ∀ (n k : Nat), k + n = l.length → (m.writeList a l).readList (a + k) n = l.drop k := by
    intro n
    induction n with
    | zero => intro k h; simp [Memory.readList, List.drop_eq_nil_of_le (show l.length ≤ k by omega)]
    | succ n ih =>
      intro k h
      simp only [Memory.readList]
      rw [show a + k + 1 = a + (k + 1) by omega, ih (k + 1) (by omega), Memory.read_writeList, if_pos (by omega)]
      have e : a + k - a = k := by omega
      have hk : k < l.length := by omega
      rw [e, List.drop_eq_getElem_cons hk]
      simp [List.getD_eq_getElem?_getD, hk]
  exact key l.length 0 (by omega)

end Sys2Proof.Machine
end

