-- ==== Sys2Proof/Laws/Moves.lean ====
section
/-! SUPPORT. What an operation may change, said once for each: `Moves m s t` says that t differs from s at most in the parts of mask m, and that the tables of t
are canonical when those of s are; `Runs m s o` that the outcome o is a next state that so follows from s. -/

namespace Sys2Proof.Machine

/-- The number of a part. -/
def Part.idx (p : Part) : Nat :=
  match p with
  | .regs => 0
  | .capture => 1
  | .heldLo => 2
  | .readData => 3
  | .clk => 4
  | .bel => 5
  | .gate => 6
  | .free => 7
  | .msix => 8
  | .evq => 9
  | .queues => 10
  | .bankq => 11
  | .freeCells => 12
  | .deviceReserved => 13
  | .cross => 14
  | .dram => 15
  | .hostMem => 16
  | .keys => 17
  | .faultLog => 18
  | .pkts => 19
  | .nextPkt => 20
  | .fences => 21
  | .fetches => 22
  | .legs => 23
  | .confs => 24
  | .taps => 25
  | .tdm => 26
  | .windows => 27
  | .planes => 28
  | .vstrs => 29
  | .ostrs => 30
  | .ports => 31
  | .rxWin => 32
  | .ecomps => 33
  | .decs => 34
  | .layouts => 35
  | .twin => 36
  | .links => 37
  | .fab => 38
  | .ddr => 39
  | .weir => 40
  | .poisoned => 41
  | .dramRead => 42
  | .fatalAt => 43
  | .sec => 44
  | .flash => 45
  | .boot => 46
  | .dma => 47
  | .bar2 => 48
  | .pwr => 49
  | .svc => 50
  | .crier => 51
  | .pins => 52
  | .audio => 53
  | .legAudio => 54
  | .confAudio => 55
  | .mill => 56
  | .csram => 57
  | .kernels => 58
  | .kernelCmd => 59
  | .reeve => 60
  | .uart => 61
  | .pending => 62

/-- The part of a number. -/
def Part.ofIdx (n : Nat) : Part :=
  match n with
  | 0 => .regs
  | 1 => .capture
  | 2 => .heldLo
  | 3 => .readData
  | 4 => .clk
  | 5 => .bel
  | 6 => .gate
  | 7 => .free
  | 8 => .msix
  | 9 => .evq
  | 10 => .queues
  | 11 => .bankq
  | 12 => .freeCells
  | 13 => .deviceReserved
  | 14 => .cross
  | 15 => .dram
  | 16 => .hostMem
  | 17 => .keys
  | 18 => .faultLog
  | 19 => .pkts
  | 20 => .nextPkt
  | 21 => .fences
  | 22 => .fetches
  | 23 => .legs
  | 24 => .confs
  | 25 => .taps
  | 26 => .tdm
  | 27 => .windows
  | 28 => .planes
  | 29 => .vstrs
  | 30 => .ostrs
  | 31 => .ports
  | 32 => .rxWin
  | 33 => .ecomps
  | 34 => .decs
  | 35 => .layouts
  | 36 => .twin
  | 37 => .links
  | 38 => .fab
  | 39 => .ddr
  | 40 => .weir
  | 41 => .poisoned
  | 42 => .dramRead
  | 43 => .fatalAt
  | 44 => .sec
  | 45 => .flash
  | 46 => .boot
  | 47 => .dma
  | 48 => .bar2
  | 49 => .pwr
  | 50 => .svc
  | 51 => .crier
  | 52 => .pins
  | 53 => .audio
  | 54 => .legAudio
  | 55 => .confAudio
  | 56 => .mill
  | 57 => .csram
  | 58 => .kernels
  | 59 => .kernelCmd
  | 60 => .reeve
  | 61 => .uart
  | _ => .pending

theorem Part.ofIdx_idx (p : Part) : Part.ofIdx p.idx = p := by cases p <;> rfl

/-- The mask of a list of parts. -/
def maskOf : List Part → Nat
  | [] => 0
  | p :: t => 2 ^ p.idx ||| maskOf t

theorem maskOf_testBit (ps : List Part) (p : Part) (h : p ∉ ps) : (maskOf ps).testBit p.idx = false := by
  induction ps with
  | nil => exact Nat.zero_testBit _
  | cons q t ih =>
    simp only [List.mem_cons, not_or] at h
    rw [maskOf, Nat.testBit_or, ih h.2, Nat.testBit_two_pow, Bool.or_false, decide_eq_false_iff_not]
    intro e
    exact h.1 (by rw [← Part.ofIdx_idx p, ← Part.ofIdx_idx q, e])


/-- t differs from s in no part outside the mask, and is canonical where s is. -/
structure Moves (m : Nat) (s t : State) : Prop where
  frame : ∀ p : Part, m.testBit p.idx = false → p.same s t
  canon : s.canonical → t.canonical

/-- The outcome is a next state that follows from s in the sense of `Moves`. -/
def Runs (m : Nat) (s : State) (o : Out) : Prop := ∃ t, o = .next t ∧ Moves m s t

theorem Part.same_refl (p : Part) (s : State) : p.same s s := by cases p <;> rfl

theorem Part.same_trans {p : Part} {s t u : State} (h : p.same s t) (g : p.same t u) : p.same s u := by
  cases p <;> exact Eq.trans g h

theorem Moves.refl {m : Nat} {s : State} : Moves m s s := ⟨fun p _ => p.same_refl s, id⟩

theorem Moves.step {m m' : Nat} {s t u : State} (h : Moves m' t u) (hm : m' ||| m = m) (ht : Moves m s t) : Moves m s u :=
  ⟨fun p hp => Part.same_trans (ht.frame p hp) (h.frame p (by
    have h1 : (m' ||| m).testBit p.idx = false := by rw [hm]; exact hp
    rw [Nat.testBit_or] at h1
    exact (Bool.or_eq_false_iff.mp h1).1)), fun c => h.canon (ht.canon c)⟩

theorem Moves.ite {m : Nat} {s t u : State} {c : Prop} [Decidable c] (h : Moves m s t) (g : Moves m s u) : Moves m s (if c then t else u) := by
  split <;> assumption

theorem Moves.at2 {m : Nat} {s x : State} {α : Type} {e : α × State} {a : α} (q : e = (a, x)) (h : Moves m s e.2) : Moves m s x := by rw [q] at h; exact h

theorem Moves.at1 {m : Nat} {s x : State} {α : Type} {e : State × α} {a : α} (q : e = (x, a)) (h : Moves m s e.1) : Moves m s x := by rw [q] at h; exact h

theorem Moves.at22 {m : Nat} {s x : State} {α β : Type} {e : α × β × State} {a : α} {b : β} (q : e = (a, b, x)) (h : Moves m s e.2.2) : Moves m s x := by
  rw [q] at h; exact h

theorem Moves.foldl {m : Nat} {β : Type} {f : State → β → State} {l : List β} {s u : State} (h : ∀ x y, Moves m x (f x y)) (hu : Moves m s u) :
    Moves m s (l.foldl f u) := by
  induction l generalizing u with
  | nil => exact hu
  | cons y t ih => exact ih ((h u y).step (Nat.or_self m) hu)

theorem Moves.forUpTo {m : Nat} {f : Nat → State → State} {n : Nat} {s u : State} (h : ∀ i x, Moves m x (f i x)) (hu : Moves m s u) :
    Moves m s (forUpTo n f u) := Moves.foldl (fun x i => h i x) hu

theorem Moves.forEach {m : Nat} {α : Type} {f : α → State → State} {l : List α} {s u : State} (h : ∀ i x, Moves m x (f i x)) (hu : Moves m s u) :
    Moves m s (forEach l f u) := Moves.foldl (fun x i => h i x) hu

theorem Moves.foldlVia {m : Nat} {β γ : Type} (v : γ → State) {f : γ → β → γ} {l : List β} {s : State} {u : γ} (h : ∀ x y, Moves m (v x) (v (f x y)))
    (hu : Moves m s (v u)) : Moves m s (v (l.foldl f u)) := by
  induction l generalizing u with
  | nil => exact hu
  | cons y t ih => exact ih ((h u y).step (Nat.or_self m) hu)

theorem Moves.foldl2 {m : Nat} {β α : Type} {f : α × State → β → α × State} {l : List β} {s : State} {u : α × State} (h : ∀ x y, Moves m x.2 (f x y).2)
    (hu : Moves m s u.2) : Moves m s (l.foldl f u).2 := Moves.foldlVia (fun p : α × State => p.2) h hu

theorem Moves.foldl1 {m : Nat} {β α : Type} {f : State × α → β → State × α} {l : List β} {s : State} {u : State × α} (h : ∀ x y, Moves m x.1 (f x y).1)
    (hu : Moves m s u.1) : Moves m s (l.foldl f u).1 := Moves.foldlVia (fun p : State × α => p.1) h hu

theorem Moves.foldl22 {m : Nat} {β α γ : Type} {f : α × γ × State → β → α × γ × State} {l : List β} {s : State} {u : α × γ × State}
    (h : ∀ x y, Moves m x.2.2 (f x y).2.2) (hu : Moves m s u.2.2) : Moves m s (l.foldl f u).2.2 := Moves.foldlVia (fun p : α × γ × State => p.2.2) h hu

/-- The frame over a list of parts. -/
theorem Moves.only {m : Nat} {s t : State} {ps : List Part} (h : Moves m s t) (e : maskOf ps = m) : s.changesOnly ps t :=
  fun p hp => h.frame p (by rw [← e]; exact maskOf_testBit ps p hp)

theorem Runs.next {m : Nat} {s t : State} (h : Moves m s t) : Runs m s (.next t) := ⟨t, rfl, h⟩

theorem Runs.at {m : Nat} {s t : State} {o : Out} (q : o = .next t) (h : Runs m s o) : Moves m s t := by
  obtain ⟨u, hu, g⟩ := h
  rw [q] at hu
  cases hu
  exact g

theorem Runs.ite {m : Nat} {s : State} {o p : Out} {c : Prop} [Decidable c] (h : Runs m s o) (g : Runs m s p) : Runs m s (if c then o else p) := by
  split <;> assumption

theorem Runs.step {m m' : Nat} {s t : State} {o : Out} (h : Runs m' t o) (hm : m' ||| m = m) (ht : Moves m s t) : Runs m s o := by
  obtain ⟨u, rfl, hu⟩ := h
  exact ⟨u, rfl, hu.step hm ht⟩

/-! ### Single updates of the state -/

theorem Moves.set_regs (s : State) (x : Sparse Word) (h : s.canonical → Sparse.wf resetWord x = true) : Moves 1 s { s with regs := x } :=
  ⟨fun p hp => by cases p <;> first | rfl | exact absurd hp (by decide), fun c => ⟨h c, c.2.1, c.2.2⟩⟩

theorem Moves.set_dram (s : State) (x : Memory) (h : s.canonical → x.wf = true) : Moves 32768 s { s with dram := x } :=
  ⟨fun p hp => by cases p <;> first | rfl | exact absurd hp (by decide), fun c => ⟨c.1, h c, c.2.2⟩⟩

theorem Moves.set_hostMem (s : State) (x : Memory) (h : s.canonical → x.wf = true) : Moves 65536 s { s with hostMem := x } :=
  ⟨fun p hp => by cases p <;> first | rfl | exact absurd hp (by decide), fun c => ⟨c.1, c.2.1, h c⟩⟩

theorem Moves.set_capture (s : State) (x1) : Moves 2 s { s with capture := x1 } :=
  ⟨fun p hp => by cases p <;> first | rfl | exact absurd hp (by decide), id⟩

theorem Moves.set_heldLo (s : State) (x1) : Moves 4 s { s with heldLo := x1 } :=
  ⟨fun p hp => by cases p <;> first | rfl | exact absurd hp (by decide), id⟩

theorem Moves.set_readData (s : State) (x1) : Moves 8 s { s with readData := x1 } :=
  ⟨fun p hp => by cases p <;> first | rfl | exact absurd hp (by decide), id⟩

theorem Moves.set_readData_faultLog (s : State) (x1 y1) : Moves 262152 s { s with readData := x1, faultLog := y1 } :=
  ⟨fun p hp => by cases p <;> first | rfl | exact absurd hp (by decide), id⟩

theorem Moves.set_readData_fences (s : State) (x1 y1) : Moves 2097160 s { s with readData := x1, fences := y1 } :=
  ⟨fun p hp => by cases p <;> first | rfl | exact absurd hp (by decide), id⟩

theorem Moves.set_clk (s : State) (x1) : Moves 16 s { s with clk := x1 } :=
  ⟨fun p hp => by cases p <;> first | rfl | exact absurd hp (by decide), id⟩

theorem Moves.set_clk_boot (s : State) (x1 y1) : Moves 70368744177680 s { s with clk := x1, boot := y1 } :=
  ⟨fun p hp => by cases p <;> first | rfl | exact absurd hp (by decide), id⟩

theorem Moves.set_bel (s : State) (x1) : Moves 32 s { s with bel := x1 } :=
  ⟨fun p hp => by cases p <;> first | rfl | exact absurd hp (by decide), id⟩

theorem Moves.set_gate (s : State) (x1) : Moves 64 s { s with gate := x1 } :=
  ⟨fun p hp => by cases p <;> first | rfl | exact absurd hp (by decide), id⟩

theorem Moves.set_gate_keys_legs_confs_taps_vstrs_ostrs (s : State) (x1 y1 z1 u1 v1 w1 a1) : Moves 1669464128 s { s with gate := x1, keys := y1, legs := z1, confs := u1, taps := v1, vstrs := w1, ostrs := a1 } :=
  ⟨fun p hp => by cases p <;> first | rfl | exact absurd hp (by decide), id⟩

theorem Moves.set_gate_legs_confs_taps_vstrs_ostrs_rxWin_ecomps_decs_layouts_audio_legAudio_confAudio (s : State) (x1 y1 z1 u1 v1 w1 a1 b1 c1 d1 e1 f1 g1) : Moves 63050460877029440 s { s with gate := x1, legs := y1, confs := z1, taps := u1, vstrs := v1, ostrs := w1, rxWin := a1, ecomps := b1, decs := c1, layouts := d1, audio := e1, legAudio := f1, confAudio := g1 } :=
  ⟨fun p hp => by cases p <;> first | rfl | exact absurd hp (by decide), id⟩

theorem Moves.set_free (s : State) (x1) : Moves 128 s { s with free := x1 } :=
  ⟨fun p hp => by cases p <;> first | rfl | exact absurd hp (by decide), id⟩

theorem Moves.set_msix (s : State) (x1) : Moves 256 s { s with msix := x1 } :=
  ⟨fun p hp => by cases p <;> first | rfl | exact absurd hp (by decide), id⟩

theorem Moves.set_evq (s : State) (x1) : Moves 512 s { s with evq := x1 } :=
  ⟨fun p hp => by cases p <;> first | rfl | exact absurd hp (by decide), id⟩

theorem Moves.set_evq_freeCells (s : State) (x1 y1) : Moves 4608 s { s with evq := x1, freeCells := y1 } :=
  ⟨fun p hp => by cases p <;> first | rfl | exact absurd hp (by decide), id⟩

theorem Moves.set_queues (s : State) (x1) : Moves 1024 s { s with queues := x1 } :=
  ⟨fun p hp => by cases p <;> first | rfl | exact absurd hp (by decide), id⟩

theorem Moves.set_queues_freeCells (s : State) (x1 y1) : Moves 5120 s { s with queues := x1, freeCells := y1 } :=
  ⟨fun p hp => by cases p <;> first | rfl | exact absurd hp (by decide), id⟩

theorem Moves.set_bankq (s : State) (x1) : Moves 2048 s { s with bankq := x1 } :=
  ⟨fun p hp => by cases p <;> first | rfl | exact absurd hp (by decide), id⟩

theorem Moves.set_freeCells (s : State) (x1) : Moves 4096 s { s with freeCells := x1 } :=
  ⟨fun p hp => by cases p <;> first | rfl | exact absurd hp (by decide), id⟩

theorem Moves.set_deviceReserved (s : State) (x1) : Moves 8192 s { s with deviceReserved := x1 } :=
  ⟨fun p hp => by cases p <;> first | rfl | exact absurd hp (by decide), id⟩

theorem Moves.set_cross (s : State) (x1) : Moves 16384 s { s with cross := x1 } :=
  ⟨fun p hp => by cases p <;> first | rfl | exact absurd hp (by decide), id⟩

theorem Moves.set_keys (s : State) (x1) : Moves 131072 s { s with keys := x1 } :=
  ⟨fun p hp => by cases p <;> first | rfl | exact absurd hp (by decide), id⟩

theorem Moves.set_faultLog (s : State) (x1) : Moves 262144 s { s with faultLog := x1 } :=
  ⟨fun p hp => by cases p <;> first | rfl | exact absurd hp (by decide), id⟩

theorem Moves.set_pkts (s : State) (x1) : Moves 524288 s { s with pkts := x1 } :=
  ⟨fun p hp => by cases p <;> first | rfl | exact absurd hp (by decide), id⟩

theorem Moves.set_pkts_nextPkt (s : State) (x1 y1) : Moves 1572864 s { s with pkts := x1, nextPkt := y1 } :=
  ⟨fun p hp => by cases p <;> first | rfl | exact absurd hp (by decide), id⟩

theorem Moves.set_nextPkt (s : State) (x1) : Moves 1048576 s { s with nextPkt := x1 } :=
  ⟨fun p hp => by cases p <;> first | rfl | exact absurd hp (by decide), id⟩

theorem Moves.set_fences (s : State) (x1) : Moves 2097152 s { s with fences := x1 } :=
  ⟨fun p hp => by cases p <;> first | rfl | exact absurd hp (by decide), id⟩

theorem Moves.set_fetches (s : State) (x1) : Moves 4194304 s { s with fetches := x1 } :=
  ⟨fun p hp => by cases p <;> first | rfl | exact absurd hp (by decide), id⟩

theorem Moves.set_legs (s : State) (x1) : Moves 8388608 s { s with legs := x1 } :=
  ⟨fun p hp => by cases p <;> first | rfl | exact absurd hp (by decide), id⟩

theorem Moves.set_legs_twin (s : State) (x1 y1) : Moves 68727865344 s { s with legs := x1, twin := y1 } :=
  ⟨fun p hp => by cases p <;> first | rfl | exact absurd hp (by decide), id⟩

theorem Moves.set_confs (s : State) (x1) : Moves 16777216 s { s with confs := x1 } :=
  ⟨fun p hp => by cases p <;> first | rfl | exact absurd hp (by decide), id⟩

theorem Moves.set_taps (s : State) (x1) : Moves 33554432 s { s with taps := x1 } :=
  ⟨fun p hp => by cases p <;> first | rfl | exact absurd hp (by decide), id⟩

theorem Moves.set_tdm (s : State) (x1) : Moves 67108864 s { s with tdm := x1 } :=
  ⟨fun p hp => by cases p <;> first | rfl | exact absurd hp (by decide), id⟩

theorem Moves.set_windows (s : State) (x1) : Moves 134217728 s { s with windows := x1 } :=
  ⟨fun p hp => by cases p <;> first | rfl | exact absurd hp (by decide), id⟩

theorem Moves.set_planes (s : State) (x1) : Moves 268435456 s { s with planes := x1 } :=
  ⟨fun p hp => by cases p <;> first | rfl | exact absurd hp (by decide), id⟩

theorem Moves.set_vstrs (s : State) (x1) : Moves 536870912 s { s with vstrs := x1 } :=
  ⟨fun p hp => by cases p <;> first | rfl | exact absurd hp (by decide), id⟩

theorem Moves.set_ostrs (s : State) (x1) : Moves 1073741824 s { s with ostrs := x1 } :=
  ⟨fun p hp => by cases p <;> first | rfl | exact absurd hp (by decide), id⟩

theorem Moves.set_ports (s : State) (x1) : Moves 2147483648 s { s with ports := x1 } :=
  ⟨fun p hp => by cases p <;> first | rfl | exact absurd hp (by decide), id⟩

theorem Moves.set_rxWin (s : State) (x1) : Moves 4294967296 s { s with rxWin := x1 } :=
  ⟨fun p hp => by cases p <;> first | rfl | exact absurd hp (by decide), id⟩

theorem Moves.set_rxWin_ecomps_decs_layouts_audio_legAudio_confAudio (s : State) (x1 y1 z1 u1 v1 w1 a1) : Moves 63050459207696384 s { s with rxWin := x1, ecomps := y1, decs := z1, layouts := u1, audio := v1, legAudio := w1, confAudio := a1 } :=
  ⟨fun p hp => by cases p <;> first | rfl | exact absurd hp (by decide), id⟩

theorem Moves.set_ecomps (s : State) (x1) : Moves 8589934592 s { s with ecomps := x1 } :=
  ⟨fun p hp => by cases p <;> first | rfl | exact absurd hp (by decide), id⟩

theorem Moves.set_decs (s : State) (x1) : Moves 17179869184 s { s with decs := x1 } :=
  ⟨fun p hp => by cases p <;> first | rfl | exact absurd hp (by decide), id⟩

theorem Moves.set_layouts (s : State) (x1) : Moves 34359738368 s { s with layouts := x1 } :=
  ⟨fun p hp => by cases p <;> first | rfl | exact absurd hp (by decide), id⟩

theorem Moves.set_twin (s : State) (x1) : Moves 68719476736 s { s with twin := x1 } :=
  ⟨fun p hp => by cases p <;> first | rfl | exact absurd hp (by decide), id⟩

theorem Moves.set_links (s : State) (x1) : Moves 137438953472 s { s with links := x1 } :=
  ⟨fun p hp => by cases p <;> first | rfl | exact absurd hp (by decide), id⟩

theorem Moves.set_fab (s : State) (x1) : Moves 274877906944 s { s with fab := x1 } :=
  ⟨fun p hp => by cases p <;> first | rfl | exact absurd hp (by decide), id⟩

theorem Moves.set_ddr (s : State) (x1) : Moves 549755813888 s { s with ddr := x1 } :=
  ⟨fun p hp => by cases p <;> first | rfl | exact absurd hp (by decide), id⟩

theorem Moves.set_weir (s : State) (x1) : Moves 1099511627776 s { s with weir := x1 } :=
  ⟨fun p hp => by cases p <;> first | rfl | exact absurd hp (by decide), id⟩

theorem Moves.set_poisoned (s : State) (x1) : Moves 2199023255552 s { s with poisoned := x1 } :=
  ⟨fun p hp => by cases p <;> first | rfl | exact absurd hp (by decide), id⟩

theorem Moves.set_dramRead (s : State) (x1) : Moves 4398046511104 s { s with dramRead := x1 } :=
  ⟨fun p hp => by cases p <;> first | rfl | exact absurd hp (by decide), id⟩

theorem Moves.set_fatalAt (s : State) (x1) : Moves 8796093022208 s { s with fatalAt := x1 } :=
  ⟨fun p hp => by cases p <;> first | rfl | exact absurd hp (by decide), id⟩

theorem Moves.set_sec (s : State) (x1) : Moves 17592186044416 s { s with sec := x1 } :=
  ⟨fun p hp => by cases p <;> first | rfl | exact absurd hp (by decide), id⟩

theorem Moves.set_flash (s : State) (x1) : Moves 35184372088832 s { s with flash := x1 } :=
  ⟨fun p hp => by cases p <;> first | rfl | exact absurd hp (by decide), id⟩

theorem Moves.set_flash_boot (s : State) (x1 y1) : Moves 105553116266496 s { s with flash := x1, boot := y1 } :=
  ⟨fun p hp => by cases p <;> first | rfl | exact absurd hp (by decide), id⟩

theorem Moves.set_boot (s : State) (x1) : Moves 70368744177664 s { s with boot := x1 } :=
  ⟨fun p hp => by cases p <;> first | rfl | exact absurd hp (by decide), id⟩

theorem Moves.set_dma (s : State) (x1) : Moves 140737488355328 s { s with dma := x1 } :=
  ⟨fun p hp => by cases p <;> first | rfl | exact absurd hp (by decide), id⟩

theorem Moves.set_bar2 (s : State) (x1) : Moves 281474976710656 s { s with bar2 := x1 } :=
  ⟨fun p hp => by cases p <;> first | rfl | exact absurd hp (by decide), id⟩

theorem Moves.set_pwr (s : State) (x1) : Moves 562949953421312 s { s with pwr := x1 } :=
  ⟨fun p hp => by cases p <;> first | rfl | exact absurd hp (by decide), id⟩

theorem Moves.set_svc (s : State) (x1) : Moves 1125899906842624 s { s with svc := x1 } :=
  ⟨fun p hp => by cases p <;> first | rfl | exact absurd hp (by decide), id⟩

theorem Moves.set_crier (s : State) (x1) : Moves 2251799813685248 s { s with crier := x1 } :=
  ⟨fun p hp => by cases p <;> first | rfl | exact absurd hp (by decide), id⟩

theorem Moves.set_pins (s : State) (x1) : Moves 4503599627370496 s { s with pins := x1 } :=
  ⟨fun p hp => by cases p <;> first | rfl | exact absurd hp (by decide), id⟩

theorem Moves.set_audio (s : State) (x1) : Moves 9007199254740992 s { s with audio := x1 } :=
  ⟨fun p hp => by cases p <;> first | rfl | exact absurd hp (by decide), id⟩

theorem Moves.set_audio_confAudio (s : State) (x1 y1) : Moves 45035996273704960 s { s with audio := x1, confAudio := y1 } :=
  ⟨fun p hp => by cases p <;> first | rfl | exact absurd hp (by decide), id⟩

theorem Moves.set_legAudio (s : State) (x1) : Moves 18014398509481984 s { s with legAudio := x1 } :=
  ⟨fun p hp => by cases p <;> first | rfl | exact absurd hp (by decide), id⟩

theorem Moves.set_confAudio (s : State) (x1) : Moves 36028797018963968 s { s with confAudio := x1 } :=
  ⟨fun p hp => by cases p <;> first | rfl | exact absurd hp (by decide), id⟩

theorem Moves.set_mill (s : State) (x1) : Moves 72057594037927936 s { s with mill := x1 } :=
  ⟨fun p hp => by cases p <;> first | rfl | exact absurd hp (by decide), id⟩

theorem Moves.set_mill_csram (s : State) (x1 y1) : Moves 216172782113783808 s { s with mill := x1, csram := y1 } :=
  ⟨fun p hp => by cases p <;> first | rfl | exact absurd hp (by decide), id⟩

theorem Moves.set_csram (s : State) (x1) : Moves 144115188075855872 s { s with csram := x1 } :=
  ⟨fun p hp => by cases p <;> first | rfl | exact absurd hp (by decide), id⟩

theorem Moves.set_kernels (s : State) (x1) : Moves 288230376151711744 s { s with kernels := x1 } :=
  ⟨fun p hp => by cases p <;> first | rfl | exact absurd hp (by decide), id⟩

theorem Moves.set_kernelCmd (s : State) (x1) : Moves 576460752303423488 s { s with kernelCmd := x1 } :=
  ⟨fun p hp => by cases p <;> first | rfl | exact absurd hp (by decide), id⟩

theorem Moves.set_reeve (s : State) (x1) : Moves 1152921504606846976 s { s with reeve := x1 } :=
  ⟨fun p hp => by cases p <;> first | rfl | exact absurd hp (by decide), id⟩

theorem Moves.set_uart (s : State) (x1) : Moves 2305843009213693952 s { s with uart := x1 } :=
  ⟨fun p hp => by cases p <;> first | rfl | exact absurd hp (by decide), id⟩

theorem Moves.set_gate_legs_confs_taps_vstrs_ostrs_rxWin_ecomps_decs_layouts_audio_legAudio_confAudio_kernels (s : State) (x1 y1 z1 u1 v1 w1 a1 b1 c1 d1 e1 f1 g1 h1) : Moves 351280837028741184 s { s with gate := x1, legs := y1, confs := z1, taps := u1, vstrs := v1, ostrs := w1, rxWin := a1, ecomps := b1, decs := c1, layouts := d1, audio := e1, legAudio := f1, confAudio := g1, kernels := h1 } :=
  ⟨fun p hp => by cases p <;> first | rfl | exact absurd hp (by decide), id⟩

theorem Moves.set_rxWin_ecomps_decs_layouts_audio_legAudio_confAudio_kernels (s : State) (x1 y1 z1 u1 v1 w1 a1 b1) : Moves 351280835359408128 s { s with rxWin := x1, ecomps := y1, decs := z1, layouts := u1, audio := v1, legAudio := w1, confAudio := a1, kernels := b1 } :=
  ⟨fun p hp => by cases p <;> first | rfl | exact absurd hp (by decide), id⟩

theorem mask_left (a b : Nat) : a ||| (a ||| b) = a ||| b := by rw [← Nat.or_assoc, Nat.or_self]

theorem mask_right (a b : Nat) : b ||| (a ||| b) = a ||| b := by rw [Nat.or_comm a b, ← Nat.or_assoc, Nat.or_self]

end Sys2Proof.Machine
end

