-- ==== Sys2Proof/Laws/MovesAll1.lean ====
section
/-! SUPPORT. One lemma for each function of the machine that answers a state or an outcome: what it may change (part 1 of 4, in the order in which the functions
use one another). -/

namespace Sys2Proof.Machine

theorem State.fresh_moves2 (s) : Moves 128 s (State.fresh s).2 := by
  unfold State.fresh
  try dsimp only
  refine Moves.step (Moves.set_free ..) (by decide) ?_
  exact Moves.refl

theorem State.setCore_moves (s a1 a2) : Moves 72057594037927936 s (State.setCore s a1 a2) := by
  unfold State.setCore
  refine Moves.step (Moves.set_mill ..) (by decide) ?_
  exact Moves.refl

theorem State.setMill_moves (s a1 a2 a3) : Moves 216172782113783808 s (State.setMill s a1 a2 a3) := by
  unfold State.setMill
  extract_lets -merge -underBinder -useContext x0
  have h1 : Moves 216172782113783808 s x0 := by
    unfold x0
    refine Moves.step (State.setCore_moves ..) (by decide) ?_
    exact Moves.refl
  clear_value x0
  refine Moves.step (Moves.set_csram ..) (by decide) ?_
  with_reducible assumption

theorem State.wr_moves (s a w) : Moves 1 s (State.wr s a w) := Moves.set_regs _ _ (fun c => Sparse.wf_set _ _ _ _ c.1)

theorem State.put_moves (s a1 a2) : Moves 1 s (State.put s a1 a2) := by
  unfold State.put
  refine Moves.step (State.wr_moves ..) (by decide) ?_
  exact Moves.refl

theorem State.sendMsix_moves (s a1) : Moves 256 s (State.sendMsix s a1) := by
  unfold State.sendMsix
  refine Moves.ite ?_ ?_
  · refine Moves.step (Moves.set_msix ..) (by decide) ?_
    exact Moves.refl
  · refine Moves.step (Moves.set_msix ..) (by decide) ?_
    exact Moves.refl

theorem State.withIrq_moves {m : Nat} (s page f) (hf : ∀ x, Moves m x (f x)) : Moves (m ||| 256) s (State.withIrq s page f) := by
  have h : Moves (m ||| 256) s (f s) := (hf s).step (mask_left _ _) Moves.refl
  exact Moves.ite (Moves.step (State.sendMsix_moves ..) (mask_right _ _) h) h

theorem State.event_moves (s a1 a2) : Moves 257 s (State.event s a1 a2) := by
  unfold State.event
  refine Moves.step (State.withIrq_moves (m := 257) (hf := fun y0 => ?_) ..) (by decide) ?_
  · refine Moves.step (State.put_moves ..) (by decide) ?_
    exact Moves.refl
  · exact Moves.refl

theorem State.benchStop_moves (s a1 a2 a3) : Moves 72057594037928193 s (State.benchStop s a1 a2 a3) := by
  unfold State.benchStop
  extract_lets -merge -underBinder -useContext x0 x1 x2 x3 x4 x5
  clear_value x0
  clear_value x1
  have h6 : Moves 72057594037928193 s x2 := by
    unfold x2
    refine Moves.step (State.setCore_moves ..) (by decide) ?_
    exact Moves.refl
  clear_value x2
  have h7 : Moves 72057594037928193 s x3 := by
    unfold x3
    refine Moves.step (State.put_moves ..) (by decide) ?_
    with_reducible assumption
  clear_value x3
  have h8 : Moves 72057594037928193 s x4 := by
    unfold x4
    refine Moves.step (State.put_moves ..) (by decide) ?_
    with_reducible assumption
  clear_value x4
  have h9 : Moves 72057594037928193 s x5 := by
    unfold x5
    refine Moves.step (State.put_moves ..) (by decide) ?_
    with_reducible assumption
  clear_value x5
  refine Moves.step (State.event_moves ..) (by decide) ?_
  with_reducible assumption

theorem State.setNode_moves (s a1 a2) : Moves 9007199254740992 s (State.setNode s a1 a2) := by
  unfold State.setNode
  refine Moves.step (Moves.set_audio ..) (by decide) ?_
  exact Moves.refl

theorem State.activationEnd_moves (s a1 a2) : Moves 81064793292668928 s (State.activationEnd s a1 a2) := by
  unfold State.activationEnd
  extract_lets -merge -underBinder -useContext x0 x1 x2 x3 x4 x5 x6 x7 x8
  clear_value x0
  clear_value x1
  clear_value x2
  clear_value x3
  clear_value x4
  have h9 : Moves 81064793292668928 s x5 := by
    unfold x5
    refine Moves.step (State.setNode_moves ..) (by decide) ?_
    exact Moves.refl
  clear_value x5
  clear_value x6
  clear_value x7
  have h10 : Moves 81064793292668928 s x8 := by
    unfold x8
    refine Moves.step (Moves.set_audio ..) (by decide) ?_
    with_reducible assumption
  clear_value x8
  refine Moves.step (State.setCore_moves ..) (by decide) ?_
  with_reducible assumption

theorem State.bump_moves (s a1 a2) : Moves 1 s (State.bump s a1 a2) := by
  unfold State.bump
  refine Moves.step (State.put_moves ..) (by decide) ?_
  exact Moves.refl

theorem State.contained_moves (s a1) : Moves 1 s (State.contained s a1) := by
  unfold State.contained
  refine Moves.step (State.bump_moves ..) (by decide) ?_
  exact Moves.refl

theorem State.evqPlace_moves (s a1 a2) : Moves 4609 s (State.evqPlace s a1 a2) := by
  unfold State.evqPlace
  extract_lets -merge -underBinder -useContext x0 x1 x2 x3
  clear_value x0
  clear_value x1
  clear_value x2
  clear_value x3
  refine Moves.ite ?_ ?_
  · refine Moves.step (State.bump_moves ..) (by decide) ?_
    refine Moves.step (Moves.set_evq ..) (by decide) ?_
    exact Moves.refl
  · split
    · extract_lets -merge -underBinder -useContext x4 x5 x6 x7 x8
      clear_value x4
      clear_value x5
      clear_value x6
      clear_value x7
      have h9 : Moves 4609 s x8 := by
        unfold x8
        refine Moves.step (Moves.set_evq_freeCells ..) (by decide) ?_
        exact Moves.refl
      clear_value x8
      refine Moves.ite ?_ ?_
      · with_reducible assumption
      · refine Moves.step (State.contained_moves ..) (by decide) ?_
        refine Moves.step (State.bump_moves ..) (by decide) ?_
        with_reducible assumption

theorem State.resetNoted_moves (s) : Moves 257 s (State.resetNoted s) := by
  unfold State.resetNoted
  refine Moves.step (State.contained_moves ..) (by decide) ?_
  refine Moves.step (State.event_moves ..) (by decide) ?_
  refine Moves.step (State.bump_moves ..) (by decide) ?_
  exact Moves.refl

theorem State.evqReset_moves2 (s a1) : Moves 769 s (State.evqReset s a1).2 := by
  unfold State.evqReset
  extract_lets -merge -underBinder -useContext x0 x1 x2
  clear_value x0
  clear_value x1
  have h3 : Moves 769 s x2 := by
    unfold x2
    refine Moves.step (Moves.set_evq ..) (by decide) ?_
    exact Moves.refl
  clear_value x2
  try dsimp only
  refine Moves.step (State.resetNoted_moves ..) (by decide) ?_
  refine Moves.step (State.bump_moves ..) (by decide) ?_
  with_reducible assumption

theorem State.postReset_moves (s a1 a2) : Moves 4865 s (State.postReset s a1 a2) := by
  unfold State.postReset
  extract_lets -merge -underBinder -useContext x0
  clear_value x0
  refine Moves.ite ?_ ?_
  · split
    · rename_i s1 q1
      have h1 := Moves.at2 (m := 4865) (s := s) q1 (by
        refine Moves.step (State.evqReset_moves2 ..) (by decide) ?_
        exact Moves.refl)
      refine Moves.step (State.evqPlace_moves ..) (by decide) ?_
      refine Moves.step (State.evqPlace_moves ..) (by decide) ?_
      with_reducible assumption
  · refine Moves.step (State.evqPlace_moves ..) (by decide) ?_
    exact Moves.refl

theorem State.evqCheck_moves (s a1) : Moves 4865 s (State.evqCheck s a1) := by
  unfold State.evqCheck
  refine Moves.ite ?_ ?_
  · split
    · rename_i s0 q0
      have h0 := Moves.at2 (m := 4865) (s := s) q0 (by
        refine Moves.step (State.evqReset_moves2 ..) (by decide) ?_
        exact Moves.refl)
      refine Moves.step (State.postReset_moves ..) (by decide) ?_
      with_reducible assumption
  · exact Moves.refl

theorem State.evqAppend_moves (s a1 a2) : Moves 4865 s (State.evqAppend s a1 a2) := by
  unfold State.evqAppend
  refine Moves.step (State.evqPlace_moves ..) (by decide) ?_
  refine Moves.step (State.evqCheck_moves ..) (by decide) ?_
  exact Moves.refl

theorem State.post_moves (s a1 a2 a3 a4 a5) : Moves 4865 s (State.post s a1 a2 a3 a4 a5) := by
  unfold State.post
  refine Moves.step (State.evqAppend_moves ..) (by decide) ?_
  exact Moves.refl

theorem State.postWindow_moves (s a1 a2 a3 a4 a5 a6 a7 a8) : Moves 134222593 s (State.postWindow s a1 a2 a3 a4 a5 a6 a7 a8) := by
  unfold State.postWindow
  extract_lets -merge -underBinder -useContext x0 x1 x2 x3
  clear_value x0
  clear_value x1
  clear_value x2
  have h4 : Moves 134222593 s x3 := by
    unfold x3
    refine Moves.step (State.post_moves ..) (by decide) ?_
    exact Moves.refl
  clear_value x3
  refine Moves.ite ?_ ?_
  · refine Moves.step (Moves.set_windows ..) (by decide) ?_
    exact Moves.refl
  · refine Moves.step (Moves.set_windows ..) (by decide) ?_
    with_reducible assumption

theorem State.postLimited_moves (s a1 a2 a3 a4 a5 a6 a7) : Moves 134222593 s (State.postLimited s a1 a2 a3 a4 a5 a6 a7) := by
  unfold State.postLimited
  refine Moves.step (State.postWindow_moves ..) (by decide) ?_
  exact Moves.refl

theorem State.kernelFault_moves (s a1 a2) : Moves 81064793426891521 s (State.kernelFault s a1 a2) := by
  unfold State.kernelFault
  extract_lets -merge -underBinder -useContext x0 x1 x2
  clear_value x0
  have h3 : Moves 81064793426891521 s x1 := by
    unfold x1
    refine Moves.step (State.activationEnd_moves ..) (by decide) ?_
    exact Moves.refl
  clear_value x1
  have h4 : Moves 81064793426891521 s x2 := by
    unfold x2
    refine Moves.step (State.bump_moves ..) (by decide) ?_
    with_reducible assumption
  clear_value x2
  refine Moves.step (State.postLimited_moves ..) (by decide) ?_
  with_reducible assumption

theorem State.issueOn_moves (s a1 a2) : Moves 225179981502747521 s (State.issueOn s a1 a2) := by
  unfold State.issueOn
  extract_lets -merge -underBinder -useContext x0
  clear_value x0
  refine Moves.ite ?_ ?_
  · exact Moves.refl
  · split
    · rename_i s1 q1
      have h1 := Moves.at2 (m := 225179981502747521) (s := s) q1 (by
        refine Moves.step (State.fresh_moves2 ..) (by decide) ?_
        exact Moves.refl)
      extract_lets -merge -underBinder -useContext x2 x3
      clear_value x2
      have h4 : Moves 225179981502747521 s x3 := by
        unfold x3
        refine Moves.step (State.setMill_moves ..) (by decide) ?_
        with_reducible assumption
      clear_value x3
      refine Moves.ite ?_ ?_
      · refine Moves.ite ?_ ?_
        · refine Moves.step (State.benchStop_moves ..) (by decide) ?_
          with_reducible assumption
        · refine Moves.step (State.kernelFault_moves ..) (by decide) ?_
          with_reducible assumption
      · refine Moves.ite ?_ ?_
        · refine Moves.step (State.activationEnd_moves ..) (by decide) ?_
          with_reducible assumption
        · with_reducible assumption

theorem execAadd_moves (a0 a1 a2 a3 s) : Runs 225179981502747521 s (execAadd a0 a1 a2 a3 s) := by
  unfold execAadd
  refine Runs.next ?_
  refine Moves.step (State.issueOn_moves ..) (by decide) ?_
  exact Moves.refl

theorem execAbss_moves (a0 a1 a2 s) : Runs 225179981502747521 s (execAbss a0 a1 a2 s) := by
  unfold execAbss
  refine Runs.next ?_
  refine Moves.step (State.issueOn_moves ..) (by decide) ?_
  exact Moves.refl

theorem execAclr_moves (a0 a1 s) : Runs 225179981502747521 s (execAclr a0 a1 s) := by
  unfold execAclr
  refine Runs.next ?_
  refine Moves.step (State.issueOn_moves ..) (by decide) ?_
  exact Moves.refl

theorem State.bumpSat_moves (s a1 a2) : Moves 1 s (State.bumpSat s a1 a2) := by
  unfold State.bumpSat
  refine Moves.step (State.put_moves ..) (by decide) ?_
  exact Moves.refl

theorem State.postErr_moves (s a1 a2 a3) : Moves 257 s (State.postErr s a1 a2 a3) := by
  unfold State.postErr
  extract_lets -merge -underBinder -useContext x0 x1 x2 x3
  have h4 : Moves 257 s x0 := by
    unfold x0
    refine Moves.step (State.put_moves ..) (by decide) ?_
    exact Moves.refl
  clear_value x0
  have h5 : Moves 257 s x1 := by
    unfold x1
    refine Moves.step (State.put_moves ..) (by decide) ?_
    with_reducible assumption
  clear_value x1
  have h6 : Moves 257 s x2 := by
    unfold x2
    refine Moves.step (State.bump_moves ..) (by decide) ?_
    with_reducible assumption
  clear_value x2
  have h7 : Moves 257 s x3 := by
    unfold x3
    refine Moves.step (State.bumpSat_moves ..) (by decide) ?_
    with_reducible assumption
  clear_value x3
  refine Moves.step (State.event_moves ..) (by decide) ?_
  with_reducible assumption

theorem State.reject_moves (s a1 a2) : Moves 257 s (State.reject s a1 a2) := by
  unfold State.reject
  refine Moves.step (State.postErr_moves ..) (by decide) ?_
  exact Moves.refl

theorem State.checked_moves {m : Nat} (s a w c f) (hf : ∀ x, Moves m x (f x)) : Moves (m ||| 257) s (State.checked s a w c f) := by
  unfold State.checked
  split
  · exact Moves.step (State.reject_moves ..) (mask_right _ _) Moves.refl
  · split
    · exact Moves.step (State.reject_moves ..) (mask_right _ _) Moves.refl
    · exact (hf s).step (mask_left _ _) Moves.refl

theorem State.unvalid_moves (s a1) : Moves 1 s (State.unvalid s a1) := by
  unfold State.unvalid
  refine Moves.step (State.wr_moves ..) (by decide) ?_
  exact Moves.refl

theorem State.fetchStart_moves (s a1) : Moves 4194304 s (State.fetchStart s a1) := by
  unfold State.fetchStart
  refine Moves.step (Moves.set_fetches ..) (by decide) ?_
  exact Moves.refl

theorem State.applyWrite_moves (s a1 a2) : Moves 1 s (State.applyWrite s a1 a2) := by
  unfold State.applyWrite
  split
  · exact Moves.refl
  · refine Moves.step (State.wr_moves ..) (by decide) ?_
    exact Moves.refl

theorem State.adaptLegSelWrite_moves (s a1) : Moves 4194561 s (State.adaptLegSelWrite s a1) := by
  unfold State.adaptLegSelWrite
  refine Moves.step (State.checked_moves (m := 4194561) (hf := fun y0 => ?_) ..) (by decide) ?_
  · refine Moves.step (State.unvalid_moves ..) (by decide) ?_
    refine Moves.step (State.unvalid_moves ..) (by decide) ?_
    refine Moves.step (State.fetchStart_moves ..) (by decide) ?_
    refine Moves.step (State.applyWrite_moves ..) (by decide) ?_
    exact Moves.refl
  · exact Moves.refl

theorem execAdaptLegSel_moves (a0 s) : Runs 4194561 s (execAdaptLegSel a0 s) := by
  unfold execAdaptLegSel
  refine Runs.next ?_
  refine Moves.step (State.adaptLegSelWrite_moves ..) (by decide) ?_
  exact Moves.refl

theorem State.adaptOstrSelWrite_moves (s a1) : Moves 4194561 s (State.adaptOstrSelWrite s a1) := by
  unfold State.adaptOstrSelWrite
  refine Moves.step (State.checked_moves (m := 4194561) (hf := fun y0 => ?_) ..) (by decide) ?_
  · refine Moves.step (State.unvalid_moves ..) (by decide) ?_
    refine Moves.step (State.fetchStart_moves ..) (by decide) ?_
    refine Moves.step (State.applyWrite_moves ..) (by decide) ?_
    exact Moves.refl
  · exact Moves.refl

theorem execAdaptOstrSel_moves (a0 s) : Runs 4194561 s (execAdaptOstrSel a0 s) := by
  unfold execAdaptOstrSel
  refine Runs.next ?_
  refine Moves.step (State.adaptOstrSelWrite_moves ..) (by decide) ?_
  exact Moves.refl

theorem execAdd_moves (a0 a1 a2 a3 s) : Runs 225179981502747521 s (execAdd a0 a1 a2 a3 s) := by
  unfold execAdd
  refine Runs.next ?_
  refine Moves.step (State.issueOn_moves ..) (by decide) ?_
  exact Moves.refl

theorem execAddi_moves (a0 a1 a2 a3 s) : Runs 225179981502747521 s (execAddi a0 a1 a2 a3 s) := by
  unfold execAddi
  refine Runs.next ?_
  refine Moves.step (State.issueOn_moves ..) (by decide) ?_
  exact Moves.refl

theorem execAdds_moves (a0 a1 a2 a3 s) : Runs 225179981502747521 s (execAdds a0 a1 a2 a3 s) := by
  unfold execAdds
  refine Runs.next ?_
  refine Moves.step (State.issueOn_moves ..) (by decide) ?_
  exact Moves.refl

theorem State.modSec_moves (s a1) : Moves 17592186044416 s (State.modSec s a1) := by
  unfold State.modSec
  refine Moves.step (Moves.set_sec ..) (by decide) ?_
  exact Moves.refl

theorem State.dramPut_moves (s a l) : Moves 2199023288320 s (State.dramPut s a l) :=
  ⟨fun p hp => by cases p <;> first | rfl | exact absurd hp (by decide), fun c => ⟨c.1, Memory.wf_writeList _ _ _ c.2.1, c.2.2⟩⟩

theorem State.jobZero_moves (s a1) : Moves 2199023288320 s (State.jobZero s a1) := by
  unfold State.jobZero
  refine Moves.step (State.dramPut_moves ..) (by decide) ?_
  exact Moves.refl

theorem State.showLock_moves (s) : Moves 1 s (State.showLock s) := by
  unfold State.showLock
  extract_lets -merge -underBinder -useContext x0 x1
  clear_value x0
  clear_value x1
  refine Moves.step (State.put_moves ..) (by decide) ?_
  refine Moves.step (State.put_moves ..) (by decide) ?_
  exact Moves.refl

theorem State.lockFree_moves (s) : Moves 17592186044417 s (State.lockFree s) := by
  unfold State.lockFree
  refine Moves.step (State.showLock_moves ..) (by decide) ?_
  refine Moves.step (State.modSec_moves ..) (by decide) ?_
  refine Moves.step (State.put_moves ..) (by decide) ?_
  exact Moves.refl

theorem State.jobWrite_moves (s a1 a2) : Moves 2199023288320 s (State.jobWrite s a1 a2) := by
  unfold State.jobWrite
  refine Moves.step (State.dramPut_moves ..) (by decide) ?_
  exact Moves.refl

theorem State.postResult_moves (s a1 a2) : Moves 1 s (State.postResult s a1 a2) := by
  unfold State.postResult
  extract_lets -merge -underBinder -useContext x0
  clear_value x0
  refine Moves.step (State.wr_moves ..) (by decide) ?_
  exact Moves.refl

theorem State.jobEnd_moves (s a1 a2) : Moves 17592186049281 s (State.jobEnd s a1 a2) := by
  unfold State.jobEnd
  extract_lets -merge -underBinder -useContext x0 x1 x2
  have h3 : Moves 17592186049281 s x0 := by
    unfold x0
    refine Moves.step (State.modSec_moves ..) (by decide) ?_
    exact Moves.refl
  clear_value x0
  have h4 : Moves 17592186049281 s x1 := by
    unfold x1
    refine Moves.ite ?_ ?_
    · refine Moves.step (State.post_moves ..) (by decide) ?_
      refine Moves.step (State.bump_moves ..) (by decide) ?_
      with_reducible assumption
    · with_reducible assumption
  clear_value x1
  have h5 : Moves 17592186049281 s x2 := by
    unfold x2
    refine Moves.step (State.postResult_moves ..) (by decide) ?_
    with_reducible assumption
  clear_value x2
  refine Moves.ite ?_ ?_
  · refine Moves.step (State.lockFree_moves ..) (by decide) ?_
    with_reducible assumption
  · with_reducible assumption

theorem State.stopJobs_moves (s) : Moves 19791209337601 s (State.stopJobs s) := by
  unfold State.stopJobs
  extract_lets -merge -underBinder -useContext x0 x1
  have h2 : Moves 19791209337601 s x0 := by
    unfold x0
    refine Moves.step (State.modSec_moves ..) (by decide) ?_
    exact Moves.refl
  clear_value x0
  have h3 : Moves 19791209337601 s x1 := by
    unfold x1
    split
    · refine Moves.ite ?_ ?_
      · refine Moves.step (State.jobZero_moves ..) (by decide) ?_
        with_reducible assumption
      · with_reducible assumption
    · with_reducible assumption
  clear_value x1
  split
  · with_reducible assumption
  · refine Moves.ite ?_ ?_
    · refine Moves.step (State.lockFree_moves ..) (by decide) ?_
      refine Moves.step (State.modSec_moves ..) (by decide) ?_
      with_reducible assumption
    · extract_lets -merge -underBinder -useContext x4 x5 x6 x7
      clear_value x4
      clear_value x5
      have h8 : Moves 19791209337601 s x6 := by
        unfold x6
        refine Moves.ite ?_ ?_
        · with_reducible assumption
        · refine Moves.step (State.jobWrite_moves ..) (by decide) ?_
          with_reducible assumption
      clear_value x6
      have h9 : Moves 19791209337601 s x7 := by
        unfold x7
        refine Moves.ite ?_ ?_
        · refine Moves.step (State.jobZero_moves ..) (by decide) ?_
          with_reducible assumption
        · with_reducible assumption
      clear_value x7
      refine Moves.step (State.jobEnd_moves ..) (by decide) ?_
      with_reducible assumption

theorem State.keyRefresh_moves (s) : Moves 131073 s (State.keyRefresh s) := by
  unfold State.keyRefresh
  extract_lets -merge -underBinder -useContext x0 x1 x2 x3 x4
  clear_value x0
  clear_value x1
  have h5 : Moves 131073 s x2 := by
    unfold x2
    refine Moves.step (Moves.set_keys ..) (by decide) ?_
    exact Moves.refl
  clear_value x2
  clear_value x3
  clear_value x4
  refine Moves.step (State.put_moves ..) (by decide) ?_
  refine Moves.step (State.put_moves ..) (by decide) ?_
  with_reducible assumption

theorem State.showLegs_moves (s) : Moves 1 s (State.showLegs s) := by
  unfold State.showLegs
  extract_lets -merge -underBinder -useContext x0 x1
  clear_value x0
  clear_value x1
  refine Moves.step (State.put_moves ..) (by decide) ?_
  refine Moves.step (State.put_moves ..) (by decide) ?_
  exact Moves.refl

theorem State.setLeg_moves (s a1 a2) : Moves 8388608 s (State.setLeg s a1 a2) := by
  unfold State.setLeg
  refine Moves.step (Moves.set_legs ..) (by decide) ?_
  exact Moves.refl

theorem State.haltLeg_moves (s a1) : Moves 8393473 s (State.haltLeg s a1) := by
  unfold State.haltLeg
  extract_lets -merge -underBinder -useContext x0
  clear_value x0
  refine Moves.ite ?_ ?_
  · refine Moves.step (State.showLegs_moves ..) (by decide) ?_
    refine Moves.step (State.post_moves ..) (by decide) ?_
    refine Moves.step (State.setLeg_moves ..) (by decide) ?_
    exact Moves.refl
  · exact Moves.refl

theorem State.uartLog_moves (s a1 a2) : Moves 2305843009213693952 s (State.uartLog s a1 a2) := by
  unfold State.uartLog
  refine Moves.step (Moves.set_uart ..) (by decide) ?_
  exact Moves.refl

theorem State.faultEntry_moves (s a1 a2 a3 a4 a5 a6) : Moves 2305843009213956353 s (State.faultEntry s a1 a2 a3 a4 a5 a6) := by
  unfold State.faultEntry
  extract_lets -merge -underBinder -useContext x0
  clear_value x0
  refine Moves.step (State.event_moves ..) (by decide) ?_
  refine Moves.step (State.uartLog_moves ..) (by decide) ?_
  refine Moves.step (Moves.set_faultLog ..) (by decide) ?_
  exact Moves.refl

theorem State.blockFatal_moves (s a1 a2 a3 a4 a5) : Moves 2305843009213956353 s (State.blockFatal s a1 a2 a3 a4 a5) := by
  unfold State.blockFatal
  refine Moves.step (State.faultEntry_moves ..) (by decide) ?_
  refine Moves.step (State.bumpSat_moves ..) (by decide) ?_
  exact Moves.refl

theorem State.alarm_moves (s a1) : Moves 2305862800431813377 s (State.alarm s a1) := by
  unfold State.alarm
  refine Moves.ite ?_ ?_
  · exact Moves.refl
  · extract_lets -merge -underBinder -useContext x0 x1 x2 x3 x4 x5 x6 x7 x8
    clear_value x0
    have h9 : Moves 2305862800431813377 s x1 := by
      unfold x1
      refine Moves.step (State.stopJobs_moves ..) (by decide) ?_
      exact Moves.refl
    clear_value x1
    have h10 : Moves 2305862800431813377 s x2 := by
      unfold x2
      refine Moves.step (Moves.set_keys ..) (by decide) ?_
      with_reducible assumption
    clear_value x2
    have h11 : Moves 2305862800431813377 s x3 := by
      unfold x3
      refine Moves.step (State.keyRefresh_moves ..) (by decide) ?_
      refine Moves.step (State.modSec_moves ..) (by decide) ?_
      with_reducible assumption
    clear_value x3
    have h12 : Moves 2305862800431813377 s x4 := by
      unfold x4
      refine Moves.step (State.put_moves ..) (by decide) ?_
      with_reducible assumption
    clear_value x4
    have h13 : Moves 2305862800431813377 s x5 := by
      unfold x5
      refine Moves.ite ?_ ?_
      · refine Moves.step (State.wr_moves ..) (by decide) ?_
        refine Moves.step (State.wr_moves ..) (by decide) ?_
        refine Moves.step (State.put_moves ..) (by decide) ?_
        with_reducible assumption
      · with_reducible assumption
    clear_value x5
    have h14 : Moves 2305862800431813377 s x6 := by
      unfold x6
      refine Moves.forEach (fun y15 y16 => ?_) ?_
      · refine Moves.step (State.haltLeg_moves ..) (by decide) ?_
        exact Moves.refl
      · with_reducible assumption
    clear_value x6
    clear_value x7
    have h17 : Moves 2305862800431813377 s x8 := by
      unfold x8
      refine Moves.step (State.event_moves ..) (by decide) ?_
      refine Moves.step (State.post_moves ..) (by decide) ?_
      refine Moves.step (State.uartLog_moves ..) (by decide) ?_
      with_reducible assumption
    clear_value x8
    refine Moves.step (State.blockFatal_moves ..) (by decide) ?_
    with_reducible assumption

theorem execAlarmTrip_moves (a0 s) : Runs 2305862800431813377 s (execAlarmTrip a0 s) := by
  unfold execAlarmTrip
  refine Runs.next ?_
  refine Moves.ite ?_ ?_
  · exact Moves.refl
  · refine Moves.step (State.alarm_moves ..) (by decide) ?_
    exact Moves.refl

theorem State.alarmCmdWrite_moves (s a1) : Moves 2305862800431813377 s (State.alarmCmdWrite s a1) := by
  unfold State.alarmCmdWrite
  refine Moves.step (State.checked_moves (m := 2305862800431813377) (hf := fun y0 => ?_) ..) (by decide) ?_
  · refine Moves.ite ?_ ?_
    · refine Moves.step (State.alarm_moves ..) (by decide) ?_
      exact Moves.refl
    · exact Moves.refl
  · exact Moves.refl

theorem execAlarmZeroise_moves (s) : Runs 2305862800431813377 s (execAlarmZeroise s) := by
  unfold execAlarmZeroise
  refine Runs.next ?_
  refine Moves.step (State.alarmCmdWrite_moves ..) (by decide) ?_
  exact Moves.refl

theorem execAmov_moves (a0 a1 a2 s) : Runs 225179981502747521 s (execAmov a0 a1 a2 s) := by
  unfold execAmov
  refine Runs.next ?_
  refine Moves.step (State.issueOn_moves ..) (by decide) ?_
  exact Moves.refl

theorem execAnd_moves (a0 a1 a2 a3 s) : Runs 225179981502747521 s (execAnd a0 a1 a2 a3 s) := by
  unfold execAnd
  refine Runs.next ?_
  refine Moves.step (State.issueOn_moves ..) (by decide) ?_
  exact Moves.refl

theorem execArdg_moves (a0 a1 a2 s) : Runs 225179981502747521 s (execArdg a0 a1 a2 s) := by
  unfold execArdg
  refine Runs.next ?_
  refine Moves.step (State.issueOn_moves ..) (by decide) ?_
  exact Moves.refl

theorem execArdh_moves (a0 a1 a2 s) : Runs 225179981502747521 s (execArdh a0 a1 a2 s) := by
  unfold execArdh
  refine Runs.next ?_
  refine Moves.step (State.issueOn_moves ..) (by decide) ?_
  exact Moves.refl

theorem execArdl_moves (a0 a1 a2 s) : Runs 225179981502747521 s (execArdl a0 a1 a2 s) := by
  unfold execArdl
  refine Runs.next ?_
  refine Moves.step (State.issueOn_moves ..) (by decide) ?_
  exact Moves.refl

theorem execAshl_moves (a0 a1 a2 s) : Runs 225179981502747521 s (execAshl a0 a1 a2 s) := by
  unfold execAshl
  refine Runs.next ?_
  refine Moves.step (State.issueOn_moves ..) (by decide) ?_
  exact Moves.refl

theorem execAshr_moves (a0 a1 a2 s) : Runs 225179981502747521 s (execAshr a0 a1 a2 s) := by
  unfold execAshr
  refine Runs.next ?_
  refine Moves.step (State.issueOn_moves ..) (by decide) ?_
  exact Moves.refl

theorem State.meterSelWrite_moves (s a1) : Moves 4194561 s (State.meterSelWrite s a1) := by
  unfold State.meterSelWrite
  refine Moves.step (State.checked_moves (m := 4194561) (hf := fun y0 => ?_) ..) (by decide) ?_
  · refine Moves.step (State.unvalid_moves ..) (by decide) ?_
    refine Moves.step (State.unvalid_moves ..) (by decide) ?_
    refine Moves.step (State.fetchStart_moves ..) (by decide) ?_
    refine Moves.step (State.applyWrite_moves ..) (by decide) ?_
    exact Moves.refl
  · exact Moves.refl

theorem execAudioMeterSel_moves (a0 a1 s) : Runs 4194561 s (execAudioMeterSel a0 a1 s) := by
  unfold execAudioMeterSel
  refine Runs.next ?_
  refine Moves.step (State.meterSelWrite_moves ..) (by decide) ?_
  exact Moves.refl

theorem State.pathSnkWrite_moves (s a1) : Moves 4194561 s (State.pathSnkWrite s a1) := by
  unfold State.pathSnkWrite
  refine Moves.step (State.checked_moves (m := 4194561) (hf := fun y0 => ?_) ..) (by decide) ?_
  · refine Moves.step (State.unvalid_moves ..) (by decide) ?_
    refine Moves.step (State.fetchStart_moves ..) (by decide) ?_
    refine Moves.step (State.applyWrite_moves ..) (by decide) ?_
    exact Moves.refl
  · exact Moves.refl

theorem execAudioPathSnk_moves (a0 a1 s) : Runs 4194561 s (execAudioPathSnk a0 a1 s) := by
  unfold execAudioPathSnk
  refine Runs.next ?_
  refine Moves.step (State.pathSnkWrite_moves ..) (by decide) ?_
  exact Moves.refl

theorem State.seatSelWrite_moves (s a1) : Moves 4194561 s (State.seatSelWrite s a1) := by
  unfold State.seatSelWrite
  refine Moves.step (State.checked_moves (m := 4194561) (hf := fun y0 => ?_) ..) (by decide) ?_
  · refine Moves.forUpTo (fun y1 y2 => ?_) ?_
    · refine Moves.step (State.unvalid_moves ..) (by decide) ?_
      exact Moves.refl
    · refine Moves.step (State.fetchStart_moves ..) (by decide) ?_
      refine Moves.step (State.applyWrite_moves ..) (by decide) ?_
      exact Moves.refl
  · exact Moves.refl

theorem execAudioSeatSel_moves (a0 s) : Runs 4194561 s (execAudioSeatSel a0 s) := by
  unfold execAudioSeatSel
  refine Runs.next ?_
  refine Moves.step (State.seatSelWrite_moves ..) (by decide) ?_
  exact Moves.refl

theorem State.tickFalls_moves (s a1) : Moves 16 s (State.tickFalls s a1) := by
  unfold State.tickFalls
  refine Moves.step (Moves.set_clk ..) (by decide) ?_
  exact Moves.refl

theorem State.runTo_moves (s a1) : Moves 16 s (State.runTo s a1) := by
  unfold State.runTo
  refine Moves.ite ?_ ?_
  · extract_lets -merge -underBinder -useContext x0 x1 x2
    clear_value x0
    clear_value x1
    clear_value x2
    refine Moves.step (Moves.set_clk ..) (by decide) ?_
    exact Moves.refl
  · exact Moves.refl

theorem State.showReeve_moves (s) : Moves 1 s (State.showReeve s) := by
  unfold State.showReeve
  extract_lets -merge -underBinder -useContext x0 x1 x2 x3 x4 x5
  clear_value x0
  clear_value x1
  have h6 : Moves 1 s x2 := by
    unfold x2
    refine Moves.step (State.put_moves ..) (by decide) ?_
    exact Moves.refl
  clear_value x2
  have h7 : Moves 1 s x3 := by
    unfold x3
    refine Moves.ite ?_ ?_
    · refine Moves.step (State.put_moves ..) (by decide) ?_
      with_reducible assumption
    · with_reducible assumption
  clear_value x3
  have h8 : Moves 1 s x4 := by
    unfold x4
    refine Moves.step (State.put_moves ..) (by decide) ?_
    with_reducible assumption
  clear_value x4
  have h9 : Moves 1 s x5 := by
    unfold x5
    refine Moves.forUpTo (fun y10 y11 => ?_) ?_
    · refine Moves.step (State.put_moves ..) (by decide) ?_
      exact Moves.refl
    · with_reducible assumption
  clear_value x5
  refine Moves.forUpTo (fun y12 y13 => ?_) ?_
  · extract_lets -merge -underBinder -useContext x14
    clear_value x14
    refine Moves.step (State.put_moves ..) (by decide) ?_
    refine Moves.step (State.put_moves ..) (by decide) ?_
    exact Moves.refl
  · with_reducible assumption

theorem State.placeTask_moves (s a1) : Moves 1152921504606846976 s (State.placeTask s a1) := by
  unfold State.placeTask
  extract_lets -merge -underBinder -useContext x0 x1 x2 x3 x4
  clear_value x0
  clear_value x1
  clear_value x2
  clear_value x3
  clear_value x4
  refine Moves.step (Moves.set_reeve ..) (by decide) ?_
  exact Moves.refl

theorem State.drainStalled_moves (s a1) : Moves 1152921504606846976 s (State.drainStalled s a1) := by
  induction a1 generalizing s with
  | zero => exact Moves.refl
  | succ n ih =>
    unfold State.drainStalled
    split
    · exact Moves.refl
    · split
      · exact Moves.refl
      · extract_lets -merge -underBinder -useContext x0 x1
        clear_value x0
        have h2 : Moves 1152921504606846976 s x1 := by
          unfold x1
          refine Moves.step (Moves.set_reeve ..) (by decide) ?_
          exact Moves.refl
        clear_value x1
        refine Moves.step (ih ..) (Nat.or_self _) ?_
        refine Moves.step (State.placeTask_moves ..) (by decide) ?_
        with_reducible assumption

theorem State.setTask_moves (s a1 a2) : Moves 1152921504606846976 s (State.setTask s a1 a2) := by
  unfold State.setTask
  refine Moves.step (Moves.set_reeve ..) (by decide) ?_
  exact Moves.refl

theorem State.setDec_moves (s a1 a2) : Moves 17179869184 s (State.setDec s a1 a2) := by
  unfold State.setDec
  refine Moves.step (Moves.set_decs ..) (by decide) ?_
  exact Moves.refl

theorem State.decodeDrop_moves (s a1 a2) : Moves 17179869184 s (State.decodeDrop s a1 a2) := by
  unfold State.decodeDrop
  extract_lets -merge -underBinder -useContext x0
  clear_value x0
  refine Moves.step (State.setDec_moves ..) (by decide) ?_
  exact Moves.refl

theorem State.deliverCancelled_moves (s a1) : Moves 17179869185 s (State.deliverCancelled s a1) := by
  unfold State.deliverCancelled
  extract_lets -merge -underBinder -useContext x0
  have h1 : Moves 17179869185 s x0 := by
    unfold x0
    refine Moves.step (State.bump_moves ..) (by decide) ?_
    exact Moves.refl
  clear_value x0
  split
  · refine Moves.step (State.decodeDrop_moves ..) (by decide) ?_
    with_reducible assumption
  · refine Moves.step (State.decodeDrop_moves ..) (by decide) ?_
    with_reducible assumption
  · with_reducible assumption
  · with_reducible assumption
  · with_reducible assumption
  · with_reducible assumption
  · with_reducible assumption
  · with_reducible assumption
  · with_reducible assumption
  · with_reducible assumption
  · with_reducible assumption
  · with_reducible assumption

theorem State.setPlayer_moves (s a1 a2) : Moves 9007199254740992 s (State.setPlayer s a1 a2) := by
  unfold State.setPlayer
  refine Moves.step (Moves.set_audio ..) (by decide) ?_
  exact Moves.refl

theorem State.playerDecoded_moves (s a1 a2 a3) : Moves 9007199254740992 s (State.playerDecoded s a1 a2 a3) := by
  unfold State.playerDecoded
  extract_lets -merge -underBinder -useContext x0 x1
  clear_value x0
  clear_value x1
  refine Moves.step (State.setPlayer_moves ..) (by decide) ?_
  exact Moves.refl

theorem State.dropUndo_moves (s a1) : Moves 9007199254740992 s (State.dropUndo s a1) := by
  unfold State.dropUndo
  refine Moves.step (Moves.set_audio ..) (by decide) ?_
  exact Moves.refl

theorem State.setLegA_moves (s a1 a2) : Moves 18014398509481984 s (State.setLegA s a1 a2) := by
  unfold State.setLegA
  refine Moves.step (Moves.set_legAudio ..) (by decide) ?_
  exact Moves.refl

theorem State.restoreUndo_moves (s a1) : Moves 27021597764222976 s (State.restoreUndo s a1) := by
  unfold State.restoreUndo
  split
  · exact Moves.refl
  · extract_lets -merge -underBinder -useContext x0
    have h1 : Moves 27021597764222976 s x0 := by
      unfold x0
      refine Moves.forEach (fun y2 y3 => ?_) ?_
      · refine Moves.step (State.setNode_moves ..) (by decide) ?_
        exact Moves.refl
      · exact Moves.refl
    clear_value x0
    refine Moves.step (State.dropUndo_moves ..) (by decide) ?_
    refine Moves.forEach (fun y4 y5 => ?_) ?_
    · refine Moves.step (State.setLegA_moves ..) (by decide) ?_
      exact Moves.refl
    · with_reducible assumption

theorem State.setConfA_moves (s a1 a2) : Moves 36028797018963968 s (State.setConfA s a1 a2) := by
  unfold State.setConfA
  refine Moves.step (Moves.set_confAudio ..) (by decide) ?_
  exact Moves.refl

theorem State.nodeSilent_moves (s a1) : Moves 9007199254740992 s (State.nodeSilent s a1) := by
  unfold State.nodeSilent
  refine Moves.step (Moves.set_audio ..) (by decide) ?_
  exact Moves.refl

theorem State.segmentLate_moves (s a1 a2) : Moves 63050394783191809 s (State.segmentLate s a1 a2) := by
  unfold State.segmentLate
  extract_lets -merge -underBinder -useContext x0
  have h1 : ∀ y2 y3, Moves 63050394783191809 y3 (x0 y2 y3) := by
    intro y2 y3
    unfold x0
    refine Moves.step (State.setLegA_moves ..) (by decide) ?_
    exact Moves.refl
  clear_value x0
  split
  · rename_i s4 q4
    have h4 := Moves.at2 (m := 63050394783191809) (s := s) q4 (by
      split
      · extract_lets -merge -underBinder -useContext x5
        clear_value x5
        try dsimp only
        refine Moves.step (State.setConfA_moves ..) (by decide) ?_
        exact Moves.refl
      · try dsimp only
        refine Moves.forEach (fun y6 y7 => ?_) ?_
        · refine Moves.step (h1 ..) (by decide) ?_
          exact Moves.refl
        · exact Moves.refl
      · try dsimp only
        refine Moves.forEach (fun y8 y9 => ?_) ?_
        · refine Moves.step (State.nodeSilent_moves ..) (by decide) ?_
          exact Moves.refl
        · exact Moves.refl
      · try dsimp only
        refine Moves.step (State.nodeSilent_moves ..) (by decide) ?_
        exact Moves.refl
      · exact Moves.refl
      · exact Moves.refl
      · exact Moves.refl
      · exact Moves.refl
      · exact Moves.refl
      · exact Moves.refl
      · exact Moves.refl
      · exact Moves.refl)
    extract_lets -merge -underBinder -useContext x10
    have h11 : Moves 63050394783191809 s x10 := by
      unfold x10
      refine Moves.step (State.contained_moves ..) (by decide) ?_
      refine Moves.step (State.bump_moves ..) (by decide) ?_
      with_reducible assumption
    clear_value x10
    refine Moves.step (State.post_moves ..) (by decide) ?_
    with_reducible assumption

theorem State.dropIns_moves (s a1 a2) : Moves 9007199254740992 s (State.dropIns s a1 a2) := by
  unfold State.dropIns
  refine Moves.step (Moves.set_audio ..) (by decide) ?_
  exact Moves.refl

theorem State.setPortBlock_moves (s a1 a2 a3) : Moves 9007199254740992 s (State.setPortBlock s a1 a2 a3) := by
  unfold State.setPortBlock
  refine Moves.step (Moves.set_audio ..) (by decide) ?_
  exact Moves.refl

theorem State.kernelZero_moves (s a1) : Moves 9007199254740992 s (State.kernelZero s a1) := by
  unfold State.kernelZero
  split
  · exact Moves.refl
  · split
    · refine Moves.forUpTo (fun y0 y1 => ?_) ?_
      · refine Moves.step (State.setPortBlock_moves ..) (by decide) ?_
        exact Moves.refl
      · exact Moves.refl
    · exact Moves.refl
    · exact Moves.refl
    · exact Moves.refl
    · exact Moves.refl
    · exact Moves.refl
    · exact Moves.refl
    · exact Moves.refl
    · exact Moves.refl
    · exact Moves.refl
    · exact Moves.refl
    · exact Moves.refl

theorem State.encodeLost_moves (s a1 a2) : Moves 18014398509481984 s (State.encodeLost s a1 a2) := by
  unfold State.encodeLost
  split
  · exact Moves.refl
  · refine Moves.ite ?_ ?_
    · refine Moves.step (State.setLegA_moves ..) (by decide) ?_
      exact Moves.refl
    · exact Moves.refl

theorem State.setVstr_moves (s a1 a2) : Moves 536870912 s (State.setVstr s a1 a2) := by
  unfold State.setVstr
  refine Moves.step (Moves.set_vstrs ..) (by decide) ?_
  exact Moves.refl

theorem State.reportHead_moves2 (s a1 a2) : Moves 8388608 s (State.reportHead s a1 a2).2 := by
  unfold State.reportHead
  extract_lets -merge -underBinder -useContext x0 x1 x2 x3 x4 x5 x6
  clear_value x0
  clear_value x1
  clear_value x2
  clear_value x3
  clear_value x4
  clear_value x5
  clear_value x6
  try dsimp only
  refine Moves.step (State.setLeg_moves ..) (by decide) ?_
  exact Moves.refl

theorem State.setQueue_moves (s a1 a2) : Moves 1024 s (State.setQueue s a1 a2) := by
  unfold State.setQueue
  refine Moves.step (Moves.set_queues ..) (by decide) ?_
  exact Moves.refl

theorem State.prunePkts_moves (s a1) : Moves 524288 s (State.prunePkts s a1) := by
  unfold State.prunePkts
  refine Moves.step (Moves.set_pkts ..) (by decide) ?_
  exact Moves.refl

theorem State.setPlane_moves (s a1 a2) : Moves 268435456 s (State.setPlane s a1 a2) := by
  unfold State.setPlane
  refine Moves.step (Moves.set_planes ..) (by decide) ?_
  exact Moves.refl

theorem State.injSettle_moves (s a1 a2) : Moves 268435457 s (State.injSettle s a1 a2) := by
  induction a2 generalizing s a1 with
  | zero => exact Moves.refl
  | succ n ih =>
    unfold State.injSettle
    extract_lets -merge -underBinder -useContext x0
    clear_value x0
    split
    · exact Moves.refl
    · refine Moves.ite ?_ ?_
      · exact Moves.refl
      · extract_lets -merge -underBinder -useContext x1
        have h2 : Moves 268435457 s x1 := by
          unfold x1
          refine Moves.step (State.setPlane_moves ..) (by decide) ?_
          exact Moves.refl
        clear_value x1
        refine Moves.step (ih ..) (Nat.or_self _) ?_
        refine Moves.step (State.put_moves ..) (by decide) ?_
        with_reducible assumption

theorem State.injFollow_moves (s a1) : Moves 268435457 s (State.injFollow s a1) := by
  unfold State.injFollow
  refine Moves.step (State.injSettle_moves ..) (by decide) ?_
  exact Moves.refl

theorem State.setPort_moves (s a1 a2) : Moves 2147483648 s (State.setPort s a1 a2) := by
  unfold State.setPort
  refine Moves.step (Moves.set_ports ..) (by decide) ?_
  exact Moves.refl

theorem State.pruneHost_moves (s a1) : Moves 2415919105 s (State.pruneHost s a1) := by
  unfold State.pruneHost
  extract_lets -merge -underBinder -useContext x0 x1 x2
  clear_value x0
  clear_value x1
  clear_value x2
  refine Moves.step (State.injFollow_moves ..) (by decide) ?_
  refine Moves.step (State.setPort_moves ..) (by decide) ?_
  exact Moves.refl

theorem State.pruneQueue_moves (s a1) : Moves 2416443393 s (State.pruneQueue s a1) := by
  unfold State.pruneQueue
  refine Moves.ite ?_ ?_
  · refine Moves.step (State.prunePkts_moves ..) (by decide) ?_
    exact Moves.refl
  · refine Moves.ite ?_ ?_
    · refine Moves.step (State.pruneHost_moves ..) (by decide) ?_
      exact Moves.refl
    · exact Moves.refl

theorem State.queueReset_moves (s a1) : Moves 2416449281 s (State.queueReset s a1) := by
  unfold State.queueReset
  refine Moves.ite ?_ ?_
  · split
    · rename_i s0 q0
      have h0 := Moves.at2 (m := 2416449281) (s := s) q0 (by
        refine Moves.step (State.evqReset_moves2 ..) (by decide) ?_
        exact Moves.refl)
      refine Moves.step (State.postReset_moves ..) (by decide) ?_
      with_reducible assumption
  · extract_lets -merge -underBinder -useContext x1 x2 x3
    clear_value x1
    clear_value x2
    have h4 : Moves 2416449281 s x3 := by
      unfold x3
      refine Moves.step (State.setQueue_moves ..) (by decide) ?_
      exact Moves.refl
    clear_value x3
    refine Moves.step (State.postReset_moves ..) (by decide) ?_
    refine Moves.step (State.resetNoted_moves ..) (by decide) ?_
    refine Moves.step (State.pruneQueue_moves ..) (by decide) ?_
    with_reducible assumption

theorem State.queueCheck_moves (s a1) : Moves 2416449281 s (State.queueCheck s a1) := by
  unfold State.queueCheck
  refine Moves.ite ?_ ?_
  · refine Moves.step (State.evqCheck_moves ..) (by decide) ?_
    exact Moves.refl
  · refine Moves.ite ?_ ?_
    · refine Moves.step (State.queueReset_moves ..) (by decide) ?_
      exact Moves.refl
    · exact Moves.refl

theorem State.qAppend_moves (s a1 a2 a3) : Moves 2416449281 s (State.qAppend s a1 a2 a3) := by
  unfold State.qAppend
  extract_lets -merge -underBinder -useContext x0 x1
  have h2 : Moves 2416449281 s x0 := by
    unfold x0
    refine Moves.step (State.queueCheck_moves ..) (by decide) ?_
    exact Moves.refl
  clear_value x0
  clear_value x1
  split
  · extract_lets -merge -underBinder -useContext x3 x4 x5
    clear_value x3
    clear_value x4
    clear_value x5
    split
    · extract_lets -merge -underBinder -useContext x6 x7 x8 x9 x10
      clear_value x6
      clear_value x7
      clear_value x8
      clear_value x9
      have h11 : Moves 2416449281 s x10 := by
        unfold x10
        refine Moves.step (Moves.set_queues_freeCells ..) (by decide) ?_
        with_reducible assumption
      clear_value x10
      refine Moves.ite ?_ ?_
      · with_reducible assumption
      · refine Moves.step (State.pruneQueue_moves ..) (by decide) ?_
        refine Moves.step (State.contained_moves ..) (by decide) ?_
        with_reducible assumption

theorem State.sortLegq_moves (s a1) : Moves 1024 s (State.sortLegq s a1) := by
  unfold State.sortLegq
  extract_lets -merge -underBinder -useContext x0
  clear_value x0
  refine Moves.step (State.setQueue_moves ..) (by decide) ?_
  exact Moves.refl

theorem State.enqueuePkt_moves (s a1 a2 a3 a4 a5 a6 a7 a8 a9 a10) : Moves 2417497857 s (State.enqueuePkt s a1 a2 a3 a4 a5 a6 a7 a8 a9 a10) := by
  unfold State.enqueuePkt
  extract_lets -merge -underBinder -useContext x0 x1 x2 x3 x4 x5 x6
  clear_value x0
  clear_value x1
  clear_value x2
  have h7 : Moves 2417497857 s x3 := by
    unfold x3
    refine Moves.step (Moves.set_nextPkt ..) (by decide) ?_
    exact Moves.refl
  clear_value x3
  clear_value x4
  have h8 : Moves 2417497857 s x5 := by
    unfold x5
    refine Moves.ite ?_ ?_
    · refine Moves.step (State.qAppend_moves ..) (by decide) ?_
      with_reducible assumption
    · with_reducible assumption
  clear_value x5
  have h9 : Moves 2417497857 s x6 := by
    unfold x6
    refine Moves.step (Moves.set_pkts ..) (by decide) ?_
    with_reducible assumption
  clear_value x6
  refine Moves.ite ?_ ?_
  · exact Moves.refl
  · refine Moves.ite ?_ ?_
    · refine Moves.step (State.contained_moves ..) (by decide) ?_
      refine Moves.step (State.bump_moves ..) (by decide) ?_
      exact Moves.refl
    · refine Moves.ite ?_ ?_
      · with_reducible assumption
      · refine Moves.ite ?_ ?_
        · refine Moves.step (State.sortLegq_moves ..) (by decide) ?_
          with_reducible assumption
        · with_reducible assumption

theorem State.sendRtcp_moves (s a1 a2 a3) : Moves 2425886465 s (State.sendRtcp s a1 a2 a3) := by
  unfold State.sendRtcp
  split
  · refine Moves.step (Moves.set_pkts ..) (by decide) ?_
    exact Moves.refl
  · split
    · rename_i s0 q0
      have h0 := Moves.at2 (m := 2425886465) (s := s) q0 (by
        refine Moves.step (State.reportHead_moves2 ..) (by decide) ?_
        exact Moves.refl)
      refine Moves.step (State.enqueuePkt_moves ..) (by decide) ?_
      with_reducible assumption

theorem State.sendPli_moves (s a1 a2 a3) : Moves 2962757377 s (State.sendPli s a1 a2 a3) := by
  unfold State.sendPli
  extract_lets -merge -underBinder -useContext x0 x1 x2 x3 x4 x5
  clear_value x0
  clear_value x1
  clear_value x2
  clear_value x3
  clear_value x4
  have h6 : Moves 2962757377 s x5 := by
    unfold x5
    refine Moves.step (State.setVstr_moves ..) (by decide) ?_
    exact Moves.refl
  clear_value x5
  refine Moves.ite ?_ ?_
  · refine Moves.step (State.sendRtcp_moves ..) (by decide) ?_
    refine Moves.step (State.bump_moves ..) (by decide) ?_
    with_reducible assumption
  · with_reducible assumption

theorem State.requestPli_moves (s a1 a2 a3) : Moves 2962757377 s (State.requestPli s a1 a2 a3) := by
  unfold State.requestPli
  extract_lets -merge -underBinder -useContext x0
  clear_value x0
  refine Moves.ite ?_ ?_
  · exact Moves.refl
  · refine Moves.ite ?_ ?_
    · refine Moves.step (State.setVstr_moves ..) (by decide) ?_
      exact Moves.refl
    · split
      · refine Moves.step (State.sendPli_moves ..) (by decide) ?_
        exact Moves.refl
      · refine Moves.ite ?_ ?_
        · refine Moves.step (State.sendPli_moves ..) (by decide) ?_
          exact Moves.refl
        · refine Moves.step (State.setVstr_moves ..) (by decide) ?_
          exact Moves.refl

theorem State.withdrawPli_moves (s a1) : Moves 536870912 s (State.withdrawPli s a1) := by
  unfold State.withdrawPli
  extract_lets -merge -underBinder -useContext x0
  clear_value x0
  refine Moves.ite ?_ ?_
  · refine Moves.step (State.setVstr_moves ..) (by decide) ?_
    exact Moves.refl
  · exact Moves.refl

theorem State.decodeDeliver_moves (s a1 a2 a3 a4 a5) : Moves 20276844289 s (State.decodeDeliver s a1 a2 a3 a4 a5) := by
  unfold State.decodeDeliver
  extract_lets -merge -underBinder -useContext x0
  clear_value x0
  split
  · exact Moves.refl
  · extract_lets -merge -underBinder -useContext x1 x2 x3 x4 x5 x6 x7 x8 x9 x10 x11 x12 x13 x14 x15 x16 x17 x18 x19 x20 x21 x22 x23 x24 x25 x26 x27 x28 x29
    clear_value x1
    clear_value x2
    clear_value x3
    have h30 : Moves 20276844289 s x4 := by
      unfold x4
      refine Moves.forEach (fun y31 y32 => ?_) ?_
      · refine Moves.step (State.post_moves ..) (by decide) ?_
        refine Moves.step (State.bump_moves ..) (by decide) ?_
        exact Moves.refl
      · exact Moves.refl
    clear_value x4
    clear_value x5
    clear_value x6
    clear_value x7
    clear_value x8
    clear_value x9
    clear_value x10
    clear_value x11
    clear_value x12
    clear_value x13
    clear_value x14
    clear_value x15
    clear_value x16
    clear_value x17
    clear_value x18
    clear_value x19
    clear_value x20
    clear_value x21
    clear_value x22
    clear_value x23
    clear_value x24
    have h33 : Moves 20276844289 s x25 := by
      unfold x25
      refine Moves.step (State.setDec_moves ..) (by decide) ?_
      with_reducible assumption
    clear_value x25
    have h34 : Moves 20276844289 s x26 := by
      unfold x26
      refine Moves.ite ?_ ?_
      · refine Moves.step (State.bump_moves ..) (by decide) ?_
        with_reducible assumption
      · with_reducible assumption
    clear_value x26
    have h35 : Moves 20276844289 s x27 := by
      unfold x27
      refine Moves.ite ?_ ?_
      · refine Moves.step (State.postLimited_moves ..) (by decide) ?_
        refine Moves.step (State.bumpSat_moves ..) (by decide) ?_
        with_reducible assumption
      · refine Moves.ite ?_ ?_
        · refine Moves.step (State.bumpSat_moves ..) (by decide) ?_
          with_reducible assumption
        · with_reducible assumption
    clear_value x27
    have h36 : Moves 20276844289 s x28 := by
      unfold x28
      refine Moves.ite ?_ ?_
      · refine Moves.step (State.requestPli_moves ..) (by decide) ?_
        with_reducible assumption
      · with_reducible assumption
    clear_value x28
    have h37 : Moves 20276844289 s x29 := by
      unfold x29
      refine Moves.ite ?_ ?_
      · refine Moves.step (State.withdrawPli_moves ..) (by decide) ?_
        with_reducible assumption
      · with_reducible assumption
    clear_value x29
    refine Moves.ite ?_ ?_
    · refine Moves.step (State.post_moves ..) (by decide) ?_
      with_reducible assumption
    · refine Moves.ite ?_ ?_
      · refine Moves.step (State.post_moves ..) (by decide) ?_
        with_reducible assumption
      · with_reducible assumption

theorem State.setLayout_moves (s a1 a2) : Moves 34359738368 s (State.setLayout s a1 a2) := by
  unfold State.setLayout
  refine Moves.step (Moves.set_layouts ..) (by decide) ?_
  exact Moves.refl

theorem State.modComp_moves (s a1 a2 a3) : Moves 34359738368 s (State.modComp s a1 a2 a3) := by
  unfold State.modComp
  extract_lets -merge -underBinder -useContext x0
  clear_value x0
  refine Moves.step (State.setLayout_moves ..) (by decide) ?_
  exact Moves.refl

theorem State.composeLate_moves (s a1 a2) : Moves 34493960961 s (State.composeLate s a1 a2) := by
  unfold State.composeLate
  extract_lets -merge -underBinder -useContext x0 x1
  have h2 : Moves 34493960961 s x0 := by
    unfold x0
    refine Moves.step (State.modComp_moves ..) (by decide) ?_
    exact Moves.refl
  clear_value x0
  have h3 : Moves 34493960961 s x1 := by
    unfold x1
    refine Moves.step (State.contained_moves ..) (by decide) ?_
    refine Moves.step (State.bump_moves ..) (by decide) ?_
    with_reducible assumption
  clear_value x1
  refine Moves.step (State.postLimited_moves ..) (by decide) ?_
  with_reducible assumption

theorem State.setEcomp_moves (s a1 a2) : Moves 8589934592 s (State.setEcomp s a1 a2) := by
  unfold State.setEcomp
  refine Moves.step (Moves.set_ecomps ..) (by decide) ?_
  exact Moves.refl

theorem State.requestSweep_moves (s a1) : Moves 8589934592 s (State.requestSweep s a1) := by
  unfold State.requestSweep
  extract_lets -merge -underBinder -useContext x0
  clear_value x0
  refine Moves.ite ?_ ?_
  · refine Moves.step (State.setEcomp_moves ..) (by decide) ?_
    exact Moves.refl
  · exact Moves.refl

theorem State.encodeMiss_moves (s a1) : Moves 8724157185 s (State.encodeMiss s a1) := by
  unfold State.encodeMiss
  extract_lets -merge -underBinder -useContext x0 x1
  have h2 : Moves 8724157185 s x0 := by
    unfold x0
    refine Moves.step (State.requestSweep_moves ..) (by decide) ?_
    exact Moves.refl
  clear_value x0
  have h3 : Moves 8724157185 s x1 := by
    unfold x1
    refine Moves.step (State.contained_moves ..) (by decide) ?_
    refine Moves.step (State.bumpSat_moves ..) (by decide) ?_
    with_reducible assumption
  clear_value x1
  refine Moves.step (State.postLimited_moves ..) (by decide) ?_
  with_reducible assumption

theorem State.encodeFailed_moves (s a1 a2 a3) : Moves 8724157185 s (State.encodeFailed s a1 a2 a3) := by
  unfold State.encodeFailed
  extract_lets -merge -underBinder -useContext x0 x1
  clear_value x0
  have h2 : Moves 8724157185 s x1 := by
    unfold x1
    refine Moves.step (State.setEcomp_moves ..) (by decide) ?_
    exact Moves.refl
  clear_value x1
  refine Moves.ite ?_ ?_
  · refine Moves.step (State.encodeMiss_moves ..) (by decide) ?_
    with_reducible assumption
  · with_reducible assumption

theorem State.deliverFailed_moves (s a1) : Moves 63050458009704193 s (State.deliverFailed s a1) := by
  unfold State.deliverFailed
  extract_lets -merge -underBinder -useContext x0 x1 x2
  have h3 : Moves 63050458009704193 s x0 := by
    unfold x0
    refine Moves.step (State.contained_moves ..) (by decide) ?_
    refine Moves.step (State.bump_moves ..) (by decide) ?_
    exact Moves.refl
  clear_value x0
  clear_value x1
  have h4 : Moves 63050458009704193 s x2 := by
    unfold x2
    refine Moves.step (State.event_moves ..) (by decide) ?_
    refine Moves.step (State.post_moves ..) (by decide) ?_
    with_reducible assumption
  clear_value x2
  split
  · with_reducible assumption
  · refine Moves.step (State.playerDecoded_moves ..) (by decide) ?_
    with_reducible assumption
  · refine Moves.ite ?_ ?_
    · refine Moves.step (State.restoreUndo_moves ..) (by decide) ?_
      with_reducible assumption
    · refine Moves.step (State.segmentLate_moves ..) (by decide) ?_
      with_reducible assumption
  · refine Moves.ite ?_ ?_
    · refine Moves.step (State.restoreUndo_moves ..) (by decide) ?_
      with_reducible assumption
    · refine Moves.step (State.segmentLate_moves ..) (by decide) ?_
      with_reducible assumption
  · refine Moves.ite ?_ ?_
    · refine Moves.step (State.restoreUndo_moves ..) (by decide) ?_
      with_reducible assumption
    · refine Moves.step (State.segmentLate_moves ..) (by decide) ?_
      with_reducible assumption
  · refine Moves.step (State.dropIns_moves ..) (by decide) ?_
    refine Moves.ite ?_ ?_
    · with_reducible assumption
    · refine Moves.step (State.kernelZero_moves ..) (by decide) ?_
      with_reducible assumption
  · refine Moves.forEach (fun y5 y6 => ?_) ?_
    · refine Moves.step (State.setLegA_moves ..) (by decide) ?_
      exact Moves.refl
    · with_reducible assumption
  · refine Moves.forEach (fun y7 y8 => ?_) ?_
    · refine Moves.step (State.encodeLost_moves ..) (by decide) ?_
      exact Moves.refl
    · with_reducible assumption
  · refine Moves.step (State.decodeDeliver_moves ..) (by decide) ?_
    with_reducible assumption
  · refine Moves.step (State.decodeDeliver_moves ..) (by decide) ?_
    with_reducible assumption
  · refine Moves.ite ?_ ?_
    · with_reducible assumption
    · refine Moves.step (State.composeLate_moves ..) (by decide) ?_
      with_reducible assumption
  · refine Moves.step (State.encodeFailed_moves ..) (by decide) ?_
    with_reducible assumption

theorem State.codecLate_moves (s a1 a2 a3) : Moves 4865 s (State.codecLate s a1 a2 a3) := by
  unfold State.codecLate
  refine Moves.forEach (fun y0 y1 => ?_) ?_
  · refine Moves.step (State.post_moves ..) (by decide) ?_
    refine Moves.step (State.contained_moves ..) (by decide) ?_
    exact Moves.refl
  · exact Moves.refl

theorem State.encodeDeliver_moves (s a1 a2 a3) : Moves 18014400926979841 s (State.encodeDeliver s a1 a2 a3) := by
  unfold State.encodeDeliver
  split
  · exact Moves.refl
  · refine Moves.ite ?_ ?_
    · exact Moves.refl
    · extract_lets -merge -underBinder -useContext x0 x1
      clear_value x0
      have h2 : Moves 18014400926979841 s x1 := by
        unfold x1
        refine Moves.step (State.setLegA_moves ..) (by decide) ?_
        exact Moves.refl
      clear_value x1
      refine Moves.ite ?_ ?_
      · with_reducible assumption
      · refine Moves.ite ?_ ?_
        · refine Moves.step (State.codecLate_moves ..) (by decide) ?_
          with_reducible assumption
        · refine Moves.ite ?_ ?_
          · with_reducible assumption
          · refine Moves.step (State.enqueuePkt_moves ..) (by decide) ?_
            with_reducible assumption

theorem State.spoil_moves (s a1) : Moves 51539607552 s (State.spoil s a1) := by
  unfold State.spoil
  split
  · exact Moves.refl
  · exact Moves.refl
  · extract_lets -merge -underBinder -useContext x0
    clear_value x0
    refine Moves.step (State.setDec_moves ..) (by decide) ?_
    exact Moves.refl
  · refine Moves.step (State.modComp_moves ..) (by decide) ?_
    exact Moves.refl

theorem State.composePoison_moves (s a1 a2 a3) : Moves 51539612417 s (State.composePoison s a1 a2 a3) := by
  unfold State.composePoison
  extract_lets -merge -underBinder -useContext x0 x1 x2 x3 x4 x5
  have h6 : Moves 51539612417 s x0 := by
    unfold x0
    refine Moves.step (State.post_moves ..) (by decide) ?_
    refine Moves.step (State.bump_moves ..) (by decide) ?_
    exact Moves.refl
  clear_value x0
  clear_value x1
  have h7 : Moves 51539612417 s x2 := by
    unfold x2
    refine Moves.step (State.spoil_moves ..) (by decide) ?_
    with_reducible assumption
  clear_value x2
  have h8 : Moves 51539612417 s x3 := by
    unfold x3
    refine Moves.step (State.modComp_moves ..) (by decide) ?_
    with_reducible assumption
  clear_value x3
  clear_value x4
  clear_value x5
  refine Moves.ite ?_ ?_
  · refine Moves.ite ?_ ?_
    · refine Moves.step (State.setLayout_moves ..) (by decide) ?_
      with_reducible assumption
    · with_reducible assumption
  · refine Moves.step (State.modComp_moves ..) (by decide) ?_
    with_reducible assumption

theorem State.composeDeliver_moves (s a1 a2 a3) : Moves 51539612417 s (State.composeDeliver s a1 a2 a3) := by
  unfold State.composeDeliver
  extract_lets -merge -underBinder -useContext x0 x1
  have h2 : Moves 51539612417 s x0 := by
    unfold x0
    refine Moves.forEach (fun y3 y4 => ?_) ?_
    · refine Moves.step (State.composePoison_moves ..) (by decide) ?_
      exact Moves.refl
    · exact Moves.refl
  clear_value x0
  have h5 : Moves 51539612417 s x1 := by
    unfold x1
    refine Moves.step (State.modComp_moves ..) (by decide) ?_
    with_reducible assumption
  clear_value x1
  split
  · with_reducible assumption
  · extract_lets -merge -underBinder -useContext x6
    clear_value x6
    refine Moves.step (State.setLayout_moves ..) (by decide) ?_
    with_reducible assumption

theorem State.rateControl_moves (s a1 a2 a3 a4) : Moves 8589934593 s (State.rateControl s a1 a2 a3 a4) := by
  unfold State.rateControl
  refine Moves.forUpTo (fun y0 y1 => ?_) ?_
  · extract_lets -merge -underBinder -useContext x2 x3 x4
    clear_value x2
    clear_value x3
    clear_value x4
    split
    · extract_lets -merge -underBinder -useContext x5 x6
      have h7 : Moves 8589934593 y1 x5 := by
        unfold x5
        refine Moves.step (State.setEcomp_moves ..) (by decide) ?_
        exact Moves.refl
      clear_value x5
      have h8 : Moves 8589934593 y1 x6 := by
        unfold x6
        refine Moves.ite ?_ ?_
        · refine Moves.step (State.bump_moves ..) (by decide) ?_
          with_reducible assumption
        · with_reducible assumption
      clear_value x6
      refine Moves.ite ?_ ?_
      · refine Moves.step (State.bump_moves ..) (by decide) ?_
        with_reducible assumption
      · with_reducible assumption
  · exact Moves.refl

theorem State.setOstr_moves (s a1 a2) : Moves 1073741824 s (State.setOstr s a1 a2) := by
  unfold State.setOstr
  refine Moves.step (Moves.set_ostrs ..) (by decide) ?_
  exact Moves.refl

theorem State.ostrPost_moves (s a1 a2 a3) : Moves 4865 s (State.ostrPost s a1 a2 a3) := by
  unfold State.ostrPost
  extract_lets -merge -underBinder -useContext x0
  clear_value x0
  refine Moves.ite ?_ ?_
  · exact Moves.refl
  · refine Moves.step (State.post_moves ..) (by decide) ?_
    exact Moves.refl

theorem State.setCur_moves (s a1 a2) : Moves 1073746689 s (State.setCur s a1 a2) := by
  unfold State.setCur
  extract_lets -merge -underBinder -useContext x0 x1
  clear_value x0
  have h2 : Moves 1073746689 s x1 := by
    unfold x1
    refine Moves.step (State.setOstr_moves ..) (by decide) ?_
    exact Moves.refl
  clear_value x1
  split
  · refine Moves.step (State.ostrPost_moves ..) (by decide) ?_
    with_reducible assumption
  · refine Moves.step (State.ostrPost_moves ..) (by decide) ?_
    with_reducible assumption
  · with_reducible assumption
  · with_reducible assumption

theorem State.switchSource_moves (s a1 a2) : Moves 1073746689 s (State.switchSource s a1 a2) := by
  unfold State.switchSource
  extract_lets -merge -underBinder -useContext x0 x1 x2 x3 x4
  clear_value x0
  clear_value x1
  clear_value x2
  have h5 : Moves 1073746689 s x3 := by
    unfold x3
    refine Moves.step (State.setOstr_moves ..) (by decide) ?_
    exact Moves.refl
  clear_value x3
  have h6 : Moves 1073746689 s x4 := by
    unfold x4
    refine Moves.step (State.setCur_moves ..) (by decide) ?_
    with_reducible assumption
  clear_value x4
  refine Moves.step (State.ostrPost_moves ..) (by decide) ?_
  with_reducible assumption

theorem State.moves_moves (s a1 a2 a3 a4) : Moves 1073746689 s (State.moves s a1 a2 a3 a4) := by
  unfold State.moves
  refine Moves.ite ?_ ?_
  · exact Moves.refl
  · extract_lets -merge -underBinder -useContext x0
    clear_value x0
    split
    · refine Moves.step (State.setCur_moves ..) (by decide) ?_
      refine Moves.step (State.setOstr_moves ..) (by decide) ?_
      exact Moves.refl
    · refine Moves.ite ?_ ?_
      · split
        · exact Moves.refl
        · refine Moves.ite ?_ ?_
          · refine Moves.step (State.setCur_moves ..) (by decide) ?_
            refine Moves.step (State.setOstr_moves ..) (by decide) ?_
            exact Moves.refl
          · refine Moves.ite ?_ ?_
            · refine Moves.step (State.setCur_moves ..) (by decide) ?_
              exact Moves.refl
            · exact Moves.refl
      · split
        · exact Moves.refl
        · extract_lets -merge -underBinder -useContext x1 x2 x3 x4
          clear_value x1
          have h5 : Moves 1073746689 s x2 := by
            unfold x2
            refine Moves.step (State.setCur_moves ..) (by decide) ?_
            exact Moves.refl
          clear_value x2
          clear_value x3
          have h6 : Moves 1073746689 s x4 := by
            unfold x4
            refine Moves.step (State.setOstr_moves ..) (by decide) ?_
            with_reducible assumption
          clear_value x4
          refine Moves.ite ?_ ?_
          · exact Moves.refl
          · refine Moves.step (State.bump_moves ..) (by decide) ?_
            with_reducible assumption

theorem State.beginPic_moves (s a1 a2 a3) : Moves 1073746689 s (State.beginPic s a1 a2 a3) := by
  unfold State.beginPic
  extract_lets -merge -underBinder -useContext x0
  clear_value x0
  split
  · refine Moves.ite ?_ ?_
    · refine Moves.step (State.switchSource_moves ..) (by decide) ?_
      exact Moves.refl
    · refine Moves.step (State.moves_moves ..) (by decide) ?_
      exact Moves.refl
  · refine Moves.step (State.moves_moves ..) (by decide) ?_
    exact Moves.refl

theorem State.sendPic_moves (s a1 a2 a3 a4 a5 a6) : Moves 3491239681 s (State.sendPic s a1 a2 a3 a4 a5 a6) := by
  unfold State.sendPic
  extract_lets -merge -underBinder -useContext x0 x1 x2 x3 x4 x5 x6 x7
  clear_value x0
  clear_value x1
  clear_value x2
  clear_value x3
  have h8 : Moves 3491239681 s x4 := by
    unfold x4
    refine Moves.step (State.setOstr_moves ..) (by decide) ?_
    exact Moves.refl
  clear_value x4
  clear_value x5
  clear_value x6
  clear_value x7
  refine Moves.ite ?_ ?_
  · exact Moves.refl
  · refine Moves.foldl (fun y9 y10 => ?_) ?_
    · extract_lets -merge -underBinder -useContext x11
      clear_value x11
      refine Moves.step (State.enqueuePkt_moves ..) (by decide) ?_
      exact Moves.refl
    · with_reducible assumption

theorem State.forwardQuarter_moves (s a1 a2 a3 a4 a5) : Moves 12081174273 s (State.forwardQuarter s a1 a2 a3 a4 a5) := by
  unfold State.forwardQuarter
  extract_lets -merge -underBinder -useContext x0 x1 x2
  clear_value x0
  clear_value x1
  have h3 : Moves 12081174273 s x2 := by
    unfold x2
    refine Moves.step (State.setEcomp_moves ..) (by decide) ?_
    exact Moves.refl
  clear_value x2
  refine Moves.forEach (fun y4 y5 => ?_) ?_
  · extract_lets -merge -underBinder -useContext x6 x7 x8 x9
    have h10 : Moves 12081174273 y5 x6 := by
      unfold x6
      refine Moves.step (State.beginPic_moves ..) (by decide) ?_
      exact Moves.refl
    clear_value x6
    clear_value x7
    have h11 : Moves 12081174273 y5 x8 := by
      unfold x8
      refine Moves.ite ?_ ?_
      · refine Moves.ite ?_ ?_
        · refine Moves.step (State.setOstr_moves ..) (by decide) ?_
          with_reducible assumption
        · with_reducible assumption
      · exact Moves.refl
    clear_value x8
    clear_value x9
    split
    · refine Moves.ite ?_ ?_
      · refine Moves.step (State.sendPic_moves ..) (by decide) ?_
        with_reducible assumption
      · with_reducible assumption
    · with_reducible assumption
  · with_reducible assumption

theorem State.releaseQuarter_moves (s a1 a2 a3 a4) : Moves 12081174401 s (State.releaseQuarter s a1 a2 a3 a4) := by
  unfold State.releaseQuarter
  split
  · rename_i s0 q0
    have h0 := Moves.at2 (m := 12081174401) (s := s) q0 (by
      refine Moves.step (State.fresh_moves2 ..) (by decide) ?_
      exact Moves.refl)
    refine Moves.step (State.forwardQuarter_moves ..) (by decide) ?_
    with_reducible assumption

theorem State.encodePicDeliver_moves (s a1 a2 a3 a4 a5) : Moves 12215392129 s (State.encodePicDeliver s a1 a2 a3 a4 a5) := by
  unfold State.encodePicDeliver
  split
  · exact Moves.refl
  · extract_lets -merge -underBinder -useContext x0 x1 x2 x3 x4 x5 x6 x7 x8
    clear_value x0
    clear_value x1
    have h9 : Moves 12215392129 s x2 := by
      unfold x2
      refine Moves.forEach (fun y10 y11 => ?_) ?_
      · refine Moves.step (State.post_moves ..) (by decide) ?_
        refine Moves.step (State.bump_moves ..) (by decide) ?_
        exact Moves.refl
      · exact Moves.refl
    clear_value x2
    clear_value x3
    clear_value x4
    have h12 : Moves 12215392129 s x5 := by
      unfold x5
      refine Moves.step (State.setEcomp_moves ..) (by decide) ?_
      with_reducible assumption
    clear_value x5
    have h13 : Moves 12215392129 s x6 := by
      unfold x6
      refine Moves.step (State.rateControl_moves ..) (by decide) ?_
      with_reducible assumption
    clear_value x6
    have h14 : Moves 12215392129 s x7 := by
      unfold x7
      refine Moves.ite ?_ ?_
      · refine Moves.step (State.postLimited_moves ..) (by decide) ?_
        refine Moves.step (State.contained_moves ..) (by decide) ?_
        refine Moves.step (State.bumpSat_moves ..) (by decide) ?_
        with_reducible assumption
      · with_reducible assumption
    clear_value x7
    have h15 : Moves 12215392129 s x8 := by
      unfold x8
      refine Moves.ite ?_ ?_
      · refine Moves.step (State.post_moves ..) (by decide) ?_
        refine Moves.step (State.bump_moves ..) (by decide) ?_
        with_reducible assumption
      · with_reducible assumption
    clear_value x8
    refine Moves.forEach (fun y16 y17 => ?_) ?_
    · refine Moves.step (State.releaseQuarter_moves ..) (by decide) ?_
      exact Moves.refl
    · with_reducible assumption

theorem State.deliverOk_moves (s a1) : Moves 27021662064482177 s (State.deliverOk s a1) := by
  unfold State.deliverOk
  split
  · exact Moves.refl
  · exact Moves.refl
  · exact Moves.refl
  · exact Moves.refl
  · refine Moves.step (State.dropIns_moves ..) (by decide) ?_
    exact Moves.refl
  · refine Moves.step (State.playerDecoded_moves ..) (by decide) ?_
    exact Moves.refl
  · refine Moves.forEach (fun y0 y1 => ?_) ?_
    · refine Moves.step (State.setLegA_moves ..) (by decide) ?_
      exact Moves.refl
    · exact Moves.refl
  · refine Moves.forEach (fun y2 y3 => ?_) ?_
    · refine Moves.step (State.encodeDeliver_moves ..) (by decide) ?_
      exact Moves.refl
    · exact Moves.refl
  · refine Moves.step (State.decodeDeliver_moves ..) (by decide) ?_
    exact Moves.refl
  · refine Moves.step (State.decodeDeliver_moves ..) (by decide) ?_
    exact Moves.refl
  · refine Moves.step (State.composeDeliver_moves ..) (by decide) ?_
    exact Moves.refl
  · refine Moves.step (State.encodePicDeliver_moves ..) (by decide) ?_
    exact Moves.refl

theorem State.releaseFlow_moves (s a1 a2) : Moves 1215971963690293121 s (State.releaseFlow s a1 a2) := by
  induction a2 generalizing s a1 with
  | zero => exact Moves.refl
  | succ n ih =>
    unfold State.releaseFlow
    split
    · exact Moves.refl
    · refine Moves.ite ?_ ?_
      · exact Moves.refl
      · extract_lets -merge -underBinder -useContext x0 x1
        have h2 : Moves 1215971963690293121 s x0 := by
          unfold x0
          refine Moves.step (State.setTask_moves ..) (by decide) ?_
          exact Moves.refl
        clear_value x0
        have h3 : Moves 1215971963690293121 s x1 := by
          unfold x1
          split
          · refine Moves.step (State.deliverCancelled_moves ..) (by decide) ?_
            with_reducible assumption
          · refine Moves.step (State.deliverFailed_moves ..) (by decide) ?_
            with_reducible assumption
          · refine Moves.step (State.deliverOk_moves ..) (by decide) ?_
            with_reducible assumption
          · refine Moves.step (State.deliverOk_moves ..) (by decide) ?_
            with_reducible assumption
          · refine Moves.step (State.deliverOk_moves ..) (by decide) ?_
            with_reducible assumption
          · refine Moves.step (State.deliverOk_moves ..) (by decide) ?_
            with_reducible assumption
        clear_value x1
        refine Moves.step (ih ..) (Nat.or_self _) ?_
        with_reducible assumption

theorem State.settle_moves (s a1) : Moves 1215971963690293121 s (State.settle s a1) := by
  induction a1 generalizing s with
  | zero => exact Moves.refl
  | succ n ih =>
    unfold State.settle
    extract_lets -merge -underBinder -useContext x0
    have h1 : Moves 1215971963690293121 s x0 := by
      unfold x0
      refine Moves.step (State.drainStalled_moves ..) (by decide) ?_
      exact Moves.refl
    clear_value x0
    split
    · with_reducible assumption
    · refine Moves.step (ih ..) (Nat.or_self _) ?_
      refine Moves.step (State.releaseFlow_moves ..) (by decide) ?_
      with_reducible assumption

theorem State.releaseTurn_moves (s a1) : Moves 1215971963690293121 s (State.releaseTurn s a1) := by
  unfold State.releaseTurn
  refine Moves.step (State.showReeve_moves ..) (by decide) ?_
  refine Moves.step (State.settle_moves ..) (by decide) ?_
  refine Moves.step (State.releaseFlow_moves ..) (by decide) ?_
  exact Moves.refl

theorem State.releaseAll_moves (s) : Moves 1215971963690293121 s (State.releaseAll s) := by
  unfold State.releaseAll
  extract_lets -merge -underBinder -useContext x0
  clear_value x0
  refine Moves.forEach (fun y1 y2 => ?_) ?_
  · refine Moves.step (State.releaseTurn_moves ..) (by decide) ?_
    exact Moves.refl
  · exact Moves.refl

theorem State.setCrossing_moves (s a1 a2) : Moves 16384 s (State.setCrossing s a1 a2) := by
  unfold State.setCrossing
  refine Moves.step (Moves.set_cross ..) (by decide) ?_
  exact Moves.refl

theorem State.islandUp_moves (s a1) : Moves 16385 s (State.islandUp s a1) := by
  unfold State.islandUp
  refine Moves.ite ?_ ?_
  · exact Moves.refl
  · refine Moves.step (State.put_moves ..) (by decide) ?_
    refine Moves.step (State.put_moves ..) (by decide) ?_
    refine Moves.step (State.setCrossing_moves ..) (by decide) ?_
    exact Moves.refl

theorem State.domWakeTime_moves (s a1) : Moves 1 s (State.domWakeTime s a1) := by
  unfold State.domWakeTime
  refine Moves.step (State.wr_moves ..) (by decide) ?_
  refine Moves.step (State.wr_moves ..) (by decide) ?_
  exact Moves.refl

theorem State.ungateCluster_moves (s a1) : Moves 16385 s (State.ungateCluster s a1) := by
  unfold State.ungateCluster
  refine Moves.ite ?_ ?_
  · extract_lets -merge -underBinder -useContext x0
    have h1 : Moves 16385 s x0 := by
      unfold x0
      refine Moves.step (State.put_moves ..) (by decide) ?_
      refine Moves.step (State.put_moves ..) (by decide) ?_
      exact Moves.refl
    clear_value x0
    refine Moves.step (State.islandUp_moves ..) (by decide) ?_
    refine Moves.step (State.domWakeTime_moves ..) (by decide) ?_
    with_reducible assumption
  · exact Moves.refl

theorem State.setDom_moves (s a1 a2) : Moves 562949953421312 s (State.setDom s a1 a2) := by
  unfold State.setDom
  refine Moves.step (Moves.set_pwr ..) (by decide) ?_
  exact Moves.refl

theorem State.opChange_moves (s a1 a2) : Moves 562949953421313 s (State.opChange s a1 a2) := by
  unfold State.opChange
  extract_lets -merge -underBinder -useContext x0 x1 x2
  clear_value x0
  clear_value x1
  have h3 : Moves 562949953421313 s x2 := by
    unfold x2
    refine Moves.step (State.put_moves ..) (by decide) ?_
    refine Moves.step (State.put_moves ..) (by decide) ?_
    refine Moves.step (State.put_moves ..) (by decide) ?_
    exact Moves.refl
  clear_value x2
  refine Moves.ite ?_ ?_
  · refine Moves.step (State.setDom_moves ..) (by decide) ?_
    exact Moves.refl
  · refine Moves.ite ?_ ?_
    · exact Moves.refl
    · refine Moves.step (State.setDom_moves ..) (by decide) ?_
      with_reducible assumption

theorem State.boundsTick_moves (s) : Moves 562949953437697 s (State.boundsTick s) := by
  unfold State.boundsTick
  refine Moves.ite ?_ ?_
  · exact Moves.refl
  · extract_lets -merge -underBinder -useContext x0
    clear_value x0
    refine Moves.forUpTo (fun y1 y2 => ?_) ?_
    · extract_lets -merge -underBinder -useContext x3 x4 x5 x6
      have h7 : Moves 562949953437697 y2 x3 := by
        unfold x3
        refine Moves.ite ?_ ?_
        · exact Moves.refl
        · refine Moves.step (State.ungateCluster_moves ..) (by decide) ?_
          exact Moves.refl
      clear_value x3
      clear_value x4
      clear_value x5
      clear_value x6
      refine Moves.ite ?_ ?_
      · refine Moves.step (State.opChange_moves ..) (by decide) ?_
        with_reducible assumption
      · with_reducible assumption
    · exact Moves.refl

theorem State.shareTick_moves (s) : Moves 17592186044416 s (State.shareTick s) := by
  unfold State.shareTick
  refine Moves.step (State.modSec_moves ..) (by decide) ?_
  exact Moves.refl

theorem State.closeLag_moves (s) : Moves 1 s (State.closeLag s) := by
  unfold State.closeLag
  extract_lets -merge -underBinder -useContext x0 x1
  clear_value x0
  clear_value x1
  refine Moves.ite ?_ ?_
  · refine Moves.step (State.wr_moves ..) (by decide) ?_
    exact Moves.refl
  · exact Moves.refl

theorem State.modSvc_moves (s a1) : Moves 1125899906842624 s (State.modSvc s a1) := by
  unfold State.modSvc
  refine Moves.step (Moves.set_svc ..) (by decide) ?_
  exact Moves.refl

theorem State.putB_moves (s a1 a2) : Moves 1 s (State.putB s a1 a2) := by
  unfold State.putB
  refine Moves.step (State.put_moves ..) (by decide) ?_
  exact Moves.refl

theorem State.fwResult_moves (s a1 a2) : Moves 1 s (State.fwResult s a1 a2) := by
  unfold State.fwResult
  refine Moves.step (State.postResult_moves ..) (by decide) ?_
  exact Moves.refl

theorem State.fwBoundary_moves (s a1 a2) : Moves 1231453023113985 s (State.fwBoundary s a1 a2) := by
  unfold State.fwBoundary
  split
  · exact Moves.refl
  · refine Moves.ite ?_ ?_
    · exact Moves.refl
    · extract_lets -merge -underBinder -useContext x0 x1 x2 x3 x4 x5 x6
      have h7 : Moves 1231453023113985 s x0 := by
        unfold x0
        refine Moves.step (State.modSvc_moves ..) (by decide) ?_
        exact Moves.refl
      clear_value x0
      clear_value x1
      clear_value x2
      have h8 : Moves 1231453023113985 s x3 := by
        unfold x3
        refine Moves.step (State.putB_moves ..) (by decide) ?_
        refine Moves.step (State.put_moves ..) (by decide) ?_
        refine Moves.step (State.putB_moves ..) (by decide) ?_
        with_reducible assumption
      clear_value x3
      have h9 : Moves 1231453023113985 s x4 := by
        unfold x4
        refine Moves.step (State.putB_moves ..) (by decide) ?_
        with_reducible assumption
      clear_value x4
      clear_value x5
      have h10 : Moves 1231453023113985 s x6 := by
        unfold x6
        refine Moves.step (Moves.set_flash_boot ..) (by decide) ?_
        with_reducible assumption
      clear_value x6
      refine Moves.ite ?_ ?_
      · refine Moves.step (State.post_moves ..) (by decide) ?_
        refine Moves.step (State.fwResult_moves ..) (by decide) ?_
        with_reducible assumption
      · refine Moves.step (State.post_moves ..) (by decide) ?_
        refine Moves.step (State.fwResult_moves ..) (by decide) ?_
        with_reducible assumption

theorem State.boundaryClose_moves (s a1) : Moves 1217783958852884353 s (State.boundaryClose s a1) := by
  unfold State.boundaryClose
  refine Moves.step (State.releaseAll_moves ..) (by decide) ?_
  refine Moves.step (State.boundsTick_moves ..) (by decide) ?_
  refine Moves.step (State.shareTick_moves ..) (by decide) ?_
  refine Moves.step (State.closeLag_moves ..) (by decide) ?_
  refine Moves.step (State.fwBoundary_moves ..) (by decide) ?_
  exact Moves.refl

theorem State.nudge_moves (s a1) : Moves 16 s (State.nudge s a1) := by
  unfold State.nudge
  refine Moves.step (Moves.set_clk ..) (by decide) ?_
  exact Moves.refl

theorem State.oscMove_moves (s) : Moves 144 s (State.oscMove s) := by
  unfold State.oscMove
  split
  · rename_i s0 q0
    have h0 := Moves.at2 (m := 144) (s := s) q0 (by
      refine Moves.step (State.fresh_moves2 ..) (by decide) ?_
      exact Moves.refl)
    refine Moves.step (State.nudge_moves ..) (by decide) ?_
    with_reducible assumption

theorem State.setCap_moves (s a1 a2) : Moves 32 s (State.setCap s a1 a2) := by
  unfold State.setCap
  refine Moves.step (Moves.set_bel ..) (by decide) ?_
  exact Moves.refl

theorem State.capturePush_moves (s a1 a2) : Moves 289 s (State.capturePush s a1 a2) := by
  unfold State.capturePush
  extract_lets -merge -underBinder -useContext x0 x1
  clear_value x0
  have h2 : Moves 289 s x1 := by
    unfold x1
    refine Moves.ite ?_ ?_
    · refine Moves.step (State.setCap_moves ..) (by decide) ?_
      exact Moves.refl
    · refine Moves.step (State.setCap_moves ..) (by decide) ?_
      exact Moves.refl
  clear_value x1
  refine Moves.step (State.event_moves ..) (by decide) ?_
  with_reducible assumption

theorem State.captureInternal_moves (s a1 a2 a3) : Moves 289 s (State.captureInternal s a1 a2 a3) := by
  unfold State.captureInternal
  refine Moves.forUpTo (fun y0 y1 => ?_) ?_
  · refine Moves.ite ?_ ?_
    · refine Moves.step (State.capturePush_moves ..) (by decide) ?_
      exact Moves.refl
    · exact Moves.refl
  · exact Moves.refl

theorem State.oscReturn_moves (s) : Moves 433 s (State.oscReturn s) := by
  unfold State.oscReturn
  extract_lets -merge -underBinder -useContext x0 x1 x2 x3 x4
  have h5 : Moves 433 s x0 := by
    unfold x0
    refine Moves.step (State.oscMove_moves ..) (by decide) ?_
    exact Moves.refl
  clear_value x0
  have h6 : Moves 433 s x1 := by
    unfold x1
    refine Moves.step (State.putB_moves ..) (by decide) ?_
    with_reducible assumption
  clear_value x1
  clear_value x2
  have h7 : Moves 433 s x3 := by
    unfold x3
    refine Moves.step (Moves.set_bel ..) (by decide) ?_
    with_reducible assumption
  clear_value x3
  have h8 : Moves 433 s x4 := by
    unfold x4
    refine Moves.step (State.event_moves ..) (by decide) ?_
    with_reducible assumption
  clear_value x4
  refine Moves.step (State.captureInternal_moves ..) (by decide) ?_
  with_reducible assumption

theorem State.measureClocks_moves (s) : Moves 1 s (State.measureClocks s) := by
  unfold State.measureClocks
  refine Moves.forUpTo (fun y0 y1 => ?_) ?_
  · refine Moves.step (State.put_moves ..) (by decide) ?_
    exact Moves.refl
  · exact Moves.refl

theorem State.fixedEdge_moves (s a1) : Moves 289 s (State.fixedEdge s a1) := by
  unfold State.fixedEdge
  refine Moves.step (State.captureInternal_moves ..) (by decide) ?_
  refine Moves.step (State.event_moves ..) (by decide) ?_
  refine Moves.step (State.bump_moves ..) (by decide) ?_
  exact Moves.refl

theorem State.tdmLocked_moves (s a1 a2) : Moves 1 s (State.tdmLocked s a1 a2) := by
  unfold State.tdmLocked
  refine Moves.step (State.putB_moves ..) (by decide) ?_
  refine Moves.step (State.putB_moves ..) (by decide) ?_
  exact Moves.refl

theorem State.setTdm_moves (s a1 a2) : Moves 67108864 s (State.setTdm s a1 a2) := by
  unfold State.setTdm
  refine Moves.step (Moves.set_tdm ..) (by decide) ?_
  exact Moves.refl

theorem State.tdmHold_moves (s a1 a2) : Moves 201331457 s (State.tdmHold s a1 a2) := by
  unfold State.tdmHold
  refine Moves.ite ?_ ?_
  · exact Moves.refl
  · refine Moves.ite ?_ ?_
    · extract_lets -merge -underBinder -useContext x0
      have h1 : Moves 201331457 s x0 := by
        unfold x0
        refine Moves.step (State.event_moves ..) (by decide) ?_
        refine Moves.step (State.bump_moves ..) (by decide) ?_
        exact Moves.refl
      clear_value x0
      refine Moves.step (State.postLimited_moves ..) (by decide) ?_
      with_reducible assumption
    · extract_lets -merge -underBinder -useContext x2 x3
      have h4 : Moves 201331457 s x2 := by
        unfold x2
        refine Moves.step (State.post_moves ..) (by decide) ?_
        refine Moves.step (State.event_moves ..) (by decide) ?_
        refine Moves.step (State.tdmLocked_moves ..) (by decide) ?_
        exact Moves.refl
      clear_value x2
      clear_value x3
      refine Moves.step (State.setTdm_moves ..) (by decide) ?_
      with_reducible assumption

theorem State.tdmSeek_moves (s a1 a2) : Moves 67113729 s (State.tdmSeek s a1 a2) := by
  unfold State.tdmSeek
  extract_lets -merge -underBinder -useContext x0 x1 x2
  clear_value x0
  clear_value x1
  have h3 : Moves 67113729 s x2 := by
    unfold x2
    refine Moves.step (State.setTdm_moves ..) (by decide) ?_
    exact Moves.refl
  clear_value x2
  refine Moves.ite ?_ ?_
  · with_reducible assumption
  · refine Moves.step (State.post_moves ..) (by decide) ?_
    refine Moves.step (State.event_moves ..) (by decide) ?_
    refine Moves.step (State.tdmLocked_moves ..) (by decide) ?_
    with_reducible assumption

theorem State.tdmEnd_moves (s a1 a2) : Moves 201331457 s (State.tdmEnd s a1 a2) := by
  unfold State.tdmEnd
  extract_lets -merge -underBinder -useContext x0 x1 x2 x3 x4 x5 x6 x7 x8
  clear_value x0
  clear_value x1
  clear_value x2
  clear_value x3
  clear_value x4
  have h9 : Moves 201331457 s x5 := by
    unfold x5
    refine Moves.ite ?_ ?_
    · refine Moves.step (State.put_moves ..) (by decide) ?_
      exact Moves.refl
    · exact Moves.refl
  clear_value x5
  have h10 : Moves 201331457 s x6 := by
    unfold x6
    refine Moves.ite ?_ ?_
    · with_reducible assumption
    · refine Moves.ite ?_ ?_
      · refine Moves.step (State.tdmLocked_moves ..) (by decide) ?_
        with_reducible assumption
      · refine Moves.ite ?_ ?_
        · refine Moves.step (State.tdmHold_moves ..) (by decide) ?_
          with_reducible assumption
        · refine Moves.step (State.tdmSeek_moves ..) (by decide) ?_
          with_reducible assumption
  clear_value x6
  clear_value x7
  clear_value x8
  refine Moves.step (State.setTdm_moves ..) (by decide) ?_
  with_reducible assumption

theorem State.showLoad_moves (s a1 a2) : Moves 1 s (State.showLoad s a1 a2) := by
  unfold State.showLoad
  extract_lets -merge -underBinder -useContext x0
  clear_value x0
  refine Moves.ite ?_ ?_
  · refine Moves.step (State.put_moves ..) (by decide) ?_
    exact Moves.refl
  · refine Moves.ite ?_ ?_
    · refine Moves.step (State.put_moves ..) (by decide) ?_
      exact Moves.refl
    · refine Moves.ite ?_ ?_
      · refine Moves.step (State.put_moves ..) (by decide) ?_
        exact Moves.refl
      · exact Moves.refl

theorem State.setEng_moves (s a1 a2) : Moves 1152921504606846976 s (State.setEng s a1 a2) := by
  unfold State.setEng
  refine Moves.step (Moves.set_reeve ..) (by decide) ?_
  exact Moves.refl

theorem State.loadWindow_moves (s) : Moves 1152921504606846977 s (State.loadWindow s) := by
  unfold State.loadWindow
  refine Moves.forEach (fun y0 y1 => ?_) ?_
  · extract_lets -merge -underBinder -useContext x2 x3
    clear_value x2
    clear_value x3
    refine Moves.step (State.showLoad_moves ..) (by decide) ?_
    refine Moves.step (State.setEng_moves ..) (by decide) ?_
    exact Moves.refl
  · exact Moves.refl

theorem State.windowEnd_moves (s) : Moves 1152921504606847105 s (State.windowEnd s) := by
  unfold State.windowEnd
  extract_lets -merge -underBinder -useContext x0
  have h1 : Moves 1152921504606847105 s x0 := by
    unfold x0
    refine Moves.step (State.loadWindow_moves ..) (by decide) ?_
    exact Moves.refl
  clear_value x0
  split
  · rename_i s2 q2
    have h2 := Moves.at2 (m := 1152921504606847105) (s := s) q2 (by
      refine Moves.step (State.fresh_moves2 ..) (by decide) ?_
      with_reducible assumption)
    refine Moves.step (State.put_moves ..) (by decide) ?_
    with_reducible assumption

theorem State.ownBoundary_moves (s a1) : Moves 1152921504808178609 s (State.ownBoundary s a1) := by
  unfold State.ownBoundary
  extract_lets -merge -underBinder -useContext x0 x1 x2
  have h3 : Moves 1152921504808178609 s x0 := by
    unfold x0
    refine Moves.ite ?_ ?_
    · refine Moves.step (State.oscReturn_moves ..) (by decide) ?_
      exact Moves.refl
    · exact Moves.refl
  clear_value x0
  have h4 : Moves 1152921504808178609 s x1 := by
    unfold x1
    refine Moves.step (State.measureClocks_moves ..) (by decide) ?_
    refine Moves.step (State.fixedEdge_moves ..) (by decide) ?_
    with_reducible assumption
  clear_value x1
  have h5 : Moves 1152921504808178609 s x2 := by
    unfold x2
    refine Moves.forUpTo (fun y6 y7 => ?_) ?_
    · refine Moves.step (State.tdmEnd_moves ..) (by decide) ?_
      exact Moves.refl
    · with_reducible assumption
  clear_value x2
  refine Moves.ite ?_ ?_
  · refine Moves.step (State.windowEnd_moves ..) (by decide) ?_
    with_reducible assumption
  · with_reducible assumption

theorem State.syncsEnd_moves (s) : Moves 68727865344 s (State.syncsEnd s) := by
  unfold State.syncsEnd
  extract_lets -merge -underBinder -useContext x0 x1
  clear_value x0
  have h2 : Moves 68727865344 s x1 := by
    unfold x1
    refine Moves.step (Moves.set_twin ..) (by decide) ?_
    exact Moves.refl
  clear_value x1
  refine Moves.step (Moves.set_legs ..) (by decide) ?_
  with_reducible assumption

theorem State.limitsEnd_moves (s) : Moves 8388609 s (State.limitsEnd s) := by
  unfold State.limitsEnd
  extract_lets -merge -underBinder -useContext x0 x1
  clear_value x0
  have h2 : Moves 8388609 s x1 := by
    unfold x1
    refine Moves.step (Moves.set_legs ..) (by decide) ?_
    exact Moves.refl
  clear_value x1
  refine Moves.step (State.put_moves ..) (by decide) ?_
  with_reducible assumption

theorem State.showTwin_moves (s) : Moves 1 s (State.showTwin s) := by
  unfold State.showTwin
  extract_lets -merge -underBinder -useContext x0 x1 x2 x3
  clear_value x0
  have h4 : Moves 1 s x1 := by
    unfold x1
    refine Moves.step (State.putB_moves ..) (by decide) ?_
    exact Moves.refl
  clear_value x1
  have h5 : Moves 1 s x2 := by
    unfold x2
    refine Moves.step (State.putB_moves ..) (by decide) ?_
    with_reducible assumption
  clear_value x2
  have h6 : Moves 1 s x3 := by
    unfold x3
    refine Moves.step (State.put_moves ..) (by decide) ?_
    with_reducible assumption
  clear_value x3
  refine Moves.step (State.put_moves ..) (by decide) ?_
  with_reducible assumption

theorem State.enterTwin_moves (s a1) : Moves 68727870337 s (State.enterTwin s a1) := by
  unfold State.enterTwin
  extract_lets -merge -underBinder -useContext x0 x1 x2 x3 x4 x5 x6 x7 x8 x9 x10
  clear_value x0
  have h11 : Moves 68727870337 s x1 := by
    unfold x1
    refine Moves.step (State.put_moves ..) (by decide) ?_
    exact Moves.refl
  clear_value x1
  have h12 : Moves 68727870337 s x2 := by
    unfold x2
    refine Moves.step (State.put_moves ..) (by decide) ?_
    with_reducible assumption
  clear_value x2
  clear_value x3
  have h13 : Moves 68727870337 s x4 := by
    unfold x4
    refine Moves.step (Moves.set_twin ..) (by decide) ?_
    with_reducible assumption
  clear_value x4
  have h14 : Moves 68727870337 s x5 := by
    unfold x5
    refine Moves.ite ?_ ?_
    · refine Moves.step (State.syncsEnd_moves ..) (by decide) ?_
      with_reducible assumption
    · with_reducible assumption
  clear_value x5
  have h15 : Moves 68727870337 s x6 := by
    unfold x6
    refine Moves.ite ?_ ?_
    · refine Moves.step (State.put_moves ..) (by decide) ?_
      refine Moves.step (State.limitsEnd_moves ..) (by decide) ?_
      with_reducible assumption
    · with_reducible assumption
  clear_value x6
  have h16 : Moves 68727870337 s x7 := by
    unfold x7
    refine Moves.ite ?_ ?_
    · refine Moves.step (State.put_moves ..) (by decide) ?_
      with_reducible assumption
    · with_reducible assumption
  clear_value x7
  have h17 : Moves 68727870337 s x8 := by
    unfold x8
    refine Moves.ite ?_ ?_
    · split
      · rename_i s18 q18
        have h18 := Moves.at2 (m := 68727870337) (s := s) q18 (by
          refine Moves.step (State.fresh_moves2 ..) (by decide) ?_
          with_reducible assumption)
        extract_lets -merge -underBinder -useContext x19 x20
        clear_value x19
        have h21 : Moves 68727870337 s x20 := by
          unfold x20
          refine Moves.step (Moves.set_twin ..) (by decide) ?_
          with_reducible assumption
        clear_value x20
        refine Moves.step (State.put_moves ..) (by decide) ?_
        refine Moves.step (State.put_moves ..) (by decide) ?_
        with_reducible assumption
    · refine Moves.ite ?_ ?_
      · refine Moves.step (State.put_moves ..) (by decide) ?_
        refine Moves.step (State.put_moves ..) (by decide) ?_
        with_reducible assumption
      · with_reducible assumption
  clear_value x8
  have h22 : Moves 68727870337 s x9 := by
    unfold x9
    refine Moves.ite ?_ ?_
    · refine Moves.step (State.wr_moves ..) (by decide) ?_
      with_reducible assumption
    · with_reducible assumption
  clear_value x9
  have h23 : Moves 68727870337 s x10 := by
    unfold x10
    refine Moves.step (State.showTwin_moves ..) (by decide) ?_
    with_reducible assumption
  clear_value x10
  refine Moves.ite ?_ ?_
  · exact Moves.refl
  · refine Moves.step (State.event_moves ..) (by decide) ?_
    refine Moves.step (State.post_moves ..) (by decide) ?_
    with_reducible assumption

theorem State.modTwin_moves (s a1) : Moves 68719476736 s (State.modTwin s a1) := by
  unfold State.modTwin
  refine Moves.step (Moves.set_twin ..) (by decide) ?_
  exact Moves.refl

theorem State.swapSenior_moves (s a1) : Moves 68727870337 s (State.swapSenior s a1) := by
  unfold State.swapSenior
  split
  · refine Moves.ite ?_ ?_
    · extract_lets -merge -underBinder -useContext x0
      have h1 : Moves 68727870337 s x0 := by
        unfold x0
        refine Moves.step (State.enterTwin_moves ..) (by decide) ?_
        refine Moves.step (State.modTwin_moves ..) (by decide) ?_
        exact Moves.refl
      clear_value x0
      refine Moves.step (State.post_moves ..) (by decide) ?_
      with_reducible assumption
    · exact Moves.refl
  · exact Moves.refl

theorem State.requestSwitch_moves (s a1 a2) : Moves 11552691969 s (State.requestSwitch s a1 a2) := by
  unfold State.requestSwitch
  refine Moves.ite ?_ ?_
  · refine Moves.step (State.requestSweep_moves ..) (by decide) ?_
    exact Moves.refl
  · refine Moves.step (State.requestPli_moves ..) (by decide) ?_
    exact Moves.refl

theorem State.freezeSwitches_moves (s a1) : Moves 11552691969 s (State.freezeSwitches s a1) := by
  unfold State.freezeSwitches
  refine Moves.forEach (fun y0 y1 => ?_) ?_
  · refine Moves.step (State.requestSwitch_moves ..) (by decide) ?_
    exact Moves.refl
  · exact Moves.refl

theorem State.setLink_moves (s a1 a2) : Moves 137438953472 s (State.setLink s a1 a2) := by
  unfold State.setLink
  refine Moves.step (Moves.set_links ..) (by decide) ?_
  exact Moves.refl

theorem State.modLink_moves (s a1 a2) : Moves 137438953472 s (State.modLink s a1 a2) := by
  unfold State.modLink
  refine Moves.step (State.setLink_moves ..) (by decide) ?_
  exact Moves.refl

theorem State.sendMsg_moves (s a1 a2 a3 a4 a5 a6) : Moves 137438953472 s (State.sendMsg s a1 a2 a3 a4 a5 a6) := by
  unfold State.sendMsg
  extract_lets -merge -underBinder -useContext x0 x1
  clear_value x0
  clear_value x1
  refine Moves.ite ?_ ?_
  · refine Moves.step (State.modLink_moves ..) (by decide) ?_
    exact Moves.refl
  · exact Moves.refl

theorem State.sendCopy_moves (s a1) : Moves 137438953472 s (State.sendCopy s a1) := by
  unfold State.sendCopy
  refine Moves.forUpTo (fun y0 y1 => ?_) ?_
  · refine Moves.step (State.sendMsg_moves ..) (by decide) ?_
    exact Moves.refl
  · exact Moves.refl

theorem State.freezeSend_moves (s a1) : Moves 217711122305 s (State.freezeSend s a1) := by
  unfold State.freezeSend
  extract_lets -merge -underBinder -useContext x0 x1 x2 x3
  clear_value x0
  have h4 : Moves 217711122305 s x1 := by
    unfold x1
    refine Moves.step (State.modTwin_moves ..) (by decide) ?_
    exact Moves.refl
  clear_value x1
  have h5 : Moves 217711122305 s x2 := by
    unfold x2
    refine Moves.step (State.freezeSwitches_moves ..) (by decide) ?_
    with_reducible assumption
  clear_value x2
  have h6 : Moves 217711122305 s x3 := by
    unfold x3
    refine Moves.forEach (fun y7 y8 => ?_) ?_
    · refine Moves.step (State.sendMsg_moves ..) (by decide) ?_
      exact Moves.refl
    · with_reducible assumption
  clear_value x3
  refine Moves.ite ?_ ?_
  · split
    · rename_i s9 q9
      have h9 := Moves.at2 (m := 217711122305) (s := s) q9 (by
        refine Moves.step (State.fresh_moves2 ..) (by decide) ?_
        with_reducible assumption)
      refine Moves.step (State.sendCopy_moves ..) (by decide) ?_
      refine Moves.step (State.modTwin_moves ..) (by decide) ?_
      with_reducible assumption
  · with_reducible assumption

theorem State.wr64_moves (s a1 a2) : Moves 1 s (State.wr64 s a1 a2) := by
  unfold State.wr64
  refine Moves.step (State.wr_moves ..) (by decide) ?_
  refine Moves.step (State.wr_moves ..) (by decide) ?_
  exact Moves.refl

theorem State.bankShow_moves (s a1) : Moves 1 s (State.bankShow s a1) := by
  unfold State.bankShow
  extract_lets -merge -underBinder -useContext x0
  clear_value x0
  refine Moves.step (State.put_moves ..) (by decide) ?_
  refine Moves.step (State.put_moves ..) (by decide) ?_
  exact Moves.refl

theorem State.setBank_moves (s a1 a2) : Moves 2048 s (State.setBank s a1 a2) := by
  unfold State.setBank
  refine Moves.step (Moves.set_bankq ..) (by decide) ?_
  exact Moves.refl

theorem State.bankDrain_moves (s a1) : Moves 2049 s (State.bankDrain s a1) := by
  unfold State.bankDrain
  refine Moves.step (State.bankShow_moves ..) (by decide) ?_
  refine Moves.step (State.setBank_moves ..) (by decide) ?_
  exact Moves.refl

theorem State.ledgerEnd_moves (s a1) : Moves 206158432257 s (State.ledgerEnd s a1) := by
  unfold State.ledgerEnd
  extract_lets -merge -underBinder -useContext x0 x1 x2 x3 x4 x5 x6 x7
  have h8 : ∀ y9 y10, Moves 206158432257 y10 (x0 y9 y10) := by
    intro y9 y10
    unfold x0
    refine Moves.step (State.sendMsg_moves ..) (by decide) ?_
    exact Moves.refl
  clear_value x0
  clear_value x1
  have h11 : Moves 206158432257 s x2 := by
    unfold x2
    refine Moves.forEach (fun y12 y13 => ?_) ?_
    · refine Moves.step (h8 ..) (by decide) ?_
      exact Moves.refl
    · exact Moves.refl
  clear_value x2
  clear_value x3
  clear_value x4
  clear_value x5
  have h14 : Moves 206158432257 s x6 := by
    unfold x6
    refine Moves.step (h8 ..) (by decide) ?_
    with_reducible assumption
  clear_value x6
  have h15 : Moves 206158432257 s x7 := by
    unfold x7
    refine Moves.step (State.modTwin_moves ..) (by decide) ?_
    with_reducible assumption
  clear_value x7
  refine Moves.step (State.wr64_moves ..) (by decide) ?_
  refine Moves.step (State.bankDrain_moves ..) (by decide) ?_
  with_reducible assumption

theorem State.devEnter_moves (s a1) : Moves 4865 s (State.devEnter s a1) := by
  unfold State.devEnter
  extract_lets -merge -underBinder -useContext x0
  have h1 : Moves 4865 s x0 := by
    unfold x0
    refine Moves.step (State.put_moves ..) (by decide) ?_
    exact Moves.refl
  clear_value x0
  refine Moves.step (State.event_moves ..) (by decide) ?_
  refine Moves.step (State.post_moves ..) (by decide) ?_
  with_reducible assumption

theorem State.modPwr_moves (s a1) : Moves 562949953421312 s (State.modPwr s a1) := by
  unfold State.modPwr
  refine Moves.step (Moves.set_pwr ..) (by decide) ?_
  exact Moves.refl

theorem State.modTask_moves (s a1 a2) : Moves 1152921504606846976 s (State.modTask s a1 a2) := by
  unfold State.modTask
  refine Moves.step (State.setTask_moves ..) (by decide) ?_
  exact Moves.refl

theorem State.cancelTasks_moves (s a1) : Moves 1152921504606846976 s (State.cancelTasks s a1) := by
  unfold State.cancelTasks
  extract_lets -merge -underBinder -useContext x0 x1 x2 x3
  clear_value x0
  have h4 : Moves 1152921504606846976 s x1 := by
    unfold x1
    refine Moves.forEach (fun y5 y6 => ?_) ?_
    · split
      · refine Moves.step (State.modTask_moves ..) (by decide) ?_
        exact Moves.refl
      · refine Moves.step (State.modTask_moves ..) (by decide) ?_
        exact Moves.refl
      · refine Moves.step (State.modTask_moves ..) (by decide) ?_
        exact Moves.refl
      · refine Moves.step (State.modTask_moves ..) (by decide) ?_
        exact Moves.refl
      · exact Moves.refl
      · exact Moves.refl
    · exact Moves.refl
  clear_value x1
  clear_value x2
  clear_value x3
  refine Moves.step (Moves.set_reeve ..) (by decide) ?_
  with_reducible assumption

theorem State.dropPkt_moves (s a1) : Moves 524288 s (State.dropPkt s a1) := by
  unfold State.dropPkt
  refine Moves.step (Moves.set_pkts ..) (by decide) ?_
  exact Moves.refl

theorem State.unqueue_moves (s a1 a2) : Moves 5120 s (State.unqueue s a1 a2) := by
  unfold State.unqueue
  extract_lets -merge -underBinder -useContext x0 x1 x2
  clear_value x0
  clear_value x1
  have h3 : Moves 5120 s x2 := by
    unfold x2
    refine Moves.step (State.setQueue_moves ..) (by decide) ?_
    exact Moves.refl
  clear_value x2
  refine Moves.step (Moves.set_freeCells ..) (by decide) ?_
  with_reducible assumption

theorem State.hostDiscard_moves (s a1) : Moves 2415924225 s (State.hostDiscard s a1) := by
  unfold State.hostDiscard
  refine Moves.step (State.pruneHost_moves ..) (by decide) ?_
  refine Moves.forEach (fun y0 y1 => ?_) ?_
  · refine Moves.step (State.unqueue_moves ..) (by decide) ?_
    exact Moves.refl
  · exact Moves.refl

theorem State.modLeg_moves (s a1 a2) : Moves 8388608 s (State.modLeg s a1 a2) := by
  unfold State.modLeg
  refine Moves.step (State.setLeg_moves ..) (by decide) ?_
  exact Moves.refl

theorem State.entryStart_moves (s) : Moves 1153484456985106177 s (State.entryStart s) := by
  unfold State.entryStart
  extract_lets -merge -underBinder -useContext x0 x1 x2 x3
  have h4 : Moves 1153484456985106177 s x0 := by
    unfold x0
    refine Moves.step (State.devEnter_moves ..) (by decide) ?_
    refine Moves.step (State.modPwr_moves ..) (by decide) ?_
    exact Moves.refl
  clear_value x0
  have h5 : Moves 1153484456985106177 s x1 := by
    unfold x1
    refine Moves.step (State.cancelTasks_moves ..) (by decide) ?_
    with_reducible assumption
  clear_value x1
  have h6 : Moves 1153484456985106177 s x2 := by
    unfold x2
    refine Moves.forEach (fun y7 y8 => ?_) ?_
    · split
      · refine Moves.step (State.dropPkt_moves ..) (by decide) ?_
        refine Moves.step (State.unqueue_moves ..) (by decide) ?_
        exact Moves.refl
      · exact Moves.refl
    · with_reducible assumption
  clear_value x2
  have h9 : Moves 1153484456985106177 s x3 := by
    unfold x3
    refine Moves.forUpTo (fun y10 y11 => ?_) ?_
    · refine Moves.step (State.hostDiscard_moves ..) (by decide) ?_
      exact Moves.refl
    · with_reducible assumption
  clear_value x3
  refine Moves.forEach (fun y12 y13 => ?_) ?_
  · refine Moves.step (State.modLeg_moves ..) (by decide) ?_
    exact Moves.refl
  · with_reducible assumption

theorem State.decodeStart_moves (s a1) : Moves 20142626561 s (State.decodeStart s a1) := by
  unfold State.decodeStart
  extract_lets -merge -underBinder -useContext x0
  clear_value x0
  refine Moves.ite ?_ ?_
  · refine Moves.step (State.setDec_moves ..) (by decide) ?_
    exact Moves.refl
  · refine Moves.step (State.requestPli_moves ..) (by decide) ?_
    refine Moves.step (State.setDec_moves ..) (by decide) ?_
    exact Moves.refl

theorem State.ecompStart_moves (s a1 a2) : Moves 8589934592 s (State.ecompStart s a1 a2) := by
  unfold State.ecompStart
  refine Moves.step (State.setEcomp_moves ..) (by decide) ?_
  exact Moves.refl

theorem State.mediaRestart_moves (s) : Moves 63050423515748097 s (State.mediaRestart s) := by
  unfold State.mediaRestart
  extract_lets -merge -underBinder -useContext x0 x1 x2 x3 x4
  have h5 : Moves 63050423515748097 s x0 := by
    unfold x0
    refine Moves.forEach (fun y6 y7 => ?_) ?_
    · refine Moves.step (State.modLeg_moves ..) (by decide) ?_
      exact Moves.refl
    · exact Moves.refl
  clear_value x0
  have h8 : Moves 63050423515748097 s x1 := by
    unfold x1
    refine Moves.step (Moves.set_legAudio ..) (by decide) ?_
    with_reducible assumption
  clear_value x1
  clear_value x2
  have h9 : Moves 63050423515748097 s x3 := by
    unfold x3
    refine Moves.step (Moves.set_audio_confAudio ..) (by decide) ?_
    with_reducible assumption
  clear_value x3
  have h10 : Moves 63050423515748097 s x4 := by
    unfold x4
    refine Moves.forEach (fun y11 y12 => ?_) ?_
    · refine Moves.ite ?_ ?_
      · refine Moves.step (State.decodeStart_moves ..) (by decide) ?_
        exact Moves.refl
      · exact Moves.refl
    · with_reducible assumption
  clear_value x4
  refine Moves.forEach (fun y13 y14 => ?_) ?_
  · refine Moves.step (State.ecompStart_moves ..) (by decide) ?_
    exact Moves.refl
  · with_reducible assumption

theorem State.becomeActive_moves (s) : Moves 63613373469169409 s (State.becomeActive s) := by
  unfold State.becomeActive
  refine Moves.step (State.mediaRestart_moves ..) (by decide) ?_
  refine Moves.step (State.devEnter_moves ..) (by decide) ?_
  refine Moves.step (State.modPwr_moves ..) (by decide) ?_
  exact Moves.refl

theorem State.powerBoundary_moves (s) : Moves 1216534878076016385 s (State.powerBoundary s) := by
  unfold State.powerBoundary
  extract_lets -merge -underBinder -useContext x0
  have h1 : Moves 1216534878076016385 s x0 := by
    unfold x0
    split
    · refine Moves.ite ?_ ?_
      · refine Moves.step (State.entryStart_moves ..) (by decide) ?_
        exact Moves.refl
      · exact Moves.refl
    · exact Moves.refl
  clear_value x0
  refine Moves.ite ?_ ?_
  · refine Moves.step (State.becomeActive_moves ..) (by decide) ?_
    with_reducible assumption
  · with_reducible assumption

theorem State.modFab_moves (s a1) : Moves 274877906944 s (State.modFab s a1) := by
  unfold State.modFab
  refine Moves.step (Moves.set_fab ..) (by decide) ?_
  exact Moves.refl

theorem State.switchUplink_moves (s a1 a2) : Moves 274877911809 s (State.switchUplink s a1 a2) := by
  unfold State.switchUplink
  extract_lets -merge -underBinder -useContext x0 x1
  clear_value x0
  have h2 : Moves 274877911809 s x1 := by
    unfold x1
    refine Moves.step (Moves.set_fab ..) (by decide) ?_
    exact Moves.refl
  clear_value x1
  refine Moves.step (State.post_moves ..) (by decide) ?_
  with_reducible assumption

theorem State.revertSwitch_moves (s a1) : Moves 274877911809 s (State.revertSwitch s a1) := by
  unfold State.revertSwitch
  split
  · exact Moves.refl
  · refine Moves.ite ?_ ?_
    · exact Moves.refl
    · extract_lets -merge -underBinder -useContext x0
      have h1 : Moves 274877911809 s x0 := by
        unfold x0
        refine Moves.step (State.modFab_moves ..) (by decide) ?_
        exact Moves.refl
      clear_value x0
      refine Moves.ite ?_ ?_
      · refine Moves.step (State.switchUplink_moves ..) (by decide) ?_
        with_reducible assumption
      · with_reducible assumption

theorem State.servingSwitch_moves (s a1) : Moves 274877911809 s (State.servingSwitch s a1) := by
  unfold State.servingSwitch
  extract_lets -merge -underBinder -useContext x0 x1
  have h2 : Moves 274877911809 s x0 := by
    unfold x0
    refine Moves.forEach (fun y3 y4 => ?_) ?_
    · refine Moves.ite ?_ ?_
      · refine Moves.step (State.post_moves ..) (by decide) ?_
        refine Moves.step (State.modFab_moves ..) (by decide) ?_
        exact Moves.refl
      · exact Moves.refl
    · exact Moves.refl
  clear_value x0
  have h5 : Moves 274877911809 s x1 := by
    unfold x1
    refine Moves.forEach (fun y6 y7 => ?_) ?_
    · refine Moves.step (State.post_moves ..) (by decide) ?_
      refine Moves.step (State.modFab_moves ..) (by decide) ?_
      exact Moves.refl
    · with_reducible assumption
  clear_value x1
  refine Moves.step (State.modFab_moves ..) (by decide) ?_
  with_reducible assumption

theorem State.claimSwitch_moves (s a1) : Moves 274877911809 s (State.claimSwitch s a1) := by
  unfold State.claimSwitch
  split
  · exact Moves.refl
  · refine Moves.ite ?_ ?_
    · exact Moves.refl
    · refine Moves.ite ?_ ?_
      · refine Moves.step (State.switchUplink_moves ..) (by decide) ?_
        refine Moves.step (State.modFab_moves ..) (by decide) ?_
        exact Moves.refl
      · refine Moves.step (State.modFab_moves ..) (by decide) ?_
        exact Moves.refl

theorem State.rootSwitch_moves (s a1) : Moves 274877911809 s (State.rootSwitch s a1) := by
  unfold State.rootSwitch
  extract_lets -merge -underBinder -useContext x0 x1
  clear_value x0
  have h2 : Moves 274877911809 s x1 := by
    unfold x1
    refine Moves.step (State.modFab_moves ..) (by decide) ?_
    exact Moves.refl
  clear_value x1
  refine Moves.ite ?_ ?_
  · exact Moves.refl
  · refine Moves.step (State.post_moves ..) (by decide) ?_
    with_reducible assumption

theorem State.uplinkNote_moves (s) : Moves 274877906944 s (State.uplinkNote s) := by
  unfold State.uplinkNote
  extract_lets -merge -underBinder -useContext x0 x1 x2
  clear_value x0
  clear_value x1
  clear_value x2
  refine Moves.step (State.modFab_moves ..) (by decide) ?_
  exact Moves.refl

theorem State.uplinkTake_moves (s) : Moves 274877906944 s (State.uplinkTake s) := by
  unfold State.uplinkTake
  refine Moves.ite ?_ ?_
  · refine Moves.step (State.modFab_moves ..) (by decide) ?_
    exact Moves.refl
  · exact Moves.refl

theorem State.uplinkCheck_moves (s) : Moves 274877911809 s (State.uplinkCheck s) := by
  unfold State.uplinkCheck
  split
  · exact Moves.refl
  · refine Moves.ite ?_ ?_
    · exact Moves.refl
    · refine Moves.ite ?_ ?_
      · refine Moves.step (State.switchUplink_moves ..) (by decide) ?_
        exact Moves.refl
      · refine Moves.step (State.modFab_moves ..) (by decide) ?_
        exact Moves.refl

theorem State.sendCtl_moves (s a1 a2 a3) : Moves 137438953600 s (State.sendCtl s a1 a2 a3) := by
  unfold State.sendCtl
  split
  · rename_i s0 q0
    have h0 := Moves.at2 (m := 137438953600) (s := s) q0 (by
      refine Moves.step (State.fresh_moves2 ..) (by decide) ?_
      exact Moves.refl)
    refine Moves.step (State.sendMsg_moves ..) (by decide) ?_
    with_reducible assumption

theorem State.sendTopo_moves (s a1 a2) : Moves 137438953600 s (State.sendTopo s a1 a2) := by
  unfold State.sendTopo
  extract_lets -merge -underBinder -useContext x0 x1 x2
  clear_value x0
  clear_value x1
  clear_value x2
  refine Moves.ite ?_ ?_
  · refine Moves.step (State.sendCtl_moves ..) (by decide) ?_
    exact Moves.refl
  · exact Moves.refl

theorem State.claim_moves (s) : Moves 412316860544 s (State.claim s) := by
  unfold State.claim
  split
  · exact Moves.refl
  · refine Moves.ite ?_ ?_
    · exact Moves.refl
    · extract_lets -merge -underBinder -useContext x0 x1
      clear_value x0
      have h2 : Moves 412316860544 s x1 := by
        unfold x1
        refine Moves.step (State.modFab_moves ..) (by decide) ?_
        exact Moves.refl
      clear_value x1
      refine Moves.step (State.sendTopo_moves ..) (by decide) ?_
      with_reducible assumption

theorem State.showTopo_moves (s) : Moves 1 s (State.showTopo s) := by
  unfold State.showTopo
  extract_lets -merge -underBinder -useContext x0 x1 x2 x3 x4 x5 x6 x7
  clear_value x0
  clear_value x1
  have h8 : Moves 1 s x2 := by
    unfold x2
    refine Moves.step (State.put_moves ..) (by decide) ?_
    exact Moves.refl
  clear_value x2
  have h9 : Moves 1 s x3 := by
    unfold x3
    refine Moves.step (State.put_moves ..) (by decide) ?_
    with_reducible assumption
  clear_value x3
  have h10 : Moves 1 s x4 := by
    unfold x4
    refine Moves.step (State.putB_moves ..) (by decide) ?_
    with_reducible assumption
  clear_value x4
  have h11 : Moves 1 s x5 := by
    unfold x5
    refine Moves.step (State.putB_moves ..) (by decide) ?_
    with_reducible assumption
  clear_value x5
  have h12 : Moves 1 s x6 := by
    unfold x6
    refine Moves.step (State.put_moves ..) (by decide) ?_
    with_reducible assumption
  clear_value x6
  have h13 : Moves 1 s x7 := by
    unfold x7
    refine Moves.step (State.putB_moves ..) (by decide) ?_
    with_reducible assumption
  clear_value x7
  refine Moves.forUpTo (fun y14 y15 => ?_) ?_
  · refine Moves.step (State.putB_moves ..) (by decide) ?_
    exact Moves.refl
  · with_reducible assumption

theorem State.announce_moves (s) : Moves 412316860544 s (State.announce s) := by
  unfold State.announce
  extract_lets -merge -underBinder -useContext x0
  clear_value x0
  refine Moves.ite ?_ ?_
  · exact Moves.refl
  · refine Moves.forUpTo (fun y1 y2 => ?_) ?_
    · refine Moves.step (State.sendTopo_moves ..) (by decide) ?_
      exact Moves.refl
    · refine Moves.step (State.modFab_moves ..) (by decide) ?_
      exact Moves.refl

theorem State.showLink_moves (s a1 a2) : Moves 1 s (State.showLink s a1 a2) := by
  unfold State.showLink
  refine Moves.step (State.put_moves ..) (by decide) ?_
  refine Moves.step (State.put_moves ..) (by decide) ?_
  exact Moves.refl

theorem State.linkLeavesUp_moves (s a1 a2) : Moves 4993 s (State.linkLeavesUp s a1 a2) := by
  unfold State.linkLeavesUp
  split
  · rename_i s0 q0
    have h0 := Moves.at2 (m := 4993) (s := s) q0 (by
      refine Moves.step (State.fresh_moves2 ..) (by decide) ?_
      exact Moves.refl)
    extract_lets -merge -underBinder -useContext x1
    have h2 : Moves 4993 s x1 := by
      unfold x1
      refine Moves.step (State.bump_moves ..) (by decide) ?_
      with_reducible assumption
    clear_value x1
    refine Moves.step (State.event_moves ..) (by decide) ?_
    refine Moves.step (State.post_moves ..) (by decide) ?_
    with_reducible assumption

theorem State.linkUpNow_moves (s a1) : Moves 4865 s (State.linkUpNow s a1) := by
  unfold State.linkUpNow
  extract_lets -merge -underBinder -useContext x0
  have h1 : Moves 4865 s x0 := by
    unfold x0
    refine Moves.step (State.showLink_moves ..) (by decide) ?_
    exact Moves.refl
  clear_value x0
  refine Moves.step (State.event_moves ..) (by decide) ?_
  refine Moves.step (State.post_moves ..) (by decide) ?_
  with_reducible assumption

theorem State.reviewChildren_moves (s) : Moves 137438958465 s (State.reviewChildren s) := by
  unfold State.reviewChildren
  refine Moves.forUpTo (fun y0 y1 => ?_) ?_
  · extract_lets -merge -underBinder -useContext x2 x3 x4 x5 x6
    clear_value x2
    clear_value x3
    have h7 : Moves 137438958465 y1 x4 := by
      unfold x4
      refine Moves.step (State.showLink_moves ..) (by decide) ?_
      refine Moves.step (State.linkLeavesUp_moves ..) (by decide) ?_
      exact Moves.refl
    clear_value x4
    have h8 : Moves 137438958465 y1 x5 := by
      unfold x5
      refine Moves.step (State.post_moves ..) (by decide) ?_
      with_reducible assumption
    clear_value x5
    have h9 : Moves 137438958465 y1 x6 := by
      unfold x6
      refine Moves.step (State.linkUpNow_moves ..) (by decide) ?_
      exact Moves.refl
    clear_value x6
    refine Moves.ite ?_ ?_
    · exact Moves.refl
    · refine Moves.ite ?_ ?_
      · refine Moves.step (State.sendTopo_moves ..) (by decide) ?_
        with_reducible assumption
      · refine Moves.ite ?_ ?_
        · refine Moves.step (State.sendTopo_moves ..) (by decide) ?_
          with_reducible assumption
        · exact Moves.refl
  · exact Moves.refl

theorem State.fabricRefresh_moves (s) : Moves 412316865409 s (State.fabricRefresh s) := by
  unfold State.fabricRefresh
  extract_lets -merge -underBinder -useContext x0 x1
  have h2 : Moves 412316865409 s x0 := by
    unfold x0
    refine Moves.step (State.uplinkNote_moves ..) (by decide) ?_
    refine Moves.step (State.uplinkTake_moves ..) (by decide) ?_
    refine Moves.step (State.uplinkCheck_moves ..) (by decide) ?_
    exact Moves.refl
  clear_value x0
  have h3 : Moves 412316865409 s x1 := by
    unfold x1
    refine Moves.ite ?_ ?_
    · refine Moves.step (State.claim_moves ..) (by decide) ?_
      with_reducible assumption
    · with_reducible assumption
  clear_value x1
  refine Moves.step (State.showTopo_moves ..) (by decide) ?_
  refine Moves.step (State.announce_moves ..) (by decide) ?_
  refine Moves.step (State.reviewChildren_moves ..) (by decide) ?_
  with_reducible assumption

theorem State.fabricBoundary_moves (s a1) : Moves 412316865409 s (State.fabricBoundary s a1) := by
  unfold State.fabricBoundary
  extract_lets -merge -underBinder -useContext x0 x1 x2 x3 x4 x5
  clear_value x0
  clear_value x1
  have h6 : Moves 412316865409 s x2 := by
    unfold x2
    refine Moves.step (State.revertSwitch_moves ..) (by decide) ?_
    refine Moves.step (State.servingSwitch_moves ..) (by decide) ?_
    refine Moves.step (State.claimSwitch_moves ..) (by decide) ?_
    exact Moves.refl
  clear_value x2
  have h7 : Moves 412316865409 s x3 := by
    unfold x3
    refine Moves.step (State.rootSwitch_moves ..) (by decide) ?_
    refine Moves.step (State.fabricRefresh_moves ..) (by decide) ?_
    with_reducible assumption
  clear_value x3
  clear_value x4
  clear_value x5
  refine Moves.step (State.showTopo_moves ..) (by decide) ?_
  refine Moves.step (State.modFab_moves ..) (by decide) ?_
  with_reducible assumption

theorem State.bankSwap_moves (s) : Moves 2049 s (State.bankSwap s) := by
  unfold State.bankSwap
  refine Moves.forUpTo (fun y0 y1 => ?_) ?_
  · extract_lets -merge -underBinder -useContext x2 x3
    clear_value x2
    have h4 : Moves 2049 y1 x3 := by
      unfold x3
      refine Moves.ite ?_ ?_
      · exact Moves.refl
      · refine Moves.step (State.bumpSat_moves ..) (by decide) ?_
        exact Moves.refl
    clear_value x3
    refine Moves.ite ?_ ?_
    · with_reducible assumption
    · refine Moves.step (State.bankShow_moves ..) (by decide) ?_
      refine Moves.step (State.setBank_moves ..) (by decide) ?_
      with_reducible assumption
  · exact Moves.refl

theorem State.clearWin_moves (s a1) : Moves 4294967296 s (State.clearWin s a1) := by
  unfold State.clearWin
  refine Moves.step (Moves.set_rxWin ..) (by decide) ?_
  exact Moves.refl

theorem State.configureQueue_moves (s a1) : Moves 1024 s (State.configureQueue s a1) := by
  unfold State.configureQueue
  extract_lets -merge -underBinder -useContext x0 x1
  clear_value x0
  clear_value x1
  refine Moves.ite ?_ ?_
  · refine Moves.step (State.setQueue_moves ..) (by decide) ?_
    exact Moves.refl
  · refine Moves.ite ?_ ?_
    · refine Moves.step (State.setQueue_moves ..) (by decide) ?_
      exact Moves.refl
    · exact Moves.refl

theorem State.legEnd_moves (s a1 a2 a3) : Moves 18014402813368129 s (State.legEnd s a1 a2 a3) := by
  unfold State.legEnd
  extract_lets -merge -underBinder -useContext x0 x1 x2 x3 x4 x5 x6 x7
  clear_value x0
  have h8 : Moves 18014402813368129 s x1 := by
    unfold x1
    refine Moves.forEach (fun y9 y10 => ?_) ?_
    · refine Moves.step (State.dropPkt_moves ..) (by decide) ?_
      refine Moves.step (State.unqueue_moves ..) (by decide) ?_
      exact Moves.refl
    · exact Moves.refl
  clear_value x1
  have h11 : Moves 18014402813368129 s x2 := by
    unfold x2
    refine Moves.step (State.clearWin_moves ..) (by decide) ?_
    refine Moves.step (State.setLeg_moves ..) (by decide) ?_
    with_reducible assumption
  clear_value x2
  clear_value x3
  have h12 : Moves 18014402813368129 s x4 := by
    unfold x4
    refine Moves.step (State.setLegA_moves ..) (by decide) ?_
    with_reducible assumption
  clear_value x4
  clear_value x5
  clear_value x6
  have h13 : Moves 18014402813368129 s x7 := by
    unfold x7
    refine Moves.step (State.configureQueue_moves ..) (by decide) ?_
    refine Moves.step (Moves.set_gate ..) (by decide) ?_
    with_reducible assumption
  clear_value x7
  refine Moves.step (State.post_moves ..) (by decide) ?_
  with_reducible assumption

theorem State.setConf_moves (s a1 a2) : Moves 16777216 s (State.setConf s a1 a2) := by
  unfold State.setConf
  refine Moves.step (Moves.set_confs ..) (by decide) ?_
  exact Moves.refl

theorem State.setTap_moves (s a1 a2) : Moves 33554432 s (State.setTap s a1 a2) := by
  unfold State.setTap
  refine Moves.step (Moves.set_taps ..) (by decide) ?_
  exact Moves.refl

theorem State.decodeEnd_moves (s a1) : Moves 1152921521786716160 s (State.decodeEnd s a1) := by
  unfold State.decodeEnd
  extract_lets -merge -underBinder -useContext x0
  have h1 : Moves 1152921521786716160 s x0 := by
    unfold x0
    refine Moves.step (State.cancelTasks_moves ..) (by decide) ?_
    exact Moves.refl
  clear_value x0
  refine Moves.step (State.setDec_moves ..) (by decide) ?_
  with_reducible assumption

theorem State.vstrEnd_moves (s a1) : Moves 1152921522323587072 s (State.vstrEnd s a1) := by
  unfold State.vstrEnd
  refine Moves.step (State.setVstr_moves ..) (by decide) ?_
  refine Moves.step (State.decodeEnd_moves ..) (by decide) ?_
  exact Moves.refl

theorem State.ostrEnd_moves (s a1) : Moves 1074271232 s (State.ostrEnd s a1) := by
  unfold State.ostrEnd
  extract_lets -merge -underBinder -useContext x0 x1
  clear_value x0
  have h2 : Moves 1074271232 s x1 := by
    unfold x1
    refine Moves.forEach (fun y3 y4 => ?_) ?_
    · refine Moves.step (State.dropPkt_moves ..) (by decide) ?_
      refine Moves.step (State.unqueue_moves ..) (by decide) ?_
      exact Moves.refl
    · exact Moves.refl
  clear_value x1
  refine Moves.step (State.setOstr_moves ..) (by decide) ?_
  with_reducible assumption

theorem State.firstTx_moves2 (s a1) : Moves 128 s (State.firstTx s a1).2 := by
  unfold State.firstTx
  split
  · rename_i s0 q0
    have h0 := Moves.at2 (m := 128) (s := s) q0 (by
      refine Moves.step (State.fresh_moves2 ..) (by decide) ?_
      exact Moves.refl)
    try dsimp only
    with_reducible assumption

theorem State.legStart_moves (s a1 a2 a3) : Moves 18014398517876609 s (State.legStart s a1 a2 a3) := by
  unfold State.legStart
  extract_lets -merge -underBinder -useContext x0 x1
  clear_value x0
  clear_value x1
  split
  · rename_i s2 q2
    have h2 := Moves.at2 (m := 18014398517876609) (s := s) q2 (by
      refine Moves.step (State.firstTx_moves2 ..) (by decide) ?_
      exact Moves.refl)
    split
    · rename_i s3 q3
      have h3 := Moves.at2 (m := 18014398517876609) (s := s) q3 (by
        refine Moves.step (State.fresh_moves2 ..) (by decide) ?_
        with_reducible assumption)
      extract_lets -merge -underBinder -useContext x4 x5 x6 x7 x8
      clear_value x4
      clear_value x5
      clear_value x6
      clear_value x7
      have h9 : Moves 18014398517876609 s x8 := by
        unfold x8
        refine Moves.step (State.configureQueue_moves ..) (by decide) ?_
        refine Moves.step (State.setLegA_moves ..) (by decide) ?_
        refine Moves.step (State.setLeg_moves ..) (by decide) ?_
        with_reducible assumption
      clear_value x8
      refine Moves.ite ?_ ?_
      · refine Moves.step (State.post_moves ..) (by decide) ?_
        with_reducible assumption
      · refine Moves.step (State.post_moves ..) (by decide) ?_
        with_reducible assumption

theorem State.legModify_moves (s a1 a2 a3 a4) : Moves 18014398517875457 s (State.legModify s a1 a2 a3 a4) := by
  unfold State.legModify
  extract_lets -merge -underBinder -useContext x0 x1 x2 x3 x4
  clear_value x0
  clear_value x1
  clear_value x2
  clear_value x3
  clear_value x4
  refine Moves.ite ?_ ?_
  · exact Moves.refl
  · split
    · extract_lets -merge -underBinder -useContext x5 x6 x7 x8 x9 x10 x11 x12 x13 x14
      clear_value x5
      clear_value x6
      clear_value x7
      have h15 : Moves 18014398517875457 s x8 := by
        unfold x8
        refine Moves.step (State.setLeg_moves ..) (by decide) ?_
        exact Moves.refl
      clear_value x8
      have h16 : Moves 18014398517875457 s x9 := by
        unfold x9
        refine Moves.ite ?_ ?_
        · refine Moves.step (State.post_moves ..) (by decide) ?_
          with_reducible assumption
        · with_reducible assumption
      clear_value x9
      clear_value x10
      clear_value x11
      clear_value x12
      clear_value x13
      clear_value x14
      refine Moves.step (State.setLegA_moves ..) (by decide) ?_
      with_reducible assumption

theorem State.setSeats_moves (s a1 a2) : Moves 36028797018963968 s (State.setSeats s a1 a2) := by
  unfold State.setSeats
  extract_lets -merge -underBinder -useContext x0 x1 x2 x3 x4
  clear_value x0
  clear_value x1
  clear_value x2
  clear_value x3
  clear_value x4
  refine Moves.ite ?_ ?_
  · exact Moves.refl
  · refine Moves.step (State.setConfA_moves ..) (by decide) ?_
    exact Moves.refl

theorem State.playerStop_moves (s a1 a2) : Moves 9007199254745857 s (State.playerStop s a1 a2) := by
  unfold State.playerStop
  extract_lets -merge -underBinder -useContext x0 x1
  have h2 : Moves 9007199254745857 s x0 := by
    unfold x0
    refine Moves.step (State.setPlayer_moves ..) (by decide) ?_
    exact Moves.refl
  clear_value x0
  have h3 : Moves 9007199254745857 s x1 := by
    unfold x1
    refine Moves.step (State.put_moves ..) (by decide) ?_
    with_reducible assumption
  clear_value x1
  refine Moves.step (State.post_moves ..) (by decide) ?_
  with_reducible assumption

theorem State.playersReleased_moves (s a1) : Moves 9007199254745857 s (State.playersReleased s a1) := by
  unfold State.playersReleased
  refine Moves.forUpTo (fun y0 y1 => ?_) ?_
  · refine Moves.ite ?_ ?_
    · refine Moves.step (State.playerStop_moves ..) (by decide) ?_
      exact Moves.refl
    · exact Moves.refl
  · exact Moves.refl

theorem State.confTake_moves (s a1 a2 a3 a4) : Moves 45035996290487041 s (State.confTake s a1 a2 a3 a4) := by
  unfold State.confTake
  extract_lets -merge -underBinder -useContext x0 x1 x2 x3 x4 x5 x6 x7
  clear_value x0
  clear_value x1
  clear_value x2
  clear_value x3
  clear_value x4
  clear_value x5
  have h8 : Moves 45035996290487041 s x6 := by
    unfold x6
    refine Moves.step (State.setConf_moves ..) (by decide) ?_
    exact Moves.refl
  clear_value x6
  have h9 : Moves 45035996290487041 s x7 := by
    unfold x7
    refine Moves.ite ?_ ?_
    · refine Moves.step (State.setSeats_moves ..) (by decide) ?_
      with_reducible assumption
    · with_reducible assumption
  clear_value x7
  refine Moves.ite ?_ ?_
  · refine Moves.step (State.post_moves ..) (by decide) ?_
    with_reducible assumption
  · refine Moves.ite ?_ ?_
    · refine Moves.step (State.playersReleased_moves ..) (by decide) ?_
      refine Moves.step (State.post_moves ..) (by decide) ?_
      with_reducible assumption
    · with_reducible assumption

theorem State.recTake_moves (s a1 a2) : Moves 33554432 s (State.recTake s a1 a2) := by
  unfold State.recTake
  refine Moves.ite ?_ ?_
  · refine Moves.step (State.setTap_moves ..) (by decide) ?_
    exact Moves.refl
  · refine Moves.step (State.setTap_moves ..) (by decide) ?_
    exact Moves.refl

theorem State.policerTake_moves (s a1 a2 a3 a4) : Moves 8388608 s (State.policerTake s a1 a2 a3 a4) := by
  unfold State.policerTake
  extract_lets -merge -underBinder -useContext x0 x1
  clear_value x0
  clear_value x1
  refine Moves.step (State.modLeg_moves ..) (by decide) ?_
  exact Moves.refl

theorem State.shaperTake_moves (s a1 a2 a3) : Moves 2155872256 s (State.shaperTake s a1 a2 a3) := by
  unfold State.shaperTake
  extract_lets -merge -underBinder -useContext x0 x1 x2
  clear_value x0
  have h3 : Moves 2155872256 s x1 := by
    unfold x1
    refine Moves.step (State.modLeg_moves ..) (by decide) ?_
    exact Moves.refl
  clear_value x1
  clear_value x2
  refine Moves.forUpTo (fun y4 y5 => ?_) ?_
  · refine Moves.step (State.setPort_moves ..) (by decide) ?_
    exact Moves.refl
  · with_reducible assumption

theorem State.vstrStart_moves (s a1 a2) : Moves 20142626561 s (State.vstrStart s a1 a2) := by
  unfold State.vstrStart
  extract_lets -merge -underBinder -useContext x0
  have h1 : Moves 20142626561 s x0 := by
    unfold x0
    refine Moves.step (State.setVstr_moves ..) (by decide) ?_
    exact Moves.refl
  clear_value x0
  refine Moves.ite ?_ ?_
  · refine Moves.step (State.decodeStart_moves ..) (by decide) ?_
    with_reducible assumption
  · with_reducible assumption

theorem State.vstrTake_moves (s a1 a2 a3 a4) : Moves 1152921524749473537 s (State.vstrTake s a1 a2 a3 a4) := by
  unfold State.vstrTake
  refine Moves.ite ?_ ?_
  · refine Moves.step (State.vstrStart_moves ..) (by decide) ?_
    exact Moves.refl
  · refine Moves.ite ?_ ?_
    · refine Moves.step (State.decodeStart_moves ..) (by decide) ?_
      exact Moves.refl
    · refine Moves.ite ?_ ?_
      · refine Moves.step (State.decodeEnd_moves ..) (by decide) ?_
        exact Moves.refl
      · exact Moves.refl

theorem State.moveDown_moves (s a1 a2 a3) : Moves 1073741825 s (State.moveDown s a1 a2 a3) := by
  unfold State.moveDown
  extract_lets -merge -underBinder -useContext x0
  clear_value x0
  refine Moves.step (State.bump_moves ..) (by decide) ?_
  refine Moves.step (State.setOstr_moves ..) (by decide) ?_
  exact Moves.refl

theorem State.ostrTake_moves (s a1 a2 a3 a4) : Moves 12626433793 s (State.ostrTake s a1 a2 a3 a4) := by
  unfold State.ostrTake
  split
  · extract_lets -merge -underBinder -useContext x0
    have h1 : Moves 12626433793 s x0 := by
      unfold x0
      refine Moves.step (State.modLeg_moves ..) (by decide) ?_
      exact Moves.refl
    clear_value x0
    refine Moves.step (State.setOstr_moves ..) (by decide) ?_
    with_reducible assumption
  · extract_lets -merge -underBinder -useContext x2 x3 x4 x5 x6 x7
    clear_value x2
    clear_value x3
    have h8 : Moves 12626433793 s x4 := by
      unfold x4
      refine Moves.ite ?_ ?_
      · refine Moves.step (State.modLeg_moves ..) (by decide) ?_
        exact Moves.refl
      · exact Moves.refl
    clear_value x4
    clear_value x5
    have h9 : Moves 12626433793 s x6 := by
      unfold x6
      refine Moves.step (State.setOstr_moves ..) (by decide) ?_
      with_reducible assumption
    clear_value x6
    have h10 : Moves 12626433793 s x7 := by
      unfold x7
      refine Moves.ite ?_ ?_
      · refine Moves.step (State.requestSwitch_moves ..) (by decide) ?_
        refine Moves.step (State.setOstr_moves ..) (by decide) ?_
        with_reducible assumption
      · with_reducible assumption
    clear_value x7
    split
    · refine Moves.ite ?_ ?_
      · refine Moves.step (State.moveDown_moves ..) (by decide) ?_
        with_reducible assumption
      · with_reducible assumption
    · with_reducible assumption

theorem State.takeTick_moves (s a1 a2) : Moves 1215971933541636033 s (State.takeTick s a1 a2) := by
  unfold State.takeTick
  extract_lets -merge -underBinder -useContext x0 x1 x2 x3 x4 x5
  clear_value x0
  clear_value x1
  clear_value x2
  clear_value x3
  clear_value x4
  have h6 : Moves 1215971933541636033 s x5 := by
    unfold x5
    refine Moves.step (Moves.set_gate ..) (by decide) ?_
    exact Moves.refl
  clear_value x5
  split
  · refine Moves.ite ?_ ?_
    · refine Moves.step (State.legEnd_moves ..) (by decide) ?_
      with_reducible assumption
    · refine Moves.ite ?_ ?_
      · refine Moves.step (State.setConfA_moves ..) (by decide) ?_
        refine Moves.step (State.setConf_moves ..) (by decide) ?_
        with_reducible assumption
      · refine Moves.ite ?_ ?_
        · refine Moves.step (State.setTap_moves ..) (by decide) ?_
          with_reducible assumption
        · refine Moves.ite ?_ ?_
          · refine Moves.step (State.modLeg_moves ..) (by decide) ?_
            with_reducible assumption
          · refine Moves.ite ?_ ?_
            · refine Moves.step (State.vstrEnd_moves ..) (by decide) ?_
              with_reducible assumption
            · refine Moves.ite ?_ ?_
              · refine Moves.step (State.ostrEnd_moves ..) (by decide) ?_
                with_reducible assumption
              · with_reducible assumption
  · extract_lets -merge -underBinder -useContext x7
    clear_value x7
    refine Moves.ite ?_ ?_
    · refine Moves.ite ?_ ?_
      · refine Moves.step (State.legStart_moves ..) (by decide) ?_
        with_reducible assumption
      · refine Moves.step (State.legModify_moves ..) (by decide) ?_
        with_reducible assumption
    · refine Moves.ite ?_ ?_
      · refine Moves.step (State.confTake_moves ..) (by decide) ?_
        with_reducible assumption
      · refine Moves.ite ?_ ?_
        · refine Moves.step (State.recTake_moves ..) (by decide) ?_
          with_reducible assumption
        · refine Moves.ite ?_ ?_
          · refine Moves.step (State.policerTake_moves ..) (by decide) ?_
            with_reducible assumption
          · refine Moves.ite ?_ ?_
            · refine Moves.step (State.shaperTake_moves ..) (by decide) ?_
              with_reducible assumption
            · refine Moves.ite ?_ ?_
              · refine Moves.step (State.vstrTake_moves ..) (by decide) ?_
                with_reducible assumption
              · refine Moves.step (State.ostrTake_moves ..) (by decide) ?_
                with_reducible assumption
  · extract_lets -merge -underBinder -useContext x8
    clear_value x8
    refine Moves.ite ?_ ?_
    · refine Moves.ite ?_ ?_
      · refine Moves.step (State.legStart_moves ..) (by decide) ?_
        with_reducible assumption
      · refine Moves.step (State.legModify_moves ..) (by decide) ?_
        with_reducible assumption
    · refine Moves.ite ?_ ?_
      · refine Moves.step (State.confTake_moves ..) (by decide) ?_
        with_reducible assumption
      · refine Moves.ite ?_ ?_
        · refine Moves.step (State.recTake_moves ..) (by decide) ?_
          with_reducible assumption
        · refine Moves.ite ?_ ?_
          · refine Moves.step (State.policerTake_moves ..) (by decide) ?_
            with_reducible assumption
          · refine Moves.ite ?_ ?_
            · refine Moves.step (State.shaperTake_moves ..) (by decide) ?_
              with_reducible assumption
            · refine Moves.ite ?_ ?_
              · refine Moves.step (State.vstrTake_moves ..) (by decide) ?_
                with_reducible assumption
              · refine Moves.step (State.ostrTake_moves ..) (by decide) ?_
                with_reducible assumption

theorem State.settleLeg_moves (s a1) : Moves 8389632 s (State.settleLeg s a1) := by
  unfold State.settleLeg
  extract_lets -merge -underBinder -useContext x0 x1
  have h2 : Moves 8389632 s x0 := by
    unfold x0
    refine Moves.step (State.configureQueue_moves ..) (by decide) ?_
    exact Moves.refl
  clear_value x0
  clear_value x1
  refine Moves.ite ?_ ?_
  · refine Moves.step (State.setLeg_moves ..) (by decide) ?_
    with_reducible assumption
  · refine Moves.ite ?_ ?_
    · refine Moves.step (State.modLeg_moves ..) (by decide) ?_
      with_reducible assumption
    · with_reducible assumption

theorem State.showGate_moves (s) : Moves 1 s (State.showGate s) := by
  unfold State.showGate
  extract_lets -merge -underBinder -useContext x0
  clear_value x0
  split
  · extract_lets -merge -underBinder -useContext x1 x2
    have h3 : Moves 1 s x1 := by
      unfold x1
      refine Moves.step (State.wr_moves ..) (by decide) ?_
      exact Moves.refl
    clear_value x1
    have h4 : Moves 1 s x2 := by
      unfold x2
      refine Moves.step (State.put_moves ..) (by decide) ?_
      with_reducible assumption
    clear_value x2
    refine Moves.step (State.put_moves ..) (by decide) ?_
    with_reducible assumption

theorem State.showBind_moves (s) : Moves 1 s (State.showBind s) := by
  unfold State.showBind
  extract_lets -merge -underBinder -useContext x0
  clear_value x0
  refine Moves.forUpTo (fun y1 y2 => ?_) ?_
  · extract_lets -merge -underBinder -useContext x3
    clear_value x3
    refine Moves.step (State.wr_moves ..) (by decide) ?_
    refine Moves.step (State.wr_moves ..) (by decide) ?_
    exact Moves.refl
  · exact Moves.refl

theorem State.gateTick_moves (s a1) : Moves 1215971933541767105 s (State.gateTick s a1) := by
  unfold State.gateTick
  extract_lets -merge -underBinder -useContext x0 x1 x2 x3 x4
  clear_value x0
  clear_value x1
  have h5 : Moves 1215971933541767105 s x2 := by
    unfold x2
    refine Moves.step (Moves.set_gate ..) (by decide) ?_
    exact Moves.refl
  clear_value x2
  have h6 : Moves 1215971933541767105 s x3 := by
    unfold x3
    refine Moves.forEach (fun y7 y8 => ?_) ?_
    · refine Moves.step (State.takeTick_moves ..) (by decide) ?_
      exact Moves.refl
    · with_reducible assumption
  clear_value x3
  have h9 : Moves 1215971933541767105 s x4 := by
    unfold x4
    refine Moves.forEach (fun y10 y11 => ?_) ?_
    · refine Moves.step (State.settleLeg_moves ..) (by decide) ?_
      exact Moves.refl
    · with_reducible assumption
  clear_value x4
  refine Moves.ite ?_ ?_
  · exact Moves.refl
  · refine Moves.step (State.showGate_moves ..) (by decide) ?_
    refine Moves.step (State.keyRefresh_moves ..) (by decide) ?_
    refine Moves.step (State.showBind_moves ..) (by decide) ?_
    refine Moves.step (State.showLegs_moves ..) (by decide) ?_
    with_reducible assumption

theorem State.cascadeLate_moves (s a1 a2) : Moves 134222593 s (State.cascadeLate s a1 a2) := by
  unfold State.cascadeLate
  refine Moves.step (State.postLimited_moves ..) (by decide) ?_
  exact Moves.refl

theorem State.bankWrite_moves (s a1 a2 a3) : Moves 2049 s (State.bankWrite s a1 a2 a3) := by
  unfold State.bankWrite
  extract_lets -merge -underBinder -useContext x0
  clear_value x0
  refine Moves.ite ?_ ?_
  · refine Moves.step (State.bumpSat_moves ..) (by decide) ?_
    exact Moves.refl
  · refine Moves.ite ?_ ?_
    · refine Moves.step (State.bumpSat_moves ..) (by decide) ?_
      exact Moves.refl
    · refine Moves.step (State.bankShow_moves ..) (by decide) ?_
      refine Moves.step (State.setBank_moves ..) (by decide) ?_
      exact Moves.refl

theorem State.record_moves (s a1) : Moves 206158432257 s (State.record s a1) := by
  unfold State.record
  refine Moves.ite ?_ ?_
  · extract_lets -merge -underBinder -useContext x0 x1 x2
    have h3 : Moves 206158432257 s x0 := by
      unfold x0
      refine Moves.ite ?_ ?_
      · refine Moves.step (State.bankWrite_moves ..) (by decide) ?_
        exact Moves.refl
      · exact Moves.refl
    clear_value x0
    clear_value x1
    have h4 : Moves 206158432257 s x2 := by
      unfold x2
      refine Moves.step (Moves.set_twin ..) (by decide) ?_
      with_reducible assumption
    clear_value x2
    refine Moves.step (State.sendMsg_moves ..) (by decide) ?_
    with_reducible assumption
  · exact Moves.refl

theorem State.frameDue_moves (s a1 a2 a3) : Moves 481170561793 s (State.frameDue s a1 a2 a3) := by
  unfold State.frameDue
  split
  · refine Moves.step (State.cascadeLate_moves ..) (by decide) ?_
    refine Moves.step (State.bumpSat_moves ..) (by decide) ?_
    exact Moves.refl
  · extract_lets -merge -underBinder -useContext x0 x1 x2 x3 x4 x5 x6
    clear_value x0
    clear_value x1
    clear_value x2
    have h7 : Moves 481170561793 s x3 := by
      unfold x3
      refine Moves.step (State.bump_moves ..) (by decide) ?_
      exact Moves.refl
    clear_value x3
    have h8 : Moves 481170561793 s x4 := by
      unfold x4
      refine Moves.ite ?_ ?_
      · with_reducible assumption
      · refine Moves.step (State.cascadeLate_moves ..) (by decide) ?_
        with_reducible assumption
    clear_value x4
    have h9 : Moves 481170561793 s x5 := by
      unfold x5
      refine Moves.step (State.record_moves ..) (by decide) ?_
      with_reducible assumption
    clear_value x5
    clear_value x6
    refine Moves.step (Moves.set_fab ..) (by decide) ?_
    with_reducible assumption

theorem State.sendFrame_moves (s a1 a2) : Moves 137438955521 s (State.sendFrame s a1 a2) := by
  unfold State.sendFrame
  extract_lets -merge -underBinder -useContext x0
  have h1 : Moves 137438955521 s x0 := by
    unfold x0
    refine Moves.step (State.bankWrite_moves ..) (by decide) ?_
    exact Moves.refl
  clear_value x0
  refine Moves.ite ?_ ?_
  · refine Moves.step (State.sendMsg_moves ..) (by decide) ?_
    with_reducible assumption
  · refine Moves.ite ?_ ?_
    · refine Moves.step (State.sendMsg_moves ..) (by decide) ?_
      with_reducible assumption
    · with_reducible assumption

theorem State.cascadeSend_moves (s a1) : Moves 137438955521 s (State.cascadeSend s a1) := by
  unfold State.cascadeSend
  extract_lets -merge -underBinder -useContext x0 x1 x2 x3
  clear_value x0
  clear_value x1
  clear_value x2
  clear_value x3
  refine Moves.forEach (fun y4 y5 => ?_) ?_
  · refine Moves.step (State.sendFrame_moves ..) (by decide) ?_
    exact Moves.refl
  · exact Moves.refl

theorem State.cascadeBoundary_moves (s a1 a2) : Moves 481170561793 s (State.cascadeBoundary s a1 a2) := by
  unfold State.cascadeBoundary
  extract_lets -merge -underBinder -useContext x0 x1 x2 x3 x4 x5 x6 x7 x8
  have h9 : Moves 481170561793 s x0 := by
    unfold x0
    refine Moves.forUpTo (fun y10 y11 => ?_) ?_
    · refine Moves.step (State.bankDrain_moves ..) (by decide) ?_
      refine Moves.step (State.bankDrain_moves ..) (by decide) ?_
      exact Moves.refl
    · exact Moves.refl
  clear_value x0
  clear_value x1
  clear_value x2
  clear_value x3
  clear_value x4
  have h12 : Moves 481170561793 s x5 := by
    unfold x5
    refine Moves.step (Moves.set_fab ..) (by decide) ?_
    with_reducible assumption
  clear_value x5
  have h13 : Moves 481170561793 s x6 := by
    unfold x6
    refine Moves.ite ?_ ?_
    · refine Moves.forEach (fun y14 y15 => ?_) ?_
      · refine Moves.step (State.frameDue_moves ..) (by decide) ?_
        exact Moves.refl
      · with_reducible assumption
    · with_reducible assumption
  clear_value x6
  clear_value x7
  have h16 : Moves 481170561793 s x8 := by
    unfold x8
    refine Moves.step (Moves.set_fab ..) (by decide) ?_
    with_reducible assumption
  clear_value x8
  refine Moves.ite ?_ ?_
  · refine Moves.step (State.cascadeSend_moves ..) (by decide) ?_
    with_reducible assumption
  · with_reducible assumption

theorem State.activateProgram_moves (s a1) : Moves 9007199254745857 s (State.activateProgram s a1) := by
  unfold State.activateProgram
  extract_lets -merge -underBinder -useContext x0 x1
  clear_value x0
  have h2 : Moves 9007199254745857 s x1 := by
    unfold x1
    refine Moves.step (Moves.set_audio ..) (by decide) ?_
    exact Moves.refl
  clear_value x1
  split
  · refine Moves.ite ?_ ?_
    · with_reducible assumption
    · extract_lets -merge -underBinder -useContext x3 x4 x5 x6 x7 x8 x9
      clear_value x3
      clear_value x4
      clear_value x5
      clear_value x6
      clear_value x7
      have h10 : Moves 9007199254745857 s x8 := by
        unfold x8
        refine Moves.step (Moves.set_audio ..) (by decide) ?_
        with_reducible assumption
      clear_value x8
      have h11 : Moves 9007199254745857 s x9 := by
        unfold x9
        refine Moves.step (State.put_moves ..) (by decide) ?_
        refine Moves.step (State.put_moves ..) (by decide) ?_
        with_reducible assumption
      clear_value x9
      refine Moves.step (State.post_moves ..) (by decide) ?_
      with_reducible assumption
  · with_reducible assumption

theorem State.layoutEnd_moves (s a1) : Moves 1152921538966585344 s (State.layoutEnd s a1) := by
  unfold State.layoutEnd
  extract_lets -merge -underBinder -useContext x0
  have h1 : Moves 1152921538966585344 s x0 := by
    unfold x0
    refine Moves.step (State.cancelTasks_moves ..) (by decide) ?_
    exact Moves.refl
  clear_value x0
  refine Moves.step (State.setLayout_moves ..) (by decide) ?_
  with_reducible assumption

theorem State.ecompEnd_moves (s a1) : Moves 1152921513197310976 s (State.ecompEnd s a1) := by
  unfold State.ecompEnd
  extract_lets -merge -underBinder -useContext x0 x1 x2 x3
  have h4 : Moves 1152921513197310976 s x0 := by
    unfold x0
    refine Moves.step (State.cancelTasks_moves ..) (by decide) ?_
    exact Moves.refl
  clear_value x0
  clear_value x1
  clear_value x2
  have h5 : Moves 1152921513197310976 s x3 := by
    unfold x3
    refine Moves.forEach (fun y6 y7 => ?_) ?_
    · refine Moves.step (State.dropPkt_moves ..) (by decide) ?_
      refine Moves.step (State.unqueue_moves ..) (by decide) ?_
      exact Moves.refl
    · with_reducible assumption
  clear_value x3
  refine Moves.step (State.setEcomp_moves ..) (by decide) ?_
  with_reducible assumption

theorem State.layoutStart_moves (s a1 a2) : Moves 34359738368 s (State.layoutStart s a1 a2) := by
  unfold State.layoutStart
  extract_lets -merge -underBinder -useContext x0
  clear_value x0
  refine Moves.step (State.setLayout_moves ..) (by decide) ?_
  exact Moves.refl

theorem State.takeFrame_moves (s a1 a2) : Moves 1152921548630791232 s (State.takeFrame s a1 a2) := by
  unfold State.takeFrame
  extract_lets -merge -underBinder -useContext x0 x1 x2
  clear_value x0
  clear_value x1
  have h3 : Moves 1152921548630791232 s x2 := by
    unfold x2
    refine Moves.step (Moves.set_gate ..) (by decide) ?_
    exact Moves.refl
  clear_value x2
  split
  · refine Moves.ite ?_ ?_
    · refine Moves.step (State.layoutEnd_moves ..) (by decide) ?_
      with_reducible assumption
    · refine Moves.step (State.ecompEnd_moves ..) (by decide) ?_
      with_reducible assumption
  · with_reducible assumption
  · refine Moves.ite ?_ ?_
    · refine Moves.step (State.layoutStart_moves ..) (by decide) ?_
      with_reducible assumption
    · extract_lets -merge -underBinder -useContext x4
      have h5 : Moves 1152921548630791232 s x4 := by
        unfold x4
        refine Moves.step (State.ecompStart_moves ..) (by decide) ?_
        with_reducible assumption
      clear_value x4
      refine Moves.forEach (fun y6 y7 => ?_) ?_
      · extract_lets -merge -underBinder -useContext x8
        clear_value x8
        refine Moves.ite ?_ ?_
        · refine Moves.step (State.setOstr_moves ..) (by decide) ?_
          exact Moves.refl
        · exact Moves.refl
      · with_reducible assumption

theorem State.gateFrame_moves (s a1) : Moves 1152921548630791233 s (State.gateFrame s a1) := by
  unfold State.gateFrame
  split
  · extract_lets -merge -underBinder -useContext x0 x1 x2 x3 x4 x5 x6 x7 x8 x9 x10
    clear_value x0
    clear_value x1
    clear_value x2
    clear_value x3
    have h11 : Moves 1152921548630791233 s x4 := by
      unfold x4
      refine Moves.step (Moves.set_gate ..) (by decide) ?_
      exact Moves.refl
    clear_value x4
    have h12 : Moves 1152921548630791233 s x5 := by
      unfold x5
      refine Moves.forEach (fun y13 y14 => ?_) ?_
      · refine Moves.step (State.takeFrame_moves ..) (by decide) ?_
        exact Moves.refl
      · with_reducible assumption
    clear_value x5
    clear_value x6
    clear_value x7
    have h15 : Moves 1152921548630791233 s x8 := by
      unfold x8
      refine Moves.ite ?_ ?_
      · refine Moves.step (State.setLayout_moves ..) (by decide) ?_
        with_reducible assumption
      · with_reducible assumption
    clear_value x8
    clear_value x9
    have h16 : Moves 1152921548630791233 s x10 := by
      unfold x10
      refine Moves.ite ?_ ?_
      · with_reducible assumption
      · refine Moves.step (Moves.set_gate ..) (by decide) ?_
        with_reducible assumption
    clear_value x10
    refine Moves.ite ?_ ?_
    · exact Moves.refl
    · refine Moves.step (State.showGate_moves ..) (by decide) ?_
      with_reducible assumption

theorem State.boundaryTake_moves (s a1 a2 a3) : Moves 1215972449072062401 s (State.boundaryTake s a1 a2 a3) := by
  unfold State.boundaryTake
  extract_lets -merge -underBinder -useContext x0 x1 x2
  have h3 : Moves 1215972449072062401 s x0 := by
    unfold x0
    refine Moves.step (State.fabricBoundary_moves ..) (by decide) ?_
    refine Moves.step (State.bankSwap_moves ..) (by decide) ?_
    refine Moves.step (State.gateTick_moves ..) (by decide) ?_
    exact Moves.refl
  clear_value x0
  have h4 : Moves 1215972449072062401 s x1 := by
    unfold x1
    refine Moves.ite ?_ ?_
    · refine Moves.step (State.cascadeBoundary_moves ..) (by decide) ?_
      with_reducible assumption
    · with_reducible assumption
  clear_value x1
  have h5 : Moves 1215972449072062401 s x2 := by
    unfold x2
    refine Moves.step (State.activateProgram_moves ..) (by decide) ?_
    with_reducible assumption
  clear_value x2
  refine Moves.forEach (fun y6 y7 => ?_) ?_
  · refine Moves.step (State.gateFrame_moves ..) (by decide) ?_
    exact Moves.refl
  · with_reducible assumption

theorem State.quarterDue_moves (s a1 a2 a3 a4 a5) : Moves 1152921516688021377 s (State.quarterDue s a1 a2 a3 a4 a5) := by
  unfold State.quarterDue
  split
  · exact Moves.refl
  · extract_lets -merge -underBinder -useContext x0
    have h1 : Moves 1152921516688021377 s x0 := by
      unfold x0
      refine Moves.step (State.releaseQuarter_moves ..) (by decide) ?_
      exact Moves.refl
    clear_value x0
    refine Moves.step (State.modTask_moves ..) (by decide) ?_
    with_reducible assumption

theorem State.encodeLimit_moves (s a1 a2 a3 a4 a5 a6) : Moves 1152921516822239105 s (State.encodeLimit s a1 a2 a3 a4 a5 a6) := by
  unfold State.encodeLimit
  split
  · refine Moves.ite ?_ ?_
    · refine Moves.ite ?_ ?_
      · refine Moves.step (State.quarterDue_moves ..) (by decide) ?_
        exact Moves.refl
      · exact Moves.refl
    · refine Moves.ite ?_ ?_
      · refine Moves.step (State.modTask_moves ..) (by decide) ?_
        refine Moves.step (State.encodeMiss_moves ..) (by decide) ?_
        exact Moves.refl
      · exact Moves.refl
  · refine Moves.ite ?_ ?_
    · refine Moves.step (State.modTask_moves ..) (by decide) ?_
      refine Moves.step (State.encodeMiss_moves ..) (by decide) ?_
      exact Moves.refl
    · exact Moves.refl

theorem State.seatUpdate_moves (s a1) : Moves 36028797018968833 s (State.seatUpdate s a1) := by
  unfold State.seatUpdate
  extract_lets -merge -underBinder -useContext x0 x1
  clear_value x0
  clear_value x1
  split
  · extract_lets -merge -underBinder -useContext x2
    have h3 : Moves 36028797018968833 s x2 := by
      unfold x2
      refine Moves.step (State.setConfA_moves ..) (by decide) ?_
      exact Moves.refl
    clear_value x2
    refine Moves.ite ?_ ?_
    · refine Moves.forEach (fun y4 y5 => ?_) ?_
      · refine Moves.step (State.post_moves ..) (by decide) ?_
        exact Moves.refl
      · with_reducible assumption
    · with_reducible assumption

theorem State.fabricSelect_moves1 (s a1 a2) : Moves 274877906944 s (State.fabricSelect s a1 a2).1 := by
  unfold State.fabricSelect
  split
  · split
    · try dsimp only
      refine Moves.step (Moves.set_fab ..) (by decide) ?_
      exact Moves.refl
  · split
    · try dsimp only
      refine Moves.step (Moves.set_fab ..) (by decide) ?_
      exact Moves.refl
    · exact Moves.refl

theorem State.setTails_moves (s a1) : Moves 18014398509481984 s (State.setTails s a1) := by
  unfold State.setTails
  refine Moves.forEach (fun y0 y1 => ?_) ?_
  · refine Moves.step (State.setLegA_moves ..) (by decide) ?_
    exact Moves.refl
  · exact Moves.refl

theorem State.fabricBusRun_moves (s a1 a2 a3) : Moves 54043607845313281 s (State.fabricBusRun s a1 a2 a3) := by
  unfold State.fabricBusRun
  extract_lets -merge -underBinder -useContext x0 x1 x2 x3 x4 x5 x6 x7 x8 x9 x10 x11 x12
  have h13 : Moves 54043607845313281 s x0 := by
    unfold x0
    refine Moves.step (State.seatUpdate_moves ..) (by decide) ?_
    exact Moves.refl
  clear_value x0
  clear_value x1
  clear_value x2
  clear_value x3
  clear_value x4
  clear_value x5
  clear_value x6
  have h14 : Moves 54043607845313281 s x7 := by
    unfold x7
    refine Moves.forEach (fun y15 y16 => ?_) ?_
    · extract_lets -merge -underBinder -useContext x17
      clear_value x17
      split
      · refine Moves.step (State.setLegA_moves ..) (by decide) ?_
        exact Moves.refl
    · with_reducible assumption
  clear_value x7
  clear_value x8
  clear_value x9
  clear_value x10
  clear_value x11
  clear_value x12
  split
  · rename_i s18 _ q18
    have h18 := Moves.at1 (m := 54043607845313281) (s := s) q18 (by
      refine Moves.step (State.fabricSelect_moves1 ..) (by decide) ?_
      with_reducible assumption)
    extract_lets -merge -underBinder -useContext x19 x20 x21 x22 x23 x24 x25 x26 x27 x28 x29 x30 x31 x32 x33
    clear_value x19
    clear_value x20
    clear_value x21
    clear_value x22
    clear_value x23
    have h34 : Moves 54043607845313281 s x24 := by
      unfold x24
      refine Moves.forEach (fun y35 y36 => ?_) ?_
      · refine Moves.step (State.setLegA_moves ..) (by decide) ?_
        exact Moves.refl
      · with_reducible assumption
    clear_value x24
    have h37 : Moves 54043607845313281 s x25 := by
      unfold x25
      refine Moves.ite ?_ ?_
      · with_reducible assumption
      · refine Moves.step (State.setTails_moves ..) (by decide) ?_
        with_reducible assumption
    clear_value x25
    clear_value x26
    clear_value x27
    clear_value x28
    clear_value x29
    clear_value x30
    have h38 : Moves 54043607845313281 s x31 := by
      unfold x31
      refine Moves.step (Moves.set_fab ..) (by decide) ?_
      with_reducible assumption
    clear_value x31
    clear_value x32
    have h39 : Moves 54043607845313281 s x33 := by
      unfold x33
      refine Moves.step (State.setConfA_moves ..) (by decide) ?_
      with_reducible assumption
    clear_value x33
    refine Moves.ite ?_ ?_
    · refine Moves.step (State.cascadeSend_moves ..) (by decide) ?_
      with_reducible assumption
    · with_reducible assumption

theorem State.confBusRun_moves (s a1 a2 a3) : Moves 54043195528450817 s (State.confBusRun s a1 a2 a3) := by
  unfold State.confBusRun
  extract_lets -merge -underBinder -useContext x0 x1 x2 x3 x4 x5 x6 x7 x8 x9 x10 x11 x12 x13 x14 x15 x16 x17 x18 x19 x20
  have h21 : Moves 54043195528450817 s x0 := by
    unfold x0
    refine Moves.step (State.seatUpdate_moves ..) (by decide) ?_
    exact Moves.refl
  clear_value x0
  clear_value x1
  clear_value x2
  clear_value x3
  clear_value x4
  clear_value x5
  clear_value x6
  clear_value x7
  clear_value x8
  clear_value x9
  clear_value x10
  clear_value x11
  clear_value x12
  clear_value x13
  clear_value x14
  clear_value x15
  clear_value x16
  have h22 : Moves 54043195528450817 s x17 := by
    unfold x17
    refine Moves.forEach (fun y23 y24 => ?_) ?_
    · split
      · extract_lets -merge -underBinder -useContext x25 x26
        clear_value x25
        clear_value x26
        refine Moves.step (State.setLegA_moves ..) (by decide) ?_
        exact Moves.refl
    · with_reducible assumption
  clear_value x17
  have h27 : Moves 54043195528450817 s x18 := by
    unfold x18
    refine Moves.ite ?_ ?_
    · with_reducible assumption
    · refine Moves.step (State.setTails_moves ..) (by decide) ?_
      with_reducible assumption
  clear_value x18
  clear_value x19
  clear_value x20
  refine Moves.step (State.setConfA_moves ..) (by decide) ?_
  with_reducible assumption

theorem State.busRun_moves (s a1 a2 a3) : Moves 54043607845313281 s (State.busRun s a1 a2 a3) := by
  unfold State.busRun
  refine Moves.ite ?_ ?_
  · refine Moves.step (State.fabricBusRun_moves ..) (by decide) ?_
    exact Moves.refl
  · refine Moves.step (State.confBusRun_moves ..) (by decide) ?_
    exact Moves.refl

theorem State.sinkRun_moves (s a1 a2 a3 a4) : Moves 27021597764222976 s (State.sinkRun s a1 a2 a3 a4) := by
  unfold State.sinkRun
  extract_lets -merge -underBinder -useContext x0 x1 x2 x3 x4
  clear_value x0
  have h5 : ∀ y6 y7, Moves 27021597764222976 y6 (x1 y6 y7) := by
    intro y6 y7
    unfold x1
    refine Moves.step (Moves.set_audio ..) (by decide) ?_
    exact Moves.refl
  clear_value x1
  clear_value x2
  clear_value x3
  have h8 : Moves 27021597764222976 s x4 := by
    unfold x4
    refine Moves.step (State.setNode_moves ..) (by decide) ?_
    exact Moves.refl
  clear_value x4
  refine Moves.ite ?_ ?_
  · refine Moves.ite ?_ ?_
    · refine Moves.step (h5 ..) (by decide) ?_
      exact Moves.refl
    · exact Moves.refl
  · split
    · refine Moves.step (h5 ..) (by decide) ?_
      with_reducible assumption
    · refine Moves.ite ?_ ?_
      · refine Moves.step (h5 ..) (by decide) ?_
        with_reducible assumption
      · extract_lets -merge -underBinder -useContext x9 x10 x11
        clear_value x9
        clear_value x10
        clear_value x11
        refine Moves.step (h5 ..) (by decide) ?_
        refine Moves.step (State.setLegA_moves ..) (by decide) ?_
        with_reducible assumption

end Sys2Proof.Machine
end

