-- ==== Sys2Proof/Laws/MovesAll2.lean ====
section
/-! SUPPORT. One lemma for each function of the machine that answers a state or an outcome: what it may change (part 2 of 4, in the order in which the functions
use one another). -/

namespace Sys2Proof.Machine

theorem State.nodeRun_moves (s a1 a2) : Moves 27021597764222976 s (State.nodeRun s a1 a2) := by
  unfold State.nodeRun
  extract_lets -merge -underBinder -useContext x0 x1 x2 x3
  clear_value x0
  clear_value x1
  clear_value x2
  clear_value x3
  split
  · split
    · refine Moves.step (State.setPortBlock_moves ..) (by decide) ?_
      refine Moves.step (State.setNode_moves ..) (by decide) ?_
      exact Moves.refl
  · refine Moves.step (State.sinkRun_moves ..) (by decide) ?_
    exact Moves.refl
  · refine Moves.step (State.setPortBlock_moves ..) (by decide) ?_
    refine Moves.step (State.setNode_moves ..) (by decide) ?_
    exact Moves.refl
  · refine Moves.step (State.setPortBlock_moves ..) (by decide) ?_
    refine Moves.step (State.setNode_moves ..) (by decide) ?_
    exact Moves.refl
  · extract_lets -merge -underBinder -useContext x4
    clear_value x4
    refine Moves.foldl (fun y5 y6 => ?_) ?_
    · refine Moves.step (State.setPortBlock_moves ..) (by decide) ?_
      exact Moves.refl
    · exact Moves.refl
  · split
    · refine Moves.step (State.setPortBlock_moves ..) (by decide) ?_
      refine Moves.step (State.setNode_moves ..) (by decide) ?_
      exact Moves.refl
  · split
    · refine Moves.step (State.setPortBlock_moves ..) (by decide) ?_
      refine Moves.step (State.setNode_moves ..) (by decide) ?_
      exact Moves.refl
  · split
    · refine Moves.step (State.setPortBlock_moves ..) (by decide) ?_
      refine Moves.step (State.setNode_moves ..) (by decide) ?_
      exact Moves.refl
  · extract_lets -merge -underBinder -useContext x7
    clear_value x7
    refine Moves.step (State.setPortBlock_moves ..) (by decide) ?_
    refine Moves.step (State.setNode_moves ..) (by decide) ?_
    exact Moves.refl
  · split
    · refine Moves.step (State.setPortBlock_moves ..) (by decide) ?_
      refine Moves.step (State.setNode_moves ..) (by decide) ?_
      exact Moves.refl
  · refine Moves.step (State.setPortBlock_moves ..) (by decide) ?_
    refine Moves.step (State.setNode_moves ..) (by decide) ?_
    exact Moves.refl
  · exact Moves.refl

theorem State.runNodes_moves (s a1 a2 a3) : Moves 27021597764222976 s (State.runNodes s a1 a2 a3) := by
  induction a2 generalizing s a1 a3 with
  | zero => exact Moves.refl
  | succ n ih =>
    unfold State.runNodes
    split
    · exact Moves.refl
    · extract_lets -merge -underBinder -useContext x0
      clear_value x0
      refine Moves.step (ih ..) (Nat.or_self _) ?_
      refine Moves.step (State.nodeRun_moves ..) (by decide) ?_
      exact Moves.refl

theorem State.segmentRun_moves (s a1 a2) : Moves 27021597764222976 s (State.segmentRun s a1 a2) := by
  unfold State.segmentRun
  extract_lets -merge -underBinder -useContext x0 x1
  clear_value x0
  clear_value x1
  refine Moves.step (State.runNodes_moves ..) (by decide) ?_
  exact Moves.refl

theorem State.legOut_moves (s a1 a2 a3 a4 a5 a6) : Moves 18014398509481984 s (State.legOut s a1 a2 a3 a4 a5 a6) := by
  unfold State.legOut
  extract_lets -merge -underBinder -useContext x0 x1 x2 x3
  clear_value x0
  clear_value x1
  clear_value x2
  clear_value x3
  split
  · extract_lets -merge -underBinder -useContext x4 x5 x6 x7
    clear_value x4
    clear_value x5
    clear_value x6
    clear_value x7
    refine Moves.step (State.setLegA_moves ..) (by decide) ?_
    exact Moves.refl

theorem State.confOutRun_moves (s a1 a2) : Moves 18014398509481984 s (State.confOutRun s a1 a2) := by
  unfold State.confOutRun
  extract_lets -merge -underBinder -useContext x0 x1 x2 x3 x4
  clear_value x0
  clear_value x1
  clear_value x2
  clear_value x3
  clear_value x4
  refine Moves.forEach (fun y5 y6 => ?_) ?_
  · extract_lets -merge -underBinder -useContext x7
    clear_value x7
    refine Moves.step (State.legOut_moves ..) (by decide) ?_
    exact Moves.refl
  · exact Moves.refl

theorem State.graphRun_moves (s a1 a2) : Moves 63050807100054273 s (State.graphRun s a1 a2) := by
  unfold State.graphRun
  split
  · refine Moves.step (State.busRun_moves ..) (by decide) ?_
    exact Moves.refl
  · refine Moves.step (State.segmentRun_moves ..) (by decide) ?_
    exact Moves.refl
  · refine Moves.step (State.confOutRun_moves ..) (by decide) ?_
    exact Moves.refl
  · exact Moves.refl
  · exact Moves.refl
  · exact Moves.refl
  · exact Moves.refl
  · exact Moves.refl
  · exact Moves.refl
  · exact Moves.refl
  · exact Moves.refl
  · exact Moves.refl

theorem State.keepUndo_moves (s a1) : Moves 9007199254740992 s (State.keepUndo s a1) := by
  unfold State.keepUndo
  extract_lets -merge -underBinder -useContext x0 x1 x2 x3 x4
  clear_value x0
  clear_value x1
  clear_value x2
  clear_value x3
  clear_value x4
  refine Moves.step (Moves.set_audio ..) (by decide) ?_
  exact Moves.refl

theorem State.keepIns_moves (s a1 a2) : Moves 9007199254740992 s (State.keepIns s a1 a2) := by
  unfold State.keepIns
  split
  · exact Moves.refl
  · refine Moves.step (Moves.set_audio ..) (by decide) ?_
    exact Moves.refl

theorem State.decodeLate_moves (s a1) : Moves 17314091777 s (State.decodeLate s a1) := by
  unfold State.decodeLate
  extract_lets -merge -underBinder -useContext x0 x1
  clear_value x0
  have h2 : Moves 17314091777 s x1 := by
    unfold x1
    refine Moves.step (State.setDec_moves ..) (by decide) ?_
    exact Moves.refl
  clear_value x1
  refine Moves.step (State.postLimited_moves ..) (by decide) ?_
  refine Moves.step (State.contained_moves ..) (by decide) ?_
  with_reducible assumption

theorem State.lateEffect_moves (s a1) : Moves 63050858773879553 s (State.lateEffect s a1) := by
  unfold State.lateEffect
  split
  · exact Moves.refl
  · exact Moves.refl
  · refine Moves.step (State.contained_moves ..) (by decide) ?_
    exact Moves.refl
  · refine Moves.step (State.segmentLate_moves ..) (by decide) ?_
    refine Moves.ite ?_ ?_
    · exact Moves.refl
    · refine Moves.step (State.graphRun_moves ..) (by decide) ?_
      refine Moves.step (State.keepUndo_moves ..) (by decide) ?_
      exact Moves.refl
  · refine Moves.step (State.segmentLate_moves ..) (by decide) ?_
    refine Moves.ite ?_ ?_
    · exact Moves.refl
    · refine Moves.step (State.graphRun_moves ..) (by decide) ?_
      refine Moves.step (State.keepUndo_moves ..) (by decide) ?_
      exact Moves.refl
  · refine Moves.step (State.segmentLate_moves ..) (by decide) ?_
    refine Moves.ite ?_ ?_
    · exact Moves.refl
    · refine Moves.step (State.graphRun_moves ..) (by decide) ?_
      refine Moves.step (State.keepUndo_moves ..) (by decide) ?_
      exact Moves.refl
  · refine Moves.step (State.segmentLate_moves ..) (by decide) ?_
    refine Moves.ite ?_ ?_
    · exact Moves.refl
    · refine Moves.step (State.keepIns_moves ..) (by decide) ?_
      exact Moves.refl
  · refine Moves.step (State.codecLate_moves ..) (by decide) ?_
    exact Moves.refl
  · refine Moves.step (State.codecLate_moves ..) (by decide) ?_
    exact Moves.refl
  · refine Moves.step (State.decodeLate_moves ..) (by decide) ?_
    exact Moves.refl
  · refine Moves.step (State.decodeLate_moves ..) (by decide) ?_
    exact Moves.refl
  · refine Moves.step (State.composeLate_moves ..) (by decide) ?_
    exact Moves.refl

theorem State.limitDue_moves (s a1 a2 a3 a4) : Moves 1215972375461896065 s (State.limitDue s a1 a2 a3 a4) := by
  unfold State.limitDue
  split
  · refine Moves.step (State.encodeLimit_moves ..) (by decide) ?_
    exact Moves.refl
  · refine Moves.step (State.lateEffect_moves ..) (by decide) ?_
    refine Moves.step (State.modTask_moves ..) (by decide) ?_
    exact Moves.refl
  · refine Moves.step (State.lateEffect_moves ..) (by decide) ?_
    refine Moves.step (State.modTask_moves ..) (by decide) ?_
    exact Moves.refl
  · refine Moves.step (State.lateEffect_moves ..) (by decide) ?_
    refine Moves.step (State.modTask_moves ..) (by decide) ?_
    exact Moves.refl
  · refine Moves.step (State.lateEffect_moves ..) (by decide) ?_
    refine Moves.step (State.modTask_moves ..) (by decide) ?_
    exact Moves.refl
  · refine Moves.step (State.lateEffect_moves ..) (by decide) ?_
    refine Moves.step (State.modTask_moves ..) (by decide) ?_
    exact Moves.refl
  · refine Moves.step (State.lateEffect_moves ..) (by decide) ?_
    refine Moves.step (State.modTask_moves ..) (by decide) ?_
    exact Moves.refl
  · refine Moves.step (State.lateEffect_moves ..) (by decide) ?_
    refine Moves.step (State.modTask_moves ..) (by decide) ?_
    exact Moves.refl
  · refine Moves.step (State.lateEffect_moves ..) (by decide) ?_
    refine Moves.step (State.modTask_moves ..) (by decide) ?_
    exact Moves.refl
  · refine Moves.step (State.lateEffect_moves ..) (by decide) ?_
    refine Moves.step (State.modTask_moves ..) (by decide) ?_
    exact Moves.refl
  · refine Moves.step (State.lateEffect_moves ..) (by decide) ?_
    refine Moves.step (State.modTask_moves ..) (by decide) ?_
    exact Moves.refl
  · refine Moves.step (State.lateEffect_moves ..) (by decide) ?_
    refine Moves.step (State.modTask_moves ..) (by decide) ?_
    exact Moves.refl

theorem State.limitEnd_moves (s a1 a2 a3) : Moves 1215972376007155585 s (State.limitEnd s a1 a2 a3) := by
  unfold State.limitEnd
  extract_lets -merge -underBinder -useContext x0 x1
  clear_value x0
  have h2 : Moves 1215972376007155585 s x1 := by
    unfold x1
    refine Moves.step (State.limitDue_moves ..) (by decide) ?_
    exact Moves.refl
  clear_value x1
  refine Moves.ite ?_ ?_
  · refine Moves.step (State.releaseTurn_moves ..) (by decide) ?_
    refine Moves.step (State.modTask_moves ..) (by decide) ?_
    with_reducible assumption
  · with_reducible assumption

theorem State.limitsPassed_moves (s) : Moves 1215972376007155585 s (State.limitsPassed s) := by
  unfold State.limitsPassed
  refine Moves.forEach (fun y0 y1 => ?_) ?_
  · split
    · refine Moves.step (State.limitEnd_moves ..) (by decide) ?_
      exact Moves.refl
    · exact Moves.refl
  · exact Moves.refl

theorem State.recallTick_moves (s a1 a2) : Moves 2199040065536 s (State.recallTick s a1 a2) := by
  unfold State.recallTick
  refine Moves.ite ?_ ?_
  · exact Moves.refl
  · extract_lets -merge -underBinder -useContext x0 x1 x2
    clear_value x0
    clear_value x1
    clear_value x2
    refine Moves.step (State.dramPut_moves ..) (by decide) ?_
    refine Moves.step (State.setConf_moves ..) (by decide) ?_
    exact Moves.refl

theorem State.recallsTick_moves (s) : Moves 2199040065536 s (State.recallsTick s) := by
  unfold State.recallsTick
  refine Moves.forEach (fun y0 y1 => ?_) ?_
  · refine Moves.step (State.recallTick_moves ..) (by decide) ?_
    exact Moves.refl
  · exact Moves.refl

theorem State.tapMix_moves (s a1 a2) : Moves 33554432 s (State.tapMix s a1 a2) := by
  unfold State.tapMix
  extract_lets -merge -underBinder -useContext x0 x1 x2
  clear_value x0
  clear_value x1
  clear_value x2
  split
  · exact Moves.refl
  · extract_lets -merge -underBinder -useContext x3 x4 x5 x6 x7
    clear_value x3
    clear_value x4
    clear_value x5
    clear_value x6
    clear_value x7
    refine Moves.step (State.setTap_moves ..) (by decide) ?_
    exact Moves.refl

theorem State.tapStop_moves (s a1 a2) : Moves 33559297 s (State.tapStop s a1 a2) := by
  unfold State.tapStop
  refine Moves.ite ?_ ?_
  · exact Moves.refl
  · extract_lets -merge -underBinder -useContext x0 x1
    clear_value x0
    have h2 : Moves 33559297 s x1 := by
      unfold x1
      refine Moves.step (State.setTap_moves ..) (by decide) ?_
      exact Moves.refl
    clear_value x1
    split
    · refine Moves.step (State.post_moves ..) (by decide) ?_
      with_reducible assumption
    · with_reducible assumption

theorem State.hostPut_moves (s a l) : Moves 65536 s (State.hostPut s a l) := Moves.set_hostMem _ _ (fun c => Memory.wf_writeList _ _ _ c.2.2)

theorem State.tapStore_moves (s a1 a2 a3 a4 a5) : Moves 33620096 s (State.tapStore s a1 a2 a3 a4 a5) := by
  unfold State.tapStore
  extract_lets -merge -underBinder -useContext x0 x1 x2 x3 x4 x5
  clear_value x0
  clear_value x1
  clear_value x2
  clear_value x3
  have h6 : Moves 33620096 s x4 := by
    unfold x4
    refine Moves.ite ?_ ?_
    · exact Moves.refl
    · refine Moves.step (State.hostPut_moves ..) (by decide) ?_
      exact Moves.refl
  clear_value x4
  clear_value x5
  split
  · rename_i s7 q7
    have h7 := Moves.at2 (m := 33620096) (s := s) q7 (by
      refine Moves.step (State.fresh_moves2 ..) (by decide) ?_
      with_reducible assumption)
    extract_lets -merge -underBinder -useContext x8 x9 x10
    clear_value x8
    have h11 : Moves 33620096 s x9 := by
      unfold x9
      refine Moves.step (State.hostPut_moves ..) (by decide) ?_
      with_reducible assumption
    clear_value x9
    clear_value x10
    refine Moves.step (State.setTap_moves ..) (by decide) ?_
    with_reducible assumption

theorem State.exhaustedEvent_moves (s a1 a2) : Moves 4865 s (State.exhaustedEvent s a1 a2) := by
  unfold State.exhaustedEvent
  refine Moves.step (State.post_moves ..) (by decide) ?_
  exact Moves.refl

theorem State.setSlot_moves (s a1 a2) : Moves 17592186044416 s (State.setSlot s a1 a2) := by
  unfold State.setSlot
  refine Moves.step (State.modSec_moves ..) (by decide) ?_
  exact Moves.refl

theorem State.invoke_moves (s a1) : Moves 17592186044416 s (State.invoke s a1) := by
  unfold State.invoke
  refine Moves.step (State.setSlot_moves ..) (by decide) ?_
  exact Moves.refl

theorem State.tapRecord_moves (s a1 a2 a3 a4) : Moves 17592353887105 s (State.tapRecord s a1 a2 a3 a4) := by
  unfold State.tapRecord
  extract_lets -merge -underBinder -useContext x0 x1 x2 x3 x4
  clear_value x0
  clear_value x1
  clear_value x2
  clear_value x3
  have h5 : Moves 17592353887105 s x4 := by
    unfold x4
    refine Moves.step (State.setTap_moves ..) (by decide) ?_
    exact Moves.refl
  clear_value x4
  refine Moves.ite ?_ ?_
  · exact Moves.refl
  · refine Moves.ite ?_ ?_
    · refine Moves.step (State.tapStop_moves ..) (by decide) ?_
      exact Moves.refl
    · refine Moves.ite ?_ ?_
      · refine Moves.step (State.postLimited_moves ..) (by decide) ?_
        with_reducible assumption
      · refine Moves.ite ?_ ?_
        · refine Moves.step (State.tapStore_moves ..) (by decide) ?_
          with_reducible assumption
        · split
          · refine Moves.step (State.tapStop_moves ..) (by decide) ?_
            with_reducible assumption
          · refine Moves.ite ?_ ?_
            · refine Moves.step (State.tapStop_moves ..) (by decide) ?_
              refine Moves.step (State.exhaustedEvent_moves ..) (by decide) ?_
              with_reducible assumption
            · refine Moves.step (State.tapStore_moves ..) (by decide) ?_
              refine Moves.step (State.invoke_moves ..) (by decide) ?_
              with_reducible assumption

theorem State.tapWrite_moves (s a1 a2 a3) : Moves 17592353887105 s (State.tapWrite s a1 a2 a3) := by
  unfold State.tapWrite
  extract_lets -merge -underBinder -useContext x0 x1 x2 x3 x4
  have h5 : Moves 17592353887105 s x0 := by
    unfold x0
    refine Moves.ite ?_ ?_
    · refine Moves.step (State.tapMix_moves ..) (by decide) ?_
      exact Moves.refl
    · exact Moves.refl
  clear_value x0
  clear_value x1
  clear_value x2
  have h6 : Moves 17592353887105 s x3 := by
    unfold x3
    refine Moves.step (State.setTap_moves ..) (by decide) ?_
    with_reducible assumption
  clear_value x3
  have h7 : Moves 17592353887105 s x4 := by
    unfold x4
    refine Moves.forEach (fun y8 y9 => ?_) ?_
    · refine Moves.step (State.tapRecord_moves ..) (by decide) ?_
      exact Moves.refl
    · with_reducible assumption
  clear_value x4
  refine Moves.ite ?_ ?_
  · with_reducible assumption
  · refine Moves.ite ?_ ?_
    · with_reducible assumption
    · refine Moves.step (State.hostPut_moves ..) (by decide) ?_
      with_reducible assumption

theorem State.tapsTick_moves (s a1) : Moves 17592353887105 s (State.tapsTick s a1) := by
  unfold State.tapsTick
  refine Moves.forEach (fun y0 y1 => ?_) ?_
  · refine Moves.step (State.tapWrite_moves ..) (by decide) ?_
    exact Moves.refl
  · exact Moves.refl

theorem State.tdmTx_moves (s a1 a2) : Moves 67108864 s (State.tdmTx s a1 a2) := by
  unfold State.tdmTx
  extract_lets -merge -underBinder -useContext x0 x1 x2 x3
  clear_value x0
  clear_value x1
  clear_value x2
  clear_value x3
  refine Moves.step (State.setTdm_moves ..) (by decide) ?_
  exact Moves.refl

theorem State.graphEnd_moves (s a1) : Moves 27021597831331840 s (State.graphEnd s a1) := by
  unfold State.graphEnd
  extract_lets -merge -underBinder -useContext x0 x1 x2 x3
  have h4 : Moves 27021597831331840 s x0 := by
    unfold x0
    refine Moves.forEach (fun y5 y6 => ?_) ?_
    · refine Moves.step (State.nodeRun_moves ..) (by decide) ?_
      exact Moves.refl
    · exact Moves.refl
  clear_value x0
  clear_value x1
  have h7 : Moves 27021597831331840 s x2 := by
    unfold x2
    refine Moves.forEach (fun y8 y9 => ?_) ?_
    · extract_lets -merge -underBinder -useContext x10
      clear_value x10
      refine Moves.step (State.legOut_moves ..) (by decide) ?_
      exact Moves.refl
    · with_reducible assumption
  clear_value x2
  have h11 : Moves 27021597831331840 s x3 := by
    unfold x3
    refine Moves.forUpTo (fun y12 y13 => ?_) ?_
    · refine Moves.step (State.tdmTx_moves ..) (by decide) ?_
      exact Moves.refl
    · with_reducible assumption
  clear_value x3
  refine Moves.step (Moves.set_legAudio ..) (by decide) ?_
  with_reducible assumption

theorem State.tickClose_moves (s a1) : Moves 1215992167333994369 s (State.tickClose s a1) := by
  unfold State.tickClose
  extract_lets -merge -underBinder -useContext x0
  have h1 : Moves 1215992167333994369 s x0 := by
    unfold x0
    refine Moves.forUpTo (fun y2 y3 => ?_) ?_
    · refine Moves.step (State.bankDrain_moves ..) (by decide) ?_
      exact Moves.refl
    · refine Moves.step (State.limitsPassed_moves ..) (by decide) ?_
      exact Moves.refl
  clear_value x0
  refine Moves.ite ?_ ?_
  · refine Moves.step (State.recallsTick_moves ..) (by decide) ?_
    refine Moves.step (State.tapsTick_moves ..) (by decide) ?_
    refine Moves.step (State.graphEnd_moves ..) (by decide) ?_
    with_reducible assumption
  · with_reducible assumption

theorem State.tickFrames_moves (s a1) : Moves 2049 s (State.tickFrames s a1) := by
  unfold State.tickFrames
  refine Moves.forUpTo (fun y0 y1 => ?_) ?_
  · refine Moves.ite ?_ ?_
    · refine Moves.step (State.bankWrite_moves ..) (by decide) ?_
      exact Moves.refl
    · exact Moves.refl
  · exact Moves.refl

theorem State.groupsTick_moves (s a1) : Moves 9007199254740993 s (State.groupsTick s a1) := by
  unfold State.groupsTick
  extract_lets -merge -underBinder -useContext x0 x1 x2
  have h3 : Moves 9007199254740993 s x0 := by
    unfold x0
    refine Moves.step (State.put_moves ..) (by decide) ?_
    exact Moves.refl
  clear_value x0
  have h4 : Moves 9007199254740993 s x1 := by
    unfold x1
    refine Moves.step (State.put_moves ..) (by decide) ?_
    with_reducible assumption
  clear_value x1
  clear_value x2
  refine Moves.step (Moves.set_audio ..) (by decide) ?_
  with_reducible assumption

theorem State.captureBlock_moves (s a1 a2) : Moves 18014398509481984 s (State.captureBlock s a1 a2) := by
  unfold State.captureBlock
  extract_lets -merge -underBinder -useContext x0 x1 x2 x3
  clear_value x0
  clear_value x1
  clear_value x2
  clear_value x3
  refine Moves.step (State.setLegA_moves ..) (by decide) ?_
  exact Moves.refl

theorem State.groupFrame_moves1 (s a1 a2) : Moves 9007199254740992 s (State.groupFrame s a1 a2).1 := by
  unfold State.groupFrame
  extract_lets -merge -underBinder -useContext x0 x1
  clear_value x0
  clear_value x1
  split
  · split
    · exact Moves.refl
    · extract_lets -merge -underBinder -useContext x2 x3 x4
      clear_value x2
      clear_value x3
      clear_value x4
      try dsimp only
      refine Moves.step (Moves.set_audio ..) (by decide) ?_
      exact Moves.refl
  · extract_lets -merge -underBinder -useContext x5 x6
    clear_value x5
    clear_value x6
    try dsimp only
    refine Moves.step (Moves.set_audio ..) (by decide) ?_
    exact Moves.refl

theorem State.encodeAt_moves (s a1 a2) : Moves 27021597764222976 s (State.encodeAt s a1 a2) := by
  unfold State.encodeAt
  extract_lets -merge -underBinder -useContext x0 x1 x2 x3 x4
  clear_value x0
  clear_value x2
  clear_value x3
  clear_value x4
  refine Moves.ite ?_ ?_
  · split
    · rename_i s5 _ q5
      have h5 := Moves.at1 (m := 27021597764222976) (s := s) q5 (by
        refine Moves.step (State.groupFrame_moves1 ..) (by decide) ?_
        exact Moves.refl)
      extract_lets -merge -underBinder -useContext x6 x7 x8
      clear_value x6
      have h9 : Moves 27021597764222976 s x7 := by
        unfold x7
        refine Moves.step (State.setLegA_moves ..) (by decide) ?_
        with_reducible assumption
      clear_value x7
      clear_value x8
      refine Moves.step (Moves.set_audio ..) (by decide) ?_
      with_reducible assumption
  · refine Moves.step (State.setLegA_moves ..) (by decide) ?_
    exact Moves.refl

theorem State.jbTick_moves (s a1 a2) : Moves 18014398652093185 s (State.jbTick s a1 a2) := by
  unfold State.jbTick
  extract_lets -merge -underBinder -useContext x0 x1 x2 x3
  clear_value x0
  clear_value x1
  clear_value x2
  clear_value x3
  refine Moves.ite ?_ ?_
  · exact Moves.refl
  · split
    · extract_lets -merge -underBinder -useContext x4 x5
      have h6 : Moves 18014398652093185 s x4 := by
        unfold x4
        refine Moves.step (State.setLeg_moves ..) (by decide) ?_
        exact Moves.refl
      clear_value x4
      have h7 : Moves 18014398652093185 s x5 := by
        unfold x5
        refine Moves.step (State.setLegA_moves ..) (by decide) ?_
        with_reducible assumption
      clear_value x5
      refine Moves.ite ?_ ?_
      · with_reducible assumption
      · refine Moves.step (State.postLimited_moves ..) (by decide) ?_
        with_reducible assumption

theorem State.noteKey_moves (s a1 a2) : Moves 18014398509481984 s (State.noteKey s a1 a2) := by
  unfold State.noteKey
  extract_lets -merge -underBinder -useContext x0 x1
  clear_value x0
  clear_value x1
  refine Moves.ite ?_ ?_
  · exact Moves.refl
  · refine Moves.step (State.setLegA_moves ..) (by decide) ?_
    exact Moves.refl

theorem State.noteLoss_moves (s a1 a2) : Moves 18014398509481984 s (State.noteLoss s a1 a2) := by
  unfold State.noteLoss
  extract_lets -merge -underBinder -useContext x0 x1
  clear_value x0
  clear_value x1
  refine Moves.ite ?_ ?_
  · exact Moves.refl
  · refine Moves.step (State.setLegA_moves ..) (by decide) ?_
    exact Moves.refl

theorem State.playerTick_moves (s a1 a2) : Moves 9007199254745857 s (State.playerTick s a1 a2) := by
  unfold State.playerTick
  extract_lets -merge -underBinder -useContext x0 x1 x2 x3 x4
  clear_value x0
  clear_value x1
  clear_value x2
  clear_value x3
  clear_value x4
  refine Moves.ite ?_ ?_
  · exact Moves.refl
  · refine Moves.ite ?_ ?_
    · refine Moves.step (State.setPlayer_moves ..) (by decide) ?_
      exact Moves.refl
    · refine Moves.ite ?_ ?_
      · refine Moves.ite ?_ ?_
        · refine Moves.step (State.playerStop_moves ..) (by decide) ?_
          exact Moves.refl
        · refine Moves.step (State.setPlayer_moves ..) (by decide) ?_
          exact Moves.refl
      · split
        · extract_lets -merge -underBinder -useContext x5
          have h6 : Moves 9007199254745857 s x5 := by
            unfold x5
            refine Moves.step (State.bump_moves ..) (by decide) ?_
            exact Moves.refl
          clear_value x5
          refine Moves.step (State.setPlayer_moves ..) (by decide) ?_
          with_reducible assumption

theorem State.placeKey_moves2 (s a1 a2 a3 a4 a5) : Moves 1125899906842624 s (State.placeKey s a1 a2 a3 a4 a5).2 := by
  unfold State.placeKey
  extract_lets -merge -underBinder -useContext x0 x1 x2
  clear_value x0
  clear_value x1
  clear_value x2
  split
  · exact Moves.refl
  · try dsimp only
    refine Moves.step (Moves.set_svc ..) (by decide) ?_
    exact Moves.refl

theorem State.submitTask_moves (s a1) : Moves 1152921504606846977 s (State.submitTask s a1) := by
  unfold State.submitTask
  refine Moves.ite ?_ ?_
  · exact Moves.refl
  · extract_lets -merge -underBinder -useContext x0 x1 x2
    clear_value x0
    have h3 : Moves 1152921504606846977 s x1 := by
      unfold x1
      refine Moves.ite ?_ ?_
      · exact Moves.refl
      · refine Moves.step (State.bump_moves ..) (by decide) ?_
        exact Moves.refl
    clear_value x1
    clear_value x2
    refine Moves.ite ?_ ?_
    · refine Moves.step (State.showReeve_moves ..) (by decide) ?_
      refine Moves.step (State.placeTask_moves ..) (by decide) ?_
      exact Moves.refl
    · refine Moves.step (Moves.set_reeve ..) (by decide) ?_
      with_reducible assumption

theorem State.codecTasks_moves (s a1 a2 a3) : Moves 1154047404513689601 s (State.codecTasks s a1 a2 a3) := by
  unfold State.codecTasks
  extract_lets -merge -underBinder -useContext x0 x1 x2
  clear_value x0
  have h3 : Moves 1154047404513689601 s x1 := by
    unfold x1
    refine Moves.forEach (fun y4 y5 => ?_) ?_
    · split
      · rename_i s6 q6
        have h6 := Moves.at2 (m := 1154047404513689601) (s := y5) q6 (by
          refine Moves.step (State.placeKey_moves2 ..) (by decide) ?_
          exact Moves.refl)
        refine Moves.step (State.submitTask_moves ..) (by decide) ?_
        with_reducible assumption
    · exact Moves.refl
  clear_value x1
  have h7 : Moves 1154047404513689601 s x2 := by
    unfold x2
    refine Moves.forEach (fun y8 y9 => ?_) ?_
    · split
      · rename_i s10 q10
        have h10 := Moves.at2 (m := 1154047404513689601) (s := y9) q10 (by
          refine Moves.step (State.placeKey_moves2 ..) (by decide) ?_
          exact Moves.refl)
        refine Moves.step (State.submitTask_moves ..) (by decide) ?_
        with_reducible assumption
    · with_reducible assumption
  clear_value x2
  refine Moves.forUpTo (fun y11 y12 => ?_) ?_
  · refine Moves.ite ?_ ?_
    · split
      · rename_i s13 q13
        have h13 := Moves.at2 (m := 1154047404513689601) (s := y12) q13 (by
          refine Moves.step (State.placeKey_moves2 ..) (by decide) ?_
          exact Moves.refl)
        extract_lets -merge -underBinder -useContext x14
        clear_value x14
        refine Moves.step (State.submitTask_moves ..) (by decide) ?_
        with_reducible assumption
    · exact Moves.refl
  · with_reducible assumption

theorem State.delayOut_moves (s a1) : Moves 9007199254740992 s (State.delayOut s a1) := by
  unfold State.delayOut
  split
  · extract_lets -merge -underBinder -useContext x0
    clear_value x0
    refine Moves.step (State.setPortBlock_moves ..) (by decide) ?_
    exact Moves.refl
  · exact Moves.refl

theorem State.graphBegin_moves (s) : Moves 9007199254740992 s (State.graphBegin s) := by
  unfold State.graphBegin
  extract_lets -merge -underBinder -useContext x0 x1
  clear_value x0
  have h2 : Moves 9007199254740992 s x1 := by
    unfold x1
    refine Moves.step (Moves.set_audio ..) (by decide) ?_
    exact Moves.refl
  clear_value x1
  refine Moves.forEach (fun y3 y4 => ?_) ?_
  · refine Moves.step (State.delayOut_moves ..) (by decide) ?_
    exact Moves.refl
  · with_reducible assumption

theorem State.submitSegment_moves (s a1 a2 a3 a4 a5 a6) : Moves 1154047404513689601 s (State.submitSegment s a1 a2 a3 a4 a5 a6) := by
  unfold State.submitSegment
  extract_lets -merge -underBinder -useContext x0 x1
  clear_value x0
  clear_value x1
  refine Moves.ite ?_ ?_
  · exact Moves.refl
  · split
    · split
      · rename_i s2 q2
        have h2 := Moves.at2 (m := 1154047404513689601) (s := s) q2 (by
          refine Moves.step (State.placeKey_moves2 ..) (by decide) ?_
          exact Moves.refl)
        refine Moves.step (State.submitTask_moves ..) (by decide) ?_
        with_reducible assumption
    · split
      · rename_i s3 q3
        have h3 := Moves.at2 (m := 1154047404513689601) (s := s) q3 (by
          refine Moves.step (State.placeKey_moves2 ..) (by decide) ?_
          exact Moves.refl)
        refine Moves.step (State.submitTask_moves ..) (by decide) ?_
        with_reducible assumption

theorem State.graphTasks_moves (s a1) : Moves 1154047404513689601 s (State.graphTasks s a1) := by
  unfold State.graphTasks
  extract_lets -merge -underBinder -useContext x0 x1 x2 x3 x4 x5 x6 x7
  clear_value x0
  clear_value x1
  clear_value x2
  have h8 : Moves 1154047404513689601 s x3 := by
    unfold x3
    refine Moves.forEach (fun y9 y10 => ?_) ?_
    · split
      · rename_i s11 q11
        have h11 := Moves.at2 (m := 1154047404513689601) (s := y10) q11 (by
          refine Moves.step (State.placeKey_moves2 ..) (by decide) ?_
          exact Moves.refl)
        refine Moves.step (State.submitTask_moves ..) (by decide) ?_
        with_reducible assumption
    · exact Moves.refl
  clear_value x3
  clear_value x4
  clear_value x5
  have h12 : Moves 1154047404513689601 s x6 := by
    unfold x6
    refine Moves.forEach (fun y13 y14 => ?_) ?_
    · refine Moves.step (State.submitSegment_moves ..) (by decide) ?_
      exact Moves.refl
    · with_reducible assumption
  clear_value x6
  have h15 : Moves 1154047404513689601 s x7 := by
    unfold x7
    refine Moves.forEach (fun y16 y17 => ?_) ?_
    · refine Moves.step (State.submitSegment_moves ..) (by decide) ?_
      exact Moves.refl
    · with_reducible assumption
  clear_value x7
  refine Moves.forEach (fun y18 y19 => ?_) ?_
  · refine Moves.step (State.submitTask_moves ..) (by decide) ?_
    exact Moves.refl
  · with_reducible assumption

theorem State.audioBoundary_moves (s a1) : Moves 1181069002420525825 s (State.audioBoundary s a1) := by
  unfold State.audioBoundary
  extract_lets -merge -underBinder -useContext x0 x1 x2 x3 x4 x5 x6 x7 x8 x9
  have h10 : Moves 1181069002420525825 s x0 := by
    unfold x0
    refine Moves.step (State.tickFrames_moves ..) (by decide) ?_
    refine Moves.step (State.groupsTick_moves ..) (by decide) ?_
    exact Moves.refl
  clear_value x0
  clear_value x1
  have h11 : Moves 1181069002420525825 s x2 := by
    unfold x2
    refine Moves.forEach (fun y12 y13 => ?_) ?_
    · refine Moves.ite ?_ ?_
      · refine Moves.step (State.captureBlock_moves ..) (by decide) ?_
        exact Moves.refl
      · exact Moves.refl
    · with_reducible assumption
  clear_value x2
  clear_value x3
  clear_value x4
  have h14 : Moves 1181069002420525825 s x5 := by
    unfold x5
    refine Moves.forEach (fun y15 y16 => ?_) ?_
    · refine Moves.step (State.encodeAt_moves ..) (by decide) ?_
      exact Moves.refl
    · with_reducible assumption
  clear_value x5
  have h17 : Moves 1181069002420525825 s x6 := by
    unfold x6
    refine Moves.forEach (fun y18 y19 => ?_) ?_
    · refine Moves.step (State.jbTick_moves ..) (by decide) ?_
      refine Moves.step (State.noteKey_moves ..) (by decide) ?_
      refine Moves.step (State.noteLoss_moves ..) (by decide) ?_
      exact Moves.refl
    · with_reducible assumption
  clear_value x6
  clear_value x7
  have h20 : Moves 1181069002420525825 s x8 := by
    unfold x8
    refine Moves.forUpTo (fun y21 y22 => ?_) ?_
    · refine Moves.step (State.playerTick_moves ..) (by decide) ?_
      exact Moves.refl
    · with_reducible assumption
  clear_value x8
  have h23 : Moves 1181069002420525825 s x9 := by
    unfold x9
    refine Moves.step (State.codecTasks_moves ..) (by decide) ?_
    refine Moves.step (State.graphBegin_moves ..) (by decide) ?_
    with_reducible assumption
  clear_value x9
  refine Moves.ite ?_ ?_
  · with_reducible assumption
  · refine Moves.step (State.graphTasks_moves ..) (by decide) ?_
    with_reducible assumption

theorem State.audioSettings_moves (s) : Moves 9007199254740992 s (State.audioSettings s) := by
  unfold State.audioSettings
  refine Moves.step (Moves.set_audio ..) (by decide) ?_
  exact Moves.refl

theorem State.tdmSend_moves (s a1) : Moves 67108864 s (State.tdmSend s a1) := by
  unfold State.tdmSend
  refine Moves.ite ?_ ?_
  · exact Moves.refl
  · refine Moves.step (State.setTdm_moves ..) (by decide) ?_
    exact Moves.refl

theorem State.stale_moves (s a1 a2 a3) : Moves 134222593 s (State.stale s a1 a2 a3) := by
  unfold State.stale
  refine Moves.step (State.postWindow_moves ..) (by decide) ?_
  refine Moves.step (State.bump_moves ..) (by decide) ?_
  exact Moves.refl

theorem State.layerStep_moves (s a1 a2 a3 a4 a5 a6) : Moves 34493960961 s (State.layerStep s a1 a2 a3 a4 a5 a6) := by
  unfold State.layerStep
  extract_lets -merge -underBinder -useContext x0 x1 x2 x3 x4 x5 x6 x7 x8 x9
  clear_value x0
  clear_value x1
  clear_value x2
  clear_value x3
  clear_value x4
  have h10 : ∀ y11 y12, Moves 34493960961 y11 (x5 y11 y12) := by
    intro y11 y12
    unfold x5
    extract_lets -merge -underBinder -useContext x13
    clear_value x13
    refine Moves.step (State.setLayout_moves ..) (by decide) ?_
    exact Moves.refl
  clear_value x5
  clear_value x6
  clear_value x7
  clear_value x8
  clear_value x9
  refine Moves.ite ?_ ?_
  · refine Moves.step (h10 ..) (by decide) ?_
    exact Moves.refl
  · split
    · refine Moves.ite ?_ ?_
      · refine Moves.step (h10 ..) (by decide) ?_
        refine Moves.step (State.stale_moves ..) (by decide) ?_
        exact Moves.refl
      · refine Moves.step (h10 ..) (by decide) ?_
        exact Moves.refl
    · refine Moves.ite ?_ ?_
      · extract_lets -merge -underBinder -useContext x14
        have h15 : Moves 34493960961 s x14 := by
          unfold x14
          refine Moves.step (h10 ..) (by decide) ?_
          exact Moves.refl
        clear_value x14
        refine Moves.step (State.post_moves ..) (by decide) ?_
        with_reducible assumption
      · refine Moves.ite ?_ ?_
        · refine Moves.step (h10 ..) (by decide) ?_
          exact Moves.refl
        · refine Moves.ite ?_ ?_
          · refine Moves.step (h10 ..) (by decide) ?_
            refine Moves.step (State.stale_moves ..) (by decide) ?_
            exact Moves.refl
          · refine Moves.step (h10 ..) (by decide) ?_
            exact Moves.refl

theorem State.planPicture_moves (s a1 a2 a3 a4) : Moves 1152921513196786433 s (State.planPicture s a1 a2 a3 a4) := by
  unfold State.planPicture
  extract_lets -merge -underBinder -useContext x0 x1 x2 x3 x4 x5 x6 x7 x8 x9 x10 x11 x12 x13 x14
  clear_value x0
  clear_value x1
  clear_value x2
  clear_value x3
  clear_value x4
  clear_value x5
  clear_value x6
  clear_value x7
  clear_value x8
  clear_value x9
  clear_value x10
  clear_value x11
  have h15 : Moves 1152921513196786433 s x12 := by
    unfold x12
    refine Moves.step (State.setEcomp_moves ..) (by decide) ?_
    exact Moves.refl
  clear_value x12
  have h16 : Moves 1152921513196786433 s x13 := by
    unfold x13
    refine Moves.step (State.bump_moves ..) (by decide) ?_
    refine Moves.step (State.bump_moves ..) (by decide) ?_
    with_reducible assumption
  clear_value x13
  have h17 : Moves 1152921513196786433 s x14 := by
    unfold x14
    refine Moves.ite ?_ ?_
    · refine Moves.step (State.post_moves ..) (by decide) ?_
      with_reducible assumption
    · with_reducible assumption
  clear_value x14
  refine Moves.ite ?_ ?_
  · exact Moves.refl
  · refine Moves.step (State.submitTask_moves ..) (by decide) ?_
    with_reducible assumption

theorem State.composeAt_moves (s a1) : Moves 1152921547690742529 s (State.composeAt s a1) := by
  unfold State.composeAt
  extract_lets -merge -underBinder -useContext x0 x1
  clear_value x0
  clear_value x1
  refine Moves.ite ?_ ?_
  · exact Moves.refl
  · split
    · extract_lets -merge -underBinder -useContext x2 x3 x4 x5 x6 x7 x8
      clear_value x2
      have h9 : Moves 1152921547690742529 s x3 := by
        unfold x3
        refine Moves.forUpTo (fun y10 y11 => ?_) ?_
        · refine Moves.step (State.layerStep_moves ..) (by decide) ?_
          exact Moves.refl
        · exact Moves.refl
      clear_value x3
      clear_value x4
      clear_value x5
      clear_value x6
      have h12 : Moves 1152921547690742529 s x7 := by
        unfold x7
        refine Moves.step (State.setLayout_moves ..) (by decide) ?_
        with_reducible assumption
      clear_value x7
      have h13 : Moves 1152921547690742529 s x8 := by
        unfold x8
        refine Moves.step (State.submitTask_moves ..) (by decide) ?_
        with_reducible assumption
      clear_value x8
      refine Moves.step (State.planPicture_moves ..) (by decide) ?_
      with_reducible assumption

theorem State.forwardPic_moves (s a1 a2 a3) : Moves 3491239681 s (State.forwardPic s a1 a2 a3) := by
  unfold State.forwardPic
  refine Moves.forEach (fun y0 y1 => ?_) ?_
  · extract_lets -merge -underBinder -useContext x2 x3
    have h4 : Moves 3491239681 y1 x2 := by
      unfold x2
      refine Moves.step (State.beginPic_moves ..) (by decide) ?_
      exact Moves.refl
    clear_value x2
    clear_value x3
    refine Moves.ite ?_ ?_
    · split
      · refine Moves.step (State.sendPic_moves ..) (by decide) ?_
        with_reducible assumption
      · with_reducible assumption
    · with_reducible assumption
  · exact Moves.refl

theorem State.decodeRelease_moves (s a1 a2 a3 a4 a5 a6) : Moves 1152921522323587073 s (State.decodeRelease s a1 a2 a3 a4 a5 a6) := by
  unfold State.decodeRelease
  extract_lets -merge -underBinder -useContext x0 x1 x2 x3 x4 x5 x6 x7
  clear_value x0
  have h8 : Moves 1152921522323587073 s x1 := by
    unfold x1
    refine Moves.step (State.setDec_moves ..) (by decide) ?_
    exact Moves.refl
  clear_value x1
  clear_value x2
  clear_value x3
  clear_value x4
  have h9 : Moves 1152921522323587073 s x5 := by
    unfold x5
    refine Moves.step (State.setDec_moves ..) (by decide) ?_
    with_reducible assumption
  clear_value x5
  clear_value x6
  have h10 : Moves 1152921522323587073 s x7 := by
    unfold x7
    refine Moves.ite ?_ ?_
    · refine Moves.step (State.withdrawPli_moves ..) (by decide) ?_
      with_reducible assumption
    · with_reducible assumption
  clear_value x7
  refine Moves.ite ?_ ?_
  · refine Moves.step (State.setDec_moves ..) (by decide) ?_
    with_reducible assumption
  · refine Moves.step (State.submitTask_moves ..) (by decide) ?_
    with_reducible assumption

theorem State.releasePic_moves (s a1 a2 a3 a4) : Moves 1152921525814826753 s (State.releasePic s a1 a2 a3 a4) := by
  unfold State.releasePic
  extract_lets -merge -underBinder -useContext x0
  clear_value x0
  split
  · exact Moves.refl
  · extract_lets -merge -underBinder -useContext x1 x2 x3 x4 x5
    clear_value x1
    clear_value x2
    have h6 : Moves 1152921525814826753 s x3 := by
      unfold x3
      refine Moves.step (State.setVstr_moves ..) (by decide) ?_
      exact Moves.refl
    clear_value x3
    clear_value x4
    have h7 : Moves 1152921525814826753 s x5 := by
      unfold x5
      refine Moves.ite ?_ ?_
      · refine Moves.step (State.forwardPic_moves ..) (by decide) ?_
        with_reducible assumption
      · with_reducible assumption
    clear_value x5
    refine Moves.ite ?_ ?_
    · refine Moves.step (State.decodeRelease_moves ..) (by decide) ?_
      with_reducible assumption
    · with_reducible assumption

theorem State.releaseDue_moves (s a1 a2) : Moves 1152921525814826753 s (State.releaseDue s a1 a2) := by
  unfold State.releaseDue
  extract_lets -merge -underBinder -useContext x0 x1
  clear_value x0
  clear_value x1
  refine Moves.forEach (fun y2 y3 => ?_) ?_
  · refine Moves.step (State.releasePic_moves ..) (by decide) ?_
    exact Moves.refl
  · exact Moves.refl

theorem State.nackSend_moves (s a1) : Moves 2962757377 s (State.nackSend s a1) := by
  unfold State.nackSend
  extract_lets -merge -underBinder -useContext x0 x1 x2 x3
  clear_value x0
  clear_value x1
  clear_value x2
  have h4 : Moves 2962757377 s x3 := by
    unfold x3
    refine Moves.step (State.setVstr_moves ..) (by decide) ?_
    exact Moves.refl
  clear_value x3
  refine Moves.ite ?_ ?_
  · exact Moves.refl
  · refine Moves.step (State.sendRtcp_moves ..) (by decide) ?_
    with_reducible assumption

theorem State.ccfbSend_moves (s a1) : Moves 2425886465 s (State.ccfbSend s a1) := by
  unfold State.ccfbSend
  extract_lets -merge -underBinder -useContext x0 x1 x2
  clear_value x0
  clear_value x1
  clear_value x2
  refine Moves.ite ?_ ?_
  · exact Moves.refl
  · refine Moves.step (State.sendRtcp_moves ..) (by decide) ?_
    refine Moves.step (State.setLeg_moves ..) (by decide) ?_
    exact Moves.refl

theorem State.linkPictures_moves (s a1) : Moves 137438953472 s (State.linkPictures s a1) := by
  unfold State.linkPictures
  refine Moves.forEach (fun y0 y1 => ?_) ?_
  · extract_lets -merge -underBinder -useContext x2 x3 x4
    clear_value x2
    clear_value x3
    clear_value x4
    refine Moves.forEach (fun y5 y6 => ?_) ?_
    · refine Moves.step (State.sendMsg_moves ..) (by decide) ?_
      exact Moves.refl
    · exact Moves.refl
  · exact Moves.refl

theorem State.boundaryTasks_moves (s a1 a2) : Moves 1181069204084236065 s (State.boundaryTasks s a1 a2) := by
  unfold State.boundaryTasks
  extract_lets -merge -underBinder -useContext x0 x1 x2 x3 x4 x5
  have h6 : Moves 1181069204084236065 s x0 := by
    unfold x0
    refine Moves.step (State.audioBoundary_moves ..) (by decide) ?_
    refine Moves.step (State.audioSettings_moves ..) (by decide) ?_
    exact Moves.refl
  clear_value x0
  have h7 : Moves 1181069204084236065 s x1 := by
    unfold x1
    refine Moves.forUpTo (fun y8 y9 => ?_) ?_
    · refine Moves.step (State.tdmSend_moves ..) (by decide) ?_
      exact Moves.refl
    · with_reducible assumption
  clear_value x1
  have h10 : Moves 1181069204084236065 s x2 := by
    unfold x2
    refine Moves.forEach (fun y11 y12 => ?_) ?_
    · refine Moves.step (State.composeAt_moves ..) (by decide) ?_
      refine Moves.step (State.fixedEdge_moves ..) (by decide) ?_
      exact Moves.refl
    · with_reducible assumption
  clear_value x2
  clear_value x3
  have h13 : Moves 1181069204084236065 s x4 := by
    unfold x4
    refine Moves.forEach (fun y14 y15 => ?_) ?_
    · refine Moves.step (State.releaseDue_moves ..) (by decide) ?_
      refine Moves.step (State.nackSend_moves ..) (by decide) ?_
      exact Moves.refl
    · with_reducible assumption
  clear_value x4
  have h16 : Moves 1181069204084236065 s x5 := by
    unfold x5
    refine Moves.forEach (fun y17 y18 => ?_) ?_
    · refine Moves.step (State.ccfbSend_moves ..) (by decide) ?_
      exact Moves.refl
    · with_reducible assumption
  clear_value x5
  refine Moves.step (State.linkPictures_moves ..) (by decide) ?_
  with_reducible assumption

theorem State.framesPass_moves (s a1) : Moves 34359738657 s (State.framesPass s a1) := by
  unfold State.framesPass
  refine Moves.forEach (fun y0 y1 => ?_) ?_
  · extract_lets -merge -underBinder -useContext x2 x3 x4
    clear_value x2
    clear_value x3
    have h5 : Moves 34359738657 y1 x4 := by
      unfold x4
      refine Moves.step (State.fixedEdge_moves ..) (by decide) ?_
      exact Moves.refl
    clear_value x4
    refine Moves.ite ?_ ?_
    · refine Moves.step (State.setLayout_moves ..) (by decide) ?_
      with_reducible assumption
    · with_reducible assumption
  · exact Moves.refl

theorem State.boundaryWork_moves (s a1 a2) : Moves 1217681090208833505 s (State.boundaryWork s a1 a2) := by
  unfold State.boundaryWork
  extract_lets -merge -underBinder -useContext x0 x1
  clear_value x0
  have h2 : Moves 1217681090208833505 s x1 := by
    unfold x1
    refine Moves.step (State.powerBoundary_moves ..) (by decide) ?_
    refine Moves.step (State.boundaryTake_moves ..) (by decide) ?_
    refine Moves.step (State.tickClose_moves ..) (by decide) ?_
    exact Moves.refl
  clear_value x1
  refine Moves.ite ?_ ?_
  · refine Moves.step (State.boundaryTasks_moves ..) (by decide) ?_
    with_reducible assumption
  · refine Moves.step (State.framesPass_moves ..) (by decide) ?_
    with_reducible assumption

theorem State.tickBoundary_moves (s a1 a2) : Moves 1217786643325116401 s (State.tickBoundary s a1 a2) := by
  unfold State.tickBoundary
  extract_lets -merge -underBinder -useContext x0 x1 x2
  have h3 : Moves 1217786643325116401 s x0 := by
    unfold x0
    refine Moves.step (State.ownBoundary_moves ..) (by decide) ?_
    exact Moves.refl
  clear_value x0
  have h4 : Moves 1217786643325116401 s x1 := by
    unfold x1
    refine Moves.ite ?_ ?_
    · refine Moves.step (State.swapSenior_moves ..) (by decide) ?_
      refine Moves.step (State.freezeSend_moves ..) (by decide) ?_
      refine Moves.step (State.ledgerEnd_moves ..) (by decide) ?_
      with_reducible assumption
    · with_reducible assumption
  clear_value x1
  have h5 : Moves 1217786643325116401 s x2 := by
    unfold x2
    refine Moves.ite ?_ ?_
    · with_reducible assumption
    · refine Moves.step (State.boundaryWork_moves ..) (by decide) ?_
      with_reducible assumption
  clear_value x2
  refine Moves.step (State.boundaryClose_moves ..) (by decide) ?_
  with_reducible assumption

theorem execAudioTickBoundary_moves (a0 s) : Runs 1217786643325116401 s (execAudioTickBoundary a0 s) := by
  unfold execAudioTickBoundary
  refine Runs.ite ?_ ?_
  · extract_lets -merge -underBinder -useContext x0 x1
    clear_value x0
    have h2 : Moves 1217786643325116401 s x1 := by
      unfold x1
      refine Moves.step (State.tickFalls_moves ..) (by decide) ?_
      refine Moves.step (State.runTo_moves ..) (by decide) ?_
      exact Moves.refl
    clear_value x1
    refine Runs.next ?_
    refine Moves.step (State.boundaryClose_moves ..) (by decide) ?_
    refine Moves.step (State.ownBoundary_moves ..) (by decide) ?_
    with_reducible assumption
  · extract_lets -merge -underBinder -useContext x3 x4
    clear_value x3
    have h5 : Moves 1217786643325116401 s x4 := by
      unfold x4
      refine Moves.step (State.tickFalls_moves ..) (by decide) ?_
      refine Moves.step (State.runTo_moves ..) (by decide) ?_
      exact Moves.refl
    clear_value x4
    refine Runs.next ?_
    refine Moves.step (State.tickBoundary_moves ..) (by decide) ?_
    with_reducible assumption

theorem State.setVolt_moves (s a1 a2) : Moves 562949953421312 s (State.setVolt s a1 a2) := by
  unfold State.setVolt
  refine Moves.step (State.modPwr_moves ..) (by decide) ?_
  exact Moves.refl

theorem State.domWake_moves (s a1) : Moves 562949953421313 s (State.domWake s a1) := by
  unfold State.domWake
  extract_lets -merge -underBinder -useContext x0 x1 x2 x3
  clear_value x0
  clear_value x1
  have h4 : Moves 562949953421313 s x2 := by
    unfold x2
    refine Moves.step (State.setDom_moves ..) (by decide) ?_
    exact Moves.refl
  clear_value x2
  have h5 : Moves 562949953421313 s x3 := by
    unfold x3
    refine Moves.step (State.put_moves ..) (by decide) ?_
    refine Moves.step (State.put_moves ..) (by decide) ?_
    with_reducible assumption
  clear_value x3
  refine Moves.ite ?_ ?_
  · refine Moves.step (State.put_moves ..) (by decide) ?_
    refine Moves.step (State.put_moves ..) (by decide) ?_
    with_reducible assumption
  · with_reducible assumption

theorem State.setChan_moves (s a1 a2) : Moves 549755813888 s (State.setChan s a1 a2) := by
  unfold State.setChan
  refine Moves.step (Moves.set_ddr ..) (by decide) ?_
  exact Moves.refl

theorem State.srExit_moves (s a1) : Moves 549755830273 s (State.srExit s a1) := by
  unfold State.srExit
  refine Moves.ite ?_ ?_
  · extract_lets -merge -underBinder -useContext x0 x1 x2
    have h3 : Moves 549755830273 s x0 := by
      unfold x0
      refine Moves.step (State.put_moves ..) (by decide) ?_
      refine Moves.step (State.put_moves ..) (by decide) ?_
      refine Moves.step (State.put_moves ..) (by decide) ?_
      exact Moves.refl
    clear_value x0
    clear_value x1
    clear_value x2
    refine Moves.step (State.islandUp_moves ..) (by decide) ?_
    refine Moves.step (State.setChan_moves ..) (by decide) ?_
    with_reducible assumption
  · exact Moves.refl

theorem State.wakeNext_moves (s) : Moves 563499709251585 s (State.wakeNext s) := by
  unfold State.wakeNext
  refine Moves.ite ?_ ?_
  · exact Moves.refl
  · refine Moves.ite ?_ ?_
    · exact Moves.refl
    · refine Moves.ite ?_ ?_
      · refine Moves.step (State.domWake_moves ..) (by decide) ?_
        exact Moves.refl
      · extract_lets -merge -underBinder -useContext x0 x1
        clear_value x0
        have h2 : Moves 563499709251585 s x1 := by
          unfold x1
          refine Moves.ite ?_ ?_
          · refine Moves.forUpTo (fun y3 y4 => ?_) ?_
            · refine Moves.step (State.srExit_moves ..) (by decide) ?_
              exact Moves.refl
            · exact Moves.refl
          · exact Moves.refl
        clear_value x1
        refine Moves.ite ?_ ?_
        · with_reducible assumption
        · refine Moves.ite ?_ ?_
          · refine Moves.step (State.domWake_moves ..) (by decide) ?_
            with_reducible assumption
          · refine Moves.ite ?_ ?_
            · refine Moves.forEach (fun y5 y6 => ?_) ?_
              · refine Moves.ite ?_ ?_
                · refine Moves.step (State.domWake_moves ..) (by decide) ?_
                  exact Moves.refl
                · exact Moves.refl
              · with_reducible assumption
            · with_reducible assumption

theorem State.domService_moves (s a1 a2) : Moves 1 s (State.domService s a1 a2) := by
  unfold State.domService
  refine Moves.forEach (fun y0 y1 => ?_) ?_
  · refine Moves.step (State.put_moves ..) (by decide) ?_
    exact Moves.refl
  · exact Moves.refl

theorem State.deviceFatal_moves (s a1 a2 a3) : Moves 2305851805306978561 s (State.deviceFatal s a1 a2 a3) := by
  unfold State.deviceFatal
  refine Moves.ite ?_ ?_
  · exact Moves.refl
  · extract_lets -merge -underBinder -useContext x0 x1 x2
    have h3 : Moves 2305851805306978561 s x0 := by
      unfold x0
      refine Moves.step (Moves.set_fatalAt ..) (by decide) ?_
      exact Moves.refl
    clear_value x0
    have h4 : Moves 2305851805306978561 s x1 := by
      unfold x1
      refine Moves.step (State.put_moves ..) (by decide) ?_
      with_reducible assumption
    clear_value x1
    have h5 : Moves 2305851805306978561 s x2 := by
      unfold x2
      refine Moves.step (State.faultEntry_moves ..) (by decide) ?_
      refine Moves.step (State.put_moves ..) (by decide) ?_
      with_reducible assumption
    clear_value x2
    refine Moves.ite ?_ ?_
    · refine Moves.step (State.put_moves ..) (by decide) ?_
      with_reducible assumption
    · with_reducible assumption

theorem State.failedWake_moves (s a1) : Moves 2306414755260404481 s (State.failedWake s a1) := by
  unfold State.failedWake
  extract_lets -merge -underBinder -useContext x0 x1 x2 x3 x4 x5 x6
  clear_value x0
  clear_value x1
  have h7 : Moves 2306414755260404481 s x2 := by
    unfold x2
    refine Moves.step (State.setDom_moves ..) (by decide) ?_
    exact Moves.refl
  clear_value x2
  have h8 : Moves 2306414755260404481 s x3 := by
    unfold x3
    refine Moves.step (State.put_moves ..) (by decide) ?_
    with_reducible assumption
  clear_value x3
  have h9 : Moves 2306414755260404481 s x4 := by
    unfold x4
    refine Moves.ite ?_ ?_
    · refine Moves.step (State.setVolt_moves ..) (by decide) ?_
      refine Moves.step (State.put_moves ..) (by decide) ?_
      with_reducible assumption
    · with_reducible assumption
  clear_value x4
  have h10 : Moves 2306414755260404481 s x5 := by
    unfold x5
    refine Moves.step (State.domService_moves ..) (by decide) ?_
    with_reducible assumption
  clear_value x5
  have h11 : Moves 2306414755260404481 s x6 := by
    unfold x6
    refine Moves.step (State.event_moves ..) (by decide) ?_
    refine Moves.step (State.post_moves ..) (by decide) ?_
    with_reducible assumption
  clear_value x6
  refine Moves.ite ?_ ?_
  · refine Moves.step (State.put_moves ..) (by decide) ?_
    refine Moves.step (State.deviceFatal_moves ..) (by decide) ?_
    with_reducible assumption
  · refine Moves.step (State.blockFatal_moves ..) (by decide) ?_
    with_reducible assumption

theorem State.wakeFails_moves (s a1) : Moves 2306415305016234753 s (State.wakeFails s a1) := by
  unfold State.wakeFails
  extract_lets -merge -underBinder -useContext x0 x1 x2 x3 x4
  clear_value x0
  clear_value x1
  clear_value x2
  have h5 : Moves 2306415305016234753 s x3 := by
    unfold x3
    refine Moves.step (State.setDom_moves ..) (by decide) ?_
    exact Moves.refl
  clear_value x3
  have h6 : Moves 2306415305016234753 s x4 := by
    unfold x4
    refine Moves.step (State.put_moves ..) (by decide) ?_
    with_reducible assumption
  clear_value x4
  refine Moves.ite ?_ ?_
  · refine Moves.ite ?_ ?_
    · refine Moves.step (State.setVolt_moves ..) (by decide) ?_
      refine Moves.step (State.put_moves ..) (by decide) ?_
      with_reducible assumption
    · with_reducible assumption
  · refine Moves.step (State.wakeNext_moves ..) (by decide) ?_
    refine Moves.step (State.failedWake_moves ..) (by decide) ?_
    exact Moves.refl

theorem State.avsError_moves (s a1 a2) : Moves 4865 s (State.avsError s a1 a2) := by
  unfold State.avsError
  extract_lets -merge -underBinder -useContext x0
  have h1 : Moves 4865 s x0 := by
    unfold x0
    refine Moves.step (State.put_moves ..) (by decide) ?_
    refine Moves.step (State.bump_moves ..) (by decide) ?_
    exact Moves.refl
  clear_value x0
  refine Moves.step (State.contained_moves ..) (by decide) ?_
  refine Moves.step (State.event_moves ..) (by decide) ?_
  refine Moves.step (State.post_moves ..) (by decide) ?_
  with_reducible assumption

theorem State.opEnd_moves (s a1 a2) : Moves 562949953421313 s (State.opEnd s a1 a2) := by
  unfold State.opEnd
  extract_lets -merge -underBinder -useContext x0 x1 x2
  clear_value x0
  have h3 : Moves 562949953421313 s x1 := by
    unfold x1
    refine Moves.step (State.setDom_moves ..) (by decide) ?_
    exact Moves.refl
  clear_value x1
  have h4 : Moves 562949953421313 s x2 := by
    unfold x2
    refine Moves.step (State.put_moves ..) (by decide) ?_
    refine Moves.step (State.put_moves ..) (by decide) ?_
    refine Moves.step (State.put_moves ..) (by decide) ?_
    with_reducible assumption
  clear_value x2
  split
  · refine Moves.ite ?_ ?_
    · refine Moves.step (State.opChange_moves ..) (by decide) ?_
      with_reducible assumption
    · with_reducible assumption
  · with_reducible assumption

theorem execAvsSettleTimeout_moves (a0 s) : Runs 2306415305016234769 s (execAvsSettleTimeout a0 s) := by
  unfold execAvsSettleTimeout
  extract_lets -merge -underBinder -useContext x0 x1 x2 x3 x4
  clear_value x0
  have h5 : Moves 2306415305016234769 s x1 := by
    unfold x1
    refine Moves.step (State.runTo_moves ..) (by decide) ?_
    exact Moves.refl
  clear_value x1
  clear_value x2
  have h6 : Moves 2306415305016234769 s x3 := by
    unfold x3
    refine Moves.step (State.avsError_moves ..) (by decide) ?_
    with_reducible assumption
  clear_value x3
  have h7 : Moves 2306415305016234769 s x4 := by
    unfold x4
    refine Moves.step (State.put_moves ..) (by decide) ?_
    with_reducible assumption
  clear_value x4
  refine Runs.ite ?_ ?_
  · refine Runs.next ?_
    exact Moves.refl
  · refine Runs.ite ?_ ?_
    · refine Runs.next ?_
      refine Moves.step (State.wakeFails_moves ..) (by decide) ?_
      with_reducible assumption
    · refine Runs.ite ?_ ?_
      · refine Runs.next ?_
        refine Moves.step (State.setDom_moves ..) (by decide) ?_
        with_reducible assumption
      · refine Runs.ite ?_ ?_
        · refine Runs.next ?_
          refine Moves.step (State.opEnd_moves ..) (by decide) ?_
          refine Moves.step (State.put_moves ..) (by decide) ?_
          refine Moves.step (State.setVolt_moves ..) (by decide) ?_
          with_reducible assumption
        · refine Runs.next ?_
          refine Moves.step (State.opEnd_moves ..) (by decide) ?_
          refine Moves.step (State.put_moves ..) (by decide) ?_
          refine Moves.step (State.setVolt_moves ..) (by decide) ?_
          with_reducible assumption

theorem execAvsStatusPoll_moves (a0 a1 s) : Runs 562949953421329 s (execAvsStatusPoll a0 a1 s) := by
  unfold execAvsStatusPoll
  extract_lets -merge -underBinder -useContext x0 x1
  clear_value x0
  have h2 : Moves 562949953421329 s x1 := by
    unfold x1
    refine Moves.step (State.runTo_moves ..) (by decide) ?_
    exact Moves.refl
  clear_value x1
  refine Runs.ite ?_ ?_
  · refine Runs.next ?_
    exact Moves.refl
  · refine Runs.ite ?_ ?_
    · refine Runs.next ?_
      with_reducible assumption
    · refine Runs.ite ?_ ?_
      · refine Runs.next ?_
        refine Moves.step (State.setDom_moves ..) (by decide) ?_
        with_reducible assumption
      · refine Runs.next ?_
        refine Moves.step (State.opEnd_moves ..) (by decide) ?_
        with_reducible assumption

theorem execAvsVoltageWrite_moves (a0 s) : Runs 562949953421312 s (execAvsVoltageWrite a0 s) := by
  unfold execAvsVoltageWrite
  extract_lets -merge -underBinder -useContext x0
  clear_value x0
  refine Runs.ite ?_ ?_
  · refine Runs.next ?_
    exact Moves.refl
  · split
    · refine Runs.next ?_
      refine Moves.step (State.setDom_moves ..) (by decide) ?_
      refine Moves.step (State.setVolt_moves ..) (by decide) ?_
      exact Moves.refl
    · refine Runs.next ?_
      refine Moves.step (State.setDom_moves ..) (by decide) ?_
      refine Moves.step (State.setVolt_moves ..) (by decide) ?_
      exact Moves.refl
    · refine Runs.next ?_
      exact Moves.refl
    · refine Runs.next ?_
      exact Moves.refl
    · refine Runs.next ?_
      exact Moves.refl
    · refine Runs.next ?_
      exact Moves.refl

theorem execAwrg_moves (a0 a1 a2 s) : Runs 225179981502747521 s (execAwrg a0 a1 a2 s) := by
  unfold execAwrg
  refine Runs.next ?_
  refine Moves.step (State.issueOn_moves ..) (by decide) ?_
  exact Moves.refl

theorem execAwrh_moves (a0 a1 a2 s) : Runs 225179981502747521 s (execAwrh a0 a1 a2 s) := by
  unfold execAwrh
  refine Runs.next ?_
  refine Moves.step (State.issueOn_moves ..) (by decide) ?_
  exact Moves.refl

theorem execAwrl_moves (a0 a1 a2 s) : Runs 225179981502747521 s (execAwrl a0 a1 a2 s) := by
  unfold execAwrl
  refine Runs.next ?_
  refine Moves.step (State.issueOn_moves ..) (by decide) ?_
  exact Moves.refl

theorem execBankqWrite_moves (a0 a1 a2 s) : Runs 2049 s (execBankqWrite a0 a1 a2 s) := by
  unfold execBankqWrite
  refine Runs.ite ?_ ?_
  · refine Runs.next ?_
    refine Moves.step (State.bankWrite_moves ..) (by decide) ?_
    exact Moves.refl
  · refine Runs.next ?_
    exact Moves.refl

theorem State.bar2Err_moves (s a1) : Moves 257 s (State.bar2Err s a1) := by
  unfold State.bar2Err
  refine Moves.step (State.event_moves ..) (by decide) ?_
  refine Moves.step (State.bumpSat_moves ..) (by decide) ?_
  exact Moves.refl

theorem State.dramLog_moves (s a1 a2 a3 a4 a5 a6 a7 a8 a9) : Moves 549755818753 s (State.dramLog s a1 a2 a3 a4 a5 a6 a7 a8 a9) := by
  unfold State.dramLog
  extract_lets -merge -underBinder -useContext x0 x1 x2 x3 x4
  clear_value x0
  clear_value x1
  clear_value x2
  clear_value x3
  have h5 : Moves 549755818753 s x4 := by
    unfold x4
    refine Moves.step (State.setChan_moves ..) (by decide) ?_
    exact Moves.refl
  clear_value x4
  refine Moves.ite ?_ ?_
  · with_reducible assumption
  · refine Moves.step (State.event_moves ..) (by decide) ?_
    refine Moves.step (State.post_moves ..) (by decide) ?_
    with_reducible assumption

theorem State.dramNoChannel_moves (s a1 a2 a3) : Moves 4947802329857 s (State.dramNoChannel s a1 a2 a3) := by
  unfold State.dramNoChannel
  extract_lets -merge -underBinder -useContext x0 x1
  clear_value x0
  have h2 : Moves 4947802329857 s x1 := by
    unfold x1
    refine Moves.step (State.dramLog_moves ..) (by decide) ?_
    refine Moves.step (State.bumpSat_moves ..) (by decide) ?_
    exact Moves.refl
  clear_value x1
  refine Moves.step (Moves.set_dramRead ..) (by decide) ?_
  with_reducible assumption

theorem State.weirNext_moves (s) : Moves 1099511627777 s (State.weirNext s) := by
  unfold State.weirNext
  extract_lets -merge -underBinder -useContext x0 x1 x2
  have h3 : Moves 1099511627777 s x0 := by
    unfold x0
    refine Moves.forUpTo (fun y4 y5 => ?_) ?_
    · extract_lets -merge -underBinder -useContext x6 x7
      clear_value x6
      have h8 : Moves 1099511627777 y5 x7 := by
        unfold x7
        refine Moves.step (State.put_moves ..) (by decide) ?_
        exact Moves.refl
      clear_value x7
      refine Moves.ite ?_ ?_
      · refine Moves.step (State.bump_moves ..) (by decide) ?_
        with_reducible assumption
      · with_reducible assumption
    · exact Moves.refl
  clear_value x0
  clear_value x1
  clear_value x2
  refine Moves.step (Moves.set_weir ..) (by decide) ?_
  with_reducible assumption

theorem State.weirTake_moves (s a1 a2) : Moves 1099511627793 s (State.weirTake s a1 a2) := by
  unfold State.weirTake
  refine Moves.ite ?_ ?_
  · exact Moves.refl
  · extract_lets -merge -underBinder -useContext x0 x1 x2
    clear_value x0
    have h3 : Moves 1099511627793 s x1 := by
      unfold x1
      refine Moves.ite ?_ ?_
      · refine Moves.step (State.weirNext_moves ..) (by decide) ?_
        refine Moves.step (State.runTo_moves ..) (by decide) ?_
        exact Moves.refl
      · exact Moves.refl
    clear_value x1
    clear_value x2
    refine Moves.step (Moves.set_weir ..) (by decide) ?_
    with_reducible assumption

theorem State.memUp_moves (s) : Moves 562949953421313 s (State.memUp s) := by
  unfold State.memUp
  refine Moves.ite ?_ ?_
  · exact Moves.refl
  · extract_lets -merge -underBinder -useContext x0 x1
    clear_value x0
    have h2 : Moves 562949953421313 s x1 := by
      unfold x1
      refine Moves.step (State.domWakeTime_moves ..) (by decide) ?_
      refine Moves.step (State.put_moves ..) (by decide) ?_
      refine Moves.step (State.setDom_moves ..) (by decide) ?_
      exact Moves.refl
    clear_value x1
    refine Moves.forEach (fun y3 y4 => ?_) ?_
    · refine Moves.step (State.put_moves ..) (by decide) ?_
      exact Moves.refl
    · with_reducible assumption

theorem State.excursion_moves (s) : Moves 563499709251585 s (State.excursion s) := by
  unfold State.excursion
  extract_lets -merge -underBinder -useContext x0 x1 x2 x3 x4
  clear_value x0
  have h5 : Moves 563499709251585 s x1 := by
    unfold x1
    refine Moves.ite ?_ ?_
    · exact Moves.refl
    · refine Moves.step (State.bump_moves ..) (by decide) ?_
      exact Moves.refl
  clear_value x1
  clear_value x2
  have h6 : Moves 563499709251585 s x3 := by
    unfold x3
    refine Moves.step (Moves.set_pwr ..) (by decide) ?_
    with_reducible assumption
  clear_value x3
  have h7 : Moves 563499709251585 s x4 := by
    unfold x4
    refine Moves.ite ?_ ?_
    · refine Moves.step (State.memUp_moves ..) (by decide) ?_
      with_reducible assumption
    · with_reducible assumption
  clear_value x4
  refine Moves.ite ?_ ?_
  · refine Moves.forUpTo (fun y8 y9 => ?_) ?_
    · refine Moves.step (State.srExit_moves ..) (by decide) ?_
      exact Moves.refl
    · with_reducible assumption
  · exact Moves.refl

theorem State.dramAccess_moves (s a1 a2) : Moves 564599220879377 s (State.dramAccess s a1 a2) := by
  unfold State.dramAccess
  refine Moves.step (State.srExit_moves ..) (by decide) ?_
  refine Moves.step (State.weirTake_moves ..) (by decide) ?_
  refine Moves.step (State.excursion_moves ..) (by decide) ?_
  exact Moves.refl

theorem State.corrected_moves (s a1) : Moves 1 s (State.corrected s a1) := by
  unfold State.corrected
  refine Moves.step (State.bump_moves ..) (by decide) ?_
  exact Moves.refl

theorem State.countDevice_moves {m : Nat} (s n addr rank sub dev log) (hf : ∀ k x, Moves m x (log k x)) :
    Moves (m ||| 549755818753) s (State.countDevice s n addr rank sub dev log) := by
  have up : ∀ {c : Nat} {x y : State}, Moves c x y → c ||| 549755818753 = 549755818753 → Moves (m ||| 549755818753) x y := fun h hc =>
    h.step (by rw [Nat.or_comm m, ← Nat.or_assoc, hc]) Moves.refl
  have tr : ∀ {x y z : State}, Moves (m ||| 549755818753) y z → Moves (m ||| 549755818753) x y → Moves (m ||| 549755818753) x z := fun h g => h.step (Nat.or_self _) g
  have fl : ∀ k x, Moves (m ||| 549755818753) x (log k x) := fun k x => (hf k x).step (mask_left _ _) Moves.refl
  unfold State.countDevice
  extract_lets +onlyGivenNames x pos line l s1
  have h1 : Moves (m ||| 549755818753) s s1 := up (State.setChan_moves ..) (by decide)
  clear_value s1
  split
  · exact h1
  · extract_lets +onlyGivenNames e a
    split
    · extract_lets +onlyGivenNames k s2
      have h2 : Moves (m ||| 549755818753) s s2 := tr (up (State.put_moves ..) (by decide)) (tr (up (State.put_moves ..) (by decide)) h1)
      clear_value s2
      exact tr (up (State.event_moves ..) (by decide)) (tr (up (State.post_moves ..) (by decide)) (tr (fl 4 s2) h2))
    · split
      · exact h1
      · extract_lets -merge -underBinder -useContext z s2
        have h2 : Moves (m ||| 549755818753) s s2 := tr (up (State.setChan_moves ..) (by decide)) h1
        clear_value s2
        exact tr (up (State.post_moves ..) (by decide)) (tr (fl 5 s2) h2)

theorem State.decodeLine_moves2 (s a1 a2 a3 a4 a5) : Moves 549755818753 s (State.decodeLine s a1 a2 a3 a4 a5).2 := by
  unfold State.decodeLine
  extract_lets -merge -underBinder -useContext x0 x1 x2 x3 x4 x5 x6 x7 x8 x9 x10 x11 x12 x13 x14 x15
  clear_value x0
  clear_value x1
  clear_value x2
  clear_value x3
  clear_value x4
  clear_value x5
  clear_value x6
  clear_value x7
  clear_value x8
  clear_value x9
  clear_value x10
  have h16 : Moves 549755818753 s x11 := by
    unfold x11
    refine Moves.ite ?_ ?_
    · exact Moves.refl
    · refine Moves.step (State.corrected_moves ..) (by decide) ?_
      refine Moves.step (State.bump_moves ..) (by decide) ?_
      exact Moves.refl
  clear_value x11
  clear_value x12
  have h17 : Moves 549755818753 s x13 := by
    unfold x13
    refine Moves.ite ?_ ?_
    · refine Moves.step (State.dramLog_moves ..) (by decide) ?_
      refine Moves.step (State.bumpSat_moves ..) (by decide) ?_
      with_reducible assumption
    · with_reducible assumption
  clear_value x13
  clear_value x14
  have h18 : Moves 549755818753 s x15 := by
    unfold x15
    refine Moves.forEach (fun y19 y20 => ?_) ?_
    · refine Moves.step (State.countDevice_moves (m := 549755818753) (hf := fun y21 y22 => ?_) ..) (by decide) ?_
      · refine Moves.step (State.dramLog_moves ..) (by decide) ?_
        exact Moves.refl
      · exact Moves.refl
    · with_reducible assumption
  clear_value x15
  split
  · try dsimp only
    refine Moves.step (State.dramLog_moves ..) (by decide) ?_
    refine Moves.step (State.bumpSat_moves ..) (by decide) ?_
    exact Moves.refl
  · try dsimp only
    with_reducible assumption

theorem State.bar2ReadLine_moves22 (s a1 a2) : Moves 568997267395345 s (State.bar2ReadLine s a1 a2).2.2 := by
  unfold State.bar2ReadLine
  extract_lets -merge -underBinder -useContext x0 x1
  clear_value x0
  have h2 : Moves 568997267395345 s x1 := by
    unfold x1
    refine Moves.step (State.dramAccess_moves ..) (by decide) ?_
    exact Moves.refl
  clear_value x1
  split
  · exact Moves.refl
  · split
    · try dsimp only
      refine Moves.step (State.bar2Err_moves ..) (by decide) ?_
      refine Moves.step (State.dramNoChannel_moves ..) (by decide) ?_
      exact Moves.refl
    · split
      · rename_i s3 q3
        have h3 := Moves.at2 (m := 568997267395345) (s := s) q3 (by
          refine Moves.step (State.decodeLine_moves2 ..) (by decide) ?_
          with_reducible assumption)
        split
        · try dsimp only
          with_reducible assumption
        · try dsimp only
          refine Moves.step (State.bar2Err_moves ..) (by decide) ?_
          refine Moves.step (State.contained_moves ..) (by decide) ?_
          with_reducible assumption

theorem State.bar2Lines_moves22 (s a1) : Moves 568997267395345 s (State.bar2Lines s a1).2.2 := by
  unfold State.bar2Lines
  refine Moves.foldl22 (fun y0 y1 => ?_) ?_
  · extract_lets -merge -underBinder -useContext x2
    have h3 : Moves 568997267395345 y0.snd.snd x2.2.2 := by
      unfold x2
      refine Moves.step (State.bar2ReadLine_moves22 ..) (by decide) ?_
      exact Moves.refl
    clear_value x2
    try dsimp only
    with_reducible assumption
  · exact Moves.refl

theorem execBar2Read_moves (a0 a1 s) : Runs 850472244106001 s (execBar2Read a0 a1 s) :=
  ⟨_, rfl, (Moves.set_bar2 ..).step (by decide) ((State.bar2Lines_moves22 ..).step (by decide) Moves.refl)⟩

theorem State.setPoison_moves (s a1 a2) : Moves 2199023255552 s (State.setPoison s a1 a2) := by
  unfold State.setPoison
  extract_lets -merge -underBinder -useContext x0
  clear_value x0
  refine Moves.step (Moves.set_poisoned ..) (by decide) ?_
  exact Moves.refl

theorem State.dramStore_moves (s a1 a2 a3 a4 a5) : Moves 2748779107073 s (State.dramStore s a1 a2 a3 a4 a5) := by
  unfold State.dramStore
  extract_lets -merge -underBinder -useContext x0 x1 x2
  clear_value x0
  clear_value x1
  clear_value x2
  refine Moves.ite ?_ ?_
  · refine Moves.step (State.dramPut_moves ..) (by decide) ?_
    exact Moves.refl
  · split
    · rename_i s3 q3
      have h3 := Moves.at2 (m := 2748779107073) (s := s) q3 (by
        split
        · exact Moves.refl
        · refine Moves.step (State.decodeLine_moves2 ..) (by decide) ?_
          exact Moves.refl)
      refine Moves.ite ?_ ?_
      · refine Moves.step (State.dramPut_moves ..) (by decide) ?_
        with_reducible assumption
      · refine Moves.ite ?_ ?_
        · extract_lets -merge -underBinder -useContext x4
          clear_value x4
          refine Moves.step (State.dramLog_moves ..) (by decide) ?_
          refine Moves.step (State.bumpSat_moves ..) (by decide) ?_
          with_reducible assumption
        · refine Moves.step (State.setPoison_moves ..) (by decide) ?_
          with_reducible assumption

theorem State.bar2WriteLine_moves (s a1 a2) : Moves 571196290683665 s (State.bar2WriteLine s a1 a2) := by
  unfold State.bar2WriteLine
  refine Moves.ite ?_ ?_
  · exact Moves.refl
  · refine Moves.ite ?_ ?_
    · refine Moves.step (State.bar2Err_moves ..) (by decide) ?_
      refine Moves.step (State.dramNoChannel_moves ..) (by decide) ?_
      exact Moves.refl
    · refine Moves.ite ?_ ?_
      · refine Moves.step (State.bar2Err_moves ..) (by decide) ?_
        exact Moves.refl
      · refine Moves.step (State.dramStore_moves ..) (by decide) ?_
        refine Moves.step (State.dramAccess_moves ..) (by decide) ?_
        exact Moves.refl

theorem execBar2Write_moves (a0 a1 s) : Runs 571196290683665 s (execBar2Write a0 a1 s) := by
  unfold execBar2Write
  extract_lets -merge -underBinder -useContext x0
  clear_value x0
  refine Runs.next ?_
  refine Moves.forEach (fun y1 y2 => ?_) ?_
  · refine Moves.step (State.bar2WriteLine_moves ..) (by decide) ?_
    exact Moves.refl
  · exact Moves.refl

theorem State.setCapture_moves (s a1 a2 a3) : Moves 2 s (State.setCapture s a1 a2 a3) := by
  unfold State.setCapture
  refine Moves.step (Moves.set_capture ..) (by decide) ?_
  exact Moves.refl

theorem execBelfryCaptureRead_moves (a0 s) : Runs 10 s (execBelfryCaptureRead a0 s) := by
  unfold execBelfryCaptureRead
  refine Runs.ite ?_ ?_
  · refine Runs.next ?_
    refine Moves.step (Moves.set_readData ..) (by decide) ?_
    exact Moves.refl
  · extract_lets -merge -underBinder -useContext x0 x1 x2
    have h3 : Moves 10 s x0 := by
      unfold x0
      refine Moves.step (State.setCapture_moves ..) (by decide) ?_
      exact Moves.refl
    clear_value x0
    have h4 : Moves 10 s x1 := by
      unfold x1
      refine Moves.step (State.setCapture_moves ..) (by decide) ?_
      with_reducible assumption
    clear_value x1
    have h5 : Moves 10 s x2 := by
      unfold x2
      refine Moves.step (State.setCapture_moves ..) (by decide) ?_
      with_reducible assumption
    clear_value x2
    refine Runs.next ?_
    refine Moves.step (Moves.set_readData ..) (by decide) ?_
    with_reducible assumption

theorem State.servoGo_moves (s a1 a2) : Moves 289 s (State.servoGo s a1 a2) := by
  unfold State.servoGo
  extract_lets -merge -underBinder -useContext x0 x1 x2 x3 x4
  clear_value x0
  have h5 : Moves 289 s x1 := by
    unfold x1
    refine Moves.step (State.put_moves ..) (by decide) ?_
    exact Moves.refl
  clear_value x1
  have h6 : Moves 289 s x2 := by
    unfold x2
    refine Moves.step (State.put_moves ..) (by decide) ?_
    with_reducible assumption
  clear_value x2
  clear_value x3
  have h7 : Moves 289 s x4 := by
    unfold x4
    refine Moves.step (Moves.set_bel ..) (by decide) ?_
    with_reducible assumption
  clear_value x4
  refine Moves.ite ?_ ?_
  · refine Moves.step (State.event_moves ..) (by decide) ?_
    with_reducible assumption
  · with_reducible assumption

theorem State.servoAcquire_moves {m : Nat} (s f) (hf : ∀ x, Moves m x (f x)) : Moves (m ||| 289) s (State.servoAcquire s f) := by
  unfold State.servoAcquire
  refine Moves.ite (Moves.step (State.servoGo_moves ..) (mask_right _ _) Moves.refl) (Moves.ite (Moves.step (State.servoGo_moves ..) (mask_right _ _) Moves.refl) ?_)
  exact (hf s).step (mask_left _ _) Moves.refl

theorem State.belfrySrcWriteOp_moves (s a1) : Moves 289 s (State.belfrySrcWriteOp s a1) := by
  unfold State.belfrySrcWriteOp
  refine Moves.step (State.checked_moves (m := 289) (hf := fun y0 => ?_) ..) (by decide) ?_
  · extract_lets -merge -underBinder -useContext x1
    have h2 : Moves 289 y0 x1 := by
      unfold x1
      refine Moves.step (State.applyWrite_moves ..) (by decide) ?_
      exact Moves.refl
    clear_value x1
    refine Moves.ite ?_ ?_
    · refine Moves.step (State.servoAcquire_moves (m := 289) (hf := fun y3 => ?_) ..) (by decide) ?_
      · refine Moves.step (State.servoGo_moves ..) (by decide) ?_
        exact Moves.refl
      · with_reducible assumption
    · with_reducible assumption
  · exact Moves.refl

theorem execBelfrySrcWrite_moves (a0 s) : Runs 289 s (execBelfrySrcWrite a0 s) := by
  unfold execBelfrySrcWrite
  refine Runs.next ?_
  refine Moves.step (State.belfrySrcWriteOp_moves ..) (by decide) ?_
  exact Moves.refl

theorem State.benchSelWrite_moves (s a1 a2) : Moves 72057594037928193 s (State.benchSelWrite s a1 a2) := by
  unfold State.benchSelWrite
  refine Moves.step (State.checked_moves (m := 72057594037928193) (hf := fun y0 => ?_) ..) (by decide) ?_
  · extract_lets -merge -underBinder -useContext x1
    have h2 : Moves 72057594037928193 y0 x1 := by
      unfold x1
      refine Moves.ite ?_ ?_
      · refine Moves.step (State.benchStop_moves ..) (by decide) ?_
        exact Moves.refl
      · exact Moves.refl
    clear_value x1
    refine Moves.step (State.applyWrite_moves ..) (by decide) ?_
    with_reducible assumption
  · exact Moves.refl

theorem execBenchEnable_moves (a0 a1 a2 s) : Runs 72057594037928193 s (execBenchEnable a0 a1 a2 s) := by
  unfold execBenchEnable
  refine Runs.ite ?_ ?_
  · refine Runs.next ?_
    refine Moves.step (State.benchSelWrite_moves ..) (by decide) ?_
    exact Moves.refl
  · refine Runs.next ?_
    exact Moves.refl

theorem State.benchCmdWrite_moves (s a1 a2) : Moves 72057594037928193 s (State.benchCmdWrite s a1 a2) := by
  unfold State.benchCmdWrite
  extract_lets -merge -underBinder -useContext x0
  clear_value x0
  refine Moves.step (State.checked_moves (m := 72057594037928193) (hf := fun y1 => ?_) ..) (by decide) ?_
  · extract_lets -merge -underBinder -useContext x2 x3 x4 x5 x6
    clear_value x2
    clear_value x3
    clear_value x4
    clear_value x5
    have h7 : Moves 72057594037928193 y1 x6 := by
      unfold x6
      refine Moves.step (State.setCore_moves ..) (by decide) ?_
      exact Moves.refl
    clear_value x6
    refine Moves.ite ?_ ?_
    · refine Moves.step (State.put_moves ..) (by decide) ?_
      refine Moves.step (State.put_moves ..) (by decide) ?_
      with_reducible assumption
    · refine Moves.ite ?_ ?_
      · refine Moves.ite ?_ ?_
        · refine Moves.step (State.benchStop_moves ..) (by decide) ?_
          exact Moves.refl
        · exact Moves.refl
      · refine Moves.step (State.setCore_moves ..) (by decide) ?_
        exact Moves.refl
  · exact Moves.refl

theorem execBenchHalt_moves (a0 s) : Runs 72057594037928193 s (execBenchHalt a0 s) := by
  unfold execBenchHalt
  refine Runs.ite ?_ ?_
  · refine Runs.next ?_
    refine Moves.step (State.benchCmdWrite_moves ..) (by decide) ?_
    exact Moves.refl
  · refine Runs.next ?_
    exact Moves.refl

theorem execBenchMbx_moves (a0 s) : Runs 72057594037928193 s (execBenchMbx a0 s) := by
  unfold execBenchMbx
  refine Runs.ite ?_ ?_
  · refine Runs.next ?_
    refine Moves.step (State.benchCmdWrite_moves ..) (by decide) ?_
    exact Moves.refl
  · refine Runs.next ?_
    exact Moves.refl

theorem execBenchStart_moves (a0 s) : Runs 72057594037928193 s (execBenchStart a0 s) := by
  unfold execBenchStart
  refine Runs.ite ?_ ?_
  · refine Runs.next ?_
    refine Moves.step (State.benchCmdWrite_moves ..) (by decide) ?_
    exact Moves.refl
  · refine Runs.next ?_
    exact Moves.refl

theorem execBgez_moves (a0 a1 a2 s) : Runs 225179981502747521 s (execBgez a0 a1 a2 s) := by
  unfold execBgez
  refine Runs.next ?_
  refine Moves.step (State.issueOn_moves ..) (by decide) ?_
  exact Moves.refl

theorem State.linkFrame_moves (s a1 a2 a3 a4) : Moves 412316862465 s (State.linkFrame s a1 a2 a3 a4) := by
  unfold State.linkFrame
  extract_lets -merge -underBinder -useContext x0 x1
  clear_value x0
  have h2 : ∀ y3 y4, Moves 412316862465 y3 (x1 y3 y4) := by
    intro y3 y4
    unfold x1
    refine Moves.ite ?_ ?_
    · exact Moves.refl
    · extract_lets -merge -underBinder -useContext x5 x6
      have h7 : Moves 412316862465 y3 x5 := by
        unfold x5
        refine Moves.step (State.bankWrite_moves ..) (by decide) ?_
        exact Moves.refl
      clear_value x5
      clear_value x6
      refine Moves.step (Moves.set_fab ..) (by decide) ?_
      with_reducible assumption
  clear_value x1
  refine Moves.ite ?_ ?_
  · refine Moves.step (h2 ..) (by decide) ?_
    exact Moves.refl
  · refine Moves.ite ?_ ?_
    · refine Moves.step (State.sendMsg_moves ..) (by decide) ?_
      exact Moves.refl
    · refine Moves.ite ?_ ?_
      · refine Moves.step (State.sendMsg_moves ..) (by decide) ?_
        exact Moves.refl
      · refine Moves.step (h2 ..) (by decide) ?_
        exact Moves.refl

theorem State.resyncFails_moves (s) : Moves 68727870337 s (State.resyncFails s) := by
  unfold State.resyncFails
  extract_lets -merge -underBinder -useContext x0 x1
  have h2 : Moves 68727870337 s x0 := by
    unfold x0
    refine Moves.step (State.enterTwin_moves ..) (by decide) ?_
    exact Moves.refl
  clear_value x0
  clear_value x1
  refine Moves.step (Moves.set_twin ..) (by decide) ?_
  with_reducible assumption

theorem State.linkLedger_moves (s a1 a2) : Moves 68727872385 s (State.linkLedger s a1 a2) := by
  unfold State.linkLedger
  extract_lets -merge -underBinder -useContext x0 x1 x2 x3 x4 x5 x6 x7 x8
  clear_value x0
  clear_value x1
  have h9 : Moves 68727872385 s x2 := by
    unfold x2
    refine Moves.ite ?_ ?_
    · refine Moves.step (State.bankWrite_moves ..) (by decide) ?_
      exact Moves.refl
    · exact Moves.refl
  clear_value x2
  clear_value x3
  have h10 : Moves 68727872385 s x4 := by
    unfold x4
    refine Moves.step (Moves.set_twin ..) (by decide) ?_
    with_reducible assumption
  clear_value x4
  clear_value x5
  clear_value x6
  have h11 : Moves 68727872385 s x7 := by
    unfold x7
    refine Moves.ite ?_ ?_
    · refine Moves.step (State.put_moves ..) (by decide) ?_
      with_reducible assumption
    · with_reducible assumption
  clear_value x7
  clear_value x8
  refine Moves.ite ?_ ?_
  · exact Moves.refl
  · refine Moves.ite ?_ ?_
    · refine Moves.step (State.resyncFails_moves ..) (by decide) ?_
      with_reducible assumption
    · with_reducible assumption

theorem State.linkDiverged_moves (s a1) : Moves 206158432257 s (State.linkDiverged s a1) := by
  unfold State.linkDiverged
  refine Moves.ite ?_ ?_
  · exact Moves.refl
  · extract_lets -merge -underBinder -useContext x0 x1 x2
    clear_value x0
    have h3 : Moves 206158432257 s x1 := by
      unfold x1
      refine Moves.forUpTo (fun y4 y5 => ?_) ?_
      · refine Moves.step (State.record_moves ..) (by decide) ?_
        exact Moves.refl
      · exact Moves.refl
    clear_value x1
    clear_value x2
    refine Moves.step (Moves.set_twin ..) (by decide) ?_
    with_reducible assumption

theorem State.videoAdmit_moves (s a1 a2 a3 a4 a5) : Moves 536870912 s (State.videoAdmit s a1 a2 a3 a4 a5) := by
  unfold State.videoAdmit
  extract_lets -merge -underBinder -useContext x0
  clear_value x0
  split
  · extract_lets -merge -underBinder -useContext x1 x2 x3 x4 x5 x6 x7 x8 x9 x10 x11
    clear_value x1
    clear_value x2
    clear_value x3
    clear_value x4
    clear_value x5
    clear_value x6
    clear_value x7
    clear_value x8
    clear_value x9
    clear_value x10
    clear_value x11
    refine Moves.ite ?_ ?_
    · refine Moves.step (State.setVstr_moves ..) (by decide) ?_
      exact Moves.refl
    · refine Moves.step (State.setVstr_moves ..) (by decide) ?_
      exact Moves.refl

theorem State.linkVideo_moves (s a1 a2) : Moves 536870913 s (State.linkVideo s a1 a2) := by
  unfold State.linkVideo
  split
  · refine Moves.ite ?_ ?_
    · refine Moves.step (State.bumpSat_moves ..) (by decide) ?_
      exact Moves.refl
    · refine Moves.step (State.videoAdmit_moves ..) (by decide) ?_
      refine Moves.step (State.setVstr_moves ..) (by decide) ?_
      exact Moves.refl
  · exact Moves.refl

theorem State.linkPicture_moves (s a1 a2) : Moves 17314091777 s (State.linkPicture s a1 a2) := by
  unfold State.linkPicture
  split
  · exact Moves.refl
  · extract_lets -merge -underBinder -useContext x0 x1 x2 x3 x4 x5
    clear_value x0
    clear_value x1
    clear_value x2
    have h6 : Moves 17314091777 s x3 := by
      unfold x3
      refine Moves.ite ?_ ?_
      · refine Moves.step (State.decodeLate_moves ..) (by decide) ?_
        refine Moves.step (State.bumpSat_moves ..) (by decide) ?_
        exact Moves.refl
      · exact Moves.refl
    clear_value x3
    clear_value x4
    clear_value x5
    refine Moves.ite ?_ ?_
    · refine Moves.step (State.bumpSat_moves ..) (by decide) ?_
      exact Moves.refl
    · refine Moves.step (State.setDec_moves ..) (by decide) ?_
      with_reducible assumption

theorem State.crierUp_moves (s a1) : Moves 2251937252638721 s (State.crierUp s a1) := by
  unfold State.crierUp
  split
  · refine Moves.step (State.sendMsg_moves ..) (by decide) ?_
    exact Moves.refl
  · extract_lets -merge -underBinder -useContext x0 x1 x2
    clear_value x0
    clear_value x1
    clear_value x2
    refine Moves.ite ?_ ?_
    · exact Moves.refl
    · refine Moves.ite ?_ ?_
      · refine Moves.step (State.bumpSat_moves ..) (by decide) ?_
        exact Moves.refl
      · refine Moves.step (Moves.set_crier ..) (by decide) ?_
        exact Moves.refl

theorem State.linkDeliver_moves (s a1 a2) : Moves 2252298709375873 s (State.linkDeliver s a1 a2) := by
  unfold State.linkDeliver
  split
  · refine Moves.step (State.linkFrame_moves ..) (by decide) ?_
    exact Moves.refl
  · refine Moves.ite ?_ ?_
    · refine Moves.step (State.linkLedger_moves ..) (by decide) ?_
      exact Moves.refl
    · exact Moves.refl
  · refine Moves.ite ?_ ?_
    · refine Moves.step (State.linkDiverged_moves ..) (by decide) ?_
      exact Moves.refl
    · exact Moves.refl
  · refine Moves.ite ?_ ?_
    · refine Moves.step (Moves.set_twin ..) (by decide) ?_
      exact Moves.refl
    · exact Moves.refl
  · refine Moves.step (State.linkVideo_moves ..) (by decide) ?_
    exact Moves.refl
  · refine Moves.step (State.linkPicture_moves ..) (by decide) ?_
    exact Moves.refl
  · refine Moves.ite ?_ ?_
    · refine Moves.step (State.put_moves ..) (by decide) ?_
      exact Moves.refl
    · exact Moves.refl
  · refine Moves.step (State.crierUp_moves ..) (by decide) ?_
    exact Moves.refl
  · exact Moves.refl
  · exact Moves.refl
  · exact Moves.refl
  · exact Moves.refl
  · exact Moves.refl

theorem execBinathFlitRx_moves (a0 a1 s) : Runs 2252298709375873 s (execBinathFlitRx a0 a1 s) := by
  unfold execBinathFlitRx
  refine Runs.ite ?_ ?_
  · refine Runs.next ?_
    exact Moves.refl
  · extract_lets -merge -underBinder -useContext x0 x1 x2 x3 x4 x5 x6 x7 x8 x9 x10 x11
    have h12 : Moves 2252298709375873 s x0 := by
      unfold x0
      refine Moves.step (State.bump_moves ..) (by decide) ?_
      exact Moves.refl
    clear_value x0
    have h13 : Moves 2252298709375873 s x1 := by
      unfold x1
      refine Moves.step (State.modLink_moves ..) (by decide) ?_
      with_reducible assumption
    clear_value x1
    clear_value x2
    clear_value x3
    clear_value x4
    clear_value x5
    clear_value x6
    clear_value x7
    clear_value x8
    clear_value x9
    clear_value x10
    have h14 : Moves 2252298709375873 s x11 := by
      unfold x11
      refine Moves.step (State.setLink_moves ..) (by decide) ?_
      with_reducible assumption
    clear_value x11
    refine Runs.ite ?_ ?_
    · refine Runs.next ?_
      refine Moves.step (State.setLink_moves ..) (by decide) ?_
      refine Moves.step (State.bumpSat_moves ..) (by decide) ?_
      with_reducible assumption
    · refine Runs.ite ?_ ?_
      · refine Runs.next ?_
        refine Moves.step (State.setLink_moves ..) (by decide) ?_
        with_reducible assumption
      · refine Runs.ite ?_ ?_
        · refine Runs.next ?_
          refine Moves.step (State.setLink_moves ..) (by decide) ?_
          with_reducible assumption
        · split
          · refine Runs.next ?_
            with_reducible assumption
          · refine Runs.ite ?_ ?_
            · refine Runs.next ?_
              refine Moves.step (State.linkDeliver_moves ..) (by decide) ?_
              with_reducible assumption
            · refine Runs.next ?_
              with_reducible assumption

theorem State.setPath_moves (s a1 a2) : Moves 68719481601 s (State.setPath s a1 a2) := by
  unfold State.setPath
  extract_lets -merge -underBinder -useContext x0 x1 x2 x3
  clear_value x0
  clear_value x1
  clear_value x2
  have h4 : Moves 68719481601 s x3 := by
    unfold x3
    refine Moves.step (Moves.set_twin ..) (by decide) ?_
    exact Moves.refl
  clear_value x3
  refine Moves.ite ?_ ?_
  · with_reducible assumption
  · refine Moves.step (State.event_moves ..) (by decide) ?_
    refine Moves.step (State.post_moves ..) (by decide) ?_
    refine Moves.step (State.showTwin_moves ..) (by decide) ?_
    with_reducible assumption

theorem State.linkDegraded_moves (s) : Moves 68727870337 s (State.linkDegraded s) := by
  unfold State.linkDegraded
  extract_lets -merge -underBinder -useContext x0
  clear_value x0
  refine Moves.ite ?_ ?_
  · refine Moves.step (State.enterTwin_moves ..) (by decide) ?_
    exact Moves.refl
  · refine Moves.ite ?_ ?_
    · refine Moves.step (State.resyncFails_moves ..) (by decide) ?_
      exact Moves.refl
    · exact Moves.refl

theorem State.linkPathDown_moves (s) : Moves 68727870337 s (State.linkPathDown s) := by
  unfold State.linkPathDown
  refine Moves.ite ?_ ?_
  · exact Moves.refl
  · extract_lets -merge -underBinder -useContext x0
    have h1 : Moves 68727870337 s x0 := by
      unfold x0
      refine Moves.step (State.setPath_moves ..) (by decide) ?_
      exact Moves.refl
    clear_value x0
    refine Moves.ite ?_ ?_
    · with_reducible assumption
    · refine Moves.step (State.linkDegraded_moves ..) (by decide) ?_
      with_reducible assumption

theorem State.linkReset_moves (s a1 a2 a3) : Moves 481044730753 s (State.linkReset s a1 a2 a3) := by
  unfold State.linkReset
  extract_lets -merge -underBinder -useContext x0 x1 x2 x3 x4 x5
  clear_value x0
  have h6 : Moves 481044730753 s x1 := by
    unfold x1
    refine Moves.ite ?_ ?_
    · refine Moves.step (State.linkLeavesUp_moves ..) (by decide) ?_
      exact Moves.refl
    · exact Moves.refl
  clear_value x1
  have h7 : Moves 481044730753 s x2 := by
    unfold x2
    refine Moves.step (State.showLink_moves ..) (by decide) ?_
    with_reducible assumption
  clear_value x2
  clear_value x3
  have h8 : Moves 481044730753 s x4 := by
    unfold x4
    refine Moves.step (State.setLink_moves ..) (by decide) ?_
    with_reducible assumption
  clear_value x4
  have h9 : Moves 481044730753 s x5 := by
    unfold x5
    refine Moves.ite ?_ ?_
    · refine Moves.step (State.linkPathDown_moves ..) (by decide) ?_
      with_reducible assumption
    · with_reducible assumption
  clear_value x5
  refine Moves.step (State.fabricRefresh_moves ..) (by decide) ?_
  with_reducible assumption

theorem execBinathFlitTimeout_moves (a0 s) : Runs 481044730769 s (execBinathFlitTimeout a0 s) := by
  unfold execBinathFlitTimeout
  refine Runs.ite ?_ ?_
  · extract_lets -merge -underBinder -useContext x0
    have h1 : Moves 481044730769 s x0 := by
      unfold x0
      refine Moves.step (State.runTo_moves ..) (by decide) ?_
      exact Moves.refl
    clear_value x0
    refine Runs.next ?_
    refine Moves.step (State.linkReset_moves ..) (by decide) ?_
    with_reducible assumption
  · refine Runs.next ?_
    exact Moves.refl

theorem State.bump64_moves (s a1 a2) : Moves 1 s (State.bump64 s a1 a2) := by
  unfold State.bump64
  refine Moves.step (State.wr64_moves ..) (by decide) ?_
  exact Moves.refl

theorem execBinathFlitTx_moves (a0 s) : Runs 137438953473 s (execBinathFlitTx a0 s) := by
  unfold execBinathFlitTx
  refine Runs.ite ?_ ?_
  · refine Runs.next ?_
    exact Moves.refl
  · extract_lets -merge -underBinder -useContext x0
    clear_value x0
    split
    · extract_lets -merge -underBinder -useContext x1
      clear_value x1
      refine Runs.next ?_
      refine Moves.step (State.setLink_moves ..) (by decide) ?_
      exact Moves.refl
    · refine Runs.ite ?_ ?_
      · refine Runs.next ?_
        refine Moves.step (State.setLink_moves ..) (by decide) ?_
        exact Moves.refl
      · split
        · extract_lets -merge -underBinder -useContext x2 x3
          clear_value x2
          clear_value x3
          refine Runs.next ?_
          refine Moves.step (State.setLink_moves ..) (by decide) ?_
          exact Moves.refl
        · split
          · refine Runs.next ?_
            refine Moves.step (State.setLink_moves ..) (by decide) ?_
            exact Moves.refl
          · extract_lets -merge -underBinder -useContext x4 x5
            clear_value x4
            have h6 : Moves 137438953473 s x5 := by
              unfold x5
              refine Moves.step (State.setLink_moves ..) (by decide) ?_
              exact Moves.refl
            clear_value x5
            refine Runs.next ?_
            refine Moves.ite ?_ ?_
            · refine Moves.step (State.bump64_moves ..) (by decide) ?_
              with_reducible assumption
            · with_reducible assumption

theorem execBinathIdentRx_moves (a0 a1 s) : Runs 412316865409 s (execBinathIdentRx a0 a1 s) := by
  unfold execBinathIdentRx
  refine Runs.ite ?_ ?_
  · extract_lets -merge -underBinder -useContext x0
    have h1 : Moves 412316865409 s x0 := by
      unfold x0
      refine Moves.step (State.put_moves ..) (by decide) ?_
      refine Moves.step (State.modLink_moves ..) (by decide) ?_
      exact Moves.refl
    clear_value x0
    split
    · refine Runs.next ?_
      refine Moves.step (State.post_moves ..) (by decide) ?_
      refine Moves.step (State.showLink_moves ..) (by decide) ?_
      with_reducible assumption
    · extract_lets -merge -underBinder -useContext x2 x3 x4
      have h5 : Moves 412316865409 s x2 := by
        unfold x2
        refine Moves.step (State.showLink_moves ..) (by decide) ?_
        with_reducible assumption
      clear_value x2
      have h6 : Moves 412316865409 s x3 := by
        unfold x3
        refine Moves.ite ?_ ?_
        · refine Moves.step (State.post_moves ..) (by decide) ?_
          with_reducible assumption
        · refine Moves.step (State.linkUpNow_moves ..) (by decide) ?_
          with_reducible assumption
      clear_value x3
      have h7 : Moves 412316865409 s x4 := by
        unfold x4
        refine Moves.step (State.fabricRefresh_moves ..) (by decide) ?_
        with_reducible assumption
      clear_value x4
      refine Runs.next ?_
      refine Moves.step (State.sendTopo_moves ..) (by decide) ?_
      with_reducible assumption
  · refine Runs.next ?_
    exact Moves.refl

theorem execBinathLaneLock_moves (a0 s) : Runs 137438953601 s (execBinathLaneLock a0 s) := by
  unfold execBinathLaneLock
  refine Runs.ite ?_ ?_
  · extract_lets -merge -underBinder -useContext x0
    have h1 : Moves 137438953601 s x0 := by
      unfold x0
      refine Moves.step (State.put_moves ..) (by decide) ?_
      refine Moves.step (State.showLink_moves ..) (by decide) ?_
      exact Moves.refl
    clear_value x0
    refine Runs.next ?_
    refine Moves.step (State.sendCtl_moves ..) (by decide) ?_
    with_reducible assumption
  · refine Runs.next ?_
    exact Moves.refl

theorem execBinathLockLost_moves (a0 a1 s) : Runs 481044730753 s (execBinathLockLost a0 a1 s) := by
  unfold execBinathLockLost
  refine Runs.ite ?_ ?_
  · extract_lets -merge -underBinder -useContext x0
    have h1 : Moves 481044730753 s x0 := by
      unfold x0
      refine Moves.step (State.put_moves ..) (by decide) ?_
      exact Moves.refl
    clear_value x0
    refine Runs.next ?_
    refine Moves.step (State.linkReset_moves ..) (by decide) ?_
    with_reducible assumption
  · refine Runs.next ?_
    exact Moves.refl

theorem State.replayFrom_moves (s a1 a2) : Moves 481044730753 s (State.replayFrom s a1 a2) := by
  unfold State.replayFrom
  extract_lets -merge -underBinder -useContext x0 x1 x2
  clear_value x0
  clear_value x1
  have h3 : Moves 481044730753 s x2 := by
    unfold x2
    refine Moves.step (State.setLink_moves ..) (by decide) ?_
    exact Moves.refl
  clear_value x2
  refine Moves.ite ?_ ?_
  · refine Moves.step (State.linkReset_moves ..) (by decide) ?_
    with_reducible assumption
  · with_reducible assumption

theorem execBinathNakRx_moves (a0 a1 s) : Runs 481044730753 s (execBinathNakRx a0 a1 s) := by
  unfold execBinathNakRx
  refine Runs.ite ?_ ?_
  · refine Runs.next ?_
    exact Moves.refl
  · extract_lets -merge -underBinder -useContext x0 x1
    clear_value x0
    have h2 : Moves 481044730753 s x1 := by
      unfold x1
      refine Moves.step (State.setLink_moves ..) (by decide) ?_
      exact Moves.refl
    clear_value x1
    split
    · refine Runs.next ?_
      with_reducible assumption
    · refine Runs.next ?_
      refine Moves.step (State.replayFrom_moves ..) (by decide) ?_
      refine Moves.step (State.bump_moves ..) (by decide) ?_
      with_reducible assumption

theorem execBinathReplayTimeout_moves (a0 s) : Runs 481044730769 s (execBinathReplayTimeout a0 s) := by
  unfold execBinathReplayTimeout
  extract_lets -merge -underBinder -useContext x0 x1 x2
  clear_value x0
  have h3 : Moves 481044730769 s x1 := by
    unfold x1
    refine Moves.step (State.runTo_moves ..) (by decide) ?_
    exact Moves.refl
  clear_value x1
  have h4 : Moves 481044730769 s x2 := by
    unfold x2
    refine Moves.step (State.modLink_moves ..) (by decide) ?_
    with_reducible assumption
  clear_value x2
  refine Runs.ite ?_ ?_
  · refine Runs.next ?_
    exact Moves.refl
  · refine Runs.next ?_
    refine Moves.step (State.replayFrom_moves ..) (by decide) ?_
    refine Moves.step (State.bump_moves ..) (by decide) ?_
    with_reducible assumption

theorem State.setSrc_moves (s a1 a2) : Moves 32 s (State.setSrc s a1 a2) := by
  unfold State.setSrc
  refine Moves.ite ?_ ?_
  · refine Moves.step (Moves.set_bel ..) (by decide) ?_
    exact Moves.refl
  · refine Moves.ite ?_ ?_
    · refine Moves.step (Moves.set_bel ..) (by decide) ?_
      exact Moves.refl
    · refine Moves.ite ?_ ?_
      · refine Moves.step (Moves.set_bel ..) (by decide) ?_
        exact Moves.refl
      · refine Moves.ite ?_ ?_
        · refine Moves.step (Moves.set_bel ..) (by decide) ?_
          exact Moves.refl
        · exact Moves.refl

theorem State.setAddend_moves (s a1) : Moves 1 s (State.setAddend s a1) := by
  unfold State.setAddend
  refine Moves.step (State.wr_moves ..) (by decide) ?_
  exact Moves.refl

theorem State.servoLost_moves (s a1) : Moves 289 s (State.servoLost s a1) := by
  unfold State.servoLost
  extract_lets -merge -underBinder -useContext x0 x1 x2 x3 x4 x5
  clear_value x0
  have h6 : Moves 289 s x1 := by
    unfold x1
    refine Moves.step (State.setSrc_moves ..) (by decide) ?_
    exact Moves.refl
  clear_value x1
  clear_value x2
  clear_value x3
  clear_value x4
  clear_value x5
  refine Moves.ite ?_ ?_
  · refine Moves.ite ?_ ?_
    · refine Moves.step (State.servoGo_moves ..) (by decide) ?_
      with_reducible assumption
    · refine Moves.ite ?_ ?_
      · refine Moves.step (State.servoGo_moves ..) (by decide) ?_
        with_reducible assumption
      · refine Moves.step (State.servoGo_moves ..) (by decide) ?_
        refine Moves.step (State.setAddend_moves ..) (by decide) ?_
        with_reducible assumption
  · with_reducible assumption

theorem execBinathSourceLost_moves (s) : Runs 289 s (execBinathSourceLost s) := by
  unfold execBinathSourceLost
  refine Runs.next ?_
  refine Moves.step (State.servoLost_moves ..) (by decide) ?_
  exact Moves.refl

theorem execBinathTrainTimeout_moves (a0 s) : Runs 137438953489 s (execBinathTrainTimeout a0 s) := by
  unfold execBinathTrainTimeout
  refine Runs.ite ?_ ?_
  · extract_lets -merge -underBinder -useContext x0
    have h1 : Moves 137438953489 s x0 := by
      unfold x0
      refine Moves.step (State.runTo_moves ..) (by decide) ?_
      exact Moves.refl
    clear_value x0
    refine Runs.next ?_
    refine Moves.step (State.bumpSat_moves ..) (by decide) ?_
    refine Moves.step (State.modLink_moves ..) (by decide) ?_
    with_reducible assumption
  · refine Runs.next ?_
    exact Moves.refl

theorem execBltz_moves (a0 a1 a2 s) : Runs 225179981502747521 s (execBltz a0 a1 a2 s) := by
  unfold execBltz
  refine Runs.next ?_
  refine Moves.step (State.issueOn_moves ..) (by decide) ?_
  exact Moves.refl

theorem execBnz_moves (a0 a1 a2 s) : Runs 225179981502747521 s (execBnz a0 a1 a2 s) := by
  unfold execBnz
  refine Runs.next ?_
  refine Moves.step (State.issueOn_moves ..) (by decide) ?_
  exact Moves.refl

theorem State.enterStage_moves (s a1) : Moves 2305843009213693953 s (State.enterStage s a1) := by
  unfold State.enterStage
  refine Moves.step (State.put_moves ..) (by decide) ?_
  refine Moves.step (State.put_moves ..) (by decide) ?_
  refine Moves.step (State.uartLog_moves ..) (by decide) ?_
  exact Moves.refl

theorem State.faultN_moves (s) : Moves 1 s (State.faultN s) := by
  unfold State.faultN
  refine Moves.step (State.put_moves ..) (by decide) ?_
  exact Moves.refl

theorem State.bootFail_moves (s) : Moves 2305843009213693953 s (State.bootFail s) := by
  unfold State.bootFail
  refine Moves.step (State.faultN_moves ..) (by decide) ?_
  refine Moves.step (State.enterStage_moves ..) (by decide) ?_
  refine Moves.step (State.put_moves ..) (by decide) ?_
  exact Moves.refl

theorem State.bootConfig_moves (s) : Moves 2305843009213693953 s (State.bootConfig s) := by
  unfold State.bootConfig
  split
  · refine Moves.step (State.bootFail_moves ..) (by decide) ?_
    exact Moves.refl
  · extract_lets -merge -underBinder -useContext x0 x1
    have h2 : Moves 2305843009213693953 s x0 := by
      unfold x0
      refine Moves.step (State.putB_moves ..) (by decide) ?_
      exact Moves.refl
    clear_value x0
    have h3 : Moves 2305843009213693953 s x1 := by
      unfold x1
      refine Moves.forUpTo (fun y4 y5 => ?_) ?_
      · refine Moves.step (State.put_moves ..) (by decide) ?_
        exact Moves.refl
      · with_reducible assumption
    clear_value x1
    refine Moves.step (State.enterStage_moves ..) (by decide) ?_
    with_reducible assumption

theorem State.bootVerify_moves (s) : Moves 2305913377957871617 s (State.bootVerify s) := by
  unfold State.bootVerify
  extract_lets -merge -underBinder -useContext x0 x1
  clear_value x0
  have h2 : ∀ y3 y4 y5, Moves 2305913377957871617 y3 (x1 y3 y4 y5) := by
    intro y3 y4 y5
    unfold x1
    refine Moves.step (State.enterStage_moves ..) (by decide) ?_
    refine Moves.step (State.putB_moves ..) (by decide) ?_
    refine Moves.step (Moves.set_boot ..) (by decide) ?_
    exact Moves.refl
  clear_value x1
  split
  · refine Moves.step (h2 ..) (by decide) ?_
    exact Moves.refl
  · refine Moves.step (h2 ..) (by decide) ?_
    exact Moves.refl
  · refine Moves.step (State.bootFail_moves ..) (by decide) ?_
    exact Moves.refl

theorem State.bootTrain_moves (s a1) : Moves 2305913377957871617 s (State.bootTrain s a1) := by
  unfold State.bootTrain
  extract_lets -merge -underBinder -useContext x0 x1 x2 x3 x4 x5 x6 x7
  clear_value x0
  clear_value x1
  clear_value x2
  have h8 : Moves 2305913377957871617 s x3 := by
    unfold x3
    refine Moves.forUpTo (fun y9 y10 => ?_) ?_
    · refine Moves.step (State.put_moves ..) (by decide) ?_
      refine Moves.step (State.put_moves ..) (by decide) ?_
      exact Moves.refl
    · exact Moves.refl
  clear_value x3
  have h11 : Moves 2305913377957871617 s x4 := by
    unfold x4
    refine Moves.step (State.put_moves ..) (by decide) ?_
    refine Moves.step (State.put_moves ..) (by decide) ?_
    with_reducible assumption
  clear_value x4
  have h12 : Moves 2305913377957871617 s x5 := by
    unfold x5
    refine Moves.step (State.wr_moves ..) (by decide) ?_
    with_reducible assumption
  clear_value x5
  clear_value x6
  have h13 : Moves 2305913377957871617 s x7 := by
    unfold x7
    refine Moves.step (Moves.set_boot ..) (by decide) ?_
    with_reducible assumption
  clear_value x7
  refine Moves.ite ?_ ?_
  · refine Moves.step (State.bootFail_moves ..) (by decide) ?_
    refine Moves.forEach (fun y14 y15 => ?_) ?_
    · refine Moves.step (State.put_moves ..) (by decide) ?_
      refine Moves.step (State.put_moves ..) (by decide) ?_
      exact Moves.refl
    · exact Moves.refl
  · refine Moves.step (State.enterStage_moves ..) (by decide) ?_
    with_reducible assumption

theorem State.bootFw_moves (s) : Moves 2305860601399738369 s (State.bootFw s) := by
  unfold State.bootFw
  extract_lets -merge -underBinder -useContext x0 x1 x2
  clear_value x0
  have h3 : Moves 2305860601399738369 s x1 := by
    unfold x1
    refine Moves.step (State.modSec_moves ..) (by decide) ?_
    exact Moves.refl
  clear_value x1
  have h4 : Moves 2305860601399738369 s x2 := by
    unfold x2
    refine Moves.step (State.put_moves ..) (by decide) ?_
    refine Moves.step (State.putB_moves ..) (by decide) ?_
    with_reducible assumption
  clear_value x2
  refine Moves.step (State.enterStage_moves ..) (by decide) ?_
  refine Moves.step (State.putB_moves ..) (by decide) ?_
  with_reducible assumption

theorem State.bootWake_moves (s a1 a2) : Moves 2306414755260404481 s (State.bootWake s a1 a2) := by
  unfold State.bootWake
  refine Moves.ite ?_ ?_
  · refine Moves.step (State.failedWake_moves ..) (by decide) ?_
    exact Moves.refl
  · extract_lets -merge -underBinder -useContext x0 x1 x2
    have h3 : Moves 2306414755260404481 s x0 := by
      unfold x0
      refine Moves.step (State.domWakeTime_moves ..) (by decide) ?_
      refine Moves.step (State.put_moves ..) (by decide) ?_
      exact Moves.refl
    clear_value x0
    clear_value x1
    clear_value x2
    refine Moves.ite ?_ ?_
    · refine Moves.step (State.setVolt_moves ..) (by decide) ?_
      refine Moves.step (State.put_moves ..) (by decide) ?_
      refine Moves.step (State.put_moves ..) (by decide) ?_
      refine Moves.step (State.put_moves ..) (by decide) ?_
      with_reducible assumption
    · with_reducible assumption

theorem State.portCal_moves (s a1) : Moves 1 s (State.portCal s a1) := by
  unfold State.portCal
  extract_lets -merge -underBinder -useContext x0
  clear_value x0
  refine Moves.step (State.put_moves ..) (by decide) ?_
  refine Moves.step (State.put_moves ..) (by decide) ?_
  exact Moves.refl

theorem State.dropDram_moves (s a) : Moves 32768 s (State.dropDram s a) := Moves.set_dram _ _ (fun c => Sparse.wf_filter _ _ _ c.2.1)

theorem State.weirFence_moves (s a1 a2) : Moves 1099511627777 s (State.weirFence s a1 a2) := by
  unfold State.weirFence
  refine Moves.ite ?_ ?_
  · exact Moves.refl
  · extract_lets -merge -underBinder -useContext x0 x1
    clear_value x0
    have h2 : Moves 1099511627777 s x1 := by
      unfold x1
      refine Moves.step (Moves.set_weir ..) (by decide) ?_
      exact Moves.refl
    clear_value x1
    refine Moves.step (State.bump_moves ..) (by decide) ?_
    with_reducible assumption

theorem State.stopCore_moves (s a1) : Moves 72057594037927936 s (State.stopCore s a1) := by
  unfold State.stopCore
  refine Moves.ite ?_ ?_
  · refine Moves.step (State.setCore_moves ..) (by decide) ?_
    exact Moves.refl
  · exact Moves.refl

theorem State.engineAbort_moves (s a1 a2) : Moves 1224980198156402689 s (State.engineAbort s a1 a2) := by
  unfold State.engineAbort
  extract_lets -merge -underBinder -useContext x0 x1 x2
  clear_value x0
  have h3 : Moves 1224980198156402689 s x1 := by
    unfold x1
    refine Moves.step (State.weirFence_moves ..) (by decide) ?_
    exact Moves.refl
  clear_value x1
  clear_value x2
  refine Moves.step (State.stopCore_moves ..) (by decide) ?_
  refine Moves.step (State.setEng_moves ..) (by decide) ?_
  with_reducible assumption

theorem State.countFault_moves (s a1) : Moves 257 s (State.countFault s a1) := by
  unfold State.countFault
  extract_lets -merge -underBinder -useContext x0 x1
  clear_value x0
  clear_value x1
  refine Moves.ite ?_ ?_
  · refine Moves.step (State.event_moves ..) (by decide) ?_
    refine Moves.step (State.put_moves ..) (by decide) ?_
    refine Moves.step (State.bumpSat_moves ..) (by decide) ?_
    exact Moves.refl
  · refine Moves.ite ?_ ?_
    · refine Moves.step (State.event_moves ..) (by decide) ?_
      refine Moves.step (State.put_moves ..) (by decide) ?_
      refine Moves.step (State.bumpSat_moves ..) (by decide) ?_
      exact Moves.refl
    · refine Moves.ite ?_ ?_
      · refine Moves.step (State.event_moves ..) (by decide) ?_
        refine Moves.step (State.put_moves ..) (by decide) ?_
        refine Moves.step (State.bumpSat_moves ..) (by decide) ?_
        exact Moves.refl
      · exact Moves.refl

theorem State.faultCounted_moves (s a1 a2 a3 a4) : Moves 3461016313634493185 s (State.faultCounted s a1 a2 a3 a4) := by
  unfold State.faultCounted
  extract_lets -merge -underBinder -useContext x0 x1 x2 x3 x4 x5 x6 x7 x8 x9 x10 x11 x12
  clear_value x0
  clear_value x1
  have h13 : Moves 3461016313634493185 s x2 := by
    unfold x2
    refine Moves.step (State.setEng_moves ..) (by decide) ?_
    exact Moves.refl
  clear_value x2
  clear_value x3
  have h14 : Moves 3461016313634493185 s x4 := by
    unfold x4
    refine Moves.step (Moves.set_crier ..) (by decide) ?_
    with_reducible assumption
  clear_value x4
  have h15 : Moves 3461016313634493185 s x5 := by
    unfold x5
    refine Moves.step (State.countFault_moves ..) (by decide) ?_
    with_reducible assumption
  clear_value x5
  clear_value x6
  have h16 : Moves 3461016313634493185 s x7 := by
    unfold x7
    refine Moves.step (State.faultEntry_moves ..) (by decide) ?_
    refine Moves.step (State.event_moves ..) (by decide) ?_
    refine Moves.step (State.post_moves ..) (by decide) ?_
    with_reducible assumption
  clear_value x7
  have h17 : Moves 3461016313634493185 s x8 := by
    unfold x8
    refine Moves.ite ?_ ?_
    · refine Moves.step (State.contained_moves ..) (by decide) ?_
      with_reducible assumption
    · with_reducible assumption
  clear_value x8
  clear_value x9
  have h18 : Moves 3461016313634493185 s x10 := by
    unfold x10
    refine Moves.step (State.setEng_moves ..) (by decide) ?_
    with_reducible assumption
  clear_value x10
  have h19 : Moves 3461016313634493185 s x11 := by
    unfold x11
    refine Moves.ite ?_ ?_
    · refine Moves.step (State.put_moves ..) (by decide) ?_
      with_reducible assumption
    · with_reducible assumption
  clear_value x11
  have h20 : Moves 3461016313634493185 s x12 := by
    unfold x12
    refine Moves.step (State.event_moves ..) (by decide) ?_
    refine Moves.step (State.post_moves ..) (by decide) ?_
    with_reducible assumption
  clear_value x12
  refine Moves.ite ?_ ?_
  · refine Moves.step (State.blockFatal_moves ..) (by decide) ?_
    with_reducible assumption
  · with_reducible assumption

theorem State.engineFaulted_moves (s a1 a2) : Moves 3533075007184048897 s (State.engineFaulted s a1 a2) := by
  unfold State.engineFaulted
  extract_lets -merge -underBinder -useContext x0
  clear_value x0
  refine Moves.ite ?_ ?_
  · exact Moves.refl
  · refine Moves.ite ?_ ?_
    · refine Moves.step (State.engineAbort_moves ..) (by decide) ?_
      exact Moves.refl
    · refine Moves.step (State.faultCounted_moves ..) (by decide) ?_
      refine Moves.step (State.engineAbort_moves ..) (by decide) ?_
      exact Moves.refl

theorem State.katFail_moves (s a1 a2) : Moves 3533075007184048897 s (State.katFail s a1 a2) := by
  unfold State.katFail
  extract_lets -merge -underBinder -useContext x0
  have h1 : Moves 3533075007184048897 s x0 := by
    unfold x0
    refine Moves.step (State.post_moves ..) (by decide) ?_
    refine Moves.step (State.bumpSat_moves ..) (by decide) ?_
    exact Moves.refl
  clear_value x0
  refine Moves.step (State.engineFaulted_moves ..) (by decide) ?_
  refine Moves.step (State.faultEntry_moves ..) (by decide) ?_
  with_reducible assumption

theorem State.bootReady_moves (s a1) : Moves 3533646821958415233 s (State.bootReady s a1) := by
  unfold State.bootReady
  extract_lets -merge -underBinder -useContext x0 x1 x2 x3 x4 x5 x6 x7 x8 x9
  have h10 : Moves 3533646821958415233 s x0 := by
    unfold x0
    refine Moves.forEach (fun y11 y12 => ?_) ?_
    · refine Moves.step (State.put_moves ..) (by decide) ?_
      exact Moves.refl
    · exact Moves.refl
  clear_value x0
  have h13 : Moves 3533646821958415233 s x1 := by
    unfold x1
    refine Moves.forEach (fun y14 y15 => ?_) ?_
    · refine Moves.step (State.bootWake_moves ..) (by decide) ?_
      exact Moves.refl
    · with_reducible assumption
  clear_value x1
  have h16 : Moves 3533646821958415233 s x2 := by
    unfold x2
    refine Moves.forUpTo (fun y17 y18 => ?_) ?_
    · refine Moves.step (State.portCal_moves ..) (by decide) ?_
      exact Moves.refl
    · with_reducible assumption
  clear_value x2
  have h19 : Moves 3533646821958415233 s x3 := by
    unfold x3
    refine Moves.forUpTo (fun y20 y21 => ?_) ?_
    · refine Moves.ite ?_ ?_
      · exact Moves.refl
      · refine Moves.step (State.islandUp_moves ..) (by decide) ?_
        exact Moves.refl
    · with_reducible assumption
  clear_value x3
  have h22 : Moves 3533646821958415233 s x4 := by
    unfold x4
    refine Moves.step (State.dropDram_moves ..) (by decide) ?_
    with_reducible assumption
  clear_value x4
  clear_value x5
  have h23 : Moves 3533646821958415233 s x6 := by
    unfold x6
    refine Moves.forEach (fun y24 y25 => ?_) ?_
    · refine Moves.step (State.setEng_moves ..) (by decide) ?_
      exact Moves.refl
    · with_reducible assumption
  clear_value x6
  have h26 : Moves 3533646821958415233 s x7 := by
    unfold x7
    refine Moves.forEach (fun y27 y28 => ?_) ?_
    · refine Moves.ite ?_ ?_
      · refine Moves.step (State.put_moves ..) (by decide) ?_
        refine Moves.step (State.katFail_moves ..) (by decide) ?_
        exact Moves.refl
      · exact Moves.refl
    · with_reducible assumption
  clear_value x7
  have h29 : Moves 3533646821958415233 s x8 := by
    unfold x8
    refine Moves.step (State.bump_moves ..) (by decide) ?_
    with_reducible assumption
  clear_value x8
  have h30 : Moves 3533646821958415233 s x9 := by
    unfold x9
    refine Moves.ite ?_ ?_
    · refine Moves.step (State.enterTwin_moves ..) (by decide) ?_
      with_reducible assumption
    · with_reducible assumption
  clear_value x9
  refine Moves.ite ?_ ?_
  · refine Moves.step (State.bootFail_moves ..) (by decide) ?_
    with_reducible assumption
  · refine Moves.step (State.enterStage_moves ..) (by decide) ?_
    refine Moves.step (Moves.set_deviceReserved ..) (by decide) ?_
    with_reducible assumption

theorem execBootStageComplete_moves (a0 s) : Runs 3533734782888637313 s (execBootStageComplete a0 s) := by
  unfold execBootStageComplete
  refine Runs.ite ?_ ?_
  · refine Runs.next ?_
    exact Moves.refl
  · extract_lets -merge -underBinder -useContext x0 x1 x2 x3 x4
    clear_value x0
    clear_value x1
    have h5 : Moves 3533734782888637313 s x2 := by
      unfold x2
      refine Moves.step (Moves.set_boot ..) (by decide) ?_
      exact Moves.refl
    clear_value x2
    clear_value x3
    clear_value x4
    refine Runs.ite ?_ ?_
    · refine Runs.ite ?_ ?_
      · refine Runs.next ?_
        refine Moves.step (State.enterStage_moves ..) (by decide) ?_
        refine Moves.step (Moves.set_boot ..) (by decide) ?_
        with_reducible assumption
      · refine Runs.next ?_
        refine Moves.step (State.enterStage_moves ..) (by decide) ?_
        refine Moves.step (State.put_moves ..) (by decide) ?_
        with_reducible assumption
    · refine Runs.ite ?_ ?_
      · refine Runs.next ?_
        exact Moves.refl
      · refine Runs.ite ?_ ?_
        · refine Runs.next ?_
          refine Moves.step (State.bootFail_moves ..) (by decide) ?_
          exact Moves.refl
        · split
          · refine Runs.ite ?_ ?_
            · refine Runs.next ?_
              refine Moves.step (State.faultN_moves ..) (by decide) ?_
              exact Moves.refl
            · refine Runs.next ?_
              refine Moves.step (State.enterStage_moves ..) (by decide) ?_
              refine Moves.step (State.modPwr_moves ..) (by decide) ?_
              exact Moves.refl
          · refine Runs.next ?_
            refine Moves.step (State.enterStage_moves ..) (by decide) ?_
            refine Moves.step (State.bump_moves ..) (by decide) ?_
            refine Moves.step (State.modSec_moves ..) (by decide) ?_
            exact Moves.refl
          · refine Runs.next ?_
            refine Moves.step (State.bootConfig_moves ..) (by decide) ?_
            exact Moves.refl
          · refine Runs.next ?_
            refine Moves.step (State.bootVerify_moves ..) (by decide) ?_
            exact Moves.refl
          · refine Runs.next ?_
            refine Moves.step (State.bootTrain_moves ..) (by decide) ?_
            exact Moves.refl
          · refine Runs.next ?_
            refine Moves.step (State.enterStage_moves ..) (by decide) ?_
            exact Moves.refl
          · refine Runs.next ?_
            refine Moves.step (State.bootFw_moves ..) (by decide) ?_
            exact Moves.refl
          · refine Runs.next ?_
            refine Moves.step (State.bootReady_moves ..) (by decide) ?_
            exact Moves.refl

theorem execBr_moves (a0 a1 s) : Runs 225179981502747521 s (execBr a0 a1 s) := by
  unfold execBr
  refine Runs.next ?_
  refine Moves.step (State.issueOn_moves ..) (by decide) ?_
  exact Moves.refl

theorem execBz_moves (a0 a1 a2 s) : Runs 225179981502747521 s (execBz a0 a1 a2 s) := by
  unfold execBz
  refine Runs.next ?_
  refine Moves.step (State.issueOn_moves ..) (by decide) ?_
  exact Moves.refl

theorem execCall_moves (a0 a1 s) : Runs 225179981502747521 s (execCall a0 a1 s) := by
  unfold execCall
  refine Runs.next ?_
  refine Moves.step (State.issueOn_moves ..) (by decide) ?_
  exact Moves.refl

theorem execCaptureEdge_moves (a0 a1 a2 s) : Runs 289 s (execCaptureEdge a0 a1 a2 s) := by
  unfold execCaptureEdge
  refine Runs.ite ?_ ?_
  · refine Runs.next ?_
    exact Moves.refl
  · refine Runs.next ?_
    refine Moves.forUpTo (fun y0 y1 => ?_) ?_
    · refine Moves.ite ?_ ?_
      · refine Moves.step (State.capturePush_moves ..) (by decide) ?_
        exact Moves.refl
      · exact Moves.refl
    · exact Moves.refl

theorem execCapturePop_moves (a0 s) : Runs 41 s (execCapturePop a0 s) := by
  unfold execCapturePop
  refine Runs.ite ?_ ?_
  · refine Runs.next ?_
    refine Moves.step (Moves.set_readData ..) (by decide) ?_
    exact Moves.refl
  · split
    · refine Runs.next ?_
      refine Moves.step (Moves.set_readData ..) (by decide) ?_
      exact Moves.refl
    · extract_lets -merge -underBinder -useContext x0 x1 x2 x3 x4 x5
      clear_value x0
      have h6 : Moves 41 s x1 := by
        unfold x1
        refine Moves.step (State.setCap_moves ..) (by decide) ?_
        exact Moves.refl
      clear_value x1
      have h7 : Moves 41 s x2 := by
        unfold x2
        refine Moves.step (State.wr_moves ..) (by decide) ?_
        with_reducible assumption
      clear_value x2
      have h8 : Moves 41 s x3 := by
        unfold x3
        refine Moves.step (State.wr_moves ..) (by decide) ?_
        with_reducible assumption
      clear_value x3
      have h9 : Moves 41 s x4 := by
        unfold x4
        refine Moves.step (State.wr_moves ..) (by decide) ?_
        with_reducible assumption
      clear_value x4
      have h10 : Moves 41 s x5 := by
        unfold x5
        refine Moves.step (State.wr_moves ..) (by decide) ?_
        with_reducible assumption
      clear_value x5
      refine Runs.next ?_
      refine Moves.step (Moves.set_readData ..) (by decide) ?_
      with_reducible assumption

theorem execCatchupDone_moves (s) : Runs 68727870337 s (execCatchupDone s) := by
  unfold execCatchupDone
  refine Runs.ite ?_ ?_
  · refine Runs.next ?_
    refine Moves.step (State.bump_moves ..) (by decide) ?_
    refine Moves.step (State.enterTwin_moves ..) (by decide) ?_
    exact Moves.refl
  · refine Runs.next ?_
    exact Moves.refl

theorem State.ccRun_moves (s a1 a2) : Moves 8393473 s (State.ccRun s a1 a2) := by
  unfold State.ccRun
  extract_lets -merge -underBinder -useContext x0 x1
  clear_value x0
  clear_value x1
  split
  · extract_lets -merge -underBinder -useContext x2 x3 x4 x5
    clear_value x2
    have h6 : Moves 8393473 s x3 := by
      unfold x3
      refine Moves.step (State.setLeg_moves ..) (by decide) ?_
      exact Moves.refl
    clear_value x3
    have h7 : Moves 8393473 s x4 := by
      unfold x4
      refine Moves.ite ?_ ?_
      · refine Moves.step (State.bump_moves ..) (by decide) ?_
        with_reducible assumption
      · with_reducible assumption
    clear_value x4
    have h8 : Moves 8393473 s x5 := by
      unfold x5
      refine Moves.ite ?_ ?_
      · refine Moves.step (State.post_moves ..) (by decide) ?_
        with_reducible assumption
      · with_reducible assumption
    clear_value x5
    refine Moves.ite ?_ ?_
    · refine Moves.step (State.post_moves ..) (by decide) ?_
      with_reducible assumption
    · with_reducible assumption

theorem State.decideSet_moves (s a1 a2 a3 a4) : Moves 12626433793 s (State.decideSet s a1 a2 a3 a4) := by
  unfold State.decideSet
  extract_lets -merge -underBinder -useContext x0 x1 x2 x3
  clear_value x0
  clear_value x1
  clear_value x2
  have h4 : Moves 12626433793 s x3 := by
    unfold x3
    refine Moves.step (State.setOstr_moves ..) (by decide) ?_
    exact Moves.refl
  clear_value x3
  refine Moves.ite ?_ ?_
  · refine Moves.step (State.moveDown_moves ..) (by decide) ?_
    with_reducible assumption
  · refine Moves.ite ?_ ?_
    · refine Moves.step (State.setOstr_moves ..) (by decide) ?_
      with_reducible assumption
    · split
      · refine Moves.step (State.setOstr_moves ..) (by decide) ?_
        with_reducible assumption
      · refine Moves.ite ?_ ?_
        · extract_lets -merge -underBinder -useContext x5 x6
          have h7 : Moves 12626433793 s x5 := by
            unfold x5
            refine Moves.step (State.setOstr_moves ..) (by decide) ?_
            with_reducible assumption
          clear_value x5
          clear_value x6
          refine Moves.ite ?_ ?_
          · refine Moves.step (State.requestSwitch_moves ..) (by decide) ?_
            with_reducible assumption
          · with_reducible assumption
        · refine Moves.step (State.setOstr_moves ..) (by decide) ?_
          with_reducible assumption

theorem State.selectLayers_moves (s a1 a2) : Moves 12626433793 s (State.selectLayers s a1 a2) := by
  unfold State.selectLayers
  extract_lets -merge -underBinder -useContext x0 x1 x2
  clear_value x0
  clear_value x1
  clear_value x2
  refine Moves.foldl1 (fun y3 y4 => ?_) ?_
  · split
    · try dsimp only
      refine Moves.step (State.decideSet_moves ..) (by decide) ?_
      exact Moves.refl
  · exact Moves.refl

theorem execCcUpdate_moves (a0 s) : Runs 12626433809 s (execCcUpdate a0 s) := by
  unfold execCcUpdate
  refine Runs.ite ?_ ?_
  · extract_lets -merge -underBinder -useContext x0 x1 x2
    clear_value x0
    have h3 : Moves 12626433809 s x1 := by
      unfold x1
      refine Moves.step (State.runTo_moves ..) (by decide) ?_
      exact Moves.refl
    clear_value x1
    have h4 : Moves 12626433809 s x2 := by
      unfold x2
      refine Moves.ite ?_ ?_
      · refine Moves.step (State.ccRun_moves ..) (by decide) ?_
        with_reducible assumption
      · refine Moves.step (State.modLeg_moves ..) (by decide) ?_
        with_reducible assumption
    clear_value x2
    refine Runs.next ?_
    refine Moves.step (State.selectLayers_moves ..) (by decide) ?_
    with_reducible assumption
  · refine Runs.next ?_
    exact Moves.refl

theorem State.jobStart_moves (s a1 a2) : Moves 17592186044417 s (State.jobStart s a1 a2) := by
  unfold State.jobStart
  extract_lets -merge -underBinder -useContext x0 x1 x2 x3 x4 x5 x6 x7 x8 x9
  clear_value x0
  clear_value x1
  clear_value x2
  clear_value x3
  clear_value x4
  clear_value x5
  clear_value x6
  clear_value x7
  clear_value x8
  have h10 : Moves 17592186044417 s x9 := by
    unfold x9
    refine Moves.ite ?_ ?_
    · exact Moves.refl
    · refine Moves.step (State.invoke_moves ..) (by decide) ?_
      exact Moves.refl
  clear_value x9
  refine Moves.step (State.modSec_moves ..) (by decide) ?_
  refine Moves.step (State.unvalid_moves ..) (by decide) ?_
  with_reducible assumption

theorem State.jobCmdWrite_moves (s a1) : Moves 17592186049281 s (State.jobCmdWrite s a1) := by
  unfold State.jobCmdWrite
  extract_lets -merge -underBinder -useContext x0 x1 x2
  clear_value x0
  clear_value x1
  have h3 : Moves 17592186049281 s x2 := by
    unfold x2
    refine Moves.step (State.checked_moves (m := 17592186049281) (hf := fun y4 => ?_) ..) (by decide) ?_
    · refine Moves.ite ?_ ?_
      · refine Moves.step (State.jobStart_moves ..) (by decide) ?_
        exact Moves.refl
      · exact Moves.refl
    · exact Moves.refl
  clear_value x2
  refine Moves.ite ?_ ?_
  · refine Moves.step (State.exhaustedEvent_moves ..) (by decide) ?_
    with_reducible assumption
  · with_reducible assumption

theorem execCipherCbcDecrypt_moves (a0 s) : Runs 17592186049281 s (execCipherCbcDecrypt a0 s) := by
  unfold execCipherCbcDecrypt
  refine Runs.next ?_
  refine Moves.step (State.jobCmdWrite_moves ..) (by decide) ?_
  exact Moves.refl

theorem execCipherCbcEncrypt_moves (a0 s) : Runs 17592186049281 s (execCipherCbcEncrypt a0 s) := by
  unfold execCipherCbcEncrypt
  refine Runs.next ?_
  refine Moves.step (State.jobCmdWrite_moves ..) (by decide) ?_
  exact Moves.refl

theorem execCipherCtrDecrypt_moves (a0 s) : Runs 17592186049281 s (execCipherCtrDecrypt a0 s) := by
  unfold execCipherCtrDecrypt
  refine Runs.next ?_
  refine Moves.step (State.jobCmdWrite_moves ..) (by decide) ?_
  exact Moves.refl

theorem execCipherCtrEncrypt_moves (a0 s) : Runs 17592186049281 s (execCipherCtrEncrypt a0 s) := by
  unfold execCipherCtrEncrypt
  refine Runs.next ?_
  refine Moves.step (State.jobCmdWrite_moves ..) (by decide) ?_
  exact Moves.refl

theorem execCipherGcmDecrypt_moves (a0 s) : Runs 17592186049281 s (execCipherGcmDecrypt a0 s) := by
  unfold execCipherGcmDecrypt
  refine Runs.next ?_
  refine Moves.step (State.jobCmdWrite_moves ..) (by decide) ?_
  exact Moves.refl

theorem execCipherGcmEncrypt_moves (a0 s) : Runs 17592186049281 s (execCipherGcmEncrypt a0 s) := by
  unfold execCipherGcmEncrypt
  refine Runs.next ?_
  refine Moves.step (State.jobCmdWrite_moves ..) (by decide) ?_
  exact Moves.refl

theorem execCipherHmac_moves (a0 s) : Runs 17592186049281 s (execCipherHmac a0 s) := by
  unfold execCipherHmac
  refine Runs.next ?_
  refine Moves.step (State.jobCmdWrite_moves ..) (by decide) ?_
  exact Moves.refl

theorem execCipherJobDone_moves (s) : Runs 19791209337617 s (execCipherJobDone s) := by
  unfold execCipherJobDone
  split
  · refine Runs.next ?_
    exact Moves.refl
  · refine Runs.ite ?_ ?_
    · extract_lets -merge -underBinder -useContext x0
      have h1 : Moves 19791209337617 s x0 := by
        unfold x0
        refine Moves.step (State.modSec_moves ..) (by decide) ?_
        exact Moves.refl
      clear_value x0
      refine Runs.next ?_
      refine Moves.ite ?_ ?_
      · with_reducible assumption
      · refine Moves.step (State.lockFree_moves ..) (by decide) ?_
        with_reducible assumption
    · refine Runs.ite ?_ ?_
      · refine Runs.next ?_
        refine Moves.step (State.jobEnd_moves ..) (by decide) ?_
        exact Moves.refl
      · refine Runs.ite ?_ ?_
        · refine Runs.next ?_
          exact Moves.refl
        · split
          · extract_lets -merge -underBinder -useContext x2
            have h3 : Moves 19791209337617 s x2 := by
              unfold x2
              refine Moves.step (State.contained_moves ..) (by decide) ?_
              refine Moves.step (State.jobWrite_moves ..) (by decide) ?_
              refine Moves.step (State.runTo_moves ..) (by decide) ?_
              exact Moves.refl
            clear_value x2
            refine Runs.ite ?_ ?_
            · refine Runs.next ?_
              refine Moves.step (State.modSec_moves ..) (by decide) ?_
              with_reducible assumption
            · refine Runs.next ?_
              refine Moves.step (State.jobEnd_moves ..) (by decide) ?_
              with_reducible assumption
          · extract_lets -merge -underBinder -useContext x4 x5
            have h6 : Moves 19791209337617 s x4 := by
              unfold x4
              refine Moves.step (State.runTo_moves ..) (by decide) ?_
              exact Moves.refl
            clear_value x4
            have h7 : Moves 19791209337617 s x5 := by
              unfold x5
              refine Moves.step (State.jobWrite_moves ..) (by decide) ?_
              with_reducible assumption
            clear_value x5
            refine Runs.ite ?_ ?_
            · refine Runs.next ?_
              refine Moves.step (State.jobEnd_moves ..) (by decide) ?_
              refine Moves.step (State.dramPut_moves ..) (by decide) ?_
              with_reducible assumption
            · refine Runs.ite ?_ ?_
              · refine Runs.next ?_
                refine Moves.step (State.modSec_moves ..) (by decide) ?_
                with_reducible assumption
              · refine Runs.next ?_
                refine Moves.step (State.jobEnd_moves ..) (by decide) ?_
                with_reducible assumption

theorem execCipherJobResume_moves (s) : Runs 17592186044433 s (execCipherJobResume s) := by
  unfold execCipherJobResume
  split
  · refine Runs.ite ?_ ?_
    · extract_lets -merge -underBinder -useContext x0 x1
      have h2 : Moves 17592186044433 s x0 := by
        unfold x0
        refine Moves.step (State.runTo_moves ..) (by decide) ?_
        exact Moves.refl
      clear_value x0
      have h3 : Moves 17592186044433 s x1 := by
        unfold x1
        refine Moves.step (State.modSec_moves ..) (by decide) ?_
        with_reducible assumption
      clear_value x1
      refine Runs.next ?_
      refine Moves.step (State.showLock_moves ..) (by decide) ?_
      refine Moves.step (State.put_moves ..) (by decide) ?_
      with_reducible assumption
    · refine Runs.next ?_
      exact Moves.refl
  · refine Runs.next ?_
    exact Moves.refl

theorem State.lockTake_moves (s a1) : Moves 17592186044417 s (State.lockTake s a1) := by
  unfold State.lockTake
  extract_lets -merge -underBinder -useContext x0 x1
  have h2 : Moves 17592186044417 s x0 := by
    unfold x0
    refine Moves.step (State.modSec_moves ..) (by decide) ?_
    exact Moves.refl
  clear_value x0
  have h3 : Moves 17592186044417 s x1 := by
    unfold x1
    refine Moves.ite ?_ ?_
    · refine Moves.step (State.modSec_moves ..) (by decide) ?_
      with_reducible assumption
    · with_reducible assumption
  clear_value x1
  refine Moves.step (State.showLock_moves ..) (by decide) ?_
  refine Moves.step (State.put_moves ..) (by decide) ?_
  with_reducible assumption

theorem execCipherJobSuspend_moves (s) : Runs 19791209332753 s (execCipherJobSuspend s) := by
  unfold execCipherJobSuspend
  split
  · extract_lets -merge -underBinder -useContext x0 x1 x2 x3 x4 x5
    clear_value x0
    clear_value x1
    clear_value x2
    clear_value x3
    have h6 : Moves 19791209332753 s x4 := by
      unfold x4
      refine Moves.step (State.jobWrite_moves ..) (by decide) ?_
      refine Moves.step (State.runTo_moves ..) (by decide) ?_
      exact Moves.refl
    clear_value x4
    have h7 : Moves 19791209332753 s x5 := by
      unfold x5
      refine Moves.step (State.modSec_moves ..) (by decide) ?_
      with_reducible assumption
    clear_value x5
    refine Runs.ite ?_ ?_
    · refine Runs.next ?_
      exact Moves.refl
    · refine Runs.next ?_
      refine Moves.step (State.lockTake_moves ..) (by decide) ?_
      refine Moves.step (State.bump_moves ..) (by decide) ?_
      with_reducible assumption
  · refine Runs.next ?_
    exact Moves.refl

theorem execCipherKeyUnwrap_moves (a0 s) : Runs 17592186049281 s (execCipherKeyUnwrap a0 s) := by
  unfold execCipherKeyUnwrap
  refine Runs.next ?_
  refine Moves.step (State.jobCmdWrite_moves ..) (by decide) ?_
  exact Moves.refl

theorem execCipherKeyUnwrapPad_moves (a0 s) : Runs 17592186049281 s (execCipherKeyUnwrapPad a0 s) := by
  unfold execCipherKeyUnwrapPad
  refine Runs.next ?_
  refine Moves.step (State.jobCmdWrite_moves ..) (by decide) ?_
  exact Moves.refl

theorem execCipherKeyWrap_moves (a0 s) : Runs 17592186049281 s (execCipherKeyWrap a0 s) := by
  unfold execCipherKeyWrap
  refine Runs.next ?_
  refine Moves.step (State.jobCmdWrite_moves ..) (by decide) ?_
  exact Moves.refl

theorem execCipherKeyWrapPad_moves (a0 s) : Runs 17592186049281 s (execCipherKeyWrapPad a0 s) := by
  unfold execCipherKeyWrapPad
  refine Runs.next ?_
  refine Moves.step (State.jobCmdWrite_moves ..) (by decide) ?_
  exact Moves.refl

theorem execCipherLockGrant_moves (s) : Runs 17592186044417 s (execCipherLockGrant s) := by
  unfold execCipherLockGrant
  refine Runs.ite ?_ ?_
  · refine Runs.next ?_
    exact Moves.refl
  · split
    · refine Runs.next ?_
      refine Moves.step (State.lockTake_moves ..) (by decide) ?_
      exact Moves.refl
    · split
      · refine Runs.next ?_
        refine Moves.step (State.showLock_moves ..) (by decide) ?_
        refine Moves.step (State.put_moves ..) (by decide) ?_
        exact Moves.refl
      · split
        · refine Runs.next ?_
          refine Moves.step (State.lockTake_moves ..) (by decide) ?_
          exact Moves.refl
        · refine Runs.next ?_
          exact Moves.refl

theorem State.lockRequest_moves (s a1 a2) : Moves 17592186044417 s (State.lockRequest s a1 a2) := by
  unfold State.lockRequest
  refine Moves.ite ?_ ?_
  · refine Moves.step (State.showLock_moves ..) (by decide) ?_
    refine Moves.step (State.modSec_moves ..) (by decide) ?_
    exact Moves.refl
  · exact Moves.refl

theorem State.lockRelease_moves (s a1) : Moves 17592186044417 s (State.lockRelease s a1) := by
  unfold State.lockRelease
  extract_lets -merge -underBinder -useContext x0 x1
  have h2 : Moves 17592186044417 s x0 := by
    unfold x0
    refine Moves.step (State.showLock_moves ..) (by decide) ?_
    refine Moves.step (State.modSec_moves ..) (by decide) ?_
    exact Moves.refl
  clear_value x0
  clear_value x1
  refine Moves.ite ?_ ?_
  · refine Moves.step (State.modSec_moves ..) (by decide) ?_
    with_reducible assumption
  · refine Moves.ite ?_ ?_
    · refine Moves.step (State.lockFree_moves ..) (by decide) ?_
      refine Moves.step (State.modSec_moves ..) (by decide) ?_
      with_reducible assumption
    · with_reducible assumption

theorem State.cipherLockWrite_moves (s a1) : Moves 17592186044673 s (State.cipherLockWrite s a1) := by
  unfold State.cipherLockWrite
  refine Moves.step (State.checked_moves (m := 17592186044673) (hf := fun y0 => ?_) ..) (by decide) ?_
  · extract_lets -merge -underBinder -useContext x1
    have h2 : Moves 17592186044673 y0 x1 := by
      unfold x1
      refine Moves.step (State.applyWrite_moves ..) (by decide) ?_
      exact Moves.refl
    clear_value x1
    refine Moves.ite ?_ ?_
    · refine Moves.step (State.lockRequest_moves ..) (by decide) ?_
      with_reducible assumption
    · refine Moves.step (State.lockRelease_moves ..) (by decide) ?_
      with_reducible assumption
  · exact Moves.refl

theorem execCipherLockRelease_moves (a0 s) : Runs 17592186044673 s (execCipherLockRelease a0 s) := by
  unfold execCipherLockRelease
  refine Runs.ite ?_ ?_
  · refine Runs.next ?_
    refine Moves.step (State.cipherLockWrite_moves ..) (by decide) ?_
    exact Moves.refl
  · refine Runs.ite ?_ ?_
    · refine Runs.next ?_
      refine Moves.step (State.lockRelease_moves ..) (by decide) ?_
      exact Moves.refl
    · refine Runs.next ?_
      exact Moves.refl

theorem execCipherLockRequest_moves (a0 a1 s) : Runs 17592186044673 s (execCipherLockRequest a0 a1 s) := by
  unfold execCipherLockRequest
  refine Runs.ite ?_ ?_
  · refine Runs.next ?_
    refine Moves.step (State.cipherLockWrite_moves ..) (by decide) ?_
    exact Moves.refl
  · refine Runs.next ?_
    refine Moves.step (State.lockRequest_moves ..) (by decide) ?_
    exact Moves.refl

theorem execCipherSha256_moves (a0 s) : Runs 17592186049281 s (execCipherSha256 a0 s) := by
  unfold execCipherSha256
  refine Runs.next ?_
  refine Moves.step (State.jobCmdWrite_moves ..) (by decide) ?_
  exact Moves.refl

theorem execCipherSha384_moves (a0 s) : Runs 17592186049281 s (execCipherSha384 a0 s) := by
  unfold execCipherSha384
  refine Runs.next ?_
  refine Moves.step (State.jobCmdWrite_moves ..) (by decide) ?_
  exact Moves.refl

theorem State.slotRun_moves (s a1) : Moves 17592186044417 s (State.slotRun s a1) := by
  unfold State.slotRun
  extract_lets -merge -underBinder -useContext x0 x1 x2 x3 x4 x5 x6 x7
  clear_value x0
  clear_value x1
  clear_value x2
  clear_value x3
  clear_value x4
  clear_value x5
  have h8 : ∀ y9 y10, Moves 17592186044417 y9 (x6 y9 y10) := by
    intro y9 y10
    unfold x6
    refine Moves.step (State.setSlot_moves ..) (by decide) ?_
    exact Moves.refl
  clear_value x6
  have h11 : Moves 17592186044417 s x7 := by
    unfold x7
    refine Moves.step (State.invoke_moves ..) (by decide) ?_
    exact Moves.refl
  clear_value x7
  split
  · rename_i s12 q12
    have h12 := Moves.at2 (m := 17592186044417) (s := s) q12 (by
      split
      · try dsimp only
        refine Moves.step (State.setSlot_moves ..) (by decide) ?_
        exact Moves.refl
      · split
        · try dsimp only
          refine Moves.step (h8 ..) (by decide) ?_
          exact Moves.refl
        · split
          · try dsimp only
            with_reducible assumption
          · try dsimp only
            refine Moves.step (h8 ..) (by decide) ?_
            with_reducible assumption)
    refine Moves.step (State.postResult_moves ..) (by decide) ?_
    refine Moves.step (State.modSec_moves ..) (by decide) ?_
    with_reducible assumption

theorem State.slotCmdWrite_moves (s a1) : Moves 17592186049281 s (State.slotCmdWrite s a1) := by
  unfold State.slotCmdWrite
  extract_lets -merge -underBinder -useContext x0
  have h1 : Moves 17592186049281 s x0 := by
    unfold x0
    refine Moves.step (State.checked_moves (m := 17592186049281) (hf := fun y2 => ?_) ..) (by decide) ?_
    · refine Moves.step (State.slotRun_moves ..) (by decide) ?_
      exact Moves.refl
    · exact Moves.refl
  clear_value x0
  refine Moves.ite ?_ ?_
  · refine Moves.step (State.exhaustedEvent_moves ..) (by decide) ?_
    with_reducible assumption
  · with_reducible assumption

theorem execCipherSlotErase_moves (a0 s) : Runs 17592186049281 s (execCipherSlotErase a0 s) := by
  unfold execCipherSlotErase
  refine Runs.next ?_
  refine Moves.step (State.slotCmdWrite_moves ..) (by decide) ?_
  exact Moves.refl

theorem execCipherSlotLoad_moves (a0 a1 a2 a3 s) : Runs 17592186049281 s (execCipherSlotLoad a0 a1 a2 a3 s) := by
  unfold execCipherSlotLoad
  refine Runs.next ?_
  refine Moves.step (State.slotCmdWrite_moves ..) (by decide) ?_
  exact Moves.refl

theorem execCipherSlotLoadWrapped_moves (a0 a1 a2 a3 a4 s) : Runs 17592186049281 s (execCipherSlotLoadWrapped a0 a1 a2 a3 a4 s) := by
  unfold execCipherSlotLoadWrapped
  refine Runs.next ?_
  refine Moves.step (State.slotCmdWrite_moves ..) (by decide) ?_
  exact Moves.refl

theorem State.slotSelWrite_moves (s a1) : Moves 4194561 s (State.slotSelWrite s a1) := by
  unfold State.slotSelWrite
  refine Moves.step (State.checked_moves (m := 4194561) (hf := fun y0 => ?_) ..) (by decide) ?_
  · refine Moves.step (State.unvalid_moves ..) (by decide) ?_
    refine Moves.step (State.fetchStart_moves ..) (by decide) ?_
    refine Moves.step (State.applyWrite_moves ..) (by decide) ?_
    exact Moves.refl
  · exact Moves.refl

theorem execCipherSlotSel_moves (a0 s) : Runs 4194561 s (execCipherSlotSel a0 s) := by
  unfold execCipherSlotSel
  refine Runs.next ?_
  refine Moves.step (State.slotSelWrite_moves ..) (by decide) ?_
  exact Moves.refl

theorem execCipherTagZeroised_moves (s) : Runs 19791209337617 s (execCipherTagZeroised s) := by
  unfold execCipherTagZeroised
  split
  · split
    · refine Runs.next ?_
      refine Moves.step (State.jobEnd_moves ..) (by decide) ?_
      refine Moves.step (State.jobZero_moves ..) (by decide) ?_
      refine Moves.step (State.runTo_moves ..) (by decide) ?_
      exact Moves.refl
    · refine Runs.next ?_
      exact Moves.refl
  · refine Runs.next ?_
    exact Moves.refl

theorem execClaimRetry_moves (s) : Runs 412316860560 s (execClaimRetry s) := by
  unfold execClaimRetry
  refine Runs.ite ?_ ?_
  · refine Runs.next ?_
    refine Moves.step (State.claim_moves ..) (by decide) ?_
    refine Moves.step (State.runTo_moves ..) (by decide) ?_
    exact Moves.refl
  · refine Runs.next ?_
    exact Moves.refl

theorem execClusterWakeOnTask_moves (a0 s) : Runs 16385 s (execClusterWakeOnTask a0 s) := by
  unfold execClusterWakeOnTask
  refine Runs.ite ?_ ?_
  · refine Runs.next ?_
    refine Moves.step (State.ungateCluster_moves ..) (by decide) ?_
    exact Moves.refl
  · refine Runs.next ?_
    exact Moves.refl

theorem State.laySelWrite_moves (s a1) : Moves 4194561 s (State.laySelWrite s a1) := by
  unfold State.laySelWrite
  refine Moves.step (State.checked_moves (m := 4194561) (hf := fun y0 => ?_) ..) (by decide) ?_
  · refine Moves.step (State.unvalid_moves ..) (by decide) ?_
    refine Moves.step (State.unvalid_moves ..) (by decide) ?_
    refine Moves.step (State.fetchStart_moves ..) (by decide) ?_
    refine Moves.step (State.applyWrite_moves ..) (by decide) ?_
    exact Moves.refl
  · exact Moves.refl

theorem execCmp0LaySel_moves (a0 a1 s) : Runs 4194561 s (execCmp0LaySel a0 a1 s) := by
  unfold execCmp0LaySel
  refine Runs.next ?_
  refine Moves.step (State.laySelWrite_moves ..) (by decide) ?_
  exact Moves.refl

theorem execCmpeq_moves (a0 a1 a2 a3 s) : Runs 225179981502747521 s (execCmpeq a0 a1 a2 a3 s) := by
  unfold execCmpeq
  refine Runs.next ?_
  refine Moves.step (State.issueOn_moves ..) (by decide) ?_
  exact Moves.refl

theorem execCmplt_moves (a0 a1 a2 a3 s) : Runs 225179981502747521 s (execCmplt a0 a1 a2 a3 s) := by
  unfold execCmplt
  refine Runs.next ?_
  refine Moves.step (State.issueOn_moves ..) (by decide) ?_
  exact Moves.refl

theorem State.senseHottest_moves (s a1) : Moves 4503599627370496 s (State.senseHottest s a1) := by
  unfold State.senseHottest
  refine Moves.step (Moves.set_pins ..) (by decide) ?_
  exact Moves.refl

theorem State.modCrier_moves (s a1) : Moves 2251799813685248 s (State.modCrier s a1) := by
  unfold State.modCrier
  refine Moves.step (Moves.set_crier ..) (by decide) ?_
  exact Moves.refl

theorem execCrierRecord_moves (a0 s) : Runs 6755536880074769 s (execCrierRecord a0 s) := by
  unfold execCrierRecord
  refine Runs.ite ?_ ?_
  · refine Runs.next ?_
    exact Moves.refl
  · extract_lets -merge -underBinder -useContext x0 x1 x2 x3 x4 x5 x6 x7
    have h8 : Moves 6755536880074769 s x0 := by
      unfold x0
      refine Moves.step (State.runTo_moves ..) (by decide) ?_
      exact Moves.refl
    clear_value x0
    clear_value x1
    have h9 : Moves 6755536880074769 s x2 := by
      unfold x2
      refine Moves.step (State.senseHottest_moves ..) (by decide) ?_
      refine Moves.step (Moves.set_pins ..) (by decide) ?_
      with_reducible assumption
    clear_value x2
    clear_value x3
    clear_value x4
    clear_value x5
    have h10 : Moves 6755536880074769 s x6 := by
      unfold x6
      refine Moves.step (State.put_moves ..) (by decide) ?_
      refine Moves.step (State.modCrier_moves ..) (by decide) ?_
      with_reducible assumption
    clear_value x6
    have h11 : Moves 6755536880074769 s x7 := by
      unfold x7
      refine Moves.ite ?_ ?_
      · refine Moves.step (State.hostPut_moves ..) (by decide) ?_
        with_reducible assumption
      · refine Moves.step (State.bumpSat_moves ..) (by decide) ?_
        with_reducible assumption
    clear_value x7
    refine Runs.next ?_
    refine Moves.ite ?_ ?_
    · split
      · refine Moves.step (State.sendMsg_moves ..) (by decide) ?_
        with_reducible assumption
      · with_reducible assumption
    · with_reducible assumption

theorem execCrierRelay_moves (s) : Runs 2251799813750800 s (execCrierRelay s) := by
  unfold execCrierRelay
  refine Runs.ite ?_ ?_
  · refine Runs.next ?_
    exact Moves.refl
  · extract_lets -merge -underBinder -useContext x0 x1 x2 x3 x4 x5
    clear_value x0
    clear_value x1
    have h6 : Moves 2251799813750800 s x2 := by
      unfold x2
      refine Moves.step (State.runTo_moves ..) (by decide) ?_
      exact Moves.refl
    clear_value x2
    clear_value x3
    clear_value x4
    have h7 : Moves 2251799813750800 s x5 := by
      unfold x5
      refine Moves.step (State.modCrier_moves ..) (by decide) ?_
      with_reducible assumption
    clear_value x5
    refine Runs.next ?_
    refine Moves.forEach (fun y8 y9 => ?_) ?_
    · extract_lets -merge -underBinder -useContext x10 x11 x12 x13
      clear_value x10
      clear_value x11
      clear_value x12
      clear_value x13
      refine Moves.ite ?_ ?_
      · refine Moves.step (State.modCrier_moves ..) (by decide) ?_
        refine Moves.step (State.hostPut_moves ..) (by decide) ?_
        exact Moves.refl
      · exact Moves.refl
    · with_reducible assumption

theorem State.devSelWrite_moves (s a1 a2) : Moves 4194561 s (State.devSelWrite s a1 a2) := by
  unfold State.devSelWrite
  refine Moves.step (State.checked_moves (m := 4194561) (hf := fun y0 => ?_) ..) (by decide) ?_
  · refine Moves.step (State.unvalid_moves ..) (by decide) ?_
    refine Moves.step (State.fetchStart_moves ..) (by decide) ?_
    refine Moves.step (State.applyWrite_moves ..) (by decide) ?_
    exact Moves.refl
  · exact Moves.refl

theorem execDdrcDevSel_moves (a0 a1 a2 a3 s) : Runs 4194561 s (execDdrcDevSel a0 a1 a2 a3 s) := by
  unfold execDdrcDevSel
  refine Runs.ite ?_ ?_
  · refine Runs.next ?_
    refine Moves.step (State.devSelWrite_moves ..) (by decide) ?_
    exact Moves.refl
  · refine Runs.next ?_
    exact Moves.refl

theorem execDeviceFatal_moves (a0 a1 s) : Runs 2305851805306978561 s (execDeviceFatal a0 a1 s) := by
  unfold execDeviceFatal
  refine Runs.next ?_
  refine Moves.ite ?_ ?_
  · refine Moves.step (State.deviceFatal_moves ..) (by decide) ?_
    exact Moves.refl
  · exact Moves.refl

theorem execDi_moves (a0 s) : Runs 225179981502747521 s (execDi a0 s) := by
  unfold execDi
  refine Runs.next ?_
  refine Moves.step (State.issueOn_moves ..) (by decide) ?_
  exact Moves.refl

theorem State.diverge_moves (s a1 a2) : Moves 68727870209 s (State.diverge s a1 a2) := by
  unfold State.diverge
  extract_lets -merge -underBinder -useContext x0 x1 x2
  have h3 : Moves 68727870209 s x0 := by
    unfold x0
    refine Moves.step (State.modLeg_moves ..) (by decide) ?_
    exact Moves.refl
  clear_value x0
  have h4 : Moves 68727870209 s x1 := by
    unfold x1
    refine Moves.step (State.modTwin_moves ..) (by decide) ?_
    with_reducible assumption
  clear_value x1
  have h5 : Moves 68727870209 s x2 := by
    unfold x2
    refine Moves.step (State.bump_moves ..) (by decide) ?_
    with_reducible assumption
  clear_value x2
  refine Moves.step (State.showTwin_moves ..) (by decide) ?_
  refine Moves.step (State.event_moves ..) (by decide) ?_
  refine Moves.step (State.post_moves ..) (by decide) ?_
  with_reducible assumption

theorem State.resyncMatch_moves (s a1 a2) : Moves 206166823681 s (State.resyncMatch s a1 a2) := by
  unfold State.resyncMatch
  refine Moves.ite ?_ ?_
  · exact Moves.refl
  · extract_lets -merge -underBinder -useContext x0 x1 x2 x3 x4
    clear_value x0
    clear_value x1
    have h5 : Moves 206166823681 s x2 := by
      unfold x2
      refine Moves.step (State.modTwin_moves ..) (by decide) ?_
      exact Moves.refl
    clear_value x2
    have h6 : Moves 206166823681 s x3 := by
      unfold x3
      refine Moves.step (State.bump_moves ..) (by decide) ?_
      refine Moves.step (State.modLeg_moves ..) (by decide) ?_
      with_reducible assumption
    clear_value x3
    have h7 : Moves 206166823681 s x4 := by
      unfold x4
      refine Moves.step (State.post_moves ..) (by decide) ?_
      with_reducible assumption
    clear_value x4
    refine Moves.ite ?_ ?_
    · refine Moves.step (State.modTwin_moves ..) (by decide) ?_
      exact Moves.refl
    · refine Moves.step (State.showTwin_moves ..) (by decide) ?_
      refine Moves.step (State.sendMsg_moves ..) (by decide) ?_
      with_reducible assumption

theorem execDigestCompare_moves (a0 a1 s) : Runs 206166823809 s (execDigestCompare a0 a1 s) := by
  unfold execDigestCompare
  refine Runs.ite ?_ ?_
  · refine Runs.next ?_
    exact Moves.refl
  · extract_lets -merge -underBinder -useContext x0 x1 x2 x3 x4 x5 x6 x7 x8 x9 x10 x11
    clear_value x0
    clear_value x1
    have h12 : Moves 206166823809 s x2 := by
      unfold x2
      refine Moves.step (State.modTwin_moves ..) (by decide) ?_
      exact Moves.refl
    clear_value x2
    have h13 : Moves 206166823809 s x3 := by
      unfold x3
      refine Moves.step (State.bump_moves ..) (by decide) ?_
      with_reducible assumption
    clear_value x3
    clear_value x4
    clear_value x5
    have h14 : Moves 206166823809 s x6 := by
      unfold x6
      refine Moves.forEach (fun y15 y16 => ?_) ?_
      · refine Moves.step (State.diverge_moves ..) (by decide) ?_
        exact Moves.refl
      · with_reducible assumption
    clear_value x6
    have h17 : Moves 206166823809 s x7 := by
      unfold x7
      refine Moves.ite ?_ ?_
      · with_reducible assumption
      · refine Moves.step (State.sendMsg_moves ..) (by decide) ?_
        with_reducible assumption
    clear_value x7
    have h18 : Moves 206166823809 s x8 := by
      unfold x8
      refine Moves.forEach (fun y19 y20 => ?_) ?_
      · refine Moves.step (State.resyncMatch_moves ..) (by decide) ?_
        exact Moves.refl
      · with_reducible assumption
    clear_value x8
    have h21 : Moves 206166823809 s x9 := by
      unfold x9
      refine Moves.step (State.modTwin_moves ..) (by decide) ?_
      with_reducible assumption
    clear_value x9
    clear_value x10
    clear_value x11
    refine Runs.next ?_
    refine Moves.ite ?_ ?_
    · refine Moves.step (State.enterTwin_moves ..) (by decide) ?_
      with_reducible assumption
    · with_reducible assumption

theorem State.dmaEnter_moves (s a1 a2) : Moves 1 s (State.dmaEnter s a1 a2) := by
  unfold State.dmaEnter
  refine Moves.step (State.put_moves ..) (by decide) ?_
  exact Moves.refl

theorem State.setDma_moves (s a1 a2) : Moves 140737488355328 s (State.setDma s a1 a2) := by
  unfold State.setDma
  refine Moves.step (Moves.set_dma ..) (by decide) ?_
  exact Moves.refl

theorem State.dmaFront_moves (s a1) : Moves 140737488355328 s (State.dmaFront s a1) := by
  unfold State.dmaFront
  extract_lets -merge -underBinder -useContext x0
  clear_value x0
  refine Moves.ite ?_ ?_
  · refine Moves.step (State.setDma_moves ..) (by decide) ?_
    exact Moves.refl
  · exact Moves.refl

theorem State.dmaEvent_moves (s a1 a2) : Moves 257 s (State.dmaEvent s a1 a2) := by
  unfold State.dmaEvent
  refine Moves.step (State.event_moves ..) (by decide) ?_
  exact Moves.refl

theorem State.showDma_moves (s a1) : Moves 1 s (State.showDma s a1) := by
  unfold State.showDma
  extract_lets -merge -underBinder -useContext x0 x1 x2 x3 x4
  clear_value x0
  have h5 : Moves 1 s x1 := by
    unfold x1
    refine Moves.step (State.put_moves ..) (by decide) ?_
    exact Moves.refl
  clear_value x1
  clear_value x2
  clear_value x3
  have h6 : Moves 1 s x4 := by
    unfold x4
    refine Moves.step (State.put_moves ..) (by decide) ?_
    with_reducible assumption
  clear_value x4
  refine Moves.ite ?_ ?_
  · refine Moves.step (State.put_moves ..) (by decide) ?_
    with_reducible assumption
  · with_reducible assumption

theorem State.dmaStop_moves (s a1) : Moves 140737488355585 s (State.dmaStop s a1) := by
  unfold State.dmaStop
  extract_lets -merge -underBinder -useContext x0 x1
  clear_value x0
  have h2 : Moves 140737488355585 s x1 := by
    unfold x1
    refine Moves.step (State.setDma_moves ..) (by decide) ?_
    exact Moves.refl
  clear_value x1
  refine Moves.step (State.dmaEvent_moves ..) (by decide) ?_
  refine Moves.step (State.showDma_moves ..) (by decide) ?_
  refine Moves.step (State.dmaEnter_moves ..) (by decide) ?_
  with_reducible assumption

theorem State.dmaWriteBack_moves (s a1 a2 a3 a4 a5) : Moves 65793 s (State.dmaWriteBack s a1 a2 a3 a4 a5) := by
  unfold State.dmaWriteBack
  extract_lets -merge -underBinder -useContext x0 x1 x2
  clear_value x0
  have h3 : Moves 65793 s x1 := by
    unfold x1
    refine Moves.ite ?_ ?_
    · refine Moves.step (State.hostPut_moves ..) (by decide) ?_
      refine Moves.step (State.hostPut_moves ..) (by decide) ?_
      exact Moves.refl
    · exact Moves.refl
  clear_value x1
  have h4 : Moves 65793 s x2 := by
    unfold x2
    refine Moves.step (State.put_moves ..) (by decide) ?_
    refine Moves.step (State.put_moves ..) (by decide) ?_
    with_reducible assumption
  clear_value x2
  refine Moves.ite ?_ ?_
  · refine Moves.step (State.dmaEvent_moves ..) (by decide) ?_
    with_reducible assumption
  · with_reducible assumption

theorem State.dmaSkip_moves (s a1 a2) : Moves 65793 s (State.dmaSkip s a1 a2) := by
  induction a2 generalizing s a1 with
  | zero => exact Moves.refl
  | succ n ih =>
    unfold State.dmaSkip
    refine Moves.ite ?_ ?_
    · exact Moves.refl
    · extract_lets -merge -underBinder -useContext x0 x1
      clear_value x0
      have h2 : Moves 65793 s x1 := by
        unfold x1
        refine Moves.step (State.dmaWriteBack_moves ..) (by decide) ?_
        exact Moves.refl
      clear_value x1
      refine Moves.ite ?_ ?_
      · refine Moves.step (ih ..) (Nat.or_self _) ?_
        with_reducible assumption
      · with_reducible assumption

theorem State.dmaFinish_moves (s a1 a2 a3) : Moves 707535732588561 s (State.dmaFinish s a1 a2 a3) := by
  unfold State.dmaFinish
  extract_lets -merge -underBinder -useContext x0 x1 x2 x3
  clear_value x0
  have h4 : Moves 707535732588561 s x1 := by
    unfold x1
    refine Moves.ite ?_ ?_
    · refine Moves.forEach (fun y5 y6 => ?_) ?_
      · refine Moves.step (State.dramPut_moves ..) (by decide) ?_
        refine Moves.step (State.dramAccess_moves ..) (by decide) ?_
        exact Moves.refl
      · exact Moves.refl
    · refine Moves.step (State.hostPut_moves ..) (by decide) ?_
      exact Moves.refl
  clear_value x1
  clear_value x2
  have h7 : Moves 707535732588561 s x3 := by
    unfold x3
    refine Moves.step (State.setDma_moves ..) (by decide) ?_
    with_reducible assumption
  clear_value x3
  refine Moves.step (State.showDma_moves ..) (by decide) ?_
  refine Moves.step (State.bump64_moves ..) (by decide) ?_
  with_reducible assumption

end Sys2Proof.Machine
end

