-- ==== Sys2Proof/Laws/MovesAll3.lean ====
section
/-! SUPPORT. One lemma for each function of the machine that answers a state or an outcome: what it may change (part 3 of 4, in the order in which the functions
use one another). -/

namespace Sys2Proof.Machine

theorem State.dmaDrain_moves (s a1 a2) : Moves 707535732588561 s (State.dmaDrain s a1 a2) := by
  unfold State.dmaDrain
  refine Moves.forEach (fun y0 y1 => ?_) ?_
  · refine Moves.step (State.dmaFinish_moves ..) (by decide) ?_
    exact Moves.refl
  · exact Moves.refl

theorem State.dmaSkipAfter_moves (s a1 a2) : Moves 65793 s (State.dmaSkipAfter s a1 a2) := by
  unfold State.dmaSkipAfter
  refine Moves.ite ?_ ?_
  · refine Moves.step (State.dmaSkip_moves ..) (by decide) ?_
    exact Moves.refl
  · exact Moves.refl

theorem State.dmaAbandoned_moves (s a1) : Moves 707535732588817 s (State.dmaAbandoned s a1) := by
  unfold State.dmaAbandoned
  extract_lets -merge -underBinder -useContext x0
  clear_value x0
  refine Moves.ite ?_ ?_
  · refine Moves.step (State.dmaStop_moves ..) (by decide) ?_
    refine Moves.ite ?_ ?_
    · refine Moves.step (State.dmaSkip_moves ..) (by decide) ?_
      exact Moves.refl
    · exact Moves.refl
  · split
    · refine Moves.step (State.dmaStop_moves ..) (by decide) ?_
      exact Moves.refl
    · extract_lets -merge -underBinder -useContext x1 x2 x3
      have h4 : Moves 707535732588817 s x1 := by
        unfold x1
        refine Moves.step (State.dmaDrain_moves ..) (by decide) ?_
        exact Moves.refl
      clear_value x1
      clear_value x2
      have h5 : Moves 707535732588817 s x3 := by
        unfold x3
        refine Moves.step (State.dmaWriteBack_moves ..) (by decide) ?_
        with_reducible assumption
      clear_value x3
      refine Moves.step (State.dmaStop_moves ..) (by decide) ?_
      refine Moves.step (State.dmaSkipAfter_moves ..) (by decide) ?_
      with_reducible assumption

theorem State.dmaCmdWrite_moves (s a1 a2) : Moves 707535732588817 s (State.dmaCmdWrite s a1 a2) := by
  unfold State.dmaCmdWrite
  extract_lets -merge -underBinder -useContext x0
  clear_value x0
  refine Moves.step (State.checked_moves (m := 707535732588817) (hf := fun y1 => ?_) ..) (by decide) ?_
  · refine Moves.ite ?_ ?_
    · refine Moves.step (State.dmaEnter_moves ..) (by decide) ?_
      exact Moves.refl
    · refine Moves.ite ?_ ?_
      · extract_lets -merge -underBinder -useContext x2 x3
        have h4 : Moves 707535732588817 y1 x2 := by
          unfold x2
          refine Moves.step (State.dmaFront_moves ..) (by decide) ?_
          exact Moves.refl
        clear_value x2
        clear_value x3
        refine Moves.step (State.setDma_moves ..) (by decide) ?_
        with_reducible assumption
      · refine Moves.ite ?_ ?_
        · refine Moves.ite ?_ ?_
          · extract_lets -merge -underBinder -useContext x5 x6
            clear_value x5
            have h7 : Moves 707535732588817 y1 x6 := by
              unfold x6
              refine Moves.step (State.dmaEnter_moves ..) (by decide) ?_
              refine Moves.step (State.setDma_moves ..) (by decide) ?_
              exact Moves.refl
            clear_value x6
            refine Moves.ite ?_ ?_
            · refine Moves.step (State.dmaEnter_moves ..) (by decide) ?_
              with_reducible assumption
            · with_reducible assumption
          · refine Moves.step (State.dmaEnter_moves ..) (by decide) ?_
            exact Moves.refl
        · refine Moves.step (State.dmaAbandoned_moves ..) (by decide) ?_
          exact Moves.refl
  · exact Moves.refl

theorem execDmaAbandon_moves (a0 s) : Runs 707535732588817 s (execDmaAbandon a0 s) := by
  unfold execDmaAbandon
  refine Runs.ite ?_ ?_
  · refine Runs.next ?_
    refine Moves.step (State.dmaCmdWrite_moves ..) (by decide) ?_
    exact Moves.refl
  · refine Runs.next ?_
    exact Moves.refl

theorem execDmaAbort_moves (a0 s) : Runs 707535732588817 s (execDmaAbort a0 s) := by
  unfold execDmaAbort
  refine Runs.ite ?_ ?_
  · refine Runs.next ?_
    refine Moves.step (State.dmaCmdWrite_moves ..) (by decide) ?_
    exact Moves.refl
  · refine Runs.next ?_
    exact Moves.refl

theorem execDmaBurstComplete_moves (a0 a1 s) : Runs 707535732588561 s (execDmaBurstComplete a0 a1 s) := by
  unfold execDmaBurstComplete
  extract_lets -merge -underBinder -useContext x0
  clear_value x0
  split
  · refine Runs.next ?_
    refine Moves.step (State.dmaFinish_moves ..) (by decide) ?_
    exact Moves.refl
  · refine Runs.next ?_
    exact Moves.refl

theorem State.dmaDramRead_moves2 (s a1 a2 a3) : Moves 564599220884241 s (State.dmaDramRead s a1 a2 a3).2 := by
  unfold State.dmaDramRead
  refine Moves.foldl2 (fun y0 y1 => ?_) ?_
  · extract_lets -merge -underBinder -useContext x2
    have h3 : Moves 564599220884241 y0.snd x2 := by
      unfold x2
      refine Moves.step (State.dramAccess_moves ..) (by decide) ?_
      exact Moves.refl
    clear_value x2
    split
    · rename_i s4 q4
      have h4 := Moves.at2 (m := 564599220884241) (s := y0.snd) q4 (by
        refine Moves.step (State.decodeLine_moves2 ..) (by decide) ?_
        with_reducible assumption)
      split
      · try dsimp only
        with_reducible assumption
      · split
        · try dsimp only
          with_reducible assumption
        · try dsimp only
          with_reducible assumption
  · exact Moves.refl

theorem State.dmaIssue_moves (s a1 a2 a3 a4 a5) : Moves 705336709239569 s (State.dmaIssue s a1 a2 a3 a4 a5) := by
  unfold State.dmaIssue
  extract_lets -merge -underBinder -useContext x0
  have h1 : Moves 705336709239569 s x0 := by
    unfold x0
    refine Moves.step (State.runTo_moves ..) (by decide) ?_
    exact Moves.refl
  clear_value x0
  split
  · rename_i s2 q2
    have h2 := Moves.at2 (m := 705336709239569) (s := s) q2 (by
      split
      · refine Moves.step (State.dmaDramRead_moves2 ..) (by decide) ?_
        with_reducible assumption
      · try dsimp only
        with_reducible assumption)
    extract_lets -merge -underBinder -useContext x3 x4 x5 x6
    clear_value x3
    clear_value x4
    have h7 : Moves 705336709239569 s x5 := by
      unfold x5
      refine Moves.ite ?_ ?_
      · with_reducible assumption
      · refine Moves.step (State.contained_moves ..) (by decide) ?_
        with_reducible assumption
    clear_value x5
    clear_value x6
    refine Moves.step (State.showDma_moves ..) (by decide) ?_
    refine Moves.step (State.setDma_moves ..) (by decide) ?_
    with_reducible assumption

theorem execDmaBurstStart_moves (a0 s) : Runs 705336709239569 s (execDmaBurstStart a0 s) := by
  unfold execDmaBurstStart
  extract_lets -merge -underBinder -useContext x0
  clear_value x0
  split
  · refine Runs.next ?_
    exact Moves.refl
  · extract_lets -merge -underBinder -useContext x1 x2
    clear_value x1
    clear_value x2
    refine Runs.ite ?_ ?_
    · refine Runs.next ?_
      exact Moves.refl
    · split
      · refine Runs.next ?_
        refine Moves.step (State.dmaIssue_moves ..) (by decide) ?_
        exact Moves.refl
      · refine Runs.ite ?_ ?_
        · refine Runs.next ?_
          exact Moves.refl
        · refine Runs.next ?_
          refine Moves.step (State.dmaIssue_moves ..) (by decide) ?_
          exact Moves.refl

theorem State.dmaHalt_moves (s a1 a2 a3 a4 a5) : Moves 257 s (State.dmaHalt s a1 a2 a3 a4 a5) := by
  unfold State.dmaHalt
  extract_lets -merge -underBinder -useContext x0 x1
  have h2 : Moves 257 s x0 := by
    unfold x0
    refine Moves.step (State.wr64_moves ..) (by decide) ?_
    exact Moves.refl
  clear_value x0
  have h3 : Moves 257 s x1 := by
    unfold x1
    refine Moves.step (State.put_moves ..) (by decide) ?_
    refine Moves.step (State.put_moves ..) (by decide) ?_
    refine Moves.step (State.put_moves ..) (by decide) ?_
    with_reducible assumption
  clear_value x1
  refine Moves.step (State.dmaEvent_moves ..) (by decide) ?_
  refine Moves.step (State.dmaEnter_moves ..) (by decide) ?_
  with_reducible assumption

theorem execDmaBusError_moves (a0 a1 a2 s) : Runs 140737488355585 s (execDmaBusError a0 a1 a2 s) := by
  unfold execDmaBusError
  extract_lets -merge -underBinder -useContext x0
  clear_value x0
  split
  · extract_lets -merge -underBinder -useContext x1
    have h2 : Moves 140737488355585 s x1 := by
      unfold x1
      refine Moves.step (State.showDma_moves ..) (by decide) ?_
      refine Moves.step (State.setDma_moves ..) (by decide) ?_
      exact Moves.refl
    clear_value x1
    refine Runs.next ?_
    refine Moves.ite ?_ ?_
    · refine Moves.step (State.dmaHalt_moves ..) (by decide) ?_
      with_reducible assumption
    · with_reducible assumption
  · refine Runs.next ?_
    exact Moves.refl

theorem State.dmaGoOn_moves (s a1) : Moves 140737488355329 s (State.dmaGoOn s a1) := by
  unfold State.dmaGoOn
  extract_lets -merge -underBinder -useContext x0 x1
  clear_value x0
  have h2 : Moves 140737488355329 s x1 := by
    unfold x1
    refine Moves.step (State.showDma_moves ..) (by decide) ?_
    refine Moves.step (State.setDma_moves ..) (by decide) ?_
    exact Moves.refl
  clear_value x1
  refine Moves.ite ?_ ?_
  · refine Moves.step (State.dmaEnter_moves ..) (by decide) ?_
    with_reducible assumption
  · with_reducible assumption

theorem execDmaDescriptorComplete_moves (a0 s) : Runs 140737488421121 s (execDmaDescriptorComplete a0 s) := by
  unfold execDmaDescriptorComplete
  extract_lets -merge -underBinder -useContext x0
  clear_value x0
  split
  · refine Runs.next ?_
    exact Moves.refl
  · extract_lets -merge -underBinder -useContext x1
    clear_value x1
    refine Runs.ite ?_ ?_
    · refine Runs.next ?_
      exact Moves.refl
    · refine Runs.ite ?_ ?_
      · refine Runs.next ?_
        refine Moves.step (State.dmaStop_moves ..) (by decide) ?_
        refine Moves.step (State.dmaSkipAfter_moves ..) (by decide) ?_
        refine Moves.step (State.dmaWriteBack_moves ..) (by decide) ?_
        exact Moves.refl
      · refine Runs.ite ?_ ?_
        · refine Runs.next ?_
          exact Moves.refl
        · refine Runs.ite ?_ ?_
          · refine Runs.next ?_
            refine Moves.step (State.dmaStop_moves ..) (by decide) ?_
            refine Moves.step (State.dmaSkipAfter_moves ..) (by decide) ?_
            refine Moves.step (State.dmaWriteBack_moves ..) (by decide) ?_
            exact Moves.refl
          · split
            · extract_lets -merge -underBinder -useContext x2
              clear_value x2
              refine Runs.next ?_
              refine Moves.step (State.dmaStop_moves ..) (by decide) ?_
              refine Moves.step (State.dmaSkipAfter_moves ..) (by decide) ?_
              refine Moves.step (State.dmaWriteBack_moves ..) (by decide) ?_
              exact Moves.refl
            · refine Runs.ite ?_ ?_
              · refine Runs.next ?_
                exact Moves.refl
              · extract_lets -merge -underBinder -useContext x3
                have h4 : Moves 140737488421121 s x3 := by
                  unfold x3
                  refine Moves.step (State.dmaWriteBack_moves ..) (by decide) ?_
                  exact Moves.refl
                clear_value x3
                refine Runs.next ?_
                refine Moves.ite ?_ ?_
                · refine Moves.step (State.dmaStop_moves ..) (by decide) ?_
                  with_reducible assumption
                · refine Moves.step (State.dmaGoOn_moves ..) (by decide) ?_
                  with_reducible assumption

theorem execDmaDescriptorFetch_moves (a0 s) : Runs 140737488355328 s (execDmaDescriptorFetch a0 s) := by
  unfold execDmaDescriptorFetch
  extract_lets -merge -underBinder -useContext x0 x1
  clear_value x0
  clear_value x1
  refine Runs.ite ?_ ?_
  · refine Runs.next ?_
    refine Moves.step (State.setDma_moves ..) (by decide) ?_
    exact Moves.refl
  · refine Runs.next ?_
    exact Moves.refl

theorem State.dmaCtrlWrite_moves (s a1 a2) : Moves 140737488355585 s (State.dmaCtrlWrite s a1 a2) := by
  unfold State.dmaCtrlWrite
  refine Moves.step (State.checked_moves (m := 140737488355585) (hf := fun y0 => ?_) ..) (by decide) ?_
  · extract_lets -merge -underBinder -useContext x1 x2
    clear_value x1
    have h3 : Moves 140737488355585 y0 x2 := by
      unfold x2
      refine Moves.step (State.applyWrite_moves ..) (by decide) ?_
      exact Moves.refl
    clear_value x2
    refine Moves.ite ?_ ?_
    · refine Moves.step (State.showDma_moves ..) (by decide) ?_
      refine Moves.step (State.dmaEnter_moves ..) (by decide) ?_
      refine Moves.step (State.setDma_moves ..) (by decide) ?_
      with_reducible assumption
    · refine Moves.ite ?_ ?_
      · refine Moves.step (State.dmaEnter_moves ..) (by decide) ?_
        refine Moves.step (State.put_moves ..) (by decide) ?_
        refine Moves.step (State.put_moves ..) (by decide) ?_
        refine Moves.step (State.setDma_moves ..) (by decide) ?_
        with_reducible assumption
      · with_reducible assumption
  · exact Moves.refl

theorem execDmaDisable_moves (a0 s) : Runs 140737488355585 s (execDmaDisable a0 s) := by
  unfold execDmaDisable
  refine Runs.ite ?_ ?_
  · refine Runs.next ?_
    refine Moves.step (State.dmaCtrlWrite_moves ..) (by decide) ?_
    exact Moves.refl
  · refine Runs.next ?_
    exact Moves.refl

theorem execDmaEnable_moves (a0 s) : Runs 140737488355585 s (execDmaEnable a0 s) := by
  unfold execDmaEnable
  refine Runs.ite ?_ ?_
  · refine Runs.next ?_
    refine Moves.step (State.dmaCtrlWrite_moves ..) (by decide) ?_
    exact Moves.refl
  · refine Runs.next ?_
    exact Moves.refl

theorem execDmaErrAtEnd_moves (a0 a1 s) : Runs 707535732588817 s (execDmaErrAtEnd a0 a1 s) := by
  unfold execDmaErrAtEnd
  extract_lets -merge -underBinder -useContext x0
  clear_value x0
  split
  · refine Runs.ite ?_ ?_
    · extract_lets -merge -underBinder -useContext x1 x2 x3 x4 x5
      have h6 : Moves 707535732588817 s x1 := by
        unfold x1
        refine Moves.step (State.setDma_moves ..) (by decide) ?_
        exact Moves.refl
      clear_value x1
      have h7 : Moves 707535732588817 s x2 := by
        unfold x2
        refine Moves.step (State.dmaDrain_moves ..) (by decide) ?_
        with_reducible assumption
      clear_value x2
      have h8 : Moves 707535732588817 s x3 := by
        unfold x3
        refine Moves.step (State.dmaWriteBack_moves ..) (by decide) ?_
        with_reducible assumption
      clear_value x3
      clear_value x4
      have h9 : Moves 707535732588817 s x5 := by
        unfold x5
        refine Moves.step (State.showDma_moves ..) (by decide) ?_
        refine Moves.step (State.setDma_moves ..) (by decide) ?_
        with_reducible assumption
      clear_value x5
      refine Runs.next ?_
      refine Moves.step (State.dmaHalt_moves ..) (by decide) ?_
      with_reducible assumption
    · refine Runs.next ?_
      exact Moves.refl
  · refine Runs.next ?_
    exact Moves.refl

theorem execDmaResume_moves (a0 s) : Runs 707535732588817 s (execDmaResume a0 s) := by
  unfold execDmaResume
  refine Runs.ite ?_ ?_
  · refine Runs.next ?_
    refine Moves.step (State.dmaCmdWrite_moves ..) (by decide) ?_
    exact Moves.refl
  · refine Runs.next ?_
    exact Moves.refl

theorem execDmaRun_moves (a0 s) : Runs 707535732588817 s (execDmaRun a0 s) := by
  unfold execDmaRun
  refine Runs.ite ?_ ?_
  · refine Runs.next ?_
    refine Moves.step (State.dmaCmdWrite_moves ..) (by decide) ?_
    exact Moves.refl
  · refine Runs.next ?_
    exact Moves.refl

theorem State.dmaTailWrite_moves (s a1 a2) : Moves 257 s (State.dmaTailWrite s a1 a2) := by
  unfold State.dmaTailWrite
  refine Moves.step (State.checked_moves (m := 257) (hf := fun y0 => ?_) ..) (by decide) ?_
  · extract_lets -merge -underBinder -useContext x1
    have h2 : Moves 257 y0 x1 := by
      unfold x1
      refine Moves.step (State.applyWrite_moves ..) (by decide) ?_
      exact Moves.refl
    clear_value x1
    refine Moves.ite ?_ ?_
    · refine Moves.step (State.dmaEnter_moves ..) (by decide) ?_
      with_reducible assumption
    · with_reducible assumption
  · exact Moves.refl

theorem execDmaTailWrite_moves (a0 a1 s) : Runs 257 s (execDmaTailWrite a0 a1 s) := by
  unfold execDmaTailWrite
  refine Runs.ite ?_ ?_
  · refine Runs.next ?_
    refine Moves.step (State.dmaTailWrite_moves ..) (by decide) ?_
    exact Moves.refl
  · refine Runs.next ?_
    exact Moves.refl

theorem State.keepRegs_moves (s k) : Moves 1 s (State.keepRegs s k) := Moves.set_regs _ _ (fun c => Sparse.wf_filter _ _ _ c.1)

theorem State.domForget_moves (s a1) : Moves 216174362670142337 s (State.domForget s a1) := by
  unfold State.domForget
  extract_lets -merge -underBinder -useContext x0 x1 x2 x3
  clear_value x0
  have h4 : Moves 216174362670142337 s x1 := by
    unfold x1
    refine Moves.step (State.keepRegs_moves ..) (by decide) ?_
    exact Moves.refl
  clear_value x1
  clear_value x2
  clear_value x3
  refine Moves.ite ?_ ?_
  · refine Moves.step (Moves.set_mill_csram ..) (by decide) ?_
    with_reducible assumption
  · refine Moves.ite ?_ ?_
    · refine Moves.step (Moves.set_weir ..) (by decide) ?_
      with_reducible assumption
    · refine Moves.ite ?_ ?_
      · refine Moves.forUpTo (fun y5 y6 => ?_) ?_
        · refine Moves.step (State.linkReset_moves ..) (by decide) ?_
          exact Moves.refl
        · with_reducible assumption
      · with_reducible assumption

theorem State.domSleep_moves (s a1) : Moves 1 s (State.domSleep s a1) := by
  unfold State.domSleep
  extract_lets -merge -underBinder -useContext x0
  have h1 : Moves 1 s x0 := by
    unfold x0
    refine Moves.step (State.wr_moves ..) (by decide) ?_
    refine Moves.step (State.wr_moves ..) (by decide) ?_
    exact Moves.refl
  clear_value x0
  refine Moves.step (State.bump_moves ..) (by decide) ?_
  with_reducible assumption

theorem State.islandDown_moves (s a1 a2) : Moves 16641 s (State.islandDown s a1 a2) := by
  unfold State.islandDown
  refine Moves.ite ?_ ?_
  · exact Moves.refl
  · extract_lets -merge -underBinder -useContext x0 x1 x2 x3
    clear_value x0
    have h4 : Moves 16641 s x1 := by
      unfold x1
      refine Moves.step (State.setCrossing_moves ..) (by decide) ?_
      exact Moves.refl
    clear_value x1
    have h5 : Moves 16641 s x2 := by
      unfold x2
      refine Moves.ite ?_ ?_
      · with_reducible assumption
      · refine Moves.step (State.bump_moves ..) (by decide) ?_
        with_reducible assumption
    clear_value x2
    have h6 : Moves 16641 s x3 := by
      unfold x3
      refine Moves.step (State.put_moves ..) (by decide) ?_
      with_reducible assumption
    clear_value x3
    refine Moves.ite ?_ ?_
    · refine Moves.step (State.event_moves ..) (by decide) ?_
      refine Moves.step (State.put_moves ..) (by decide) ?_
      with_reducible assumption
    · with_reducible assumption

theorem State.domOff_moves (s a1 a2) : Moves 216737312623580033 s (State.domOff s a1 a2) := by
  unfold State.domOff
  extract_lets -merge -underBinder -useContext x0 x1 x2 x3 x4 x5 x6 x7
  clear_value x0
  have h8 : Moves 216737312623580033 s x1 := by
    unfold x1
    refine Moves.step (State.domForget_moves ..) (by decide) ?_
    exact Moves.refl
  clear_value x1
  clear_value x2
  have h9 : Moves 216737312623580033 s x3 := by
    unfold x3
    refine Moves.step (State.setDom_moves ..) (by decide) ?_
    with_reducible assumption
  clear_value x3
  have h10 : Moves 216737312623580033 s x4 := by
    unfold x4
    refine Moves.ite ?_ ?_
    · with_reducible assumption
    · refine Moves.step (State.domSleep_moves ..) (by decide) ?_
      with_reducible assumption
  clear_value x4
  have h11 : Moves 216737312623580033 s x5 := by
    unfold x5
    refine Moves.step (State.put_moves ..) (by decide) ?_
    with_reducible assumption
  clear_value x5
  have h12 : Moves 216737312623580033 s x6 := by
    unfold x6
    refine Moves.ite ?_ ?_
    · refine Moves.step (State.setVolt_moves ..) (by decide) ?_
      refine Moves.step (State.put_moves ..) (by decide) ?_
      refine Moves.step (State.put_moves ..) (by decide) ?_
      with_reducible assumption
    · with_reducible assumption
  clear_value x6
  have h13 : Moves 216737312623580033 s x7 := by
    unfold x7
    refine Moves.forEach (fun y14 y15 => ?_) ?_
    · refine Moves.step (State.islandDown_moves ..) (by decide) ?_
      exact Moves.refl
    · with_reducible assumption
  clear_value x7
  refine Moves.step (State.domService_moves ..) (by decide) ?_
  with_reducible assumption

theorem State.domCmdWrite_moves (s a1) : Moves 216737312623580033 s (State.domCmdWrite s a1) := by
  unfold State.domCmdWrite
  extract_lets -merge -underBinder -useContext x0 x1
  clear_value x0
  clear_value x1
  refine Moves.step (State.checked_moves (m := 216737312623580033) (hf := fun y2 => ?_) ..) (by decide) ?_
  · refine Moves.ite ?_ ?_
    · refine Moves.step (State.domOff_moves ..) (by decide) ?_
      exact Moves.refl
    · refine Moves.step (State.domWake_moves ..) (by decide) ?_
      refine Moves.step (State.setDom_moves ..) (by decide) ?_
      exact Moves.refl
  · exact Moves.refl

theorem execDomainOff_moves (a0 s) : Runs 216737312623580033 s (execDomainOff a0 s) := by
  unfold execDomainOff
  refine Runs.next ?_
  refine Moves.step (State.domCmdWrite_moves ..) (by decide) ?_
  exact Moves.refl

theorem execDomainWake_moves (a0 s) : Runs 216737312623580033 s (execDomainWake a0 s) := by
  unfold execDomainWake
  refine Runs.next ?_
  refine Moves.step (State.domCmdWrite_moves ..) (by decide) ?_
  exact Moves.refl

theorem State.putWords_moves (s a1 a2 a3) : Moves 1 s (State.putWords s a1 a2 a3) := by
  unfold State.putWords
  refine Moves.foldl (fun y0 y1 => ?_) ?_
  · refine Moves.step (State.wr_moves ..) (by decide) ?_
    exact Moves.refl
  · exact Moves.refl

theorem execDramLogPop_moves (a0 s) : Runs 549755813897 s (execDramLogPop a0 s) := by
  unfold execDramLogPop
  refine Runs.ite ?_ ?_
  · refine Runs.next ?_
    refine Moves.step (Moves.set_readData ..) (by decide) ?_
    exact Moves.refl
  · extract_lets -merge -underBinder -useContext x0
    clear_value x0
    split
    · extract_lets -merge -underBinder -useContext x1 x2
      have h3 : Moves 549755813897 s x1 := by
        unfold x1
        refine Moves.step (State.setChan_moves ..) (by decide) ?_
        exact Moves.refl
      clear_value x1
      have h4 : Moves 549755813897 s x2 := by
        unfold x2
        refine Moves.step (Moves.set_readData ..) (by decide) ?_
        with_reducible assumption
      clear_value x2
      split
      · refine Runs.next ?_
        with_reducible assumption
      · refine Runs.next ?_
        refine Moves.step (State.putWords_moves ..) (by decide) ?_
        with_reducible assumption

theorem State.fenceAborts_moves (s a1 a2) : Moves 1099511627776 s (State.fenceAborts s a1 a2) := by
  unfold State.fenceAborts
  extract_lets -merge -underBinder -useContext x0 x1 x2
  clear_value x0
  clear_value x1
  clear_value x2
  refine Moves.step (Moves.set_weir ..) (by decide) ?_
  exact Moves.refl

theorem State.nackIgnored_moves (s a1 a2) : Moves 8388608 s (State.nackIgnored s a1 a2) := by
  unfold State.nackIgnored
  refine Moves.step (State.modLeg_moves ..) (by decide) ?_
  exact Moves.refl

theorem State.poisonLoses_moves (s a1) : Moves 9007337239483392 s (State.poisonLoses s a1) := by
  unfold State.poisonLoses
  split
  · exact Moves.refl
  · refine Moves.step (State.modLeg_moves ..) (by decide) ?_
    exact Moves.refl
  · refine Moves.step (State.setVstr_moves ..) (by decide) ?_
    exact Moves.refl
  · split
    · exact Moves.refl
    · extract_lets -merge -underBinder -useContext x0
      have h1 : Moves 9007337239483392 s x0 := by
        unfold x0
        refine Moves.step (State.dropPkt_moves ..) (by decide) ?_
        refine Moves.step (State.unqueue_moves ..) (by decide) ?_
        exact Moves.refl
      clear_value x0
      refine Moves.ite ?_ ?_
      · refine Moves.step (State.nackIgnored_moves ..) (by decide) ?_
        with_reducible assumption
      · with_reducible assumption
  · split
    · exact Moves.refl
    · refine Moves.step (State.setPlayer_moves ..) (by decide) ?_
      exact Moves.refl
  · refine Moves.step (State.modLink_moves ..) (by decide) ?_
    exact Moves.refl

theorem State.poisonRead_moves (s a1 a2 a3) : Moves 2314859142546461953 s (State.poisonRead s a1 a2 a3) := by
  unfold State.poisonRead
  refine Moves.ite ?_ ?_
  · refine Moves.step (State.deviceFatal_moves ..) (by decide) ?_
    exact Moves.refl
  · refine Moves.step (State.poisonLoses_moves ..) (by decide) ?_
    refine Moves.step (State.contained_moves ..) (by decide) ?_
    exact Moves.refl

theorem execDramRead_moves (a0 a1 a2 a3 a4 s) : Runs 2315428139813852945 s (execDramRead a0 a1 a2 a3 a4 s) := by
  unfold execDramRead
  refine Runs.ite ?_ ?_
  · refine Runs.next ?_
    extract_lets -merge -underBinder -useContext x0
    have h1 : Moves 2315428139813852945 s x0 := by
      unfold x0
      refine Moves.step (State.fenceAborts_moves ..) (by decide) ?_
      exact Moves.refl
    clear_value x0
    refine Moves.step (Moves.set_dramRead ..) (by decide) ?_
    with_reducible assumption
  · refine Runs.ite ?_ ?_
    · refine Runs.next ?_
      refine Moves.step (State.dramNoChannel_moves ..) (by decide) ?_
      exact Moves.refl
    · extract_lets -merge -underBinder -useContext x2
      have h3 : Moves 2315428139813852945 s x2 := by
        unfold x2
        refine Moves.step (State.dramAccess_moves ..) (by decide) ?_
        exact Moves.refl
      clear_value x2
      split
      · rename_i s4 q4
        have h4 := Moves.at2 (m := 2315428139813852945) (s := s) q4 (by
          refine Moves.step (State.decodeLine_moves2 ..) (by decide) ?_
          with_reducible assumption)
        refine Runs.ite ?_ ?_
        · refine Runs.next ?_
          refine Moves.step (Moves.set_dramRead ..) (by decide) ?_
          with_reducible assumption
        · refine Runs.next ?_
          extract_lets -merge -underBinder -useContext x5
          have h6 : Moves 2315428139813852945 s x5 := by
            unfold x5
            refine Moves.step (State.poisonRead_moves ..) (by decide) ?_
            with_reducible assumption
          clear_value x5
          refine Moves.step (Moves.set_dramRead ..) (by decide) ?_
          with_reducible assumption

theorem execDramWrite_moves (a0 a1 a2 a3 a4 s) : Runs 571196290683665 s (execDramWrite a0 a1 a2 a3 a4 s) := by
  unfold execDramWrite
  refine Runs.ite ?_ ?_
  · refine Runs.next ?_
    refine Moves.step (State.fenceAborts_moves ..) (by decide) ?_
    exact Moves.refl
  · refine Runs.ite ?_ ?_
    · refine Runs.next ?_
      refine Moves.step (State.dramNoChannel_moves ..) (by decide) ?_
      exact Moves.refl
    · refine Runs.next ?_
      refine Moves.step (State.dramStore_moves ..) (by decide) ?_
      refine Moves.step (State.dramAccess_moves ..) (by decide) ?_
      exact Moves.refl

theorem execDrbgReseed_moves (s) : Runs 17592186044417 s (execDrbgReseed s) := by
  unfold execDrbgReseed
  refine Runs.ite ?_ ?_
  · refine Runs.next ?_
    exact Moves.refl
  · refine Runs.next ?_
    refine Moves.step (State.bump_moves ..) (by decide) ?_
    refine Moves.step (State.modSec_moves ..) (by decide) ?_
    exact Moves.refl

theorem execDumpComplete_moves (a0 s) : Runs 2199023353857 s (execDumpComplete a0 s) := by
  unfold execDumpComplete
  refine Runs.ite ?_ ?_
  · refine Runs.next ?_
    exact Moves.refl
  · extract_lets -merge -underBinder -useContext x0 x1
    clear_value x0
    clear_value x1
    refine Runs.ite ?_ ?_
    · refine Runs.next ?_
      refine Moves.step (State.faultN_moves ..) (by decide) ?_
      refine Moves.step (State.put_moves ..) (by decide) ?_
      refine Moves.step (State.hostPut_moves ..) (by decide) ?_
      exact Moves.refl
    · refine Runs.next ?_
      refine Moves.step (State.faultN_moves ..) (by decide) ?_
      refine Moves.step (State.put_moves ..) (by decide) ?_
      refine Moves.step (State.wr64_moves ..) (by decide) ?_
      refine Moves.step (State.dramPut_moves ..) (by decide) ?_
      exact Moves.refl

theorem execEi_moves (a0 s) : Runs 225179981502747521 s (execEi a0 s) := by
  unfold execEi
  refine Runs.next ?_
  refine Moves.step (State.issueOn_moves ..) (by decide) ?_
  exact Moves.refl

theorem execEngineFault_moves (a0 a1 s) : Runs 3533075007184048897 s (execEngineFault a0 a1 s) := by
  unfold execEngineFault
  refine Runs.next ?_
  refine Moves.ite ?_ ?_
  · refine Moves.step (State.engineFaulted_moves ..) (by decide) ?_
    exact Moves.refl
  · exact Moves.refl

theorem State.weirLift_moves (s a1 a2) : Moves 1099511627776 s (State.weirLift s a1 a2) := by
  unfold State.weirLift
  refine Moves.step (Moves.set_weir ..) (by decide) ?_
  exact Moves.refl

theorem State.engineBack_moves (s a1) : Moves 1099511627776 s (State.engineBack s a1) := by
  unfold State.engineBack
  refine Moves.ite ?_ ?_
  · exact Moves.refl
  · refine Moves.step (State.weirLift_moves ..) (by decide) ?_
    exact Moves.refl

theorem execEngineResetDone_moves (a0 s) : Runs 1152922604118474752 s (execEngineResetDone a0 s) := by
  unfold execEngineResetDone
  refine Runs.next ?_
  refine Moves.step (State.engineBack_moves ..) (by decide) ?_
  refine Moves.step (State.setEng_moves ..) (by decide) ?_
  exact Moves.refl

theorem State.srEnter_moves (s) : Moves 549755830529 s (State.srEnter s) := by
  unfold State.srEnter
  refine Moves.forUpTo (fun y0 y1 => ?_) ?_
  · refine Moves.ite ?_ ?_
    · extract_lets -merge -underBinder -useContext x2 x3
      have h4 : Moves 549755830529 y1 x2 := by
        unfold x2
        refine Moves.step (State.put_moves ..) (by decide) ?_
        refine Moves.step (State.put_moves ..) (by decide) ?_
        refine Moves.step (State.put_moves ..) (by decide) ?_
        exact Moves.refl
      clear_value x2
      clear_value x3
      refine Moves.step (State.islandDown_moves ..) (by decide) ?_
      refine Moves.step (State.setChan_moves ..) (by decide) ?_
      with_reducible assumption
    · exact Moves.refl
  · exact Moves.refl

theorem State.wakeBegin_moves (s a1) : Moves 563499709256449 s (State.wakeBegin s a1) := by
  unfold State.wakeBegin
  extract_lets -merge -underBinder -useContext x0
  have h1 : Moves 563499709256449 s x0 := by
    unfold x0
    refine Moves.step (State.modPwr_moves ..) (by decide) ?_
    exact Moves.refl
  clear_value x0
  refine Moves.step (State.wakeNext_moves ..) (by decide) ?_
  refine Moves.step (State.devEnter_moves ..) (by decide) ?_
  refine Moves.step (State.put_moves ..) (by decide) ?_
  with_reducible assumption

theorem execEntryComplete_moves (s) : Runs 216737862379393921 s (execEntryComplete s) := by
  unfold execEntryComplete
  extract_lets -merge -underBinder -useContext x0 x1 x2 x3 x4 x5
  clear_value x0
  clear_value x1
  clear_value x2
  have h6 : Moves 216737862379393921 s x3 := by
    unfold x3
    refine Moves.forEach (fun y7 y8 => ?_) ?_
    · refine Moves.ite ?_ ?_
      · refine Moves.step (State.domOff_moves ..) (by decide) ?_
        exact Moves.refl
      · exact Moves.refl
    · exact Moves.refl
  clear_value x3
  have h9 : Moves 216737862379393921 s x4 := by
    unfold x4
    refine Moves.step (State.srEnter_moves ..) (by decide) ?_
    with_reducible assumption
  clear_value x4
  have h10 : Moves 216737862379393921 s x5 := by
    unfold x5
    refine Moves.ite ?_ ?_
    · refine Moves.forEach (fun y11 y12 => ?_) ?_
      · refine Moves.ite ?_ ?_
        · refine Moves.step (State.domOff_moves ..) (by decide) ?_
          exact Moves.refl
        · exact Moves.refl
      · with_reducible assumption
    · with_reducible assumption
  clear_value x5
  refine Runs.ite ?_ ?_
  · refine Runs.next ?_
    exact Moves.refl
  · refine Runs.next ?_
    refine Moves.ite ?_ ?_
    · refine Moves.step (State.wakeBegin_moves ..) (by decide) ?_
      with_reducible assumption
    · refine Moves.step (State.devEnter_moves ..) (by decide) ?_
      with_reducible assumption

theorem execEpanisWatchdog_moves (s) : Runs 2305851805306978561 s (execEpanisWatchdog s) := by
  unfold execEpanisWatchdog
  refine Runs.next ?_
  refine Moves.step (State.deviceFatal_moves ..) (by decide) ?_
  exact Moves.refl

theorem State.showPlane_moves (s a1) : Moves 257 s (State.showPlane s a1) := by
  unfold State.showPlane
  extract_lets -merge -underBinder -useContext x0 x1
  clear_value x0
  clear_value x1
  refine Moves.ite ?_ ?_
  · exact Moves.refl
  · refine Moves.step (State.event_moves ..) (by decide) ?_
    refine Moves.step (State.putB_moves ..) (by decide) ?_
    exact Moves.refl

theorem execEthLinkDown_moves (a0 a1 a2 a3 a4 a5 s) : Runs 257 s (execEthLinkDown a0 a1 a2 a3 a4 a5 s) := by
  unfold execEthLinkDown
  refine Runs.ite ?_ ?_
  · extract_lets -merge -underBinder -useContext x0 x1 x2 x3 x4 x5 x6 x7
    have h8 : Moves 257 s x0 := by
      unfold x0
      refine Moves.step (State.putB_moves ..) (by decide) ?_
      refine Moves.step (State.put_moves ..) (by decide) ?_
      exact Moves.refl
    clear_value x0
    have h9 : Moves 257 s x1 := by
      unfold x1
      refine Moves.step (State.putB_moves ..) (by decide) ?_
      with_reducible assumption
    clear_value x1
    have h10 : Moves 257 s x2 := by
      unfold x2
      refine Moves.step (State.putB_moves ..) (by decide) ?_
      with_reducible assumption
    clear_value x2
    have h11 : Moves 257 s x3 := by
      unfold x3
      refine Moves.step (State.putB_moves ..) (by decide) ?_
      with_reducible assumption
    clear_value x3
    have h12 : Moves 257 s x4 := by
      unfold x4
      refine Moves.step (State.put_moves ..) (by decide) ?_
      with_reducible assumption
    clear_value x4
    have h13 : Moves 257 s x5 := by
      unfold x5
      refine Moves.step (State.bump_moves ..) (by decide) ?_
      with_reducible assumption
    clear_value x5
    have h14 : Moves 257 s x6 := by
      unfold x6
      refine Moves.step (State.put_moves ..) (by decide) ?_
      with_reducible assumption
    clear_value x6
    have h15 : Moves 257 s x7 := by
      unfold x7
      refine Moves.step (State.event_moves ..) (by decide) ?_
      with_reducible assumption
    clear_value x7
    refine Runs.ite ?_ ?_
    · refine Runs.next ?_
      refine Moves.step (State.showPlane_moves ..) (by decide) ?_
      with_reducible assumption
    · refine Runs.next ?_
      with_reducible assumption
  · refine Runs.next ?_
    exact Moves.refl

theorem execEthLinkUp_moves (a0 a1 s) : Runs 257 s (execEthLinkUp a0 a1 s) := by
  unfold execEthLinkUp
  refine Runs.ite ?_ ?_
  · extract_lets -merge -underBinder -useContext x0 x1 x2 x3 x4 x5 x6 x7
    clear_value x0
    have h8 : Moves 257 s x1 := by
      unfold x1
      refine Moves.step (State.putB_moves ..) (by decide) ?_
      refine Moves.step (State.put_moves ..) (by decide) ?_
      exact Moves.refl
    clear_value x1
    have h9 : Moves 257 s x2 := by
      unfold x2
      refine Moves.step (State.put_moves ..) (by decide) ?_
      with_reducible assumption
    clear_value x2
    have h10 : Moves 257 s x3 := by
      unfold x3
      refine Moves.step (State.put_moves ..) (by decide) ?_
      with_reducible assumption
    clear_value x3
    have h11 : Moves 257 s x4 := by
      unfold x4
      refine Moves.step (State.put_moves ..) (by decide) ?_
      with_reducible assumption
    clear_value x4
    have h12 : Moves 257 s x5 := by
      unfold x5
      refine Moves.step (State.put_moves ..) (by decide) ?_
      with_reducible assumption
    clear_value x5
    have h13 : Moves 257 s x6 := by
      unfold x6
      refine Moves.step (State.put_moves ..) (by decide) ?_
      with_reducible assumption
    clear_value x6
    have h14 : Moves 257 s x7 := by
      unfold x7
      refine Moves.step (State.event_moves ..) (by decide) ?_
      with_reducible assumption
    clear_value x7
    refine Runs.next ?_
    refine Moves.step (State.showPlane_moves ..) (by decide) ?_
    with_reducible assumption
  · refine Runs.next ?_
    exact Moves.refl

theorem execEventWindowExpire_moves (a0 a1 a2 a3 s) : Runs 134222609 s (execEventWindowExpire a0 a1 a2 a3 s) := by
  unfold execEventWindowExpire
  extract_lets -merge -underBinder -useContext x0 x1 x2 x3
  clear_value x0
  clear_value x1
  have h4 : Moves 134222609 s x2 := by
    unfold x2
    refine Moves.step (State.runTo_moves ..) (by decide) ?_
    exact Moves.refl
  clear_value x2
  have h5 : Moves 134222609 s x3 := by
    unfold x3
    refine Moves.step (State.post_moves ..) (by decide) ?_
    with_reducible assumption
  clear_value x3
  refine Runs.ite ?_ ?_
  · refine Runs.next ?_
    exact Moves.refl
  · refine Runs.ite ?_ ?_
    · refine Runs.next ?_
      refine Moves.step (Moves.set_windows ..) (by decide) ?_
      with_reducible assumption
    · refine Runs.next ?_
      refine Moves.step (Moves.set_windows ..) (by decide) ?_
      with_reducible assumption

theorem State.pointersBad_moves (s a1) : Moves 1536 s (State.pointersBad s a1) := by
  unfold State.pointersBad
  refine Moves.ite ?_ ?_
  · refine Moves.step (Moves.set_evq ..) (by decide) ?_
    exact Moves.refl
  · refine Moves.step (State.setQueue_moves ..) (by decide) ?_
    exact Moves.refl

theorem State.access_moves (s a1 a2) : Moves 2416449281 s (State.access s a1 a2) := by
  unfold State.access
  refine Moves.step (State.queueCheck_moves ..) (by decide) ?_
  refine Moves.ite ?_ ?_
  · refine Moves.step (State.pointersBad_moves ..) (by decide) ?_
    exact Moves.refl
  · exact Moves.refl

theorem execEvqPop_moves (a0 a1 s) : Runs 2416449289 s (execEvqPop a0 a1 s) := by
  unfold execEvqPop
  refine Runs.ite ?_ ?_
  · refine Runs.next ?_
    refine Moves.step (Moves.set_readData ..) (by decide) ?_
    exact Moves.refl
  · extract_lets -merge -underBinder -useContext x0 x1
    have h2 : Moves 2416449289 s x0 := by
      unfold x0
      refine Moves.step (State.access_moves ..) (by decide) ?_
      exact Moves.refl
    clear_value x0
    clear_value x1
    split
    · refine Runs.next ?_
      refine Moves.step (Moves.set_readData ..) (by decide) ?_
      with_reducible assumption
    · extract_lets -merge -underBinder -useContext x3 x4 x5 x6 x7 x8 x9 x10
      clear_value x3
      clear_value x4
      clear_value x5
      have h11 : Moves 2416449289 s x6 := by
        unfold x6
        refine Moves.step (Moves.set_evq_freeCells ..) (by decide) ?_
        with_reducible assumption
      clear_value x6
      have h12 : Moves 2416449289 s x7 := by
        unfold x7
        refine Moves.step (State.wr_moves ..) (by decide) ?_
        with_reducible assumption
      clear_value x7
      have h13 : Moves 2416449289 s x8 := by
        unfold x8
        refine Moves.step (State.wr_moves ..) (by decide) ?_
        with_reducible assumption
      clear_value x8
      have h14 : Moves 2416449289 s x9 := by
        unfold x9
        refine Moves.step (State.wr_moves ..) (by decide) ?_
        with_reducible assumption
      clear_value x9
      have h15 : Moves 2416449289 s x10 := by
        unfold x10
        refine Moves.step (State.wr_moves ..) (by decide) ?_
        with_reducible assumption
      clear_value x10
      refine Runs.next ?_
      refine Moves.step (Moves.set_readData ..) (by decide) ?_
      with_reducible assumption

theorem execFabricRevertHoldExpire_moves (s) : Runs 412316860560 s (execFabricRevertHoldExpire s) := by
  unfold execFabricRevertHoldExpire
  split
  · refine Runs.ite ?_ ?_
    · refine Runs.next ?_
      exact Moves.refl
    · extract_lets -merge -underBinder -useContext x0 x1 x2
      have h3 : Moves 412316860560 s x0 := by
        unfold x0
        refine Moves.step (State.runTo_moves ..) (by decide) ?_
        exact Moves.refl
      clear_value x0
      clear_value x1
      have h4 : Moves 412316860560 s x2 := by
        unfold x2
        refine Moves.step (State.modFab_moves ..) (by decide) ?_
        with_reducible assumption
      clear_value x2
      refine Runs.next ?_
      refine Moves.step (State.sendTopo_moves ..) (by decide) ?_
      with_reducible assumption
  · refine Runs.next ?_
    exact Moves.refl

theorem execFatalDeadline_moves (s) : Runs 17 s (execFatalDeadline s) := by
  unfold execFatalDeadline
  split
  · refine Runs.next ?_
    exact Moves.refl
  · refine Runs.next ?_
    refine Moves.step (State.faultN_moves ..) (by decide) ?_
    refine Moves.step (State.runTo_moves ..) (by decide) ?_
    exact Moves.refl

theorem execFaultLogPop_moves (s) : Runs 262153 s (execFaultLogPop s) := by
  unfold execFaultLogPop
  refine Runs.ite ?_ ?_
  · refine Runs.next ?_
    refine Moves.step (Moves.set_readData ..) (by decide) ?_
    exact Moves.refl
  · split
    · extract_lets -merge -underBinder -useContext x0
      have h1 : Moves 262153 s x0 := by
        unfold x0
        refine Moves.step (Moves.set_readData_faultLog ..) (by decide) ?_
        exact Moves.refl
      clear_value x0
      split
      · refine Runs.next ?_
        with_reducible assumption
      · refine Runs.next ?_
        refine Moves.step (State.putWords_moves ..) (by decide) ?_
        with_reducible assumption

theorem State.revoke_moves (s a1) : Moves 1 s (State.revoke s a1) := by
  unfold State.revoke
  refine Moves.ite ?_ ?_
  · refine Moves.step (State.bump_moves ..) (by decide) ?_
    exact Moves.refl
  · exact Moves.refl

theorem State.requeue_moves (s a1 a2) : Moves 1152921504606846977 s (State.requeue s a1 a2) := by
  unfold State.requeue
  extract_lets -merge -underBinder -useContext x0 x1 x2 x3
  clear_value x0
  clear_value x1
  have h4 : Moves 1152921504606846977 s x2 := by
    unfold x2
    refine Moves.step (Moves.set_reeve ..) (by decide) ?_
    exact Moves.refl
  clear_value x2
  have h5 : Moves 1152921504606846977 s x3 := by
    unfold x3
    refine Moves.step (State.bump_moves ..) (by decide) ?_
    with_reducible assumption
  clear_value x3
  refine Moves.step (State.modTask_moves ..) (by decide) ?_
  with_reducible assumption

theorem State.fencedTask_moves (s a1 a2 a3 a4) : Moves 1152921504606846977 s (State.fencedTask s a1 a2 a3 a4) := by
  unfold State.fencedTask
  extract_lets -merge -underBinder -useContext x0 x1
  have h2 : Moves 1152921504606846977 s x0 := by
    unfold x0
    refine Moves.step (State.revoke_moves ..) (by decide) ?_
    exact Moves.refl
  clear_value x0
  have h3 : Moves 1152921504606846977 s x1 := by
    unfold x1
    refine Moves.step (State.modTask_moves ..) (by decide) ?_
    with_reducible assumption
  clear_value x1
  refine Moves.ite ?_ ?_
  · refine Moves.step (State.modTask_moves ..) (by decide) ?_
    with_reducible assumption
  · refine Moves.ite ?_ ?_
    · refine Moves.step (State.requeue_moves ..) (by decide) ?_
      with_reducible assumption
    · refine Moves.ite ?_ ?_
      · refine Moves.step (State.modTask_moves ..) (by decide) ?_
        with_reducible assumption
      · refine Moves.step (State.requeue_moves ..) (by decide) ?_
        with_reducible assumption

theorem State.fenceEmpty_moves (s a1) : Moves 3524067872229562241 s (State.fenceEmpty s a1) := by
  unfold State.fenceEmpty
  extract_lets -merge -underBinder -useContext x0
  clear_value x0
  split
  · exact Moves.refl
  · extract_lets -merge -underBinder -useContext x1 x2 x3 x4 x5
    have h6 : Moves 3524067872229562241 s x1 := by
      unfold x1
      refine Moves.step (State.setEng_moves ..) (by decide) ?_
      exact Moves.refl
    clear_value x1
    clear_value x2
    have h7 : Moves 3524067872229562241 s x3 := by
      unfold x3
      split
      · refine Moves.step (State.fencedTask_moves ..) (by decide) ?_
        with_reducible assumption
      · with_reducible assumption
    clear_value x3
    have h8 : Moves 3524067872229562241 s x4 := by
      unfold x4
      split
      · refine Moves.step (State.faultCounted_moves ..) (by decide) ?_
        with_reducible assumption
      · with_reducible assumption
    clear_value x4
    clear_value x5
    refine Moves.step (State.engineBack_moves ..) (by decide) ?_
    refine Moves.ite ?_ ?_
    · refine Moves.step (State.releaseTurn_moves ..) (by decide) ?_
      with_reducible assumption
    · refine Moves.step (State.showReeve_moves ..) (by decide) ?_
      with_reducible assumption

theorem execFenceEmpty_moves (a0 a1 a2 s) : Runs 3524067872229562241 s (execFenceEmpty a0 a1 a2 s) := by
  unfold execFenceEmpty
  refine Runs.ite ?_ ?_
  · extract_lets -merge -underBinder -useContext x0 x1 x2
    clear_value x0
    clear_value x1
    have h3 : Moves 3524067872229562241 s x2 := by
      unfold x2
      refine Moves.step (Moves.set_weir ..) (by decide) ?_
      exact Moves.refl
    clear_value x2
    split
    · refine Runs.next ?_
      with_reducible assumption
    · extract_lets -merge -underBinder -useContext x4 x5 x6
      clear_value x4
      clear_value x5
      have h7 : Moves 3524067872229562241 s x6 := by
        unfold x6
        refine Moves.step (Moves.set_weir ..) (by decide) ?_
        with_reducible assumption
      clear_value x6
      split
      · refine Runs.next ?_
        refine Moves.step (State.fenceEmpty_moves ..) (by decide) ?_
        with_reducible assumption
      · refine Runs.next ?_
        with_reducible assumption
  · refine Runs.next ?_
    exact Moves.refl

theorem execFenceReadComplete_moves (s) : Runs 2097161 s (execFenceReadComplete s) := by
  unfold execFenceReadComplete
  split
  · refine Runs.next ?_
    exact Moves.refl
  · refine Runs.next ?_
    extract_lets -merge -underBinder -useContext x0
    have h1 : Moves 2097161 s x0 := by
      unfold x0
      refine Moves.step (State.put_moves ..) (by decide) ?_
      exact Moves.refl
    clear_value x0
    refine Moves.step (Moves.set_readData_fences ..) (by decide) ?_
    with_reducible assumption

theorem execFenceTimeout_moves (a0 a1 s) : Runs 2305851805306978577 s (execFenceTimeout a0 a1 s) := by
  unfold execFenceTimeout
  split
  · refine Runs.next ?_
    exact Moves.refl
  · refine Runs.next ?_
    refine Moves.step (State.deviceFatal_moves ..) (by decide) ?_
    refine Moves.step (State.runTo_moves ..) (by decide) ?_
    exact Moves.refl

theorem execFrameBoundary_moves (a0 s) : Runs 1215972376007155697 s (execFrameBoundary a0 s) := by
  unfold execFrameBoundary
  extract_lets -merge -underBinder -useContext x0 x1 x2 x3 x4 x5 x6
  clear_value x0
  clear_value x1
  have h7 : Moves 1215972376007155697 s x2 := by
    unfold x2
    refine Moves.step (State.runTo_moves ..) (by decide) ?_
    exact Moves.refl
  clear_value x2
  have h8 : Moves 1215972376007155697 s x3 := by
    unfold x3
    refine Moves.step (State.limitsPassed_moves ..) (by decide) ?_
    refine Moves.step (State.fixedEdge_moves ..) (by decide) ?_
    with_reducible assumption
  clear_value x3
  have h9 : Moves 1215972376007155697 s x4 := by
    unfold x4
    refine Moves.step (State.gateFrame_moves ..) (by decide) ?_
    with_reducible assumption
  clear_value x4
  clear_value x5
  clear_value x6
  refine Runs.ite ?_ ?_
  · refine Runs.next ?_
    exact Moves.refl
  · refine Runs.ite ?_ ?_
    · refine Runs.next ?_
      refine Moves.step (State.releaseAll_moves ..) (by decide) ?_
      refine Moves.step (State.composeAt_moves ..) (by decide) ?_
      with_reducible assumption
    · refine Runs.next ?_
      refine Moves.ite ?_ ?_
      · refine Moves.step (State.setLayout_moves ..) (by decide) ?_
        with_reducible assumption
      · with_reducible assumption

theorem State.departed_moves (s a1 a2 a3) : Moves 257 s (State.departed s a1 a2 a3) := by
  unfold State.departed
  extract_lets -merge -underBinder -useContext x0 x1 x2 x3 x4
  have h5 : Moves 257 s x0 := by
    unfold x0
    refine Moves.step (State.bump64_moves ..) (by decide) ?_
    exact Moves.refl
  clear_value x0
  have h6 : Moves 257 s x1 := by
    unfold x1
    refine Moves.ite ?_ ?_
    · refine Moves.step (State.bump_moves ..) (by decide) ?_
      with_reducible assumption
    · refine Moves.step (State.bump_moves ..) (by decide) ?_
      with_reducible assumption
  clear_value x1
  clear_value x2
  clear_value x3
  have h7 : Moves 257 s x4 := by
    unfold x4
    refine Moves.step (State.put_moves ..) (by decide) ?_
    with_reducible assumption
  clear_value x4
  refine Moves.ite ?_ ?_
  · refine Moves.ite ?_ ?_
    · refine Moves.step (State.event_moves ..) (by decide) ?_
      with_reducible assumption
    · with_reducible assumption
  · with_reducible assumption

theorem State.ptpLeaves_moves (s a1 a2) : Moves 32 s (State.ptpLeaves s a1 a2) := by
  unfold State.ptpLeaves
  extract_lets -merge -underBinder -useContext x0 x1 x2 x3 x4 x5
  clear_value x0
  clear_value x1
  have h6 : Moves 32 s x2 := by
    unfold x2
    refine Moves.ite ?_ ?_
    · refine Moves.step (Moves.set_bel ..) (by decide) ?_
      exact Moves.refl
    · exact Moves.refl
  clear_value x2
  clear_value x3
  clear_value x4
  clear_value x5
  refine Moves.step (Moves.set_bel ..) (by decide) ?_
  with_reducible assumption

theorem State.frameLeaves_moves (s a1 a2 a3) : Moves 268440865 s (State.frameLeaves s a1 a2 a3) := by
  unfold State.frameLeaves
  extract_lets -merge -underBinder -useContext x0 x1 x2
  have h3 : Moves 268440865 s x0 := by
    unfold x0
    split
    · refine Moves.step (State.unqueue_moves ..) (by decide) ?_
      exact Moves.refl
    · exact Moves.refl
  clear_value x0
  have h4 : Moves 268440865 s x1 := by
    unfold x1
    refine Moves.step (State.departed_moves ..) (by decide) ?_
    with_reducible assumption
  clear_value x1
  have h5 : Moves 268440865 s x2 := by
    unfold x2
    refine Moves.ite ?_ ?_
    · split
      · refine Moves.step (State.ptpLeaves_moves ..) (by decide) ?_
        with_reducible assumption
      · with_reducible assumption
    · refine Moves.step (State.bump_moves ..) (by decide) ?_
      with_reducible assumption
  clear_value x2
  refine Moves.step (State.injFollow_moves ..) (by decide) ?_
  with_reducible assumption

theorem execFrameDepart_moves (a0 s) : Runs 2415924513 s (execFrameDepart a0 s) := by
  unfold execFrameDepart
  refine Runs.ite ?_ ?_
  · refine Runs.next ?_
    exact Moves.refl
  · split
    · refine Runs.next ?_
      exact Moves.refl
    · refine Runs.next ?_
      refine Moves.step (State.frameLeaves_moves ..) (by decide) ?_
      refine Moves.step (State.setPort_moves ..) (by decide) ?_
      exact Moves.refl

theorem State.punt_moves (s a1 a2 a3 a4 a5) : Moves 565699000980225 s (State.punt s a1 a2 a3 a4 a5) := by
  unfold State.punt
  extract_lets -merge -underBinder -useContext x0 x1 x2 x3 x4 x5 x6 x7
  clear_value x0
  clear_value x1
  clear_value x2
  clear_value x3
  have h8 : Moves 565699000980225 s x4 := by
    unfold x4
    refine Moves.step (State.dramPut_moves ..) (by decide) ?_
    refine Moves.step (State.excursion_moves ..) (by decide) ?_
    exact Moves.refl
  clear_value x4
  clear_value x5
  have h9 : Moves 565699000980225 s x6 := by
    unfold x6
    refine Moves.step (State.setPlane_moves ..) (by decide) ?_
    with_reducible assumption
  clear_value x6
  have h10 : Moves 565699000980225 s x7 := by
    unfold x7
    refine Moves.step (State.put_moves ..) (by decide) ?_
    with_reducible assumption
  clear_value x7
  refine Moves.ite ?_ ?_
  · refine Moves.step (State.bumpSat_moves ..) (by decide) ?_
    exact Moves.refl
  · refine Moves.ite ?_ ?_
    · refine Moves.step (State.bumpSat_moves ..) (by decide) ?_
      exact Moves.refl
    · refine Moves.ite ?_ ?_
      · refine Moves.step (State.bumpSat_moves ..) (by decide) ?_
        exact Moves.refl
      · refine Moves.step (State.post_moves ..) (by decide) ?_
        with_reducible assumption

theorem State.matchStore_moves (s a1 a2) : Moves 68719476736 s (State.matchStore s a1 a2) := by
  unfold State.matchStore
  refine Moves.step (Moves.set_twin ..) (by decide) ?_
  exact Moves.refl

theorem State.police_moves2 (s a1 a2 a3) : Moves 8388609 s (State.police s a1 a2 a3).2 := by
  unfold State.police
  split
  · exact Moves.refl
  · split
    · extract_lets -merge -underBinder -useContext x0
      have h1 : Moves 8388609 s x0 := by
        unfold x0
        refine Moves.step (State.modLeg_moves ..) (by decide) ?_
        exact Moves.refl
      clear_value x0
      split
      · try dsimp only
        with_reducible assumption
      · try dsimp only
        refine Moves.step (State.bump_moves ..) (by decide) ?_
        refine Moves.step (State.modLeg_moves ..) (by decide) ?_
        with_reducible assumption

theorem State.tapPacket_moves (s a1 a2 a3 a4) : Moves 33554432 s (State.tapPacket s a1 a2 a3 a4) := by
  unfold State.tapPacket
  refine Moves.forEach (fun y0 y1 => ?_) ?_
  · refine Moves.step (State.setTap_moves ..) (by decide) ?_
    exact Moves.refl
  · exact Moves.refl

theorem State.feedback_moves (s a1) : Moves 8393473 s (State.feedback s a1) := by
  unfold State.feedback
  extract_lets -merge -underBinder -useContext x0 x1 x2
  clear_value x0
  clear_value x1
  have h3 : Moves 8393473 s x2 := by
    unfold x2
    refine Moves.step (State.setLeg_moves ..) (by decide) ?_
    exact Moves.refl
  clear_value x2
  refine Moves.ite ?_ ?_
  · refine Moves.step (State.post_moves ..) (by decide) ?_
    with_reducible assumption
  · with_reducible assumption

theorem State.retransmit_moves (s a1 a2 a3) : Moves 2425886465 s (State.retransmit s a1 a2 a3) := by
  unfold State.retransmit
  extract_lets -merge -underBinder -useContext x0 x1
  clear_value x0
  clear_value x1
  split
  · refine Moves.step (State.nackIgnored_moves ..) (by decide) ?_
    exact Moves.refl
  · extract_lets -merge -underBinder -useContext x2 x3
    clear_value x2
    clear_value x3
    refine Moves.ite ?_ ?_
    · refine Moves.step (State.nackIgnored_moves ..) (by decide) ?_
      exact Moves.refl
    · refine Moves.step (State.enqueuePkt_moves ..) (by decide) ?_
      exact Moves.refl

theorem State.nackRx_moves (s a1 a2 a3) : Moves 2425886465 s (State.nackRx s a1 a2 a3) := by
  unfold State.nackRx
  extract_lets -merge -underBinder -useContext x0
  clear_value x0
  split
  · exact Moves.refl
  · refine Moves.ite ?_ ?_
    · refine Moves.step (State.nackIgnored_moves ..) (by decide) ?_
      exact Moves.refl
    · refine Moves.forEach (fun y1 y2 => ?_) ?_
      · refine Moves.step (State.retransmit_moves ..) (by decide) ?_
        exact Moves.refl
      · exact Moves.refl

theorem State.keyReqRx_moves (s a1 a2 a3) : Moves 11552691969 s (State.keyReqRx s a1 a2 a3) := by
  unfold State.keyReqRx
  split
  · exact Moves.refl
  · refine Moves.ite ?_ ?_
    · refine Moves.step (State.requestSweep_moves ..) (by decide) ?_
      exact Moves.refl
    · refine Moves.step (State.requestPli_moves ..) (by decide) ?_
      exact Moves.refl

theorem State.rtcpItem_moves (s a1 a2 a3) : Moves 11552691969 s (State.rtcpItem s a1 a2 a3) := by
  unfold State.rtcpItem
  split
  · refine Moves.step (State.modLeg_moves ..) (by decide) ?_
    exact Moves.refl
  · exact Moves.refl
  · refine Moves.ite ?_ ?_
    · exact Moves.refl
    · extract_lets -merge -underBinder -useContext x0
      have h1 : Moves 11552691969 s x0 := by
        unfold x0
        refine Moves.step (State.feedback_moves ..) (by decide) ?_
        exact Moves.refl
      clear_value x0
      refine Moves.step (State.modLeg_moves ..) (by decide) ?_
      with_reducible assumption
  · refine Moves.step (State.post_moves ..) (by decide) ?_
    exact Moves.refl
  · refine Moves.step (State.nackRx_moves ..) (by decide) ?_
    exact Moves.refl
  · refine Moves.step (State.keyReqRx_moves ..) (by decide) ?_
    exact Moves.refl
  · refine Moves.step (State.keyReqRx_moves ..) (by decide) ?_
    exact Moves.refl
  · refine Moves.step (State.sendRtcp_moves ..) (by decide) ?_
    refine Moves.step (State.modLeg_moves ..) (by decide) ?_
    exact Moves.refl
  · extract_lets -merge -underBinder -useContext x2
    have h3 : Moves 11552691969 s x2 := by
      unfold x2
      refine Moves.step (State.feedback_moves ..) (by decide) ?_
      exact Moves.refl
    clear_value x2
    refine Moves.step (State.modLeg_moves ..) (by decide) ?_
    with_reducible assumption

theorem State.jbAdmit_moves (s a1 a2 a3) : Moves 8393473 s (State.jbAdmit s a1 a2 a3) := by
  unfold State.jbAdmit
  extract_lets -merge -underBinder -useContext x0 x1 x2 x3 x4 x5 x6 x7 x8 x9 x10 x11 x12 x13 x14 x15 x16 x17 x18
  clear_value x0
  clear_value x1
  clear_value x2
  clear_value x3
  clear_value x4
  clear_value x5
  clear_value x6
  clear_value x7
  clear_value x8
  clear_value x9
  clear_value x10
  clear_value x11
  clear_value x12
  clear_value x13
  clear_value x14
  clear_value x15
  clear_value x16
  clear_value x17
  have h19 : Moves 8393473 s x18 := by
    unfold x18
    refine Moves.step (State.setLeg_moves ..) (by decide) ?_
    exact Moves.refl
  clear_value x18
  refine Moves.ite ?_ ?_
  · refine Moves.step (State.post_moves ..) (by decide) ?_
    with_reducible assumption
  · with_reducible assumption

theorem State.heard_moves (s a1 a2 a3 a4) : Moves 8388608 s (State.heard s a1 a2 a3 a4) := by
  unfold State.heard
  refine Moves.step (State.modLeg_moves ..) (by decide) ?_
  exact Moves.refl

theorem State.recallPut_moves (s a1 a2 a3) : Moves 2199023288320 s (State.recallPut s a1 a2 a3) := by
  induction a3 generalizing s a1 a2 with
  | nil => exact Moves.refl
  | cons b t ih =>
    unfold State.recallPut
    extract_lets -merge -underBinder -useContext x0
    clear_value x0
    refine Moves.step (ih ..) (Nat.or_self _) ?_
    refine Moves.step (State.dramPut_moves ..) (by decide) ?_
    exact Moves.refl

theorem State.recallAppend_moves (s a1 a2 a3 a4 a5) : Moves 2199040070401 s (State.recallAppend s a1 a2 a3 a4 a5) := by
  unfold State.recallAppend
  split
  · exact Moves.refl
  · refine Moves.ite ?_ ?_
    · exact Moves.refl
    · extract_lets -merge -underBinder -useContext x0 x1 x2 x3 x4
      clear_value x0
      clear_value x1
      have h5 : Moves 2199040070401 s x2 := by
        unfold x2
        refine Moves.step (State.setConf_moves ..) (by decide) ?_
        exact Moves.refl
      clear_value x2
      clear_value x3
      have h6 : Moves 2199040070401 s x4 := by
        unfold x4
        refine Moves.step (State.recallPut_moves ..) (by decide) ?_
        exact Moves.refl
      clear_value x4
      refine Moves.ite ?_ ?_
      · refine Moves.ite ?_ ?_
        · refine Moves.step (State.post_moves ..) (by decide) ?_
          with_reducible assumption
        · with_reducible assumption
      · refine Moves.step (State.setConf_moves ..) (by decide) ?_
        with_reducible assumption

theorem State.admitted_moves (s a1 a2 a3 a4 a5 a6 a7 a8) : Moves 2416784744193 s (State.admitted s a1 a2 a3 a4 a5 a6 a7 a8) := by
  unfold State.admitted
  extract_lets -merge -underBinder -useContext x0 x1 x2 x3 x4 x5 x6 x7 x8
  clear_value x0
  clear_value x1
  clear_value x2
  have h9 : Moves 2416784744193 s x3 := by
    unfold x3
    refine Moves.step (State.record_moves ..) (by decide) ?_
    exact Moves.refl
  clear_value x3
  clear_value x4
  have h10 : Moves 2416784744193 s x5 := by
    unfold x5
    refine Moves.step (State.setLeg_moves ..) (by decide) ?_
    with_reducible assumption
  clear_value x5
  have h11 : Moves 2416784744193 s x6 := by
    unfold x6
    refine Moves.ite ?_ ?_
    · refine Moves.step (State.post_moves ..) (by decide) ?_
      with_reducible assumption
    · with_reducible assumption
  clear_value x6
  have h12 : Moves 2416784744193 s x7 := by
    unfold x7
    refine Moves.step (State.tapPacket_moves ..) (by decide) ?_
    with_reducible assumption
  clear_value x7
  have h13 : Moves 2416784744193 s x8 := by
    unfold x8
    refine Moves.step (State.jbAdmit_moves ..) (by decide) ?_
    refine Moves.step (State.heard_moves ..) (by decide) ?_
    with_reducible assumption
  clear_value x8
  refine Moves.ite ?_ ?_
  · refine Moves.ite ?_ ?_
    · refine Moves.forEach (fun y14 y15 => ?_) ?_
      · refine Moves.step (State.rtcpItem_moves ..) (by decide) ?_
        exact Moves.refl
      · with_reducible assumption
    · with_reducible assumption
  · refine Moves.ite ?_ ?_
    · refine Moves.ite ?_ ?_
      · with_reducible assumption
      · refine Moves.step (State.recallAppend_moves ..) (by decide) ?_
        with_reducible assumption
    · split
      · refine Moves.step (State.videoAdmit_moves ..) (by decide) ?_
        refine Moves.step (State.heard_moves ..) (by decide) ?_
        with_reducible assumption
      · split
        · refine Moves.step (State.videoAdmit_moves ..) (by decide) ?_
          refine Moves.step (State.heard_moves ..) (by decide) ?_
          with_reducible assumption
        · refine Moves.step (State.bump_moves ..) (by decide) ?_
          with_reducible assumption

theorem State.replay_moves22 (s a1 a2) : Moves 4294967296 s (State.replay s a1 a2).2.2 := by
  unfold State.replay
  extract_lets -merge -underBinder -useContext x0 x1 x2
  clear_value x0
  clear_value x1
  clear_value x2
  split
  · split
    · try dsimp only
      refine Moves.step (Moves.set_rxWin ..) (by decide) ?_
      exact Moves.refl
  · split
    · try dsimp only
      refine Moves.step (Moves.set_rxWin ..) (by decide) ?_
      exact Moves.refl

theorem State.srtpRx_moves (s a1 a2 a3 a4 a5 a6) : Moves 2421079711489 s (State.srtpRx s a1 a2 a3 a4 a5 a6) := by
  unfold State.srtpRx
  extract_lets -merge -underBinder -useContext x0
  clear_value x0
  refine Moves.ite ?_ ?_
  · refine Moves.step (State.bump_moves ..) (by decide) ?_
    exact Moves.refl
  · split
    · split
      · refine Moves.ite ?_ ?_
        · refine Moves.step (State.bump_moves ..) (by decide) ?_
          exact Moves.refl
        · refine Moves.step (State.bump_moves ..) (by decide) ?_
          refine Moves.step (State.modLeg_moves ..) (by decide) ?_
          exact Moves.refl
      · extract_lets -merge -underBinder -useContext x1 x2
        clear_value x1
        have h3 : Moves 2421079711489 s x2 := by
          unfold x2
          refine Moves.ite ?_ ?_
          · refine Moves.step (State.post_moves ..) (by decide) ?_
            refine Moves.step (State.modLeg_moves ..) (by decide) ?_
            exact Moves.refl
          · exact Moves.refl
        clear_value x2
        refine Moves.ite ?_ ?_
        · refine Moves.step (State.admitted_moves ..) (by decide) ?_
          with_reducible assumption
        · split
          · rename_i s4 q4
            have h4 := Moves.at22 (m := 2421079711489) (s := s) q4 (by
              refine Moves.step (State.replay_moves22 ..) (by decide) ?_
              with_reducible assumption)
            refine Moves.ite ?_ ?_
            · refine Moves.step (State.bump_moves ..) (by decide) ?_
              refine Moves.step (State.modLeg_moves ..) (by decide) ?_
              with_reducible assumption
            · refine Moves.ite ?_ ?_
              · refine Moves.step (State.admitted_moves ..) (by decide) ?_
                with_reducible assumption
              · refine Moves.ite ?_ ?_
                · refine Moves.step (State.bump_moves ..) (by decide) ?_
                  refine Moves.step (State.modLeg_moves ..) (by decide) ?_
                  with_reducible assumption
                · refine Moves.step (State.bump_moves ..) (by decide) ?_
                  refine Moves.step (State.modLeg_moves ..) (by decide) ?_
                  with_reducible assumption

theorem State.udpRx_moves (s a1 a2 a3 a4 a5 a6 a7 a8) : Moves 565920788963073 s (State.udpRx s a1 a2 a3 a4 a5 a6 a7 a8) := by
  unfold State.udpRx
  refine Moves.ite ?_ ?_
  · exact Moves.refl
  · split
    · refine Moves.step (State.punt_moves ..) (by decide) ?_
      exact Moves.refl
    · refine Moves.ite ?_ ?_
      · exact Moves.refl
      · refine Moves.ite ?_ ?_
        · refine Moves.step (State.punt_moves ..) (by decide) ?_
          exact Moves.refl
        · refine Moves.ite ?_ ?_
          · refine Moves.step (State.bump_moves ..) (by decide) ?_
            exact Moves.refl
          · refine Moves.ite ?_ ?_
            · refine Moves.step (State.matchStore_moves ..) (by decide) ?_
              exact Moves.refl
            · split
              · rename_i s0 q0
                have h0 := Moves.at2 (m := 565920788963073) (s := s) q0 (by
                  refine Moves.step (State.police_moves2 ..) (by decide) ?_
                  exact Moves.refl)
                refine Moves.ite ?_ ?_
                · refine Moves.step (State.srtpRx_moves ..) (by decide) ?_
                  with_reducible assumption
                · with_reducible assumption

theorem State.layer2_moves (s a1 a2 a3) : Moves 565920788963105 s (State.layer2 s a1 a2 a3) := by
  unfold State.layer2
  refine Moves.ite ?_ ?_
  · exact Moves.refl
  · refine Moves.ite ?_ ?_
    · refine Moves.step (State.bumpSat_moves ..) (by decide) ?_
      exact Moves.refl
    · refine Moves.ite ?_ ?_
      · refine Moves.step (State.bumpSat_moves ..) (by decide) ?_
        exact Moves.refl
      · split
        · refine Moves.ite ?_ ?_
          · refine Moves.step (Moves.set_bel ..) (by decide) ?_
            exact Moves.refl
          · exact Moves.refl
        · exact Moves.refl
        · refine Moves.step (State.udpRx_moves ..) (by decide) ?_
          exact Moves.refl
        · refine Moves.step (State.punt_moves ..) (by decide) ?_
          exact Moves.refl

theorem State.showPrp_moves (s a1) : Moves 1 s (State.showPrp s a1) := by
  unfold State.showPrp
  extract_lets -merge -underBinder -useContext x0 x1
  clear_value x0
  have h2 : Moves 1 s x1 := by
    unfold x1
    refine Moves.step (State.put_moves ..) (by decide) ?_
    exact Moves.refl
  clear_value x1
  refine Moves.ite ?_ ?_
  · refine Moves.step (State.put_moves ..) (by decide) ?_
    with_reducible assumption
  · with_reducible assumption

theorem State.prpDiscard_moves2 (s a1 a2 a3 a4 a5 a6) : Moves 268435457 s (State.prpDiscard s a1 a2 a3 a4 a5 a6).2 := by
  unfold State.prpDiscard
  extract_lets -merge -underBinder -useContext x0 x1 x2
  have h3 : Moves 268435457 s x0 := by
    unfold x0
    refine Moves.ite ?_ ?_
    · exact Moves.refl
    · refine Moves.step (State.bumpSat_moves ..) (by decide) ?_
      exact Moves.refl
  clear_value x0
  clear_value x1
  clear_value x2
  split
  · extract_lets -merge -underBinder -useContext x4 x5
    clear_value x4
    have h6 : Moves 268435457 s x5 := by
      unfold x5
      refine Moves.step (State.setPlane_moves ..) (by decide) ?_
      with_reducible assumption
    clear_value x5
    split
    · try dsimp only
      refine Moves.step (State.bump_moves ..) (by decide) ?_
      with_reducible assumption
    · try dsimp only
      with_reducible assumption
  · split
    · try dsimp only
      refine Moves.step (State.bumpSat_moves ..) (by decide) ?_
      with_reducible assumption
    · split
      · try dsimp only
        refine Moves.step (State.bump_moves ..) (by decide) ?_
        with_reducible assumption
      · try dsimp only
        refine Moves.step (State.showPrp_moves ..) (by decide) ?_
        refine Moves.step (State.setPlane_moves ..) (by decide) ?_
        with_reducible assumption

theorem execFrameReceive_moves (a0 s) : Runs 565920788963105 s (execFrameReceive a0 s) := by
  unfold execFrameReceive
  extract_lets -merge -underBinder -useContext x0 x1 x2 x3 x4 x5 x6
  clear_value x0
  clear_value x1
  have h7 : Moves 565920788963105 s x2 := by
    unfold x2
    refine Moves.step (State.bump_moves ..) (by decide) ?_
    exact Moves.refl
  clear_value x2
  have h8 : Moves 565920788963105 s x3 := by
    unfold x3
    refine Moves.ite ?_ ?_
    · refine Moves.step (State.bump_moves ..) (by decide) ?_
      with_reducible assumption
    · with_reducible assumption
  clear_value x3
  have h9 : Moves 565920788963105 s x4 := by
    unfold x4
    refine Moves.step (State.bump64_moves ..) (by decide) ?_
    with_reducible assumption
  clear_value x4
  have h10 : Moves 565920788963105 s x5 := by
    unfold x5
    refine Moves.step (State.bump64_moves ..) (by decide) ?_
    with_reducible assumption
  clear_value x5
  clear_value x6
  refine Runs.ite ?_ ?_
  · refine Runs.next ?_
    exact Moves.refl
  · refine Runs.ite ?_ ?_
    · refine Runs.next ?_
      refine Moves.step (State.bumpSat_moves ..) (by decide) ?_
      with_reducible assumption
    · refine Runs.ite ?_ ?_
      · refine Runs.next ?_
        refine Moves.step (State.bumpSat_moves ..) (by decide) ?_
        with_reducible assumption
      · split
        · refine Runs.next ?_
          refine Moves.step (State.bump_moves ..) (by decide) ?_
          with_reducible assumption
        · refine Runs.next ?_
          refine Moves.step (State.layer2_moves ..) (by decide) ?_
          with_reducible assumption
        · split
          · split
            · rename_i s11 q11
              have h11 := Moves.at2 (m := 565920788963105) (s := s) q11 (by
                refine Moves.step (State.prpDiscard_moves2 ..) (by decide) ?_
                with_reducible assumption)
              refine Runs.next ?_
              refine Moves.ite ?_ ?_
              · refine Moves.step (State.layer2_moves ..) (by decide) ?_
                with_reducible assumption
              · with_reducible assumption
          · refine Runs.next ?_
            refine Moves.step (State.layer2_moves ..) (by decide) ?_
            with_reducible assumption

theorem State.hostReset_moves (s) : Moves 140737488355585 s (State.hostReset s) := by
  unfold State.hostReset
  extract_lets -merge -underBinder -useContext x0 x1 x2 x3
  have h4 : Moves 140737488355585 s x0 := by
    unfold x0
    refine Moves.forUpTo (fun y5 y6 => ?_) ?_
    · refine Moves.step (State.showDma_moves ..) (by decide) ?_
      refine Moves.step (State.put_moves ..) (by decide) ?_
      refine Moves.step (State.dmaEnter_moves ..) (by decide) ?_
      refine Moves.step (State.setDma_moves ..) (by decide) ?_
      exact Moves.refl
    · exact Moves.refl
  clear_value x0
  have h7 : Moves 140737488355585 s x1 := by
    unfold x1
    refine Moves.step (State.wr_moves ..) (by decide) ?_
    with_reducible assumption
  clear_value x1
  have h8 : Moves 140737488355585 s x2 := by
    unfold x2
    refine Moves.forEach (fun y9 y10 => ?_) ?_
    · refine Moves.step (State.wr_moves ..) (by decide) ?_
      exact Moves.refl
    · with_reducible assumption
  clear_value x2
  clear_value x3
  refine Moves.step (Moves.set_msix ..) (by decide) ?_
  with_reducible assumption

theorem execFunctionLevelReset_moves (s) : Runs 140737488355585 s (execFunctionLevelReset s) := by
  unfold execFunctionLevelReset
  refine Runs.next ?_
  refine Moves.step (State.hostReset_moves ..) (by decide) ?_
  exact Moves.refl

theorem State.setOther_moves (s a1) : Moves 35184372088833 s (State.setOther s a1) := by
  unfold State.setOther
  extract_lets -merge -underBinder -useContext x0 x1 x2
  clear_value x0
  clear_value x1
  have h3 : Moves 35184372088833 s x2 := by
    unfold x2
    refine Moves.ite ?_ ?_
    · refine Moves.step (Moves.set_flash ..) (by decide) ?_
      exact Moves.refl
    · refine Moves.step (Moves.set_flash ..) (by decide) ?_
      exact Moves.refl
  clear_value x2
  refine Moves.step (State.putB_moves ..) (by decide) ?_
  with_reducible assumption

theorem State.fwCmdWrite_moves (s a1) : Moves 1161290437363969 s (State.fwCmdWrite s a1) := by
  unfold State.fwCmdWrite
  refine Moves.step (State.checked_moves (m := 1161290437363969) (hf := fun y0 => ?_) ..) (by decide) ?_
  · refine Moves.ite ?_ ?_
    · extract_lets -merge -underBinder -useContext x1 x2 x3 x4 x5
      clear_value x1
      clear_value x2
      clear_value x3
      have h6 : Moves 1161290437363969 y0 x4 := by
        unfold x4
        refine Moves.step (State.wr64_moves ..) (by decide) ?_
        refine Moves.step (State.unvalid_moves ..) (by decide) ?_
        exact Moves.refl
      clear_value x4
      have h7 : Moves 1161290437363969 y0 x5 := by
        unfold x5
        refine Moves.ite ?_ ?_
        · refine Moves.step (State.setOther_moves ..) (by decide) ?_
          with_reducible assumption
        · with_reducible assumption
      clear_value x5
      refine Moves.step (State.modSvc_moves ..) (by decide) ?_
      with_reducible assumption
    · split
      · refine Moves.step (State.fwResult_moves ..) (by decide) ?_
        refine Moves.step (State.wr64_moves ..) (by decide) ?_
        refine Moves.step (State.reject_moves ..) (by decide) ?_
        exact Moves.refl
      · split
        · exact Moves.refl
        · extract_lets -merge -underBinder -useContext x8 x9
          clear_value x8
          have h10 : Moves 1161290437363969 y0 x9 := by
            unfold x9
            refine Moves.step (State.wr64_moves ..) (by decide) ?_
            refine Moves.step (State.unvalid_moves ..) (by decide) ?_
            exact Moves.refl
          clear_value x9
          refine Moves.step (State.record_moves ..) (by decide) ?_
          refine Moves.step (State.modSvc_moves ..) (by decide) ?_
          with_reducible assumption
  · exact Moves.refl

theorem execFwActivate_moves (s) : Runs 1161290437363969 s (execFwActivate s) := by
  unfold execFwActivate
  refine Runs.next ?_
  refine Moves.step (State.fwCmdWrite_moves ..) (by decide) ?_
  exact Moves.refl

theorem execFwStage_moves (s) : Runs 1161290437363969 s (execFwStage s) := by
  unfold execFwStage
  refine Runs.next ?_
  refine Moves.step (State.fwCmdWrite_moves ..) (by decide) ?_
  exact Moves.refl

theorem execFwStaged_moves (s) : Runs 1161084278936321 s (execFwStaged s) := by
  unfold execFwStaged
  split
  · refine Runs.next ?_
    exact Moves.refl
  · extract_lets -merge -underBinder -useContext x0
    have h1 : Moves 1161084278936321 s x0 := by
      unfold x0
      refine Moves.step (State.modSvc_moves ..) (by decide) ?_
      exact Moves.refl
    clear_value x0
    refine Runs.ite ?_ ?_
    · refine Runs.next ?_
      refine Moves.step (State.post_moves ..) (by decide) ?_
      refine Moves.step (State.fwResult_moves ..) (by decide) ?_
      refine Moves.step (State.setOther_moves ..) (by decide) ?_
      with_reducible assumption
    · refine Runs.next ?_
      refine Moves.step (State.fwResult_moves ..) (by decide) ?_
      refine Moves.step (State.postErr_moves ..) (by decide) ?_
      with_reducible assumption

theorem State.gatePost_moves (s a1 a2 a3) : Moves 1 s (State.gatePost s a1 a2 a3) := by
  unfold State.gatePost
  refine Moves.step (State.postResult_moves ..) (by decide) ?_
  refine Moves.step (State.wr64_moves ..) (by decide) ?_
  exact Moves.refl

theorem State.legAccepted_moves (s a1) : Moves 8389632 s (State.legAccepted s a1) := by
  unfold State.legAccepted
  refine Moves.ite ?_ ?_
  · exact Moves.refl
  · extract_lets -merge -underBinder -useContext x0
    have h1 : Moves 8389632 s x0 := by
      unfold x0
      refine Moves.step (State.configureQueue_moves ..) (by decide) ?_
      exact Moves.refl
    clear_value x0
    refine Moves.ite ?_ ?_
    · refine Moves.step (State.modLeg_moves ..) (by decide) ?_
      with_reducible assumption
    · with_reducible assumption

theorem State.frameNext_moves2 (s a1 a2) : Moves 34359738368 s (State.frameNext s a1 a2).2 := by
  unfold State.frameNext
  extract_lets -merge -underBinder -useContext x0 x1
  clear_value x0
  clear_value x1
  try dsimp only
  refine Moves.ite ?_ ?_
  · exact Moves.refl
  · refine Moves.step (State.setLayout_moves ..) (by decide) ?_
    exact Moves.refl

theorem State.frameEffect_moves2 (s a1 a2) : Moves 34359738368 s (State.frameEffect s a1 a2).2 := by
  unfold State.frameEffect
  extract_lets -merge -underBinder -useContext x0 x1
  clear_value x0
  clear_value x1
  split
  · exact Moves.refl
  · split
    · refine Moves.step (State.frameNext_moves2 ..) (by decide) ?_
      exact Moves.refl
    · refine Moves.step (State.frameNext_moves2 ..) (by decide) ?_
      exact Moves.refl
    · exact Moves.refl

theorem State.commitRecs_moves2 (s a1) : Moves 240518170689 s (State.commitRecs s a1).2 := by
  unfold State.commitRecs
  split
  · exact Moves.refl
  · split
    · rename_i s0 q0
      have h0 := Moves.at2 (m := 240518170689) (s := s) q0 (by
        split
        · exact Moves.refl
        · refine Moves.step (State.frameEffect_moves2 ..) (by decide) ?_
          exact Moves.refl)
      extract_lets -merge -underBinder -useContext x1 x2 x3 x4
      clear_value x1
      have h5 : Moves 240518170689 s x2 := by
        unfold x2
        refine Moves.step (Moves.set_gate ..) (by decide) ?_
        with_reducible assumption
      clear_value x2
      clear_value x3
      clear_value x4
      try dsimp only
      refine Moves.foldl (fun y6 y7 => ?_) ?_
      · refine Moves.step (State.record_moves ..) (by decide) ?_
        exact Moves.refl
      · with_reducible assumption

theorem State.acceptChange_moves (s a1 a2) : Moves 240526691393 s (State.acceptChange s a1 a2) := by
  unfold State.acceptChange
  extract_lets -merge -underBinder -useContext x0 x1 x2
  clear_value x0
  clear_value x1
  have h3 : Moves 240526691393 s x2 := by
    unfold x2
    refine Moves.step (Moves.set_gate ..) (by decide) ?_
    exact Moves.refl
  clear_value x2
  refine Moves.ite ?_ ?_
  · refine Moves.step (State.gatePost_moves ..) (by decide) ?_
    refine Moves.step (State.showGate_moves ..) (by decide) ?_
    refine Moves.step (State.keyRefresh_moves ..) (by decide) ?_
    refine Moves.step (State.legAccepted_moves ..) (by decide) ?_
    with_reducible assumption
  · split
    · rename_i s4 q4
      have h4 := Moves.at2 (m := 240526691393) (s := s) q4 (by
        refine Moves.step (State.commitRecs_moves2 ..) (by decide) ?_
        exact Moves.refl)
      refine Moves.step (State.gatePost_moves ..) (by decide) ?_
      refine Moves.step (State.showGate_moves ..) (by decide) ?_
      refine Moves.step (State.keyRefresh_moves ..) (by decide) ?_
      refine Moves.step (State.legAccepted_moves ..) (by decide) ?_
      with_reducible assumption

theorem State.gateDo_moves (s a1) : Moves 240526691521 s (State.gateDo s a1) := by
  unfold State.gateDo
  split
  · refine Moves.step (State.acceptChange_moves ..) (by decide) ?_
    exact Moves.refl
  · refine Moves.ite ?_ ?_
    · extract_lets -merge -underBinder -useContext x0
      clear_value x0
      refine Moves.step (State.gatePost_moves ..) (by decide) ?_
      refine Moves.forUpTo (fun y1 y2 => ?_) ?_
      · refine Moves.step (State.wr_moves ..) (by decide) ?_
        exact Moves.refl
      · exact Moves.refl
    · refine Moves.ite ?_ ?_
      · refine Moves.step (State.gatePost_moves ..) (by decide) ?_
        refine Moves.step (State.showGate_moves ..) (by decide) ?_
        refine Moves.step (Moves.set_gate ..) (by decide) ?_
        exact Moves.refl
      · refine Moves.ite ?_ ?_
        · extract_lets -merge -underBinder -useContext x3 x4 x5
          clear_value x3
          clear_value x4
          have h6 : Moves 240526691521 s x5 := by
            unfold x5
            refine Moves.step (Moves.set_gate ..) (by decide) ?_
            exact Moves.refl
          clear_value x5
          split
          · rename_i s7 q7
            have h7 := Moves.at2 (m := 240526691521) (s := s) q7 (by
              split
              · split
                · rename_i s8 q8
                  have h8 := Moves.at2 (m := 240526691521) (s := s) q8 (by
                    refine Moves.step (State.fresh_moves2 ..) (by decide) ?_
                    with_reducible assumption)
                  try dsimp only
                  with_reducible assumption
              · refine Moves.step (State.commitRecs_moves2 ..) (by decide) ?_
                with_reducible assumption)
            refine Moves.step (State.gatePost_moves ..) (by decide) ?_
            refine Moves.step (State.showGate_moves ..) (by decide) ?_
            with_reducible assumption
        · extract_lets -merge -underBinder -useContext x9 x10 x11 x12
          clear_value x9
          clear_value x10
          have h13 : Moves 240526691521 s x11 := by
            unfold x11
            refine Moves.step (Moves.set_gate ..) (by decide) ?_
            exact Moves.refl
          clear_value x11
          have h14 : Moves 240526691521 s x12 := by
            unfold x12
            refine Moves.forEach (fun y15 y16 => ?_) ?_
            · refine Moves.step (State.settleLeg_moves ..) (by decide) ?_
              exact Moves.refl
            · with_reducible assumption
          clear_value x12
          refine Moves.step (State.gatePost_moves ..) (by decide) ?_
          refine Moves.step (State.showGate_moves ..) (by decide) ?_
          refine Moves.step (State.keyRefresh_moves ..) (by decide) ?_
          with_reducible assumption

theorem execGateAcceptance_moves (s) : Runs 240526691777 s (execGateAcceptance s) := by
  unfold execGateAcceptance
  split
  · refine Runs.next ?_
    exact Moves.refl
  · extract_lets -merge -underBinder -useContext x0 x1
    clear_value x0
    have h2 : Moves 240526691777 s x1 := by
      unfold x1
      refine Moves.step (Moves.set_gate ..) (by decide) ?_
      exact Moves.refl
    clear_value x1
    split
    · refine Runs.next ?_
      refine Moves.step (State.gateDo_moves ..) (by decide) ?_
      with_reducible assumption
    · refine Runs.next ?_
      refine Moves.step (State.postErr_moves ..) (by decide) ?_
      refine Moves.step (State.gatePost_moves ..) (by decide) ?_
      with_reducible assumption

theorem State.gateCmdWrite_moves (s a1) : Moves 321 s (State.gateCmdWrite s a1) := by
  unfold State.gateCmdWrite
  refine Moves.ite ?_ ?_
  · refine Moves.step (State.reject_moves ..) (by decide) ?_
    exact Moves.refl
  · refine Moves.ite ?_ ?_
    · refine Moves.step (State.reject_moves ..) (by decide) ?_
      exact Moves.refl
    · refine Moves.ite ?_ ?_
      · refine Moves.step (State.reject_moves ..) (by decide) ?_
        exact Moves.refl
      · refine Moves.ite ?_ ?_
        · refine Moves.step (State.reject_moves ..) (by decide) ?_
          exact Moves.refl
        · extract_lets -merge -underBinder -useContext x0 x1 x2
          clear_value x0
          have h3 : Moves 321 s x1 := by
            unfold x1
            refine Moves.step (State.unvalid_moves ..) (by decide) ?_
            exact Moves.refl
          clear_value x1
          clear_value x2
          refine Moves.step (Moves.set_gate ..) (by decide) ?_
          with_reducible assumption

theorem execGateCreate_moves (a0 a1 s) : Runs 321 s (execGateCreate a0 a1 s) := by
  unfold execGateCreate
  refine Runs.next ?_
  refine Moves.step (State.gateCmdWrite_moves ..) (by decide) ?_
  exact Moves.refl

theorem execGateDelete_moves (a0 a1 s) : Runs 321 s (execGateDelete a0 a1 s) := by
  unfold execGateDelete
  refine Runs.next ?_
  refine Moves.step (State.gateCmdWrite_moves ..) (by decide) ?_
  exact Moves.refl

theorem execGateModify_moves (a0 a1 s) : Runs 321 s (execGateModify a0 a1 s) := by
  unfold execGateModify
  refine Runs.next ?_
  refine Moves.step (State.gateCmdWrite_moves ..) (by decide) ?_
  exact Moves.refl

theorem execGateRead_moves (a0 a1 s) : Runs 321 s (execGateRead a0 a1 s) := by
  unfold execGateRead
  refine Runs.next ?_
  refine Moves.step (State.gateCmdWrite_moves ..) (by decide) ?_
  exact Moves.refl

theorem execGateTxnAbort_moves (s) : Runs 321 s (execGateTxnAbort s) := by
  unfold execGateTxnAbort
  refine Runs.next ?_
  refine Moves.step (State.gateCmdWrite_moves ..) (by decide) ?_
  exact Moves.refl

theorem execGateTxnCommit_moves (s) : Runs 321 s (execGateTxnCommit s) := by
  unfold execGateTxnCommit
  refine Runs.next ?_
  refine Moves.step (State.gateCmdWrite_moves ..) (by decide) ?_
  exact Moves.refl

theorem execGateTxnOpen_moves (s) : Runs 321 s (execGateTxnOpen s) := by
  unfold execGateTxnOpen
  refine Runs.next ?_
  refine Moves.step (State.gateCmdWrite_moves ..) (by decide) ?_
  exact Moves.refl

theorem execGlobalFenceRead_moves (s) : Runs 2097160 s (execGlobalFenceRead s) := by
  unfold execGlobalFenceRead
  refine Runs.ite ?_ ?_
  · refine Runs.next ?_
    exact Moves.refl
  · refine Runs.ite ?_ ?_
    · refine Runs.next ?_
      refine Moves.step (Moves.set_readData ..) (by decide) ?_
      exact Moves.refl
    · refine Runs.next ?_
      refine Moves.step (Moves.set_fences ..) (by decide) ?_
      exact Moves.refl

theorem State.keepRunning_moves (s) : Moves 16385 s (State.keepRunning s) := by
  unfold State.keepRunning
  refine Moves.forUpTo (fun y0 y1 => ?_) ?_
  · refine Moves.ite ?_ ?_
    · refine Moves.step (State.ungateCluster_moves ..) (by decide) ?_
      exact Moves.refl
    · exact Moves.refl
  · exact Moves.refl

theorem State.gateCluster_moves (s a1) : Moves 16641 s (State.gateCluster s a1) := by
  unfold State.gateCluster
  extract_lets -merge -underBinder -useContext x0
  have h1 : Moves 16641 s x0 := by
    unfold x0
    refine Moves.step (State.put_moves ..) (by decide) ?_
    refine Moves.step (State.put_moves ..) (by decide) ?_
    exact Moves.refl
  clear_value x0
  refine Moves.step (State.islandDown_moves ..) (by decide) ?_
  refine Moves.step (State.domSleep_moves ..) (by decide) ?_
  with_reducible assumption

theorem State.applyTarget_moves (s a1 a2) : Moves 562949953437953 s (State.applyTarget s a1 a2) := by
  unfold State.applyTarget
  refine Moves.ite ?_ ?_
  · refine Moves.ite ?_ ?_
    · refine Moves.step (State.gateCluster_moves ..) (by decide) ?_
      exact Moves.refl
    · exact Moves.refl
  · refine Moves.ite ?_ ?_
    · refine Moves.step (State.opChange_moves ..) (by decide) ?_
      exact Moves.refl
    · refine Moves.ite ?_ ?_
      · refine Moves.step (State.opChange_moves ..) (by decide) ?_
        refine Moves.step (State.ungateCluster_moves ..) (by decide) ?_
        exact Moves.refl
      · exact Moves.refl

theorem execGovernorDecide_moves (a0 a1 s) : Runs 562949953437953 s (execGovernorDecide a0 a1 s) := by
  unfold execGovernorDecide
  extract_lets -merge -underBinder -useContext x0 x1 x2 x3
  have h4 : Moves 562949953437953 s x0 := by
    unfold x0
    refine Moves.step (State.put_moves ..) (by decide) ?_
    exact Moves.refl
  clear_value x0
  clear_value x1
  clear_value x2
  clear_value x3
  refine Runs.ite ?_ ?_
  · refine Runs.next ?_
    with_reducible assumption
  · refine Runs.next ?_
    refine Moves.step (State.keepRunning_moves ..) (by decide) ?_
    refine Moves.forUpTo (fun y5 y6 => ?_) ?_
    · refine Moves.step (State.applyTarget_moves ..) (by decide) ?_
      exact Moves.refl
    · with_reducible assumption

theorem execGranaryClaim_moves (a0 a1 s) : Runs 2416449281 s (execGranaryClaim a0 a1 s) := by
  unfold execGranaryClaim
  extract_lets -merge -underBinder -useContext x0 x1
  have h2 : Moves 2416449281 s x0 := by
    unfold x0
    refine Moves.step (State.access_moves ..) (by decide) ?_
    exact Moves.refl
  clear_value x0
  clear_value x1
  refine Runs.next ?_
  refine Moves.step (State.setQueue_moves ..) (by decide) ?_
  with_reducible assumption

theorem execGranaryEnqueue_moves (a0 a1 a2 s) : Runs 2417497857 s (execGranaryEnqueue a0 a1 a2 s) := by
  unfold execGranaryEnqueue
  extract_lets -merge -underBinder -useContext x0
  have h1 : Moves 2417497857 s x0 := by
    unfold x0
    refine Moves.step (State.access_moves ..) (by decide) ?_
    exact Moves.refl
  clear_value x0
  split
  · refine Runs.ite ?_ ?_
    · refine Runs.next ?_
      refine Moves.step (State.post_moves ..) (by decide) ?_
      with_reducible assumption
    · refine Runs.next ?_
      with_reducible assumption
  · refine Runs.ite ?_ ?_
    · refine Runs.next ?_
      with_reducible assumption
    · extract_lets -merge -underBinder -useContext x2 x3
      clear_value x2
      have h4 : Moves 2417497857 s x3 := by
        unfold x3
        refine Moves.step (State.qAppend_moves ..) (by decide) ?_
        with_reducible assumption
      clear_value x3
      refine Runs.next ?_
      refine Moves.step (Moves.set_nextPkt ..) (by decide) ?_
      with_reducible assumption

theorem State.granarySelWrite_moves (s a1) : Moves 4194561 s (State.granarySelWrite s a1) := by
  unfold State.granarySelWrite
  refine Moves.step (State.checked_moves (m := 4194561) (hf := fun y0 => ?_) ..) (by decide) ?_
  · refine Moves.step (State.unvalid_moves ..) (by decide) ?_
    refine Moves.step (State.unvalid_moves ..) (by decide) ?_
    refine Moves.step (State.unvalid_moves ..) (by decide) ?_
    refine Moves.step (State.fetchStart_moves ..) (by decide) ?_
    refine Moves.step (State.applyWrite_moves ..) (by decide) ?_
    exact Moves.refl
  · exact Moves.refl

theorem execGranaryQSel_moves (a0 a1 s) : Runs 2420643585 s (execGranaryQSel a0 a1 s) := by
  unfold execGranaryQSel
  extract_lets -merge -underBinder -useContext x0
  have h1 : Moves 2420643585 s x0 := by
    unfold x0
    refine Moves.step (State.granarySelWrite_moves ..) (by decide) ?_
    exact Moves.refl
  clear_value x0
  refine Runs.next ?_
  refine Moves.ite ?_ ?_
  · refine Moves.step (State.queueReset_moves ..) (by decide) ?_
    with_reducible assumption
  · with_reducible assumption

theorem execGranaryReadComplete_moves (a0 s) : Runs 5120 s (execGranaryReadComplete a0 s) := by
  unfold execGranaryReadComplete
  extract_lets -merge -underBinder -useContext x0 x1 x2
  clear_value x0
  clear_value x1
  have h3 : Moves 5120 s x2 := by
    unfold x2
    refine Moves.step (State.setQueue_moves ..) (by decide) ?_
    exact Moves.refl
  clear_value x2
  refine Runs.next ?_
  refine Moves.step (Moves.set_freeCells ..) (by decide) ?_
  with_reducible assumption

theorem execHalt_moves (a0 s) : Runs 225179981502747521 s (execHalt a0 s) := by
  unfold execHalt
  refine Runs.next ?_
  refine Moves.step (State.issueOn_moves ..) (by decide) ?_
  exact Moves.refl

theorem execHardLimitExpire_moves (a0 a1 s) : Runs 1215972376007155601 s (execHardLimitExpire a0 a1 s) := by
  unfold execHardLimitExpire
  split
  · refine Runs.next ?_
    exact Moves.refl
  · refine Runs.ite ?_ ?_
    · refine Runs.next ?_
      refine Moves.step (State.limitEnd_moves ..) (by decide) ?_
      refine Moves.step (State.runTo_moves ..) (by decide) ?_
      exact Moves.refl
    · refine Runs.next ?_
      exact Moves.refl

theorem State.pathInterval_moves (s a1 a2) : Moves 68719481601 s (State.pathInterval s a1 a2) := by
  unfold State.pathInterval
  extract_lets -merge -underBinder -useContext x0
  have h1 : Moves 68719481601 s x0 := by
    unfold x0
    refine Moves.ite ?_ ?_
    · refine Moves.step (State.bumpSat_moves ..) (by decide) ?_
      exact Moves.refl
    · exact Moves.refl
  clear_value x0
  refine Moves.step (State.setPath_moves ..) (by decide) ?_
  with_reducible assumption

theorem State.mapSsrcs_moves (s a1) : Moves 8388608 s (State.mapSsrcs s a1) := by
  unfold State.mapSsrcs
  extract_lets -merge -underBinder -useContext x0
  clear_value x0
  refine Moves.forEach (fun y1 y2 => ?_) ?_
  · refine Moves.step (State.modLeg_moves ..) (by decide) ?_
    exact Moves.refl
  · exact Moves.refl

theorem State.limitsBegin_moves (s) : Moves 8388609 s (State.limitsBegin s) := by
  unfold State.limitsBegin
  extract_lets -merge -underBinder -useContext x0 x1 x2 x3
  clear_value x0
  clear_value x1
  clear_value x2
  have h4 : Moves 8388609 s x3 := by
    unfold x3
    refine Moves.step (State.mapSsrcs_moves ..) (by decide) ?_
    exact Moves.refl
  clear_value x3
  refine Moves.step (State.put_moves ..) (by decide) ?_
  with_reducible assumption

theorem State.becomeSole_moves (s) : Moves 68727870337 s (State.becomeSole s) := by
  unfold State.becomeSole
  extract_lets -merge -underBinder -useContext x0 x1 x2
  clear_value x0
  have h3 : Moves 68727870337 s x1 := by
    unfold x1
    refine Moves.step (State.enterTwin_moves ..) (by decide) ?_
    exact Moves.refl
  clear_value x1
  clear_value x2
  refine Moves.ite ?_ ?_
  · with_reducible assumption
  · refine Moves.ite ?_ ?_
    · refine Moves.step (Moves.set_twin ..) (by decide) ?_
      with_reducible assumption
    · refine Moves.step (State.limitsBegin_moves ..) (by decide) ?_
      with_reducible assumption

theorem State.dropWork_moves (s) : Moves 1152921504607376384 s (State.dropWork s) := by
  unfold State.dropWork
  extract_lets -merge -underBinder -useContext x0
  have h1 : Moves 1152921504607376384 s x0 := by
    unfold x0
    refine Moves.forEach (fun y2 y3 => ?_) ?_
    · refine Moves.step (State.dropPkt_moves ..) (by decide) ?_
      refine Moves.step (State.unqueue_moves ..) (by decide) ?_
      exact Moves.refl
    · exact Moves.refl
  clear_value x0
  refine Moves.step (State.cancelTasks_moves ..) (by decide) ?_
  with_reducible assumption

theorem State.dropTables_moves (s) : Moves 1504202341636117568 s (State.dropTables s) := by
  unfold State.dropTables
  extract_lets -merge -underBinder -useContext x0 x1
  have h2 : Moves 1504202341636117568 s x0 := by
    unfold x0
    refine Moves.step (State.dropWork_moves ..) (by decide) ?_
    exact Moves.refl
  clear_value x0
  clear_value x1
  refine Moves.step (Moves.set_gate_legs_confs_taps_vstrs_ostrs_rxWin_ecomps_decs_layouts_audio_legAudio_confAudio_kernels ..) (by decide) ?_
  with_reducible assumption

theorem State.partnerLost_moves (s) : Moves 1504202410355595201 s (State.partnerLost s) := by
  unfold State.partnerLost
  extract_lets -merge -underBinder -useContext x0
  clear_value x0
  refine Moves.ite ?_ ?_
  · refine Moves.step (State.becomeSole_moves ..) (by decide) ?_
    exact Moves.refl
  · refine Moves.ite ?_ ?_
    · refine Moves.ite ?_ ?_
      · refine Moves.step (State.becomeSole_moves ..) (by decide) ?_
        exact Moves.refl
      · refine Moves.step (State.post_moves ..) (by decide) ?_
        refine Moves.step (State.dropTables_moves ..) (by decide) ?_
        refine Moves.step (State.enterTwin_moves ..) (by decide) ?_
        exact Moves.refl
    · exact Moves.refl

theorem State.pairStep_moves (s) : Moves 68727870337 s (State.pairStep s) := by
  unfold State.pairStep
  extract_lets -merge -underBinder -useContext x0 x1
  clear_value x0
  clear_value x1
  refine Moves.ite ?_ ?_
  · exact Moves.refl
  · refine Moves.ite ?_ ?_
    · refine Moves.ite ?_ ?_
      · refine Moves.step (State.enterTwin_moves ..) (by decide) ?_
        exact Moves.refl
      · refine Moves.ite ?_ ?_
        · refine Moves.step (State.enterTwin_moves ..) (by decide) ?_
          exact Moves.refl
        · exact Moves.refl
    · refine Moves.ite ?_ ?_
      · refine Moves.ite ?_ ?_
        · refine Moves.step (State.enterTwin_moves ..) (by decide) ?_
          exact Moves.refl
        · exact Moves.refl
      · refine Moves.ite ?_ ?_
        · refine Moves.ite ?_ ?_
          · refine Moves.step (State.enterTwin_moves ..) (by decide) ?_
            exact Moves.refl
          · refine Moves.ite ?_ ?_
            · refine Moves.step (State.enterTwin_moves ..) (by decide) ?_
              exact Moves.refl
            · exact Moves.refl
        · exact Moves.refl

theorem execHbIntervalEnd_moves (s) : Runs 1504202410355595217 s (execHbIntervalEnd s) := by
  unfold execHbIntervalEnd
  refine Runs.ite ?_ ?_
  · refine Runs.next ?_
    exact Moves.refl
  · extract_lets -merge -underBinder -useContext x0 x1 x2 x3
    have h4 : Moves 1504202410355595217 s x0 := by
      unfold x0
      refine Moves.step (State.runTo_moves ..) (by decide) ?_
      exact Moves.refl
    clear_value x0
    clear_value x1
    have h5 : Moves 1504202410355595217 s x2 := by
      unfold x2
      refine Moves.step (State.pathInterval_moves ..) (by decide) ?_
      refine Moves.step (State.pathInterval_moves ..) (by decide) ?_
      refine Moves.step (State.pathInterval_moves ..) (by decide) ?_
      with_reducible assumption
    clear_value x2
    have h6 : Moves 1504202410355595217 s x3 := by
      unfold x3
      refine Moves.ite ?_ ?_
      · refine Moves.step (State.partnerLost_moves ..) (by decide) ?_
        with_reducible assumption
      · refine Moves.ite ?_ ?_
        · refine Moves.step (State.linkDegraded_moves ..) (by decide) ?_
          with_reducible assumption
        · refine Moves.ite ?_ ?_
          · refine Moves.step (State.enterTwin_moves ..) (by decide) ?_
            with_reducible assumption
          · refine Moves.step (State.pairStep_moves ..) (by decide) ?_
            with_reducible assumption
    clear_value x3
    refine Runs.next ?_
    refine Moves.step (State.showTwin_moves ..) (by decide) ?_
    refine Moves.step (State.modTwin_moves ..) (by decide) ?_
    with_reducible assumption

theorem State.partnerSays_moves (s a1) : Moves 68719476737 s (State.partnerSays s a1) := by
  unfold State.partnerSays
  extract_lets -merge -underBinder -useContext x0 x1 x2
  have h3 : Moves 68719476737 s x0 := by
    unfold x0
    refine Moves.step (State.put_moves ..) (by decide) ?_
    exact Moves.refl
  clear_value x0
  clear_value x1
  clear_value x2
  refine Moves.step (State.modTwin_moves ..) (by decide) ?_
  with_reducible assumption

theorem State.freezeBegin_moves (s) : Moves 68719476736 s (State.freezeBegin s) := by
  unfold State.freezeBegin
  refine Moves.ite ?_ ?_
  · refine Moves.step (State.modTwin_moves ..) (by decide) ?_
    exact Moves.refl
  · refine Moves.ite ?_ ?_
    · refine Moves.step (State.modTwin_moves ..) (by decide) ?_
      exact Moves.refl
    · exact Moves.refl

theorem execHeartbeatRx_moves (a0 a1 s) : Runs 68727870337 s (execHeartbeatRx a0 a1 s) := by
  unfold execHeartbeatRx
  refine Runs.ite ?_ ?_
  · refine Runs.next ?_
    exact Moves.refl
  · extract_lets -merge -underBinder -useContext x0 x1 x2
    have h3 : Moves 68727870337 s x0 := by
      unfold x0
      refine Moves.step (State.modTwin_moves ..) (by decide) ?_
      exact Moves.refl
    clear_value x0
    have h4 : Moves 68727870337 s x1 := by
      unfold x1
      refine Moves.step (State.setPath_moves ..) (by decide) ?_
      with_reducible assumption
    clear_value x1
    have h5 : Moves 68727870337 s x2 := by
      unfold x2
      split
      · refine Moves.ite ?_ ?_
        · with_reducible assumption
        · refine Moves.step (State.partnerSays_moves ..) (by decide) ?_
          with_reducible assumption
      · with_reducible assumption
    clear_value x2
    refine Runs.next ?_
    refine Moves.step (State.showTwin_moves ..) (by decide) ?_
    refine Moves.step (State.freezeBegin_moves ..) (by decide) ?_
    refine Moves.ite ?_ ?_
    · refine Moves.step (State.pairStep_moves ..) (by decide) ?_
      with_reducible assumption
    · with_reducible assumption

theorem State.depQueue_moves (s a1 a2 a3) : Moves 2147488769 s (State.depQueue s a1 a2 a3) := by
  unfold State.depQueue
  refine Moves.ite ?_ ?_
  · extract_lets -merge -underBinder -useContext x0
    have h1 : Moves 2147488769 s x0 := by
      unfold x0
      split
      · refine Moves.step (State.unqueue_moves ..) (by decide) ?_
        exact Moves.refl
      · exact Moves.refl
    clear_value x0
    refine Moves.step (State.bump_moves ..) (by decide) ?_
    with_reducible assumption
  · extract_lets -merge -underBinder -useContext x2 x3
    clear_value x2
    clear_value x3
    refine Moves.step (State.setPort_moves ..) (by decide) ?_
    exact Moves.refl

theorem execHeartbeatSend_moves (s) : Runs 208305918993 s (execHeartbeatSend s) := by
  unfold execHeartbeatSend
  refine Runs.ite ?_ ?_
  · refine Runs.next ?_
    exact Moves.refl
  · extract_lets -merge -underBinder -useContext x0 x1 x2
    have h3 : Moves 208305918993 s x0 := by
      unfold x0
      refine Moves.step (State.runTo_moves ..) (by decide) ?_
      exact Moves.refl
    clear_value x0
    have h4 : Moves 208305918993 s x1 := by
      unfold x1
      refine Moves.step (State.modTwin_moves ..) (by decide) ?_
      with_reducible assumption
    clear_value x1
    have h5 : Moves 208305918993 s x2 := by
      unfold x2
      refine Moves.step (State.sendMsg_moves ..) (by decide) ?_
      with_reducible assumption
    clear_value x2
    refine Runs.next ?_
    refine Moves.forUpTo (fun y6 y7 => ?_) ?_
    · refine Moves.ite ?_ ?_
      · refine Moves.step (State.depQueue_moves ..) (by decide) ?_
        exact Moves.refl
      · exact Moves.refl
    · with_reducible assumption

theorem execHighestJunctionSensorCrossing_moves (a0 s) : Runs 4503599627370496 s (execHighestJunctionSensorCrossing a0 s) := by
  unfold execHighestJunctionSensorCrossing
  refine Runs.next ?_
  refine Moves.step (State.senseHottest_moves ..) (by decide) ?_
  exact Moves.refl

theorem State.injectFrame_moves (s a1 a2 a3) : Moves 2417497857 s (State.injectFrame s a1 a2 a3) := by
  unfold State.injectFrame
  refine Moves.ite ?_ ?_
  · extract_lets -merge -underBinder -useContext x0 x1
    clear_value x0
    have h2 : Moves 2417497857 s x1 := by
      unfold x1
      refine Moves.step (State.qAppend_moves ..) (by decide) ?_
      refine Moves.step (Moves.set_nextPkt ..) (by decide) ?_
      exact Moves.refl
    clear_value x1
    refine Moves.ite ?_ ?_
    · refine Moves.step (State.depQueue_moves ..) (by decide) ?_
      with_reducible assumption
    · with_reducible assumption
  · refine Moves.step (State.depQueue_moves ..) (by decide) ?_
    exact Moves.refl

theorem execInjectSlotSend_moves (a0 s) : Runs 563502126749441 s (execInjectSlotSend a0 s) := by
  unfold execInjectSlotSend
  extract_lets -merge -underBinder -useContext x0 x1 x2 x3 x4 x5 x6 x7 x8 x9 x10 x11 x12 x13 x14 x15 x16 x17
  clear_value x0
  have h18 : Moves 563502126749441 s x1 := by
    unfold x1
    refine Moves.step (State.excursion_moves ..) (by decide) ?_
    exact Moves.refl
  clear_value x1
  clear_value x2
  clear_value x3
  clear_value x4
  clear_value x5
  clear_value x6
  clear_value x7
  clear_value x8
  have h19 : Moves 563502126749441 s x9 := by
    unfold x9
    refine Moves.step (State.setPlane_moves ..) (by decide) ?_
    with_reducible assumption
  clear_value x9
  clear_value x10
  clear_value x11
  clear_value x12
  clear_value x13
  clear_value x14
  have h20 : Moves 563502126749441 s x15 := by
    unfold x15
    refine Moves.ite ?_ ?_
    · refine Moves.step (State.setPlane_moves ..) (by decide) ?_
      with_reducible assumption
    · with_reducible assumption
  clear_value x15
  clear_value x16
  clear_value x17
  refine Runs.ite ?_ ?_
  · refine Runs.next ?_
    exact Moves.refl
  · refine Runs.ite ?_ ?_
    · refine Runs.next ?_
      refine Moves.step (State.injFollow_moves ..) (by decide) ?_
      refine Moves.step (State.bumpSat_moves ..) (by decide) ?_
      with_reducible assumption
    · refine Runs.next ?_
      refine Moves.step (State.injFollow_moves ..) (by decide) ?_
      refine Moves.forEach (fun y21 y22 => ?_) ?_
      · refine Moves.step (State.injectFrame_moves ..) (by decide) ?_
        exact Moves.refl
      · with_reducible assumption

theorem State.injPtrWrite_moves (s a1 a2) : Moves 257 s (State.injPtrWrite s a1 a2) := by
  unfold State.injPtrWrite
  refine Moves.step (State.checked_moves (m := 257) (hf := fun y0 => ?_) ..) (by decide) ?_
  · refine Moves.step (State.applyWrite_moves ..) (by decide) ?_
    exact Moves.refl
  · exact Moves.refl

theorem execInjectTailWrite_moves (a0 a1 s) : Runs 257 s (execInjectTailWrite a0 a1 s) := by
  unfold execInjectTailWrite
  refine Runs.ite ?_ ?_
  · refine Runs.next ?_
    refine Moves.step (State.injPtrWrite_moves ..) (by decide) ?_
    exact Moves.refl
  · refine Runs.next ?_
    exact Moves.refl

theorem execInterruptEntry_moves (a0 s) : Runs 72057594037927936 s (execInterruptEntry a0 s) := by
  unfold execInterruptEntry
  extract_lets -merge -underBinder -useContext x0
  clear_value x0
  refine Runs.next ?_
  refine Moves.ite ?_ ?_
  · refine Moves.step (State.setCore_moves ..) (by decide) ?_
    exact Moves.refl
  · exact Moves.refl

theorem execIslandReset_moves (a0 a1 s) : Runs 16641 s (execIslandReset a0 a1 s) := by
  unfold execIslandReset
  refine Runs.next ?_
  refine Moves.step (State.islandDown_moves ..) (by decide) ?_
  exact Moves.refl

theorem execIslandResync_moves (a0 s) : Runs 16385 s (execIslandResync a0 s) := by
  unfold execIslandResync
  refine Runs.ite ?_ ?_
  · refine Runs.next ?_
    refine Moves.step (State.islandUp_moves ..) (by decide) ?_
    exact Moves.refl
  · refine Runs.next ?_
    exact Moves.refl

theorem execJbRecompute_moves (a0 s) : Runs 8388624 s (execJbRecompute a0 s) := by
  unfold execJbRecompute
  refine Runs.ite ?_ ?_
  · refine Runs.next ?_
    exact Moves.refl
  · extract_lets -merge -underBinder -useContext x0 x1 x2 x3 x4 x5 x6 x7 x8 x9
    clear_value x0
    have h10 : Moves 8388624 s x1 := by
      unfold x1
      refine Moves.step (State.runTo_moves ..) (by decide) ?_
      exact Moves.refl
    clear_value x1
    clear_value x2
    clear_value x3
    clear_value x4
    clear_value x5
    clear_value x6
    clear_value x7
    clear_value x8
    clear_value x9
    refine Runs.ite ?_ ?_
    · refine Runs.next ?_
      exact Moves.refl
    · refine Runs.next ?_
      refine Moves.step (State.setLeg_moves ..) (by decide) ?_
      with_reducible assumption

theorem State.jtag_moves (s a1 a2) : Moves 4503599627370496 s (State.jtag s a1 a2) := by
  unfold State.jtag
  refine Moves.step (Moves.set_pins ..) (by decide) ?_
  exact Moves.refl

theorem execJtagBypass_moves (s) : Runs 4503599627370496 s (execJtagBypass s) := by
  unfold execJtagBypass
  refine Runs.next ?_
  refine Moves.step (State.jtag_moves ..) (by decide) ?_
  exact Moves.refl

theorem execJtagExtest_moves (a0 s) : Runs 4503599627370496 s (execJtagExtest a0 s) := by
  unfold execJtagExtest
  refine Runs.next ?_
  refine Moves.step (State.jtag_moves ..) (by decide) ?_
  exact Moves.refl

theorem execJtagIdcode_moves (s) : Runs 4503599627370496 s (execJtagIdcode s) := by
  unfold execJtagIdcode
  refine Runs.next ?_
  refine Moves.step (State.jtag_moves ..) (by decide) ?_
  exact Moves.refl

theorem execJtagSamplePreload_moves (a0 s) : Runs 4503599627370496 s (execJtagSamplePreload a0 s) := by
  unfold execJtagSamplePreload
  refine Runs.next ?_
  refine Moves.step (State.jtag_moves ..) (by decide) ?_
  exact Moves.refl

theorem State.reachTick_moves (s a1) : Moves 17 s (State.reachTick s a1) := by
  unfold State.reachTick
  refine Moves.ite ?_ ?_
  · refine Moves.step (State.wr_moves ..) (by decide) ?_
    exact Moves.refl
  · refine Moves.step (State.runTo_moves ..) (by decide) ?_
    exact Moves.refl

theorem State.serveFrames_moves (s a1 a2) : Moves 274877906945 s (State.serveFrames s a1 a2) := by
  unfold State.serveFrames
  extract_lets -merge -underBinder -useContext x0
  have h1 : Moves 274877906945 s x0 := by
    unfold x0
    refine Moves.step (State.modFab_moves ..) (by decide) ?_
    exact Moves.refl
  clear_value x0
  refine Moves.forEach (fun y2 y3 => ?_) ?_
  · split
    · split
      · refine Moves.step (State.modFab_moves ..) (by decide) ?_
        exact Moves.refl
      · refine Moves.step (State.modFab_moves ..) (by decide) ?_
        refine Moves.step (State.bumpSat_moves ..) (by decide) ?_
        exact Moves.refl
      · exact Moves.refl
    · exact Moves.refl
    · exact Moves.refl
    · exact Moves.refl
    · exact Moves.refl
    · exact Moves.refl
    · exact Moves.refl
    · exact Moves.refl
    · exact Moves.refl
  · with_reducible assumption

theorem State.installCopy_moves (s a1) : Moves 18014468847960064 s (State.installCopy s a1) := by
  unfold State.installCopy
  extract_lets -merge -underBinder -useContext x0 x1 x2 x3
  clear_value x0
  have h4 : Moves 18014468847960064 s x1 := by
    unfold x1
    refine Moves.step (State.setLegA_moves ..) (by decide) ?_
    refine Moves.step (State.setLeg_moves ..) (by decide) ?_
    exact Moves.refl
  clear_value x1
  have h5 : Moves 18014468847960064 s x2 := by
    unfold x2
    refine Moves.forEach (fun y6 y7 => ?_) ?_
    · refine Moves.step (State.setOstr_moves ..) (by decide) ?_
      exact Moves.refl
    · with_reducible assumption
  clear_value x2
  have h8 : Moves 18014468847960064 s x3 := by
    unfold x3
    refine Moves.forEach (fun y9 y10 => ?_) ?_
    · refine Moves.step (State.setVstr_moves ..) (by decide) ?_
      exact Moves.refl
    · with_reducible assumption
  clear_value x3
  refine Moves.step (State.modTwin_moves ..) (by decide) ?_
  with_reducible assumption

theorem State.freezeLeg_moves (s a1 a2 a3) : Moves 18014606286913536 s (State.freezeLeg s a1 a2 a3) := by
  unfold State.freezeLeg
  refine Moves.ite ?_ ?_
  · refine Moves.step (State.modTwin_moves ..) (by decide) ?_
    exact Moves.refl
  · split
    · refine Moves.step (State.installCopy_moves ..) (by decide) ?_
      exact Moves.refl
    · refine Moves.step (State.sendMsg_moves ..) (by decide) ?_
      exact Moves.refl

theorem State.freezeTake_moves (s a1 a2) : Moves 18014617294345985 s (State.freezeTake s a1 a2) := by
  unfold State.freezeTake
  extract_lets -merge -underBinder -useContext x0 x1
  clear_value x0
  have h2 : Moves 18014617294345985 s x1 := by
    unfold x1
    refine Moves.step (State.modTwin_moves ..) (by decide) ?_
    exact Moves.refl
  clear_value x1
  refine Moves.forEach (fun y3 y4 => ?_) ?_
  · refine Moves.step (State.freezeLeg_moves ..) (by decide) ?_
    exact Moves.refl
  · refine Moves.step (State.freezeSwitches_moves ..) (by decide) ?_
    with_reducible assumption

theorem State.takeAdmit_moves (s a1 a2 a3 a4 a5 a6 a7 a8 a9) : Moves 2421079711489 s (State.takeAdmit s a1 a2 a3 a4 a5 a6 a7 a8 a9) := by
  unfold State.takeAdmit
  split
  · extract_lets -merge -underBinder -useContext x0
    have h1 : Moves 2421079711489 s x0 := by
      unfold x0
      refine Moves.step (State.modTwin_moves ..) (by decide) ?_
      exact Moves.refl
    clear_value x0
    refine Moves.step (State.srtpRx_moves ..) (by decide) ?_
    with_reducible assumption
  · split
    · refine Moves.step (State.srtpRx_moves ..) (by decide) ?_
      refine Moves.step (State.bumpSat_moves ..) (by decide) ?_
      exact Moves.refl
    · exact Moves.refl

theorem State.takeGate_moves (s a1 a2 a3 a4 a5) : Moves 34368259137 s (State.takeGate s a1 a2 a3 a4 a5) := by
  unfold State.takeGate
  split
  · exact Moves.refl
  · extract_lets -merge -underBinder -useContext x0 x1 x2 x3 x4
    clear_value x0
    clear_value x1
    have h5 : Moves 34368259137 s x2 := by
      unfold x2
      refine Moves.step (Moves.set_gate ..) (by decide) ?_
      exact Moves.refl
    clear_value x2
    clear_value x3
    have h6 : Moves 34368259137 s x4 := by
      unfold x4
      refine Moves.ite ?_ ?_
      · refine Moves.step (State.setLayout_moves ..) (by decide) ?_
        with_reducible assumption
      · with_reducible assumption
    clear_value x4
    refine Moves.step (State.showGate_moves ..) (by decide) ?_
    refine Moves.step (State.keyRefresh_moves ..) (by decide) ?_
    refine Moves.step (State.legAccepted_moves ..) (by decide) ?_
    with_reducible assumption

theorem State.takeProgCmd_moves (s a1 a2) : Moves 9007199254740993 s (State.takeProgCmd s a1 a2) := by
  unfold State.takeProgCmd
  refine Moves.ite ?_ ?_
  · refine Moves.step (Moves.set_audio ..) (by decide) ?_
    exact Moves.refl
  · refine Moves.ite ?_ ?_
    · refine Moves.step (State.put_moves ..) (by decide) ?_
      refine Moves.step (Moves.set_audio ..) (by decide) ?_
      exact Moves.refl
    · exact Moves.refl

theorem State.placeKernels_moves (s a1) : Moves 360287970189639680 s (State.placeKernels s a1) := by
  unfold State.placeKernels
  extract_lets -merge -underBinder -useContext x0 x1
  clear_value x0
  have h2 : Moves 360287970189639680 s x1 := by
    unfold x1
    refine Moves.forUpTo (fun y3 y4 => ?_) ?_
    · extract_lets -merge -underBinder -useContext x5
      clear_value x5
      refine Moves.ite ?_ ?_
      · exact Moves.refl
      · refine Moves.step (Moves.set_kernels ..) (by decide) ?_
        exact Moves.refl
    · exact Moves.refl
  clear_value x1
  refine Moves.forUpTo (fun y6 y7 => ?_) ?_
  · extract_lets -merge -underBinder -useContext x8 x9 x10
    clear_value x8
    clear_value x9
    clear_value x10
    refine Moves.step (State.setCore_moves ..) (by decide) ?_
    exact Moves.refl
  · with_reducible assumption

theorem State.takeKernel_moves (s a1 a2 a3) : Moves 360287970189639681 s (State.takeKernel s a1 a2 a3) := by
  unfold State.takeKernel
  extract_lets -merge -underBinder -useContext x0 x1
  have h2 : Moves 360287970189639681 s x0 := by
    unfold x0
    refine Moves.step (Moves.set_kernels ..) (by decide) ?_
    exact Moves.refl
  clear_value x0
  have h3 : Moves 360287970189639681 s x1 := by
    unfold x1
    refine Moves.step (State.put_moves ..) (by decide) ?_
    with_reducible assumption
  clear_value x1
  refine Moves.step (State.placeKernels_moves ..) (by decide) ?_
  refine Moves.step (State.put_moves ..) (by decide) ?_
  with_reducible assumption

theorem State.takePlayerCmd_moves (s a1 a2 a3) : Moves 9007199254745857 s (State.takePlayerCmd s a1 a2 a3) := by
  unfold State.takePlayerCmd
  refine Moves.ite ?_ ?_
  · extract_lets -merge -underBinder -useContext x0
    have h1 : Moves 9007199254745857 s x0 := by
      unfold x0
      refine Moves.step (State.setPlayer_moves ..) (by decide) ?_
      exact Moves.refl
    clear_value x0
    refine Moves.step (State.put_moves ..) (by decide) ?_
    refine Moves.step (State.put_moves ..) (by decide) ?_
    with_reducible assumption
  · refine Moves.ite ?_ ?_
    · refine Moves.step (State.playerStop_moves ..) (by decide) ?_
      exact Moves.refl
    · exact Moves.refl

theorem State.takeWrite_moves (s a1 a2 a3) : Moves 370421069351228161 s (State.takeWrite s a1 a2 a3) := by
  unfold State.takeWrite
  refine Moves.ite ?_ ?_
  · refine Moves.step (State.takeProgCmd_moves ..) (by decide) ?_
    exact Moves.refl
  · refine Moves.ite ?_ ?_
    · refine Moves.step (State.modSvc_moves ..) (by decide) ?_
      exact Moves.refl
    · split
      · refine Moves.step (State.takeKernel_moves ..) (by decide) ?_
        exact Moves.refl
      · refine Moves.step (State.takePlayerCmd_moves ..) (by decide) ?_
        exact Moves.refl
      · refine Moves.step (State.showTwin_moves ..) (by decide) ?_
        refine Moves.step (State.applyWrite_moves ..) (by decide) ?_
        exact Moves.refl

theorem State.takeImage_moves (s a1 a2 a3 a4) : Moves 369295169444380673 s (State.takeImage s a1 a2 a3 a4) := by
  unfold State.takeImage
  refine Moves.ite ?_ ?_
  · refine Moves.step (State.takeKernel_moves ..) (by decide) ?_
    exact Moves.refl
  · extract_lets -merge -underBinder -useContext x0 x1
    clear_value x0
    clear_value x1
    refine Moves.step (State.put_moves ..) (by decide) ?_
    refine Moves.step (Moves.set_audio ..) (by decide) ?_
    exact Moves.refl

theorem State.takeResync_moves (s a1 a2) : Moves 68719476736 s (State.takeResync s a1 a2) := by
  unfold State.takeResync
  refine Moves.step (State.modTwin_moves ..) (by decide) ?_
  exact Moves.refl

theorem State.loadCtx_moves (s a1 a2) : Moves 4295098369 s (State.loadCtx s a1 a2) := by
  unfold State.loadCtx
  extract_lets -merge -underBinder -useContext x0 x1
  have h2 : Moves 4295098369 s x0 := by
    unfold x0
    refine Moves.step (Moves.set_keys ..) (by decide) ?_
    exact Moves.refl
  clear_value x0
  have h3 : Moves 4295098369 s x1 := by
    unfold x1
    refine Moves.step (Moves.set_rxWin ..) (by decide) ?_
    with_reducible assumption
  clear_value x1
  refine Moves.step (State.keyRefresh_moves ..) (by decide) ?_
  with_reducible assumption

theorem State.eraseCtx_moves (s a1) : Moves 131073 s (State.eraseCtx s a1) := by
  unfold State.eraseCtx
  refine Moves.step (State.keyRefresh_moves ..) (by decide) ?_
  refine Moves.step (Moves.set_keys ..) (by decide) ?_
  exact Moves.refl

theorem State.takeKey_moves (s a1 a2 a3) : Moves 17596481142785 s (State.takeKey s a1 a2 a3) := by
  unfold State.takeKey
  extract_lets -merge -underBinder -useContext x0
  have h1 : Moves 17596481142785 s x0 := by
    unfold x0
    refine Moves.ite ?_ ?_
    · refine Moves.step (State.invoke_moves ..) (by decide) ?_
      exact Moves.refl
    · exact Moves.refl
  clear_value x0
  refine Moves.ite ?_ ?_
  · refine Moves.step (State.loadCtx_moves ..) (by decide) ?_
    with_reducible assumption
  · refine Moves.step (State.eraseCtx_moves ..) (by decide) ?_
    with_reducible assumption

theorem State.takeMark_moves (s a1 a2 a3 a4 a5) : Moves 68719476736 s (State.takeMark s a1 a2 a3 a4 a5) := by
  unfold State.takeMark
  refine Moves.step (State.modTwin_moves ..) (by decide) ?_
  exact Moves.refl

theorem State.takeEntry_moves (s a1 a2) : Moves 370441117043957569 s (State.takeEntry s a1 a2) := by
  unfold State.takeEntry
  split
  · refine Moves.step (State.takeAdmit_moves ..) (by decide) ?_
    exact Moves.refl
  · refine Moves.step (State.takeGate_moves ..) (by decide) ?_
    exact Moves.refl
  · refine Moves.step (State.takeWrite_moves ..) (by decide) ?_
    exact Moves.refl
  · refine Moves.step (State.takeImage_moves ..) (by decide) ?_
    exact Moves.refl
  · exact Moves.refl
  · refine Moves.step (State.setTdm_moves ..) (by decide) ?_
    exact Moves.refl
  · refine Moves.step (State.takeResync_moves ..) (by decide) ?_
    exact Moves.refl
  · refine Moves.step (State.takeKey_moves ..) (by decide) ?_
    exact Moves.refl
  · refine Moves.step (State.takeMark_moves ..) (by decide) ?_
    exact Moves.refl

theorem State.swapJunior_moves (s a1) : Moves 68727870337 s (State.swapJunior s a1) := by
  unfold State.swapJunior
  refine Moves.ite ?_ ?_
  · extract_lets -merge -underBinder -useContext x0
    have h1 : Moves 68727870337 s x0 := by
      unfold x0
      refine Moves.step (State.enterTwin_moves ..) (by decide) ?_
      refine Moves.step (State.modTwin_moves ..) (by decide) ?_
      exact Moves.refl
    clear_value x0
    refine Moves.step (State.post_moves ..) (by decide) ?_
    with_reducible assumption
  · exact Moves.refl

theorem State.tickExecuted_moves (s a1) : Moves 68727872385 s (State.tickExecuted s a1) := by
  unfold State.tickExecuted
  extract_lets -merge -underBinder -useContext x0 x1
  have h2 : Moves 68727872385 s x0 := by
    unfold x0
    refine Moves.step (State.wr64_moves ..) (by decide) ?_
    refine Moves.step (State.modTwin_moves ..) (by decide) ?_
    exact Moves.refl
  clear_value x0
  have h3 : Moves 68727872385 s x1 := by
    unfold x1
    refine Moves.ite ?_ ?_
    · refine Moves.step (State.put_moves ..) (by decide) ?_
      with_reducible assumption
    · refine Moves.step (State.bankDrain_moves ..) (by decide) ?_
      with_reducible assumption
  clear_value x1
  refine Moves.step (State.swapJunior_moves ..) (by decide) ?_
  with_reducible assumption

theorem State.tickFromLedger_moves (s a1 a2 a3 a4) : Moves 1577969060398473201 s (State.tickFromLedger s a1 a2 a3 a4) := by
  unfold State.tickFromLedger
  extract_lets -merge -underBinder -useContext x0 x1 x2 x3
  clear_value x0
  have h4 : Moves 1577969060398473201 s x1 := by
    unfold x1
    refine Moves.step (State.reachTick_moves ..) (by decide) ?_
    exact Moves.refl
  clear_value x1
  have h5 : Moves 1577969060398473201 s x2 := by
    unfold x2
    refine Moves.step (State.boundaryWork_moves ..) (by decide) ?_
    refine Moves.step (State.serveFrames_moves ..) (by decide) ?_
    refine Moves.step (State.freezeTake_moves ..) (by decide) ?_
    with_reducible assumption
  clear_value x2
  have h6 : Moves 1577969060398473201 s x3 := by
    unfold x3
    refine Moves.forEach (fun y7 y8 => ?_) ?_
    · refine Moves.step (State.takeEntry_moves ..) (by decide) ?_
      exact Moves.refl
    · with_reducible assumption
  clear_value x3
  refine Moves.step (State.tickExecuted_moves ..) (by decide) ?_
  refine Moves.step (State.releaseAll_moves ..) (by decide) ?_
  with_reducible assumption

theorem execJuniorTickExecute_moves (a0 a1 a2 s) : Runs 1577969060398473201 s (execJuniorTickExecute a0 a1 a2 s) := by
  unfold execJuniorTickExecute
  extract_lets -merge -underBinder -useContext x0 x1
  clear_value x0
  clear_value x1
  refine Runs.ite ?_ ?_
  · refine Runs.next ?_
    refine Moves.step (State.tickFromLedger_moves ..) (by decide) ?_
    exact Moves.refl
  · refine Runs.next ?_
    exact Moves.refl

theorem State.showOverdue_moves (s) : Moves 1 s (State.showOverdue s) := by
  unfold State.showOverdue
  extract_lets -merge -underBinder -useContext x0
  clear_value x0
  refine Moves.step (State.put_moves ..) (by decide) ?_
  exact Moves.refl

theorem State.testFail_moves (s a1 a2) : Moves 3533094798401901313 s (State.testFail s a1 a2) := by
  unfold State.testFail
  refine Moves.ite ?_ ?_
  · refine Moves.step (State.alarm_moves ..) (by decide) ?_
    refine Moves.step (State.bumpSat_moves ..) (by decide) ?_
    exact Moves.refl
  · refine Moves.step (State.katFail_moves ..) (by decide) ?_
    exact Moves.refl

theorem execKatChunk_moves (a0 a1 a2 a3 s) : Runs 3533094798401901313 s (execKatChunk a0 a1 a2 a3 s) := by
  unfold execKatChunk
  refine Runs.ite ?_ ?_
  · refine Runs.ite ?_ ?_
    · refine Runs.ite ?_ ?_
      · refine Runs.next ?_
        refine Moves.step (State.showOverdue_moves ..) (by decide) ?_
        refine Moves.step (State.setEng_moves ..) (by decide) ?_
        refine Moves.step (State.bump_moves ..) (by decide) ?_
        exact Moves.refl
      · refine Runs.next ?_
        exact Moves.refl
    · refine Runs.next ?_
      refine Moves.step (State.testFail_moves ..) (by decide) ?_
      exact Moves.refl
  · refine Runs.next ?_
    exact Moves.refl

theorem execKernelBudgetEnd_moves (a0 s) : Runs 81064793426891521 s (execKernelBudgetEnd a0 s) := by
  unfold execKernelBudgetEnd
  extract_lets -merge -underBinder -useContext x0 x1 x2 x3 x4 x5
  clear_value x0
  clear_value x1
  have h6 : Moves 81064793426891521 s x2 := by
    unfold x2
    refine Moves.step (State.activationEnd_moves ..) (by decide) ?_
    exact Moves.refl
  clear_value x2
  clear_value x3
  have h7 : Moves 81064793426891521 s x4 := by
    unfold x4
    refine Moves.step (State.setNode_moves ..) (by decide) ?_
    with_reducible assumption
  clear_value x4
  have h8 : Moves 81064793426891521 s x5 := by
    unfold x5
    refine Moves.step (State.contained_moves ..) (by decide) ?_
    refine Moves.step (State.bump_moves ..) (by decide) ?_
    with_reducible assumption
  clear_value x5
  refine Runs.ite ?_ ?_
  · refine Runs.next ?_
    refine Moves.step (State.postLimited_moves ..) (by decide) ?_
    with_reducible assumption
  · refine Runs.next ?_
    exact Moves.refl

theorem State.kernelCmdWrite_moves (s a1 a2) : Moves 576460958461856001 s (State.kernelCmdWrite s a1 a2) := by
  unfold State.kernelCmdWrite
  refine Moves.step (State.checked_moves (m := 576460958461856001) (hf := fun y0 => ?_) ..) (by decide) ?_
  · extract_lets -merge -underBinder -useContext x1 x2 x3 x4 x5 x6 x7
    clear_value x1
    clear_value x2
    clear_value x3
    clear_value x4
    clear_value x5
    have h8 : Moves 576460958461856001 y0 x6 := by
      unfold x6
      split
      · refine Moves.step (State.reject_moves ..) (by decide) ?_
        exact Moves.refl
      · refine Moves.ite ?_ ?_
        · refine Moves.step (State.record_moves ..) (by decide) ?_
          exact Moves.refl
        · refine Moves.step (State.record_moves ..) (by decide) ?_
          exact Moves.refl
    clear_value x6
    have h9 : Moves 576460958461856001 y0 x7 := by
      unfold x7
      refine Moves.step (State.unvalid_moves ..) (by decide) ?_
      with_reducible assumption
    clear_value x7
    refine Moves.step (Moves.set_kernelCmd ..) (by decide) ?_
    with_reducible assumption
  · exact Moves.refl

theorem execKernelLoad_moves (a0 a1 s) : Runs 576460958461856001 s (execKernelLoad a0 a1 s) := by
  unfold execKernelLoad
  refine Runs.ite ?_ ?_
  · refine Runs.next ?_
    refine Moves.step (State.kernelCmdWrite_moves ..) (by decide) ?_
    exact Moves.refl
  · refine Runs.next ?_
    exact Moves.refl

theorem execKernelLoadDone_moves (a0 s) : Runs 936748722493068033 s (execKernelLoadDone a0 s) := by
  unfold execKernelLoadDone
  split
  · refine Runs.next ?_
    exact Moves.refl
  · extract_lets -merge -underBinder -useContext x0 x1 x2 x3 x4 x5 x6
    have h7 : Moves 936748722493068033 s x0 := by
      unfold x0
      refine Moves.step (Moves.set_kernelCmd ..) (by decide) ?_
      exact Moves.refl
    clear_value x0
    clear_value x1
    have h8 : Moves 936748722493068033 s x2 := by
      unfold x2
      refine Moves.step (Moves.set_kernels ..) (by decide) ?_
      with_reducible assumption
    clear_value x2
    have h9 : Moves 936748722493068033 s x3 := by
      unfold x3
      refine Moves.step (State.put_moves ..) (by decide) ?_
      with_reducible assumption
    clear_value x3
    have h10 : Moves 936748722493068033 s x4 := by
      unfold x4
      refine Moves.ite ?_ ?_
      · refine Moves.step (State.placeKernels_moves ..) (by decide) ?_
        refine Moves.step (State.put_moves ..) (by decide) ?_
        with_reducible assumption
      · with_reducible assumption
    clear_value x4
    have h11 : Moves 936748722493068033 s x5 := by
      unfold x5
      refine Moves.step (State.postResult_moves ..) (by decide) ?_
      with_reducible assumption
    clear_value x5
    have h12 : Moves 936748722493068033 s x6 := by
      unfold x6
      refine Moves.step (State.event_moves ..) (by decide) ?_
      with_reducible assumption
    clear_value x6
    refine Runs.next ?_
    refine Moves.ite ?_ ?_
    · refine Moves.step (State.post_moves ..) (by decide) ?_
      with_reducible assumption
    · with_reducible assumption

theorem execKernelUnload_moves (a0 a1 s) : Runs 576460958461856001 s (execKernelUnload a0 a1 s) := by
  unfold execKernelUnload
  refine Runs.ite ?_ ?_
  · refine Runs.next ?_
    refine Moves.step (State.kernelCmdWrite_moves ..) (by decide) ?_
    exact Moves.refl
  · refine Runs.next ?_
    exact Moves.refl

theorem State.recordKey_moves (s a1 a2 a3) : Moves 17798344476673 s (State.recordKey s a1 a2 a3) := by
  unfold State.recordKey
  refine Moves.ite ?_ ?_
  · extract_lets -merge -underBinder -useContext x0
    have h1 : Moves 17798344476673 s x0 := by
      unfold x0
      refine Moves.ite ?_ ?_
      · refine Moves.step (State.invoke_moves ..) (by decide) ?_
        exact Moves.refl
      · exact Moves.refl
    clear_value x0
    refine Moves.step (State.record_moves ..) (by decide) ?_
    with_reducible assumption
  · exact Moves.refl

theorem State.keyCommand_moves2 (s a1 a2) : Moves 17802639579905 s (State.keyCommand s a1 a2).2 := by
  unfold State.keyCommand
  extract_lets -merge -underBinder -useContext x0 x1 x2 x3 x4
  clear_value x0
  clear_value x1
  clear_value x2
  clear_value x3
  clear_value x4
  split
  · exact Moves.refl
  · split
    · exact Moves.refl
    · split
      · exact Moves.refl
      · split
        · exact Moves.refl
        · split
          · split
            · exact Moves.refl
            · try dsimp only
              refine Moves.step (State.recordKey_moves ..) (by decide) ?_
              refine Moves.step (State.eraseCtx_moves ..) (by decide) ?_
              exact Moves.refl
          · split
            · split
              · exact Moves.refl
              · split
                · exact Moves.refl
                · try dsimp only
                  refine Moves.step (State.recordKey_moves ..) (by decide) ?_
                  refine Moves.step (State.loadCtx_moves ..) (by decide) ?_
                  exact Moves.refl
            · split
              · exact Moves.refl
              · split
                · split
                  · exact Moves.refl
                  · try dsimp only
                    refine Moves.step (State.exhaustedEvent_moves ..) (by decide) ?_
                    exact Moves.refl
                · extract_lets -merge -underBinder -useContext x5
                  have h6 : Moves 17802639579905 s x5 := by
                    unfold x5
                    refine Moves.step (State.invoke_moves ..) (by decide) ?_
                    exact Moves.refl
                  clear_value x5
                  split
                  · try dsimp only
                    with_reducible assumption
                  · split
                    · try dsimp only
                      with_reducible assumption
                    · extract_lets -merge -underBinder -useContext x7
                      clear_value x7
                      split
                      · try dsimp only
                        with_reducible assumption
                      · try dsimp only
                        refine Moves.step (State.recordKey_moves ..) (by decide) ?_
                        refine Moves.step (State.loadCtx_moves ..) (by decide) ?_
                        with_reducible assumption

theorem execKeystoreCmdDone_moves (s) : Runs 17802639579905 s (execKeystoreCmdDone s) := by
  unfold execKeystoreCmdDone
  split
  · refine Runs.next ?_
    exact Moves.refl
  · extract_lets -merge -underBinder -useContext x0 x1
    have h2 : Moves 17802639579905 s x0 := by
      unfold x0
      refine Moves.step (State.modSec_moves ..) (by decide) ?_
      exact Moves.refl
    clear_value x0
    clear_value x1
    split
    · rename_i s3 q3
      have h3 := Moves.at2 (m := 17802639579905) (s := s) q3 (by
        refine Moves.step (State.keyCommand_moves2 ..) (by decide) ?_
        with_reducible assumption)
      extract_lets -merge -underBinder -useContext x4 x5
      clear_value x4
      have h6 : Moves 17802639579905 s x5 := by
        unfold x5
        refine Moves.step (State.postResult_moves ..) (by decide) ?_
        with_reducible assumption
      clear_value x5
      refine Runs.next ?_
      refine Moves.ite ?_ ?_
      · with_reducible assumption
      · refine Moves.step (State.postErr_moves ..) (by decide) ?_
        with_reducible assumption

theorem State.keystoreCmdWrite_moves (s a1) : Moves 17592186044673 s (State.keystoreCmdWrite s a1) := by
  unfold State.keystoreCmdWrite
  extract_lets -merge -underBinder -useContext x0
  clear_value x0
  refine Moves.ite ?_ ?_
  · refine Moves.step (State.reject_moves ..) (by decide) ?_
    exact Moves.refl
  · refine Moves.ite ?_ ?_
    · refine Moves.step (State.reject_moves ..) (by decide) ?_
      exact Moves.refl
    · refine Moves.step (State.modSec_moves ..) (by decide) ?_
      refine Moves.step (State.unvalid_moves ..) (by decide) ?_
      exact Moves.refl

theorem execKeystoreErase_moves (a0 s) : Runs 17592186044673 s (execKeystoreErase a0 s) := by
  unfold execKeystoreErase
  refine Runs.next ?_
  refine Moves.step (State.keystoreCmdWrite_moves ..) (by decide) ?_
  exact Moves.refl

theorem execKeystoreLoad_moves (a0 s) : Runs 17592186044673 s (execKeystoreLoad a0 s) := by
  unfold execKeystoreLoad
  refine Runs.next ?_
  refine Moves.step (State.keystoreCmdWrite_moves ..) (by decide) ?_
  exact Moves.refl

theorem execKeystoreLoadWrapped_moves (a0 a1 s) : Runs 17592186044673 s (execKeystoreLoadWrapped a0 a1 s) := by
  unfold execKeystoreLoadWrapped
  refine Runs.next ?_
  refine Moves.step (State.keystoreCmdWrite_moves ..) (by decide) ?_
  exact Moves.refl

theorem State.keystoreSelWrite_moves (s a1) : Moves 4194561 s (State.keystoreSelWrite s a1) := by
  unfold State.keystoreSelWrite
  refine Moves.step (State.checked_moves (m := 4194561) (hf := fun y0 => ?_) ..) (by decide) ?_
  · refine Moves.step (State.unvalid_moves ..) (by decide) ?_
    refine Moves.step (State.fetchStart_moves ..) (by decide) ?_
    refine Moves.step (State.applyWrite_moves ..) (by decide) ?_
    exact Moves.refl
  · exact Moves.refl

theorem execKeystoreSel_moves (a0 s) : Runs 4194561 s (execKeystoreSel a0 s) := by
  unfold execKeystoreSel
  refine Runs.next ?_
  refine Moves.step (State.keystoreSelWrite_moves ..) (by decide) ?_
  exact Moves.refl

theorem execLd_moves (a0 a1 a2 a3 a4 s) : Runs 225179981502747521 s (execLd a0 a1 a2 a3 a4 s) := by
  unfold execLd
  refine Runs.next ?_
  refine Moves.step (State.issueOn_moves ..) (by decide) ?_
  exact Moves.refl

theorem execLdh_moves (a0 a1 a2 a3 a4 s) : Runs 225179981502747521 s (execLdh a0 a1 a2 a3 a4 s) := by
  unfold execLdh
  refine Runs.next ?_
  refine Moves.step (State.issueOn_moves ..) (by decide) ?_
  exact Moves.refl

theorem execLdp_moves (a0 a1 a2 a3 a4 s) : Runs 225179981502747521 s (execLdp a0 a1 a2 a3 a4 s) := by
  unfold execLdp
  refine Runs.next ?_
  refine Moves.step (State.issueOn_moves ..) (by decide) ?_
  exact Moves.refl

theorem execLegStatsWrite_moves (a0 s) : Runs 2199023288320 s (execLegStatsWrite a0 s) := by
  unfold execLegStatsWrite
  refine Runs.ite ?_ ?_
  · refine Runs.next ?_
    refine Moves.step (State.dramPut_moves ..) (by decide) ?_
    exact Moves.refl
  · refine Runs.next ?_
    exact Moves.refl

theorem execLifeAccumulate_moves (a0 s) : Runs 6755399441055761 s (execLifeAccumulate a0 s) := by
  unfold execLifeAccumulate
  extract_lets -merge -underBinder -useContext x0 x1 x2 x3
  have h4 : Moves 6755399441055761 s x0 := by
    unfold x0
    refine Moves.step (State.runTo_moves ..) (by decide) ?_
    exact Moves.refl
  clear_value x0
  have h5 : Moves 6755399441055761 s x1 := by
    unfold x1
    refine Moves.step (State.senseHottest_moves ..) (by decide) ?_
    with_reducible assumption
  clear_value x1
  clear_value x2
  clear_value x3
  refine Runs.next ?_
  refine Moves.step (State.put_moves ..) (by decide) ?_
  refine Moves.step (State.modCrier_moves ..) (by decide) ?_
  with_reducible assumption

theorem execLifeSave_moves (s) : Runs 35184372088832 s (execLifeSave s) := by
  unfold execLifeSave
  refine Runs.next ?_
  refine Moves.step (Moves.set_flash ..) (by decide) ?_
  exact Moves.refl

theorem execLoop0_moves (a0 a1 a2 s) : Runs 225179981502747521 s (execLoop0 a0 a1 a2 s) := by
  unfold execLoop0
  refine Runs.next ?_
  refine Moves.step (State.issueOn_moves ..) (by decide) ?_
  exact Moves.refl

theorem execLoop1_moves (a0 a1 a2 s) : Runs 225179981502747521 s (execLoop1 a0 a1 a2 s) := by
  unfold execLoop1
  refine Runs.next ?_
  refine Moves.step (State.issueOn_moves ..) (by decide) ?_
  exact Moves.refl

theorem execLoopi0_moves (a0 a1 a2 s) : Runs 225179981502747521 s (execLoopi0 a0 a1 a2 s) := by
  unfold execLoopi0
  refine Runs.next ?_
  refine Moves.step (State.issueOn_moves ..) (by decide) ?_
  exact Moves.refl

theorem execLoopi1_moves (a0 a1 a2 s) : Runs 225179981502747521 s (execLoopi1 a0 a1 a2 s) := by
  unfold execLoopi1
  refine Runs.next ?_
  refine Moves.step (State.issueOn_moves ..) (by decide) ?_
  exact Moves.refl

theorem execMac_moves (a0 a1 a2 a3 s) : Runs 225179981502747521 s (execMac a0 a1 a2 a3 s) := by
  unfold execMac
  refine Runs.next ?_
  refine Moves.step (State.issueOn_moves ..) (by decide) ?_
  exact Moves.refl

theorem execMac2_moves (a0 a1 a2 a3 s) : Runs 225179981502747521 s (execMac2 a0 a1 a2 a3 s) := by
  unfold execMac2
  refine Runs.next ?_
  refine Moves.step (State.issueOn_moves ..) (by decide) ?_
  exact Moves.refl

theorem execMacsu_moves (a0 a1 a2 a3 s) : Runs 225179981502747521 s (execMacsu a0 a1 a2 a3 s) := by
  unfold execMacsu
  refine Runs.next ?_
  refine Moves.step (State.issueOn_moves ..) (by decide) ?_
  exact Moves.refl

theorem execMatchStoreExpire_moves (s) : Runs 68719476752 s (execMatchStoreExpire s) := by
  unfold execMatchStoreExpire
  split
  · refine Runs.next ?_
    exact Moves.refl
  · refine Runs.ite ?_ ?_
    · refine Runs.next ?_
      exact Moves.refl
    · refine Runs.next ?_
      refine Moves.step (State.modTwin_moves ..) (by decide) ?_
      refine Moves.step (State.runTo_moves ..) (by decide) ?_
      exact Moves.refl

theorem execMax_moves (a0 a1 a2 a3 s) : Runs 225179981502747521 s (execMax a0 a1 a2 a3 s) := by
  unfold execMax
  refine Runs.next ?_
  refine Moves.step (State.issueOn_moves ..) (by decide) ?_
  exact Moves.refl

theorem execMemIdleExpire_moves (s) : Runs 216737862379393937 s (execMemIdleExpire s) := by
  unfold execMemIdleExpire
  split
  · refine Runs.next ?_
    exact Moves.refl
  · refine Runs.ite ?_ ?_
    · extract_lets -merge -underBinder -useContext x0 x1
      have h2 : Moves 216737862379393937 s x0 := by
        unfold x0
        refine Moves.step (State.runTo_moves ..) (by decide) ?_
        exact Moves.refl
      clear_value x0
      have h3 : Moves 216737862379393937 s x1 := by
        unfold x1
        refine Moves.step (State.srEnter_moves ..) (by decide) ?_
        refine Moves.step (State.modPwr_moves ..) (by decide) ?_
        with_reducible assumption
      clear_value x1
      refine Runs.next ?_
      refine Moves.ite ?_ ?_
      · refine Moves.step (State.domOff_moves ..) (by decide) ?_
        with_reducible assumption
      · with_reducible assumption
    · refine Runs.next ?_
      exact Moves.refl

theorem execMillContextCopyDone_moves (a0 s) : Runs 1125899906842624 s (execMillContextCopyDone a0 s) := by
  unfold execMillContextCopyDone
  split
  · refine Runs.next ?_
    exact Moves.refl
  · refine Runs.ite ?_ ?_
    · refine Runs.next ?_
      exact Moves.refl
    · refine Runs.next ?_
      refine Moves.step (State.modSvc_moves ..) (by decide) ?_
      exact Moves.refl

theorem State.coreSlotErr_moves (s a1 a2 a3) : Moves 257 s (State.coreSlotErr s a1 a2 a3) := by
  unfold State.coreSlotErr
  refine Moves.step (State.postErr_moves ..) (by decide) ?_
  exact Moves.refl

theorem execMillSlotWrite_moves (a0 a1 a2 s) : Runs 72057594037928193 s (execMillSlotWrite a0 a1 a2 s) := by
  unfold execMillSlotWrite
  extract_lets -merge -underBinder -useContext x0 x1
  clear_value x0
  clear_value x1
  refine Runs.ite ?_ ?_
  · refine Runs.next ?_
    exact Moves.refl
  · refine Runs.ite ?_ ?_
    · refine Runs.next ?_
      refine Moves.step (State.coreSlotErr_moves ..) (by decide) ?_
      exact Moves.refl
    · refine Runs.ite ?_ ?_
      · refine Runs.next ?_
        refine Moves.step (State.coreSlotErr_moves ..) (by decide) ?_
        exact Moves.refl
      · refine Runs.ite ?_ ?_
        · refine Runs.next ?_
          refine Moves.step (State.setCore_moves ..) (by decide) ?_
          exact Moves.refl
        · refine Runs.ite ?_ ?_
          · refine Runs.next ?_
            refine Moves.step (State.coreSlotErr_moves ..) (by decide) ?_
            exact Moves.refl
          · refine Runs.ite ?_ ?_
            · refine Runs.next ?_
              refine Moves.step (State.setCore_moves ..) (by decide) ?_
              exact Moves.refl
            · refine Runs.ite ?_ ?_
              · refine Runs.next ?_
                refine Moves.step (State.coreSlotErr_moves ..) (by decide) ?_
                exact Moves.refl
              · refine Runs.next ?_
                refine Moves.step (State.coreSlotErr_moves ..) (by decide) ?_
                exact Moves.refl

theorem execMin_moves (a0 a1 a2 a3 s) : Runs 225179981502747521 s (execMin a0 a1 a2 a3 s) := by
  unfold execMin
  refine Runs.next ?_
  refine Moves.step (State.issueOn_moves ..) (by decide) ?_
  exact Moves.refl

theorem State.unmappedWrite_moves (s a1) : Moves 1 s (State.unmappedWrite s a1) := by
  unfold State.unmappedWrite
  refine Moves.step (State.bumpSat_moves ..) (by decide) ?_
  refine Moves.step (State.put_moves ..) (by decide) ?_
  exact Moves.refl

theorem execMisalignedAccess_moves (a0 a1 s) : Runs 265 s (execMisalignedAccess a0 a1 s) := by
  unfold execMisalignedAccess
  refine Runs.ite ?_ ?_
  · refine Runs.next ?_
    exact Moves.refl
  · refine Runs.ite ?_ ?_
    · refine Runs.next ?_
      refine Moves.step (Moves.set_readData ..) (by decide) ?_
      exact Moves.refl
    · split
      · refine Runs.next ?_
        refine Moves.step (State.reject_moves ..) (by decide) ?_
        exact Moves.refl
      · refine Runs.next ?_
        refine Moves.step (State.postErr_moves ..) (by decide) ?_
        exact Moves.refl
      · refine Runs.next ?_
        refine Moves.step (State.unmappedWrite_moves ..) (by decide) ?_
        exact Moves.refl

theorem execMovd_moves (a0 a1 a2 s) : Runs 225179981502747521 s (execMovd a0 a1 a2 s) := by
  unfold execMovd
  refine Runs.next ?_
  refine Moves.step (State.issueOn_moves ..) (by decide) ?_
  exact Moves.refl

theorem execMovh_moves (a0 a1 a2 s) : Runs 225179981502747521 s (execMovh a0 a1 a2 s) := by
  unfold execMovh
  refine Runs.next ?_
  refine Moves.step (State.issueOn_moves ..) (by decide) ?_
  exact Moves.refl

theorem execMovi_moves (a0 a1 a2 s) : Runs 225179981502747521 s (execMovi a0 a1 a2 s) := by
  unfold execMovi
  refine Runs.next ?_
  refine Moves.step (State.issueOn_moves ..) (by decide) ?_
  exact Moves.refl

theorem execMovs_moves (a0 a1 a2 s) : Runs 225179981502747521 s (execMovs a0 a1 a2 s) := by
  unfold execMovs
  refine Runs.next ?_
  refine Moves.step (State.issueOn_moves ..) (by decide) ?_
  exact Moves.refl

theorem execMpy_moves (a0 a1 a2 a3 s) : Runs 225179981502747521 s (execMpy a0 a1 a2 a3 s) := by
  unfold execMpy
  refine Runs.next ?_
  refine Moves.step (State.issueOn_moves ..) (by decide) ?_
  exact Moves.refl

theorem execMpy2_moves (a0 a1 a2 a3 s) : Runs 225179981502747521 s (execMpy2 a0 a1 a2 a3 s) := by
  unfold execMpy2
  refine Runs.next ?_
  refine Moves.step (State.issueOn_moves ..) (by decide) ?_
  exact Moves.refl

theorem execMpysu_moves (a0 a1 a2 a3 s) : Runs 225179981502747521 s (execMpysu a0 a1 a2 a3 s) := by
  unfold execMpysu
  refine Runs.next ?_
  refine Moves.step (State.issueOn_moves ..) (by decide) ?_
  exact Moves.refl

theorem State.msixFire_moves (s a1) : Moves 256 s (State.msixFire s a1) := by
  unfold State.msixFire
  refine Moves.ite ?_ ?_
  · refine Moves.step (State.sendMsix_moves ..) (by decide) ?_
    refine Moves.step (Moves.set_msix ..) (by decide) ?_
    exact Moves.refl
  · exact Moves.refl

theorem execMsixVectorUnmask_moves (a0 a1 a2 s) : Runs 256 s (execMsixVectorUnmask a0 a1 a2 s) := by
  unfold execMsixVectorUnmask
  refine Runs.ite ?_ ?_
  · extract_lets -merge -underBinder -useContext x0 x1
    clear_value x0
    have h2 : Moves 256 s x1 := by
      unfold x1
      refine Moves.step (Moves.set_msix ..) (by decide) ?_
      exact Moves.refl
    clear_value x1
    refine Runs.ite ?_ ?_
    · refine Runs.next ?_
      refine Moves.forEach (fun y3 y4 => ?_) ?_
      · refine Moves.step (State.msixFire_moves ..) (by decide) ?_
        exact Moves.refl
      · with_reducible assumption
    · refine Runs.next ?_
      with_reducible assumption
  · refine Runs.next ?_
    exact Moves.refl

theorem execMsu_moves (a0 a1 a2 a3 s) : Runs 225179981502747521 s (execMsu a0 a1 a2 a3 s) := by
  unfold execMsu
  refine Runs.next ?_
  refine Moves.step (State.issueOn_moves ..) (by decide) ?_
  exact Moves.refl

theorem execMsu2_moves (a0 a1 a2 a3 s) : Runs 225179981502747521 s (execMsu2 a0 a1 a2 a3 s) := by
  unfold execMsu2
  refine Runs.next ?_
  refine Moves.step (State.issueOn_moves ..) (by decide) ?_
  exact Moves.refl

theorem execNackRetry_moves (a0 a1 s) : Runs 2962757393 s (execNackRetry a0 a1 s) := by
  unfold execNackRetry
  refine Runs.ite ?_ ?_
  · refine Runs.next ?_
    exact Moves.refl
  · extract_lets -merge -underBinder -useContext x0 x1
    clear_value x0
    clear_value x1
    split
    · refine Runs.next ?_
      exact Moves.refl
    · refine Runs.ite ?_ ?_
      · extract_lets -merge -underBinder -useContext x2 x3 x4
        clear_value x2
        have h5 : Moves 2962757393 s x3 := by
          unfold x3
          refine Moves.step (State.runTo_moves ..) (by decide) ?_
          exact Moves.refl
        clear_value x3
        have h6 : Moves 2962757393 s x4 := by
          unfold x4
          refine Moves.step (State.setVstr_moves ..) (by decide) ?_
          with_reducible assumption
        clear_value x4
        refine Runs.next ?_
        refine Moves.step (State.sendRtcp_moves ..) (by decide) ?_
        with_reducible assumption
      · refine Runs.next ?_
        exact Moves.refl

theorem execNegs_moves (a0 a1 a2 s) : Runs 225179981502747521 s (execNegs a0 a1 a2 s) := by
  unfold execNegs
  refine Runs.next ?_
  refine Moves.step (State.issueOn_moves ..) (by decide) ?_
  exact Moves.refl

theorem execNop_moves (a0 s) : Runs 225179981502747521 s (execNop a0 s) := by
  unfold execNop
  refine Runs.next ?_
  refine Moves.step (State.issueOn_moves ..) (by decide) ?_
  exact Moves.refl

theorem execOr_moves (a0 a1 a2 a3 s) : Runs 225179981502747521 s (execOr a0 a1 a2 a3 s) := by
  unfold execOr
  refine Runs.next ?_
  refine Moves.step (State.issueOn_moves ..) (by decide) ?_
  exact Moves.refl

theorem execOscBack_moves (s) : Runs 433 s (execOscBack s) := by
  unfold execOscBack
  refine Runs.ite ?_ ?_
  · refine Runs.ite ?_ ?_
    · refine Runs.next ?_
      refine Moves.step (State.oscReturn_moves ..) (by decide) ?_
      exact Moves.refl
    · refine Runs.next ?_
      refine Moves.step (Moves.set_bel ..) (by decide) ?_
      exact Moves.refl
  · refine Runs.next ?_
    exact Moves.refl

theorem execOscLost_moves (s) : Runs 433 s (execOscLost s) := by
  unfold execOscLost
  refine Runs.ite ?_ ?_
  · refine Runs.next ?_
    refine Moves.step (Moves.set_bel ..) (by decide) ?_
    exact Moves.refl
  · extract_lets -merge -underBinder -useContext x0 x1 x2 x3
    have h4 : Moves 433 s x0 := by
      unfold x0
      refine Moves.step (State.oscMove_moves ..) (by decide) ?_
      exact Moves.refl
    clear_value x0
    have h5 : Moves 433 s x1 := by
      unfold x1
      refine Moves.step (State.putB_moves ..) (by decide) ?_
      with_reducible assumption
    clear_value x1
    have h6 : Moves 433 s x2 := by
      unfold x2
      refine Moves.step (State.bumpSat_moves ..) (by decide) ?_
      with_reducible assumption
    clear_value x2
    have h7 : Moves 433 s x3 := by
      unfold x3
      refine Moves.step (State.event_moves ..) (by decide) ?_
      with_reducible assumption
    clear_value x3
    refine Runs.next ?_
    refine Moves.step (State.captureInternal_moves ..) (by decide) ?_
    with_reducible assumption

theorem execPacketEnqueue_moves (a0 a1 a2 a3 a4 a5 a6 a7 a8 s) : Runs 2417497857 s (execPacketEnqueue a0 a1 a2 a3 a4 a5 a6 a7 a8 s) := by
  unfold execPacketEnqueue
  extract_lets -merge -underBinder -useContext x0
  clear_value x0
  refine Runs.next ?_
  refine Moves.step (State.enqueuePkt_moves ..) (by decide) ?_
  refine Moves.ite ?_ ?_
  · refine Moves.step (State.access_moves ..) (by decide) ?_
    exact Moves.refl
  · exact Moves.refl

theorem State.noteDigest_moves (s a1 a2) : Moves 68719476736 s (State.noteDigest s a1 a2) := by
  unfold State.noteDigest
  refine Moves.ite ?_ ?_
  · exact Moves.refl
  · extract_lets -merge -underBinder -useContext x0
    have h1 : Moves 68719476736 s x0 := by
      unfold x0
      refine Moves.step (State.modTwin_moves ..) (by decide) ?_
      exact Moves.refl
    clear_value x0
    refine Moves.ite ?_ ?_
    · refine Moves.step (State.modTwin_moves ..) (by decide) ?_
      with_reducible assumption
    · with_reducible assumption

theorem State.linkRelease_moves (s a1) : Moves 206166818816 s (State.linkRelease s a1) := by
  unfold State.linkRelease
  extract_lets -merge -underBinder -useContext x0 x1 x2
  clear_value x0
  clear_value x1
  have h3 : Moves 206166818816 s x2 := by
    unfold x2
    refine Moves.step (State.noteDigest_moves ..) (by decide) ?_
    refine Moves.step (State.setLeg_moves ..) (by decide) ?_
    exact Moves.refl
  clear_value x2
  refine Moves.step (State.sendMsg_moves ..) (by decide) ?_
  with_reducible assumption

theorem State.txStopDropped_moves (s a1) : Moves 8388608 s (State.txStopDropped s a1) := by
  unfold State.txStopDropped
  refine Moves.step (State.modLeg_moves ..) (by decide) ?_
  exact Moves.refl

theorem State.txStop_moves (s a1 a2) : Moves 8393473 s (State.txStop s a1 a2) := by
  unfold State.txStop
  extract_lets -merge -underBinder -useContext x0 x1
  have h2 : Moves 8393473 s x0 := by
    unfold x0
    refine Moves.step (State.modLeg_moves ..) (by decide) ?_
    exact Moves.refl
  clear_value x0
  have h3 : Moves 8393473 s x1 := by
    unfold x1
    refine Moves.step (State.post_moves ..) (by decide) ?_
    with_reducible assumption
  clear_value x1
  refine Moves.step (State.showLegs_moves ..) (by decide) ?_
  with_reducible assumption

theorem State.rekeyWarn_moves (s a1 a2 a3) : Moves 8393473 s (State.rekeyWarn s a1 a2 a3) := by
  unfold State.rekeyWarn
  extract_lets -merge -underBinder -useContext x0 x1 x2
  clear_value x0
  have h3 : Moves 8393473 s x1 := by
    unfold x1
    refine Moves.step (State.modLeg_moves ..) (by decide) ?_
    exact Moves.refl
  clear_value x1
  have h4 : Moves 8393473 s x2 := by
    unfold x2
    refine Moves.step (State.modLeg_moves ..) (by decide) ?_
    exact Moves.refl
  clear_value x2
  refine Moves.ite ?_ ?_
  · refine Moves.ite ?_ ?_
    · refine Moves.step (State.bump_moves ..) (by decide) ?_
      refine Moves.step (State.post_moves ..) (by decide) ?_
      with_reducible assumption
    · exact Moves.refl
  · refine Moves.ite ?_ ?_
    · refine Moves.step (State.bump_moves ..) (by decide) ?_
      refine Moves.step (State.post_moves ..) (by decide) ?_
      with_reducible assumption
    · exact Moves.refl

theorem State.tapSent_moves (s a1 a2) : Moves 33554560 s (State.tapSent s a1 a2) := by
  unfold State.tapSent
  refine Moves.ite ?_ ?_
  · exact Moves.refl
  · split
    · rename_i s0 q0
      have h0 := Moves.at2 (m := 33554560) (s := s) q0 (by
        refine Moves.step (State.fresh_moves2 ..) (by decide) ?_
        exact Moves.refl)
      extract_lets -merge -underBinder -useContext x1
      clear_value x1
      refine Moves.step (State.tapPacket_moves ..) (by decide) ?_
      with_reducible assumption

theorem State.releasePkt_moves (s a1 a2 a3 a4) : Moves 72251086721 s (State.releasePkt s a1 a2 a3 a4) := by
  unfold State.releasePkt
  extract_lets -merge -underBinder -useContext x0 x1 x2 x3 x4 x5 x6 x7 x8 x9 x10 x11 x12 x13 x14 x15 x16 x17 x18 x19 x20 x21 x22 x23 x24
  clear_value x0
  clear_value x1
  have h25 : Moves 72251086721 s x2 := by
    unfold x2
    refine Moves.ite ?_ ?_
    · exact Moves.refl
    · refine Moves.step (State.rekeyWarn_moves ..) (by decide) ?_
      exact Moves.refl
  clear_value x2
  clear_value x3
  clear_value x4
  clear_value x5
  clear_value x6
  clear_value x7
  clear_value x8
  clear_value x9
  clear_value x10
  clear_value x11
  clear_value x12
  clear_value x13
  have h26 : Moves 72251086721 s x14 := by
    unfold x14
    refine Moves.step (State.setLeg_moves ..) (by decide) ?_
    with_reducible assumption
  clear_value x14
  have h27 : Moves 72251086721 s x15 := by
    unfold x15
    split
    · refine Moves.step (State.setOstr_moves ..) (by decide) ?_
      with_reducible assumption
    · refine Moves.step (State.setOstr_moves ..) (by decide) ?_
      with_reducible assumption
    · with_reducible assumption
    · with_reducible assumption
  clear_value x15
  have h28 : Moves 72251086721 s x16 := by
    unfold x16
    refine Moves.ite ?_ ?_
    · refine Moves.step (State.bump_moves ..) (by decide) ?_
      with_reducible assumption
    · with_reducible assumption
  clear_value x16
  have h29 : Moves 72251086721 s x17 := by
    unfold x17
    refine Moves.step (State.bump64_moves ..) (by decide) ?_
    with_reducible assumption
  clear_value x17
  have h30 : Moves 72251086721 s x18 := by
    unfold x18
    refine Moves.step (State.tapSent_moves ..) (by decide) ?_
    with_reducible assumption
  clear_value x18
  clear_value x19
  clear_value x20
  clear_value x21
  have h31 : Moves 72251086721 s x22 := by
    unfold x22
    refine Moves.step (State.setPlane_moves ..) (by decide) ?_
    with_reducible assumption
  clear_value x22
  clear_value x23
  have h32 : Moves 72251086721 s x24 := by
    unfold x24
    refine Moves.step (State.noteDigest_moves ..) (by decide) ?_
    with_reducible assumption
  clear_value x24
  refine Moves.forEach (fun y33 y34 => ?_) ?_
  · refine Moves.forEach (fun y35 y36 => ?_) ?_
    · refine Moves.step (State.depQueue_moves ..) (by decide) ?_
      exact Moves.refl
    · exact Moves.refl
  · with_reducible assumption

theorem State.releaseSteps_moves (s a1 a2) : Moves 72251086721 s (State.releaseSteps s a1 a2) := by
  unfold State.releaseSteps
  extract_lets -merge -underBinder -useContext x0 x1 x2 x3 x4 x5 x6 x7 x8 x9
  clear_value x0
  clear_value x1
  clear_value x2
  clear_value x3
  clear_value x4
  clear_value x5
  clear_value x6
  clear_value x7
  have h10 : Moves 72251086721 s x8 := by
    unfold x8
    refine Moves.forEach (fun y11 y12 => ?_) ?_
    · refine Moves.forEach (fun y13 y14 => ?_) ?_
      · refine Moves.step (State.bump_moves ..) (by decide) ?_
        exact Moves.refl
      · exact Moves.refl
    · exact Moves.refl
  clear_value x8
  clear_value x9
  refine Moves.ite ?_ ?_
  · exact Moves.refl
  · refine Moves.ite ?_ ?_
    · refine Moves.step (State.txStopDropped_moves ..) (by decide) ?_
      exact Moves.refl
    · refine Moves.ite ?_ ?_
      · refine Moves.step (State.bump_moves ..) (by decide) ?_
        exact Moves.refl
      · refine Moves.ite ?_ ?_
        · exact Moves.refl
        · refine Moves.ite ?_ ?_
          · with_reducible assumption
          · refine Moves.ite ?_ ?_
            · refine Moves.step (State.txStopDropped_moves ..) (by decide) ?_
              refine Moves.step (State.txStop_moves ..) (by decide) ?_
              with_reducible assumption
            · refine Moves.ite ?_ ?_
              · refine Moves.step (State.txStopDropped_moves ..) (by decide) ?_
                refine Moves.step (State.txStop_moves ..) (by decide) ?_
                with_reducible assumption
              · refine Moves.step (State.releasePkt_moves ..) (by decide) ?_
                with_reducible assumption

end Sys2Proof.Machine
end

