-- ==== Sys2Proof/Laws/MovesAll4.lean ====
section
/-! SUPPORT. One lemma for each function of the machine that answers a state or an outcome: what it may change (part 4 of 4, in the order in which the functions
use one another). -/

namespace Sys2Proof.Machine

theorem State.packetRelease_moves (s a1) : Moves 209690564497 s (State.packetRelease s a1) := by
  unfold State.packetRelease
  split
  · exact Moves.refl
  · extract_lets -merge -underBinder -useContext x0 x1 x2 x3 x4 x5
    clear_value x0
    clear_value x1
    clear_value x2
    have h6 : Moves 209690564497 s x3 := by
      unfold x3
      refine Moves.step (State.runTo_moves ..) (by decide) ?_
      exact Moves.refl
    clear_value x3
    have h7 : Moves 209690564497 s x4 := by
      unfold x4
      refine Moves.ite ?_ ?_
      · refine Moves.step (State.unqueue_moves ..) (by decide) ?_
        with_reducible assumption
      · with_reducible assumption
    clear_value x4
    have h8 : Moves 209690564497 s x5 := by
      unfold x5
      refine Moves.step (State.dropPkt_moves ..) (by decide) ?_
      with_reducible assumption
    clear_value x5
    refine Moves.ite ?_ ?_
    · exact Moves.refl
    · refine Moves.ite ?_ ?_
      · refine Moves.step (State.linkRelease_moves ..) (by decide) ?_
        with_reducible assumption
      · refine Moves.step (State.releaseSteps_moves ..) (by decide) ?_
        with_reducible assumption

theorem State.twinJump_moves (s) : Moves 80272168705 s (State.twinJump s) := by
  unfold State.twinJump
  refine Moves.ite ?_ ?_
  · exact Moves.refl
  · extract_lets -merge -underBinder -useContext x0 x1 x2 x3 x4 x5 x6 x7
    clear_value x0
    clear_value x1
    clear_value x2
    have h8 : Moves 80272168705 s x3 := by
      unfold x3
      refine Moves.step (State.mapSsrcs_moves ..) (by decide) ?_
      refine Moves.step (Moves.set_twin ..) (by decide) ?_
      exact Moves.refl
    clear_value x3
    have h9 : Moves 80272168705 s x4 := by
      unfold x4
      refine Moves.forUpTo (fun y10 y11 => ?_) ?_
      · refine Moves.step (State.setPlane_moves ..) (by decide) ?_
        exact Moves.refl
      · with_reducible assumption
    clear_value x4
    have h12 : Moves 80272168705 s x5 := by
      unfold x5
      refine Moves.forEach (fun y13 y14 => ?_) ?_
      · refine Moves.step (State.requestSweep_moves ..) (by decide) ?_
        exact Moves.refl
      · with_reducible assumption
    clear_value x5
    clear_value x6
    have h15 : Moves 80272168705 s x7 := by
      unfold x7
      refine Moves.forEach (fun y16 y17 => ?_) ?_
      · refine Moves.step (State.requestPli_moves ..) (by decide) ?_
        exact Moves.refl
      · with_reducible assumption
    clear_value x7
    refine Moves.step (State.put_moves ..) (by decide) ?_
    with_reducible assumption

theorem execPacketRelease_moves (a0 s) : Runs 218818418577 s (execPacketRelease a0 s) := by
  unfold execPacketRelease
  split
  · refine Runs.next ?_
    exact Moves.refl
  · refine Runs.next ?_
    refine Moves.step (State.packetRelease_moves ..) (by decide) ?_
    refine Moves.ite ?_ ?_
    · refine Moves.step (State.twinJump_moves ..) (by decide) ?_
      exact Moves.refl
    · exact Moves.refl

theorem State.quiesce_moves (s a1) : Moves 1 s (State.quiesce s a1) := by
  unfold State.quiesce
  refine Moves.ite ?_ ?_
  · refine Moves.step (State.put_moves ..) (by decide) ?_
    exact Moves.refl
  · refine Moves.ite ?_ ?_
    · refine Moves.step (State.put_moves ..) (by decide) ?_
      exact Moves.refl
    · exact Moves.refl

theorem State.linkEnable_moves (s a1 a2) : Moves 481044730753 s (State.linkEnable s a1 a2) := by
  unfold State.linkEnable
  refine Moves.ite ?_ ?_
  · refine Moves.ite ?_ ?_
    · refine Moves.step (State.linkReset_moves ..) (by decide) ?_
      exact Moves.refl
    · exact Moves.refl
  · refine Moves.ite ?_ ?_
    · exact Moves.refl
    · refine Moves.step (State.put_moves ..) (by decide) ?_
      refine Moves.step (State.linkReset_moves ..) (by decide) ?_
      exact Moves.refl

theorem State.showHours_moves (s a1) : Moves 1 s (State.showHours s a1) := by
  unfold State.showHours
  refine Moves.forEach (fun y0 y1 => ?_) ?_
  · extract_lets -merge -underBinder -useContext x2
    clear_value x2
    refine Moves.ite ?_ ?_
    · refine Moves.step (State.put_moves ..) (by decide) ?_
      exact Moves.refl
    · refine Moves.ite ?_ ?_
      · refine Moves.step (State.put_moves ..) (by decide) ?_
        exact Moves.refl
      · refine Moves.ite ?_ ?_
        · refine Moves.step (State.put_moves ..) (by decide) ?_
          exact Moves.refl
        · exact Moves.refl
  · exact Moves.refl

theorem State.setTrg_moves (s a1 a2) : Moves 32 s (State.setTrg s a1 a2) := by
  unfold State.setTrg
  refine Moves.step (Moves.set_bel ..) (by decide) ?_
  exact Moves.refl

theorem State.belfryPageReset_moves (s) : Moves 289 s (State.belfryPageReset s) := by
  unfold State.belfryPageReset
  extract_lets -merge -underBinder -useContext x0 x1 x2
  have h3 : Moves 289 s x0 := by
    unfold x0
    refine Moves.step (State.servoGo_moves ..) (by decide) ?_
    exact Moves.refl
  clear_value x0
  clear_value x1
  have h4 : Moves 289 s x2 := by
    unfold x2
    refine Moves.forEach (fun y5 y6 => ?_) ?_
    · refine Moves.step (State.setTrg_moves ..) (by decide) ?_
      exact Moves.refl
    · with_reducible assumption
  clear_value x2
  refine Moves.forUpTo (fun y7 y8 => ?_) ?_
  · refine Moves.step (State.setCap_moves ..) (by decide) ?_
    exact Moves.refl
  · with_reducible assumption

theorem State.tdmStop_moves (s a1) : Moves 67108865 s (State.tdmStop s a1) := by
  unfold State.tdmStop
  refine Moves.step (State.tdmLocked_moves ..) (by decide) ?_
  refine Moves.step (State.setTdm_moves ..) (by decide) ?_
  exact Moves.refl

theorem State.evqEmpty_moves (s a1) : Moves 4608 s (State.evqEmpty s a1) := by
  unfold State.evqEmpty
  extract_lets -merge -underBinder -useContext x0
  clear_value x0
  refine Moves.step (Moves.set_evq_freeCells ..) (by decide) ?_
  exact Moves.refl

theorem State.pageLogic_moves (s a1) : Moves 1225139008942642081 s (State.pageLogic s a1) := by
  unfold State.pageLogic
  extract_lets -merge -underBinder -useContext x0 x1 x2
  have h3 : Moves 1225139008942642081 s x0 := by
    unfold x0
    refine Moves.forEach (fun y4 y5 => ?_) ?_
    · refine Moves.ite ?_ ?_
      · refine Moves.step (State.engineAbort_moves ..) (by decide) ?_
        exact Moves.refl
      · exact Moves.refl
    · exact Moves.refl
  clear_value x0
  have h6 : Moves 1225139008942642081 s x1 := by
    unfold x1
    refine Moves.step (State.showHours_moves ..) (by decide) ?_
    with_reducible assumption
  clear_value x1
  have h7 : Moves 1225139008942642081 s x2 := by
    unfold x2
    refine Moves.forUpTo (fun y8 y9 => ?_) ?_
    · refine Moves.step (State.evqEmpty_moves ..) (by decide) ?_
      exact Moves.refl
    · with_reducible assumption
  clear_value x2
  refine Moves.ite ?_ ?_
  · refine Moves.step (State.belfryPageReset_moves ..) (by decide) ?_
    with_reducible assumption
  · refine Moves.ite ?_ ?_
    · refine Moves.forUpTo (fun y10 y11 => ?_) ?_
      · extract_lets -merge -underBinder -useContext x12
        clear_value x12
        refine Moves.step (State.showDma_moves ..) (by decide) ?_
        refine Moves.step (State.dmaEnter_moves ..) (by decide) ?_
        refine Moves.step (State.setDma_moves ..) (by decide) ?_
        exact Moves.refl
      · with_reducible assumption
    · refine Moves.ite ?_ ?_
      · refine Moves.step (State.portCal_moves ..) (by decide) ?_
        with_reducible assumption
      · refine Moves.ite ?_ ?_
        · refine Moves.step (State.tdmStop_moves ..) (by decide) ?_
          with_reducible assumption
        · refine Moves.ite ?_ ?_
          · refine Moves.step (Moves.set_evq ..) (by decide) ?_
            with_reducible assumption
          · refine Moves.ite ?_ ?_
            · refine Moves.step (State.showReeve_moves ..) (by decide) ?_
              with_reducible assumption
            · refine Moves.ite ?_ ?_
              · refine Moves.step (State.linkEnable_moves ..) (by decide) ?_
                with_reducible assumption
              · refine Moves.ite ?_ ?_
                · refine Moves.step (State.put_moves ..) (by decide) ?_
                  with_reducible assumption
                · refine Moves.ite ?_ ?_
                  · refine Moves.step (State.modSec_moves ..) (by decide) ?_
                    with_reducible assumption
                  · with_reducible assumption

theorem State.pageReset_moves (s a1) : Moves 1225139008942642081 s (State.pageReset s a1) := by
  unfold State.pageReset
  extract_lets -merge -underBinder -useContext x0 x1 x2 x3 x4
  have h5 : Moves 1225139008942642081 s x0 := by
    unfold x0
    refine Moves.ite ?_ ?_
    · refine Moves.step (State.linkEnable_moves ..) (by decide) ?_
      exact Moves.refl
    · exact Moves.refl
  clear_value x0
  clear_value x1
  have h6 : Moves 1225139008942642081 s x2 := by
    unfold x2
    refine Moves.step (State.keepRegs_moves ..) (by decide) ?_
    with_reducible assumption
  clear_value x2
  have h7 : Moves 1225139008942642081 s x3 := by
    unfold x3
    refine Moves.step (State.pageLogic_moves ..) (by decide) ?_
    with_reducible assumption
  clear_value x3
  have h8 : Moves 1225139008942642081 s x4 := by
    unfold x4
    refine Moves.step (State.put_moves ..) (by decide) ?_
    refine Moves.step (State.put_moves ..) (by decide) ?_
    with_reducible assumption
  clear_value x4
  refine Moves.step (State.wr_moves ..) (by decide) ?_
  refine Moves.step (State.wr_moves ..) (by decide) ?_
  with_reducible assumption

theorem State.pgCtrlWrite_moves (s a1 a2) : Moves 1225139008942642081 s (State.pgCtrlWrite s a1 a2) := by
  unfold State.pgCtrlWrite
  refine Moves.step (State.checked_moves (m := 1225139008942642081) (hf := fun y0 => ?_) ..) (by decide) ?_
  · extract_lets -merge -underBinder -useContext x1 x2
    clear_value x1
    have h3 : Moves 1225139008942642081 y0 x2 := by
      unfold x2
      refine Moves.step (State.quiesce_moves ..) (by decide) ?_
      refine Moves.step (State.put_moves ..) (by decide) ?_
      refine Moves.step (State.put_moves ..) (by decide) ?_
      exact Moves.refl
    clear_value x2
    refine Moves.ite ?_ ?_
    · refine Moves.step (State.pageReset_moves ..) (by decide) ?_
      with_reducible assumption
    · refine Moves.ite ?_ ?_
      · with_reducible assumption
      · refine Moves.ite ?_ ?_
        · refine Moves.step (State.linkEnable_moves ..) (by decide) ?_
          with_reducible assumption
        · refine Moves.ite ?_ ?_
          · refine Moves.step (State.tdmStop_moves ..) (by decide) ?_
            with_reducible assumption
          · with_reducible assumption
  · exact Moves.refl

theorem execPageReset_moves (a0 a1 a2 s) : Runs 1225139008942642081 s (execPageReset a0 a1 a2 s) := by
  unfold execPageReset
  refine Runs.next ?_
  refine Moves.ite ?_ ?_
  · refine Moves.step (State.pgCtrlWrite_moves ..) (by decide) ?_
    exact Moves.refl
  · exact Moves.refl

theorem execPageResetComplete_moves (a0 s) : Runs 1 s (execPageResetComplete a0 s) := by
  unfold execPageResetComplete
  refine Runs.ite ?_ ?_
  · refine Runs.ite ?_ ?_
    · refine Runs.ite ?_ ?_
      · refine Runs.next ?_
        exact Moves.refl
      · refine Runs.next ?_
        refine Moves.step (State.put_moves ..) (by decide) ?_
        refine Moves.step (State.keepRegs_moves ..) (by decide) ?_
        exact Moves.refl
    · refine Runs.ite ?_ ?_
      · refine Runs.next ?_
        exact Moves.refl
      · refine Runs.next ?_
        refine Moves.step (State.put_moves ..) (by decide) ?_
        exact Moves.refl
  · refine Runs.next ?_
    exact Moves.refl

theorem State.pairApply_moves (s a1 a2) : Moves 1 s (State.pairApply s a1 a2) := by
  unfold State.pairApply
  refine Moves.step (State.applyWrite_moves ..) (by decide) ?_
  refine Moves.step (State.applyWrite_moves ..) (by decide) ?_
  exact Moves.refl

theorem State.pairHiWrite_moves (s a1 a2) : Moves 206158432513 s (State.pairHiWrite s a1 a2) := by
  unfold State.pairHiWrite
  extract_lets -merge -underBinder -useContext x0
  clear_value x0
  refine Moves.step (State.checked_moves (m := 206158432513) (hf := fun y1 => ?_) ..) (by decide) ?_
  · extract_lets -merge -underBinder -useContext x2
    have h3 : Moves 206158432513 y1 x2 := by
      unfold x2
      refine Moves.ite ?_ ?_
      · refine Moves.step (State.record_moves ..) (by decide) ?_
        refine Moves.step (State.record_moves ..) (by decide) ?_
        exact Moves.refl
      · exact Moves.refl
    clear_value x2
    refine Moves.step (State.pairApply_moves ..) (by decide) ?_
    with_reducible assumption
  · exact Moves.refl

theorem State.plainWrite_moves (s a1 a2) : Moves 257 s (State.plainWrite s a1 a2) := by
  unfold State.plainWrite
  refine Moves.step (State.checked_moves (m := 257) (hf := fun y0 => ?_) ..) (by decide) ?_
  · refine Moves.step (State.applyWrite_moves ..) (by decide) ?_
    exact Moves.refl
  · exact Moves.refl

theorem execPairHiWrite_moves (a0 a1 s) : Runs 206158432513 s (execPairHiWrite a0 a1 s) := by
  unfold execPairHiWrite
  split
  · refine Runs.next ?_
    exact Moves.refl
  · refine Runs.ite ?_ ?_
    · refine Runs.next ?_
      exact Moves.refl
    · refine Runs.ite ?_ ?_
      · refine Runs.next ?_
        refine Moves.step (State.pairHiWrite_moves ..) (by decide) ?_
        exact Moves.refl
      · refine Runs.next ?_
        refine Moves.step (State.plainWrite_moves ..) (by decide) ?_
        exact Moves.refl

theorem execPairLoRead_moves (a0 a1 s) : Runs 10 s (execPairLoRead a0 a1 s) := by
  unfold execPairLoRead
  refine Runs.ite ?_ ?_
  · refine Runs.step (execBelfryCaptureRead_moves ..) (by decide) ?_
    exact Moves.refl
  · split
    · refine Runs.next ?_
      exact Moves.refl
    · refine Runs.ite ?_ ?_
      · refine Runs.next ?_
        exact Moves.refl
      · refine Runs.ite ?_ ?_
        · refine Runs.next ?_
          refine Moves.step (Moves.set_readData ..) (by decide) ?_
          exact Moves.refl
        · refine Runs.next ?_
          extract_lets -merge -underBinder -useContext x0
          have h1 : Moves 10 s x0 := by
            unfold x0
            refine Moves.step (State.setCapture_moves ..) (by decide) ?_
            exact Moves.refl
          clear_value x0
          refine Moves.step (Moves.set_readData ..) (by decide) ?_
          with_reducible assumption

theorem execPairWaitExpire_moves (s) : Runs 68727870353 s (execPairWaitExpire s) := by
  unfold execPairWaitExpire
  refine Runs.ite ?_ ?_
  · extract_lets -merge -underBinder -useContext x0
    clear_value x0
    refine Runs.next ?_
    refine Moves.step (State.becomeSole_moves ..) (by decide) ?_
    refine Moves.step (State.runTo_moves ..) (by decide) ?_
    exact Moves.refl
  · refine Runs.next ?_
    exact Moves.refl

theorem State.dmaLinkDown_moves (s a1) : Moves 140737488355585 s (State.dmaLinkDown s a1) := by
  unfold State.dmaLinkDown
  refine Moves.ite ?_ ?_
  · extract_lets -merge -underBinder -useContext x0 x1 x2 x3
    clear_value x0
    clear_value x1
    have h4 : Moves 140737488355585 s x2 := by
      unfold x2
      refine Moves.step (State.showDma_moves ..) (by decide) ?_
      refine Moves.step (State.setDma_moves ..) (by decide) ?_
      exact Moves.refl
    clear_value x2
    clear_value x3
    refine Moves.step (State.dmaHalt_moves ..) (by decide) ?_
    with_reducible assumption
  · exact Moves.refl

theorem State.linkLost_moves (s) : Moves 140737521914625 s (State.linkLost s) := by
  unfold State.linkLost
  extract_lets -merge -underBinder -useContext x0 x1
  have h2 : Moves 140737521914625 s x0 := by
    unfold x0
    refine Moves.step (State.bump_moves ..) (by decide) ?_
    refine Moves.step (State.put_moves ..) (by decide) ?_
    exact Moves.refl
  clear_value x0
  have h3 : Moves 140737521914625 s x1 := by
    unfold x1
    refine Moves.forUpTo (fun y4 y5 => ?_) ?_
    · refine Moves.step (State.dmaLinkDown_moves ..) (by decide) ?_
      exact Moves.refl
    · with_reducible assumption
  clear_value x1
  refine Moves.forEach (fun y6 y7 => ?_) ?_
  · refine Moves.step (State.tapStop_moves ..) (by decide) ?_
    exact Moves.refl
  · with_reducible assumption

theorem execPcieLinkDown_moves (s) : Runs 140737521914625 s (execPcieLinkDown s) := by
  unfold execPcieLinkDown
  refine Runs.ite ?_ ?_
  · refine Runs.next ?_
    refine Moves.step (State.linkLost_moves ..) (by decide) ?_
    exact Moves.refl
  · refine Runs.next ?_
    exact Moves.refl

theorem execPcieLinkUp_moves (a0 a1 s) : Runs 257 s (execPcieLinkUp a0 a1 s) := by
  unfold execPcieLinkUp
  refine Runs.ite ?_ ?_
  · refine Runs.next ?_
    exact Moves.refl
  · extract_lets -merge -underBinder -useContext x0
    have h1 : Moves 257 s x0 := by
      unfold x0
      refine Moves.step (State.put_moves ..) (by decide) ?_
      refine Moves.step (State.put_moves ..) (by decide) ?_
      refine Moves.step (State.put_moves ..) (by decide) ?_
      exact Moves.refl
    clear_value x0
    refine Runs.next ?_
    refine Moves.step (State.event_moves ..) (by decide) ?_
    with_reducible assumption

theorem execPerstNAssert_moves (s) : Runs 211106266092289 s (execPerstNAssert s) := by
  unfold execPerstNAssert
  extract_lets -merge -underBinder -useContext x0 x1 x2
  have h3 : Moves 211106266092289 s x0 := by
    unfold x0
    refine Moves.ite ?_ ?_
    · refine Moves.step (State.linkLost_moves ..) (by decide) ?_
      exact Moves.refl
    · exact Moves.refl
  clear_value x0
  have h4 : Moves 211106266092289 s x1 := by
    unfold x1
    refine Moves.step (State.hostReset_moves ..) (by decide) ?_
    with_reducible assumption
  clear_value x1
  clear_value x2
  refine Runs.next ?_
  refine Moves.step (Moves.set_boot ..) (by decide) ?_
  with_reducible assumption

theorem execPerstNRelease_moves (s) : Runs 70368744177664 s (execPerstNRelease s) := by
  unfold execPerstNRelease
  refine Runs.next ?_
  refine Moves.step (Moves.set_boot ..) (by decide) ?_
  exact Moves.refl

theorem State.pktinSelWrite_moves (s a1) : Moves 4194561 s (State.pktinSelWrite s a1) := by
  unfold State.pktinSelWrite
  refine Moves.step (State.checked_moves (m := 4194561) (hf := fun y0 => ?_) ..) (by decide) ?_
  · refine Moves.step (State.unvalid_moves ..) (by decide) ?_
    refine Moves.step (State.unvalid_moves ..) (by decide) ?_
    refine Moves.step (State.fetchStart_moves ..) (by decide) ?_
    refine Moves.step (State.applyWrite_moves ..) (by decide) ?_
    exact Moves.refl
  · exact Moves.refl

theorem execPktinLegSel_moves (a0 s) : Runs 4194561 s (execPktinLegSel a0 s) := by
  unfold execPktinLegSel
  refine Runs.next ?_
  refine Moves.step (State.pktinSelWrite_moves ..) (by decide) ?_
  exact Moves.refl

theorem State.pktoutSelWrite_moves (s a1) : Moves 4194561 s (State.pktoutSelWrite s a1) := by
  unfold State.pktoutSelWrite
  refine Moves.step (State.checked_moves (m := 4194561) (hf := fun y0 => ?_) ..) (by decide) ?_
  · refine Moves.step (State.unvalid_moves ..) (by decide) ?_
    refine Moves.step (State.unvalid_moves ..) (by decide) ?_
    refine Moves.step (State.fetchStart_moves ..) (by decide) ?_
    refine Moves.step (State.applyWrite_moves ..) (by decide) ?_
    exact Moves.refl
  · exact Moves.refl

theorem execPktoutLegSel_moves (a0 s) : Runs 4194561 s (execPktoutLegSel a0 s) := by
  unfold execPktoutLegSel
  refine Runs.next ?_
  refine Moves.step (State.pktoutSelWrite_moves ..) (by decide) ?_
  exact Moves.refl

theorem execPliSend_moves (a0 s) : Runs 2962757377 s (execPliSend a0 s) := by
  unfold execPliSend
  extract_lets -merge -underBinder -useContext x0
  clear_value x0
  split
  · refine Runs.next ?_
    exact Moves.refl
  · refine Runs.ite ?_ ?_
    · refine Runs.next ?_
      refine Moves.step (State.sendPli_moves ..) (by decide) ?_
      exact Moves.refl
    · refine Runs.next ?_
      exact Moves.refl

theorem State.reloadCores_moves (s a1) : Moves 360287970189639681 s (State.reloadCores s a1) := by
  unfold State.reloadCores
  extract_lets -merge -underBinder -useContext x0 x1
  have h2 : Moves 360287970189639681 s x0 := by
    unfold x0
    refine Moves.forUpTo (fun y3 y4 => ?_) ?_
    · refine Moves.step (State.setCore_moves ..) (by decide) ?_
      exact Moves.refl
    · exact Moves.refl
  clear_value x0
  have h5 : Moves 360287970189639681 s x1 := by
    unfold x1
    refine Moves.forUpTo (fun y6 y7 => ?_) ?_
    · refine Moves.step (State.put_moves ..) (by decide) ?_
      exact Moves.refl
    · with_reducible assumption
  clear_value x1
  refine Moves.step (State.placeKernels_moves ..) (by decide) ?_
  refine Moves.step (State.put_moves ..) (by decide) ?_
  with_reducible assumption

theorem State.domUp_moves (s a1) : Moves 360851950943622017 s (State.domUp s a1) := by
  unfold State.domUp
  extract_lets -merge -underBinder -useContext x0 x1 x2 x3 x4 x5 x6 x7 x8
  clear_value x0
  have h9 : Moves 360851950943622017 s x1 := by
    unfold x1
    refine Moves.step (State.setDom_moves ..) (by decide) ?_
    exact Moves.refl
  clear_value x1
  have h10 : Moves 360851950943622017 s x2 := by
    unfold x2
    refine Moves.step (State.domWakeTime_moves ..) (by decide) ?_
    refine Moves.step (State.put_moves ..) (by decide) ?_
    with_reducible assumption
  clear_value x2
  clear_value x3
  have h11 : Moves 360851950943622017 s x4 := by
    unfold x4
    refine Moves.ite ?_ ?_
    · refine Moves.step (State.put_moves ..) (by decide) ?_
      refine Moves.step (State.put_moves ..) (by decide) ?_
      refine Moves.step (State.put_moves ..) (by decide) ?_
      with_reducible assumption
    · with_reducible assumption
  clear_value x4
  have h12 : Moves 360851950943622017 s x5 := by
    unfold x5
    refine Moves.forEach (fun y13 y14 => ?_) ?_
    · refine Moves.step (State.islandUp_moves ..) (by decide) ?_
      exact Moves.refl
    · with_reducible assumption
  clear_value x5
  have h15 : Moves 360851950943622017 s x6 := by
    unfold x6
    refine Moves.ite ?_ ?_
    · refine Moves.step (State.reloadCores_moves ..) (by decide) ?_
      with_reducible assumption
    · with_reducible assumption
  clear_value x6
  have h16 : Moves 360851950943622017 s x7 := by
    unfold x7
    refine Moves.ite ?_ ?_
    · refine Moves.step (State.domService_moves ..) (by decide) ?_
      with_reducible assumption
    · refine Moves.forEach (fun y17 y18 => ?_) ?_
      · refine Moves.step (State.put_moves ..) (by decide) ?_
        exact Moves.refl
      · with_reducible assumption
  clear_value x7
  have h19 : Moves 360851950943622017 s x8 := by
    unfold x8
    refine Moves.ite ?_ ?_
    · refine Moves.forUpTo (fun y20 y21 => ?_) ?_
      · refine Moves.step (State.linkEnable_moves ..) (by decide) ?_
        exact Moves.refl
      · with_reducible assumption
    · with_reducible assumption
  clear_value x8
  refine Moves.step (State.wakeNext_moves ..) (by decide) ?_
  with_reducible assumption

theorem execPllLock_moves (a0 s) : Runs 360851950943622017 s (execPllLock a0 s) := by
  unfold execPllLock
  extract_lets -merge -underBinder -useContext x0
  clear_value x0
  refine Runs.ite ?_ ?_
  · refine Runs.next ?_
    exact Moves.refl
  · refine Runs.ite ?_ ?_
    · refine Runs.next ?_
      refine Moves.step (State.domUp_moves ..) (by decide) ?_
      exact Moves.refl
    · refine Runs.ite ?_ ?_
      · refine Runs.next ?_
        refine Moves.step (State.setDom_moves ..) (by decide) ?_
        exact Moves.refl
      · refine Runs.next ?_
        refine Moves.step (State.opEnd_moves ..) (by decide) ?_
        exact Moves.refl

theorem execPllLockTimeout_moves (a0 s) : Runs 2306415305016234769 s (execPllLockTimeout a0 s) := by
  unfold execPllLockTimeout
  extract_lets -merge -underBinder -useContext x0 x1 x2 x3
  clear_value x0
  have h4 : Moves 2306415305016234769 s x1 := by
    unfold x1
    refine Moves.step (State.runTo_moves ..) (by decide) ?_
    exact Moves.refl
  clear_value x1
  clear_value x2
  have h5 : Moves 2306415305016234769 s x3 := by
    unfold x3
    refine Moves.step (State.avsError_moves ..) (by decide) ?_
    with_reducible assumption
  clear_value x3
  refine Runs.ite ?_ ?_
  · refine Runs.next ?_
    exact Moves.refl
  · refine Runs.ite ?_ ?_
    · refine Runs.next ?_
      refine Moves.step (State.wakeFails_moves ..) (by decide) ?_
      with_reducible assumption
    · refine Runs.ite ?_ ?_
      · refine Runs.next ?_
        refine Moves.step (State.setDom_moves ..) (by decide) ?_
        refine Moves.step (State.put_moves ..) (by decide) ?_
        with_reducible assumption
      · refine Runs.next ?_
        refine Moves.step (State.opEnd_moves ..) (by decide) ?_
        refine Moves.step (State.put_moves ..) (by decide) ?_
        with_reducible assumption

theorem State.resetAll_moves (s) : Moves 4611650834055233407 s (State.resetAll s) := by
  unfold State.resetAll
  extract_lets -merge -underBinder -useContext src ps t
  have h : Moves 4611650834055233407 s t := ⟨fun p hp => by cases p <;> first | rfl | exact absurd hp (by decide), fun c => ⟨rfl, rfl, c.2.2⟩⟩
  clear_value t
  exact (State.put_moves ..).step (by decide) ((State.put_moves ..).step (by decide) h)

theorem execPowerOnReset_moves (s) : Runs 4611650834055233407 s (execPowerOnReset s) := by
  unfold execPowerOnReset
  refine Runs.next ?_
  refine Moves.step (State.put_moves ..) (by decide) ?_
  extract_lets -merge -underBinder -useContext x0
  have h1 : Moves 4611650834055233407 s x0 := by
    unfold x0
    refine Moves.step (State.resetAll_moves ..) (by decide) ?_
    exact Moves.refl
  clear_value x0
  refine Moves.step (Moves.set_crier ..) (by decide) ?_
  with_reducible assumption

theorem execPpsSourceLost_moves (s) : Runs 289 s (execPpsSourceLost s) := by
  unfold execPpsSourceLost
  refine Runs.next ?_
  refine Moves.step (State.servoLost_moves ..) (by decide) ?_
  exact Moves.refl

theorem State.progResult_moves (s a1 a2 a3) : Moves 1 s (State.progResult s a1 a2 a3) := by
  unfold State.progResult
  refine Moves.step (State.postResult_moves ..) (by decide) ?_
  exact Moves.refl

theorem State.progReject_moves (s a1 a2 a3) : Moves 257 s (State.progReject s a1 a2 a3) := by
  unfold State.progReject
  refine Moves.step (State.progResult_moves ..) (by decide) ?_
  refine Moves.step (State.reject_moves ..) (by decide) ?_
  exact Moves.refl

theorem State.progCmdWrite_moves (s a1) : Moves 9007405413173505 s (State.progCmdWrite s a1) := by
  unfold State.progCmdWrite
  refine Moves.step (State.checked_moves (m := 9007405413173505) (hf := fun y0 => ?_) ..) (by decide) ?_
  · extract_lets -merge -underBinder -useContext x1 x2 x3 x4 x5 x6 x7 x8 x9 x10 x11 x12 x13 x14 x15 x16
    clear_value x1
    have h17 : Moves 9007405413173505 y0 x2 := by
      unfold x2
      refine Moves.step (State.wr64_moves ..) (by decide) ?_
      exact Moves.refl
    clear_value x2
    clear_value x3
    have h18 : Moves 9007405413173505 y0 x4 := by
      unfold x4
      refine Moves.step (State.record_moves ..) (by decide) ?_
      with_reducible assumption
    clear_value x4
    clear_value x5
    have h19 : Moves 9007405413173505 y0 x6 := by
      unfold x6
      refine Moves.step (Moves.set_audio ..) (by decide) ?_
      with_reducible assumption
    clear_value x6
    have h20 : Moves 9007405413173505 y0 x7 := by
      unfold x7
      refine Moves.step (State.record_moves ..) (by decide) ?_
      with_reducible assumption
    clear_value x7
    clear_value x8
    have h21 : Moves 9007405413173505 y0 x9 := by
      unfold x9
      refine Moves.step (Moves.set_audio ..) (by decide) ?_
      with_reducible assumption
    clear_value x9
    clear_value x10
    clear_value x11
    clear_value x12
    clear_value x13
    have h22 : Moves 9007405413173505 y0 x14 := by
      unfold x14
      refine Moves.ite ?_ ?_
      · refine Moves.step (State.record_moves ..) (by decide) ?_
        with_reducible assumption
      · with_reducible assumption
    clear_value x14
    have h23 : Moves 9007405413173505 y0 x15 := by
      unfold x15
      refine Moves.step (State.unvalid_moves ..) (by decide) ?_
      with_reducible assumption
    clear_value x15
    clear_value x16
    refine Moves.ite ?_ ?_
    · refine Moves.step (State.progReject_moves ..) (by decide) ?_
      with_reducible assumption
    · refine Moves.ite ?_ ?_
      · refine Moves.ite ?_ ?_
        · refine Moves.step (State.progReject_moves ..) (by decide) ?_
          with_reducible assumption
        · refine Moves.step (State.progResult_moves ..) (by decide) ?_
          refine Moves.step (State.wr64_moves ..) (by decide) ?_
          with_reducible assumption
      · refine Moves.ite ?_ ?_
        · refine Moves.step (State.progReject_moves ..) (by decide) ?_
          with_reducible assumption
        · refine Moves.ite ?_ ?_
          · refine Moves.step (State.progResult_moves ..) (by decide) ?_
            refine Moves.step (State.put_moves ..) (by decide) ?_
            with_reducible assumption
          · refine Moves.step (Moves.set_audio ..) (by decide) ?_
            with_reducible assumption
  · exact Moves.refl

theorem execProgActivate_moves (s) : Runs 9007405413173505 s (execProgActivate s) := by
  unfold execProgActivate
  refine Runs.next ?_
  refine Moves.step (State.progCmdWrite_moves ..) (by decide) ?_
  exact Moves.refl

theorem execProgDiscard_moves (s) : Runs 9007405413173505 s (execProgDiscard s) := by
  unfold execProgDiscard
  refine Runs.next ?_
  refine Moves.step (State.progCmdWrite_moves ..) (by decide) ?_
  exact Moves.refl

theorem execProgLoad_moves (s) : Runs 9007405413173505 s (execProgLoad s) := by
  unfold execProgLoad
  refine Runs.next ?_
  refine Moves.step (State.progCmdWrite_moves ..) (by decide) ?_
  exact Moves.refl

theorem execProgLoadDone_moves (s) : Runs 9007199254741249 s (execProgLoadDone s) := by
  unfold execProgLoadDone
  split
  · refine Runs.next ?_
    exact Moves.refl
  · extract_lets -merge -underBinder -useContext x0 x1
    clear_value x0
    have h2 : Moves 9007199254741249 s x1 := by
      unfold x1
      refine Moves.step (Moves.set_audio ..) (by decide) ?_
      exact Moves.refl
    clear_value x1
    split
    · refine Runs.next ?_
      refine Moves.step (State.progReject_moves ..) (by decide) ?_
      with_reducible assumption
    · extract_lets -merge -underBinder -useContext x3 x4
      clear_value x3
      have h5 : Moves 9007199254741249 s x4 := by
        unfold x4
        refine Moves.step (Moves.set_audio ..) (by decide) ?_
        with_reducible assumption
      clear_value x4
      refine Runs.next ?_
      refine Moves.step (State.progResult_moves ..) (by decide) ?_
      refine Moves.step (State.put_moves ..) (by decide) ?_
      with_reducible assumption

theorem execPrpEntryForget_moves (a0 a1 s) : Runs 268435473 s (execPrpEntryForget a0 a1 s) := by
  unfold execPrpEntryForget
  extract_lets -merge -underBinder -useContext x0 x1
  clear_value x0
  clear_value x1
  split
  · refine Runs.next ?_
    exact Moves.refl
  · refine Runs.ite ?_ ?_
    · extract_lets -merge -underBinder -useContext x2
      have h3 : Moves 268435473 s x2 := by
        unfold x2
        refine Moves.step (State.runTo_moves ..) (by decide) ?_
        exact Moves.refl
      clear_value x2
      refine Runs.next ?_
      refine Moves.step (State.showPrp_moves ..) (by decide) ?_
      refine Moves.step (State.setPlane_moves ..) (by decide) ?_
      with_reducible assumption
    · refine Runs.next ?_
      exact Moves.refl

theorem execPrpSupervisionTx_moves (a0 s) : Runs 2415924241 s (execPrpSupervisionTx a0 s) := by
  unfold execPrpSupervisionTx
  refine Runs.ite ?_ ?_
  · extract_lets -merge -underBinder -useContext x0 x1 x2 x3
    clear_value x0
    have h4 : Moves 2415924241 s x1 := by
      unfold x1
      refine Moves.step (State.runTo_moves ..) (by decide) ?_
      exact Moves.refl
    clear_value x1
    clear_value x2
    have h5 : Moves 2415924241 s x3 := by
      unfold x3
      refine Moves.step (State.setPlane_moves ..) (by decide) ?_
      with_reducible assumption
    clear_value x3
    refine Runs.next ?_
    refine Moves.forEach (fun y6 y7 => ?_) ?_
    · refine Moves.step (State.depQueue_moves ..) (by decide) ?_
      exact Moves.refl
    · with_reducible assumption
  · refine Runs.next ?_
    exact Moves.refl

theorem State.servoFound_moves (s a1) : Moves 289 s (State.servoFound s a1) := by
  unfold State.servoFound
  extract_lets -merge -underBinder -useContext x0 x1 x2 x3
  have h4 : Moves 289 s x0 := by
    unfold x0
    refine Moves.step (State.setSrc_moves ..) (by decide) ?_
    exact Moves.refl
  clear_value x0
  clear_value x1
  clear_value x2
  clear_value x3
  refine Moves.ite ?_ ?_
  · with_reducible assumption
  · refine Moves.ite ?_ ?_
    · refine Moves.step (State.servoAcquire_moves (m := 289) (hf := fun y5 => ?_) ..) (by decide) ?_
      · exact Moves.refl
      · with_reducible assumption
    · refine Moves.ite ?_ ?_
      · refine Moves.step (State.servoGo_moves ..) (by decide) ?_
        with_reducible assumption
      · with_reducible assumption

theorem State.utcSet_moves (s a1) : Moves 257 s (State.utcSet s a1) := by
  unfold State.utcSet
  refine Moves.ite ?_ ?_
  · exact Moves.refl
  · refine Moves.step (State.event_moves ..) (by decide) ?_
    refine Moves.step (State.wr_moves ..) (by decide) ?_
    exact Moves.refl

theorem execPtpMessageRx_moves (a0 s) : Runs 289 s (execPtpMessageRx a0 s) := by
  unfold execPtpMessageRx
  refine Runs.ite ?_ ?_
  · refine Runs.next ?_
    exact Moves.refl
  · extract_lets -merge -underBinder -useContext x0
    clear_value x0
    split
    · extract_lets -merge -underBinder -useContext x1 x2 x3 x4
      have h5 : Moves 289 s x1 := by
        unfold x1
        refine Moves.step (State.put_moves ..) (by decide) ?_
        exact Moves.refl
      clear_value x1
      have h6 : Moves 289 s x2 := by
        unfold x2
        refine Moves.step (State.put_moves ..) (by decide) ?_
        with_reducible assumption
      clear_value x2
      have h7 : Moves 289 s x3 := by
        unfold x3
        refine Moves.step (State.put_moves ..) (by decide) ?_
        with_reducible assumption
      clear_value x3
      have h8 : Moves 289 s x4 := by
        unfold x4
        refine Moves.ite ?_ ?_
        · refine Moves.step (State.servoFound_moves ..) (by decide) ?_
          with_reducible assumption
        · with_reducible assumption
      clear_value x4
      refine Runs.ite ?_ ?_
      · refine Runs.next ?_
        refine Moves.step (State.utcSet_moves ..) (by decide) ?_
        with_reducible assumption
      · refine Runs.next ?_
        with_reducible assumption

theorem execPtpMessageTx_moves (a0 a1 a2 s) : Runs 2147488769 s (execPtpMessageTx a0 a1 a2 s) := by
  unfold execPtpMessageTx
  refine Runs.ite ?_ ?_
  · extract_lets -merge -underBinder -useContext x0 x1
    clear_value x0
    clear_value x1
    refine Runs.next ?_
    refine Moves.step (State.depQueue_moves ..) (by decide) ?_
    exact Moves.refl
  · refine Runs.next ?_
    exact Moves.refl

theorem execPtpSourceLost_moves (a0 a1 s) : Runs 289 s (execPtpSourceLost a0 a1 s) := by
  unfold execPtpSourceLost
  refine Runs.ite ?_ ?_
  · extract_lets -merge -underBinder -useContext x0 x1 x2 x3
    clear_value x0
    clear_value x1
    have h4 : Moves 289 s x2 := by
      unfold x2
      refine Moves.ite ?_ ?_
      · refine Moves.step (State.put_moves ..) (by decide) ?_
        exact Moves.refl
      · exact Moves.refl
    clear_value x2
    have h5 : Moves 289 s x3 := by
      unfold x3
      refine Moves.ite ?_ ?_
      · refine Moves.step (State.put_moves ..) (by decide) ?_
        with_reducible assumption
      · with_reducible assumption
    clear_value x3
    refine Runs.ite ?_ ?_
    · refine Runs.next ?_
      refine Moves.step (State.put_moves ..) (by decide) ?_
      refine Moves.step (State.put_moves ..) (by decide) ?_
      exact Moves.refl
    · refine Runs.next ?_
      refine Moves.step (State.servoLost_moves ..) (by decide) ?_
      with_reducible assumption
  · refine Runs.next ?_
    exact Moves.refl

theorem execPulseCrossingAck_moves (a0 a1 s) : Runs 16384 s (execPulseCrossingAck a0 a1 s) := by
  unfold execPulseCrossingAck
  extract_lets -merge -underBinder -useContext x0 x1
  clear_value x0
  clear_value x1
  refine Runs.ite ?_ ?_
  · refine Runs.next ?_
    exact Moves.refl
  · refine Runs.next ?_
    refine Moves.step (State.setCrossing_moves ..) (by decide) ?_
    exact Moves.refl

theorem execPulseCrossingIssue_moves (a0 s) : Runs 16641 s (execPulseCrossingIssue a0 s) := by
  unfold execPulseCrossingIssue
  extract_lets -merge -underBinder -useContext x0
  clear_value x0
  refine Runs.ite ?_ ?_
  · refine Runs.next ?_
    exact Moves.refl
  · refine Runs.ite ?_ ?_
    · refine Runs.next ?_
      refine Moves.step (State.setCrossing_moves ..) (by decide) ?_
      exact Moves.refl
    · refine Runs.ite ?_ ?_
      · refine Runs.next ?_
        refine Moves.step (State.setCrossing_moves ..) (by decide) ?_
        exact Moves.refl
      · refine Runs.next ?_
        refine Moves.step (State.event_moves ..) (by decide) ?_
        refine Moves.step (State.put_moves ..) (by decide) ?_
        exact Moves.refl

theorem State.puntPtrWrite_moves (s a1 a2) : Moves 257 s (State.puntPtrWrite s a1 a2) := by
  unfold State.puntPtrWrite
  refine Moves.step (State.checked_moves (m := 257) (hf := fun y0 => ?_) ..) (by decide) ?_
  · refine Moves.step (State.applyWrite_moves ..) (by decide) ?_
    exact Moves.refl
  · exact Moves.refl

theorem execPuntHeadWrite_moves (a0 a1 s) : Runs 257 s (execPuntHeadWrite a0 a1 s) := by
  unfold execPuntHeadWrite
  refine Runs.ite ?_ ?_
  · refine Runs.next ?_
    refine Moves.step (State.puntPtrWrite_moves ..) (by decide) ?_
    exact Moves.refl
  · refine Runs.next ?_
    exact Moves.refl

theorem execQueueSweepComplete_moves (a0 s) : Runs 5632 s (execQueueSweepComplete a0 s) := by
  unfold execQueueSweepComplete
  refine Runs.ite ?_ ?_
  · extract_lets -merge -underBinder -useContext x0
    clear_value x0
    refine Runs.next ?_
    refine Moves.step (Moves.set_evq_freeCells ..) (by decide) ?_
    exact Moves.refl
  · extract_lets -merge -underBinder -useContext x1 x2
    clear_value x1
    have h3 : Moves 5632 s x2 := by
      unfold x2
      refine Moves.step (State.setQueue_moves ..) (by decide) ?_
      exact Moves.refl
    clear_value x2
    refine Runs.next ?_
    refine Moves.step (Moves.set_freeCells ..) (by decide) ?_
    with_reducible assumption

theorem execQuiesceDone_moves (a0 s) : Runs 1 s (execQuiesceDone a0 s) := by
  unfold execQuiesceDone
  refine Runs.ite ?_ ?_
  · refine Runs.next ?_
    refine Moves.step (State.put_moves ..) (by decide) ?_
    exact Moves.refl
  · refine Runs.next ?_
    exact Moves.refl

theorem execQuiesceSet_moves (a0 a1 s) : Runs 1225139008942642081 s (execQuiesceSet a0 a1 s) := by
  unfold execQuiesceSet
  refine Runs.next ?_
  refine Moves.ite ?_ ?_
  · refine Moves.step (State.pgCtrlWrite_moves ..) (by decide) ?_
    exact Moves.refl
  · exact Moves.refl

theorem State.playerCmdWrite_moves (s a1 a2) : Moves 9007405413178113 s (State.playerCmdWrite s a1 a2) := by
  unfold State.playerCmdWrite
  refine Moves.step (State.checked_moves (m := 9007405413178113) (hf := fun y0 => ?_) ..) (by decide) ?_
  · extract_lets -merge -underBinder -useContext x1 x2
    have h3 : Moves 9007405413178113 y0 x1 := by
      unfold x1
      refine Moves.step (State.record_moves ..) (by decide) ?_
      exact Moves.refl
    clear_value x1
    have h4 : Moves 9007405413178113 y0 x2 := by
      unfold x2
      refine Moves.step (State.setPlayer_moves ..) (by decide) ?_
      with_reducible assumption
    clear_value x2
    refine Moves.ite ?_ ?_
    · refine Moves.step (State.put_moves ..) (by decide) ?_
      refine Moves.step (State.put_moves ..) (by decide) ?_
      with_reducible assumption
    · refine Moves.ite ?_ ?_
      · refine Moves.step (State.playerStop_moves ..) (by decide) ?_
        with_reducible assumption
      · with_reducible assumption
  · exact Moves.refl

theorem execRecallPlay_moves (a0 s) : Runs 9007405413178113 s (execRecallPlay a0 s) := by
  unfold execRecallPlay
  refine Runs.ite ?_ ?_
  · refine Runs.next ?_
    refine Moves.step (State.playerCmdWrite_moves ..) (by decide) ?_
    exact Moves.refl
  · refine Runs.next ?_
    exact Moves.refl

theorem execRecallStop_moves (a0 s) : Runs 9007405413178113 s (execRecallStop a0 s) := by
  unfold execRecallStop
  refine Runs.ite ?_ ?_
  · refine Runs.next ?_
    refine Moves.step (State.playerCmdWrite_moves ..) (by decide) ?_
    exact Moves.refl
  · refine Runs.next ?_
    exact Moves.refl

theorem State.bootCmdWrite_moves (s a1) : Moves 2305913377957871873 s (State.bootCmdWrite s a1) := by
  unfold State.bootCmdWrite
  refine Moves.step (State.checked_moves (m := 2305913377957871873) (hf := fun y0 => ?_) ..) (by decide) ?_
  · refine Moves.ite ?_ ?_
    · refine Moves.step (State.enterStage_moves ..) (by decide) ?_
      refine Moves.step (Moves.set_boot ..) (by decide) ?_
      exact Moves.refl
    · exact Moves.refl
  · exact Moves.refl

theorem execRecoveryGo_moves (s) : Runs 2305913377957871873 s (execRecoveryGo s) := by
  unfold execRecoveryGo
  refine Runs.next ?_
  refine Moves.step (State.bootCmdWrite_moves ..) (by decide) ?_
  exact Moves.refl

theorem State.flowSelWrite_moves (s a1) : Moves 4194561 s (State.flowSelWrite s a1) := by
  unfold State.flowSelWrite
  refine Moves.step (State.checked_moves (m := 4194561) (hf := fun y0 => ?_) ..) (by decide) ?_
  · refine Moves.step (State.unvalid_moves ..) (by decide) ?_
    refine Moves.step (State.fetchStart_moves ..) (by decide) ?_
    refine Moves.step (State.applyWrite_moves ..) (by decide) ?_
    exact Moves.refl
  · exact Moves.refl

theorem execReeveFlowSel_moves (a0 s) : Runs 4194561 s (execReeveFlowSel a0 s) := by
  unfold execReeveFlowSel
  refine Runs.next ?_
  refine Moves.step (State.flowSelWrite_moves ..) (by decide) ?_
  exact Moves.refl

theorem execRefreshDue_moves (a0 a1 a2 s) : Runs 549755813905 s (execRefreshDue a0 a1 a2 s) := by
  unfold execRefreshDue
  refine Runs.ite ?_ ?_
  · extract_lets -merge -underBinder -useContext x0 x1 x2 x3 x4 x5 x6
    clear_value x0
    clear_value x1
    have h7 : Moves 549755813905 s x2 := by
      unfold x2
      refine Moves.step (State.runTo_moves ..) (by decide) ?_
      exact Moves.refl
    clear_value x2
    clear_value x3
    have h8 : Moves 549755813905 s x4 := by
      unfold x4
      refine Moves.step (State.setChan_moves ..) (by decide) ?_
      with_reducible assumption
    clear_value x4
    clear_value x5
    clear_value x6
    refine Runs.next ?_
    refine Moves.step (State.put_moves ..) (by decide) ?_
    with_reducible assumption
  · refine Runs.next ?_
    exact Moves.refl

theorem State.pollRank_moves (s a1 a2 a3) : Moves 549755818753 s (State.pollRank s a1 a2 a3) := by
  unfold State.pollRank
  extract_lets -merge -underBinder -useContext x0 x1 x2 x3 x4 x5
  clear_value x0
  clear_value x1
  have h6 : Moves 549755818753 s x2 := by
    unfold x2
    refine Moves.step (State.put_moves ..) (by decide) ?_
    refine Moves.step (State.put_moves ..) (by decide) ?_
    exact Moves.refl
  clear_value x2
  have h7 : Moves 549755818753 s x3 := by
    unfold x3
    refine Moves.ite ?_ ?_
    · refine Moves.step (State.event_moves ..) (by decide) ?_
      refine Moves.step (State.post_moves ..) (by decide) ?_
      with_reducible assumption
    · with_reducible assumption
  clear_value x3
  clear_value x4
  have h8 : Moves 549755818753 s x5 := by
    unfold x5
    refine Moves.step (State.setChan_moves ..) (by decide) ?_
    with_reducible assumption
  clear_value x5
  refine Moves.ite ?_ ?_
  · with_reducible assumption
  · refine Moves.ite ?_ ?_
    · refine Moves.step (State.bump_moves ..) (by decide) ?_
      refine Moves.step (State.put_moves ..) (by decide) ?_
      with_reducible assumption
    · with_reducible assumption

theorem execRefreshRatePoll_moves (a0 a1 a2 s) : Runs 549755818753 s (execRefreshRatePoll a0 a1 a2 s) := by
  unfold execRefreshRatePoll
  refine Runs.ite ?_ ?_
  · extract_lets -merge -underBinder -useContext x0
    have h1 : Moves 549755818753 s x0 := by
      unfold x0
      refine Moves.forUpTo (fun y2 y3 => ?_) ?_
      · refine Moves.step (State.pollRank_moves ..) (by decide) ?_
        exact Moves.refl
      · exact Moves.refl
    clear_value x0
    refine Runs.next ?_
    refine Moves.ite ?_ ?_
    · refine Moves.step (State.bump_moves ..) (by decide) ?_
      with_reducible assumption
    · with_reducible assumption
  · refine Runs.next ?_
    exact Moves.refl

theorem State.headWrite_moves (s a1 a2) : Moves 1225139008942642081 s (State.headWrite s a1 a2) := by
  unfold State.headWrite
  extract_lets -merge -underBinder -useContext x0
  clear_value x0
  refine Moves.ite ?_ ?_
  · refine Moves.step (State.pgCtrlWrite_moves ..) (by decide) ?_
    exact Moves.refl
  · refine Moves.step (State.checked_moves (m := 1225139008942642081) (hf := fun y1 => ?_) ..) (by decide) ?_
    · refine Moves.step (State.withIrq_moves (m := 1225139008942642081) (hf := fun y2 => ?_) ..) (by decide) ?_
      · refine Moves.step (State.applyWrite_moves ..) (by decide) ?_
        exact Moves.refl
      · exact Moves.refl
    · exact Moves.refl

theorem State.pairLoWrite_moves (s a1 a2) : Moves 261 s (State.pairLoWrite s a1 a2) := by
  unfold State.pairLoWrite
  refine Moves.step (State.checked_moves (m := 261) (hf := fun y0 => ?_) ..) (by decide) ?_
  · refine Moves.step (Moves.set_heldLo ..) (by decide) ?_
    exact Moves.refl
  · exact Moves.refl

theorem State.warmReset_moves (s) : Moves 4607147234427862863 s (State.warmReset s) := by
  unfold State.warmReset
  extract_lets -merge -underBinder -useContext src t
  have h : Moves 4607147234427862863 s t :=
    ⟨fun p hp => by cases p <;> first | rfl | exact absurd hp (by decide), fun c => ⟨Sparse.wf_filter _ _ _ c.1, rfl, c.2.2⟩⟩
  clear_value t
  refine Moves.step (State.enterStage_moves ..) (by decide) ?_
  exact Moves.forEach (fun _ _ => (State.put_moves ..).step (by decide) Moves.refl) ((State.bump_moves ..).step (by decide) h)

theorem State.globalResetWrite_moves (s a1) : Moves 4607147234427862863 s (State.globalResetWrite s a1) := by
  unfold State.globalResetWrite
  refine Moves.step (State.checked_moves (m := 4607147234427862863) (hf := fun y0 => ?_) ..) (by decide) ?_
  · refine Moves.ite ?_ ?_
    · refine Moves.step (State.warmReset_moves ..) (by decide) ?_
      exact Moves.refl
    · exact Moves.refl
  · exact Moves.refl

theorem State.globalPageWrite_moves (s a1 a2) : Moves 4607147234427862863 s (State.globalPageWrite s a1 a2) := by
  unfold State.globalPageWrite
  refine Moves.ite ?_ ?_
  · refine Moves.step (State.globalResetWrite_moves ..) (by decide) ?_
    exact Moves.refl
  · refine Moves.ite ?_ ?_
    · refine Moves.step (State.bootCmdWrite_moves ..) (by decide) ?_
      exact Moves.refl
    · refine Moves.step (State.plainWrite_moves ..) (by decide) ?_
      exact Moves.refl

theorem State.belfryCtrlWrite_moves (s a1) : Moves 289 s (State.belfryCtrlWrite s a1) := by
  unfold State.belfryCtrlWrite
  refine Moves.step (State.checked_moves (m := 289) (hf := fun y0 => ?_) ..) (by decide) ?_
  · extract_lets -merge -underBinder -useContext x1 x2 x3
    clear_value x1
    have h4 : Moves 289 y0 x2 := by
      unfold x2
      refine Moves.step (State.applyWrite_moves ..) (by decide) ?_
      exact Moves.refl
    clear_value x2
    have h5 : Moves 289 y0 x3 := by
      unfold x3
      refine Moves.ite ?_ ?_
      · refine Moves.step (State.servoAcquire_moves (m := 289) (hf := fun y6 => ?_) ..) (by decide) ?_
        · exact Moves.refl
        · with_reducible assumption
      · with_reducible assumption
    clear_value x3
    refine Moves.ite ?_ ?_
    · refine Moves.step (State.servoGo_moves ..) (by decide) ?_
      with_reducible assumption
    · refine Moves.ite ?_ ?_
      · with_reducible assumption
      · refine Moves.step (State.setAddend_moves ..) (by decide) ?_
        with_reducible assumption
  · exact Moves.refl

theorem State.guardWrite_moves (s a1 a2 a3) : Moves 257 s (State.guardWrite s a1 a2 a3) := by
  unfold State.guardWrite
  refine Moves.step (State.checked_moves (m := 257) (hf := fun y0 => ?_) ..) (by decide) ?_
  · refine Moves.step (State.applyWrite_moves ..) (by decide) ?_
    exact Moves.refl
  · exact Moves.refl

theorem State.stepClock_moves (s a1) : Moves 305 s (State.stepClock s a1) := by
  unfold State.stepClock
  extract_lets -merge -underBinder -useContext x0 x1
  have h2 : Moves 305 s x0 := by
    unfold x0
    refine Moves.step (Moves.set_clk ..) (by decide) ?_
    exact Moves.refl
  clear_value x0
  have h3 : Moves 305 s x1 := by
    unfold x1
    refine Moves.step (State.event_moves ..) (by decide) ?_
    with_reducible assumption
  clear_value x1
  refine Moves.forUpTo (fun y4 y5 => ?_) ?_
  · refine Moves.ite ?_ ?_
    · refine Moves.step (State.setTrg_moves ..) (by decide) ?_
      exact Moves.refl
    · exact Moves.refl
  · with_reducible assumption

theorem State.stepCmdWrite_moves (s a1) : Moves 305 s (State.stepCmdWrite s a1) := by
  unfold State.stepCmdWrite
  refine Moves.step (State.checked_moves (m := 305) (hf := fun y0 => ?_) ..) (by decide) ?_
  · refine Moves.ite ?_ ?_
    · refine Moves.step (State.stepClock_moves ..) (by decide) ?_
      exact Moves.refl
    · refine Moves.step (State.stepClock_moves ..) (by decide) ?_
      exact Moves.refl
  · exact Moves.refl

theorem State.capCtrlWrite_moves (s a1 a2) : Moves 289 s (State.capCtrlWrite s a1 a2) := by
  unfold State.capCtrlWrite
  refine Moves.step (State.checked_moves (m := 289) (hf := fun y0 => ?_) ..) (by decide) ?_
  · extract_lets -merge -underBinder -useContext x1 x2
    have h3 : Moves 289 y0 x1 := by
      unfold x1
      refine Moves.step (State.applyWrite_moves ..) (by decide) ?_
      exact Moves.refl
    clear_value x1
    clear_value x2
    refine Moves.ite ?_ ?_
    · with_reducible assumption
    · refine Moves.step (State.setCap_moves ..) (by decide) ?_
      with_reducible assumption
  · exact Moves.refl

theorem State.trgShow_moves (s a1) : Moves 32 s (State.trgShow s a1) := by
  unfold State.trgShow
  refine Moves.ite ?_ ?_
  · refine Moves.step (State.setTrg_moves ..) (by decide) ?_
    exact Moves.refl
  · exact Moves.refl

theorem State.trgStartRun_moves (s a1) : Moves 33 s (State.trgStartRun s a1) := by
  unfold State.trgStartRun
  refine Moves.ite ?_ ?_
  · refine Moves.step (State.putB_moves ..) (by decide) ?_
    refine Moves.step (State.setTrg_moves ..) (by decide) ?_
    exact Moves.refl
  · refine Moves.ite ?_ ?_
    · extract_lets -merge -underBinder -useContext x0
      have h1 : Moves 33 s x0 := by
        unfold x0
        refine Moves.step (State.putB_moves ..) (by decide) ?_
        exact Moves.refl
      clear_value x0
      refine Moves.step (State.putB_moves ..) (by decide) ?_
      refine Moves.step (State.putB_moves ..) (by decide) ?_
      with_reducible assumption
    · extract_lets -merge -underBinder -useContext x2 x3
      clear_value x2
      have h4 : Moves 33 s x3 := by
        unfold x3
        refine Moves.step (State.setTrg_moves ..) (by decide) ?_
        exact Moves.refl
      clear_value x3
      refine Moves.step (State.putB_moves ..) (by decide) ?_
      refine Moves.step (State.putB_moves ..) (by decide) ?_
      with_reducible assumption

theorem State.trgCtrlWrite_moves (s a1 a2) : Moves 289 s (State.trgCtrlWrite s a1 a2) := by
  unfold State.trgCtrlWrite
  refine Moves.step (State.checked_moves (m := 289) (hf := fun y0 => ?_) ..) (by decide) ?_
  · extract_lets -merge -underBinder -useContext x1 x2
    clear_value x1
    have h3 : Moves 289 y0 x2 := by
      unfold x2
      refine Moves.step (State.trgShow_moves ..) (by decide) ?_
      refine Moves.step (State.applyWrite_moves ..) (by decide) ?_
      exact Moves.refl
    clear_value x2
    refine Moves.ite ?_ ?_
    · refine Moves.step (State.trgStartRun_moves ..) (by decide) ?_
      with_reducible assumption
    · refine Moves.ite ?_ ?_
      · refine Moves.step (State.putB_moves ..) (by decide) ?_
        with_reducible assumption
      · with_reducible assumption
  · exact Moves.refl

theorem State.trgRegWrite_moves (s a1 a2 a3) : Moves 257 s (State.trgRegWrite s a1 a2 a3) := by
  unfold State.trgRegWrite
  extract_lets -merge -underBinder -useContext x0
  clear_value x0
  refine Moves.step (State.guardWrite_moves ..) (by decide) ?_
  exact Moves.refl

theorem State.belfryPageWrite_moves (s a1 a2) : Moves 305 s (State.belfryPageWrite s a1 a2) := by
  unfold State.belfryPageWrite
  refine Moves.ite ?_ ?_
  · refine Moves.step (State.belfryCtrlWrite_moves ..) (by decide) ?_
    exact Moves.refl
  · refine Moves.ite ?_ ?_
    · refine Moves.step (State.guardWrite_moves ..) (by decide) ?_
      exact Moves.refl
    · refine Moves.ite ?_ ?_
      · refine Moves.step (State.stepCmdWrite_moves ..) (by decide) ?_
        exact Moves.refl
      · refine Moves.ite ?_ ?_
        · refine Moves.step (State.checked_moves (m := 305) (hf := fun y0 => ?_) ..) (by decide) ?_
          · refine Moves.step (State.utcSet_moves ..) (by decide) ?_
            exact Moves.refl
          · exact Moves.refl
        · refine Moves.ite ?_ ?_
          · refine Moves.step (State.belfrySrcWriteOp_moves ..) (by decide) ?_
            exact Moves.refl
          · split
            · refine Moves.step (State.guardWrite_moves ..) (by decide) ?_
              exact Moves.refl
            · refine Moves.step (State.capCtrlWrite_moves ..) (by decide) ?_
              exact Moves.refl
            · refine Moves.step (State.trgCtrlWrite_moves ..) (by decide) ?_
              exact Moves.refl
            · refine Moves.ite ?_ ?_
              · refine Moves.step (State.trgRegWrite_moves ..) (by decide) ?_
                exact Moves.refl
              · refine Moves.step (State.plainWrite_moves ..) (by decide) ?_
                exact Moves.refl

theorem State.stateCmdWrite_moves (s a1) : Moves 563499709256449 s (State.stateCmdWrite s a1) := by
  unfold State.stateCmdWrite
  extract_lets -merge -underBinder -useContext x0
  clear_value x0
  refine Moves.step (State.checked_moves (m := 563499709256449) (hf := fun y1 => ?_) ..) (by decide) ?_
  · extract_lets -merge -underBinder -useContext x2 x3
    clear_value x2
    have h4 : Moves 563499709256449 y1 x3 := by
      unfold x3
      refine Moves.step (State.put_moves ..) (by decide) ?_
      exact Moves.refl
    clear_value x3
    refine Moves.ite ?_ ?_
    · refine Moves.ite ?_ ?_
      · refine Moves.step (State.modPwr_moves ..) (by decide) ?_
        exact Moves.refl
      · refine Moves.ite ?_ ?_
        · exact Moves.refl
        · refine Moves.step (State.wakeBegin_moves ..) (by decide) ?_
          exact Moves.refl
    · refine Moves.ite ?_ ?_
      · refine Moves.step (State.modPwr_moves ..) (by decide) ?_
        with_reducible assumption
      · refine Moves.ite ?_ ?_
        · refine Moves.step (State.devEnter_moves ..) (by decide) ?_
          with_reducible assumption
        · refine Moves.step (State.wakeBegin_moves ..) (by decide) ?_
          with_reducible assumption
  · exact Moves.refl

theorem State.govWrite_moves (s a1) : Moves 257 s (State.govWrite s a1) := by
  unfold State.govWrite
  refine Moves.step (State.checked_moves (m := 257) (hf := fun y0 => ?_) ..) (by decide) ?_
  · refine Moves.step (State.applyWrite_moves ..) (by decide) ?_
    exact Moves.refl
  · exact Moves.refl

theorem State.clCtrlWrite_moves (s a1 a2) : Moves 257 s (State.clCtrlWrite s a1 a2) := by
  unfold State.clCtrlWrite
  refine Moves.step (State.checked_moves (m := 257) (hf := fun y0 => ?_) ..) (by decide) ?_
  · refine Moves.step (State.put_moves ..) (by decide) ?_
    refine Moves.step (State.applyWrite_moves ..) (by decide) ?_
    exact Moves.refl
  · exact Moves.refl

theorem State.pwrPageWrite_moves (s a1 a2) : Moves 216737862379393921 s (State.pwrPageWrite s a1 a2) := by
  unfold State.pwrPageWrite
  refine Moves.ite ?_ ?_
  · refine Moves.step (State.stateCmdWrite_moves ..) (by decide) ?_
    exact Moves.refl
  · refine Moves.ite ?_ ?_
    · refine Moves.step (State.govWrite_moves ..) (by decide) ?_
      exact Moves.refl
    · refine Moves.ite ?_ ?_
      · refine Moves.step (State.domCmdWrite_moves ..) (by decide) ?_
        exact Moves.refl
      · split
        · refine Moves.step (State.clCtrlWrite_moves ..) (by decide) ?_
          exact Moves.refl
        · refine Moves.step (State.plainWrite_moves ..) (by decide) ?_
          exact Moves.refl

theorem State.copyKernel_moves (s a1 a2 a3 a4) : Moves 360287970189639681 s (State.copyKernel s a1 a2 a3 a4) := by
  unfold State.copyKernel
  extract_lets -merge -underBinder -useContext x0 x1 x2
  clear_value x0
  have h3 : Moves 360287970189639681 s x1 := by
    unfold x1
    refine Moves.step (Moves.set_kernels ..) (by decide) ?_
    exact Moves.refl
  clear_value x1
  have h4 : Moves 360287970189639681 s x2 := by
    unfold x2
    refine Moves.step (State.put_moves ..) (by decide) ?_
    with_reducible assumption
  clear_value x2
  refine Moves.step (State.placeKernels_moves ..) (by decide) ?_
  refine Moves.step (State.put_moves ..) (by decide) ?_
  with_reducible assumption

theorem State.moveKernel_moves22 (s a1 a2 a3) : Moves 360287970189639681 s (State.moveKernel s a1 a2 a3).2.2 := by
  unfold State.moveKernel
  split
  · exact Moves.refl
  · split
    · exact Moves.refl
    · split
      · exact Moves.refl
      · try dsimp only
        refine Moves.step (State.copyKernel_moves ..) (by decide) ?_
        exact Moves.refl

theorem State.moveOff_moves2 (s a1 a2) : Moves 361413870096482433 s (State.moveOff s a1 a2).2 := by
  unfold State.moveOff
  split
  · rename_i s0 q0
    have h0 := Moves.at2 (m := 361413870096482433) (s := s) q0 (by
      refine Moves.step (State.fresh_moves2 ..) (by decide) ?_
      exact Moves.refl)
    extract_lets -merge -underBinder -useContext x1 x2
    clear_value x1
    clear_value x2
    split
    · rename_i s3 q3
      have h3 := Moves.at22 (m := 361413870096482433) (s := s) q3 (by
        refine Moves.foldl22 (fun y4 y5 => ?_) ?_
        · extract_lets -merge -underBinder -useContext x6
          have h7 : Moves 361413870096482433 y4.snd.snd x6.2.2 := by
            unfold x6
            refine Moves.step (State.moveKernel_moves22 ..) (by decide) ?_
            exact Moves.refl
          clear_value x6
          try dsimp only
          with_reducible assumption
        · try dsimp only
          with_reducible assumption)
      extract_lets -merge -underBinder -useContext x8
      have h9 : Moves 361413870096482433 s x8 := by
        unfold x8
        refine Moves.step (State.modSvc_moves ..) (by decide) ?_
        with_reducible assumption
      clear_value x8
      try dsimp only
      with_reducible assumption

theorem State.svcResult_moves (s a1 a2) : Moves 4865 s (State.svcResult s a1 a2) := by
  unfold State.svcResult
  extract_lets -merge -underBinder -useContext x0
  have h1 : Moves 4865 s x0 := by
    unfold x0
    refine Moves.step (State.postResult_moves ..) (by decide) ?_
    exact Moves.refl
  clear_value x0
  refine Moves.step (State.post_moves ..) (by decide) ?_
  with_reducible assumption

theorem State.svcReset_moves (s a1 a2) : Moves 1225139008942642081 s (State.svcReset s a1 a2) := by
  unfold State.svcReset
  refine Moves.forEach (fun y0 y1 => ?_) ?_
  · refine Moves.step (State.put_moves ..) (by decide) ?_
    refine Moves.step (State.pageReset_moves ..) (by decide) ?_
    exact Moves.refl
  · exact Moves.refl

theorem State.svcCmdWrite_moves (s a1 a2) : Moves 1515058234954617761 s (State.svcCmdWrite s a1 a2) := by
  unfold State.svcCmdWrite
  refine Moves.step (State.checked_moves (m := 1515058234954617761) (hf := fun y0 => ?_) ..) (by decide) ?_
  · extract_lets -merge -underBinder -useContext x1 x2 x3 x4
    clear_value x1
    clear_value x2
    clear_value x3
    have h5 : Moves 1515058234954617761 y0 x4.2 := by
      unfold x4
      split
      · refine Moves.step (State.moveOff_moves2 ..) (by decide) ?_
        exact Moves.refl
      · exact Moves.refl
    clear_value x4
    split
    · refine Moves.step (State.svcResult_moves ..) (by decide) ?_
      refine Moves.step (State.reject_moves ..) (by decide) ?_
      exact Moves.refl
    · extract_lets -merge -underBinder -useContext x6 x7 x8 x9 x10
      have h11 : Moves 1515058234954617761 y0 x6 := by
        unfold x6
        refine Moves.step (State.unvalid_moves ..) (by decide) ?_
        with_reducible assumption
      clear_value x6
      clear_value x7
      have h12 : Moves 1515058234954617761 y0 x8 := by
        unfold x8
        refine Moves.step (State.modSvc_moves ..) (by decide) ?_
        with_reducible assumption
      clear_value x8
      clear_value x9
      clear_value x10
      refine Moves.ite ?_ ?_
      · refine Moves.ite ?_ ?_
        · refine Moves.step (State.domWake_moves ..) (by decide) ?_
          refine Moves.step (State.setDom_moves ..) (by decide) ?_
          with_reducible assumption
        · refine Moves.ite ?_ ?_
          · refine Moves.ite ?_ ?_
            · refine Moves.step (State.linkEnable_moves ..) (by decide) ?_
              refine Moves.step (State.linkEnable_moves ..) (by decide) ?_
              with_reducible assumption
            · with_reducible assumption
          · refine Moves.step (State.svcReset_moves ..) (by decide) ?_
            with_reducible assumption
      · refine Moves.forEach (fun y13 y14 => ?_) ?_
        · refine Moves.step (State.quiesce_moves ..) (by decide) ?_
          refine Moves.step (State.put_moves ..) (by decide) ?_
          exact Moves.refl
        · with_reducible assumption
  · exact Moves.refl

theorem State.crierCfgWrite_moves (s a1) : Moves 257 s (State.crierCfgWrite s a1) := by
  unfold State.crierCfgWrite
  refine Moves.step (State.checked_moves (m := 257) (hf := fun y0 => ?_) ..) (by decide) ?_
  · refine Moves.step (State.applyWrite_moves ..) (by decide) ?_
    exact Moves.refl
  · exact Moves.refl

theorem State.dumpCfgWrite_moves (s a1) : Moves 257 s (State.dumpCfgWrite s a1) := by
  unfold State.dumpCfgWrite
  refine Moves.step (State.checked_moves (m := 257) (hf := fun y0 => ?_) ..) (by decide) ?_
  · refine Moves.step (State.applyWrite_moves ..) (by decide) ?_
    exact Moves.refl
  · exact Moves.refl

theorem State.servicePageWrite_moves (s a1 a2 a3) : Moves 1515093419326708641 s (State.servicePageWrite s a1 a2 a3) := by
  unfold State.servicePageWrite
  refine Moves.ite ?_ ?_
  · refine Moves.step (State.svcCmdWrite_moves ..) (by decide) ?_
    exact Moves.refl
  · refine Moves.ite ?_ ?_
    · refine Moves.step (State.fwCmdWrite_moves ..) (by decide) ?_
      exact Moves.refl
    · refine Moves.ite ?_ ?_
      · refine Moves.step (State.crierCfgWrite_moves ..) (by decide) ?_
        exact Moves.refl
      · refine Moves.ite ?_ ?_
        · refine Moves.step (State.dumpCfgWrite_moves ..) (by decide) ?_
          exact Moves.refl
        · refine Moves.step (State.plainWrite_moves ..) (by decide) ?_
          exact Moves.refl

theorem State.dmaPageWrite_moves (s a1 a2) : Moves 707535732588817 s (State.dmaPageWrite s a1 a2) := by
  unfold State.dmaPageWrite
  split
  · refine Moves.step (State.dmaCtrlWrite_moves ..) (by decide) ?_
    exact Moves.refl
  · refine Moves.step (State.dmaTailWrite_moves ..) (by decide) ?_
    exact Moves.refl
  · refine Moves.step (State.dmaCmdWrite_moves ..) (by decide) ?_
    exact Moves.refl
  · refine Moves.step (State.plainWrite_moves ..) (by decide) ?_
    exact Moves.refl

theorem State.ethCfgWrite_moves (s a1 a2) : Moves 257 s (State.ethCfgWrite s a1 a2) := by
  unfold State.ethCfgWrite
  refine Moves.step (State.checked_moves (m := 257) (hf := fun y0 => ?_) ..) (by decide) ?_
  · extract_lets -merge -underBinder -useContext x1
    have h2 : Moves 257 y0 x1 := by
      unfold x1
      refine Moves.step (State.applyWrite_moves ..) (by decide) ?_
      exact Moves.refl
    clear_value x1
    refine Moves.ite ?_ ?_
    · with_reducible assumption
    · refine Moves.step (State.portCal_moves ..) (by decide) ?_
      with_reducible assumption
  · exact Moves.refl

theorem State.puntCfgWrite_moves (s a1 a2) : Moves 268435713 s (State.puntCfgWrite s a1 a2) := by
  unfold State.puntCfgWrite
  refine Moves.step (State.checked_moves (m := 268435713) (hf := fun y0 => ?_) ..) (by decide) ?_
  · extract_lets -merge -underBinder -useContext x1 x2 x3 x4
    clear_value x1
    clear_value x2
    have h5 : Moves 268435713 y0 x3 := by
      unfold x3
      refine Moves.step (State.setPlane_moves ..) (by decide) ?_
      exact Moves.refl
    clear_value x3
    have h6 : Moves 268435713 y0 x4 := by
      unfold x4
      refine Moves.step (State.applyWrite_moves ..) (by decide) ?_
      with_reducible assumption
    clear_value x4
    refine Moves.ite ?_ ?_
    · refine Moves.step (State.wr_moves ..) (by decide) ?_
      with_reducible assumption
    · with_reducible assumption
  · exact Moves.refl

theorem State.planePageWrite_moves (s a1 a2 a3) : Moves 268435713 s (State.planePageWrite s a1 a2 a3) := by
  unfold State.planePageWrite
  refine Moves.ite ?_ ?_
  · refine Moves.step (State.puntCfgWrite_moves ..) (by decide) ?_
    exact Moves.refl
  · refine Moves.ite ?_ ?_
    · refine Moves.step (State.puntPtrWrite_moves ..) (by decide) ?_
      exact Moves.refl
    · refine Moves.ite ?_ ?_
      · refine Moves.step (State.injPtrWrite_moves ..) (by decide) ?_
        exact Moves.refl
      · refine Moves.step (State.guardWrite_moves ..) (by decide) ?_
        exact Moves.refl

theorem State.tdmCfgWrite_moves (s a1 a2) : Moves 257 s (State.tdmCfgWrite s a1 a2) := by
  unfold State.tdmCfgWrite
  refine Moves.step (State.checked_moves (m := 257) (hf := fun y0 => ?_) ..) (by decide) ?_
  · refine Moves.step (State.applyWrite_moves ..) (by decide) ?_
    exact Moves.refl
  · exact Moves.refl

theorem State.mediaPageWrite_moves (s a1 a2) : Moves 4194561 s (State.mediaPageWrite s a1 a2) := by
  unfold State.mediaPageWrite
  refine Moves.ite ?_ ?_
  · refine Moves.step (State.pktinSelWrite_moves ..) (by decide) ?_
    exact Moves.refl
  · refine Moves.ite ?_ ?_
    · refine Moves.step (State.pktoutSelWrite_moves ..) (by decide) ?_
      exact Moves.refl
    · refine Moves.ite ?_ ?_
      · refine Moves.step (State.guardWrite_moves ..) (by decide) ?_
        exact Moves.refl
      · refine Moves.ite ?_ ?_
        · refine Moves.step (State.adaptLegSelWrite_moves ..) (by decide) ?_
          exact Moves.refl
        · refine Moves.ite ?_ ?_
          · refine Moves.step (State.adaptOstrSelWrite_moves ..) (by decide) ?_
            exact Moves.refl
          · split
            · refine Moves.step (State.guardWrite_moves ..) (by decide) ?_
              exact Moves.refl
            · refine Moves.step (State.tdmCfgWrite_moves ..) (by decide) ?_
              exact Moves.refl
            · refine Moves.step (State.plainWrite_moves ..) (by decide) ?_
              exact Moves.refl

theorem State.evqCfgWrite_moves (s a1 a2) : Moves 4865 s (State.evqCfgWrite s a1 a2) := by
  unfold State.evqCfgWrite
  refine Moves.step (State.checked_moves (m := 4865) (hf := fun y0 => ?_) ..) (by decide) ?_
  · extract_lets -merge -underBinder -useContext x1
    have h2 : Moves 4865 y0 x1 := by
      unfold x1
      refine Moves.ite ?_ ?_
      · exact Moves.refl
      · refine Moves.step (State.evqEmpty_moves ..) (by decide) ?_
        exact Moves.refl
    clear_value x1
    refine Moves.step (State.applyWrite_moves ..) (by decide) ?_
    with_reducible assumption
  · exact Moves.refl

theorem State.queuePageWrite_moves (s a1 a2) : Moves 4199233 s (State.queuePageWrite s a1 a2) := by
  unfold State.queuePageWrite
  refine Moves.ite ?_ ?_
  · refine Moves.step (State.gateCmdWrite_moves ..) (by decide) ?_
    exact Moves.refl
  · refine Moves.ite ?_ ?_
    · refine Moves.step (State.granarySelWrite_moves ..) (by decide) ?_
      exact Moves.refl
    · split
      · refine Moves.step (State.evqCfgWrite_moves ..) (by decide) ?_
        exact Moves.refl
      · refine Moves.step (State.plainWrite_moves ..) (by decide) ?_
        exact Moves.refl

theorem State.millPageWrite_moves (s a1 a2 a3) : Moves 648518552499783937 s (State.millPageWrite s a1 a2 a3) := by
  unfold State.millPageWrite
  refine Moves.ite ?_ ?_
  · refine Moves.step (State.kernelCmdWrite_moves ..) (by decide) ?_
    exact Moves.refl
  · refine Moves.ite ?_ ?_
    · refine Moves.step (State.benchSelWrite_moves ..) (by decide) ?_
      exact Moves.refl
    · refine Moves.ite ?_ ?_
      · refine Moves.step (State.benchCmdWrite_moves ..) (by decide) ?_
        exact Moves.refl
      · refine Moves.step (State.plainWrite_moves ..) (by decide) ?_
        exact Moves.refl

theorem State.audioSetWrite_moves (s a1 a2) : Moves 206158432513 s (State.audioSetWrite s a1 a2) := by
  unfold State.audioSetWrite
  refine Moves.step (State.checked_moves (m := 206158432513) (hf := fun y0 => ?_) ..) (by decide) ?_
  · refine Moves.step (State.applyWrite_moves ..) (by decide) ?_
    refine Moves.step (State.record_moves ..) (by decide) ?_
    exact Moves.refl
  · exact Moves.refl

theorem State.playerRegWrite_moves (s a1 a2 a3) : Moves 206158432513 s (State.playerRegWrite s a1 a2 a3) := by
  unfold State.playerRegWrite
  refine Moves.step (State.checked_moves (m := 206158432513) (hf := fun y0 => ?_) ..) (by decide) ?_
  · refine Moves.step (State.applyWrite_moves ..) (by decide) ?_
    refine Moves.step (State.record_moves ..) (by decide) ?_
    exact Moves.refl
  · exact Moves.refl

theorem State.playerPageWrite_moves (s a1 a2 a3) : Moves 9007405413178113 s (State.playerPageWrite s a1 a2 a3) := by
  unfold State.playerPageWrite
  refine Moves.ite ?_ ?_
  · refine Moves.step (State.playerCmdWrite_moves ..) (by decide) ?_
    exact Moves.refl
  · refine Moves.ite ?_ ?_
    · refine Moves.step (State.playerRegWrite_moves ..) (by decide) ?_
      exact Moves.refl
    · refine Moves.step (State.plainWrite_moves ..) (by decide) ?_
      exact Moves.refl

theorem State.audioPageWrite_moves (s a1 a2) : Moves 9007405417372417 s (State.audioPageWrite s a1 a2) := by
  unfold State.audioPageWrite
  refine Moves.ite ?_ ?_
  · refine Moves.step (State.audioSetWrite_moves ..) (by decide) ?_
    exact Moves.refl
  · refine Moves.ite ?_ ?_
    · refine Moves.step (State.progCmdWrite_moves ..) (by decide) ?_
      exact Moves.refl
    · refine Moves.ite ?_ ?_
      · refine Moves.step (State.pathSnkWrite_moves ..) (by decide) ?_
        exact Moves.refl
      · refine Moves.ite ?_ ?_
        · refine Moves.step (State.meterSelWrite_moves ..) (by decide) ?_
          exact Moves.refl
        · refine Moves.ite ?_ ?_
          · refine Moves.step (State.seatSelWrite_moves ..) (by decide) ?_
            exact Moves.refl
          · refine Moves.ite ?_ ?_
            · refine Moves.step (State.playerPageWrite_moves ..) (by decide) ?_
              exact Moves.refl
            · refine Moves.step (State.plainWrite_moves ..) (by decide) ?_
              exact Moves.refl

theorem State.strSelWrite_moves (s a1) : Moves 4194561 s (State.strSelWrite s a1) := by
  unfold State.strSelWrite
  refine Moves.step (State.checked_moves (m := 4194561) (hf := fun y0 => ?_) ..) (by decide) ?_
  · refine Moves.step (State.unvalid_moves ..) (by decide) ?_
    refine Moves.step (State.unvalid_moves ..) (by decide) ?_
    refine Moves.step (State.fetchStart_moves ..) (by decide) ?_
    refine Moves.step (State.applyWrite_moves ..) (by decide) ?_
    exact Moves.refl
  · exact Moves.refl

theorem State.ecSelWrite_moves (s a1) : Moves 4194561 s (State.ecSelWrite s a1) := by
  unfold State.ecSelWrite
  refine Moves.step (State.checked_moves (m := 4194561) (hf := fun y0 => ?_) ..) (by decide) ?_
  · refine Moves.step (State.unvalid_moves ..) (by decide) ?_
    refine Moves.step (State.unvalid_moves ..) (by decide) ?_
    refine Moves.step (State.fetchStart_moves ..) (by decide) ?_
    refine Moves.step (State.applyWrite_moves ..) (by decide) ?_
    exact Moves.refl
  · exact Moves.refl

theorem State.reevePortWrite_moves (s a1 a2) : Moves 257 s (State.reevePortWrite s a1 a2) := by
  unfold State.reevePortWrite
  refine Moves.step (State.checked_moves (m := 257) (hf := fun y0 => ?_) ..) (by decide) ?_
  · refine Moves.step (State.applyWrite_moves ..) (by decide) ?_
    exact Moves.refl
  · exact Moves.refl

theorem State.enginePageWrite_moves (s a1 a2) : Moves 4194561 s (State.enginePageWrite s a1 a2) := by
  unfold State.enginePageWrite
  refine Moves.ite ?_ ?_
  · refine Moves.step (State.strSelWrite_moves ..) (by decide) ?_
    exact Moves.refl
  · refine Moves.ite ?_ ?_
    · refine Moves.step (State.laySelWrite_moves ..) (by decide) ?_
      exact Moves.refl
    · refine Moves.ite ?_ ?_
      · refine Moves.step (State.ecSelWrite_moves ..) (by decide) ?_
        exact Moves.refl
      · refine Moves.ite ?_ ?_
        · refine Moves.step (State.flowSelWrite_moves ..) (by decide) ?_
          exact Moves.refl
        · split
          · refine Moves.step (State.reevePortWrite_moves ..) (by decide) ?_
            exact Moves.refl
          · refine Moves.step (State.plainWrite_moves ..) (by decide) ?_
            exact Moves.refl

theorem State.fabricWrite_moves (s a1) : Moves 412316865409 s (State.fabricWrite s a1) := by
  unfold State.fabricWrite
  refine Moves.step (State.checked_moves (m := 412316865409) (hf := fun y0 => ?_) ..) (by decide) ?_
  · extract_lets -merge -underBinder -useContext x1 x2
    have h3 : Moves 412316865409 y0 x1 := by
      unfold x1
      refine Moves.step (State.applyWrite_moves ..) (by decide) ?_
      exact Moves.refl
    clear_value x1
    have h4 : Moves 412316865409 y0 x2 := by
      unfold x2
      refine Moves.step (State.putB_moves ..) (by decide) ?_
      with_reducible assumption
    clear_value x2
    refine Moves.step (State.fabricRefresh_moves ..) (by decide) ?_
    with_reducible assumption
  · exact Moves.refl

theorem State.linkCfgWrite_moves (s a1 a2) : Moves 257 s (State.linkCfgWrite s a1 a2) := by
  unfold State.linkCfgWrite
  refine Moves.step (State.checked_moves (m := 257) (hf := fun y0 => ?_) ..) (by decide) ?_
  · refine Moves.step (State.applyWrite_moves ..) (by decide) ?_
    exact Moves.refl
  · exact Moves.refl

theorem State.fconfWrite_moves (s a1 a2) : Moves 206158432513 s (State.fconfWrite s a1 a2) := by
  unfold State.fconfWrite
  refine Moves.step (State.checked_moves (m := 206158432513) (hf := fun y0 => ?_) ..) (by decide) ?_
  · refine Moves.step (State.applyWrite_moves ..) (by decide) ?_
    refine Moves.step (State.record_moves ..) (by decide) ?_
    exact Moves.refl
  · exact Moves.refl

theorem State.binathPageWrite_moves (s a1 a2) : Moves 481036344193 s (State.binathPageWrite s a1 a2) := by
  unfold State.binathPageWrite
  refine Moves.ite ?_ ?_
  · refine Moves.step (State.fabricWrite_moves ..) (by decide) ?_
    exact Moves.refl
  · split
    · refine Moves.step (State.linkCfgWrite_moves ..) (by decide) ?_
      exact Moves.refl
    · refine Moves.step (State.fconfWrite_moves ..) (by decide) ?_
      exact Moves.refl
    · refine Moves.step (State.plainWrite_moves ..) (by decide) ?_
      exact Moves.refl

theorem State.twinSetWrite_moves (s a1 a2) : Moves 206158432513 s (State.twinSetWrite s a1 a2) := by
  unfold State.twinSetWrite
  refine Moves.step (State.checked_moves (m := 206158432513) (hf := fun y0 => ?_) ..) (by decide) ?_
  · refine Moves.step (State.showTwin_moves ..) (by decide) ?_
    refine Moves.step (State.applyWrite_moves ..) (by decide) ?_
    refine Moves.step (State.record_moves ..) (by decide) ?_
    exact Moves.refl
  · exact Moves.refl

theorem State.revertStart_moves (s) : Moves 68719476736 s (State.revertStart s) := by
  unfold State.revertStart
  refine Moves.step (State.modTwin_moves ..) (by decide) ?_
  exact Moves.refl

theorem State.twinCmdWrite_moves (s a1) : Moves 68727870337 s (State.twinCmdWrite s a1) := by
  unfold State.twinCmdWrite
  refine Moves.step (State.checked_moves (m := 68727870337) (hf := fun y0 => ?_) ..) (by decide) ?_
  · refine Moves.ite ?_ ?_
    · refine Moves.step (State.revertStart_moves ..) (by decide) ?_
      exact Moves.refl
    · refine Moves.step (State.pairStep_moves ..) (by decide) ?_
      refine Moves.step (State.enterTwin_moves ..) (by decide) ?_
      exact Moves.refl
  · exact Moves.refl

theorem State.twinPageWrite_moves (s a1 a2) : Moves 206166825857 s (State.twinPageWrite s a1 a2) := by
  unfold State.twinPageWrite
  refine Moves.ite ?_ ?_
  · refine Moves.step (State.twinSetWrite_moves ..) (by decide) ?_
    exact Moves.refl
  · refine Moves.ite ?_ ?_
    · refine Moves.step (State.twinCmdWrite_moves ..) (by decide) ?_
      exact Moves.refl
    · refine Moves.ite ?_ ?_
      · refine Moves.step (State.guardWrite_moves ..) (by decide) ?_
        exact Moves.refl
      · refine Moves.step (State.plainWrite_moves ..) (by decide) ?_
        exact Moves.refl

theorem State.fenceSelWrite_moves (s a1) : Moves 4194561 s (State.fenceSelWrite s a1) := by
  unfold State.fenceSelWrite
  refine Moves.step (State.checked_moves (m := 4194561) (hf := fun y0 => ?_) ..) (by decide) ?_
  · refine Moves.step (State.unvalid_moves ..) (by decide) ?_
    refine Moves.step (State.fetchStart_moves ..) (by decide) ?_
    refine Moves.step (State.applyWrite_moves ..) (by decide) ?_
    exact Moves.refl
  · exact Moves.refl

theorem State.weirCfgWrite_moves (s a1 a2) : Moves 257 s (State.weirCfgWrite s a1 a2) := by
  unfold State.weirCfgWrite
  refine Moves.step (State.checked_moves (m := 257) (hf := fun y0 => ?_) ..) (by decide) ?_
  · extract_lets -merge -underBinder -useContext x1
    clear_value x1
    refine Moves.step (State.put_moves ..) (by decide) ?_
    refine Moves.step (State.applyWrite_moves ..) (by decide) ?_
    exact Moves.refl
  · exact Moves.refl

theorem State.memoryPageWrite_moves (s a1 a2) : Moves 4194561 s (State.memoryPageWrite s a1 a2) := by
  unfold State.memoryPageWrite
  refine Moves.ite ?_ ?_
  · refine Moves.step (State.fenceSelWrite_moves ..) (by decide) ?_
    exact Moves.refl
  · split
    · refine Moves.step (State.devSelWrite_moves ..) (by decide) ?_
      exact Moves.refl
    · refine Moves.step (State.weirCfgWrite_moves ..) (by decide) ?_
      exact Moves.refl
    · refine Moves.step (State.plainWrite_moves ..) (by decide) ?_
      exact Moves.refl

theorem State.keyinWrite_moves (s a1 a2) : Moves 17592186044673 s (State.keyinWrite s a1 a2) := by
  unfold State.keyinWrite
  refine Moves.step (State.checked_moves (m := 17592186044673) (hf := fun y0 => ?_) ..) (by decide) ?_
  · refine Moves.step (State.modSec_moves ..) (by decide) ?_
    exact Moves.refl
  · exact Moves.refl

theorem State.cipherPageWrite_moves (s a1 a2) : Moves 17592190243585 s (State.cipherPageWrite s a1 a2) := by
  unfold State.cipherPageWrite
  refine Moves.ite ?_ ?_
  · refine Moves.step (State.cipherLockWrite_moves ..) (by decide) ?_
    exact Moves.refl
  · refine Moves.ite ?_ ?_
    · refine Moves.step (State.jobCmdWrite_moves ..) (by decide) ?_
      exact Moves.refl
    · refine Moves.ite ?_ ?_
      · refine Moves.step (State.slotCmdWrite_moves ..) (by decide) ?_
        exact Moves.refl
      · refine Moves.ite ?_ ?_
        · refine Moves.step (State.slotSelWrite_moves ..) (by decide) ?_
          exact Moves.refl
        · split
          · refine Moves.step (State.keyinWrite_moves ..) (by decide) ?_
            exact Moves.refl
          · refine Moves.step (State.plainWrite_moves ..) (by decide) ?_
            exact Moves.refl

theorem State.pairSlotWrite_moves (s a1) : Moves 257 s (State.pairSlotWrite s a1) := by
  unfold State.pairSlotWrite
  refine Moves.step (State.checked_moves (m := 257) (hf := fun y0 => ?_) ..) (by decide) ?_
  · refine Moves.step (State.applyWrite_moves ..) (by decide) ?_
    exact Moves.refl
  · exact Moves.refl

theorem State.stageWrite_moves (s a1 a2) : Moves 17592186044673 s (State.stageWrite s a1 a2) := by
  unfold State.stageWrite
  refine Moves.step (State.checked_moves (m := 17592186044673) (hf := fun y0 => ?_) ..) (by decide) ?_
  · refine Moves.step (State.modSec_moves ..) (by decide) ?_
    exact Moves.refl
  · exact Moves.refl

theorem State.keystorePageWrite_moves (s a1 a2) : Moves 17592190238977 s (State.keystorePageWrite s a1 a2) := by
  unfold State.keystorePageWrite
  refine Moves.ite ?_ ?_
  · refine Moves.step (State.keystoreCmdWrite_moves ..) (by decide) ?_
    exact Moves.refl
  · refine Moves.ite ?_ ?_
    · refine Moves.step (State.keystoreSelWrite_moves ..) (by decide) ?_
      exact Moves.refl
    · refine Moves.ite ?_ ?_
      · refine Moves.step (State.pairSlotWrite_moves ..) (by decide) ?_
        exact Moves.refl
      · split
        · refine Moves.step (State.stageWrite_moves ..) (by decide) ?_
          exact Moves.refl
        · refine Moves.step (State.guardWrite_moves ..) (by decide) ?_
          exact Moves.refl

theorem State.alarmBootWrite_moves (s a1) : Moves 35184372089089 s (State.alarmBootWrite s a1) := by
  unfold State.alarmBootWrite
  refine Moves.step (State.checked_moves (m := 35184372089089) (hf := fun y0 => ?_) ..) (by decide) ?_
  · extract_lets -merge -underBinder -useContext x1
    have h2 : Moves 35184372089089 y0 x1 := by
      unfold x1
      refine Moves.step (State.applyWrite_moves ..) (by decide) ?_
      exact Moves.refl
    clear_value x1
    refine Moves.step (Moves.set_flash ..) (by decide) ?_
    with_reducible assumption
  · exact Moves.refl

theorem State.svnCmdWrite_moves (s a1) : Moves 4865 s (State.svnCmdWrite s a1) := by
  unfold State.svnCmdWrite
  extract_lets -merge -underBinder -useContext x0
  clear_value x0
  refine Moves.step (State.checked_moves (m := 4865) (hf := fun y1 => ?_) ..) (by decide) ?_
  · refine Moves.ite ?_ ?_
    · extract_lets -merge -underBinder -useContext x2
      clear_value x2
      refine Moves.step (State.post_moves ..) (by decide) ?_
      refine Moves.step (State.put_moves ..) (by decide) ?_
      exact Moves.refl
    · exact Moves.refl
  · exact Moves.refl

theorem State.alarmPageWrite_moves (s a1 a2) : Moves 2305897984803902209 s (State.alarmPageWrite s a1 a2) := by
  unfold State.alarmPageWrite
  refine Moves.ite ?_ ?_
  · refine Moves.step (State.alarmCmdWrite_moves ..) (by decide) ?_
    exact Moves.refl
  · refine Moves.ite ?_ ?_
    · refine Moves.step (State.alarmBootWrite_moves ..) (by decide) ?_
      exact Moves.refl
    · refine Moves.ite ?_ ?_
      · refine Moves.step (State.svnCmdWrite_moves ..) (by decide) ?_
        exact Moves.refl
      · refine Moves.step (State.plainWrite_moves ..) (by decide) ?_
        exact Moves.refl

theorem State.blockWrite_moves (s a1 a2 a3) : Moves 4607182418800017407 s (State.blockWrite s a1 a2 a3) := by
  unfold State.blockWrite
  extract_lets -merge -underBinder -useContext x0
  clear_value x0
  refine Moves.ite ?_ ?_
  · refine Moves.step (State.globalPageWrite_moves ..) (by decide) ?_
    exact Moves.refl
  · refine Moves.ite ?_ ?_
    · refine Moves.step (State.belfryPageWrite_moves ..) (by decide) ?_
      exact Moves.refl
    · refine Moves.ite ?_ ?_
      · refine Moves.step (State.pwrPageWrite_moves ..) (by decide) ?_
        exact Moves.refl
      · refine Moves.ite ?_ ?_
        · refine Moves.step (State.servicePageWrite_moves ..) (by decide) ?_
          exact Moves.refl
        · refine Moves.ite ?_ ?_
          · refine Moves.step (State.dmaPageWrite_moves ..) (by decide) ?_
            exact Moves.refl
          · refine Moves.ite ?_ ?_
            · split
              · refine Moves.step (State.ethCfgWrite_moves ..) (by decide) ?_
                exact Moves.refl
              · refine Moves.step (State.plainWrite_moves ..) (by decide) ?_
                exact Moves.refl
            · refine Moves.ite ?_ ?_
              · refine Moves.step (State.planePageWrite_moves ..) (by decide) ?_
                exact Moves.refl
              · refine Moves.ite ?_ ?_
                · refine Moves.step (State.mediaPageWrite_moves ..) (by decide) ?_
                  exact Moves.refl
                · refine Moves.ite ?_ ?_
                  · refine Moves.step (State.queuePageWrite_moves ..) (by decide) ?_
                    exact Moves.refl
                  · refine Moves.ite ?_ ?_
                    · refine Moves.step (State.millPageWrite_moves ..) (by decide) ?_
                      exact Moves.refl
                    · refine Moves.ite ?_ ?_
                      · refine Moves.step (State.audioPageWrite_moves ..) (by decide) ?_
                        exact Moves.refl
                      · refine Moves.ite ?_ ?_
                        · refine Moves.step (State.enginePageWrite_moves ..) (by decide) ?_
                          exact Moves.refl
                        · refine Moves.ite ?_ ?_
                          · refine Moves.step (State.binathPageWrite_moves ..) (by decide) ?_
                            exact Moves.refl
                          · refine Moves.ite ?_ ?_
                            · refine Moves.step (State.twinPageWrite_moves ..) (by decide) ?_
                              exact Moves.refl
                            · refine Moves.ite ?_ ?_
                              · refine Moves.step (State.memoryPageWrite_moves ..) (by decide) ?_
                                exact Moves.refl
                              · refine Moves.ite ?_ ?_
                                · refine Moves.step (State.cipherPageWrite_moves ..) (by decide) ?_
                                  exact Moves.refl
                                · refine Moves.ite ?_ ?_
                                  · refine Moves.step (State.keystorePageWrite_moves ..) (by decide) ?_
                                    exact Moves.refl
                                  · refine Moves.step (State.alarmPageWrite_moves ..) (by decide) ?_
                                    exact Moves.refl

theorem State.hostWrite_moves (s a1 a2 a3) : Moves 4607182418800017407 s (State.hostWrite s a1 a2 a3) := by
  unfold State.hostWrite
  split
  · refine Moves.step (State.unmappedWrite_moves ..) (by decide) ?_
    exact Moves.refl
  · refine Moves.step (State.reject_moves ..) (by decide) ?_
    exact Moves.refl
  · refine Moves.ite ?_ ?_
    · refine Moves.step (State.headWrite_moves ..) (by decide) ?_
      exact Moves.refl
    · refine Moves.ite ?_ ?_
      · refine Moves.step (State.pairLoWrite_moves ..) (by decide) ?_
        exact Moves.refl
      · refine Moves.ite ?_ ?_
        · refine Moves.step (State.pairHiWrite_moves ..) (by decide) ?_
          exact Moves.refl
        · refine Moves.step (State.blockWrite_moves ..) (by decide) ?_
          exact Moves.refl

theorem execRegisterWrite_moves (a0 a1 a2 s) : Runs 4607182418800017407 s (execRegisterWrite a0 a1 a2 s) := by
  unfold execRegisterWrite
  refine Runs.ite ?_ ?_
  · refine Runs.next ?_
    exact Moves.refl
  · split
    · refine Runs.step (execMillSlotWrite_moves ..) (by decide) ?_
      exact Moves.refl
    · refine Runs.next ?_
      refine Moves.step (State.hostWrite_moves ..) (by decide) ?_
      exact Moves.refl

theorem execResetNAssert_moves (a0 s) : Runs 4611650834055233535 s (execResetNAssert a0 s) := by
  unfold execResetNAssert
  split
  · rename_i s0 q0
    have h0 := Moves.at2 (m := 4611650834055233535) (s := s) q0 (by
      refine Moves.step (State.fresh_moves2 ..) (by decide) ?_
      exact Moves.refl)
    refine Runs.ite ?_ ?_
    · refine Runs.next ?_
      refine Moves.step (State.resetAll_moves ..) (by decide) ?_
      exact Moves.refl
    · refine Runs.ite ?_ ?_
      · refine Runs.next ?_
        exact Moves.refl
      · refine Runs.ite ?_ ?_
        · refine Runs.next ?_
          refine Moves.step (State.resetAll_moves ..) (by decide) ?_
          with_reducible assumption
        · refine Runs.next ?_
          with_reducible assumption

theorem State.sampleStraps_moves (s a1) : Moves 1 s (State.sampleStraps s a1) := by
  unfold State.sampleStraps
  refine Moves.step (State.putB_moves ..) (by decide) ?_
  refine Moves.step (State.putB_moves ..) (by decide) ?_
  refine Moves.step (State.putB_moves ..) (by decide) ?_
  refine Moves.step (State.put_moves ..) (by decide) ?_
  exact Moves.refl

theorem execResetNRelease_moves (a0 s) : Runs 70368744177681 s (execResetNRelease a0 s) := by
  unfold execResetNRelease
  refine Runs.ite ?_ ?_
  · refine Runs.next ?_
    refine Moves.step (State.sampleStraps_moves ..) (by decide) ?_
    refine Moves.step (Moves.set_clk_boot ..) (by decide) ?_
    exact Moves.refl
  · refine Runs.next ?_
    exact Moves.refl

theorem State.postResultGen_moves (s a1 a2 a3) : Moves 1 s (State.postResultGen s a1 a2 a3) := by
  unfold State.postResultGen
  refine Moves.step (State.wr_moves ..) (by decide) ?_
  exact Moves.refl

theorem State.pktinFetch_moves (s) : Moves 1 s (State.pktinFetch s) := by
  unfold State.pktinFetch
  extract_lets -merge -underBinder -useContext x0 x1
  clear_value x0
  clear_value x1
  refine Moves.step (State.postResultGen_moves ..) (by decide) ?_
  refine Moves.step (State.postResultGen_moves ..) (by decide) ?_
  exact Moves.refl

theorem State.pktoutFetch_moves (s) : Moves 1 s (State.pktoutFetch s) := by
  unfold State.pktoutFetch
  extract_lets -merge -underBinder -useContext x0 x1 x2
  clear_value x0
  clear_value x1
  have h3 : Moves 1 s x2 := by
    unfold x2
    refine Moves.step (State.postResultGen_moves ..) (by decide) ?_
    exact Moves.refl
  clear_value x2
  refine Moves.step (State.postResultGen_moves ..) (by decide) ?_
  with_reducible assumption

theorem State.adaptLegFetch_moves (s) : Moves 1 s (State.adaptLegFetch s) := by
  unfold State.adaptLegFetch
  extract_lets -merge -underBinder -useContext x0 x1 x2 x3 x4
  clear_value x0
  clear_value x1
  clear_value x2
  clear_value x3
  have h5 : Moves 1 s x4 := by
    unfold x4
    refine Moves.step (State.postResultGen_moves ..) (by decide) ?_
    exact Moves.refl
  clear_value x4
  refine Moves.step (State.postResultGen_moves ..) (by decide) ?_
  with_reducible assumption

theorem State.adaptOstrFetch_moves (s) : Moves 1 s (State.adaptOstrFetch s) := by
  unfold State.adaptOstrFetch
  extract_lets -merge -underBinder -useContext x0 x1 x2
  clear_value x0
  clear_value x1
  clear_value x2
  refine Moves.step (State.postResult_moves ..) (by decide) ?_
  exact Moves.refl

theorem State.granaryFetch_moves (s) : Moves 1 s (State.granaryFetch s) := by
  unfold State.granaryFetch
  extract_lets -merge -underBinder -useContext x0 x1 x2 x3 x4 x5 x6
  clear_value x0
  clear_value x1
  clear_value x2
  clear_value x3
  clear_value x4
  have h7 : Moves 1 s x5 := by
    unfold x5
    refine Moves.step (State.postResultGen_moves ..) (by decide) ?_
    exact Moves.refl
  clear_value x5
  have h8 : Moves 1 s x6 := by
    unfold x6
    refine Moves.step (State.postResultGen_moves ..) (by decide) ?_
    with_reducible assumption
  clear_value x6
  refine Moves.step (State.postResultGen_moves ..) (by decide) ?_
  with_reducible assumption

theorem State.pathFetch_moves (s) : Moves 1 s (State.pathFetch s) := by
  unfold State.pathFetch
  extract_lets -merge -underBinder -useContext x0
  clear_value x0
  split
  · refine Moves.step (State.postResult_moves ..) (by decide) ?_
    exact Moves.refl
  · extract_lets -merge -underBinder -useContext x1
    clear_value x1
    refine Moves.step (State.postResult_moves ..) (by decide) ?_
    exact Moves.refl

theorem State.meterFetch_moves (s) : Moves 1 s (State.meterFetch s) := by
  unfold State.meterFetch
  extract_lets -merge -underBinder -useContext x0 x1 x2
  clear_value x0
  clear_value x1
  clear_value x2
  refine Moves.step (State.postResultGen_moves ..) (by decide) ?_
  refine Moves.step (State.postResultGen_moves ..) (by decide) ?_
  exact Moves.refl

theorem State.seatFetch_moves (s) : Moves 1 s (State.seatFetch s) := by
  unfold State.seatFetch
  extract_lets -merge -underBinder -useContext x0 x1
  clear_value x0
  clear_value x1
  refine Moves.forUpTo (fun y2 y3 => ?_) ?_
  · extract_lets -merge -underBinder -useContext x4
    clear_value x4
    refine Moves.step (State.postResultGen_moves ..) (by decide) ?_
    exact Moves.refl
  · exact Moves.refl

theorem State.strFetch_moves (s) : Moves 1 s (State.strFetch s) := by
  unfold State.strFetch
  extract_lets -merge -underBinder -useContext x0 x1 x2 x3 x4 x5
  clear_value x0
  clear_value x1
  clear_value x2
  clear_value x3
  clear_value x4
  clear_value x5
  refine Moves.step (State.postResultGen_moves ..) (by decide) ?_
  refine Moves.step (State.postResultGen_moves ..) (by decide) ?_
  exact Moves.refl

theorem State.layFetch_moves (s) : Moves 1 s (State.layFetch s) := by
  unfold State.layFetch
  extract_lets -merge -underBinder -useContext x0 x1 x2
  clear_value x0
  clear_value x1
  clear_value x2
  split
  · extract_lets -merge -underBinder -useContext x3
    have h4 : Moves 1 s x3 := by
      unfold x3
      refine Moves.step (State.postResultGen_moves ..) (by decide) ?_
      exact Moves.refl
    clear_value x3
    refine Moves.step (State.postResultGen_moves ..) (by decide) ?_
    with_reducible assumption

theorem State.ecFetch_moves (s) : Moves 1 s (State.ecFetch s) := by
  unfold State.ecFetch
  extract_lets -merge -underBinder -useContext x0 x1 x2 x3
  clear_value x0
  clear_value x1
  clear_value x2
  clear_value x3
  refine Moves.step (State.postResultGen_moves ..) (by decide) ?_
  refine Moves.step (State.postResultGen_moves ..) (by decide) ?_
  exact Moves.refl

theorem State.flowFetch_moves (s) : Moves 1 s (State.flowFetch s) := by
  unfold State.flowFetch
  extract_lets -merge -underBinder -useContext x0 x1 x2
  clear_value x0
  clear_value x1
  clear_value x2
  refine Moves.step (State.postResult_moves ..) (by decide) ?_
  exact Moves.refl

theorem State.fenceFetch_moves (s) : Moves 1 s (State.fenceFetch s) := by
  unfold State.fenceFetch
  extract_lets -merge -underBinder -useContext x0 x1 x2
  clear_value x0
  clear_value x1
  clear_value x2
  refine Moves.step (State.postResult_moves ..) (by decide) ?_
  exact Moves.refl

theorem State.slotFetch_moves (s) : Moves 1 s (State.slotFetch s) := by
  unfold State.slotFetch
  split
  · refine Moves.step (State.postResult_moves ..) (by decide) ?_
    refine Moves.step (State.wr_moves ..) (by decide) ?_
    exact Moves.refl
  · refine Moves.step (State.postResult_moves ..) (by decide) ?_
    refine Moves.step (State.wr_moves ..) (by decide) ?_
    exact Moves.refl

theorem State.keystoreFetch_moves (s) : Moves 1 s (State.keystoreFetch s) := by
  unfold State.keystoreFetch
  extract_lets -merge -underBinder -useContext x0 x1
  clear_value x0
  clear_value x1
  refine Moves.step (State.postResult_moves ..) (by decide) ?_
  exact Moves.refl

theorem State.devFetch_moves (s a1) : Moves 1 s (State.devFetch s a1) := by
  unfold State.devFetch
  extract_lets -merge -underBinder -useContext x0
  clear_value x0
  refine Moves.step (State.postResult_moves ..) (by decide) ?_
  exact Moves.refl

theorem State.fetchEnd_moves (s a1) : Moves 1 s (State.fetchEnd s a1) := by
  unfold State.fetchEnd
  refine Moves.ite ?_ ?_
  · refine Moves.step (State.pktinFetch_moves ..) (by decide) ?_
    exact Moves.refl
  · refine Moves.ite ?_ ?_
    · refine Moves.step (State.pktoutFetch_moves ..) (by decide) ?_
      exact Moves.refl
    · refine Moves.ite ?_ ?_
      · refine Moves.step (State.adaptLegFetch_moves ..) (by decide) ?_
        exact Moves.refl
      · refine Moves.ite ?_ ?_
        · refine Moves.step (State.adaptOstrFetch_moves ..) (by decide) ?_
          exact Moves.refl
        · refine Moves.ite ?_ ?_
          · refine Moves.step (State.granaryFetch_moves ..) (by decide) ?_
            exact Moves.refl
          · refine Moves.ite ?_ ?_
            · refine Moves.step (State.pathFetch_moves ..) (by decide) ?_
              exact Moves.refl
            · refine Moves.ite ?_ ?_
              · refine Moves.step (State.meterFetch_moves ..) (by decide) ?_
                exact Moves.refl
              · refine Moves.ite ?_ ?_
                · refine Moves.step (State.seatFetch_moves ..) (by decide) ?_
                  exact Moves.refl
                · refine Moves.ite ?_ ?_
                  · refine Moves.step (State.strFetch_moves ..) (by decide) ?_
                    exact Moves.refl
                  · refine Moves.ite ?_ ?_
                    · refine Moves.step (State.layFetch_moves ..) (by decide) ?_
                      exact Moves.refl
                    · refine Moves.ite ?_ ?_
                      · refine Moves.step (State.ecFetch_moves ..) (by decide) ?_
                        exact Moves.refl
                      · refine Moves.ite ?_ ?_
                        · refine Moves.step (State.flowFetch_moves ..) (by decide) ?_
                          exact Moves.refl
                        · refine Moves.ite ?_ ?_
                          · refine Moves.step (State.fenceFetch_moves ..) (by decide) ?_
                            exact Moves.refl
                          · refine Moves.ite ?_ ?_
                            · refine Moves.step (State.slotFetch_moves ..) (by decide) ?_
                              exact Moves.refl
                            · refine Moves.ite ?_ ?_
                              · refine Moves.step (State.keystoreFetch_moves ..) (by decide) ?_
                                exact Moves.refl
                              · split
                                · refine Moves.step (State.devFetch_moves ..) (by decide) ?_
                                  exact Moves.refl
                                · exact Moves.refl

theorem execResultFetchComplete_moves (a0 s) : Runs 4194305 s (execResultFetchComplete a0 s) := by
  unfold execResultFetchComplete
  refine Runs.ite ?_ ?_
  · refine Runs.next ?_
    refine Moves.step (State.fetchEnd_moves ..) (by decide) ?_
    refine Moves.step (Moves.set_fetches ..) (by decide) ?_
    exact Moves.refl
  · refine Runs.next ?_
    exact Moves.refl

theorem State.restorePkt_moves (s a1) : Moves 2417497857 s (State.restorePkt s a1) := by
  unfold State.restorePkt
  extract_lets -merge -underBinder -useContext x0 x1
  clear_value x0
  have h2 : Moves 2417497857 s x1 := by
    unfold x1
    refine Moves.step (Moves.set_pkts_nextPkt ..) (by decide) ?_
    exact Moves.refl
  clear_value x1
  split
  · with_reducible assumption
  · with_reducible assumption
  · refine Moves.ite ?_ ?_
    · refine Moves.step (State.qAppend_moves ..) (by decide) ?_
      with_reducible assumption
    · with_reducible assumption
  · refine Moves.ite ?_ ?_
    · refine Moves.step (State.qAppend_moves ..) (by decide) ?_
      with_reducible assumption
    · with_reducible assumption

theorem State.restoreWork_moves (s a1) : Moves 1152921507024344833 s (State.restoreWork s a1) := by
  unfold State.restoreWork
  extract_lets -merge -underBinder -useContext x0 x1
  have h2 : Moves 1152921507024344833 s x0 := by
    unfold x0
    refine Moves.forEach (fun y3 y4 => ?_) ?_
    · refine Moves.step (State.restorePkt_moves ..) (by decide) ?_
      exact Moves.refl
    · refine Moves.step (State.dropWork_moves ..) (by decide) ?_
      exact Moves.refl
  clear_value x0
  have h5 : Moves 1152921507024344833 s x1 := by
    unfold x1
    refine Moves.forUpTo (fun y6 y7 => ?_) ?_
    · refine Moves.step (State.setPlane_moves ..) (by decide) ?_
      exact Moves.refl
    · with_reducible assumption
  clear_value x1
  refine Moves.forEach (fun y8 y9 => ?_) ?_
  · refine Moves.step (State.submitTask_moves ..) (by decide) ?_
    exact Moves.refl
  · with_reducible assumption

theorem execResyncCopyDone_moves (a0 s) : Runs 1504202412772693825 s (execResyncCopyDone a0 s) := by
  unfold execResyncCopyDone
  refine Runs.ite ?_ ?_
  · extract_lets -merge -underBinder -useContext x0 x1 x2 x3 x4 x5
    have h6 : Moves 1504202412772693825 s x0 := by
      unfold x0
      refine Moves.step (Moves.set_gate_keys_legs_confs_taps_vstrs_ostrs ..) (by decide) ?_
      exact Moves.refl
    clear_value x0
    have h7 : Moves 1504202412772693825 s x1 := by
      unfold x1
      refine Moves.step (Moves.set_rxWin_ecomps_decs_layouts_audio_legAudio_confAudio_kernels ..) (by decide) ?_
      with_reducible assumption
    clear_value x1
    have h8 : Moves 1504202412772693825 s x2 := by
      unfold x2
      refine Moves.step (State.restoreWork_moves ..) (by decide) ?_
      with_reducible assumption
    clear_value x2
    have h9 : Moves 1504202412772693825 s x3 := by
      unfold x3
      refine Moves.forEach (fun y10 y11 => ?_) ?_
      · refine Moves.step (State.wr_moves ..) (by decide) ?_
        exact Moves.refl
      · with_reducible assumption
    clear_value x3
    have h12 : Moves 1504202412772693825 s x4 := by
      unfold x4
      refine Moves.step (State.modTwin_moves ..) (by decide) ?_
      with_reducible assumption
    clear_value x4
    have h13 : Moves 1504202412772693825 s x5 := by
      unfold x5
      refine Moves.step (State.wr64_moves ..) (by decide) ?_
      with_reducible assumption
    clear_value x5
    refine Runs.next ?_
    refine Moves.step (State.put_moves ..) (by decide) ?_
    refine Moves.step (State.put_moves ..) (by decide) ?_
    with_reducible assumption
  · refine Runs.next ?_
    exact Moves.refl

theorem execResyncCopyTimeout_moves (s) : Runs 68727870353 s (execResyncCopyTimeout s) := by
  unfold execResyncCopyTimeout
  refine Runs.ite ?_ ?_
  · refine Runs.next ?_
    refine Moves.step (State.resyncFails_moves ..) (by decide) ?_
    refine Moves.step (State.runTo_moves ..) (by decide) ?_
    exact Moves.refl
  · refine Runs.next ?_
    exact Moves.refl

theorem execResyncRetry_moves (s) : Runs 68727870353 s (execResyncRetry s) := by
  unfold execResyncRetry
  refine Runs.ite ?_ ?_
  · refine Runs.next ?_
    refine Moves.step (State.pairStep_moves ..) (by decide) ?_
    refine Moves.step (State.modTwin_moves ..) (by decide) ?_
    refine Moves.step (State.runTo_moves ..) (by decide) ?_
    exact Moves.refl
  · refine Runs.next ?_
    exact Moves.refl

theorem execRet_moves (a0 s) : Runs 225179981502747521 s (execRet a0 s) := by
  unfold execRet
  refine Runs.next ?_
  refine Moves.step (State.issueOn_moves ..) (by decide) ?_
  exact Moves.refl

theorem execReti_moves (a0 s) : Runs 225179981502747521 s (execReti a0 s) := by
  unfold execReti
  refine Runs.next ?_
  refine Moves.step (State.issueOn_moves ..) (by decide) ?_
  exact Moves.refl

theorem execRtcpReport_moves (a0 s) : Runs 2425886481 s (execRtcpReport a0 s) := by
  unfold execRtcpReport
  refine Runs.ite ?_ ?_
  · refine Runs.next ?_
    exact Moves.refl
  · extract_lets -merge -underBinder -useContext x0 x1 x2 x3 x4
    clear_value x0
    clear_value x1
    have h5 : Moves 2425886481 s x2 := by
      unfold x2
      refine Moves.step (State.runTo_moves ..) (by decide) ?_
      exact Moves.refl
    clear_value x2
    clear_value x3
    have h6 : Moves 2425886481 s x4 := by
      unfold x4
      refine Moves.step (State.setLeg_moves ..) (by decide) ?_
      with_reducible assumption
    clear_value x4
    refine Runs.ite ?_ ?_
    · refine Runs.next ?_
      exact Moves.refl
    · refine Runs.next ?_
      refine Moves.step (State.sendRtcp_moves ..) (by decide) ?_
      with_reducible assumption

theorem execRxIdle_moves (a0 s) : Runs 8393489 s (execRxIdle a0 s) := by
  unfold execRxIdle
  refine Runs.ite ?_ ?_
  · refine Runs.next ?_
    exact Moves.refl
  · extract_lets -merge -underBinder -useContext x0 x1 x2 x3
    clear_value x0
    clear_value x1
    clear_value x2
    have h4 : Moves 8393489 s x3 := by
      unfold x3
      refine Moves.step (State.runTo_moves ..) (by decide) ?_
      exact Moves.refl
    clear_value x3
    refine Runs.ite ?_ ?_
    · refine Runs.next ?_
      refine Moves.step (State.post_moves ..) (by decide) ?_
      refine Moves.step (State.setLeg_moves ..) (by decide) ?_
      with_reducible assumption
    · refine Runs.next ?_
      exact Moves.refl

theorem execSat_moves (a0 a1 a2 s) : Runs 225179981502747521 s (execSat a0 a1 a2 s) := by
  unfold execSat
  refine Runs.next ?_
  refine Moves.step (State.issueOn_moves ..) (by decide) ?_
  exact Moves.refl

theorem execScrubRead_moves (a0 a1 s) : Runs 2748779074305 s (execScrubRead a0 a1 s) := by
  unfold execScrubRead
  refine Runs.ite ?_ ?_
  · extract_lets -merge -underBinder -useContext x0 x1 x2
    clear_value x0
    clear_value x1
    clear_value x2
    split
    · rename_i s3 q3
      have h3 := Moves.at2 (m := 2748779074305) (s := s) q3 (by
        refine Moves.step (State.decodeLine_moves2 ..) (by decide) ?_
        exact Moves.refl)
      extract_lets -merge -underBinder -useContext x4 x5 x6 x7 x8 x9 x10
      have h11 : Moves 2748779074305 s x4 := by
        unfold x4
        refine Moves.ite ?_ ?_
        · refine Moves.step (State.setPoison_moves ..) (by decide) ?_
          with_reducible assumption
        · with_reducible assumption
      clear_value x4
      clear_value x5
      clear_value x6
      clear_value x7
      clear_value x8
      have h12 : Moves 2748779074305 s x9 := by
        unfold x9
        refine Moves.step (State.setChan_moves ..) (by decide) ?_
        with_reducible assumption
      clear_value x9
      have h13 : Moves 2748779074305 s x10 := by
        unfold x10
        refine Moves.step (State.put_moves ..) (by decide) ?_
        with_reducible assumption
      clear_value x10
      refine Runs.next ?_
      refine Moves.ite ?_ ?_
      · refine Moves.step (State.bump_moves ..) (by decide) ?_
        with_reducible assumption
      · with_reducible assumption
  · refine Runs.next ?_
    exact Moves.refl

theorem execSelfRefreshEnter_moves (s) : Runs 549755830529 s (execSelfRefreshEnter s) := by
  unfold execSelfRefreshEnter
  refine Runs.next ?_
  refine Moves.step (State.srEnter_moves ..) (by decide) ?_
  exact Moves.refl

theorem execSelfRefreshExit_moves (a0 s) : Runs 549755830273 s (execSelfRefreshExit a0 s) := by
  unfold execSelfRefreshExit
  refine Runs.ite ?_ ?_
  · refine Runs.next ?_
    refine Moves.step (State.srExit_moves ..) (by decide) ?_
    exact Moves.refl
  · refine Runs.next ?_
    exact Moves.refl

theorem State.svcEnd_moves (s a1 a2) : Moves 1125899906847489 s (State.svcEnd s a1 a2) := by
  unfold State.svcEnd
  refine Moves.step (State.svcResult_moves ..) (by decide) ?_
  refine Moves.step (State.modSvc_moves ..) (by decide) ?_
  exact Moves.refl

theorem State.moveBack_moves (s a1) : Moves 1125899906842624 s (State.moveBack s a1) := by
  unfold State.moveBack
  extract_lets -merge -underBinder -useContext x0
  clear_value x0
  refine Moves.step (State.modSvc_moves ..) (by decide) ?_
  exact Moves.refl

theorem State.svcInDone_moves (s a1 a2) : Moves 1514336474214957057 s (State.svcInDone s a1 a2) := by
  unfold State.svcInDone
  extract_lets -merge -underBinder -useContext x0 x1 x2 x3
  have h4 : Moves 1514336474214957057 s x0 := by
    unfold x0
    refine Moves.forEach (fun y5 y6 => ?_) ?_
    · refine Moves.step (State.weirLift_moves ..) (by decide) ?_
      refine Moves.step (State.setEng_moves ..) (by decide) ?_
      exact Moves.refl
    · exact Moves.refl
  clear_value x0
  have h7 : Moves 1514336474214957057 s x1 := by
    unfold x1
    refine Moves.forEach (fun y8 y9 => ?_) ?_
    · refine Moves.step (State.put_moves ..) (by decide) ?_
      refine Moves.step (State.put_moves ..) (by decide) ?_
      refine Moves.step (State.showHours_moves ..) (by decide) ?_
      exact Moves.refl
    · with_reducible assumption
  clear_value x1
  have h10 : Moves 1514336474214957057 s x2 := by
    unfold x2
    refine Moves.forEach (fun y11 y12 => ?_) ?_
    · refine Moves.step (State.put_moves ..) (by decide) ?_
      exact Moves.refl
    · with_reducible assumption
  clear_value x2
  have h13 : Moves 1514336474214957057 s x3 := by
    unfold x3
    refine Moves.step (State.showOverdue_moves ..) (by decide) ?_
    with_reducible assumption
  clear_value x3
  refine Moves.ite ?_ ?_
  · refine Moves.step (State.moveBack_moves ..) (by decide) ?_
    refine Moves.step (State.reloadCores_moves ..) (by decide) ?_
    with_reducible assumption
  · with_reducible assumption

theorem State.svcOutDone_moves (s a1 a2 a3) : Moves 1369817146971935649 s (State.svcOutDone s a1 a2 a3) := by
  unfold State.svcOutDone
  extract_lets -merge -underBinder -useContext x0
  have h1 : Moves 1369817146971935649 s x0 := by
    unfold x0
    refine Moves.forEach (fun y2 y3 => ?_) ?_
    · refine Moves.step (State.put_moves ..) (by decide) ?_
      refine Moves.step (State.put_moves ..) (by decide) ?_
      refine Moves.step (State.put_moves ..) (by decide) ?_
      exact Moves.refl
    · exact Moves.refl
  clear_value x0
  refine Moves.ite ?_ ?_
  · with_reducible assumption
  · refine Moves.ite ?_ ?_
    · refine Moves.step (State.domOff_moves ..) (by decide) ?_
      with_reducible assumption
    · refine Moves.step (State.svcReset_moves ..) (by decide) ?_
      with_reducible assumption

theorem execServiceDone_moves (a0 s) : Runs 3967268232058131361 s (execServiceDone a0 s) := by
  unfold execServiceDone
  split
  · refine Runs.next ?_
    exact Moves.refl
  · extract_lets -merge -underBinder -useContext x0 x1 x2
    clear_value x0
    clear_value x1
    clear_value x2
    refine Runs.ite ?_ ?_
    · refine Runs.ite ?_ ?_
      · refine Runs.next ?_
        exact Moves.refl
      · refine Runs.ite ?_ ?_
        · refine Runs.next ?_
          refine Moves.step (State.svcEnd_moves ..) (by decide) ?_
          exact Moves.refl
        · split
          · refine Runs.ite ?_ ?_
            · extract_lets -merge -underBinder -useContext x3
              have h4 : Moves 3967268232058131361 s x3 := by
                unfold x3
                refine Moves.step (State.katFail_moves ..) (by decide) ?_
                exact Moves.refl
              clear_value x3
              refine Runs.next ?_
              refine Moves.step (State.svcEnd_moves ..) (by decide) ?_
              refine Moves.ite ?_ ?_
              · refine Moves.step (State.domOff_moves ..) (by decide) ?_
                with_reducible assumption
              · with_reducible assumption
            · refine Runs.next ?_
              exact Moves.refl
          · refine Runs.ite ?_ ?_
            · refine Runs.next ?_
              refine Moves.step (State.svcEnd_moves ..) (by decide) ?_
              exact Moves.refl
            · refine Runs.next ?_
              refine Moves.step (State.svcEnd_moves ..) (by decide) ?_
              refine Moves.step (State.svcInDone_moves ..) (by decide) ?_
              exact Moves.refl
    · refine Runs.ite ?_ ?_
      · refine Runs.next ?_
        exact Moves.refl
      · refine Runs.next ?_
        refine Moves.step (State.svcEnd_moves ..) (by decide) ?_
        refine Moves.step (State.svcOutDone_moves ..) (by decide) ?_
        exact Moves.refl

theorem execServiceHold_moves (a0 a1 a2 s) : Runs 1515058234954617761 s (execServiceHold a0 a1 a2 s) := by
  unfold execServiceHold
  refine Runs.next ?_
  refine Moves.step (State.svcCmdWrite_moves ..) (by decide) ?_
  exact Moves.refl

theorem execServiceIn_moves (a0 a1 s) : Runs 1515058234954617761 s (execServiceIn a0 a1 s) := by
  unfold execServiceIn
  refine Runs.next ?_
  refine Moves.step (State.svcCmdWrite_moves ..) (by decide) ?_
  exact Moves.refl

theorem execServiceOut_moves (a0 a1 a2 s) : Runs 1515058234954617761 s (execServiceOut a0 a1 a2 s) := by
  unfold execServiceOut
  refine Runs.next ?_
  refine Moves.step (State.svcCmdWrite_moves ..) (by decide) ?_
  exact Moves.refl

theorem execServoEnableWrite_moves (a0 s) : Runs 289 s (execServoEnableWrite a0 s) := by
  unfold execServoEnableWrite
  refine Runs.next ?_
  refine Moves.step (State.belfryCtrlWrite_moves ..) (by decide) ?_
  exact Moves.refl

theorem State.servoTake_moves (s a1) : Moves 433 s (State.servoTake s a1) := by
  unfold State.servoTake
  extract_lets -merge -underBinder -useContext x0 x1 x2
  have h3 : Moves 433 s x0 := by
    unfold x0
    refine Moves.step (State.postResult_moves ..) (by decide) ?_
    exact Moves.refl
  clear_value x0
  clear_value x1
  clear_value x2
  split
  · rename_i s4 q4
    have h4 := Moves.at2 (m := 433) (s := s) q4 (by
      refine Moves.step (State.fresh_moves2 ..) (by decide) ?_
      with_reducible assumption)
    extract_lets -merge -underBinder -useContext x5 x6 x7 x8 x9 x10 x11 x12 x13
    clear_value x5
    clear_value x6
    have h14 : Moves 433 s x7 := by
      unfold x7
      refine Moves.step (Moves.set_bel ..) (by decide) ?_
      with_reducible assumption
    clear_value x7
    clear_value x8
    have h15 : Moves 433 s x9 := by
      unfold x9
      refine Moves.step (State.setAddend_moves ..) (by decide) ?_
      with_reducible assumption
    clear_value x9
    clear_value x10
    clear_value x11
    clear_value x12
    have h16 : Moves 433 s x13 := by
      unfold x13
      refine Moves.step (Moves.set_bel ..) (by decide) ?_
      with_reducible assumption
    clear_value x13
    refine Moves.ite ?_ ?_
    · refine Moves.ite ?_ ?_
      · refine Moves.step (State.setAddend_moves ..) (by decide) ?_
        with_reducible assumption
      · refine Moves.step (State.stepClock_moves ..) (by decide) ?_
        with_reducible assumption
    · refine Moves.ite ?_ ?_
      · refine Moves.step (State.servoGo_moves ..) (by decide) ?_
        with_reducible assumption
      · refine Moves.ite ?_ ?_
        · refine Moves.step (State.servoGo_moves ..) (by decide) ?_
          with_reducible assumption
        · with_reducible assumption

theorem State.servoSample_moves (s a1 a2) : Moves 433 s (State.servoSample s a1 a2) := by
  unfold State.servoSample
  extract_lets -merge -underBinder -useContext x0 x1
  have h2 : Moves 433 s x0 := by
    unfold x0
    refine Moves.ite ?_ ?_
    · exact Moves.refl
    · refine Moves.step (State.servoFound_moves ..) (by decide) ?_
      exact Moves.refl
  clear_value x0
  clear_value x1
  refine Moves.ite ?_ ?_
  · refine Moves.step (State.servoTake_moves ..) (by decide) ?_
    with_reducible assumption
  · with_reducible assumption

theorem execServoSample_moves (a0 s) : Runs 433 s (execServoSample a0 s) := by
  unfold execServoSample
  split
  · refine Runs.next ?_
    refine Moves.step (State.servoSample_moves ..) (by decide) ?_
    exact Moves.refl
  · refine Runs.next ?_
    exact Moves.refl

theorem execShl_moves (a0 a1 a2 a3 s) : Runs 225179981502747521 s (execShl a0 a1 a2 a3 s) := by
  unfold execShl
  refine Runs.next ?_
  refine Moves.step (State.issueOn_moves ..) (by decide) ?_
  exact Moves.refl

theorem execShli_moves (a0 a1 a2 a3 s) : Runs 225179981502747521 s (execShli a0 a1 a2 a3 s) := by
  unfold execShli
  refine Runs.next ?_
  refine Moves.step (State.issueOn_moves ..) (by decide) ?_
  exact Moves.refl

theorem execShr_moves (a0 a1 a2 a3 s) : Runs 225179981502747521 s (execShr a0 a1 a2 a3 s) := by
  unfold execShr
  refine Runs.next ?_
  refine Moves.step (State.issueOn_moves ..) (by decide) ?_
  exact Moves.refl

theorem execShri_moves (a0 a1 a2 a3 s) : Runs 225179981502747521 s (execShri a0 a1 a2 a3 s) := by
  unfold execShri
  refine Runs.next ?_
  refine Moves.step (State.issueOn_moves ..) (by decide) ?_
  exact Moves.refl

theorem State.smbusAnswer_moves (s a1 a2 a3) : Moves 4503599627370496 s (State.smbusAnswer s a1 a2 a3) := by
  unfold State.smbusAnswer
  extract_lets -merge -underBinder -useContext x0 x1
  clear_value x0
  clear_value x1
  refine Moves.step (Moves.set_pins ..) (by decide) ?_
  exact Moves.refl

theorem execSmbusAlarmStatus_moves (s) : Runs 4503599627370496 s (execSmbusAlarmStatus s) := by
  unfold execSmbusAlarmStatus
  refine Runs.next ?_
  refine Moves.step (State.smbusAnswer_moves ..) (by decide) ?_
  exact Moves.refl

theorem execSmbusAlertResponse_moves (s) : Runs 4503599627370496 s (execSmbusAlertResponse s) := by
  unfold execSmbusAlertResponse
  refine Runs.next ?_
  refine Moves.step (Moves.set_pins ..) (by decide) ?_
  exact Moves.refl

theorem execSmbusBootStage_moves (s) : Runs 4503599627370496 s (execSmbusBootStage s) := by
  unfold execSmbusBootStage
  refine Runs.next ?_
  refine Moves.step (State.smbusAnswer_moves ..) (by decide) ?_
  exact Moves.refl

theorem execSmbusFatalCause_moves (s) : Runs 4503599627370496 s (execSmbusFatalCause s) := by
  unfold execSmbusFatalCause
  refine Runs.next ?_
  refine Moves.step (State.smbusAnswer_moves ..) (by decide) ?_
  exact Moves.refl

theorem execSmbusPart_moves (s) : Runs 4503599627370496 s (execSmbusPart s) := by
  unfold execSmbusPart
  refine Runs.next ?_
  refine Moves.step (State.smbusAnswer_moves ..) (by decide) ?_
  exact Moves.refl

theorem execSmbusPower_moves (s) : Runs 4503599627370496 s (execSmbusPower s) := by
  unfold execSmbusPower
  refine Runs.next ?_
  refine Moves.step (State.smbusAnswer_moves ..) (by decide) ?_
  exact Moves.refl

theorem execSmbusTemperature_moves (s) : Runs 4503599627370496 s (execSmbusTemperature s) := by
  unfold execSmbusTemperature
  refine Runs.next ?_
  refine Moves.step (State.smbusAnswer_moves ..) (by decide) ?_
  exact Moves.refl

theorem execSra_moves (a0 a1 a2 a3 s) : Runs 225179981502747521 s (execSra a0 a1 a2 a3 s) := by
  unfold execSra
  refine Runs.next ?_
  refine Moves.step (State.issueOn_moves ..) (by decide) ?_
  exact Moves.refl

theorem execSrai_moves (a0 a1 a2 a3 s) : Runs 225179981502747521 s (execSrai a0 a1 a2 a3 s) := by
  unfold execSrai
  refine Runs.next ?_
  refine Moves.step (State.issueOn_moves ..) (by decide) ?_
  exact Moves.refl

theorem State.dropItem_moves (s a1 a2) : Moves 2416449025 s (State.dropItem s a1 a2) := by
  unfold State.dropItem
  refine Moves.ite ?_ ?_
  · extract_lets -merge -underBinder -useContext x0 x1 x2
    clear_value x0
    clear_value x1
    clear_value x2
    refine Moves.ite ?_ ?_
    · exact Moves.refl
    · refine Moves.step (State.contained_moves ..) (by decide) ?_
      refine Moves.step (State.bump_moves ..) (by decide) ?_
      refine Moves.step (Moves.set_evq_freeCells ..) (by decide) ?_
      exact Moves.refl
  · extract_lets -merge -underBinder -useContext x3 x4 x5
    clear_value x3
    clear_value x4
    have h6 : Moves 2416449025 s x5 := by
      unfold x5
      refine Moves.step (State.setQueue_moves ..) (by decide) ?_
      exact Moves.refl
    clear_value x5
    refine Moves.ite ?_ ?_
    · exact Moves.refl
    · refine Moves.step (State.contained_moves ..) (by decide) ?_
      refine Moves.step (State.pruneQueue_moves ..) (by decide) ?_
      refine Moves.step (Moves.set_freeCells ..) (by decide) ?_
      with_reducible assumption

theorem execSramScrub_moves (a0 a1 s) : Runs 3533083805693515521 s (execSramScrub a0 a1 s) := by
  unfold execSramScrub
  extract_lets -merge -underBinder -useContext x0
  have h1 : Moves 3533083805693515521 s x0 := by
    unfold x0
    refine Moves.ite ?_ ?_
    · exact Moves.refl
    · refine Moves.step (State.corrected_moves ..) (by decide) ?_
      exact Moves.refl
  clear_value x0
  split
  · refine Runs.next ?_
    with_reducible assumption
  · refine Runs.next ?_
    refine Moves.ite ?_ ?_
    · refine Moves.step (State.engineFaulted_moves ..) (by decide) ?_
      with_reducible assumption
    · with_reducible assumption
  · refine Runs.next ?_
    refine Moves.step (State.contained_moves ..) (by decide) ?_
    with_reducible assumption
  · refine Runs.next ?_
    refine Moves.step (State.dropItem_moves ..) (by decide) ?_
    with_reducible assumption
  · refine Runs.next ?_
    refine Moves.step (State.pointersBad_moves ..) (by decide) ?_
    with_reducible assumption
  · refine Runs.next ?_
    refine Moves.step (State.deviceFatal_moves ..) (by decide) ?_
    with_reducible assumption
  · refine Runs.next ?_
    refine Moves.step (State.deviceFatal_moves ..) (by decide) ?_
    with_reducible assumption

theorem execSt_moves (a0 a1 a2 a3 a4 s) : Runs 225179981502747521 s (execSt a0 a1 a2 a3 a4 s) := by
  unfold execSt
  refine Runs.next ?_
  refine Moves.step (State.issueOn_moves ..) (by decide) ?_
  exact Moves.refl

theorem execStall_moves (s) : Runs 68727870353 s (execStall s) := by
  unfold execStall
  refine Runs.ite ?_ ?_
  · extract_lets -merge -underBinder -useContext x0 x1 x2 x3
    clear_value x0
    have h4 : Moves 68727870353 s x1 := by
      unfold x1
      refine Moves.step (State.runTo_moves ..) (by decide) ?_
      exact Moves.refl
    clear_value x1
    have h5 : Moves 68727870353 s x2 := by
      unfold x2
      refine Moves.step (State.post_moves ..) (by decide) ?_
      with_reducible assumption
    clear_value x2
    clear_value x3
    refine Runs.ite ?_ ?_
    · refine Runs.next ?_
      refine Moves.step (State.modTwin_moves ..) (by decide) ?_
      with_reducible assumption
    · refine Runs.next ?_
      refine Moves.step (State.enterTwin_moves ..) (by decide) ?_
      with_reducible assumption
  · refine Runs.next ?_
    exact Moves.refl

theorem execStateDeep_moves (s) : Runs 563499709256449 s (execStateDeep s) := by
  unfold execStateDeep
  refine Runs.next ?_
  refine Moves.step (State.stateCmdWrite_moves ..) (by decide) ?_
  exact Moves.refl

theorem execStateQuiet_moves (s) : Runs 563499709256449 s (execStateQuiet s) := by
  unfold execStateQuiet
  refine Runs.next ?_
  refine Moves.step (State.stateCmdWrite_moves ..) (by decide) ?_
  exact Moves.refl

theorem execStateWake_moves (s) : Runs 563499709256449 s (execStateWake s) := by
  unfold execStateWake
  refine Runs.next ?_
  refine Moves.step (State.stateCmdWrite_moves ..) (by decide) ?_
  exact Moves.refl

theorem execStepAbs_moves (s) : Runs 305 s (execStepAbs s) := by
  unfold execStepAbs
  refine Runs.next ?_
  refine Moves.step (State.stepCmdWrite_moves ..) (by decide) ?_
  exact Moves.refl

theorem execStepEnWrite_moves (a0 s) : Runs 289 s (execStepEnWrite a0 s) := by
  unfold execStepEnWrite
  refine Runs.next ?_
  refine Moves.step (State.belfryCtrlWrite_moves ..) (by decide) ?_
  exact Moves.refl

theorem execStepRel_moves (s) : Runs 305 s (execStepRel s) := by
  unfold execStepRel
  refine Runs.next ?_
  refine Moves.step (State.stepCmdWrite_moves ..) (by decide) ?_
  exact Moves.refl

theorem execSth_moves (a0 a1 a2 a3 a4 s) : Runs 225179981502747521 s (execSth a0 a1 a2 a3 a4 s) := by
  unfold execSth
  refine Runs.next ?_
  refine Moves.step (State.issueOn_moves ..) (by decide) ?_
  exact Moves.refl

theorem execSts_moves (a0 a1 a2 a3 a4 s) : Runs 225179981502747521 s (execSts a0 a1 a2 a3 a4 s) := by
  unfold execSts
  refine Runs.next ?_
  refine Moves.step (State.issueOn_moves ..) (by decide) ?_
  exact Moves.refl

theorem execSub_moves (a0 a1 a2 a3 s) : Runs 225179981502747521 s (execSub a0 a1 a2 a3 s) := by
  unfold execSub
  refine Runs.next ?_
  refine Moves.step (State.issueOn_moves ..) (by decide) ?_
  exact Moves.refl

theorem execSubs_moves (a0 a1 a2 a3 s) : Runs 225179981502747521 s (execSubs a0 a1 a2 a3 s) := by
  unfold execSubs
  refine Runs.next ?_
  refine Moves.step (State.issueOn_moves ..) (by decide) ?_
  exact Moves.refl

theorem execSvnAdvance_moves (s) : Runs 4865 s (execSvnAdvance s) := by
  unfold execSvnAdvance
  refine Runs.next ?_
  refine Moves.step (State.svnCmdWrite_moves ..) (by decide) ?_
  exact Moves.refl

theorem execTaskCancelStop_moves (a0 s) : Runs 1288029557728221057 s (execTaskCancelStop a0 s) := by
  unfold execTaskCancelStop
  split
  · refine Runs.next ?_
    exact Moves.refl
  · split
    · refine Runs.next ?_
      exact Moves.refl
    · refine Runs.ite ?_ ?_
      · extract_lets -merge -underBinder -useContext x0 x1
        have h2 : Moves 1288029557728221057 s x0 := by
          unfold x0
          refine Moves.step (State.revoke_moves ..) (by decide) ?_
          exact Moves.refl
        clear_value x0
        have h3 : Moves 1288029557728221057 s x1 := by
          unfold x1
          refine Moves.step (State.stopCore_moves ..) (by decide) ?_
          refine Moves.step (State.setEng_moves ..) (by decide) ?_
          with_reducible assumption
        clear_value x1
        refine Runs.next ?_
        refine Moves.step (State.releaseTurn_moves ..) (by decide) ?_
        refine Moves.step (State.modTask_moves ..) (by decide) ?_
        with_reducible assumption
      · refine Runs.next ?_
        exact Moves.refl

theorem State.overdue_moves (s a1) : Moves 1215972376007155585 s (State.overdue s a1) := by
  unfold State.overdue
  split
  · exact Moves.refl
  · refine Moves.ite ?_ ?_
    · refine Moves.step (State.limitEnd_moves ..) (by decide) ?_
      exact Moves.refl
    · exact Moves.refl

theorem State.finishRun_moves (s a1) : Moves 63050807100054273 s (State.finishRun s a1) := by
  unfold State.finishRun
  refine Moves.ite ?_ ?_
  · refine Moves.step (State.dropUndo_moves ..) (by decide) ?_
    exact Moves.refl
  · refine Moves.step (State.graphRun_moves ..) (by decide) ?_
    exact Moves.refl

theorem State.countEngine_moves (s a1 a2) : Moves 1 s (State.countEngine s a1 a2) := by
  unfold State.countEngine
  extract_lets -merge -underBinder -useContext x0
  clear_value x0
  split
  · refine Moves.step (State.bump_moves ..) (by decide) ?_
    refine Moves.step (State.bump64_moves ..) (by decide) ?_
    exact Moves.refl
  · refine Moves.step (State.bump_moves ..) (by decide) ?_
    refine Moves.step (State.bump64_moves ..) (by decide) ?_
    exact Moves.refl
  · extract_lets -merge -underBinder -useContext x1
    clear_value x1
    refine Moves.step (State.bump_moves ..) (by decide) ?_
    refine Moves.step (State.bump64_moves ..) (by decide) ?_
    exact Moves.refl
  · exact Moves.refl
  · exact Moves.refl
  · exact Moves.refl
  · exact Moves.refl
  · exact Moves.refl
  · exact Moves.refl
  · exact Moves.refl
  · exact Moves.refl
  · exact Moves.refl

theorem execTaskComplete_moves (a0 a1 s) : Runs 1215972376007155585 s (execTaskComplete a0 a1 s) := by
  unfold execTaskComplete
  extract_lets -merge -underBinder -useContext x0 x1
  clear_value x0
  have h2 : Moves 1215972376007155585 s x1 := by
    unfold x1
    split
    · refine Moves.ite ?_ ?_
      · exact Moves.refl
      · refine Moves.step (State.overdue_moves ..) (by decide) ?_
        exact Moves.refl
    · exact Moves.refl
  clear_value x1
  split
  · refine Runs.next ?_
    with_reducible assumption
  · split
    · refine Runs.next ?_
      refine Moves.step (State.setEng_moves ..) (by decide) ?_
      with_reducible assumption
    · refine Runs.ite ?_ ?_
      · refine Runs.next ?_
        with_reducible assumption
      · extract_lets -merge -underBinder -useContext x3 x4 x5
        have h6 : Moves 1215972376007155585 s x3 := by
          unfold x3
          refine Moves.step (State.setEng_moves ..) (by decide) ?_
          with_reducible assumption
        clear_value x3
        have h7 : Moves 1215972376007155585 s x4 := by
          unfold x4
          refine Moves.step (State.revoke_moves ..) (by decide) ?_
          with_reducible assumption
        clear_value x4
        have h8 : Moves 1215972376007155585 s x5 := by
          unfold x5
          refine Moves.step (State.finishRun_moves ..) (by decide) ?_
          refine Moves.step (State.countEngine_moves ..) (by decide) ?_
          with_reducible assumption
        clear_value x5
        refine Runs.ite ?_ ?_
        · refine Runs.next ?_
          refine Moves.step (State.releaseTurn_moves ..) (by decide) ?_
          refine Moves.step (State.modTask_moves ..) (by decide) ?_
          with_reducible assumption
        · split
          · refine Runs.ite ?_ ?_
            · refine Runs.next ?_
              refine Moves.step (State.showReeve_moves ..) (by decide) ?_
              refine Moves.step (State.modTask_moves ..) (by decide) ?_
              with_reducible assumption
            · refine Runs.next ?_
              refine Moves.step (State.releaseTurn_moves ..) (by decide) ?_
              refine Moves.step (State.modTask_moves ..) (by decide) ?_
              with_reducible assumption
          · refine Runs.next ?_
            refine Moves.step (State.releaseTurn_moves ..) (by decide) ?_
            refine Moves.step (State.modTask_moves ..) (by decide) ?_
            with_reducible assumption
          · refine Runs.next ?_
            refine Moves.step (State.releaseTurn_moves ..) (by decide) ?_
            refine Moves.step (State.modTask_moves ..) (by decide) ?_
            with_reducible assumption
          · refine Runs.next ?_
            refine Moves.step (State.releaseTurn_moves ..) (by decide) ?_
            refine Moves.step (State.modTask_moves ..) (by decide) ?_
            with_reducible assumption
          · refine Runs.next ?_
            refine Moves.step (State.releaseTurn_moves ..) (by decide) ?_
            refine Moves.step (State.modTask_moves ..) (by decide) ?_
            with_reducible assumption
          · refine Runs.next ?_
            refine Moves.step (State.releaseTurn_moves ..) (by decide) ?_
            refine Moves.step (State.modTask_moves ..) (by decide) ?_
            with_reducible assumption
          · refine Runs.next ?_
            refine Moves.step (State.releaseTurn_moves ..) (by decide) ?_
            refine Moves.step (State.modTask_moves ..) (by decide) ?_
            with_reducible assumption
          · refine Runs.next ?_
            refine Moves.step (State.releaseTurn_moves ..) (by decide) ?_
            refine Moves.step (State.modTask_moves ..) (by decide) ?_
            with_reducible assumption
          · refine Runs.next ?_
            refine Moves.step (State.releaseTurn_moves ..) (by decide) ?_
            refine Moves.step (State.modTask_moves ..) (by decide) ?_
            with_reducible assumption
          · refine Runs.next ?_
            refine Moves.step (State.releaseTurn_moves ..) (by decide) ?_
            refine Moves.step (State.modTask_moves ..) (by decide) ?_
            with_reducible assumption
          · refine Runs.next ?_
            refine Moves.step (State.releaseTurn_moves ..) (by decide) ?_
            refine Moves.step (State.modTask_moves ..) (by decide) ?_
            with_reducible assumption
          · refine Runs.next ?_
            refine Moves.step (State.releaseTurn_moves ..) (by decide) ?_
            refine Moves.step (State.modTask_moves ..) (by decide) ?_
            with_reducible assumption

theorem State.takeTask_moves (s a1 a2) : Moves 1152921504606846976 s (State.takeTask s a1 a2) := by
  unfold State.takeTask
  extract_lets -merge -underBinder -useContext x0 x1
  clear_value x0
  have h2 : Moves 1152921504606846976 s x1 := by
    unfold x1
    refine Moves.step (State.setEng_moves ..) (by decide) ?_
    exact Moves.refl
  clear_value x1
  refine Moves.step (State.modTask_moves ..) (by decide) ?_
  with_reducible assumption

theorem State.pair_moves2 (s) : Moves 1152921504606846976 s (State.pair s).2 := by
  unfold State.pair
  refine Moves.foldl2 (fun y0 y1 => ?_) ?_
  · extract_lets -merge -underBinder -useContext x2
    clear_value x2
    split
    · exact Moves.refl
    · try dsimp only
      refine Moves.step (State.takeTask_moves ..) (by decide) ?_
      exact Moves.refl
  · exact Moves.refl

theorem State.makeReady_moves (s) : Moves 1152921504606846976 s (State.makeReady s) := by
  unfold State.makeReady
  extract_lets -merge -underBinder -useContext x0
  clear_value x0
  refine Moves.forEach (fun y1 y2 => ?_) ?_
  · extract_lets -merge -underBinder -useContext x3 x4 x5
    clear_value x3
    clear_value x4
    have h6 : Moves 1152921504606846976 y2 x5 := by
      unfold x5
      refine Moves.step (Moves.set_reeve ..) (by decide) ?_
      exact Moves.refl
    clear_value x5
    refine Moves.step (State.modTask_moves ..) (by decide) ?_
    with_reducible assumption
  · exact Moves.refl

theorem State.activate_moves (s a1 a2 a3 a4 a5 a6 a7 a8 a9 a10) : Moves 216172782113783936 s (State.activate s a1 a2 a3 a4 a5 a6 a7 a8 a9 a10) := by
  unfold State.activate
  split
  · rename_i s0 q0
    have h0 := Moves.at2 (m := 216172782113783936) (s := s) q0 (by
      refine Moves.step (State.fresh_moves2 ..) (by decide) ?_
      exact Moves.refl)
    extract_lets -merge -underBinder -useContext x1 x2 x3 x4 x5 x6 x7 x8 x9 x10 x11 x12 x13 x14 x15 x16 x17 x18 x19 x20 x21 x22 x23 x24
    clear_value x1
    clear_value x2
    clear_value x3
    clear_value x4
    clear_value x5
    clear_value x6
    clear_value x7
    clear_value x8
    clear_value x9
    clear_value x10
    clear_value x11
    clear_value x12
    clear_value x13
    clear_value x14
    clear_value x15
    clear_value x16
    clear_value x17
    clear_value x18
    clear_value x19
    clear_value x20
    clear_value x21
    clear_value x22
    clear_value x23
    clear_value x24
    refine Moves.step (State.setMill_moves ..) (by decide) ?_
    with_reducible assumption

theorem State.kernelStart_moves (s a1 a2 a3) : Moves 225179981368524928 s (State.kernelStart s a1 a2 a3) := by
  unfold State.kernelStart
  split
  · exact Moves.refl
  · split
    · split
      · extract_lets -merge -underBinder -useContext x0
        clear_value x0
        refine Moves.ite ?_ ?_
        · refine Moves.forUpTo (fun y1 y2 => ?_) ?_
          · refine Moves.step (State.setPortBlock_moves ..) (by decide) ?_
            exact Moves.refl
          · exact Moves.refl
        · refine Moves.step (State.activate_moves ..) (by decide) ?_
          exact Moves.refl
    · exact Moves.refl
    · exact Moves.refl
    · exact Moves.refl
    · exact Moves.refl
    · exact Moves.refl
    · exact Moves.refl
    · exact Moves.refl
    · exact Moves.refl
    · exact Moves.refl
    · exact Moves.refl
    · exact Moves.refl

theorem State.runWork_moves (s a1) : Moves 1378101485975371904 s (State.runWork s a1) := by
  unfold State.runWork
  split
  · exact Moves.refl
  · split
    · refine Moves.step (State.kernelStart_moves ..) (by decide) ?_
      refine Moves.step (State.modTask_moves ..) (by decide) ?_
      exact Moves.refl
    · exact Moves.refl
    · exact Moves.refl
    · exact Moves.refl
    · exact Moves.refl
    · exact Moves.refl
    · exact Moves.refl
    · exact Moves.refl
    · exact Moves.refl
    · exact Moves.refl
    · exact Moves.refl
    · exact Moves.refl

theorem execTaskDispatch_moves (s) : Runs 1378101485975371905 s (execTaskDispatch s) := by
  unfold execTaskDispatch
  split
  · rename_i s0 q0
    have h0 := Moves.at2 (m := 1378101485975371905) (s := s) q0 (by
      refine Moves.step (State.pair_moves2 ..) (by decide) ?_
      refine Moves.step (State.makeReady_moves ..) (by decide) ?_
      exact Moves.refl)
    refine Runs.next ?_
    refine Moves.step (State.showReeve_moves ..) (by decide) ?_
    refine Moves.forEach (fun y1 y2 => ?_) ?_
    · refine Moves.step (State.runWork_moves ..) (by decide) ?_
      exact Moves.refl
    · with_reducible assumption

theorem execTaskSubmit_moves (a0 a1 a2 a3 a4 s) : Runs 1152921504606846977 s (execTaskSubmit a0 a1 a2 a3 a4 s) := by
  unfold execTaskSubmit
  split
  · refine Runs.next ?_
    exact Moves.refl
  · refine Runs.ite ?_ ?_
    · extract_lets -merge -underBinder -useContext x0
      clear_value x0
      refine Runs.next ?_
      refine Moves.step (State.submitTask_moves ..) (by decide) ?_
      exact Moves.refl
    · refine Runs.next ?_
      exact Moves.refl

theorem State.tdmFrame_moves (s a1 a2) : Moves 67108864 s (State.tdmFrame s a1 a2) := by
  unfold State.tdmFrame
  refine Moves.ite ?_ ?_
  · exact Moves.refl
  · extract_lets -merge -underBinder -useContext x0 x1 x2 x3 x4
    clear_value x0
    clear_value x1
    clear_value x2
    clear_value x3
    clear_value x4
    refine Moves.step (State.setTdm_moves ..) (by decide) ?_
    exact Moves.refl

theorem execTdmFrameSync_moves (a0 a1 s) : Runs 67108864 s (execTdmFrameSync a0 a1 s) := by
  unfold execTdmFrameSync
  refine Runs.ite ?_ ?_
  · refine Runs.next ?_
    refine Moves.step (State.tdmFrame_moves ..) (by decide) ?_
    exact Moves.refl
  · refine Runs.next ?_
    exact Moves.refl

theorem execTestOverdue_moves (a0 s) : Runs 1152921504606851857 s (execTestOverdue a0 s) := by
  unfold execTestOverdue
  extract_lets -merge -underBinder -useContext x0 x1
  clear_value x0
  have h2 : Moves 1152921504606851857 s x1 := by
    unfold x1
    refine Moves.step (State.runTo_moves ..) (by decide) ?_
    exact Moves.refl
  clear_value x1
  refine Runs.ite ?_ ?_
  · refine Runs.next ?_
    refine Moves.step (State.post_moves ..) (by decide) ?_
    refine Moves.step (State.showOverdue_moves ..) (by decide) ?_
    refine Moves.step (State.setEng_moves ..) (by decide) ?_
    with_reducible assumption
  · refine Runs.next ?_
    exact Moves.refl

theorem State.timeLost_moves (s a1) : Moves 289 s (State.timeLost s a1) := by
  unfold State.timeLost
  extract_lets -merge -underBinder -useContext x0
  clear_value x0
  refine Moves.ite ?_ ?_
  · refine Moves.step (State.servoLost_moves ..) (by decide) ?_
    exact Moves.refl
  · exact Moves.refl

theorem execTimeExchangeStart_moves (a0 s) : Runs 137438953905 s (execTimeExchangeStart a0 s) := by
  unfold execTimeExchangeStart
  refine Runs.ite ?_ ?_
  · extract_lets -merge -underBinder -useContext x0 x1 x2
    have h3 : Moves 137438953905 s x0 := by
      unfold x0
      refine Moves.step (State.runTo_moves ..) (by decide) ?_
      exact Moves.refl
    clear_value x0
    clear_value x1
    have h4 : Moves 137438953905 s x2 := by
      unfold x2
      refine Moves.step (State.setLink_moves ..) (by decide) ?_
      with_reducible assumption
    clear_value x2
    refine Runs.next ?_
    refine Moves.step (State.sendCtl_moves ..) (by decide) ?_
    refine Moves.step (State.timeLost_moves ..) (by decide) ?_
    with_reducible assumption
  · refine Runs.next ?_
    exact Moves.refl

theorem execTimeReqRx_moves (a0 s) : Runs 137438953600 s (execTimeReqRx a0 s) := by
  unfold execTimeReqRx
  refine Runs.ite ?_ ?_
  · refine Runs.next ?_
    refine Moves.step (State.sendCtl_moves ..) (by decide) ?_
    exact Moves.refl
  · refine Runs.next ?_
    exact Moves.refl

theorem execTimeRespRx_moves (a0 a1 a2 a3 s) : Runs 137573176241 s (execTimeRespRx a0 a1 a2 a3 s) := by
  unfold execTimeRespRx
  refine Runs.ite ?_ ?_
  · refine Runs.next ?_
    exact Moves.refl
  · extract_lets -merge -underBinder -useContext x0
    clear_value x0
    split
    · refine Runs.next ?_
      exact Moves.refl
    · extract_lets -merge -underBinder -useContext x1 x2 x3 x4 x5 x6 x7
      clear_value x1
      clear_value x2
      clear_value x3
      have h8 : Moves 137573176241 s x4 := by
        unfold x4
        refine Moves.step (State.put_moves ..) (by decide) ?_
        exact Moves.refl
      clear_value x4
      have h9 : Moves 137573176241 s x5 := by
        unfold x5
        refine Moves.step (State.setLink_moves ..) (by decide) ?_
        with_reducible assumption
      clear_value x5
      clear_value x6
      have h10 : Moves 137573176241 s x7 := by
        unfold x7
        refine Moves.step (State.put_moves ..) (by decide) ?_
        with_reducible assumption
      clear_value x7
      refine Runs.ite ?_ ?_
      · refine Runs.next ?_
        refine Moves.ite ?_ ?_
        · refine Moves.step (State.postLimited_moves ..) (by decide) ?_
          with_reducible assumption
        · with_reducible assumption
      · refine Runs.ite ?_ ?_
        · refine Runs.ite ?_ ?_
          · refine Runs.next ?_
            refine Moves.step (State.servoSample_moves ..) (by decide) ?_
            with_reducible assumption
          · refine Runs.next ?_
            refine Moves.step (State.timeLost_moves ..) (by decide) ?_
            with_reducible assumption
        · refine Runs.next ?_
          with_reducible assumption

theorem execTopoRx_moves (a0 a1 s) : Runs 412316865409 s (execTopoRx a0 a1 s) := by
  unfold execTopoRx
  extract_lets -merge -underBinder -useContext x0 x1 x2 x3 x4 x5 x6 x7
  clear_value x0
  have h8 : Moves 412316865409 s x1 := by
    unfold x1
    refine Moves.step (State.modLink_moves ..) (by decide) ?_
    exact Moves.refl
  clear_value x1
  have h9 : Moves 412316865409 s x2 := by
    unfold x2
    refine Moves.step (State.put_moves ..) (by decide) ?_
    refine Moves.step (State.put_moves ..) (by decide) ?_
    with_reducible assumption
  clear_value x2
  clear_value x3
  have h10 : Moves 412316865409 s x4 := by
    unfold x4
    split
    · extract_lets -merge -underBinder -useContext x11 x12 x13 x14
      clear_value x11
      clear_value x12
      clear_value x13
      have h15 : Moves 412316865409 s x14 := by
        unfold x14
        refine Moves.ite ?_ ?_
        · refine Moves.step (State.modFab_moves ..) (by decide) ?_
          with_reducible assumption
        · with_reducible assumption
      clear_value x14
      refine Moves.step (State.sendTopo_moves ..) (by decide) ?_
      with_reducible assumption
    · with_reducible assumption
  clear_value x4
  have h16 : Moves 412316865409 s x5 := by
    unfold x5
    split
    · refine Moves.ite ?_ ?_
      · with_reducible assumption
      · refine Moves.ite ?_ ?_
        · refine Moves.step (State.modFab_moves ..) (by decide) ?_
          with_reducible assumption
        · refine Moves.ite ?_ ?_
          · refine Moves.step (State.modFab_moves ..) (by decide) ?_
            with_reducible assumption
          · with_reducible assumption
    · with_reducible assumption
  clear_value x5
  have h17 : Moves 412316865409 s x6 := by
    unfold x6
    split
    · refine Moves.ite ?_ ?_
      · refine Moves.step (State.modFab_moves ..) (by decide) ?_
        with_reducible assumption
      · with_reducible assumption
    · with_reducible assumption
  clear_value x6
  have h18 : Moves 412316865409 s x7 := by
    unfold x7
    refine Moves.ite ?_ ?_
    · refine Moves.step (State.showLink_moves ..) (by decide) ?_
      refine Moves.step (State.linkLeavesUp_moves ..) (by decide) ?_
      with_reducible assumption
    · refine Moves.ite ?_ ?_
      · refine Moves.step (State.linkUpNow_moves ..) (by decide) ?_
        with_reducible assumption
      · with_reducible assumption
  clear_value x7
  refine Runs.ite ?_ ?_
  · refine Runs.next ?_
    exact Moves.refl
  · refine Runs.next ?_
    refine Moves.step (State.fabricRefresh_moves ..) (by decide) ?_
    with_reducible assumption

theorem execTopoSend_moves (a0 s) : Runs 137438953600 s (execTopoSend a0 s) := by
  unfold execTopoSend
  refine Runs.ite ?_ ?_
  · refine Runs.next ?_
    refine Moves.step (State.sendTopo_moves ..) (by decide) ?_
    exact Moves.refl
  · refine Runs.next ?_
    exact Moves.refl

theorem State.trgEdge_moves (s a1) : Moves 305 s (State.trgEdge s a1) := by
  unfold State.trgEdge
  extract_lets -merge -underBinder -useContext x0 x1 x2 x3 x4 x5 x6 x7 x8
  have h9 : Moves 305 s x0 := by
    unfold x0
    refine Moves.step (State.runTo_moves ..) (by decide) ?_
    exact Moves.refl
  clear_value x0
  have h10 : Moves 305 s x1 := by
    unfold x1
    refine Moves.step (State.bump_moves ..) (by decide) ?_
    with_reducible assumption
  clear_value x1
  clear_value x2
  clear_value x3
  clear_value x4
  have h11 : Moves 305 s x5 := by
    unfold x5
    refine Moves.step (State.trgShow_moves ..) (by decide) ?_
    refine Moves.step (State.setTrg_moves ..) (by decide) ?_
    with_reducible assumption
  clear_value x5
  have h12 : Moves 305 s x6 := by
    unfold x6
    refine Moves.step (State.putB_moves ..) (by decide) ?_
    with_reducible assumption
  clear_value x6
  have h13 : Moves 305 s x7 := by
    unfold x7
    refine Moves.ite ?_ ?_
    · refine Moves.ite ?_ ?_
      · with_reducible assumption
      · refine Moves.step (State.putB_moves ..) (by decide) ?_
        with_reducible assumption
    · with_reducible assumption
  clear_value x7
  have h14 : Moves 305 s x8 := by
    unfold x8
    refine Moves.step (State.event_moves ..) (by decide) ?_
    with_reducible assumption
  clear_value x8
  refine Moves.step (State.captureInternal_moves ..) (by decide) ?_
  with_reducible assumption

theorem execTriggerEdge_moves (a0 a1 s) : Runs 563499776365361 s (execTriggerEdge a0 a1 s) := by
  unfold execTriggerEdge
  refine Runs.ite ?_ ?_
  · refine Runs.next ?_
    exact Moves.refl
  · extract_lets -merge -underBinder -useContext x0 x1 x2 x3 x4 x5
    clear_value x0
    clear_value x1
    have h6 : Moves 563499776365361 s x2 := by
      unfold x2
      refine Moves.ite ?_ ?_
      · refine Moves.step (State.setTrg_moves ..) (by decide) ?_
        exact Moves.refl
      · exact Moves.refl
    clear_value x2
    have h7 : Moves 563499776365361 s x3 := by
      unfold x3
      refine Moves.step (State.trgEdge_moves ..) (by decide) ?_
      with_reducible assumption
    clear_value x3
    have h8 : Moves 563499776365361 s x4 := by
      unfold x4
      refine Moves.ite ?_ ?_
      · refine Moves.step (State.tdmFrame_moves ..) (by decide) ?_
        with_reducible assumption
      · with_reducible assumption
    clear_value x4
    clear_value x5
    refine Runs.next ?_
    refine Moves.ite ?_ ?_
    · refine Moves.step (State.wakeBegin_moves ..) (by decide) ?_
      with_reducible assumption
    · with_reducible assumption

theorem execTriggerEnable_moves (a0 a1 a2 s) : Runs 289 s (execTriggerEnable a0 a1 a2 s) := by
  unfold execTriggerEnable
  refine Runs.ite ?_ ?_
  · refine Runs.next ?_
    refine Moves.step (State.trgCtrlWrite_moves ..) (by decide) ?_
    exact Moves.refl
  · refine Runs.next ?_
    exact Moves.refl

theorem State.runToCycle_moves (s a1) : Moves 16 s (State.runToCycle s a1) := by
  unfold State.runToCycle
  refine Moves.ite ?_ ?_
  · refine Moves.step (Moves.set_clk ..) (by decide) ?_
    exact Moves.refl
  · exact Moves.refl

theorem execTriggerPulseEnd_moves (a0 s) : Runs 305 s (execTriggerPulseEnd a0 s) := by
  unfold execTriggerPulseEnd
  refine Runs.ite ?_ ?_
  · extract_lets -merge -underBinder -useContext x0 x1 x2 x3
    have h4 : Moves 305 s x0 := by
      unfold x0
      refine Moves.step (State.runToCycle_moves ..) (by decide) ?_
      exact Moves.refl
    clear_value x0
    clear_value x1
    have h5 : Moves 305 s x2 := by
      unfold x2
      refine Moves.step (State.trgShow_moves ..) (by decide) ?_
      refine Moves.step (State.setTrg_moves ..) (by decide) ?_
      with_reducible assumption
    clear_value x2
    have h6 : Moves 305 s x3 := by
      unfold x3
      refine Moves.ite ?_ ?_
      · refine Moves.step (State.putB_moves ..) (by decide) ?_
        with_reducible assumption
      · with_reducible assumption
    clear_value x3
    refine Runs.next ?_
    refine Moves.step (State.captureInternal_moves ..) (by decide) ?_
    with_reducible assumption
  · refine Runs.next ?_
    exact Moves.refl

theorem execTwinCmdResync_moves (s) : Runs 68727870337 s (execTwinCmdResync s) := by
  unfold execTwinCmdResync
  refine Runs.next ?_
  refine Moves.step (State.twinCmdWrite_moves ..) (by decide) ?_
  exact Moves.refl

theorem execTwinCmdRevert_moves (s) : Runs 68727870337 s (execTwinCmdRevert s) := by
  unfold execTwinCmdRevert
  refine Runs.next ?_
  refine Moves.step (State.twinCmdWrite_moves ..) (by decide) ?_
  exact Moves.refl

theorem execTwinRevertHoldExpire_moves (s) : Runs 68719476752 s (execTwinRevertHoldExpire s) := by
  unfold execTwinRevertHoldExpire
  split
  · refine Runs.next ?_
    exact Moves.refl
  · refine Runs.ite ?_ ?_
    · extract_lets -merge -underBinder -useContext x0
      have h1 : Moves 68719476752 s x0 := by
        unfold x0
        refine Moves.step (State.runTo_moves ..) (by decide) ?_
        exact Moves.refl
      clear_value x0
      refine Runs.next ?_
      refine Moves.ite ?_ ?_
      · refine Moves.step (State.revertStart_moves ..) (by decide) ?_
        with_reducible assumption
      · with_reducible assumption
    · refine Runs.next ?_
      exact Moves.refl

theorem execUnmappedWrite_moves (a0 s) : Runs 1 s (execUnmappedWrite a0 s) := by
  unfold execUnmappedWrite
  refine Runs.ite ?_ ?_
  · refine Runs.next ?_
    exact Moves.refl
  · refine Runs.next ?_
    refine Moves.step (State.unmappedWrite_moves ..) (by decide) ?_
    exact Moves.refl

theorem execVde0StrSel_moves (a0 s) : Runs 4194561 s (execVde0StrSel a0 s) := by
  unfold execVde0StrSel
  refine Runs.next ?_
  refine Moves.step (State.strSelWrite_moves ..) (by decide) ?_
  exact Moves.refl

theorem execVee0EcSel_moves (a0 a1 a2 s) : Runs 4194561 s (execVee0EcSel a0 a1 a2 s) := by
  unfold execVee0EcSel
  refine Runs.next ?_
  refine Moves.step (State.ecSelWrite_moves ..) (by decide) ?_
  exact Moves.refl

theorem execVideoWaitExpire_moves (a0 a1 a2 s) : Runs 1152921525814826769 s (execVideoWaitExpire a0 a1 a2 s) := by
  unfold execVideoWaitExpire
  split
  · refine Runs.next ?_
    exact Moves.refl
  · refine Runs.ite ?_ ?_
    · refine Runs.next ?_
      exact Moves.refl
    · extract_lets -merge -underBinder -useContext x0 x1
      clear_value x0
      have h2 : Moves 1152921525814826769 s x1 := by
        unfold x1
        refine Moves.step (State.runTo_moves ..) (by decide) ?_
        exact Moves.refl
      clear_value x1
      refine Runs.next ?_
      refine Moves.step (State.releasePic_moves ..) (by decide) ?_
      with_reducible assumption

theorem execWakeComplete_moves (s) : Runs 563499709256449 s (execWakeComplete s) := by
  unfold execWakeComplete
  extract_lets -merge -underBinder -useContext x0
  have h1 : Moves 563499709256449 s x0 := by
    unfold x0
    refine Moves.step (State.wakeNext_moves ..) (by decide) ?_
    exact Moves.refl
  clear_value x0
  refine Runs.ite ?_ ?_
  · refine Runs.next ?_
    with_reducible assumption
  · refine Runs.ite ?_ ?_
    · refine Runs.next ?_
      refine Moves.step (State.devEnter_moves ..) (by decide) ?_
      with_reducible assumption
    · refine Runs.next ?_
      refine Moves.step (State.modPwr_moves ..) (by decide) ?_
      with_reducible assumption

theorem execWarmReset_moves (a0 s) : Runs 4607147234427862863 s (execWarmReset a0 s) := by
  unfold execWarmReset
  refine Runs.next ?_
  refine Moves.step (State.globalResetWrite_moves ..) (by decide) ?_
  exact Moves.refl

theorem execWatchdogExpire_moves (a0 s) : Runs 3533075007184048913 s (execWatchdogExpire a0 s) := by
  unfold execWatchdogExpire
  split
  · refine Runs.next ?_
    exact Moves.refl
  · split
    · refine Runs.next ?_
      exact Moves.refl
    · refine Runs.next ?_
      refine Moves.step (State.engineFaulted_moves ..) (by decide) ?_
      refine Moves.step (State.runTo_moves ..) (by decide) ?_
      exact Moves.refl

theorem execWeirFence_moves (a0 a1 s) : Runs 1099511627777 s (execWeirFence a0 a1 s) := by
  unfold execWeirFence
  refine Runs.ite ?_ ?_
  · extract_lets -merge -underBinder -useContext x0
    have h1 : Moves 1099511627777 s x0 := by
      unfold x0
      split
      · refine Moves.step (Moves.set_weir ..) (by decide) ?_
        exact Moves.refl
      · exact Moves.refl
    clear_value x0
    refine Runs.next ?_
    refine Moves.step (State.weirFence_moves ..) (by decide) ?_
    with_reducible assumption
  · refine Runs.next ?_
    exact Moves.refl

theorem execWeirFenceSel_moves (a0 a1 s) : Runs 4194561 s (execWeirFenceSel a0 a1 s) := by
  unfold execWeirFenceSel
  refine Runs.next ?_
  refine Moves.step (State.fenceSelWrite_moves ..) (by decide) ?_
  exact Moves.refl

theorem execWeirWindow_moves (s) : Runs 1099511627793 s (execWeirWindow s) := by
  unfold execWeirWindow
  refine Runs.next ?_
  refine Moves.step (State.weirNext_moves ..) (by decide) ?_
  refine Moves.step (State.runTo_moves ..) (by decide) ?_
  exact Moves.refl

theorem execXor_moves (a0 a1 a2 a3 s) : Runs 225179981502747521 s (execXor a0 a1 a2 a3 s) := by
  unfold execXor
  refine Runs.next ?_
  refine Moves.step (State.issueOn_moves ..) (by decide) ?_
  exact Moves.refl

theorem execZqCalLatch_moves (a0 a1 s) : Runs 549755813904 s (execZqCalLatch a0 a1 s) := by
  unfold execZqCalLatch
  refine Runs.ite ?_ ?_
  · extract_lets -merge -underBinder -useContext x0 x1
    have h2 : Moves 549755813904 s x0 := by
      unfold x0
      refine Moves.step (State.runTo_moves ..) (by decide) ?_
      exact Moves.refl
    clear_value x0
    clear_value x1
    refine Runs.next ?_
    refine Moves.step (State.setChan_moves ..) (by decide) ?_
    with_reducible assumption
  · refine Runs.next ?_
    exact Moves.refl

theorem execZqCalStart_moves (a0 a1 s) : Runs 549755813904 s (execZqCalStart a0 a1 s) := by
  unfold execZqCalStart
  refine Runs.ite ?_ ?_
  · extract_lets -merge -underBinder -useContext x0 x1
    have h2 : Moves 549755813904 s x0 := by
      unfold x0
      refine Moves.step (State.runTo_moves ..) (by decide) ?_
      exact Moves.refl
    clear_value x0
    clear_value x1
    refine Runs.next ?_
    refine Moves.step (State.setChan_moves ..) (by decide) ?_
    with_reducible assumption
  · refine Runs.next ?_
    exact Moves.refl

end Sys2Proof.Machine
end

