-- ==== Sys2Proof/Laws/State.lean ====
section
/-! SUPPORT. Reading a state after an update: bits and fields of registers, and one rule for each field of the state after each plain update. -/

namespace Sys2Proof.Machine

/-! ### Bits of a word -/

theorem bits_lt (w : Word) (lo width : Nat) : bits w lo width < 2 ^ width := Nat.mod_lt _ (Nat.two_pow_pos width)

/-- A word put together from its low part, a field and its high part. -/
theorem bits_split (n lo width : Nat) : n = n % 2 ^ lo + (n / 2 ^ lo % 2 ^ width) * 2 ^ lo + n / 2 ^ (lo + width) * 2 ^ (lo + width) := by
  have h1 := Nat.div_add_mod n (2 ^ lo)
  have h2 := Nat.div_add_mod (n / 2 ^ lo) (2 ^ width)
  have h3 : n / 2 ^ lo / 2 ^ width = n / 2 ^ (lo + width) := by rw [Nat.div_div_eq_div_mul, ← Nat.pow_add]
  rw [h3] at h2
  have h4 : 2 ^ lo * (2 ^ width * (n / 2 ^ (lo + width))) = n / 2 ^ (lo + width) * 2 ^ (lo + width) := by
    rw [Nat.pow_add, ← Nat.mul_assoc, Nat.mul_comm]
  have h5 : 2 ^ lo * (n / 2 ^ lo) = 2 ^ lo * (2 ^ width * (n / 2 ^ (lo + width))) + 2 ^ lo * (n / 2 ^ lo % 2 ^ width) := by
    rw [← Nat.mul_add, h2]
  have h6 : 2 ^ lo * (n / 2 ^ lo % 2 ^ width) = (n / 2 ^ lo % 2 ^ width) * 2 ^ lo := Nat.mul_comm _ _
  omega

/-- The number of a word after a field is replaced. -/
theorem putBits_toNat (w : Word) (lo width v : Nat) (h : lo + width ≤ 32) :
    (putBits w lo width v).toNat = w.toNat % 2 ^ lo + (v % 2 ^ width) * 2 ^ lo + w.toNat / 2 ^ (lo + width) * 2 ^ (lo + width) := by
  have hs := bits_split w.toNat lo width
  have hlt := w.isLt
  have hv : v % 2 ^ width < 2 ^ width := Nat.mod_lt _ (Nat.two_pow_pos width)
  have hl : w.toNat % 2 ^ lo < 2 ^ lo := Nat.mod_lt _ (Nat.two_pow_pos lo)
  have hp : (2 : Nat) ^ 32 = 2 ^ (lo + width) * 2 ^ (32 - (lo + width)) := by rw [← Nat.pow_add]; congr 1; omega
  have hq : w.toNat / 2 ^ (lo + width) < 2 ^ (32 - (lo + width)) := by
    rw [Nat.div_lt_iff_lt_mul (Nat.two_pow_pos _), Nat.mul_comm, ← hp]; exact hlt
  have hb : (v % 2 ^ width) * 2 ^ lo + w.toNat % 2 ^ lo < 2 ^ (lo + width) := by
    rw [Nat.pow_add]
    calc (v % 2 ^ width) * 2 ^ lo + w.toNat % 2 ^ lo < (v % 2 ^ width) * 2 ^ lo + 2 ^ lo := by omega
      _ = (v % 2 ^ width + 1) * 2 ^ lo := by rw [Nat.add_mul, Nat.one_mul]
      _ ≤ 2 ^ width * 2 ^ lo := Nat.mul_le_mul_right _ hv
      _ = 2 ^ lo * 2 ^ width := Nat.mul_comm _ _
  have hc : w.toNat / 2 ^ (lo + width) * 2 ^ (lo + width) + 2 ^ (lo + width) ≤ 2 ^ 32 := by
    have h7 : (w.toNat / 2 ^ (lo + width) + 1) * 2 ^ (lo + width) ≤ 2 ^ (32 - (lo + width)) * 2 ^ (lo + width) := Nat.mul_le_mul_right _ hq
    rw [Nat.add_mul, Nat.one_mul] at h7
    rw [hp, Nat.mul_comm (2 ^ (lo + width)) (2 ^ (32 - (lo + width)))]
    exact h7
  simp only [putBits, bits, BitVec.toNat_ofNat]
  have h8 : w.toNat - w.toNat / 2 ^ lo % 2 ^ width * 2 ^ lo + v % 2 ^ width * 2 ^ lo =
      w.toNat % 2 ^ lo + (v % 2 ^ width) * 2 ^ lo + w.toNat / 2 ^ (lo + width) * 2 ^ (lo + width) := by omega
  rw [h8]
  apply Nat.mod_eq_of_lt
  omega

/-- A field reads back what was put. -/
theorem bits_putBits (w : Word) (lo width v : Nat) (h : lo + width ≤ 32) : bits (putBits w lo width v) lo width = v % 2 ^ width := by
  simp only [bits, putBits_toNat w lo width v h]
  have hl : w.toNat % 2 ^ lo < 2 ^ lo := Nat.mod_lt _ (Nat.two_pow_pos lo)
  have hv : v % 2 ^ width < 2 ^ width := Nat.mod_lt _ (Nat.two_pow_pos width)
  have e : w.toNat % 2 ^ lo + v % 2 ^ width * 2 ^ lo + w.toNat / 2 ^ (lo + width) * 2 ^ (lo + width) =
      w.toNat % 2 ^ lo + 2 ^ lo * (v % 2 ^ width + 2 ^ width * (w.toNat / 2 ^ (lo + width))) := by
    rw [Nat.mul_add, ← Nat.mul_assoc, ← Nat.pow_add, Nat.mul_comm (2 ^ lo) (v % 2 ^ width), Nat.mul_comm (2 ^ (lo + width))]; omega
  rw [e, Nat.add_mul_div_left _ _ (Nat.two_pow_pos lo), Nat.div_eq_of_lt hl, Nat.zero_add, Nat.add_mul_mod_self_left, Nat.mod_eq_of_lt hv]

/-- A field below the one put is unchanged. -/
theorem bits_putBits_below (w : Word) (lo width v a n : Nat) (h : lo + width ≤ 32) (hd : a + n ≤ lo) :
    bits (putBits w lo width v) a n = bits w a n := by
  have key : ∀ x y : Nat, x % 2 ^ lo = y % 2 ^ lo → x / 2 ^ a % 2 ^ n = y / 2 ^ a % 2 ^ n := by
    intro x y hxy
    have f : ∀ z : Nat, z / 2 ^ a % 2 ^ n = z % 2 ^ lo / 2 ^ a % 2 ^ n := by
      intro z
      have e : (2 : Nat) ^ lo = 2 ^ a * 2 ^ (lo - a) := by rw [← Nat.pow_add]; congr 1; omega
      rw [e, Nat.mod_mul_right_div_self]
      have e2 : (2 : Nat) ^ (lo - a) = 2 ^ n * 2 ^ (lo - a - n) := by rw [← Nat.pow_add]; congr 1; omega
      rw [e2, Nat.mod_mul_right_mod]
    rw [f x, f y, hxy]
  simp only [bits, putBits_toNat w lo width v h]
  apply key
  have e : (2 : Nat) ^ (lo + width) = 2 ^ lo * 2 ^ width := Nat.pow_add ..
  have e2 : w.toNat % 2 ^ lo + v % 2 ^ width * 2 ^ lo + w.toNat / 2 ^ (lo + width) * 2 ^ (lo + width) =
      w.toNat % 2 ^ lo + 2 ^ lo * (v % 2 ^ width + 2 ^ width * (w.toNat / 2 ^ (lo + width))) := by
    rw [Nat.mul_add, ← Nat.mul_assoc, ← e, Nat.mul_comm (2 ^ lo) (v % 2 ^ width), Nat.mul_comm (2 ^ (lo + width))]; omega
  rw [e2, Nat.add_mul_mod_self_left, Nat.mod_mod]

/-- A field above the one put is unchanged. -/
theorem bits_putBits_above (w : Word) (lo width v a n : Nat) (h : lo + width ≤ 32) (hd : lo + width ≤ a) :
    bits (putBits w lo width v) a n = bits w a n := by
  have key : ∀ x y : Nat, x / 2 ^ (lo + width) = y / 2 ^ (lo + width) → x / 2 ^ a % 2 ^ n = y / 2 ^ a % 2 ^ n := by
    intro x y hxy
    have e : (2 : Nat) ^ a = 2 ^ (lo + width) * 2 ^ (a - (lo + width)) := by rw [← Nat.pow_add]; congr 1; omega
    rw [e, ← Nat.div_div_eq_div_mul, ← Nat.div_div_eq_div_mul, hxy]
  simp only [bits, putBits_toNat w lo width v h]
  apply key
  have hl : w.toNat % 2 ^ lo < 2 ^ lo := Nat.mod_lt _ (Nat.two_pow_pos lo)
  have hv : v % 2 ^ width < 2 ^ width := Nat.mod_lt _ (Nat.two_pow_pos width)
  have hb : w.toNat % 2 ^ lo + v % 2 ^ width * 2 ^ lo < 2 ^ (lo + width) := by
    rw [Nat.pow_add]
    calc w.toNat % 2 ^ lo + (v % 2 ^ width) * 2 ^ lo < 2 ^ lo + (v % 2 ^ width) * 2 ^ lo := by omega
      _ = (v % 2 ^ width + 1) * 2 ^ lo := by rw [Nat.add_mul, Nat.one_mul, Nat.add_comm]
      _ ≤ 2 ^ width * 2 ^ lo := Nat.mul_le_mul_right _ hv
      _ = 2 ^ lo * 2 ^ width := Nat.mul_comm _ _
  rw [Nat.add_mul_div_right _ _ (Nat.two_pow_pos _), Nat.div_eq_of_lt hb, Nat.zero_add]

/-! ### Registers -/

/-- A register after a write. -/
@[simp] theorem State.rd_wr (s : State) (a b : Nat) (w : Word) : (s.wr a w).rd b = if b = a then w else s.rd b := Sparse.get_set _ _ _ _ _

/-- A register after a field is set. -/
@[simp] theorem State.rd_put (s : State) (f : FieldRef) (v b : Nat) :
    (s.put f v).rd b = if b = f.addr then putBits (s.rd f.addr) f.lo f.width v else s.rd b := State.rd_wr ..

/-- A field reads back what it was set to. -/
theorem State.get_put (s : State) (f : FieldRef) (v : Nat) (h : f.lo + f.width ≤ 32) : (s.put f v).get f = v % 2 ^ f.width := by
  simp only [State.get, State.rd_put, if_true, bits_putBits _ _ _ _ h]

/-- A field of another register keeps its value. -/
theorem State.get_put_other (s : State) (f g : FieldRef) (v : Nat) (h : g.addr ≠ f.addr) : (s.put f v).get g = s.get g := by
  simp only [State.get, State.rd_put, if_neg h]

/-- A field below or above, in the same register, keeps its value. -/
theorem State.get_put_apart (s : State) (f g : FieldRef) (v : Nat) (h : f.lo + f.width ≤ 32) (hd : g.lo + g.width ≤ f.lo ∨ f.lo + f.width ≤ g.lo) :
    (s.put f v).get g = s.get g := by
  by_cases e : g.addr = f.addr
  · rcases hd with hd | hd
    · simp only [State.get, State.rd_put, e, if_true, bits_putBits_below _ _ _ _ _ _ h hd]
    · simp only [State.get, State.rd_put, e, if_true, bits_putBits_above _ _ _ _ _ _ h hd]
  · exact State.get_put_other s f g v e

/-- Registers after a page event: only PG_EVENT of the page. -/
theorem State.event_regs (s : State) (page i : Nat) : (s.event page i).regs = (s.put ⟨Reg.PG_EVENT page, i, 1⟩ 1).regs := by
  have h : ∀ (t : State) (v : Nat), (t.sendMsix v).regs = t.regs := by intro t v; unfold State.sendMsix; split <;> rfl
  simp only [State.event, State.withIrq]
  split
  · exact h _ _
  · rfl

@[simp] theorem State.rd_event (s : State) (page i b : Nat) :
    (s.event page i).rd b = if b = Reg.PG_EVENT page then putBits (s.rd (Reg.PG_EVENT page)) i 1 1 else s.rd b := by
  rw [State.rd, State.event_regs]
  exact State.rd_put ..

/-! ### Other parts after `wr` -/

@[simp] theorem State.wr_capture (s : State) (a w) : (s.wr a w).capture = s.capture := rfl
@[simp] theorem State.wr_heldLo (s : State) (a w) : (s.wr a w).heldLo = s.heldLo := rfl
@[simp] theorem State.wr_readData (s : State) (a w) : (s.wr a w).readData = s.readData := rfl
@[simp] theorem State.wr_clk (s : State) (a w) : (s.wr a w).clk = s.clk := rfl
@[simp] theorem State.wr_bel (s : State) (a w) : (s.wr a w).bel = s.bel := rfl
@[simp] theorem State.wr_gate (s : State) (a w) : (s.wr a w).gate = s.gate := rfl
@[simp] theorem State.wr_free (s : State) (a w) : (s.wr a w).free = s.free := rfl
@[simp] theorem State.wr_msix (s : State) (a w) : (s.wr a w).msix = s.msix := rfl
@[simp] theorem State.wr_evq (s : State) (a w) : (s.wr a w).evq = s.evq := rfl
@[simp] theorem State.wr_queues (s : State) (a w) : (s.wr a w).queues = s.queues := rfl
@[simp] theorem State.wr_bankq (s : State) (a w) : (s.wr a w).bankq = s.bankq := rfl
@[simp] theorem State.wr_freeCells (s : State) (a w) : (s.wr a w).freeCells = s.freeCells := rfl
@[simp] theorem State.wr_deviceReserved (s : State) (a w) : (s.wr a w).deviceReserved = s.deviceReserved := rfl
@[simp] theorem State.wr_cross (s : State) (a w) : (s.wr a w).cross = s.cross := rfl
@[simp] theorem State.wr_dram (s : State) (a w) : (s.wr a w).dram = s.dram := rfl
@[simp] theorem State.wr_hostMem (s : State) (a w) : (s.wr a w).hostMem = s.hostMem := rfl
@[simp] theorem State.wr_keys (s : State) (a w) : (s.wr a w).keys = s.keys := rfl
@[simp] theorem State.wr_faultLog (s : State) (a w) : (s.wr a w).faultLog = s.faultLog := rfl
@[simp] theorem State.wr_pkts (s : State) (a w) : (s.wr a w).pkts = s.pkts := rfl
@[simp] theorem State.wr_nextPkt (s : State) (a w) : (s.wr a w).nextPkt = s.nextPkt := rfl
@[simp] theorem State.wr_fences (s : State) (a w) : (s.wr a w).fences = s.fences := rfl
@[simp] theorem State.wr_fetches (s : State) (a w) : (s.wr a w).fetches = s.fetches := rfl
@[simp] theorem State.wr_legs (s : State) (a w) : (s.wr a w).legs = s.legs := rfl
@[simp] theorem State.wr_confs (s : State) (a w) : (s.wr a w).confs = s.confs := rfl
@[simp] theorem State.wr_taps (s : State) (a w) : (s.wr a w).taps = s.taps := rfl
@[simp] theorem State.wr_tdm (s : State) (a w) : (s.wr a w).tdm = s.tdm := rfl
@[simp] theorem State.wr_windows (s : State) (a w) : (s.wr a w).windows = s.windows := rfl
@[simp] theorem State.wr_planes (s : State) (a w) : (s.wr a w).planes = s.planes := rfl
@[simp] theorem State.wr_vstrs (s : State) (a w) : (s.wr a w).vstrs = s.vstrs := rfl
@[simp] theorem State.wr_ostrs (s : State) (a w) : (s.wr a w).ostrs = s.ostrs := rfl
@[simp] theorem State.wr_ports (s : State) (a w) : (s.wr a w).ports = s.ports := rfl
@[simp] theorem State.wr_rxWin (s : State) (a w) : (s.wr a w).rxWin = s.rxWin := rfl
@[simp] theorem State.wr_ecomps (s : State) (a w) : (s.wr a w).ecomps = s.ecomps := rfl
@[simp] theorem State.wr_decs (s : State) (a w) : (s.wr a w).decs = s.decs := rfl
@[simp] theorem State.wr_layouts (s : State) (a w) : (s.wr a w).layouts = s.layouts := rfl
@[simp] theorem State.wr_twin (s : State) (a w) : (s.wr a w).twin = s.twin := rfl
@[simp] theorem State.wr_links (s : State) (a w) : (s.wr a w).links = s.links := rfl
@[simp] theorem State.wr_fab (s : State) (a w) : (s.wr a w).fab = s.fab := rfl
@[simp] theorem State.wr_ddr (s : State) (a w) : (s.wr a w).ddr = s.ddr := rfl
@[simp] theorem State.wr_weir (s : State) (a w) : (s.wr a w).weir = s.weir := rfl
@[simp] theorem State.wr_poisoned (s : State) (a w) : (s.wr a w).poisoned = s.poisoned := rfl
@[simp] theorem State.wr_dramRead (s : State) (a w) : (s.wr a w).dramRead = s.dramRead := rfl
@[simp] theorem State.wr_fatalAt (s : State) (a w) : (s.wr a w).fatalAt = s.fatalAt := rfl
@[simp] theorem State.wr_sec (s : State) (a w) : (s.wr a w).sec = s.sec := rfl
@[simp] theorem State.wr_flash (s : State) (a w) : (s.wr a w).flash = s.flash := rfl
@[simp] theorem State.wr_boot (s : State) (a w) : (s.wr a w).boot = s.boot := rfl
@[simp] theorem State.wr_dma (s : State) (a w) : (s.wr a w).dma = s.dma := rfl
@[simp] theorem State.wr_bar2 (s : State) (a w) : (s.wr a w).bar2 = s.bar2 := rfl
@[simp] theorem State.wr_pwr (s : State) (a w) : (s.wr a w).pwr = s.pwr := rfl
@[simp] theorem State.wr_svc (s : State) (a w) : (s.wr a w).svc = s.svc := rfl
@[simp] theorem State.wr_crier (s : State) (a w) : (s.wr a w).crier = s.crier := rfl
@[simp] theorem State.wr_pins (s : State) (a w) : (s.wr a w).pins = s.pins := rfl
@[simp] theorem State.wr_uart (s : State) (a w) : (s.wr a w).uart = s.uart := rfl
@[simp] theorem State.wr_audio (s : State) (a w) : (s.wr a w).audio = s.audio := rfl
@[simp] theorem State.wr_legAudio (s : State) (a w) : (s.wr a w).legAudio = s.legAudio := rfl
@[simp] theorem State.wr_confAudio (s : State) (a w) : (s.wr a w).confAudio = s.confAudio := rfl
@[simp] theorem State.wr_mill (s : State) (a w) : (s.wr a w).mill = s.mill := rfl
@[simp] theorem State.wr_csram (s : State) (a w) : (s.wr a w).csram = s.csram := rfl
@[simp] theorem State.wr_kernels (s : State) (a w) : (s.wr a w).kernels = s.kernels := rfl
@[simp] theorem State.wr_kernelCmd (s : State) (a w) : (s.wr a w).kernelCmd = s.kernelCmd := rfl
@[simp] theorem State.wr_reeve (s : State) (a w) : (s.wr a w).reeve = s.reeve := rfl
@[simp] theorem State.wr_pending (s : State) (a w) : (s.wr a w).pending = s.pending := rfl

/-! ### Other parts after `put` -/

@[simp] theorem State.put_capture (s : State) (f v) : (s.put f v).capture = s.capture := rfl
@[simp] theorem State.put_heldLo (s : State) (f v) : (s.put f v).heldLo = s.heldLo := rfl
@[simp] theorem State.put_readData (s : State) (f v) : (s.put f v).readData = s.readData := rfl
@[simp] theorem State.put_clk (s : State) (f v) : (s.put f v).clk = s.clk := rfl
@[simp] theorem State.put_bel (s : State) (f v) : (s.put f v).bel = s.bel := rfl
@[simp] theorem State.put_gate (s : State) (f v) : (s.put f v).gate = s.gate := rfl
@[simp] theorem State.put_free (s : State) (f v) : (s.put f v).free = s.free := rfl
@[simp] theorem State.put_msix (s : State) (f v) : (s.put f v).msix = s.msix := rfl
@[simp] theorem State.put_evq (s : State) (f v) : (s.put f v).evq = s.evq := rfl
@[simp] theorem State.put_queues (s : State) (f v) : (s.put f v).queues = s.queues := rfl
@[simp] theorem State.put_bankq (s : State) (f v) : (s.put f v).bankq = s.bankq := rfl
@[simp] theorem State.put_freeCells (s : State) (f v) : (s.put f v).freeCells = s.freeCells := rfl
@[simp] theorem State.put_deviceReserved (s : State) (f v) : (s.put f v).deviceReserved = s.deviceReserved := rfl
@[simp] theorem State.put_cross (s : State) (f v) : (s.put f v).cross = s.cross := rfl
@[simp] theorem State.put_dram (s : State) (f v) : (s.put f v).dram = s.dram := rfl
@[simp] theorem State.put_hostMem (s : State) (f v) : (s.put f v).hostMem = s.hostMem := rfl
@[simp] theorem State.put_keys (s : State) (f v) : (s.put f v).keys = s.keys := rfl
@[simp] theorem State.put_faultLog (s : State) (f v) : (s.put f v).faultLog = s.faultLog := rfl
@[simp] theorem State.put_pkts (s : State) (f v) : (s.put f v).pkts = s.pkts := rfl
@[simp] theorem State.put_nextPkt (s : State) (f v) : (s.put f v).nextPkt = s.nextPkt := rfl
@[simp] theorem State.put_fences (s : State) (f v) : (s.put f v).fences = s.fences := rfl
@[simp] theorem State.put_fetches (s : State) (f v) : (s.put f v).fetches = s.fetches := rfl
@[simp] theorem State.put_legs (s : State) (f v) : (s.put f v).legs = s.legs := rfl
@[simp] theorem State.put_confs (s : State) (f v) : (s.put f v).confs = s.confs := rfl
@[simp] theorem State.put_taps (s : State) (f v) : (s.put f v).taps = s.taps := rfl
@[simp] theorem State.put_tdm (s : State) (f v) : (s.put f v).tdm = s.tdm := rfl
@[simp] theorem State.put_windows (s : State) (f v) : (s.put f v).windows = s.windows := rfl
@[simp] theorem State.put_planes (s : State) (f v) : (s.put f v).planes = s.planes := rfl
@[simp] theorem State.put_vstrs (s : State) (f v) : (s.put f v).vstrs = s.vstrs := rfl
@[simp] theorem State.put_ostrs (s : State) (f v) : (s.put f v).ostrs = s.ostrs := rfl
@[simp] theorem State.put_ports (s : State) (f v) : (s.put f v).ports = s.ports := rfl
@[simp] theorem State.put_rxWin (s : State) (f v) : (s.put f v).rxWin = s.rxWin := rfl
@[simp] theorem State.put_ecomps (s : State) (f v) : (s.put f v).ecomps = s.ecomps := rfl
@[simp] theorem State.put_decs (s : State) (f v) : (s.put f v).decs = s.decs := rfl
@[simp] theorem State.put_layouts (s : State) (f v) : (s.put f v).layouts = s.layouts := rfl
@[simp] theorem State.put_twin (s : State) (f v) : (s.put f v).twin = s.twin := rfl
@[simp] theorem State.put_links (s : State) (f v) : (s.put f v).links = s.links := rfl
@[simp] theorem State.put_fab (s : State) (f v) : (s.put f v).fab = s.fab := rfl
@[simp] theorem State.put_ddr (s : State) (f v) : (s.put f v).ddr = s.ddr := rfl
@[simp] theorem State.put_weir (s : State) (f v) : (s.put f v).weir = s.weir := rfl
@[simp] theorem State.put_poisoned (s : State) (f v) : (s.put f v).poisoned = s.poisoned := rfl
@[simp] theorem State.put_dramRead (s : State) (f v) : (s.put f v).dramRead = s.dramRead := rfl
@[simp] theorem State.put_fatalAt (s : State) (f v) : (s.put f v).fatalAt = s.fatalAt := rfl
@[simp] theorem State.put_sec (s : State) (f v) : (s.put f v).sec = s.sec := rfl
@[simp] theorem State.put_flash (s : State) (f v) : (s.put f v).flash = s.flash := rfl
@[simp] theorem State.put_boot (s : State) (f v) : (s.put f v).boot = s.boot := rfl
@[simp] theorem State.put_dma (s : State) (f v) : (s.put f v).dma = s.dma := rfl
@[simp] theorem State.put_bar2 (s : State) (f v) : (s.put f v).bar2 = s.bar2 := rfl
@[simp] theorem State.put_pwr (s : State) (f v) : (s.put f v).pwr = s.pwr := rfl
@[simp] theorem State.put_svc (s : State) (f v) : (s.put f v).svc = s.svc := rfl
@[simp] theorem State.put_crier (s : State) (f v) : (s.put f v).crier = s.crier := rfl
@[simp] theorem State.put_pins (s : State) (f v) : (s.put f v).pins = s.pins := rfl
@[simp] theorem State.put_uart (s : State) (f v) : (s.put f v).uart = s.uart := rfl
@[simp] theorem State.put_audio (s : State) (f v) : (s.put f v).audio = s.audio := rfl
@[simp] theorem State.put_legAudio (s : State) (f v) : (s.put f v).legAudio = s.legAudio := rfl
@[simp] theorem State.put_confAudio (s : State) (f v) : (s.put f v).confAudio = s.confAudio := rfl
@[simp] theorem State.put_mill (s : State) (f v) : (s.put f v).mill = s.mill := rfl
@[simp] theorem State.put_csram (s : State) (f v) : (s.put f v).csram = s.csram := rfl
@[simp] theorem State.put_kernels (s : State) (f v) : (s.put f v).kernels = s.kernels := rfl
@[simp] theorem State.put_kernelCmd (s : State) (f v) : (s.put f v).kernelCmd = s.kernelCmd := rfl
@[simp] theorem State.put_reeve (s : State) (f v) : (s.put f v).reeve = s.reeve := rfl
@[simp] theorem State.put_pending (s : State) (f v) : (s.put f v).pending = s.pending := rfl

/-! ### Tables after their updates -/

@[simp] theorem State.setLeg_leg (s : State) (k j : Nat) (x) : (s.setLeg k x).leg j = if j = k then x else s.leg j := Sparse.get_set _ _ _ _ _
@[simp] theorem State.setLeg_regs (s : State) (k : Nat) (x) : (s.setLeg k x).regs = s.regs := rfl
@[simp] theorem State.setLeg_capture (s : State) (k : Nat) (x) : (s.setLeg k x).capture = s.capture := rfl
@[simp] theorem State.setLeg_heldLo (s : State) (k : Nat) (x) : (s.setLeg k x).heldLo = s.heldLo := rfl
@[simp] theorem State.setLeg_readData (s : State) (k : Nat) (x) : (s.setLeg k x).readData = s.readData := rfl
@[simp] theorem State.setLeg_clk (s : State) (k : Nat) (x) : (s.setLeg k x).clk = s.clk := rfl
@[simp] theorem State.setLeg_bel (s : State) (k : Nat) (x) : (s.setLeg k x).bel = s.bel := rfl
@[simp] theorem State.setLeg_gate (s : State) (k : Nat) (x) : (s.setLeg k x).gate = s.gate := rfl
@[simp] theorem State.setLeg_free (s : State) (k : Nat) (x) : (s.setLeg k x).free = s.free := rfl
@[simp] theorem State.setLeg_msix (s : State) (k : Nat) (x) : (s.setLeg k x).msix = s.msix := rfl
@[simp] theorem State.setLeg_evq (s : State) (k : Nat) (x) : (s.setLeg k x).evq = s.evq := rfl
@[simp] theorem State.setLeg_queues (s : State) (k : Nat) (x) : (s.setLeg k x).queues = s.queues := rfl
@[simp] theorem State.setLeg_bankq (s : State) (k : Nat) (x) : (s.setLeg k x).bankq = s.bankq := rfl
@[simp] theorem State.setLeg_freeCells (s : State) (k : Nat) (x) : (s.setLeg k x).freeCells = s.freeCells := rfl
@[simp] theorem State.setLeg_deviceReserved (s : State) (k : Nat) (x) : (s.setLeg k x).deviceReserved = s.deviceReserved := rfl
@[simp] theorem State.setLeg_cross (s : State) (k : Nat) (x) : (s.setLeg k x).cross = s.cross := rfl
@[simp] theorem State.setLeg_dram (s : State) (k : Nat) (x) : (s.setLeg k x).dram = s.dram := rfl
@[simp] theorem State.setLeg_hostMem (s : State) (k : Nat) (x) : (s.setLeg k x).hostMem = s.hostMem := rfl
@[simp] theorem State.setLeg_keys (s : State) (k : Nat) (x) : (s.setLeg k x).keys = s.keys := rfl
@[simp] theorem State.setLeg_faultLog (s : State) (k : Nat) (x) : (s.setLeg k x).faultLog = s.faultLog := rfl
@[simp] theorem State.setLeg_pkts (s : State) (k : Nat) (x) : (s.setLeg k x).pkts = s.pkts := rfl
@[simp] theorem State.setLeg_nextPkt (s : State) (k : Nat) (x) : (s.setLeg k x).nextPkt = s.nextPkt := rfl
@[simp] theorem State.setLeg_fences (s : State) (k : Nat) (x) : (s.setLeg k x).fences = s.fences := rfl
@[simp] theorem State.setLeg_fetches (s : State) (k : Nat) (x) : (s.setLeg k x).fetches = s.fetches := rfl
@[simp] theorem State.setLeg_confs (s : State) (k : Nat) (x) : (s.setLeg k x).confs = s.confs := rfl
@[simp] theorem State.setLeg_taps (s : State) (k : Nat) (x) : (s.setLeg k x).taps = s.taps := rfl
@[simp] theorem State.setLeg_tdm (s : State) (k : Nat) (x) : (s.setLeg k x).tdm = s.tdm := rfl
@[simp] theorem State.setLeg_windows (s : State) (k : Nat) (x) : (s.setLeg k x).windows = s.windows := rfl
@[simp] theorem State.setLeg_planes (s : State) (k : Nat) (x) : (s.setLeg k x).planes = s.planes := rfl
@[simp] theorem State.setLeg_vstrs (s : State) (k : Nat) (x) : (s.setLeg k x).vstrs = s.vstrs := rfl
@[simp] theorem State.setLeg_ostrs (s : State) (k : Nat) (x) : (s.setLeg k x).ostrs = s.ostrs := rfl
@[simp] theorem State.setLeg_ports (s : State) (k : Nat) (x) : (s.setLeg k x).ports = s.ports := rfl
@[simp] theorem State.setLeg_rxWin (s : State) (k : Nat) (x) : (s.setLeg k x).rxWin = s.rxWin := rfl
@[simp] theorem State.setLeg_ecomps (s : State) (k : Nat) (x) : (s.setLeg k x).ecomps = s.ecomps := rfl
@[simp] theorem State.setLeg_decs (s : State) (k : Nat) (x) : (s.setLeg k x).decs = s.decs := rfl
@[simp] theorem State.setLeg_layouts (s : State) (k : Nat) (x) : (s.setLeg k x).layouts = s.layouts := rfl
@[simp] theorem State.setLeg_twin (s : State) (k : Nat) (x) : (s.setLeg k x).twin = s.twin := rfl
@[simp] theorem State.setLeg_links (s : State) (k : Nat) (x) : (s.setLeg k x).links = s.links := rfl
@[simp] theorem State.setLeg_fab (s : State) (k : Nat) (x) : (s.setLeg k x).fab = s.fab := rfl
@[simp] theorem State.setLeg_ddr (s : State) (k : Nat) (x) : (s.setLeg k x).ddr = s.ddr := rfl
@[simp] theorem State.setLeg_weir (s : State) (k : Nat) (x) : (s.setLeg k x).weir = s.weir := rfl
@[simp] theorem State.setLeg_poisoned (s : State) (k : Nat) (x) : (s.setLeg k x).poisoned = s.poisoned := rfl
@[simp] theorem State.setLeg_dramRead (s : State) (k : Nat) (x) : (s.setLeg k x).dramRead = s.dramRead := rfl
@[simp] theorem State.setLeg_fatalAt (s : State) (k : Nat) (x) : (s.setLeg k x).fatalAt = s.fatalAt := rfl
@[simp] theorem State.setLeg_sec (s : State) (k : Nat) (x) : (s.setLeg k x).sec = s.sec := rfl
@[simp] theorem State.setLeg_flash (s : State) (k : Nat) (x) : (s.setLeg k x).flash = s.flash := rfl
@[simp] theorem State.setLeg_boot (s : State) (k : Nat) (x) : (s.setLeg k x).boot = s.boot := rfl
@[simp] theorem State.setLeg_dma (s : State) (k : Nat) (x) : (s.setLeg k x).dma = s.dma := rfl
@[simp] theorem State.setLeg_bar2 (s : State) (k : Nat) (x) : (s.setLeg k x).bar2 = s.bar2 := rfl
@[simp] theorem State.setLeg_pwr (s : State) (k : Nat) (x) : (s.setLeg k x).pwr = s.pwr := rfl
@[simp] theorem State.setLeg_svc (s : State) (k : Nat) (x) : (s.setLeg k x).svc = s.svc := rfl
@[simp] theorem State.setLeg_crier (s : State) (k : Nat) (x) : (s.setLeg k x).crier = s.crier := rfl
@[simp] theorem State.setLeg_pins (s : State) (k : Nat) (x) : (s.setLeg k x).pins = s.pins := rfl
@[simp] theorem State.setLeg_uart (s : State) (k : Nat) (x) : (s.setLeg k x).uart = s.uart := rfl
@[simp] theorem State.setLeg_audio (s : State) (k : Nat) (x) : (s.setLeg k x).audio = s.audio := rfl
@[simp] theorem State.setLeg_legAudio (s : State) (k : Nat) (x) : (s.setLeg k x).legAudio = s.legAudio := rfl
@[simp] theorem State.setLeg_confAudio (s : State) (k : Nat) (x) : (s.setLeg k x).confAudio = s.confAudio := rfl
@[simp] theorem State.setLeg_mill (s : State) (k : Nat) (x) : (s.setLeg k x).mill = s.mill := rfl
@[simp] theorem State.setLeg_csram (s : State) (k : Nat) (x) : (s.setLeg k x).csram = s.csram := rfl
@[simp] theorem State.setLeg_kernels (s : State) (k : Nat) (x) : (s.setLeg k x).kernels = s.kernels := rfl
@[simp] theorem State.setLeg_kernelCmd (s : State) (k : Nat) (x) : (s.setLeg k x).kernelCmd = s.kernelCmd := rfl
@[simp] theorem State.setLeg_reeve (s : State) (k : Nat) (x) : (s.setLeg k x).reeve = s.reeve := rfl
@[simp] theorem State.setLeg_pending (s : State) (k : Nat) (x) : (s.setLeg k x).pending = s.pending := rfl
@[simp] theorem State.setLeg_rd (s : State) (k a : Nat) (x) : (s.setLeg k x).rd a = s.rd a := rfl

@[simp] theorem State.setConf_conf (s : State) (k j : Nat) (x) : (s.setConf k x).conf j = if j = k then x else s.conf j := Sparse.get_set _ _ _ _ _
@[simp] theorem State.setConf_regs (s : State) (k : Nat) (x) : (s.setConf k x).regs = s.regs := rfl
@[simp] theorem State.setConf_capture (s : State) (k : Nat) (x) : (s.setConf k x).capture = s.capture := rfl
@[simp] theorem State.setConf_heldLo (s : State) (k : Nat) (x) : (s.setConf k x).heldLo = s.heldLo := rfl
@[simp] theorem State.setConf_readData (s : State) (k : Nat) (x) : (s.setConf k x).readData = s.readData := rfl
@[simp] theorem State.setConf_clk (s : State) (k : Nat) (x) : (s.setConf k x).clk = s.clk := rfl
@[simp] theorem State.setConf_bel (s : State) (k : Nat) (x) : (s.setConf k x).bel = s.bel := rfl
@[simp] theorem State.setConf_gate (s : State) (k : Nat) (x) : (s.setConf k x).gate = s.gate := rfl
@[simp] theorem State.setConf_free (s : State) (k : Nat) (x) : (s.setConf k x).free = s.free := rfl
@[simp] theorem State.setConf_msix (s : State) (k : Nat) (x) : (s.setConf k x).msix = s.msix := rfl
@[simp] theorem State.setConf_evq (s : State) (k : Nat) (x) : (s.setConf k x).evq = s.evq := rfl
@[simp] theorem State.setConf_queues (s : State) (k : Nat) (x) : (s.setConf k x).queues = s.queues := rfl
@[simp] theorem State.setConf_bankq (s : State) (k : Nat) (x) : (s.setConf k x).bankq = s.bankq := rfl
@[simp] theorem State.setConf_freeCells (s : State) (k : Nat) (x) : (s.setConf k x).freeCells = s.freeCells := rfl
@[simp] theorem State.setConf_deviceReserved (s : State) (k : Nat) (x) : (s.setConf k x).deviceReserved = s.deviceReserved := rfl
@[simp] theorem State.setConf_cross (s : State) (k : Nat) (x) : (s.setConf k x).cross = s.cross := rfl
@[simp] theorem State.setConf_dram (s : State) (k : Nat) (x) : (s.setConf k x).dram = s.dram := rfl
@[simp] theorem State.setConf_hostMem (s : State) (k : Nat) (x) : (s.setConf k x).hostMem = s.hostMem := rfl
@[simp] theorem State.setConf_keys (s : State) (k : Nat) (x) : (s.setConf k x).keys = s.keys := rfl
@[simp] theorem State.setConf_faultLog (s : State) (k : Nat) (x) : (s.setConf k x).faultLog = s.faultLog := rfl
@[simp] theorem State.setConf_pkts (s : State) (k : Nat) (x) : (s.setConf k x).pkts = s.pkts := rfl
@[simp] theorem State.setConf_nextPkt (s : State) (k : Nat) (x) : (s.setConf k x).nextPkt = s.nextPkt := rfl
@[simp] theorem State.setConf_fences (s : State) (k : Nat) (x) : (s.setConf k x).fences = s.fences := rfl
@[simp] theorem State.setConf_fetches (s : State) (k : Nat) (x) : (s.setConf k x).fetches = s.fetches := rfl
@[simp] theorem State.setConf_legs (s : State) (k : Nat) (x) : (s.setConf k x).legs = s.legs := rfl
@[simp] theorem State.setConf_taps (s : State) (k : Nat) (x) : (s.setConf k x).taps = s.taps := rfl
@[simp] theorem State.setConf_tdm (s : State) (k : Nat) (x) : (s.setConf k x).tdm = s.tdm := rfl
@[simp] theorem State.setConf_windows (s : State) (k : Nat) (x) : (s.setConf k x).windows = s.windows := rfl
@[simp] theorem State.setConf_planes (s : State) (k : Nat) (x) : (s.setConf k x).planes = s.planes := rfl
@[simp] theorem State.setConf_vstrs (s : State) (k : Nat) (x) : (s.setConf k x).vstrs = s.vstrs := rfl
@[simp] theorem State.setConf_ostrs (s : State) (k : Nat) (x) : (s.setConf k x).ostrs = s.ostrs := rfl
@[simp] theorem State.setConf_ports (s : State) (k : Nat) (x) : (s.setConf k x).ports = s.ports := rfl
@[simp] theorem State.setConf_rxWin (s : State) (k : Nat) (x) : (s.setConf k x).rxWin = s.rxWin := rfl
@[simp] theorem State.setConf_ecomps (s : State) (k : Nat) (x) : (s.setConf k x).ecomps = s.ecomps := rfl
@[simp] theorem State.setConf_decs (s : State) (k : Nat) (x) : (s.setConf k x).decs = s.decs := rfl
@[simp] theorem State.setConf_layouts (s : State) (k : Nat) (x) : (s.setConf k x).layouts = s.layouts := rfl
@[simp] theorem State.setConf_twin (s : State) (k : Nat) (x) : (s.setConf k x).twin = s.twin := rfl
@[simp] theorem State.setConf_links (s : State) (k : Nat) (x) : (s.setConf k x).links = s.links := rfl
@[simp] theorem State.setConf_fab (s : State) (k : Nat) (x) : (s.setConf k x).fab = s.fab := rfl
@[simp] theorem State.setConf_ddr (s : State) (k : Nat) (x) : (s.setConf k x).ddr = s.ddr := rfl
@[simp] theorem State.setConf_weir (s : State) (k : Nat) (x) : (s.setConf k x).weir = s.weir := rfl
@[simp] theorem State.setConf_poisoned (s : State) (k : Nat) (x) : (s.setConf k x).poisoned = s.poisoned := rfl
@[simp] theorem State.setConf_dramRead (s : State) (k : Nat) (x) : (s.setConf k x).dramRead = s.dramRead := rfl
@[simp] theorem State.setConf_fatalAt (s : State) (k : Nat) (x) : (s.setConf k x).fatalAt = s.fatalAt := rfl
@[simp] theorem State.setConf_sec (s : State) (k : Nat) (x) : (s.setConf k x).sec = s.sec := rfl
@[simp] theorem State.setConf_flash (s : State) (k : Nat) (x) : (s.setConf k x).flash = s.flash := rfl
@[simp] theorem State.setConf_boot (s : State) (k : Nat) (x) : (s.setConf k x).boot = s.boot := rfl
@[simp] theorem State.setConf_dma (s : State) (k : Nat) (x) : (s.setConf k x).dma = s.dma := rfl
@[simp] theorem State.setConf_bar2 (s : State) (k : Nat) (x) : (s.setConf k x).bar2 = s.bar2 := rfl
@[simp] theorem State.setConf_pwr (s : State) (k : Nat) (x) : (s.setConf k x).pwr = s.pwr := rfl
@[simp] theorem State.setConf_svc (s : State) (k : Nat) (x) : (s.setConf k x).svc = s.svc := rfl
@[simp] theorem State.setConf_crier (s : State) (k : Nat) (x) : (s.setConf k x).crier = s.crier := rfl
@[simp] theorem State.setConf_pins (s : State) (k : Nat) (x) : (s.setConf k x).pins = s.pins := rfl
@[simp] theorem State.setConf_uart (s : State) (k : Nat) (x) : (s.setConf k x).uart = s.uart := rfl
@[simp] theorem State.setConf_audio (s : State) (k : Nat) (x) : (s.setConf k x).audio = s.audio := rfl
@[simp] theorem State.setConf_legAudio (s : State) (k : Nat) (x) : (s.setConf k x).legAudio = s.legAudio := rfl
@[simp] theorem State.setConf_confAudio (s : State) (k : Nat) (x) : (s.setConf k x).confAudio = s.confAudio := rfl
@[simp] theorem State.setConf_mill (s : State) (k : Nat) (x) : (s.setConf k x).mill = s.mill := rfl
@[simp] theorem State.setConf_csram (s : State) (k : Nat) (x) : (s.setConf k x).csram = s.csram := rfl
@[simp] theorem State.setConf_kernels (s : State) (k : Nat) (x) : (s.setConf k x).kernels = s.kernels := rfl
@[simp] theorem State.setConf_kernelCmd (s : State) (k : Nat) (x) : (s.setConf k x).kernelCmd = s.kernelCmd := rfl
@[simp] theorem State.setConf_reeve (s : State) (k : Nat) (x) : (s.setConf k x).reeve = s.reeve := rfl
@[simp] theorem State.setConf_pending (s : State) (k : Nat) (x) : (s.setConf k x).pending = s.pending := rfl
@[simp] theorem State.setConf_rd (s : State) (k a : Nat) (x) : (s.setConf k x).rd a = s.rd a := rfl

@[simp] theorem State.setTap_tap (s : State) (k j : Nat) (x) : (s.setTap k x).tap j = if j = k then x else s.tap j := Sparse.get_set _ _ _ _ _
@[simp] theorem State.setTap_regs (s : State) (k : Nat) (x) : (s.setTap k x).regs = s.regs := rfl
@[simp] theorem State.setTap_capture (s : State) (k : Nat) (x) : (s.setTap k x).capture = s.capture := rfl
@[simp] theorem State.setTap_heldLo (s : State) (k : Nat) (x) : (s.setTap k x).heldLo = s.heldLo := rfl
@[simp] theorem State.setTap_readData (s : State) (k : Nat) (x) : (s.setTap k x).readData = s.readData := rfl
@[simp] theorem State.setTap_clk (s : State) (k : Nat) (x) : (s.setTap k x).clk = s.clk := rfl
@[simp] theorem State.setTap_bel (s : State) (k : Nat) (x) : (s.setTap k x).bel = s.bel := rfl
@[simp] theorem State.setTap_gate (s : State) (k : Nat) (x) : (s.setTap k x).gate = s.gate := rfl
@[simp] theorem State.setTap_free (s : State) (k : Nat) (x) : (s.setTap k x).free = s.free := rfl
@[simp] theorem State.setTap_msix (s : State) (k : Nat) (x) : (s.setTap k x).msix = s.msix := rfl
@[simp] theorem State.setTap_evq (s : State) (k : Nat) (x) : (s.setTap k x).evq = s.evq := rfl
@[simp] theorem State.setTap_queues (s : State) (k : Nat) (x) : (s.setTap k x).queues = s.queues := rfl
@[simp] theorem State.setTap_bankq (s : State) (k : Nat) (x) : (s.setTap k x).bankq = s.bankq := rfl
@[simp] theorem State.setTap_freeCells (s : State) (k : Nat) (x) : (s.setTap k x).freeCells = s.freeCells := rfl
@[simp] theorem State.setTap_deviceReserved (s : State) (k : Nat) (x) : (s.setTap k x).deviceReserved = s.deviceReserved := rfl
@[simp] theorem State.setTap_cross (s : State) (k : Nat) (x) : (s.setTap k x).cross = s.cross := rfl
@[simp] theorem State.setTap_dram (s : State) (k : Nat) (x) : (s.setTap k x).dram = s.dram := rfl
@[simp] theorem State.setTap_hostMem (s : State) (k : Nat) (x) : (s.setTap k x).hostMem = s.hostMem := rfl
@[simp] theorem State.setTap_keys (s : State) (k : Nat) (x) : (s.setTap k x).keys = s.keys := rfl
@[simp] theorem State.setTap_faultLog (s : State) (k : Nat) (x) : (s.setTap k x).faultLog = s.faultLog := rfl
@[simp] theorem State.setTap_pkts (s : State) (k : Nat) (x) : (s.setTap k x).pkts = s.pkts := rfl
@[simp] theorem State.setTap_nextPkt (s : State) (k : Nat) (x) : (s.setTap k x).nextPkt = s.nextPkt := rfl
@[simp] theorem State.setTap_fences (s : State) (k : Nat) (x) : (s.setTap k x).fences = s.fences := rfl
@[simp] theorem State.setTap_fetches (s : State) (k : Nat) (x) : (s.setTap k x).fetches = s.fetches := rfl
@[simp] theorem State.setTap_legs (s : State) (k : Nat) (x) : (s.setTap k x).legs = s.legs := rfl
@[simp] theorem State.setTap_confs (s : State) (k : Nat) (x) : (s.setTap k x).confs = s.confs := rfl
@[simp] theorem State.setTap_tdm (s : State) (k : Nat) (x) : (s.setTap k x).tdm = s.tdm := rfl
@[simp] theorem State.setTap_windows (s : State) (k : Nat) (x) : (s.setTap k x).windows = s.windows := rfl
@[simp] theorem State.setTap_planes (s : State) (k : Nat) (x) : (s.setTap k x).planes = s.planes := rfl
@[simp] theorem State.setTap_vstrs (s : State) (k : Nat) (x) : (s.setTap k x).vstrs = s.vstrs := rfl
@[simp] theorem State.setTap_ostrs (s : State) (k : Nat) (x) : (s.setTap k x).ostrs = s.ostrs := rfl
@[simp] theorem State.setTap_ports (s : State) (k : Nat) (x) : (s.setTap k x).ports = s.ports := rfl
@[simp] theorem State.setTap_rxWin (s : State) (k : Nat) (x) : (s.setTap k x).rxWin = s.rxWin := rfl
@[simp] theorem State.setTap_ecomps (s : State) (k : Nat) (x) : (s.setTap k x).ecomps = s.ecomps := rfl
@[simp] theorem State.setTap_decs (s : State) (k : Nat) (x) : (s.setTap k x).decs = s.decs := rfl
@[simp] theorem State.setTap_layouts (s : State) (k : Nat) (x) : (s.setTap k x).layouts = s.layouts := rfl
@[simp] theorem State.setTap_twin (s : State) (k : Nat) (x) : (s.setTap k x).twin = s.twin := rfl
@[simp] theorem State.setTap_links (s : State) (k : Nat) (x) : (s.setTap k x).links = s.links := rfl
@[simp] theorem State.setTap_fab (s : State) (k : Nat) (x) : (s.setTap k x).fab = s.fab := rfl
@[simp] theorem State.setTap_ddr (s : State) (k : Nat) (x) : (s.setTap k x).ddr = s.ddr := rfl
@[simp] theorem State.setTap_weir (s : State) (k : Nat) (x) : (s.setTap k x).weir = s.weir := rfl
@[simp] theorem State.setTap_poisoned (s : State) (k : Nat) (x) : (s.setTap k x).poisoned = s.poisoned := rfl
@[simp] theorem State.setTap_dramRead (s : State) (k : Nat) (x) : (s.setTap k x).dramRead = s.dramRead := rfl
@[simp] theorem State.setTap_fatalAt (s : State) (k : Nat) (x) : (s.setTap k x).fatalAt = s.fatalAt := rfl
@[simp] theorem State.setTap_sec (s : State) (k : Nat) (x) : (s.setTap k x).sec = s.sec := rfl
@[simp] theorem State.setTap_flash (s : State) (k : Nat) (x) : (s.setTap k x).flash = s.flash := rfl
@[simp] theorem State.setTap_boot (s : State) (k : Nat) (x) : (s.setTap k x).boot = s.boot := rfl
@[simp] theorem State.setTap_dma (s : State) (k : Nat) (x) : (s.setTap k x).dma = s.dma := rfl
@[simp] theorem State.setTap_bar2 (s : State) (k : Nat) (x) : (s.setTap k x).bar2 = s.bar2 := rfl
@[simp] theorem State.setTap_pwr (s : State) (k : Nat) (x) : (s.setTap k x).pwr = s.pwr := rfl
@[simp] theorem State.setTap_svc (s : State) (k : Nat) (x) : (s.setTap k x).svc = s.svc := rfl
@[simp] theorem State.setTap_crier (s : State) (k : Nat) (x) : (s.setTap k x).crier = s.crier := rfl
@[simp] theorem State.setTap_pins (s : State) (k : Nat) (x) : (s.setTap k x).pins = s.pins := rfl
@[simp] theorem State.setTap_uart (s : State) (k : Nat) (x) : (s.setTap k x).uart = s.uart := rfl
@[simp] theorem State.setTap_audio (s : State) (k : Nat) (x) : (s.setTap k x).audio = s.audio := rfl
@[simp] theorem State.setTap_legAudio (s : State) (k : Nat) (x) : (s.setTap k x).legAudio = s.legAudio := rfl
@[simp] theorem State.setTap_confAudio (s : State) (k : Nat) (x) : (s.setTap k x).confAudio = s.confAudio := rfl
@[simp] theorem State.setTap_mill (s : State) (k : Nat) (x) : (s.setTap k x).mill = s.mill := rfl
@[simp] theorem State.setTap_csram (s : State) (k : Nat) (x) : (s.setTap k x).csram = s.csram := rfl
@[simp] theorem State.setTap_kernels (s : State) (k : Nat) (x) : (s.setTap k x).kernels = s.kernels := rfl
@[simp] theorem State.setTap_kernelCmd (s : State) (k : Nat) (x) : (s.setTap k x).kernelCmd = s.kernelCmd := rfl
@[simp] theorem State.setTap_reeve (s : State) (k : Nat) (x) : (s.setTap k x).reeve = s.reeve := rfl
@[simp] theorem State.setTap_pending (s : State) (k : Nat) (x) : (s.setTap k x).pending = s.pending := rfl
@[simp] theorem State.setTap_rd (s : State) (k a : Nat) (x) : (s.setTap k x).rd a = s.rd a := rfl

@[simp] theorem State.setTdm_tdmPort (s : State) (k j : Nat) (x) : (s.setTdm k x).tdmPort j = if j = k then x else s.tdmPort j := Sparse.get_set _ _ _ _ _
@[simp] theorem State.setTdm_regs (s : State) (k : Nat) (x) : (s.setTdm k x).regs = s.regs := rfl
@[simp] theorem State.setTdm_capture (s : State) (k : Nat) (x) : (s.setTdm k x).capture = s.capture := rfl
@[simp] theorem State.setTdm_heldLo (s : State) (k : Nat) (x) : (s.setTdm k x).heldLo = s.heldLo := rfl
@[simp] theorem State.setTdm_readData (s : State) (k : Nat) (x) : (s.setTdm k x).readData = s.readData := rfl
@[simp] theorem State.setTdm_clk (s : State) (k : Nat) (x) : (s.setTdm k x).clk = s.clk := rfl
@[simp] theorem State.setTdm_bel (s : State) (k : Nat) (x) : (s.setTdm k x).bel = s.bel := rfl
@[simp] theorem State.setTdm_gate (s : State) (k : Nat) (x) : (s.setTdm k x).gate = s.gate := rfl
@[simp] theorem State.setTdm_free (s : State) (k : Nat) (x) : (s.setTdm k x).free = s.free := rfl
@[simp] theorem State.setTdm_msix (s : State) (k : Nat) (x) : (s.setTdm k x).msix = s.msix := rfl
@[simp] theorem State.setTdm_evq (s : State) (k : Nat) (x) : (s.setTdm k x).evq = s.evq := rfl
@[simp] theorem State.setTdm_queues (s : State) (k : Nat) (x) : (s.setTdm k x).queues = s.queues := rfl
@[simp] theorem State.setTdm_bankq (s : State) (k : Nat) (x) : (s.setTdm k x).bankq = s.bankq := rfl
@[simp] theorem State.setTdm_freeCells (s : State) (k : Nat) (x) : (s.setTdm k x).freeCells = s.freeCells := rfl
@[simp] theorem State.setTdm_deviceReserved (s : State) (k : Nat) (x) : (s.setTdm k x).deviceReserved = s.deviceReserved := rfl
@[simp] theorem State.setTdm_cross (s : State) (k : Nat) (x) : (s.setTdm k x).cross = s.cross := rfl
@[simp] theorem State.setTdm_dram (s : State) (k : Nat) (x) : (s.setTdm k x).dram = s.dram := rfl
@[simp] theorem State.setTdm_hostMem (s : State) (k : Nat) (x) : (s.setTdm k x).hostMem = s.hostMem := rfl
@[simp] theorem State.setTdm_keys (s : State) (k : Nat) (x) : (s.setTdm k x).keys = s.keys := rfl
@[simp] theorem State.setTdm_faultLog (s : State) (k : Nat) (x) : (s.setTdm k x).faultLog = s.faultLog := rfl
@[simp] theorem State.setTdm_pkts (s : State) (k : Nat) (x) : (s.setTdm k x).pkts = s.pkts := rfl
@[simp] theorem State.setTdm_nextPkt (s : State) (k : Nat) (x) : (s.setTdm k x).nextPkt = s.nextPkt := rfl
@[simp] theorem State.setTdm_fences (s : State) (k : Nat) (x) : (s.setTdm k x).fences = s.fences := rfl
@[simp] theorem State.setTdm_fetches (s : State) (k : Nat) (x) : (s.setTdm k x).fetches = s.fetches := rfl
@[simp] theorem State.setTdm_legs (s : State) (k : Nat) (x) : (s.setTdm k x).legs = s.legs := rfl
@[simp] theorem State.setTdm_confs (s : State) (k : Nat) (x) : (s.setTdm k x).confs = s.confs := rfl
@[simp] theorem State.setTdm_taps (s : State) (k : Nat) (x) : (s.setTdm k x).taps = s.taps := rfl
@[simp] theorem State.setTdm_windows (s : State) (k : Nat) (x) : (s.setTdm k x).windows = s.windows := rfl
@[simp] theorem State.setTdm_planes (s : State) (k : Nat) (x) : (s.setTdm k x).planes = s.planes := rfl
@[simp] theorem State.setTdm_vstrs (s : State) (k : Nat) (x) : (s.setTdm k x).vstrs = s.vstrs := rfl
@[simp] theorem State.setTdm_ostrs (s : State) (k : Nat) (x) : (s.setTdm k x).ostrs = s.ostrs := rfl
@[simp] theorem State.setTdm_ports (s : State) (k : Nat) (x) : (s.setTdm k x).ports = s.ports := rfl
@[simp] theorem State.setTdm_rxWin (s : State) (k : Nat) (x) : (s.setTdm k x).rxWin = s.rxWin := rfl
@[simp] theorem State.setTdm_ecomps (s : State) (k : Nat) (x) : (s.setTdm k x).ecomps = s.ecomps := rfl
@[simp] theorem State.setTdm_decs (s : State) (k : Nat) (x) : (s.setTdm k x).decs = s.decs := rfl
@[simp] theorem State.setTdm_layouts (s : State) (k : Nat) (x) : (s.setTdm k x).layouts = s.layouts := rfl
@[simp] theorem State.setTdm_twin (s : State) (k : Nat) (x) : (s.setTdm k x).twin = s.twin := rfl
@[simp] theorem State.setTdm_links (s : State) (k : Nat) (x) : (s.setTdm k x).links = s.links := rfl
@[simp] theorem State.setTdm_fab (s : State) (k : Nat) (x) : (s.setTdm k x).fab = s.fab := rfl
@[simp] theorem State.setTdm_ddr (s : State) (k : Nat) (x) : (s.setTdm k x).ddr = s.ddr := rfl
@[simp] theorem State.setTdm_weir (s : State) (k : Nat) (x) : (s.setTdm k x).weir = s.weir := rfl
@[simp] theorem State.setTdm_poisoned (s : State) (k : Nat) (x) : (s.setTdm k x).poisoned = s.poisoned := rfl
@[simp] theorem State.setTdm_dramRead (s : State) (k : Nat) (x) : (s.setTdm k x).dramRead = s.dramRead := rfl
@[simp] theorem State.setTdm_fatalAt (s : State) (k : Nat) (x) : (s.setTdm k x).fatalAt = s.fatalAt := rfl
@[simp] theorem State.setTdm_sec (s : State) (k : Nat) (x) : (s.setTdm k x).sec = s.sec := rfl
@[simp] theorem State.setTdm_flash (s : State) (k : Nat) (x) : (s.setTdm k x).flash = s.flash := rfl
@[simp] theorem State.setTdm_boot (s : State) (k : Nat) (x) : (s.setTdm k x).boot = s.boot := rfl
@[simp] theorem State.setTdm_dma (s : State) (k : Nat) (x) : (s.setTdm k x).dma = s.dma := rfl
@[simp] theorem State.setTdm_bar2 (s : State) (k : Nat) (x) : (s.setTdm k x).bar2 = s.bar2 := rfl
@[simp] theorem State.setTdm_pwr (s : State) (k : Nat) (x) : (s.setTdm k x).pwr = s.pwr := rfl
@[simp] theorem State.setTdm_svc (s : State) (k : Nat) (x) : (s.setTdm k x).svc = s.svc := rfl
@[simp] theorem State.setTdm_crier (s : State) (k : Nat) (x) : (s.setTdm k x).crier = s.crier := rfl
@[simp] theorem State.setTdm_pins (s : State) (k : Nat) (x) : (s.setTdm k x).pins = s.pins := rfl
@[simp] theorem State.setTdm_uart (s : State) (k : Nat) (x) : (s.setTdm k x).uart = s.uart := rfl
@[simp] theorem State.setTdm_audio (s : State) (k : Nat) (x) : (s.setTdm k x).audio = s.audio := rfl
@[simp] theorem State.setTdm_legAudio (s : State) (k : Nat) (x) : (s.setTdm k x).legAudio = s.legAudio := rfl
@[simp] theorem State.setTdm_confAudio (s : State) (k : Nat) (x) : (s.setTdm k x).confAudio = s.confAudio := rfl
@[simp] theorem State.setTdm_mill (s : State) (k : Nat) (x) : (s.setTdm k x).mill = s.mill := rfl
@[simp] theorem State.setTdm_csram (s : State) (k : Nat) (x) : (s.setTdm k x).csram = s.csram := rfl
@[simp] theorem State.setTdm_kernels (s : State) (k : Nat) (x) : (s.setTdm k x).kernels = s.kernels := rfl
@[simp] theorem State.setTdm_kernelCmd (s : State) (k : Nat) (x) : (s.setTdm k x).kernelCmd = s.kernelCmd := rfl
@[simp] theorem State.setTdm_reeve (s : State) (k : Nat) (x) : (s.setTdm k x).reeve = s.reeve := rfl
@[simp] theorem State.setTdm_pending (s : State) (k : Nat) (x) : (s.setTdm k x).pending = s.pending := rfl
@[simp] theorem State.setTdm_rd (s : State) (k a : Nat) (x) : (s.setTdm k x).rd a = s.rd a := rfl

@[simp] theorem State.setPlane_plane (s : State) (k j : Nat) (x) : (s.setPlane k x).plane j = if j = k then x else s.plane j := Sparse.get_set _ _ _ _ _
@[simp] theorem State.setPlane_regs (s : State) (k : Nat) (x) : (s.setPlane k x).regs = s.regs := rfl
@[simp] theorem State.setPlane_capture (s : State) (k : Nat) (x) : (s.setPlane k x).capture = s.capture := rfl
@[simp] theorem State.setPlane_heldLo (s : State) (k : Nat) (x) : (s.setPlane k x).heldLo = s.heldLo := rfl
@[simp] theorem State.setPlane_readData (s : State) (k : Nat) (x) : (s.setPlane k x).readData = s.readData := rfl
@[simp] theorem State.setPlane_clk (s : State) (k : Nat) (x) : (s.setPlane k x).clk = s.clk := rfl
@[simp] theorem State.setPlane_bel (s : State) (k : Nat) (x) : (s.setPlane k x).bel = s.bel := rfl
@[simp] theorem State.setPlane_gate (s : State) (k : Nat) (x) : (s.setPlane k x).gate = s.gate := rfl
@[simp] theorem State.setPlane_free (s : State) (k : Nat) (x) : (s.setPlane k x).free = s.free := rfl
@[simp] theorem State.setPlane_msix (s : State) (k : Nat) (x) : (s.setPlane k x).msix = s.msix := rfl
@[simp] theorem State.setPlane_evq (s : State) (k : Nat) (x) : (s.setPlane k x).evq = s.evq := rfl
@[simp] theorem State.setPlane_queues (s : State) (k : Nat) (x) : (s.setPlane k x).queues = s.queues := rfl
@[simp] theorem State.setPlane_bankq (s : State) (k : Nat) (x) : (s.setPlane k x).bankq = s.bankq := rfl
@[simp] theorem State.setPlane_freeCells (s : State) (k : Nat) (x) : (s.setPlane k x).freeCells = s.freeCells := rfl
@[simp] theorem State.setPlane_deviceReserved (s : State) (k : Nat) (x) : (s.setPlane k x).deviceReserved = s.deviceReserved := rfl
@[simp] theorem State.setPlane_cross (s : State) (k : Nat) (x) : (s.setPlane k x).cross = s.cross := rfl
@[simp] theorem State.setPlane_dram (s : State) (k : Nat) (x) : (s.setPlane k x).dram = s.dram := rfl
@[simp] theorem State.setPlane_hostMem (s : State) (k : Nat) (x) : (s.setPlane k x).hostMem = s.hostMem := rfl
@[simp] theorem State.setPlane_keys (s : State) (k : Nat) (x) : (s.setPlane k x).keys = s.keys := rfl
@[simp] theorem State.setPlane_faultLog (s : State) (k : Nat) (x) : (s.setPlane k x).faultLog = s.faultLog := rfl
@[simp] theorem State.setPlane_pkts (s : State) (k : Nat) (x) : (s.setPlane k x).pkts = s.pkts := rfl
@[simp] theorem State.setPlane_nextPkt (s : State) (k : Nat) (x) : (s.setPlane k x).nextPkt = s.nextPkt := rfl
@[simp] theorem State.setPlane_fences (s : State) (k : Nat) (x) : (s.setPlane k x).fences = s.fences := rfl
@[simp] theorem State.setPlane_fetches (s : State) (k : Nat) (x) : (s.setPlane k x).fetches = s.fetches := rfl
@[simp] theorem State.setPlane_legs (s : State) (k : Nat) (x) : (s.setPlane k x).legs = s.legs := rfl
@[simp] theorem State.setPlane_confs (s : State) (k : Nat) (x) : (s.setPlane k x).confs = s.confs := rfl
@[simp] theorem State.setPlane_taps (s : State) (k : Nat) (x) : (s.setPlane k x).taps = s.taps := rfl
@[simp] theorem State.setPlane_tdm (s : State) (k : Nat) (x) : (s.setPlane k x).tdm = s.tdm := rfl
@[simp] theorem State.setPlane_windows (s : State) (k : Nat) (x) : (s.setPlane k x).windows = s.windows := rfl
@[simp] theorem State.setPlane_vstrs (s : State) (k : Nat) (x) : (s.setPlane k x).vstrs = s.vstrs := rfl
@[simp] theorem State.setPlane_ostrs (s : State) (k : Nat) (x) : (s.setPlane k x).ostrs = s.ostrs := rfl
@[simp] theorem State.setPlane_ports (s : State) (k : Nat) (x) : (s.setPlane k x).ports = s.ports := rfl
@[simp] theorem State.setPlane_rxWin (s : State) (k : Nat) (x) : (s.setPlane k x).rxWin = s.rxWin := rfl
@[simp] theorem State.setPlane_ecomps (s : State) (k : Nat) (x) : (s.setPlane k x).ecomps = s.ecomps := rfl
@[simp] theorem State.setPlane_decs (s : State) (k : Nat) (x) : (s.setPlane k x).decs = s.decs := rfl
@[simp] theorem State.setPlane_layouts (s : State) (k : Nat) (x) : (s.setPlane k x).layouts = s.layouts := rfl
@[simp] theorem State.setPlane_twin (s : State) (k : Nat) (x) : (s.setPlane k x).twin = s.twin := rfl
@[simp] theorem State.setPlane_links (s : State) (k : Nat) (x) : (s.setPlane k x).links = s.links := rfl
@[simp] theorem State.setPlane_fab (s : State) (k : Nat) (x) : (s.setPlane k x).fab = s.fab := rfl
@[simp] theorem State.setPlane_ddr (s : State) (k : Nat) (x) : (s.setPlane k x).ddr = s.ddr := rfl
@[simp] theorem State.setPlane_weir (s : State) (k : Nat) (x) : (s.setPlane k x).weir = s.weir := rfl
@[simp] theorem State.setPlane_poisoned (s : State) (k : Nat) (x) : (s.setPlane k x).poisoned = s.poisoned := rfl
@[simp] theorem State.setPlane_dramRead (s : State) (k : Nat) (x) : (s.setPlane k x).dramRead = s.dramRead := rfl
@[simp] theorem State.setPlane_fatalAt (s : State) (k : Nat) (x) : (s.setPlane k x).fatalAt = s.fatalAt := rfl
@[simp] theorem State.setPlane_sec (s : State) (k : Nat) (x) : (s.setPlane k x).sec = s.sec := rfl
@[simp] theorem State.setPlane_flash (s : State) (k : Nat) (x) : (s.setPlane k x).flash = s.flash := rfl
@[simp] theorem State.setPlane_boot (s : State) (k : Nat) (x) : (s.setPlane k x).boot = s.boot := rfl
@[simp] theorem State.setPlane_dma (s : State) (k : Nat) (x) : (s.setPlane k x).dma = s.dma := rfl
@[simp] theorem State.setPlane_bar2 (s : State) (k : Nat) (x) : (s.setPlane k x).bar2 = s.bar2 := rfl
@[simp] theorem State.setPlane_pwr (s : State) (k : Nat) (x) : (s.setPlane k x).pwr = s.pwr := rfl
@[simp] theorem State.setPlane_svc (s : State) (k : Nat) (x) : (s.setPlane k x).svc = s.svc := rfl
@[simp] theorem State.setPlane_crier (s : State) (k : Nat) (x) : (s.setPlane k x).crier = s.crier := rfl
@[simp] theorem State.setPlane_pins (s : State) (k : Nat) (x) : (s.setPlane k x).pins = s.pins := rfl
@[simp] theorem State.setPlane_uart (s : State) (k : Nat) (x) : (s.setPlane k x).uart = s.uart := rfl
@[simp] theorem State.setPlane_audio (s : State) (k : Nat) (x) : (s.setPlane k x).audio = s.audio := rfl
@[simp] theorem State.setPlane_legAudio (s : State) (k : Nat) (x) : (s.setPlane k x).legAudio = s.legAudio := rfl
@[simp] theorem State.setPlane_confAudio (s : State) (k : Nat) (x) : (s.setPlane k x).confAudio = s.confAudio := rfl
@[simp] theorem State.setPlane_mill (s : State) (k : Nat) (x) : (s.setPlane k x).mill = s.mill := rfl
@[simp] theorem State.setPlane_csram (s : State) (k : Nat) (x) : (s.setPlane k x).csram = s.csram := rfl
@[simp] theorem State.setPlane_kernels (s : State) (k : Nat) (x) : (s.setPlane k x).kernels = s.kernels := rfl
@[simp] theorem State.setPlane_kernelCmd (s : State) (k : Nat) (x) : (s.setPlane k x).kernelCmd = s.kernelCmd := rfl
@[simp] theorem State.setPlane_reeve (s : State) (k : Nat) (x) : (s.setPlane k x).reeve = s.reeve := rfl
@[simp] theorem State.setPlane_pending (s : State) (k : Nat) (x) : (s.setPlane k x).pending = s.pending := rfl
@[simp] theorem State.setPlane_rd (s : State) (k a : Nat) (x) : (s.setPlane k x).rd a = s.rd a := rfl

@[simp] theorem State.setVstr_vstr (s : State) (k j : Nat) (x) : (s.setVstr k x).vstr j = if j = k then x else s.vstr j := Sparse.get_set _ _ _ _ _
@[simp] theorem State.setVstr_regs (s : State) (k : Nat) (x) : (s.setVstr k x).regs = s.regs := rfl
@[simp] theorem State.setVstr_capture (s : State) (k : Nat) (x) : (s.setVstr k x).capture = s.capture := rfl
@[simp] theorem State.setVstr_heldLo (s : State) (k : Nat) (x) : (s.setVstr k x).heldLo = s.heldLo := rfl
@[simp] theorem State.setVstr_readData (s : State) (k : Nat) (x) : (s.setVstr k x).readData = s.readData := rfl
@[simp] theorem State.setVstr_clk (s : State) (k : Nat) (x) : (s.setVstr k x).clk = s.clk := rfl
@[simp] theorem State.setVstr_bel (s : State) (k : Nat) (x) : (s.setVstr k x).bel = s.bel := rfl
@[simp] theorem State.setVstr_gate (s : State) (k : Nat) (x) : (s.setVstr k x).gate = s.gate := rfl
@[simp] theorem State.setVstr_free (s : State) (k : Nat) (x) : (s.setVstr k x).free = s.free := rfl
@[simp] theorem State.setVstr_msix (s : State) (k : Nat) (x) : (s.setVstr k x).msix = s.msix := rfl
@[simp] theorem State.setVstr_evq (s : State) (k : Nat) (x) : (s.setVstr k x).evq = s.evq := rfl
@[simp] theorem State.setVstr_queues (s : State) (k : Nat) (x) : (s.setVstr k x).queues = s.queues := rfl
@[simp] theorem State.setVstr_bankq (s : State) (k : Nat) (x) : (s.setVstr k x).bankq = s.bankq := rfl
@[simp] theorem State.setVstr_freeCells (s : State) (k : Nat) (x) : (s.setVstr k x).freeCells = s.freeCells := rfl
@[simp] theorem State.setVstr_deviceReserved (s : State) (k : Nat) (x) : (s.setVstr k x).deviceReserved = s.deviceReserved := rfl
@[simp] theorem State.setVstr_cross (s : State) (k : Nat) (x) : (s.setVstr k x).cross = s.cross := rfl
@[simp] theorem State.setVstr_dram (s : State) (k : Nat) (x) : (s.setVstr k x).dram = s.dram := rfl
@[simp] theorem State.setVstr_hostMem (s : State) (k : Nat) (x) : (s.setVstr k x).hostMem = s.hostMem := rfl
@[simp] theorem State.setVstr_keys (s : State) (k : Nat) (x) : (s.setVstr k x).keys = s.keys := rfl
@[simp] theorem State.setVstr_faultLog (s : State) (k : Nat) (x) : (s.setVstr k x).faultLog = s.faultLog := rfl
@[simp] theorem State.setVstr_pkts (s : State) (k : Nat) (x) : (s.setVstr k x).pkts = s.pkts := rfl
@[simp] theorem State.setVstr_nextPkt (s : State) (k : Nat) (x) : (s.setVstr k x).nextPkt = s.nextPkt := rfl
@[simp] theorem State.setVstr_fences (s : State) (k : Nat) (x) : (s.setVstr k x).fences = s.fences := rfl
@[simp] theorem State.setVstr_fetches (s : State) (k : Nat) (x) : (s.setVstr k x).fetches = s.fetches := rfl
@[simp] theorem State.setVstr_legs (s : State) (k : Nat) (x) : (s.setVstr k x).legs = s.legs := rfl
@[simp] theorem State.setVstr_confs (s : State) (k : Nat) (x) : (s.setVstr k x).confs = s.confs := rfl
@[simp] theorem State.setVstr_taps (s : State) (k : Nat) (x) : (s.setVstr k x).taps = s.taps := rfl
@[simp] theorem State.setVstr_tdm (s : State) (k : Nat) (x) : (s.setVstr k x).tdm = s.tdm := rfl
@[simp] theorem State.setVstr_windows (s : State) (k : Nat) (x) : (s.setVstr k x).windows = s.windows := rfl
@[simp] theorem State.setVstr_planes (s : State) (k : Nat) (x) : (s.setVstr k x).planes = s.planes := rfl
@[simp] theorem State.setVstr_ostrs (s : State) (k : Nat) (x) : (s.setVstr k x).ostrs = s.ostrs := rfl
@[simp] theorem State.setVstr_ports (s : State) (k : Nat) (x) : (s.setVstr k x).ports = s.ports := rfl
@[simp] theorem State.setVstr_rxWin (s : State) (k : Nat) (x) : (s.setVstr k x).rxWin = s.rxWin := rfl
@[simp] theorem State.setVstr_ecomps (s : State) (k : Nat) (x) : (s.setVstr k x).ecomps = s.ecomps := rfl
@[simp] theorem State.setVstr_decs (s : State) (k : Nat) (x) : (s.setVstr k x).decs = s.decs := rfl
@[simp] theorem State.setVstr_layouts (s : State) (k : Nat) (x) : (s.setVstr k x).layouts = s.layouts := rfl
@[simp] theorem State.setVstr_twin (s : State) (k : Nat) (x) : (s.setVstr k x).twin = s.twin := rfl
@[simp] theorem State.setVstr_links (s : State) (k : Nat) (x) : (s.setVstr k x).links = s.links := rfl
@[simp] theorem State.setVstr_fab (s : State) (k : Nat) (x) : (s.setVstr k x).fab = s.fab := rfl
@[simp] theorem State.setVstr_ddr (s : State) (k : Nat) (x) : (s.setVstr k x).ddr = s.ddr := rfl
@[simp] theorem State.setVstr_weir (s : State) (k : Nat) (x) : (s.setVstr k x).weir = s.weir := rfl
@[simp] theorem State.setVstr_poisoned (s : State) (k : Nat) (x) : (s.setVstr k x).poisoned = s.poisoned := rfl
@[simp] theorem State.setVstr_dramRead (s : State) (k : Nat) (x) : (s.setVstr k x).dramRead = s.dramRead := rfl
@[simp] theorem State.setVstr_fatalAt (s : State) (k : Nat) (x) : (s.setVstr k x).fatalAt = s.fatalAt := rfl
@[simp] theorem State.setVstr_sec (s : State) (k : Nat) (x) : (s.setVstr k x).sec = s.sec := rfl
@[simp] theorem State.setVstr_flash (s : State) (k : Nat) (x) : (s.setVstr k x).flash = s.flash := rfl
@[simp] theorem State.setVstr_boot (s : State) (k : Nat) (x) : (s.setVstr k x).boot = s.boot := rfl
@[simp] theorem State.setVstr_dma (s : State) (k : Nat) (x) : (s.setVstr k x).dma = s.dma := rfl
@[simp] theorem State.setVstr_bar2 (s : State) (k : Nat) (x) : (s.setVstr k x).bar2 = s.bar2 := rfl
@[simp] theorem State.setVstr_pwr (s : State) (k : Nat) (x) : (s.setVstr k x).pwr = s.pwr := rfl
@[simp] theorem State.setVstr_svc (s : State) (k : Nat) (x) : (s.setVstr k x).svc = s.svc := rfl
@[simp] theorem State.setVstr_crier (s : State) (k : Nat) (x) : (s.setVstr k x).crier = s.crier := rfl
@[simp] theorem State.setVstr_pins (s : State) (k : Nat) (x) : (s.setVstr k x).pins = s.pins := rfl
@[simp] theorem State.setVstr_uart (s : State) (k : Nat) (x) : (s.setVstr k x).uart = s.uart := rfl
@[simp] theorem State.setVstr_audio (s : State) (k : Nat) (x) : (s.setVstr k x).audio = s.audio := rfl
@[simp] theorem State.setVstr_legAudio (s : State) (k : Nat) (x) : (s.setVstr k x).legAudio = s.legAudio := rfl
@[simp] theorem State.setVstr_confAudio (s : State) (k : Nat) (x) : (s.setVstr k x).confAudio = s.confAudio := rfl
@[simp] theorem State.setVstr_mill (s : State) (k : Nat) (x) : (s.setVstr k x).mill = s.mill := rfl
@[simp] theorem State.setVstr_csram (s : State) (k : Nat) (x) : (s.setVstr k x).csram = s.csram := rfl
@[simp] theorem State.setVstr_kernels (s : State) (k : Nat) (x) : (s.setVstr k x).kernels = s.kernels := rfl
@[simp] theorem State.setVstr_kernelCmd (s : State) (k : Nat) (x) : (s.setVstr k x).kernelCmd = s.kernelCmd := rfl
@[simp] theorem State.setVstr_reeve (s : State) (k : Nat) (x) : (s.setVstr k x).reeve = s.reeve := rfl
@[simp] theorem State.setVstr_pending (s : State) (k : Nat) (x) : (s.setVstr k x).pending = s.pending := rfl
@[simp] theorem State.setVstr_rd (s : State) (k a : Nat) (x) : (s.setVstr k x).rd a = s.rd a := rfl

@[simp] theorem State.setOstr_ostr (s : State) (k j : Nat) (x) : (s.setOstr k x).ostr j = if j = k then x else s.ostr j := Sparse.get_set _ _ _ _ _
@[simp] theorem State.setOstr_regs (s : State) (k : Nat) (x) : (s.setOstr k x).regs = s.regs := rfl
@[simp] theorem State.setOstr_capture (s : State) (k : Nat) (x) : (s.setOstr k x).capture = s.capture := rfl
@[simp] theorem State.setOstr_heldLo (s : State) (k : Nat) (x) : (s.setOstr k x).heldLo = s.heldLo := rfl
@[simp] theorem State.setOstr_readData (s : State) (k : Nat) (x) : (s.setOstr k x).readData = s.readData := rfl
@[simp] theorem State.setOstr_clk (s : State) (k : Nat) (x) : (s.setOstr k x).clk = s.clk := rfl
@[simp] theorem State.setOstr_bel (s : State) (k : Nat) (x) : (s.setOstr k x).bel = s.bel := rfl
@[simp] theorem State.setOstr_gate (s : State) (k : Nat) (x) : (s.setOstr k x).gate = s.gate := rfl
@[simp] theorem State.setOstr_free (s : State) (k : Nat) (x) : (s.setOstr k x).free = s.free := rfl
@[simp] theorem State.setOstr_msix (s : State) (k : Nat) (x) : (s.setOstr k x).msix = s.msix := rfl
@[simp] theorem State.setOstr_evq (s : State) (k : Nat) (x) : (s.setOstr k x).evq = s.evq := rfl
@[simp] theorem State.setOstr_queues (s : State) (k : Nat) (x) : (s.setOstr k x).queues = s.queues := rfl
@[simp] theorem State.setOstr_bankq (s : State) (k : Nat) (x) : (s.setOstr k x).bankq = s.bankq := rfl
@[simp] theorem State.setOstr_freeCells (s : State) (k : Nat) (x) : (s.setOstr k x).freeCells = s.freeCells := rfl
@[simp] theorem State.setOstr_deviceReserved (s : State) (k : Nat) (x) : (s.setOstr k x).deviceReserved = s.deviceReserved := rfl
@[simp] theorem State.setOstr_cross (s : State) (k : Nat) (x) : (s.setOstr k x).cross = s.cross := rfl
@[simp] theorem State.setOstr_dram (s : State) (k : Nat) (x) : (s.setOstr k x).dram = s.dram := rfl
@[simp] theorem State.setOstr_hostMem (s : State) (k : Nat) (x) : (s.setOstr k x).hostMem = s.hostMem := rfl
@[simp] theorem State.setOstr_keys (s : State) (k : Nat) (x) : (s.setOstr k x).keys = s.keys := rfl
@[simp] theorem State.setOstr_faultLog (s : State) (k : Nat) (x) : (s.setOstr k x).faultLog = s.faultLog := rfl
@[simp] theorem State.setOstr_pkts (s : State) (k : Nat) (x) : (s.setOstr k x).pkts = s.pkts := rfl
@[simp] theorem State.setOstr_nextPkt (s : State) (k : Nat) (x) : (s.setOstr k x).nextPkt = s.nextPkt := rfl
@[simp] theorem State.setOstr_fences (s : State) (k : Nat) (x) : (s.setOstr k x).fences = s.fences := rfl
@[simp] theorem State.setOstr_fetches (s : State) (k : Nat) (x) : (s.setOstr k x).fetches = s.fetches := rfl
@[simp] theorem State.setOstr_legs (s : State) (k : Nat) (x) : (s.setOstr k x).legs = s.legs := rfl
@[simp] theorem State.setOstr_confs (s : State) (k : Nat) (x) : (s.setOstr k x).confs = s.confs := rfl
@[simp] theorem State.setOstr_taps (s : State) (k : Nat) (x) : (s.setOstr k x).taps = s.taps := rfl
@[simp] theorem State.setOstr_tdm (s : State) (k : Nat) (x) : (s.setOstr k x).tdm = s.tdm := rfl
@[simp] theorem State.setOstr_windows (s : State) (k : Nat) (x) : (s.setOstr k x).windows = s.windows := rfl
@[simp] theorem State.setOstr_planes (s : State) (k : Nat) (x) : (s.setOstr k x).planes = s.planes := rfl
@[simp] theorem State.setOstr_vstrs (s : State) (k : Nat) (x) : (s.setOstr k x).vstrs = s.vstrs := rfl
@[simp] theorem State.setOstr_ports (s : State) (k : Nat) (x) : (s.setOstr k x).ports = s.ports := rfl
@[simp] theorem State.setOstr_rxWin (s : State) (k : Nat) (x) : (s.setOstr k x).rxWin = s.rxWin := rfl
@[simp] theorem State.setOstr_ecomps (s : State) (k : Nat) (x) : (s.setOstr k x).ecomps = s.ecomps := rfl
@[simp] theorem State.setOstr_decs (s : State) (k : Nat) (x) : (s.setOstr k x).decs = s.decs := rfl
@[simp] theorem State.setOstr_layouts (s : State) (k : Nat) (x) : (s.setOstr k x).layouts = s.layouts := rfl
@[simp] theorem State.setOstr_twin (s : State) (k : Nat) (x) : (s.setOstr k x).twin = s.twin := rfl
@[simp] theorem State.setOstr_links (s : State) (k : Nat) (x) : (s.setOstr k x).links = s.links := rfl
@[simp] theorem State.setOstr_fab (s : State) (k : Nat) (x) : (s.setOstr k x).fab = s.fab := rfl
@[simp] theorem State.setOstr_ddr (s : State) (k : Nat) (x) : (s.setOstr k x).ddr = s.ddr := rfl
@[simp] theorem State.setOstr_weir (s : State) (k : Nat) (x) : (s.setOstr k x).weir = s.weir := rfl
@[simp] theorem State.setOstr_poisoned (s : State) (k : Nat) (x) : (s.setOstr k x).poisoned = s.poisoned := rfl
@[simp] theorem State.setOstr_dramRead (s : State) (k : Nat) (x) : (s.setOstr k x).dramRead = s.dramRead := rfl
@[simp] theorem State.setOstr_fatalAt (s : State) (k : Nat) (x) : (s.setOstr k x).fatalAt = s.fatalAt := rfl
@[simp] theorem State.setOstr_sec (s : State) (k : Nat) (x) : (s.setOstr k x).sec = s.sec := rfl
@[simp] theorem State.setOstr_flash (s : State) (k : Nat) (x) : (s.setOstr k x).flash = s.flash := rfl
@[simp] theorem State.setOstr_boot (s : State) (k : Nat) (x) : (s.setOstr k x).boot = s.boot := rfl
@[simp] theorem State.setOstr_dma (s : State) (k : Nat) (x) : (s.setOstr k x).dma = s.dma := rfl
@[simp] theorem State.setOstr_bar2 (s : State) (k : Nat) (x) : (s.setOstr k x).bar2 = s.bar2 := rfl
@[simp] theorem State.setOstr_pwr (s : State) (k : Nat) (x) : (s.setOstr k x).pwr = s.pwr := rfl
@[simp] theorem State.setOstr_svc (s : State) (k : Nat) (x) : (s.setOstr k x).svc = s.svc := rfl
@[simp] theorem State.setOstr_crier (s : State) (k : Nat) (x) : (s.setOstr k x).crier = s.crier := rfl
@[simp] theorem State.setOstr_pins (s : State) (k : Nat) (x) : (s.setOstr k x).pins = s.pins := rfl
@[simp] theorem State.setOstr_uart (s : State) (k : Nat) (x) : (s.setOstr k x).uart = s.uart := rfl
@[simp] theorem State.setOstr_audio (s : State) (k : Nat) (x) : (s.setOstr k x).audio = s.audio := rfl
@[simp] theorem State.setOstr_legAudio (s : State) (k : Nat) (x) : (s.setOstr k x).legAudio = s.legAudio := rfl
@[simp] theorem State.setOstr_confAudio (s : State) (k : Nat) (x) : (s.setOstr k x).confAudio = s.confAudio := rfl
@[simp] theorem State.setOstr_mill (s : State) (k : Nat) (x) : (s.setOstr k x).mill = s.mill := rfl
@[simp] theorem State.setOstr_csram (s : State) (k : Nat) (x) : (s.setOstr k x).csram = s.csram := rfl
@[simp] theorem State.setOstr_kernels (s : State) (k : Nat) (x) : (s.setOstr k x).kernels = s.kernels := rfl
@[simp] theorem State.setOstr_kernelCmd (s : State) (k : Nat) (x) : (s.setOstr k x).kernelCmd = s.kernelCmd := rfl
@[simp] theorem State.setOstr_reeve (s : State) (k : Nat) (x) : (s.setOstr k x).reeve = s.reeve := rfl
@[simp] theorem State.setOstr_pending (s : State) (k : Nat) (x) : (s.setOstr k x).pending = s.pending := rfl
@[simp] theorem State.setOstr_rd (s : State) (k a : Nat) (x) : (s.setOstr k x).rd a = s.rd a := rfl

@[simp] theorem State.setPort_port (s : State) (k j : Nat) (x) : (s.setPort k x).port j = if j = k then x else s.port j := Sparse.get_set _ _ _ _ _
@[simp] theorem State.setPort_regs (s : State) (k : Nat) (x) : (s.setPort k x).regs = s.regs := rfl
@[simp] theorem State.setPort_capture (s : State) (k : Nat) (x) : (s.setPort k x).capture = s.capture := rfl
@[simp] theorem State.setPort_heldLo (s : State) (k : Nat) (x) : (s.setPort k x).heldLo = s.heldLo := rfl
@[simp] theorem State.setPort_readData (s : State) (k : Nat) (x) : (s.setPort k x).readData = s.readData := rfl
@[simp] theorem State.setPort_clk (s : State) (k : Nat) (x) : (s.setPort k x).clk = s.clk := rfl
@[simp] theorem State.setPort_bel (s : State) (k : Nat) (x) : (s.setPort k x).bel = s.bel := rfl
@[simp] theorem State.setPort_gate (s : State) (k : Nat) (x) : (s.setPort k x).gate = s.gate := rfl
@[simp] theorem State.setPort_free (s : State) (k : Nat) (x) : (s.setPort k x).free = s.free := rfl
@[simp] theorem State.setPort_msix (s : State) (k : Nat) (x) : (s.setPort k x).msix = s.msix := rfl
@[simp] theorem State.setPort_evq (s : State) (k : Nat) (x) : (s.setPort k x).evq = s.evq := rfl
@[simp] theorem State.setPort_queues (s : State) (k : Nat) (x) : (s.setPort k x).queues = s.queues := rfl
@[simp] theorem State.setPort_bankq (s : State) (k : Nat) (x) : (s.setPort k x).bankq = s.bankq := rfl
@[simp] theorem State.setPort_freeCells (s : State) (k : Nat) (x) : (s.setPort k x).freeCells = s.freeCells := rfl
@[simp] theorem State.setPort_deviceReserved (s : State) (k : Nat) (x) : (s.setPort k x).deviceReserved = s.deviceReserved := rfl
@[simp] theorem State.setPort_cross (s : State) (k : Nat) (x) : (s.setPort k x).cross = s.cross := rfl
@[simp] theorem State.setPort_dram (s : State) (k : Nat) (x) : (s.setPort k x).dram = s.dram := rfl
@[simp] theorem State.setPort_hostMem (s : State) (k : Nat) (x) : (s.setPort k x).hostMem = s.hostMem := rfl
@[simp] theorem State.setPort_keys (s : State) (k : Nat) (x) : (s.setPort k x).keys = s.keys := rfl
@[simp] theorem State.setPort_faultLog (s : State) (k : Nat) (x) : (s.setPort k x).faultLog = s.faultLog := rfl
@[simp] theorem State.setPort_pkts (s : State) (k : Nat) (x) : (s.setPort k x).pkts = s.pkts := rfl
@[simp] theorem State.setPort_nextPkt (s : State) (k : Nat) (x) : (s.setPort k x).nextPkt = s.nextPkt := rfl
@[simp] theorem State.setPort_fences (s : State) (k : Nat) (x) : (s.setPort k x).fences = s.fences := rfl
@[simp] theorem State.setPort_fetches (s : State) (k : Nat) (x) : (s.setPort k x).fetches = s.fetches := rfl
@[simp] theorem State.setPort_legs (s : State) (k : Nat) (x) : (s.setPort k x).legs = s.legs := rfl
@[simp] theorem State.setPort_confs (s : State) (k : Nat) (x) : (s.setPort k x).confs = s.confs := rfl
@[simp] theorem State.setPort_taps (s : State) (k : Nat) (x) : (s.setPort k x).taps = s.taps := rfl
@[simp] theorem State.setPort_tdm (s : State) (k : Nat) (x) : (s.setPort k x).tdm = s.tdm := rfl
@[simp] theorem State.setPort_windows (s : State) (k : Nat) (x) : (s.setPort k x).windows = s.windows := rfl
@[simp] theorem State.setPort_planes (s : State) (k : Nat) (x) : (s.setPort k x).planes = s.planes := rfl
@[simp] theorem State.setPort_vstrs (s : State) (k : Nat) (x) : (s.setPort k x).vstrs = s.vstrs := rfl
@[simp] theorem State.setPort_ostrs (s : State) (k : Nat) (x) : (s.setPort k x).ostrs = s.ostrs := rfl
@[simp] theorem State.setPort_rxWin (s : State) (k : Nat) (x) : (s.setPort k x).rxWin = s.rxWin := rfl
@[simp] theorem State.setPort_ecomps (s : State) (k : Nat) (x) : (s.setPort k x).ecomps = s.ecomps := rfl
@[simp] theorem State.setPort_decs (s : State) (k : Nat) (x) : (s.setPort k x).decs = s.decs := rfl
@[simp] theorem State.setPort_layouts (s : State) (k : Nat) (x) : (s.setPort k x).layouts = s.layouts := rfl
@[simp] theorem State.setPort_twin (s : State) (k : Nat) (x) : (s.setPort k x).twin = s.twin := rfl
@[simp] theorem State.setPort_links (s : State) (k : Nat) (x) : (s.setPort k x).links = s.links := rfl
@[simp] theorem State.setPort_fab (s : State) (k : Nat) (x) : (s.setPort k x).fab = s.fab := rfl
@[simp] theorem State.setPort_ddr (s : State) (k : Nat) (x) : (s.setPort k x).ddr = s.ddr := rfl
@[simp] theorem State.setPort_weir (s : State) (k : Nat) (x) : (s.setPort k x).weir = s.weir := rfl
@[simp] theorem State.setPort_poisoned (s : State) (k : Nat) (x) : (s.setPort k x).poisoned = s.poisoned := rfl
@[simp] theorem State.setPort_dramRead (s : State) (k : Nat) (x) : (s.setPort k x).dramRead = s.dramRead := rfl
@[simp] theorem State.setPort_fatalAt (s : State) (k : Nat) (x) : (s.setPort k x).fatalAt = s.fatalAt := rfl
@[simp] theorem State.setPort_sec (s : State) (k : Nat) (x) : (s.setPort k x).sec = s.sec := rfl
@[simp] theorem State.setPort_flash (s : State) (k : Nat) (x) : (s.setPort k x).flash = s.flash := rfl
@[simp] theorem State.setPort_boot (s : State) (k : Nat) (x) : (s.setPort k x).boot = s.boot := rfl
@[simp] theorem State.setPort_dma (s : State) (k : Nat) (x) : (s.setPort k x).dma = s.dma := rfl
@[simp] theorem State.setPort_bar2 (s : State) (k : Nat) (x) : (s.setPort k x).bar2 = s.bar2 := rfl
@[simp] theorem State.setPort_pwr (s : State) (k : Nat) (x) : (s.setPort k x).pwr = s.pwr := rfl
@[simp] theorem State.setPort_svc (s : State) (k : Nat) (x) : (s.setPort k x).svc = s.svc := rfl
@[simp] theorem State.setPort_crier (s : State) (k : Nat) (x) : (s.setPort k x).crier = s.crier := rfl
@[simp] theorem State.setPort_pins (s : State) (k : Nat) (x) : (s.setPort k x).pins = s.pins := rfl
@[simp] theorem State.setPort_uart (s : State) (k : Nat) (x) : (s.setPort k x).uart = s.uart := rfl
@[simp] theorem State.setPort_audio (s : State) (k : Nat) (x) : (s.setPort k x).audio = s.audio := rfl
@[simp] theorem State.setPort_legAudio (s : State) (k : Nat) (x) : (s.setPort k x).legAudio = s.legAudio := rfl
@[simp] theorem State.setPort_confAudio (s : State) (k : Nat) (x) : (s.setPort k x).confAudio = s.confAudio := rfl
@[simp] theorem State.setPort_mill (s : State) (k : Nat) (x) : (s.setPort k x).mill = s.mill := rfl
@[simp] theorem State.setPort_csram (s : State) (k : Nat) (x) : (s.setPort k x).csram = s.csram := rfl
@[simp] theorem State.setPort_kernels (s : State) (k : Nat) (x) : (s.setPort k x).kernels = s.kernels := rfl
@[simp] theorem State.setPort_kernelCmd (s : State) (k : Nat) (x) : (s.setPort k x).kernelCmd = s.kernelCmd := rfl
@[simp] theorem State.setPort_reeve (s : State) (k : Nat) (x) : (s.setPort k x).reeve = s.reeve := rfl
@[simp] theorem State.setPort_pending (s : State) (k : Nat) (x) : (s.setPort k x).pending = s.pending := rfl
@[simp] theorem State.setPort_rd (s : State) (k a : Nat) (x) : (s.setPort k x).rd a = s.rd a := rfl

@[simp] theorem State.setQueue_queue (s : State) (k j : Nat) (x) : (s.setQueue k x).queue j = if j = k then x else s.queue j := Sparse.get_set _ _ _ _ _
@[simp] theorem State.setQueue_regs (s : State) (k : Nat) (x) : (s.setQueue k x).regs = s.regs := rfl
@[simp] theorem State.setQueue_capture (s : State) (k : Nat) (x) : (s.setQueue k x).capture = s.capture := rfl
@[simp] theorem State.setQueue_heldLo (s : State) (k : Nat) (x) : (s.setQueue k x).heldLo = s.heldLo := rfl
@[simp] theorem State.setQueue_readData (s : State) (k : Nat) (x) : (s.setQueue k x).readData = s.readData := rfl
@[simp] theorem State.setQueue_clk (s : State) (k : Nat) (x) : (s.setQueue k x).clk = s.clk := rfl
@[simp] theorem State.setQueue_bel (s : State) (k : Nat) (x) : (s.setQueue k x).bel = s.bel := rfl
@[simp] theorem State.setQueue_gate (s : State) (k : Nat) (x) : (s.setQueue k x).gate = s.gate := rfl
@[simp] theorem State.setQueue_free (s : State) (k : Nat) (x) : (s.setQueue k x).free = s.free := rfl
@[simp] theorem State.setQueue_msix (s : State) (k : Nat) (x) : (s.setQueue k x).msix = s.msix := rfl
@[simp] theorem State.setQueue_evq (s : State) (k : Nat) (x) : (s.setQueue k x).evq = s.evq := rfl
@[simp] theorem State.setQueue_bankq (s : State) (k : Nat) (x) : (s.setQueue k x).bankq = s.bankq := rfl
@[simp] theorem State.setQueue_freeCells (s : State) (k : Nat) (x) : (s.setQueue k x).freeCells = s.freeCells := rfl
@[simp] theorem State.setQueue_deviceReserved (s : State) (k : Nat) (x) : (s.setQueue k x).deviceReserved = s.deviceReserved := rfl
@[simp] theorem State.setQueue_cross (s : State) (k : Nat) (x) : (s.setQueue k x).cross = s.cross := rfl
@[simp] theorem State.setQueue_dram (s : State) (k : Nat) (x) : (s.setQueue k x).dram = s.dram := rfl
@[simp] theorem State.setQueue_hostMem (s : State) (k : Nat) (x) : (s.setQueue k x).hostMem = s.hostMem := rfl
@[simp] theorem State.setQueue_keys (s : State) (k : Nat) (x) : (s.setQueue k x).keys = s.keys := rfl
@[simp] theorem State.setQueue_faultLog (s : State) (k : Nat) (x) : (s.setQueue k x).faultLog = s.faultLog := rfl
@[simp] theorem State.setQueue_pkts (s : State) (k : Nat) (x) : (s.setQueue k x).pkts = s.pkts := rfl
@[simp] theorem State.setQueue_nextPkt (s : State) (k : Nat) (x) : (s.setQueue k x).nextPkt = s.nextPkt := rfl
@[simp] theorem State.setQueue_fences (s : State) (k : Nat) (x) : (s.setQueue k x).fences = s.fences := rfl
@[simp] theorem State.setQueue_fetches (s : State) (k : Nat) (x) : (s.setQueue k x).fetches = s.fetches := rfl
@[simp] theorem State.setQueue_legs (s : State) (k : Nat) (x) : (s.setQueue k x).legs = s.legs := rfl
@[simp] theorem State.setQueue_confs (s : State) (k : Nat) (x) : (s.setQueue k x).confs = s.confs := rfl
@[simp] theorem State.setQueue_taps (s : State) (k : Nat) (x) : (s.setQueue k x).taps = s.taps := rfl
@[simp] theorem State.setQueue_tdm (s : State) (k : Nat) (x) : (s.setQueue k x).tdm = s.tdm := rfl
@[simp] theorem State.setQueue_windows (s : State) (k : Nat) (x) : (s.setQueue k x).windows = s.windows := rfl
@[simp] theorem State.setQueue_planes (s : State) (k : Nat) (x) : (s.setQueue k x).planes = s.planes := rfl
@[simp] theorem State.setQueue_vstrs (s : State) (k : Nat) (x) : (s.setQueue k x).vstrs = s.vstrs := rfl
@[simp] theorem State.setQueue_ostrs (s : State) (k : Nat) (x) : (s.setQueue k x).ostrs = s.ostrs := rfl
@[simp] theorem State.setQueue_ports (s : State) (k : Nat) (x) : (s.setQueue k x).ports = s.ports := rfl
@[simp] theorem State.setQueue_rxWin (s : State) (k : Nat) (x) : (s.setQueue k x).rxWin = s.rxWin := rfl
@[simp] theorem State.setQueue_ecomps (s : State) (k : Nat) (x) : (s.setQueue k x).ecomps = s.ecomps := rfl
@[simp] theorem State.setQueue_decs (s : State) (k : Nat) (x) : (s.setQueue k x).decs = s.decs := rfl
@[simp] theorem State.setQueue_layouts (s : State) (k : Nat) (x) : (s.setQueue k x).layouts = s.layouts := rfl
@[simp] theorem State.setQueue_twin (s : State) (k : Nat) (x) : (s.setQueue k x).twin = s.twin := rfl
@[simp] theorem State.setQueue_links (s : State) (k : Nat) (x) : (s.setQueue k x).links = s.links := rfl
@[simp] theorem State.setQueue_fab (s : State) (k : Nat) (x) : (s.setQueue k x).fab = s.fab := rfl
@[simp] theorem State.setQueue_ddr (s : State) (k : Nat) (x) : (s.setQueue k x).ddr = s.ddr := rfl
@[simp] theorem State.setQueue_weir (s : State) (k : Nat) (x) : (s.setQueue k x).weir = s.weir := rfl
@[simp] theorem State.setQueue_poisoned (s : State) (k : Nat) (x) : (s.setQueue k x).poisoned = s.poisoned := rfl
@[simp] theorem State.setQueue_dramRead (s : State) (k : Nat) (x) : (s.setQueue k x).dramRead = s.dramRead := rfl
@[simp] theorem State.setQueue_fatalAt (s : State) (k : Nat) (x) : (s.setQueue k x).fatalAt = s.fatalAt := rfl
@[simp] theorem State.setQueue_sec (s : State) (k : Nat) (x) : (s.setQueue k x).sec = s.sec := rfl
@[simp] theorem State.setQueue_flash (s : State) (k : Nat) (x) : (s.setQueue k x).flash = s.flash := rfl
@[simp] theorem State.setQueue_boot (s : State) (k : Nat) (x) : (s.setQueue k x).boot = s.boot := rfl
@[simp] theorem State.setQueue_dma (s : State) (k : Nat) (x) : (s.setQueue k x).dma = s.dma := rfl
@[simp] theorem State.setQueue_bar2 (s : State) (k : Nat) (x) : (s.setQueue k x).bar2 = s.bar2 := rfl
@[simp] theorem State.setQueue_pwr (s : State) (k : Nat) (x) : (s.setQueue k x).pwr = s.pwr := rfl
@[simp] theorem State.setQueue_svc (s : State) (k : Nat) (x) : (s.setQueue k x).svc = s.svc := rfl
@[simp] theorem State.setQueue_crier (s : State) (k : Nat) (x) : (s.setQueue k x).crier = s.crier := rfl
@[simp] theorem State.setQueue_pins (s : State) (k : Nat) (x) : (s.setQueue k x).pins = s.pins := rfl
@[simp] theorem State.setQueue_uart (s : State) (k : Nat) (x) : (s.setQueue k x).uart = s.uart := rfl
@[simp] theorem State.setQueue_audio (s : State) (k : Nat) (x) : (s.setQueue k x).audio = s.audio := rfl
@[simp] theorem State.setQueue_legAudio (s : State) (k : Nat) (x) : (s.setQueue k x).legAudio = s.legAudio := rfl
@[simp] theorem State.setQueue_confAudio (s : State) (k : Nat) (x) : (s.setQueue k x).confAudio = s.confAudio := rfl
@[simp] theorem State.setQueue_mill (s : State) (k : Nat) (x) : (s.setQueue k x).mill = s.mill := rfl
@[simp] theorem State.setQueue_csram (s : State) (k : Nat) (x) : (s.setQueue k x).csram = s.csram := rfl
@[simp] theorem State.setQueue_kernels (s : State) (k : Nat) (x) : (s.setQueue k x).kernels = s.kernels := rfl
@[simp] theorem State.setQueue_kernelCmd (s : State) (k : Nat) (x) : (s.setQueue k x).kernelCmd = s.kernelCmd := rfl
@[simp] theorem State.setQueue_reeve (s : State) (k : Nat) (x) : (s.setQueue k x).reeve = s.reeve := rfl
@[simp] theorem State.setQueue_pending (s : State) (k : Nat) (x) : (s.setQueue k x).pending = s.pending := rfl
@[simp] theorem State.setQueue_rd (s : State) (k a : Nat) (x) : (s.setQueue k x).rd a = s.rd a := rfl

@[simp] theorem State.setTrg_trg (s : State) (k j : Nat) (x) : (s.setTrg k x).trg j = if j = k then x else s.trg j := Sparse.get_set _ _ _ _ _
@[simp] theorem State.setTrg_regs (s : State) (k : Nat) (x) : (s.setTrg k x).regs = s.regs := rfl
@[simp] theorem State.setTrg_capture (s : State) (k : Nat) (x) : (s.setTrg k x).capture = s.capture := rfl
@[simp] theorem State.setTrg_heldLo (s : State) (k : Nat) (x) : (s.setTrg k x).heldLo = s.heldLo := rfl
@[simp] theorem State.setTrg_readData (s : State) (k : Nat) (x) : (s.setTrg k x).readData = s.readData := rfl
@[simp] theorem State.setTrg_clk (s : State) (k : Nat) (x) : (s.setTrg k x).clk = s.clk := rfl
@[simp] theorem State.setTrg_gate (s : State) (k : Nat) (x) : (s.setTrg k x).gate = s.gate := rfl
@[simp] theorem State.setTrg_free (s : State) (k : Nat) (x) : (s.setTrg k x).free = s.free := rfl
@[simp] theorem State.setTrg_msix (s : State) (k : Nat) (x) : (s.setTrg k x).msix = s.msix := rfl
@[simp] theorem State.setTrg_evq (s : State) (k : Nat) (x) : (s.setTrg k x).evq = s.evq := rfl
@[simp] theorem State.setTrg_queues (s : State) (k : Nat) (x) : (s.setTrg k x).queues = s.queues := rfl
@[simp] theorem State.setTrg_bankq (s : State) (k : Nat) (x) : (s.setTrg k x).bankq = s.bankq := rfl
@[simp] theorem State.setTrg_freeCells (s : State) (k : Nat) (x) : (s.setTrg k x).freeCells = s.freeCells := rfl
@[simp] theorem State.setTrg_deviceReserved (s : State) (k : Nat) (x) : (s.setTrg k x).deviceReserved = s.deviceReserved := rfl
@[simp] theorem State.setTrg_cross (s : State) (k : Nat) (x) : (s.setTrg k x).cross = s.cross := rfl
@[simp] theorem State.setTrg_dram (s : State) (k : Nat) (x) : (s.setTrg k x).dram = s.dram := rfl
@[simp] theorem State.setTrg_hostMem (s : State) (k : Nat) (x) : (s.setTrg k x).hostMem = s.hostMem := rfl
@[simp] theorem State.setTrg_keys (s : State) (k : Nat) (x) : (s.setTrg k x).keys = s.keys := rfl
@[simp] theorem State.setTrg_faultLog (s : State) (k : Nat) (x) : (s.setTrg k x).faultLog = s.faultLog := rfl
@[simp] theorem State.setTrg_pkts (s : State) (k : Nat) (x) : (s.setTrg k x).pkts = s.pkts := rfl
@[simp] theorem State.setTrg_nextPkt (s : State) (k : Nat) (x) : (s.setTrg k x).nextPkt = s.nextPkt := rfl
@[simp] theorem State.setTrg_fences (s : State) (k : Nat) (x) : (s.setTrg k x).fences = s.fences := rfl
@[simp] theorem State.setTrg_fetches (s : State) (k : Nat) (x) : (s.setTrg k x).fetches = s.fetches := rfl
@[simp] theorem State.setTrg_legs (s : State) (k : Nat) (x) : (s.setTrg k x).legs = s.legs := rfl
@[simp] theorem State.setTrg_confs (s : State) (k : Nat) (x) : (s.setTrg k x).confs = s.confs := rfl
@[simp] theorem State.setTrg_taps (s : State) (k : Nat) (x) : (s.setTrg k x).taps = s.taps := rfl
@[simp] theorem State.setTrg_tdm (s : State) (k : Nat) (x) : (s.setTrg k x).tdm = s.tdm := rfl
@[simp] theorem State.setTrg_windows (s : State) (k : Nat) (x) : (s.setTrg k x).windows = s.windows := rfl
@[simp] theorem State.setTrg_planes (s : State) (k : Nat) (x) : (s.setTrg k x).planes = s.planes := rfl
@[simp] theorem State.setTrg_vstrs (s : State) (k : Nat) (x) : (s.setTrg k x).vstrs = s.vstrs := rfl
@[simp] theorem State.setTrg_ostrs (s : State) (k : Nat) (x) : (s.setTrg k x).ostrs = s.ostrs := rfl
@[simp] theorem State.setTrg_ports (s : State) (k : Nat) (x) : (s.setTrg k x).ports = s.ports := rfl
@[simp] theorem State.setTrg_rxWin (s : State) (k : Nat) (x) : (s.setTrg k x).rxWin = s.rxWin := rfl
@[simp] theorem State.setTrg_ecomps (s : State) (k : Nat) (x) : (s.setTrg k x).ecomps = s.ecomps := rfl
@[simp] theorem State.setTrg_decs (s : State) (k : Nat) (x) : (s.setTrg k x).decs = s.decs := rfl
@[simp] theorem State.setTrg_layouts (s : State) (k : Nat) (x) : (s.setTrg k x).layouts = s.layouts := rfl
@[simp] theorem State.setTrg_twin (s : State) (k : Nat) (x) : (s.setTrg k x).twin = s.twin := rfl
@[simp] theorem State.setTrg_links (s : State) (k : Nat) (x) : (s.setTrg k x).links = s.links := rfl
@[simp] theorem State.setTrg_fab (s : State) (k : Nat) (x) : (s.setTrg k x).fab = s.fab := rfl
@[simp] theorem State.setTrg_ddr (s : State) (k : Nat) (x) : (s.setTrg k x).ddr = s.ddr := rfl
@[simp] theorem State.setTrg_weir (s : State) (k : Nat) (x) : (s.setTrg k x).weir = s.weir := rfl
@[simp] theorem State.setTrg_poisoned (s : State) (k : Nat) (x) : (s.setTrg k x).poisoned = s.poisoned := rfl
@[simp] theorem State.setTrg_dramRead (s : State) (k : Nat) (x) : (s.setTrg k x).dramRead = s.dramRead := rfl
@[simp] theorem State.setTrg_fatalAt (s : State) (k : Nat) (x) : (s.setTrg k x).fatalAt = s.fatalAt := rfl
@[simp] theorem State.setTrg_sec (s : State) (k : Nat) (x) : (s.setTrg k x).sec = s.sec := rfl
@[simp] theorem State.setTrg_flash (s : State) (k : Nat) (x) : (s.setTrg k x).flash = s.flash := rfl
@[simp] theorem State.setTrg_boot (s : State) (k : Nat) (x) : (s.setTrg k x).boot = s.boot := rfl
@[simp] theorem State.setTrg_dma (s : State) (k : Nat) (x) : (s.setTrg k x).dma = s.dma := rfl
@[simp] theorem State.setTrg_bar2 (s : State) (k : Nat) (x) : (s.setTrg k x).bar2 = s.bar2 := rfl
@[simp] theorem State.setTrg_pwr (s : State) (k : Nat) (x) : (s.setTrg k x).pwr = s.pwr := rfl
@[simp] theorem State.setTrg_svc (s : State) (k : Nat) (x) : (s.setTrg k x).svc = s.svc := rfl
@[simp] theorem State.setTrg_crier (s : State) (k : Nat) (x) : (s.setTrg k x).crier = s.crier := rfl
@[simp] theorem State.setTrg_pins (s : State) (k : Nat) (x) : (s.setTrg k x).pins = s.pins := rfl
@[simp] theorem State.setTrg_uart (s : State) (k : Nat) (x) : (s.setTrg k x).uart = s.uart := rfl
@[simp] theorem State.setTrg_audio (s : State) (k : Nat) (x) : (s.setTrg k x).audio = s.audio := rfl
@[simp] theorem State.setTrg_legAudio (s : State) (k : Nat) (x) : (s.setTrg k x).legAudio = s.legAudio := rfl
@[simp] theorem State.setTrg_confAudio (s : State) (k : Nat) (x) : (s.setTrg k x).confAudio = s.confAudio := rfl
@[simp] theorem State.setTrg_mill (s : State) (k : Nat) (x) : (s.setTrg k x).mill = s.mill := rfl
@[simp] theorem State.setTrg_csram (s : State) (k : Nat) (x) : (s.setTrg k x).csram = s.csram := rfl
@[simp] theorem State.setTrg_kernels (s : State) (k : Nat) (x) : (s.setTrg k x).kernels = s.kernels := rfl
@[simp] theorem State.setTrg_kernelCmd (s : State) (k : Nat) (x) : (s.setTrg k x).kernelCmd = s.kernelCmd := rfl
@[simp] theorem State.setTrg_reeve (s : State) (k : Nat) (x) : (s.setTrg k x).reeve = s.reeve := rfl
@[simp] theorem State.setTrg_pending (s : State) (k : Nat) (x) : (s.setTrg k x).pending = s.pending := rfl
@[simp] theorem State.setTrg_rd (s : State) (k a : Nat) (x) : (s.setTrg k x).rd a = s.rd a := rfl

@[simp] theorem State.setCap_cap (s : State) (k j : Nat) (x) : (s.setCap k x).cap j = if j = k then x else s.cap j := Sparse.get_set _ _ _ _ _
@[simp] theorem State.setCap_regs (s : State) (k : Nat) (x) : (s.setCap k x).regs = s.regs := rfl
@[simp] theorem State.setCap_capture (s : State) (k : Nat) (x) : (s.setCap k x).capture = s.capture := rfl
@[simp] theorem State.setCap_heldLo (s : State) (k : Nat) (x) : (s.setCap k x).heldLo = s.heldLo := rfl
@[simp] theorem State.setCap_readData (s : State) (k : Nat) (x) : (s.setCap k x).readData = s.readData := rfl
@[simp] theorem State.setCap_clk (s : State) (k : Nat) (x) : (s.setCap k x).clk = s.clk := rfl
@[simp] theorem State.setCap_gate (s : State) (k : Nat) (x) : (s.setCap k x).gate = s.gate := rfl
@[simp] theorem State.setCap_free (s : State) (k : Nat) (x) : (s.setCap k x).free = s.free := rfl
@[simp] theorem State.setCap_msix (s : State) (k : Nat) (x) : (s.setCap k x).msix = s.msix := rfl
@[simp] theorem State.setCap_evq (s : State) (k : Nat) (x) : (s.setCap k x).evq = s.evq := rfl
@[simp] theorem State.setCap_queues (s : State) (k : Nat) (x) : (s.setCap k x).queues = s.queues := rfl
@[simp] theorem State.setCap_bankq (s : State) (k : Nat) (x) : (s.setCap k x).bankq = s.bankq := rfl
@[simp] theorem State.setCap_freeCells (s : State) (k : Nat) (x) : (s.setCap k x).freeCells = s.freeCells := rfl
@[simp] theorem State.setCap_deviceReserved (s : State) (k : Nat) (x) : (s.setCap k x).deviceReserved = s.deviceReserved := rfl
@[simp] theorem State.setCap_cross (s : State) (k : Nat) (x) : (s.setCap k x).cross = s.cross := rfl
@[simp] theorem State.setCap_dram (s : State) (k : Nat) (x) : (s.setCap k x).dram = s.dram := rfl
@[simp] theorem State.setCap_hostMem (s : State) (k : Nat) (x) : (s.setCap k x).hostMem = s.hostMem := rfl
@[simp] theorem State.setCap_keys (s : State) (k : Nat) (x) : (s.setCap k x).keys = s.keys := rfl
@[simp] theorem State.setCap_faultLog (s : State) (k : Nat) (x) : (s.setCap k x).faultLog = s.faultLog := rfl
@[simp] theorem State.setCap_pkts (s : State) (k : Nat) (x) : (s.setCap k x).pkts = s.pkts := rfl
@[simp] theorem State.setCap_nextPkt (s : State) (k : Nat) (x) : (s.setCap k x).nextPkt = s.nextPkt := rfl
@[simp] theorem State.setCap_fences (s : State) (k : Nat) (x) : (s.setCap k x).fences = s.fences := rfl
@[simp] theorem State.setCap_fetches (s : State) (k : Nat) (x) : (s.setCap k x).fetches = s.fetches := rfl
@[simp] theorem State.setCap_legs (s : State) (k : Nat) (x) : (s.setCap k x).legs = s.legs := rfl
@[simp] theorem State.setCap_confs (s : State) (k : Nat) (x) : (s.setCap k x).confs = s.confs := rfl
@[simp] theorem State.setCap_taps (s : State) (k : Nat) (x) : (s.setCap k x).taps = s.taps := rfl
@[simp] theorem State.setCap_tdm (s : State) (k : Nat) (x) : (s.setCap k x).tdm = s.tdm := rfl
@[simp] theorem State.setCap_windows (s : State) (k : Nat) (x) : (s.setCap k x).windows = s.windows := rfl
@[simp] theorem State.setCap_planes (s : State) (k : Nat) (x) : (s.setCap k x).planes = s.planes := rfl
@[simp] theorem State.setCap_vstrs (s : State) (k : Nat) (x) : (s.setCap k x).vstrs = s.vstrs := rfl
@[simp] theorem State.setCap_ostrs (s : State) (k : Nat) (x) : (s.setCap k x).ostrs = s.ostrs := rfl
@[simp] theorem State.setCap_ports (s : State) (k : Nat) (x) : (s.setCap k x).ports = s.ports := rfl
@[simp] theorem State.setCap_rxWin (s : State) (k : Nat) (x) : (s.setCap k x).rxWin = s.rxWin := rfl
@[simp] theorem State.setCap_ecomps (s : State) (k : Nat) (x) : (s.setCap k x).ecomps = s.ecomps := rfl
@[simp] theorem State.setCap_decs (s : State) (k : Nat) (x) : (s.setCap k x).decs = s.decs := rfl
@[simp] theorem State.setCap_layouts (s : State) (k : Nat) (x) : (s.setCap k x).layouts = s.layouts := rfl
@[simp] theorem State.setCap_twin (s : State) (k : Nat) (x) : (s.setCap k x).twin = s.twin := rfl
@[simp] theorem State.setCap_links (s : State) (k : Nat) (x) : (s.setCap k x).links = s.links := rfl
@[simp] theorem State.setCap_fab (s : State) (k : Nat) (x) : (s.setCap k x).fab = s.fab := rfl
@[simp] theorem State.setCap_ddr (s : State) (k : Nat) (x) : (s.setCap k x).ddr = s.ddr := rfl
@[simp] theorem State.setCap_weir (s : State) (k : Nat) (x) : (s.setCap k x).weir = s.weir := rfl
@[simp] theorem State.setCap_poisoned (s : State) (k : Nat) (x) : (s.setCap k x).poisoned = s.poisoned := rfl
@[simp] theorem State.setCap_dramRead (s : State) (k : Nat) (x) : (s.setCap k x).dramRead = s.dramRead := rfl
@[simp] theorem State.setCap_fatalAt (s : State) (k : Nat) (x) : (s.setCap k x).fatalAt = s.fatalAt := rfl
@[simp] theorem State.setCap_sec (s : State) (k : Nat) (x) : (s.setCap k x).sec = s.sec := rfl
@[simp] theorem State.setCap_flash (s : State) (k : Nat) (x) : (s.setCap k x).flash = s.flash := rfl
@[simp] theorem State.setCap_boot (s : State) (k : Nat) (x) : (s.setCap k x).boot = s.boot := rfl
@[simp] theorem State.setCap_dma (s : State) (k : Nat) (x) : (s.setCap k x).dma = s.dma := rfl
@[simp] theorem State.setCap_bar2 (s : State) (k : Nat) (x) : (s.setCap k x).bar2 = s.bar2 := rfl
@[simp] theorem State.setCap_pwr (s : State) (k : Nat) (x) : (s.setCap k x).pwr = s.pwr := rfl
@[simp] theorem State.setCap_svc (s : State) (k : Nat) (x) : (s.setCap k x).svc = s.svc := rfl
@[simp] theorem State.setCap_crier (s : State) (k : Nat) (x) : (s.setCap k x).crier = s.crier := rfl
@[simp] theorem State.setCap_pins (s : State) (k : Nat) (x) : (s.setCap k x).pins = s.pins := rfl
@[simp] theorem State.setCap_uart (s : State) (k : Nat) (x) : (s.setCap k x).uart = s.uart := rfl
@[simp] theorem State.setCap_audio (s : State) (k : Nat) (x) : (s.setCap k x).audio = s.audio := rfl
@[simp] theorem State.setCap_legAudio (s : State) (k : Nat) (x) : (s.setCap k x).legAudio = s.legAudio := rfl
@[simp] theorem State.setCap_confAudio (s : State) (k : Nat) (x) : (s.setCap k x).confAudio = s.confAudio := rfl
@[simp] theorem State.setCap_mill (s : State) (k : Nat) (x) : (s.setCap k x).mill = s.mill := rfl
@[simp] theorem State.setCap_csram (s : State) (k : Nat) (x) : (s.setCap k x).csram = s.csram := rfl
@[simp] theorem State.setCap_kernels (s : State) (k : Nat) (x) : (s.setCap k x).kernels = s.kernels := rfl
@[simp] theorem State.setCap_kernelCmd (s : State) (k : Nat) (x) : (s.setCap k x).kernelCmd = s.kernelCmd := rfl
@[simp] theorem State.setCap_reeve (s : State) (k : Nat) (x) : (s.setCap k x).reeve = s.reeve := rfl
@[simp] theorem State.setCap_pending (s : State) (k : Nat) (x) : (s.setCap k x).pending = s.pending := rfl
@[simp] theorem State.setCap_rd (s : State) (k a : Nat) (x) : (s.setCap k x).rd a = s.rd a := rfl

@[simp] theorem State.setCrossing_crossing (s : State) (k j : Nat) (x) : (s.setCrossing k x).crossing j = if j = k then x else s.crossing j := Sparse.get_set _ _ _ _ _
@[simp] theorem State.setCrossing_regs (s : State) (k : Nat) (x) : (s.setCrossing k x).regs = s.regs := rfl
@[simp] theorem State.setCrossing_capture (s : State) (k : Nat) (x) : (s.setCrossing k x).capture = s.capture := rfl
@[simp] theorem State.setCrossing_heldLo (s : State) (k : Nat) (x) : (s.setCrossing k x).heldLo = s.heldLo := rfl
@[simp] theorem State.setCrossing_readData (s : State) (k : Nat) (x) : (s.setCrossing k x).readData = s.readData := rfl
@[simp] theorem State.setCrossing_clk (s : State) (k : Nat) (x) : (s.setCrossing k x).clk = s.clk := rfl
@[simp] theorem State.setCrossing_bel (s : State) (k : Nat) (x) : (s.setCrossing k x).bel = s.bel := rfl
@[simp] theorem State.setCrossing_gate (s : State) (k : Nat) (x) : (s.setCrossing k x).gate = s.gate := rfl
@[simp] theorem State.setCrossing_free (s : State) (k : Nat) (x) : (s.setCrossing k x).free = s.free := rfl
@[simp] theorem State.setCrossing_msix (s : State) (k : Nat) (x) : (s.setCrossing k x).msix = s.msix := rfl
@[simp] theorem State.setCrossing_evq (s : State) (k : Nat) (x) : (s.setCrossing k x).evq = s.evq := rfl
@[simp] theorem State.setCrossing_queues (s : State) (k : Nat) (x) : (s.setCrossing k x).queues = s.queues := rfl
@[simp] theorem State.setCrossing_bankq (s : State) (k : Nat) (x) : (s.setCrossing k x).bankq = s.bankq := rfl
@[simp] theorem State.setCrossing_freeCells (s : State) (k : Nat) (x) : (s.setCrossing k x).freeCells = s.freeCells := rfl
@[simp] theorem State.setCrossing_deviceReserved (s : State) (k : Nat) (x) : (s.setCrossing k x).deviceReserved = s.deviceReserved := rfl
@[simp] theorem State.setCrossing_dram (s : State) (k : Nat) (x) : (s.setCrossing k x).dram = s.dram := rfl
@[simp] theorem State.setCrossing_hostMem (s : State) (k : Nat) (x) : (s.setCrossing k x).hostMem = s.hostMem := rfl
@[simp] theorem State.setCrossing_keys (s : State) (k : Nat) (x) : (s.setCrossing k x).keys = s.keys := rfl
@[simp] theorem State.setCrossing_faultLog (s : State) (k : Nat) (x) : (s.setCrossing k x).faultLog = s.faultLog := rfl
@[simp] theorem State.setCrossing_pkts (s : State) (k : Nat) (x) : (s.setCrossing k x).pkts = s.pkts := rfl
@[simp] theorem State.setCrossing_nextPkt (s : State) (k : Nat) (x) : (s.setCrossing k x).nextPkt = s.nextPkt := rfl
@[simp] theorem State.setCrossing_fences (s : State) (k : Nat) (x) : (s.setCrossing k x).fences = s.fences := rfl
@[simp] theorem State.setCrossing_fetches (s : State) (k : Nat) (x) : (s.setCrossing k x).fetches = s.fetches := rfl
@[simp] theorem State.setCrossing_legs (s : State) (k : Nat) (x) : (s.setCrossing k x).legs = s.legs := rfl
@[simp] theorem State.setCrossing_confs (s : State) (k : Nat) (x) : (s.setCrossing k x).confs = s.confs := rfl
@[simp] theorem State.setCrossing_taps (s : State) (k : Nat) (x) : (s.setCrossing k x).taps = s.taps := rfl
@[simp] theorem State.setCrossing_tdm (s : State) (k : Nat) (x) : (s.setCrossing k x).tdm = s.tdm := rfl
@[simp] theorem State.setCrossing_windows (s : State) (k : Nat) (x) : (s.setCrossing k x).windows = s.windows := rfl
@[simp] theorem State.setCrossing_planes (s : State) (k : Nat) (x) : (s.setCrossing k x).planes = s.planes := rfl
@[simp] theorem State.setCrossing_vstrs (s : State) (k : Nat) (x) : (s.setCrossing k x).vstrs = s.vstrs := rfl
@[simp] theorem State.setCrossing_ostrs (s : State) (k : Nat) (x) : (s.setCrossing k x).ostrs = s.ostrs := rfl
@[simp] theorem State.setCrossing_ports (s : State) (k : Nat) (x) : (s.setCrossing k x).ports = s.ports := rfl
@[simp] theorem State.setCrossing_rxWin (s : State) (k : Nat) (x) : (s.setCrossing k x).rxWin = s.rxWin := rfl
@[simp] theorem State.setCrossing_ecomps (s : State) (k : Nat) (x) : (s.setCrossing k x).ecomps = s.ecomps := rfl
@[simp] theorem State.setCrossing_decs (s : State) (k : Nat) (x) : (s.setCrossing k x).decs = s.decs := rfl
@[simp] theorem State.setCrossing_layouts (s : State) (k : Nat) (x) : (s.setCrossing k x).layouts = s.layouts := rfl
@[simp] theorem State.setCrossing_twin (s : State) (k : Nat) (x) : (s.setCrossing k x).twin = s.twin := rfl
@[simp] theorem State.setCrossing_links (s : State) (k : Nat) (x) : (s.setCrossing k x).links = s.links := rfl
@[simp] theorem State.setCrossing_fab (s : State) (k : Nat) (x) : (s.setCrossing k x).fab = s.fab := rfl
@[simp] theorem State.setCrossing_ddr (s : State) (k : Nat) (x) : (s.setCrossing k x).ddr = s.ddr := rfl
@[simp] theorem State.setCrossing_weir (s : State) (k : Nat) (x) : (s.setCrossing k x).weir = s.weir := rfl
@[simp] theorem State.setCrossing_poisoned (s : State) (k : Nat) (x) : (s.setCrossing k x).poisoned = s.poisoned := rfl
@[simp] theorem State.setCrossing_dramRead (s : State) (k : Nat) (x) : (s.setCrossing k x).dramRead = s.dramRead := rfl
@[simp] theorem State.setCrossing_fatalAt (s : State) (k : Nat) (x) : (s.setCrossing k x).fatalAt = s.fatalAt := rfl
@[simp] theorem State.setCrossing_sec (s : State) (k : Nat) (x) : (s.setCrossing k x).sec = s.sec := rfl
@[simp] theorem State.setCrossing_flash (s : State) (k : Nat) (x) : (s.setCrossing k x).flash = s.flash := rfl
@[simp] theorem State.setCrossing_boot (s : State) (k : Nat) (x) : (s.setCrossing k x).boot = s.boot := rfl
@[simp] theorem State.setCrossing_dma (s : State) (k : Nat) (x) : (s.setCrossing k x).dma = s.dma := rfl
@[simp] theorem State.setCrossing_bar2 (s : State) (k : Nat) (x) : (s.setCrossing k x).bar2 = s.bar2 := rfl
@[simp] theorem State.setCrossing_pwr (s : State) (k : Nat) (x) : (s.setCrossing k x).pwr = s.pwr := rfl
@[simp] theorem State.setCrossing_svc (s : State) (k : Nat) (x) : (s.setCrossing k x).svc = s.svc := rfl
@[simp] theorem State.setCrossing_crier (s : State) (k : Nat) (x) : (s.setCrossing k x).crier = s.crier := rfl
@[simp] theorem State.setCrossing_pins (s : State) (k : Nat) (x) : (s.setCrossing k x).pins = s.pins := rfl
@[simp] theorem State.setCrossing_uart (s : State) (k : Nat) (x) : (s.setCrossing k x).uart = s.uart := rfl
@[simp] theorem State.setCrossing_audio (s : State) (k : Nat) (x) : (s.setCrossing k x).audio = s.audio := rfl
@[simp] theorem State.setCrossing_legAudio (s : State) (k : Nat) (x) : (s.setCrossing k x).legAudio = s.legAudio := rfl
@[simp] theorem State.setCrossing_confAudio (s : State) (k : Nat) (x) : (s.setCrossing k x).confAudio = s.confAudio := rfl
@[simp] theorem State.setCrossing_mill (s : State) (k : Nat) (x) : (s.setCrossing k x).mill = s.mill := rfl
@[simp] theorem State.setCrossing_csram (s : State) (k : Nat) (x) : (s.setCrossing k x).csram = s.csram := rfl
@[simp] theorem State.setCrossing_kernels (s : State) (k : Nat) (x) : (s.setCrossing k x).kernels = s.kernels := rfl
@[simp] theorem State.setCrossing_kernelCmd (s : State) (k : Nat) (x) : (s.setCrossing k x).kernelCmd = s.kernelCmd := rfl
@[simp] theorem State.setCrossing_reeve (s : State) (k : Nat) (x) : (s.setCrossing k x).reeve = s.reeve := rfl
@[simp] theorem State.setCrossing_pending (s : State) (k : Nat) (x) : (s.setCrossing k x).pending = s.pending := rfl
@[simp] theorem State.setCrossing_rd (s : State) (k a : Nat) (x) : (s.setCrossing k x).rd a = s.rd a := rfl

@[simp] theorem State.setEcomp_ecomp (s : State) (k j : Nat) (x) : (s.setEcomp k x).ecomp j = if j = k then x else s.ecomp j := Sparse.get_set _ _ _ _ _
@[simp] theorem State.setEcomp_regs (s : State) (k : Nat) (x) : (s.setEcomp k x).regs = s.regs := rfl
@[simp] theorem State.setEcomp_capture (s : State) (k : Nat) (x) : (s.setEcomp k x).capture = s.capture := rfl
@[simp] theorem State.setEcomp_heldLo (s : State) (k : Nat) (x) : (s.setEcomp k x).heldLo = s.heldLo := rfl
@[simp] theorem State.setEcomp_readData (s : State) (k : Nat) (x) : (s.setEcomp k x).readData = s.readData := rfl
@[simp] theorem State.setEcomp_clk (s : State) (k : Nat) (x) : (s.setEcomp k x).clk = s.clk := rfl
@[simp] theorem State.setEcomp_bel (s : State) (k : Nat) (x) : (s.setEcomp k x).bel = s.bel := rfl
@[simp] theorem State.setEcomp_gate (s : State) (k : Nat) (x) : (s.setEcomp k x).gate = s.gate := rfl
@[simp] theorem State.setEcomp_free (s : State) (k : Nat) (x) : (s.setEcomp k x).free = s.free := rfl
@[simp] theorem State.setEcomp_msix (s : State) (k : Nat) (x) : (s.setEcomp k x).msix = s.msix := rfl
@[simp] theorem State.setEcomp_evq (s : State) (k : Nat) (x) : (s.setEcomp k x).evq = s.evq := rfl
@[simp] theorem State.setEcomp_queues (s : State) (k : Nat) (x) : (s.setEcomp k x).queues = s.queues := rfl
@[simp] theorem State.setEcomp_bankq (s : State) (k : Nat) (x) : (s.setEcomp k x).bankq = s.bankq := rfl
@[simp] theorem State.setEcomp_freeCells (s : State) (k : Nat) (x) : (s.setEcomp k x).freeCells = s.freeCells := rfl
@[simp] theorem State.setEcomp_deviceReserved (s : State) (k : Nat) (x) : (s.setEcomp k x).deviceReserved = s.deviceReserved := rfl
@[simp] theorem State.setEcomp_cross (s : State) (k : Nat) (x) : (s.setEcomp k x).cross = s.cross := rfl
@[simp] theorem State.setEcomp_dram (s : State) (k : Nat) (x) : (s.setEcomp k x).dram = s.dram := rfl
@[simp] theorem State.setEcomp_hostMem (s : State) (k : Nat) (x) : (s.setEcomp k x).hostMem = s.hostMem := rfl
@[simp] theorem State.setEcomp_keys (s : State) (k : Nat) (x) : (s.setEcomp k x).keys = s.keys := rfl
@[simp] theorem State.setEcomp_faultLog (s : State) (k : Nat) (x) : (s.setEcomp k x).faultLog = s.faultLog := rfl
@[simp] theorem State.setEcomp_pkts (s : State) (k : Nat) (x) : (s.setEcomp k x).pkts = s.pkts := rfl
@[simp] theorem State.setEcomp_nextPkt (s : State) (k : Nat) (x) : (s.setEcomp k x).nextPkt = s.nextPkt := rfl
@[simp] theorem State.setEcomp_fences (s : State) (k : Nat) (x) : (s.setEcomp k x).fences = s.fences := rfl
@[simp] theorem State.setEcomp_fetches (s : State) (k : Nat) (x) : (s.setEcomp k x).fetches = s.fetches := rfl
@[simp] theorem State.setEcomp_legs (s : State) (k : Nat) (x) : (s.setEcomp k x).legs = s.legs := rfl
@[simp] theorem State.setEcomp_confs (s : State) (k : Nat) (x) : (s.setEcomp k x).confs = s.confs := rfl
@[simp] theorem State.setEcomp_taps (s : State) (k : Nat) (x) : (s.setEcomp k x).taps = s.taps := rfl
@[simp] theorem State.setEcomp_tdm (s : State) (k : Nat) (x) : (s.setEcomp k x).tdm = s.tdm := rfl
@[simp] theorem State.setEcomp_windows (s : State) (k : Nat) (x) : (s.setEcomp k x).windows = s.windows := rfl
@[simp] theorem State.setEcomp_planes (s : State) (k : Nat) (x) : (s.setEcomp k x).planes = s.planes := rfl
@[simp] theorem State.setEcomp_vstrs (s : State) (k : Nat) (x) : (s.setEcomp k x).vstrs = s.vstrs := rfl
@[simp] theorem State.setEcomp_ostrs (s : State) (k : Nat) (x) : (s.setEcomp k x).ostrs = s.ostrs := rfl
@[simp] theorem State.setEcomp_ports (s : State) (k : Nat) (x) : (s.setEcomp k x).ports = s.ports := rfl
@[simp] theorem State.setEcomp_rxWin (s : State) (k : Nat) (x) : (s.setEcomp k x).rxWin = s.rxWin := rfl
@[simp] theorem State.setEcomp_decs (s : State) (k : Nat) (x) : (s.setEcomp k x).decs = s.decs := rfl
@[simp] theorem State.setEcomp_layouts (s : State) (k : Nat) (x) : (s.setEcomp k x).layouts = s.layouts := rfl
@[simp] theorem State.setEcomp_twin (s : State) (k : Nat) (x) : (s.setEcomp k x).twin = s.twin := rfl
@[simp] theorem State.setEcomp_links (s : State) (k : Nat) (x) : (s.setEcomp k x).links = s.links := rfl
@[simp] theorem State.setEcomp_fab (s : State) (k : Nat) (x) : (s.setEcomp k x).fab = s.fab := rfl
@[simp] theorem State.setEcomp_ddr (s : State) (k : Nat) (x) : (s.setEcomp k x).ddr = s.ddr := rfl
@[simp] theorem State.setEcomp_weir (s : State) (k : Nat) (x) : (s.setEcomp k x).weir = s.weir := rfl
@[simp] theorem State.setEcomp_poisoned (s : State) (k : Nat) (x) : (s.setEcomp k x).poisoned = s.poisoned := rfl
@[simp] theorem State.setEcomp_dramRead (s : State) (k : Nat) (x) : (s.setEcomp k x).dramRead = s.dramRead := rfl
@[simp] theorem State.setEcomp_fatalAt (s : State) (k : Nat) (x) : (s.setEcomp k x).fatalAt = s.fatalAt := rfl
@[simp] theorem State.setEcomp_sec (s : State) (k : Nat) (x) : (s.setEcomp k x).sec = s.sec := rfl
@[simp] theorem State.setEcomp_flash (s : State) (k : Nat) (x) : (s.setEcomp k x).flash = s.flash := rfl
@[simp] theorem State.setEcomp_boot (s : State) (k : Nat) (x) : (s.setEcomp k x).boot = s.boot := rfl
@[simp] theorem State.setEcomp_dma (s : State) (k : Nat) (x) : (s.setEcomp k x).dma = s.dma := rfl
@[simp] theorem State.setEcomp_bar2 (s : State) (k : Nat) (x) : (s.setEcomp k x).bar2 = s.bar2 := rfl
@[simp] theorem State.setEcomp_pwr (s : State) (k : Nat) (x) : (s.setEcomp k x).pwr = s.pwr := rfl
@[simp] theorem State.setEcomp_svc (s : State) (k : Nat) (x) : (s.setEcomp k x).svc = s.svc := rfl
@[simp] theorem State.setEcomp_crier (s : State) (k : Nat) (x) : (s.setEcomp k x).crier = s.crier := rfl
@[simp] theorem State.setEcomp_pins (s : State) (k : Nat) (x) : (s.setEcomp k x).pins = s.pins := rfl
@[simp] theorem State.setEcomp_uart (s : State) (k : Nat) (x) : (s.setEcomp k x).uart = s.uart := rfl
@[simp] theorem State.setEcomp_audio (s : State) (k : Nat) (x) : (s.setEcomp k x).audio = s.audio := rfl
@[simp] theorem State.setEcomp_legAudio (s : State) (k : Nat) (x) : (s.setEcomp k x).legAudio = s.legAudio := rfl
@[simp] theorem State.setEcomp_confAudio (s : State) (k : Nat) (x) : (s.setEcomp k x).confAudio = s.confAudio := rfl
@[simp] theorem State.setEcomp_mill (s : State) (k : Nat) (x) : (s.setEcomp k x).mill = s.mill := rfl
@[simp] theorem State.setEcomp_csram (s : State) (k : Nat) (x) : (s.setEcomp k x).csram = s.csram := rfl
@[simp] theorem State.setEcomp_kernels (s : State) (k : Nat) (x) : (s.setEcomp k x).kernels = s.kernels := rfl
@[simp] theorem State.setEcomp_kernelCmd (s : State) (k : Nat) (x) : (s.setEcomp k x).kernelCmd = s.kernelCmd := rfl
@[simp] theorem State.setEcomp_reeve (s : State) (k : Nat) (x) : (s.setEcomp k x).reeve = s.reeve := rfl
@[simp] theorem State.setEcomp_pending (s : State) (k : Nat) (x) : (s.setEcomp k x).pending = s.pending := rfl
@[simp] theorem State.setEcomp_rd (s : State) (k a : Nat) (x) : (s.setEcomp k x).rd a = s.rd a := rfl

@[simp] theorem State.setDec_dec (s : State) (k j : Nat) (x) : (s.setDec k x).dec j = if j = k then x else s.dec j := Sparse.get_set _ _ _ _ _
@[simp] theorem State.setDec_regs (s : State) (k : Nat) (x) : (s.setDec k x).regs = s.regs := rfl
@[simp] theorem State.setDec_capture (s : State) (k : Nat) (x) : (s.setDec k x).capture = s.capture := rfl
@[simp] theorem State.setDec_heldLo (s : State) (k : Nat) (x) : (s.setDec k x).heldLo = s.heldLo := rfl
@[simp] theorem State.setDec_readData (s : State) (k : Nat) (x) : (s.setDec k x).readData = s.readData := rfl
@[simp] theorem State.setDec_clk (s : State) (k : Nat) (x) : (s.setDec k x).clk = s.clk := rfl
@[simp] theorem State.setDec_bel (s : State) (k : Nat) (x) : (s.setDec k x).bel = s.bel := rfl
@[simp] theorem State.setDec_gate (s : State) (k : Nat) (x) : (s.setDec k x).gate = s.gate := rfl
@[simp] theorem State.setDec_free (s : State) (k : Nat) (x) : (s.setDec k x).free = s.free := rfl
@[simp] theorem State.setDec_msix (s : State) (k : Nat) (x) : (s.setDec k x).msix = s.msix := rfl
@[simp] theorem State.setDec_evq (s : State) (k : Nat) (x) : (s.setDec k x).evq = s.evq := rfl
@[simp] theorem State.setDec_queues (s : State) (k : Nat) (x) : (s.setDec k x).queues = s.queues := rfl
@[simp] theorem State.setDec_bankq (s : State) (k : Nat) (x) : (s.setDec k x).bankq = s.bankq := rfl
@[simp] theorem State.setDec_freeCells (s : State) (k : Nat) (x) : (s.setDec k x).freeCells = s.freeCells := rfl
@[simp] theorem State.setDec_deviceReserved (s : State) (k : Nat) (x) : (s.setDec k x).deviceReserved = s.deviceReserved := rfl
@[simp] theorem State.setDec_cross (s : State) (k : Nat) (x) : (s.setDec k x).cross = s.cross := rfl
@[simp] theorem State.setDec_dram (s : State) (k : Nat) (x) : (s.setDec k x).dram = s.dram := rfl
@[simp] theorem State.setDec_hostMem (s : State) (k : Nat) (x) : (s.setDec k x).hostMem = s.hostMem := rfl
@[simp] theorem State.setDec_keys (s : State) (k : Nat) (x) : (s.setDec k x).keys = s.keys := rfl
@[simp] theorem State.setDec_faultLog (s : State) (k : Nat) (x) : (s.setDec k x).faultLog = s.faultLog := rfl
@[simp] theorem State.setDec_pkts (s : State) (k : Nat) (x) : (s.setDec k x).pkts = s.pkts := rfl
@[simp] theorem State.setDec_nextPkt (s : State) (k : Nat) (x) : (s.setDec k x).nextPkt = s.nextPkt := rfl
@[simp] theorem State.setDec_fences (s : State) (k : Nat) (x) : (s.setDec k x).fences = s.fences := rfl
@[simp] theorem State.setDec_fetches (s : State) (k : Nat) (x) : (s.setDec k x).fetches = s.fetches := rfl
@[simp] theorem State.setDec_legs (s : State) (k : Nat) (x) : (s.setDec k x).legs = s.legs := rfl
@[simp] theorem State.setDec_confs (s : State) (k : Nat) (x) : (s.setDec k x).confs = s.confs := rfl
@[simp] theorem State.setDec_taps (s : State) (k : Nat) (x) : (s.setDec k x).taps = s.taps := rfl
@[simp] theorem State.setDec_tdm (s : State) (k : Nat) (x) : (s.setDec k x).tdm = s.tdm := rfl
@[simp] theorem State.setDec_windows (s : State) (k : Nat) (x) : (s.setDec k x).windows = s.windows := rfl
@[simp] theorem State.setDec_planes (s : State) (k : Nat) (x) : (s.setDec k x).planes = s.planes := rfl
@[simp] theorem State.setDec_vstrs (s : State) (k : Nat) (x) : (s.setDec k x).vstrs = s.vstrs := rfl
@[simp] theorem State.setDec_ostrs (s : State) (k : Nat) (x) : (s.setDec k x).ostrs = s.ostrs := rfl
@[simp] theorem State.setDec_ports (s : State) (k : Nat) (x) : (s.setDec k x).ports = s.ports := rfl
@[simp] theorem State.setDec_rxWin (s : State) (k : Nat) (x) : (s.setDec k x).rxWin = s.rxWin := rfl
@[simp] theorem State.setDec_ecomps (s : State) (k : Nat) (x) : (s.setDec k x).ecomps = s.ecomps := rfl
@[simp] theorem State.setDec_layouts (s : State) (k : Nat) (x) : (s.setDec k x).layouts = s.layouts := rfl
@[simp] theorem State.setDec_twin (s : State) (k : Nat) (x) : (s.setDec k x).twin = s.twin := rfl
@[simp] theorem State.setDec_links (s : State) (k : Nat) (x) : (s.setDec k x).links = s.links := rfl
@[simp] theorem State.setDec_fab (s : State) (k : Nat) (x) : (s.setDec k x).fab = s.fab := rfl
@[simp] theorem State.setDec_ddr (s : State) (k : Nat) (x) : (s.setDec k x).ddr = s.ddr := rfl
@[simp] theorem State.setDec_weir (s : State) (k : Nat) (x) : (s.setDec k x).weir = s.weir := rfl
@[simp] theorem State.setDec_poisoned (s : State) (k : Nat) (x) : (s.setDec k x).poisoned = s.poisoned := rfl
@[simp] theorem State.setDec_dramRead (s : State) (k : Nat) (x) : (s.setDec k x).dramRead = s.dramRead := rfl
@[simp] theorem State.setDec_fatalAt (s : State) (k : Nat) (x) : (s.setDec k x).fatalAt = s.fatalAt := rfl
@[simp] theorem State.setDec_sec (s : State) (k : Nat) (x) : (s.setDec k x).sec = s.sec := rfl
@[simp] theorem State.setDec_flash (s : State) (k : Nat) (x) : (s.setDec k x).flash = s.flash := rfl
@[simp] theorem State.setDec_boot (s : State) (k : Nat) (x) : (s.setDec k x).boot = s.boot := rfl
@[simp] theorem State.setDec_dma (s : State) (k : Nat) (x) : (s.setDec k x).dma = s.dma := rfl
@[simp] theorem State.setDec_bar2 (s : State) (k : Nat) (x) : (s.setDec k x).bar2 = s.bar2 := rfl
@[simp] theorem State.setDec_pwr (s : State) (k : Nat) (x) : (s.setDec k x).pwr = s.pwr := rfl
@[simp] theorem State.setDec_svc (s : State) (k : Nat) (x) : (s.setDec k x).svc = s.svc := rfl
@[simp] theorem State.setDec_crier (s : State) (k : Nat) (x) : (s.setDec k x).crier = s.crier := rfl
@[simp] theorem State.setDec_pins (s : State) (k : Nat) (x) : (s.setDec k x).pins = s.pins := rfl
@[simp] theorem State.setDec_uart (s : State) (k : Nat) (x) : (s.setDec k x).uart = s.uart := rfl
@[simp] theorem State.setDec_audio (s : State) (k : Nat) (x) : (s.setDec k x).audio = s.audio := rfl
@[simp] theorem State.setDec_legAudio (s : State) (k : Nat) (x) : (s.setDec k x).legAudio = s.legAudio := rfl
@[simp] theorem State.setDec_confAudio (s : State) (k : Nat) (x) : (s.setDec k x).confAudio = s.confAudio := rfl
@[simp] theorem State.setDec_mill (s : State) (k : Nat) (x) : (s.setDec k x).mill = s.mill := rfl
@[simp] theorem State.setDec_csram (s : State) (k : Nat) (x) : (s.setDec k x).csram = s.csram := rfl
@[simp] theorem State.setDec_kernels (s : State) (k : Nat) (x) : (s.setDec k x).kernels = s.kernels := rfl
@[simp] theorem State.setDec_kernelCmd (s : State) (k : Nat) (x) : (s.setDec k x).kernelCmd = s.kernelCmd := rfl
@[simp] theorem State.setDec_reeve (s : State) (k : Nat) (x) : (s.setDec k x).reeve = s.reeve := rfl
@[simp] theorem State.setDec_pending (s : State) (k : Nat) (x) : (s.setDec k x).pending = s.pending := rfl
@[simp] theorem State.setDec_rd (s : State) (k a : Nat) (x) : (s.setDec k x).rd a = s.rd a := rfl

@[simp] theorem State.setLayout_layout (s : State) (k j : Nat) (x) : (s.setLayout k x).layout j = if j = k then x else s.layout j := Sparse.get_set _ _ _ _ _
@[simp] theorem State.setLayout_regs (s : State) (k : Nat) (x) : (s.setLayout k x).regs = s.regs := rfl
@[simp] theorem State.setLayout_capture (s : State) (k : Nat) (x) : (s.setLayout k x).capture = s.capture := rfl
@[simp] theorem State.setLayout_heldLo (s : State) (k : Nat) (x) : (s.setLayout k x).heldLo = s.heldLo := rfl
@[simp] theorem State.setLayout_readData (s : State) (k : Nat) (x) : (s.setLayout k x).readData = s.readData := rfl
@[simp] theorem State.setLayout_clk (s : State) (k : Nat) (x) : (s.setLayout k x).clk = s.clk := rfl
@[simp] theorem State.setLayout_bel (s : State) (k : Nat) (x) : (s.setLayout k x).bel = s.bel := rfl
@[simp] theorem State.setLayout_gate (s : State) (k : Nat) (x) : (s.setLayout k x).gate = s.gate := rfl
@[simp] theorem State.setLayout_free (s : State) (k : Nat) (x) : (s.setLayout k x).free = s.free := rfl
@[simp] theorem State.setLayout_msix (s : State) (k : Nat) (x) : (s.setLayout k x).msix = s.msix := rfl
@[simp] theorem State.setLayout_evq (s : State) (k : Nat) (x) : (s.setLayout k x).evq = s.evq := rfl
@[simp] theorem State.setLayout_queues (s : State) (k : Nat) (x) : (s.setLayout k x).queues = s.queues := rfl
@[simp] theorem State.setLayout_bankq (s : State) (k : Nat) (x) : (s.setLayout k x).bankq = s.bankq := rfl
@[simp] theorem State.setLayout_freeCells (s : State) (k : Nat) (x) : (s.setLayout k x).freeCells = s.freeCells := rfl
@[simp] theorem State.setLayout_deviceReserved (s : State) (k : Nat) (x) : (s.setLayout k x).deviceReserved = s.deviceReserved := rfl
@[simp] theorem State.setLayout_cross (s : State) (k : Nat) (x) : (s.setLayout k x).cross = s.cross := rfl
@[simp] theorem State.setLayout_dram (s : State) (k : Nat) (x) : (s.setLayout k x).dram = s.dram := rfl
@[simp] theorem State.setLayout_hostMem (s : State) (k : Nat) (x) : (s.setLayout k x).hostMem = s.hostMem := rfl
@[simp] theorem State.setLayout_keys (s : State) (k : Nat) (x) : (s.setLayout k x).keys = s.keys := rfl
@[simp] theorem State.setLayout_faultLog (s : State) (k : Nat) (x) : (s.setLayout k x).faultLog = s.faultLog := rfl
@[simp] theorem State.setLayout_pkts (s : State) (k : Nat) (x) : (s.setLayout k x).pkts = s.pkts := rfl
@[simp] theorem State.setLayout_nextPkt (s : State) (k : Nat) (x) : (s.setLayout k x).nextPkt = s.nextPkt := rfl
@[simp] theorem State.setLayout_fences (s : State) (k : Nat) (x) : (s.setLayout k x).fences = s.fences := rfl
@[simp] theorem State.setLayout_fetches (s : State) (k : Nat) (x) : (s.setLayout k x).fetches = s.fetches := rfl
@[simp] theorem State.setLayout_legs (s : State) (k : Nat) (x) : (s.setLayout k x).legs = s.legs := rfl
@[simp] theorem State.setLayout_confs (s : State) (k : Nat) (x) : (s.setLayout k x).confs = s.confs := rfl
@[simp] theorem State.setLayout_taps (s : State) (k : Nat) (x) : (s.setLayout k x).taps = s.taps := rfl
@[simp] theorem State.setLayout_tdm (s : State) (k : Nat) (x) : (s.setLayout k x).tdm = s.tdm := rfl
@[simp] theorem State.setLayout_windows (s : State) (k : Nat) (x) : (s.setLayout k x).windows = s.windows := rfl
@[simp] theorem State.setLayout_planes (s : State) (k : Nat) (x) : (s.setLayout k x).planes = s.planes := rfl
@[simp] theorem State.setLayout_vstrs (s : State) (k : Nat) (x) : (s.setLayout k x).vstrs = s.vstrs := rfl
@[simp] theorem State.setLayout_ostrs (s : State) (k : Nat) (x) : (s.setLayout k x).ostrs = s.ostrs := rfl
@[simp] theorem State.setLayout_ports (s : State) (k : Nat) (x) : (s.setLayout k x).ports = s.ports := rfl
@[simp] theorem State.setLayout_rxWin (s : State) (k : Nat) (x) : (s.setLayout k x).rxWin = s.rxWin := rfl
@[simp] theorem State.setLayout_ecomps (s : State) (k : Nat) (x) : (s.setLayout k x).ecomps = s.ecomps := rfl
@[simp] theorem State.setLayout_decs (s : State) (k : Nat) (x) : (s.setLayout k x).decs = s.decs := rfl
@[simp] theorem State.setLayout_twin (s : State) (k : Nat) (x) : (s.setLayout k x).twin = s.twin := rfl
@[simp] theorem State.setLayout_links (s : State) (k : Nat) (x) : (s.setLayout k x).links = s.links := rfl
@[simp] theorem State.setLayout_fab (s : State) (k : Nat) (x) : (s.setLayout k x).fab = s.fab := rfl
@[simp] theorem State.setLayout_ddr (s : State) (k : Nat) (x) : (s.setLayout k x).ddr = s.ddr := rfl
@[simp] theorem State.setLayout_weir (s : State) (k : Nat) (x) : (s.setLayout k x).weir = s.weir := rfl
@[simp] theorem State.setLayout_poisoned (s : State) (k : Nat) (x) : (s.setLayout k x).poisoned = s.poisoned := rfl
@[simp] theorem State.setLayout_dramRead (s : State) (k : Nat) (x) : (s.setLayout k x).dramRead = s.dramRead := rfl
@[simp] theorem State.setLayout_fatalAt (s : State) (k : Nat) (x) : (s.setLayout k x).fatalAt = s.fatalAt := rfl
@[simp] theorem State.setLayout_sec (s : State) (k : Nat) (x) : (s.setLayout k x).sec = s.sec := rfl
@[simp] theorem State.setLayout_flash (s : State) (k : Nat) (x) : (s.setLayout k x).flash = s.flash := rfl
@[simp] theorem State.setLayout_boot (s : State) (k : Nat) (x) : (s.setLayout k x).boot = s.boot := rfl
@[simp] theorem State.setLayout_dma (s : State) (k : Nat) (x) : (s.setLayout k x).dma = s.dma := rfl
@[simp] theorem State.setLayout_bar2 (s : State) (k : Nat) (x) : (s.setLayout k x).bar2 = s.bar2 := rfl
@[simp] theorem State.setLayout_pwr (s : State) (k : Nat) (x) : (s.setLayout k x).pwr = s.pwr := rfl
@[simp] theorem State.setLayout_svc (s : State) (k : Nat) (x) : (s.setLayout k x).svc = s.svc := rfl
@[simp] theorem State.setLayout_crier (s : State) (k : Nat) (x) : (s.setLayout k x).crier = s.crier := rfl
@[simp] theorem State.setLayout_pins (s : State) (k : Nat) (x) : (s.setLayout k x).pins = s.pins := rfl
@[simp] theorem State.setLayout_uart (s : State) (k : Nat) (x) : (s.setLayout k x).uart = s.uart := rfl
@[simp] theorem State.setLayout_audio (s : State) (k : Nat) (x) : (s.setLayout k x).audio = s.audio := rfl
@[simp] theorem State.setLayout_legAudio (s : State) (k : Nat) (x) : (s.setLayout k x).legAudio = s.legAudio := rfl
@[simp] theorem State.setLayout_confAudio (s : State) (k : Nat) (x) : (s.setLayout k x).confAudio = s.confAudio := rfl
@[simp] theorem State.setLayout_mill (s : State) (k : Nat) (x) : (s.setLayout k x).mill = s.mill := rfl
@[simp] theorem State.setLayout_csram (s : State) (k : Nat) (x) : (s.setLayout k x).csram = s.csram := rfl
@[simp] theorem State.setLayout_kernels (s : State) (k : Nat) (x) : (s.setLayout k x).kernels = s.kernels := rfl
@[simp] theorem State.setLayout_kernelCmd (s : State) (k : Nat) (x) : (s.setLayout k x).kernelCmd = s.kernelCmd := rfl
@[simp] theorem State.setLayout_reeve (s : State) (k : Nat) (x) : (s.setLayout k x).reeve = s.reeve := rfl
@[simp] theorem State.setLayout_pending (s : State) (k : Nat) (x) : (s.setLayout k x).pending = s.pending := rfl
@[simp] theorem State.setLayout_rd (s : State) (k a : Nat) (x) : (s.setLayout k x).rd a = s.rd a := rfl

@[simp] theorem State.setLegA_legA (s : State) (k j : Nat) (x) : (s.setLegA k x).legA j = if j = k then x else s.legA j := Sparse.get_set _ _ _ _ _
@[simp] theorem State.setLegA_regs (s : State) (k : Nat) (x) : (s.setLegA k x).regs = s.regs := rfl
@[simp] theorem State.setLegA_capture (s : State) (k : Nat) (x) : (s.setLegA k x).capture = s.capture := rfl
@[simp] theorem State.setLegA_heldLo (s : State) (k : Nat) (x) : (s.setLegA k x).heldLo = s.heldLo := rfl
@[simp] theorem State.setLegA_readData (s : State) (k : Nat) (x) : (s.setLegA k x).readData = s.readData := rfl
@[simp] theorem State.setLegA_clk (s : State) (k : Nat) (x) : (s.setLegA k x).clk = s.clk := rfl
@[simp] theorem State.setLegA_bel (s : State) (k : Nat) (x) : (s.setLegA k x).bel = s.bel := rfl
@[simp] theorem State.setLegA_gate (s : State) (k : Nat) (x) : (s.setLegA k x).gate = s.gate := rfl
@[simp] theorem State.setLegA_free (s : State) (k : Nat) (x) : (s.setLegA k x).free = s.free := rfl
@[simp] theorem State.setLegA_msix (s : State) (k : Nat) (x) : (s.setLegA k x).msix = s.msix := rfl
@[simp] theorem State.setLegA_evq (s : State) (k : Nat) (x) : (s.setLegA k x).evq = s.evq := rfl
@[simp] theorem State.setLegA_queues (s : State) (k : Nat) (x) : (s.setLegA k x).queues = s.queues := rfl
@[simp] theorem State.setLegA_bankq (s : State) (k : Nat) (x) : (s.setLegA k x).bankq = s.bankq := rfl
@[simp] theorem State.setLegA_freeCells (s : State) (k : Nat) (x) : (s.setLegA k x).freeCells = s.freeCells := rfl
@[simp] theorem State.setLegA_deviceReserved (s : State) (k : Nat) (x) : (s.setLegA k x).deviceReserved = s.deviceReserved := rfl
@[simp] theorem State.setLegA_cross (s : State) (k : Nat) (x) : (s.setLegA k x).cross = s.cross := rfl
@[simp] theorem State.setLegA_dram (s : State) (k : Nat) (x) : (s.setLegA k x).dram = s.dram := rfl
@[simp] theorem State.setLegA_hostMem (s : State) (k : Nat) (x) : (s.setLegA k x).hostMem = s.hostMem := rfl
@[simp] theorem State.setLegA_keys (s : State) (k : Nat) (x) : (s.setLegA k x).keys = s.keys := rfl
@[simp] theorem State.setLegA_faultLog (s : State) (k : Nat) (x) : (s.setLegA k x).faultLog = s.faultLog := rfl
@[simp] theorem State.setLegA_pkts (s : State) (k : Nat) (x) : (s.setLegA k x).pkts = s.pkts := rfl
@[simp] theorem State.setLegA_nextPkt (s : State) (k : Nat) (x) : (s.setLegA k x).nextPkt = s.nextPkt := rfl
@[simp] theorem State.setLegA_fences (s : State) (k : Nat) (x) : (s.setLegA k x).fences = s.fences := rfl
@[simp] theorem State.setLegA_fetches (s : State) (k : Nat) (x) : (s.setLegA k x).fetches = s.fetches := rfl
@[simp] theorem State.setLegA_legs (s : State) (k : Nat) (x) : (s.setLegA k x).legs = s.legs := rfl
@[simp] theorem State.setLegA_confs (s : State) (k : Nat) (x) : (s.setLegA k x).confs = s.confs := rfl
@[simp] theorem State.setLegA_taps (s : State) (k : Nat) (x) : (s.setLegA k x).taps = s.taps := rfl
@[simp] theorem State.setLegA_tdm (s : State) (k : Nat) (x) : (s.setLegA k x).tdm = s.tdm := rfl
@[simp] theorem State.setLegA_windows (s : State) (k : Nat) (x) : (s.setLegA k x).windows = s.windows := rfl
@[simp] theorem State.setLegA_planes (s : State) (k : Nat) (x) : (s.setLegA k x).planes = s.planes := rfl
@[simp] theorem State.setLegA_vstrs (s : State) (k : Nat) (x) : (s.setLegA k x).vstrs = s.vstrs := rfl
@[simp] theorem State.setLegA_ostrs (s : State) (k : Nat) (x) : (s.setLegA k x).ostrs = s.ostrs := rfl
@[simp] theorem State.setLegA_ports (s : State) (k : Nat) (x) : (s.setLegA k x).ports = s.ports := rfl
@[simp] theorem State.setLegA_rxWin (s : State) (k : Nat) (x) : (s.setLegA k x).rxWin = s.rxWin := rfl
@[simp] theorem State.setLegA_ecomps (s : State) (k : Nat) (x) : (s.setLegA k x).ecomps = s.ecomps := rfl
@[simp] theorem State.setLegA_decs (s : State) (k : Nat) (x) : (s.setLegA k x).decs = s.decs := rfl
@[simp] theorem State.setLegA_layouts (s : State) (k : Nat) (x) : (s.setLegA k x).layouts = s.layouts := rfl
@[simp] theorem State.setLegA_twin (s : State) (k : Nat) (x) : (s.setLegA k x).twin = s.twin := rfl
@[simp] theorem State.setLegA_links (s : State) (k : Nat) (x) : (s.setLegA k x).links = s.links := rfl
@[simp] theorem State.setLegA_fab (s : State) (k : Nat) (x) : (s.setLegA k x).fab = s.fab := rfl
@[simp] theorem State.setLegA_ddr (s : State) (k : Nat) (x) : (s.setLegA k x).ddr = s.ddr := rfl
@[simp] theorem State.setLegA_weir (s : State) (k : Nat) (x) : (s.setLegA k x).weir = s.weir := rfl
@[simp] theorem State.setLegA_poisoned (s : State) (k : Nat) (x) : (s.setLegA k x).poisoned = s.poisoned := rfl
@[simp] theorem State.setLegA_dramRead (s : State) (k : Nat) (x) : (s.setLegA k x).dramRead = s.dramRead := rfl
@[simp] theorem State.setLegA_fatalAt (s : State) (k : Nat) (x) : (s.setLegA k x).fatalAt = s.fatalAt := rfl
@[simp] theorem State.setLegA_sec (s : State) (k : Nat) (x) : (s.setLegA k x).sec = s.sec := rfl
@[simp] theorem State.setLegA_flash (s : State) (k : Nat) (x) : (s.setLegA k x).flash = s.flash := rfl
@[simp] theorem State.setLegA_boot (s : State) (k : Nat) (x) : (s.setLegA k x).boot = s.boot := rfl
@[simp] theorem State.setLegA_dma (s : State) (k : Nat) (x) : (s.setLegA k x).dma = s.dma := rfl
@[simp] theorem State.setLegA_bar2 (s : State) (k : Nat) (x) : (s.setLegA k x).bar2 = s.bar2 := rfl
@[simp] theorem State.setLegA_pwr (s : State) (k : Nat) (x) : (s.setLegA k x).pwr = s.pwr := rfl
@[simp] theorem State.setLegA_svc (s : State) (k : Nat) (x) : (s.setLegA k x).svc = s.svc := rfl
@[simp] theorem State.setLegA_crier (s : State) (k : Nat) (x) : (s.setLegA k x).crier = s.crier := rfl
@[simp] theorem State.setLegA_pins (s : State) (k : Nat) (x) : (s.setLegA k x).pins = s.pins := rfl
@[simp] theorem State.setLegA_uart (s : State) (k : Nat) (x) : (s.setLegA k x).uart = s.uart := rfl
@[simp] theorem State.setLegA_audio (s : State) (k : Nat) (x) : (s.setLegA k x).audio = s.audio := rfl
@[simp] theorem State.setLegA_confAudio (s : State) (k : Nat) (x) : (s.setLegA k x).confAudio = s.confAudio := rfl
@[simp] theorem State.setLegA_mill (s : State) (k : Nat) (x) : (s.setLegA k x).mill = s.mill := rfl
@[simp] theorem State.setLegA_csram (s : State) (k : Nat) (x) : (s.setLegA k x).csram = s.csram := rfl
@[simp] theorem State.setLegA_kernels (s : State) (k : Nat) (x) : (s.setLegA k x).kernels = s.kernels := rfl
@[simp] theorem State.setLegA_kernelCmd (s : State) (k : Nat) (x) : (s.setLegA k x).kernelCmd = s.kernelCmd := rfl
@[simp] theorem State.setLegA_reeve (s : State) (k : Nat) (x) : (s.setLegA k x).reeve = s.reeve := rfl
@[simp] theorem State.setLegA_pending (s : State) (k : Nat) (x) : (s.setLegA k x).pending = s.pending := rfl
@[simp] theorem State.setLegA_rd (s : State) (k a : Nat) (x) : (s.setLegA k x).rd a = s.rd a := rfl

@[simp] theorem State.setConfA_confA (s : State) (k j : Nat) (x) : (s.setConfA k x).confA j = if j = k then x else s.confA j := Sparse.get_set _ _ _ _ _
@[simp] theorem State.setConfA_regs (s : State) (k : Nat) (x) : (s.setConfA k x).regs = s.regs := rfl
@[simp] theorem State.setConfA_capture (s : State) (k : Nat) (x) : (s.setConfA k x).capture = s.capture := rfl
@[simp] theorem State.setConfA_heldLo (s : State) (k : Nat) (x) : (s.setConfA k x).heldLo = s.heldLo := rfl
@[simp] theorem State.setConfA_readData (s : State) (k : Nat) (x) : (s.setConfA k x).readData = s.readData := rfl
@[simp] theorem State.setConfA_clk (s : State) (k : Nat) (x) : (s.setConfA k x).clk = s.clk := rfl
@[simp] theorem State.setConfA_bel (s : State) (k : Nat) (x) : (s.setConfA k x).bel = s.bel := rfl
@[simp] theorem State.setConfA_gate (s : State) (k : Nat) (x) : (s.setConfA k x).gate = s.gate := rfl
@[simp] theorem State.setConfA_free (s : State) (k : Nat) (x) : (s.setConfA k x).free = s.free := rfl
@[simp] theorem State.setConfA_msix (s : State) (k : Nat) (x) : (s.setConfA k x).msix = s.msix := rfl
@[simp] theorem State.setConfA_evq (s : State) (k : Nat) (x) : (s.setConfA k x).evq = s.evq := rfl
@[simp] theorem State.setConfA_queues (s : State) (k : Nat) (x) : (s.setConfA k x).queues = s.queues := rfl
@[simp] theorem State.setConfA_bankq (s : State) (k : Nat) (x) : (s.setConfA k x).bankq = s.bankq := rfl
@[simp] theorem State.setConfA_freeCells (s : State) (k : Nat) (x) : (s.setConfA k x).freeCells = s.freeCells := rfl
@[simp] theorem State.setConfA_deviceReserved (s : State) (k : Nat) (x) : (s.setConfA k x).deviceReserved = s.deviceReserved := rfl
@[simp] theorem State.setConfA_cross (s : State) (k : Nat) (x) : (s.setConfA k x).cross = s.cross := rfl
@[simp] theorem State.setConfA_dram (s : State) (k : Nat) (x) : (s.setConfA k x).dram = s.dram := rfl
@[simp] theorem State.setConfA_hostMem (s : State) (k : Nat) (x) : (s.setConfA k x).hostMem = s.hostMem := rfl
@[simp] theorem State.setConfA_keys (s : State) (k : Nat) (x) : (s.setConfA k x).keys = s.keys := rfl
@[simp] theorem State.setConfA_faultLog (s : State) (k : Nat) (x) : (s.setConfA k x).faultLog = s.faultLog := rfl
@[simp] theorem State.setConfA_pkts (s : State) (k : Nat) (x) : (s.setConfA k x).pkts = s.pkts := rfl
@[simp] theorem State.setConfA_nextPkt (s : State) (k : Nat) (x) : (s.setConfA k x).nextPkt = s.nextPkt := rfl
@[simp] theorem State.setConfA_fences (s : State) (k : Nat) (x) : (s.setConfA k x).fences = s.fences := rfl
@[simp] theorem State.setConfA_fetches (s : State) (k : Nat) (x) : (s.setConfA k x).fetches = s.fetches := rfl
@[simp] theorem State.setConfA_legs (s : State) (k : Nat) (x) : (s.setConfA k x).legs = s.legs := rfl
@[simp] theorem State.setConfA_confs (s : State) (k : Nat) (x) : (s.setConfA k x).confs = s.confs := rfl
@[simp] theorem State.setConfA_taps (s : State) (k : Nat) (x) : (s.setConfA k x).taps = s.taps := rfl
@[simp] theorem State.setConfA_tdm (s : State) (k : Nat) (x) : (s.setConfA k x).tdm = s.tdm := rfl
@[simp] theorem State.setConfA_windows (s : State) (k : Nat) (x) : (s.setConfA k x).windows = s.windows := rfl
@[simp] theorem State.setConfA_planes (s : State) (k : Nat) (x) : (s.setConfA k x).planes = s.planes := rfl
@[simp] theorem State.setConfA_vstrs (s : State) (k : Nat) (x) : (s.setConfA k x).vstrs = s.vstrs := rfl
@[simp] theorem State.setConfA_ostrs (s : State) (k : Nat) (x) : (s.setConfA k x).ostrs = s.ostrs := rfl
@[simp] theorem State.setConfA_ports (s : State) (k : Nat) (x) : (s.setConfA k x).ports = s.ports := rfl
@[simp] theorem State.setConfA_rxWin (s : State) (k : Nat) (x) : (s.setConfA k x).rxWin = s.rxWin := rfl
@[simp] theorem State.setConfA_ecomps (s : State) (k : Nat) (x) : (s.setConfA k x).ecomps = s.ecomps := rfl
@[simp] theorem State.setConfA_decs (s : State) (k : Nat) (x) : (s.setConfA k x).decs = s.decs := rfl
@[simp] theorem State.setConfA_layouts (s : State) (k : Nat) (x) : (s.setConfA k x).layouts = s.layouts := rfl
@[simp] theorem State.setConfA_twin (s : State) (k : Nat) (x) : (s.setConfA k x).twin = s.twin := rfl
@[simp] theorem State.setConfA_links (s : State) (k : Nat) (x) : (s.setConfA k x).links = s.links := rfl
@[simp] theorem State.setConfA_fab (s : State) (k : Nat) (x) : (s.setConfA k x).fab = s.fab := rfl
@[simp] theorem State.setConfA_ddr (s : State) (k : Nat) (x) : (s.setConfA k x).ddr = s.ddr := rfl
@[simp] theorem State.setConfA_weir (s : State) (k : Nat) (x) : (s.setConfA k x).weir = s.weir := rfl
@[simp] theorem State.setConfA_poisoned (s : State) (k : Nat) (x) : (s.setConfA k x).poisoned = s.poisoned := rfl
@[simp] theorem State.setConfA_dramRead (s : State) (k : Nat) (x) : (s.setConfA k x).dramRead = s.dramRead := rfl
@[simp] theorem State.setConfA_fatalAt (s : State) (k : Nat) (x) : (s.setConfA k x).fatalAt = s.fatalAt := rfl
@[simp] theorem State.setConfA_sec (s : State) (k : Nat) (x) : (s.setConfA k x).sec = s.sec := rfl
@[simp] theorem State.setConfA_flash (s : State) (k : Nat) (x) : (s.setConfA k x).flash = s.flash := rfl
@[simp] theorem State.setConfA_boot (s : State) (k : Nat) (x) : (s.setConfA k x).boot = s.boot := rfl
@[simp] theorem State.setConfA_dma (s : State) (k : Nat) (x) : (s.setConfA k x).dma = s.dma := rfl
@[simp] theorem State.setConfA_bar2 (s : State) (k : Nat) (x) : (s.setConfA k x).bar2 = s.bar2 := rfl
@[simp] theorem State.setConfA_pwr (s : State) (k : Nat) (x) : (s.setConfA k x).pwr = s.pwr := rfl
@[simp] theorem State.setConfA_svc (s : State) (k : Nat) (x) : (s.setConfA k x).svc = s.svc := rfl
@[simp] theorem State.setConfA_crier (s : State) (k : Nat) (x) : (s.setConfA k x).crier = s.crier := rfl
@[simp] theorem State.setConfA_pins (s : State) (k : Nat) (x) : (s.setConfA k x).pins = s.pins := rfl
@[simp] theorem State.setConfA_uart (s : State) (k : Nat) (x) : (s.setConfA k x).uart = s.uart := rfl
@[simp] theorem State.setConfA_audio (s : State) (k : Nat) (x) : (s.setConfA k x).audio = s.audio := rfl
@[simp] theorem State.setConfA_legAudio (s : State) (k : Nat) (x) : (s.setConfA k x).legAudio = s.legAudio := rfl
@[simp] theorem State.setConfA_mill (s : State) (k : Nat) (x) : (s.setConfA k x).mill = s.mill := rfl
@[simp] theorem State.setConfA_csram (s : State) (k : Nat) (x) : (s.setConfA k x).csram = s.csram := rfl
@[simp] theorem State.setConfA_kernels (s : State) (k : Nat) (x) : (s.setConfA k x).kernels = s.kernels := rfl
@[simp] theorem State.setConfA_kernelCmd (s : State) (k : Nat) (x) : (s.setConfA k x).kernelCmd = s.kernelCmd := rfl
@[simp] theorem State.setConfA_reeve (s : State) (k : Nat) (x) : (s.setConfA k x).reeve = s.reeve := rfl
@[simp] theorem State.setConfA_pending (s : State) (k : Nat) (x) : (s.setConfA k x).pending = s.pending := rfl
@[simp] theorem State.setConfA_rd (s : State) (k a : Nat) (x) : (s.setConfA k x).rd a = s.rd a := rfl

@[simp] theorem State.setCore_core (s : State) (k j : Nat) (x) : (s.setCore k x).core j = if j = k then x else s.core j := Sparse.get_set _ _ _ _ _
@[simp] theorem State.setCore_regs (s : State) (k : Nat) (x) : (s.setCore k x).regs = s.regs := rfl
@[simp] theorem State.setCore_capture (s : State) (k : Nat) (x) : (s.setCore k x).capture = s.capture := rfl
@[simp] theorem State.setCore_heldLo (s : State) (k : Nat) (x) : (s.setCore k x).heldLo = s.heldLo := rfl
@[simp] theorem State.setCore_readData (s : State) (k : Nat) (x) : (s.setCore k x).readData = s.readData := rfl
@[simp] theorem State.setCore_clk (s : State) (k : Nat) (x) : (s.setCore k x).clk = s.clk := rfl
@[simp] theorem State.setCore_bel (s : State) (k : Nat) (x) : (s.setCore k x).bel = s.bel := rfl
@[simp] theorem State.setCore_gate (s : State) (k : Nat) (x) : (s.setCore k x).gate = s.gate := rfl
@[simp] theorem State.setCore_free (s : State) (k : Nat) (x) : (s.setCore k x).free = s.free := rfl
@[simp] theorem State.setCore_msix (s : State) (k : Nat) (x) : (s.setCore k x).msix = s.msix := rfl
@[simp] theorem State.setCore_evq (s : State) (k : Nat) (x) : (s.setCore k x).evq = s.evq := rfl
@[simp] theorem State.setCore_queues (s : State) (k : Nat) (x) : (s.setCore k x).queues = s.queues := rfl
@[simp] theorem State.setCore_bankq (s : State) (k : Nat) (x) : (s.setCore k x).bankq = s.bankq := rfl
@[simp] theorem State.setCore_freeCells (s : State) (k : Nat) (x) : (s.setCore k x).freeCells = s.freeCells := rfl
@[simp] theorem State.setCore_deviceReserved (s : State) (k : Nat) (x) : (s.setCore k x).deviceReserved = s.deviceReserved := rfl
@[simp] theorem State.setCore_cross (s : State) (k : Nat) (x) : (s.setCore k x).cross = s.cross := rfl
@[simp] theorem State.setCore_dram (s : State) (k : Nat) (x) : (s.setCore k x).dram = s.dram := rfl
@[simp] theorem State.setCore_hostMem (s : State) (k : Nat) (x) : (s.setCore k x).hostMem = s.hostMem := rfl
@[simp] theorem State.setCore_keys (s : State) (k : Nat) (x) : (s.setCore k x).keys = s.keys := rfl
@[simp] theorem State.setCore_faultLog (s : State) (k : Nat) (x) : (s.setCore k x).faultLog = s.faultLog := rfl
@[simp] theorem State.setCore_pkts (s : State) (k : Nat) (x) : (s.setCore k x).pkts = s.pkts := rfl
@[simp] theorem State.setCore_nextPkt (s : State) (k : Nat) (x) : (s.setCore k x).nextPkt = s.nextPkt := rfl
@[simp] theorem State.setCore_fences (s : State) (k : Nat) (x) : (s.setCore k x).fences = s.fences := rfl
@[simp] theorem State.setCore_fetches (s : State) (k : Nat) (x) : (s.setCore k x).fetches = s.fetches := rfl
@[simp] theorem State.setCore_legs (s : State) (k : Nat) (x) : (s.setCore k x).legs = s.legs := rfl
@[simp] theorem State.setCore_confs (s : State) (k : Nat) (x) : (s.setCore k x).confs = s.confs := rfl
@[simp] theorem State.setCore_taps (s : State) (k : Nat) (x) : (s.setCore k x).taps = s.taps := rfl
@[simp] theorem State.setCore_tdm (s : State) (k : Nat) (x) : (s.setCore k x).tdm = s.tdm := rfl
@[simp] theorem State.setCore_windows (s : State) (k : Nat) (x) : (s.setCore k x).windows = s.windows := rfl
@[simp] theorem State.setCore_planes (s : State) (k : Nat) (x) : (s.setCore k x).planes = s.planes := rfl
@[simp] theorem State.setCore_vstrs (s : State) (k : Nat) (x) : (s.setCore k x).vstrs = s.vstrs := rfl
@[simp] theorem State.setCore_ostrs (s : State) (k : Nat) (x) : (s.setCore k x).ostrs = s.ostrs := rfl
@[simp] theorem State.setCore_ports (s : State) (k : Nat) (x) : (s.setCore k x).ports = s.ports := rfl
@[simp] theorem State.setCore_rxWin (s : State) (k : Nat) (x) : (s.setCore k x).rxWin = s.rxWin := rfl
@[simp] theorem State.setCore_ecomps (s : State) (k : Nat) (x) : (s.setCore k x).ecomps = s.ecomps := rfl
@[simp] theorem State.setCore_decs (s : State) (k : Nat) (x) : (s.setCore k x).decs = s.decs := rfl
@[simp] theorem State.setCore_layouts (s : State) (k : Nat) (x) : (s.setCore k x).layouts = s.layouts := rfl
@[simp] theorem State.setCore_twin (s : State) (k : Nat) (x) : (s.setCore k x).twin = s.twin := rfl
@[simp] theorem State.setCore_links (s : State) (k : Nat) (x) : (s.setCore k x).links = s.links := rfl
@[simp] theorem State.setCore_fab (s : State) (k : Nat) (x) : (s.setCore k x).fab = s.fab := rfl
@[simp] theorem State.setCore_ddr (s : State) (k : Nat) (x) : (s.setCore k x).ddr = s.ddr := rfl
@[simp] theorem State.setCore_weir (s : State) (k : Nat) (x) : (s.setCore k x).weir = s.weir := rfl
@[simp] theorem State.setCore_poisoned (s : State) (k : Nat) (x) : (s.setCore k x).poisoned = s.poisoned := rfl
@[simp] theorem State.setCore_dramRead (s : State) (k : Nat) (x) : (s.setCore k x).dramRead = s.dramRead := rfl
@[simp] theorem State.setCore_fatalAt (s : State) (k : Nat) (x) : (s.setCore k x).fatalAt = s.fatalAt := rfl
@[simp] theorem State.setCore_sec (s : State) (k : Nat) (x) : (s.setCore k x).sec = s.sec := rfl
@[simp] theorem State.setCore_flash (s : State) (k : Nat) (x) : (s.setCore k x).flash = s.flash := rfl
@[simp] theorem State.setCore_boot (s : State) (k : Nat) (x) : (s.setCore k x).boot = s.boot := rfl
@[simp] theorem State.setCore_dma (s : State) (k : Nat) (x) : (s.setCore k x).dma = s.dma := rfl
@[simp] theorem State.setCore_bar2 (s : State) (k : Nat) (x) : (s.setCore k x).bar2 = s.bar2 := rfl
@[simp] theorem State.setCore_pwr (s : State) (k : Nat) (x) : (s.setCore k x).pwr = s.pwr := rfl
@[simp] theorem State.setCore_svc (s : State) (k : Nat) (x) : (s.setCore k x).svc = s.svc := rfl
@[simp] theorem State.setCore_crier (s : State) (k : Nat) (x) : (s.setCore k x).crier = s.crier := rfl
@[simp] theorem State.setCore_pins (s : State) (k : Nat) (x) : (s.setCore k x).pins = s.pins := rfl
@[simp] theorem State.setCore_uart (s : State) (k : Nat) (x) : (s.setCore k x).uart = s.uart := rfl
@[simp] theorem State.setCore_audio (s : State) (k : Nat) (x) : (s.setCore k x).audio = s.audio := rfl
@[simp] theorem State.setCore_legAudio (s : State) (k : Nat) (x) : (s.setCore k x).legAudio = s.legAudio := rfl
@[simp] theorem State.setCore_confAudio (s : State) (k : Nat) (x) : (s.setCore k x).confAudio = s.confAudio := rfl
@[simp] theorem State.setCore_csram (s : State) (k : Nat) (x) : (s.setCore k x).csram = s.csram := rfl
@[simp] theorem State.setCore_kernels (s : State) (k : Nat) (x) : (s.setCore k x).kernels = s.kernels := rfl
@[simp] theorem State.setCore_kernelCmd (s : State) (k : Nat) (x) : (s.setCore k x).kernelCmd = s.kernelCmd := rfl
@[simp] theorem State.setCore_reeve (s : State) (k : Nat) (x) : (s.setCore k x).reeve = s.reeve := rfl
@[simp] theorem State.setCore_pending (s : State) (k : Nat) (x) : (s.setCore k x).pending = s.pending := rfl
@[simp] theorem State.setCore_rd (s : State) (k a : Nat) (x) : (s.setCore k x).rd a = s.rd a := rfl

@[simp] theorem State.setNode_node (s : State) (k j : Nat) (x) : (s.setNode k x).node j = if j = k then x else s.node j := Sparse.get_set _ _ _ _ _
@[simp] theorem State.setNode_regs (s : State) (k : Nat) (x) : (s.setNode k x).regs = s.regs := rfl
@[simp] theorem State.setNode_capture (s : State) (k : Nat) (x) : (s.setNode k x).capture = s.capture := rfl
@[simp] theorem State.setNode_heldLo (s : State) (k : Nat) (x) : (s.setNode k x).heldLo = s.heldLo := rfl
@[simp] theorem State.setNode_readData (s : State) (k : Nat) (x) : (s.setNode k x).readData = s.readData := rfl
@[simp] theorem State.setNode_clk (s : State) (k : Nat) (x) : (s.setNode k x).clk = s.clk := rfl
@[simp] theorem State.setNode_bel (s : State) (k : Nat) (x) : (s.setNode k x).bel = s.bel := rfl
@[simp] theorem State.setNode_gate (s : State) (k : Nat) (x) : (s.setNode k x).gate = s.gate := rfl
@[simp] theorem State.setNode_free (s : State) (k : Nat) (x) : (s.setNode k x).free = s.free := rfl
@[simp] theorem State.setNode_msix (s : State) (k : Nat) (x) : (s.setNode k x).msix = s.msix := rfl
@[simp] theorem State.setNode_evq (s : State) (k : Nat) (x) : (s.setNode k x).evq = s.evq := rfl
@[simp] theorem State.setNode_queues (s : State) (k : Nat) (x) : (s.setNode k x).queues = s.queues := rfl
@[simp] theorem State.setNode_bankq (s : State) (k : Nat) (x) : (s.setNode k x).bankq = s.bankq := rfl
@[simp] theorem State.setNode_freeCells (s : State) (k : Nat) (x) : (s.setNode k x).freeCells = s.freeCells := rfl
@[simp] theorem State.setNode_deviceReserved (s : State) (k : Nat) (x) : (s.setNode k x).deviceReserved = s.deviceReserved := rfl
@[simp] theorem State.setNode_cross (s : State) (k : Nat) (x) : (s.setNode k x).cross = s.cross := rfl
@[simp] theorem State.setNode_dram (s : State) (k : Nat) (x) : (s.setNode k x).dram = s.dram := rfl
@[simp] theorem State.setNode_hostMem (s : State) (k : Nat) (x) : (s.setNode k x).hostMem = s.hostMem := rfl
@[simp] theorem State.setNode_keys (s : State) (k : Nat) (x) : (s.setNode k x).keys = s.keys := rfl
@[simp] theorem State.setNode_faultLog (s : State) (k : Nat) (x) : (s.setNode k x).faultLog = s.faultLog := rfl
@[simp] theorem State.setNode_pkts (s : State) (k : Nat) (x) : (s.setNode k x).pkts = s.pkts := rfl
@[simp] theorem State.setNode_nextPkt (s : State) (k : Nat) (x) : (s.setNode k x).nextPkt = s.nextPkt := rfl
@[simp] theorem State.setNode_fences (s : State) (k : Nat) (x) : (s.setNode k x).fences = s.fences := rfl
@[simp] theorem State.setNode_fetches (s : State) (k : Nat) (x) : (s.setNode k x).fetches = s.fetches := rfl
@[simp] theorem State.setNode_legs (s : State) (k : Nat) (x) : (s.setNode k x).legs = s.legs := rfl
@[simp] theorem State.setNode_confs (s : State) (k : Nat) (x) : (s.setNode k x).confs = s.confs := rfl
@[simp] theorem State.setNode_taps (s : State) (k : Nat) (x) : (s.setNode k x).taps = s.taps := rfl
@[simp] theorem State.setNode_tdm (s : State) (k : Nat) (x) : (s.setNode k x).tdm = s.tdm := rfl
@[simp] theorem State.setNode_windows (s : State) (k : Nat) (x) : (s.setNode k x).windows = s.windows := rfl
@[simp] theorem State.setNode_planes (s : State) (k : Nat) (x) : (s.setNode k x).planes = s.planes := rfl
@[simp] theorem State.setNode_vstrs (s : State) (k : Nat) (x) : (s.setNode k x).vstrs = s.vstrs := rfl
@[simp] theorem State.setNode_ostrs (s : State) (k : Nat) (x) : (s.setNode k x).ostrs = s.ostrs := rfl
@[simp] theorem State.setNode_ports (s : State) (k : Nat) (x) : (s.setNode k x).ports = s.ports := rfl
@[simp] theorem State.setNode_rxWin (s : State) (k : Nat) (x) : (s.setNode k x).rxWin = s.rxWin := rfl
@[simp] theorem State.setNode_ecomps (s : State) (k : Nat) (x) : (s.setNode k x).ecomps = s.ecomps := rfl
@[simp] theorem State.setNode_decs (s : State) (k : Nat) (x) : (s.setNode k x).decs = s.decs := rfl
@[simp] theorem State.setNode_layouts (s : State) (k : Nat) (x) : (s.setNode k x).layouts = s.layouts := rfl
@[simp] theorem State.setNode_twin (s : State) (k : Nat) (x) : (s.setNode k x).twin = s.twin := rfl
@[simp] theorem State.setNode_links (s : State) (k : Nat) (x) : (s.setNode k x).links = s.links := rfl
@[simp] theorem State.setNode_fab (s : State) (k : Nat) (x) : (s.setNode k x).fab = s.fab := rfl
@[simp] theorem State.setNode_ddr (s : State) (k : Nat) (x) : (s.setNode k x).ddr = s.ddr := rfl
@[simp] theorem State.setNode_weir (s : State) (k : Nat) (x) : (s.setNode k x).weir = s.weir := rfl
@[simp] theorem State.setNode_poisoned (s : State) (k : Nat) (x) : (s.setNode k x).poisoned = s.poisoned := rfl
@[simp] theorem State.setNode_dramRead (s : State) (k : Nat) (x) : (s.setNode k x).dramRead = s.dramRead := rfl
@[simp] theorem State.setNode_fatalAt (s : State) (k : Nat) (x) : (s.setNode k x).fatalAt = s.fatalAt := rfl
@[simp] theorem State.setNode_sec (s : State) (k : Nat) (x) : (s.setNode k x).sec = s.sec := rfl
@[simp] theorem State.setNode_flash (s : State) (k : Nat) (x) : (s.setNode k x).flash = s.flash := rfl
@[simp] theorem State.setNode_boot (s : State) (k : Nat) (x) : (s.setNode k x).boot = s.boot := rfl
@[simp] theorem State.setNode_dma (s : State) (k : Nat) (x) : (s.setNode k x).dma = s.dma := rfl
@[simp] theorem State.setNode_bar2 (s : State) (k : Nat) (x) : (s.setNode k x).bar2 = s.bar2 := rfl
@[simp] theorem State.setNode_pwr (s : State) (k : Nat) (x) : (s.setNode k x).pwr = s.pwr := rfl
@[simp] theorem State.setNode_svc (s : State) (k : Nat) (x) : (s.setNode k x).svc = s.svc := rfl
@[simp] theorem State.setNode_crier (s : State) (k : Nat) (x) : (s.setNode k x).crier = s.crier := rfl
@[simp] theorem State.setNode_pins (s : State) (k : Nat) (x) : (s.setNode k x).pins = s.pins := rfl
@[simp] theorem State.setNode_uart (s : State) (k : Nat) (x) : (s.setNode k x).uart = s.uart := rfl
@[simp] theorem State.setNode_legAudio (s : State) (k : Nat) (x) : (s.setNode k x).legAudio = s.legAudio := rfl
@[simp] theorem State.setNode_confAudio (s : State) (k : Nat) (x) : (s.setNode k x).confAudio = s.confAudio := rfl
@[simp] theorem State.setNode_mill (s : State) (k : Nat) (x) : (s.setNode k x).mill = s.mill := rfl
@[simp] theorem State.setNode_csram (s : State) (k : Nat) (x) : (s.setNode k x).csram = s.csram := rfl
@[simp] theorem State.setNode_kernels (s : State) (k : Nat) (x) : (s.setNode k x).kernels = s.kernels := rfl
@[simp] theorem State.setNode_kernelCmd (s : State) (k : Nat) (x) : (s.setNode k x).kernelCmd = s.kernelCmd := rfl
@[simp] theorem State.setNode_reeve (s : State) (k : Nat) (x) : (s.setNode k x).reeve = s.reeve := rfl
@[simp] theorem State.setNode_pending (s : State) (k : Nat) (x) : (s.setNode k x).pending = s.pending := rfl
@[simp] theorem State.setNode_rd (s : State) (k a : Nat) (x) : (s.setNode k x).rd a = s.rd a := rfl

@[simp] theorem State.setLink_link (s : State) (k j : Nat) (x) : (s.setLink k x).link j = if j = k then x else s.link j := Sparse.get_set _ _ _ _ _
@[simp] theorem State.setLink_regs (s : State) (k : Nat) (x) : (s.setLink k x).regs = s.regs := rfl
@[simp] theorem State.setLink_capture (s : State) (k : Nat) (x) : (s.setLink k x).capture = s.capture := rfl
@[simp] theorem State.setLink_heldLo (s : State) (k : Nat) (x) : (s.setLink k x).heldLo = s.heldLo := rfl
@[simp] theorem State.setLink_readData (s : State) (k : Nat) (x) : (s.setLink k x).readData = s.readData := rfl
@[simp] theorem State.setLink_clk (s : State) (k : Nat) (x) : (s.setLink k x).clk = s.clk := rfl
@[simp] theorem State.setLink_bel (s : State) (k : Nat) (x) : (s.setLink k x).bel = s.bel := rfl
@[simp] theorem State.setLink_gate (s : State) (k : Nat) (x) : (s.setLink k x).gate = s.gate := rfl
@[simp] theorem State.setLink_free (s : State) (k : Nat) (x) : (s.setLink k x).free = s.free := rfl
@[simp] theorem State.setLink_msix (s : State) (k : Nat) (x) : (s.setLink k x).msix = s.msix := rfl
@[simp] theorem State.setLink_evq (s : State) (k : Nat) (x) : (s.setLink k x).evq = s.evq := rfl
@[simp] theorem State.setLink_queues (s : State) (k : Nat) (x) : (s.setLink k x).queues = s.queues := rfl
@[simp] theorem State.setLink_bankq (s : State) (k : Nat) (x) : (s.setLink k x).bankq = s.bankq := rfl
@[simp] theorem State.setLink_freeCells (s : State) (k : Nat) (x) : (s.setLink k x).freeCells = s.freeCells := rfl
@[simp] theorem State.setLink_deviceReserved (s : State) (k : Nat) (x) : (s.setLink k x).deviceReserved = s.deviceReserved := rfl
@[simp] theorem State.setLink_cross (s : State) (k : Nat) (x) : (s.setLink k x).cross = s.cross := rfl
@[simp] theorem State.setLink_dram (s : State) (k : Nat) (x) : (s.setLink k x).dram = s.dram := rfl
@[simp] theorem State.setLink_hostMem (s : State) (k : Nat) (x) : (s.setLink k x).hostMem = s.hostMem := rfl
@[simp] theorem State.setLink_keys (s : State) (k : Nat) (x) : (s.setLink k x).keys = s.keys := rfl
@[simp] theorem State.setLink_faultLog (s : State) (k : Nat) (x) : (s.setLink k x).faultLog = s.faultLog := rfl
@[simp] theorem State.setLink_pkts (s : State) (k : Nat) (x) : (s.setLink k x).pkts = s.pkts := rfl
@[simp] theorem State.setLink_nextPkt (s : State) (k : Nat) (x) : (s.setLink k x).nextPkt = s.nextPkt := rfl
@[simp] theorem State.setLink_fences (s : State) (k : Nat) (x) : (s.setLink k x).fences = s.fences := rfl
@[simp] theorem State.setLink_fetches (s : State) (k : Nat) (x) : (s.setLink k x).fetches = s.fetches := rfl
@[simp] theorem State.setLink_legs (s : State) (k : Nat) (x) : (s.setLink k x).legs = s.legs := rfl
@[simp] theorem State.setLink_confs (s : State) (k : Nat) (x) : (s.setLink k x).confs = s.confs := rfl
@[simp] theorem State.setLink_taps (s : State) (k : Nat) (x) : (s.setLink k x).taps = s.taps := rfl
@[simp] theorem State.setLink_tdm (s : State) (k : Nat) (x) : (s.setLink k x).tdm = s.tdm := rfl
@[simp] theorem State.setLink_windows (s : State) (k : Nat) (x) : (s.setLink k x).windows = s.windows := rfl
@[simp] theorem State.setLink_planes (s : State) (k : Nat) (x) : (s.setLink k x).planes = s.planes := rfl
@[simp] theorem State.setLink_vstrs (s : State) (k : Nat) (x) : (s.setLink k x).vstrs = s.vstrs := rfl
@[simp] theorem State.setLink_ostrs (s : State) (k : Nat) (x) : (s.setLink k x).ostrs = s.ostrs := rfl
@[simp] theorem State.setLink_ports (s : State) (k : Nat) (x) : (s.setLink k x).ports = s.ports := rfl
@[simp] theorem State.setLink_rxWin (s : State) (k : Nat) (x) : (s.setLink k x).rxWin = s.rxWin := rfl
@[simp] theorem State.setLink_ecomps (s : State) (k : Nat) (x) : (s.setLink k x).ecomps = s.ecomps := rfl
@[simp] theorem State.setLink_decs (s : State) (k : Nat) (x) : (s.setLink k x).decs = s.decs := rfl
@[simp] theorem State.setLink_layouts (s : State) (k : Nat) (x) : (s.setLink k x).layouts = s.layouts := rfl
@[simp] theorem State.setLink_twin (s : State) (k : Nat) (x) : (s.setLink k x).twin = s.twin := rfl
@[simp] theorem State.setLink_fab (s : State) (k : Nat) (x) : (s.setLink k x).fab = s.fab := rfl
@[simp] theorem State.setLink_ddr (s : State) (k : Nat) (x) : (s.setLink k x).ddr = s.ddr := rfl
@[simp] theorem State.setLink_weir (s : State) (k : Nat) (x) : (s.setLink k x).weir = s.weir := rfl
@[simp] theorem State.setLink_poisoned (s : State) (k : Nat) (x) : (s.setLink k x).poisoned = s.poisoned := rfl
@[simp] theorem State.setLink_dramRead (s : State) (k : Nat) (x) : (s.setLink k x).dramRead = s.dramRead := rfl
@[simp] theorem State.setLink_fatalAt (s : State) (k : Nat) (x) : (s.setLink k x).fatalAt = s.fatalAt := rfl
@[simp] theorem State.setLink_sec (s : State) (k : Nat) (x) : (s.setLink k x).sec = s.sec := rfl
@[simp] theorem State.setLink_flash (s : State) (k : Nat) (x) : (s.setLink k x).flash = s.flash := rfl
@[simp] theorem State.setLink_boot (s : State) (k : Nat) (x) : (s.setLink k x).boot = s.boot := rfl
@[simp] theorem State.setLink_dma (s : State) (k : Nat) (x) : (s.setLink k x).dma = s.dma := rfl
@[simp] theorem State.setLink_bar2 (s : State) (k : Nat) (x) : (s.setLink k x).bar2 = s.bar2 := rfl
@[simp] theorem State.setLink_pwr (s : State) (k : Nat) (x) : (s.setLink k x).pwr = s.pwr := rfl
@[simp] theorem State.setLink_svc (s : State) (k : Nat) (x) : (s.setLink k x).svc = s.svc := rfl
@[simp] theorem State.setLink_crier (s : State) (k : Nat) (x) : (s.setLink k x).crier = s.crier := rfl
@[simp] theorem State.setLink_pins (s : State) (k : Nat) (x) : (s.setLink k x).pins = s.pins := rfl
@[simp] theorem State.setLink_uart (s : State) (k : Nat) (x) : (s.setLink k x).uart = s.uart := rfl
@[simp] theorem State.setLink_audio (s : State) (k : Nat) (x) : (s.setLink k x).audio = s.audio := rfl
@[simp] theorem State.setLink_legAudio (s : State) (k : Nat) (x) : (s.setLink k x).legAudio = s.legAudio := rfl
@[simp] theorem State.setLink_confAudio (s : State) (k : Nat) (x) : (s.setLink k x).confAudio = s.confAudio := rfl
@[simp] theorem State.setLink_mill (s : State) (k : Nat) (x) : (s.setLink k x).mill = s.mill := rfl
@[simp] theorem State.setLink_csram (s : State) (k : Nat) (x) : (s.setLink k x).csram = s.csram := rfl
@[simp] theorem State.setLink_kernels (s : State) (k : Nat) (x) : (s.setLink k x).kernels = s.kernels := rfl
@[simp] theorem State.setLink_kernelCmd (s : State) (k : Nat) (x) : (s.setLink k x).kernelCmd = s.kernelCmd := rfl
@[simp] theorem State.setLink_reeve (s : State) (k : Nat) (x) : (s.setLink k x).reeve = s.reeve := rfl
@[simp] theorem State.setLink_pending (s : State) (k : Nat) (x) : (s.setLink k x).pending = s.pending := rfl
@[simp] theorem State.setLink_rd (s : State) (k a : Nat) (x) : (s.setLink k x).rd a = s.rd a := rfl

@[simp] theorem State.setBank_bank (s : State) (k j : Nat) (x) : (s.setBank k x).bank j = if j = k then x else s.bank j := Sparse.get_set _ _ _ _ _
@[simp] theorem State.setBank_regs (s : State) (k : Nat) (x) : (s.setBank k x).regs = s.regs := rfl
@[simp] theorem State.setBank_capture (s : State) (k : Nat) (x) : (s.setBank k x).capture = s.capture := rfl
@[simp] theorem State.setBank_heldLo (s : State) (k : Nat) (x) : (s.setBank k x).heldLo = s.heldLo := rfl
@[simp] theorem State.setBank_readData (s : State) (k : Nat) (x) : (s.setBank k x).readData = s.readData := rfl
@[simp] theorem State.setBank_clk (s : State) (k : Nat) (x) : (s.setBank k x).clk = s.clk := rfl
@[simp] theorem State.setBank_bel (s : State) (k : Nat) (x) : (s.setBank k x).bel = s.bel := rfl
@[simp] theorem State.setBank_gate (s : State) (k : Nat) (x) : (s.setBank k x).gate = s.gate := rfl
@[simp] theorem State.setBank_free (s : State) (k : Nat) (x) : (s.setBank k x).free = s.free := rfl
@[simp] theorem State.setBank_msix (s : State) (k : Nat) (x) : (s.setBank k x).msix = s.msix := rfl
@[simp] theorem State.setBank_evq (s : State) (k : Nat) (x) : (s.setBank k x).evq = s.evq := rfl
@[simp] theorem State.setBank_queues (s : State) (k : Nat) (x) : (s.setBank k x).queues = s.queues := rfl
@[simp] theorem State.setBank_freeCells (s : State) (k : Nat) (x) : (s.setBank k x).freeCells = s.freeCells := rfl
@[simp] theorem State.setBank_deviceReserved (s : State) (k : Nat) (x) : (s.setBank k x).deviceReserved = s.deviceReserved := rfl
@[simp] theorem State.setBank_cross (s : State) (k : Nat) (x) : (s.setBank k x).cross = s.cross := rfl
@[simp] theorem State.setBank_dram (s : State) (k : Nat) (x) : (s.setBank k x).dram = s.dram := rfl
@[simp] theorem State.setBank_hostMem (s : State) (k : Nat) (x) : (s.setBank k x).hostMem = s.hostMem := rfl
@[simp] theorem State.setBank_keys (s : State) (k : Nat) (x) : (s.setBank k x).keys = s.keys := rfl
@[simp] theorem State.setBank_faultLog (s : State) (k : Nat) (x) : (s.setBank k x).faultLog = s.faultLog := rfl
@[simp] theorem State.setBank_pkts (s : State) (k : Nat) (x) : (s.setBank k x).pkts = s.pkts := rfl
@[simp] theorem State.setBank_nextPkt (s : State) (k : Nat) (x) : (s.setBank k x).nextPkt = s.nextPkt := rfl
@[simp] theorem State.setBank_fences (s : State) (k : Nat) (x) : (s.setBank k x).fences = s.fences := rfl
@[simp] theorem State.setBank_fetches (s : State) (k : Nat) (x) : (s.setBank k x).fetches = s.fetches := rfl
@[simp] theorem State.setBank_legs (s : State) (k : Nat) (x) : (s.setBank k x).legs = s.legs := rfl
@[simp] theorem State.setBank_confs (s : State) (k : Nat) (x) : (s.setBank k x).confs = s.confs := rfl
@[simp] theorem State.setBank_taps (s : State) (k : Nat) (x) : (s.setBank k x).taps = s.taps := rfl
@[simp] theorem State.setBank_tdm (s : State) (k : Nat) (x) : (s.setBank k x).tdm = s.tdm := rfl
@[simp] theorem State.setBank_windows (s : State) (k : Nat) (x) : (s.setBank k x).windows = s.windows := rfl
@[simp] theorem State.setBank_planes (s : State) (k : Nat) (x) : (s.setBank k x).planes = s.planes := rfl
@[simp] theorem State.setBank_vstrs (s : State) (k : Nat) (x) : (s.setBank k x).vstrs = s.vstrs := rfl
@[simp] theorem State.setBank_ostrs (s : State) (k : Nat) (x) : (s.setBank k x).ostrs = s.ostrs := rfl
@[simp] theorem State.setBank_ports (s : State) (k : Nat) (x) : (s.setBank k x).ports = s.ports := rfl
@[simp] theorem State.setBank_rxWin (s : State) (k : Nat) (x) : (s.setBank k x).rxWin = s.rxWin := rfl
@[simp] theorem State.setBank_ecomps (s : State) (k : Nat) (x) : (s.setBank k x).ecomps = s.ecomps := rfl
@[simp] theorem State.setBank_decs (s : State) (k : Nat) (x) : (s.setBank k x).decs = s.decs := rfl
@[simp] theorem State.setBank_layouts (s : State) (k : Nat) (x) : (s.setBank k x).layouts = s.layouts := rfl
@[simp] theorem State.setBank_twin (s : State) (k : Nat) (x) : (s.setBank k x).twin = s.twin := rfl
@[simp] theorem State.setBank_links (s : State) (k : Nat) (x) : (s.setBank k x).links = s.links := rfl
@[simp] theorem State.setBank_fab (s : State) (k : Nat) (x) : (s.setBank k x).fab = s.fab := rfl
@[simp] theorem State.setBank_ddr (s : State) (k : Nat) (x) : (s.setBank k x).ddr = s.ddr := rfl
@[simp] theorem State.setBank_weir (s : State) (k : Nat) (x) : (s.setBank k x).weir = s.weir := rfl
@[simp] theorem State.setBank_poisoned (s : State) (k : Nat) (x) : (s.setBank k x).poisoned = s.poisoned := rfl
@[simp] theorem State.setBank_dramRead (s : State) (k : Nat) (x) : (s.setBank k x).dramRead = s.dramRead := rfl
@[simp] theorem State.setBank_fatalAt (s : State) (k : Nat) (x) : (s.setBank k x).fatalAt = s.fatalAt := rfl
@[simp] theorem State.setBank_sec (s : State) (k : Nat) (x) : (s.setBank k x).sec = s.sec := rfl
@[simp] theorem State.setBank_flash (s : State) (k : Nat) (x) : (s.setBank k x).flash = s.flash := rfl
@[simp] theorem State.setBank_boot (s : State) (k : Nat) (x) : (s.setBank k x).boot = s.boot := rfl
@[simp] theorem State.setBank_dma (s : State) (k : Nat) (x) : (s.setBank k x).dma = s.dma := rfl
@[simp] theorem State.setBank_bar2 (s : State) (k : Nat) (x) : (s.setBank k x).bar2 = s.bar2 := rfl
@[simp] theorem State.setBank_pwr (s : State) (k : Nat) (x) : (s.setBank k x).pwr = s.pwr := rfl
@[simp] theorem State.setBank_svc (s : State) (k : Nat) (x) : (s.setBank k x).svc = s.svc := rfl
@[simp] theorem State.setBank_crier (s : State) (k : Nat) (x) : (s.setBank k x).crier = s.crier := rfl
@[simp] theorem State.setBank_pins (s : State) (k : Nat) (x) : (s.setBank k x).pins = s.pins := rfl
@[simp] theorem State.setBank_uart (s : State) (k : Nat) (x) : (s.setBank k x).uart = s.uart := rfl
@[simp] theorem State.setBank_audio (s : State) (k : Nat) (x) : (s.setBank k x).audio = s.audio := rfl
@[simp] theorem State.setBank_legAudio (s : State) (k : Nat) (x) : (s.setBank k x).legAudio = s.legAudio := rfl
@[simp] theorem State.setBank_confAudio (s : State) (k : Nat) (x) : (s.setBank k x).confAudio = s.confAudio := rfl
@[simp] theorem State.setBank_mill (s : State) (k : Nat) (x) : (s.setBank k x).mill = s.mill := rfl
@[simp] theorem State.setBank_csram (s : State) (k : Nat) (x) : (s.setBank k x).csram = s.csram := rfl
@[simp] theorem State.setBank_kernels (s : State) (k : Nat) (x) : (s.setBank k x).kernels = s.kernels := rfl
@[simp] theorem State.setBank_kernelCmd (s : State) (k : Nat) (x) : (s.setBank k x).kernelCmd = s.kernelCmd := rfl
@[simp] theorem State.setBank_reeve (s : State) (k : Nat) (x) : (s.setBank k x).reeve = s.reeve := rfl
@[simp] theorem State.setBank_pending (s : State) (k : Nat) (x) : (s.setBank k x).pending = s.pending := rfl
@[simp] theorem State.setBank_rd (s : State) (k a : Nat) (x) : (s.setBank k x).rd a = s.rd a := rfl

@[simp] theorem State.setChan_chan (s : State) (k j : Nat) (x) : (s.setChan k x).chan j = if j = k then x else s.chan j := Sparse.get_set _ _ _ _ _
@[simp] theorem State.setChan_regs (s : State) (k : Nat) (x) : (s.setChan k x).regs = s.regs := rfl
@[simp] theorem State.setChan_capture (s : State) (k : Nat) (x) : (s.setChan k x).capture = s.capture := rfl
@[simp] theorem State.setChan_heldLo (s : State) (k : Nat) (x) : (s.setChan k x).heldLo = s.heldLo := rfl
@[simp] theorem State.setChan_readData (s : State) (k : Nat) (x) : (s.setChan k x).readData = s.readData := rfl
@[simp] theorem State.setChan_clk (s : State) (k : Nat) (x) : (s.setChan k x).clk = s.clk := rfl
@[simp] theorem State.setChan_bel (s : State) (k : Nat) (x) : (s.setChan k x).bel = s.bel := rfl
@[simp] theorem State.setChan_gate (s : State) (k : Nat) (x) : (s.setChan k x).gate = s.gate := rfl
@[simp] theorem State.setChan_free (s : State) (k : Nat) (x) : (s.setChan k x).free = s.free := rfl
@[simp] theorem State.setChan_msix (s : State) (k : Nat) (x) : (s.setChan k x).msix = s.msix := rfl
@[simp] theorem State.setChan_evq (s : State) (k : Nat) (x) : (s.setChan k x).evq = s.evq := rfl
@[simp] theorem State.setChan_queues (s : State) (k : Nat) (x) : (s.setChan k x).queues = s.queues := rfl
@[simp] theorem State.setChan_bankq (s : State) (k : Nat) (x) : (s.setChan k x).bankq = s.bankq := rfl
@[simp] theorem State.setChan_freeCells (s : State) (k : Nat) (x) : (s.setChan k x).freeCells = s.freeCells := rfl
@[simp] theorem State.setChan_deviceReserved (s : State) (k : Nat) (x) : (s.setChan k x).deviceReserved = s.deviceReserved := rfl
@[simp] theorem State.setChan_cross (s : State) (k : Nat) (x) : (s.setChan k x).cross = s.cross := rfl
@[simp] theorem State.setChan_dram (s : State) (k : Nat) (x) : (s.setChan k x).dram = s.dram := rfl
@[simp] theorem State.setChan_hostMem (s : State) (k : Nat) (x) : (s.setChan k x).hostMem = s.hostMem := rfl
@[simp] theorem State.setChan_keys (s : State) (k : Nat) (x) : (s.setChan k x).keys = s.keys := rfl
@[simp] theorem State.setChan_faultLog (s : State) (k : Nat) (x) : (s.setChan k x).faultLog = s.faultLog := rfl
@[simp] theorem State.setChan_pkts (s : State) (k : Nat) (x) : (s.setChan k x).pkts = s.pkts := rfl
@[simp] theorem State.setChan_nextPkt (s : State) (k : Nat) (x) : (s.setChan k x).nextPkt = s.nextPkt := rfl
@[simp] theorem State.setChan_fences (s : State) (k : Nat) (x) : (s.setChan k x).fences = s.fences := rfl
@[simp] theorem State.setChan_fetches (s : State) (k : Nat) (x) : (s.setChan k x).fetches = s.fetches := rfl
@[simp] theorem State.setChan_legs (s : State) (k : Nat) (x) : (s.setChan k x).legs = s.legs := rfl
@[simp] theorem State.setChan_confs (s : State) (k : Nat) (x) : (s.setChan k x).confs = s.confs := rfl
@[simp] theorem State.setChan_taps (s : State) (k : Nat) (x) : (s.setChan k x).taps = s.taps := rfl
@[simp] theorem State.setChan_tdm (s : State) (k : Nat) (x) : (s.setChan k x).tdm = s.tdm := rfl
@[simp] theorem State.setChan_windows (s : State) (k : Nat) (x) : (s.setChan k x).windows = s.windows := rfl
@[simp] theorem State.setChan_planes (s : State) (k : Nat) (x) : (s.setChan k x).planes = s.planes := rfl
@[simp] theorem State.setChan_vstrs (s : State) (k : Nat) (x) : (s.setChan k x).vstrs = s.vstrs := rfl
@[simp] theorem State.setChan_ostrs (s : State) (k : Nat) (x) : (s.setChan k x).ostrs = s.ostrs := rfl
@[simp] theorem State.setChan_ports (s : State) (k : Nat) (x) : (s.setChan k x).ports = s.ports := rfl
@[simp] theorem State.setChan_rxWin (s : State) (k : Nat) (x) : (s.setChan k x).rxWin = s.rxWin := rfl
@[simp] theorem State.setChan_ecomps (s : State) (k : Nat) (x) : (s.setChan k x).ecomps = s.ecomps := rfl
@[simp] theorem State.setChan_decs (s : State) (k : Nat) (x) : (s.setChan k x).decs = s.decs := rfl
@[simp] theorem State.setChan_layouts (s : State) (k : Nat) (x) : (s.setChan k x).layouts = s.layouts := rfl
@[simp] theorem State.setChan_twin (s : State) (k : Nat) (x) : (s.setChan k x).twin = s.twin := rfl
@[simp] theorem State.setChan_links (s : State) (k : Nat) (x) : (s.setChan k x).links = s.links := rfl
@[simp] theorem State.setChan_fab (s : State) (k : Nat) (x) : (s.setChan k x).fab = s.fab := rfl
@[simp] theorem State.setChan_weir (s : State) (k : Nat) (x) : (s.setChan k x).weir = s.weir := rfl
@[simp] theorem State.setChan_poisoned (s : State) (k : Nat) (x) : (s.setChan k x).poisoned = s.poisoned := rfl
@[simp] theorem State.setChan_dramRead (s : State) (k : Nat) (x) : (s.setChan k x).dramRead = s.dramRead := rfl
@[simp] theorem State.setChan_fatalAt (s : State) (k : Nat) (x) : (s.setChan k x).fatalAt = s.fatalAt := rfl
@[simp] theorem State.setChan_sec (s : State) (k : Nat) (x) : (s.setChan k x).sec = s.sec := rfl
@[simp] theorem State.setChan_flash (s : State) (k : Nat) (x) : (s.setChan k x).flash = s.flash := rfl
@[simp] theorem State.setChan_boot (s : State) (k : Nat) (x) : (s.setChan k x).boot = s.boot := rfl
@[simp] theorem State.setChan_dma (s : State) (k : Nat) (x) : (s.setChan k x).dma = s.dma := rfl
@[simp] theorem State.setChan_bar2 (s : State) (k : Nat) (x) : (s.setChan k x).bar2 = s.bar2 := rfl
@[simp] theorem State.setChan_pwr (s : State) (k : Nat) (x) : (s.setChan k x).pwr = s.pwr := rfl
@[simp] theorem State.setChan_svc (s : State) (k : Nat) (x) : (s.setChan k x).svc = s.svc := rfl
@[simp] theorem State.setChan_crier (s : State) (k : Nat) (x) : (s.setChan k x).crier = s.crier := rfl
@[simp] theorem State.setChan_pins (s : State) (k : Nat) (x) : (s.setChan k x).pins = s.pins := rfl
@[simp] theorem State.setChan_uart (s : State) (k : Nat) (x) : (s.setChan k x).uart = s.uart := rfl
@[simp] theorem State.setChan_audio (s : State) (k : Nat) (x) : (s.setChan k x).audio = s.audio := rfl
@[simp] theorem State.setChan_legAudio (s : State) (k : Nat) (x) : (s.setChan k x).legAudio = s.legAudio := rfl
@[simp] theorem State.setChan_confAudio (s : State) (k : Nat) (x) : (s.setChan k x).confAudio = s.confAudio := rfl
@[simp] theorem State.setChan_mill (s : State) (k : Nat) (x) : (s.setChan k x).mill = s.mill := rfl
@[simp] theorem State.setChan_csram (s : State) (k : Nat) (x) : (s.setChan k x).csram = s.csram := rfl
@[simp] theorem State.setChan_kernels (s : State) (k : Nat) (x) : (s.setChan k x).kernels = s.kernels := rfl
@[simp] theorem State.setChan_kernelCmd (s : State) (k : Nat) (x) : (s.setChan k x).kernelCmd = s.kernelCmd := rfl
@[simp] theorem State.setChan_reeve (s : State) (k : Nat) (x) : (s.setChan k x).reeve = s.reeve := rfl
@[simp] theorem State.setChan_pending (s : State) (k : Nat) (x) : (s.setChan k x).pending = s.pending := rfl
@[simp] theorem State.setChan_rd (s : State) (k a : Nat) (x) : (s.setChan k x).rd a = s.rd a := rfl

@[simp] theorem State.setDma_dmaCh (s : State) (k j : Nat) (x) : (s.setDma k x).dmaCh j = if j = k then x else s.dmaCh j := Sparse.get_set _ _ _ _ _
@[simp] theorem State.setDma_regs (s : State) (k : Nat) (x) : (s.setDma k x).regs = s.regs := rfl
@[simp] theorem State.setDma_capture (s : State) (k : Nat) (x) : (s.setDma k x).capture = s.capture := rfl
@[simp] theorem State.setDma_heldLo (s : State) (k : Nat) (x) : (s.setDma k x).heldLo = s.heldLo := rfl
@[simp] theorem State.setDma_readData (s : State) (k : Nat) (x) : (s.setDma k x).readData = s.readData := rfl
@[simp] theorem State.setDma_clk (s : State) (k : Nat) (x) : (s.setDma k x).clk = s.clk := rfl
@[simp] theorem State.setDma_bel (s : State) (k : Nat) (x) : (s.setDma k x).bel = s.bel := rfl
@[simp] theorem State.setDma_gate (s : State) (k : Nat) (x) : (s.setDma k x).gate = s.gate := rfl
@[simp] theorem State.setDma_free (s : State) (k : Nat) (x) : (s.setDma k x).free = s.free := rfl
@[simp] theorem State.setDma_msix (s : State) (k : Nat) (x) : (s.setDma k x).msix = s.msix := rfl
@[simp] theorem State.setDma_evq (s : State) (k : Nat) (x) : (s.setDma k x).evq = s.evq := rfl
@[simp] theorem State.setDma_queues (s : State) (k : Nat) (x) : (s.setDma k x).queues = s.queues := rfl
@[simp] theorem State.setDma_bankq (s : State) (k : Nat) (x) : (s.setDma k x).bankq = s.bankq := rfl
@[simp] theorem State.setDma_freeCells (s : State) (k : Nat) (x) : (s.setDma k x).freeCells = s.freeCells := rfl
@[simp] theorem State.setDma_deviceReserved (s : State) (k : Nat) (x) : (s.setDma k x).deviceReserved = s.deviceReserved := rfl
@[simp] theorem State.setDma_cross (s : State) (k : Nat) (x) : (s.setDma k x).cross = s.cross := rfl
@[simp] theorem State.setDma_dram (s : State) (k : Nat) (x) : (s.setDma k x).dram = s.dram := rfl
@[simp] theorem State.setDma_hostMem (s : State) (k : Nat) (x) : (s.setDma k x).hostMem = s.hostMem := rfl
@[simp] theorem State.setDma_keys (s : State) (k : Nat) (x) : (s.setDma k x).keys = s.keys := rfl
@[simp] theorem State.setDma_faultLog (s : State) (k : Nat) (x) : (s.setDma k x).faultLog = s.faultLog := rfl
@[simp] theorem State.setDma_pkts (s : State) (k : Nat) (x) : (s.setDma k x).pkts = s.pkts := rfl
@[simp] theorem State.setDma_nextPkt (s : State) (k : Nat) (x) : (s.setDma k x).nextPkt = s.nextPkt := rfl
@[simp] theorem State.setDma_fences (s : State) (k : Nat) (x) : (s.setDma k x).fences = s.fences := rfl
@[simp] theorem State.setDma_fetches (s : State) (k : Nat) (x) : (s.setDma k x).fetches = s.fetches := rfl
@[simp] theorem State.setDma_legs (s : State) (k : Nat) (x) : (s.setDma k x).legs = s.legs := rfl
@[simp] theorem State.setDma_confs (s : State) (k : Nat) (x) : (s.setDma k x).confs = s.confs := rfl
@[simp] theorem State.setDma_taps (s : State) (k : Nat) (x) : (s.setDma k x).taps = s.taps := rfl
@[simp] theorem State.setDma_tdm (s : State) (k : Nat) (x) : (s.setDma k x).tdm = s.tdm := rfl
@[simp] theorem State.setDma_windows (s : State) (k : Nat) (x) : (s.setDma k x).windows = s.windows := rfl
@[simp] theorem State.setDma_planes (s : State) (k : Nat) (x) : (s.setDma k x).planes = s.planes := rfl
@[simp] theorem State.setDma_vstrs (s : State) (k : Nat) (x) : (s.setDma k x).vstrs = s.vstrs := rfl
@[simp] theorem State.setDma_ostrs (s : State) (k : Nat) (x) : (s.setDma k x).ostrs = s.ostrs := rfl
@[simp] theorem State.setDma_ports (s : State) (k : Nat) (x) : (s.setDma k x).ports = s.ports := rfl
@[simp] theorem State.setDma_rxWin (s : State) (k : Nat) (x) : (s.setDma k x).rxWin = s.rxWin := rfl
@[simp] theorem State.setDma_ecomps (s : State) (k : Nat) (x) : (s.setDma k x).ecomps = s.ecomps := rfl
@[simp] theorem State.setDma_decs (s : State) (k : Nat) (x) : (s.setDma k x).decs = s.decs := rfl
@[simp] theorem State.setDma_layouts (s : State) (k : Nat) (x) : (s.setDma k x).layouts = s.layouts := rfl
@[simp] theorem State.setDma_twin (s : State) (k : Nat) (x) : (s.setDma k x).twin = s.twin := rfl
@[simp] theorem State.setDma_links (s : State) (k : Nat) (x) : (s.setDma k x).links = s.links := rfl
@[simp] theorem State.setDma_fab (s : State) (k : Nat) (x) : (s.setDma k x).fab = s.fab := rfl
@[simp] theorem State.setDma_ddr (s : State) (k : Nat) (x) : (s.setDma k x).ddr = s.ddr := rfl
@[simp] theorem State.setDma_weir (s : State) (k : Nat) (x) : (s.setDma k x).weir = s.weir := rfl
@[simp] theorem State.setDma_poisoned (s : State) (k : Nat) (x) : (s.setDma k x).poisoned = s.poisoned := rfl
@[simp] theorem State.setDma_dramRead (s : State) (k : Nat) (x) : (s.setDma k x).dramRead = s.dramRead := rfl
@[simp] theorem State.setDma_fatalAt (s : State) (k : Nat) (x) : (s.setDma k x).fatalAt = s.fatalAt := rfl
@[simp] theorem State.setDma_sec (s : State) (k : Nat) (x) : (s.setDma k x).sec = s.sec := rfl
@[simp] theorem State.setDma_flash (s : State) (k : Nat) (x) : (s.setDma k x).flash = s.flash := rfl
@[simp] theorem State.setDma_boot (s : State) (k : Nat) (x) : (s.setDma k x).boot = s.boot := rfl
@[simp] theorem State.setDma_bar2 (s : State) (k : Nat) (x) : (s.setDma k x).bar2 = s.bar2 := rfl
@[simp] theorem State.setDma_pwr (s : State) (k : Nat) (x) : (s.setDma k x).pwr = s.pwr := rfl
@[simp] theorem State.setDma_svc (s : State) (k : Nat) (x) : (s.setDma k x).svc = s.svc := rfl
@[simp] theorem State.setDma_crier (s : State) (k : Nat) (x) : (s.setDma k x).crier = s.crier := rfl
@[simp] theorem State.setDma_pins (s : State) (k : Nat) (x) : (s.setDma k x).pins = s.pins := rfl
@[simp] theorem State.setDma_uart (s : State) (k : Nat) (x) : (s.setDma k x).uart = s.uart := rfl
@[simp] theorem State.setDma_audio (s : State) (k : Nat) (x) : (s.setDma k x).audio = s.audio := rfl
@[simp] theorem State.setDma_legAudio (s : State) (k : Nat) (x) : (s.setDma k x).legAudio = s.legAudio := rfl
@[simp] theorem State.setDma_confAudio (s : State) (k : Nat) (x) : (s.setDma k x).confAudio = s.confAudio := rfl
@[simp] theorem State.setDma_mill (s : State) (k : Nat) (x) : (s.setDma k x).mill = s.mill := rfl
@[simp] theorem State.setDma_csram (s : State) (k : Nat) (x) : (s.setDma k x).csram = s.csram := rfl
@[simp] theorem State.setDma_kernels (s : State) (k : Nat) (x) : (s.setDma k x).kernels = s.kernels := rfl
@[simp] theorem State.setDma_kernelCmd (s : State) (k : Nat) (x) : (s.setDma k x).kernelCmd = s.kernelCmd := rfl
@[simp] theorem State.setDma_reeve (s : State) (k : Nat) (x) : (s.setDma k x).reeve = s.reeve := rfl
@[simp] theorem State.setDma_pending (s : State) (k : Nat) (x) : (s.setDma k x).pending = s.pending := rfl
@[simp] theorem State.setDma_rd (s : State) (k a : Nat) (x) : (s.setDma k x).rd a = s.rd a := rfl

@[simp] theorem State.setDom_dom (s : State) (k j : Nat) (x) : (s.setDom k x).dom j = if j = k then x else s.dom j := Sparse.get_set _ _ _ _ _
@[simp] theorem State.setDom_regs (s : State) (k : Nat) (x) : (s.setDom k x).regs = s.regs := rfl
@[simp] theorem State.setDom_capture (s : State) (k : Nat) (x) : (s.setDom k x).capture = s.capture := rfl
@[simp] theorem State.setDom_heldLo (s : State) (k : Nat) (x) : (s.setDom k x).heldLo = s.heldLo := rfl
@[simp] theorem State.setDom_readData (s : State) (k : Nat) (x) : (s.setDom k x).readData = s.readData := rfl
@[simp] theorem State.setDom_clk (s : State) (k : Nat) (x) : (s.setDom k x).clk = s.clk := rfl
@[simp] theorem State.setDom_bel (s : State) (k : Nat) (x) : (s.setDom k x).bel = s.bel := rfl
@[simp] theorem State.setDom_gate (s : State) (k : Nat) (x) : (s.setDom k x).gate = s.gate := rfl
@[simp] theorem State.setDom_free (s : State) (k : Nat) (x) : (s.setDom k x).free = s.free := rfl
@[simp] theorem State.setDom_msix (s : State) (k : Nat) (x) : (s.setDom k x).msix = s.msix := rfl
@[simp] theorem State.setDom_evq (s : State) (k : Nat) (x) : (s.setDom k x).evq = s.evq := rfl
@[simp] theorem State.setDom_queues (s : State) (k : Nat) (x) : (s.setDom k x).queues = s.queues := rfl
@[simp] theorem State.setDom_bankq (s : State) (k : Nat) (x) : (s.setDom k x).bankq = s.bankq := rfl
@[simp] theorem State.setDom_freeCells (s : State) (k : Nat) (x) : (s.setDom k x).freeCells = s.freeCells := rfl
@[simp] theorem State.setDom_deviceReserved (s : State) (k : Nat) (x) : (s.setDom k x).deviceReserved = s.deviceReserved := rfl
@[simp] theorem State.setDom_cross (s : State) (k : Nat) (x) : (s.setDom k x).cross = s.cross := rfl
@[simp] theorem State.setDom_dram (s : State) (k : Nat) (x) : (s.setDom k x).dram = s.dram := rfl
@[simp] theorem State.setDom_hostMem (s : State) (k : Nat) (x) : (s.setDom k x).hostMem = s.hostMem := rfl
@[simp] theorem State.setDom_keys (s : State) (k : Nat) (x) : (s.setDom k x).keys = s.keys := rfl
@[simp] theorem State.setDom_faultLog (s : State) (k : Nat) (x) : (s.setDom k x).faultLog = s.faultLog := rfl
@[simp] theorem State.setDom_pkts (s : State) (k : Nat) (x) : (s.setDom k x).pkts = s.pkts := rfl
@[simp] theorem State.setDom_nextPkt (s : State) (k : Nat) (x) : (s.setDom k x).nextPkt = s.nextPkt := rfl
@[simp] theorem State.setDom_fences (s : State) (k : Nat) (x) : (s.setDom k x).fences = s.fences := rfl
@[simp] theorem State.setDom_fetches (s : State) (k : Nat) (x) : (s.setDom k x).fetches = s.fetches := rfl
@[simp] theorem State.setDom_legs (s : State) (k : Nat) (x) : (s.setDom k x).legs = s.legs := rfl
@[simp] theorem State.setDom_confs (s : State) (k : Nat) (x) : (s.setDom k x).confs = s.confs := rfl
@[simp] theorem State.setDom_taps (s : State) (k : Nat) (x) : (s.setDom k x).taps = s.taps := rfl
@[simp] theorem State.setDom_tdm (s : State) (k : Nat) (x) : (s.setDom k x).tdm = s.tdm := rfl
@[simp] theorem State.setDom_windows (s : State) (k : Nat) (x) : (s.setDom k x).windows = s.windows := rfl
@[simp] theorem State.setDom_planes (s : State) (k : Nat) (x) : (s.setDom k x).planes = s.planes := rfl
@[simp] theorem State.setDom_vstrs (s : State) (k : Nat) (x) : (s.setDom k x).vstrs = s.vstrs := rfl
@[simp] theorem State.setDom_ostrs (s : State) (k : Nat) (x) : (s.setDom k x).ostrs = s.ostrs := rfl
@[simp] theorem State.setDom_ports (s : State) (k : Nat) (x) : (s.setDom k x).ports = s.ports := rfl
@[simp] theorem State.setDom_rxWin (s : State) (k : Nat) (x) : (s.setDom k x).rxWin = s.rxWin := rfl
@[simp] theorem State.setDom_ecomps (s : State) (k : Nat) (x) : (s.setDom k x).ecomps = s.ecomps := rfl
@[simp] theorem State.setDom_decs (s : State) (k : Nat) (x) : (s.setDom k x).decs = s.decs := rfl
@[simp] theorem State.setDom_layouts (s : State) (k : Nat) (x) : (s.setDom k x).layouts = s.layouts := rfl
@[simp] theorem State.setDom_twin (s : State) (k : Nat) (x) : (s.setDom k x).twin = s.twin := rfl
@[simp] theorem State.setDom_links (s : State) (k : Nat) (x) : (s.setDom k x).links = s.links := rfl
@[simp] theorem State.setDom_fab (s : State) (k : Nat) (x) : (s.setDom k x).fab = s.fab := rfl
@[simp] theorem State.setDom_ddr (s : State) (k : Nat) (x) : (s.setDom k x).ddr = s.ddr := rfl
@[simp] theorem State.setDom_weir (s : State) (k : Nat) (x) : (s.setDom k x).weir = s.weir := rfl
@[simp] theorem State.setDom_poisoned (s : State) (k : Nat) (x) : (s.setDom k x).poisoned = s.poisoned := rfl
@[simp] theorem State.setDom_dramRead (s : State) (k : Nat) (x) : (s.setDom k x).dramRead = s.dramRead := rfl
@[simp] theorem State.setDom_fatalAt (s : State) (k : Nat) (x) : (s.setDom k x).fatalAt = s.fatalAt := rfl
@[simp] theorem State.setDom_sec (s : State) (k : Nat) (x) : (s.setDom k x).sec = s.sec := rfl
@[simp] theorem State.setDom_flash (s : State) (k : Nat) (x) : (s.setDom k x).flash = s.flash := rfl
@[simp] theorem State.setDom_boot (s : State) (k : Nat) (x) : (s.setDom k x).boot = s.boot := rfl
@[simp] theorem State.setDom_dma (s : State) (k : Nat) (x) : (s.setDom k x).dma = s.dma := rfl
@[simp] theorem State.setDom_bar2 (s : State) (k : Nat) (x) : (s.setDom k x).bar2 = s.bar2 := rfl
@[simp] theorem State.setDom_svc (s : State) (k : Nat) (x) : (s.setDom k x).svc = s.svc := rfl
@[simp] theorem State.setDom_crier (s : State) (k : Nat) (x) : (s.setDom k x).crier = s.crier := rfl
@[simp] theorem State.setDom_pins (s : State) (k : Nat) (x) : (s.setDom k x).pins = s.pins := rfl
@[simp] theorem State.setDom_uart (s : State) (k : Nat) (x) : (s.setDom k x).uart = s.uart := rfl
@[simp] theorem State.setDom_audio (s : State) (k : Nat) (x) : (s.setDom k x).audio = s.audio := rfl
@[simp] theorem State.setDom_legAudio (s : State) (k : Nat) (x) : (s.setDom k x).legAudio = s.legAudio := rfl
@[simp] theorem State.setDom_confAudio (s : State) (k : Nat) (x) : (s.setDom k x).confAudio = s.confAudio := rfl
@[simp] theorem State.setDom_mill (s : State) (k : Nat) (x) : (s.setDom k x).mill = s.mill := rfl
@[simp] theorem State.setDom_csram (s : State) (k : Nat) (x) : (s.setDom k x).csram = s.csram := rfl
@[simp] theorem State.setDom_kernels (s : State) (k : Nat) (x) : (s.setDom k x).kernels = s.kernels := rfl
@[simp] theorem State.setDom_kernelCmd (s : State) (k : Nat) (x) : (s.setDom k x).kernelCmd = s.kernelCmd := rfl
@[simp] theorem State.setDom_reeve (s : State) (k : Nat) (x) : (s.setDom k x).reeve = s.reeve := rfl
@[simp] theorem State.setDom_pending (s : State) (k : Nat) (x) : (s.setDom k x).pending = s.pending := rfl
@[simp] theorem State.setDom_rd (s : State) (k a : Nat) (x) : (s.setDom k x).rd a = s.rd a := rfl

@[simp] theorem State.setEng_eng (s : State) (k j : Nat) (x) : (s.setEng k x).eng j = if j = k then x else s.eng j := Sparse.get_set _ _ _ _ _
@[simp] theorem State.setEng_regs (s : State) (k : Nat) (x) : (s.setEng k x).regs = s.regs := rfl
@[simp] theorem State.setEng_capture (s : State) (k : Nat) (x) : (s.setEng k x).capture = s.capture := rfl
@[simp] theorem State.setEng_heldLo (s : State) (k : Nat) (x) : (s.setEng k x).heldLo = s.heldLo := rfl
@[simp] theorem State.setEng_readData (s : State) (k : Nat) (x) : (s.setEng k x).readData = s.readData := rfl
@[simp] theorem State.setEng_clk (s : State) (k : Nat) (x) : (s.setEng k x).clk = s.clk := rfl
@[simp] theorem State.setEng_bel (s : State) (k : Nat) (x) : (s.setEng k x).bel = s.bel := rfl
@[simp] theorem State.setEng_gate (s : State) (k : Nat) (x) : (s.setEng k x).gate = s.gate := rfl
@[simp] theorem State.setEng_free (s : State) (k : Nat) (x) : (s.setEng k x).free = s.free := rfl
@[simp] theorem State.setEng_msix (s : State) (k : Nat) (x) : (s.setEng k x).msix = s.msix := rfl
@[simp] theorem State.setEng_evq (s : State) (k : Nat) (x) : (s.setEng k x).evq = s.evq := rfl
@[simp] theorem State.setEng_queues (s : State) (k : Nat) (x) : (s.setEng k x).queues = s.queues := rfl
@[simp] theorem State.setEng_bankq (s : State) (k : Nat) (x) : (s.setEng k x).bankq = s.bankq := rfl
@[simp] theorem State.setEng_freeCells (s : State) (k : Nat) (x) : (s.setEng k x).freeCells = s.freeCells := rfl
@[simp] theorem State.setEng_deviceReserved (s : State) (k : Nat) (x) : (s.setEng k x).deviceReserved = s.deviceReserved := rfl
@[simp] theorem State.setEng_cross (s : State) (k : Nat) (x) : (s.setEng k x).cross = s.cross := rfl
@[simp] theorem State.setEng_dram (s : State) (k : Nat) (x) : (s.setEng k x).dram = s.dram := rfl
@[simp] theorem State.setEng_hostMem (s : State) (k : Nat) (x) : (s.setEng k x).hostMem = s.hostMem := rfl
@[simp] theorem State.setEng_keys (s : State) (k : Nat) (x) : (s.setEng k x).keys = s.keys := rfl
@[simp] theorem State.setEng_faultLog (s : State) (k : Nat) (x) : (s.setEng k x).faultLog = s.faultLog := rfl
@[simp] theorem State.setEng_pkts (s : State) (k : Nat) (x) : (s.setEng k x).pkts = s.pkts := rfl
@[simp] theorem State.setEng_nextPkt (s : State) (k : Nat) (x) : (s.setEng k x).nextPkt = s.nextPkt := rfl
@[simp] theorem State.setEng_fences (s : State) (k : Nat) (x) : (s.setEng k x).fences = s.fences := rfl
@[simp] theorem State.setEng_fetches (s : State) (k : Nat) (x) : (s.setEng k x).fetches = s.fetches := rfl
@[simp] theorem State.setEng_legs (s : State) (k : Nat) (x) : (s.setEng k x).legs = s.legs := rfl
@[simp] theorem State.setEng_confs (s : State) (k : Nat) (x) : (s.setEng k x).confs = s.confs := rfl
@[simp] theorem State.setEng_taps (s : State) (k : Nat) (x) : (s.setEng k x).taps = s.taps := rfl
@[simp] theorem State.setEng_tdm (s : State) (k : Nat) (x) : (s.setEng k x).tdm = s.tdm := rfl
@[simp] theorem State.setEng_windows (s : State) (k : Nat) (x) : (s.setEng k x).windows = s.windows := rfl
@[simp] theorem State.setEng_planes (s : State) (k : Nat) (x) : (s.setEng k x).planes = s.planes := rfl
@[simp] theorem State.setEng_vstrs (s : State) (k : Nat) (x) : (s.setEng k x).vstrs = s.vstrs := rfl
@[simp] theorem State.setEng_ostrs (s : State) (k : Nat) (x) : (s.setEng k x).ostrs = s.ostrs := rfl
@[simp] theorem State.setEng_ports (s : State) (k : Nat) (x) : (s.setEng k x).ports = s.ports := rfl
@[simp] theorem State.setEng_rxWin (s : State) (k : Nat) (x) : (s.setEng k x).rxWin = s.rxWin := rfl
@[simp] theorem State.setEng_ecomps (s : State) (k : Nat) (x) : (s.setEng k x).ecomps = s.ecomps := rfl
@[simp] theorem State.setEng_decs (s : State) (k : Nat) (x) : (s.setEng k x).decs = s.decs := rfl
@[simp] theorem State.setEng_layouts (s : State) (k : Nat) (x) : (s.setEng k x).layouts = s.layouts := rfl
@[simp] theorem State.setEng_twin (s : State) (k : Nat) (x) : (s.setEng k x).twin = s.twin := rfl
@[simp] theorem State.setEng_links (s : State) (k : Nat) (x) : (s.setEng k x).links = s.links := rfl
@[simp] theorem State.setEng_fab (s : State) (k : Nat) (x) : (s.setEng k x).fab = s.fab := rfl
@[simp] theorem State.setEng_ddr (s : State) (k : Nat) (x) : (s.setEng k x).ddr = s.ddr := rfl
@[simp] theorem State.setEng_weir (s : State) (k : Nat) (x) : (s.setEng k x).weir = s.weir := rfl
@[simp] theorem State.setEng_poisoned (s : State) (k : Nat) (x) : (s.setEng k x).poisoned = s.poisoned := rfl
@[simp] theorem State.setEng_dramRead (s : State) (k : Nat) (x) : (s.setEng k x).dramRead = s.dramRead := rfl
@[simp] theorem State.setEng_fatalAt (s : State) (k : Nat) (x) : (s.setEng k x).fatalAt = s.fatalAt := rfl
@[simp] theorem State.setEng_sec (s : State) (k : Nat) (x) : (s.setEng k x).sec = s.sec := rfl
@[simp] theorem State.setEng_flash (s : State) (k : Nat) (x) : (s.setEng k x).flash = s.flash := rfl
@[simp] theorem State.setEng_boot (s : State) (k : Nat) (x) : (s.setEng k x).boot = s.boot := rfl
@[simp] theorem State.setEng_dma (s : State) (k : Nat) (x) : (s.setEng k x).dma = s.dma := rfl
@[simp] theorem State.setEng_bar2 (s : State) (k : Nat) (x) : (s.setEng k x).bar2 = s.bar2 := rfl
@[simp] theorem State.setEng_pwr (s : State) (k : Nat) (x) : (s.setEng k x).pwr = s.pwr := rfl
@[simp] theorem State.setEng_svc (s : State) (k : Nat) (x) : (s.setEng k x).svc = s.svc := rfl
@[simp] theorem State.setEng_crier (s : State) (k : Nat) (x) : (s.setEng k x).crier = s.crier := rfl
@[simp] theorem State.setEng_pins (s : State) (k : Nat) (x) : (s.setEng k x).pins = s.pins := rfl
@[simp] theorem State.setEng_uart (s : State) (k : Nat) (x) : (s.setEng k x).uart = s.uart := rfl
@[simp] theorem State.setEng_audio (s : State) (k : Nat) (x) : (s.setEng k x).audio = s.audio := rfl
@[simp] theorem State.setEng_legAudio (s : State) (k : Nat) (x) : (s.setEng k x).legAudio = s.legAudio := rfl
@[simp] theorem State.setEng_confAudio (s : State) (k : Nat) (x) : (s.setEng k x).confAudio = s.confAudio := rfl
@[simp] theorem State.setEng_mill (s : State) (k : Nat) (x) : (s.setEng k x).mill = s.mill := rfl
@[simp] theorem State.setEng_csram (s : State) (k : Nat) (x) : (s.setEng k x).csram = s.csram := rfl
@[simp] theorem State.setEng_kernels (s : State) (k : Nat) (x) : (s.setEng k x).kernels = s.kernels := rfl
@[simp] theorem State.setEng_kernelCmd (s : State) (k : Nat) (x) : (s.setEng k x).kernelCmd = s.kernelCmd := rfl
@[simp] theorem State.setEng_pending (s : State) (k : Nat) (x) : (s.setEng k x).pending = s.pending := rfl
@[simp] theorem State.setEng_rd (s : State) (k a : Nat) (x) : (s.setEng k x).rd a = s.rd a := rfl

@[simp] theorem State.setTask_task (s : State) (k j : Nat) (x) : (s.setTask k x).task j = if j = k then x else s.task j := Sparse.get_set _ _ _ _ _
@[simp] theorem State.setTask_regs (s : State) (k : Nat) (x) : (s.setTask k x).regs = s.regs := rfl
@[simp] theorem State.setTask_capture (s : State) (k : Nat) (x) : (s.setTask k x).capture = s.capture := rfl
@[simp] theorem State.setTask_heldLo (s : State) (k : Nat) (x) : (s.setTask k x).heldLo = s.heldLo := rfl
@[simp] theorem State.setTask_readData (s : State) (k : Nat) (x) : (s.setTask k x).readData = s.readData := rfl
@[simp] theorem State.setTask_clk (s : State) (k : Nat) (x) : (s.setTask k x).clk = s.clk := rfl
@[simp] theorem State.setTask_bel (s : State) (k : Nat) (x) : (s.setTask k x).bel = s.bel := rfl
@[simp] theorem State.setTask_gate (s : State) (k : Nat) (x) : (s.setTask k x).gate = s.gate := rfl
@[simp] theorem State.setTask_free (s : State) (k : Nat) (x) : (s.setTask k x).free = s.free := rfl
@[simp] theorem State.setTask_msix (s : State) (k : Nat) (x) : (s.setTask k x).msix = s.msix := rfl
@[simp] theorem State.setTask_evq (s : State) (k : Nat) (x) : (s.setTask k x).evq = s.evq := rfl
@[simp] theorem State.setTask_queues (s : State) (k : Nat) (x) : (s.setTask k x).queues = s.queues := rfl
@[simp] theorem State.setTask_bankq (s : State) (k : Nat) (x) : (s.setTask k x).bankq = s.bankq := rfl
@[simp] theorem State.setTask_freeCells (s : State) (k : Nat) (x) : (s.setTask k x).freeCells = s.freeCells := rfl
@[simp] theorem State.setTask_deviceReserved (s : State) (k : Nat) (x) : (s.setTask k x).deviceReserved = s.deviceReserved := rfl
@[simp] theorem State.setTask_cross (s : State) (k : Nat) (x) : (s.setTask k x).cross = s.cross := rfl
@[simp] theorem State.setTask_dram (s : State) (k : Nat) (x) : (s.setTask k x).dram = s.dram := rfl
@[simp] theorem State.setTask_hostMem (s : State) (k : Nat) (x) : (s.setTask k x).hostMem = s.hostMem := rfl
@[simp] theorem State.setTask_keys (s : State) (k : Nat) (x) : (s.setTask k x).keys = s.keys := rfl
@[simp] theorem State.setTask_faultLog (s : State) (k : Nat) (x) : (s.setTask k x).faultLog = s.faultLog := rfl
@[simp] theorem State.setTask_pkts (s : State) (k : Nat) (x) : (s.setTask k x).pkts = s.pkts := rfl
@[simp] theorem State.setTask_nextPkt (s : State) (k : Nat) (x) : (s.setTask k x).nextPkt = s.nextPkt := rfl
@[simp] theorem State.setTask_fences (s : State) (k : Nat) (x) : (s.setTask k x).fences = s.fences := rfl
@[simp] theorem State.setTask_fetches (s : State) (k : Nat) (x) : (s.setTask k x).fetches = s.fetches := rfl
@[simp] theorem State.setTask_legs (s : State) (k : Nat) (x) : (s.setTask k x).legs = s.legs := rfl
@[simp] theorem State.setTask_confs (s : State) (k : Nat) (x) : (s.setTask k x).confs = s.confs := rfl
@[simp] theorem State.setTask_taps (s : State) (k : Nat) (x) : (s.setTask k x).taps = s.taps := rfl
@[simp] theorem State.setTask_tdm (s : State) (k : Nat) (x) : (s.setTask k x).tdm = s.tdm := rfl
@[simp] theorem State.setTask_windows (s : State) (k : Nat) (x) : (s.setTask k x).windows = s.windows := rfl
@[simp] theorem State.setTask_planes (s : State) (k : Nat) (x) : (s.setTask k x).planes = s.planes := rfl
@[simp] theorem State.setTask_vstrs (s : State) (k : Nat) (x) : (s.setTask k x).vstrs = s.vstrs := rfl
@[simp] theorem State.setTask_ostrs (s : State) (k : Nat) (x) : (s.setTask k x).ostrs = s.ostrs := rfl
@[simp] theorem State.setTask_ports (s : State) (k : Nat) (x) : (s.setTask k x).ports = s.ports := rfl
@[simp] theorem State.setTask_rxWin (s : State) (k : Nat) (x) : (s.setTask k x).rxWin = s.rxWin := rfl
@[simp] theorem State.setTask_ecomps (s : State) (k : Nat) (x) : (s.setTask k x).ecomps = s.ecomps := rfl
@[simp] theorem State.setTask_decs (s : State) (k : Nat) (x) : (s.setTask k x).decs = s.decs := rfl
@[simp] theorem State.setTask_layouts (s : State) (k : Nat) (x) : (s.setTask k x).layouts = s.layouts := rfl
@[simp] theorem State.setTask_twin (s : State) (k : Nat) (x) : (s.setTask k x).twin = s.twin := rfl
@[simp] theorem State.setTask_links (s : State) (k : Nat) (x) : (s.setTask k x).links = s.links := rfl
@[simp] theorem State.setTask_fab (s : State) (k : Nat) (x) : (s.setTask k x).fab = s.fab := rfl
@[simp] theorem State.setTask_ddr (s : State) (k : Nat) (x) : (s.setTask k x).ddr = s.ddr := rfl
@[simp] theorem State.setTask_weir (s : State) (k : Nat) (x) : (s.setTask k x).weir = s.weir := rfl
@[simp] theorem State.setTask_poisoned (s : State) (k : Nat) (x) : (s.setTask k x).poisoned = s.poisoned := rfl
@[simp] theorem State.setTask_dramRead (s : State) (k : Nat) (x) : (s.setTask k x).dramRead = s.dramRead := rfl
@[simp] theorem State.setTask_fatalAt (s : State) (k : Nat) (x) : (s.setTask k x).fatalAt = s.fatalAt := rfl
@[simp] theorem State.setTask_sec (s : State) (k : Nat) (x) : (s.setTask k x).sec = s.sec := rfl
@[simp] theorem State.setTask_flash (s : State) (k : Nat) (x) : (s.setTask k x).flash = s.flash := rfl
@[simp] theorem State.setTask_boot (s : State) (k : Nat) (x) : (s.setTask k x).boot = s.boot := rfl
@[simp] theorem State.setTask_dma (s : State) (k : Nat) (x) : (s.setTask k x).dma = s.dma := rfl
@[simp] theorem State.setTask_bar2 (s : State) (k : Nat) (x) : (s.setTask k x).bar2 = s.bar2 := rfl
@[simp] theorem State.setTask_pwr (s : State) (k : Nat) (x) : (s.setTask k x).pwr = s.pwr := rfl
@[simp] theorem State.setTask_svc (s : State) (k : Nat) (x) : (s.setTask k x).svc = s.svc := rfl
@[simp] theorem State.setTask_crier (s : State) (k : Nat) (x) : (s.setTask k x).crier = s.crier := rfl
@[simp] theorem State.setTask_pins (s : State) (k : Nat) (x) : (s.setTask k x).pins = s.pins := rfl
@[simp] theorem State.setTask_uart (s : State) (k : Nat) (x) : (s.setTask k x).uart = s.uart := rfl
@[simp] theorem State.setTask_audio (s : State) (k : Nat) (x) : (s.setTask k x).audio = s.audio := rfl
@[simp] theorem State.setTask_legAudio (s : State) (k : Nat) (x) : (s.setTask k x).legAudio = s.legAudio := rfl
@[simp] theorem State.setTask_confAudio (s : State) (k : Nat) (x) : (s.setTask k x).confAudio = s.confAudio := rfl
@[simp] theorem State.setTask_mill (s : State) (k : Nat) (x) : (s.setTask k x).mill = s.mill := rfl
@[simp] theorem State.setTask_csram (s : State) (k : Nat) (x) : (s.setTask k x).csram = s.csram := rfl
@[simp] theorem State.setTask_kernels (s : State) (k : Nat) (x) : (s.setTask k x).kernels = s.kernels := rfl
@[simp] theorem State.setTask_kernelCmd (s : State) (k : Nat) (x) : (s.setTask k x).kernelCmd = s.kernelCmd := rfl
@[simp] theorem State.setTask_pending (s : State) (k : Nat) (x) : (s.setTask k x).pending = s.pending := rfl
@[simp] theorem State.setTask_rd (s : State) (k a : Nat) (x) : (s.setTask k x).rd a = s.rd a := rfl

@[simp] theorem State.setPlayer_player (s : State) (k j : Nat) (x) : (s.setPlayer k x).player j = if j = k then x else s.player j := Sparse.get_set _ _ _ _ _
@[simp] theorem State.setPlayer_regs (s : State) (k : Nat) (x) : (s.setPlayer k x).regs = s.regs := rfl
@[simp] theorem State.setPlayer_capture (s : State) (k : Nat) (x) : (s.setPlayer k x).capture = s.capture := rfl
@[simp] theorem State.setPlayer_heldLo (s : State) (k : Nat) (x) : (s.setPlayer k x).heldLo = s.heldLo := rfl
@[simp] theorem State.setPlayer_readData (s : State) (k : Nat) (x) : (s.setPlayer k x).readData = s.readData := rfl
@[simp] theorem State.setPlayer_clk (s : State) (k : Nat) (x) : (s.setPlayer k x).clk = s.clk := rfl
@[simp] theorem State.setPlayer_bel (s : State) (k : Nat) (x) : (s.setPlayer k x).bel = s.bel := rfl
@[simp] theorem State.setPlayer_gate (s : State) (k : Nat) (x) : (s.setPlayer k x).gate = s.gate := rfl
@[simp] theorem State.setPlayer_free (s : State) (k : Nat) (x) : (s.setPlayer k x).free = s.free := rfl
@[simp] theorem State.setPlayer_msix (s : State) (k : Nat) (x) : (s.setPlayer k x).msix = s.msix := rfl
@[simp] theorem State.setPlayer_evq (s : State) (k : Nat) (x) : (s.setPlayer k x).evq = s.evq := rfl
@[simp] theorem State.setPlayer_queues (s : State) (k : Nat) (x) : (s.setPlayer k x).queues = s.queues := rfl
@[simp] theorem State.setPlayer_bankq (s : State) (k : Nat) (x) : (s.setPlayer k x).bankq = s.bankq := rfl
@[simp] theorem State.setPlayer_freeCells (s : State) (k : Nat) (x) : (s.setPlayer k x).freeCells = s.freeCells := rfl
@[simp] theorem State.setPlayer_deviceReserved (s : State) (k : Nat) (x) : (s.setPlayer k x).deviceReserved = s.deviceReserved := rfl
@[simp] theorem State.setPlayer_cross (s : State) (k : Nat) (x) : (s.setPlayer k x).cross = s.cross := rfl
@[simp] theorem State.setPlayer_dram (s : State) (k : Nat) (x) : (s.setPlayer k x).dram = s.dram := rfl
@[simp] theorem State.setPlayer_hostMem (s : State) (k : Nat) (x) : (s.setPlayer k x).hostMem = s.hostMem := rfl
@[simp] theorem State.setPlayer_keys (s : State) (k : Nat) (x) : (s.setPlayer k x).keys = s.keys := rfl
@[simp] theorem State.setPlayer_faultLog (s : State) (k : Nat) (x) : (s.setPlayer k x).faultLog = s.faultLog := rfl
@[simp] theorem State.setPlayer_pkts (s : State) (k : Nat) (x) : (s.setPlayer k x).pkts = s.pkts := rfl
@[simp] theorem State.setPlayer_nextPkt (s : State) (k : Nat) (x) : (s.setPlayer k x).nextPkt = s.nextPkt := rfl
@[simp] theorem State.setPlayer_fences (s : State) (k : Nat) (x) : (s.setPlayer k x).fences = s.fences := rfl
@[simp] theorem State.setPlayer_fetches (s : State) (k : Nat) (x) : (s.setPlayer k x).fetches = s.fetches := rfl
@[simp] theorem State.setPlayer_legs (s : State) (k : Nat) (x) : (s.setPlayer k x).legs = s.legs := rfl
@[simp] theorem State.setPlayer_confs (s : State) (k : Nat) (x) : (s.setPlayer k x).confs = s.confs := rfl
@[simp] theorem State.setPlayer_taps (s : State) (k : Nat) (x) : (s.setPlayer k x).taps = s.taps := rfl
@[simp] theorem State.setPlayer_tdm (s : State) (k : Nat) (x) : (s.setPlayer k x).tdm = s.tdm := rfl
@[simp] theorem State.setPlayer_windows (s : State) (k : Nat) (x) : (s.setPlayer k x).windows = s.windows := rfl
@[simp] theorem State.setPlayer_planes (s : State) (k : Nat) (x) : (s.setPlayer k x).planes = s.planes := rfl
@[simp] theorem State.setPlayer_vstrs (s : State) (k : Nat) (x) : (s.setPlayer k x).vstrs = s.vstrs := rfl
@[simp] theorem State.setPlayer_ostrs (s : State) (k : Nat) (x) : (s.setPlayer k x).ostrs = s.ostrs := rfl
@[simp] theorem State.setPlayer_ports (s : State) (k : Nat) (x) : (s.setPlayer k x).ports = s.ports := rfl
@[simp] theorem State.setPlayer_rxWin (s : State) (k : Nat) (x) : (s.setPlayer k x).rxWin = s.rxWin := rfl
@[simp] theorem State.setPlayer_ecomps (s : State) (k : Nat) (x) : (s.setPlayer k x).ecomps = s.ecomps := rfl
@[simp] theorem State.setPlayer_decs (s : State) (k : Nat) (x) : (s.setPlayer k x).decs = s.decs := rfl
@[simp] theorem State.setPlayer_layouts (s : State) (k : Nat) (x) : (s.setPlayer k x).layouts = s.layouts := rfl
@[simp] theorem State.setPlayer_twin (s : State) (k : Nat) (x) : (s.setPlayer k x).twin = s.twin := rfl
@[simp] theorem State.setPlayer_links (s : State) (k : Nat) (x) : (s.setPlayer k x).links = s.links := rfl
@[simp] theorem State.setPlayer_fab (s : State) (k : Nat) (x) : (s.setPlayer k x).fab = s.fab := rfl
@[simp] theorem State.setPlayer_ddr (s : State) (k : Nat) (x) : (s.setPlayer k x).ddr = s.ddr := rfl
@[simp] theorem State.setPlayer_weir (s : State) (k : Nat) (x) : (s.setPlayer k x).weir = s.weir := rfl
@[simp] theorem State.setPlayer_poisoned (s : State) (k : Nat) (x) : (s.setPlayer k x).poisoned = s.poisoned := rfl
@[simp] theorem State.setPlayer_dramRead (s : State) (k : Nat) (x) : (s.setPlayer k x).dramRead = s.dramRead := rfl
@[simp] theorem State.setPlayer_fatalAt (s : State) (k : Nat) (x) : (s.setPlayer k x).fatalAt = s.fatalAt := rfl
@[simp] theorem State.setPlayer_sec (s : State) (k : Nat) (x) : (s.setPlayer k x).sec = s.sec := rfl
@[simp] theorem State.setPlayer_flash (s : State) (k : Nat) (x) : (s.setPlayer k x).flash = s.flash := rfl
@[simp] theorem State.setPlayer_boot (s : State) (k : Nat) (x) : (s.setPlayer k x).boot = s.boot := rfl
@[simp] theorem State.setPlayer_dma (s : State) (k : Nat) (x) : (s.setPlayer k x).dma = s.dma := rfl
@[simp] theorem State.setPlayer_bar2 (s : State) (k : Nat) (x) : (s.setPlayer k x).bar2 = s.bar2 := rfl
@[simp] theorem State.setPlayer_pwr (s : State) (k : Nat) (x) : (s.setPlayer k x).pwr = s.pwr := rfl
@[simp] theorem State.setPlayer_svc (s : State) (k : Nat) (x) : (s.setPlayer k x).svc = s.svc := rfl
@[simp] theorem State.setPlayer_crier (s : State) (k : Nat) (x) : (s.setPlayer k x).crier = s.crier := rfl
@[simp] theorem State.setPlayer_pins (s : State) (k : Nat) (x) : (s.setPlayer k x).pins = s.pins := rfl
@[simp] theorem State.setPlayer_uart (s : State) (k : Nat) (x) : (s.setPlayer k x).uart = s.uart := rfl
@[simp] theorem State.setPlayer_legAudio (s : State) (k : Nat) (x) : (s.setPlayer k x).legAudio = s.legAudio := rfl
@[simp] theorem State.setPlayer_confAudio (s : State) (k : Nat) (x) : (s.setPlayer k x).confAudio = s.confAudio := rfl
@[simp] theorem State.setPlayer_mill (s : State) (k : Nat) (x) : (s.setPlayer k x).mill = s.mill := rfl
@[simp] theorem State.setPlayer_csram (s : State) (k : Nat) (x) : (s.setPlayer k x).csram = s.csram := rfl
@[simp] theorem State.setPlayer_kernels (s : State) (k : Nat) (x) : (s.setPlayer k x).kernels = s.kernels := rfl
@[simp] theorem State.setPlayer_kernelCmd (s : State) (k : Nat) (x) : (s.setPlayer k x).kernelCmd = s.kernelCmd := rfl
@[simp] theorem State.setPlayer_reeve (s : State) (k : Nat) (x) : (s.setPlayer k x).reeve = s.reeve := rfl
@[simp] theorem State.setPlayer_pending (s : State) (k : Nat) (x) : (s.setPlayer k x).pending = s.pending := rfl
@[simp] theorem State.setPlayer_rd (s : State) (k a : Nat) (x) : (s.setPlayer k x).rd a = s.rd a := rfl

@[simp] theorem State.setSlot_slot (s : State) (k j : Nat) (x) : (s.setSlot k x).slot j = if j = k then x else s.slot j := Sparse.get_set _ _ _ _ _
@[simp] theorem State.setSlot_regs (s : State) (k : Nat) (x) : (s.setSlot k x).regs = s.regs := rfl
@[simp] theorem State.setSlot_capture (s : State) (k : Nat) (x) : (s.setSlot k x).capture = s.capture := rfl
@[simp] theorem State.setSlot_heldLo (s : State) (k : Nat) (x) : (s.setSlot k x).heldLo = s.heldLo := rfl
@[simp] theorem State.setSlot_readData (s : State) (k : Nat) (x) : (s.setSlot k x).readData = s.readData := rfl
@[simp] theorem State.setSlot_clk (s : State) (k : Nat) (x) : (s.setSlot k x).clk = s.clk := rfl
@[simp] theorem State.setSlot_bel (s : State) (k : Nat) (x) : (s.setSlot k x).bel = s.bel := rfl
@[simp] theorem State.setSlot_gate (s : State) (k : Nat) (x) : (s.setSlot k x).gate = s.gate := rfl
@[simp] theorem State.setSlot_free (s : State) (k : Nat) (x) : (s.setSlot k x).free = s.free := rfl
@[simp] theorem State.setSlot_msix (s : State) (k : Nat) (x) : (s.setSlot k x).msix = s.msix := rfl
@[simp] theorem State.setSlot_evq (s : State) (k : Nat) (x) : (s.setSlot k x).evq = s.evq := rfl
@[simp] theorem State.setSlot_queues (s : State) (k : Nat) (x) : (s.setSlot k x).queues = s.queues := rfl
@[simp] theorem State.setSlot_bankq (s : State) (k : Nat) (x) : (s.setSlot k x).bankq = s.bankq := rfl
@[simp] theorem State.setSlot_freeCells (s : State) (k : Nat) (x) : (s.setSlot k x).freeCells = s.freeCells := rfl
@[simp] theorem State.setSlot_deviceReserved (s : State) (k : Nat) (x) : (s.setSlot k x).deviceReserved = s.deviceReserved := rfl
@[simp] theorem State.setSlot_cross (s : State) (k : Nat) (x) : (s.setSlot k x).cross = s.cross := rfl
@[simp] theorem State.setSlot_dram (s : State) (k : Nat) (x) : (s.setSlot k x).dram = s.dram := rfl
@[simp] theorem State.setSlot_hostMem (s : State) (k : Nat) (x) : (s.setSlot k x).hostMem = s.hostMem := rfl
@[simp] theorem State.setSlot_keys (s : State) (k : Nat) (x) : (s.setSlot k x).keys = s.keys := rfl
@[simp] theorem State.setSlot_faultLog (s : State) (k : Nat) (x) : (s.setSlot k x).faultLog = s.faultLog := rfl
@[simp] theorem State.setSlot_pkts (s : State) (k : Nat) (x) : (s.setSlot k x).pkts = s.pkts := rfl
@[simp] theorem State.setSlot_nextPkt (s : State) (k : Nat) (x) : (s.setSlot k x).nextPkt = s.nextPkt := rfl
@[simp] theorem State.setSlot_fences (s : State) (k : Nat) (x) : (s.setSlot k x).fences = s.fences := rfl
@[simp] theorem State.setSlot_fetches (s : State) (k : Nat) (x) : (s.setSlot k x).fetches = s.fetches := rfl
@[simp] theorem State.setSlot_legs (s : State) (k : Nat) (x) : (s.setSlot k x).legs = s.legs := rfl
@[simp] theorem State.setSlot_confs (s : State) (k : Nat) (x) : (s.setSlot k x).confs = s.confs := rfl
@[simp] theorem State.setSlot_taps (s : State) (k : Nat) (x) : (s.setSlot k x).taps = s.taps := rfl
@[simp] theorem State.setSlot_tdm (s : State) (k : Nat) (x) : (s.setSlot k x).tdm = s.tdm := rfl
@[simp] theorem State.setSlot_windows (s : State) (k : Nat) (x) : (s.setSlot k x).windows = s.windows := rfl
@[simp] theorem State.setSlot_planes (s : State) (k : Nat) (x) : (s.setSlot k x).planes = s.planes := rfl
@[simp] theorem State.setSlot_vstrs (s : State) (k : Nat) (x) : (s.setSlot k x).vstrs = s.vstrs := rfl
@[simp] theorem State.setSlot_ostrs (s : State) (k : Nat) (x) : (s.setSlot k x).ostrs = s.ostrs := rfl
@[simp] theorem State.setSlot_ports (s : State) (k : Nat) (x) : (s.setSlot k x).ports = s.ports := rfl
@[simp] theorem State.setSlot_rxWin (s : State) (k : Nat) (x) : (s.setSlot k x).rxWin = s.rxWin := rfl
@[simp] theorem State.setSlot_ecomps (s : State) (k : Nat) (x) : (s.setSlot k x).ecomps = s.ecomps := rfl
@[simp] theorem State.setSlot_decs (s : State) (k : Nat) (x) : (s.setSlot k x).decs = s.decs := rfl
@[simp] theorem State.setSlot_layouts (s : State) (k : Nat) (x) : (s.setSlot k x).layouts = s.layouts := rfl
@[simp] theorem State.setSlot_twin (s : State) (k : Nat) (x) : (s.setSlot k x).twin = s.twin := rfl
@[simp] theorem State.setSlot_links (s : State) (k : Nat) (x) : (s.setSlot k x).links = s.links := rfl
@[simp] theorem State.setSlot_fab (s : State) (k : Nat) (x) : (s.setSlot k x).fab = s.fab := rfl
@[simp] theorem State.setSlot_ddr (s : State) (k : Nat) (x) : (s.setSlot k x).ddr = s.ddr := rfl
@[simp] theorem State.setSlot_weir (s : State) (k : Nat) (x) : (s.setSlot k x).weir = s.weir := rfl
@[simp] theorem State.setSlot_poisoned (s : State) (k : Nat) (x) : (s.setSlot k x).poisoned = s.poisoned := rfl
@[simp] theorem State.setSlot_dramRead (s : State) (k : Nat) (x) : (s.setSlot k x).dramRead = s.dramRead := rfl
@[simp] theorem State.setSlot_fatalAt (s : State) (k : Nat) (x) : (s.setSlot k x).fatalAt = s.fatalAt := rfl
@[simp] theorem State.setSlot_flash (s : State) (k : Nat) (x) : (s.setSlot k x).flash = s.flash := rfl
@[simp] theorem State.setSlot_boot (s : State) (k : Nat) (x) : (s.setSlot k x).boot = s.boot := rfl
@[simp] theorem State.setSlot_dma (s : State) (k : Nat) (x) : (s.setSlot k x).dma = s.dma := rfl
@[simp] theorem State.setSlot_bar2 (s : State) (k : Nat) (x) : (s.setSlot k x).bar2 = s.bar2 := rfl
@[simp] theorem State.setSlot_pwr (s : State) (k : Nat) (x) : (s.setSlot k x).pwr = s.pwr := rfl
@[simp] theorem State.setSlot_svc (s : State) (k : Nat) (x) : (s.setSlot k x).svc = s.svc := rfl
@[simp] theorem State.setSlot_crier (s : State) (k : Nat) (x) : (s.setSlot k x).crier = s.crier := rfl
@[simp] theorem State.setSlot_pins (s : State) (k : Nat) (x) : (s.setSlot k x).pins = s.pins := rfl
@[simp] theorem State.setSlot_uart (s : State) (k : Nat) (x) : (s.setSlot k x).uart = s.uart := rfl
@[simp] theorem State.setSlot_audio (s : State) (k : Nat) (x) : (s.setSlot k x).audio = s.audio := rfl
@[simp] theorem State.setSlot_legAudio (s : State) (k : Nat) (x) : (s.setSlot k x).legAudio = s.legAudio := rfl
@[simp] theorem State.setSlot_confAudio (s : State) (k : Nat) (x) : (s.setSlot k x).confAudio = s.confAudio := rfl
@[simp] theorem State.setSlot_mill (s : State) (k : Nat) (x) : (s.setSlot k x).mill = s.mill := rfl
@[simp] theorem State.setSlot_csram (s : State) (k : Nat) (x) : (s.setSlot k x).csram = s.csram := rfl
@[simp] theorem State.setSlot_kernels (s : State) (k : Nat) (x) : (s.setSlot k x).kernels = s.kernels := rfl
@[simp] theorem State.setSlot_kernelCmd (s : State) (k : Nat) (x) : (s.setSlot k x).kernelCmd = s.kernelCmd := rfl
@[simp] theorem State.setSlot_reeve (s : State) (k : Nat) (x) : (s.setSlot k x).reeve = s.reeve := rfl
@[simp] theorem State.setSlot_pending (s : State) (k : Nat) (x) : (s.setSlot k x).pending = s.pending := rfl
@[simp] theorem State.setSlot_rd (s : State) (k a : Nat) (x) : (s.setSlot k x).rd a = s.rd a := rfl

end Sys2Proof.Machine
end

