-- ==== Sys2Proof/WellFormed.lean ====
section
/-! DEFINITION. Which commands are well formed: every operand that names a thing of the part or fills a field of an encoding is in its range. The meanings are total
and say what each command does with any operand. -/

namespace Sys2Proof

/-- What an operand names. -/
inductive OperandKind where
  /-- An Ethernet or TDM port. -/
  | port
  /-- A plane. -/
  | plane
  /-- A trigger generator. -/
  | gen
  /-- A capture unit. -/
  | cap
  /-- An external source of capture: PPS_IN or EVT_INk. -/
  | src
  /-- An event queue. -/
  | evq
  /-- A bank queue. -/
  | bankq
  /-- A Granary queue. -/
  | queue
  /-- A leg. -/
  | leg
  /-- A leg, or 0x8004 to 0x8007 for a link. -/
  | legPort
  /-- An inbound video stream. -/
  | vstr
  /-- An outbound video stream. -/
  | ostr
  /-- A conference. -/
  | conf
  /-- A layout. -/
  | layout
  /-- A video layer. -/
  | layer
  /-- An encoded composition. -/
  | ecomp
  /-- A spatial or temporal layer. -/
  | spatial
  /-- A Mill core. -/
  | core
  /-- A Mill cluster. -/
  | cluster
  /-- A kernel slot. -/
  | kslot
  /-- A core of a cluster. -/
  | benchCore
  /-- An offset in a core's memory slot. -/
  | slotOff
  /-- A D register, or A or P in its low bits. -/
  | dreg
  /-- An accumulator. -/
  | acc
  /-- A pointer. -/
  | preg
  /-- An addressing mode. -/
  | mode
  /-- OFF or MS. -/
  | off
  /-- A MAC immediate. -/
  | imm12
  /-- The immediate of MOVI. -/
  | imm20
  /-- The immediate of MOVH. -/
  | imm16
  /-- A displacement of BR and CALL. -/
  | disp15
  /-- A branch displacement or a loop length. -/
  | disp10
  /-- A length of LOOPI. -/
  | len8
  /-- A count of LOOPI. -/
  | count7
  /-- A special register. -/
  | special
  /-- A Reeve flow. -/
  | flow
  /-- An engine: VDE 0x000, VEE 0x100, CMP 0x200, Mill core 0x300 and on. -/
  | engine
  /-- An engine with a known-answer test: those, the SRTP engine 0x400 and the cipher unit 0x500. -/
  | tested
  /-- A Reeve slot. -/
  | slot
  /-- A task type. -/
  | taskType
  /-- A Reeve port. -/
  | rport
  /-- A recall player. -/
  | player
  /-- A terminal kind. -/
  | termKind
  /-- A terminal or table index. -/
  | index16
  /-- A Binath link. -/
  | link
  /-- A lane of a link. -/
  | lane
  /-- A heartbeat path. -/
  | path
  /-- A DDR channel. -/
  | channel
  /-- A rank or subchannel. -/
  | rank
  /-- A device position. -/
  | dev
  /-- A WEIR port. -/
  | wport
  /-- A requester identity. -/
  | ident
  /-- A key-store context. -/
  | ctx
  /-- A key slot. -/
  | keySlot
  /-- A user of the cipher unit. -/
  | user
  /-- A key kind. -/
  | keyKind
  /-- An alarm source. -/
  | alarm
  /-- A DMA channel. -/
  | dma
  /-- An MSI-X vector. -/
  | vector
  /-- An island. -/
  | island
  /-- A cluster rail. -/
  | rail
  /-- A power domain. -/
  | domain
  /-- A page of BAR0. -/
  | page
  /-- A BAR0 address. -/
  | bar0
  /-- A table of the gate. -/
  | table
  /-- A type of live-repair target. -/
  | svcType
  /-- The number of a live-repair target. -/
  | svcIndex
  /-- A cause of DEVICE_FATAL. -/
  | fatal
  /-- The key of GLOBAL_RESET. -/
  | key8
  deriving DecidableEq, Repr

/-- One more than the greatest value of an operand of a kind. -/
def OperandKind.bound : OperandKind → Nat
  | .port => 4
  | .plane => 2
  | .gen => 16
  | .cap => 8
  | .src => 5
  | .evq => 64
  | .bankq => 32
  | .queue => 65536
  | .leg => 16384
  | .legPort => 32776
  | .vstr => 4096
  | .ostr => 16384
  | .conf => 2048
  | .layout => 1024
  | .layer => 16
  | .ecomp => 1024
  | .spatial => 3
  | .core => 128
  | .cluster => 8
  | .kslot => 8
  | .benchCore => 16
  | .slotOff => 131072
  | .dreg => 32
  | .acc => 8
  | .preg => 8
  | .mode => 4
  | .off => 16
  | .imm12 => 4096
  | .imm20 => 1048576
  | .imm16 => 65536
  | .disp15 => 32768
  | .disp10 => 1024
  | .len8 => 256
  | .count7 => 128
  | .special => 64
  | .flow => 8192
  | .engine => 896
  | .tested => 1281
  | .slot => 4096
  | .taskType => 8
  | .rport => 5
  | .player => 16
  | .termKind => 16
  | .index16 => 65536
  | .link => 4
  | .lane => 4
  | .path => 3
  | .channel => 8
  | .rank => 2
  | .dev => 10
  | .wport => 17
  | .ident => 256
  | .ctx => 32768
  | .keySlot => 256
  | .user => 4
  | .keyKind => 8
  | .alarm => 8
  | .dma => 32
  | .vector => 2048
  | .island => 28
  | .rail => 8
  | .domain => 14
  | .page => 16777216
  | .bar0 => 67108864
  | .table => 256
  | .svcType => 5
  | .svcIndex => 16
  | .fatal => 7
  | .key8 => 256

/-- The bounded operands of a command. -/
def Instr.operands : Instr → List (OperandKind × Nat)
  | .belfryCaptureRead _ => []
  | .oscLost => []
  | .oscBack => []
  | .servoSample (.ptp plane _ _ _) => [(.plane, plane)]
  | .servoSample .pps => []
  | .servoSample (.binath _) => []
  | .ptpSourceLost plane _ => [(.plane, plane)]
  | .ppsSourceLost => []
  | .binathSourceLost => []
  | .servoEnableWrite _ => []
  | .stepEnWrite _ => []
  | .belfrySrcWrite _ => []
  | .stepAbs => []
  | .stepRel => []
  | .ptpMessageRx _ => []
  | .ptpMessageTx plane _ _ => [(.plane, plane)]
  | .triggerEnable n _ _ => [(.gen, n)]
  | .triggerEdge n _ => [(.gen, n)]
  | .triggerPulseEnd n => [(.gen, n)]
  | .captureEdge src _ _ => [(.src, src)]
  | .capturePop n => [(.cap, n)]
  | .granaryEnqueue q _ _ => [(.queue, q)]
  | .granaryClaim q _ => [(.queue, q)]
  | .granaryReadComplete q => [(.queue, q)]
  | .queueSweepComplete q => [(.queue, q)]
  | .bankqWrite k _ _ => [(.bankq, k)]
  | .evqPop n _ => [(.evq, n)]
  | .granaryQSel q _ => [(.queue, q)]
  | .packetEnqueue leg _ ostr _ _ _ _ _ _ => [(.legPort, leg), (.ostr, ostr)]
  | .packetRelease _ => []
  | .frameDepart port => [(.port, port)]
  | .pktoutLegSel leg => [(.leg, leg)]
  | .ethLinkUp n _ => [(.port, n)]
  | .ethLinkDown n _ _ _ _ _ => [(.port, n)]
  | .frameReceive _ => []
  | .prpEntryForget plane _ => [(.plane, plane)]
  | .prpSupervisionTx plane => [(.plane, plane)]
  | .puntHeadWrite plane _ => [(.plane, plane)]
  | .injectTailWrite plane _ => [(.plane, plane)]
  | .injectSlotSend plane => [(.plane, plane)]
  | .pktinLegSel leg => [(.leg, leg)]
  | .rtcpReport leg => [(.leg, leg)]
  | .nackRetry vstr _ => [(.vstr, vstr)]
  | .jbRecompute leg => [(.leg, leg)]
  | .rxIdle leg => [(.leg, leg)]
  | .videoWaitExpire vstr _ _ => [(.vstr, vstr)]
  | .tdmFrameSync n _ => [(.port, n)]
  | .legStatsWrite leg => [(.leg, leg)]
  | .eventWindowExpire _ _ _ _ => []
  | .ccUpdate leg => [(.leg, leg)]
  | .pliSend vstr => [(.vstr, vstr)]
  | .adaptLegSel leg => [(.leg, leg)]
  | .adaptOstrSel ostr => [(.ostr, ostr)]
  | .nop core => [(.core, core)]
  | .add x dd dx dy => [(.core, x.core), (.dreg, dd), (.dreg, dx), (.dreg, dy)]
  | .sub x dd dx dy => [(.core, x.core), (.dreg, dd), (.dreg, dx), (.dreg, dy)]
  | .adds x dd dx dy => [(.core, x.core), (.dreg, dd), (.dreg, dx), (.dreg, dy)]
  | .subs x dd dx dy => [(.core, x.core), (.dreg, dd), (.dreg, dx), (.dreg, dy)]
  | .and x dd dx dy => [(.core, x.core), (.dreg, dd), (.dreg, dx), (.dreg, dy)]
  | .or x dd dx dy => [(.core, x.core), (.dreg, dd), (.dreg, dx), (.dreg, dy)]
  | .xor x dd dx dy => [(.core, x.core), (.dreg, dd), (.dreg, dx), (.dreg, dy)]
  | .shl x dd dx dy => [(.core, x.core), (.dreg, dd), (.dreg, dx), (.dreg, dy)]
  | .shr x dd dx dy => [(.core, x.core), (.dreg, dd), (.dreg, dx), (.dreg, dy)]
  | .sra x dd dx dy => [(.core, x.core), (.dreg, dd), (.dreg, dx), (.dreg, dy)]
  | .min x dd dx dy => [(.core, x.core), (.dreg, dd), (.dreg, dx), (.dreg, dy)]
  | .max x dd dx dy => [(.core, x.core), (.dreg, dd), (.dreg, dx), (.dreg, dy)]
  | .cmplt x dd dx dy => [(.core, x.core), (.dreg, dd), (.dreg, dx), (.dreg, dy)]
  | .cmpeq x dd dx dy => [(.core, x.core), (.dreg, dd), (.dreg, dx), (.dreg, dy)]
  | .shli x dd dx imm => [(.core, x.core), (.dreg, dd), (.dreg, dx), (.imm12, imm)]
  | .shri x dd dx imm => [(.core, x.core), (.dreg, dd), (.dreg, dx), (.imm12, imm)]
  | .srai x dd dx imm => [(.core, x.core), (.dreg, dd), (.dreg, dx), (.imm12, imm)]
  | .addi x dd dx imm => [(.core, x.core), (.dreg, dd), (.dreg, dx), (.imm12, imm)]
  | .abss x dd dx => [(.core, x.core), (.dreg, dd), (.dreg, dx)]
  | .negs x dd dx => [(.core, x.core), (.dreg, dd), (.dreg, dx)]
  | .movi x dd imm => [(.core, x.core), (.dreg, dd), (.imm20, imm)]
  | .movh x dd imm => [(.core, x.core), (.dreg, dd), (.imm16, imm)]
  | .mpy x aa dx dy => [(.core, x.core), (.acc, aa), (.dreg, dx), (.dreg, dy)]
  | .mac x aa dx dy => [(.core, x.core), (.acc, aa), (.dreg, dx), (.dreg, dy)]
  | .msu x aa dx dy => [(.core, x.core), (.acc, aa), (.dreg, dx), (.dreg, dy)]
  | .mpysu x aa dx dy => [(.core, x.core), (.acc, aa), (.dreg, dx), (.dreg, dy)]
  | .macsu x aa dx dy => [(.core, x.core), (.acc, aa), (.dreg, dx), (.dreg, dy)]
  | .mpy2 x aa dx dy => [(.core, x.core), (.acc, aa), (.dreg, dx), (.dreg, dy)]
  | .mac2 x aa dx dy => [(.core, x.core), (.acc, aa), (.dreg, dx), (.dreg, dy)]
  | .msu2 x aa dx dy => [(.core, x.core), (.acc, aa), (.dreg, dx), (.dreg, dy)]
  | .aclr x aa => [(.core, x.core), (.acc, aa)]
  | .aadd x aa dx imm => [(.core, x.core), (.acc, aa), (.dreg, dx), (.imm12, imm)]
  | .ashr x aa imm => [(.core, x.core), (.acc, aa), (.imm12, imm)]
  | .ashl x aa imm => [(.core, x.core), (.acc, aa), (.imm12, imm)]
  | .amov x aa src => [(.core, x.core), (.acc, aa), (.acc, src)]
  | .sat x dd aa => [(.core, x.core), (.dreg, dd), (.acc, aa)]
  | .ardl x dd aa => [(.core, x.core), (.dreg, dd), (.acc, aa)]
  | .ardh x dd aa => [(.core, x.core), (.dreg, dd), (.acc, aa)]
  | .ardg x dd aa => [(.core, x.core), (.dreg, dd), (.acc, aa)]
  | .awrl x aa dx => [(.core, x.core), (.acc, aa), (.dreg, dx)]
  | .awrh x aa dx => [(.core, x.core), (.acc, aa), (.dreg, dx)]
  | .awrg x aa dx => [(.core, x.core), (.acc, aa), (.dreg, dx)]
  | .ld x reg pn mode off => [(.core, x.core), (.dreg, reg), (.preg, pn), (.mode, mode), (.off, off)]
  | .st x reg pn mode off => [(.core, x.core), (.dreg, reg), (.preg, pn), (.mode, mode), (.off, off)]
  | .sts x reg pn mode off => [(.core, x.core), (.dreg, reg), (.preg, pn), (.mode, mode), (.off, off)]
  | .ldh x reg pn mode off => [(.core, x.core), (.dreg, reg), (.preg, pn), (.mode, mode), (.off, off)]
  | .sth x reg pn mode off => [(.core, x.core), (.dreg, reg), (.preg, pn), (.mode, mode), (.off, off)]
  | .ldp x reg pn mode off => [(.core, x.core), (.dreg, reg), (.preg, pn), (.mode, mode), (.off, off)]
  | .br x disp => [(.core, x.core), (.disp15, disp)]
  | .call x disp => [(.core, x.core), (.disp15, disp)]
  | .ret x => [(.core, x.core)]
  | .reti x => [(.core, x.core)]
  | .ei x => [(.core, x.core)]
  | .di x => [(.core, x.core)]
  | .halt x => [(.core, x.core)]
  | .bz x d disp => [(.core, x.core), (.dreg, d), (.disp10, disp)]
  | .bnz x d disp => [(.core, x.core), (.dreg, d), (.disp10, disp)]
  | .bltz x d disp => [(.core, x.core), (.dreg, d), (.disp10, disp)]
  | .bgez x d disp => [(.core, x.core), (.dreg, d), (.disp10, disp)]
  | .loop0 x d len => [(.core, x.core), (.dreg, d), (.disp10, len)]
  | .loop1 x d len => [(.core, x.core), (.dreg, d), (.disp10, len)]
  | .loopi0 x count len => [(.core, x.core), (.count7, count), (.len8, len)]
  | .loopi1 x count len => [(.core, x.core), (.count7, count), (.len8, len)]
  | .movs x d special => [(.core, x.core), (.dreg, d), (.special, special)]
  | .movd x d special => [(.core, x.core), (.dreg, d), (.special, special)]
  | .interruptEntry core => [(.core, core)]
  | .kernelBudgetEnd core => [(.core, core)]
  | .kernelLoad cluster slot => [(.cluster, cluster), (.kslot, slot)]
  | .kernelUnload cluster slot => [(.cluster, cluster), (.kslot, slot)]
  | .kernelLoadDone cluster => [(.cluster, cluster)]
  | .benchEnable cluster core _ => [(.cluster, cluster), (.benchCore, core)]
  | .benchStart cluster => [(.cluster, cluster)]
  | .benchHalt cluster => [(.cluster, cluster)]
  | .benchMbx cluster => [(.cluster, cluster)]
  | .millSlotWrite core off _ => [(.core, core), (.slotOff, off)]
  | .reeveFlowSel flow => [(.flow, flow)]
  | .progLoad => []
  | .progLoadDone => []
  | .progActivate => []
  | .progDiscard => []
  | .audioPathSnk kind index => [(.termKind, kind), (.index16, index)]
  | .audioMeterSel kind index => [(.termKind, kind), (.index16, index)]
  | .audioSeatSel conf => [(.conf, conf)]
  | .recallPlay player => [(.player, player)]
  | .recallStop player => [(.player, player)]
  | .vde0StrSel vstr => [(.vstr, vstr)]
  | .cmp0LaySel lay layer => [(.layout, lay), (.layer, layer)]
  | .vee0EcSel ecomp s t => [(.ecomp, ecomp), (.spatial, s), (.spatial, t)]
  | .taskSubmit typ port _ _ cluster => [(.taskType, typ), (.rport, port), (.cluster, cluster)]
  | .taskDispatch => []
  | .taskComplete engine _ => [(.engine, engine)]
  | .engineFault engine _ => [(.engine, engine)]
  | .watchdogExpire engine => [(.engine, engine)]
  | .engineResetDone engine => [(.engine, engine)]
  | .taskCancelStop engine => [(.engine, engine)]
  | .katChunk engine _ _ _ => [(.tested, engine)]
  | .testOverdue engine => [(.tested, engine)]
  | .frameBoundary lay => [(.layout, lay)]
  | .hardLimitExpire slot _ => [(.slot, slot)]
  | .binathLaneLock link => [(.link, link)]
  | .binathTrainTimeout link => [(.link, link)]
  | .binathIdentRx link _ => [(.link, link)]
  | .binathLockLost link lane => [(.link, link), (.lane, lane)]
  | .binathFlitTimeout link => [(.link, link)]
  | .binathFlitRx link _ => [(.link, link)]
  | .binathNakRx link _ => [(.link, link)]
  | .binathReplayTimeout link => [(.link, link)]
  | .binathFlitTx link => [(.link, link)]
  | .topoSend link => [(.link, link)]
  | .topoRx link _ => [(.link, link)]
  | .claimRetry => []
  | .fabricRevertHoldExpire => []
  | .timeExchangeStart link => [(.link, link)]
  | .timeReqRx link => [(.link, link)]
  | .timeRespRx link _ _ _ => [(.link, link)]
  | .heartbeatSend => []
  | .heartbeatRx path _ => [(.path, path)]
  | .hbIntervalEnd => []
  | .pairWaitExpire => []
  | .juniorTickExecute _ _ _ => []
  | .stall => []
  | .matchStoreExpire => []
  | .digestCompare _ _ => []
  | .resyncCopyDone _ => []
  | .catchupDone => []
  | .resyncCopyTimeout => []
  | .resyncRetry => []
  | .twinRevertHoldExpire => []
  | .twinCmdRevert => []
  | .twinCmdResync => []
  | .dramRead _ port ident _ _ => [(.wport, port), (.ident, ident)]
  | .dramWrite _ port ident _ _ => [(.wport, port), (.ident, ident)]
  | .scrubRead ch _ => [(.channel, ch)]
  | .refreshDue ch rank _ => [(.channel, ch), (.rank, rank)]
  | .refreshRatePoll ch _ _ => [(.channel, ch)]
  | .zqCalStart ch rank => [(.channel, ch), (.rank, rank)]
  | .zqCalLatch ch rank => [(.channel, ch), (.rank, rank)]
  | .selfRefreshEnter => []
  | .selfRefreshExit ch => [(.channel, ch)]
  | .weirWindow => []
  | .weirFence port _ => [(.wport, port)]
  | .fenceEmpty port _ _ => [(.wport, port)]
  | .fenceTimeout port _ => [(.wport, port)]
  | .dramLogPop ch => [(.channel, ch)]
  | .ddrcDevSel ch rank sub_ dev => [(.channel, ch), (.rank, rank), (.rank, sub_), (.dev, dev)]
  | .weirFenceSel port ident => [(.wport, port), (.ident, ident)]
  | .keystoreLoad index => [(.ctx, index)]
  | .keystoreLoadWrapped index wslot => [(.ctx, index), (.keySlot, wslot)]
  | .keystoreErase index => [(.ctx, index)]
  | .keystoreCmdDone => []
  | .keystoreSel index => [(.ctx, index)]
  | .cipherLockRequest user _ => [(.user, user)]
  | .cipherLockRelease user => [(.user, user)]
  | .cipherLockGrant => []
  | .cipherGcmEncrypt slot => [(.keySlot, slot)]
  | .cipherGcmDecrypt slot => [(.keySlot, slot)]
  | .cipherCtrEncrypt slot => [(.keySlot, slot)]
  | .cipherCtrDecrypt slot => [(.keySlot, slot)]
  | .cipherCbcEncrypt slot => [(.keySlot, slot)]
  | .cipherCbcDecrypt slot => [(.keySlot, slot)]
  | .cipherKeyWrap slot => [(.keySlot, slot)]
  | .cipherKeyUnwrap slot => [(.keySlot, slot)]
  | .cipherKeyWrapPad slot => [(.keySlot, slot)]
  | .cipherKeyUnwrapPad slot => [(.keySlot, slot)]
  | .cipherSha256 slot => [(.keySlot, slot)]
  | .cipherSha384 slot => [(.keySlot, slot)]
  | .cipherHmac slot => [(.keySlot, slot)]
  | .cipherJobDone => []
  | .cipherJobSuspend => []
  | .cipherJobResume => []
  | .cipherTagZeroised => []
  | .cipherSlotLoad slot user kind _ => [(.keySlot, slot), (.user, user), (.keyKind, kind)]
  | .cipherSlotLoadWrapped slot wslot user kind _ => [(.keySlot, slot), (.keySlot, wslot), (.user, user), (.keyKind, kind)]
  | .cipherSlotErase slot => [(.keySlot, slot)]
  | .cipherSlotSel slot => [(.keySlot, slot)]
  | .alarmTrip source => [(.alarm, source)]
  | .alarmZeroise => []
  | .svnAdvance => []
  | .drbgReseed => []
  | .bar2Read _ _ => []
  | .bar2Write _ _ => []
  | .msixVectorUnmask vector _ _ => [(.vector, vector)]
  | .pcieLinkDown => []
  | .pcieLinkUp _ _ => []
  | .functionLevelReset => []
  | .dmaEnable ch => [(.dma, ch)]
  | .dmaDisable ch => [(.dma, ch)]
  | .dmaTailWrite ch _ => [(.dma, ch)]
  | .dmaRun ch => [(.dma, ch)]
  | .dmaAbort ch => [(.dma, ch)]
  | .dmaResume ch => [(.dma, ch)]
  | .dmaAbandon ch => [(.dma, ch)]
  | .dmaDescriptorFetch ch => [(.dma, ch)]
  | .dmaBurstStart ch => [(.dma, ch)]
  | .dmaBurstComplete ch _ => [(.dma, ch)]
  | .dmaBusError ch _ _ => [(.dma, ch)]
  | .dmaErrAtEnd ch _ => [(.dma, ch)]
  | .dmaDescriptorComplete ch => [(.dma, ch)]
  | .pulseCrossingIssue island => [(.island, island)]
  | .pulseCrossingAck island _ => [(.island, island)]
  | .islandReset island _ => [(.island, island)]
  | .islandResync island => [(.island, island)]
  | .governorDecide _ _ => []
  | .avsVoltageWrite rail => [(.rail, rail)]
  | .avsStatusPoll rail _ => [(.rail, rail)]
  | .avsSettleTimeout rail => [(.rail, rail)]
  | .pllLock domain => [(.domain, domain)]
  | .pllLockTimeout domain => [(.domain, domain)]
  | .clusterWakeOnTask cluster => [(.cluster, cluster)]
  | .stateQuiet => []
  | .stateDeep => []
  | .stateWake => []
  | .entryComplete => []
  | .wakeComplete => []
  | .domainOff domain => [(.domain, domain)]
  | .domainWake domain => [(.domain, domain)]
  | .memIdleExpire => []
  | .pageReset page _ _ => [(.page, page)]
  | .pageResetComplete page => [(.page, page)]
  | .quiesceSet page _ => [(.page, page)]
  | .quiesceDone page => [(.page, page)]
  | .sramScrub _ _ => []
  | .crierRecord _ => []
  | .crierRelay => []
  | .serviceOut typ index _ => [(.svcType, typ), (.svcIndex, index)]
  | .serviceIn typ index => [(.svcType, typ), (.svcIndex, index)]
  | .serviceHold typ index _ => [(.svcType, typ), (.svcIndex, index)]
  | .serviceDone _ => []
  | .millContextCopyDone flow => [(.flow, flow)]
  | .fwStage => []
  | .fwStaged => []
  | .fwActivate => []
  | .deviceFatal cause _ => [(.fatal, cause)]
  | .epanisWatchdog => []
  | .dumpComplete _ => []
  | .fatalDeadline => []
  | .faultLogPop => []
  | .lifeAccumulate _ => []
  | .lifeSave => []
  | .powerOnReset => []
  | .resetNAssert _ => []
  | .resetNRelease _ => []
  | .warmReset key => [(.key8, key)]
  | .perstNAssert => []
  | .bootStageComplete _ => []
  | .recoveryGo => []
  | .smbusTemperature => []
  | .smbusBootStage => []
  | .smbusFatalCause => []
  | .smbusAlarmStatus => []
  | .smbusPower => []
  | .smbusPart => []
  | .smbusAlertResponse => []
  | .jtagBypass => []
  | .jtagSamplePreload _ => []
  | .jtagExtest _ => []
  | .jtagIdcode => []
  | .perstNRelease => []
  | .highestJunctionSensorCrossing _ => []
  | .audioTickBoundary _ => []
  | .registerWrite addr _ _ => [(.bar0, addr)]
  | .misalignedAccess addr _ => [(.bar0, addr)]
  | .unmappedWrite addr => [(.bar0, addr)]
  | .pairLoRead _ addr => [(.bar0, addr)]
  | .pairHiWrite addr _ => [(.bar0, addr)]
  | .globalFenceRead => []
  | .fenceReadComplete => []
  | .resultFetchComplete sel => [(.bar0, sel)]
  | .gateCreate table index => [(.table, table), (.index16, index)]
  | .gateModify table index => [(.table, table), (.index16, index)]
  | .gateDelete table index => [(.table, table), (.index16, index)]
  | .gateRead table index => [(.table, table), (.index16, index)]
  | .gateTxnOpen => []
  | .gateTxnCommit => []
  | .gateTxnAbort => []
  | .gateAcceptance => []

/-- Every bounded operand is in its range. -/
def Instr.wf (i : Instr) : Bool := i.operands.all (fun p => decide (p.2 < p.1.bound))

end Sys2Proof
end

