-- ==== Sys2Proof/Tests/Slice0.lean ====
section
/-! SUPPORT. Tests: ill-formed terms that `Instr.wf` refuses, states and operands that meet the hypotheses of the statements, and single commands checked against
the words of spec/. -/

namespace Sys2Proof.Tests

set_option Elab.async false

open Sys2Proof Sys2Proof.Machine

/-- The state of the tests: the boot has ended and every island is linked. -/
def up : State := (State.reset.put Fld.GLOBAL_BOOT_STAGE 8).wr Reg.CLK_LINKED 0x0FFFFFFF

/-- Fields set in a state. -/
def fields (l : List (FieldRef × Nat)) (s : State) : State := l.foldl (fun s x => s.put x.1 x.2) s

/-- Effective records, as (table, index, record). -/
def having (l : List (Nat × Nat × Nat)) (s : State) : State :=
  { s with gate := { s.gate with effective := l.foldl (fun m x => m.set (fun _ => 0) (recKey x.1 x.2.1) (x.2.2 + 1)) s.gate.effective } }

/-- A record from its fields, as (byte, bit, width, value). -/
def record (l : List (Nat × Nat × Nat × Nat)) : Nat := l.foldl (fun r x => setRecField r x.1 x.2.1 x.2.2.1 x.2.2.2) 0

/-- The state a command answers with, and s itself if it answered none. -/
def run (i : Instr) (s : State) : State :=
  match exec i s with
  | .next t => t
  | _ => s

/-- A command answers a next state. -/
def completes (i : Instr) (s : State) : Bool :=
  match exec i s with
  | .next _ => true
  | _ => false

/-- No word of the table spells a command. -/
theorem test_no_row_has_bits : decodeTableWord 32 0 = none ∧ decodeTableWord 0 0 = none ∧ up.withFetchWord 32 0 = up := by decide

theorem test_ill_formed_1 :
    (Instr.wf (.frameDepart 4)) = false ∧
    (Instr.wf (.ptpSourceLost 2 false)) = false ∧
    (Instr.wf (.triggerEnable 16 false false)) = false ∧
    (Instr.wf (.captureEdge 5 false 0)) = false ∧
    (Instr.wf (.servoSample (.ptp 2 false 0 0))) = false ∧
    (Instr.wf (.evqPop 64 false)) = false ∧
    (Instr.wf (.bankqWrite 32 0 0)) = false ∧
    (Instr.wf (.granaryClaim 65536 false)) = false ∧
    (Instr.wf (.pktoutLegSel 16384)) = false ∧
    (Instr.wf (.packetEnqueue 32776 .audio 0 0 0 0 false [] false)) = false ∧
    (Instr.wf (.nackRetry 4096 0)) = false ∧
    (Instr.wf (.packetEnqueue 0 .audio 16384 0 0 0 false [] false)) = false := by
  decide

theorem test_ill_formed_2 :
    (Instr.wf (.audioSeatSel 2048)) = false ∧
    (Instr.wf (.cmp0LaySel 1024 0)) = false ∧
    (Instr.wf (.cmp0LaySel 0 16)) = false ∧
    (Instr.wf (.vee0EcSel 1024 0 0)) = false ∧
    (Instr.wf (.vee0EcSel 0 3 0)) = false ∧
    (Instr.wf (.nop 128)) = false ∧
    (Instr.wf (.kernelLoad 8 0)) = false ∧
    (Instr.wf (.kernelLoad 0 8)) = false ∧
    (Instr.wf (.benchEnable 0 16 false)) = false ∧
    (Instr.wf (.millSlotWrite 0 131072 0)) = false ∧
    (Instr.wf (.add ⟨0, false, {}⟩ 32 0 0)) = false ∧
    (Instr.wf (.mpy ⟨0, false, {}⟩ 8 0 0)) = false := by
  decide

theorem test_ill_formed_3 :
    (Instr.wf (.ld ⟨0, false, {}⟩ 0 8 0 0)) = false ∧
    (Instr.wf (.ld ⟨0, false, {}⟩ 0 0 4 0)) = false ∧
    (Instr.wf (.ld ⟨0, false, {}⟩ 0 0 0 16)) = false ∧
    (Instr.wf (.shli ⟨0, false, {}⟩ 0 0 4096)) = false ∧
    (Instr.wf (.movi ⟨0, false, {}⟩ 0 1048576)) = false ∧
    (Instr.wf (.movh ⟨0, false, {}⟩ 0 65536)) = false ∧
    (Instr.wf (.br ⟨0, false, {}⟩ 32768)) = false ∧
    (Instr.wf (.bz ⟨0, false, {}⟩ 0 1024)) = false ∧
    (Instr.wf (.loopi0 ⟨0, false, {}⟩ 0 256)) = false ∧
    (Instr.wf (.loopi0 ⟨0, false, {}⟩ 128 0)) = false ∧
    (Instr.wf (.movs ⟨0, false, {}⟩ 0 64)) = false ∧
    (Instr.wf (.reeveFlowSel 8192)) = false := by
  decide

theorem test_ill_formed_4 :
    (Instr.wf (.engineFault 896 0)) = false ∧
    (Instr.wf (.testOverdue 1281)) = false ∧
    (Instr.wf (.hardLimitExpire 4096 none)) = false ∧
    (Instr.wf (.taskSubmit 8 0 0 false 0)) = false ∧
    (Instr.wf (.taskSubmit 0 5 0 false 0)) = false ∧
    (Instr.wf (.recallPlay 16)) = false ∧
    (Instr.wf (.audioPathSnk 16 0)) = false ∧
    (Instr.wf (.audioPathSnk 0 65536)) = false ∧
    (Instr.wf (.binathLaneLock 4)) = false ∧
    (Instr.wf (.binathLockLost 0 4)) = false ∧
    (Instr.wf (.heartbeatRx 3 none)) = false ∧
    (Instr.wf (.scrubRead 8 [])) = false ∧
    (Instr.wf (.refreshDue 0 2 false)) = false := by
  decide

theorem test_ill_formed_5 :
    (Instr.wf (.ddrcDevSel 0 0 0 10)) = false ∧
    (Instr.wf (.dramRead 0 17 0 [] .other)) = false ∧
    (Instr.wf (.dramRead 0 0 256 [] .other)) = false ∧
    (Instr.wf (.keystoreLoad 32768)) = false ∧
    (Instr.wf (.keystoreLoadWrapped 0 256)) = false ∧
    (Instr.wf (.cipherLockRequest 4 false)) = false ∧
    (Instr.wf (.cipherSlotLoad 0 0 8 false)) = false ∧
    (Instr.wf (.alarmTrip 8)) = false ∧
    (Instr.wf (.dmaEnable 32)) = false ∧
    (Instr.wf (.msixVectorUnmask 2048 false false)) = false ∧
    (Instr.wf (.pulseCrossingIssue 28)) = false ∧
    (Instr.wf (.avsVoltageWrite 8)) = false := by
  decide

theorem test_ill_formed_6 :
    (Instr.wf (.pllLock 14)) = false ∧
    (Instr.wf (.pageReset 16777216 false false)) = false ∧
    (Instr.wf (.misalignedAccess 67108864 false)) = false ∧
    (Instr.wf (.gateCreate 256 0)) = false ∧
    (Instr.wf (.serviceOut 5 0 [])) = false ∧
    (Instr.wf (.serviceOut 0 16 [])) = false ∧
    (Instr.wf (.deviceFatal 7 0)) = false ∧
    (Instr.wf (.warmReset 256)) = false := by
  decide

/-! ### Witnesses of the general statements and of the gate -/

theorem witness_step : State.reset.pending = [] ∧ State.reset.boot.held = false ∧ (run .powerOnReset up).boot.held = true ∧ completes .drbgReseed up = true := by decide

theorem witness_EveryStepKeepsTheTablesCanonical :
    Sparse.wf resetWord up.regs = true ∧ up.dram.wf = true ∧ up.hostMem.wf = true ∧ (match step up with | .next _ => true | _ => false) = true := by decide

/-- The greatest time, from which the next cycle wraps (R49). -/
theorem witness_ClockCycleAddsTwoNanosecondsAndAddend :
    let c : Clock := { sec := 2 ^ 48 - 1, ns := 999999998, frac := 2 ^ 38 - 1 }
    c.sec < 2 ^ 48 ∧ c.ns < 1000000000 ∧ c.frac < 2 ^ 38 ∧ (c.cycle 0).sec = 0 ∧ (c.cycle 0).ns = 0 ∧ ({} : Clock).cycle 0 = { ns := 2, cycles := 1 } := by decide

theorem witness_RejectedWriteChangesOnlyErrorReporting :
    up.writeErr Reg.HOSTIF_WIN 0xFFFFFFFF = some .reserved ∧ up.writeErr Reg.GLOBAL_REV 0 = some .priv ∧ up.writeErr Reg.HOSTIF_WIN 0 = none := by decide

theorem witness_GateCommandsCopyTheStagingWindow :
    up.linked Reg.GATE_CMD = true ∧ up.inReset Reg.GATE_CMD = false ∧ up.on (Fld.PG_CTRL_QUIESCE gatePage) = false ∧ up.on Fld.GATE_RESULT_VALID = true ∧
    (up.put Fld.GATE_RESULT_VALID 0).on Fld.GATE_RESULT_VALID = false ∧ (run (.gateCreate 2 0) up).gate.cmd.isSome = true := by decide

/-- A CONF record: K 1, RECALL_MIN 1, RECALL_SIZE 1. -/
def conf1 : Nat := record [(0, 0, 5, 1), (3, 0, 8, 1), (16, 0, 32, 1)]

/-- A command in progress. -/
def gated (op table index data : Nat) (s : State) : State := { s with gate := { s.gate with cmd := some ⟨op, table, index, data⟩ } }

/-- An open transaction. -/
def opened (l : List GateRec) (s : State) : State := { s with gate := { s.gate with txnOpen := true, txn := l } }

theorem witness_GateAcceptanceQueuesRecords :
    up.gateErr ⟨1, 2, 0, 0⟩ = some .range ∧ up.gateErr ⟨1, 2, 1023, conf1⟩ = none ∧ (opened [] up).gateErr ⟨1, 2, 0, conf1⟩ = none ∧
    (having [(2, 0, conf1)] up).gateErr ⟨4, 2, 0, 0⟩ = none ∧ (having [(2, 0, conf1)] up).gateErr ⟨3, 2, 0, 0⟩ = none ∧ up.gateErr ⟨5, 0, 0, 0⟩ = none ∧
    (opened [⟨.create, 2, 0, conf1, 0⟩] up).gateErr ⟨6, 0, 0, 0⟩ = none ∧ (opened [] up).gateErr ⟨7, 0, 0, 0⟩ = none ∧
    (run .gateAcceptance (gated 1 2 0 conf1 up)).gate.pending.length = 1 := by decide

/-- A layout between ticks. -/
def framing : State := up.setLayout 3 { up.layout 3 with effective := true, next := (1, 16666667) }

/-- A program that waits for tick 4. -/
def waiting : State := { up with audio := { up.audio with activateAt := some 4, shadow := some {} } }

theorem witness_BoundariesTakeDueRecords :
    up.twinState = 0 ∧ up.devState = 0 ∧ up.pwr.enterAt = none ∧ up.pwr.activeDue = false ∧ up.bel.oscReturning = false ∧
    (framing.layout 3).effective = true ∧ (framing.layout 3).next.2 % 1000000 ≠ 0 ∧ framing.devState = 0 ∧ waiting.audio.activateAt = some 4 ∧ waiting.audio.shadow = some {} ∧
    (∀ g ∈ ([⟨.create, 2, 65535, conf1, 7⟩, ⟨.delete, 1, 0, 0, 6⟩] : List GateRec), tableClass g.table = 1 ∧ g.boundary ≤ 7 ∧ g.index < 65536) := by decide

theorem witness_PagesResetAndQuiesce :
    0x8000 ∈ allPages ∧ up.on (Fld.PG_CTRL_RESET 0x8000) = false ∧ up.writeErr (Reg.PG_CTRL 0x8000) (BitVec.ofNat 32 4) = none ∧ pageEngines 0x8000 = [] ∧
    (up.put Fld.TWIN_STATUS_STATE 3).twinJunior = true ∧ up.writeErr (Reg.PG_CTRL 0xC1000) (BitVec.ofNat 32 7) = none ∧
    (having [(1, 0, 0)] up).anyLegOrLayout = true ∧ up.writeErr (Reg.PG_CTRL belfryPage) (BitVec.ofNat 32 4) = none ∧
    (run (.pageReset 0x8000 false false) up).on (Fld.PG_CTRL_RESET 0x8000) = true ∧ (gated 1 2 0 0 up).gate.cmd.isSome = true ∧
    up.writeErr (Reg.PG_CTRL 0x8000) (BitVec.ofNat 32 2) = none ∧ islandOf 0x8000 = 1 ∧ up.pageBusy 0x8000 = false ∧
    (up.put (Fld.PG_CTRL_QUIESCE 0x8000) 1).on (Fld.PG_CTRL_QUIESCE 0x8000) = true := by decide

theorem witness_accesses :
    up.hostCut = false ∧ (pageAt 0x8041).isSome = true ∧ pageAt 0x1000001 = none ∧ slotCore 0x1000001 = some 0 ∧ pageAt 0xF0003 = none ∧ slotCore 0xF0003 = none ∧
    (run (.misalignedAccess 0x8041 true) up).get (Fld.PG_LAST_ERR_CODE 0x8000) = 2 ∧ (run (.unmappedWrite 0xF0000) up).get Fld.GLOBAL_BADADDR_ADDR = 0xF0000 := by decide

theorem witness_PairsAreReadAndWrittenWhole :
    (specAt (Reg.DMA_CHc_RING_LO 0)).map (·.role) = some .lo ∧ (specAt (Reg.DMA_CHc_RING_LO 0 + 4)).map (·.role) = some .hi ∧ up.linked (Reg.DMA_CHc_RING_LO 0) = true ∧ up.inReset (Reg.DMA_CHc_RING_LO 0) = false ∧
    up.writeErr (Reg.DMA_CHc_RING_LO 0) 0x1000 = none ∧ up.pairErr (Reg.DMA_CHc_RING_LO 0) = none ∧ up.writeErr (Reg.DMA_CHc_RING_HI 0) 0xFFFFFFFF = none ∧
    up.pairWholeErr (Reg.DMA_CHc_RING_LO 0) 0xFFFFFFFF = none ∧ (indexOf Reg.AUDIO_RPn_START_LO 16 (Reg.DMA_CHc_RING_LO 0)).isSome = false ∧
    (specAt (Reg.DMA_CHc_RING_HI 0)).map (·.writable) = some true ∧ (run (.pairHiWrite (Reg.DMA_CHc_RING_HI 0) 5) (up.pairLoWrite (Reg.DMA_CHc_RING_LO 0) 0x1000)).rd64 (Reg.DMA_CHc_RING_LO 0) = 0x500001000 := by decide

theorem witness_FieldsTakeWritesByAccessType :
    (specAt Reg.HOSTIF_WIN).isSome = true ∧ ((specAt Reg.HOSTIF_WIN).map (fun r => r.rows.any (fun x => decide (x.acc = .rw)))) = some true ∧
    ((specAt (Reg.PG_EVENT 0)).map (fun r => r.rows.any (fun x => decide (x.acc = .w1c)))) = some true ∧ (up.applyWrite Reg.HOSTIF_WIN 0xFF).get Fld.HOSTIF_WIN_BASE = 255 := by decide

theorem witness_events :
    0 ∈ allPages ∧ 0xC1000 ∈ allPages ∧ up.hostCut = false ∧ up.twinJunior = false ∧
    (let s := up.wr (Reg.PG_EVENT_EN 0) 1
     s.pageRaised 0 = false ∧ (s.rd (Reg.PG_EVENT_EN 0)).getLsbD 0 = true ∧ s.msix.enable = false ∧ (s.event 0 0).msix.pendingBit.get (fun _ => false) (s.get (Fld.PG_MSIX_VECTOR 0)) = true) ∧
    (let s := { up.wr (Reg.PG_EVENT_EN 0) 0x80000000 with msix := { enable := true, unmasked := [(up.get (Fld.PG_MSIX_VECTOR 0), true)] } }
     (s.event 0 31).msix.sent.get (fun _ => 0) (s.get (Fld.PG_MSIX_VECTOR 0)) = 1) := by decide

/-- Each selector of `SelectorWriteStartsAFetch` at a value its register accepts. -/
theorem witness_SelectorWriteStartsAFetch :
    up.writeErr Reg.PKTIN_LEG_SEL (BitVec.ofNat 32 16383) = none ∧ up.writeErr Reg.ADAPT_LEG_SEL 0 = none ∧ up.writeErr Reg.ADAPT_OSTR_SEL 0 = none ∧ up.writeErr Reg.PKTOUT_LEG_SEL 0 = none ∧
    up.writeErr Reg.GRANARY_Q_SEL 0x413F = none ∧ up.writeErr Reg.AUDIO_PATH_SNK 0x10000000 = none ∧ up.writeErr Reg.AUDIO_METER_SEL 0x10000000 = none ∧ up.writeErr Reg.AUDIO_SEAT_SEL 1023 = none ∧
    up.writeErr Reg.VDE0_STR_SEL 0 = none ∧ up.writeErr Reg.CMP0_LAY_SEL 0xF0000 = none ∧ up.writeErr Reg.VEE0_EC_SEL 0 = none ∧ up.writeErr Reg.REEVE_FLOW_SEL 0 = none ∧
    up.writeErr (Reg.DDRCn_DEV_SEL 7) 0 = none ∧ up.writeErr Reg.WEIR_FENCE_SEL 0x100000 = none ∧ up.writeErr Reg.KEYSTORE_SEL 32767 = none ∧ up.writeErr Reg.CIPHER_SLOT_SEL 255 = none := by decide

theorem witness_FetchPostsItsResults :
    (∀ r ∈ [Reg.PKTIN_LEG_SEL, Reg.PKTOUT_LEG_SEL, Reg.GRANARY_Q_SEL, Reg.REEVE_FLOW_SEL, Reg.ADAPT_LEG_SEL], r ∈ ({ up with fetches := [r] } : State).fetches) ∧ up.get Fld.GRANARY_Q_SEL_QUEUE < 0x4100 ∧
    (run (.resultFetchComplete Reg.PKTIN_LEG_SEL) { up with fetches := [Reg.PKTIN_LEG_SEL] }).fetches = [] := by decide

theorem witness_FenceReadReturnsTheShortTime : (run .globalFenceRead up).fences = [0] ∧ (run .fenceReadComplete (run .globalFenceRead up)).fences = [] := by decide

/-! ### Witnesses of the statements about the clock, the ports, the legs, the queues and the audio commands -/

/-- The clock at the given seconds and nanoseconds. -/
def atTime (sec ns : Nat) (s : State) : State := { s with clk := { s.clk with sec := sec, ns := ns } }

/-- The servo enabled in a state, on a source. -/
def servo (st src : Nat) : State :=
  { fields [(Fld.BELFRY_CTRL_SERVO_EN, 1), (Fld.BELFRY_CTRL_STEP_EN, 0), (Fld.BELFRY_PTPn_STATE_LANA 0, 9), (Fld.BELFRY_STATUS_SERVO_STATE, st), (Fld.BELFRY_STATUS_ACTIVE_SRC, src), (Fld.BELFRY_SRC_PRI, 1), (Fld.BELFRY_SRC_SEC, 2)] (atTime 5 0 up) with
    bel := { up.bel with ptp0 := true, ptp1 := true } }

theorem witness_ClockReadCapturesTheWholeClock :
    up.linked Reg.BELFRY_SEC_LO = true ∧ up.inReset Reg.BELFRY_SEC_LO = false ∧ (atTime (2 ^ 48 - 1) 999999999 up).clk.sec < 2 ^ 48 ∧
    (run (.belfryCaptureRead .host) (atTime (2 ^ 32 + 7) 9 up)).readData = 7 ∧ (run (.belfryCaptureRead .host) (atTime (2 ^ 32 + 7) 9 up)).readWord .host Reg.BELFRY_SEC_HI = 1 := by decide +kernel

theorem witness_ServoFollowsItsTable :
    (let s := servo 1 1
     s.on Fld.BELFRY_CTRL_SERVO_EN = true ∧ s.get Fld.BELFRY_STATUS_ACTIVE_SRC = 1 ∧ s.srcPresent 1 = true ∧ s.srcPresent 2 = true ∧ s.get Fld.BELFRY_STATUS_SERVO_STATE = 1 ∧ (servo 2 1).get Fld.BELFRY_STATUS_SERVO_STATE = 2) ∧
    (let s := (servo 1 1).put Fld.BELFRY_CTRL_STEP_EN 1
     s.on Fld.BELFRY_CTRL_STEP_EN = true ∧ (run (.servoSample (.ptp 0 false (-160000) (-16))) s).now = 5000000000 - 10001 ∧ (run (.servoSample (.ptp 0 false (-160000) 0)) s).clk = s.clk ∧ s.ptpSlave 0 false = true ∧ s.ptpSlave 1 true = false ∧ s.ppsOffset = 0 ∧ (s.now : Int) - 80000000016 / 16 < 0) ∧
    (run (.ptpSourceLost 0 false) (servo 1 1)).get Fld.BELFRY_STATUS_ACTIVE_SRC = 2 ∧ (servo 2 3).srcPresent 3 = false ∧
    (run (.ptpSourceLost 0 false) { servo 2 1 with bel := { up.bel with ptp0 := true } }).get Fld.BELFRY_STATUS_SERVO_STATE = 3 ∧
    (let s := fields [(Fld.PLANEn_CFG_PRP 1, 1), (Fld.BELFRY_PTPn_STATE_LANA 1, 9), (Fld.BELFRY_PTPn_STATE_LANB 1, 7)] up
     s.on (Fld.PLANEn_CFG_PRP 1) = true ∧ s.get (Fld.BELFRY_PTPn_STATE_LANA 1) = 9 ∧ s.get (Fld.BELFRY_PTPn_STATE_LANB 1) = 7) ∧
    up.writeErr Reg.BELFRY_CTRL 0 = none ∧ up.writeErr Reg.BELFRY_CTRL 3 = none ∧ up.anyLegOrLayout = false ∧ (having [(1, 0, 0)] up).anyLegOrLayout = true ∧
    (run (.stepEnWrite true) (having [(1, 0, 0)] (up.put Fld.BELFRY_CTRL_STEP_EN 0))).get (Fld.PG_LAST_ERR_CODE belfryPage) = 3 ∧ up.writeErr Reg.BELFRY_SRC 0x21 = none ∧ up.on Fld.GLOBAL_STRAPS_FABRIC_MASTER = false := by decide +kernel

theorem witness_StepsSetTheClock :
    let s := (up.put Fld.BELFRY_CTRL_STEP_EN 1).wr64 Reg.BELFRY_STEP_SEC_LO 77
    s.on Fld.BELFRY_CTRL_STEP_EN = true ∧ s.on Fld.BELFRY_CTRL_SERVO_EN = false ∧ s.writeErr Reg.BELFRY_STEP_CMD 1 = none ∧ s.writeErr Reg.BELFRY_STEP_CMD 2 = none ∧ 0 ≤ s.stepRelTarget ∧
    (run .stepAbs s).clk.sec = 77 ∧ (up.put Fld.BELFRY_CTRL_STEP_EN 0).on Fld.BELFRY_CTRL_STEP_EN = false ∧ (s.wr64 Reg.BELFRY_STEP_SEC_LO (2 ^ 64 - 2)).stepRelTarget < 0 := by decide +kernel

theorem witness_OscRefLossSwitchesTheClock :
    (atTime 1 0 up).on Fld.BELFRY_STATUS_OSC_INT = false ∧ (atTime 1 0 up).clk.ns % 1000000 = 0 ∧ (fields [(Fld.BELFRY_STATUS_OSC_INT, 1)] (atTime 1 999999 up)).clk.ns % 1000000 ≠ 0 ∧
    (run .oscBack (fields [(Fld.BELFRY_STATUS_OSC_INT, 1)] (atTime 1 0 up))).on Fld.BELFRY_STATUS_OSC_INT = false := by decide +kernel

/-- A PTP message of plane 1. -/
def announce (k : PtpKind) : PtpMsg := ⟨1, false, k, 0, 0, 0, true, 9, 7, 70000, 37, true, false, true⟩

theorem witness_PtpClocksReportAndStamp :
    let s := fields [(Fld.BELFRY_PTPn_CFG_ENABLE 1, 1), (Fld.PG_CTRL_ENABLE 0x25000, 1), (Fld.PLANEn_CFG_PRP 1, 1), (Fld.BELFRY_STATUS_ACTIVE_SRC, 2)] up
    (announce .management).kind = .management ∧ (announce .announce).plane < 2 ∧ s.on (Fld.BELFRY_PTPn_CFG_ENABLE 1) = true ∧ s.on (Fld.PG_CTRL_ENABLE (0x24000 + 1 * 0x1000)) = true ∧
    s.on (Fld.PLANEn_CFG_PRP 1) = true ∧ (run (.ptpMessageRx (announce .announce)) s).get (Fld.BELFRY_PTPn_STATE_DELAY 1) = 65535 ∧
    (run (.ptpMessageRx (announce .announce)) s).rd Reg.BELFRY_UTC = 0x50025 ∧ ptpEvent .sync = true ∧ ptpEvent .followUp = false := by decide +kernel

theorem witness_TriggerGeneratorsMakeTheirEdges :
    trgPin 6 = true ∧
    up.writeErr (Reg.BELFRY_TRGn_CTRL 2) 7 = none ∧ (fields [(Fld.BELFRY_TRGn_PERIOD_NUM_NUM 2, 100), (Fld.BELFRY_TRGn_PERIOD_DEN_DEN 2, 7)] up).trgBadPeriod 2 = true ∧
    (let s := fields [(Fld.BELFRY_TRGn_PERIOD_NUM_NUM 2, 1000000), (Fld.BELFRY_TRGn_PERIOD_DEN_DEN 2, 1), (Fld.BELFRY_TRGn_WIDTH_WIDTH 2, 9)] up
     s.writeErr (Reg.BELFRY_TRGn_CTRL 2) 3 = none ∧ s.trgBadPeriod 2 = false ∧ s.on (Fld.BELFRY_TRGn_CTRL_ENABLE 2) = false ∧ s.trgStart 2 ≤ s.now ∧
     (run (.triggerEnable 2 true false) s).on (Fld.BELFRY_TRGn_CTRL_ENABLE 2) = false ∧ (run (.triggerEnable 2 false false) s).on (Fld.BELFRY_TRGn_STATUS_RUN 2) = true) ∧
    (let s := (fields [(Fld.BELFRY_TRGn_PERIOD_NUM_NUM 2, 1000000), (Fld.BELFRY_TRGn_PERIOD_DEN_DEN 2, 1), (Fld.BELFRY_TRGn_WIDTH_WIDTH 2, 9)] up).wr64 (Reg.BELFRY_TRGn_START_SEC_LO 2) 1
     s.trgBadPeriod 2 = false ∧ s.now < s.trgStart 2 ∧ s.on Fld.PWR_CFG_WAKE_GEN_EN = false ∧
     (run (.triggerEdge 2 []) (run (.triggerEnable 2 false false) s)).clk.sec = 1) ∧
    ((up.setTrg 6 { high := true, endCycle := 3 }).trg 6).high = true := by decide +kernel

theorem witness_CaptureUnitsQueueTimes :
    let s := fields [(Fld.BELFRY_CAPn_CTRL_ENABLE 7, 1), (Fld.BELFRY_CAPn_CTRL_EDGE 7, 2)] up
    let full := List.replicate 16 (CapEntry.mk false 0 0 0)
    s.captures 7 true = true ∧ s.captures 7 false = true ∧ ((s.setCap 7 ⟨full, false⟩).cap 7).fifo.length = 16 ∧ (run (.captureEdge 0 true 0) (s.setCap 7 ⟨full, false⟩)).cap 7 = ⟨full, true⟩ ∧
    (run (.capturePop 7) (s.setCap 7 ⟨[⟨true, 2 ^ 48 - 1, 2 ^ 30 - 1, 65535⟩], true⟩)).readData = 0xE0000000 ∧ (s.cap 7).fifo = [] ∧ s.linked Reg.BELFRY_CTRL = true ∧ s.inReset Reg.BELFRY_CTRL = false := by decide +kernel

theorem witness_EthernetLinksGoUpAndDown :
    up.linkUp 3 = false ∧ (run (.ethLinkUp 3 true) up).linkUp 3 = true ∧ (run (.ethLinkDown 3 true true true 16 false) (run (.ethLinkUp 3 true) up)).get (Fld.ETHn_LINK_DOWN_COUNT 3) = 1 := by decide +kernel

/-- Plane 1 with two ports and rings of 16 slots. -/
def doubly1 : State :=
  fields [(Fld.PLANEn_CFG_PRP 1, 1), (Fld.PLANEn_PRP_CFG_SUP_EN 1, 1), (Fld.PG_CTRL_ENABLE (planePage 1), 1), (Fld.PLANEn_PUNT_CFG_SLOTS 1, 16), (Fld.PLANEn_PUNT_CFG_ENABLE 1, 1),
    (Fld.PLANEn_INJ_CFG_SLOTS 1, 16), (Fld.PLANEn_INJ_CFG_ENABLE 1, 1), (Fld.PLANEn_INJ_PTR_TAIL 1, 1)] up

theorem witness_PrpAndHostRingsMove :
    let s := doubly1.setPlane 1 { prp := [⟨5, 0, [0], 0⟩] }
    (s.plane 1).prp.find? (fun e => decide (e.src = 5)) = some ⟨5, 0, [0], 0⟩ ∧ s.on (Fld.PLANEn_PRP_CFG_SUP_EN 1) = true ∧ s.doubly 1 = true ∧ s.on (Fld.PG_CTRL_ENABLE (planePage 1)) = true ∧
    s.writeErr (Reg.PLANEn_PUNT_PTR 1) (BitVec.ofNat 32 (15 * 65536)) = none ∧ s.writeErr (Reg.PLANEn_PUNT_PTR 1) (BitVec.ofNat 32 (16 * 65536)) = none ∧ s.get (Fld.PLANEn_PUNT_CFG_SLOTS 1) = 16 ∧
    s.writeErr (Reg.PLANEn_INJ_PTR 1) 15 = none ∧ s.writeErr (Reg.PLANEn_INJ_PTR 1) 16 = none ∧ s.get (Fld.PLANEn_INJ_CFG_SLOTS 1) = 16 ∧ s.on (Fld.PLANEn_INJ_CFG_ENABLE 1) = true ∧
    s.get (Fld.PLANEn_INJ_PTR_HEAD 1) ≠ s.get (Fld.PLANEn_INJ_PTR_TAIL 1) ∧ (run (.injectSlotSend 1) s).get (Fld.PLANEn_INJ_BAD 1) = 1 ∧
    (let p := { s with dram := s.dram.writeList (s.rd64 (Reg.PLANEn_INJ_BASE_LO 1)) (natBytes 4 (60 + 3 * 2 ^ 16)) }
     (run (.injectSlotSend 1) p).get (Fld.PLANEn_INJ_BAD 1) = 0 ∧ (((run (.injectSlotSend 1) p).port 3).q.length = 1)) := by decide +kernel

/-- A received frame of 64 bytes on port 2. -/
def frame (body : RxBody) (rct : Option (Nat × Bool)) : RxFrame := ⟨2, false, false, 0, 64, 5, 2 ^ 48 - 1, none, rct, [1, 2, 3], body, false⟩

theorem witness_ReceivedFramesPassTheirChecks :
    (frame (.ptp true) none).port < 4 ∧ doubly1.doubly 1 = true ∧ doubly1.get (Fld.ETHn_CFG_MAX_FRAME 2) ≥ 64 ∧ (frame .supervision none).body = .supervision ∧ (up.put (Fld.PLANEn_CFG_PRP 1) 0).doubly 1 = false ∧
    (let s := doubly1.setPlane 1 { prp := [⟨5, 9, [9], 0⟩] }
     (s.plane 1).prp.find? (fun e => decide (e.src = 5)) = some ⟨5, 9, [9], 0⟩ ∧ seqDist 9 9 ≤ 128 ∧ (run (.frameReceive (frame .arp (some (9, false)))) s).get (Fld.PLANEn_PRP_DROP_COUNT 1) = 1 ∧
     (run (.frameReceive (frame .arp (some (10, false)))) s).get (Fld.PLANEn_PUNT_PTR_TAIL 1) = 1 ∧ s.vlanOk 1 none = true ∧ 1000000 ≤ s.puntTokens 1 ∧
     (s.setPlane 1 { puntTokens := 0 }).puntTokens 1 < 1000000 ∧ (s.put (Fld.PLANEn_PUNT_PTR_TAIL 1) 15).get (Fld.PLANEn_PUNT_PTR_TAIL 1) = 15) ∧
    (run (.frameReceive { frame .arp none with fcsBad := true }) doubly1).get (Fld.ETHn_RX_ERR_FCS 2) = 1 ∧ (run (.frameReceive { frame .arp none with len := 63 }) doubly1).get (Fld.ETHn_RX_ERR_SIZE 2) = 1 ∧
    (run (.frameReceive { frame .arp none with dst := 1 }) doubly1).get Fld.PKTIN_DROP_L2_MAC = 1 := by decide +kernel

/-- A LEG record: a plain RTP leg with reports every 5 s and a receive time-out. -/
def leg1 : Nat := record [(0, 4, 1, 1), (57, 0, 8, 20), (76, 0, 16, 200), (80, 0, 16, 5000), (82, 0, 16, 10), (88, 0, 32, 64), (92, 0, 32, 10000)]

/-- The leg effective and active. -/
def withLeg (l : Nat) (g : Leg) (s : State) : State := (having [(1, l, leg1)] s).setLeg l { g with state := .active }

/-- An authentic packet. -/
def packet : RxPkt := ⟨false, true, 7, 96, 0, 0, false, 60, 20, 40, 0, true, true, none, none, (0, 0), 0, ⟨true, false, false, false, [], false, false, false, 320, 180, false, 1, 0, true, 0, 0⟩, [], 0, [], false⟩

theorem witness_PacketsAreVerifiedAndAdmittedOnce :
    (({} : ReplayWin).check 200).1 = 0 ∧ (({} : ReplayWin).check 200).2.check 72 = (2, (({} : ReplayWin).check 200).2) ∧ ((({} : ReplayWin).check 200).2.check 73).1 = 0 ∧
    LEG.PROFILE ((withLeg 16383 {} up).legRec 16383) = 0 ∧ ((withLeg 16383 {} up).leg 16383).ctxSwitchDue = false ∧ ((withLeg 0 {} up).replay (plainCtx 0) packet).1 = 0 ∧
    (let s := withLeg 0 {} up
     let t := s.srtpRx 0 0 0 false false packet
     (t.leg 0).rxPkts = 1 ∧ (t.replay (plainCtx 0) packet).1 = 1) ∧
    (let s := (withLeg 0 {} up).setLeg 0 { state := .halted }
     (s.srtpRx 0 0 0 false false packet).get Fld.SRTP_NOKEY_COUNT = 1) := by decide +kernel

theorem witness_LegsActAtTheirDueTimes :
    (let s := withLeg 9 { nextReport := 3 } up
     (s.leg 9).state ≠ .none ∧ (s.leg 9).state ≠ .pending ∧ LEG.TRANSPORT (s.legRec 9) = 0 ∧ s.now ≤ 3 * 1000000 + s.lag ∧ LEG.RX_TIMEOUT (s.legRec 9) ≠ 0 ∧ (s.leg 9).idle = false ∧
     ((run (.rtcpReport 9) s).pkt 0).isSome = true) ∧
    (let s := (having [(1, 0, leg1), (6, 3, 0)] up).setVstr 3 { missing := [⟨7, 0, 1, 0⟩], highest := some 9 }
     (s.vstr 3).missing.find? (fun m => decide (m.seq = 7)) = some ⟨7, 0, 1, 0⟩ ∧ LEG.NACK_EN (s.legRec (VSTR.LEG ((s.effRec 6 3).getD 0))) = 1) ∧
    (let s := withLeg 0 { jb := { based := true, depth := 40, window := [(0, 3)] } } up
     (s.leg 0).jb.based = true ∧ 0 < LEG.PTIME (s.legRec 0) ∧ ((run (.jbRecompute 0) s).leg 0).jb.target % 20 = 0) ∧
    (let s := up.setVstr 0 { pics := [⟨900, [], 0, 0, none, none, packet.facts⟩, ⟨901, [], 0, 0, none, some 1, packet.facts⟩] }
     (s.vstr 0).pics.find? (fun p => decide (p.ts = 900)) = some ⟨900, [], 0, 0, none, none, packet.facts⟩ ∧ (s.vstr 0).pics.length = 2) ∧
    (let s := fields [(Fld.PG_CTRL_ENABLE (tdmPage 3), 1), (Fld.TDMn_CFG_SYNC_EXT 3, 1), (Fld.SRTP_STATS_CFG_ENABLE, 1)] up
     s.on (Fld.PG_CTRL_ENABLE (tdmPage 3)) = true ∧ s.on (Fld.TDMn_CFG_SYNC_EXT 3) = true ∧ s.on Fld.SRTP_STATS_CFG_ENABLE = true) ∧
    (let k := windowKey 1 2 3 4
     let s := { up with windows := up.windows.set (fun _ => {}) k { openUntil := 5, held := 2 } }
     (s.windows.get (fun _ => {}) k).openUntil ≠ 0 ∧ ((run (.eventWindowExpire 1 2 3 4) s).windows.get (fun _ => {}) k).held = 0) := by decide +kernel

theorem witness_ControllersFollowTheRateLaw :
    let s := (withLeg 0 { cc := { rate := 1000, lastFb := 0, rRef := 1000 } } up).put Fld.ADAPT_CFG_ENABLE 1
    s.on Fld.ADAPT_CFG_ENABLE = true ∧ (s.leg 0).state = .active ∧ LEG.TRANSPORT (s.legRec 0) = 0 ∧ ((run (.ccUpdate 0) s).leg 0).cc.lastUpdate = some 0 ∧ Sparse.wf (fun _ => 0) s.gate.effective = true ∧
    (let w := (atTime 501 0 up).setVstr 5 { lastPli := some 0, pliWaiting := true }
     (w.vstr 5).lastPli = some 0 ∧ (w.vstr 5).pliWaiting = true ∧ (run (.pliSend 5) w).get Fld.ADAPT_KEYREQ_PLI = 1) := by decide +kernel

/-- A packet of leg 0 that waits. -/
def txp (k : PktKind) : TxPkt := ⟨0, 0, k, 0, 100, 0, 0, true, [], [], none⟩

theorem witness_PacketsAreReleasedOrDiscarded :
    (500000 : Nat) < (atTime 1 0 up).lnow ∧ up.lnow ≤ 0 * 1000000 + 500000 + (16383 % 500) * 1000 ∧ (run (.packetEnqueue 0 .audio 0 100 0 0 false [] false) up).nextPkt = 1 ∧
    (run (.packetEnqueue 0 .audio 0 100 0 0 false [] false) (atTime 1 0 up)).get Fld.PKTOUT_LATE_COUNT = 1 ∧ (run (.packetEnqueue 0 .video 0 100 0 0 false [] false) up).nextPkt = 1 ∧
    (let s := { withLeg 0 {} (run (.ethLinkUp 0 false) (up.put (Fld.PG_CTRL_ENABLE (planePage 0)) 1)) with pkts := [(0, some (txp .audio))] }
     s.muted = false ∧ s.pkt 0 = some (txp .audio) ∧ s.twin.jumpDue = false ∧ s.get Fld.TWIN_STATUS_STATE = 0 ∧ ((s.queue 0).items.head?.map GItem.tag).getD 0 = 0 ∧ (s.leg 0).silenced = false ∧
     0 ∈ s.lanPorts 0 (true, true) ∧ s.linkUp 0 = true ∧ (run (.packetRelease 0) s).rd64 Reg.PKTOUT_RELEASED_LO = 1 ∧ ((s.setQueue 0 { items := [⟨9, 5, false⟩] }).queue 0).items.head?.map GItem.tag = some 5) ∧
    (let sent (s : State) : State := run (.packetRelease 0) { (having [(1, 0, setRecField leg1 0 3 1 1)] s).setLeg 0 { state := .active } with pkts := [(0, some (txp .audio))] }
     (((sent (run (.ethLinkUp 0 false) (up.put (Fld.PG_CTRL_ENABLE (planePage 0)) 1))).port 0).q.get (fun _ => []) 3).length = 2 ∧ (sent (up.put (Fld.PG_CTRL_ENABLE (planePage 0)) 1)).get (Fld.ETHn_TX_DROP_COUNT 0) = 2) := by decide +kernel

/-- Port 3 may start a frame: its link is up and its plane sends on both LANs. -/
def sending : State := fields [(Fld.PG_CTRL_ENABLE (planePage 1), 1), (Fld.PLANEn_CFG_PRP 1, 1)] (run (.ethLinkUp 3 true) up)

theorem witness_BucketsAndDepartures :
    (let h : Shaper := { present := true, rate := 8, burst := 2000 }
     0 < h.rate ∧ h.tokens ≤ h.cap) ∧
    (let s := sending.setPort 3 { q := [(7, [{ len := 100, released := 0 }])] }
     s.fatalAt = none ∧ s.pins.extest = false ∧ (s.port 3).q.get (fun _ => []) 7 = [{ len := 100, released := 0 }] ∧ ((s.drrPick 3 false 400 (s.port 3)).map (fun x => x.1)) = some 7 ∧ (up.port 3).q = [] ∧
     (run (.frameDepart 3) s).rd64 (Reg.ETHn_TX_FRAMES_LO 3) = 1) ∧
    (let s := (sending.setPort 3 { q := [(2, [{ len := 100, released := 0 }])] }).put (Fld.SCHEDn_CFG_STRICT_EN 3) 1
     s.on (Fld.SCHEDn_CFG_STRICT_EN 3) = true ∧ (∀ k, k < 2 → (s.port 3).head k = none) ∧ (run (.frameDepart 3) s).get (Fld.SCHEDn_SQk_FRAMES_COUNT 3 2) = 1) := by decide +kernel

/-- A queue of two cells that holds one claimed and one unclaimed record. -/
def queued : State := up.setQueue 3 { configured := true, maxCells := 2, items := [⟨256, 0, true⟩, ⟨1, 1, false⟩] }

theorem witness_granary :
    ¬ (0x4100 ≤ 3 ∧ 3 < 0x4140) ∧ (queued.queue 3).items = [⟨256, 0, true⟩] ++ ⟨1, 1, false⟩ :: [] ∧ (∀ x ∈ ([⟨256, 0, true⟩] : List GItem), x.claimed = true) ∧
    (run (.granaryClaim 3 false) queued).queue 3 = { queued.queue 3 with items := [⟨256, 0, true⟩, ⟨1, 1, true⟩] } ∧ ((run (.granaryReadComplete 3) queued).queue 3).items = [⟨1, 1, false⟩] ∧
    ((run (.granaryEnqueue 3 (.record 256) false) queued).queue 3).items.length = 2 ∧ ((run (.granaryEnqueue 3 (.record 512) false) queued).queue 3).items = [⟨256, 0, true⟩] ∧
    up.writeErr Reg.GRANARY_Q_SEL (BitVec.ofNat 32 0) = none ∧ completes (.granaryQSel 0 false) up = true ∧ (run (.bankqWrite 19 0 64) (atTime 1 0 up)).get (Fld.GRANARY_BANKQk_LOST_LATE 19) = 1 ∧
    ((run (.bankqWrite 19 0 65536) up).bank 19).filling.length = 1 ∧ (run (.bankqWrite 19 0 65600) up).get (Fld.GRANARY_BANKQk_LOST_FULL 19) = 1 ∧
    (let s := fields [(Fld.EVQn_CFG_ENABLE 63, 1), (Fld.EVQn_CFG_MAX_CELLS 63, 4)] up
     s.on (Fld.EVQn_CFG_ENABLE 63) = true ∧ up.on (Fld.EVQn_CFG_ENABLE 63) = false ∧ (up.evq.get (fun _ => {}) 63).entries = [] ∧ s.linked (Reg.EVQn_POP 0) = true ∧ s.inReset (Reg.EVQn_POP 0) = false ∧
     (run (.evqPop 63 false) (run (.granaryEnqueue (0x4100 + 63) (.entry 1 2 3 4) false) s)).rd (Reg.EVQn_W1 63) = 0x201) := by decide +kernel

theorem witness_AudioCommandsAnswer :
    let s := up.put Fld.AUDIO_PROG_RESULT_VALID 1
    s.get Fld.TWIN_STATUS_STATE = 0 ∧ s.on Fld.AUDIO_PROG_RESULT_VALID = true ∧ s.progBusy = false ∧ s.audio.activateAt = none ∧ s.audio.shadow = none ∧
    s.writeErr Reg.AUDIO_PROG_CMD 1 = none ∧ s.writeErr Reg.AUDIO_PROG_CMD 2 = none ∧ s.writeErr Reg.AUDIO_PROG_CMD 3 = none ∧ { waiting with audio := { waiting.audio with activateAt := none } }.audio.shadow.isSome = true ∧
    ({ s with audio := { s.audio with lastActivation := some 0 } } : State).progBusy = true ∧ (run .progActivate s).get Fld.AUDIO_PROG_RESULT_STATUS = 3 ∧
    s.writeErr (Reg.AUDIO_RPn_CMD 15) 1 = none ∧ s.writeErr (Reg.AUDIO_RPn_CMD 15) 2 = none ∧ CONF.FREEZE ((s.effRec 2 (s.get (Fld.AUDIO_RPn_SRC_CONF 15))).getD 0) = 0 ∧
    CONF.FREEZE (((having [(2, 0, record [(1, 1, 1, 1)])] s).effRec 2 0).getD 0) = 1 ∧ ((run (.recallPlay 15) (having [(2, 0, record [(1, 1, 1, 1)])] s)).player 15).playing = true ∧
    ((s.setPlayer 15 { playing := true }).player 15).playing = true ∧ (s.player 15).playing = false := by decide +kernel


/-! ### Witnesses of the statements about the Mill, Reeve, Binath and the twin -/

/-- Core 17, the bench core of cluster 1, in a state with the bench enabled. -/
def benched (m : MillCore) : State := (fields [(Fld.PWR_CLc_STATUS_STATE 1, 0), (Fld.MILLC_BENCH_SEL_ENABLE 1, 1), (Fld.MILLC_BENCH_SEL_CORE 1, 1)] up).setCore 17 m

/-- A running bench core with D1 = 0x7FFFFFFF, D2 = 1, P6 = 8 and A3 at the top of its range. -/
def core : MillCore :=
  { mode := .bench, pc := 10, n := 5, d := [(1, 0x7FFFFFFF), (2, 1)], p := [(6, 8)], chain := [(3, BitVec.ofInt 72 ((2 : Int) ^ 71 - 1))], data := Memory.writeList [] 8 [1, 2, 3, 4] }

/-- A kernel that runs in service. -/
def serving : MillCore := { core with mode := .service, act := { node := 3, budget := 100, spent := 7, ret := 90, grants := [(0, 0x20000, true)], outs := [64], len := 4 }, special := [(spRA, 90)] }

/-- A bundle of core 17 with NOP in its other slots. -/
def site17 : Site := ⟨17, false, {}⟩

theorem witness_MacSlotsWriteDRegisters :
    (benched core).core 17 = core ∧ core.mode = .bench ∧ serving.act.spent < serving.act.budget ∧ site17.rest = {} ∧
    (core.landTo 5).bundleFault 17 [] (siteMac site17 { op := .adds, dd := 3, dx := 1, dy := 2 }) = 0 ∧
    (((run (.adds site17 3 1 2) (benched core)).core 17).landTo 6).dReg 3 = 0x7FFFFFFF ∧ ((run (.adds site17 3 1 2) (benched core)).core 17).st 3 = true ∧
    (((run (.add site17 3 1 2) (benched core)).core 17).landTo 6).dReg 3 = 0x80000000 := by decide +kernel

theorem witness_MacSlotsWriteAccumulators :
    (core.landTo 5).bundleFault 17 [] (siteMac site17 { op := .mac, aa := 3, dx := 1, dy := 1 }) = 0 ∧
    (((run (.mac site17 3 1 1) (benched core)).core 17).landTo 6).chainReg 3 = BitVec.ofInt 72 ((2 : Int) ^ 71 - 1) ∧ ((run (.mac site17 3 1 1) (benched core)).core 17).st 2 = true ∧
    (((run (.awrg site17 4 1) (benched core)).core 17).landTo 7).chainReg 4 = BitVec.ofInt 72 (-(2 : Int) ^ 64) := by decide +kernel

theorem witness_AddressUnitsLoadAndStore :
    (core.landTo 5).bundleFault 17 [] (siteAu site17 { op := .ld, reg := 4, pn := 6, mode := 0, off := 0 }) = 0 ∧
    (((run (.ld site17 4 6 0 0) (benched core)).core 17).landTo 7).dReg 4 = 0x04030201 ∧ (((run (.ldh site17 4 6 0 0) (benched core)).core 17).landTo 7).dReg 4 = 0x02010000 ∧
    (((run (.st site17 1 6 3 1) (benched core)).core 17).data.read 12) = 0xFF ∧ (core.landTo 5).bundleFault 17 [] (siteAu site17 { op := .st, reg := 1, pn := 6, mode := 3, off := 1 }) = 0 := by decide +kernel

/-- The core after two further bundles, the delay slots of a transfer. -/
def afterSlots (i : Instr) (s : State) : MillCore := (run (.nop 17) (run (.nop 17) (run i s))).core 17

theorem witness_ControlSlotMovesThePc :
    core.transfers = [] ∧ core.pc < 4096 ∧ core.flight = [] ∧ serving.act.spent + 18 < serving.act.budget ∧ core.transferLegal = true ∧ (benched core).inBench 17 = true ∧
    (core.landTo 5).bundleFault 17 [] (siteCtl site17 { op := .br, imm := 100 }) = 0 ∧ (afterSlots (.br site17 100) (benched core)).pc = 110 ∧ (afterSlots (.bz site17 2 100) (benched core)).pc = 13 ∧
    (core.landTo 5).bundleFault 17 [] (siteCtl site17 { op := .loopi0, imm := 2, len := 1 }) = 0 ∧ (afterSlots (.loop0 site17 5 7) (benched core)).pc = 20 ∧
    (afterSlots (.ret site17) (benched serving)).mode = .idle ∧ (run (.halt site17) (benched core)).get (Fld.MILLC_BENCH_STATUS_CAUSE 1) = 6 ∧
    (let c := { core with special := [(spST, 0x11), (spICAUSE, 1), (spIVEC, 7)] }
     c.st 0 = true ∧ c.st 4 = true ∧ c.delay = 0 ∧ ((run (.interruptEntry 17) (benched c)).core 17).pc = 7) := by decide +kernel

/-- A kernel header (R215) with a code length. -/
def kernelHead (code : Nat) : List Byte :=
  natBytes 4 0x4B4E4C4D ++ natBytes 4 77 ++ natBytes 4 code ++ natBytes 4 64 ++ natBytes 2 5 ++ natBytes 1 1 ++ natBytes 1 1 ++ natBytes 1 1 ++ natBytes 3 0 ++ natBytes 4 1000 ++ natBytes 4 0 ++ natBytes 16 0

theorem witness_KernelsAndBenchCores :
    (core.landTo 5).bundleFault 17 [] (siteAu site17 { op := .ld, reg := 4, pn := 1, mode := 3, off := 0 }) = 0 ∧
    (let c := { core with p := [(6, 2)] }
     (c.landTo 5).bundleFault 17 [] (siteAu site17 { op := .ld, reg := 4, pn := 6 }) = 2 ∧ (run (.ld site17 4 6 0 0) (benched c)).get (Fld.MILLC_BENCH_STATUS_CAUSE 1) = 2) ∧
    (let c := { serving with act := { serving.act with spent := 100 } }
     c.act.budget ≤ c.act.spent ∧ ((run (.kernelBudgetEnd 17) (benched c)).core 17).mode = .idle) ∧
    (let s := { up with dram := up.dram.writeList 0 (kernelHead 16) }
     s.kernelReserved 0 = false ∧ (s.readKernel 0).outOfRange = false ∧ s.writeErr (Reg.MILLC_KCMD 1) 0x21 = none ∧ s.writeErr (Reg.MILLC_KCMD 1) 0x22 = none ∧ s.on (Fld.MILLC_KRESULT_VALID 1) = true ∧
     ((run (.kernelLoadDone 1) { s with kernelCmd := [(1, some ⟨1, 2, 0, { id := 77 }⟩)] }).kernel 1 2).id = 77) ∧
    (let s := (benched core).put (Fld.PG_STATUS_SERVICE (millPage 1)) 1
     s.writeErr (Reg.MILLC_BENCH_SEL 1) 0x80000001 = none ∧ s.writeErr (Reg.MILLC_BENCH_CMD 1) 1 = none ∧ s.writeErr (Reg.MILLC_BENCH_CMD 1) 3 = none ∧ s.get (Fld.MILLC_BENCH_STATUS_STATE 1) ≠ 1 ∧
     (run (.benchStart 1) s).get (Fld.MILLC_BENCH_STATUS_STATE 1) = 1 ∧ (run (.benchHalt 1) (run (.benchStart 1) s)).get (Fld.MILLC_BENCH_STATUS_STATE 1) = 2 ∧
     s.linked (millPage 1) = true ∧ bit (s.rd (Reg.MILLC_WIN 1)) 1 = false ∧ ((run (.millSlotWrite 17 0x1FFFC 5) s).core 17).data.read 0x1FFFC = 5) := by decide +kernel

/-- A task of a flow, of no media work. -/
def task (f : Nat) (st : SlotState) : Task := { typ := .decodePic, level := 4, port := 2, flow := f, key := f, start := 0, hard := 1000000, leases := [(f, true)], work := .none, state := st, fseq := 1, dispatchAt := 5 }

/-- Tasks in slots and engines in a state with every engine in service. -/
def tasked (l : List (Nat × Task)) (en : List (Nat × Engine)) : State :=
  { (fields ([0, 1].map (fun e => (Fld.PG_STATUS_SERVICE (enginePage e), 0))) up) with reeve := { slots := l.map (fun p => (p.1, some p.2)), engines := en } }

/-- A running task on engine 0. -/
def onZero : State := tasked [(0, { task 5 .running with engine := 0 })] [(0, { slot := some 0 })]

theorem witness_ReeveRunsTasksInFlowOrder :
    up.portMay 2 = true ∧ (run (.taskSubmit 0 2 5 true 0) up).tasks.length = 1 ∧ ((run (.taskSubmit 0 2 5 false 0) { up with reeve := { stalled := [(2, [task 9 .waiting])] } }).reeve.stalled.get (fun _ => []) 2).length = 2 ∧
    Sparse.wf (fun _ => none) onZero.reeve.slots = true ∧ (tasked [(0, task 5 .waiting)] []).mayReady (task 5 .waiting) = true ∧
    (((run .taskDispatch (tasked [(0, task 5 .waiting)] [])).task 0).map Task.state) = some .running ∧ (onZero.eng 0).slot = some 0 ∧ (onZero.eng 0).fenced = none ∧ (run (.taskComplete 0 {}) onZero).task 0 = none ∧
    (let s := tasked [(0, { task 5 .running with engine := 0, fseq := 2, order := 1 }), (1, { task 5 .running with engine := 1 })] [(0, { slot := some 0 }), (1, { slot := some 1 })]
     (s.flowHead 5).map (·.1) = some 1 ∧ ((run (.taskComplete 0 {}) s).task 0).map Task.state = some .held) ∧
    (let s := tasked [(0, { task 5 .cancelled with engine := 0, cancelledRun := true })] [(0, { slot := some 0 })]
     (run (.taskCancelStop 0) s).get Fld.REEVE_OUTCOMES_CANCELLED = 1) := by decide +kernel

theorem witness_EngineFaultsFenceAndRetire :
    0 ∈ allEngines ∧ ((run (.engineFault 0 1) onZero).eng 0).resetting = true ∧
    (let s := tasked [] [(0, { faults := [1, 2] })]
     (s.eng 0).resetting = false ∧ ((run (.engineFault 0 1) s).eng 0).retired = true) ∧
    ((run (.watchdogExpire 0) onZero).eng 0).fenced = some 0 ∧ ((run (.engineResetDone 0) (tasked [] [(0, { resetting := true })])).eng 0).resetting = false ∧
    (tasked [] []).engineIdle 0 = true ∧ (run (.katChunk 0 3 true true) (tasked [] [])).get Fld.FAULT_TEST_RUNS = 1 ∧ ((run (.testOverdue 0) (tasked [] [])).eng 0).overdue = true ∧
    (let s := tasked [(2, { task 5 .waiting with excl := allEngines })] []
     s.hasEngine { task 5 .waiting with excl := allEngines } = false ∧ (run (.hardLimitExpire 2 none) s).get Fld.REEVE_OUTCOMES_FAILED = 1) ∧
    ((run (.hardLimitExpire 0 none) onZero).task 0).map Task.late = some true := by decide +kernel

/-- Link n in a state, with a role, of a fabric. -/
def linked (n st role : Nat) (x : Link) : State :=
  (fields [(Fld.BINATHn_STATE_STATE n, st), (Fld.BINATHn_CFG_ROLE n, role), (Fld.BINATH0_FABRIC_ENABLE, 1), (Fld.BINATH0_FABRIC_POS, 3), (Fld.BINATH0_FABRIC_FABRIC_ID, 9), (Fld.BINATH0_FABRIC_BUDGET, 8)] (atTime 1 0 up)).setLink n x

/-- A peer's IDENT. -/
def peer (fabric pos role : Nat) : Ident := ⟨fabric, pos, role, false, false, 0, 0⟩

theorem witness_LinksTrainAndClaim :
    (linked 1 1 1 {}).linkState 1 = 1 ∧ (run (.binathLaneLock 1) (linked 1 1 1 {})).linkState 1 = 2 ∧ (run (.binathTrainTimeout 1) (linked 1 1 1 {})).get (Fld.BINATHn_ERR_TRAIN_FAIL 1) = 1 ∧
    identMismatch ((linked 1 2 1 {}).ownIdent 1) (peer 8 4 2) = some 1 ∧ identMismatch ((linked 1 2 1 {}).ownIdent 1) (peer 9 3 2) = some 2 ∧ identMismatch ((linked 1 2 1 {}).ownIdent 1) (peer 9 4 2) = none ∧
    (run (.binathIdentRx 1 (peer 8 4 2)) (linked 1 2 1 {})).linkState 1 = 4 ∧ (run (.binathIdentRx 1 (peer 9 4 2)) (linked 1 2 1 {})).linkState 1 = 3 ∧
    (run (.binathFlitTimeout 1) (linked 1 3 1 {})).get (Fld.BINATHn_STATE_DOWN_COUNT 1) = 1 ∧ (run (.binathLockLost 1 3) (linked 1 5 2 {})).linkState 1 = 1 ∧
    (((run (.topoSend 1) (linked 1 5 2 {})).link 1).queues.headD []).length = 1 ∧ (run (.topoRx 1 { height := 3 }) (linked 1 3 1 {})).get (Fld.BINATHn_STATE_PEER_HEIGHT 1) = 3 ∧
    (linked 1 3 4 {}).unrooted = true ∧ (linked 1 3 4 {}).claimLink = some 1 ∧ (run .claimRetry (linked 1 3 4 {})).fab.claim = some (1, 1002, false) ∧
    (let s := { linked 1 3 4 {} with fab := { backSince := some 5, uplink := some 1 } }
     (run .fabricRevertHoldExpire s).fab.revert.isSome = true) := by decide +kernel

/-- A flit that waits for its acknowledgement, and a message that waits. -/
def sentFlit (seq : Nat) : TxFlit := ⟨1, 0, true, true, seq, 200, 0, none⟩
def message (kind len : Nat) : TxMsg := ⟨kind, 0, len, false, .timeReq⟩

/-- A whole flit of VC0 with SEQ 5: its header, 240 bytes of zero and its CRC. -/
def flitHead : List Byte := [0x81, 5, 0, 0, 0, 240, 0, 0]
def zeros30 : List Byte := List.replicate 30 0
def flitBody : List Byte := flitHead ++ (zeros30 ++ (zeros30 ++ (zeros30 ++ (zeros30 ++ (zeros30 ++ (zeros30 ++ (zeros30 ++ zeros30)))))))
def flit5 (msg : Option LinkMsg) : FlitRx := ⟨3, false, flitBody ++ (natBytes 8 0x06bbd8b45f4208cd).reverse, msg⟩

/-- The CRC of the flit, 30 bytes at a time. -/
theorem crc_flitBody : crc64 flitBody = 0x06bbd8b45f4208cd#64 := by
  have h0 : flitHead.foldl crcByte 0#64 = 0x46d67d274b39aab1#64 := by decide +kernel
  have h1 : zeros30.foldl crcByte 0x46d67d274b39aab1#64 = 0x278e96b35f30aba5#64 := by decide +kernel
  have h2 : zeros30.foldl crcByte 0x278e96b35f30aba5#64 = 0x683bb266ace96482#64 := by decide +kernel
  have h3 : zeros30.foldl crcByte 0x683bb266ace96482#64 = 0xed6492231e10b301#64 := by decide +kernel
  have h4 : zeros30.foldl crcByte 0xed6492231e10b301#64 = 0x25714c3f4cfffe7d#64 := by decide +kernel
  have h5 : zeros30.foldl crcByte 0x25714c3f4cfffe7d#64 = 0xf93493b264974336#64 := by decide +kernel
  have h6 : zeros30.foldl crcByte 0xf93493b264974336#64 = 0x3cfaf439ff1a8c94#64 := by decide +kernel
  have h7 : zeros30.foldl crcByte 0x3cfaf439ff1a8c94#64 = 0x41419faecd3da0ba#64 := by decide +kernel
  have h8 : zeros30.foldl crcByte 0x41419faecd3da0ba#64 = 0x06bbd8b45f4208cd#64 := by decide +kernel
  simp only [crc64, flitBody, List.foldl_append, h0, h1, h2, h3, h4, h5, h6, h7, h8]

theorem test_a_whole_flit_is_good : flitBad (flit5 none) = false := by
  have h : (flit5 none).bytes.take 248 = flitBody := by decide +kernel
  unfold flitBad
  rw [h, crc_flitBody]
  decide +kernel

theorem witness_FlitsArriveInOrder :
    (linked 1 3 1 {}).fatalAt = none ∧ (linked 1 3 1 {}).pins.extest = false ∧
    (let x : Link := { replay := [sentFlit 4090, sentFlit 4091], txSeq := 4092, resend := some 1 }
     x.replay[1]? = some (sentFlit 4091) ∧ (((run (.binathFlitTx 1) (linked 1 3 1 x)).link 1).last.map SentFlit.flit) = some (sentFlit 4091) ∧
     (x.acked 4090 0).replay.findIdx? (fun f => decide (f.seq = 4091)) = some 0 ∧ (x.acked 4090 0).stalls < 7 ∧ x.stalls = 0 ∧ ((run (.binathReplayTimeout 1) (linked 1 3 1 x)).link 1).resend = some 0 ∧
     ((run (.binathNakRx 1 4091) (linked 1 3 1 x)).link 1).resend.isSome = true) ∧
    (run (.binathReplayTimeout 1) (linked 1 3 1 { replay := [sentFlit 7], stalls := 7 })).linkState 1 = 1 ∧
    (let x : Link := { queues := [[], [message 1 300], [message 1 100], [message 1 240]], txSeq := 4095 }
     x.credits.length = 4 ∧ ((run (.binathFlitTx 1) (linked 1 3 1 x)).link 1).txSeq = 0) ∧
    (((run (.binathFlitTx 1) (linked 1 3 1 { queues := [[message 3 200], [], [], []] })).link 1).queues) = [[], [], [], []] ∧
    (((run (.binathFlitTx 1) (linked 1 3 1 { nak := some 7 })).link 1).nak) = none ∧ (List.replicate 256 (sentFlit 0)).length = 256 ∧
    flitBad { flit5 none with blockBad := true } = true ∧ flitField (flit5 none).bytes 0 0 4 = 1 ∧ flitField (flit5 none).bytes 1 0 12 = 5 ∧ flitField (flit5 none).bytes 0 7 1 = 1 ∧
    ((run (.binathFlitRx 1 { flit5 none with blockBad := true }) (linked 1 3 1 { rxSeq := 5 })).link 1).nak = some 5 ∧
    (linked 1 3 1 {}).timeInitiator 1 = true ∧ (((run (.timeExchangeStart 1) (linked 1 3 1 {})).link 1).queues.headD []).length = 1 ∧ (((run (.timeReqRx 1) (linked 1 3 1 {})).link 1).queues.headD []).length = 1 ∧
    ((linked 1 3 1 { t1 := some 0 }).link 1).t1 = some 0 := by decide +kernel

/-- A twin in a state, with link 3 up. -/
def twinned (st : Nat) (senior : Bool) (t : Twin) : State :=
  { fields [(Fld.TWIN_STATUS_STATE, st), (Fld.TWIN_STATUS_PARTNER, (t.partner.map (·.state)).getD 0), (Fld.GLOBAL_STRAPS_TWIN_SENIOR, b2n senior), (Fld.GLOBAL_STRAPS_TWIN_EN, 1)] (linked 3 3 3 {}) with twin := t }

/-- A path that is up, and a heartbeat. -/
def goodPath : HbPath := { up := true, good := 9 }
def beat (st : Nat) : Heartbeat := ⟨st, true, 15, 7, 3⟩

theorem witness_TwinStatesFollowTheTable :
    (twinned 2 true {}).muted = false ∧ (run .heartbeatSend (twinned 2 true {})).twin.sentHb = 1 ∧ (beat 2).state < 8 ∧ (run (.heartbeatRx 2 (some (beat 2))) (twinned 1 true { link := goodPath })).partnerState = 2 ∧ (twinned 1 true { link := goodPath }).twin.link.up = true ∧
    (run .hbIntervalEnd (twinned 3 false { link := { goodPath with missed := 2 } })).twinState = 6 ∧ (run .hbIntervalEnd (twinned 3 false { link := { goodPath with missed := 2 }, pins := goodPath })).twinState = 4 ∧
    (run .pairWaitExpire (twinned 1 true {})).twinState = 6 ∧ (run .stall (twinned 3 false { link := goodPath })).twinState = 4 ∧ (run .resyncCopyTimeout (twinned 5 false {})).twinState = 4 ∧
    (twinned 4 false { failedSync := true, link := goodPath, partner := some (beat 2) }).partnerState = 2 ∧ (run .resyncRetry (twinned 4 false { failedSync := true })).twin.failedSync = false ∧
    (let s := twinned 5 false { copied := true, common := 1000, link := goodPath }
     (s.wr64 Reg.TWIN_EXEC_LO 1000).ticksBehind = 0 ∧ (run .catchupDone (s.wr64 Reg.TWIN_EXEC_LO 1000)).twinState = 3) ∧
    (run .matchStoreExpire (twinned 3 false { store := [⟨2, packet, 5⟩] })).twin.store = [] ∧
    (let s := atTime 100000 0 (twinned 2 false { partner := some (beat 3), partnerJunior := some 0 })
     s.twinState = 2 ∧ s.strapSenior = false ∧ s.partnerState = 3 ∧ s.get Fld.TWIN_WAIT_REVERT_HOLD * 1000000000 ≤ s.now ∧ s.writeErr Reg.TWIN_CMD 1 = none ∧ s.writeErr Reg.TWIN_CMD 2 = none ∧
     (run .twinCmdRevert s).twin.swapAt = some (s.ltick + 2) ∧ (run .twinRevertHoldExpire (s.put Fld.TWIN_CFG_REVERT_AUTO 1)).twin.swapAt = some (s.ltick + 2)) ∧
    (run .twinCmdResync (twinned 3 false {})).twinState = 4 := by decide +kernel

/-- A tick mark. -/
def tickMark (t : Nat) : LedgerEntry := .tick false 15 15 t []

theorem witness_JuniorFollowsTheLedger :
    (let s := twinned 3 false { blocks := [(1, [tickMark 1])] }
     s.blockOf 1 = [tickMark 1] ∧ s.entryHere [] [] (tickMark 1) = true ∧ s.rd64 Reg.TWIN_EXEC_LO = 0) ∧
    (let s := (having [(1, 2, 0)] (twinned 3 false { digests := [(0, [(0, 5)])], sums := [⟨0, 0, 9⟩, ⟨0, 4098, 9⟩] })).put Fld.TWIN_CFG_WIDE 4
     s.twin.syncs = [] ∧ digestDiff (s.twin.digestsOf 0 false) (s.twin.digests.get (fun _ => []) 0) = [0] ∧ s.groupOf 2 = 0 ∧ (run (.digestCompare 0 [(2, 6)]) s).get Fld.TWIN_MISMATCH_LEGS = 1 ∧
     ((run (.digestCompare 0 [(2, 6)]) s).leg 2).silenced = true) ∧
    (let s := twinned 3 false { syncs := [⟨2, 0, 99, true⟩] }
     (run (.digestCompare 1 []) s).twin.syncs = [] ∧ (run (.digestCompare 1 []) s).get Fld.TWIN_RESYNCS_LEG = 1) ∧
    (twinned 5 false {}).twin.copied = false ∧
    (run (.resyncCopyDone ⟨5, up.gate, [], [], [], [], [], [], [], [], [], [], up.audio, [], [], [], [7, 9], [], [], [(Reg.TWIN_WAIT, 5)]⟩) (twinned 5 false {})).rd64 Reg.TWIN_EXEC_LO = 4 := by decide +kernel

/-! ### Witnesses of the statements about DRAM, security, the host, power, service and boot -/

/-- A state with every channel READY and 64 bytes in line 0. -/
def ready : State :=
  { fields ((List.range 8).map (fun n => (Fld.DDRCn_STATUS_STATE n, 2))) (atTime 1 0 up) with dram := Memory.writeList [] 0 ((List.range 64).map (fun i => BitVec.ofNat 8 (i + 1))) }

/-- Symbols in error in both codewords of a line. -/
def errors (l : List Nat) : List (Nat × Nat × Byte) := l.flatMap (fun p => [(0, p, 1), (1, p, 0x80)])

theorem witness_DramKeepsWhatIsWritten :
    ready.fenced 3 1 = false ∧ ({ ready with weir := { ready.weir with fences := [⟨3, some 1, false, 0, 0⟩] } }).fenced 3 1 = true ∧ ready.geom = 0 ∧ ready.mark (dramChannel 0) 0 0 = none ∧
    ((run (.dramRead 0 3 1 (errors [0, 4, 8, 12]) .other) ready).dramRead.map (fun x => (x.1, x.2.take 2))) = some (true, [1, 2]) ∧ (run (.dramRead 0 3 1 (errors [0, 4, 8, 12, 33]) .other) ready).dramRead = some (false, []) ∧
    (run (.dramRead 0 3 1 [] .other) { ready with poisoned := [0] }).get (Fld.DDRCn_UE_STORED (dramChannel 0)) = 1 ∧ (run (.dramRead 137438953472 3 1 [] .other) ready).dramRead = some (false, []) ∧
    (run (.dramWrite 137438953464 3 1 [7, 8] []) ready).dram.read 137438953465 = 8 ∧ (run (.dramWrite 0 3 1 [7] (errors [0, 4, 8, 12, 33])) ready).poisoned = [0] ∧
    (run (.dramWrite 0 3 1 (List.replicate 64 9) []) { ready with poisoned := [0] }).poisoned = [] ∧
    (let s := ready.setChan 2 { ready.chan 2 with scrub := 137438953472 / 512 - 1 }
     ((run (.scrubRead 2 []) s).chan 2).scrub = 0 ∧ (run (.scrubRead 2 []) s).get (Fld.DDRCn_SCRUB_PASSES 2) = 1) := by decide +kernel

/-- A fence of engine 0, and the engine's task that waits for it to empty. -/
def fencing (a : Nat) : State :=
  { ready with
    weir := { ready.weir with fences := [⟨(engineIdent 0).1, some (engineIdent 0).2, false, 0, 0⟩] },
    reeve := { slots := [(4, some { task 5 .running with engine := 0, attempt := a })], engines := [(0, { fenced := some 4, cause := some 1 })] } }

theorem witness_DramRefreshWeirAndLog :
    (run (.refreshDue 2 0 true) ready).get (Fld.DDRCn_REFRESH_OWED0 2) = 1 ∧ (run (.refreshDue 2 0 true) (ready.put (Fld.DDRCn_REFRESH_OWED0 2) 3)).get (Fld.DDRCn_REFRESH_OWED0 2) = 3 ∧
    ((run (.zqCalLatch 7 0) (run (.zqCalStart 7 0) ready)).chan 7).zq[0]? = some false ∧ ready.geom ≠ 1 ∧ (run (.refreshRatePoll 2 [2] true) ready).on ⟨Reg.DDRCn_STATUS 2, 10, 1⟩ = true ∧
    (run (.selfRefreshExit 2) (run .selfRefreshEnter ready)).get (Fld.DDRCn_STATUS_STATE 2) = 2 ∧
    (run .weirWindow { ready with weir := { ready.weir with lines := [(33, 7), (65, 70000)] } }).get (Fld.WEIR_PORTp_STAT_LINES 1) = 65535 ∧
    (run (.weirFence 16 none) ready).get Fld.WEIR_FENCES_COUNT = 1 ∧ identEngine (engineIdent 0).1 (engineIdent 0).2 = some 0 ∧ ((fencing 2).eng 0).fenced = some 4 ∧
    ((run (.fenceEmpty (engineIdent 0).1 (some (engineIdent 0).2) 0) (fencing 2)).task 4).map Task.attempt = some 3 ∧ (fencing 2).fatalAt = none ∧
    (run (.fenceTimeout (engineIdent 0).1 (some (engineIdent 0).2)) (fencing 2)).get Fld.FAULT_FATAL_CAUSE = 3 ∧
    (let s := ready.setChan 2 { ready.chan 2 with log := { entries := [2 ^ 511 + 3], lostFlag := true } }
     s.linked (Reg.DDRCn_LOG_POP 2) = true ∧ s.inReset (Reg.DDRCn_LOG_POP 2) = false ∧ (run (.dramLogPop 2) s).readData = 0xC0000000 ∧ (run (.dramLogPop 2) s).rd (Reg.DDRCn_LOGWw 2 15) = 0x80000000) := by decide +kernel

/-- A key slot of HOST with an AES-256 key. -/
def keySlot (kind : Nat) (kek : Bool) : KeySlot := ⟨kind, kek, 0, 5, natBytes 32 0x1234567⟩

/-- A key-store command in progress with its staged record. -/
def keyed (op : Nat) (stage : List Byte) (keys : Sparse KeyCtx) : State := { up with sec := { up.sec with keyCmd := some (op, stage), slots := [(20, some (keySlot 2 true))] }, keys := keys }

/-- An image of a security version. -/
def image (svn : Nat) : FwImage := ⟨true, 7, svn, 4096, 1, 9, true, true⟩

theorem witness_KeysAreLoadedErasedAndZeroised :
    up.writeErr Reg.KEYSTORE_CMD 0x7FFF1 = none ∧ up.on Fld.KEYSTORE_RESULT_VALID = true ∧ (run (.keystoreErase 3) up).sec.keyCmd.isSome = true ∧ up.twinState = 0 ∧ up.latched = false ∧
    (keyed (3 * 16 + 3) [] [(3, ⟨1, 0, 1, 5⟩)]).keyCtx 3 = ⟨1, 0, 1, 5⟩ ∧ ((run .keystoreCmdDone (keyed (3 * 16 + 3) [] [(3, ⟨1, 0, 1, 5⟩)])).keyCtx 3).state = 0 ∧
    keyRecordErr (bytesNat (natBytes 64 257)) = none ∧ (keyRecordErr 9).isSome = true ∧ (run .keystoreCmdDone (keyed (40000 * 16 + 3) [] [])).get Fld.KEYSTORE_RESULT_STATUS = 1 ∧
    (keyed (20 * 2 ^ 24 + 3 * 16 + 2) [] []).slot 20 = some (keySlot 2 true) ∧
    up.writeErr Reg.CIPHER_SLOT_CMD (BitVec.ofNat 32 (16 * 2 ^ 16 + 2 * 2 ^ 8 + 1)) = none ∧ ((run (.cipherSlotLoad 16 0 2 false) up).slot 16).map KeySlot.kind = some 2 ∧
    up.writeErr Reg.CIPHER_SLOT_CMD (BitVec.ofNat 32 (20 * 2 ^ 24 + 255 * 2 ^ 16 + 2 * 2 ^ 8 + 2)) = none ∧ up.writeErr Reg.CIPHER_SLOT_CMD (BitVec.ofNat 32 (20 * 2 ^ 16 + 2 ^ 8 + 3)) = none ∧
    (run (.cipherSlotErase 20) (keyed 0 [] [])).slot 20 = none ∧ up.boot.held = false ∧ bit (up.get Fld.ALARM_STATUS_SOURCE) 6 = false ∧ (run (.alarmTrip 6) (keyed 0 [] [])).slot 20 = none ∧
    up.writeErr Reg.ALARM_CMD 1 = none ∧ up.writeErr Reg.ALARM_SVN_CMD 1 = none ∧
    (let s := fields [(Fld.ALARM_BOOT_SVN, 3), (Fld.ALARM_BOOT_COUNTER, 1)] { up with flash := { up.flash with imageA := some (image 3), imageB := some (image 5) } }
     s.runningImage = some (image 3) ∧ s.otherImage = some (image 5) ∧ s.imageValid (image 5) = true ∧ (run .svnAdvance s).get Fld.ALARM_BOOT_COUNTER = 3) ∧
    (run .drbgReseed up).get Fld.ALARM_HEALTH_RESEEDS = 1 := by decide +kernel

/-- A job of HOST that runs, or waits suspended. -/
def job (alg : Nat) : CipherJob := { user := 0, alg := alg, slot := 20, dst := 0x1000, len := 64, blocks := 4, cycles := 10, at_ := 0, input := List.replicate 64 5, key := natBytes 32 5 }

/-- The cipher unit in a state, with a lock owner. -/
def cipher (x : Sec) (owner : Nat) : State := { (fields [(Fld.CIPHER_LOCK_OWNER, owner), (Fld.CIPHER_JOB_LEN_LEN, 64)] up).wr64 Reg.CIPHER_JOB_DST_LO 0x1000 with sec := x }

theorem witness_CipherJobsRunUnderTheLock :
    up.lockOwner = 7 ∧ (run (.cipherLockRequest 3 true) up).sec.requests = [⟨3, true, 0⟩] ∧ up.writeErr Reg.CIPHER_LOCK 1 = none ∧ up.writeErr Reg.CIPHER_LOCK 0 = none ∧
    (run .cipherLockGrant (run (.cipherLockRequest 0 false) up)).lockOwner = 0 ∧ (run (.cipherLockRelease 0) (cipher {} 0)).lockOwner = 7 ∧ (run (.cipherLockRelease 0) (cipher { running := some (job 3) } 0)).sec.releaseDue = true ∧
    (let s := cipher { requests := [⟨2, false, 5⟩, ⟨3, true, 7⟩], suspended := some (job 3) } 7
     s.sec.requests.find? (fun r => r.urgent) = some ⟨3, true, 7⟩ ∧ (run .cipherLockGrant s).lockOwner = 3 ∧ (run .cipherLockGrant { s with sec := { s.sec with requests := [] } }).lockOwner = 0) ∧
    (let s := cipher { slots := [(20, some (keySlot 2 false))] } 0
     s.writeErr Reg.CIPHER_JOB_CMD (BitVec.ofNat 32 (20 * 256 + 3 * 16 + 1)) = none ∧ s.jobErr 3 20 = none ∧ s.jobErr 11 0 = none ∧ (run (.cipherCtrEncrypt 20) s).sec.running.isSome = true ∧
     ((run (.cipherCtrEncrypt 20) s).slot 20).map KeySlot.count = some 6) ∧
    (run .cipherJobDone (cipher { running := some { job 3 with stopped := true } } 0)).get Fld.CIPHER_RESULT_STATUS = 9 ∧
    (let j := { job 2 with zeroing := some 14, ended := 3 }
     (cipher { running := some j } 0).sec.running = some j ∧ (run .cipherTagZeroised (cipher { running := some j } 0)).get Fld.CIPHER_RESULT_STATUS = 14) ∧
    (let s := cipher { running := some (job 3), requests := [⟨3, true, 15⟩] } 0
     (Nat.max 15 0 - 0 + 10 - 1) / 10 = 2 ∧ s.sec.ownerUrgent = false ∧ s.sec.suspended = none) ∧
    (run .cipherJobResume (cipher { suspended := some (job 3) } 7)).sec.suspended = none := by decide +kernel

/-- DMA channel 5 with a ring of 16 descriptors, in a state, with a HEAD and a TAIL. -/
def channel (st head tail : Nat) (x : DmaChan) : State :=
  (fields [(Fld.HOSTIF_LINK_UP, 1), (Fld.DMA_CHc_STATUS_STATE 5, st), (Fld.DMA_CHc_HEAD_HEAD 5, head), (Fld.DMA_CHc_TAIL_TAIL 5, tail), (Fld.DMA_CHc_CTRL_SIZE 5, 4), (Fld.DMA_CHc_CTRL_SHARE 5, 4)] ready).setDma 5 x

/-- A descriptor from the host to the device, and a burst of it. -/
def descr (i : Nat) : DmaDesc := ⟨i, 0x2000, 0x8010, 1000, 0, true, false, false, 0⟩
def burst (j off len : Nat) (st : BurstState) : DmaBurst := ⟨j, off, len, st, []⟩

theorem witness_DmaChannelsFollowTheirStates :
    (channel 0 0 0 {}).writeErr (Reg.DMA_CHc_CTRL 5) (putBits ((channel 0 0 0 {}).rd (Reg.DMA_CHc_CTRL 5)) 0 1 1) = none ∧ (run (.dmaEnable 5) (channel 0 3 3 {})).dmaState 5 = 1 ∧ (run (.dmaDisable 5) (channel 3 3 3 {})).dmaState 5 = 0 ∧
    (channel 1 3 3 {}).writeErr (Reg.DMA_CHc_TAIL 5) 15 = none ∧ (channel 1 3 3 {}).writeErr (Reg.DMA_CHc_TAIL 5) 16 = none ∧ (channel 1 3 3 {}).dmaSize 5 = 16 ∧ (run (.dmaTailWrite 5 15) (channel 1 3 3 {})).dmaState 5 = 2 ∧
    (channel 3 3 5 {}).writeErr (Reg.DMA_CHc_CMD 5) 3 = none ∧ (run (.dmaRun 5) (channel 3 3 5 {})).dmaState 5 = 2 ∧ ((run (.dmaAbort 5) (channel 2 3 5 {})).dmaCh 5).abort = true ∧
    (run (.dmaResume 5) (channel 4 3 5 {})).dmaState 5 = 2 ∧ (run (.dmaAbandon 5) (channel 4 1 5 { fetched := [descr 1] })).dmaState 5 = 3 ∧ (channel 2 1 5 {}).dmaReady 5 = 4 ∧
    ((run (.dmaDescriptorFetch 5) (channel 2 1 5 {})).dmaCh 5).fetched.length = 1 ∧
    (let s := channel 2 1 5 { fetched := [descr 1, descr 2] }
     ((run (.dmaBurstStart 5) s).dmaCh 5).bursts.map DmaBurst.len = [512] ∧ ((s.dmaCh 5).bursts.find? (fun b => decide (b.st = .failed))).isNone = true) ∧
    (let s := channel 2 1 5 { fetched := [descr 1], bursts := [burst 0 0 496 .done, burst 1 496 504 .flight], next := 1000 }
     ((s.dmaCh 5).bursts.find? (fun b => decide (b.j = 1) && decide (b.st = .flight))) = some (burst 1 496 504 .flight) ∧ (run (.dmaBurstComplete 5 1) s).rd64 (Reg.DMA_CHc_BYTES_LO 5) = 504 ∧
     (run (.dmaBusError 5 1 3) s).dmaState 5 = 4 ∧ (run (.dmaBusError 5 1 3) s).get (Fld.DMA_CHc_FAIL_CAUSE 5) = 3 ∧ ((s.dmaCh 5).bursts.find? (fun b => decide (b.st = .flight) && decide (b.off + b.len = 1000))).isSome = true ∧
     (run (.dmaErrAtEnd 5 3) s).get (Fld.DMA_CHc_STATUS_OUTCOME 5) = 4 ∧ (run (.dmaDescriptorComplete 5) (run (.dmaBurstComplete 5 1) s)).dmaHead 5 = 2) ∧
    (run (.dmaDescriptorComplete 5) (channel 2 1 5 { fetched := [{ descr 1 with bad := 4 }] })).get (Fld.DMA_CHc_STATUS_OUTCOME 5) = 1 ∧
    (run (.dmaDescriptorComplete 5) (channel 2 1 5 { fetched := [descr 1], abort := true })).get (Fld.DMA_CHc_STATUS_OUTCOME 5) = 2 ∧
    (run (.dmaDescriptorComplete 5) (channel 2 1 5 { fetched := [descr 1], bursts := [burst 0 0 512 .poisoned] })).get (Fld.DMA_CHc_STATUS_OUTCOME 5) = 5 := by decide +kernel

/-- After boot step 5, with the window at a base. -/
def windowed (base : Nat) : State := { ready.put Fld.HOSTIF_WIN_BASE base with boot := { ready.boot with trained := true } }

theorem witness_HostWindowLinkAndCrossings :
    ready.boot.trained = false ∧ (run (.bar2Read 62 2) (windowed 0)).bar2 = some ([63, 64], false) ∧ (run (.bar2Read 0 1) (windowed 128)).bar2 = some ([255], true) ∧
    (run (.bar2Read 0 1) { windowed 0 with poisoned := [0] }).get Fld.HOSTIF_BAR2_ERR_POISON = 1 ∧ (run (.bar2Write 63 [9]) (windowed 0)).dram.read 63 = 9 ∧
    ((windowed 0).put Fld.GLOBAL_MEDIA_SIZE 16).inMedia 63 1 = true ∧
    ({ ready with msix := { pendingBit := [(2047, true)] } }.msix.pendingBit.get (fun _ => false) 2047) = true ∧ (run (.msixVectorUnmask 2047 true false) { ready with msix := { pendingBit := [(2047, true)] } }).msix.sent = [(2047, 1)] ∧
    ready.boot.perst = false ∧ (run (.pcieLinkUp 8 5) ready).get Fld.HOSTIF_LINK_WIDTH = 8 ∧ (run .pcieLinkDown (channel 2 1 5 {})).dmaState 5 = 4 ∧ (run .functionLevelReset (channel 2 1 5 {})).dmaState 5 = 0 ∧
    ((run (.pulseCrossingIssue 27) ready).crossing 27).outstanding = 1 ∧ ((run (.pulseCrossingIssue 27) (ready.setCrossing 27 { outstanding := 1, counter := 254 })).crossing 27).counter = 255 ∧
    ((run (.pulseCrossingIssue 27) (ready.setCrossing 27 { outstanding := 1, counter := 255 })).rd Reg.CLK_XOVF).getLsbD 27 = true ∧
    ((run (.pulseCrossingAck 27 true) (ready.setCrossing 27 { outstanding := 3, counter := 4 })).crossing 27) = { delivered := 3, outstanding := 5 } ∧
    ((run (.islandResync 27) (run (.islandReset 27 9) ready)).rd Reg.CLK_LINKED).getLsbD 27 = true := by decide +kernel

/-- Every domain up, every cluster in RUN at OP 3. -/
def powered : State :=
  fields ((List.range 14).map (fun n => (Fld.PWR_DOMd_STATUS_STATE n, 0)) ++ (List.range 8).map (fun n => (Fld.PWR_CLc_STATUS_STATE n, 0)) ++ (List.range 8).map (fun n => (Fld.PWR_CLc_STATUS_OP n, 3))) ready

/-- Cluster 2 changing or waking. -/
def changing (x : PwrDom) : State := powered.setDom 6 x

/-- The device in a device state with a target. -/
def deviceIn (st target : Nat) : State := fields [(Fld.PWR_STATE_STATE, st), (Fld.PWR_STATE_TARGET, target)] powered

theorem witness_PowerFollowsItsStates :
    powered.devState = 0 ∧ powered.get Fld.PWR_GOV_CAP = 0 ∧ powered.get (Fld.PWR_CLc_CTRL_CEIL 2) < 6 ∧ (powered.dom 6).phase = .none ∧ (run (.governorDecide [3, 3, 5] 0) powered).clState 2 = 5 ∧
    ((run (.governorDecide [3, 3, 5] 0) powered).dom 6).phase = .write ∧ ((run (.governorDecide [3, 3, 1] 0) powered).dom 6).phase = .lock ∧
    ((run (.avsVoltageWrite 2) (changing { phase := .write, from_ := 2, to_ := 4 })).dom 6).phase = .settle ∧ ((run (.avsStatusPoll 2 true) (changing { phase := .settle, from_ := 2, to_ := 4 })).dom 6).phase = .lock ∧
    (run (.avsSettleTimeout 2) (changing { phase := .settle, from_ := 2, to_ := 4 })).get (Fld.PWR_CLc_STATUS_RETRIES 2) = 1 ∧
    (run (.avsSettleTimeout 2) (changing { phase := .settle, from_ := 2, to_ := 4, fails := 3 })).get (Fld.PWR_CLc_STATUS_CEIL_EFF 2) = 2 ∧
    ((run (.pllLock 6) (changing { phase := .lock, from_ := 4, to_ := 2 })).dom 6).phase = .lateWrite ∧ (run (.pllLock 6) (changing { phase := .lock, from_ := 2, to_ := 4 })).get (Fld.PWR_CLc_STATUS_OP 2) = 4 ∧
    (run (.pllLockTimeout 6) (changing { phase := .lock, from_ := 2, to_ := 4, fails := 3 })).get (Fld.PWR_CLc_STATUS_OP 2) = 0 ∧
    (run (.avsSettleTimeout 2) (changing { phase := .settle, wake := true, fails := 3 })).clState 2 = 3 ∧ (run (.pllLockTimeout 3) (powered.setDom 3 { phase := .lock, wake := true, fails := 3 })).get Fld.FAULT_FATAL_CAUSE = 4 ∧
    powered.writeErr Reg.PWR_DOM_CMD (BitVec.ofNat 32 (13 * 16 + 1)) = none ∧ powered.writeErr Reg.PWR_DOM_CMD (BitVec.ofNat 32 (6 * 16 + 2)) = none ∧
    (∀ p ∈ domPages 6, (forEach (domPages 6) (fun p (s : State) => (s.put (Fld.PG_STATUS_SERVICE p) 1).put (Fld.PG_STATUS_QUIESCED p) 1) powered).get (Fld.PG_STATUS_SERVICE p) = 1) ∧
    (run (.domainOff 6) (forEach (domPages 6) (fun p (s : State) => (s.put (Fld.PG_STATUS_SERVICE p) 1).put (Fld.PG_STATUS_QUIESCED p) 1) powered)).clState 2 = 2 ∧
    (run (.domainWake 6) (powered.put (Fld.PWR_DOMd_STATUS_STATE 6) 2)).get (Fld.PWR_DOMd_STATUS_STATE 6) = 4 ∧
    powered.writeErr Reg.PWR_STATE_CMD 3 = none ∧ powered.on Fld.GLOBAL_STRAPS_TWIN_EN = false ∧ powered.gate.txnOpen = false ∧ powered.gate.pending = [] ∧ (run .stateQuiet powered).pwr.enterAt = some 1001 ∧
    (run .stateDeep (deviceIn 2 2)).devState = 1 ∧ (run .stateWake (deviceIn 1 2)).pwr.wakeHeld = true ∧ (run .entryComplete (deviceIn 1 2)).devState = 2 ∧ (run .wakeComplete (deviceIn 4 2)).devState = 2 ∧
    (run .wakeComplete (deviceIn 4 0)).pwr.activeDue = true ∧ (run .memIdleExpire { deviceIn 2 2 with pwr := { excursion := some 5 } }).pwr.excursion = none := by decide +kernel

/-- Some targets in service. -/
def inService : State := fields [(Fld.PG_STATUS_SERVICE (svcPage 1 2), 0), (Fld.PG_STATUS_SERVICE (svcPage 4 3), 0), (Fld.PG_STATUS_SERVICE (millPage 2), 0)] powered

/-- A service command in progress. -/
def servicing (typ i op : Nat) : State := { powered with svc := { cmd := some (typ * 256 + i * 16 + op, false) } }

theorem witness_ServiceAndFaultsAreHandled :
    (run (.sramScrub 3 (some (.cluster 7))) ready).get Fld.FAULT_CONTAINED_COUNT = 1 ∧ ((run (.sramScrub 0 (some (.cell 3 1))) queued).queue 3).items.length = 1 ∧ (run (.sramScrub 0 (some .freeList)) ready).get Fld.FAULT_FATAL_CAUSE = 2 ∧
    ready.fatalAt = none ∧ (ready.eng 0).resetting = false ∧ (ready.eng 0).fenced = none ∧ (ready.eng 0).slot = none ∧ (onZero.eng 0).slot = some 0 ∧
    ((run (.sramScrub 0 (some (.engine 0))) onZero).eng 0).cause = some 1 ∧ ((fencing 2).eng 0).fenced.isSome = true ∧ ready.on Fld.CRIER_CFG_ENABLE = false ∧ (ready.put Fld.CRIER_CFG_ENABLE 1).on Fld.CRIER_CFG_ENABLE = true ∧
    (let s := fields [(Fld.BINATH0_FABRIC_MASTER, 1), (Fld.CRIER_CFG_RELAY, 1), (Fld.BINATH0_FABRIC_ENABLE, 1)] ready
     s.fabricMaster = true ∧ s.inFabric = true ∧ (run .crierRelay s).crier.relayed = some 1000000000) ∧
    powered.writeErr Reg.FAULT_SVC_CMD 0x123 = none ∧ powered.on Fld.FAULT_SVC_RESULT_VALID = true ∧ inService.get (Fld.PG_STATUS_SERVICE (svcPage 1 2)) = 0 ∧ (run (.serviceOut 1 2 []) inService).svc.cmd = some (0x121, false) ∧
    (run (.serviceHold 4 3 []) inService).svc.cmd = some (0x433, false) ∧ (run (.serviceIn 2 7) (powered.put (Fld.PG_STATUS_SERVICE (svcPage 2 7)) 1)).svc.cmd = some (0x272, false) ∧
    (run (.serviceOut 0 2 []) inService).get Fld.FAULT_SVC_RESULT_STATUS = 7 ∧ (run (.serviceIn 0 2) (fields [(Fld.PG_STATUS_SERVICE (millPage 2), 3), (Fld.PWR_DOMd_STATUS_STATE 6, 2)] powered)).svc.cmd = some (0x22, true) ∧
    (servicing 1 2 3).svcQuiet 1 2 = true ∧ (run (.serviceDone none) (servicing 1 2 3)).get (Fld.PG_STATUS_SERVICE (svcPage 1 2)) = 1 ∧ (run (.serviceDone none) (servicing 2 2 2)).svc.cmd = none ∧
    (run (.millContextCopyDone 5) { powered with svc := { copying := [(5, 7, 100)] } }).svc.copying = [] ∧
    powered.writeErr Reg.FAULT_FW_CMD 1 = none ∧ powered.writeErr Reg.FAULT_FW_CMD 2 = none ∧ powered.on Fld.FAULT_FW_RESULT_VALID = true ∧ (run .fwStage powered).svc.fwStage.map (·.2) = some 5 ∧
    (run .fwStaged { powered with svc := { fwStage := some (image 5, 0) } }).otherImage = some (image 5) ∧ (run .fwStaged { powered with svc := { fwStage := some (image 5, 8) } }).get Fld.FAULT_FW_RESULT_STATUS = 8 ∧
    (run .fwActivate { powered with flash := { powered.flash with imageB := some (image 5) } }).svc.fwActive = some (1100, image 5) ∧
    (run (.deviceFatal 5 0) ready).get Fld.FAULT_FATAL_FAULT_N = 1 ∧ (run .epanisWatchdog ready).get Fld.FAULT_FATAL_CAUSE = 1 ∧ (run .fatalDeadline (run .epanisWatchdog ready)).now = 1100000000 ∧
    (ready.put Fld.DUMP_STATUS_STATE 1).get Fld.DUMP_STATUS_STATE = 1 ∧ ready.linked Reg.FAULT_LOG_POP = true ∧ ready.inReset Reg.FAULT_LOG_POP = false ∧
    (run .faultLogPop { ready with faultLog := { entries := [2 ^ 255 + 1], lostFlag := true } }).readData = 0xC0000000 ∧
    (run .lifeSave (ready.put Fld.FAULT_LIFE_HOURS 77)).flash.life = 77 := by decide +kernel

theorem witness_ResetsBootAndSidePorts :
    (run (.resetNAssert 10000) ready).boot.held = true ∧ (run (.resetNAssert 999) ready).boot.held = false ∧ (run (.resetNRelease ⟨2, true, false, true⟩) (run .powerOnReset ready)).get Fld.GLOBAL_STRAPS_BOOT_SEL = 2 ∧
    ready.writeErr Reg.GLOBAL_RESET 0x5A01 = none ∧ ready.writeErr Reg.GLOBAL_RESET 0x5B01 = none ∧ ready.on Fld.FAULT_FATAL_FAULT_N = false ∧ ready.latched = false ∧ (run (.warmReset 90) ready).get Fld.GLOBAL_BOOT_STAGE = 2 ∧
    Sparse.wf (fun _ => ({} : Ddr)) ready.ddr = true ∧ (run .perstNRelease (run .perstNAssert ready)).boot.perst = false ∧
    (let at_ (n : Nat) : State := State.reset.put Fld.GLOBAL_BOOT_STAGE n
     let next (n : Nat) : Nat := (run (.bootStageComplete { ok := true }) (at_ n)).get Fld.GLOBAL_BOOT_STAGE
     (at_ 0).boot.held = false ∧ next 0 = 1 ∧ next 1 = 2 ∧ next 2 = 3 ∧ next 3 = 4 ∧ next 4 = 5 ∧ next 5 = 6 ∧ next 6 = 7 ∧ (run (.bootStageComplete { ok := false }) (at_ 5)).get Fld.GLOBAL_BOOT_FAIL_STAGE = 5) ∧
    State.reset.flash.board.isSome = true ∧ (run (.bootStageComplete { ok := true, training := [(7, 1)] }) (State.reset.put Fld.GLOBAL_BOOT_STAGE 4)).get (Fld.DDRCn_STATUS_STATE 7) = 4 ∧
    (run (.bootStageComplete { ok := true, asleep := [1] }) (State.reset.put Fld.GLOBAL_BOOT_STAGE 7)).get Fld.GLOBAL_BOOT_FAIL_STAGE = 7 ∧
    (let s := up.put Fld.GLOBAL_BOOT_STAGE 9
     s.writeErr Reg.GLOBAL_BOOT_CMD 1 = none ∧ s.boot.checking = false ∧ (run .recoveryGo s).get Fld.GLOBAL_BOOT_STAGE = 3 ∧ (run .recoveryGo s).boot.checking = true) ∧
    (run .smbusTemperature (run (.highestJunctionSensorCrossing (-50)) ready)).pins.smbus = some [0xCE, 0xFF] ∧ (run (.highestJunctionSensorCrossing 1001) ready).pins.hot = true ∧
    (run .jtagIdcode ready).pins.jtagIr = 2 ∧ (run (.jtagExtest 5) ready).pins.extest = true := by decide +kernel
/-! ### Further clauses of the statements above, each met at one more state -/

theorem witness_clauses_of_boundaries_and_gate :
    (up.put Fld.TWIN_STATUS_STATE 3).twinState = 3 ∧ (twinned 5 false {}).twinState = 5 ∧ tickAfter (twinned 5 false {}).clk.ticked (twinned 5 false {}).now = 1000 ∧
    (run .gateAcceptance (gated 7 0 0 0 (opened [⟨.create, 2, 0, conf1, 0⟩] up))).gate.txnOpen = false ∧ (run .gateAcceptance (gated 5 0 0 0 up)).gate.txnOpen = true ∧
    (run .gateAcceptance (gated 4 2 0 0 (having [(2, 0, conf1)] up))).rd (Reg.GATE_READBACK_w 0) = BitVec.ofNat 32 conf1 ∧
    (run (.pageResetComplete 0x40000) (gated 1 2 0 0 (up.put (Fld.PG_CTRL_RESET 0x40000) 1))).on (Fld.PG_CTRL_RESET 0x40000) = true ∧
    (let s := { withLeg 0 { shaper := { present := true, rate := 8, burst := 2000, tokens := 16000000 } } up with fetches := [Reg.PKTOUT_LEG_SEL] }
     (run (.resultFetchComplete Reg.PKTOUT_LEG_SEL) s).rd Reg.PKTOUT_LEG_TOKENS = 0x81000002) ∧
    (run (.ptpSourceLost 1 true) (fields [(Fld.PLANEn_CFG_PRP 1, 1), (Fld.BELFRY_PTPn_STATE_LANA 1, 7), (Fld.BELFRY_PTPn_STATE_LANB 1, 9)] up)).get (Fld.BELFRY_PTPn_STATE_LANA 1) = 9 ∧
    (let s := ((having [(1, 0, leg1), (6, 0, 0)] up).setLeg 0 { state := .active }).setVstr 0 { effective := true, missing := [⟨7, 0, 1, 0⟩], highest := some 9, pics := [⟨900, [], 0, 0, none, none, packet.facts⟩] }
     ((run (.nackRetry 0 7) s).pkt 0).isSome = true ∧ ((run (.videoWaitExpire 0 900 false) s).vstr 0).pics = []) := by decide +kernel

theorem witness_clauses_of_tasks_and_engines :
    (run (.taskSubmit 1 1 5 true 0) up).tasks.map (fun p => p.2.flow) = [5125] ∧ (run (.taskSubmit 2 1 5 false 0) up).tasks.map (fun p => p.2.flow) = [4101] ∧
    (run (.taskSubmit 4 4 5 true 3) up).tasks.map (fun p => p.2.flow) = [7167] ∧ (run (.taskSubmit 5 0 5 false 9) up).tasks = [] ∧
    (run (.katChunk 1280 3 true false) (tasked [] [])).get Fld.FAULT_TEST_FAIL = 1 ∧ (run (.katChunk 1024 3 true true) (tasked [] [])).get Fld.FAULT_TEST_RUNS = 1 ∧ (run (.testOverdue 1280) (tasked [] [])).get Fld.FAULT_TEST_OVERDUE_TYPE = 32 ∧
    (let s := (benched core).put (Fld.PG_STATUS_SERVICE (millPage 1)) 1
     (run (.millSlotWrite 17 0x1FFFD 5) s).get (Fld.PG_LAST_ERR_CODE (millPage 1)) = 2 ∧ (run (.millSlotWrite 17 0x10000 5) (s.wr (Reg.MILLC_WIN 1) 2)).get (Fld.PG_LAST_ERR_CODE (millPage 1)) = 1 ∧
     ((run (.millSlotWrite 17 16 5) (s.wr (Reg.MILLC_WIN 1) 2)).core 17).prog.read 16 = 5) ∧
    (run (.kernelLoad 1 2) ((benched core).put (Fld.MILLC_KRESULT_VALID 1) 0)).get (Fld.PG_LAST_ERR_CODE (millPage 1)) = 6 := by decide +kernel

theorem witness_clauses_of_memory_and_power :
    (run (.scrubRead 2 []) (ready.put (Fld.DDRCn_STATUS_STATE 2) 4)).ddr = ready.ddr ∧ (run (.zqCalStart 7 1) ready).ddr = ready.ddr ∧
    (run (.fenceEmpty 16 none 3) (run (.weirFence 16 none) ready)).weir.fences.map Fence.empty = [true] ∧
    (run (.bar2Write 0 (List.replicate 64 1)) { windowed 0 with poisoned := [0] }).poisoned = [] ∧ (run (.pcieLinkUp 3 5) ready).get Fld.HOSTIF_LINK_WIDTH = 0 ∧
    (run (.clusterWakeOnTask 2) (powered.put (Fld.PWR_CLc_STATUS_STATE 2) 1)).clState 2 = 1 ∧ (run .stateDeep (powered.put Fld.GLOBAL_STRAPS_TWIN_EN 1)).get (Fld.PG_LAST_ERR_CODE pwrPage) = Err.conflict.code ∧
    (run (.governorDecide [3, 3] 0) (powered.put (Fld.PWR_CLc_STATUS_STATE 2) 1)).clState 2 = 1 ∧
    (run (.governorDecide [3, 3, 1] 0) (fields [(Fld.PWR_GOV_ENABLE, 1), (Fld.PWR_CLc_STATUS_STATE 2, 1)] powered)).clState 2 ≠ 1 := by decide +kernel
end Sys2Proof.Tests
end

section
/-! Registers as the conventions of chapter 02 use them: the error reporting of a page (R39), its vector (R29), the
accesses that reach no register, the fence, and the 64-bit pairs (R36). -/

namespace Sys2Proof.Machine

/-! ### Registers after the shared operations -/

/-- Two states that agree on a register agree on its fields. -/
theorem State.get_of_rd_eq {s t : State} {f : FieldRef} (h : t.rd f.addr = s.rd f.addr) : t.get f = s.get f := by
  simp only [State.get, h]

/-- A page event leaves the fields of every other register as they were. -/
theorem State.get_event_other (s : State) (page i : Nat) (f : FieldRef) (h : f.addr ≠ Reg.PG_EVENT page) : (s.event page i).get f = s.get f :=
  State.get_of_rd_eq (by rw [State.rd_event, if_neg h])

/-- Setting a field leaves every other register as it was. -/
theorem State.rd_put_other (s : State) (f : FieldRef) (v b : Nat) (h : b ≠ f.addr) : (s.put f v).rd b = s.rd b := by
  rw [State.rd_put, if_neg h]

/-- A counter that wraps, read back. -/
theorem State.get_bump (s : State) (f : FieldRef) (n : Nat) (h : f.lo + f.width ≤ 32) : (s.bump f n).get f = (s.get f + n) % 2 ^ f.width := by
  rw [State.bump, State.get_put _ _ _ h, Nat.mod_mod]

/-- A counter that saturates, read back. -/
theorem State.get_bumpSat (s : State) (f : FieldRef) (n : Nat) (h : f.lo + f.width ≤ 32) :
    (s.bumpSat f n).get f = Nat.min (2 ^ f.width - 1) (s.get f + n) := by
  rw [State.bumpSat, State.get_put _ _ _ h, satAdd]
  exact Nat.mod_eq_of_lt (Nat.lt_of_le_of_lt (Nat.min_le_left _ _) (Nat.sub_lt (Nat.two_pow_pos _) Nat.one_pos))

theorem State.rd_bump (s : State) (f : FieldRef) (n b : Nat) (h : b ≠ f.addr) : (s.bump f n).rd b = s.rd b := by
  rw [State.bump, State.rd_put, if_neg h]

theorem State.rd_bumpSat (s : State) (f : FieldRef) (n b : Nat) (h : b ≠ f.addr) : (s.bumpSat f n).rd b = s.rd b := by
  rw [State.bumpSat, State.rd_put, if_neg h]

/-- A plain write changes its own register only. -/
theorem State.rd_applyWrite_other (s : State) (a b : Nat) (w : Word) (h : b ≠ a) : (s.applyWrite a w).rd b = s.rd b := by
  unfold State.applyWrite
  split
  · rfl
  · rw [State.rd_wr, if_neg h]

/-! ### Posting an error (R39) -/

theorem Err.code_lt (e : Err) : e.code < 256 := by cases e <;> decide

/-- The registers of a page that report errors are three different ones. -/
theorem errRegs_distinct (p : Nat) :
    Reg.PG_LAST_ERR p ≠ Reg.PG_ERR_COUNT p ∧ Reg.PG_LAST_ERR p ≠ Reg.PG_EVENT p ∧ Reg.PG_ERR_COUNT p ≠ Reg.PG_EVENT p := by
  simp only [Reg.PG_LAST_ERR, Reg.PG_ERR_COUNT, Reg.PG_EVENT]
  omega

section PostErr

variable (s : State) (p off code : Nat)

/-- PG_LAST_ERR after an error is what the three field writes leave in it: the count and the event stand elsewhere. -/
theorem State.postErr_lastErr (f : FieldRef) (hf : f.addr = Reg.PG_LAST_ERR p) :
    (s.postErr p off code).get f = ((((s.put (Fld.PG_LAST_ERR_CODE p) code).put (Fld.PG_LAST_ERR_OFFSET p) off).bump (Fld.PG_LAST_ERR_SEQ p)).get f) := by
  obtain ⟨hc, he, -⟩ := errRegs_distinct p
  rw [State.postErr, State.get_event_other _ _ _ _ (hf ▸ he)]
  exact State.get_of_rd_eq (State.rd_bumpSat _ _ _ _ (hf ▸ hc))

theorem State.postErr_code (h : code < 256) : (s.postErr p off code).get (Fld.PG_LAST_ERR_CODE p) = code := by
  rw [State.postErr_lastErr _ _ _ _ _ rfl, State.bump, State.get_put_apart _ _ _ _ (of_decide_eq_true rfl) (of_decide_eq_true rfl),
    State.get_put_apart _ _ _ _ (of_decide_eq_true rfl) (of_decide_eq_true rfl), State.get_put _ _ _ (of_decide_eq_true rfl)]
  exact Nat.mod_eq_of_lt h

theorem State.postErr_offset (h : off < 4096) : (s.postErr p off code).get (Fld.PG_LAST_ERR_OFFSET p) = off := by
  rw [State.postErr_lastErr _ _ _ _ _ rfl, State.bump, State.get_put_apart _ _ _ _ (of_decide_eq_true rfl) (of_decide_eq_true rfl),
    State.get_put _ _ _ (of_decide_eq_true rfl)]
  exact Nat.mod_eq_of_lt h

theorem State.postErr_seq : (s.postErr p off code).get (Fld.PG_LAST_ERR_SEQ p) = (s.get (Fld.PG_LAST_ERR_SEQ p) + 1) % 256 := by
  rw [State.postErr_lastErr _ _ _ _ _ rfl, State.get_bump _ _ _ (of_decide_eq_true rfl), State.get_put_apart _ _ _ _ (of_decide_eq_true rfl) (of_decide_eq_true rfl),
    State.get_put_apart _ _ _ _ (of_decide_eq_true rfl) (of_decide_eq_true rfl)]
  rfl

theorem State.postErr_count :
    (s.postErr p off code).get (Fld.PG_ERR_COUNT_COUNT p) = Nat.min (2 ^ 32 - 1) (s.get (Fld.PG_ERR_COUNT_COUNT p) + 1) := by
  obtain ⟨hc, -, he⟩ := errRegs_distinct p
  rw [State.postErr, State.get_event_other _ _ _ _ he, State.get_bumpSat _ _ _ (of_decide_eq_true rfl), State.bump,
    State.get_put_other _ _ _ _ hc.symm, State.get_put_other _ _ _ _ hc.symm, State.get_put_other _ _ _ _ hc.symm]
  rfl

theorem State.event_get (i : Nat) (h : i < 32) : (s.event p i).get ⟨Reg.PG_EVENT p, i, 1⟩ = 1 := by
  simp only [State.get, State.rd_event, if_true]
  exact bits_putBits _ _ _ _ h

theorem State.postErr_event : (s.postErr p off code).get (Fld.PG_EVENT_ERR p) = 1 := State.event_get _ _ _ (by decide)

/-- Posting an error changes no register but the three that report it. -/
theorem State.postErr_regsOutside : s.regsOutside (errRegs p) (s.postErr p off code) := by
  intro a ha
  simp only [errRegs, List.mem_cons, List.not_mem_nil, or_false, not_or] at ha
  obtain ⟨hl, hc, he⟩ := ha
  rw [State.postErr, State.rd_event, if_neg he, State.rd_bumpSat _ _ _ _ hc, State.rd_bump _ _ _ _ hl, State.rd_put_other _ _ _ _ hl,
    State.rd_put_other _ _ _ _ hl]

theorem State.postErr_changesOnly : s.changesOnly [.regs, .msix] (s.postErr p off code) := (State.postErr_moves ..).only rfl

end PostErr

/-- A write that fails the general checks or the block's own is rejected (R39). -/
theorem State.checked_eq_reject {s : State} {addr : Nat} {w : Word} {check : State → Option Err} {effect : State → State} {e : Err}
    (h : s.writeErr addr w = some e ∨ (s.writeErr addr w = none ∧ check s = some e)) : s.checked addr w check effect = s.reject addr e := by
  unfold State.checked
  rcases h with h | ⟨h, hc⟩
  · rw [h]
  · rw [h, hc]

/-- A write that passes every check has its effect. -/
theorem State.checked_eq_effect {s : State} {addr : Nat} {w : Word} {check : State → Option Err} {effect : State → State}
    (h : s.writeErr addr w = none) (hc : check s = none) : s.checked addr w check effect = effect s := by
  unfold State.checked
  rw [h, hc]

/-- Settles O7: both ways of being rejected end in `State.reject`, whose six facts are those of a posted error. -/
theorem rejectedWriteChangesOnlyErrorReporting : Obligations.RejectedWriteChangesOnlyErrorReporting := by
  intro s addr w check effect e he
  have hoff : addr % 4096 < 4096 := Nat.mod_lt _ (by decide)
  simp only [State.checked_eq_reject he, State.reject]
  exact ⟨State.postErr_code _ _ _ _ e.code_lt, State.postErr_offset _ _ _ _ hoff, State.postErr_seq .., State.postErr_count .., State.postErr_event ..,
    State.postErr_regsOutside _ _ _ _, State.postErr_changesOnly _ _ _ _⟩

/-! ### Accesses that reach no register (R32, R41) -/

/-- Settles O12: a misaligned read answers 0, and a misaligned write posts E_ALIGN to its page or, in a memory slot, to the page of the core's cluster. -/
theorem misalignedAccessPostsAlign : Obligations.MisalignedAccessPostsAlign := by
  refine ⟨fun addr s hcut => ⟨{ s with readData := 0 }, ?_, rfl, (Moves.set_readData ..).only rfl⟩,
    fun addr s hcut hpage => ⟨s.reject addr .align, ?_, State.postErr_code _ _ _ _ (by decide), State.postErr_offset _ _ _ _ (Nat.mod_lt _ (by decide)),
      State.postErr_event _ _ _ _, State.postErr_regsOutside _ _ _ _, State.postErr_changesOnly _ _ _ _⟩,
    fun addr k s hcut hpage hslot => ⟨s.postErr (millPage (k / 16)) (addr % 4096) Err.align.code, ?_, State.postErr_code _ _ _ _ (by decide),
      State.postErr_regsOutside _ _ _ _, State.postErr_changesOnly _ _ _ _⟩⟩
  · simp [exec, execMisalignedAccess, hcut]
  · obtain ⟨q, hq⟩ := Option.isSome_iff_exists.mp hpage
    simp [exec, execMisalignedAccess, hcut, hq]
  · simp [exec, execMisalignedAccess, hcut, hpage, hslot]

/-- An unmapped write touches GLOBAL_BADADDR alone, of which it sets ADDR and lets COUNT advance. -/
theorem State.unmappedWrite_badaddr (s : State) (addr : Nat) :
    (s.unmappedWrite addr).get Fld.GLOBAL_BADADDR_ADDR = addr % 2 ^ 26 ∧
      (s.unmappedWrite addr).get Fld.GLOBAL_BADADDR_COUNT = Nat.min 63 (s.get Fld.GLOBAL_BADADDR_COUNT + 1) ∧
      s.regsOutside [Reg.GLOBAL_BADADDR] (s.unmappedWrite addr) := by
  refine ⟨?_, ?_, fun a ha => ?_⟩
  · rw [State.unmappedWrite, State.bumpSat, State.get_put_apart _ _ _ _ (by decide) (by decide), State.get_put _ _ _ (by decide)]
    exact Nat.mod_mod _ _
  · rw [State.unmappedWrite, State.get_bumpSat _ _ _ (by decide), State.get_put_apart _ _ _ _ (by decide) (by decide)]
    rfl
  · have h : a ≠ Reg.GLOBAL_BADADDR := by simpa using ha
    rw [State.unmappedWrite, State.rd_bumpSat _ _ _ _ h, State.rd_put_other _ _ _ _ h]

/-- Settles O13: both commands come to `State.unmappedWrite`, and no register stands at the address. -/
theorem unmappedWriteIsRecorded : Obligations.UnmappedWriteIsRecorded := by
  intro addr s hcut hpage hslot
  obtain ⟨haddr, hcount, hregs⟩ := s.unmappedWrite_badaddr addr
  refine ⟨⟨s.unmappedWrite addr, ?_, ?_, haddr, hcount, hregs, (State.unmappedWrite_moves ..).only rfl⟩, fun r => ?_⟩
  · simp [exec, execUnmappedWrite, hcut, hpage, hslot]
  · simp [exec, execMisalignedAccess, hcut, hpage, hslot]
  · simp [State.readWord, specAt, hpage, hslot]

/-! ### The fence (R37) -/

/-- A field of the whole register replaces the word. -/
theorem putBits_whole (w : Word) (v : Nat) : putBits w 0 32 v = BitVec.ofNat 32 v := by
  apply BitVec.eq_of_toNat_eq
  rw [putBits_toNat _ _ _ _ (by decide), BitVec.toNat_ofNat]
  have := w.isLt
  omega

/-- The state in which the oldest waiting fence read has returned. -/
def State.fenceReturned (s : State) (rest : List Nat) : State :=
  { s.put ⟨Reg.GLOBAL_FENCE, 0, 32⟩ s.shortTime with fences := rest, readData := BitVec.ofNat 32 s.shortTime }

theorem exec_fenceReadComplete {s : State} {a : Nat} {l : List Nat} (hf : s.fences = a :: l) : exec .fenceReadComplete s = .next (s.fenceReturned l) := by
  show execFenceReadComplete s = _
  unfold execFenceReadComplete
  rw [hf]
  rfl

/-- The data a read returned and the reads that wait are no registers. -/
theorem State.rd_setReadData (s : State) (l : List Nat) (x : Word) (a : Nat) : ({ s with fences := l, readData := x } : State).rd a = s.rd a := rfl

theorem State.fenceReturned_rd (s : State) (l : List Nat) (a : Nat) : (s.fenceReturned l).rd a = (s.put ⟨Reg.GLOBAL_FENCE, 0, 32⟩ s.shortTime).rd a :=
  State.rd_setReadData ..

theorem State.fenceReturned_fence (s : State) (l : List Nat) : (s.fenceReturned l).rd Reg.GLOBAL_FENCE = BitVec.ofNat 32 s.shortTime := by
  rw [State.fenceReturned_rd]
  simp only [State.rd_put, if_true, putBits_whole]

theorem State.fenceReturned_regsOutside (s : State) (l : List Nat) : s.regsOutside [Reg.GLOBAL_FENCE] (s.fenceReturned l) := by
  intro b hb
  rw [State.fenceReturned_rd, State.rd_put_other _ _ _ _ (by simpa using hb)]

theorem State.fenceReturned_changesOnly (s : State) (l : List Nat) : s.changesOnly [.regs, .readData, .fences] (s.fenceReturned l) :=
  ((Moves.set_readData_fences ..).step (by decide) ((State.put_moves ..).step (m := 2097161) (by decide) Moves.refl)).only rfl

/-- Settles O21: a fence read joins the waiting ones, and the oldest returns the short time. -/
theorem fenceReadReturnsTheShortTime : Obligations.FenceReadReturnsTheShortTime := by
  refine ⟨fun s hcut => ⟨fun hl hr => ⟨{ s with fences := s.fences ++ [s.now] }, ?_, rfl, (Moves.set_fences ..).only rfl⟩, fun h => ?_⟩,
    fun s a l hf => ⟨s.fenceReturned l, exec_fenceReadComplete hf, rfl, rfl, State.fenceReturned_fence .., State.fenceReturned_regsOutside _ _,
      State.fenceReturned_changesOnly _ _⟩⟩
  · simp [exec, execGlobalFenceRead, hcut, hl, hr]
  · simp only [exec, execGlobalFenceRead, hcut, Bool.false_eq_true, if_false]
    rw [if_pos (by simpa using h)]

end Sys2Proof.Machine
end

section
/-! The vector of a page (R29, R408), the access types of fields (R31, R33), and selectors with their fetches (R35). -/

namespace Sys2Proof.Machine

/-! ### The vector of a page (R29, R408) -/

/-- Bit j of a word whose bit i is set. -/
theorem putBits_one_getLsbD (w : Word) (i j : Nat) (hi : i < 32) : (putBits w i 1 1).getLsbD j = (w.getLsbD j || decide (i = j)) := by
  have hbit : ∀ (x : Word) (k : Nat), x.getLsbD k = decide (bits x k 1 = 1) := by
    intro x k
    rw [BitVec.getLsbD, Nat.testBit_eq_decide_div_mod_eq]
    rfl
  rw [hbit, hbit]
  rcases Nat.lt_trichotomy i j with h | h | h
  · rw [bits_putBits_above _ _ _ _ _ _ (by omega) (by omega)]
    simp [Nat.ne_of_lt h]
  · subst h
    rw [bits_putBits _ _ _ _ (by omega)]
    simp
  · rw [bits_putBits_below _ _ _ _ _ _ (by omega) (by omega)]
    simp [Nat.ne_of_gt h]

theorem putBits_one (w : Word) (i : Nat) (hi : i < 32) : putBits w i 1 1 = w ||| BitVec.twoPow 32 i := by
  apply BitVec.eq_of_getLsbD_eq
  intro j hj
  rw [putBits_one_getLsbD _ _ _ hi, BitVec.getLsbD_or, BitVec.getLsbD_twoPow]
  simp [hj, hi]

/-- A page is raised when an enabled event is set. -/
theorem State.pageRaised_iff (s : State) (p : Nat) : s.pageRaised p = true ↔ s.rd (Reg.PG_EVENT p) &&& s.rd (Reg.PG_EVENT_EN p) ≠ 0 := by
  rw [State.pageRaised, decide_eq_true_iff, Ne, Ne, BitVec.toNat_eq, BitVec.toNat_and]
  rfl

/-- The enabled events after bit i of PG_EVENT is set. -/
theorem or_twoPow_and (e n : Word) (i : Nat) : (e ||| BitVec.twoPow 32 i) &&& n = (e &&& n) ||| (BitVec.twoPow 32 i &&& n) := by
  ext j
  simp [Bool.and_or_distrib_right]

theorem twoPow_and_eq_zero (n : Word) (i : Nat) (h : n.getLsbD i = false) : BitVec.twoPow 32 i &&& n = 0 := by
  apply BitVec.eq_of_getLsbD_eq
  intro j hj
  rw [BitVec.getLsbD_and, BitVec.getLsbD_twoPow]
  by_cases e : i = j
  · subst e; simp [h]
  · simp [e]

theorem and_twoPow_ne_zero (e n : Word) (i : Nat) (hi : i < 32) (h : n.getLsbD i = true) : (e ||| BitVec.twoPow 32 i) &&& n ≠ 0 := by
  intro hz
  have hbit := congrArg (fun x : Word => x.getLsbD i) hz
  simp only [BitVec.getLsbD_and, BitVec.getLsbD_or, BitVec.getLsbD_twoPow, h] at hbit
  simp [hi] at hbit

/-- PG_EVENT of a page with bit i set. -/
def State.eventSet (s : State) (p i : Nat) : State := s.put ⟨Reg.PG_EVENT p, i, 1⟩ 1

theorem State.rd_eventSet (s : State) (p i : Nat) (hi : i < 32) : (s.eventSet p i).rd (Reg.PG_EVENT p) = s.rd (Reg.PG_EVENT p) ||| BitVec.twoPow 32 i := by
  rw [State.eventSet, State.rd_put, if_pos rfl]
  exact putBits_one _ _ hi

theorem State.rd_eventSet_en (s : State) (p i : Nat) : (s.eventSet p i).rd (Reg.PG_EVENT_EN p) = s.rd (Reg.PG_EVENT_EN p) :=
  State.rd_put_other _ _ _ _ (by simp [Reg.PG_EVENT_EN, Reg.PG_EVENT])

/-- Setting an event bit raises an unraised page exactly when the bit is enabled. -/
theorem State.eventSet_rises (s : State) (p i : Nat) (hi : i < 32) :
    (s.pageRaised p = false ∧ (s.eventSet p i).pageRaised p = true) ↔ (s.pageRaised p = false ∧ (s.rd (Reg.PG_EVENT_EN p)).getLsbD i = true) := by
  refine and_congr_right fun hs => ?_
  rw [State.pageRaised_iff, State.rd_eventSet _ _ _ hi, State.rd_eventSet_en]
  constructor
  · intro hne
    have h0 : s.rd (Reg.PG_EVENT p) &&& s.rd (Reg.PG_EVENT_EN p) = 0 :=
      Decidable.byContradiction fun h => absurd (State.pageRaised_iff s p |>.mpr h) (Bool.eq_false_iff.mp hs)
    cases hen : (s.rd (Reg.PG_EVENT_EN p)).getLsbD i with
    | true => rfl
    | false =>
      rw [or_twoPow_and, h0, twoPow_and_eq_zero _ _ hen] at hne
      exact absurd rfl hne
  · exact and_twoPow_ne_zero _ _ _ hi

/-- An event sends the page's vector exactly when it raises the page. -/
theorem State.event_eq (s : State) (p i : Nat) (hi : i < 32) :
    s.event p i = if s.pageRaised p = false ∧ (s.rd (Reg.PG_EVENT_EN p)).getLsbD i = true then
      (s.eventSet p i).sendMsix (s.get (Fld.PG_MSIX_VECTOR p)) else s.eventSet p i := by
  have hv : (s.eventSet p i).get (Fld.PG_MSIX_VECTOR p) = s.get (Fld.PG_MSIX_VECTOR p) :=
    State.get_put_other _ _ _ _ (by simp [Fld.PG_MSIX_VECTOR, Reg.PG_MSIX, Reg.PG_EVENT])
  have hc : ((!s.pageRaised p && (s.eventSet p i).pageRaised p) = true) ↔ (s.pageRaised p = false ∧ (s.rd (Reg.PG_EVENT_EN p)).getLsbD i = true) := by
    rw [← State.eventSet_rises s p i hi, Bool.and_eq_true, Bool.not_eq_true']
  show (if (!s.pageRaised p && (s.eventSet p i).pageRaised p) = true then (s.eventSet p i).sendMsix ((s.eventSet p i).get (Fld.PG_MSIX_VECTOR p))
    else s.eventSet p i) = _
  simp only [hc, hv]

/-- Settles O17: an event is a set bit, and a vector where that raises the page. -/
theorem eventSendsTheVectorOnce : Obligations.EventSendsTheVectorOnce := by
  intro p i s hi
  have hrd : (s.event p i).rd (Reg.PG_EVENT p) = s.rd (Reg.PG_EVENT p) ||| BitVec.twoPow 32 i := by
    rw [State.rd_event, if_pos rfl, putBits_one _ _ hi]
  have hout : s.regsOutside [Reg.PG_EVENT p] (s.event p i) := fun a ha => by
    rw [State.rd_event, if_neg (by simpa using ha)]
  refine ⟨hrd, hout, (State.event_moves ..).only rfl, fun hr => ?_, fun hr ho => ?_, fun hr ho => ?_⟩
  · rw [State.event_eq _ _ _ hi, if_neg hr]
    rfl
  · obtain ⟨hen, hmask, hun⟩ := ho
    rw [State.event_eq _ _ _ hi, if_pos hr, State.sendMsix, if_pos (by simp [State.eventSet, hen, hmask, hun])]
    simp [Sparse.modify, State.eventSet]
  · rw [State.event_eq _ _ _ hi, if_pos hr, State.sendMsix, if_neg (fun h => ho (by simpa [State.eventSet, and_assoc] using h))]
    exact ⟨by simp, rfl⟩

/-! ### What a write leaves in a field (R31, R33) -/

/-- Rows from the highest bits down, below bit b, none empty and none over another. -/
def rowsBelow : Nat → List FieldRow → Bool
  | _, [] => true
  | b, x :: t => decide (x.lo ≤ x.hi) && decide (x.hi < b) && rowsBelow x.lo t

/-- The rows of a register from the highest bits down; the tables list most of them so. -/
def RegSpec.sortedRows (r : RegSpec) : List FieldRow := sortBy (fun x => 32 - x.lo) r.rows

theorem insertBy_perm {α : Type} (key : α → Nat) (x : α) : ∀ l : List α, (insertBy key x l).Perm (x :: l)
  | [] => List.Perm.refl _
  | y :: t => by
    rw [insertBy]
    split
    · exact List.Perm.refl _
    · exact ((insertBy_perm key x t).cons y).trans (List.Perm.swap x y t)

/-- Sorting lists the same elements. -/
theorem sortBy_perm {α : Type} (key : α → Nat) (l : List α) : (sortBy key l).Perm l := by
  have hfold : ∀ (l m : List α), (l.foldl (fun sorted x => insertBy key x sorted) m).Perm (l ++ m) := by
    intro l
    induction l with
    | nil => exact fun m => List.Perm.refl m
    | cons x t ih => exact fun m => (ih _).trans (((insertBy_perm key x m).append_left t).trans List.perm_middle)
  exact (hfold l []).trans (List.Perm.of_eq (List.append_nil l))

theorem RegSpec.sortedRows_perm (r : RegSpec) : r.sortedRows.Perm r.rows := sortBy_perm ..

/-- In no register of the tables do two rows overlap. -/
theorem pageMap_rowsBelow :
    (specsPG.all (fun r => rowsBelow 32 r.sortedRows) && pageMap.all (fun p => p.regs.all (fun r => rowsBelow 32 r.sortedRows))) = true := by
  decide +kernel

theorem findPage_mem {addr : Nat} {l : List PageSpec} {p : PageSpec} {n : Nat} (h : findPage addr l = some (p, n)) : p ∈ l := by
  induction l with
  | nil => simp [findPage] at h
  | cons q t ih =>
    rw [findPage] at h
    split at h
    · cases h
      exact List.mem_cons_self
    · exact List.mem_cons_of_mem _ (ih h)

theorem specAt_rowsBelow {addr : Nat} {r : RegSpec} (h : specAt addr = some r) : rowsBelow 32 r.sortedRows = true := by
  obtain ⟨hpg, hmap⟩ := (Bool.and_eq_true ..).mp pageMap_rowsBelow
  unfold specAt at h
  split at h
  · cases h
  · rename_i p n hp
    split at h
    · rename_i r' hr
      cases h
      exact List.all_eq_true.mp hpg _ (List.mem_of_find?_eq_some hr)
    · exact List.all_eq_true.mp (List.all_eq_true.mp hmap _ (findPage_mem hp)) _ (List.mem_of_find?_eq_some h)

theorem rowWrite_lt (old w : Word) (x : FieldRow) : rowWrite old w x < 2 ^ (x.hi - x.lo + 1) := by
  have ho := bits_lt old x.lo (x.hi - x.lo + 1)
  have hv := bits_lt w x.lo (x.hi - x.lo + 1)
  have hp := Nat.two_pow_pos (x.hi - x.lo + 1)
  unfold rowWrite
  simp only
  split
  · exact hv
  · exact Nat.lt_of_le_of_lt Nat.and_le_left ho
  · split <;> assumption
  · exact Nat.or_lt_two_pow ho hv
  · exact ho
  · exact ho
  · exact hp
  · exact hp

theorem rowsBelow_mem {x : FieldRow} : ∀ (rows : List FieldRow) (b : Nat), rowsBelow b rows = true → x ∈ rows → x.lo ≤ x.hi ∧ x.hi < b
  | [], _, _, hx => absurd hx List.not_mem_nil
  | y :: t, b, h, hx => by
    simp only [rowsBelow, Bool.and_eq_true, decide_eq_true_eq] at h
    obtain ⟨⟨hlo, hhi⟩, ht⟩ := h
    rcases List.mem_cons.mp hx with rfl | hx
    · exact ⟨hlo, hhi⟩
    · obtain ⟨hxlo, hxhi⟩ := rowsBelow_mem t y.lo ht hx
      exact ⟨hxlo, by omega⟩

/-- Rows below bit b fill no bit from b on. -/
theorem rowsWrite_lt (old w : Word) : ∀ (rows : List FieldRow) (b : Nat), rowsBelow b rows = true → rowsWrite old w rows < 2 ^ b
  | [], b, _ => Nat.two_pow_pos b
  | x :: t, b, h => by
    simp only [rowsBelow, Bool.and_eq_true, decide_eq_true_eq] at h
    obtain ⟨⟨hlo, hhi⟩, ht⟩ := h
    have hrest := rowsWrite_lt old w t x.lo ht
    calc rowsWrite old w (x :: t) < rowWrite old w x * 2 ^ x.lo + 2 ^ x.lo := Nat.add_lt_add_left hrest _
      _ = (rowWrite old w x + 1) * 2 ^ x.lo := by rw [Nat.add_mul, Nat.one_mul]
      _ ≤ 2 ^ (x.hi - x.lo + 1) * 2 ^ x.lo := Nat.mul_le_mul_right _ (rowWrite_lt old w x)
      _ = 2 ^ (x.hi + 1) := by rw [← Nat.pow_add]; congr 1; omega
      _ ≤ 2 ^ b := Nat.pow_le_pow_right (by decide) hhi

/-- Each row's bits of what a write leaves are what `rowWrite` gives that row. -/
theorem rowsWrite_row (old w : Word) {x : FieldRow} : ∀ (rows : List FieldRow) (b : Nat), rowsBelow b rows = true → x ∈ rows →
    rowsWrite old w rows / 2 ^ x.lo % 2 ^ (x.hi - x.lo + 1) = rowWrite old w x
  | [], _, _, hx => absurd hx List.not_mem_nil
  | y :: t, b, h, hx => by
    simp only [rowsBelow, Bool.and_eq_true, decide_eq_true_eq] at h
    obtain ⟨⟨hlo, hhi⟩, ht⟩ := h
    have hrest := rowsWrite_lt old w t y.lo ht
    rw [rowsWrite, Nat.add_comm]
    rcases List.mem_cons.mp hx with rfl | hx
    · rw [Nat.add_mul_div_right _ _ (Nat.two_pow_pos _), Nat.div_eq_of_lt hrest, Nat.zero_add, Nat.mod_eq_of_lt (rowWrite_lt old w x)]
    · obtain ⟨hxlo, hxhi⟩ := rowsBelow_mem t y.lo ht hx
      have hdvd : 2 ^ y.lo = 2 ^ x.lo * 2 ^ (x.hi - x.lo + 1) * 2 ^ (y.lo - (x.hi + 1)) := by
        rw [← Nat.pow_add, ← Nat.pow_add]; congr 1; omega
      rw [hdvd, Nat.mul_comm (rowWrite old w y), Nat.mul_assoc, Nat.mul_assoc, Nat.add_mul_div_left _ _ (Nat.two_pow_pos _), Nat.add_mul_mod_self_left]
      exact rowsWrite_row old w t y.lo ht hx
/-- What a write leaves does not depend on the order in which the rows are listed. -/
theorem rowsWrite_perm (old w : Word) {l l' : List FieldRow} (h : l.Perm l') : rowsWrite old w l = rowsWrite old w l' := by
  induction h with
  | nil => rfl
  | cons x _ ih => rw [rowsWrite, rowsWrite, ih]
  | swap x y l => simp only [rowsWrite]; omega
  | trans _ _ ih₁ ih₂ => rw [ih₁, ih₂]

/-- A field after a plain write of its register. -/
theorem State.applyWrite_field (s : State) {addr : Nat} {r : RegSpec} {x : FieldRow} (w : Word) (hr : specAt addr = some r) (hx : x ∈ r.rows) :
    bits ((s.applyWrite addr w).rd addr) x.lo (x.hi - x.lo + 1) = rowWrite (s.rd addr) w x := by
  have hb := specAt_rowsBelow hr
  rw [State.applyWrite, hr]
  simp only [State.rd_wr, if_true]
  rw [← rowsWrite_perm _ _ r.sortedRows_perm, bits, BitVec.toNat_ofNat, Nat.mod_eq_of_lt (rowsWrite_lt _ _ _ _ hb),
    rowsWrite_row _ _ _ _ hb (r.sortedRows_perm.mem_iff.mpr hx)]

theorem State.applyWrite_regsOutside (s : State) (addr : Nat) (w : Word) : s.regsOutside [addr] (s.applyWrite addr w) :=
  fun _ ha => State.rd_applyWrite_other _ _ _ _ (by simpa using ha)

/-- Clearing the bits of v in an n-bit number. -/
theorem clear_testBit (o v n i : Nat) (hv : v < 2 ^ n) (hi : i < n) : (Nat.land o (2 ^ n - 1 - v)).testBit i = (o.testBit i && !v.testBit i) := by
  have hsub : 2 ^ n - 1 - v = 2 ^ n - (v + 1) := by omega
  rw [show Nat.land o (2 ^ n - 1 - v) = o &&& (2 ^ n - 1 - v) from rfl, Nat.testBit_and, hsub, Nat.testBit_two_pow_sub_succ hv]
  simp [hi]

/-- Settles O15: a register holds its rows side by side, so each field reads what `rowWrite` makes of its own row. -/
theorem fieldsTakeWritesByAccessType : Obligations.FieldsTakeWritesByAccessType := by
  intro addr r x w s hr hx
  simp only [State.applyWrite_field s w hr hx]
  have hv := bits_lt w x.lo (x.hi - x.lo + 1)
  refine ⟨fun h => ?_, fun h i hi => ?_, fun h i _ => ?_, fun h => ?_, fun h => ?_, State.applyWrite_regsOutside _ _ _, (State.applyWrite_moves ..).only rfl⟩
  · simp only [rowWrite, h]
  · simp only [rowWrite, h]
    exact clear_testBit _ _ _ _ hv hi
  · simp only [rowWrite, h]
    exact Nat.testBit_or ..
  · simp only [rowWrite, h]
  · rcases h with h | h <;> simp only [rowWrite, h]

/-! ### Selectors and their fetches (R35) -/

/-- A list of result registers is pending. -/
def State.unvalidAll (s : State) (l : List Nat) : State := l.foldl State.unvalid s

theorem State.rd_unvalid (s : State) (a b : Nat) : (s.unvalid a).rd b = if b = a then putBits (s.rd a) 31 1 0 else s.rd b := State.rd_wr ..

/-- Making a result pending a second time changes nothing in it. -/
theorem putBits_valid_twice (w : Word) : putBits (putBits w 31 1 0) 31 1 0 = putBits w 31 1 0 := by
  apply BitVec.eq_of_toNat_eq
  simp only [putBits_toNat _ _ _ _ (show 31 + 1 ≤ 32 by decide)]
  omega

theorem State.rd_unvalidAll (l : List Nat) : ∀ (s : State) (b : Nat), (s.unvalidAll l).rd b = if b ∈ l then putBits (s.rd b) 31 1 0 else s.rd b := by
  induction l with
  | nil => intro s b; simp [State.unvalidAll]
  | cons a t ih =>
    intro s b
    rw [State.unvalidAll, List.foldl_cons, ← State.unvalidAll, ih, State.rd_unvalid]
    by_cases hba : b = a
    · subst hba
      by_cases hbt : b ∈ t
      · simp [hbt, putBits_valid_twice]
      · simp [hbt]
    · simp [hba]

theorem State.unvalidAll_moves (l : List Nat) (s : State) : Moves 1 s (s.unvalidAll l) := Moves.foldl (fun _ _ => State.unvalid_moves ..) Moves.refl

theorem State.unvalidAll_fetches (l : List Nat) (s : State) : (s.unvalidAll l).fetches = s.fetches :=
  (State.unvalidAll_moves l s).frame .fetches rfl

/-- What every selector write does once accepted: the selector is stored, its fetch starts, its results are pending. -/
theorem fetchStarted_of (s : State) (sel : Nat) (w : Word) (results : List Nat) (hsel : sel ∉ results) :
    fetchStarted sel w results s (((s.applyWrite sel w).fetchStart sel).unvalidAll results) := by
  have hrd : ∀ a, ((s.applyWrite sel w).fetchStart sel).rd a = (s.applyWrite sel w).rd a := fun _ => rfl
  refine ⟨?_, ?_, fun a ha => ?_, fun a ha => ?_, ?_⟩
  · rw [State.rd_unvalidAll, if_neg hsel, hrd]
  · rw [State.unvalidAll_fetches]
    simp [State.fetchStart]
  · have hne : a ≠ sel := fun e => hsel (e ▸ ha)
    rw [State.rd_unvalidAll, if_pos ha, hrd, State.rd_applyWrite_other _ _ _ _ hne]
    exact ⟨bits_putBits _ _ _ _ (by decide), bits_putBits_below _ _ _ _ _ _ (by decide) (by decide)⟩
  · obtain ⟨hne, hout⟩ := not_or.mp (fun h => ha (List.mem_cons.mpr h))
    rw [State.rd_unvalidAll, if_neg hout, hrd, State.rd_applyWrite_other _ _ _ _ hne]
  · exact ((State.unvalidAll_moves ..).step (by decide) ((State.fetchStart_moves ..).step (by decide)
      ((State.applyWrite_moves ..).step (m := 4194305) (by decide) Moves.refl))).only rfl

/-- A selector write whose page accepts it. -/
theorem fetchStarted_checked {s : State} {sel : Nat} {w : Word} (results : List Nat) {check : State → Option Err} (hsel : sel ∉ results)
    (h : s.writeErr sel w = none) (hc : check s = none) :
    ∃ t, Host.Outcome.next (φ := Fault) (ρ := Refusal) (s.checked sel w check (fun s => ((s.applyWrite sel w).fetchStart sel).unvalidAll results)) = .next t ∧
      fetchStarted sel w results s t := by
  rw [State.checked_eq_effect h hc]
  exact ⟨_, rfl, fetchStarted_of s sel w results hsel⟩

/-- Settles O19: sixteen selectors with one behaviour. -/
theorem selectorWriteStartsAFetch : Obligations.SelectorWriteStartsAFetch := by
  intro s a b c
  refine ⟨fun h => fetchStarted_checked [_, _] (by decide) h rfl, fun h => fetchStarted_checked [_, _] (by decide) h rfl,
    fun h => fetchStarted_checked [_] (by decide) h rfl, fun h => fetchStarted_checked [_, _] (by decide) h rfl,
    fun h => ?_, fun h => fetchStarted_checked [_] (by decide) h rfl,
    fun h hk => fetchStarted_checked [_, _] (by decide) h (if_pos hk), fun h => ?_,
    fun h => fetchStarted_checked [_, _] (by decide) h rfl, fun h => fetchStarted_checked [_, _] (by decide) h rfl,
    fun h => fetchStarted_checked [_, _] (by decide) h rfl, fun h => fetchStarted_checked [_] (by decide) h rfl,
    fun n hn h => ?_, fun h => fetchStarted_checked [_] (by decide) h rfl,
    fun h ht => fetchStarted_checked [_] (by decide) h (by simp [ht]), fun h => fetchStarted_checked [_] (by decide) h rfl⟩
  · have hw : exec (.granaryQSel a false) s = .next (s.granarySelWrite (BitVec.ofNat 32 a)) := by simp [exec, execGranaryQSel]
    rw [hw]
    exact fetchStarted_checked [_, _, _] (by decide) h rfl
  · have hfold : ∀ u : State, forUpTo 16 (fun k (s : State) => s.unvalid (Reg.AUDIO_SEATk k)) u = u.unvalidAll ((List.range 16).map Reg.AUDIO_SEATk) :=
      fun u => (List.foldl_map ..).symm
    have hw : s.seatSelWrite (BitVec.ofNat 32 a) = s.checked Reg.AUDIO_SEAT_SEL (BitVec.ofNat 32 a) (fun _ => none)
        (fun s => ((s.applyWrite Reg.AUDIO_SEAT_SEL (BitVec.ofNat 32 a)).fetchStart Reg.AUDIO_SEAT_SEL).unvalidAll ((List.range 16).map Reg.AUDIO_SEATk)) := by
      simp only [State.seatSelWrite, hfold]
    rw [show exec (.audioSeatSel a) s = .next (s.seatSelWrite (BitVec.ofNat 32 a)) from rfl, hw]
    exact fetchStarted_checked _ (by decide) h rfl
  · have hsel : Reg.DDRCn_DEV_SEL n ∉ [Reg.DDRCn_DEV_CE n] := by simp [Reg.DDRCn_DEV_SEL, Reg.DDRCn_DEV_CE]
    rw [show exec (.ddrcDevSel n a b c) s = execDdrcDevSel n a b c s from rfl, execDdrcDevSel, if_pos hn]
    exact fetchStarted_checked _ hsel h rfl

/-! ### Fetches that complete (R35) -/

theorem State.rd_postResultGen (s : State) (a gen v b : Nat) (h : b ≠ a) : (s.postResultGen a gen v).rd b = s.rd b := by
  rw [State.postResultGen, State.rd_wr, if_neg h]

/-- The three parts of a result word. -/
theorem resultWord_bits (g v : Nat) :
    let w : Word := BitVec.ofNat 32 (2 ^ 31 + g % 128 * 2 ^ 24 + v % 2 ^ 24)
    bits w 31 1 = 1 ∧ bits w 24 7 = g % 128 ∧ bits w 0 24 = v % 2 ^ 24 := by
  simp only [bits, BitVec.toNat_ofNat]
  omega

theorem State.postResultGen_posted (s : State) (a gen v : Nat) : (s.postResultGen a gen v).posted a gen v := by
  unfold State.posted
  rw [State.postResultGen, State.rd_wr, if_pos rfl]
  exact resultWord_bits gen v

/-- A result stays posted while its register is left alone. -/
theorem State.posted_of_rd_eq {s t : State} {a gen v : Nat} (h : t.rd a = s.rd a) (hp : s.posted a gen v) : t.posted a gen v := by
  unfold State.posted
  rwa [h]

/-- Results posted under one GEN, in order. -/
def State.postAll (s : State) (gen : Nat) (l : List (Nat × Nat)) : State := l.foldl (fun s p => s.postResultGen p.1 gen p.2) s

theorem State.postAll_rd (gen : Nat) : ∀ (l : List (Nat × Nat)) (s : State) (b : Nat), b ∉ l.map Prod.fst → (s.postAll gen l).rd b = s.rd b
  | [], _, _, _ => rfl
  | p :: l, s, b, h => by
    obtain ⟨hp, hl⟩ := not_or.mp (fun e => h (List.mem_cons.mpr e))
    exact (State.postAll_rd gen l _ b hl).trans (State.rd_postResultGen _ _ _ _ _ hp)

theorem State.postAll_posted (gen : Nat) : ∀ (l : List (Nat × Nat)) (s : State), (l.map Prod.fst).Nodup → ∀ p ∈ l, (s.postAll gen l).posted p.1 gen p.2
  | [], _, _, p, hp => absurd hp List.not_mem_nil
  | q :: l, s, hn, p, hp => by
    obtain ⟨hq, hl⟩ := List.nodup_cons.mp hn
    rcases List.mem_cons.mp hp with rfl | hp
    · exact State.posted_of_rd_eq (State.postAll_rd gen l _ _ hq) (State.postResultGen_posted ..)
    · exact State.postAll_posted gen l _ hl p hp

/-- GEN has seven bits. -/
theorem State.postAll_mod (s : State) (gen : Nat) (l : List (Nat × Nat)) : s.postAll (gen % 128) l = s.postAll gen l := by
  simp only [State.postAll, State.postResultGen, Nat.mod_mod]

theorem State.postAll_moves (s : State) (gen : Nat) (l : List (Nat × Nat)) : Moves 1 s (s.postAll gen l) :=
  Moves.foldl (fun _ _ => State.wr_moves ..) Moves.refl

/-- The fetch of a selector is no longer in progress. -/
def State.fetchDropped (s : State) (sel : Nat) : State := { s with fetches := s.fetches.filter (fun a => decide (a ≠ sel)) }

theorem exec_resultFetchComplete {s : State} {sel : Nat} (h : sel ∈ s.fetches) :
    exec (.resultFetchComplete sel) s = .next ((s.fetchDropped sel).fetchEnd sel) := by
  rw [show exec (.resultFetchComplete sel) s = execResultFetchComplete sel s from rfl, execResultFetchComplete, if_pos (by simpa using h)]
  rfl

/-- What a fetch that posts its results under one GEN leaves. -/
theorem State.postAll_fetchDropped (s : State) (sel gen : Nat) (l : List (Nat × Nat)) (hn : (l.map Prod.fst).Nodup) :
    let t := (s.fetchDropped sel).postAll gen l
    sel ∉ t.fetches ∧ (∀ p ∈ l, t.posted p.1 gen p.2) ∧ s.regsOutside (l.map Prod.fst) t ∧ s.changesOnly [.regs, .fetches] t := by
  have hm := State.postAll_moves (s.fetchDropped sel) gen l
  refine ⟨?_, State.postAll_posted gen l _ hn, fun b hb => State.postAll_rd gen l _ b hb, ?_⟩
  · rw [show ((s.fetchDropped sel).postAll gen l).fetches = (s.fetchDropped sel).fetches from hm.frame .fetches rfl]
    simp [State.fetchDropped]
  · exact (hm.step (by decide) ((Moves.set_fetches s _).step (m := 4194305) (by decide) Moves.refl)).only rfl

/-- A completed fetch that posts the results l in the registers `addrs` under one GEN. -/
theorem fetch_posts {s : State} {sel : Nat} (addrs : List Nat) (gen : Nat) (l : List (Nat × Nat)) (hs : sel ∈ s.fetches) (ha : l.map Prod.fst = addrs)
    (hn : addrs.Nodup) (he : (s.fetchDropped sel).fetchEnd sel = (s.fetchDropped sel).postAll (gen % 128) l) :
    ∃ t, exec (.resultFetchComplete sel) s = .next t ∧ sel ∉ t.fetches ∧
      (∀ p ∈ l, t.posted p.1 gen p.2) ∧ s.regsOutside addrs t ∧ s.changesOnly [.regs, .fetches] t := by
  subst ha
  rw [State.postAll_mod] at he
  exact ⟨_, by rw [exec_resultFetchComplete hs, he], State.postAll_fetchDropped s sel gen l hn⟩

/-- The counts of a queue that is no event queue. -/
theorem State.granaryFetch_queue (s : State) (hq : s.get Fld.GRANARY_Q_SEL_QUEUE < 0x4100) :
    let g := s.queue (s.get Fld.GRANARY_Q_SEL_QUEUE)
    s.granaryFetch = s.postAll ((bits (s.rd Reg.GRANARY_Q_COUNT) 24 7 + 1) % 128)
      [(Reg.GRANARY_Q_COUNT, (g.items.filter (fun i => !i.claimed)).length), (Reg.GRANARY_Q_CELLS, g.cells), (Reg.GRANARY_Q_LOST, g.lost)] := by
  have hnot : (decide (0x4100 ≤ s.get Fld.GRANARY_Q_SEL_QUEUE) && decide (s.get Fld.GRANARY_Q_SEL_QUEUE < 0x4140)) = false := by
    simp [Nat.not_le.mpr hq]
  rw [State.granaryFetch, hnot]
  rfl

/-- Settles O20: each fetch posts its results in order under the next GEN of the first. -/
theorem fetchPostsItsResults : Obligations.FetchPostsItsResults := by
  intro s
  refine ⟨fun hs => ?_, fun hs => ?_, fun hs hq => ?_, fun hs => ?_, fun hs => ?_⟩
  · obtain ⟨t, ht, hf, hp, hr⟩ := fetch_posts [Reg.PKTIN_LEG_POLICE, Reg.PKTIN_LEG_DUP] (bits (s.rd Reg.PKTIN_LEG_POLICE) 24 7 + 1)
      [(_, (s.leg (s.get Fld.PKTIN_LEG_SEL_LEG)).police), (_, (s.leg (s.get Fld.PKTIN_LEG_SEL_LEG)).dup)] hs rfl (by decide) rfl
    simp only [List.forall_mem_cons] at hp
    exact ⟨t, ht, hf, hp.1, hp.2.1, hr⟩
  · let h := (s.leg (s.get Fld.PKTOUT_LEG_SEL_LEG)).shaper
    obtain ⟨t, ht, hf, hp, hr⟩ := fetch_posts [Reg.PKTOUT_LEG_TOKENS, Reg.PKTOUT_LEG_RATE] (bits (s.rd Reg.PKTOUT_LEG_TOKENS) 24 7 + 1)
      [(_, if h.present then (h.upTo s.lnow).tokens / 8000000 else 0), (_, if h.present then Nat.min 16777215 h.rate else 0)] hs rfl (by decide) rfl
    simp only [List.forall_mem_cons] at hp
    exact ⟨t, ht, hf, hp.1, hp.2.1, hr⟩
  · obtain ⟨t, ht, hf, hp, hr⟩ := fetch_posts [Reg.GRANARY_Q_COUNT, Reg.GRANARY_Q_CELLS, Reg.GRANARY_Q_LOST] _ _ hs rfl (by decide)
      (State.granaryFetch_queue (s.fetchDropped Reg.GRANARY_Q_SEL) hq)
    simp only [List.forall_mem_cons] at hp
    exact ⟨t, ht, hf, hp.1, hp.2.1, hp.2.2.1, hr⟩
  · let f := s.get Fld.REEVE_FLOW_SEL_FLOW
    obtain ⟨t, ht, hf, hp, hr⟩ := fetch_posts [Reg.REEVE_FLOW_STATE] (bits (s.rd Reg.REEVE_FLOW_STATE) 24 7 + 1)
      [(_, (s.tasks.filter (fun p => decide (p.2.flow = f) && decide (p.2.state = .held))).length * 65536 +
        match s.flowHead f with | some p => p.2.fseq | none => s.reeve.nextSeq.get (fun _ => 0) f)] hs rfl (by decide) (by rw [State.postAll_mod]; rfl)
    simp only [List.forall_mem_cons] at hp
    exact ⟨t, ht, hf, hp.1, hr⟩
  · let l := s.get Fld.ADAPT_LEG_SEL_LEG
    let c := (s.leg l).cc
    obtain ⟨t, ht, hf, hp, hr⟩ := fetch_posts [Reg.ADAPT_LEG_RATE, Reg.ADAPT_LEG_STATE] (bits (s.rd Reg.ADAPT_LEG_RATE) 24 7 + 1)
      [(_, if s.hasController l then c.rate else 0), (_, if s.hasController l then c.mode * 2 ^ 22 + b2n c.held * 2 ^ 21 + b2n c.delayTerm * 2 ^ 20 +
        Nat.min 1000 c.lossPm * 2 ^ 10 + unsigned 10 c.grad else 0)] hs rfl (by decide) rfl
    simp only [List.forall_mem_cons] at hp
    exact ⟨t, ht, hf, hp.1, hr⟩

end Sys2Proof.Machine
end

section
/-! The 64-bit pairs (R36) and the commands of the table gate (R43, R45). -/

namespace Sys2Proof.Machine

/-! ### Pairs (R36) -/

/-- Each reader has a capture register of its own for each address. -/
theorem captureKey_inj {q r : Reader} {a b : Nat} (h : captureKey a q = captureKey b r) : q = r ∧ a = b := by
  cases q <;> cases r <;> simp only [captureKey] at h
  case host.host | epanis.epanis => exact ⟨rfl, by omega⟩
  case host.epanis | epanis.host => omega

theorem State.captured_setCapture (s : State) (q r : Reader) (a b : Nat) (w : Word) :
    (s.setCapture r b w).captured q a = if (q, a) = (r, b) then w else s.captured q a := by
  rw [State.captured, State.setCapture]
  simp only [Sparse.get_set]
  by_cases h : (q, a) = (r, b)
  · cases h
    simp
  · rw [if_neg h, if_neg (fun e => h (Prod.ext_iff.mpr (captureKey_inj e)))]
    rfl

/-- What a read of a pair's low word leaves. -/
def State.pairRead (s : State) (r : Reader) (addr : Nat) : State :=
  { s.setCapture r (addr + 4) (s.liveWord (addr + 4)) with readData := s.liveWord addr }

theorem State.pairRead_captured (s : State) (q r : Reader) (addr b : Nat) :
    (s.pairRead r addr).captured q b = if (q, b) = (r, addr + 4) then s.liveWord (addr + 4) else s.captured q b :=
  State.captured_setCapture ..

theorem State.pairRead_changesOnly (s : State) (r : Reader) (addr : Nat) : s.changesOnly [.capture, .readData] (s.pairRead r addr) :=
  ((Moves.set_readData (s.setCapture r (addr + 4) (s.liveWord (addr + 4))) _).step (by decide) ((Moves.set_capture s _).step (m := 10) (by decide) Moves.refl)).only rfl

theorem exec_pairLoRead {r : Reader} {addr : Nat} {x : RegSpec} {s : State} (hne : addr ≠ Reg.BELFRY_SEC_LO) (hx : specAt addr = some x) (hlo : x.role = .lo)
    (hl : s.linked addr = true) (hr : s.inReset addr = false) : exec (.pairLoRead r addr) s = .next (s.pairRead r addr) := by
  show execPairLoRead r addr s = _
  simp only [execPairLoRead, if_neg hne, hx, hlo, hl, hr]
  rfl

theorem State.readWord_hi {r : Reader} {addr : Nat} {x : RegSpec} {s : State} (hx : specAt addr = some x) (hhi : x.role = .hi) (hp : x.pops = false)
    (hh : ¬ addr % 4096 < 0x40) (hl : s.linked addr = true) (hr : s.inReset addr = false) : s.readWord r addr = s.captured r addr := by
  simp [State.readWord, hx, hh, hl, hr, hp, hhi]

/-- An accepted write of a low word is held. -/
theorem State.pairLoWrite_eq {s : State} {lo : Nat} {w : Word} (h : s.writeErr lo w = none) (hp : s.pairErr lo = none) :
    s.pairLoWrite lo w = { s with heldLo := s.heldLo.set (fun _ => 0) lo w } := State.checked_eq_effect h hp

/-- An accepted write of a high word applies the pair. -/
theorem State.pairHiWrite_eq {s : State} {hi : Nat} {w : Word} (h : s.writeErr hi w = none) (hp : s.pairErr (hi - 4) = none)
    (hw : s.pairWholeErr (hi - 4) w = none) (hr : (indexOf Reg.AUDIO_RPn_START_LO 16 (hi - 4)).isSome = false) :
    s.pairHiWrite hi w = s.pairApply (hi - 4) w := by
  rw [State.pairHiWrite, State.checked_eq_effect h (by simp [hp, hw])]
  simp [hr]

theorem State.pairApply_regsOutside (s : State) (lo : Nat) (w : Word) : s.regsOutside [lo, lo + 4] (s.pairApply lo w) := by
  intro a ha
  simp only [List.mem_cons, List.not_mem_nil, or_false, not_or] at ha
  rw [State.pairApply, State.rd_applyWrite_other _ _ _ _ ha.2, State.rd_applyWrite_other _ _ _ _ ha.1]

theorem State.pairApply_changesOnly (s : State) (lo : Nat) (w : Word) : s.changesOnly [.regs] (s.pairApply lo w) :=
  ((State.applyWrite_moves ..).step (by decide) ((State.applyWrite_moves ..).step (m := 1) (by decide) Moves.refl)).only rfl

theorem exec_pairHiWrite {hi : Nat} {w : Word} {x : RegSpec} {s : State} (hc : s.hostCut = false) (hx : specAt hi = some x) (hhi : x.role = .hi)
    (hw : x.writable = true) : exec (.pairHiWrite hi w) s = .next (s.pairHiWrite hi w) := by
  show execPairHiWrite hi w s = _
  simp [execPairHiWrite, hx, hc, hhi, hw]

/-- Settles O14: a read of a low word loads one capture register, a high word reads it back, and an accepted high word applies the pair. -/
theorem pairsAreReadAndWrittenWhole : Obligations.PairsAreReadAndWrittenWhole := by
  refine ⟨fun r addr x s hne hx hlo hl hr => ⟨s.pairRead r addr, exec_pairLoRead hne hx hlo hl hr, rfl, ?_, fun q b hqb => ?_, State.pairRead_changesOnly s r addr⟩,
    fun r addr x s hx hhi hp hh hl hr => State.readWord_hi hx hhi hp hh hl hr, fun _ _ => rfl, fun lo w s h hp => ?_,
    fun hi w x s hc hx hhi hw h hp hpw hr => ⟨s.pairApply (hi - 4) w, ?_, rfl, State.pairApply_regsOutside _ _ _, State.pairApply_changesOnly _ _ _⟩⟩
  · rw [State.pairRead_captured, if_pos rfl]
  · rw [State.pairRead_captured, if_neg hqb]
  · simp only [State.pairLoWrite_eq h hp, State.held, Sparse.get_set, if_true, true_and]
    exact ⟨fun b hb => if_neg hb, (Moves.set_heldLo ..).only rfl⟩
  · rw [exec_pairHiWrite hc hx hhi hw, State.pairHiWrite_eq h hp hpw hr]

/-! ### The commands of the gate (R43, R45) -/

/-- Word w of a list of words stands at bits 32 w upwards of their number. -/
theorem wordsNat_word : ∀ (l : List Word) (w : Nat), wordsNat l / 2 ^ (32 * w) % 2 ^ 32 = (l.getD w 0).toNat
  | [], w => by simp [wordsNat]
  | x :: t, 0 => by
    have := x.isLt
    simp only [wordsNat, Nat.mul_zero, Nat.pow_zero, Nat.div_one, List.getD_cons_zero, Nat.add_mul_mod_self_left]
    exact Nat.mod_eq_of_lt this
  | x :: t, w + 1 => by
    rw [wordsNat, Nat.mul_add, Nat.mul_one, Nat.add_comm (32 * w), Nat.pow_add, ← Nat.div_div_eq_div_mul, Nat.add_mul_div_left _ _ (Nat.two_pow_pos _),
      Nat.div_eq_of_lt x.isLt, Nat.zero_add, wordsNat_word t w, List.getD_cons_succ]

theorem State.stageWindow_word (s : State) (w : Nat) (hw : w < 128) : s.stageWindow / 2 ^ (32 * w) % 2 ^ 32 = (s.rd (Reg.GATE_STAGE_w w)).toNat := by
  rw [State.stageWindow, wordsNat_word]
  simp [List.getD_eq_getElem?_getD, hw]

/-- The word of GATE_CMD spells its operation, table and index. -/
theorem gateWord_bits (op table index : Nat) (ho : op < 16) (ht : table < 256) (hi : index < 65536) :
    bits (gateWord op table index) 0 4 + 16 * bits (gateWord op table index) 28 4 = op ∧ bits (gateWord op table index) 4 8 = table ∧
      bits (gateWord op table index) 12 16 = index := by
  simp only [gateWord, bits, BitVec.toNat_ofNat]
  omega

/-- The gate's tables are no registers. -/
theorem State.rd_setGate (s : State) (g : Gate) (a : Nat) : ({ s with gate := g } : State).rd a = s.rd a := rfl

/-- The gate's page takes commands: it is linked, not in reset and not quiescing (R30). -/
structure State.gateOpen (s : State) : Prop where
  linked : s.linked Reg.GATE_CMD = true
  notReset : s.inReset Reg.GATE_CMD = false
  notQuiet : s.on (Fld.PG_CTRL_QUIESCE gatePage) = false

/-- A command the gate takes: it waits, and GATE_RESULT is pending. -/
def State.gateTake (s : State) (c : GateCmd) : State := { s.unvalid Reg.GATE_RESULT with gate := { s.gate with cmd := some c } }

theorem State.gateCmdWrite_taken {s : State} (ho : s.gateOpen) (hv : s.on Fld.GATE_RESULT_VALID = true) (op table index : Nat) (hop : op < 16) (ht : table < 256)
    (hi : index < 65536) : s.gateCmdWrite (gateWord op table index) = s.gateTake ⟨op, table, index, s.stageWindow⟩ := by
  obtain ⟨h1, h2, h3⟩ := gateWord_bits op table index hop ht hi
  simp only [State.gateCmdWrite, ho.linked, ho.notReset, ho.notQuiet, hv, h1, h2, h3]
  rfl

theorem State.gateCmdWrite_busy {s : State} (ho : s.gateOpen) (hv : s.on Fld.GATE_RESULT_VALID = false) (w : Word) :
    s.gateCmdWrite w = s.reject Reg.GATE_CMD .busy := by
  simp [State.gateCmdWrite, ho.linked, ho.notReset, ho.notQuiet, hv]

theorem State.gateTake_rd (s : State) (c : GateCmd) (a : Nat) : (s.gateTake c).rd a = (s.unvalid Reg.GATE_RESULT).rd a := State.rd_setGate ..

theorem State.gateTake_changesOnly (s : State) (c : GateCmd) : s.changesOnly [.regs, .gate] (s.gateTake c) :=
  ((Moves.set_gate (s.unvalid Reg.GATE_RESULT) _).step (by decide) ((State.unvalid_moves ..).step (m := 65) (by decide) Moves.refl)).only rfl

/-- What the gate shows while a command waits: GATE_RESULT is not valid and keeps its data. -/
theorem State.gateTake_result (s : State) (c : GateCmd) : (s.gateTake c).on Fld.GATE_RESULT_VALID = false ∧
    bits ((s.gateTake c).rd Reg.GATE_RESULT) 0 31 = bits (s.rd Reg.GATE_RESULT) 0 31 ∧ s.regsOutside [Reg.GATE_RESULT] (s.gateTake c) := by
  refine ⟨?_, ?_, fun a ha => ?_⟩
  · have hb : bits ((s.gateTake c).rd Reg.GATE_RESULT) 31 1 = 0 := by
      rw [State.gateTake_rd, State.rd_unvalid, if_pos rfl]
      exact bits_putBits _ _ _ _ (by decide)
    exact decide_eq_false (fun h => h hb)
  · rw [State.gateTake_rd, State.rd_unvalid, if_pos rfl, bits_putBits_below _ _ _ _ _ _ (by decide) (by decide)]
  · rw [State.gateTake_rd, State.rd_unvalid, if_neg (by simpa using ha)]

/-- Settles O8: the seven commands are one write of GATE_CMD with seven words. -/
theorem gateCommandsCopyTheStagingWindow : Obligations.GateCommandsCopyTheStagingWindow := by
  refine ⟨fun table index s ht hi hl hr hq x hx => ?_, fun w s hw => State.stageWindow_word s w hw⟩
  have ho : s.gateOpen := ⟨hl, hr, hq⟩
  obtain ⟨hexec, hop, htab, hidx⟩ : exec x.1 s = .next (s.gateCmdWrite (gateWord x.2.1 x.2.2.1 x.2.2.2)) ∧ x.2.1 < 16 ∧ x.2.2.1 < 256 ∧ x.2.2.2 < 65536 := by
    simp only [List.mem_cons, List.not_mem_nil, or_false] at hx
    rcases hx with rfl | rfl | rfl | rfl | rfl | rfl | rfl <;> exact ⟨rfl, by simp [ht, hi]⟩
  refine ⟨fun hv => ⟨s.gateTake ⟨x.2.1, x.2.2.1, x.2.2.2, s.stageWindow⟩, ?_, rfl, rfl, rfl, rfl, rfl, ?_⟩, fun hv => ?_⟩
  · rw [hexec, State.gateCmdWrite_taken ho hv _ _ _ hop htab hidx]
  · obtain ⟨hvalid, hdata, hregs⟩ := s.gateTake_result ⟨x.2.1, x.2.2.1, x.2.2.2, s.stageWindow⟩
    exact ⟨hvalid, hdata, hregs, State.gateTake_changesOnly _ _⟩
  · rw [hexec, State.gateCmdWrite_busy ho hv]

end Sys2Proof.Machine
end

section
/-! Page resets (R30): the reset of an Ethernet page loads the port's calibration (R59) into a register of BELFRY. -/

namespace Sys2Proof.Machine

/-- The base of port 0's page. -/
def eth0Page : Nat := 0x20000

/-- MODE of port 0 after a reset of its page. -/
def eth0Mode : Nat := bits (resetWord (Reg.ETHn_CFG 0)) (Fld.ETHn_CFG_MODE 0).lo (Fld.ETHn_CFG_MODE 0).width

theorem State.rd_keepRegs (s : State) (keep : Nat → Bool) (a : Nat) : (s.keepRegs keep).rd a = if keep a then s.rd a else resetWord a :=
  Sparse.get_filter ..

/-- The logic behind port 0's page: it loads the calibration for the mode. -/
theorem State.pageLogic_eth0 (s : State) : s.pageLogic eth0Page = s.portCal 0 := by
  have he : pageEngines eth0Page = [] := by decide
  simp only [State.pageLogic, State.showHours, he, forEach, List.foldl_nil]
  rfl

/-- A page reset of port 0 leaves the calibration for the mode after reset in BELFRY_P0CAL, whatever stood there. -/
theorem State.pageReset_eth0_cal (s : State) : (s.pageReset eth0Page).get (Fld.BELFRY_PnCAL_CAL_RX 0) = Config.calRx 0 eth0Mode % 2 ^ 16 := by
  have hkeep : (decide (pageOf (Reg.ETHn_CFG 0) ≠ eth0Page) || s.pageKeeps (Reg.ETHn_CFG 0)) = false := by
    have hpend : pendingResults.contains (Reg.ETHn_CFG 0) = false := by decide
    have hkept : keptRegs.contains (Reg.ETHn_CFG 0) = false := by decide
    simp only [State.pageKeeps, hpend, hkept]
    rfl
  have hmode : ∀ keep : Nat → Bool, keep (Reg.ETHn_CFG 0) = false → (s.keepRegs keep).get (Fld.ETHn_CFG_MODE 0) = eth0Mode := by
    intro keep hk
    rw [State.get, show (Fld.ETHn_CFG_MODE 0).addr = Reg.ETHn_CFG 0 from rfl, State.rd_keepRegs, hk]
    rfl
  simp only [State.pageReset, State.pageLogic_eth0]
  rw [State.get_of_rd_eq (State.rd_wr _ _ _ _ |>.trans (if_neg (by decide))), State.get_of_rd_eq (State.rd_wr _ _ _ _ |>.trans (if_neg (by decide))),
    State.get_put_other _ _ _ _ (by decide), State.get_put_other _ _ _ _ (by decide), State.portCal, State.get_put _ _ _ (by decide)]
  simp only [show ¬ (eth0Page = 0xA0000 ∨ eth0Page = 0xA1000 ∨ eth0Page = 0xA2000 ∨ eth0Page = 0xA3000) by decide, if_false]
  rw [hmode _ hkeep]
  rfl

/-- No general check stands against a reset of port 0's page: its common header is always served. -/
theorem State.writeErr_eth0_reset (s : State) : s.writeErr (Reg.PG_CTRL eth0Page) (BitVec.ofNat 32 4) = none := rfl

/-- What a write of PG_CTRL leaves before a reset it asks for: ENABLE, QUIESCE and what quiescence makes of them. -/
def State.ctrlWritten (s : State) (p : Nat) (w : Word) : State :=
  ((s.put (Fld.PG_CTRL_ENABLE p) (b2n (bit w 0))).put (Fld.PG_CTRL_QUIESCE p) (b2n (bit w 1))).quiesce p

theorem State.rd_quiesce (s : State) (p a : Nat) (h : a ≠ Reg.PG_STATUS p) : (s.quiesce p).rd a = s.rd a := by
  unfold State.quiesce
  split
  · exact State.rd_put_other _ _ _ _ h
  · split
    · exact State.rd_put_other _ _ _ _ h
    · rfl

/-- RESET of PG_CTRL is not among the fields written. -/
theorem State.ctrlWritten_reset (s : State) (p : Nat) (w : Word) : (s.ctrlWritten p w).on (Fld.PG_CTRL_RESET p) = s.on (Fld.PG_CTRL_RESET p) := by
  rw [State.on, State.on, State.ctrlWritten, State.get_of_rd_eq (State.rd_quiesce _ _ _ (by simp [Fld.PG_CTRL_RESET, Reg.PG_CTRL, Reg.PG_STATUS])),
    State.get_put_apart _ _ _ _ (of_decide_eq_true rfl) (of_decide_eq_true rfl), State.get_put_apart _ _ _ _ (of_decide_eq_true rfl) (of_decide_eq_true rfl)]

/-- An accepted write of RESET to a page that is not in reset resets it (R30). -/
theorem State.pgCtrlWrite_reset {s : State} {p : Nat} {w : Word} (h : s.writeErr (Reg.PG_CTRL p) w = none) (hkey : p ≠ 0xC1000) (hbel : p ≠ belfryPage)
    (hw : bit w 2 = true) (hr : s.on (Fld.PG_CTRL_RESET p) = false) : s.pgCtrlWrite p w = (s.ctrlWritten p w).pageReset p := by
  rw [State.pgCtrlWrite, State.checked_eq_effect h (by simp [hkey, hbel])]
  simp only [← s.ctrlWritten_reset p w] at hr
  simp only [State.ctrlWritten] at hr
  simp only [hw, hr, State.ctrlWritten, Bool.not_false, Bool.and_self, if_true]

/-- PAGE_RESET of port 0's page, while it is not in reset, resets it. -/
theorem exec_pageReset_eth0 (s : State) (h : s.on (Fld.PG_CTRL_RESET eth0Page) = false) :
    exec (.pageReset eth0Page false false) s = .next ((s.ctrlWritten eth0Page (BitVec.ofNat 32 4)).pageReset eth0Page) := by
  show execPageReset eth0Page false false s = _
  rw [execPageReset, if_pos (by decide), ← State.pgCtrlWrite_reset s.writeErr_eth0_reset (by decide) (by decide) (by decide) h]
  rfl

/-- The machine after reset, but with BELFRY_P0CAL holding one more than the calibration of port 0. -/
def miscalibrated : State := State.reset.wr (Reg.BELFRY_PnCAL 0) (BitVec.ofNat 32 (Config.calRx 0 eth0Mode + 1))

theorem miscalibrated_notReset : miscalibrated.on (Fld.PG_CTRL_RESET eth0Page) = false := by
  rw [State.on, miscalibrated, State.get_of_rd_eq ((State.rd_wr _ _ _ _).trans (if_neg (by decide)))]
  decide

theorem miscalibrated_cal : miscalibrated.get (Fld.BELFRY_PnCAL_CAL_RX 0) = (Config.calRx 0 eth0Mode + 1) % 2 ^ 16 := by
  simp only [State.get, miscalibrated, Fld.BELFRY_PnCAL_CAL_RX, State.rd_wr, if_true, bits, BitVec.toNat_ofNat]
  generalize Config.calRx 0 eth0Mode = x
  omega

/-- Refutes O11: the reset of an Ethernet page, which the statement counts among those with nothing behind them, loads the calibration of its port into
BELFRY_PnCAL (R59), a register of another page. -/
theorem not_pagesResetAndQuiesce : ¬ Obligations.PagesResetAndQuiesce := by
  intro h
  obtain ⟨-, -, haccept⟩ := h.1 eth0Page false false miscalibrated (by decide) miscalibrated_notReset miscalibrated.writeErr_eth0_reset
  obtain ⟨t, ht, -, -, -, -, -, hframe⟩ := haccept (fun e => absurd e.1 (by decide)) (fun e => absurd e.1 (by decide))
  obtain ⟨-, hother, -⟩ := hframe (by decide) (by decide) (by decide) (by decide)
  have hcal : t.get (Fld.BELFRY_PnCAL_CAL_RX 0) = miscalibrated.get (Fld.BELFRY_PnCAL_CAL_RX 0) :=
    State.get_of_rd_eq (hother (Reg.BELFRY_PnCAL 0) (Or.inl (by decide)) (by decide))
  rw [exec_pageReset_eth0 _ miscalibrated_notReset] at ht
  rw [← Host.Outcome.next.inj ht, State.pageReset_eth0_cal, miscalibrated_cal] at hcal
  generalize Config.calRx 0 eth0Mode = x at hcal
  omega

end Sys2Proof.Machine
end

section
/-! Acceptance by the table gate (R43 to R47): what the steps of an acceptance leave of the gate and of GATE_RESULT. -/

namespace Sys2Proof.Machine

/-- An operation that changes no register leaves every read as it was. -/
theorem Moves.rd_eq {m : Nat} {s t : State} (h : Moves m s t) (hm : m.testBit 0 = false) (a : Nat) : t.rd a = s.rd a := by
  have hregs : t.regs = s.regs := h.frame .regs hm
  simp only [State.rd, hregs]

theorem Moves.gate_eq {m : Nat} {s t : State} (h : Moves m s t) (hm : m.testBit 6 = false) : t.gate = s.gate := h.frame .gate hm

/-! ### GATE_RESULT and GATE_EFFECT -/

/-- The registers an acceptance posts its result in. -/
def gateResultRegs : List Nat := [Reg.GATE_RESULT, Reg.GATE_EFFECT_LO, Reg.GATE_EFFECT_LO + 4]

theorem State.rd_wr64_other (s : State) (lo v a : Nat) (hl : a ≠ lo) (hh : a ≠ lo + 4) : (s.wr64 lo v).rd a = s.rd a := by
  rw [State.wr64, State.rd_wr, if_neg hh, State.rd_wr, if_neg hl]

/-- A pair reads back what it was set to. -/
theorem State.rd64_wr64 (s : State) (lo v : Nat) : (s.wr64 lo v).rd64 lo = v % 2 ^ 64 := by
  simp only [State.rd64, State.wr64, State.rd_wr, if_true, if_neg (show ¬ lo = lo + 4 by omega), BitVec.toNat_ofNat]
  omega

section GatePost

variable (s : State) (c : GateCmd) (status effect : Nat)

theorem State.gatePost_eq : s.gatePost c status effect =
    (s.wr64 Reg.GATE_EFFECT_LO effect).postResultGen Reg.GATE_RESULT (bits (s.rd Reg.GATE_RESULT) 24 7 + 1) (c.index % 65536 * 256 + status) := by
  rw [← State.rd_wr64_other s Reg.GATE_EFFECT_LO effect Reg.GATE_RESULT (by decide) (by decide)]
  rfl

theorem State.gatePost_posted (hi : c.index < 65536) :
    (s.gatePost c status effect).posted Reg.GATE_RESULT (bits (s.rd Reg.GATE_RESULT) 24 7 + 1) (c.index * 256 + status) := by
  rw [State.gatePost_eq, Nat.mod_eq_of_lt hi]
  exact State.postResultGen_posted ..

theorem State.gatePost_effect : (s.gatePost c status effect).rd64 Reg.GATE_EFFECT_LO = effect % 2 ^ 64 := by
  rw [← State.rd64_wr64 s, State.gatePost_eq, State.rd64, State.rd64, State.rd_postResultGen _ _ _ _ _ (by decide), State.rd_postResultGen _ _ _ _ _ (by decide)]

theorem State.gatePost_regsOutside : s.regsOutside gateResultRegs (s.gatePost c status effect) := by
  intro a ha
  simp only [gateResultRegs, List.mem_cons, List.not_mem_nil, or_false, not_or] at ha
  obtain ⟨hr, hl, hh⟩ := ha
  rw [State.gatePost_eq, State.rd_postResultGen _ _ _ _ _ hr, State.rd_wr64_other _ _ _ _ hl hh]

theorem State.gatePost_gate : (s.gatePost c status effect).gate = s.gate := (State.gatePost_moves s c status effect).gate_eq rfl

end GatePost

/-! ### The steps of an acceptance keep the gate and GATE_RESULT -/

/-- t has the gate and GATE_RESULT of s. -/
structure State.keepsGate (s t : State) : Prop where
  gate : t.gate = s.gate
  result : t.rd Reg.GATE_RESULT = s.rd Reg.GATE_RESULT

theorem State.keepsGate.trans {s t u : State} (h : s.keepsGate t) (g : t.keepsGate u) : s.keepsGate u := ⟨g.gate.trans h.gate, g.result.trans h.result⟩

theorem Moves.keepsGate {m : Nat} {s t : State} (h : Moves m s t) (hr : m.testBit 0 = false) (hg : m.testBit 6 = false) : s.keepsGate t :=
  ⟨h.gate_eq hg, h.rd_eq hr _⟩

theorem State.showGate_keepsGate (s : State) : s.keepsGate s.showGate := by
  refine ⟨(State.showGate_moves s).gate_eq rfl, ?_⟩
  rw [State.showGate, State.rd_put_other _ _ _ _ (by decide), State.rd_put_other _ _ _ _ (by decide), State.rd_wr, if_neg (by decide)]

theorem State.keyRefresh_keepsGate (s : State) : s.keepsGate s.keyRefresh := by
  refine ⟨(State.keyRefresh_moves s).gate_eq rfl, ?_⟩
  rw [State.keyRefresh, State.rd_put_other _ _ _ _ (by decide), State.rd_put_other _ _ _ _ (by decide)]
  rfl

theorem State.bankWrite_keepsGate (s : State) (tick len : Nat) : s.keepsGate (s.bankWrite 8 tick len) := by
  refine ⟨(State.bankWrite_moves s 8 tick len).gate_eq rfl, ?_⟩
  simp only [State.bankWrite]
  split
  · exact State.rd_bumpSat _ _ _ _ (by decide)
  · split
    · exact State.rd_bumpSat _ _ _ _ (by decide)
    · rw [State.bankShow, State.rd_put_other _ _ _ _ (by decide), State.rd_put_other _ _ _ _ (by decide)]
      rfl

/-- A Ledger entry is recorded beside the gate. -/
theorem State.record_keepsGate (s : State) (e : LedgerEntry) : s.keepsGate (s.record e) := by
  refine ⟨(State.record_moves s e).gate_eq rfl, ?_⟩
  unfold State.record
  split
  · rw [(State.sendMsg_moves ..).rd_eq rfl, (Moves.set_twin ..).rd_eq rfl]
    split
    · exact (State.bankWrite_keepsGate s _ _).result
    · rfl
  · rfl

theorem State.recordAll_keepsGate {β : Type} (f : β → LedgerEntry) (l : List β) (s : State) : s.keepsGate (l.foldl (fun s p => s.record (f p)) s) := by
  induction l generalizing s with
  | nil => exact ⟨rfl, rfl⟩
  | cons p l ih => exact (State.record_keepsGate s (f p)).trans (ih _)

theorem State.settleAll_keepsGate (l : List GateRec) (s : State) : s.keepsGate (forEach l (fun g (s : State) => s.settleLeg g.index) s) :=
  (Moves.foldl (fun _ _ => State.settleLeg_moves ..) Moves.refl).keepsGate rfl rfl

theorem State.legAccepted_keepsGate (s : State) (g : GateRec) : s.keepsGate (s.legAccepted g) := (State.legAccepted_moves s g).keepsGate rfl rfl

/-! ### Records accepted for a boundary -/

/-- The gate with records waiting for boundary k. -/
def Gate.pend (g : Gate) (records : List GateRec) (k : Nat) : Gate := { g with pending := g.pending ++ records.map (fun r => { r with boundary := k }) }

def State.pend (s : State) (records : List GateRec) (k : Nat) : State := { s with gate := s.gate.pend records k }

/-- The boundary records are accepted for, beginning with g, and the state with that boundary known. -/
def State.commitBoundary (s : State) (g : GateRec) (records : List GateRec) : Nat × State :=
  if tableClass g.table = 1 then (s.ltick + 1, s) else s.frameEffect g.index records

theorem State.commitBoundary_tick {s : State} {g : GateRec} {records : List GateRec} (h : tableClass g.table = 1) :
    (s.commitBoundary g records).1 = s.ltick + 1 := by rw [State.commitBoundary, if_pos h]

theorem State.commitBoundary_keepsGate (s : State) (g : GateRec) (records : List GateRec) : s.keepsGate (s.commitBoundary g records).2 := by
  unfold State.commitBoundary
  split
  · exact ⟨rfl, rfl⟩
  · exact (State.frameEffect_moves2 ..).keepsGate rfl rfl

/-- Records accepted together have one boundary, wait for it, and are told to the Ledger. -/
theorem State.commitRecs_cons (s : State) (g : GateRec) (l : List GateRec) : ∃ f : GateRec × Nat → LedgerEntry,
    s.commitRecs (g :: l) = ((s.commitBoundary g (g :: l)).1, ((g :: l).zip (List.range (g :: l).length)).foldl (fun s p => s.record (f p))
      ((s.commitBoundary g (g :: l)).2.pend (g :: l) (s.commitBoundary g (g :: l)).1)) := ⟨_, rfl⟩

theorem State.commitRecs_boundary (s : State) (g : GateRec) (l : List GateRec) : (s.commitRecs (g :: l)).1 = (s.commitBoundary g (g :: l)).1 := by
  obtain ⟨f, h⟩ := s.commitRecs_cons g l
  rw [h]

theorem State.commitRecs_gate (s : State) (g : GateRec) (l : List GateRec) :
    (s.commitRecs (g :: l)).2.gate = s.gate.pend (g :: l) (s.commitBoundary g (g :: l)).1 := by
  obtain ⟨f, h⟩ := s.commitRecs_cons g l
  rw [h, ← (s.commitBoundary_keepsGate g (g :: l)).gate]
  exact (State.recordAll_keepsGate ..).gate

theorem State.commitRecs_result (s : State) (g : GateRec) (l : List GateRec) :
    (s.commitRecs (g :: l)).2.rd Reg.GATE_RESULT = s.rd Reg.GATE_RESULT := by
  obtain ⟨f, h⟩ := s.commitRecs_cons g l
  rw [h, ← (s.commitBoundary_keepsGate g (g :: l)).result]
  exact (State.recordAll_keepsGate ..).result.trans (State.rd_setGate ..)

/-! ### The outcomes of an acceptance -/

/-- The state in which the gate has taken its command up. -/
def State.gateTaken (s : State) : State := { s with gate := { s.gate with cmd := none } }

/-- Taking the command up changes the gate alone. -/
theorem State.gateTaken_only {m : Nat} {t : State} {ps : List Part} {s : State} (h : Moves m s.gateTaken t) (e : maskOf ps = m ||| 64) : s.changesOnly ps t :=
  Moves.only (h.step (mask_left _ _) ((Moves.set_gate s _).step (mask_right _ _) Moves.refl)) e

/-- A record of a change, with the boundary it waits for. -/
def GateCmd.record (c : GateCmd) (op : GateOp) (boundary : Nat) : GateRec :=
  ⟨op, c.table, c.index, if op = .delete then 0 else normalise c.table c.data, boundary⟩

theorem exec_gateAcceptance_err {c : GateCmd} {s : State} {e : Err} (hc : s.gate.cmd = some c) (he : s.gateTaken.gateErr c = some e) :
    exec .gateAcceptance s = .next ((s.gateTaken.gatePost c e.code 0).postErr gatePage (Reg.GATE_CMD % 4096) e.code) := by
  show execGateAcceptance s = _
  unfold State.gateTaken at he ⊢
  simp only [execGateAcceptance, hc, he]

theorem exec_gateAcceptance_ok {c : GateCmd} {s : State} (hc : s.gate.cmd = some c) (he : s.gateTaken.gateErr c = none) :
    exec .gateAcceptance s = .next (s.gateTaken.gateDo c) := by
  show execGateAcceptance s = _
  unfold State.gateTaken at he ⊢
  simp only [execGateAcceptance, hc, he]

/-- t shows the result of command c posted after s, and holds the gate g. -/
structure State.postsGate (s t : State) (c : GateCmd) (status : Nat) (g : Gate) : Prop where
  posted : t.posted Reg.GATE_RESULT (bits (s.rd Reg.GATE_RESULT) 24 7 + 1) (c.index * 256 + status)
  gate : t.gate = g

/-- A result posted over a state that still shows the GATE_RESULT of s. -/
theorem State.gatePost_posts {s x : State} {c : GateCmd} (status effect : Nat) (hi : c.index < 65536) (h : x.rd Reg.GATE_RESULT = s.rd Reg.GATE_RESULT) :
    s.postsGate (x.gatePost c status effect) c status x.gate :=
  ⟨h ▸ State.gatePost_posted x c status effect hi, State.gatePost_gate ..⟩

/-- The other registers and tables catch up with a changed gate. -/
def State.refresh (s : State) : State := s.keyRefresh.showGate

theorem State.refresh_keepsGate (s : State) : s.keepsGate s.refresh := (State.keyRefresh_keepsGate s).trans (State.showGate_keepsGate _)

theorem State.withGate_posts {s : State} {c : GateCmd} {g : Gate} {x : State} (effect : Nat) (hi : c.index < 65536)
    (h : State.keepsGate { s with gate := g } x) : s.postsGate (x.gatePost c 0 effect) c 0 g := by
  rw [← show x.gate = g from h.gate]
  exact State.gatePost_posts 0 effect hi (h.result.trans (State.rd_setGate ..))

/-- A change accepted inside a transaction joins it. -/
theorem State.acceptChange_txn {s : State} {c : GateCmd} {op : GateOp} (hi : c.index < 65536) (h : s.gate.txnOpen = true) :
    s.postsGate (s.acceptChange c op) c 0 { s.gate with txn := s.gate.txn ++ [c.record op 0] } := by
  have he : s.acceptChange c op =
      ((({ s with gate := { s.gate with txn := s.gate.txn ++ [c.record op 0] } } : State).legAccepted (c.record op 0)).refresh).gatePost c 0 0 := by
    simp only [State.acceptChange, h, if_true]
    rfl
  rw [he]
  exact State.withGate_posts 0 hi ((State.legAccepted_keepsGate ..).trans (State.refresh_keepsGate _))

/-- A change accepted outside a transaction waits for its boundary, which GATE_EFFECT names. -/
theorem State.acceptChange_alone {s : State} {c : GateCmd} {op : GateOp} (hi : c.index < 65536) (h : s.gate.txnOpen = false) :
    let k := (s.commitBoundary (c.record op 0) [c.record op 0]).1
    s.postsGate (s.acceptChange c op) c 0 (s.gate.pend [c.record op 0] k) ∧ (s.acceptChange c op).rd64 Reg.GATE_EFFECT_LO = k % 2 ^ 64 := by
  have he : s.acceptChange c op =
      (((s.commitRecs [c.record op 0]).2.legAccepted (c.record op 0)).refresh).gatePost c 0 (s.commitRecs [c.record op 0]).1 := by
    simp only [State.acceptChange, h]
    rfl
  have hk := (State.legAccepted_keepsGate (s.commitRecs [c.record op 0]).2 (c.record op 0)).trans (State.refresh_keepsGate _)
  rw [he, State.commitRecs_boundary]
  refine ⟨?_, State.gatePost_effect ..⟩
  rw [← State.commitRecs_gate, ← hk.gate]
  exact State.gatePost_posts 0 _ hi (hk.result.trans (State.commitRecs_result ..))

/-- The state with its transaction closed. -/
def State.txnClosed (s : State) : State := { s with gate := { s.gate with txnOpen := false, txn := [] } }

/-- TXN_COMMIT of records: they wait for their boundary, and the transaction is closed. -/
theorem State.gateDo_commit {s : State} {c : GateCmd} {g : GateRec} {l : List GateRec} (hi : c.index < 65536) (ho : c.op = 6) (h : s.gate.txn = g :: l) :
    let k := (s.txnClosed.commitBoundary g (g :: l)).1
    s.postsGate (s.gateDo c) c 0 (s.txnClosed.gate.pend (g :: l) k) ∧ (s.gateDo c).rd64 Reg.GATE_EFFECT_LO = k % 2 ^ 64 := by
  have he : s.gateDo c = (s.txnClosed.commitRecs (g :: l)).2.showGate.gatePost c 0 (s.txnClosed.commitRecs (g :: l)).1 := by
    simp only [State.gateDo, ho, h]
    rfl
  have hk := State.showGate_keepsGate (s.txnClosed.commitRecs (g :: l)).2
  rw [he, State.commitRecs_boundary]
  refine ⟨?_, State.gatePost_effect ..⟩
  rw [← State.commitRecs_gate, ← hk.gate]
  exact State.gatePost_posts 0 _ hi (hk.result.trans ((State.commitRecs_result ..).trans (State.rd_setGate ..)))

/-- TXN_OPEN opens an empty transaction. -/
theorem State.gateDo_open {s : State} {c : GateCmd} (hi : c.index < 65536) (ho : c.op = 5) :
    s.postsGate (s.gateDo c) c 0 { s.gate with txnOpen := true, txn := [] } ∧ Moves 65 s (s.gateDo c) := by
  have he : s.gateDo c = ({ s with gate := { s.gate with txnOpen := true, txn := [] } } : State).showGate.gatePost c 0 0 := by
    simp only [State.gateDo, ho]
    rfl
  rw [he]
  exact ⟨State.withGate_posts 0 hi (State.showGate_keepsGate _),
    (State.gatePost_moves ..).step (by decide) ((State.showGate_moves _).step (by decide) ((Moves.set_gate s _).step (m := 65) (by decide) Moves.refl))⟩

/-- TXN_ABORT drops the transaction. -/
theorem State.gateDo_abort {s : State} {c : GateCmd} (hi : c.index < 65536) (ho : c.op = 7) :
    s.postsGate (s.gateDo c) c 0 s.txnClosed.gate := by
  have he : s.gateDo c = (forEach (s.gate.txn.filter (fun g => decide (g.table = 1))) (fun g (s : State) => s.settleLeg g.index)
      s.txnClosed).refresh.gatePost c 0 0 := by
    simp only [State.gateDo, ho]
    rfl
  rw [he]
  exact State.withGate_posts 0 hi ((State.settleAll_keepsGate ..).trans (State.refresh_keepsGate _))

/-! ### READ -/

/-- The words of a number in the readback window. -/
def State.readback (s : State) (n r : Nat) : State :=
  forUpTo n (fun w (s : State) => s.wr (Reg.GATE_READBACK_w w) (BitVec.ofNat 32 (r / 2 ^ (32 * w)))) s

theorem State.readback_succ (s : State) (n r : Nat) :
    s.readback (n + 1) r = (s.readback n r).wr (Reg.GATE_READBACK_w n) (BitVec.ofNat 32 (r / 2 ^ (32 * n))) := by
  simp only [State.readback, forUpTo, List.range_succ, List.foldl_append, List.foldl_cons, List.foldl_nil]

theorem State.readback_rd (s : State) (r : Nat) : ∀ n : Nat,
    (∀ w, w < n → ((s.readback n r).rd (Reg.GATE_READBACK_w w)).toNat = r / 2 ^ (32 * w) % 2 ^ 32) ∧
      s.regsOutside ((List.range n).map Reg.GATE_READBACK_w) (s.readback n r)
  | 0 => ⟨fun w hw => absurd hw (Nat.not_lt_zero w), fun _ _ => rfl⟩
  | n + 1 => by
    obtain ⟨hin, hout⟩ := State.readback_rd s r n
    rw [State.readback_succ]
    refine ⟨fun w hw => ?_, fun a ha => ?_⟩
    · rw [State.rd_wr]
      by_cases h : w = n
      · rw [h, if_pos rfl, BitVec.toNat_ofNat]
      · rw [if_neg (by simp only [Reg.GATE_READBACK_w]; omega)]
        exact hin w (by omega)
    · simp only [List.range_succ, List.map_append, List.map_cons, List.map_nil, List.mem_append, List.mem_singleton, not_or] at ha
      rw [State.rd_wr, if_neg ha.2]
      exact hout a ha.1

theorem State.readback_moves (s : State) (n r : Nat) : Moves 1 s (s.readback n r) := Moves.foldl (fun _ _ => State.wr_moves ..) Moves.refl

theorem readback_notMem (n a : Nat) (h : a < Reg.GATE_READBACK_w 0) : a ∉ (List.range n).map Reg.GATE_READBACK_w := by
  simp only [List.mem_map, not_exists, not_and, Reg.GATE_READBACK_w] at h ⊢
  omega

theorem gateResultRegs_notMem (w : Nat) : Reg.GATE_READBACK_w w ∉ gateResultRegs := by
  simp only [gateResultRegs, Reg.GATE_READBACK_w, Reg.GATE_RESULT, Reg.GATE_EFFECT_LO, List.mem_cons, List.not_mem_nil, or_false]
  omega

/-- READ shows the effective record in the readback window. -/
theorem State.gateDo_read {s : State} {c : GateCmd} (hi : c.index < 65536) (ho : c.op = 4) :
    let n := recLen c.table / 4
    s.postsGate (s.gateDo c) c 0 s.gate ∧
      (∀ w, w < n → ((s.gateDo c).rd (Reg.GATE_READBACK_w w)).toNat = (s.effRec c.table c.index).getD 0 / 2 ^ (32 * w) % 2 ^ 32) ∧
      s.regsOutside (gateResultRegs ++ (List.range n).map Reg.GATE_READBACK_w) (s.gateDo c) ∧ Moves 1 s (s.gateDo c) := by
  intro n
  let r := (s.effRec c.table c.index).getD 0
  have he : s.gateDo c = (s.readback n r).gatePost c 0 0 := by
    simp only [State.gateDo, ho]
    rfl
  obtain ⟨hin, hout⟩ := State.readback_rd s r n
  have hm := State.readback_moves s n r
  rw [he]
  refine ⟨?_, fun w hw => ?_, fun a ha => ?_, ?_⟩
  · rw [← hm.gate_eq rfl]
    exact State.gatePost_posts 0 0 hi (hout _ (readback_notMem n _ (by decide)))
  · rw [State.gatePost_regsOutside _ c 0 0 _ (gateResultRegs_notMem w)]
    exact hin w hw
  · rw [List.mem_append, not_or] at ha
    rw [State.gatePost_regsOutside _ c 0 0 _ ha.1, hout _ ha.2]
  · exact (State.gatePost_moves ..).step (by decide) hm

/-- A command that fails a check changes no table: its error is posted twice. -/
theorem State.gateErr_posts {s : State} {c : GateCmd} (e : Err) (hi : c.index < 65536) :
    let t := (s.gatePost c e.code 0).postErr gatePage (Reg.GATE_CMD % 4096) e.code
    s.postsGate t c e.code s.gate ∧ s.regsOutside (gateResultRegs ++ errRegs gatePage) t ∧ Moves 257 s t := by
  intro t
  have hout := State.postErr_regsOutside (s.gatePost c e.code 0) gatePage (Reg.GATE_CMD % 4096) e.code
  refine ⟨⟨?_, ?_⟩, fun a ha => ?_, (State.postErr_moves ..).step (by decide) ((State.gatePost_moves ..).step (m := 257) (by decide) Moves.refl)⟩
  · exact State.posted_of_rd_eq (hout _ (by decide)) (State.gatePost_posted s c e.code 0 hi)
  · exact ((State.postErr_moves ..).gate_eq rfl).trans (State.gatePost_gate s c e.code 0)
  · rw [List.mem_append, not_or] at ha
    rw [hout _ ha.2, State.gatePost_regsOutside _ _ _ _ _ ha.1]

/-- Settles O9: each outcome is a result posted over a state whose gate is known. -/
theorem gateAcceptanceQueuesRecords : Obligations.GateAcceptanceQueuesRecords := by
  intro c s hc hi u gen posts put
  have hu : u = s.gateTaken := rfl
  clear_value u
  subst hu
  have posts_of : ∀ {status : Nat} {t : State} {g : Gate}, s.gateTaken.postsGate t c status g → g.cmd = none → posts status t :=
    fun h hg => ⟨h.posted, h.gate ▸ hg⟩
  refine ⟨fun e he => ?_, fun op he hop => ?_, fun he ho => ?_, fun he ho => ?_, fun he ho hne hcls => ?_, fun he ho => ?_⟩
  · obtain ⟨hp, hout, hm⟩ := State.gateErr_posts (s := s.gateTaken) (c := c) e hi
    exact ⟨_, exec_gateAcceptance_err hc he, posts_of hp rfl, hp.gate, State.postErr_code _ _ _ _ e.code_lt, State.postErr_offset _ _ _ _ (by decide),
      State.postErr_event _ _ _ _, hout, State.gateTaken_only hm rfl⟩
  · have hdo : s.gateTaken.gateDo c = s.gateTaken.acceptChange c op := by simp only [State.gateDo, hop]
    refine ⟨_, exec_gateAcceptance_ok hc he, ?_⟩
    rw [hdo]
    cases htxn : s.gate.txnOpen with
    | true =>
      have hp := State.acceptChange_txn (s := s.gateTaken) (op := op) hi htxn
      rw [hp.gate]
      exact ⟨posts_of hp rfl, rfl, htxn, fun _ => ⟨rfl, rfl⟩, fun h => nomatch h⟩
    | false =>
      obtain ⟨hp, heff⟩ := State.acceptChange_alone (s := s.gateTaken) (op := op) hi htxn
      rw [hp.gate]
      refine ⟨posts_of hp rfl, rfl, htxn, fun h => (nomatch h), fun _ hcl => ?_⟩
      rw [heff, State.commitBoundary_tick hcl]
      exact ⟨rfl, rfl, rfl⟩
  · obtain ⟨hp, hin, hout, hm⟩ := State.gateDo_read (s := s.gateTaken) (c := c) hi ho
    exact ⟨_, exec_gateAcceptance_ok hc he, posts_of hp rfl, hp.gate, hin, hout, State.gateTaken_only hm rfl⟩
  · obtain ⟨hp, hm⟩ := State.gateDo_open (s := s.gateTaken) (c := c) hi ho
    exact ⟨_, exec_gateAcceptance_ok hc he, posts_of hp rfl, hp.gate, State.gateTaken_only hm rfl⟩
  · obtain ⟨g, l, hl⟩ := List.exists_cons_of_ne_nil hne
    obtain ⟨hp, heff⟩ := State.gateDo_commit (s := s.gateTaken) (c := c) hi ho hl
    have hk := State.commitBoundary_tick (s := s.gateTaken.txnClosed) (records := g :: l) (hcls g (hl ▸ List.mem_cons_self))
    refine ⟨_, exec_gateAcceptance_ok hc he, posts_of hp rfl, ?_, ?_⟩
    · rw [hp.gate, hk, hl]
      rfl
    · rw [heff, hk]
      rfl
  · have hp := State.gateDo_abort (s := s.gateTaken) (c := c) hi ho
    exact ⟨_, exec_gateAcceptance_ok hc he, posts_of hp rfl, hp.gate⟩

end Sys2Proof.Machine
end

section
/-! The clock run to an instant, and the RTCP packets that wait for a tick (R94, R97; log entries 5 and 32). -/

namespace Sys2Proof.Machine

/-! ### The clock runs to an instant -/

/-- The counts wrap, so the clock never reads past what it is set to. -/
theorem Clock.putUnits_units_le (c : Clock) (v : Nat) : (c.putUnits v).units ≤ v := by
  simp only [Clock.putUnits, Clock.units]
  have hsec := Nat.mod_le (v / 2 ^ 38 / 1000000000) (2 ^ 48)
  omega

/-- The instant a clock shows n cycles and p units later. -/
theorem Clock.toNs_advance (c : Clock) (addend : Word) (n p : Nat) :
    ({ c.advance addend n with past := p } : Clock).toNs = ((c.putUnits (c.units + n * cycleUnits addend)).units + p) / 2 ^ 38 := by
  simp only [Clock.toNs, Clock.units, Clock.advance]

/-- Whole cycles and a part of one bring a clock no further than the instant t they are counted to. -/
theorem Clock.toNs_advance_le {c : Clock} {t : Nat} (h : c.toNs < t) (addend : Word) :
    ({ c.advance addend ((t * 2 ^ 38 - c.units) / cycleUnits addend) with past := (t * 2 ^ 38 - c.units) % cycleUnits addend } : Clock).toNs ≤ t := by
  have hunits := c.putUnits_units_le (c.units + (t * 2 ^ 38 - c.units) / cycleUnits addend * cycleUnits addend)
  have hparts := Nat.div_add_mod' (t * 2 ^ 38 - c.units) (cycleUnits addend)
  rw [Clock.toNs] at h
  rw [Clock.toNs_advance]
  omega

/-- The clock brought to instant t, beyond which it does not read. -/
theorem State.runTo_cases (s : State) (t : Nat) : ∃ c : Clock, s.runTo t = { s with clk := c } ∧ c.toNs ≤ Nat.max s.now t := by
  unfold State.runTo
  split
  case isFalse => exact ⟨s.clk, rfl, Nat.le_max_left ..⟩
  case isTrue h => exact ⟨_, rfl, Nat.le_trans (Clock.toNs_advance_le h _) (Nat.le_max_right ..)⟩

/-- A report or a retry whose tick has not been passed is not late for it. -/
theorem State.lnow_runTo_le {s : State} {k : Nat} (h : s.now ≤ k * 1000000 + s.lag) : (s.runTo (k * 1000000 + s.lag)).lnow ≤ k * 1000000 := by
  obtain ⟨c, hc, hle⟩ := s.runTo_cases (k * 1000000 + s.lag)
  rw [hc]
  have hnow : c.toNs ≤ k * 1000000 + s.lag := Nat.le_trans hle (Nat.max_le.mpr ⟨h, Nat.le_refl _⟩)
  exact Nat.sub_le_iff_le_add.mpr hnow

theorem State.runTo_leg (s : State) (t l : Nat) : (s.runTo t).leg l = s.leg l := by
  obtain ⟨c, hc, -⟩ := s.runTo_cases t
  rw [hc]
  rfl

theorem State.runTo_legRec (s : State) (t l : Nat) : (s.runTo t).legRec l = s.legRec l := by
  obtain ⟨c, hc, -⟩ := s.runTo_cases t
  rw [hc]
  rfl

theorem State.runTo_vstr (s : State) (t v : Nat) : (s.runTo t).vstr v = s.vstr v := by
  obtain ⟨c, hc, -⟩ := s.runTo_cases t
  rw [hc]
  rfl

theorem State.runTo_pkts (s : State) (t : Nat) : (s.runTo t).pkts = s.pkts := (s.runTo_moves t).frame .pkts rfl

theorem State.runTo_rd (s : State) (t a : Nat) : (s.runTo t).rd a = s.rd a := (s.runTo_moves t).rd_eq rfl a

/-! ### RTCP packets (R94, R97, log entry 32) -/

/-- Nothing on the way turns an RTCP packet of leg l for tick k away. -/
structure State.takesRtcp (s : State) (l k : Nat) : Prop where
  active : s.mediaOff = false
  pktout : s.quiescing 0x27000 = false
  srtp : s.quiescing 0x2C000 = true → LEG.PROFILE (s.legRec l) = 0
  inTime : s.lnow ≤ readyInstant l k

theorem State.takesRtcp.setLeg {s : State} {l k : Nat} (h : s.takesRtcp l k) (m : Nat) (g : Leg) : (s.setLeg m g).takesRtcp l k :=
  ⟨h.active, h.pktout, h.srtp, h.inTime⟩

theorem State.takesRtcp.setVstr {s : State} {l k : Nat} (h : s.takesRtcp l k) (v : Nat) (x : Vstr) : (s.setVstr v x).takesRtcp l k :=
  ⟨h.active, h.pktout, h.srtp, h.inTime⟩

/-- A packet that waits under the next number. -/
def State.waiting (s : State) (p : TxPkt) : State := { s with nextPkt := s.nextPkt + 1, pkts := s.pkts.set (fun _ => none) s.nextPkt (some p) }

/-- An RTCP packet is turned away, counted as late, or waits; no queue holds it. -/
theorem State.enqueuePkt_rtcp (s : State) (l ostr len tick ts : Nat) (marker : Bool) (ext pay : List Byte) (plane : Option Nat) :
    s.enqueuePkt l .rtcp ostr len tick ts marker ext pay plane =
      if s.mediaOff || s.quiescing 0x27000 || (s.quiescing 0x2C000 && decide (LEG.PROFILE (s.legRec l) ≠ 0)) then s
      else if readyInstant l tick < s.lnow then (s.bump Fld.PKTOUT_LATE_COUNT).contained
      else s.waiting ⟨s.nextPkt, l, .rtcp, ostr, len, readyInstant l tick, ts, marker, ext, pay, plane⟩ := by
  simp only [State.enqueuePkt, videoKind, Bool.false_and, Bool.or_false, Bool.false_eq_true, if_false]
  rfl

theorem State.enqueuePkt_rtcp_waits {s : State} {l tick : Nat} (h : s.takesRtcp l tick) (ostr len ts : Nat) (marker : Bool) (ext pay : List Byte)
    (plane : Option Nat) : s.enqueuePkt l .rtcp ostr len tick ts marker ext pay plane =
      s.waiting ⟨s.nextPkt, l, .rtcp, ostr, len, readyInstant l tick, ts, marker, ext, pay, plane⟩ := by
  have hsrtp : (s.quiescing 0x2C000 && decide (LEG.PROFILE (s.legRec l) ≠ 0)) = false := by
    cases hq : s.quiescing 0x2C000 with
    | false => rfl
    | true => simp [h.srtp hq]
  rw [State.enqueuePkt_rtcp, h.active, h.pktout, hsrtp, if_neg (by decide), if_neg (Nat.not_lt.mpr h.inTime)]

/-- What an RTCP packet may change when it reaches the release stage: the packets, or the counts of late ones. -/
theorem State.enqueuePkt_rtcp_frame (s : State) (l ostr len tick ts : Nat) (marker : Bool) (ext pay : List Byte) (plane : Option Nat) :
    let t := s.enqueuePkt l .rtcp ostr len tick ts marker ext pay plane
    s.regsOutside [Reg.PKTOUT_LATE, Reg.FAULT_CONTAINED] t ∧ Moves (maskOf [.regs, .pkts, .nextPkt]) s t := by
  rw [State.enqueuePkt_rtcp]
  split
  · exact ⟨fun _ _ => rfl, Moves.refl⟩
  split
  · refine ⟨fun a ha => ?_, (State.contained_moves ..).step (by decide) ((State.bump_moves ..).step (by decide) Moves.refl)⟩
    simp only [List.mem_cons, List.not_mem_nil, or_false, not_or] at ha
    rw [State.contained, State.rd_bump _ _ _ _ ha.2, State.rd_bump _ _ _ _ ha.1]
  · exact ⟨fun _ _ => rfl, (Moves.set_pkts_nextPkt ..).step (by decide) Moves.refl⟩

/-- A waiting packet with which RTCP of leg l for tick k leaves. -/
def rtcpEntry (l k : Nat) (p : Nat × Option TxPkt) : Bool := match p.2 with | some x => rtcpFor l k x | none => false

/-- The packet with feedback items added to it. -/
def TxPkt.joined (x : TxPkt) (items : List Byte) : TxPkt := { x with pay := x.pay ++ items, len := x.len + items.length }

/-- RTCP for a tick joins the packet that waits for it, or begins one with the leg's report. -/
theorem State.sendRtcp_eq (s : State) (l k : Nat) (items : List Byte) : s.sendRtcp l k items =
    match s.pkts.find? (rtcpEntry l k) with
    | some q => { s with pkts := s.pkts.set (fun _ => none) q.1 (q.2.map (fun x => x.joined items)) }
    | none => (s.reportHead l k).2.enqueuePkt l .rtcp 0
        (rtcpOverhead ((s.reportHead l k).2.legRec l) + (s.reportHead l k).1.length + items.length) k 0 false [] ((s.reportHead l k).1 ++ items) := rfl

theorem State.sendRtcp_joins {s : State} {l k id : Nat} {o : Option TxPkt} (h : s.pkts.find? (rtcpEntry l k) = some (id, o)) (items : List Byte) :
    s.sendRtcp l k items = { s with pkts := s.pkts.set (fun _ => none) id (o.map (fun x => x.joined items)) } := by
  rw [State.sendRtcp_eq, h]

theorem State.sendRtcp_begins {s : State} {l k : Nat} (h : s.pkts.find? (rtcpEntry l k) = none) (items : List Byte) :
    ∃ len, s.sendRtcp l k items = (s.reportHead l k).2.enqueuePkt l .rtcp 0 len k 0 false [] ((s.reportHead l k).1 ++ items) :=
  ⟨_, by rw [State.sendRtcp_eq, h]⟩

/-- The leg after a report in tick k. -/
def Leg.reported (g : Leg) (k : Nat) : Leg :=
  { g with rx := Sparse.mapAll (fun _ => {}) (fun _ (x : RxStat) => x.reported) g.rx, reports := (k :: g.reports).take 2 }

theorem State.reportHead_state (s : State) (l k : Nat) : (s.reportHead l k).2 = s.setLeg l ((s.leg l).reported k) := rfl

/-- A report is an SR or an RR in the leg's name, and then SDES. -/
theorem State.reportHead_bytes (s : State) (l k : Nat) : ∃ n body, (s.reportHead l k).1 =
    rtcpPacket n (if (s.leg l).sender (s.legRec l) then 200 else 201) (beBytes 4 (LEG.LOCAL_SSRC (s.legRec l)) ++ body) ++ sdesPacket (s.legRec l) :=
  ⟨_, _, by simp only [State.reportHead, List.append_assoc]; rfl⟩

/-- Sending RTCP changes of the legs only what leg l keeps of its reports. -/
theorem State.sendRtcp_leg (s : State) (l k : Nat) (items : List Byte) (m : Nat) :
    (s.sendRtcp l k items).leg m = s.leg m ∨ (m = l ∧ (s.sendRtcp l k items).leg m = (s.leg l).reported k) := by
  cases h : s.pkts.find? (rtcpEntry l k) with
  | some q =>
    rw [State.sendRtcp_joins h]
    exact .inl rfl
  | none =>
    obtain ⟨len, he⟩ := State.sendRtcp_begins h items
    have hlegs : (s.sendRtcp l k items).legs = (s.setLeg l ((s.leg l).reported k)).legs := by
      rw [he]
      exact (State.enqueuePkt_rtcp_frame ..).2.frame .legs rfl
    have hleg : (s.sendRtcp l k items).leg m = if m = l then (s.leg l).reported k else s.leg m := by
      rw [← State.setLeg_leg, State.leg, hlegs]
      rfl
    by_cases hm : m = l
    · exact .inr ⟨hm, by rw [hleg, if_pos hm]⟩
    · exact .inl (by rw [hleg, if_neg hm])

theorem State.sendRtcp_leg_other (s : State) (l k : Nat) (items : List Byte) {m : Nat} (hm : m ≠ l) : (s.sendRtcp l k items).leg m = s.leg m :=
  (s.sendRtcp_leg l k items m).elim id fun h => absurd h.1 hm

theorem State.sendRtcp_leg_reports (s : State) (l k : Nat) (items : List Byte) (m : Nat) :
    (s.sendRtcp l k items).leg m =
      { s.leg m with rx := ((s.sendRtcp l k items).leg m).rx, reports := ((s.sendRtcp l k items).leg m).reports } := by
  rcases s.sendRtcp_leg l k items m with h | ⟨rfl, h⟩
  · rw [h]
  · rw [h]
    rfl

/-- What sending RTCP may change, taken or not. -/
theorem State.sendRtcp_frame (s : State) (l k : Nat) (items : List Byte) :
    s.regsOutside [Reg.PKTOUT_LATE, Reg.FAULT_CONTAINED] (s.sendRtcp l k items) ∧
      Moves (maskOf [.regs, .legs, .pkts, .nextPkt]) s (s.sendRtcp l k items) := by
  cases h : s.pkts.find? (rtcpEntry l k) with
  | some q =>
    rw [State.sendRtcp_joins h]
    exact ⟨fun _ _ => rfl, (Moves.set_pkts ..).step (by decide) Moves.refl⟩
  | none =>
    obtain ⟨len, he⟩ := State.sendRtcp_begins h items
    obtain ⟨hout, hm⟩ := State.enqueuePkt_rtcp_frame (s.reportHead l k).2 l 0 len k 0 false [] ((s.reportHead l k).1 ++ items) none
    rw [he]
    exact ⟨hout, hm.step (by decide) ((State.setLeg_moves s l _).step (by decide) Moves.refl)⟩

/-- Packet p waits in t under number id, for tick k, and ends with the items; no other packet differs from those of s. -/
structure State.rtcpWaits (s t : State) (l k : Nat) (items : List Byte) (id : Nat) (p : TxPkt) : Prop where
  waits : t.pkt id = some p
  due : rtcpFor l k p = true
  others : ∀ i, i ≠ id → t.pkt i = s.pkt i
  ends : ∃ first, p.pay = first ++ items

/-- One packet set in the table of packets that wait. -/
theorem State.rtcpWaits_of_set {s t : State} {l k id : Nat} {p : TxPkt} {items first : List Byte} (h : t.pkts = s.pkts.set (fun _ => none) id (some p))
    (hdue : rtcpFor l k p = true) (hends : p.pay = first ++ items) : s.rtcpWaits t l k items id p := by
  refine ⟨?_, hdue, fun i hi => ?_, first, hends⟩
  · rw [State.pkt, h, Sparse.get_set, if_pos rfl]
  · rw [State.pkt, h, Sparse.get_set, if_neg hi]
    rfl

/-- RTCP that is taken waits, with what waited for its tick already or behind a new report. -/
theorem State.sendRtcp_waits {s : State} {l k : Nat} (htake : s.takesRtcp l k) (items : List Byte) :
    let t := s.sendRtcp l k items
    Moves (maskOf [.legs, .pkts, .nextPkt]) s t ∧ ∃ id p, s.rtcpWaits t l k items id p ∧
      ((∀ x ∈ s.pkts, rtcpEntry l k x = false) → t.leg l = (s.leg l).reported k ∧ p.pay = (s.reportHead l k).1 ++ items) := by
  cases h : s.pkts.find? (rtcpEntry l k) with
  | some q =>
    have hq : rtcpEntry l k q = true := List.find?_some h
    have hmem : q ∈ s.pkts := List.mem_of_find?_eq_some h
    obtain ⟨id, o⟩ := q
    cases o with
    | none => exact absurd hq (by simp [rtcpEntry])
    | some x =>
      rw [State.sendRtcp_joins h]
      refine ⟨(Moves.set_pkts ..).step (by decide) Moves.refl, id, x.joined items, State.rtcpWaits_of_set rfl hq rfl, fun hnone => ?_⟩
      exact absurd hq (by rw [hnone _ hmem]; decide)
  | none =>
    obtain ⟨len, he⟩ := State.sendRtcp_begins h items
    have htake' : (s.reportHead l k).2.takesRtcp l k := htake.setLeg ..
    rw [he, State.enqueuePkt_rtcp_waits htake', State.reportHead_state]
    refine ⟨(Moves.set_pkts_nextPkt ..).step (by decide) ((State.setLeg_moves ..).step (by decide) Moves.refl), s.nextPkt, _,
      State.rtcpWaits_of_set rfl (by simp [rtcpFor]) rfl, fun _ => ⟨?_, rfl⟩⟩
    exact (State.setLeg_leg ..).trans (if_pos rfl)

end Sys2Proof.Machine
end

section
/-! What each due action of a leg, a stream or a TDM port leaves (R97, R98, R103, R107, R113, R118, R119, R512). -/

namespace Sys2Proof.Machine

/-! ### RTCP_REPORT (R97) -/

theorem State.setLeg_legRec (s : State) (l m : Nat) (g : Leg) : (s.setLeg l g).legRec m = s.legRec m := rfl

theorem State.setVstr_leg (s : State) (v m : Nat) (x : Vstr) : (s.setVstr v x).leg m = s.leg m := rfl

/-- Packets are found in the table of those that wait. -/
theorem State.pkt_of_pkts {s t : State} (h : t.pkts = s.pkts) (i : Nat) : t.pkt i = s.pkt i := by rw [State.pkt, h, State.pkt]

/-- The leg with its next report instant drawn from its LFSR (R97). -/
def Leg.nextReportDrawn (g : Leg) (r : Nat) : Leg :=
  { g with lfsr := lfsrNext g.lfsr, nextReport := g.nextReport + LEG.RTCP_INT r * (32768 + lfsrNext g.lfsr) / 65536 }

/-- The state at leg l's report instant, its next one drawn. -/
def State.atReport (s : State) (l : Nat) : State :=
  (s.runTo ((s.leg l).nextReport * 1000000 + s.lag)).setLeg l ((s.leg l).nextReportDrawn (s.legRec l))

theorem exec_rtcpReport {l : Nat} {s : State} (hn : (s.leg l).state ≠ .none) (hp : (s.leg l).state ≠ .pending) (ht : LEG.TRANSPORT (s.legRec l) = 0)
    (ha : s.mediaOff = false) : exec (.rtcpReport l) s = .next ((s.atReport l).sendRtcp l (s.leg l).nextReport []) := by
  show execRtcpReport l s = _
  simp only [execRtcpReport, ha, hn, hp, ht]
  rfl

theorem State.atReport_leg (s : State) (l m : Nat) : (s.atReport l).leg m = if m = l then (s.leg l).nextReportDrawn (s.legRec l) else s.leg m := by
  rw [State.atReport, State.setLeg_leg, State.runTo_leg]

theorem State.atReport_legRec (s : State) (l m : Nat) : (s.atReport l).legRec m = s.legRec m := by
  rw [State.atReport, State.setLeg_legRec, State.runTo_legRec]

theorem State.atReport_pkts (s : State) (l : Nat) : (s.atReport l).pkts = s.pkts := by rw [State.atReport, State.setLeg_pkts, State.runTo_pkts]

theorem State.atReport_moves (s : State) (l : Nat) : Moves (maskOf [.clk, .legs]) s (s.atReport l) :=
  (State.setLeg_moves ..).step (by decide) ((State.runTo_moves ..).step (by decide) Moves.refl)

/-- A tick's ready instant follows its boundary. -/
theorem readyInstant_ge (l k : Nat) : k * 1000000 ≤ readyInstant l k := by
  unfold readyInstant
  omega

/-- When the clock has run to tick k, RTCP for that tick is in time. -/
theorem State.takesRtcp_runTo {s : State} {l k : Nat} (ha : s.mediaOff = false) (hp : s.quiescing 0x27000 = false)
    (hs : s.quiescing 0x2C000 = true → LEG.PROFILE (s.legRec l) = 0) (ht : s.now ≤ k * 1000000 + s.lag) :
    (s.runTo (k * 1000000 + s.lag)).takesRtcp l k := by
  have hin := Nat.le_trans (State.lnow_runTo_le ht) (readyInstant_ge l k)
  obtain ⟨c, hc, -⟩ := s.runTo_cases (k * 1000000 + s.lag)
  rw [hc] at hin ⊢
  exact ⟨ha, hp, hs, hin⟩

/-- The next instant is drawn, and the report waits for the due tick. -/
theorem rtcpReport_sends {l : Nat} {s : State} (hn : (s.leg l).state ≠ .none) (hpd : (s.leg l).state ≠ .pending) (htr : LEG.TRANSPORT (s.legRec l) = 0)
    (ht : s.now ≤ (s.leg l).nextReport * 1000000 + s.lag) (ha : s.mediaOff = false) (hp : s.quiescing 0x27000 = false)
    (hs : s.quiescing 0x2C000 = true → LEG.PROFILE (s.legRec l) = 0) :
    let g := s.leg l
    let r := s.legRec l
    ∃ t, exec (.rtcpReport l) s = .next t ∧ t.leg l = { g.nextReportDrawn r with rx := (t.leg l).rx, reports := (t.leg l).reports } ∧
      (∀ m, m ≠ l → t.leg m = s.leg m) ∧
      (∃ (id : Nat) (p : TxPkt), t.pkt id = some p ∧ rtcpFor l g.nextReport p = true ∧ (∀ i, i ≠ id → t.pkt i = s.pkt i) ∧
        ((∀ x ∈ s.pkts, ∀ q, x.2 = some q → rtcpFor l g.nextReport q = false) → (t.leg l).reports = (g.nextReport :: g.reports).take 2 ∧
          ∃ n body, p.pay = rtcpPacket n (if g.sender r then 200 else 201) (beBytes 4 (LEG.LOCAL_SSRC r) ++ body) ++ sdesPacket r)) ∧
      s.changesOnly [.clk, .legs, .pkts, .nextPkt] t := by
  intro g r
  have htake : (s.atReport l).takesRtcp l g.nextReport := (State.takesRtcp_runTo ha hp hs ht).setLeg ..
  have hleg : (s.atReport l).leg l = g.nextReportDrawn r := by rw [State.atReport_leg, if_pos rfl]
  obtain ⟨hmoves, id, p, hw, hfirst⟩ := State.sendRtcp_waits htake []
  refine ⟨_, exec_rtcpReport hn hpd htr ha, ?_, fun m hm => ?_, ⟨id, p, hw.waits, hw.due, fun i hi => ?_, fun hnone => ?_⟩,
    (hmoves.step (by decide) ((s.atReport_moves l).step (by decide) Moves.refl)).only rfl⟩
  · rw [← hleg]
    exact State.sendRtcp_leg_reports ..
  · rw [State.sendRtcp_leg_other _ _ _ _ hm, State.atReport_leg, if_neg hm]
  · rw [hw.others i hi, State.pkt_of_pkts (s.atReport_pkts l)]
  · have hno : ∀ x ∈ (s.atReport l).pkts, rtcpEntry l g.nextReport x = false := by
      intro x hx
      rw [State.atReport_pkts] at hx
      unfold rtcpEntry
      split
      · exact hnone x hx _ ‹_›
      · rfl
    obtain ⟨hreported, hpay⟩ := hfirst hno
    refine ⟨by rw [hreported, hleg]; rfl, ?_⟩
    obtain ⟨n, body, hhead⟩ := (s.atReport l).reportHead_bytes l g.nextReport
    refine ⟨n, body, ?_⟩
    rw [hpay, List.append_nil, hhead, hleg, State.atReport_legRec]
    rfl

/-! ### NACK_RETRY (R98) -/

/-- The stream with packet seq asked for a second time. -/
def Vstr.askedAgain (x : Vstr) (seq : Nat) : Vstr := { x with missing := x.missing.map (fun k => if k.seq = seq then { k with sent := 2 } else k) }

/-- The state at tick k in which packet seq of VSTR v is asked for again. -/
def State.atRetry (s : State) (v seq k : Nat) : State := (s.runTo (k * 1000000 + s.lag)).setVstr v ((s.vstr v).askedAgain seq)

theorem State.atRetry_leg (s : State) (v seq k m : Nat) : (s.atRetry v seq k).leg m = s.leg m := by
  rw [State.atRetry, State.setVstr_leg, State.runTo_leg]

theorem State.atRetry_pkts (s : State) (v seq k : Nat) : (s.atRetry v seq k).pkts = s.pkts := by rw [State.atRetry, State.setVstr_pkts, State.runTo_pkts]

theorem State.atRetry_vstr (s : State) (v seq k w : Nat) : (s.atRetry v seq k).vstr w = if w = v then (s.vstr v).askedAgain seq else s.vstr w := by
  rw [State.atRetry, State.setVstr_vstr, State.runTo_vstr]

theorem State.atRetry_rd (s : State) (v seq k a : Nat) : (s.atRetry v seq k).rd a = s.rd a := by rw [State.atRetry, State.setVstr_rd, State.runTo_rd]

theorem State.atRetry_moves (s : State) (v seq k : Nat) : Moves (maskOf [.clk, .vstrs]) s (s.atRetry v seq k) :=
  (State.setVstr_moves ..).step (by decide) ((State.runTo_moves ..).step (by decide) Moves.refl)

/-- The leg whose stream VSTR v is. -/
def State.vstrLeg (s : State) (v : Nat) : Nat := VSTR.LEG ((s.effRec 6 v).getD 0)

/-- The generic NACK for one packet of VSTR v. -/
def State.retryNack (s : State) (v seq : Nat) : List Byte :=
  rtcpNack (LEG.LOCAL_SSRC (s.legRec (s.vstrLeg v))) (VSTR.SSRC ((s.effRec 6 v).getD 0)) [seq]

/-- The tick in which a missing packet is asked for again. -/
def State.retryTick (s : State) (v : Nat) (m : Missing) : Nat := m.sentAt + nackWait (((s.leg (s.vstrLeg v)).cc.rtt).getD 0)

section NackRetry

variable {v seq : Nat} {m : Missing} {s : State} (hm : (s.vstr v).missing.find? (fun m => decide (m.seq = seq)) = some m) (h1 : m.sent = 1)
  (hl : s.vstrLeg v < 0x8000) (hn : LEG.NACK_EN (s.legRec (s.vstrLeg v)) = 1) (ha : s.mediaOff = false)

include hm h1 hl hn ha

theorem exec_nackRetry :
    let k := s.retryTick v m
    exec (.nackRetry v seq) s = .next ((s.atRetry v seq k).sendRtcp (s.vstrLeg v) (Nat.max k (s.runTo (k * 1000000 + s.lag)).ltick) (s.retryNack v seq)) := by
  intro k
  obtain ⟨c, hc, -⟩ := s.runTo_cases (k * 1000000 + s.lag)
  have hgo : m.sent = 1 ∧ s.vstrLeg v < 0x8000 ∧ LEG.NACK_EN (s.legRec (s.vstrLeg v)) = 1 := ⟨h1, hl, hn⟩
  have hk : m.sentAt + nackWait (((s.leg (s.vstrLeg v)).cc.rtt).getD 0) = k := rfl
  have hleg : VSTR.LEG ((s.effRec 6 v).getD 0) = s.vstrLeg v := rfl
  show execNackRetry v seq s = _
  simp only [execNackRetry, ha, hm, hleg, hk, if_pos hgo, Bool.false_eq_true, if_false, State.atRetry, hc]
  rfl

/-- The packet is asked for once more; the NACK waits unless it is late or a block on its way quiesces. -/
theorem nackRetry_asksAgain :
    let l := s.vstrLeg v
    let due := s.retryTick v m
    ∃ t, exec (.nackRetry v seq) s = .next t ∧ t.vstr v = (s.vstr v).askedAgain seq ∧
      (∀ w, w ≠ v → t.vstr w = s.vstr w) ∧ (∀ k, t.leg k = { s.leg k with rx := (t.leg k).rx, reports := (t.leg k).reports }) ∧
      (s.quiescing 0x27000 = false → s.quiescing 0x2C000 = false → s.now ≤ due * 1000000 + s.lag → ∃ (id : Nat) (p : TxPkt) (first : List Byte),
        t.pkt id = some p ∧ rtcpFor l due p = true ∧ (∀ i, i ≠ id → t.pkt i = s.pkt i) ∧ p.pay = first ++ s.retryNack v seq) ∧
      s.regsOutside [Reg.PKTOUT_LATE, Reg.FAULT_CONTAINED] t ∧ s.changesOnly [.regs, .clk, .legs, .pkts, .nextPkt, .vstrs] t := by
  intro l due
  let k := Nat.max due (s.runTo (due * 1000000 + s.lag)).ltick
  obtain ⟨hout, hmoves⟩ := (s.atRetry v seq due).sendRtcp_frame l k (s.retryNack v seq)
  have hvstr : ∀ w, ((s.atRetry v seq due).sendRtcp l k (s.retryNack v seq)).vstr w = (s.atRetry v seq due).vstr w := fun w => by
    rw [State.vstr, show State.vstrs _ = _ from hmoves.frame .vstrs rfl]
    rfl
  refine ⟨_, exec_nackRetry hm h1 hl hn ha, ?_, fun w hw => ?_, fun j => ?_, fun hp hs ht => ?_, fun a h => ?_,
    (hmoves.step (by decide) ((s.atRetry_moves v seq due).step (by decide) Moves.refl)).only rfl⟩
  · exact (hvstr v).trans (by rw [State.atRetry_vstr, if_pos rfl])
  · exact (hvstr w).trans (by rw [State.atRetry_vstr, if_neg hw])
  · rw [← s.atRetry_leg v seq due j]
    exact State.sendRtcp_leg_reports ..
  · have htick : Nat.max due (s.runTo (due * 1000000 + s.lag)).ltick = due :=
      Nat.max_eq_left (Nat.div_le_of_le_mul (Nat.mul_comm due _ ▸ State.lnow_runTo_le ht))
    have htake : (s.atRetry v seq due).takesRtcp l due :=
      (State.takesRtcp_runTo ha hp (fun h => absurd h (by rw [hs]; decide)) ht).setVstr ..
    obtain ⟨-, id, p, hw, -⟩ := State.sendRtcp_waits htake (s.retryNack v seq)
    obtain ⟨first, hends⟩ := hw.ends
    rw [htick]
    refine ⟨id, p, first, hw.waits, hw.due, fun i hi => (hw.others i hi).trans (State.pkt_of_pkts (s.atRetry_pkts v seq due) i), hends⟩
  · exact (hout a h).trans (s.atRetry_rd v seq due a)

end NackRetry

/-! ### JB_RECOMPUTE (R103, R105) -/

/-- A jitter target is a multiple of PTIME. -/
theorem jbTarget_dvd (r j95 : Nat) : LEG.PTIME r ∣ jbTarget r j95 := by
  unfold jbTarget
  extract_lets p
  split
  · exact Nat.dvd_zero _
  · rw [show Nat.max (p * ceilDiv j95 (2000000 * p)) (p * ceilDiv (LEG.JB_MIN r) p) = p * Nat.max (ceilDiv j95 (2000000 * p)) (ceilDiv (LEG.JB_MIN r) p) from
      Nat.mul_max_mul_left .., show Nat.min (p * _) (p * _) = p * Nat.min _ _ from Nat.mul_min_mul_left ..]
    exact Nat.dvd_mul_right ..

theorem jbTarget_le (r j95 : Nat) : jbTarget r j95 ≤ LEG.JB_MAX r := by
  unfold jbTarget
  extract_lets p
  split
  · exact Nat.zero_le _
  · exact Nat.le_trans (Nat.min_le_right ..) (Nat.mul_div_le ..)

/-- A jitter buffer with its target recomputed under record r, from the delays stamped at `since` or later. -/
def Jb.recomputed (b : Jb) (r since : Nat) : Jb :=
  let w := b.window.filter (fun w => decide (since ≤ w.1 + 10000000000))
  let target := jbTarget r (jbJ95 w)
  let run := if target + LEG.PTIME r ≤ b.depth then b.shrinkRun + 1 else 0
  { b with window := w, j95 := jbJ95 w, target := target, shrinkRun := run, growDue := decide (b.depth < target), dropDue := decide (2 ≤ run) }

theorem exec_jbRecompute {l : Nat} {s : State} (hb : (s.leg l).jb.based = true) (ha : s.mediaOff = false) :
    ∃ since u, exec (.jbRecompute l) s = .next (State.setLeg u l { s.leg l with jb := (s.leg l).jb.recomputed (s.legRec l) since }) ∧
      (∀ m, u.leg m = s.leg m) ∧
      Moves (maskOf [.clk]) s u := by
  let u := s.runTo (ceilDiv s.lnow 500000000 * 500000000 + s.lag)
  refine ⟨u.lnow, u, ?_, s.runTo_leg _, s.runTo_moves _⟩
  show execJbRecompute l s = _
  simp only [execJbRecompute, ha, hb, State.runTo_legRec, Jb.recomputed, Bool.not_true, Bool.false_eq_true, if_false, decide_eq_true_eq, u]

/-- The target follows the window, and the moves of the depth follow the target. -/
theorem jbRecompute_setsTarget {l : Nat} {s : State} (hb : (s.leg l).jb.based = true) (ha : s.mediaOff = false) :
    let r := s.legRec l
    ∃ t, exec (.jbRecompute l) s = .next t ∧
      (let b := (t.leg l).jb
       b.target = jbTarget r b.j95 ∧ b.j95 = jbJ95 b.window ∧ b.growDue = decide ((s.leg l).jb.depth < b.target) ∧ b.depth = (s.leg l).jb.depth ∧ b.frames = (s.leg l).jb.frames ∧
       (0 < LEG.PTIME r → b.target % LEG.PTIME r = 0) ∧ b.target ≤ LEG.JB_MAX r ∧ b.window.Sublist (s.leg l).jb.window ∧
       b.dropDue = decide (2 ≤ b.shrinkRun) ∧ b.shrinkRun = (if b.target + LEG.PTIME r ≤ b.depth then (s.leg l).jb.shrinkRun + 1 else 0)) ∧
      (∀ m, m ≠ l → t.leg m = s.leg m) ∧ s.changesOnly [.clk, .legs] t := by
  intro r
  obtain ⟨since, u, he, hlegs, hu⟩ := exec_jbRecompute hb ha
  refine ⟨_, he, ?_, fun m hm => ?_, ((State.setLeg_moves ..).step (by decide) (hu.step (m := maskOf [.clk, .legs]) (by decide) Moves.refl)).only rfl⟩
  · simp only [State.setLeg_leg, if_true]
    exact ⟨rfl, rfl, rfl, rfl, rfl, fun _ => Nat.mod_eq_zero_of_dvd (jbTarget_dvd ..), jbTarget_le .., List.filter_sublist, rfl, rfl⟩
  · rw [State.setLeg_leg, if_neg hm, hlegs]

/-! ### RX_IDLE (R118) -/

/-- The instant at which leg l has heard nothing for its receive time-out, from its effect tick until its first packet (log entry 18). -/
def State.idleInstant (s : State) (l : Nat) : Nat :=
  (s.leg l).lastRxAt.getD ((s.leg l).effectTick * 1000000) + LEG.RX_TIMEOUT (s.legRec l) * 100000000 + s.lag

/-- The leg is marked before its event is posted, so the post may change what event queues share but no leg. -/
theorem rxIdle_marksAndPosts {l : Nat} {s : State} (hst : (s.leg l).state = .active ∨ (s.leg l).state = .txStopped) (htr : LEG.TRANSPORT (s.legRec l) = 0)
    (hto : LEG.RX_TIMEOUT (s.legRec l) ≠ 0) (hidle : (s.leg l).idle = false) (ha : s.mediaOff = false) :
    ∃ u, exec (.rxIdle l) s = .next (u.post (LEG.EVQ (s.legRec l)) 0x01 0x03 l 0) ∧ u.leg l = { s.leg l with idle := true } ∧
      (∀ m, m ≠ l → u.leg m = s.leg m) ∧ s.changesOnly [.clk, .legs] u := by
  have hgo : ((s.leg l).state = .active ∨ (s.leg l).state = .txStopped) ∧ LEG.TRANSPORT (s.legRec l) = 0 ∧ LEG.RX_TIMEOUT (s.legRec l) ≠ 0 ∧ (s.leg l).idle = false :=
    ⟨hst, htr, hto, hidle⟩
  refine ⟨(s.runTo (s.idleInstant l)).setLeg l { s.leg l with idle := true }, ?_, ?_, fun m hm => ?_,
    ((State.setLeg_moves ..).step (by decide) ((State.runTo_moves ..).step (m := maskOf [.clk, .legs]) (by decide) Moves.refl)).only rfl⟩
  · show execRxIdle l s = _
    simp only [execRxIdle, ha, if_pos hgo, Bool.false_eq_true, if_false]
    rfl
  · rw [State.setLeg_leg, if_pos rfl]
  · rw [State.setLeg_leg, if_neg hm, State.runTo_leg]

/-! ### VIDEO_WAIT_EXPIRE (R107) -/

/-- In t the pictures that wait in each stream, and those released, are those of s. -/
def State.keepsPics (s t : State) : Prop := ∀ w, (t.vstr w).pics = (s.vstr w).pics ∧ (t.vstr w).released = (s.vstr w).released

theorem State.keepsPics.trans {s t u : State} (h : s.keepsPics t) (g : t.keepsPics u) : s.keepsPics u :=
  fun w => ⟨(g w).1.trans (h w).1, (g w).2.trans (h w).2⟩

theorem Moves.keepsPics {m : Nat} {s t : State} (h : Moves m s t) (hv : m.testBit 29 = false) : s.keepsPics t := by
  have hvstrs : t.vstrs = s.vstrs := h.frame .vstrs hv
  intro w
  simp only [State.vstr, hvstrs, and_self]

/-- A change of a stream that leaves its pictures alone. -/
theorem State.setVstr_keepsPics {s : State} {v : Nat} {x : Vstr} (hp : x.pics = (s.vstr v).pics) (hr : x.released = (s.vstr v).released) :
    s.keepsPics (s.setVstr v x) := by
  intro w
  rw [State.setVstr_vstr]
  split
  · next h => exact h ▸ ⟨hp, hr⟩
  · exact ⟨rfl, rfl⟩

theorem State.withdrawPli_keepsPics (s : State) (v : Nat) : s.keepsPics (s.withdrawPli v) := by
  unfold State.withdrawPli
  extract_lets x
  split
  · exact State.setVstr_keepsPics rfl rfl
  · exact fun _ => ⟨rfl, rfl⟩

/-- A release to decode withdraws at most a request for a picture. -/
theorem State.decodeRelease_keepsPics (s : State) (v r R t : Nat) (p : Pic) (absent : Bool) : s.keepsPics (s.decodeRelease v r R t p absent) := by
  unfold State.decodeRelease
  extract_lets x s1 here out j s2 clean s3
  have h1 : s.keepsPics s1 := (State.setDec_moves s v x).keepsPics rfl
  split
  · exact h1.trans ((State.setDec_moves ..).keepsPics rfl)
  · have h2 : s.keepsPics s2 := h1.trans ((State.setDec_moves ..).keepsPics rfl)
    have h3 : s.keepsPics s3 := by
      unfold s3
      split
      · exact h2.trans (State.withdrawPli_keepsPics _ _)
      · exact h2
    exact h3.trans ((State.submitTask_moves ..).keepsPics rfl)

/-- The stream with picture ts released; `missing` is what is still asked for. -/
def Vstr.picReleased (x : Vstr) (ts : Nat) (missing : List Missing) : Vstr :=
  { x with pics := x.pics.filter (fun p => decide (p.ts ≠ ts)), released := lastN 256 (x.released ++ [ts]), missing := missing }

/-- A released picture leaves its stream's buffer; forwarding and decoding take no other picture out. -/
theorem State.releasePic_keepsPics {s : State} {v ts : Nat} {p : Pic} (h : (s.vstr v).pics.find? (fun p => decide (p.ts = ts)) = some p) (R : Nat)
    (absent : Bool) : ∃ missing, (s.setVstr v ((s.vstr v).picReleased ts missing)).keepsPics (s.releasePic v ts R absent) := by
  unfold State.releasePic
  extract_lets x r
  split
  case h_1 hnone => exact absurd (h.symm.trans hnone) (by simp)
  case h_2 q _ =>
    extract_lets high s1 t s2
    have h2 : s1.keepsPics s2 := by
      unfold s2
      split
      · exact (State.forwardPic_moves ..).keepsPics rfl
      · exact fun _ => ⟨rfl, rfl⟩
    refine ⟨x.missing.filter (fun m => seqAbove m.seq high), ?_⟩
    split
    · exact h2.trans (State.decodeRelease_keepsPics _ _ _ _ _ _ _)
    · exact h2

/-- The instant at which the picture p of VSTR v has waited for VIDEO_WAIT. -/
def State.waitInstant (s : State) (v : Nat) (p : Pic) : Nat := boundaryNs (p.first + LEG.VIDEO_WAIT (s.legRec (VSTR.LEG (s.vstrRec v)))) + s.lag

/-- VIDEO_WAIT_EXPIRE of an incomplete picture releases it. -/
theorem exec_videoWaitExpire {v ts : Nat} {absent : Bool} {p : Pic} {s : State} (h : (s.vstr v).pics.find? (fun p => decide (p.ts = ts)) = some p)
    (hd : p.done = none) (ha : s.mediaOff = false) :
    ∃ R, exec (.videoWaitExpire v ts absent) s = .next ((s.runTo (s.waitInstant v p)).releasePic v ts R absent) := by
  refine ⟨Nat.max (p.first + LEG.VIDEO_WAIT (s.legRec (VSTR.LEG (s.vstrRec v)))) (s.runTo (s.waitInstant v p)).ltick, ?_⟩
  show execVideoWaitExpire v ts absent s = _
  simp only [execVideoWaitExpire, h, hd, ha, Option.isSome_none, Bool.false_eq_true, or_self, if_false]
  rfl

/-- A complete picture waits for no more packets. -/
theorem exec_videoWaitExpire_done {v ts : Nat} {absent : Bool} {p : Pic} {s : State} (h : (s.vstr v).pics.find? (fun p => decide (p.ts = ts)) = some p)
    (hd : p.done.isSome = true) : exec (.videoWaitExpire v ts absent) s = .next s := by
  show execVideoWaitExpire v ts absent s = _
  simp only [execVideoWaitExpire, h, hd, true_or, if_true]

theorem mem_lastN_append {α : Type} (n : Nat) (l : List α) (x : α) (hn : 0 < n) : x ∈ lastN n (l ++ [x]) := by
  rw [lastN, List.drop_append_of_le_length (by simp; omega)]
  exact List.mem_append_right _ (List.mem_singleton_self x)

theorem Vstr.mem_picReleased (x : Vstr) (ts : Nat) (missing : List Missing) : ts ∈ (x.picReleased ts missing).released := by
  simp only [Vstr.picReleased]
  exact mem_lastN_append 256 x.released ts (by decide)

/-- What is done with the released picture leaves every other waiting picture in its buffer. -/
theorem videoWaitExpire_releases {v ts : Nat} {absent : Bool} {p : Pic} {s : State} (h : (s.vstr v).pics.find? (fun p => decide (p.ts = ts)) = some p)
    (hd : p.done = none) (ha : s.mediaOff = false) :
    ∃ t, exec (.videoWaitExpire v ts absent) s = .next t ∧ (t.vstr v).pics = (s.vstr v).pics.filter (fun p => decide (p.ts ≠ ts)) ∧
      ts ∈ (t.vstr v).released ∧ (∀ w, w ≠ v → (t.vstr w).pics = (s.vstr w).pics ∧ (t.vstr w).released = (s.vstr w).released) := by
  obtain ⟨R, he⟩ := exec_videoWaitExpire (absent := absent) h hd ha
  have hvstr := s.runTo_vstr (s.waitInstant v p)
  obtain ⟨missing, hk⟩ := State.releasePic_keepsPics (s := s.runTo (s.waitInstant v p)) (by rw [hvstr]; exact h) R absent
  simp only [State.keepsPics, State.setVstr_vstr, hvstr] at hk
  obtain ⟨hpics, hreleased⟩ := hk v
  rw [if_pos rfl] at hpics hreleased
  refine ⟨_, he, hpics, ?_, fun w hw => by simpa only [if_neg hw] using hk w⟩
  rw [hreleased]
  exact Vstr.mem_picReleased ..

/-! ### TDM_FRAME_SYNC (R113, R114) -/

/-- Port n after a frame with the samples f, with the slots driven as d. -/
def State.tdmAfter (s : State) (n : Nat) (f : List Word) (d : List (Option Int)) : Tdm :=
  { s.tdmPort n with
    frames := (s.tdmPort n).frames ++ [f], driven := d,
    wire := tdmWire (s.on (Fld.TDMn_CFG_FS_LONG n)) (s.on (Fld.TDMn_CFG_FS_DELAY n)) (slotBits (s.tdmPort n).driven) (slotBits d) }

theorem exec_tdmFrameSync {n : Nat} {samples : List Word} {s : State} (hn : n < 4) (he : s.on (Fld.PG_CTRL_ENABLE (tdmPage n)) = true)
    (hx : s.on (Fld.TDMn_CFG_SYNC_EXT n) = true) (hq : s.quiescing (tdmPage n) = false) :
    exec (.tdmFrameSync n samples) s = .next (s.setTdm n (s.tdmAfter n
      ((samples.take (s.get (Fld.TDMn_CFG_SLOTS n) + 1)).map (rxMask (s.get (Fld.TDMn_CFG_RX_BITS n))))
      ((List.range (s.get (Fld.TDMn_CFG_SLOTS n) + 1)).map (fun i => s.tdmSlotOut n i (s.tdmPort n).frames.length)))) := by
  show execTdmFrameSync n samples s = _
  simp only [execTdmFrameSync, State.tdmFrame, hn, he, hx, hq, decide_true, Bool.and_self, if_true, Bool.false_eq_true, if_false]
  rfl

/-- The frame joins the receive block of its port and drives the port's slots. -/
theorem tdmFrameSync_drivesSlots {n : Nat} {samples : List Word} {s : State} (hn : n < 4) (he : s.on (Fld.PG_CTRL_ENABLE (tdmPage n)) = true)
    (hx : s.on (Fld.TDMn_CFG_SYNC_EXT n) = true) (hq : s.quiescing (tdmPage n) = false) :
    ∃ t, exec (.tdmFrameSync n samples) s = .next t ∧
      (t.tdmPort n).frames = (s.tdmPort n).frames ++ [(samples.take (s.get (Fld.TDMn_CFG_SLOTS n) + 1)).map (rxMask (s.get (Fld.TDMn_CFG_RX_BITS n)))] ∧
      (t.tdmPort n).driven = (List.range (s.get (Fld.TDMn_CFG_SLOTS n) + 1)).map (fun i => s.tdmSlotOut n i (s.tdmPort n).frames.length) ∧
      (t.tdmPort n).wire = tdmWire (s.on (Fld.TDMn_CFG_FS_LONG n)) (s.on (Fld.TDMn_CFG_FS_DELAY n)) (slotBits (s.tdmPort n).driven) (slotBits (t.tdmPort n).driven) ∧
      (∀ m, m ≠ n → t.tdmPort m = s.tdmPort m) ∧ s.changesOnly [.tdm] t := by
  refine ⟨_, exec_tdmFrameSync hn he hx hq, ?_⟩
  simp only [State.setTdm_tdmPort, if_true]
  exact ⟨rfl, rfl, rfl, fun m hm => if_neg hm, (State.setTdm_moves ..).only rfl⟩

/-! ### LEG_STATS_WRITE (R119) -/

theorem natBytes_length : ∀ n v : Nat, (natBytes n v).length = n
  | 0, _ => rfl
  | n + 1, v => congrArg (· + 1) (natBytes_length n (v / 256))

/-- A leg's line is its short time, its state and 59 bytes more. -/
theorem State.legStats_eq (s : State) (l : Nat) : ∃ rest, rest.length = 59 ∧
    s.legStats l = natBytes 4 s.shortTime ++ BitVec.ofNat 8 (s.leg l).state.code :: rest := by
  unfold State.legStats
  extract_lets g head
  split
  · exact ⟨0 :: natBytes 58 0, by simp [natBytes_length], by simp [head, g]⟩
  · refine ⟨0 :: _, ?_, by simp only [head, g, List.append_assoc, List.cons_append, List.nil_append]; rfl⟩
    simp only [List.length_cons, List.length_append, natBytes_length]

/-- The first bytes of those read. -/
theorem Memory.readList_take (m : Memory) : ∀ (n k a : Nat), k ≤ n → (m.readList a n).take k = m.readList a k
  | _, 0, _, _ => by simp [Memory.readList]
  | 0, k + 1, _, h => absurd h (by omega)
  | n + 1, k + 1, a, h => by
    rw [Memory.readList, List.take_succ_cons, Memory.readList_take m n k (a + 1) (by omega), Memory.readList]

/-- The line is written whole and nothing beside it. -/
theorem legStatsWrite_writesLine {l : Nat} {s : State} (he : s.on Fld.SRTP_STATS_CFG_ENABLE = true) (hl : l < 16384) (ha : s.mediaOff = false) :
    let a := s.rd64 Reg.SRTP_STATS_BASE_LO + l * 64
    ∃ t, exec (.legStatsWrite l) s = .next t ∧ (s.legStats l).length = 64 ∧ t.dram.readList a 64 = s.legStats l ∧
      t.dram.readList a 4 = natBytes 4 s.shortTime ∧ t.dram.read (a + 4) = BitVec.ofNat 8 (s.leg l).state.code ∧
      (∀ b, b < a ∨ a + 64 ≤ b → t.dram.read b = s.dram.read b) ∧ s.changesOnly [.dram, .poisoned] t := by
  intro a
  obtain ⟨rest, hrest, hline⟩ := s.legStats_eq l
  have hlen : (s.legStats l).length = 64 := by rw [hline, List.length_append, natBytes_length, List.length_cons, hrest]
  have hread : (s.dramPut a (s.legStats l)).dram.readList a 64 = s.legStats l := by
    rw [← hlen]
    exact Memory.readList_writeList ..
  have hbyte : ∀ b, (s.dramPut a (s.legStats l)).dram.read b = if a ≤ b ∧ b < a + 64 then (s.legStats l).getD (b - a) 0 else s.dram.read b := by
    intro b
    rw [← hlen]
    exact Memory.read_writeList ..
  refine ⟨s.dramPut a (s.legStats l), ?_, hlen, hread, ?_, ?_, fun b hb => ?_, (State.dramPut_moves ..).only rfl⟩
  · show execLegStatsWrite l s = _
    simp only [execLegStatsWrite, he, hl, ha, decide_true, Bool.and_self, Bool.not_false, if_true]
    rfl
  · rw [← Memory.readList_take _ 64 4 a (by decide), hread, hline]
    exact List.take_left' (natBytes_length ..)
  · rw [hbyte, if_pos (by omega), hline, Nat.add_sub_cancel_left]
    rfl
  · rw [hbyte, if_neg (by omega)]

/-! ### EVENT_WINDOW_EXPIRE (R512) -/

theorem State.post_windows (s : State) (evq cls code obj arg : Nat) : (s.post evq cls code obj arg).windows = s.windows :=
  (State.post_moves ..).frame .windows rfl

theorem State.post_now (s : State) (evq cls code obj arg : Nat) : (s.post evq cls code obj arg).now = s.now := by
  have hclk : (s.post evq cls code obj arg).clk = s.clk := (State.post_moves ..).frame .clk rfl
  rw [State.now, hclk, State.now]

section EventWindow

variable {cls code obj sub : Nat} {s : State} {w : EvWindow} (hw : s.windows.get (fun _ => {}) (windowKey cls code obj sub) = w) (ho : w.openUntil ≠ 0)

include hw ho

/-- The end of an event's window with nothing held closes it. -/
theorem exec_eventWindowExpire_closes (hh : w.held = 0) : exec (.eventWindowExpire cls code obj sub) s =
    .next { s.runTo w.openUntil with windows := s.windows.set (fun _ => {}) (windowKey cls code obj sub) {} } := by
  obtain ⟨c, hc, -⟩ := s.runTo_cases w.openUntil
  show execEventWindowExpire cls code obj sub s = _
  simp only [execEventWindowExpire, hw, if_neg ho, if_pos hh, hc]

/-- What a window holds at its end is posted, and opens the next. -/
theorem exec_eventWindowExpire_posts (hh : w.held ≠ 0) : exec (.eventWindowExpire cls code obj sub) s =
    .next { (s.runTo w.openUntil).post w.evq cls code obj w.argument with
      windows := s.windows.set (fun _ => {}) (windowKey cls code obj sub) { w with openUntil := (s.runTo w.openUntil).now + 1000000000, held := 0 } } := by
  obtain ⟨c, hc, -⟩ := s.runTo_cases w.openUntil
  show execEventWindowExpire cls code obj sub s = _
  simp only [execEventWindowExpire, hw, if_neg ho, if_neg hh, hc, State.post_windows, State.post_now]

/-- Either way no other window moves. -/
theorem eventWindowExpire_closesOrPosts :
    (w.held = 0 → ∃ t, exec (.eventWindowExpire cls code obj sub) s = .next t ∧ t.windows.get (fun _ => {}) (windowKey cls code obj sub) = {} ∧
      (∀ j, j ≠ windowKey cls code obj sub → t.windows.get (fun _ => {}) j = s.windows.get (fun _ => {}) j) ∧ s.changesOnly [.clk, .windows] t) ∧
    (w.held ≠ 0 → ∃ t u, exec (.eventWindowExpire cls code obj sub) s = .next t ∧ s.changesOnly [.clk] u ∧
      t = { u.post w.evq cls code obj w.argument with windows := t.windows } ∧
      t.windows.get (fun _ => {}) (windowKey cls code obj sub) = { w with openUntil := u.now + 1000000000, held := 0 } ∧
      (∀ j, j ≠ windowKey cls code obj sub → t.windows.get (fun _ => {}) j = s.windows.get (fun _ => {}) j)) := by
  refine ⟨fun hh => ⟨_, exec_eventWindowExpire_closes hw ho hh, ?_, fun j hj => ?_,
      ((Moves.set_windows ..).step (by decide) ((State.runTo_moves ..).step (m := maskOf [.clk, .windows]) (by decide) Moves.refl)).only rfl⟩,
    fun hh => ⟨_, s.runTo w.openUntil, exec_eventWindowExpire_posts hw ho hh, (State.runTo_moves ..).only rfl, rfl, ?_, fun j hj => ?_⟩⟩
  · simp only [Sparse.get_set, if_true]
  · simp only [Sparse.get_set, if_neg hj]
  · simp only [Sparse.get_set, if_true]
  · simp only [Sparse.get_set, if_neg hj]

end EventWindow

/-- Settles O33: each due action is the model's operation on the state that the clock has reached. -/
theorem legsActAtTheirDueTimes : Obligations.LegsActAtTheirDueTimes := by
  exact ⟨fun l s hn hp htr ht ha hq hs => rtcpReport_sends hn hp htr ht ha hq hs,
    fun v seq m s hm h1 hl hn ha => nackRetry_asksAgain hm h1 hl hn ha,
    fun l s hb ha => jbRecompute_setsTarget hb ha,
    fun l s hst htr hto hidle ha => rxIdle_marksAndPosts hst htr hto hidle ha,
    fun v ts absent p s hp => ⟨fun hd ha => videoWaitExpire_releases hp hd ha, fun hd => exec_videoWaitExpire_done hp hd⟩,
    fun n samples s hn he hx hq => tdmFrameSync_drivesSlots hn he hx hq,
    fun l s he hl ha => legStatsWrite_writesLine he hl ha,
    fun cls code obj sub s ho => eventWindowExpire_closesOrPosts rfl ho⟩

end Sys2Proof.Machine
end

section
/-! The congestion controller, the layer selector and the requests for pictures (R120 to R126, R130, R133 to R136, R140). -/

namespace Sys2Proof.Machine

/-! ### Update ticks (R120) -/

theorem updateTick_mod (l k : Nat) : updateTick l k % 50 = l % 50 := by
  unfold updateTick
  omega

theorem le_updateTick (l k : Nat) : k ≤ updateTick l k := Nat.le_add_right ..

/-- The next update is at or after the present tick and after the last update. -/
theorem State.nextUpdate_after (s : State) (l : Nat) :
    s.nextUpdate l % 50 = l % 50 ∧ s.ltick ≤ s.nextUpdate l ∧ ∀ v, (s.leg l).cc.lastUpdate = some v → v < s.nextUpdate l := by
  unfold State.nextUpdate
  refine ⟨updateTick_mod .., ?_⟩
  split
  next w hw =>
    have hle := le_updateTick l (Nat.max s.ltick (w + 1))
    refine ⟨Nat.le_trans (Nat.le_max_left ..) hle, fun v hv => ?_⟩
    obtain rfl : w = v := Option.some.inj (hw.symm.trans hv)
    exact Nat.le_trans (Nat.le_max_right ..) hle
  next hw => exact ⟨le_updateTick .., fun v hv => absurd (hw.symm.trans hv) (by simp)⟩

/-! ### The rate law (R122 to R124) -/

section RateLaw

variable (c : Cc) (u trip timeout rise : Nat)

/-- RFC 8888 feedback came in the last 1,000 ticks (R122). -/
def Cc.inCcfb : Prop := ∃ v, c.lastCcfb = some v ∧ u ≤ v + 1000

/-- No feedback came for FB_TIMEOUT. -/
def Cc.silent : Prop := timeout * 100 ≤ u - c.lastFb

/-- The loss or the delay term of a mode. -/
def Cc.term (ccfb : Bool) : Prop := (∃ v, c.loss ccfb = some v ∧ 20 < v) ∨ c.delay ccfb u trip rise = true

/-- The loss or the delay term of the leg's mode is true. -/
def Cc.congested : Prop := (c.inCcfb u ∧ c.term u trip rise true) ∨ (¬ c.inCcfb u ∧ c.term u trip rise false)

/-- The last decrease is less than a round trip ago. -/
def Cc.onHold : Prop := ∃ v, c.lastDec = some v ∧ u - v < Nat.max (c.rtt.getD 100) 100

/-- The last cut for lost feedback is less than 500 ticks ago. -/
def Cc.cutRecently : Prop := ∃ v, c.lastCut = some v ∧ u - v < 500

/-- A rate between the bounds of a LEG record and the received TMMBR; the floor wins. -/
def Cc.clamped (r x : Nat) : Nat := Nat.max (LEG.RATE_FLOOR r) (Nat.min x (Nat.min (LEG.RATE_CEIL r) (c.tmmbr.getD (LEG.RATE_CEIL r))))

/-- The mode as an update evaluates it. -/
def Cc.ccfbAt : Bool := match c.lastCcfb with | some v => decide (u ≤ v + 1000) | none => false

/-- The loss and delay terms as an update evaluates them. -/
def Cc.trips : Bool := (match c.loss (c.ccfbAt u) with | some v => decide (20 < v) | none => false) || c.delay (c.ccfbAt u) u trip rise

/-- The hold as an update evaluates it. -/
def Cc.holds : Bool := match c.lastDec with | some v => decide (u - v < Nat.max (c.rtt.getD 100) 100) | none => false

/-- The update cuts the rate for lost feedback. -/
def Cc.cuts : Bool := decide (timeout * 100 ≤ u - c.lastFb) && (match c.lastCut with | some v => decide (500 ≤ u - v) | none => true)

/-- The update decreases the rate for a term. -/
def Cc.decreases : Bool := !decide (timeout * 100 ≤ u - c.lastFb) && c.trips u trip rise && !c.holds u

/-- The update increases the rate. -/
def Cc.grows : Bool :=
  !decide (timeout * 100 ≤ u - c.lastFb) && !c.trips u trip rise && !c.holds u && decide (c.rate * 3 / 4 ≤ kbps (logBytes u c.sentLog))

theorem Cc.ccfbAt_iff : c.ccfbAt u = true ↔ c.inCcfb u := by
  unfold Cc.ccfbAt Cc.inCcfb
  split <;> simp [*]

theorem Cc.holds_iff : c.holds u = true ↔ c.onHold u := by
  unfold Cc.holds Cc.onHold
  split <;> simp [*]

theorem Cc.trips_iff : c.trips u trip rise = true ↔ c.congested u trip rise := by
  have hterm : c.trips u trip rise = true ↔ c.term u trip rise (c.ccfbAt u) := by
    unfold Cc.trips Cc.term
    split <;> simp [*]
  rw [hterm, Cc.congested, ← Cc.ccfbAt_iff]
  cases c.ccfbAt u <;> simp

theorem Cc.cuts_iff : c.cuts u timeout = true ↔ c.silent u timeout ∧ ¬ c.cutRecently u := by
  unfold Cc.cuts Cc.silent Cc.cutRecently
  split <;> simp [*]

theorem Cc.decreases_iff : c.decreases u trip timeout rise = true ↔ ¬ c.silent u timeout ∧ c.congested u trip rise ∧ ¬ c.onHold u := by
  simp only [Cc.decreases, Cc.silent, Bool.and_eq_true, Bool.not_eq_true', decide_eq_true_eq, ← Bool.not_eq_true, Cc.trips_iff, Cc.holds_iff, and_assoc]

theorem Cc.grows_iff : c.grows u trip timeout rise = true ↔
    ¬ c.silent u timeout ∧ ¬ c.congested u trip rise ∧ ¬ c.onHold u ∧ c.rate * 3 / 4 ≤ kbps (logBytes u c.sentLog) := by
  simp only [Cc.grows, Cc.silent, Bool.and_eq_true, Bool.not_eq_true', decide_eq_true_eq, ← Bool.not_eq_true, Cc.trips_iff,
    Cc.holds_iff, and_assoc]

/-- The three ways an update moves the rate, and the clamp behind them. -/
theorem Cc.update_rate (r : Nat) : (c.update u r trip timeout rise).1.rate =
    c.clamped r (if c.cuts u timeout || c.decreases u trip timeout rise then c.rate * 85 / 100
      else if c.grows u trip timeout rise then c.rate + Nat.max 1 (c.rRef * 4 / 1000) else c.rate) := rfl

theorem Cc.update_decreased (r : Nat) : (c.update u r trip timeout rise).2 = (c.cuts u timeout || c.decreases u trip timeout rise) := rfl

theorem Cc.update_lastUpdate (r : Nat) : (c.update u r trip timeout rise).1.lastUpdate = some u := rfl

variable {c u trip timeout rise} (r : Nat)

theorem Cc.update_cuts (hs : c.silent u timeout) (hr : ¬ c.cutRecently u) :
    (c.update u r trip timeout rise).1.rate = c.clamped r (c.rate * 85 / 100) := by
  rw [Cc.update_rate, (Cc.cuts_iff c u timeout).mpr ⟨hs, hr⟩]
  rfl

/-- A rate that an update neither cuts, decreases nor increases stays, but for the clamp. -/
theorem Cc.update_stays (hc : ¬ (c.silent u timeout ∧ ¬ c.cutRecently u)) (hd : ¬ (¬ c.silent u timeout ∧ c.congested u trip rise ∧ ¬ c.onHold u))
    (hg : ¬ (¬ c.silent u timeout ∧ ¬ c.congested u trip rise ∧ ¬ c.onHold u ∧ c.rate * 3 / 4 ≤ kbps (logBytes u c.sentLog))) :
    (c.update u r trip timeout rise).1.rate = c.clamped r c.rate := by
  rw [← Cc.cuts_iff] at hc
  rw [← Cc.decreases_iff] at hd
  rw [← Cc.grows_iff] at hg
  simp only [Cc.update_rate, hc, hd, hg, Bool.or_self, Bool.false_eq_true, if_false]

theorem Cc.update_stays_cutRecently (hs : c.silent u timeout) (hr : c.cutRecently u) : (c.update u r trip timeout rise).1.rate = c.clamped r c.rate :=
  Cc.update_stays r (fun ⟨_, hnot⟩ => hnot hr) (fun ⟨hnot, _⟩ => hnot hs) (fun ⟨hnot, _⟩ => hnot hs)

theorem Cc.update_stays_onHold (hs : ¬ c.silent u timeout) (hh : c.onHold u) : (c.update u r trip timeout rise).1.rate = c.clamped r c.rate :=
  Cc.update_stays r (fun ⟨hsilent, _⟩ => hs hsilent) (fun ⟨_, _, hnot⟩ => hnot hh) (fun ⟨_, _, hnot, _⟩ => hnot hh)

theorem Cc.update_stays_unsent (hs : ¬ c.silent u timeout) (hc : ¬ c.congested u trip rise) (hsent : kbps (logBytes u c.sentLog) < c.rate * 3 / 4) :
    (c.update u r trip timeout rise).1.rate = c.clamped r c.rate :=
  Cc.update_stays r (fun ⟨hsilent, _⟩ => hs hsilent) (fun ⟨_, hcongested, _⟩ => hc hcongested) (fun ⟨_, _, _, hle⟩ => Nat.not_le.mpr hsent hle)

theorem Cc.update_decreases (hs : ¬ c.silent u timeout) (hc : c.congested u trip rise) (hh : ¬ c.onHold u) :
    (c.update u r trip timeout rise).1.rate = c.clamped r (c.rate * 85 / 100) ∧ (c.update u r trip timeout rise).2 = true := by
  rw [Cc.update_rate, Cc.update_decreased, (Cc.decreases_iff c u trip timeout rise).mpr ⟨hs, hc, hh⟩, Bool.or_true]
  exact ⟨rfl, rfl⟩

theorem Cc.update_grows (hs : ¬ c.silent u timeout) (hc : ¬ c.congested u trip rise) (hh : ¬ c.onHold u)
    (hsent : c.rate * 3 / 4 ≤ kbps (logBytes u c.sentLog)) :
    (c.update u r trip timeout rise).1.rate = c.clamped r (c.rate + Nat.max 1 (c.rRef * 4 / 1000)) := by
  have hcut : ¬ c.cuts u timeout = true := fun h => hs ((Cc.cuts_iff ..).mp h).1
  have hdec : ¬ c.decreases u trip timeout rise = true := fun h => hc ((Cc.decreases_iff ..).mp h).2.1
  simp only [Cc.update_rate, hcut, hdec, (Cc.grows_iff c u trip timeout rise).mpr ⟨hs, hc, hh, hsent⟩, Bool.or_self, Bool.false_eq_true, if_false, if_true]

end RateLaw

/-! ### The registers a posted entry counts in (R26, R162, R168) -/

theorem State.resetNoted_rd (s : State) {a : Nat} (ha : a < granaryPage) (hf : a ≠ Reg.FAULT_CONTAINED) : s.resetNoted.rd a = s.rd a := by
  have hevent : a ≠ Reg.PG_EVENT granaryPage := by
    simp only [granaryPage, Reg.PG_EVENT] at ha ⊢
    omega
  have hresets : a ≠ Reg.GRANARY_RESETS := by
    simp only [granaryPage, Reg.GRANARY_RESETS] at ha ⊢
    omega
  rw [State.resetNoted, State.contained, State.rd_bump _ _ _ _ hf, State.rd_event, if_neg hevent, State.rd_bump _ _ _ _ hresets]

theorem evqLost_ne {a n : Nat} (ha : a < granaryPage) : a ≠ (Fld.EVQn_LOST_COUNT n).addr := by
  simp only [granaryPage, Fld.EVQn_LOST_COUNT, Reg.EVQn_LOST] at ha ⊢
  omega

theorem State.evqReset_rd (s : State) (n : Nat) {a : Nat} (ha : a < granaryPage) (hf : a ≠ Reg.FAULT_CONTAINED) : (s.evqReset n).2.rd a = s.rd a :=
  (State.resetNoted_rd _ ha hf).trans (State.rd_bump _ _ _ _ (evqLost_ne ha))

theorem State.evqPlace_rd (s : State) (n : Nat) (e : EvEntry) {a : Nat} (ha : a < granaryPage) (hf : a ≠ Reg.FAULT_CONTAINED) :
    (s.evqPlace n e).rd a = s.rd a := by
  unfold State.evqPlace
  extract_lets q min max avail
  split
  · exact State.rd_bump _ _ _ _ (evqLost_ne ha)
  split
  extract_lets fits q2 lost q3 t
  split
  · rfl
  · exact (State.rd_bump _ _ _ _ hf).trans (State.rd_bump _ _ _ _ (evqLost_ne ha))

theorem State.postReset_rd (s : State) (q lost : Nat) {a : Nat} (ha : a < granaryPage) (hf : a ≠ Reg.FAULT_CONTAINED) :
    (s.postReset q lost).rd a = s.rd a := by
  unfold State.postReset
  extract_lets g
  split
  · exact (State.evqPlace_rd _ _ _ ha hf).trans ((State.evqPlace_rd _ _ _ ha hf).trans (State.evqReset_rd _ _ ha hf))
  · exact State.evqPlace_rd _ _ _ ha hf

theorem State.evqCheck_rd (s : State) (n : Nat) {a : Nat} (ha : a < granaryPage) (hf : a ≠ Reg.FAULT_CONTAINED) : (s.evqCheck n).rd a = s.rd a := by
  unfold State.evqCheck
  split
  · exact (State.postReset_rd _ _ _ ha hf).trans (State.evqReset_rd _ _ ha hf)
  · rfl

/-- A posted entry counts what it displaces in FAULT_CONTAINED and on the pages of the queues only. -/
theorem State.post_rd (s : State) (evq cls code obj arg : Nat) {a : Nat} (ha : a < granaryPage) (hf : a ≠ Reg.FAULT_CONTAINED) :
    (s.post evq cls code obj arg).rd a = s.rd a := (State.evqPlace_rd _ _ _ ha hf).trans (State.evqCheck_rd _ _ ha hf)

/-! ### The controller's update (R124, R126) -/

/-- The update of leg l's controller at tick u. -/
def State.ccNext (s : State) (l u : Nat) : Cc × Bool :=
  (s.leg l).cc.update u (s.legRec l) (s.get Fld.ADAPT_TRIP_GRAD) (s.get Fld.ADAPT_TRIP_FB_TIMEOUT) (s.get Fld.ADAPT_TRIP_RTT_RISE)

/-- Leg l's shaper when its target rate is x. -/
def State.shaperAt (s : State) (l x : Nat) : Shaper :=
  if (s.leg l).shaper.present then (s.leg l).shaper.setRate s.lnow (Nat.min (ceilDiv (11 * x) 10) 10000000) else (s.leg l).shaper

/-- Leg l with its controller updated at tick u and its shaper behind it. -/
def State.legUpdated (s : State) (l u : Nat) : Leg := { s.leg l with cc := (s.ccNext l u).1, shaper := s.shaperAt l (s.ccNext l u).1.rate }

/-- The state with leg l's controller updated at tick u, before its events are posted. -/
def State.ccCounted (s : State) (l u : Nat) : State :=
  if (s.ccNext l u).2 then (s.setLeg l (s.legUpdated l u)).bump Fld.ADAPT_DECREASES_COUNT else s.setLeg l (s.legUpdated l u)

/-- The events that an update posts. -/
theorem State.ccRun_eq (s : State) (l u : Nat) : s.ccRun l u =
    (let c := (s.ccNext l u).1
     let r := s.legRec l
     let t := s.ccCounted l u
     let t := if c.fbLost && !(s.leg l).cc.fbLost then t.post (LEG.EVQ r) 0x06 0x51 l 0 else t
     if c.rate = LEG.RATE_FLOOR r ∧ c.rate < (s.leg l).cc.rate then t.post (LEG.EVQ r) 0x06 0x50 l c.rate else t) := rfl

/-- Posting events changes neither legs nor what precedes the pages of the queues. -/
theorem State.ccRun_posts (s : State) (l u : Nat) : Moves (maskOf [.regs, .msix, .evq, .freeCells]) (s.ccCounted l u) (s.ccRun l u) ∧
    ∀ a, a < granaryPage → a ≠ Reg.FAULT_CONTAINED → (s.ccRun l u).rd a = (s.ccCounted l u).rd a := by
  rw [State.ccRun_eq]
  extract_lets c r t t'
  have hlost : Moves (maskOf [.regs, .msix, .evq, .freeCells]) t t' ∧ ∀ a, a < granaryPage → a ≠ Reg.FAULT_CONTAINED → t'.rd a = t.rd a := by
    unfold t'
    split
    · exact ⟨(State.post_moves ..).step (by decide) Moves.refl, fun a ha hf => State.post_rd _ _ _ _ _ _ ha hf⟩
    · exact ⟨Moves.refl, fun _ _ _ => rfl⟩
  obtain ⟨hm, hrd⟩ := hlost
  split
  · exact ⟨(State.post_moves ..).step (by decide) hm, fun a ha hf => (State.post_rd _ _ _ _ _ _ ha hf).trans (hrd a ha hf)⟩
  · exact ⟨hm, hrd⟩

theorem State.ccRun_leg (s : State) (l u m : Nat) : (s.ccRun l u).leg m = if m = l then s.legUpdated l u else s.leg m := by
  have hposts : (s.ccRun l u).legs = (s.ccCounted l u).legs := (s.ccRun_posts l u).1.frame .legs rfl
  have hcount : (s.ccCounted l u).legs = (s.setLeg l (s.legUpdated l u)).legs := by
    unfold State.ccCounted
    split <;> rfl
  rw [← State.setLeg_leg, State.leg, hposts, hcount]
  rfl

/-- A decrease is counted. -/
theorem State.ccRun_decreases {s : State} {l u : Nat} (h : (s.ccNext l u).2 = true) :
    (s.ccRun l u).get Fld.ADAPT_DECREASES_COUNT = (s.get Fld.ADAPT_DECREASES_COUNT + 1) % 2 ^ Fld.ADAPT_DECREASES_COUNT.width := by
  have hposts : (s.ccRun l u).rd Reg.ADAPT_DECREASES = (s.ccCounted l u).rd Reg.ADAPT_DECREASES := (s.ccRun_posts l u).2 _ (by decide) (by decide)
  rw [State.get_of_rd_eq hposts, State.ccCounted, if_pos h, State.get_bump _ _ _ (by decide)]
  rfl

theorem Shaper.setRate_rate (h : Shaper) (at_ rate : Nat) : (h.setRate at_ rate).rate = rate := rfl

/-- Bringing a bucket up to date keeps its size. -/
theorem Shaper.setRate_burst (h : Shaper) (at_ rate : Nat) : (h.setRate at_ rate).burst = h.burst := by
  show (h.upTo at_).burst = h.burst
  unfold Shaper.upTo
  split <;> rfl

theorem State.shaperAt_present {s : State} {l x : Nat} (h : (s.leg l).shaper.present = true) :
    (s.shaperAt l x).rate = Nat.min (ceilDiv (11 * x) 10) 10000000 ∧ (s.shaperAt l x).burst = (s.leg l).shaper.burst := by
  rw [State.shaperAt, if_pos h]
  exact ⟨Shaper.setRate_rate .., Shaper.setRate_burst ..⟩

/-! ### What a request for a switch point leaves alone (R136, R140, R285) -/

/-- In t every source has the layer log and the start it has in s, every leg differs at most in what it keeps of its reports, and no decrease was counted. -/
structure State.keepsInputs (s t : State) : Prop where
  srcLog : ∀ kind src, t.srcLog kind src = s.srcLog kind src
  leg : ∀ m, t.leg m = { s.leg m with rx := (t.leg m).rx, reports := (t.leg m).reports }
  decreases : t.rd Reg.ADAPT_DECREASES = s.rd Reg.ADAPT_DECREASES

theorem State.keepsInputs.refl (s : State) : s.keepsInputs s := ⟨fun _ _ => rfl, fun _ => rfl, rfl⟩

theorem State.keepsInputs.trans {s t w : State} (h : s.keepsInputs t) (g : t.keepsInputs w) : s.keepsInputs w := by
  refine ⟨fun kind src => (g.srcLog kind src).trans (h.srcLog kind src), fun m => ?_, g.decreases.trans h.decreases⟩
  rw [g.leg m, h.leg m]

theorem State.keepsInputs.cc {s t : State} (h : s.keepsInputs t) (m : Nat) : (t.leg m).cc = (s.leg m).cc := by rw [h.leg m]

theorem State.keepsInputs.shaper {s t : State} (h : s.keepsInputs t) (m : Nat) : (t.leg m).shaper = (s.leg m).shaper := by rw [h.leg m]

/-- The logs of the sources are those of the VSTRs and ECOMPs. -/
theorem Moves.srcLog_eq {m : Nat} {s t : State} (h : Moves m s t) (hv : m.testBit 29 = false) (he : m.testBit 33 = false) (kind src : Nat) :
    t.srcLog kind src = s.srcLog kind src := by
  have hvstrs : t.vstrs = s.vstrs := h.frame .vstrs hv
  have hecomps : t.ecomps = s.ecomps := h.frame .ecomps he
  simp only [State.srcLog, State.vstr, State.ecomp, hvstrs, hecomps]

theorem State.setVstr_srcLog {s : State} {v : Nat} {x : Vstr} (hl : x.layerLog = (s.vstr v).layerLog) (hb : x.born = (s.vstr v).born) (kind src : Nat) :
    (s.setVstr v x).srcLog kind src = s.srcLog kind src := by
  have hx : ((s.setVstr v x).vstr src).layerLog = (s.vstr src).layerLog ∧ ((s.setVstr v x).vstr src).born = (s.vstr src).born := by
    rw [State.setVstr_vstr]
    split
    · next h => exact h ▸ ⟨hl, hb⟩
    · exact ⟨rfl, rfl⟩
  simp only [State.srcLog, hx]
  rfl

theorem State.setEcomp_srcLog {s : State} {e : Nat} {x : Ecomp} (hl : x.layerLog = (s.ecomp e).layerLog) (hb : x.born = (s.ecomp e).born) (kind src : Nat) :
    (s.setEcomp e x).srcLog kind src = s.srcLog kind src := by
  have hx : ((s.setEcomp e x).ecomp src).layerLog = (s.ecomp src).layerLog ∧ ((s.setEcomp e x).ecomp src).born = (s.ecomp src).born := by
    rw [State.ecomp, State.setEcomp, Sparse.get_set]
    split
    · next h => exact h ▸ ⟨hl, hb⟩
    · exact ⟨rfl, rfl⟩
  simp only [State.srcLog, hx]
  rfl

theorem State.setVstr_keepsInputs {s : State} {v : Nat} {x : Vstr} (hl : x.layerLog = (s.vstr v).layerLog) (hb : x.born = (s.vstr v).born) :
    s.keepsInputs (s.setVstr v x) := ⟨State.setVstr_srcLog hl hb, fun _ => rfl, rfl⟩

theorem State.setEcomp_keepsInputs {s : State} {e : Nat} {x : Ecomp} (hl : x.layerLog = (s.ecomp e).layerLog) (hb : x.born = (s.ecomp e).born) :
    s.keepsInputs (s.setEcomp e x) := ⟨State.setEcomp_srcLog hl hb, fun _ => rfl, rfl⟩

theorem State.setOstr_keepsInputs (s : State) (o : Nat) (x : Ostr) : s.keepsInputs (s.setOstr o x) := ⟨fun _ _ => rfl, fun _ => rfl, rfl⟩

theorem State.bump_keepsInputs (s : State) {f : FieldRef} (n : Nat) (h : f.addr ≠ Reg.ADAPT_DECREASES) : s.keepsInputs (s.bump f n) :=
  ⟨fun _ _ => rfl, fun _ => rfl, State.rd_bump _ _ _ _ h.symm⟩

theorem State.sendRtcp_keepsInputs (s : State) (l k : Nat) (items : List Byte) : s.keepsInputs (s.sendRtcp l k items) := by
  obtain ⟨hout, hmoves⟩ := s.sendRtcp_frame l k items
  exact ⟨hmoves.srcLog_eq rfl rfl, s.sendRtcp_leg_reports l k items, hout _ (by decide)⟩

theorem State.requestSweep_keepsInputs (s : State) (e : Nat) : s.keepsInputs (s.requestSweep e) := by
  unfold State.requestSweep
  extract_lets x
  split
  · exact State.setEcomp_keepsInputs rfl rfl
  · exact State.keepsInputs.refl s

/-- The stream when a PLI or FIR goes out in tick k. -/
def Vstr.pliSent (x : Vstr) (k : Nat) (fir : Bool) : Vstr :=
  { x with lastPli := some k, pliWaiting := false, firWaiting := false, pliDecoder := false, firSeq := if fir then (x.firSeq + 1) % 256 else x.firSeq }

/-- The PLI or FIR of VSTR v. -/
def State.pictureRequest (s : State) (v : Nat) (fir : Bool) : List Byte :=
  let r := (s.effRec 6 v).getD 0
  let own := LEG.LOCAL_SSRC (s.legRec (VSTR.LEG r))
  if fir then rtcpFir own (VSTR.SSRC r) (if fir then ((s.vstr v).firSeq + 1) % 256 else (s.vstr v).firSeq) else rtcpPli own (VSTR.SSRC r)

/-- The state in which the request of VSTR v is noted. -/
def State.pliNoted (s : State) (v k : Nat) (fir : Bool) : State := s.setVstr v ((s.vstr v).pliSent k fir)

theorem State.sendPli_eq (s : State) (v k : Nat) (fir : Bool) : s.sendPli v k fir =
    if s.vstrLeg v < 0x8000 then ((s.pliNoted v k fir).bump Fld.ADAPT_KEYREQ_PLI).sendRtcp (s.vstrLeg v) k (s.pictureRequest v fir) else s.pliNoted v k fir := rfl

theorem State.pliNoted_keepsInputs (s : State) (v k : Nat) (fir : Bool) : s.keepsInputs (s.pliNoted v k fir) := State.setVstr_keepsInputs rfl rfl

theorem State.sendPli_keepsInputs (s : State) (v k : Nat) (fir : Bool) : s.keepsInputs (s.sendPli v k fir) := by
  rw [State.sendPli_eq]
  split
  · exact ((s.pliNoted_keepsInputs v k fir).trans (State.bump_keepsInputs _ _ (by decide))).trans (State.sendRtcp_keepsInputs ..)
  · exact s.pliNoted_keepsInputs v k fir

theorem State.requestPli_keepsInputs (s : State) (v : Nat) (fir decoder : Bool) : s.keepsInputs (s.requestPli v fir decoder) := by
  unfold State.requestPli
  extract_lets x
  split
  · exact State.keepsInputs.refl s
  split
  · exact State.setVstr_keepsInputs rfl rfl
  split
  · exact State.sendPli_keepsInputs ..
  split
  · exact State.sendPli_keepsInputs ..
  · exact State.setVstr_keepsInputs rfl rfl

theorem State.requestSwitch_keepsInputs (s : State) (kind src : Nat) : s.keepsInputs (s.requestSwitch kind src) := by
  unfold State.requestSwitch
  split
  · exact State.requestSweep_keepsInputs ..
  · exact State.requestPli_keepsInputs ..

theorem State.requestSwitch_ostr (s : State) (kind src o : Nat) : (s.requestSwitch kind src).ostr o = s.ostr o := by
  have hostrs : (s.requestSwitch kind src).ostrs = s.ostrs := (State.requestSwitch_moves ..).frame .ostrs rfl
  rw [State.ostr, hostrs]
  rfl

/-! ### The desired set (R130, R133) -/

/-- The best set is one of those offered. -/
theorem bestSet_mem {pref : Nat} {k : Nat × Nat} : ∀ {l : List (Nat × Nat)}, bestSet pref l = some k → k ∈ l
  | x :: l, h => by
    unfold bestSet at h
    split at h
    · exact Option.some.inj h ▸ List.mem_cons_self
    next b hb =>
      split at h
      · exact Option.some.inj h ▸ List.mem_cons_self
      · exact List.mem_cons_of_mem _ (bestSet_mem (hb.trans h))

/-- At update u set k may be desired of an OSTR of record r with the given source log: it is in bounds and arrives, or it is the base set that MIN_BASE asks for. -/
def mayDesire (log : List LayerPkt) (u r : Nat) (k : Nat × Nat) : Prop :=
  (k.1 ≤ OSTR.MAX_S r ∧ k.2 ≤ OSTR.MAX_T r ∧ setArrived log u k = true) ∨ (k = (0, 0) ∧ OSTR.MIN_BASE r = 1)

/-- The layer log of the source of OSTR o. -/
def State.ostrLog (s : State) (o : Nat) : List LayerPkt := (s.srcLog (s.ostr o).srcKind (s.ostr o).src).1

theorem State.desire_mayDesire {s : State} {o u r ovh : Nat} {v : Int} {k : Nat × Nat} (h : (s.desire o u r ovh v).1 = some k) :
    mayDesire (s.ostrLog o) u r k := by
  unfold State.desire at h
  extract_lets x at h
  split at h
  next log born hlog =>
    have hsrc : s.ostrLog o = log := congrArg Prod.fst hlog
    extract_lets rate ok at h
    rw [hsrc]
    split at h
    next b hb =>
      obtain rfl : b = k := Option.some.inj h
      have hok := (List.mem_filter.mp (bestSet_mem hb)).2
      simp only [Bool.and_eq_true, decide_eq_true_eq, and_assoc] at hok
      obtain ⟨hs, ht, harrived, -⟩ := hok
      exact .inl ⟨hs, ht, harrived⟩
    next =>
      split at h
      next hbase => exact .inr ⟨(Option.some.inj h).symm, hbase⟩
      · exact absurd h (by simp)

/-! ### The moves of an OSTR (R134, R135) -/

/-- OSTR y after a decision at update u: it desires `want`, and waits to move up only when it may climb and no downward move waits. -/
def Ostr.decided (y : Ostr) (u : Nat) (want : Option (Nat × Nat)) : Prop :=
  y.desired = want ∧ (y.up.isSome = true → y.mayClimb u = true ∧ y.down = [])

/-- An OSTR that does not wait to move up. -/
theorem Ostr.decided_of_up_none {y : Ostr} {u : Nat} {want : Option (Nat × Nat)} (hw : y.desired = want) (hup : y.up = none) : y.decided u want :=
  ⟨hw, fun h => absurd h (by rw [hup]; decide)⟩

/-- From s to t only OSTR o was changed, to one that is decided. -/
structure State.decides (s t : State) (o u : Nat) (want : Option (Nat × Nat)) : Prop where
  inputs : s.keepsInputs t
  decided : (t.ostr o).decided u want
  others : ∀ m, m ≠ o → t.ostr m = s.ostr m

theorem State.decides_of_setOstr {s w t : State} {o u : Nat} {y : Ostr} {want : Option (Nat × Nat)} (hw : ∀ m, m ≠ o → w.ostr m = s.ostr m) (hi : s.keepsInputs w)
    (ht : ∀ m, t.ostr m = (w.setOstr o y).ostr m) (hk : (w.setOstr o y).keepsInputs t) (hy : y.decided u want) : s.decides t o u want := by
  refine ⟨(hi.trans (State.setOstr_keepsInputs ..)).trans hk, ?_, fun m hm => ?_⟩
  · rw [ht, State.setOstr_ostr, if_pos rfl]
    exact hy
  · rw [ht, State.setOstr_ostr, if_neg hm, hw m hm]

theorem State.moveDown_decides (s : State) (o u : Nat) (k : Option (Nat × Nat)) {want : Option (Nat × Nat)} (h : (s.ostr o).desired = want) :
    s.decides (s.moveDown o u k) o u want :=
  State.decides_of_setOstr (fun _ _ => rfl) (State.keepsInputs.refl s) (fun _ => rfl) (State.bump_keepsInputs _ _ (by decide)) (Ostr.decided_of_up_none h rfl)

theorem State.decides.of_setOstr {s t : State} {o u : Nat} {y : Ostr} {want : Option (Nat × Nat)} (h : (s.setOstr o y).decides t o u want) :
    s.decides t o u want :=
  ⟨(State.setOstr_keepsInputs ..).trans h.inputs, h.decided, fun m hm => (h.others m hm).trans (by rw [State.setOstr_ostr, if_neg hm])⟩

theorem State.decideSet_decides (s : State) (o u r : Nat) (want : Option (Nat × Nat)) : s.decides (s.decideSet o u r want) o u want := by
  unfold State.decideSet
  extract_lets x log x' s'
  have hset : ∀ y : Ostr, y.decided u want → s'.decides (s'.setOstr o y) o u want := fun y hy =>
    State.decides_of_setOstr (fun _ _ => rfl) (State.keepsInputs.refl s') (fun _ => rfl) (State.keepsInputs.refl _) hy
  have hstays : s'.decides (s'.setOstr o { x' with up := none }) o u want := hset _ (Ostr.decided_of_up_none rfl rfl)
  refine State.decides.of_setOstr (y := x') ?_
  split
  · exact State.moveDown_decides _ _ _ _ (by rw [State.setOstr_ostr, if_pos rfl])
  split
  · exact hstays
  next hclimb =>
    simp only [not_or, Bool.not_eq_false, ne_eq, Decidable.not_not] at hclimb
    obtain ⟨-, -, hdown, hmay⟩ := hclimb
    split
    · exact hstays
    next k hk =>
      split
      · extract_lets w inS
        have hup : ({ x' with up := some k } : Ostr).decided u want := ⟨rfl, fun _ => ⟨hmay, hdown⟩⟩
        split
        · exact State.decides_of_setOstr (fun _ _ => rfl) (State.keepsInputs.refl s') (State.requestSwitch_ostr w _ _) (State.requestSwitch_keepsInputs ..) hup
        · exact hset _ hup
      · exact hstays

/-! ### The records of a leg's OSTRs (R133) -/

/-- The addresses of a canonical table rise. -/
theorem Sparse.wfFrom_rises {α : Type} [DecidableEq α] (d : Nat → α) :
    ∀ (m : Sparse α) (b : Nat), Sparse.wfFrom d b m = true → (∀ p ∈ m, b ≤ p.1) ∧ m.Pairwise (fun p q => p.1 < q.1)
  | [], _, _ => ⟨by simp, .nil⟩
  | (i, v) :: m, b, h => by
    simp only [Sparse.wfFrom, Bool.and_eq_true, decide_eq_true_eq] at h
    obtain ⟨hle, hrises⟩ := Sparse.wfFrom_rises d m (i + 1) h.2
    refine ⟨List.forall_mem_cons.mpr ⟨h.1.1, fun p hp => ?_⟩, List.pairwise_cons.mpr ⟨hle, hrises⟩⟩
    exact Nat.le_trans h.1.1 (Nat.le_of_succ_le (hle p hp))

/-- A canonical table holds one record of each number. -/
theorem tableRecs_nodup {m : Sparse Nat} (h : Sparse.wf (fun _ => 0) m = true) (table : Nat) : ((tableRecs m table).map Prod.fst).Nodup := by
  rw [List.Nodup, List.pairwise_map, tableRecs, List.pairwise_filterMap]
  refine (Sparse.wfFrom_rises _ m 0 h).2.imp fun {p q} hpq b hb c hc heq => ?_
  rw [Option.ite_none_right_eq_some] at hb hc
  obtain ⟨⟨hp, -⟩, hb⟩ := hb
  obtain ⟨⟨hq, -⟩, hc⟩ := hc
  have hfst : p.1 % 65536 = q.1 % 65536 := by rw [← Option.some.inj hb, ← Option.some.inj hc] at heq; exact heq
  omega

theorem State.ostrsOf_nodup {s : State} (h : Sparse.wf (fun _ => 0) s.gate.effective = true) (l : Nat) : ((s.ostrsOf l).map Prod.fst).Nodup :=
  ((sortBy_perm ..).map Prod.fst).nodup_iff.mpr ((tableRecs_nodup h 7).sublist (List.filter_sublist.map _))

/-! ### The selector (R133) -/

/-- One OSTR's turn: its desired set and the allowance left for the next. -/
def selectStep (u ovh : Nat) (a : State × Int) (p : Nat × Nat) : State × Int :=
  (a.1.decideSet p.1 u p.2 (a.1.desire p.1 u p.2 ovh a.2).1, (a.1.desire p.1 u p.2 ovh a.2).2)

theorem State.selectLayers_eq (s : State) (l u : Nat) : ∃ v : Int, s.selectLayers l u = ((s.ostrsOf l).foldl (selectStep u (s.mediaOverhead l)) (s, v)).1 :=
  ⟨_, rfl⟩

/-- In t the selector has served OSTR p of s at update u. -/
def State.served (s t : State) (u : Nat) (p : Nat × Nat) : Prop :=
  (∀ k, (t.ostr p.1).desired = some k → mayDesire (s.ostrLog p.1) u p.2 k) ∧
    ((t.ostr p.1).up.isSome = true → (t.ostr p.1).mayClimb u = true ∧ (t.ostr p.1).down = [])

/-- What was served stays so where the OSTR's source is as before, and the OSTR is not touched again. -/
theorem State.served.congr {s s' t t' : State} {u : Nat} {p : Nat × Nat} (h : s'.served t' u p) (hlog : s'.ostrLog p.1 = s.ostrLog p.1)
    (ht : t.ostr p.1 = t'.ostr p.1) : s.served t u p := by
  rw [State.served, ht, ← hlog]
  exact h

theorem State.keepsInputs.ostrLog {s t : State} (h : s.keepsInputs t) {o : Nat} (ho : t.ostr o = s.ostr o) : t.ostrLog o = s.ostrLog o := by
  rw [State.ostrLog, ho, h.srcLog]
  rfl

theorem selectStep_decides (u ovh : Nat) (a : State × Int) (p : Nat × Nat) :
    a.1.decides (selectStep u ovh a p).1 p.1 u (a.1.desire p.1 u p.2 ovh a.2).1 := State.decideSet_decides ..

theorem selectStep_served (u ovh : Nat) (a : State × Int) (p : Nat × Nat) : a.1.served (selectStep u ovh a p).1 u p := by
  obtain ⟨hwant, hup⟩ := (selectStep_decides u ovh a p).decided
  exact ⟨fun k hk => State.desire_mayDesire (hwant.symm.trans hk), hup⟩

theorem selectFold_keepsInputs (u ovh : Nat) (ps : List (Nat × Nat)) (a : State × Int) : a.1.keepsInputs (ps.foldl (selectStep u ovh) a).1 := by
  induction ps generalizing a with
  | nil => exact State.keepsInputs.refl a.1
  | cons p ps ih => exact (selectStep_decides u ovh a p).inputs.trans (ih _)

theorem selectFold_ostr (u ovh : Nat) {o : Nat} (ps : List (Nat × Nat)) (a : State × Int) (h : o ∉ ps.map Prod.fst) :
    (ps.foldl (selectStep u ovh) a).1.ostr o = a.1.ostr o := by
  induction ps generalizing a with
  | nil => rfl
  | cons p ps ih =>
    rw [List.map_cons, List.mem_cons, not_or] at h
    rw [List.foldl_cons, ih _ h.2]
    exact (selectStep_decides u ovh a p).others o h.1

/-- Each OSTR has one turn, and no other turn changes it or a source. -/
theorem selectFold_served (u ovh : Nat) (ps : List (Nat × Nat)) (a : State × Int) (h : (ps.map Prod.fst).Nodup) :
    ∀ p ∈ ps, a.1.served (ps.foldl (selectStep u ovh) a).1 u p := by
  induction ps generalizing a with
  | nil => exact fun p hp => absurd hp List.not_mem_nil
  | cons p ps ih =>
    intro q hq
    rw [List.map_cons, List.nodup_cons] at h
    obtain ⟨hnot, hnodup⟩ := h
    rw [List.foldl_cons]
    obtain rfl | hmem := List.mem_cons.mp hq
    · exact (selectStep_served u ovh a q).congr rfl (selectFold_ostr u ovh ps _ hnot)
    · have hstep := selectStep_decides u ovh a p
      have hne : q.1 ≠ p.1 := fun e => hnot (e ▸ List.mem_map_of_mem hmem)
      exact (ih _ hnodup q hmem).congr (hstep.inputs.ostrLog (hstep.others q.1 hne)) rfl

theorem State.selectLayers_keepsInputs (s : State) (l u : Nat) : s.keepsInputs (s.selectLayers l u) := by
  obtain ⟨v, hv⟩ := s.selectLayers_eq l u
  rw [hv]
  exact selectFold_keepsInputs _ _ _ (s, v)

theorem State.selectLayers_served {s : State} (h : Sparse.wf (fun _ => 0) s.gate.effective = true) (l u : Nat) :
    ∀ p ∈ s.ostrsOf l, s.served (s.selectLayers l u) u p := by
  obtain ⟨v, hv⟩ := s.selectLayers_eq l u
  rw [hv]
  exact selectFold_served _ _ _ (s, v) (State.ostrsOf_nodup h l)

/-! ### CC_UPDATE (R120, R124, R126, R133) -/

/-- The state at leg l's update tick u with its controller updated, or with the tick noted while ADAPT_CFG.ENABLE = 0. -/
def State.ccTurn (s : State) (l u : Nat) : State :=
  let s := s.runTo (u * 1000000 + s.lag)
  if s.on Fld.ADAPT_CFG_ENABLE then s.ccRun l u else s.modLeg l (fun g => { g with cc := { g.cc with lastUpdate := some u } })

theorem exec_ccUpdate {l : Nat} {s : State} (hst : (s.leg l).state = .active ∨ (s.leg l).state = .txStopped) (htr : LEG.TRANSPORT (s.legRec l) = 0)
    (ha : s.mediaOff = false) : exec (.ccUpdate l) s = .next ((s.ccTurn l (s.nextUpdate l)).selectLayers l (s.nextUpdate l)) := by
  have hgo : (s.hasController l && !s.mediaOff) = true := by
    simp only [State.hasController, htr, ha, Bool.not_false, Bool.and_true, Bool.or_eq_true, decide_eq_true_eq, decide_true]
    exact hst
  show execCcUpdate l s = _
  rw [execCcUpdate, if_pos hgo]
  rfl

section Turn

variable (s : State) (l u : Nat)

theorem State.runTo_ccNext (k : Nat) : (s.runTo k).ccNext l u = s.ccNext l u := by
  simp only [State.ccNext, State.runTo_leg, State.runTo_legRec, State.get, State.runTo_rd]

/-- A turn reaches no source, no OSTR and no record. -/
theorem State.ccTurn_moves : Moves (maskOf [.regs, .clk, .msix, .evq, .freeCells, .legs]) s (s.ccTurn l u) := by
  have hrun : Moves (maskOf [.regs, .clk, .msix, .evq, .freeCells, .legs]) s (s.runTo (u * 1000000 + s.lag)) :=
    (State.runTo_moves ..).step (by decide) Moves.refl
  exact Moves.ite ((State.ccRun_moves ..).step (by decide) hrun) ((State.modLeg_moves ..).step (by decide) hrun)

variable {s l u}

theorem State.ccTurn_on (h : s.on Fld.ADAPT_CFG_ENABLE = true) : s.ccTurn l u = (s.runTo (u * 1000000 + s.lag)).ccRun l u := by
  have hon : (s.runTo (u * 1000000 + s.lag)).on Fld.ADAPT_CFG_ENABLE = true := by
    rw [← h, State.on, State.get, State.runTo_rd]
    rfl
  exact if_pos hon

theorem State.ccTurn_off (h : s.on Fld.ADAPT_CFG_ENABLE = false) : s.ccTurn l u =
    (s.runTo (u * 1000000 + s.lag)).modLeg l (fun g => { g with cc := { g.cc with lastUpdate := some u } }) := by
  have hoff : ¬ (s.runTo (u * 1000000 + s.lag)).on Fld.ADAPT_CFG_ENABLE = true := by
    rw [State.on, State.get, State.runTo_rd]
    exact Bool.eq_false_iff.mp h
  exact if_neg hoff

theorem State.ccTurn_leg_other {m : Nat} (hm : m ≠ l) : (s.ccTurn l u).leg m = s.leg m := by
  cases h : s.on Fld.ADAPT_CFG_ENABLE with
  | true => rw [State.ccTurn_on h, State.ccRun_leg, if_neg hm, State.runTo_leg]
  | false => rw [State.ccTurn_off h, State.modLeg, State.setLeg_leg, if_neg hm, State.runTo_leg]

theorem State.ccTurn_leg_on (h : s.on Fld.ADAPT_CFG_ENABLE = true) :
    ((s.ccTurn l u).leg l).cc = (s.ccNext l u).1 ∧ ((s.ccTurn l u).leg l).shaper = (s.runTo (u * 1000000 + s.lag)).shaperAt l (s.ccNext l u).1.rate := by
  rw [State.ccTurn_on h, State.ccRun_leg, if_pos rfl, State.legUpdated, State.runTo_ccNext]
  exact ⟨rfl, rfl⟩

theorem State.ccTurn_leg_off (h : s.on Fld.ADAPT_CFG_ENABLE = false) :
    ((s.ccTurn l u).leg l).cc = { (s.leg l).cc with lastUpdate := some u } ∧ ((s.ccTurn l u).leg l).shaper = (s.leg l).shaper := by
  rw [State.ccTurn_off h, State.modLeg, State.setLeg_leg, if_pos rfl, State.runTo_leg]
  exact ⟨rfl, rfl⟩

theorem State.ccTurn_lastUpdate : ((s.ccTurn l u).leg l).cc.lastUpdate = some u := by
  cases h : s.on Fld.ADAPT_CFG_ENABLE with
  | true =>
    rw [(State.ccTurn_leg_on h).1]
    exact Cc.update_lastUpdate ..
  | false => rw [(State.ccTurn_leg_off h).1]

/-- The shaper follows the target rate. -/
theorem State.ccTurn_shaper (h : s.on Fld.ADAPT_CFG_ENABLE = true) (hp : (s.leg l).shaper.present = true) :
    ((s.ccTurn l u).leg l).shaper.rate = Nat.min (ceilDiv (11 * (s.ccNext l u).1.rate) 10) 10000000 ∧
      ((s.ccTurn l u).leg l).shaper.burst = (s.leg l).shaper.burst := by
  have hpresent : ((s.runTo (u * 1000000 + s.lag)).leg l).shaper.present = true := by
    rw [State.runTo_leg]
    exact hp
  obtain ⟨hrate, hburst⟩ := State.shaperAt_present (x := (s.ccNext l u).1.rate) hpresent
  rw [(State.ccTurn_leg_on h).2, hrate, hburst, State.runTo_leg]
  exact ⟨rfl, rfl⟩

theorem State.ccTurn_decreases (h : s.on Fld.ADAPT_CFG_ENABLE = true) (hd : (s.ccNext l u).2 = true) :
    (s.ccTurn l u).get Fld.ADAPT_DECREASES_COUNT = (s.get Fld.ADAPT_DECREASES_COUNT + 1) % 2 ^ Fld.ADAPT_DECREASES_COUNT.width := by
  rw [State.ccTurn_on h, State.ccRun_decreases (by rw [State.runTo_ccNext]; exact hd), State.get_of_rd_eq (State.runTo_rd ..)]

end Turn

theorem ccUpdate_keepsInputs (s : State) (l u : Nat) : (s.ccTurn l u).keepsInputs ((s.ccTurn l u).selectLayers l u) := State.selectLayers_keepsInputs ..

theorem State.ccTurn_ostrsOf (s : State) (l u : Nat) : (s.ccTurn l u).ostrsOf l = s.ostrsOf l := by
  have hgate : (s.ccTurn l u).gate = s.gate := (s.ccTurn_moves l u).gate_eq rfl
  simp only [State.ostrsOf, hgate]

theorem State.ccTurn_ostrLog (s : State) (l u o : Nat) : (s.ccTurn l u).ostrLog o = s.ostrLog o := by
  have hostrs : (s.ccTurn l u).ostrs = s.ostrs := (s.ccTurn_moves l u).frame .ostrs rfl
  have hostr : (s.ccTurn l u).ostr o = s.ostr o := by simp only [State.ostr, hostrs]
  rw [State.ostrLog, hostr, (s.ccTurn_moves l u).srcLog_eq rfl rfl, State.ostrLog]

/-- The selector serves the OSTRs of the state before the update. -/
theorem ccUpdate_served {s : State} (h : Sparse.wf (fun _ => 0) s.gate.effective = true) (l u : Nat) :
    ∀ p ∈ s.ostrsOf l, s.served ((s.ccTurn l u).selectLayers l u) u p := by
  intro p hp
  have hwf : Sparse.wf (fun _ => 0) (s.ccTurn l u).gate.effective = true := by
    rw [(s.ccTurn_moves l u).gate_eq rfl]
    exact h
  have hmem : p ∈ (s.ccTurn l u).ostrsOf l := by
    rw [State.ccTurn_ostrsOf]
    exact hp
  exact (State.selectLayers_served hwf l u p hmem).congr (s.ccTurn_ostrLog l u p.1) rfl

/-! ### PLI_SEND (R140) -/

theorem exec_pliSend {v a : Nat} {s : State} (hp : (s.vstr v).lastPli = some a) (hw : (s.vstr v).pliWaiting = true) (hn : a + 500 < s.nextTick)
    (ha : s.mediaOff = false) : exec (.pliSend v) s = .next (s.sendPli v (a + 500) (s.vstr v).firWaiting) := by
  show execPliSend v s = _
  simp only [execPliSend, hp, hw, hn, ha, decide_true, Bool.not_false, Bool.and_self, if_true]

/-- Counting a request turns no RTCP packet away. -/
theorem State.takesRtcp.bumpKeyreq {s : State} {l k : Nat} (h : s.takesRtcp l k) : (s.bump Fld.ADAPT_KEYREQ_PLI).takesRtcp l k := by
  have hget : ∀ f : FieldRef, f.addr ≠ Reg.ADAPT_KEYREQ → (s.bump Fld.ADAPT_KEYREQ_PLI).get f = s.get f := fun f hf =>
    State.get_of_rd_eq (State.rd_bump _ _ _ _ hf)
  have hquiescing : ∀ p ∈ [0x27000, 0x2C000], (s.bump Fld.ADAPT_KEYREQ_PLI).quiescing p = s.quiescing p := by
    intro p hp
    rw [State.quiescing, State.on, hget]
    · rfl
    · revert p
      decide
  have hlnow : (s.bump Fld.ADAPT_KEYREQ_PLI).lnow = s.lnow := by
    rw [State.lnow, State.lag, State.rd_bump _ _ _ _ (by decide)]
    rfl
  refine ⟨?_, (hquiescing _ (by decide)).trans h.pktout, fun hs => h.srtp ((hquiescing _ (by decide)).symm.trans hs), ?_⟩
  · rw [State.mediaOff, hget _ (by decide)]
    exact h.active
  · rw [hlnow]
    exact h.inTime

/-- What a request may change: its VSTR, and what sending RTCP may change. -/
theorem State.sendPli_frame (s : State) (v k : Nat) (fir : Bool) :
    s.regsOutside [Reg.ADAPT_KEYREQ, Reg.PKTOUT_LATE, Reg.FAULT_CONTAINED] (s.sendPli v k fir) ∧
      Moves (maskOf [.regs, .legs, .pkts, .nextPkt, .vstrs]) s (s.sendPli v k fir) := by
  have hnoted : Moves (maskOf [.regs, .legs, .pkts, .nextPkt, .vstrs]) s (s.pliNoted v k fir) := (State.setVstr_moves ..).step (by decide) Moves.refl
  rw [State.sendPli_eq]
  split
  · obtain ⟨hout, hmoves⟩ := ((s.pliNoted v k fir).bump Fld.ADAPT_KEYREQ_PLI).sendRtcp_frame (s.vstrLeg v) k (s.pictureRequest v fir)
    refine ⟨fun a h => ?_, hmoves.step (by decide) ((State.bump_moves ..).step (by decide) hnoted)⟩
    rw [List.mem_cons, not_or] at h
    exact (hout a h.2).trans (State.rd_bump _ _ _ _ h.1)
  · exact ⟨fun _ _ => rfl, hnoted⟩

theorem State.sendPli_vstr (s : State) (v k : Nat) (fir : Bool) (w : Nat) :
    (s.sendPli v k fir).vstr w = if w = v then (s.vstr v).pliSent k fir else s.vstr w := by
  have hvstrs : (s.sendPli v k fir).vstrs = (s.pliNoted v k fir).vstrs := by
    rw [State.sendPli_eq]
    split
    · exact (State.sendRtcp_frame ..).2.frame .vstrs rfl
    · rfl
  rw [← State.setVstr_vstr, State.vstr, hvstrs]
  rfl

/-- A request that goes out on a leg is counted. -/
theorem State.sendPli_keyreq (s : State) (v k : Nat) (fir : Bool) : (s.sendPli v k fir).get Fld.ADAPT_KEYREQ_PLI =
    if s.vstrLeg v < 0x8000 then (s.get Fld.ADAPT_KEYREQ_PLI + 1) % 2 ^ Fld.ADAPT_KEYREQ_PLI.width else s.get Fld.ADAPT_KEYREQ_PLI := by
  rw [State.sendPli_eq]
  split
  · rw [State.get_of_rd_eq ((State.sendRtcp_frame ..).1 _ (by decide)), State.get_bump _ _ _ (by decide)]
    rfl
  · rfl

/-- A request in time waits for its tick unless a block on its way quiesces. -/
theorem State.sendPli_waits {s : State} {v k : Nat} (fir : Bool) (hl : s.vstrLeg v < 0x8000) (htake : s.takesRtcp (s.vstrLeg v) k) :
    ∃ id p, s.rtcpWaits (s.sendPli v k fir) (s.vstrLeg v) k (s.pictureRequest v fir) id p := by
  have htake' : ((s.pliNoted v k fir).bump Fld.ADAPT_KEYREQ_PLI).takesRtcp (s.vstrLeg v) k := (htake.setVstr ..).bumpKeyreq
  obtain ⟨-, id, p, hwaits, -⟩ := State.sendRtcp_waits htake' (s.pictureRequest v fir)
  rw [State.sendPli_eq, if_pos hl]
  exact ⟨id, p, hwaits.waits, hwaits.due, fun i hi => hwaits.others i hi, hwaits.ends⟩

/-! ### The rate law, the selector and the PLI timer together -/

/-- CC_UPDATE runs the controller and then the selector, which changes nothing that the rate law speaks of. -/
theorem ccUpdate_followsLaw {l : Nat} {s : State} (hon : s.on Fld.ADAPT_CFG_ENABLE = true) (u : Nat) :
    let t := (s.ccTurn l u).selectLayers l u
    (t.leg l).cc = (s.ccNext l u).1 ∧
      ((s.ccNext l u).2 = true → t.get Fld.ADAPT_DECREASES_COUNT = (s.get Fld.ADAPT_DECREASES_COUNT + 1) % 2 ^ Fld.ADAPT_DECREASES_COUNT.width) ∧
      ((s.leg l).shaper.present = true →
        (t.leg l).shaper.rate = Nat.min (ceilDiv (11 * (t.leg l).cc.rate) 10) 10000000 ∧ (t.leg l).shaper.burst = (s.leg l).shaper.burst) := by
  intro t
  have hkeep := ccUpdate_keepsInputs s l u
  have hcc : (t.leg l).cc = (s.ccNext l u).1 := (hkeep.cc l).trans (State.ccTurn_leg_on hon).1
  have hshaper : (t.leg l).shaper = ((s.ccTurn l u).leg l).shaper := hkeep.shaper l
  refine ⟨hcc, fun hd => ?_, fun hp => ?_⟩
  · rw [State.get_of_rd_eq hkeep.decreases, State.ccTurn_decreases hon hd]
  · rw [hcc, hshaper]
    exact State.ccTurn_shaper hon hp

theorem ccUpdate_leg_other (s : State) (u : Nat) {l m : Nat} (hm : m ≠ l) :
    let t := (s.ccTurn l u).selectLayers l u
    t.leg m = { s.leg m with rx := (t.leg m).rx, reports := (t.leg m).reports } := by
  intro t
  have hkeep := (ccUpdate_keepsInputs s l u).leg m
  rw [State.ccTurn_leg_other hm] at hkeep
  exact hkeep

/-- With ENABLE = 0 the controller rests. -/
theorem ccUpdate_disabled {s : State} {l : Nat} (hoff : s.on Fld.ADAPT_CFG_ENABLE = false) (u : Nat) :
    let t := (s.ccTurn l u).selectLayers l u
    (t.leg l).cc.rate = (s.leg l).cc.rate ∧ (t.leg l).shaper = (s.leg l).shaper := by
  intro t
  obtain ⟨hcc, hshaper⟩ := State.ccTurn_leg_off (l := l) (u := u) hoff
  have hkeep := ccUpdate_keepsInputs s l u
  exact ⟨by rw [hkeep.cc, hcc], (hkeep.shaper l).trans hshaper⟩

theorem ccUpdate_lastUpdate (s : State) (l u : Nat) : (((s.ccTurn l u).selectLayers l u).leg l).cc.lastUpdate = some u :=
  (congrArg Cc.lastUpdate ((ccUpdate_keepsInputs s l u).cc l)).trans State.ccTurn_lastUpdate

/-- Settles O34: each clause of the rate law is one case of `Cc.update`, which the selector leaves as it is; the selector gives each OSTR one turn; PLI_SEND is `State.sendPli`. -/
theorem controllersFollowTheRateLaw : Obligations.ControllersFollowTheRateLaw := by
  unfold Obligations.ControllersFollowTheRateLaw
  refine ⟨fun l s => ?_, fun v a s hp hw hn ha => ?_⟩
  · intro g r hst htr ha
    obtain ⟨hmod, htick, hafter⟩ := s.nextUpdate_after l
    let u := s.nextUpdate l
    refine ⟨_, u, exec_ccUpdate hst htr ha, hmod, htick, hafter, ccUpdate_lastUpdate s l u, fun m hm => ccUpdate_leg_other s u hm,
      fun hoff => ccUpdate_disabled hoff u, fun hon => ?_,
      fun hwf p hp k hk => (ccUpdate_served hwf l u p hp).1 k hk, fun hwf p hp => (ccUpdate_served hwf l u p hp).2⟩
    obtain ⟨hcc, hdecreases, hshaper⟩ := ccUpdate_followsLaw (l := l) hon u
    have hrate := congrArg Cc.rate hcc
    exact ⟨fun hs hr => hrate.trans (Cc.update_cuts r hs hr), fun hs hr => hrate.trans (Cc.update_stays_cutRecently r hs hr),
      fun hs hc hh => ⟨hrate.trans (Cc.update_decreases r hs hc hh).1, hdecreases (Cc.update_decreases r hs hc hh).2⟩,
      fun hs hh => hrate.trans (Cc.update_stays_onHold r hs hh), fun hs hc hh hsent => hrate.trans (Cc.update_grows r hs hc hh hsent),
      fun hs hc _ hsent => hrate.trans (Cc.update_stays_unsent r hs hc hsent), hshaper⟩
  · obtain ⟨hout, hmoves⟩ := s.sendPli_frame v (a + 500) (s.vstr v).firWaiting
    refine ⟨_, exec_pliSend hp hw hn ha, (State.sendPli_vstr ..).trans (if_pos rfl), State.sendPli_keyreq .., fun hl ht hpkt hsrtp => ?_,
      fun w hne => (State.sendPli_vstr ..).trans (if_neg hne), hout, (State.sendPli_keepsInputs ..).leg, hmoves.only rfl⟩
    obtain ⟨id, p, hwaits⟩ := State.sendPli_waits (s.vstr v).firWaiting hl ⟨ha, hpkt, fun h => absurd h (by rw [hsrtp]; decide), ht⟩
    obtain ⟨first, hends⟩ := hwaits.ends
    exact ⟨id, p, first, hwaits.waits, hwaits.due, hwaits.others, hends⟩

end Sys2Proof.Machine
end

section
/-! Granary's queues (R160 to R164): what the losses of a queue leave of the state, and the comparison of a queue's pointers. -/

namespace Sys2Proof.Machine

/-! ### Tables written twice or entry by entry -/

theorem Sparse.insert_insert {α : Type} (m : Sparse α) (k : Nat) (v w : α) : (m.insert k v).insert k w = m.insert k w := by
  induction m with
  | nil => simp [Sparse.insert]
  | cons p t ih =>
    obtain ⟨i, u⟩ := p
    by_cases he : k = i
    · simp [Sparse.insert, he]
    · by_cases hl : k < i <;> simp [Sparse.insert, he, hl, ih]

theorem Sparse.erase_insert {α : Type} (m : Sparse α) (k : Nat) (v : α) : (m.insert k v).erase k = m.erase k := by
  induction m with
  | nil => simp [Sparse.insert, Sparse.erase]
  | cons p t ih =>
    obtain ⟨i, u⟩ := p
    by_cases he : k = i
    · simp [Sparse.insert, Sparse.erase, he]
    · by_cases hl : k < i <;> simp [Sparse.insert, Sparse.erase, he, hl, ih]

/-- Of two writes at one index the last one counts. -/
theorem Sparse.set_set {α : Type} [DecidableEq α] (d : Nat → α) (m : Sparse α) (k : Nat) {v : α} (hv : v ≠ d k) (w : α) :
    (m.set d k v).set d k w = m.set d k w := by
  simp only [Sparse.set, if_neg hv, Sparse.insert_insert, Sparse.erase_insert]

/-- What a mapped table reads as: nothing, or the image of some value. -/
theorem Sparse.get_mapAll_cases {α : Type} [DecidableEq α] (d : Nat → α) (f : Nat → α → α) (m : Sparse α) (k : Nat) :
    (Sparse.mapAll d f m).get d k = d k ∨ ∃ v, (Sparse.mapAll d f m).get d k = f k v := by
  induction m with
  | nil => exact .inl rfl
  | cons p t ih =>
    obtain ⟨i, v⟩ := p
    simp only [Sparse.mapAll]
    split
    · exact ih
    · simp only [Sparse.get]
      split
      · next hk => exact .inr ⟨v, by rw [hk]⟩
      · exact ih

/-! ### What a queue no longer holds waits no longer (R161, R86) -/

/-- Of leg queue l's video and RTX packets only those wait that it holds. -/
theorem State.prunePkts_held {s : State} {l id : Nat} {p : TxPkt} (h : (s.prunePkts l).pkt id = some p) (hl : p.leg = l)
    (hk : p.kind = .video ∨ p.kind = .rtx) : ∃ i ∈ (s.queue l).items, i.tag = id := by
  unfold State.pkt State.prunePkts at h
  rcases Sparse.get_mapAll_cases _ _ s.pkts id with hnone | ⟨o, ho⟩
  · rw [hnone] at h
    cases h
  · rw [ho] at h
    cases o with
    | none => cases h
    | some x =>
      dsimp only at h
      split at h
      · cases h
      · next hkept =>
        cases h
        simpa [hl, hk] using hkept

theorem State.injSettle_rd (n fuel : Nat) {a : Nat} (ha : a ≠ Reg.PLANEn_INJ_PTR n) : ∀ s : State, (s.injSettle n fuel).rd a = s.rd a := by
  induction fuel with
  | zero => exact fun _ => rfl
  | succ fuel ih =>
    intro s
    unfold State.injSettle
    extract_lets p
    split
    · rfl
    · split
      · rfl
      · exact (ih _).trans (State.rd_put_other _ _ _ _ ha)

/-- The registers that tell of an inject ring's HEAD on the two planes whose ports have host queues. -/
def injRegs : List Nat := [Reg.PLANEn_INJ_PTR 0, Reg.PLANEn_INJ_PTR 1]

theorem State.pruneQueue_regsOutside (s : State) (q : Nat) : s.regsOutside injRegs (s.pruneQueue q) := by
  intro a ha
  simp only [injRegs, List.mem_cons, List.not_mem_nil, or_false, not_or] at ha
  unfold State.pruneQueue
  split
  · rfl
  · split
    · have hplane : (q - 0x4000) / 2 = 0 ∨ (q - 0x4000) / 2 = 1 := by omega
      refine (State.injSettle_rd _ _ ?_ _).trans rfl
      rcases hplane with h | h <;> rw [h]
      · exact ha.1
      · exact ha.2
    · rfl

theorem State.pruneQueue_queue (s : State) (q r : Nat) : (s.pruneQueue q).queue r = s.queue r := by
  rw [State.queue, (State.pruneQueue_moves s q).frame .queues rfl, State.queue]

/-! ### The registers a queue reset counts in (R162) -/

theorem State.resetNoted_regsOutside (s : State) :
    s.regsOutside [Reg.GRANARY_RESETS, Reg.FAULT_CONTAINED, Reg.PG_EVENT granaryPage] s.resetNoted := by
  intro a ha
  simp only [List.mem_cons, List.not_mem_nil, or_false, not_or] at ha
  obtain ⟨hresets, hcontained, hevent⟩ := ha
  rw [State.resetNoted, State.contained, State.rd_bump _ _ _ _ hcontained, State.rd_event, if_neg hevent, State.rd_bump _ _ _ _ hresets]

theorem State.resetNoted_resets (s : State) :
    s.resetNoted.get Fld.GRANARY_RESETS_COUNT = (s.get Fld.GRANARY_RESETS_COUNT + 1) % 2 ^ Fld.GRANARY_RESETS_COUNT.width := by
  rw [State.resetNoted, State.contained, State.get_of_rd_eq (State.rd_bump _ _ _ _ (by decide)), State.get_event_other _ _ _ _ (by decide),
    State.get_bump _ _ _ (by decide)]

theorem State.resetNoted_contained (s : State) :
    s.resetNoted.get Fld.FAULT_CONTAINED_COUNT = (s.get Fld.FAULT_CONTAINED_COUNT + 1) % 2 ^ Fld.FAULT_CONTAINED_COUNT.width := by
  rw [State.resetNoted, State.contained, State.get_bump _ _ _ (by decide), State.get_event_other _ _ _ _ (by decide),
    State.get_of_rd_eq (State.rd_bump _ _ _ _ (by decide))]

theorem State.resetNoted_hasEvent (s : State) : s.resetNoted.hasEvent granaryPage 1 := by
  rw [State.hasEvent, State.resetNoted, State.contained, State.rd_bump _ _ _ _ (by decide)]
  exact State.event_get _ _ 1 (by decide)

end Sys2Proof.Machine
end

section
/-! Admission to a linked-list queue (R160, R161): what the overwriting loop leaves, and GRANARY_ENQUEUE of a record. -/

namespace Sys2Proof.Machine

/-! ### Overwriting the oldest unclaimed item -/

/-- The items an overwrite may still take. -/
def unclaimed (l : List GItem) : List GItem := l.filter (fun i => !i.claimed)

theorem unclaimed_eq_nil {l : List GItem} : unclaimed l = [] ↔ ∀ i ∈ l, i.claimed = true := by
  simp [unclaimed, List.filter_eq_nil_iff]

theorem oldestUnclaimed_isNone {l : List GItem} : (oldestUnclaimed l).isNone = true ↔ unclaimed l = [] := by
  simp [oldestUnclaimed, unclaimed_eq_nil]

theorem unclaimed_dropUnclaimed (l : List GItem) : unclaimed (dropUnclaimed l) = (unclaimed l).tail := by
  induction l with
  | nil => rfl
  | cons i t ih =>
    cases hi : i.claimed
    · simp [dropUnclaimed, unclaimed, hi]
    · simpa [dropUnclaimed, unclaimed, hi] using ih

theorem claimed_dropUnclaimed (l : List GItem) : (dropUnclaimed l).filter (fun i => i.claimed) = l.filter (fun i => i.claimed) := by
  induction l with
  | nil => rfl
  | cons i t ih =>
    cases hi : i.claimed
    · simp [dropUnclaimed, hi]
    · simpa [dropUnclaimed, hi] using ih

/-- The items after n overwrites. -/
def overwritten (n : Nat) (l : List GItem) : List GItem := Nat.repeat dropUnclaimed n l

theorem overwritten_dropUnclaimed (n : Nat) (l : List GItem) : overwritten n (dropUnclaimed l) = overwritten (n + 1) l := by
  induction n with
  | zero => rfl
  | succ n ih => exact congrArg dropUnclaimed ih

theorem claimed_overwritten (n : Nat) (l : List GItem) : (overwritten n l).filter (fun i => i.claimed) = l.filter (fun i => i.claimed) := by
  induction n with
  | zero => rfl
  | succ n ih => exact (claimed_dropUnclaimed _).trans ih

/-! ### The loop of R160 -/

/-- n overwrites make room among the items l for k cells: each was needed, and then the cells fit or nothing is left to overwrite. -/
structure RoomMade (min max avail k : Nat) (l : List GItem) (n : Nat) : Prop where
  needed : ∀ j, j < n → itemFits min max avail k (overwritten j l) = false
  atMost : n ≤ (unclaimed l).length
  ends : itemFits min max avail k (overwritten n l) = true ∨ ∀ i ∈ overwritten n l, i.claimed = true

section Loop

variable {min max avail k : Nat} {l : List GItem}

theorem RoomMade.start (h : itemFits min max avail k l = true ∨ unclaimed l = []) : RoomMade min max avail k l 0 where
  needed := fun _ hj => absurd hj (Nat.not_lt_zero _)
  atMost := Nat.zero_le _
  ends := h.imp_right unclaimed_eq_nil.1

/-- An overwrite that is needed comes before those that make room afterwards. -/
theorem RoomMade.next {n : Nat} (hfull : itemFits min max avail k l = false) (hleft : unclaimed l ≠ [])
    (h : RoomMade min max avail k (dropUnclaimed l) n) : RoomMade min max avail k l (n + 1) where
  needed := fun j hj => by
    cases j with
    | zero => exact hfull
    | succ j =>
      rw [← overwritten_dropUnclaimed]
      exact h.needed j (Nat.lt_of_succ_lt_succ hj)
  atMost := by
    have hdrop := h.atMost
    have hpos := List.length_pos_iff.2 hleft
    rw [unclaimed_dropUnclaimed, List.length_tail] at hdrop
    omega
  ends := by
    rw [← overwritten_dropUnclaimed]
    exact h.ends

theorem itemFits_eq_false : itemFits min max avail k l = false ↔
    sumBy GItem.cells l + k > max ∨
      k - Nat.min k (min - sumBy GItem.cells l) > avail - sumBy GItem.cells l - (min - sumBy GItem.cells l) := by
  rw [itemFits, Bool.and_eq_false_iff, decide_eq_false_iff_not, decide_eq_false_iff_not, Nat.not_le, Nat.not_le]

/-- With a turn for each item that may be overwritten, the loop makes room. -/
theorem itemMakeRoom_makesRoom (fuel : Nat) : ∀ (l : List GItem) (m : Nat), (unclaimed l).length ≤ fuel →
    ∃ n, itemMakeRoom min max avail k fuel l m = (overwritten n l, m + n) ∧ RoomMade min max avail k l n := by
  induction fuel with
  | zero =>
    intro l m hfuel
    exact ⟨0, rfl, .start (.inr (List.length_eq_zero_iff.1 (Nat.le_zero.1 hfuel)))⟩
  | succ fuel ih =>
    intro l m hfuel
    simp only [itemMakeRoom, ← itemFits_eq_false]
    split
    · next hnone => exact ⟨0, rfl, .start (.inr (oldestUnclaimed_isNone.1 hnone))⟩
    · next hsome =>
      have hleft : unclaimed l ≠ [] := fun h => hsome (oldestUnclaimed_isNone.2 h)
      split
      · next hfull =>
        have hdrop : (unclaimed (dropUnclaimed l)).length ≤ fuel := by
          rw [unclaimed_dropUnclaimed, List.length_tail]
          omega
        obtain ⟨n, hloop, hroom⟩ := ih (dropUnclaimed l) (m + 1) hdrop
        refine ⟨n + 1, ?_, hroom.next hfull hleft⟩
        rw [hloop, overwritten_dropUnclaimed, Nat.add_assoc, Nat.add_comm 1]
      · next hfits => exact ⟨0, rfl, .start (.inl (eq_true_of_ne_false hfits))⟩

end Loop

/-! ### What an admission leaves -/

/-- s with queue q holding the items, `lost` counted in its LOST count, and its cells taken from and given to the pool. -/
def State.holding (s : State) (q : Nat) (items : List GItem) (lost : Nat) : State :=
  { s with queues := s.queues.set (fun _ => {}) q { s.queue q with items := items, lost := ((s.queue q).lost + lost) % 2 ^ 24,
                                                                   minCells := (s.qLimits q).1, maxCells := (s.qLimits q).2 },
           freeCells := s.freeCells + (s.queue q).cells - sumBy GItem.cells items }

/-- Lost items are errors of class CONTAINED (R26), and what they were waits no longer (R161). -/
def State.lossesNoted (s : State) (q lost : Nat) : State := if lost = 0 then s else (s.contained lost).pruneQueue q

/-- The admission's result: the state with the items held and the losses noted. -/
def State.afterAdmission (s : State) (q : Nat) (items : List GItem) (lost : Nat) : State :=
  { (s.holding q items lost).lossesNoted q lost with nextPkt := s.nextPkt + 1 }

/-- The cells that are free, held by queue q, or reserved by it: what its items may take (R159, R160). -/
def State.availFor (s : State) (q : Nat) : Nat :=
  s.freeCells + (s.queue q).cells - (s.reservedCells - ((s.qLimits q).1 - (s.queue q).cells))

/-- Whether k cells fit in queue q of s beside the items l. -/
def State.fitsIn (s : State) (q k : Nat) (l : List GItem) : Bool := itemFits (s.qLimits q).1 (s.qLimits q).2 (s.availFor q) k l

section Admitted

variable (s : State) (q : Nat) (items : List GItem) (lost : Nat)

theorem State.lossesNoted_queue (r : Nat) : (s.lossesNoted q lost).queue r = s.queue r := by
  unfold State.lossesNoted
  split
  · rfl
  · exact State.pruneQueue_queue ..

theorem State.lossesNoted_moves : Moves (maskOf [.regs, .pkts, .planes, .ports]) s (s.lossesNoted q lost) :=
  Moves.ite Moves.refl ((State.pruneQueue_moves ..).step (by decide) ((State.contained_moves ..).step (by decide) Moves.refl))

theorem State.lossesNoted_regsOutside : s.regsOutside (Reg.FAULT_CONTAINED :: injRegs) (s.lossesNoted q lost) := by
  intro a ha
  obtain ⟨hcontained, hinj⟩ := not_or.1 (fun h => ha (List.mem_cons.2 h))
  unfold State.lossesNoted
  split
  · rfl
  · rw [State.pruneQueue_regsOutside _ _ _ hinj, State.contained, State.rd_bump _ _ _ _ hcontained]

theorem State.lossesNoted_contained :
    (s.lossesNoted q lost).get Fld.FAULT_CONTAINED_COUNT = (s.get Fld.FAULT_CONTAINED_COUNT + lost) % 2 ^ 32 := by
  unfold State.lossesNoted
  split
  · next hnone =>
    subst hnone
    exact (Nat.mod_eq_of_lt (bits_lt ..)).symm
  · rw [State.get_of_rd_eq (State.pruneQueue_regsOutside _ _ _ (by decide)), State.contained, State.get_bump _ _ _ (by decide)]
    rfl

theorem State.holding_queue (r : Nat) : (s.holding q items lost).queue r = if r = q then
    { s.queue q with items := items, lost := ((s.queue q).lost + lost) % 2 ^ 24, minCells := (s.qLimits q).1, maxCells := (s.qLimits q).2 }
    else s.queue r := Sparse.get_set ..

theorem State.holding_moves : Moves (maskOf [.queues, .freeCells]) s (s.holding q items lost) := Moves.set_queues_freeCells ..

theorem State.afterAdmission_queue (r : Nat) : (s.afterAdmission q items lost).queue r = (s.holding q items lost).queue r :=
  State.lossesNoted_queue ..

theorem State.afterAdmission_queue_other {r : Nat} (hr : r ≠ q) : (s.afterAdmission q items lost).queue r = s.queue r := by
  rw [State.afterAdmission_queue, State.holding_queue, if_neg hr]

theorem State.afterAdmission_items : ((s.afterAdmission q items lost).queue q).items = items := by
  rw [State.afterAdmission_queue, State.holding_queue, if_pos rfl]

theorem State.afterAdmission_lost : ((s.afterAdmission q items lost).queue q).lost = ((s.queue q).lost + lost) % 2 ^ 24 := by
  rw [State.afterAdmission_queue, State.holding_queue, if_pos rfl]

theorem State.afterAdmission_freeCells :
    (s.afterAdmission q items lost).freeCells = s.freeCells + (s.queue q).cells - ((s.afterAdmission q items lost).queue q).cells := by
  have hfree : (s.afterAdmission q items lost).freeCells = (s.holding q items lost).freeCells := (State.lossesNoted_moves ..).frame .freeCells rfl
  show _ = _ - sumBy GItem.cells ((s.afterAdmission q items lost).queue q).items
  rw [hfree, State.afterAdmission_items]
  rfl

theorem State.afterAdmission_contained :
    (s.afterAdmission q items lost).get Fld.FAULT_CONTAINED_COUNT = (s.get Fld.FAULT_CONTAINED_COUNT + lost) % 2 ^ 32 :=
  State.lossesNoted_contained ..

theorem State.afterAdmission_regsOutside : s.regsOutside (Reg.FAULT_CONTAINED :: injRegs) (s.afterAdmission q items lost) :=
  fun a ha => (State.lossesNoted_regsOutside _ _ _ a ha).trans rfl

theorem State.afterAdmission_changesOnly :
    s.changesOnly [.regs, .queues, .freeCells, .pkts, .nextPkt, .planes, .ports] (s.afterAdmission q items lost) :=
  ((Moves.set_nextPkt ..).step (by decide) ((State.lossesNoted_moves ..).step (by decide)
    ((State.holding_moves ..).step (m := maskOf [.regs, .queues, .freeCells, .pkts, .nextPkt, .planes, .ports]) (by decide) Moves.refl))).only rfl

/-- Where nothing is lost only the queue, the pool and the numbering change. -/
theorem State.afterAdmission_changesOnly_of_none_lost : s.changesOnly [.queues, .freeCells, .nextPkt] (s.afterAdmission q items 0) :=
  ((Moves.set_nextPkt ..).step (by decide)
    ((State.holding_moves ..).step (m := maskOf [.queues, .freeCells, .nextPkt]) (by decide) Moves.refl)).only rfl

end Admitted

/-! ### GRANARY_ENQUEUE of a record -/

/-- A linked-list queue whose pointers agree passes their comparison. -/
theorem State.queueCheck_of_good {s : State} {q : Nat} (hq : ¬ (0x4100 ≤ q ∧ q < 0x4140)) (hbad : (s.queue q).bad = false) : s.queueCheck q = s := by
  rw [State.queueCheck, if_neg hq, hbad]
  rfl

section Enqueue

variable {s : State} {q : Nat}

theorem exec_granaryEnqueue_record (len : Nat) (hq : ¬ (0x4100 ≤ q ∧ q < 0x4140)) (hbad : (s.queue q).bad = false) :
    exec (.granaryEnqueue q (.record len) false) s = .next { s.qAppend q len s.nextPkt with nextPkt := s.nextPkt + 1 } := by
  have haccess : s.access q false = s := State.queueCheck_of_good hq hbad
  show execGranaryEnqueue q (.record len) false s = _
  simp only [execGranaryEnqueue, haccess, if_neg hq]

/-- The loop's result decides an admission: what it leaves is held, with the item last where it fits and Granary does not quiesce. -/
theorem State.qAppend_eq {len tag n : Nat} {l : List GItem} (hcheck : s.queueCheck q = s)
    (hmade : (if s.quiescing granaryPage then ((s.queue q).items, 0)
      else itemMakeRoom (s.qLimits q).1 (s.qLimits q).2 (s.availFor q) (ceilDiv len 256) (s.queue q).items.length (s.queue q).items 0) = (l, n)) :
    s.qAppend q len tag = if (s.fitsIn q (ceilDiv len 256) l && !s.quiescing granaryPage) = true
      then (s.holding q (l ++ [⟨len, tag, false⟩]) n).lossesNoted q n else (s.holding q l (n + 1)).lossesNoted q (n + 1) := by
  rw [State.availFor] at hmade
  cases hfits : s.fitsIn q (ceilDiv len 256) l && !s.quiescing granaryPage <;>
    rw [State.fitsIn, State.availFor] at hfits <;>
    simp only [State.qAppend, hcheck, hmade, hfits] <;> rfl

/-- While Granary quiesces a record is dropped. -/
theorem exec_granaryEnqueue_quiescing (len : Nat) (hq : ¬ (0x4100 ≤ q ∧ q < 0x4140)) (hbad : (s.queue q).bad = false)
    (hquiet : s.quiescing granaryPage = true) :
    exec (.granaryEnqueue q (.record len) false) s = .next (s.afterAdmission q (s.queue q).items 1) := by
  rw [exec_granaryEnqueue_record len hq hbad, State.qAppend_eq (State.queueCheck_of_good hq hbad) (if_pos hquiet), if_neg (by simp [hquiet])]
  rfl

/-- The item i of k cells comes to queue q of s: n overwrites make room, and the queue then holds the items, `lost` of them and of the item gone. -/
structure State.admits (s : State) (q k : Nat) (i : GItem) (n : Nat) (items : List GItem) (lost : Nat) : Prop where
  room : RoomMade (s.qLimits q).1 (s.qLimits q).2 (s.availFor q) k (s.queue q).items n
  appended : s.fitsIn q k (overwritten n (s.queue q).items) = true → items = overwritten n (s.queue q).items ++ [i] ∧ lost = n
  dropped : s.fitsIn q k (overwritten n (s.queue q).items) = false → items = overwritten n (s.queue q).items ∧ lost = n + 1

/-- An admission keeps the claimed items, in their order. -/
theorem State.admits.claimed {k n lost : Nat} {i : GItem} {items : List GItem} (h : s.admits q k i n items lost) (hi : i.claimed = false) :
    items.filter (fun i => i.claimed) = (s.queue q).items.filter (fun i => i.claimed) := by
  cases hfits : s.fitsIn q k (overwritten n (s.queue q).items)
  · rw [(h.dropped hfits).1, claimed_overwritten]
  · rw [(h.appended hfits).1, List.filter_append, claimed_overwritten]
    simp [hi]

/-- A record comes to a queue while Granary takes work. -/
theorem exec_granaryEnqueue_awake (len : Nat) (hq : ¬ (0x4100 ≤ q ∧ q < 0x4140)) (hbad : (s.queue q).bad = false)
    (hawake : s.quiescing granaryPage = false) :
    ∃ n items lost, exec (.granaryEnqueue q (.record len) false) s = .next (s.afterAdmission q items lost) ∧
      s.admits q (ceilDiv len 256) ⟨len, s.nextPkt, false⟩ n items lost := by
  obtain ⟨n, hloop, hroom⟩ := itemMakeRoom_makesRoom (min := (s.qLimits q).1) (max := (s.qLimits q).2) (avail := s.availFor q) (k := ceilDiv len 256)
    (s.queue q).items.length (s.queue q).items 0 (List.length_filter_le ..)
  rw [Nat.zero_add] at hloop
  rw [exec_granaryEnqueue_record len hq hbad, State.qAppend_eq (State.queueCheck_of_good hq hbad) ((if_neg (by simp [hawake])).trans hloop), hawake]
  cases hfits : s.fitsIn q (ceilDiv len 256) (overwritten n (s.queue q).items)
  · exact ⟨n, _, _, rfl, hroom, fun h => absurd (hfits.symm.trans h) (by decide), fun _ => ⟨rfl, rfl⟩⟩
  · exact ⟨n, _, _, rfl, hroom, fun _ => ⟨rfl, rfl⟩, fun h => absurd (hfits.symm.trans h) (by decide)⟩

/-- What the statement calls fitting, in the model's own terms. -/
theorem State.fitsIn_iff (k : Nat) (l : List GItem) : s.fitsIn q k l = true ↔ sumBy GItem.cells l + k ≤ (s.qLimits q).2 ∧
    k - Nat.min k ((s.qLimits q).1 - sumBy GItem.cells l) ≤ s.availFor q - sumBy GItem.cells l - ((s.qLimits q).1 - sumBy GItem.cells l) := by
  rw [State.fitsIn, itemFits, Bool.and_eq_true, decide_eq_true_iff, decide_eq_true_iff]

/-- A record that fits beside what is there, under the cap and within the reservation and the shared count, fits without an overwrite (R159, R160). -/
theorem State.fitsIn_of_shared {k : Nat} (hcap : (s.queue q).cells + k ≤ (s.qLimits q).2)
    (hneed : k - Nat.min k ((s.qLimits q).1 - (s.queue q).cells) ≤ s.sharedCells) (hown : (s.qLimits q).1 - (s.queue q).cells ≤ s.reservedCells)
    (hfree : s.reservedCells ≤ s.freeCells) : s.fitsIn q k (s.queue q).items = true := by
  have hshared : s.availFor q - (s.queue q).cells - ((s.qLimits q).1 - (s.queue q).cells) = s.sharedCells := by
    rw [State.availFor, State.sharedCells]
    omega
  exact (State.fitsIn_iff k _).2 ⟨hcap, Nat.le_trans hneed (Nat.le_of_eq hshared.symm)⟩

end Enqueue

/-- Settles O37: the loop of R160 is `RoomMade`, and each outcome of an admission is one state `State.afterAdmission`. -/
theorem admissionOverwritesOnlyWhatItMust : Obligations.AdmissionOverwritesOnlyWhatItMust := by
  intro q len s hq hbad g k min max avail after fits lostRegs
  have hfits (l : List GItem) : fits l ↔ s.fitsIn q k l = true := (State.fitsIn_iff k l).symm
  have hnot (l : List GItem) : ¬ fits l ↔ s.fitsIn q k l = false := by rw [hfits, Bool.not_eq_true]
  refine ⟨fun hquiet => ⟨_, exec_granaryEnqueue_quiescing len hq hbad hquiet, State.afterAdmission_items .., State.afterAdmission_lost .., rfl,
    fun r hr => State.afterAdmission_queue_other _ _ _ _ hr, State.afterAdmission_regsOutside _ _ _ _, State.afterAdmission_changesOnly _ _ _ _⟩, fun hawake => ?_⟩
  obtain ⟨n, items, lost, hexec, hadmits⟩ := exec_granaryEnqueue_awake len hq hbad hawake
  have hitems := State.afterAdmission_items s q items lost
  have hlost := State.afterAdmission_lost s q items lost
  have hcontained := State.afterAdmission_contained s q items lost
  have hclaimed := hadmits.claimed rfl
  obtain ⟨hroom, happended, hdropped⟩ := hadmits
  refine ⟨_, n, hexec, fun j hj => (hnot _).2 (hroom.needed j hj), hroom.atMost, fun h => ?_, fun h => ?_, ?_, State.afterAdmission_freeCells .., rfl,
    fun r hr => State.afterAdmission_queue_other _ _ _ _ hr, fun hcap hneed hown hfree => ?_, fun hn h => ?_, fun h => ?_, fun h => ?_,
    State.afterAdmission_regsOutside _ _ _ _, State.afterAdmission_changesOnly _ _ _ _⟩
  · obtain ⟨hi, hl⟩ := happended ((hfits _).1 h)
    exact ⟨hitems.trans hi, hl ▸ hlost⟩
  · obtain ⟨hi, hl⟩ := hdropped ((hnot _).1 h)
    exact ⟨hitems.trans hi, hroom.ends.resolve_left (fun hf => h ((hfits _).2 hf)), hl ▸ hlost⟩
  · rw [hitems]
    exact hclaimed
  · have hnow : fits (after 0) := (hfits _).2 (State.fitsIn_of_shared hcap hneed hown hfree)
    exact ⟨Nat.eq_zero_of_not_pos (fun hpos => (hnot _).2 (hroom.needed 0 hpos) hnow), hnow⟩
  · subst hn
    obtain ⟨-, rfl⟩ := happended ((hfits _).1 h)
    exact State.afterAdmission_changesOnly_of_none_lost _ _ _
  · exact (happended ((hfits _).1 h)).2 ▸ hcontained
  · exact (hdropped ((hnot _).1 h)).2 ▸ hcontained

end Sys2Proof.Machine
end

section
/-! Claims and reads, queue resets, sweeps and bank queues (R161, R162, R164, R165). -/

namespace Sys2Proof.Machine

/-! ### Claims and reads (R161) -/

theorem sumBy_append {α : Type} (f : α → Nat) (a b : List α) : sumBy f (a ++ b) = sumBy f a + sumBy f b := by
  induction a with
  | nil => exact (Nat.zero_add _).symm
  | cons x t ih => rw [List.cons_append, sumBy, sumBy, ih, Nat.add_assoc]

/-- The item claimed is the first that is not. -/
theorem claimOldest_append {a : List GItem} (ha : ∀ x ∈ a, x.claimed = true) (b : List GItem) {i : GItem} (hi : i.claimed = false) :
    claimOldest (a ++ i :: b) = a ++ { i with claimed := true } :: b := by
  induction a with
  | nil => simp [claimOldest, hi]
  | cons x t ih =>
    rw [List.forall_mem_cons] at ha
    simp [claimOldest, ha.1, ih ha.2]

/-- The item whose read completes is the first claimed one. -/
theorem dropClaimed_append {a : List GItem} (ha : ∀ x ∈ a, x.claimed = false) (b : List GItem) {i : GItem} (hi : i.claimed = true) :
    dropClaimed (a ++ i :: b) = a ++ b := by
  induction a with
  | nil => simp [dropClaimed, hi]
  | cons x t ih =>
    rw [List.forall_mem_cons] at ha
    simp [dropClaimed, ha.1, ih ha.2]

/-- The cells that an item taken out of a list gives back. -/
theorem sumBy_cells_removed (a b : List GItem) (i : GItem) : sumBy GItem.cells (a ++ i :: b) - sumBy GItem.cells (a ++ b) = i.cells := by
  rw [sumBy_append, sumBy_append, sumBy]
  omega

theorem State.setQueue_changesOnly (s : State) (q : Nat) (x : GQueue) : s.changesOnly [.queues] (s.setQueue q x) := (State.setQueue_moves ..).only rfl

section Claim

variable {q : Nat} {a b : List GItem} {i : GItem} {s : State}

theorem granaryClaim_marksOldest (hitems : (s.queue q).items = a ++ i :: b) (ha : ∀ x ∈ a, x.claimed = true) (hi : i.claimed = false)
    (hq : ¬ (0x4100 ≤ q ∧ q < 0x4140)) (hbad : (s.queue q).bad = false) :
    exec (.granaryClaim q false) s = .next (s.setQueue q { s.queue q with items := a ++ { i with claimed := true } :: b }) := by
  have haccess : s.access q false = s := State.queueCheck_of_good hq hbad
  show execGranaryClaim q false s = _
  simp only [execGranaryClaim, haccess, hitems, claimOldest_append ha b hi]

theorem granaryReadComplete_returnsCells (hitems : (s.queue q).items = a ++ i :: b) (ha : ∀ x ∈ a, x.claimed = false) (hi : i.claimed = true) :
    exec (.granaryReadComplete q) s =
      .next { s.setQueue q { s.queue q with items := a ++ b } with freeCells := s.freeCells + ceilDiv i.len 256 } := by
  show execGranaryReadComplete q s = _
  simp only [execGranaryReadComplete, GQueue.cells, hitems, dropClaimed_append ha b hi, sumBy_cells_removed, GItem.cells, State.setQueue_freeCells]

end Claim

/-! ### The comparison of a queue's pointers (R162) -/

theorem State.setQueue_setQueue (s : State) (q : Nat) {x : GQueue} (hx : x.bad = true) (y : GQueue) : (s.setQueue q x).setQueue q y = s.setQueue q y := by
  have hne : x ≠ {} := fun h => by simp [h] at hx
  simp only [State.setQueue, Sparse.set_set (fun _ => {}) s.queues q hne y]

/-- Bad pointers of an event queue make no difference to its reset. -/
theorem State.evqReset_pointersBad (s : State) (q : Nat) (hq : 0x4100 ≤ q ∧ q < 0x4140) :
    (s.pointersBad q).evqReset (q - 0x4100) = s.evqReset (q - 0x4100) := by
  simp [State.pointersBad, if_pos hq, State.evqReset, Sparse.set_set, EvQueue.cells]

/-- A mismatch that an access finds resets the queue. -/
theorem State.access_mismatch (s : State) (q : Nat) : s.access q true = s.queueReset q := by
  by_cases hq : 0x4100 ≤ q ∧ q < 0x4140
  · have hbad : ((s.pointersBad q).evq.get (fun _ => {}) (q - 0x4100)).bad = true := by
      rw [State.pointersBad, if_pos hq, Sparse.get_set, if_pos rfl]
    have hnumber : 0x4100 + (q - 0x4100) = q := Nat.add_sub_of_le hq.1
    show (s.pointersBad q).queueCheck q = _
    rw [State.queueCheck, if_pos hq, State.evqCheck, if_pos hbad, State.evqReset_pointersBad s q hq, hnumber, State.queueReset, if_pos hq]
  · have hmarked : s.pointersBad q = s.setQueue q { s.queue q with bad := true } := if_neg hq
    show (s.pointersBad q).queueCheck q = _
    rw [State.queueCheck, if_neg hq, hmarked, State.setQueue_queue, if_pos rfl, if_pos rfl, State.queueReset, State.queueReset, if_neg hq, if_neg hq]
    simp only [State.setQueue_queue, if_true, State.setQueue_setQueue s q (x := { s.queue q with bad := true }) rfl]

/-- Entries are overwritten without a change of what the pointers' copies say. -/
theorem evqMakeRoom_bad (min max avail fuel : Nat) : ∀ (q : EvQueue) (n : Nat), (evqMakeRoom min max avail fuel q n).1.bad = q.bad := by
  induction fuel with
  | zero => exact fun _ _ => rfl
  | succ fuel ih =>
    intro q n
    have hdrop : q.dropOldest.bad = q.bad := by
      unfold EvQueue.dropOldest
      split <;> rfl
    simp only [evqMakeRoom]
    split
    · rfl
    · split
      · rw [ih, hdrop]
      · rfl

theorem State.evqPlace_bad (s : State) (n : Nat) (e : EvEntry) (r : Nat) :
    ((s.evqPlace n e).evq.get (fun _ => {}) r).bad = (s.evq.get (fun _ => {}) r).bad := by
  unfold State.evqPlace
  extract_lets q min max avail
  split
  · simp only [State.bump, State.put_evq, Sparse.get_set]
    split
    · next hr => rw [hr]
    · rfl
  · split
    next q1 lost hmade =>
    have hq1 : q1.bad = q.bad := by
      rw [← evqMakeRoom_bad min max avail q.entries.length q 0, hmade]
    extract_lets fits q2 lost1 q3 t
    have hq3 : q3.bad = q.bad := by
      unfold q3 q2
      split <;> split <;> exact hq1
    have ht : (t.evq.get (fun _ => {}) r).bad = (s.evq.get (fun _ => {}) r).bad := by
      simp only [t, Sparse.get_set]
      split
      · next hr => rw [hq3, hr]
      · rfl
    split
    · exact ht
    · exact ht

/-- An event queue after its reset. -/
theorem State.evqReset_evq (s : State) (n r : Nat) : (s.evqReset n).2.evq.get (fun _ => {}) r =
    if r = n then { lostFlag := (s.evq.get (fun _ => {}) n).lostFlag || decide ((s.evq.get (fun _ => {}) n).entries.length ≠ 0),
                    sweeping := (s.evq.get (fun _ => {}) n).sweeping + (s.evq.get (fun _ => {}) n).cells }
    else s.evq.get (fun _ => {}) r := by
  have hnoted (t : State) : t.resetNoted.evq = t.evq := (State.resetNoted_moves t).frame .evq rfl
  simp only [State.evqReset, hnoted, State.bump, State.put_evq, Sparse.get_set]

/-- QUEUE_RESET makes no pointers disagree. -/
theorem State.postReset_good {s : State} {r : Nat} (q lost : Nat) (h : (s.evq.get (fun _ => {}) r).bad = false) :
    ((s.postReset q lost).evq.get (fun _ => {}) r).bad = false := by
  unfold State.postReset
  extract_lets g
  split
  · rw [State.evqPlace_bad, State.evqPlace_bad, State.evqReset_evq]
    split
    · rfl
    · exact h
  · rw [State.evqPlace_bad, h]

/-! ### The reset of a linked-list queue (R162, R164) -/

/-- A linked-list queue after its reset. -/
def GQueue.emptied (g : GQueue) : GQueue :=
  { g with items := g.items.filter (fun i => i.claimed), lost := (g.lost + (unclaimed g.items).length) % 2 ^ 24,
           sweeping := g.sweeping + sumBy GItem.cells (unclaimed g.items), bad := false }

/-- The reset of linked-list queue q, its QUEUE_RESET entry not yet posted. -/
def State.queueEmptied (s : State) (q : Nat) : State := ((s.setQueue q (s.queue q).emptied).pruneQueue q).resetNoted

theorem State.queueReset_linked {s : State} {q : Nat} (hq : ¬ (0x4100 ≤ q ∧ q < 0x4140)) :
    s.queueReset q = (s.queueEmptied q).postReset q (unclaimed (s.queue q).items).length := if_neg hq

section Emptied

variable (s : State) (q : Nat)

theorem State.resetNoted_queue (r : Nat) : s.resetNoted.queue r = s.queue r := by
  rw [State.queue, (State.resetNoted_moves s).frame .queues rfl, State.queue]

theorem State.queueEmptied_queue (r : Nat) : (s.queueEmptied q).queue r = if r = q then (s.queue q).emptied else s.queue r := by
  rw [State.queueEmptied, State.resetNoted_queue, State.pruneQueue_queue, State.setQueue_queue]

theorem State.queueEmptied_moves : Moves (maskOf [.regs, .queues, .msix, .pkts, .planes, .ports]) s (s.queueEmptied q) :=
  (State.resetNoted_moves ..).step (by decide) ((State.pruneQueue_moves ..).step (by decide) ((State.setQueue_moves ..).step
    (m := maskOf [.regs, .queues, .msix, .pkts, .planes, .ports]) (by decide) Moves.refl))

theorem State.emptied_pruned_regsOutside : s.regsOutside injRegs ((s.setQueue q (s.queue q).emptied).pruneQueue q) :=
  fun a ha => State.pruneQueue_regsOutside (s.setQueue q (s.queue q).emptied) q a ha

theorem State.queueEmptied_regsOutside :
    s.regsOutside ([Reg.GRANARY_RESETS, Reg.FAULT_CONTAINED, Reg.PG_EVENT granaryPage] ++ injRegs) (s.queueEmptied q) := by
  intro a ha
  obtain ⟨hnoted, hinj⟩ := not_or.1 (fun h => ha (List.mem_append.2 h))
  exact (State.resetNoted_regsOutside _ a hnoted).trans (State.emptied_pruned_regsOutside s q a hinj)

theorem State.queueEmptied_resets :
    (s.queueEmptied q).get Fld.GRANARY_RESETS_COUNT = (s.get Fld.GRANARY_RESETS_COUNT + 1) % 2 ^ Fld.GRANARY_RESETS_COUNT.width := by
  rw [State.queueEmptied, State.resetNoted_resets, State.get_of_rd_eq (State.emptied_pruned_regsOutside s q _ (by decide))]

theorem State.queueEmptied_contained :
    (s.queueEmptied q).get Fld.FAULT_CONTAINED_COUNT = (s.get Fld.FAULT_CONTAINED_COUNT + 1) % 2 ^ Fld.FAULT_CONTAINED_COUNT.width := by
  rw [State.queueEmptied, State.resetNoted_contained, State.get_of_rd_eq (State.emptied_pruned_regsOutside s q _ (by decide))]

/-- A leg queue's packets that a reset takes wait for no release. -/
theorem State.queueEmptied_held {id : Nat} {p : TxPkt} (hq : q < 0x4000) (h : (s.queueEmptied q).pkt id = some p) (hl : p.leg = q)
    (hk : p.kind = .video ∨ p.kind = .rtx) : ∃ i ∈ ((s.queueEmptied q).queue q).items, i.tag = id := by
  rw [State.queueEmptied, State.pkt_of_pkts ((State.resetNoted_moves _).frame .pkts rfl), State.pruneQueue, if_pos hq] at h
  have hheld := State.prunePkts_held h hl hk
  rw [State.setQueue_queue, if_pos rfl] at hheld
  rw [State.queueEmptied_queue, if_pos rfl]
  exact hheld

end Emptied

/-! ### QUEUE_RESET is posted (R164) -/

theorem Moves.shortTime_eq {m : Nat} {s t : State} (h : Moves m s t) (hm : m.testBit 4 = false) : t.shortTime = s.shortTime := by
  have hclk : t.clk = s.clk := h.frame .clk hm
  simp only [State.shortTime, State.now, hclk]

/-- With the pointers of GRANARY_CFG.EVQ in agreement the entry is placed there. -/
theorem State.postReset_eq {s : State} (q lost : Nat) (h : (s.evq.get (fun _ => {}) (s.get Fld.GRANARY_CFG_EVQ)).bad = false) :
    s.postReset q lost = s.evqPlace (s.get Fld.GRANARY_CFG_EVQ) ⟨s.shortTime, 0x07, 0x60, q, lost⟩ :=
  if_neg (Bool.eq_false_iff.1 h)

/-- The reset of a linked-list queue, with its entry placed. -/
theorem State.queueReset_linked_posts {s : State} {q : Nat} (hq : ¬ (0x4100 ≤ q ∧ q < 0x4140))
    (hgood : (s.evq.get (fun _ => {}) (s.get Fld.GRANARY_CFG_EVQ)).bad = false) :
    s.queueReset q = (s.queueEmptied q).evqPlace (s.get Fld.GRANARY_CFG_EVQ) ⟨s.shortTime, 0x07, 0x60, q, (unclaimed (s.queue q).items).length⟩ := by
  have hmoves := State.queueEmptied_moves s q
  have hcfg : (s.queueEmptied q).get Fld.GRANARY_CFG_EVQ = s.get Fld.GRANARY_CFG_EVQ :=
    State.get_of_rd_eq (State.queueEmptied_regsOutside s q _ (by decide))
  have hevq : (s.queueEmptied q).evq = s.evq := hmoves.frame .evq rfl
  rw [State.queueReset_linked hq, State.postReset_eq q _ (by rw [hevq, hcfg, hgood]), hcfg, hmoves.shortTime_eq rfl]

/-! ### The reset of an event queue (R162, R168) -/

section EvqReset

variable (s : State) (n : Nat)

theorem State.evqReset_regsOutside :
    s.regsOutside [Reg.EVQn_LOST n, Reg.GRANARY_RESETS, Reg.FAULT_CONTAINED, Reg.PG_EVENT granaryPage] (s.evqReset n).2 := by
  intro a ha
  obtain ⟨hlost, hnoted⟩ := not_or.1 (fun h => ha (List.mem_cons.2 h))
  exact (State.resetNoted_regsOutside _ a hnoted).trans (State.rd_bump _ _ _ _ hlost)

theorem State.evqReset_lost : (s.evqReset n).2.get (Fld.EVQn_LOST_COUNT n) =
    (s.get (Fld.EVQn_LOST_COUNT n) + (s.evq.get (fun _ => {}) n).entries.length) % 2 ^ (Fld.EVQn_LOST_COUNT n).width := by
  have hapart : (Fld.EVQn_LOST_COUNT n).addr ∉ [Reg.GRANARY_RESETS, Reg.FAULT_CONTAINED, Reg.PG_EVENT granaryPage] := by
    simp only [Fld.EVQn_LOST_COUNT, Reg.EVQn_LOST, Reg.GRANARY_RESETS, Reg.FAULT_CONTAINED, Reg.PG_EVENT, granaryPage, List.mem_cons, List.not_mem_nil, or_false]
    omega
  rw [State.evqReset, State.get_of_rd_eq (State.resetNoted_regsOutside _ _ hapart), State.get_bump _ _ _ (of_decide_eq_true rfl)]
  rfl

theorem State.evqReset_hasEvent : (s.evqReset n).2.hasEvent granaryPage 1 := State.resetNoted_hasEvent _

theorem State.evqReset_granaryCfg : (s.evqReset n).2.get Fld.GRANARY_CFG_EVQ = s.get Fld.GRANARY_CFG_EVQ := by
  refine State.get_of_rd_eq (State.evqReset_regsOutside s n _ ?_)
  simp only [Fld.GRANARY_CFG_EVQ, Reg.GRANARY_CFG, Reg.EVQn_LOST, Reg.GRANARY_RESETS, Reg.FAULT_CONTAINED, Reg.PG_EVENT, granaryPage, List.mem_cons,
    List.not_mem_nil, or_false]
  omega

variable {n}

theorem State.queueReset_evq (hn : n < 64) :
    s.queueReset (0x4100 + n) = (s.evqReset n).2.postReset (0x4100 + n) (s.evq.get (fun _ => {}) n).entries.length := by
  rw [State.queueReset, if_pos (by omega), Nat.add_sub_cancel_left]
  rfl

/-- The reset of an event queue, with its entry placed. -/
theorem State.queueReset_evq_posts (hn : n < 64)
    (hgood : s.get Fld.GRANARY_CFG_EVQ ≠ n → (s.evq.get (fun _ => {}) (s.get Fld.GRANARY_CFG_EVQ)).bad = false) :
    s.queueReset (0x4100 + n) = (s.evqReset n).2.evqPlace (s.get Fld.GRANARY_CFG_EVQ)
      ⟨s.shortTime, 0x07, 0x60, 0x4100 + n, (s.evq.get (fun _ => {}) n).entries.length⟩ := by
  have hcfg := State.evqReset_granaryCfg s n
  have hbad : ((s.evqReset n).2.evq.get (fun _ => {}) (s.get Fld.GRANARY_CFG_EVQ)).bad = false := by
    rw [State.evqReset_evq]
    split
    · rfl
    · next hne => exact hgood hne
  rw [State.queueReset_evq s hn, State.postReset_eq _ _ (by rw [hcfg, hbad]), hcfg, (State.evqReset_moves2 s n).shortTime_eq rfl]

end EvqReset

/-! ### Accesses after a reset (R162) -/

/-- The reset leaves pointers that agree. -/
theorem State.access_queueReset (s : State) (q : Nat) : (s.queueReset q).access q false = s.queueReset q := by
  show (s.queueReset q).queueCheck q = _
  by_cases hq : 0x4100 ≤ q ∧ q < 0x4140
  · obtain ⟨n, rfl⟩ := Nat.exists_eq_add_of_le hq.1
    have hgood : ((s.queueReset (0x4100 + n)).evq.get (fun _ => {}) n).bad = false := by
      rw [State.queueReset_evq s (by omega)]
      exact State.postReset_good _ _ (by rw [State.evqReset_evq, if_pos rfl])
    rw [State.queueCheck, if_pos hq, Nat.add_sub_cancel_left, State.evqCheck, hgood]
    rfl
  · have hqueues : (s.queueReset q).queues = (s.queueEmptied q).queues := by
      rw [State.queueReset_linked hq]
      exact (State.postReset_moves ..).frame .queues rfl
    refine State.queueCheck_of_good hq ?_
    rw [State.queue, hqueues, ← State.queue, State.queueEmptied_queue, if_pos rfl]
    rfl

/-- A register in which no queue reset counts. -/
def uncountedByReset (a : Nat) : Prop := a ∉ [Reg.GRANARY_RESETS, Reg.FAULT_CONTAINED, Reg.PG_EVENT granaryPage] ∧ ∀ n, a ≠ Reg.EVQn_LOST n

section Uncounted

variable {a : Nat} (ha : uncountedByReset a)

include ha

theorem State.evqReset_uncounted (s : State) (n : Nat) : (s.evqReset n).2.rd a = s.rd a :=
  State.evqReset_regsOutside s n a (fun h => (List.mem_cons.1 h).elim (ha.2 n) ha.1)

theorem State.evqPlace_uncounted (s : State) (n : Nat) (e : EvEntry) : (s.evqPlace n e).rd a = s.rd a := by
  have hcontained : a ≠ Reg.FAULT_CONTAINED := fun h => ha.1 (by simp [h])
  have hbump (t : State) (k : Nat) : (t.bump (Fld.EVQn_LOST_COUNT n) k).rd a = t.rd a := State.rd_bump _ _ _ _ (ha.2 n)
  unfold State.evqPlace
  extract_lets q min max avail
  split
  · exact hbump ..
  · split
    extract_lets fits q2 lost q3 t
    split
    · rfl
    · exact (State.rd_bump _ _ _ _ hcontained).trans (hbump ..)

theorem State.postReset_uncounted (s : State) (q lost : Nat) : (s.postReset q lost).rd a = s.rd a := by
  unfold State.postReset
  extract_lets g
  split
  · exact (State.evqPlace_uncounted ha ..).trans ((State.evqPlace_uncounted ha ..).trans (State.evqReset_uncounted ha ..))
  · exact State.evqPlace_uncounted ha ..

theorem State.queueReset_evq_uncounted (s : State) {n : Nat} (hn : n < 64) : (s.queueReset (0x4100 + n)).rd a = s.rd a := by
  rw [State.queueReset_evq s hn]
  exact (State.postReset_uncounted ha ..).trans (State.evqReset_uncounted ha ..)

end Uncounted

/-- A reset of an event queue leaves EVQn_POP readable or not as it was. -/
theorem State.popGuard_queueReset (s : State) {n : Nat} (hn : n < 64) :
    (s.queueReset (0x4100 + n)).linked (Reg.EVQn_POP 0) = s.linked (Reg.EVQn_POP 0) ∧
      (s.queueReset (0x4100 + n)).inReset (Reg.EVQn_POP 0) = s.inReset (Reg.EVQn_POP 0) := by
  have hlow (a : Nat) (h : a < 0x42100) (hout : a ∉ [Reg.GRANARY_RESETS, Reg.FAULT_CONTAINED, Reg.PG_EVENT granaryPage]) :
      (s.queueReset (0x4100 + n)).rd a = s.rd a :=
    State.queueReset_evq_uncounted ⟨hout, fun m => by simp only [Reg.EVQn_LOST]; omega⟩ s hn
  have hget (f : FieldRef) (h : f.addr < 0x42100) (hout : f.addr ∉ [Reg.GRANARY_RESETS, Reg.FAULT_CONTAINED, Reg.PG_EVENT granaryPage]) :
      (s.queueReset (0x4100 + n)).get f = s.get f := State.get_of_rd_eq (hlow _ h hout)
  constructor
  · simp only [State.linked, State.bootServes, hget Fld.GLOBAL_BOOT_STAGE (by decide) (by decide), hget Fld.GLOBAL_BOOT_FAIL_STAGE (by decide) (by decide),
      hlow Reg.CLK_LINKED (by decide) (by decide)]
  · simp only [State.inReset, State.on, hget (Fld.PG_CTRL_RESET (pageOf (Reg.EVQn_POP 0))) (by decide) (by decide)]

section Mismatch

variable (q : Nat) (s : State)

theorem granaryEnqueue_mismatch (item : GranaryItem) : exec (.granaryEnqueue q item true) s = exec (.granaryEnqueue q item false) (s.queueReset q) := by
  show execGranaryEnqueue q item true s = execGranaryEnqueue q item false (s.queueReset q)
  simp only [execGranaryEnqueue, State.access_mismatch, State.access_queueReset]

theorem granaryClaim_mismatch : exec (.granaryClaim q true) s = exec (.granaryClaim q false) (s.queueReset q) := by
  show execGranaryClaim q true s = execGranaryClaim q false (s.queueReset q)
  simp only [execGranaryClaim, State.access_mismatch, State.access_queueReset]

theorem evqPop_mismatch {n : Nat} (hn : n < 64) (hlinked : s.linked (Reg.EVQn_POP 0) = true) (hreset : s.inReset (Reg.EVQn_POP 0) = false) :
    exec (.evqPop n true) s = exec (.evqPop n false) (s.queueReset (0x4100 + n)) := by
  obtain ⟨hlinked', hreset'⟩ := s.popGuard_queueReset hn
  show execEvqPop n true s = execEvqPop n false (s.queueReset (0x4100 + n))
  have hopen (t : State) (hl : t.linked (Reg.EVQn_POP 0) = true) (hr : t.inReset (Reg.EVQn_POP 0) = false) :
      ¬ (¬ n < 64 ∨ t.linked (Reg.EVQn_POP 0) = false ∨ t.inReset (Reg.EVQn_POP 0) = true) := by simp [hn, hl, hr]
  rw [execEvqPop, if_neg (hopen s hlinked hreset), execEvqPop, if_neg (hopen _ (hlinked'.trans hlinked) (hreset'.trans hreset)), State.access_mismatch,
    State.access_queueReset]

theorem granaryQSel_mismatch {t : State} (hw : s.writeErr Reg.GRANARY_Q_SEL (BitVec.ofNat 32 q) = none) (h : exec (.granaryQSel q false) s = .next t) :
    exec (.granaryQSel q true) s = .next (t.queueReset q) := by
  have ht : s.granarySelWrite (BitVec.ofNat 32 q) = t := by
    have hsel : exec (.granaryQSel q false) s = .next (s.granarySelWrite (BitVec.ofNat 32 q)) := rfl
    rw [hsel] at h
    cases h
    rfl
  show execGranaryQSel q true s = _
  simp only [execGranaryQSel, hw, ht] <;> rfl

end Mismatch

/-! ### Sweeps (R162) -/

theorem queueSweepComplete_linked {q : Nat} (s : State) (hq : ¬ (0x4100 ≤ q ∧ q < 0x4140)) : exec (.queueSweepComplete q) s =
    .next { s.setQueue q { s.queue q with sweeping := 0 } with freeCells := s.freeCells + (s.queue q).sweeping } := if_neg hq

theorem queueSweepComplete_evq {n : Nat} (s : State) (hn : n < 64) : exec (.queueSweepComplete (0x4100 + n)) s =
    .next { s with evq := s.evq.set (fun _ => {}) n { s.evq.get (fun _ => {}) n with sweeping := 0 },
                   freeCells := s.freeCells + (s.evq.get (fun _ => {}) n).sweeping } := by
  show execQueueSweepComplete (0x4100 + n) s = _
  rw [execQueueSweepComplete, if_pos (by omega), Nat.add_sub_cancel_left]

/-! ### Bank queues (R165, R166) -/

section Bank

variable {s : State} {k tick len : Nat}

theorem exec_bankqWrite (hk : bankUsed k = true) (hpos : 0 < len) (hlen : len % 64 = 0) :
    exec (.bankqWrite k tick len) s = .next (s.bankWrite k tick len) := if_pos ⟨hk, hpos, hlen⟩

theorem State.bankWrite_late (h : tick < s.bankTick) : s.bankWrite k tick len = s.bumpSat (Fld.GRANARY_BANKQk_LOST_LATE k) := if_pos h

theorem State.bankWrite_full (h : s.bankTick ≤ tick) (hfull : 65536 < bankBytes (s.bank k).filling + len) :
    s.bankWrite k tick len = s.bumpSat (Fld.GRANARY_BANKQk_LOST_FULL k) := (if_neg (Nat.not_lt.2 h)).trans (if_pos hfull)

theorem State.bankWrite_fits (h : s.bankTick ≤ tick) (hroom : bankBytes (s.bank k).filling + len ≤ 65536) : s.bankWrite k tick len =
    (s.setBank k { s.bank k with filling := (s.bank k).filling ++ [⟨tick, len⟩] }).bankShow k :=
  (if_neg (Nat.not_lt.2 h)).trans (if_neg (Nat.not_lt.2 hroom))

theorem State.bankShow_bank (k j : Nat) : (s.bankShow k).bank j = s.bank j := by
  rw [State.bank, (State.bankShow_moves s k).frame .bankq rfl, State.bank]

theorem State.bankShow_regsOutside (k : Nat) : s.regsOutside [Reg.GRANARY_BANKQk_FILL k] (s.bankShow k) := by
  intro a ha
  have hother : a ≠ Reg.GRANARY_BANKQk_FILL k := List.ne_of_not_mem_cons ha
  exact (State.rd_put_other _ _ _ _ hother).trans (State.rd_put_other _ _ _ _ hother)

/-- A record lost counts in its own field and changes no bank. -/
theorem State.bumpSat_countsOnly (f : FieldRef) (hf : f.lo + f.width ≤ 32) :
    (s.bumpSat f).get f = Nat.min (2 ^ f.width - 1) (s.get f + 1) ∧ (s.bumpSat f).bankq = s.bankq ∧ s.regsOutside [f.addr] (s.bumpSat f) :=
  ⟨State.get_bumpSat _ _ _ hf, rfl, fun _ ha => State.rd_bumpSat _ _ _ _ (List.ne_of_not_mem_cons ha)⟩

end Bank

/-- Settles O39: each access that finds a mismatch is the same access after `State.queueReset`, which is the emptied queue with its entry placed. -/
theorem queuesAreClaimedResetAndBanked : Obligations.QueuesAreClaimedResetAndBanked := by
  refine ⟨fun q a b i s hitems ha hi hq hbad => ?claim, fun q a b i s hitems ha hi => ?read, fun q s hq => ?sweep, fun n s hn => ?sweepEvq,
    fun q item s => granaryEnqueue_mismatch q s item, granaryClaim_mismatch, fun n s hn hl hr => evqPop_mismatch s hn hl hr,
    fun q s t hw h => granaryQSel_mismatch q s hw h, fun q s hq => ?reset, fun n s hn => ?resetEvq, fun k tick len s hk hpos hlen => ?bank⟩
  case claim =>
    exact ⟨_, granaryClaim_marksOldest hitems ha hi hq hbad, by rw [State.setQueue_queue, if_pos rfl],
      fun r hr => by rw [State.setQueue_queue, if_neg hr], State.setQueue_changesOnly _ _ _⟩
  case read =>
    exact ⟨_, granaryReadComplete_returnsCells hitems ha hi, (State.setQueue_queue ..).trans (if_pos rfl), rfl,
      fun r hr => (State.setQueue_queue ..).trans (if_neg hr), (Moves.set_queues_freeCells ..).only rfl⟩
  case sweep =>
    exact ⟨_, queueSweepComplete_linked s hq, (State.setQueue_queue ..).trans (if_pos rfl), rfl,
      fun r hr => (State.setQueue_queue ..).trans (if_neg hr), (Moves.set_queues_freeCells ..).only rfl⟩
  case sweepEvq =>
    exact ⟨_, queueSweepComplete_evq s hn, (Sparse.get_set ..).trans (if_pos rfl), rfl,
      fun r hr => (Sparse.get_set ..).trans (if_neg hr), (Moves.set_evq_freeCells ..).only rfl⟩
  case reset =>
    intro g gone hgood
    have hqueue : (s.queueEmptied q).queue q = g.emptied := (State.queueEmptied_queue ..).trans (if_pos rfl)
    refine ⟨s.queueEmptied q, State.queueReset_linked_posts hq hgood, congrArg GQueue.items hqueue, congrArg GQueue.lost hqueue, congrArg GQueue.bad hqueue,
      fun r hr => (State.queueEmptied_queue ..).trans (if_neg hr), fun hleg id p h hl hk => State.queueEmptied_held s q hleg h hl hk,
      congrArg GQueue.sweeping hqueue, (congrArg GQueue.minCells hqueue).trans rfl, (congrArg GQueue.maxCells hqueue).trans rfl, State.queueEmptied_resets s q,
      State.queueEmptied_contained s q, State.resetNoted_hasEvent _, State.queueEmptied_regsOutside s q, (State.queueEmptied_moves s q).only rfl⟩
  case resetEvq =>
    intro e hgood
    have hevq := (State.evqReset_evq s n n).trans (if_pos rfl)
    refine ⟨(s.evqReset n).2, State.queueReset_evq_posts s hn hgood, ⟨congrArg EvQueue.entries hevq, congrArg EvQueue.sweeping hevq,
      congrArg EvQueue.bad hevq, (congrArg EvQueue.lostFlag hevq).trans ?_⟩, fun r hr => (State.evqReset_evq s n r).trans (if_neg hr),
      State.evqReset_lost s n, State.evqReset_hasEvent s n, State.evqReset_regsOutside s n, (State.evqReset_moves2 s n).only rfl⟩
    simp only [e, ne_eq, List.length_eq_zero_iff]
  case bank =>
    refine ⟨_, exec_bankqWrite hk hpos hlen, fun hlate => ?_, fun htick hfull => ?_, fun htick hroom => ?_, (State.bankWrite_moves ..).only rfl⟩
    · rw [State.bankWrite_late hlate]
      exact State.bumpSat_countsOnly _ (of_decide_eq_true rfl)
    · rw [State.bankWrite_full htick hfull]
      exact State.bumpSat_countsOnly _ (of_decide_eq_true rfl)
    · rw [State.bankWrite_fits htick hroom, State.bankShow_bank, State.setBank_bank, if_pos rfl]
      exact ⟨rfl, rfl, fun j hj => by rw [State.bankShow_bank, State.setBank_bank, if_neg hj], fun a ha => (State.bankShow_regsOutside k a ha).trans (State.setBank_rd ..)⟩

end Sys2Proof.Machine
end

section
/-! The commands of the audio graph (R178, R179, R186, R187) and of the recall players (R193). -/

namespace Sys2Proof.Machine

/-! ### Registers that steps leave alone -/

theorem State.regsOutside.trans {l : List Nat} {s t u : State} (ht : s.regsOutside l t) (hu : t.regsOutside l u) : s.regsOutside l u :=
  fun a ha => (hu a ha).trans (ht a ha)

theorem State.regsOutside.mono {l l' : List Nat} {s t : State} (h : s.regsOutside l t) (hl : l ⊆ l') : s.regsOutside l' t :=
  fun a ha => h a (fun hm => ha (hl hm))

theorem State.wr_regsOutside (s : State) (a : Nat) (w : Word) : s.regsOutside [a] (s.wr a w) :=
  fun b hb => by rw [State.rd_wr, if_neg (List.ne_of_not_mem_cons hb)]

theorem State.put_regsOutside (s : State) (f : FieldRef) (v : Nat) : s.regsOutside [f.addr] (s.put f v) := State.wr_regsOutside _ _ _

theorem State.wr64_regsOutside (s : State) (lo v : Nat) : s.regsOutside [lo, lo + 4] (s.wr64 lo v) := by
  intro a ha
  simp only [List.mem_cons, List.not_mem_nil, or_false, not_or] at ha
  exact State.rd_wr64_other _ _ _ _ ha.1 ha.2

/-- The state with another audio graph. -/
def State.withAudio (s : State) (x : Audio) : State := { s with audio := x }

/-- The audio graph's own state is no register. -/
theorem State.withAudio_regsOutside (s : State) (x : Audio) (l : List Nat) : s.regsOutside l (s.withAudio x) := fun _ _ => rfl

theorem State.withAudio_moves (s : State) (x : Audio) : Moves 9007199254740992 s (s.withAudio x) := Moves.set_audio ..

/-- A device without a role keeps no Ledger (R187). -/
theorem State.record_of_single {s : State} (h : s.get Fld.TWIN_STATUS_STATE = 0) (e : LedgerEntry) : s.record e = s := by
  rw [State.record, h]
  rfl

/-- A device without a role refuses no input (R187). -/
theorem State.not_twinJunior {s : State} (h : s.get Fld.TWIN_STATUS_STATE = 0) : ¬ s.twinJunior = true := by
  rw [State.twinJunior, h]
  exact Bool.false_ne_true

/-! ### Results of program commands (R186) -/

/-- The registers that program commands write besides the error reporting. -/
def progRegs : List Nat := [Reg.AUDIO_PROG_RESULT, Reg.AUDIO_PROG_EFFECT_LO, Reg.AUDIO_PROG_EFFECT_LO + 4, Reg.AUDIO_PROG_SHADOW_ID]

section Result

variable (s : State) (op detail status : Nat) (e : Err)

theorem State.progResult_posted : (s.progResult op detail status).posted Reg.AUDIO_PROG_RESULT (bits (s.rd Reg.AUDIO_PROG_RESULT) 24 7 + 1)
    (progPayload op detail status) := State.postResultGen_posted ..

theorem State.progResult_regsOutside : s.regsOutside [Reg.AUDIO_PROG_RESULT] (s.progResult op detail status) := State.wr_regsOutside _ _ _

/-- A rejected command reports its error twice, in PG_LAST_ERR and in its result. -/
theorem State.progReject_reports :
    (s.progReject op detail e).posted Reg.AUDIO_PROG_RESULT (bits (s.rd Reg.AUDIO_PROG_RESULT) 24 7 + 1) (progPayload op detail e.code) ∧
      (s.progReject op detail e).get (Fld.PG_LAST_ERR_CODE (pageOf Reg.AUDIO_PROG_CMD)) = e.code ∧
      s.regsOutside (Reg.AUDIO_PROG_RESULT :: errRegs (pageOf Reg.AUDIO_PROG_CMD)) (s.progReject op detail e) := by
  have herr : s.regsOutside (errRegs (pageOf Reg.AUDIO_PROG_CMD)) (s.reject Reg.AUDIO_PROG_CMD e) := State.postErr_regsOutside _ _ _ _
  have hres := (s.reject Reg.AUDIO_PROG_CMD e).progResult_regsOutside op detail e.code
  refine ⟨?_, ?_, (herr.mono (List.subset_cons_self ..)).trans (hres.mono (by simp))⟩
  · rw [← herr _ (by decide)]
    exact State.progResult_posted ..
  · rw [State.progReject, State.get_of_rd_eq (hres _ (by decide))]
    exact State.postErr_code _ _ _ _ e.code_lt

end Result

/-! ### The commands of AUDIO_PROG_CMD (R186, R187) -/

/-- AUDIO_PROG_CMD takes the word w: the page accepts it, the result before it is posted, and no device role refuses inputs. -/
structure State.takesProg (s : State) (w : Word) : Prop where
  fits : s.writeErr Reg.AUDIO_PROG_CMD w = none
  valid : s.on Fld.AUDIO_PROG_RESULT_VALID = true
  single : s.get Fld.TWIN_STATUS_STATE = 0

/-- What a command that is taken starts from: AUDIO_PROG_EFFECT names no tick. -/
def State.progStart (s : State) : State := s.wr64 Reg.AUDIO_PROG_EFFECT_LO 0

/-- The program in the shadow bank waits for tick t, which AUDIO_PROG_EFFECT names. -/
def State.activationAt (s : State) (t : Nat) : State :=
  ((s.withAudio { s.audio with activateAt := some t }).wr64 Reg.AUDIO_PROG_EFFECT_LO t).progResult 2 0 0

/-- The shadow bank is empty. -/
def State.shadowEmptied (s : State) : State :=
  ((s.withAudio { s.audio with shadow := none }).put Fld.AUDIO_PROG_SHADOW_ID_ID 0).progResult 3 0 0

/-- A LOAD is in progress, its result pending. -/
def State.loadBegun (s : State) (q : Loading) : State :=
  (s.unvalid Reg.AUDIO_PROG_RESULT).withAudio { s.audio with loading := some q }

/-- The LOAD that a command begins: the image at AUDIO_PROG_BASE, with the outcome its checks have. -/
def State.loadNamed (s : State) : Loading :=
  let base := s.rd64 Reg.AUDIO_PROG_BASE_LO
  let len := s.get Fld.AUDIO_PROG_LEN_LEN
  ⟨1, s.loadErr base len, progOfImage (s.dram.readList base len)⟩

section Command

variable {s : State} {w : Word}

theorem State.progStart_regsOutside (s : State) : s.regsOutside [Reg.AUDIO_PROG_EFFECT_LO, Reg.AUDIO_PROG_EFFECT_LO + 4] s.progStart := State.wr64_regsOutside _ _ _

theorem State.progStart_get (s : State) (f : FieldRef) (h : f.addr ∉ [Reg.AUDIO_PROG_EFFECT_LO, Reg.AUDIO_PROG_EFFECT_LO + 4]) : s.progStart.get f = s.get f :=
  State.get_of_rd_eq (s.progStart_regsOutside _ h)

theorem State.progStart_ltick (s : State) : s.progStart.ltick = s.ltick := by
  have hlag : s.progStart.lag = s.lag := by rw [State.lag, s.progStart_regsOutside _ (by decide), State.lag]
  rw [State.ltick, State.lnow, hlag]
  rfl

theorem State.progStart_progBusy (s : State) : s.progStart.progBusy = s.progBusy := by
  rw [State.progBusy, State.progStart_ltick]
  rfl

theorem State.progStart_record (h : s.get Fld.TWIN_STATUS_STATE = 0) (e : LedgerEntry) : s.progStart.record e = s.progStart :=
  State.record_of_single ((s.progStart_get _ (by decide)).trans h) e

theorem State.takesProg.check (h : s.takesProg w) :
    (if !s.on Fld.AUDIO_PROG_RESULT_VALID then some Err.busy else if s.twinJunior then some .twin else none) = none := by
  rw [h.valid]
  exact if_neg (State.not_twinJunior h.single)

theorem State.progCmdWrite_busy (h : s.takesProg w) (hb : s.progBusy = true) : s.progCmdWrite w = s.progStart.progReject (bits w 0 4) 0 .busy := by
  rw [State.progCmdWrite, State.checked_eq_effect h.fits h.check]
  exact if_pos (s.progStart_progBusy.trans hb)

theorem State.progStart_idle (hb : s.progBusy = false) : ¬ s.progStart.progBusy = true := by
  rw [State.progStart_progBusy, hb]
  exact Bool.false_ne_true

section Idle

variable (hb : s.progBusy = false) (ha : s.audio.activateAt = none)

include hb

theorem State.progCmdWrite_noProgram (h : s.takesProg 2) (hs : s.audio.shadow = none) : s.progCmdWrite 2 = s.progStart.progReject 2 0 .state := by
  have hnone : (s.audio.activateAt.isSome || s.audio.shadow.isNone) = true := by simp [hs]
  rw [State.progCmdWrite, State.checked_eq_effect h.fits h.check]
  exact (if_neg (State.progStart_idle hb)).trans ((if_pos rfl).trans (if_pos hnone))

include ha

theorem State.progCmdWrite_activate (h : s.takesProg 2) (hs : s.audio.shadow.isSome = true) : s.progCmdWrite 2 = s.progStart.activationAt (s.ltick + 1) := by
  have hready : ¬ (s.audio.activateAt.isSome || s.audio.shadow.isNone) = true := by simp [ha, Option.isSome_iff_ne_none.1 hs]
  rw [State.progCmdWrite, State.checked_eq_effect h.fits h.check]
  refine (if_neg (State.progStart_idle hb)).trans ((if_pos rfl).trans ((if_neg hready).trans ?_))
  show (s.progStart.record _).activationAt (s.progStart.ltick + 1) = _
  rw [State.progStart_record h.single, State.progStart_ltick]

theorem State.progCmdWrite_discard (h : s.takesProg 3) : s.progCmdWrite 3 = s.progStart.shadowEmptied := by
  have hnone : ¬ s.audio.activateAt.isSome = true := by simp [ha]
  rw [State.progCmdWrite, State.checked_eq_effect h.fits h.check]
  refine (if_neg (State.progStart_idle hb)).trans ((if_neg (by decide)).trans ((if_neg hnone).trans ((if_pos rfl).trans ?_)))
  show (s.progStart.record _).shadowEmptied = _
  rw [State.progStart_record h.single]

theorem State.progCmdWrite_load (h : s.takesProg 1) : s.progCmdWrite 1 = s.progStart.loadBegun s.progStart.loadNamed := by
  have hnone : ¬ s.audio.activateAt.isSome = true := by simp [ha]
  rw [State.progCmdWrite, State.checked_eq_effect h.fits h.check]
  refine (if_neg (State.progStart_idle hb)).trans ((if_neg (by decide)).trans ((if_neg hnone).trans ((if_neg (by decide)).trans ?_)))
  -- The recorded state is made opaque, so that no comparison of states evaluates the checks of `State.loadErr`.
  extract_lets base len e p recorded
  have hrecorded : recorded = s.progStart := (congrArg (ite _ · _) (State.progStart_record h.single _)).trans (ite_self _)
  clear_value recorded
  subst hrecorded
  show s.progStart.loadBegun ⟨bits 1 0 4, e, p⟩ = s.progStart.loadBegun s.progStart.loadNamed
  rfl

end Idle

end Command

/-! ### What the commands leave (R186) -/

/-- What a command leaves that ends at once: its result, under the next GEN. -/
theorem State.progResult_after {s t : State} {l : List Nat} (h : s.regsOutside l t) (hl : Reg.AUDIO_PROG_RESULT ∉ l) (op detail status : Nat) :
    (t.progResult op detail status).posted Reg.AUDIO_PROG_RESULT (bits (s.rd Reg.AUDIO_PROG_RESULT) 24 7 + 1) (progPayload op detail status) ∧
      s.regsOutside (Reg.AUDIO_PROG_RESULT :: l) (t.progResult op detail status) := by
  refine ⟨?_, (h.mono (List.subset_cons_self ..)).trans ((t.progResult_regsOutside _ _ _).mono (by simp))⟩
  rw [← h _ hl]
  exact State.progResult_posted ..

section Outcomes

variable (s : State)

theorem State.progStart_moves : Moves 1 s s.progStart := State.wr64_moves ..

/-- A command that is rejected after it started. -/
theorem State.progStart_rejected (op : Nat) (e : Err) :
    let t := s.progStart.progReject op 0 e
    let page := pageOf Reg.AUDIO_PROG_CMD
    t.posted Reg.AUDIO_PROG_RESULT (bits (s.rd Reg.AUDIO_PROG_RESULT) 24 7 + 1) (progPayload op 0 e.code) ∧ t.get (Fld.PG_LAST_ERR_CODE page) = e.code ∧
      s.regsOutside (errRegs page ++ progRegs) t ∧ s.changesOnly [.regs, .msix] t := by
  obtain ⟨hposted, hcode, hregs⟩ := s.progStart.progReject_reports op 0 e
  rw [s.progStart_regsOutside _ (by decide)] at hposted
  exact ⟨hposted, hcode, (s.progStart_regsOutside.mono (by decide)).trans (hregs.mono (by decide)),
    ((State.progReject_moves ..).step (by decide) (s.progStart_moves.step (m := 257) (by decide) Moves.refl)).only rfl⟩

/-- A result leaves AUDIO_PROG_EFFECT as it is. -/
theorem State.progResult_effect (op detail status : Nat) : (s.progResult op detail status).rd64 Reg.AUDIO_PROG_EFFECT_LO = s.rd64 Reg.AUDIO_PROG_EFFECT_LO := by
  have hkept := s.progResult_regsOutside op detail status
  rw [State.rd64, State.rd64, hkept _ (by decide), hkept _ (by decide)]

/-- The tick that AUDIO_PROG_EFFECT names and the result of ACTIVATE. -/
theorem State.activationAt_reports (k : Nat) :
    let t := s.progStart.activationAt k
    t.rd64 Reg.AUDIO_PROG_EFFECT_LO = k % 2 ^ 64 ∧
      t.posted Reg.AUDIO_PROG_RESULT (bits (s.rd Reg.AUDIO_PROG_RESULT) 24 7 + 1) (progPayload 2 0 0) ∧ s.regsOutside progRegs t := by
  have hx := s.progStart_regsOutside.trans ((State.withAudio_regsOutside _ { s.audio with activateAt := some k } _).trans
    (State.wr64_regsOutside _ Reg.AUDIO_PROG_EFFECT_LO k))
  obtain ⟨hposted, hregs⟩ := State.progResult_after hx (by decide) 2 0 0
  exact ⟨(State.progResult_effect ..).trans (State.rd64_wr64 ..), hposted, hregs.mono (by decide)⟩

theorem State.activationAt_audio (k : Nat) : (s.progStart.activationAt k).audio = { s.audio with activateAt := some k } :=
  (State.progResult_moves ..).frame .audio rfl

theorem State.activationAt_changesOnly (k : Nat) : s.changesOnly [.regs, .audio] (s.progStart.activationAt k) :=
  ((State.progResult_moves ..).step (by decide) ((State.wr64_moves ..).step (by decide) ((State.withAudio_moves ..).step (by decide)
    (s.progStart_moves.step (m := maskOf [.regs, .audio]) (by decide) Moves.refl)))).only rfl

/-- AUDIO_PROG_SHADOW_ID and the result of DISCARD. -/
theorem State.shadowEmptied_reports :
    let t := s.progStart.shadowEmptied
    t.get Fld.AUDIO_PROG_SHADOW_ID_ID = 0 ∧
      t.posted Reg.AUDIO_PROG_RESULT (bits (s.rd Reg.AUDIO_PROG_RESULT) 24 7 + 1) (progPayload 3 0 0) ∧ s.regsOutside progRegs t := by
  have hx := (s.progStart_regsOutside.mono (by decide : _ ⊆ progRegs.tail)).trans
    ((State.withAudio_regsOutside _ { s.audio with shadow := none } _).trans ((State.put_regsOutside _ Fld.AUDIO_PROG_SHADOW_ID_ID 0).mono (by decide)))
  obtain ⟨hposted, hregs⟩ := State.progResult_after hx (by decide) 3 0 0
  refine ⟨?_, hposted, hregs⟩
  rw [State.shadowEmptied, State.get_of_rd_eq (State.progResult_regsOutside _ _ _ _ _ (by decide))]
  exact State.get_put _ _ _ (by decide)

theorem State.shadowEmptied_audio : s.progStart.shadowEmptied.audio = { s.audio with shadow := none } := (State.progResult_moves ..).frame .audio rfl

theorem State.shadowEmptied_changesOnly : s.changesOnly [.regs, .audio] s.progStart.shadowEmptied :=
  ((State.progResult_moves ..).step (by decide) ((State.put_moves ..).step (by decide) ((State.withAudio_moves ..).step (by decide)
    (s.progStart_moves.step (m := maskOf [.regs, .audio]) (by decide) Moves.refl)))).only rfl

/-- While a LOAD is in progress AUDIO_PROG_RESULT is not valid and keeps its data. -/
theorem State.loadBegun_reports (q : Loading) :
    let t := s.progStart.loadBegun q
    t.on Fld.AUDIO_PROG_RESULT_VALID = false ∧ bits (t.rd Reg.AUDIO_PROG_RESULT) 0 31 = bits (s.rd Reg.AUDIO_PROG_RESULT) 0 31 ∧ s.regsOutside progRegs t := by
  have hresult : (s.progStart.loadBegun q).rd Reg.AUDIO_PROG_RESULT = putBits (s.rd Reg.AUDIO_PROG_RESULT) 31 1 0 := by
    rw [State.loadBegun, State.withAudio_regsOutside _ _ [] _ (by simp), State.rd_unvalid, if_pos rfl, s.progStart_regsOutside _ (by decide)]
  refine ⟨?_, ?_, (s.progStart_regsOutside.mono (by decide)).trans (((State.wr_regsOutside _ _ _).mono (by decide)).trans (State.withAudio_regsOutside _ _ _))⟩
  · have hvalid : (s.progStart.loadBegun q).get Fld.AUDIO_PROG_RESULT_VALID = 0 := (congrArg (bits · 31 1) hresult).trans (bits_putBits _ _ _ _ (by decide))
    rw [State.on, hvalid]
    rfl
  · rw [hresult, bits_putBits_below _ _ _ _ _ _ (by decide) (by decide)]

theorem State.loadNamed_progStart :
    s.progStart.loadNamed = ⟨1, s.progStart.loadErr (s.rd64 Reg.AUDIO_PROG_BASE_LO) (s.get Fld.AUDIO_PROG_LEN_LEN),
      progOfImage (s.dram.readList (s.rd64 Reg.AUDIO_PROG_BASE_LO) (s.get Fld.AUDIO_PROG_LEN_LEN))⟩ := by
  have hbase : s.progStart.rd64 Reg.AUDIO_PROG_BASE_LO = s.rd64 Reg.AUDIO_PROG_BASE_LO := by
    rw [State.rd64, s.progStart_regsOutside _ (by decide), s.progStart_regsOutside _ (by decide), State.rd64]
  have hdram : s.progStart.dram = s.dram := s.progStart_moves.frame .dram rfl
  rw [State.loadNamed, hbase, s.progStart_get _ (by decide), hdram]

/-- The first check of a LOAD is the alignment of its address and length. -/
theorem State.loadErr_misaligned {base len : Nat} (h : base % 4096 ≠ 0 ∨ len % 4096 ≠ 0) : s.loadErr base len = some (.align, 0) :=
  if_pos (or_assoc.1 (.inl h))

theorem State.loadBegun_changesOnly (q : Loading) : s.changesOnly [.regs, .audio] (s.progStart.loadBegun q) :=
  ((State.withAudio_moves ..).step (by decide) ((State.unvalid_moves ..).step (by decide)
    (s.progStart_moves.step (m := maskOf [.regs, .audio]) (by decide) Moves.refl))).only rfl

end Outcomes

/-! ### The end of a LOAD (R186) -/

/-- The shadow bank holds the program that the LOAD q validated. -/
def State.loadPassed (s : State) (q : Loading) : State :=
  ((s.withAudio { s.audio with loading := none, shadow := some q.prog }).put Fld.AUDIO_PROG_SHADOW_ID_ID q.prog.id).progResult q.op 0 0

section LoadEnd

variable {s : State} {q : Loading} (hq : s.audio.loading = some q)

include hq

theorem exec_progLoadDone_passed (he : q.err = none) : exec .progLoadDone s = .next (s.loadPassed q) := by
  show execProgLoadDone s = _
  rw [execProgLoadDone, hq]
  simp only [he]
  rfl

theorem exec_progLoadDone_failed {e : Err} {detail : Nat} (he : q.err = some (e, detail)) :
    exec .progLoadDone s = .next ((s.withAudio { s.audio with loading := none }).progReject q.op detail e) := by
  show execProgLoadDone s = _
  rw [execProgLoadDone, hq]
  simp only [he]
  rfl

end LoadEnd

theorem State.loadPassed_reports (s : State) (q : Loading) :
    let t := s.loadPassed q
    t.posted Reg.AUDIO_PROG_RESULT (bits (s.rd Reg.AUDIO_PROG_RESULT) 24 7 + 1) (progPayload q.op 0 0) ∧
      t.get Fld.AUDIO_PROG_SHADOW_ID_ID = q.prog.id % 2 ^ Fld.AUDIO_PROG_SHADOW_ID_ID.width ∧
      s.regsOutside [Reg.AUDIO_PROG_RESULT, Reg.AUDIO_PROG_SHADOW_ID] t := by
  have hx := (s.withAudio_regsOutside { s.audio with loading := none, shadow := some q.prog } _).trans
    (State.put_regsOutside _ Fld.AUDIO_PROG_SHADOW_ID_ID q.prog.id)
  obtain ⟨hposted, hregs⟩ := State.progResult_after hx (by decide) q.op 0 0
  refine ⟨hposted, ?_, hregs⟩
  rw [State.loadPassed, State.get_of_rd_eq (State.progResult_regsOutside _ _ _ _ _ (by decide))]
  exact State.get_put _ _ _ (by decide)

theorem State.loadPassed_audio (s : State) (q : Loading) : (s.loadPassed q).audio = { s.audio with loading := none, shadow := some q.prog } :=
  (State.progResult_moves ..).frame .audio rfl

theorem State.loadPassed_changesOnly (s : State) (q : Loading) : s.changesOnly [.regs, .audio] (s.loadPassed q) :=
  ((State.progResult_moves ..).step (by decide) ((State.put_moves ..).step (by decide)
    ((State.withAudio_moves ..).step (m := maskOf [.regs, .audio]) (by decide) Moves.refl))).only rfl

/-- A LOAD whose checks fail is rejected when it ends. -/
theorem State.loadFailed_reports (s : State) (x : Audio) (op detail : Nat) (e : Err) :
    let t := (s.withAudio x).progReject op detail e
    let page := pageOf Reg.AUDIO_PROG_CMD
    t.posted Reg.AUDIO_PROG_RESULT (bits (s.rd Reg.AUDIO_PROG_RESULT) 24 7 + 1) (progPayload op detail e.code) ∧ t.audio = x ∧
      t.get (Fld.PG_LAST_ERR_CODE page) = e.code ∧ s.regsOutside (Reg.AUDIO_PROG_RESULT :: errRegs page) t ∧ s.changesOnly [.regs, .msix, .audio] t := by
  have hmoves := State.progReject_moves (s.withAudio x) op detail e
  obtain ⟨hposted, hcode, hregs⟩ := (s.withAudio x).progReject_reports op detail e
  exact ⟨hposted, hmoves.frame .audio rfl, hcode, (s.withAudio_regsOutside x _).trans hregs,
    (hmoves.step (by decide) ((State.withAudio_moves ..).step (m := maskOf [.regs, .msix, .audio]) (by decide) Moves.refl)).only rfl⟩

/-! ### Recall players (R193) -/

/-- Player n plays from the next tick. -/
def State.recallStarted (s : State) (n : Nat) : State :=
  ((s.setPlayer n { playing := true, startAt := s.ltick + 1 }).put (Fld.AUDIO_RPn_STATUS_STATE n) 1).put (Fld.AUDIO_RPn_STATUS_PLAYED n) 0

/-- Player n is stopped, its event not yet posted. -/
def State.recallStopped (s : State) (n : Nat) : State := (s.setPlayer n {}).put (Fld.AUDIO_RPn_STATUS_STATE n) 2

section Recall

variable {s : State} {n : Nat}

theorem exec_recallPlay (hn : n < 16) : exec (.recallPlay n) s = .next (s.playerCmdWrite n 1) := if_pos hn

theorem exec_recallStop (hn : n < 16) : exec (.recallStop n) s = .next (s.playerCmdWrite n 2) := if_pos hn

section Written

variable (hsingle : s.get Fld.TWIN_STATUS_STATE = 0)

include hsingle

theorem State.playerCmdWrite_unfrozen (hw : s.writeErr (Reg.AUDIO_RPn_CMD n) 1 = none)
    (hf : CONF.FREEZE ((s.effRec 2 (s.get (Fld.AUDIO_RPn_SRC_CONF n))).getD 0) = 0) :
    s.playerCmdWrite n 1 = s.reject (Reg.AUDIO_RPn_CMD n) .state := by
  rw [State.playerCmdWrite]
  exact State.checked_eq_reject (.inr ⟨hw, (if_neg (State.not_twinJunior hsingle)).trans (if_pos ⟨rfl, hf⟩)⟩)

theorem State.playerCmdWrite_play (hw : s.writeErr (Reg.AUDIO_RPn_CMD n) 1 = none)
    (hf : CONF.FREEZE ((s.effRec 2 (s.get (Fld.AUDIO_RPn_SRC_CONF n))).getD 0) ≠ 0) :
    s.playerCmdWrite n 1 = s.recallStarted n := by
  rw [State.playerCmdWrite, State.checked_eq_effect hw ((if_neg (State.not_twinJunior hsingle)).trans (if_neg fun h => hf h.2))]
  simp only [State.record_of_single hsingle]
  exact if_pos rfl

theorem State.playerCmdWrite_stop (hw : s.writeErr (Reg.AUDIO_RPn_CMD n) 2 = none) :
    s.playerCmdWrite n 2 = if (s.player n).playing then s.playerStop n 2 else s := by
  rw [State.playerCmdWrite, State.checked_eq_effect hw ((if_neg (State.not_twinJunior hsingle)).trans (if_neg fun h => absurd h.1 (by decide)))]
  simp only [State.record_of_single hsingle]
  exact if_neg (by decide)

end Written

theorem State.player_put (s : State) (f : FieldRef) (v m : Nat) : (s.put f v).player m = s.player m := by
  rw [State.player, State.put_audio, State.player]

theorem State.recallStarted_player (m : Nat) : (s.recallStarted n).player m = if m = n then { playing := true, startAt := s.ltick + 1 } else s.player m := by
  rw [State.recallStarted, State.player_put, State.player_put, State.setPlayer_player]

theorem State.recallStopped_player (m : Nat) : (s.recallStopped n).player m = if m = n then {} else s.player m := by
  rw [State.recallStopped, State.player_put, State.setPlayer_player]

theorem State.recallStarted_status : (s.recallStarted n).get (Fld.AUDIO_RPn_STATUS_STATE n) = 1 ∧ (s.recallStarted n).get (Fld.AUDIO_RPn_STATUS_PLAYED n) = 0 := by
  constructor
  · rw [State.recallStarted, State.get_put_apart _ _ _ _ (of_decide_eq_true rfl) (of_decide_eq_true rfl), State.get_put _ _ _ (of_decide_eq_true rfl)]
    rfl
  · rw [State.recallStarted, State.get_put _ _ _ (of_decide_eq_true rfl)]
    rfl

theorem State.recallStopped_status : (s.recallStopped n).get (Fld.AUDIO_RPn_STATUS_STATE n) = 2 := State.get_put _ _ _ (of_decide_eq_true rfl)

theorem State.recallStopped_regsOutside : s.regsOutside [Reg.AUDIO_RPn_STATUS n] (s.recallStopped n) :=
  State.put_regsOutside (s.setPlayer n {}) (Fld.AUDIO_RPn_STATUS_STATE n) 2

theorem State.recallStarted_regsOutside : s.regsOutside [Reg.AUDIO_RPn_STATUS n] (s.recallStarted n) :=
  (State.put_regsOutside (s.setPlayer n _) (Fld.AUDIO_RPn_STATUS_STATE n) 1).trans (State.put_regsOutside _ (Fld.AUDIO_RPn_STATUS_PLAYED n) 0)

theorem State.recallStopped_moves : Moves (maskOf [.regs, .audio]) s (s.recallStopped n) :=
  (State.put_moves ..).step (by decide) ((State.setPlayer_moves ..).step (by decide) Moves.refl)

theorem State.recallStarted_moves : Moves (maskOf [.regs, .audio]) s (s.recallStarted n) :=
  (State.put_moves ..).step (by decide) ((State.put_moves ..).step (by decide) ((State.setPlayer_moves ..).step (by decide) Moves.refl))

theorem State.playerStop_eq (s : State) (n cause : Nat) : s.playerStop n cause = (s.recallStopped n).post (bits s.audio.cfg 0 6) 0x08 0x73 n cause := by
  have hcfg : (s.recallStopped n).audio.cfg = s.audio.cfg := by rw [State.recallStopped, State.put_audio, State.setPlayer]
  rw [← hcfg]
  rfl

end Recall

/-! ### The obligation -/

/-- Settles O40: each command is an equation for AUDIO_PROG_CMD or AUDIO_RPn_CMD, and each state it leads to is described by its own lemma. -/
theorem audioCommandsAnswer : Obligations.AudioCommandsAnswer := by
  refine ⟨fun s hsingle hvalid => ⟨fun hbusy x hx hw => ?busy, fun hidle hwaits => ⟨fun hw => ?load, fun hw hs => ?activate, fun hw hs => ?noProgram, fun hw => ?discard⟩⟩,
    fun q s hq => ⟨fun he => ?passed, fun e detail he => ?failed⟩,
    fun n s hn hsingle => ⟨fun hw hf => ?play, fun hw hf => ?unfrozen, fun hw hp => ?stop, fun hw hp => ?stopped⟩⟩
  case busy =>
    obtain ⟨hexec, hop⟩ : exec x.1 s = .next (s.progCmdWrite (BitVec.ofNat 32 x.2)) ∧ bits (BitVec.ofNat 32 x.2) 0 4 = x.2 := by
      simp only [List.mem_cons, List.not_mem_nil, or_false] at hx
      rcases hx with rfl | rfl | rfl <;> exact ⟨rfl, rfl⟩
    refine ⟨_, hexec, ?_⟩
    rw [State.progCmdWrite_busy ⟨hw, hvalid, hsingle⟩ hbusy, hop]
    exact s.progStart_rejected x.2 .busy
  case load =>
    obtain ⟨hresult, hdata, hregs⟩ := s.loadBegun_reports s.progStart.loadNamed
    refine ⟨_, _, congrArg Host.Outcome.next (State.progCmdWrite_load hidle hwaits ⟨hw, hvalid, hsingle⟩), hresult, hdata, ⟨?_, s.progStart.loadErr_misaligned⟩, hregs,
      s.loadBegun_changesOnly _⟩
    rw [← s.loadNamed_progStart]
    rfl
  case activate =>
    have haudio := s.activationAt_audio (s.ltick + 1)
    obtain ⟨heffect, hposted, hregs⟩ := s.activationAt_reports (s.ltick + 1)
    exact ⟨_, congrArg Host.Outcome.next (State.progCmdWrite_activate hidle hwaits ⟨hw, hvalid, hsingle⟩ hs), by rw [haudio], heffect, hposted,
      by rw [haudio], by rw [haudio], hregs, s.activationAt_changesOnly _⟩
  case noProgram =>
    exact ⟨_, congrArg Host.Outcome.next (State.progCmdWrite_noProgram hidle ⟨hw, hvalid, hsingle⟩ hs), s.progStart_rejected 2 .state⟩
  case discard =>
    have haudio := s.shadowEmptied_audio
    obtain ⟨hid, hposted, hregs⟩ := s.shadowEmptied_reports
    exact ⟨_, congrArg Host.Outcome.next (State.progCmdWrite_discard hidle hwaits ⟨hw, hvalid, hsingle⟩), by rw [haudio], by rw [haudio], hid,
      hposted, hregs, s.shadowEmptied_changesOnly⟩
  case passed =>
    obtain ⟨hposted, hid, hregs⟩ := s.loadPassed_reports q
    exact ⟨_, exec_progLoadDone_passed hq he, hposted, s.loadPassed_audio q, hid, hregs, s.loadPassed_changesOnly q⟩
  case failed => exact ⟨_, exec_progLoadDone_failed hq he, s.loadFailed_reports ..⟩
  case play =>
    obtain ⟨hstate, hplayed⟩ := s.recallStarted_status (n := n)
    exact ⟨_, (exec_recallPlay hn).trans (congrArg Host.Outcome.next (State.playerCmdWrite_play hsingle hw hf)), (State.recallStarted_player n).trans (if_pos rfl),
      fun m hm => (State.recallStarted_player m).trans (if_neg hm), hstate, hplayed, State.recallStarted_regsOutside, State.recallStarted_moves.only rfl⟩
  case unfrozen => exact (exec_recallPlay hn).trans (congrArg Host.Outcome.next (State.playerCmdWrite_unfrozen hsingle hw (Decidable.not_not.1 hf)))
  case stop =>
    refine ⟨s.recallStopped n, (exec_recallStop hn).trans (congrArg Host.Outcome.next ?_), (State.recallStopped_player n).trans (if_pos rfl),
      fun m hm => (State.recallStopped_player m).trans (if_neg hm), State.recallStopped_status, State.recallStopped_regsOutside, State.recallStopped_moves.only rfl⟩
    rw [State.playerCmdWrite_stop hsingle hw, if_pos hp, State.playerStop_eq]
  case stopped =>
    rw [exec_recallStop hn, State.playerCmdWrite_stop hsingle hw, if_neg (Bool.eq_false_iff.1 hp)]

end Sys2Proof.Machine
end
